-- ==== Sys2Proof/Word.lean ====
section
/-!
DEFINITION. The words of the WZ4860 model: bytes, register words, binary32 bit patterns, and the small fixed sets of names
that commands carry (who accesses a register, which kind of reset). Nothing here computes.
-/

namespace Sys2Proof

/-- One byte of memory or of a frame. -/
abbrev Byte := BitVec 8

/-- One 32-bit register word (00_scope, "Registers are 32 bits wide"). -/
abbrev Word := BitVec 32

/-- A binary32 bit pattern. The operations on it are in `Sys2Proof.Machine.F32`. -/
abbrev F32 := BitVec 32

/-- Who makes an access: the Writer column of every register table (R4) and `SYS_VIOL_INFO.REQ` (R23). -/
inductive Req where
  /-- the Yoke (voted) -/
  | y
  /-- the Sheepdog -/
  | s
  /-- the Innkeeper -/
  | i
  /-- the debug port (R471) -/
  | d
  deriving DecidableEq, Repr

/-- The three fault classes of R308. -/
inductive Cls where
  | ride
  | stallSafe
  | deviceSafe
  deriving DecidableEq, Repr

/-- How one access met the address map and the access rights: the response of the register bus (R4, R23). -/
structure Resp where
  /-- 1: the access completed with an error response -/
  err  : Bool
  /-- the data a read returned -/
  data : BitVec 64
  deriving DecidableEq, Repr

/-- What a Yoke core presents to the voter (R350, R355). -/
inductive TxnKind where
  | read
  | write
  | sig
  deriving DecidableEq, Repr

/-- One transaction of a Yoke core: kind, address, size in bytes, and for a write or a signature its data. -/
structure Txn where
  kind : TxnKind
  addr : BitVec 40
  size : BitVec 3
  data : BitVec 32
  deriving DecidableEq, Repr

/-- One failing bit or test point that a self-test run finds (R466): domain, group, element, bit, word address or test point. -/
structure BistFail where
  dom  : BitVec 4
  grp  : BitVec 4
  elem : BitVec 4
  bit  : BitVec 7
  addr : BitVec 32
  deriving DecidableEq, Repr

end Sys2Proof
end

