-- ==== Sys2Proof/Syntax.lean ====
section
/-!
DEFINITION. The commands of the block: one constructor for each row of spec/opcode_table.json, in the table's order. The table
gives its rows no operand fields; the operands here are what the row's rule says comes from outside the block (a level, a
measured code, a frame, a sample) or names the addressed unit (a Stall, a link, a controller).
-/

namespace Sys2Proof

inductive Instr where
  /-- REGISTER_WRITE (R4): A processor or the debug port writes a register field that has no row of its own; the writer, access, condition and range checks of R4, R44, R526 and R528 decide what is written. Operands: `who`: the requester; `a`: the address; `v`: the word written. -/
  | registerWrite (who : Req) (a : BitVec 40) (v : BitVec 32)
  /-- ACCESS_VIOLATION (R23): An access outside the rights of R22, or to a reserved address, completes with an error response, is counted and may be captured. Operands: `who`: the requester; `a`: the address; `write`: a write, not a read. -/
  | accessViolation (who : Req) (a : BitVec 40) (write : Bool)
  /-- VOTED_SRAM_READ (R24): A voted read of the Yoke SRAM returns the majority word, or 0 with an error response when all three copies differ. Operands: `a`: word of the Yoke SRAM. -/
  | votedSramRead (a : BitVec 18)
  /-- WIDE_WORD_HOLD (R47): A write to a lower word of a value wider than 32 bits is held until the highest word is written. Operands: `who`: the requester; `a`: the address; `v`: the word written. -/
  | wideWordHold (who : Req) (a : BitVec 40) (v : BitVec 32)
  /-- WIDE_WORD_APPLY (R47): A write to the highest word of a wide value applies all held words at once. Operands: `who`: the requester; `a`: the address; `v`: the word written. -/
  | wideWordApply (who : Req) (a : BitVec 40) (v : BitVec 32)
  /-- WIDE_READ_SNAPSHOT (R47): A read of the lowest word of a wide value snapshots the other words for the reading processor. Operands: `who`: the requester; `a`: the address. -/
  | wideReadSnapshot (who : Req) (a : BitVec 40)
  /-- ABORT (R9): Code 0xFF written to a command register aborts the running command, or reads back REFUSED when none runs. Operands: `who`: the requester; `a`: the address. -/
  | abort (who : Req) (a : BitVec 40)
  /-- COMMAND_CLEAR (R10): Code 0x00 written to a command register that is not BUSY returns it to IDLE. Operands: `who`: the requester; `a`: the address. -/
  | commandClear (who : Req) (a : BitVec 40)
  /-- UNLISTED_COMMAND (R527): A code that is unlisted, or not allowed to the writer, starts nothing and reads back REFUSED. Operands: `who`: the requester; `a`: the address; `code`: the code written. -/
  | unlistedCommand (who : Req) (a : BitVec 40) (code : BitVec 8)
  /-- XTAL_LOST (R58): The crystal is declared lost, either after 1 us without an edge or on a frequency check outside 25 MHz plus or minus 12 %, and the tick moves to the RC oscillator. -/
  | xtalLost
  /-- FINE_COARSE (R62): Calibration cannot hold a placer within one fine step, so that placer places its edges on whole ticks. Operands: `k`: the placer group: 0 to 3 a Stall, 4 the AUX units; `err`: delay-line error, 1/16 fine step, two's complement. -/
  | fineCoarse (k : Fin 5) (err : BitVec 8)
  /-- FINE_RETURN (R62): After 1 ms of calibration within half a fine step, the placer returns to fine placement. Operands: `k`: the placer group: 0 to 3 a Stall, 4 the AUX units; `err`: delay-line error, 1/16 fine step, two's complement. -/
  | fineReturn (k : Fin 5) (err : BitVec 8)
  /-- SYNC_OUT_PULSE (R69): A leader drives SYNC_OUT high for 8 ticks when TB_NOW bits [15:0] are 0. -/
  | syncOutPulse
  /-- SYNC_IN_PULSE (R70): A follower measures a SYNC_IN edge against its own timebase and steers its tick rate. Operands: `fine`: the fine step within the present tick (R60). -/
  | syncInPulse (fine : Fin 64)
  /-- SYNC_LOST (R71): Three missing or out-of-window pulses end the lock, and the follower runs free. Operands: `missing`: pulses missed. -/
  | syncLost (missing : BitVec 2)
  /-- LOCK (R72): TB_SYNC_CMD LOCK is checked and then waits to load TB_EPOCH at the next SYNC_IN pulse. -/
  | lock
  /-- EPOCH_LOAD (R72): At the SYNC_IN pulse after a LOCK, the device loads TB_NOW or ends the command FAILED. -/
  | epochLoad
  /-- RELEASE (R72): TB_SYNC_CMD RELEASE sets MODE to 0 and keeps the present count and steering. -/
  | release
  /-- SLACK_MIN_WRITE (R66): A write to LOOP_SLACK_MIN sets or restarts the record, and a smaller slack recorded at the same moment stands. Operands: `n`: the Stall; `v`: the value written. -/
  | slackMinWrite (n : Fin 4) (v : BitVec 24)
  /-- SEL_LOAD (R77): 100 ns before each trigger, the active SENSE_Cc_SEL loads, the multiplexer switches and tracking begins. Operands: `n`: the Stall. -/
  | selLoad (n : Fin 4)
  /-- LOAD_INSTANT (R205): At a sampling instant the common trigger fires, the holds close, the shadows due there load and the gate profiles are chosen. Operands: `n`: the Stall; `peak`: the peak, not the zero; `fine`: the fine step within the present tick (R60); `bits`: of each modulator input, the last 768 bits sampled before the instant, bit 0 the newest. -/
  | loadInstant (n : Fin 4) (peak : Bool) (fine : Fin 64) (bits : List (BitVec 768))
  /-- CARRIER_ZERO (R203): A Stall carrier reaches a zero and a new carrier period begins; PWM_PER, coherent loads and trip releases are handled. Operands: `n`: the Stall; `fine`: the fine step within the present tick (R60). -/
  | carrierZero (n : Fin 4) (fine : Fin 64)
  /-- CONVERSION_DONE (R80): A primary conversion completes, and its corrected value is delivered to the loop engine pair. Operands: `n`: the Stall; `c`: the converter; `raw`: the raw code. -/
  | conversionDone (n : Fin 4) (c : Fin 4) (raw : BitVec 16)
  /-- CHECK_CONVERSION_DONE (R93): A check conversion completes, and the cross-check compares the pair. Operands: `n`: the Stall; `c`: the converter; `raw`: the raw code of the check hold. -/
  | checkConversionDone (n : Fin 4) (c : Fin 4) (raw : BitVec 16)
  /-- MOD_CTRL_WRITE (R82): A write to MOD_CTRL enables or disables inputs and clears their filters, subject to the EN restrictions. Operands: `n`: the Stall; `w`: the word written. -/
  | modCtrlWrite (n : Fin 4) (w : BitVec 32)
  /-- MOD_FILTER_FILLED (R83): A main or fast filter has taken its 3 x D or 2 x K bits, and its VALID sets. Operands: `n`: the Stall; `i`: the modulator input; `fast`: the fast filter, not the main one; `bits`: the last 768 bits sampled, bit 0 the newest. -/
  | modFilterFilled (n : Fin 4) (i : Fin 6) (fast : Bool) (bits : BitVec 768)
  /-- EV_MOD_CLIP (R84): At the onset of main-filter saturation, the input's CLIP_SEEN is set. Operands: `n`: the Stall; `x`: the modulator input, and its last 769 bits sampled, bit 0 the newest. -/
  | evModClip (n : Fin 4) (x : Fin 6 × BitVec 769)
  /-- MOD_STUCK (R86): STUCK_N consecutive equal bits make an input stuck. Operands: `n`: the Stall; `x`: the modulator input, and its last 1,023 bits sampled, bit 0 the newest. -/
  | modStuck (n : Fin 4) (x : Fin 6 × BitVec 1023)
  /-- MOD_UNSTUCK (R86): After 4 x D clocks without a stuck run, the input becomes valid again. Operands: `n`: the Stall; `i`: the modulator input. -/
  | modUnstuck (n : Fin 4) (i : Fin 6)
  /-- CONVERTER_CHECK_START (R95): A requested converter check starts at the next trigger, and the converter goes out of service. Operands: `n`: the Stall. -/
  | converterCheckStart (n : Fin 4)
  /-- CONVERTER_CHECK_DONE (R95): A converter check ends, and the converter either returns to service or fails. Operands: `n`: the Stall; `devs`: deviation of each of the five means from its factory value, 1/16 LSB, two's complement; `spreads`: the five spreads, LSB. -/
  | converterCheckDone (n : Fin 4) (devs : List (BitVec 20)) (spreads : List (BitVec 20))
  /-- SPARE_CHECK_DONE (R97): The spare converter's own check ends, and the spare either takes the failed position or fails. Operands: `devs`: deviation of each of the five means from its factory value, 1/16 LSB, two's complement; `spreads`: the five spreads, LSB. -/
  | spareCheckDone (devs : List (BitVec 20)) (spreads : List (BitVec 20))
  /-- PATH_RETURN (R99): After 1,024 passing periods, a latched slot returns to the converter path. Operands: `n`: the Stall; `q`: the quantity slot. -/
  | pathReturn (n : Fin 4) (q : Fin 8)
  /-- CAL_RUN (R104): SENSE_CAL_CMD RUN is checked, and the calibration waits for zero input. Operands: `n`: the Stall. -/
  | calRun (n : Fin 4)
  /-- ZERO_APPLIED (R105): SENSE_CAL_STEP 1 starts the zero capture. Operands: `n`: the Stall. -/
  | zeroApplied (n : Fin 4)
  /-- FULL_APPLIED (R105): SENSE_CAL_STEP 2 starts the full capture. Operands: `n`: the Stall. -/
  | fullApplied (n : Fin 4)
  /-- CAPTURE_DONE (R105): A capture completes; the full capture then leads to the computation and checks. Operands: `n`: the Stall; `means`: mean of FG x raw + FO of each calibration channel, 1/16 LSB, two's complement; `spreads`: spread of each calibration channel, LSB. -/
  | captureDone (n : Fin 4) (means : List (BitVec 24)) (spreads : List (BitVec 20))
  /-- CAL_WAIT_TIMEOUT (R107): A wait longer than 60 s ends the run FAILED with ERR 0x01. Operands: `n`: the Stall. -/
  | calWaitTimeout (n : Fin 4)
  /-- CAL_COMMIT_DONE (R108): The closing sequence word of the new record is written, and the new UG and UO values load. Operands: `n`: the Stall; `good`: the closing sequence word is written. -/
  | calCommitDone (n : Fin 4) (good : Bool)
  /-- MON_ENABLE (R123): A write of MON_Mm_CFG.EN 1 starts the monitor unresolved. Operands: `n`: the Stall; `m`: the monitor. -/
  | monEnable (n : Fin 4) (m : Fin 12)
  /-- MON_DISABLE (R123): A write of MON_Mm_CFG.EN 0 stops the monitor and clears LATCHED. Operands: `n`: the Stall; `m`: the monitor. -/
  | monDisable (n : Fin 4) (m : Fin 12)
  /-- MON_THR_LOAD (R112): While the carrier is stopped, the active thresholds load at the monitor's first sampling instant after the write. Operands: `n`: the Stall; `m`: the monitor. -/
  | monThrLoad (n : Fin 4) (m : Fin 12)
  /-- EV_MON_RESOLVED (R115): A run of M clear samples resolves the monitor. Operands: `n`: the Stall; `m`: the monitor; `samples`: the monitor's samples since the last ones handed over, oldest first, the last one at this event: the pin's code, or the last 64 bits of the modulator input, bit 0 the newest. -/
  | evMonResolved (n : Fin 4) (m : Fin 12) (samples : List (BitVec 64))
  /-- MON_FILTER_ASSERT (R117): The majority filter output asserts on the N-th outside sample, and LATCHED, RISE and TRIPS follow. Operands: `n`: the Stall; `m`: the monitor; `samples`: the monitor's samples since the last ones handed over, oldest first, the last one at this event: the pin's code, or the last 64 bits of the modulator input, bit 0 the newest. -/
  | monFilterAssert (n : Fin 4) (m : Fin 12) (samples : List (BitVec 64))
  /-- MON_FILTER_DEASSERT (R116): The filter output deasserts, FALL is set and LATCHED follows its latch mode. Operands: `n`: the Stall; `m`: the monitor; `samples`: the monitor's samples since the last ones handed over, oldest first, the last one at this event: the pin's code, or the last 64 bits of the modulator input, bit 0 the newest. -/
  | monFilterDeassert (n : Fin 4) (m : Fin 12) (samples : List (BitVec 64))
  /-- MON_LATCH_CLEAR (R116): A W1C write to LATCHED clears it if the filter output is deasserted. Operands: `n`: the Stall; `m`: the monitor. -/
  | monLatchClear (n : Fin 4) (m : Fin 12)
  /-- MON_HARD_ASSERT (R118): The hard output asserts after HN + 1 samples beyond HHI or HLO, and is sent to the protection block. Operands: `n`: the Stall; `m`: the monitor; `samples`: the monitor's samples since the last ones handed over, oldest first, the last one at this event: the pin's code, or the last 64 bits of the modulator input, bit 0 the newest. -/
  | monHardAssert (n : Fin 4) (m : Fin 12) (samples : List (BitVec 64))
  /-- MON_HARD_DEASSERT (R118): The hard output deasserts at the first sample that is not beyond HHI or HLO. Operands: `n`: the Stall; `m`: the monitor; `samples`: the monitor's samples since the last ones handed over, oldest first, the last one at this event: the pin's code, or the last 64 bits of the modulator input, bit 0 the newest. -/
  | monHardDeassert (n : Fin 4) (m : Fin 12) (samples : List (BitVec 64))
  /-- POS_ENABLE (R130): A write of POS_CTRL.EN 1 is checked against the combination rules, and the port starts or CFG_ERR sets. Operands: `n`: the Stall. -/
  | posEnable (n : Fin 4)
  /-- POS_DISABLE (R130): A write of POS_CTRL.EN 0 stops the port, unless the loop engines run. Operands: `n`: the Stall. -/
  | posDisable (n : Fin 4)
  /-- POS_INTERNAL_INSTANT (R132): While the carrier does not run, the port latches its values every 2,000 ticks as at a trigger. Operands: `n`: the Stall. -/
  | posInternalInstant (n : Fin 4)
  /-- RES_UPDATE (R135): Every excitation period / 16, the envelopes are computed and the tracking observer updates. Operands: `n`: the Stall; `sinW`: the 64 samples of the sine input over the last full excitation period, input LSB, two's complement, 16 bits each, the oldest lowest; `cosW`: those of the cosine input; `clip`: an input clipped; `phase`: the measured winding delay, ticks. -/
  | resUpdate (n : Fin 4) (sinW : BitVec 1024) (cosW : BitVec 1024) (clip : Bool) (phase : BitVec 16)
  /-- EXC_FAULT (R134): An open or shorted excitation output sets EXC_FAULT and fails the sensor. Operands: `n`: the Stall. -/
  | excFault (n : Fin 4)
  /-- ENCODER_EDGE (R139): An accepted A or B level change counts a quadrature edge and updates the speed. Operands: `n`: the Stall; `a`: accepted level of A after the change; `b`: accepted level of B after the change. -/
  | encoderEdge (n : Fin 4) (a : Bool) (b : Bool)
  /-- ENCODER_LOSS (R140): An A or B amplitude below the loss threshold for 1 us fails the encoder and sets LOS_SEEN. Operands: `n`: the Stall. -/
  | encoderLoss (n : Fin 4)
  /-- INDEX (R143): An accepted index edge either homes the encoder or is judged by its deviation. Operands: `n`: the Stall. -/
  | index (n : Fin 4)
  /-- HALL_EDGE (R147): A filtered change between valid Hall codes gives a Hall angle, the speed and the cross-check. Operands: `n`: the Stall; `code`: the filtered code, H2 H1 H0. -/
  | hallEdge (n : Fin 4) (code : BitVec 3)
  /-- EV_HALL_ILLEGAL (R148): An illegal Hall code appears; the last valid code is held and the code is counted. Operands: `n`: the Stall. -/
  | evHallIllegal (n : Fin 4)
  /-- HALL_ILLEGAL_TIMEOUT (R148): An illegal code that persists for ILL_TO raises POS cause 0x07. Operands: `n`: the Stall. -/
  | hallIllegalTimeout (n : Fin 4)
  /-- SSI_FRAME (R151): An SSI frame is received whole and is judged, then delivered or discarded. Operands: `n`: the Stall; `raw`: the frame's bits, right-aligned. -/
  | ssiFrame (n : Fin 4) (raw : BitVec 32)
  /-- SENT_FRAME (R154): A SENT frame is decoded and either accepted into SENT_FAST or rejected and counted. Operands: `n`: the Stall; `sync`: length of the sync pulse, ticks; `widths`: widths of the status, data and CRC nibbles, SENT ticks; `pause`: width of the pause pulse, SENT ticks; `age`: ticks since the sync pulse's falling edge. -/
  | sentFrame (n : Fin 4) (sync : BitVec 24) (widths : List (BitVec 16)) (pause : Option (BitVec 16)) (age : BitVec 32)
  /-- SENT_TIMEOUT (R155): No accepted frame for TO us sets LOST and raises POS cause 0x10. Operands: `n`: the Stall. -/
  | sentTimeout (n : Fin 4)
  /-- TRAVEL_PRESET (R158): A write of POS_TRAVEL_HI applies the held travel preset. Operands: `n`: the Stall; `hi`: the word written. -/
  | travelPreset (n : Fin 4) (hi : BitVec 32)
  /-- PROBE_EDGE (R159): An accepted probe edge latches the time, angle and travel, or counts a miss. Operands: `n`: the Stall; `rising`: a rising edge. -/
  | probeEdge (n : Fin 4) (rising : Bool)
  /-- PROBE_REARM (R159): A W1C clear of FULL re-arms the probe latch. Operands: `n`: the Stall. -/
  | probeRearm (n : Fin 4)
  /-- STILL_TIMEOUT (R160): No edge for STILL_TO, or low speed for STILL_TO, puts the speed into standstill. Operands: `n`: the Stall. -/
  | stillTimeout (n : Fin 4)
  /-- BEMF_QUAL_SET (R164): After 256 qualifying periods, the back-EMF observer's QUAL sets. Operands: `n`: the Stall. -/
  | bemfQualSet (n : Fin 4)
  /-- BEMF_QUAL_CLEAR (R164): After 16 failing periods, the observer's QUAL clears; an observer in use is then lost. Operands: `n`: the Stall. -/
  | bemfQualClear (n : Fin 4)
  /-- LOOP_START (R172): LOOP_CMD START is checked, and the engines begin at the next trigger. Operands: `n`: the Stall. -/
  | loopStart (n : Fin 4)
  /-- LOOP_STOP (R173): LOOP_CMD STOP stops the engines after the period in progress. Operands: `n`: the Stall. -/
  | loopStop (n : Fin 4)
  /-- PSET (R186): LOOP_CMD PSET checks the other bank and arms the bank switch. Operands: `n`: the Stall. -/
  | pset (n : Fin 4)
  /-- EV_PSET (R186): The active bank switches at the next trigger, or at once when the engines are stopped. Operands: `n`: the Stall. -/
  | evPset (n : Fin 4)
  /-- REFERENCE_APPLY (R176): A write of LOOP_A_REF applies the 128-bit reference group. Operands: `n`: the Stall; `w`: the word written. -/
  | referenceApply (n : Fin 4) (w : BitVec 32)
  /-- LOOP_PERIOD_DONE (R175): The engine pair completes the stage sequence, compares its results, saves the checkpoint and writes the shadows and selects. Operands: `n`: the Stall; `mismatch`: the two engines in service differ; `shadow`: the shadow engine agrees with the pair. -/
  | loopPeriodDone (n : Fin 4) (mismatch : Bool) (shadow : Bool)
  /-- LATE_PERIOD (R67): The deadline passes without an on-time result, or the next trigger abandons a computation, and the period is handled as late. Operands: `n`: the Stall. -/
  | latePeriod (n : Fin 4)
  /-- RECOVERY_DONE (R195): The recomputation and vote end in one of six outcomes, and the result loads at the deadline or mid-period. Operands: `n`: the Stall; `ab`: recomputed results of A and B agree; `ar`: A and Remount agree; `br`: B and Remount agree. -/
  | recoveryDone (n : Fin 4) (ab : Bool) (ar : Bool) (br : Bool)
  /-- EV_ENGINE_REJOIN (R196): After N agreeing periods the shadow engine rejoins and the Remount is released. Operands: `n`: the Stall. -/
  | evEngineRejoin (n : Fin 4)
  /-- FERR_TIMEOUT (R189): The following-error timer reaches FERR_T and LOOP cause 0x21 is raised. Operands: `n`: the Stall. -/
  | ferrTimeout (n : Fin 4)
  /-- PWM_START (R215): PWM_CMD START is checked, and the Stall enters the starting state. Operands: `n`: the Stall. -/
  | pwmStart (n : Fin 4)
  /-- EV_PWM_START (R215): At the first zero, every shadow loads and the Stall is switching. Operands: `n`: the Stall; `fine`: the fine step within the present tick (R60). -/
  | evPwmStart (n : Fin 4) (fine : Fin 64)
  /-- PWM_STOP (R216): PWM_CMD STOP turns every line off, stops the carrier and sets the stopped state. Operands: `n`: the Stall. -/
  | pwmStop (n : Fin 4)
  /-- TRIP_CLEAR (R227): PWM_CMD 0x11 to 0x1F clears the named trip latches, unless an input still asserts. Operands: `n`: the Stall; `mask`: bits [3:0] of the code. -/
  | tripClear (n : Fin 4) (mask : BitVec 4)
  /-- ARM (R212): A write of 1 to PWM_LOAD_ARM.ARM arms the coherent load. Operands: `n`: the Stall. -/
  | arm (n : Fin 4)
  /-- COMPARE_EDGE (R206): The carrier reaches a compare, and the reference signal changes: the outgoing line turns off and dead time starts. Operands: `n`: the Stall; `h`: the half-bridge; `on`: the level the reference signal takes; `fine`: the fine step within the present tick (R60). -/
  | compareEdge (n : Fin 4) (h : Fin 3) (on : Bool) (fine : Fin 64)
  /-- DEAD_TIME_END (R208): The dead time runs out, and the incoming line turns on under the floor, the interlock and the minimum pulse. Operands: `n`: the Stall; `h`: the half-bridge; `fine`: the fine step within the present tick (R60). -/
  | deadTimeEnd (n : Fin 4) (h : Fin 3) (fine : Fin 64)
  /-- MINP_END (R210): An interval reaches MINP, and a delayed edge or a re-judged removal or bridge takes effect. Operands: `n`: the Stall; `i`: the line, in the bit order of ON_SRC; `fine`: the fine step within the present tick (R60). -/
  | minpEnd (n : Fin 4) (i : Fin 6) (fine : Fin 64)
  /-- TRIP_ASSERT (R530): A trip input asserts anew and is judged: it forces its level or, when blanked, is held pending. Operands: `n`: the Stall; `j`: the trip input; `fine`: the fine step within the present tick (R60). -/
  | tripAssert (n : Fin 4) (j : Fin 4) (fine : Fin 64)
  /-- TRIP_JUDGE (R229): At the end of the blanking union, or 20 us after assertion, a pending trip either forces or is dropped. Operands: `n`: the Stall; `j`: the trip input; `fine`: the fine step within the present tick (R60). -/
  | tripJudge (n : Fin 4) (j : Fin 4) (fine : Fin 64)
  /-- COHERENT_LOAD (R220): AUX_COH_CMD LOAD sets the common boundary for the masked Stalls. -/
  | coherentLoad
  /-- REF_CARRIER_ENABLE (R218): A write of AUX_REF_CTRL.EN 1 starts the reference carrier at least 64 ticks later. -/
  | refCarrierEnable
  /-- REF_CARRIER_DISABLE (R218): A write of AUX_REF_CTRL.EN 0 stops the reference carrier, if no locked Stall is switching. -/
  | refCarrierDisable
  /-- REFERENCE_ZERO (R219): The reference carrier reaches a zero, and a coherent-load boundary may fall there. Operands: `fine`: the fine step within the present tick (R60). -/
  | referenceZero (fine : Fin 64)
  /-- AUX_ENABLE (R236): A write of AUX_Ak_CTRL.EN 1 places the unit's first zero at least 64 ticks later. Operands: `k`: the AUX unit. -/
  | auxEnable (k : Fin 2)
  /-- AUX_DISABLE (R236): A write of AUX_Ak_CTRL.EN 0 turns the unit's line off at once. Operands: `k`: the AUX unit. -/
  | auxDisable (k : Fin 2)
  /-- AUX_ZERO (R236): An AUX carrier reaches a zero, its shadows load and its line turns on. Operands: `k`: the AUX unit; `fine`: the fine step within the present tick (R60). -/
  | auxZero (k : Fin 2) (fine : Fin 64)
  /-- AUX_ON_TIME_END (R236): The AUX line's on-time ends, and the line turns off. Operands: `k`: the AUX unit; `fine`: the fine step within the present tick (R60). -/
  | auxOnTimeEnd (k : Fin 2) (fine : Fin 64)
  /-- EV_AUX_DEMAND (R237): A demand starts, and the unit starts a new period with the demand's on-time. Operands: `k`: the AUX unit. -/
  | evAuxDemand (k : Fin 2)
  /-- DEMAND_END (R237): A demand ends, and the unit returns to its software on-time or turns off. Operands: `k`: the AUX unit. -/
  | demandEnd (k : Fin 2)
  /-- AUX_EN_FALL (R237): AUX_EN goes low, and both AUX lines are held off. -/
  | auxEnFall
  /-- AUX_EN_RISE (R259): AUX_EN rises after a low, and CLEAR is sent to Rein 12 and 13 if they are in FAULT. -/
  | auxEnRise
  /-- HEARTBEAT (R249): After 20 us without a downlink frame, a HEARTBEAT is sent. Operands: `l`: the Rein link: 0 to 11 in the Stalls, 12 and 13 in the AUX block. -/
  | heartbeat (l : Fin 14)
  /-- DOWNLINK_ACCESS_FRAME (R249): A queued WRITE, READ or CLEAR frame starts in free downlink time. Operands: `l`: the Rein link: 0 to 11 in the Stalls, 12 and 13 in the AUX block. -/
  | downlinkAccessFrame (l : Fin 14)
  /-- STATUS_FRAME (R253): A valid uplink STATUS frame updates flags, delays, samples and echo, and drives the link state. Operands: `l`: the Rein link: 0 to 11 in the Stalls, 12 and 13 in the AUX block; `h`: the frame's first 8 bits after its start bit, type and `SEQ`; `w`: the 80 bits of payload, then the CRC; in each the first bit sent is the highest. -/
  | statusFrame (l : Fin 14) (h : BitVec 8) (w : BitVec 88)
  /-- REPLY_FRAME (R252): A valid REPLY frame answers a driver access or a training step. Operands: `l`: the Rein link: 0 to 11 in the Stalls, 12 and 13 in the AUX block; `h`: the frame's first 8 bits after its start bit, type and `SEQ`; `w`: the 80 bits of payload, then the CRC; in each the first bit sent is the highest. -/
  | replyFrame (l : Fin 14) (h : BitVec 8) (w : BitVec 88)
  /-- UPLINK_FRAME_ERROR (R246): An uplink frame with a CRC or format error is discarded and counted. Operands: `l`: the Rein link: 0 to 11 in the Stalls, 12 and 13 in the AUX block; `halves`: the levels of the line in the two halves of each of the 96 bits between the start and the stop bit, first sent highest. -/
  | uplinkFrameError (l : Fin 14) (halves : BitVec 192)
  /-- FAULT_PATTERN (R256): UP has been low without a transition for 160 ns; the fault pattern goes to the power-stage fault latch. Operands: `l`: the Rein link: 0 to 11 in the Stalls, 12 and 13 in the AUX block. -/
  | faultPattern (l : Fin 14)
  /-- UPLINK_SILENCE (R258): 1 us without a transition on UP declares link loss. Operands: `l`: the Rein link: 0 to 11 in the Stalls, 12 and 13 in the AUX block. -/
  | uplinkSilence (l : Fin 14)
  /-- NO_FRAME_TIMEOUT (R258): 6 us without a valid frame declares link loss. Operands: `l`: the Rein link: 0 to 11 in the Stalls, 12 and 13 in the AUX block. -/
  | noFrameTimeout (l : Fin 14)
  /-- REIN_START (R267): REIN_CMD START trains every link that is not ready. Operands: `g`: the group of links: 0 to 3 a Stall, 4 the AUX block. -/
  | reinStart (g : Fin 5)
  /-- TRAIN_LOCK_TIMEOUT (R267): A link that has not locked within 200 us fails training with TRAIN 1. Operands: `l`: the Rein link: 0 to 11 in the Stalls, 12 and 13 in the AUX block; `swapped`: the uplink decodes only with P and N exchanged. -/
  | trainLockTimeout (l : Fin 14) (swapped : Bool)
  /-- REIN_STOP (R268): REIN_CMD STOP sets every link of the Stall to OFF. Operands: `g`: the group of links: 0 to 3 a Stall, 4 the AUX block. -/
  | reinStop (g : Fin 5)
  /-- SEND (R269): REIN_Lh_ACC_CMD SEND queues a driver WRITE or READ. Operands: `l`: the Rein link: 0 to 11 in the Stalls, 12 and 13 in the AUX block. -/
  | send (l : Fin 14)
  /-- ACCESS_TIMEOUT (R269): No reply within 10 us ends the access FAILED with RESULT 0xF. Operands: `l`: the Rein link: 0 to 11 in the Stalls, 12 and 13 in the AUX block. -/
  | accessTimeout (l : Fin 14)
  /-- SAFE (R274): PROT_CMD SAFE puts a switching Stall into its safe state. Operands: `n`: the Stall. -/
  | safe (n : Fin 4)
  /-- DECISION_WAIT_END (R284): The Rein decision wait ends at the status update or at 3,000 ns, and the row is fixed. Operands: `n`: the Stall; `h`: the half-bridge. -/
  | decisionWaitEnd (n : Fin 4) (h : Fin 3)
  /-- DWELL_EXPIRY (R285): A row change caused only by the speed band applies after DWELL ms. Operands: `n`: the Stall. -/
  | dwellExpiry (n : Fin 4)
  /-- SW_OVR_WRITE (R281): A write to PROT_SW_OVR changes switch statuses and re-evaluates the row. Operands: `n`: the Stall; `v`: the value written. -/
  | swOvrWrite (n : Fin 4) (v : BitVec 12)
  /-- STALL_EN_FALL (R278): STALLn_EN falls: lines off and a switching Stall enters state 3. Operands: `n`: the Stall. -/
  | stallEnFall (n : Fin 4)
  /-- STALL_EN_RISE (R278): STALLn_EN rises, and the fault latch is judged and cleared or kept. Operands: `n`: the Stall. -/
  | stallEnRise (n : Fin 4)
  /-- EV_PSF_CLR_FAIL (R279): 20 us after the rising edge a link is not READY, and the latch sets again with cause 0x38. Operands: `n`: the Stall. -/
  | evPsfClrFail (n : Fin 4)
  /-- PROT_RELEASE (R299): PROT_CMD RELEASE checks the release conditions and waits for the next carrier zero. Operands: `n`: the Stall. -/
  | protRelease (n : Fin 4)
  /-- EV_SAFE_RELEASE (R299): At the next zero the Stall returns to state 2 with compares at P/2. Operands: `n`: the Stall; `fine`: the fine step within the present tick (R60). -/
  | evSafeRelease (n : Fin 4) (fine : Fin 64)
  /-- DISCHARGE_RUN (R290): PROT_DIS_CMD RUN chooses the resistor or winding path, or is refused. Operands: `n`: the Stall. -/
  | dischargeRun (n : Fin 4)
  /-- DIS_REQ (R290): A SAFETY discharge request chooses a path or raises PROT cause 0x41. -/
  | disReq
  /-- EV_DIS_DONE (R292): The discharge monitor reads STATE 3, and the discharge ends DONE. -/
  | evDisDone
  /-- DISCHARGE_TIMEOUT (R292): TMAX passes first, and the discharge ends FAILED with cause 0x40. -/
  | dischargeTimeout
  /-- ENERGY_DECAY (R291): Every 1 ms the resistor energy account decays. -/
  | energyDecay
  /-- TJ_AGE_TIMEOUT (R294): No accepted sample for AGE ms invalidates the junction estimate. Operands: `n`: the Stall; `w`: the switch. -/
  | tjAgeTimeout (n : Fin 4) (w : Fin 6)
  /-- DERATE_TICK (R296): Every 1 ms the derating factor is formed from T_max. Operands: `n`: the Stall. -/
  | derateTick (n : Fin 4)
  /-- SHEEPDOG_CYCLE (R304): Every 100 us the snapshot is taken and the firmware decides torque, functions, safe stop and acknowledgements. Operands: `osc`: cycles of the Sheepdog's RC oscillator in the last cycle; `strap`: the strap code at the balls; `ce`: SRAM errors corrected since the last cycle; `dev`: binary32 deviation of each Stall's computed torque from the exact formula (R313). -/
  | sheepdogCycle (osc : BitVec 16) (strap : BitVec 4) (ce : BitVec 8) (dev : List (BitVec 32))
  /-- KICK (R306): A write to SAFETY_WD_KICK is accepted or raises SAFETY cause 0x01. Operands: `us`: microseconds of the Sheepdog's RC oscillator since the last accepted kick or the start; `value`: the value written. -/
  | kick (us : BitVec 16) (value : BitVec 16)
  /-- WATCHDOG_EXPIRY (R306): No kick by WD_MAX raises cause 0x01, and a watchdog reset follows if WD_RST is 1. -/
  | watchdogExpiry
  /-- SHD_SRAM_UE (R307): An uncorrectable Sheepdog SRAM error raises SAFETY cause 0x03. -/
  | shdSramUe
  /-- DS_REQ (R309): A Sheepdog write to DS_REQ sets the device-safe latch. -/
  | dsReq
  /-- EV_SHD_CMD (R310): A write to SAFETY_STALL_CMD commands or withdraws a Stall's safe state. Operands: `v`: the value written. -/
  | evShdCmd (v : BitVec 8)
  /-- SAFETY_RAISE (R343): A firmware write to SAFETY_RAISE raises a cause in 0x10 to 0x37. Operands: `c`: the value written. -/
  | safetyRaise (c : BitVec 16)
  /-- SAFETY_ACK (R311): SAFETY_ACK_CMD names Stalls for acknowledgement, which the firmware decides within two cycles. Operands: `mask`: bits [3:0] of the code. -/
  | safetyAck (mask : BitVec 4)
  /-- WINDOW_APPLY (R312): A write of SAFETY_TQ_HI_n applies the torque window and restarts its age. Operands: `n`: the Stall; `hi`: the word written. -/
  | windowApply (n : Fin 4) (hi : BitVec 32)
  /-- EV_STO (R318): An STO input falls and passes the glitch filter, and the mapped lines are held off. Operands: `i`: 0 STO_A_L, 1 STO_B_L. -/
  | evSto (i : Fin 2)
  /-- STO_RISE (R320): STO inputs become inactive, and the hold ends when the restart rule allows. Operands: `i`: 0 STO_A_L, 1 STO_B_L. -/
  | stoRise (i : Fin 2)
  /-- EV_STO_DISC (R319): A one-sided STO input for STO_DISC ms latches DISC. -/
  | evStoDisc
  /-- STO_ACK (R320): SAFETY_STO_CMD ACK permits the restart after a hold. -/
  | stoAck
  /-- SS1_RUN (R321): SAFETY_SS1_CMD RUN starts a monitored safe stop. -/
  | ss1Run
  /-- SS1_RESTART (R324): SAFETY_SS1_CMD RESTART withdraws the commands of the held Stalls. -/
  | ss1Restart
  /-- FN_SEL_WRITE (R326): A write to SAFETY_FN_SEL_n selects a set and enables functions from the next cycle. Operands: `n`: the Stall; `v`: the word written. -/
  | fnSelWrite (n : Fin 4) (v : BitVec 32)
  /-- CTC_CLOSE_WRITE (R331): A write to CTC_CTRL.CLOSE commands the contactors closed or open. Operands: `v`: the value written. -/
  | ctcCloseWrite (v : BitVec 4)
  /-- CTC_FORCE_OPEN (R332): An opening request lasting OPEN_DLY ms forces the contactors open. -/
  | ctcForceOpen
  /-- EV_CTC_FAULT (R333): The feedback disagrees with the command after CTC_TFB, or changes while closed. Operands: `fb`: levels of CTCk_FB. -/
  | evCtcFault (fb : BitVec 4)
  /-- DIS_REPEAT (R334): Once per second while latched, a refused SAFETY discharge request is repeated. -/
  | disRepeat
  /-- SEAL (R336): SAFETY_SEAL_CMD SEAL checks and writes a new sealed copy. Operands: `who`: the writer. -/
  | sealCmd (who : Req)
  /-- EV_SEAL_DONE (R337): The seal word is written, and the sealed values load. Operands: `good`: the non-volatile write succeeded. -/
  | evSealDone (good : Bool)
  /-- YOKE_TRANSACTION (R350): The voter compares a transaction across cores and issues it once two agree. Operands: `c`: the core; `t`: the transaction presented; `lag`: retired instructions behind the lead; `ce`: SRAM errors corrected in this core's copy since its last transaction. -/
  | yokeTransaction (c : Fin 3) (t : Txn) (lag : BitVec 16) (ce : BitVec 8)
  /-- VOTE_TIMEOUT (R351): A core fails to present its copy within TMO ticks. -/
  | voteTimeout
  /-- YOKE_SRAM_UE (R352): An uncorrectable error in a core's SRAM copy marks the core or stops the Yoke. Operands: `c`: the core; `a`: offset of the word. -/
  | yokeSramUe (c : Fin 3) (a : BitVec 20)
  /-- SIG_REQ (R355): A store to YOKE_SIG_REQ presents signatures to the voter. Operands: `c`: the core; `digest`: the core's registers, fcsr, mstatus, mepc and PC, as the signature takes them. -/
  | sigReq (c : Fin 3) (digest : BitVec 32)
  /-- INTERRUPT_ENTRY (R356): The voter records K and delivers a pending interrupt to every core after instruction K. Operands: `c`: the core; `digest`: the core's registers, fcsr, mstatus, mepc and PC, as the signature takes them. -/
  | interruptEntry (c : Fin 3) (digest : BitVec 32)
  /-- RESYNC (R358): YOKE_CMD RESYNC starts the state copy to the marked core. -/
  | resync
  /-- AUTO_RESYNC (R358): 1 ms after a mark with AUTO 1, the voter starts a resynchronisation. -/
  | autoResync
  /-- EV_YOKE_RESYNC (R359): The copy ends, the cores drain and are verified, and they restart in three-core operation. Operands: `pause`: length of the pause, ticks; `good`: the three signatures agree. -/
  | evYokeResync (pause : BitVec 16) (good : Bool)
  /-- YOKE_WD_KICK (R362): A voted write to YOKE_WD_KICK is accepted or raises cause 0x20. Operands: `v`: the value written. -/
  | yokeWdKick (v : BitVec 16)
  /-- EV_YOKE_WD (R362): No Yoke kick by MAX raises cause 0x20. -/
  | evYokeWd
  /-- EV_LOCKSTEP_BROKEN (R363): A debug halt breaks lock-step, and Y0 runs alone. Operands: `c`: the core. -/
  | evLockstepBroken (c : Fin 3)
  /-- GRANT_DECISION (R370): The DRAM port falls free, and the Porter grants a Courier, the top-ranked requester or a fairness grant. Operands: `req`: live request lines; `ages`: ticks since each ranked request was raised. -/
  | grantDecision (req : BitVec 8) (ages : List (BitVec 32))
  /-- BURST_DONE (R371): A DRAM burst completes. Operands: `units`: 64-byte units moved; `ce`: corrected errors; `ue`: address of an uncorrectable word. -/
  | burstDone (units : BitVec 3) (ce : BitVec 8) (ue : Option (BitVec 40))
  /-- REFRESH (R368): A refresh interval expires, and the REF Courier refreshes and scrubs the next 64 bytes. Operands: `ce`: corrected errors; `ue`: the first uncorrectable 64-bit word among the 64 bytes, if any. -/
  | refresh (ce : BitVec 8) (ue : Option (Fin 8))
  /-- DRAM_TEMP_READ (R368): Every 1 ms the DRAM temperature sets the refresh interval. Operands: `t`: temperature, signed, 1/16 degree C; none: missing or out of range. -/
  | dramTempRead (t : Option (BitVec 16))
  /-- PORTER_COMMIT (R373): A write of PEND loads the rank and fairness shadows at the next grant decision. -/
  | porterCommit
  /-- ALLOC (R378): CELLAR ALLOC hands out the lowest free cask under the quota, or is refused. Operands: `p`: 0 Yoke, 1 Sheepdog, 2 Innkeeper. -/
  | alloc (p : Fin 3)
  /-- FREE (R378): CELLAR FREE returns an owned cask for zeroing. Operands: `p`: 0 Yoke, 1 Sheepdog, 2 Innkeeper. -/
  | free (p : Fin 3)
  /-- GIVE (R378): CELLAR GIVE moves an owned cask to another user. Operands: `p`: 0 Yoke, 1 Sheepdog, 2 Innkeeper. -/
  | give (p : Fin 3)
  /-- CASK_ZEROED (R377): A freed cask finishes zeroing and becomes available. Operands: `k`: the cask. -/
  | caskZeroed (k : Fin 1024)
  /-- EV_CELLAR_UE (R379): An uncorrectable Cellar read returns an error and raises CELLAR cause 0x01. Operands: `ce`: corrected errors of the access; `ue`: uncorrectable. -/
  | evCellarUe (ce : BitVec 8) (ue : Bool)
  /-- STAGING_FLUSH (R381): A full staging cask, or one partly filled for 10 us, is written to the ring. -/
  | stagingFlush
  /-- TIME_RECORD (R383): Every 1 ms a TIME record is written. -/
  | timeRecord
  /-- STREAM_RECORD_CLOSE (R384): A STREAM record closes at a trigger or after 122 samples. Operands: `n`: the Stall; `c`: the converter; `samples`: raw codes after the oldest, in order; `first`: the oldest one. -/
  | streamRecordClose (n : Fin 4) (c : Fin 4) (samples : List (BitVec 16)) (first : BitVec 16)
  /-- TRIGGER (R388): LOGBOOK_CMD TRIGGER triggers the freeze while capturing. -/
  | trigger
  /-- EV_LOG_FROZEN (R387): After POST ms the ring freezes. -/
  | evLogFrozen
  /-- LOGBOOK_ARM (R388): LOGBOOK_CMD ARM restarts capture from a frozen ring. -/
  | logbookArm
  /-- RAINFLOW_TICK (R394): Every 1 ms the junction estimates feed turning-point extraction and the rainflow count. -/
  | rainflowTick
  /-- LEDGER_AUTO_COMMIT (R402): Every second a snapshot is taken and a commit starts; the ripple and winding bands are added. -/
  | ledgerAutoCommit
  /-- COMMIT (R403): LEDGER_CMD COMMIT starts a commit at once. -/
  | commit
  /-- EV_LEDGER_COMMIT (R402): Word 127 is programmed and verified, so the record is committed. Operands: `good`: word 127 verified; false: a verification mismatch. -/
  | evLedgerCommit (good : Bool)
  /-- LEDGER_LOAD_DONE (R406): The boot load of the newest valid record ends, and LOADED sets. -/
  | ledgerLoadDone
  /-- SET (R409): LEDGER_CAL_CMD SET loads the calendar at the next 32.768 kHz edge. -/
  | calSet
  /-- ALIGN (R409): LEDGER_CAL_CMD ALIGN compares the calendar with 802.1AS time and steps or slews it. -/
  | align
  /-- AUTO_ALIGN (R409): Every 10 s with AUTO 1, the block runs ALIGN itself. -/
  | autoAlign
  /-- VBAK_CHECK (R408): Every second VBAK is measured, and a low reading raises cause 0x12. Operands: `mv`: VBAK, mV. -/
  | vbakCheck (mv : BitVec 16)
  /-- CAN_ENABLE (R414): A write of CAN_CTRL.EN 1 takes the queue casks and integrates on the bus. Operands: `k`: the controller. -/
  | canEnable (k : Fin 4)
  /-- CAN_DISABLE (R414): A write of CAN_CTRL.EN 0 ends the frame, discards the queue and frees the casks. Operands: `k`: the controller. -/
  | canDisable (k : Fin 4)
  /-- CAN_INTEGRATED (R414): 11 recessive bits are seen, and the controller enters error-active. Operands: `k`: the controller. -/
  | canIntegrated (k : Fin 4)
  /-- PUSH (R417): CAN_CMD PUSH copies a frame into the transmit queue. Operands: `k`: the controller. -/
  | push (k : Fin 4)
  /-- FLUSH (R417): CAN_CMD FLUSH ends the unstarted queued frames with result 4. Operands: `k`: the controller; `started`: the head of the queue is on the bus. -/
  | flush (k : Fin 4) (started : Bool)
  /-- RECOVER (R416): CAN_CMD RECOVER starts bus-off recovery. Operands: `k`: the controller. -/
  | recover (k : Fin 4)
  /-- CAN_RECOVERED (R416): After 128 occurrences of 11 recessive bits, bus-off recovery ends. Operands: `k`: the controller. -/
  | canRecovered (k : Fin 4)
  /-- EV_CAN_TX (R418): A one-shot transmission ends, and its result enters the result ring. Operands: `k`: the controller; `result`: 0 sent, 1 arbitration lost, 2 error; `lec`: kind of error, codes of CAN_ERR.LEC; `dataPhase`: the error fell in the data phase; `tdcv`: loop delay measured in this frame, ticks; `age`: ticks since the start of the frame. -/
  | evCanTx (k : Fin 4) (result : Fin 3) (lec : BitVec 3) (dataPhase : Bool) (tdcv : Option (BitVec 7)) (age : BitVec 32)
  /-- EV_CANK_RX (R419): A valid received frame is written as an entry or dropped. Operands: `k`: the controller; `id`: identifier; `flags`: bit 0 XTD, 1 RTR, 2 own frame, 3 FDF, 4 BRS, 5 ESI; `dlc`: data length code; `data`: data bytes; `age`: ticks since the start of the frame. -/
  | evCankRx (k : Fin 4) (id : BitVec 29) (flags : BitVec 8) (dlc : BitVec 4) (data : List Byte) (age : BitVec 32)
  /-- PROTOCOL_EXCEPTION (R415): A recessive res bit makes the controller reintegrate and raise cause 0x06. Operands: `k`: the controller. -/
  | protocolException (k : Fin 4)
  /-- CAN_RX_DOMINANT (R422): CANk_RX dominant for 1 ms raises cause 0x05. Operands: `k`: the controller. -/
  | canRxDominant (k : Fin 4)
  /-- RXQ_ACK (R421): A write of CAN_RXQ_TAIL acknowledges entries. Operands: `k`: the controller; `v`: the value written. -/
  | rxqAck (k : Fin 4) (v : BitVec 10)
  /-- TXR_ACK (R418): A write of CAN_TXR_TAIL acknowledges results. Operands: `k`: the controller; `v`: the value written. -/
  | txrAck (k : Fin 4) (v : BitVec 4)
  /-- ETH_FRAME_RX (R424): A frame received at a port is checked, forwarded or queued for P0, or dropped. Operands: `p`: 0 port P1, 1 port P2; `bytes`: the frame without its FCS; `fcs`: its FCS, the first byte least significant; `age`: ticks since the start-of-frame delimiter. -/
  | ethFrameRx (p : Fin 2) (bytes : List Byte) (fcs : BitVec 32) (age : BitVec 32)
  /-- EV_ETH_RX (R425): A frame is copied into the receive ring when a buffer is free. -/
  | evEthRx
  /-- ETH_RX_RETURN (R425): The Innkeeper advances ETH_RXR_TAIL to return buffers. Operands: `v`: the value written. -/
  | ethRxReturn (v : BitVec 12)
  /-- ETH_TX_QUEUE (R426): The Innkeeper advances ETH_TXR_TAIL, and buffers are copied into transmit casks. Operands: `v`: the value written. -/
  | ethTxQueue (v : BitVec 12)
  /-- ETH_FRAME_TX (R429): A queued frame in an open class is sent when it fits before its gate closes. Operands: `p`: 0 port P1, 1 port P2. -/
  | ethFrameTx (p : Fin 2)
  /-- ETH_TX_AGE_EXPIRY (R426): A frame still queued after ETH_TX_AGE ms is discarded. -/
  | ethTxAgeExpiry
  /-- EV_ETH_LINK (R423): A port link goes up or down. Operands: `p`: 0 port P1, 1 port P2; `up`: the link is up. -/
  | evEthLink (p : Fin 2) (up : Bool)
  /-- SYNC_MESSAGE (R428): A received Sync and Follow_Up steps or steers the 802.1AS time. Operands: `p`: 0 port P1, 1 port P2; `t`: the sender's present 802.1AS time, ns. -/
  | syncMessage (p : Fin 2) (t : BitVec 80)
  /-- SYNC_TRANSMIT (R427): Every 2^SYNC_LOG s, Sync is sent on master ports. -/
  | syncTransmit
  /-- PEER_DELAY_MESSAGE (R427): A peer-delay exchange updates the path delay and AS_CAP. Operands: `p`: 0 port P1, 1 port P2; `delay`: measured path delay, ns; `valid`: the neighbour rate ratio is valid. -/
  | peerDelayMessage (p : Fin 2) (delay : BitVec 32) (valid : Bool)
  /-- SYNC_TIMEOUT (R428): Three Sync intervals without a Sync clear SYNCED. -/
  | syncTimeout
  /-- GM_WRITE (R428): A write of GM 1 starts grandmaster time from the calendar. -/
  | gmWrite
  /-- APPLY (R430): ETH_Pp_GCL_CMD APPLY sets the change time of the administrative list. Operands: `p`: 0 port P1, 1 port P2. -/
  | apply (p : Fin 2)
  /-- EV_GCL_APPLY (R430): At the change time, the new gate list starts. Operands: `p`: 0 port P1, 1 port P2. -/
  | evGclApply (p : Fin 2)
  /-- GATE_ENTRY_END (R430): A gate-list interval expires, and the next entry opens its gates. Operands: `p`: 0 port P1, 1 port P2. -/
  | gateEntryEnd (p : Fin 2)
  /-- DISABLE (R430): ETH_Pp_GCL_CMD DISABLE opens every gate at once. Operands: `p`: 0 port P1, 1 port P2. -/
  | disable (p : Fin 2)
  /-- CHECK (R432): AUTH_CMD CHECK snapshots and checks an authorisation message. -/
  | check
  /-- EV_AUTH_RESULT (R433): The check ends, and for a pass the freshness record commits and the state changes. Operands: `good`: the freshness record is written. -/
  | evAuthResult (good : Bool)
  /-- AUTH_LOCK_END (R432): 1 s after the tag-failure lock, checks are allowed again. -/
  | authLockEnd
  /-- EV_AUTH_LAPSE (R434): AUTH_REMAIN reaches 0, and the state becomes LAPSED. -/
  | evAuthLapse
  /-- AUTH_SECOND (R434): Each second AUTH_REMAIN counts down. -/
  | authSecond
  /-- EV_AUTH_INHIBIT (R435): Standstill and the HOLD condition engage the inhibit. -/
  | evAuthInhibit
  /-- WRITE (R449): CONFIG_CMD WRITE erases the target slot and starts programming the image. -/
  | write
  /-- EV_CONFIG_DONE (R450): The image write ends, with the seal word programmed at the commit point. Operands: `row`: offset and content of a programmed byte that reads back wrong. -/
  | evConfigDone (row : Option (BitVec 28 × Byte))
  /-- RECONF (R453): CONFIG_CMD RECONF isolates a Stall and loads its section. -/
  | reconf
  /-- RECONF_DONE (R454): The banks swap, registers apply and the Stall is released. -/
  | reconfDone
  /-- CONFIRM (R448): CONFIG_CMD CONFIRM programs the running slot's confirm word. -/
  | confirm
  /-- ABANDON (R448): CONFIG_CMD ABANDON uses up the running slot's trial marks. -/
  | abandon
  /-- ROLLFWD (R452): CONFIG_CMD ROLLFWD blows rollback fuses up to the running security version. -/
  | rollfwd
  /-- PROG (R443): CONFIG_KEY_CMD PROG blows a key into an empty slot. Operands: `who`: the requester. -/
  | prog (who : Req)
  /-- REVOKE (R443): CONFIG_KEY_CMD REVOKE blows a slot's revoke fuse. -/
  | revoke
  /-- EV_KEY_DONE (R443): A key command ends after fusing. Operands: `good`: every fuse verified. -/
  | evKeyDone (good : Bool)
  /-- BIST_RUN (R461): BIST_CMD RUN tests the named Yard groups in service. -/
  | bistRun
  /-- RETEST (R464): BIST_CMD RETEST isolates and tests a Stall. -/
  | retest
  /-- EV_BIST_DONE (R465): The tests end, and the result bank and soft-repair map swap. Operands: `fails`: every failing bit and test point found; `spareOk`: the spares pass. -/
  | evBistDone (fails : List BistFail) (spareOk : Bool)
  /-- EV_RETEST_DONE (R464): The retested Stall is reset, reloaded and released. -/
  | evRetestDone
  /-- BURN (R469): BIST_CMD BURN blows soft-map entries into the fuse map. -/
  | burn
  /-- CLOSE (R471): BIST_DBG_CMD CLOSE returns the debug level to 0. -/
  | close
  /-- OPEN_READ (R471): BIST_DBG_CMD OPEN_READ raises the debug level to 1. -/
  | openRead
  /-- OPEN_WRITE (R471): BIST_DBG_CMD OPEN_WRITE raises the debug level to 2. -/
  | openWrite
  /-- LOCKDOWN (R471): BIST_DBG_CMD LOCKDOWN blows the CLOSED fuse. -/
  | lockdown
  /-- EXTEST (R472): The EXTEST instruction drives boundary scan with the command lines held safe. Operands: `on`: the instruction is taken, not left. -/
  | extest (on : Bool)
  /-- INTSCAN (R473): The INTSCAN instruction resets the device, clears every secret and enables scan. Operands: `clean`: every word of the shielded copies reads back 0. -/
  | intscan (clean : Bool)
  /-- DEVRESET (R485): The debug instruction DEVRESET at level 2 makes a device reset. -/
  | devreset
  /-- POWER_UP (R482): VIN crosses VIN_ON, and soft-start and the rails come up. -/
  | powerUp
  /-- POR_RELEASE (R482): Every rail has been in band for 100 us, and the power-on reset is released. Operands: `pin`: level of RESET_L. -/
  | porRelease (pin : Bool)
  /-- POWER_ON_RESET (R483): VIN falls below VIN_UV, or a rail leaves its band for 2 us. Operands: `src`: 0 VIN, 1 a rail. -/
  | powerOnReset (src : Fin 2)
  /-- EV_VIN_LOW (R481): VIN falls through VIN_LOW, and the power-loss commit starts. -/
  | evVinLow
  /-- EV_VIN_HIGH (R481): VIN rises through VIN_HIGH. -/
  | evVinHigh
  /-- VIN_HIGH_CLEAR (R481): VIN falls below 80.0 V, and VIN_HIGH clears. -/
  | vinHighClear
  /-- RESET_L_LOW (R485): RESET_L low for 1 us or more makes a device reset. -/
  | resetLLow
  /-- DEVICE_RESET (R486): A device reset drives outputs safe, stops processors and engines, and freezes the Logbook. Operands: `kind`: the kind, as SYS_RST_CAUSE.KIND; `req`: the writer of a DEVICE command. -/
  | deviceReset (kind : BitVec 4) (req : BitVec 2)
  /-- DEVICE_RESET_RELEASE (R486): After 10 us, or when RESET_L rises, the device reset releases and boot begins. Operands: `pin`: level of RESET_L. -/
  | deviceResetRelease (pin : Bool)
  /-- DEVICE (R487): SYS_RST_CMD DEVICE makes a device reset. Operands: `who`: the requester. -/
  | device (who : Req)
  /-- YOKE (R488): SYS_RST_CMD YOKE reloads and resets the Yoke. Operands: `who`: the requester. -/
  | yoke (who : Req)
  /-- INNKEEPER (R487): SYS_RST_CMD INNKEEPER restarts the Innkeeper core. Operands: `who`: the requester. -/
  | innkeeper (who : Req)
  /-- STALL (R489): SYS_RST_CMD STALL makes a Stall reset. Operands: `who`: the requester; `n`: the Stall. -/
  | stall (who : Req) (n : Fin 4)
  /-- STALL_RESET_DONE (R489): A Stall reset completes its block resets, register entries and calibration reload. -/
  | stallResetDone
  /-- BOOT_START (R491): The boot ROM starts on the Innkeeper with the other processors held. Operands: `calOk`: the calendar's domain kept its supply. -/
  | bootStart (calOk : Bool)
  /-- XTAL_OK (R491): The crystal is checked, and the tick moves to the crystal. -/
  | xtalOk
  /-- XTAL_BOOT_TIMEOUT (R491): XTAL_OK has not set 10 ms after step 1, so the crystal is declared lost. -/
  | xtalBootTimeout
  /-- SELF_TEST_DONE (R491): The boot run, fuse load and DRAM training end. Operands: `fails`: every failing bit and test point found; `spareOk`: the spares pass; `straps`: the strap code at the balls. -/
  | selfTestDone (fails : List BistFail) (spareOk : Bool) (straps : BitVec 4)
  /-- IMAGE_LOADED (R492): The chosen image's sections are loaded and their digests checked; a failure moves to the next candidate. Operands: `flash`: content of the boot flash, where one answers; `ferr`: the boot flash answers with an error; `bad`: the image fails while it is being loaded. -/
  | imageLoaded (flash : Option (List Byte)) (ferr : Bool) (bad : Bool)
  /-- EV_BOOT_DONE (R491): The Sheepdog, Yoke and Innkeeper are released. -/
  | evBootDone
  /-- BOOT_TIMEOUT (R494): Step 7 has not come 3 s after step 1, and a device reset follows, or the ROM stops at the third timeout. -/
  | bootTimeout
  /-- LANTERN (R496): POWER_CMD LANTERN starts the Lantern entry. -/
  | lantern
  /-- OFF (R499): POWER_CMD OFF commits and stops the buck. -/
  | offCmd
  /-- LANTERN_PARKED (R497): After the Ledger commit, processors halt, the DRAM powers down and the Lantern monitors start. -/
  | lanternParked
  /-- WAKE (R498): A WAKE pin edge held for 100 us wakes the device from Lantern mode or off. Operands: `high`: the pin is high for 100 us; false: it has fallen. -/
  | wake (high : Bool)
  /-- CALENDAR_ALARM (R498): The calendar reaches POWER_ALARM and wakes the device. -/
  | calendarAlarm
  /-- MONITOR_WAKE (R498): A Lantern monitor wakes the device with a device reset of kind wake. -/
  | monitorWake
  /-- VSENS_OVERLOAD (R478): The VSENS current limit acts for 1 ms, and the output turns off. Operands: `j`: the sensor supply. -/
  | vsensOverload (j : Fin 2)
  /-- VSENS_ENABLE (R478): A write to POWER_VSENS.EN switches the sensor supplies. Operands: `who`: the requester; `v`: the word written. -/
  | vsensEnable (who : Req) (v : BitVec 32)
  /-- POWER_MEASURE (R480): Every 100 us VIN, the rails and the die temperature are measured. Operands: `vin`: VIN, 10 mV; `rails`: the six rails, mV; `die`: die temperature, 1/16 degree C, two's complement; `i0`: current of VSENS0; `i1`: current of VSENS1. -/
  | powerMeasure (vin : BitVec 16) (rails : List (BitVec 16)) (die : BitVec 16) (i0 : BitVec 16) (i1 : BitVec 16)
  /-- TRAIN_STEP_TIMEOUT (R267): During link training, the ID read gets no reply, or READY is not seen after the CTRL write, within its step bound, and the link fails with TRAIN 3 or 6. Operands: `l`: the Rein link: 0 to 11 in the Stalls, 12 and 13 in the AUX block. -/
  | trainStepTimeout (l : Fin 14)
  /-- ROLLFWD_DONE (R452): The last rollback fuse of a ROLLFWD has been blown and verified, and the command ends DONE or FAILED. Operands: `good`: every fuse verified; `blown`: fuses blown before one failed. -/
  | rollfwdDone (good : Bool) (blown : BitVec 6)
  /-- BURN_DONE (R469): The soft-map entries of a BURN have been blown into the fuse map, and the command ends DONE or FAILED with cause 0x0C. Operands: `stop`: entries blown before one failed. -/
  | burnDone (stop : Option (BitVec 7))
  /-- CALENDAR_SLEW_END (R409): A slewing calendar brings its difference from the 802.1AS time below one count, and slewing stops. -/
  | calendarSlewEnd
  /-- CAN_RX_ERROR (R416): A bus error is detected while a CAN controller receives; an error frame is sent, the receive error counter changes, and error-passive or bus-off may be entered. Operands: `k`: the controller; `lec`: kind of error, codes of CAN_ERR.LEC; `dataPhase`: the error fell in the data phase; `heavy`: the receive error counter rises by 8, not 1. -/
  | canRxError (k : Fin 4) (lec : BitVec 3) (dataPhase : Bool) (heavy : Bool)
  /-- REIN_PATTERN_END (R256): Transitions resume on UP after a fault-pattern hold shorter than 1 us, and PAT clears. Operands: `l`: the Rein link: 0 to 11 in the Stalls, 12 and 13 in the AUX block. -/
  | reinPatternEnd (l : Fin 14)
  deriving DecidableEq, Repr

end Sys2Proof
end

