-- ==== Sys2Proof/Machine/Arith.lean ====
section
/-!
DEFINITION. Bit fields, two's complement and byte order on natural numbers, and binary32 as rationals are built from these.
-/

namespace Sys2Proof.Machine

/-- Bits [lo + w - 1 : lo] of `v`. -/
def bits (v lo w : Nat) : Nat := v / 2 ^ lo % 2 ^ w

/-- `v` with bits [lo + w - 1 : lo] replaced by `x`. -/
def putBits (v lo w x : Nat) : Nat := v - bits v lo w * 2 ^ lo + x % 2 ^ w * 2 ^ lo

/-- Bit `i` of `v`. -/
def bitAt (v i : Nat) : Bool := v / 2 ^ i % 2 == 1

/-- `v` with bit `i` set to `b`. -/
def putBit (v i : Nat) (b : Bool) : Nat := putBits v i 1 b.toNat

/-- The `w`-bit word `v` read as two's complement. -/
def sext (w v : Nat) : Int := if v % 2 ^ w < 2 ^ (w - 1) then (v % 2 ^ w : Nat) else (v % 2 ^ w : Nat) - (2 ^ w : Nat)

/-- The integer `x` as a `w`-bit two's complement word. -/
def wrap (w : Nat) (x : Int) : Nat := (x % (2 ^ w : Nat)).toNat

/-- `x` limited to a signed `w`-bit range. -/
def clampS (w : Nat) (x : Int) : Int := max (-(2 ^ (w - 1) : Nat)) (min x ((2 ^ (w - 1) : Nat) - 1))

/-- `x` limited to an unsigned `w`-bit range. -/
def clampU (w x : Nat) : Nat := min x (2 ^ w - 1)

/-- The quotient `a / b` rounded to the nearest integer, ties to even; 0 when `b` is 0. -/
def divRound (a : Int) (b : Nat) : Int :=
  if b = 0 then 0 else
    let q := a / (b : Int)
    let r := a % (b : Int)
    if 2 * r < b then q else if 2 * r > b then q + 1 else if q % 2 = 0 then q else q + 1

/-- The number `v` as `k` bytes, lowest first. -/
def toBytes : Nat → Nat → List Byte
  | 0, _ => []
  | k + 1, v => BitVec.ofNat 8 v :: toBytes k (v / 256)

/-- Bytes, lowest first, as a number. -/
def ofBytes : List Byte → Nat
  | [] => 0
  | b :: r => b.toNat + 256 * ofBytes r

/-- Bytes, highest first, as a number. -/
def ofBytesBE (l : List Byte) : Nat := l.foldl (fun a b => a * 256 + b.toNat) 0

/-- The number `v` as `k` bytes, highest first. -/
def toBytesBE (k v : Nat) : List Byte := (toBytes k v).reverse

/-- How many bits of the lowest `k` bits of `v` are 1. -/
def popCount : Nat → Nat → Nat
  | 0, _ => 0
  | k + 1, v => v % 2 + popCount k (v / 2)

/-- Greatest natural number whose square is at most `v` (bit by bit, `k` result bits). -/
def isqrt : Nat → Nat → Nat → Nat
  | 0, _, r => r
  | k + 1, v, r => isqrt k v (if (r + 2 ^ k) * (r + 2 ^ k) ≤ v then r + 2 ^ k else r)

/-- The first number below `k` that `p` accepts. -/
def firstBelow (k : Nat) (p : Nat → Bool) : Option Nat := (List.range k).find? p

end Sys2Proof.Machine
end

