-- ==== Sys2Proof/Machine/Crc.lean ====
section
/-!
DEFINITION. The checksums the spec names: CRC-32 of R103 (polynomial 0x04C1_1DB7, reflected, initial value and final XOR
0xFFFF_FFFF) and CRC-8 of R246 (polynomial 0x2F).
-/

namespace Sys2Proof.Machine

/-- `k` steps of a reflected CRC-32 register. -/
def crc32Bits : Nat → Nat → Nat
  | 0, c => c
  | k + 1, c => crc32Bits k (if c % 2 = 1 then (c / 2) ^^^ 0xEDB88320 else c / 2)

/-- One byte into a reflected CRC-32 register. -/
def crc32Byte (c : Nat) (b : Byte) : Nat := crc32Bits 8 (c ^^^ b.toNat)

/-- CRC-32 of a list of bytes. -/
def crc32 (l : List Byte) : Nat := (l.foldl crc32Byte 0xFFFFFFFF) ^^^ 0xFFFFFFFF

/-- CRC-32 of 32-bit words, each least significant byte first. -/
def crc32Words (l : List Nat) : Nat := crc32 (l.flatMap (toBytes 4))

/-- `k` steps of a CRC register of `w` bits with polynomial `p`, most significant bit first. -/
def crcBits (w p : Nat) : Nat → Nat → Nat
  | 0, c => c
  | k + 1, c => crcBits w p k (if bitAt c (w - 1) then (c * 2 % 2 ^ w) ^^^ p else c * 2 % 2 ^ w)

/-- One bit into a CRC register of `w` bits, most significant bit first. -/
def crcBit (w p c : Nat) (b : Bool) : Nat :=
  if bitAt c (w - 1) != b then (c * 2 % 2 ^ w) ^^^ p else c * 2 % 2 ^ w

/-- CRC of a list of bits, first bit first. -/
def crcOfBits (w p init : Nat) (l : List Bool) : Nat := l.foldl (crcBit w p) init

/-- The lowest `k` bits of `v`, most significant first. -/
def bitsMSB (k v : Nat) : List Bool := ((List.range k).map (fun i => bitAt v i)).reverse

end Sys2Proof.Machine
end

