-- ==== Sys2Proof/Machine/F32.lean ====
section
/-!
DEFINITION. IEEE 754 binary32, round to nearest with ties to even, subnormals kept, one NaN pattern: the arithmetic the spec
names wherever it says binary32 (R91, R175). Every finite value is a whole number of units of 2^-149, so each operation is
computed exactly on integers and rounded once.
-/

namespace Sys2Proof.Machine.F32

/-- The NaN this model's operations return. -/
def nan : F32 := 0x7FC00000#32
def zero : F32 := 0#32
def one : F32 := 0x3F800000#32
def inf : F32 := 0x7F800000#32

/-- Sign bit. -/
def neg? (x : F32) : Bool := decide (2 ^ 31 ≤ x.toNat)
/-- Exponent and mantissa as one number. -/
def mag (x : F32) : Nat := x.toNat % 2 ^ 31
def isNaN (x : F32) : Bool := decide (0x7F800000 < mag x)
def isInf (x : F32) : Bool := mag x == 0x7F800000
def isFinite (x : F32) : Bool := decide (mag x < 0x7F800000)
def isZero (x : F32) : Bool := mag x == 0

/-- Magnitude of a finite value in units of 2^-149. -/
def units (x : F32) : Nat :=
  let m := mag x
  let e := m / 2 ^ 23
  if e = 0 then m else (m % 2 ^ 23 + 2 ^ 23) * 2 ^ (e - 1)

/-- A finite value in units of 2^-149. -/
def val (x : F32) : Int := if neg? x then -(units x : Int) else (units x : Int)

/-- The magnitude `a / b` units of 2^-149, rounded (`b` not 0). -/
def roundMag (a b : Nat) : Nat :=
  let x := a / b
  let q := if x < 2 ^ 24 then 0 else Nat.log2 x - 23
  let m := (divRound (a : Int) (b * 2 ^ q)).toNat
  min (q * 2 ^ 23 + m) 0x7F800000

/-- Sign and magnitude as a pattern. -/
def pack (neg : Bool) (m : Nat) : F32 := BitVec.ofNat 32 (neg.toNat * 2 ^ 31 + m)

/-- The rational `a / b` units of 2^-149, rounded; a result that rounds to 0 keeps the sign of `a`. -/
def ofUnits (a : Int) (b : Nat) : F32 := pack (decide (a < 0)) (roundMag a.natAbs b)

/-- The rational `a / b`, rounded. -/
def ofRat (a : Int) (b : Nat) : F32 := ofUnits (a * 2 ^ 149) b

/-- An integer, rounded. -/
def ofInt (a : Int) : F32 := ofRat a 1

def neg (x : F32) : F32 := if isNaN x then nan else x ^^^ 0x80000000#32
def abs (x : F32) : F32 := if isNaN x then nan else BitVec.ofNat 32 (mag x)

def add (x y : F32) : F32 :=
  if isNaN x || isNaN y then nan
  else if isInf x then (if isInf y && neg? x != neg? y then nan else x)
  else if isInf y then y
  else if val x + val y = 0 then pack (neg? x && neg? y) 0
  else ofUnits (val x + val y) 1

def sub (x y : F32) : F32 := add x (neg y)

def mul (x y : F32) : F32 :=
  let sg := neg? x != neg? y
  if isNaN x || isNaN y then nan
  else if isInf x || isInf y then (if isZero x || isZero y then nan else pack sg 0x7F800000)
  else pack sg (roundMag (units x * units y) (2 ^ 149))

def div (x y : F32) : F32 :=
  let sg := neg? x != neg? y
  if isNaN x || isNaN y then nan
  else if isInf x then (if isInf y then nan else pack sg 0x7F800000)
  else if isInf y then pack sg 0
  else if isZero y then (if isZero x then nan else pack sg 0x7F800000)
  else pack sg (roundMag (units x * 2 ^ 149) (units y))

def sqrt (x : F32) : F32 :=
  if isNaN x then nan
  else if isZero x then x
  else if neg? x then nan
  else if isInf x then x
  else
    let v := units x * 2 ^ 149
    let r := isqrt 214 v 0
    pack false (roundMag (2 * r + (if r * r = v then 0 else 1)) 2)

/-- Ordered comparisons: false on NaN. -/
def lt (x y : F32) : Bool :=
  if isNaN x || isNaN y then false
  else if isInf x || isInf y then
    (if isInf x && isInf y then neg? x && !neg? y else if isInf x then neg? x else !neg? y)
  else decide (val x < val y)

def le (x y : F32) : Bool :=
  if isNaN x || isNaN y then false
  else lt x y || (isInf x && x == y) || (isFinite x && isFinite y && decide (val x = val y))

def eq (x y : F32) : Bool := le x y && le y x

def max (x y : F32) : F32 := if lt x y then y else x
def min (x y : F32) : F32 := if lt y x then y else x

/-- The value rounded to an integer, ties to even; 0 for a value that is not finite. -/
def toIntNear (x : F32) : Int := if isFinite x then divRound (val x) (2 ^ 149) else 0

/-- The value rounded down to an integer; 0 for a value that is not finite. -/
def toIntDown (x : F32) : Int := if isFinite x then val x / (2 ^ 149 : Nat) else 0

/-- The value times `k`, rounded to an integer, ties to even; 0 for a value that is not finite. -/
def scaleNear (x : F32) (k : Int) : Int := if isFinite x then divRound (val x * k) (2 ^ 149) else 0

end Sys2Proof.Machine.F32

namespace Sys2Proof.Machine

/-- `x` limited to [lo, hi]; not a number stays not a number. -/
def clampF (x lo hi : F32) : F32 := if F32.lt hi x then hi else if F32.lt x lo then lo else x

/-- `x` limited to [-m, m]. -/
def clampSym (x m : F32) : F32 := clampF x (F32.neg m) m

end Sys2Proof.Machine
end

