-- ==== Sys2Proof/Config.lean ====
section
/-!
DEFINITION. What one implementation fixes and the spec leaves open: the FREE VALUES. Each is a constant without a body, so
nothing can evaluate it and a statement that mentions it holds for every value of it. Each is named in the assumption log.
-/

namespace Sys2Proof.Config

/-- Contents of the boot ROM (R35): the spec gives the ROM's steps (R491), not its bytes. -/
opaque romByte : Nat → Byte

/-- A fresh free value, 32 bits wide, applied to the state's counter `freeCount`: used where the spec leaves one value open
and the machine goes on. -/
opaque fresh : Nat → BitVec 32

/-- The signature of a Yoke core (R355): from the running CRC-32 of its stores and a digest of its registers and PC. The spec names
what goes in and no function. -/
opaque signature : BitVec 32 → BitVec 32 → BitVec 32

/-- Digest of a Yoke core's registers and PC (R355) at a point of the instruction stream that every core passes, where no operand of the
command carries it. -/
opaque coreDigest : Nat → BitVec 32

/-- The public key whose hash the boot ROM fixes for Sheepdog trailers (R441): X and Y. The spec gives neither the key nor the hash. -/
opaque valrathX : Nat
opaque valrathY : Nat

end Sys2Proof.Config
end

