-- ==== Sys2Proof/Machine/Fld.lean ====
section
/-!
DEFINITION. Register fields. A field is named by the address of its register and its lowest bit; the state holds one value
for each field (Machine/State.lean). State the spec names without giving it an address (a timer, a run counter, a latch
inside a block) is a field too: it stands at a model address at or above 2^40, outside the 40-bit address space of R35.
-/

namespace Sys2Proof.Machine

/-- A register field: its register's 40-bit address, its lowest bit, its width and its reset value. -/
structure Fld where
  addr  : Nat
  lsb   : Nat
  width : Nat
  reset : Nat
  deriving DecidableEq, Repr

/-- The key a field has in the register store: no two fields of the register tables share one. -/
def Fld.key (f : Fld) : Nat := f.addr * 32 + f.lsb

/-- First address of the registers of Rein link `l`: links 0 to 11 in their Stalls, 12 and 13 in the AUX block (R14, R273). -/
def reinBase (l : Nat) : Nat :=
  if l < 12 then 0x41068000 + 0x100000 * (l / 3) + 0x100 * (l % 3) else 0x40078200 + 0x100 * (l - 12)

/-- Address of the `CMD` register of Rein group `g`: 0 to 3 the Stalls' links, 4 the AUX block's (R273). -/
def reinGroup (g : Nat) : Nat :=
  if g < 4 then 0x41068C00 + 0x100000 * g else 0x40078400

/-- Model address of an internal field: `dom` 0 to 3 a Stall, 4 the Yard, 5 what a device reset leaves, 6 what a power-on reset
leaves; `blk` the block's number in R37 or R38; `id` the field; `i` its index. -/
def ix (dom blk id i w r : Nat) : Fld :=
  ⟨0x10000000000 + dom * 0x1000000000 + blk * 0x40000000 + id * 0x40000 + i, 0, w, r⟩

/-- Block number under which the internal fields of link `l` stand: those of links 12 and 13 stand apart from the Yard's own. -/
def linkBlk (l : Nat) : Nat := if l < 12 then 6 else 56

end Sys2Proof.Machine
end

