-- ==== Sys2Proof/Machine/RegIntern.lean ====
section
/-!
DEFINITION. The internal fields: state the rules name or imply without giving it a register (timers, run counters, latches,
levels, work in progress). One definition a field; the docstring names the rule.
-/

namespace Sys2Proof.Machine.Reg


/-! ### PWM -/

/-- R206: the reference signal r_h -/
def pwmRef (n h : Nat) : Fld := ix n 0 1 h 1 0
/-- R208: a turn-on of half-bridge h waits for the dead time -/
def pwmDtPend (n h : Nat) : Fld := ix n 0 2 h 1 0
/-- R232: instant of the last turn-off of line i in fine steps, plus 1; 0 while it has never been on -/
def pwmOffAt (n i : Nat) : Fld := ix n 0 3 i 72 0
/-- R210: instant of the last turn-on of line i in fine steps -/
def pwmOnAt (n i : Nat) : Fld := ix n 0 4 i 72 0
/-- R231: lines whose turn-on the interlock suppressed, until their command goes off -/
def pwmSup (n : Nat) : Fld := ix n 0 5 0 6 0
/-- R210: lines whose present on-interval is removed -/
def pwmRemoved (n : Nat) : Fld := ix n 0 6 0 6 0
/-- R210: lines whose present off-interval is bridged -/
def pwmBridged (n : Nat) : Fld := ix n 0 7 0 6 0
/-- R210: lines whose edge waits until MINP after the interval's start -/
def pwmHold (n : Nat) : Fld := ix n 0 8 0 6 0
/-- R203: instant of the last carrier zero, fine steps -/
def pwmZeroAt (n : Nat) : Fld := ix n 0 9 0 72 0
/-- R215: earliest instant of the first zero, ticks -/
def pwmDue (n : Nat) : Fld := ix n 0 10 0 72 0
/-- R211: shadows written since their last load: bit 0 PER, 1 to 3 CMPh, 4 to 6 DTh, 7 BLK_C0, 8 BLK_C1, 9 OFFSET, 10 PAIR_OFS -/
def pwmPendSet (n : Nat) : Fld := ix n 0 11 0 16 0
/-- R206: 0 in the rising half or an edge-aligned period, 1 after the peak -/
def pwmHalf (n : Nat) : Fld := ix n 0 12 0 1 0
/-- R207: the last period had a clamped compare -/
def pwmClampSeen (n : Nat) : Fld := ix n 0 13 0 1 0
/-- R234: the last load instant used a default profile -/
def pwmDefSeen (n : Nat) : Fld := ix n 0 14 0 1 0
/-- R233: profile chosen for switch s and direction d, index 2s + d -/
def pwmProf (n e : Nat) : Fld := ix n 0 15 e 2 0
/-- R530: a new assertion of trip input j is on its way to the input -/
def pwmTripNew (n j : Nat) : Fld := ix n 0 16 j 1 0
/-- R229: instant at which the pending trip asserted, ticks -/
def pwmTripAt (n j : Nat) : Fld := ix n 0 17 j 72 0
/-- R220: the Stall takes part in the running cross-Stall load -/
def pwmCohPart (n : Nat) : Fld := ix n 0 18 0 1 0
/-- level of STALLn_EN at the ball -/
def pwmPinHigh (n : Nat) : Fld := ix n 0 19 0 1 0
/-- R215: START was accepted and the carrier's first zero has not come -/
def pwmAwait (n : Nat) : Fld := ix n 0 20 0 1 0
/-- R205: the load instant at the present period's zero has passed -/
def pwmZeroDone (n : Nat) : Fld := ix n 0 21 0 1 0
/-- R205: the load instant at the present period's peak has passed -/
def pwmPeakDone (n : Nat) : Fld := ix n 0 22 0 1 0
/-- R208: instant at which the dead time of half-bridge h runs out, fine steps -/
def pwmDtAt (n h : Nat) : Fld := ix n 0 23 h 72 0
/-- R210: instant at which the delayed edge of line i may take effect, fine steps -/
def pwmHoldAt (n i : Nat) : Fld := ix n 0 24 i 72 0
/-- R231, R232: instant from which line i has been called on, fine steps, plus 1; 0 while it is not -/
def pwmReqAt (n i : Nat) : Fld := ix n 0 25 i 72 0
/-- R198: compare that governs r_h up to the guard instant of a mid-period load -/
def pwmCmpOld (n h : Nat) : Fld := ix n 0 26 h 24 0
/-- R221: the reference period the Stall last took -/
def pwmPerTook (n : Nat) : Fld := ix n 0 27 0 23 0

/-! ### LOOP -/

/-- R163: trigger of the last computation begun, ticks -/
def loopLawAt (n : Nat) : Fld := ix n 4 1 0 72 0

/-! ### PROT -/

/-- R281: latched suspicion of switch s: 1 shorted, 2 unavailable by GMIS -/
def protSus (n s : Nat) : Fld := ix n 5 1 s 2 0
/-- R284: the decision wait of link h ran out: its switches are unknown -/
def protUnk (n h : Nat) : Fld := ix n 5 2 h 1 0
/-- R284: a decision wait of link h runs -/
def protWait (n h : Nat) : Fld := ix n 5 3 h 1 0
/-- R284: end of the decision wait of link h, ticks -/
def protWaitEnd (n h : Nat) : Fld := ix n 5 4 h 72 0
/-- R285: instant of the last change of row, ticks -/
def protRowAt (n : Nat) : Fld := ix n 5 5 0 72 0
/-- R279: link h was sent CLEAR and is not yet confirmed -/
def protClr (n h : Nat) : Fld := ix n 5 6 h 1 0
/-- R279: instant of the clearing edge, ticks -/
def protClrAt (n : Nat) : Fld := ix n 5 7 0 72 0
/-- R278: instant of the last fall of STALLn_EN, ticks -/
def protEnFallAt (n : Nat) : Fld := ix n 5 8 0 72 0
/-- R299: an accepted release waits for the next carrier zero -/
def protRelPend (n : Nat) : Fld := ix n 5 9 0 1 0
/-- R299: the carrier's last zero when the release was accepted, fine steps, plus 1 -/
def protRelZ (n : Nat) : Fld := ix n 5 10 0 73 0
/-- R296: instant of the last derating tick, ticks -/
def protDerAt (n : Nat) : Fld := ix n 5 11 0 72 0
/-- R296: the automatic derating factor, 1/256 -/
def protDerAuto (n : Nat) : Fld := ix n 5 12 0 9 256
/-- R277: hard outputs asserted -/
def protHard (n : Nat) : Fld := ix n 5 13 0 12 0
/-- R289: the WARN_MON source asserts -/
def protWarn (n : Nat) : Fld := ix n 5 14 0 1 0
/-- R294: accepted samples since enable, up to 8 -/
def protTjAcc (n s : Nat) : Fld := ix n 5 15 s 4 0
/-- R298: consecutive accepted samples at or above TJ_TRIP -/
def protTjTrip (n s : Nat) : Fld := ix n 5 16 s 2 0
/-- R293: the estimate before rounding to 1/16 degC, binary32 -/
def protTjF (n s : Nat) : Fld := ix n 5 17 s 32 0
/-- R290: the running discharge was requested by the SAFETY block -/
def protDisReq (n : Nat) : Fld := ix n 5 18 0 1 0
/-- R297: the derating limit acted in the last period -/
def protDrSeen (n : Nat) : Fld := ix n 5 19 0 1 0
/-- R291: instant of the last decay of the account, ticks -/
def disDecAt : Fld := ix 4 37 20 0 72 0
/-- R291: the energy account of the discharge resistor, binary32, J; kept through every reset -/
def disEacc : Fld := ix 6 37 21 0 32 0
/-- R291: calendar second of the last update of the account -/
def disEaccSec : Fld := ix 6 37 22 0 48 0

/-! ### SAFETY -/

/-- R318: holds by STO_A_L (bit 0) and STO_B_L (bit 1) -/
def safStoHeld : Fld := ix 4 6 1 0 2 0
/-- R320: STO_CMD ACK ended DONE since both inputs became inactive -/
def safAckDone : Fld := ix 4 6 2 0 1 0
/-- R320: a discrepancy since the last ACK -/
def safDiscAck : Fld := ix 4 6 3 0 1 0
/-- R309: the SAFETY_STALL_CMD value the device-safe latch set -/
def safDsFloor : Fld := ix 4 6 4 0 8 0
/-- R310: a cause that commands Stall n has been present since the previous snapshot -/
def safCause (n : Nat) : Fld := ix 4 6 5 n 1 0
/-- R310: SAFETY_ACK_CMD ended DONE naming Stall n since the cause arose -/
def safAckd (n : Nat) : Fld := ix 4 6 6 n 1 0
/-- R334: a refused discharge request is repeated -/
def safDisRpt : Fld := ix 4 6 7 0 1 0
/-- R309: a discharge by DS_DIS waits for the contactors to read open -/
def safDisWait : Fld := ix 4 6 8 0 1 0

/-! ### CONTACTOR -/

/-- R332: the instant at which the opening request of source i began, ticks, plus 1; 0: none (0 to 3 a Stall's row, 4 the device-safe latch) -/
def ctcReqAt (i : Nat) : Fld := ix 4 19 1 i 72 0
/-- R332: CLOSE bit k has been written 0 since every request ended -/
def ctcZero (k : Nat) : Fld := ix 4 19 2 k 1 0

/-! ### CELLAR -/

/-- R377: cask k is freed and not yet zeroed -/
def cellarZeroing (k : Nat) : Fld := ix 4 3 1 k 1 0

/-! ### LOGBOOK -/

/-- R385: ring offset of the next record to be staged -/
def logVirt : Fld := ix 5 17 1 0 34 0
/-- R387: the next record staged is the first after the trigger -/
def logTrigPend : Fld := ix 5 17 2 0 1 0
/-- R386: records dropped since the last written record -/
def logDropRun : Fld := ix 5 17 3 0 32 0
/-- R381: number of the i-th staging cask, plus 1; 0 none -/
def logCask (i : Nat) : Fld := ix 4 17 4 i 11 0

/-! ### LEDGER -/

/-- R400: entries of page p that no record has carried -/
def ledUncarried (p : Nat) : Fld := ix 4 13 1 p 5 0
/-- R400: page p has changed since a record last carried it -/
def ledDirty (p : Nat) : Fld := ix 4 13 2 p 1 0

/-! ### LOGBOOK -/

/-- R381: bytes in the i-th staging cask -/
def logFill (i : Nat) : Fld := ix 4 17 5 i 13 0
/-- R381: records in the i-th staging cask -/
def logRecs (i : Nat) : Fld := ix 4 17 6 i 10 0

/-! ### SAFETY -/

/-- R209, R335: the sealed dead-time floor in force, ticks; 8 is its least value -/
def safDtFloor : Fld := ix 4 6 9 0 8 8
/-- level of AUX_EN at the ball -/
def safAuxPin : Fld := ix 4 6 10 0 1 0

/-! ### AUX -/

/-- R236: AUX unit k calls for its line on -/
def auxWant (k : Nat) : Fld := ix 4 7 1 k 1 0
/-- R236: instant of the last turn-on of AUX line k, fine steps -/
def auxOnAt (k : Nat) : Fld := ix 4 7 2 k 72 0
/-- R237: instant of the last turn-off of AUX line k, fine steps, plus 1; 0 never on -/
def auxOffAt (k : Nat) : Fld := ix 4 7 3 k 72 0
/-- R236: instant of the last zero of AUX unit k, fine steps -/
def auxZeroAt (k : Nat) : Fld := ix 4 7 4 k 72 0
/-- R236: earliest instant of the first zero, ticks -/
def auxDue (k : Nat) : Fld := ix 4 7 5 k 72 0
/-- R236: the carrier of AUX unit k runs -/
def auxRun (k : Nat) : Fld := ix 4 7 6 k 1 0
/-- R237: on-time the demand carries -/
def auxTon (k : Nat) : Fld := ix 4 7 7 k 23 0
/-- R237: the unit is in the first period of a demand -/
def auxFirst (k : Nat) : Fld := ix 4 7 8 k 1 0
/-- R236: the last period had a clamped compare -/
def auxClampSeen (k : Nat) : Fld := ix 4 7 9 k 1 0
/-- R290: a discharge by the resistor demands AUX1 -/
def auxDisRun : Fld := ix 4 7 10 0 1 0
/-- R218: the reference carrier has passed its first zero -/
def refRun : Fld := ix 4 7 11 0 1 0
/-- R218: earliest instant of the first reference zero, ticks -/
def refDue : Fld := ix 4 7 12 0 72 0
/-- R218: instant of the last reference zero, fine steps -/
def refZeroAt : Fld := ix 4 7 13 0 72 0
/-- R220: earliest instant of the common boundary, ticks -/
def cohDue : Fld := ix 4 7 14 0 72 0
/-- R220: the common boundary R_k of the running cross-Stall load, fine steps -/
def cohAt : Fld := ix 4 7 15 0 72 0
/-- R220: the common boundary has been reached and loads are under way -/
def cohOpen : Fld := ix 4 7 16 0 1 0
/-- R221: the new reference period of a cross-Stall load -/
def cohPer : Fld := ix 4 7 17 0 23 0

/-! ### SAFETY -/

/-- R318, R335: the sealed STO maps in force: STO_A_L in [5:0], STO_B_L in [13:8] -/
def safStoMap : Fld := ix 4 6 11 0 14 0
/-- R335: STO_RESTART in [8], STO_DISC in [7:0], as sealed -/
def safStoCfg : Fld := ix 4 6 12 0 9 0
/-- R335: word 3 of the sealed copy in force: DS_KIND, DS_DIS, OPEN_MASK, OPEN_DLY, CTC_TFB -/
def safDsCfg : Fld := ix 4 6 13 0 24 0

/-! ### AUX -/

/-- R237: a change of the line waits for MINP: 1 a turn-on, 2 a turn-off -/
def auxWait (k : Nat) : Fld := ix 4 7 18 k 2 0
/-- R210: instant at which the waiting change of AUX line k may take effect, fine steps -/
def auxWaitAt (k : Nat) : Fld := ix 4 7 19 k 72 0

/-! ### PWM -/

/-- R207: the present period has a clamped compare -/
def pwmClampNow (n : Nat) : Fld := ix n 0 28 0 1 0

/-! ### SENSE -/

/-- R89: value of slot q at the latest trigger, binary32, physical unit -/
def senQVal (n q : Nat) : Fld := ix n 1 1 q 32 0

/-! ### MON -/

/-- R113: instant of the last sample of monitor m, or of its start, ticks -/
def monLastAt (n m : Nat) : Fld := ix n 2 1 m 72 0
/-- R114: the last 16 samples as the filter took them, bit 0 newest; 1 outside -/
def monWin (n m : Nat) : Fld := ix n 2 2 m 16 0
/-- R115: class of the present run of clear samples: 1 inside, 2 above, 3 below -/
def monRunCls (n m : Nat) : Fld := ix n 2 3 m 2 0
/-- R115: length of that run, up to 16 -/
def monRunLen (n m : Nat) : Fld := ix n 2 4 m 5 0
/-- R118: consecutive samples beyond HHI or HLO, up to 4 -/
def monHardRun (n m : Nat) : Fld := ix n 2 5 m 3 0

/-! ### SENSE -/

/-- R80: the primary hold of converter c has closed and its conversion is under way -/
def senHeld (n c : Nat) : Fld := ix n 1 2 c 1 0
/-- R79: channel the primary hold of converter c took -/
def senCh (n c : Nat) : Fld := ix n 1 3 c 4 0
/-- R93: the last trigger was one at which the pairs are compared -/
def senXpar (n : Nat) : Fld := ix n 1 4 0 1 0
/-- R93: check conversions under way, one bit a pair -/
def senXdue (n : Nat) : Fld := ix n 1 5 0 4 0
/-- R93: consecutive mismatches of pair c -/
def senXrun (n c : Nat) : Fld := ix n 1 6 c 5 0
/-- R93: FG x raw + FO of converter c at this trigger, in 2^-26 LSB, two's complement -/
def senPrim (n c : Nat) : Fld := ix n 1 7 c 64 0
/-- R93: converter c has a primary value at this trigger -/
def senPrimOk (n c : Nat) : Fld := ix n 1 8 c 1 0
/-- R95: converter checks requested, first in the lowest digit: converter plus 1, three bits each -/
def senQueue (n : Nat) : Fld := ix n 1 9 0 12 0
/-- R96: slots whose latch requested the check of converter c -/
def senCkLatch (n c : Nat) : Fld := ix n 1 10 c 8 0
/-- R92: slot q is latched to the modulator path -/
def senLatched (n q : Nat) : Fld := ix n 1 11 q 1 0
/-- R99: converter of the latched slot, plus 1 -/
def senLconv (n q : Nat) : Fld := ix n 1 12 q 3 0
/-- R99: consecutive passing periods of latched slot q -/
def senRet (n q : Nat) : Fld := ix n 1 13 q 11 0
/-- R77: the selects of the coming trigger have loaded -/
def senSelDone (n : Nat) : Fld := ix n 1 14 0 1 0
/-- R78: entry of converter c's sequence that its active select holds -/
def senPosAct (n c : Nat) : Fld := ix n 1 15 c 2 0
/-- R96, R97: at the next trigger the position returns to service: 1 its converter, 2 the spare in its place -/
def senBack (n c : Nat) : Fld := ix n 1 16 c 2 0
/-- R95: instant at which the converter check of the Stall started, ticks -/
def senCkAt (n : Nat) : Fld := ix n 1 17 0 72 0
/-- R96: a converter check passed after slot q latched: it stays latched until the Stall is reset -/
def senPassed (n q : Nat) : Fld := ix n 1 18 q 1 0
/-- R91: the last check of slot q failed -/
def senFailing (n q : Nat) : Fld := ix n 1 19 q 1 0
/-- R75: converter of the latest conversion of channel k, plus 1 -/
def senConvOf (n k : Nat) : Fld := ix n 1 20 k 3 0
/-- R76: the latest conversion of channel k clipped -/
def senClip (n k : Nat) : Fld := ix n 1 21 k 1 0
/-- R291: instant of the latest conversion of channel k, ticks -/
def senConvAt (n k : Nat) : Fld := ix n 1 22 k 72 0
/-- R78: entry of converter c's sequence that the selects hold -/
def senNext (n c : Nat) : Fld := ix n 1 23 c 2 0
/-- R105: start of the present wait phase, ticks -/
def calWaitAt (n : Nat) : Fld := ix n 1 24 0 72 0
/-- R106: mean of the zero capture of channel j (16 to 21 modulator inputs), 1/16 LSB -/
def calA0 (n j : Nat) : Fld := ix n 1 25 j 24 0
/-- R106: computed gain of channel j, Q2.22 -/
def calUg (n j : Nat) : Fld := ix n 1 26 j 24 0
/-- R106: computed offset of channel j, 1/16 LSB -/
def calUo (n j : Nat) : Fld := ix n 1 27 j 24 0

/-! ### MOD -/

/-- R81: instant of a rising edge of MODn_CLK from which its edges are counted, ticks -/
def modClkAt (n : Nat) : Fld := ix n 7 1 0 72 0
/-- R83: instant at which input i was enabled, ticks -/
def modOnAt (n i : Nat) : Fld := ix n 7 2 i 72 0
/-- R86: instant at which input i was last found stuck, ticks -/
def modStuckAt (n i : Nat) : Fld := ix n 7 3 i 72 0
/-- R83: filters of input i that have filled: bit 0 main, bit 1 fast -/
def modFill (n i : Nat) : Fld := ix n 7 4 i 2 0

/-! ### BIST -/

/-- R97: Stall whose failed converter the spare is being checked for, plus 1 -/
def spareReq : Fld := ix 4 15 1 0 3 0
/-- R97: that converter -/
def spareReqC : Fld := ix 4 15 2 0 2 0
/-- R97, R98: instant of that request, ticks -/
def spareReqAt : Fld := ix 4 15 3 0 72 0
/-- R88: factory gain of the spare converter, Q2.22 -/
def spareFg : Fld := ix 6 15 4 0 24 4194304
/-- R88: factory offset of the spare converter, 1/16 LSB -/
def spareFo : Fld := ix 6 15 5 0 24 0

/-! ### POS -/

/-- R139: accepted level of encoder input A -/
def posA (n : Nat) : Fld := ix n 3 1 0 1 0
/-- R139: accepted level of encoder input B -/
def posB (n : Nat) : Fld := ix n 3 2 0 1 0
/-- R140: accepted edges since enable -/
def posEdges (n : Nat) : Fld := ix n 3 3 0 48 0
/-- R140: edge number of an illegal transition, plus 1; the last 1,024 of them in a ring -/
def posIllAt (n k : Nat) : Fld := ix n 3 4 k 49 0
/-- R140: illegal transitions since enable -/
def posIllN (n : Nat) : Fld := ix n 3 5 0 48 0
/-- R160: instant of the last edge, ticks, plus 1; 0 before the first -/
def posEdgeAt (n : Nat) : Fld := ix n 3 6 0 72 0
/-- R160: edges since the first one of the present speed state, up to 16 -/
def posEdgeN (n : Nat) : Fld := ix n 3 7 0 5 0
/-- R160: interval speed, magnitude, binary32 -/
def posIntW (n : Nat) : Fld := ix n 3 8 0 32 0
/-- R160: speed of the speed observer, magnitude, binary32 -/
def posObsW (n : Nat) : Fld := ix n 3 9 0 32 0
/-- R160: angle of the speed observer less the angle of the last edge, binary32 -/
def posObsD (n : Nat) : Fld := ix n 3 10 0 32 0
/-- R131: sensor angle of the tracking observer or the last SSI frame, 1/256 LSB -/
def posTheta (n : Nat) : Fld := ix n 3 11 0 24 0
/-- R136, R162: speed of the tracking observer, sensor rad/s, binary32 -/
def posOmega (n : Nat) : Fld := ix n 3 12 0 32 0
/-- R136, R149: instant of the last update or frame, ticks -/
def posUpdAt (n : Nat) : Fld := ix n 3 13 0 72 0
/-- R137: consecutive updates with an error below 1 degree, up to 64 -/
def posLockRun (n : Nat) : Fld := ix n 3 14 0 7 0
/-- R138: consecutive updates below POS_RES_AMP.LO -/
def posLowRun (n : Nat) : Fld := ix n 3 15 0 4 0
/-- R138: consecutive updates with a clipped input -/
def posClipRun (n : Nat) : Fld := ix n 3 16 0 4 0
/-- R138: consecutive updates above POS_RES_AMP.HI -/
def posHighRun (n : Nat) : Fld := ix n 3 17 0 4 0
/-- R162: instant from which the speed has been below POS_STILL_THR, ticks, plus 1; 0 while it is not -/
def posLowAt (n : Nat) : Fld := ix n 3 18 0 72 0
/-- R143: index mismatches in a row -/
def posMismRun (n : Nat) : Fld := ix n 3 19 0 2 0
/-- R145: the count is aligned to a Hall edge -/
def posAligned (n : Nat) : Fld := ix n 3 20 0 1 0
/-- R147: Hall angle of the last edge -/
def posHallAng (n : Nat) : Fld := ix n 3 21 0 16 0
/-- R148: instant at which the illegal code appeared, ticks -/
def posHallIllAt (n : Nat) : Fld := ix n 3 22 0 72 0
/-- R148: the Halls have left the cross-check -/
def posHallOut (n : Nat) : Fld := ix n 3 23 0 1 0
/-- R148: valid edges in sequence since then, up to 6 -/
def posHallSeq (n : Nat) : Fld := ix n 3 24 0 3 0
/-- R147: the last Hall edge since the enable has a Hall angle -/
def posHallHas (n : Nat) : Fld := ix n 3 25 0 1 0
/-- R148: the present illegal code has outlasted ILL_TO -/
def posIllDone (n : Nat) : Fld := ix n 3 26 0 1 0
/-- R144: an index waits for the edges of its tick -/
def posIdxPend (n : Nat) : Fld := ix n 3 27 0 1 0
/-- R158: instant of the last travel movement, ticks, plus 1 -/
def posMvAt (n : Nat) : Fld := ix n 3 28 0 72 0
/-- R158: travel moved at that instant, travel units -/
def posMvD (n : Nat) : Fld := ix n 3 29 0 48 0
/-- R162: angle of an SSI sensor's tracking observer, 1/256 LSB -/
def posTrk (n : Nat) : Fld := ix n 3 30 0 24 0
/-- R132, R169: as latched at the last trigger: bit 0 VALID, 1 STILL, 2 DIR, 3 SFAIL, 5:4 SRC, 7:6 QUAL -/
def posLatFlags (n : Nat) : Fld := ix n 3 31 0 8 3
/-- R132, R169: travel at the last trigger, travel units -/
def posLatTrav (n : Nat) : Fld := ix n 3 32 0 48 0
/-- R168: consecutive differences above TOL -/
def posXRun (n : Nat) : Fld := ix n 3 33 0 4 0
/-- R149: a frame is being clocked -/
def posSsiBusy (n : Nat) : Fld := ix n 3 34 0 1 0
/-- R149: instant at which the frame latched its position, ticks -/
def posSsiAt (n : Nat) : Fld := ix n 3 35 0 72 0
/-- R149: last clock edge of the last frame, ticks, plus 1; 0 before the first -/
def posSsiEnd (n : Nat) : Fld := ix n 3 36 0 72 0
/-- R151: position field of the previous frame, plus 1; 0 before the first -/
def posSsiPrev (n : Nat) : Fld := ix n 3 37 0 33 0
/-- R151: consecutive erroneous frames -/
def posSsiErrRun (n : Nat) : Fld := ix n 3 38 0 4 0
/-- R151: a good frame since enable -/
def posSsiGood (n : Nat) : Fld := ix n 3 39 0 1 0
/-- R153: length of the previous sync pulse, ticks; 0 before the first -/
def posSentSync (n : Nat) : Fld := ix n 3 40 0 24 0
/-- R155: instant of the last accepted frame or of the enable, ticks -/
def posSentAt (n : Nat) : Fld := ix n 3 41 0 72 0
/-- R154: bit 2 of the last 18 status nibbles, newest lowest -/
def posSlow2 (n : Nat) : Fld := ix n 3 42 0 18 0
/-- R154: bit 3 of the last 18 status nibbles, newest lowest -/
def posSlow3 (n : Nat) : Fld := ix n 3 43 0 18 0
/-- R154: status nibbles taken since the last slow message or break, up to 18 -/
def posSlowN (n : Nat) : Fld := ix n 3 44 0 5 0
/-- R163: angle of the back-EMF observer at the last period, 1/256 LSB -/
def bemfTheta (n : Nat) : Fld := ix n 3 45 0 24 0
/-- R163: instant of the last period, ticks -/
def bemfAt (n : Nat) : Fld := ix n 3 46 0 72 0
/-- R163: the observer has a period behind it since the engines started -/
def bemfHas (n : Nat) : Fld := ix n 3 47 0 1 0
/-- R163: alpha current of the last period, binary32 -/
def bemfIa (n : Nat) : Fld := ix n 3 48 0 32 0
/-- R163: beta current of the last period, binary32 -/
def bemfIb (n : Nat) : Fld := ix n 3 49 0 32 0
/-- R164: consecutive qualifying periods, up to 256 -/
def bemfGood (n : Nat) : Fld := ix n 3 50 0 9 0
/-- R164: consecutive failing periods, up to 16 -/
def bemfBad (n : Nat) : Fld := ix n 3 51 0 5 0
/-- R167: consecutive differences above POS_BEMF_TOL -/
def bemfDiffRun (n : Nat) : Fld := ix n 3 52 0 4 0

/-! ### LEDGER -/

/-- R394: turning points on the stack of switch k = 6n + s -/
def rfLen (k : Nat) : Fld := ix 4 13 3 k 5 0
/-- R394: 0 no estimate yet, 1 rising, 2 falling, 3 started without a direction -/
def rfDir (k : Nat) : Fld := ix 4 13 4 k 2 0
/-- R394: running extreme of switch k, signed, 1/16 degC -/
def rfExt (k : Nat) : Fld := ix 4 13 5 k 16 0
/-- R395: fraction of a joule carried over, direction d 0 motoring 1 regenerating, 2^-40 J -/
def ledEFrac (n d : Nat) : Fld := ix 4 13 6 (((n) * 1024 + d)) 40 0
/-- R396: sum of ripple2 over this second's periods, 2^-16 A^2 -/
def ledRipSum (n : Nat) : Fld := ix 4 13 7 n 96 0
/-- R396: periods of this second in state 2 -/
def ledRipN (n : Nat) : Fld := ix 4 13 8 n 32 0
/-- R397: highest value of the winding slot in this second, binary32 -/
def ledWindMax (n : Nat) : Fld := ix 4 13 9 n 32 0
/-- R397: the winding slot had a valid value in this second -/
def ledWindOk (n : Nat) : Fld := ix 4 13 10 n 1 0
/-- R393: switching time not yet a second, fine steps -/
def ledSwFine (n : Nat) : Fld := ix 4 13 11 n 40 0
/-- R402: commit running: 0 none, 1 automatic, 2 by LEDGER_CMD, 3 power loss, 4 Lantern entry or OFF -/
def ledKind : Fld := ix 4 13 12 0 3 0
/-- R404: the running commit is at its retry -/
def ledTry : Fld := ix 4 13 13 0 1 0
/-- R402: target slot of the running commit -/
def ledSlot : Fld := ix 4 13 14 0 15 0
/-- R400: page the running commit carries -/
def ledCarried : Fld := ix 4 13 15 0 6 0
/-- R400: uncarried entries of the open page (0) and the carried page (1) at the snapshot -/
def ledUncSnap (k : Nat) : Fld := ix 4 13 16 k 5 0
/-- R401: no commit since boot yet -/
def ledFirst : Fld := ix 4 13 17 0 1 1
/-- R402: start of the running commit, or of its retry, ticks -/
def ledAt : Fld := ix 4 13 18 0 72 0
/-- R402: instant of the last whole second served, ticks, plus 1; 0: none -/
def ledSecAt : Fld := ix 4 13 19 0 72 0
/-- R393: fault codes of class c raised before the load ended that could not be held -/
def ledLateCls (c : Nat) : Fld := ix 4 13 20 c 32 0
/-- R394: instant of the last temperature samples, ticks, plus 1; 0: none -/
def rfAt : Fld := ix 4 13 21 0 72 0
/-- R408: instant of the last measurement of VBAK, ticks, plus 1; 0: none -/
def vbakAt : Fld := ix 4 13 22 0 72 0
/-- R409: instant of the last automatic ALIGN, ticks, plus 1; 0: none -/
def calAlignAt : Fld := ix 4 13 23 0 72 0
/-- R409: an automatic ALIGN waits for the next 32.768 kHz edge -/
def calAlignDue : Fld := ix 4 13 24 0 1 0
/-- R408: phase of the 32.768 kHz count in the present tick, units of 1/200,000,000 of a count -/
def calAcc : Fld := ix 6 13 25 0 28 0
/-- R409: counts since the last omitted or repeated one while slewing -/
def calSlewN : Fld := ix 6 13 26 0 10 0
/-- R409: slewing repeats counts (0) or omits them (1) -/
def calSlewUp : Fld := ix 6 13 27 0 1 0

/-! ### PWM -/

/-- R190: last edge of r_h since the last period, plus 1: 1 off, 2 on; 0 none -/
def pwmEdge (n h : Nat) : Fld := ix n 0 29 h 2 0
/-- R198: guard instant of a mid-period load in this carrier period, fine steps, plus 1; 0 none -/
def pwmGuardAt (n : Nat) : Fld := ix n 0 30 0 72 0

/-! ### LOOP -/

/-- R67: a computation is under way -/
def loopBusy (n : Nat) : Fld := ix n 4 2 0 1 0
/-- R383: instant of the trigger it began at, ticks -/
def loopTrigAt (n : Nat) : Fld := ix n 4 3 0 72 0
/-- R66: that trigger was at a peak -/
def loopPeak (n : Nat) : Fld := ix n 4 4 0 1 0
/-- R198: deadline of the period under recovery, fine steps -/
def loopDl (n : Nat) : Fld := ix n 4 5 0 72 0
/-- R200: instant at which the mismatch was found, ticks -/
def loopRcvAt (n : Nat) : Fld := ix n 4 6 0 72 0
/-- R193: results of the period under recovery, words in the order of Machine/Loop.lean -/
def loopRes (n i : Nat) : Fld := ix n 4 7 i 32 0
/-- R173: the engines stop after the period in progress -/
def loopStopPend (n : Nat) : Fld := ix n 4 8 0 1 0
/-- R186: a bank switch waits for the next trigger -/
def loopPset (n : Nat) : Fld := ix n 4 9 0 1 0
/-- R189: the following-error timer, half fine steps -/
def loopFerr (n : Nat) : Fld := ix n 4 10 0 40 0
/-- R189: cause 0x21 has been raised since the timer left 0 -/
def loopFerrDone (n : Nat) : Fld := ix n 4 11 0 1 0
/-- R196: consecutive agreeing periods of the shadow engine -/
def loopAgree (n : Nat) : Fld := ix n 4 12 0 16 0
/-- R66: instant of the latest slack record, ticks, plus 1; 0 none -/
def loopSlackAt (n : Nat) : Fld := ix n 4 13 0 72 0
/-- R66: deadline of the latest slack record, ticks -/
def loopSlackDl (n : Nat) : Fld := ix n 4 14 0 72 0
/-- R67: the present run of late periods has raised cause 0x20 -/
def loopLateSeen (n : Nat) : Fld := ix n 4 15 0 1 0

/-! ### REMOUNT -/

/-- REMOUNT_CTRL: a write of 0 waits for the release -/
def remEnPend : Fld := ix 4 18 1 0 1 0

/-! ### REIN -/

/-- R267: training step: 0 not training, 1 search, 2 version, 3 write of an entry, 4 read back, 5 CTRL write, 6 READY awaited -/
def reinStep (l : Nat) : Fld := ix (l / 3) (linkBlk l) 1 l 3 0
/-- R267: initialisation entry in hand -/
def reinInitJ (l : Nat) : Fld := ix (l / 3) (linkBlk l) 2 l 8 0
/-- R267: consecutive valid STATUS frames in SEQ order with FAULT 0, up to 8 -/
def reinLock (l : Nat) : Fld := ix (l / 3) (linkBlk l) 3 l 4 0
/-- R267: instant of the START write, ticks -/
def reinTrainAt (l : Nat) : Fld := ix (l / 3) (linkBlk l) 4 l 72 0
/-- R267: an abort came after the last step-5 WRITE -/
def reinTrainLate (g : Nat) : Fld := ix g (linkBlk (3 * g)) 5 0 1 0
/-- R253: SEQ of the last valid frame, plus 1; 0 none -/
def reinSeq (l : Nat) : Fld := ix (l / 3) (linkBlk l) 6 l 5 0
/-- R269: a WRITE or READ of this link: 0 none, 1 waiting, 2 sent and unanswered -/
def reinReq (l : Nat) : Fld := ix (l / 3) (linkBlk l) 7 l 2 0
/-- R252: its access tag -/
def reinReqTag (l : Nat) : Fld := ix (l / 3) (linkBlk l) 8 l 4 0
/-- R269: instant of its start bit, ticks -/
def reinReqStart (l : Nat) : Fld := ix (l / 3) (linkBlk l) 9 l 72 0
/-- R269: end of its stop bit, ticks -/
def reinReqEnd (l : Nat) : Fld := ix (l / 3) (linkBlk l) 10 l 72 0
/-- R269: an abort came after its start bit -/
def reinReqLate (l : Nat) : Fld := ix (l / 3) (linkBlk l) 11 l 1 0
/-- R248: tag of the next access -/
def reinTagNext (l : Nat) : Fld := ix (l / 3) (linkBlk l) 12 l 4 0
/-- R248: count of the next HEARTBEAT -/
def reinHb (l : Nat) : Fld := ix (l / 3) (linkBlk l) 13 l 8 0
/-- R249: instant at which the last downlink frame started, ticks -/
def reinDnAt (l : Nat) : Fld := ix (l / 3) (linkBlk l) 14 l 72 0
/-- R249: switch of the next VSAMP: 0 high side, 1 low side -/
def reinVsSide (l : Nat) : Fld := ix (l / 3) (linkBlk l) 15 l 1 0
/-- R250: end of the unanswered VSAMP frame for switch i, fine steps, plus 1; 0 none -/
def reinVsEnd (l i : Nat) : Fld := ix (l / 3) (linkBlk l) 16 (((l) * 1024 + i)) 72 0
/-- R250: its delay D -/
def reinVsD (l i : Nat) : Fld := ix (l / 3) (linkBlk l) 17 (((l) * 1024 + i)) 7 0
/-- R250: stamp of the sample taken for switch i, ticks -/
def reinVonStamp (l i : Nat) : Fld := ix (l / 3) (linkBlk l) 18 (((l) * 1024 + i)) 72 0
/-- R254: instant of an edge at the ball, fine steps, plus 1; index 4k + j, kind k (SEL payload order), j edges back -/
def reinEAt (l i : Nat) : Fld := ix (l / 3) (linkBlk l) 19 (((l) * 1024 + i)) 72 0
/-- R254: newest SEL tag at that edge x 4, plus 0 that tag, 1 the one before it, 2 either, 3 none sent yet -/
def reinEInfo (l i : Nat) : Fld := ix (l / 3) (linkBlk l) 20 (((l) * 1024 + i)) 6 0
/-- R254: end of the SEL frame with tag t, fine steps, plus 1; 0 none -/
def reinSelT (l t : Nat) : Fld := ix (l / 3) (linkBlk l) 21 (((l) * 1024 + t)) 72 0
/-- R254: its selections -/
def reinSelPay (l t : Nat) : Fld := ix (l / 3) (linkBlk l) 22 (((l) * 1024 + t)) 8 0
/-- R254: instant of the last frame that reported DN_ERR, fine steps, plus 1; 0 none -/
def reinDnErrAt (l : Nat) : Fld := ix (l / 3) (linkBlk l) 23 l 72 0
/-- R270: consecutive STATUS frames failing the echo check, up to 16 -/
def reinEchoRun (l : Nat) : Fld := ix (l / 3) (linkBlk l) 24 l 5 0
/-- R270: instants of the newest 256 counted errors, ticks, a ring -/
def reinErrAt (l i : Nat) : Fld := ix (l / 3) (linkBlk l) 25 (((l) * 1024 + i)) 72 0
/-- R270: errors counted -/
def reinErrN (l : Nat) : Fld := ix (l / 3) (linkBlk l) 26 l 32 0
/-- R270: the sum over 1 ms has risen above LIMIT -/
def reinErrHigh (l : Nat) : Fld := ix (l / 3) (linkBlk l) 27 l 1 0
/-- R258: end of the last valid uplink frame, ticks -/
def reinFrameAt (l : Nat) : Fld := ix (l / 3) (linkBlk l) 28 l 72 0
/-- R246: end of the last downlink frame's stop bit, ticks -/
def reinDnEnd (l : Nat) : Fld := ix (l / 3) (linkBlk l) 29 l 72 0
/-- R246, R248: last downlink frame of type t, first bit sent highest -/
def reinDnF (l t : Nat) : Fld := ix (l / 3) (linkBlk l) 30 (((l) * 1024 + t)) 42 0
/-- R245, R248: its start bit at the ball, ticks, plus 1; 0 none -/
def reinDnT (l t : Nat) : Fld := ix (l / 3) (linkBlk l) 31 (((l) * 1024 + t)) 72 0
/-- R267: instant at which the present training step, or the entry in hand, began, ticks -/
def reinStepAt (l : Nat) : Fld := ix (l / 3) (linkBlk l) 32 l 72 0
/-- R280: the link has entered FAULT and no STATUS frame has come since -/
def reinFaultNew (l : Nat) : Fld := ix (l / 3) (linkBlk l) 33 l 1 0
/-- R295: the link has reported an NTC code -/
def reinNtcSeen (l : Nat) : Fld := ix (l / 3) (linkBlk l) 34 l 1 0
/-- R280: command lines (bit 0 high side, bit 1 low side) when the link entered FAULT -/
def reinLines (l : Nat) : Fld := ix (l / 3) (linkBlk l) 35 l 2 0

/-! ### PROT -/

/-- R294: instant of the last accepted sample or of the enable, ticks -/
def protTjAt (n s : Nat) : Fld := ix n 5 23 s 72 0
/-- R298: the NTC temperature stands at or above its trip -/
def protNtcTrip (n h : Nat) : Fld := ix n 5 24 h 1 0
/-- R285: speed band of the row in force -/
def protBandRow (n : Nat) : Fld := ix n 5 25 0 1 0
/-- R292: start of the running discharge, ticks -/
def protDisAt (n : Nat) : Fld := ix n 5 26 0 72 0

/-! ### SENSE -/

/-- R291: trigger of the value that slot q holds, ticks, plus 1; 0 none -/
def senQAt (n q : Nat) : Fld := ix n 1 28 q 72 0
/-- R293: next place in the ring of the newest 8 evaluated triggers -/
def senHistN (n : Nat) : Fld := ix n 1 29 0 3 0
/-- R293: an evaluated trigger, ticks, plus 1; a ring of 8 -/
def senHistAt (n k : Nat) : Fld := ix n 1 30 k 72 0
/-- R293: corrected current of slot q at that trigger, binary32 -/
def senHistQ (n k q : Nat) : Fld := ix n 1 31 (((k) * 1024 + q)) 32 0
/-- R304: the Stall's last trigger, ticks -/
def senTrigAt (n : Nat) : Fld := ix n 1 32 0 72 0

/-! ### POS -/

/-- R304 word 4: a cross-check or index mismatch since the last snapshot -/
def posMismSeen (n : Nat) : Fld := ix n 3 53 0 1 0

/-! ### SAFETY -/

/-- R310: the kind of command the firmware's causes hold in Stall n's field -/
def safCmdKind (n : Nat) : Fld := ix 4 6 14 n 2 0

/-! ### SHEEPDOG -/

/-- R314: consecutive checked cycles with the torque outside the window -/
def tqRun (n : Nat) : Fld := ix 4 5 1 n 4 0
/-- R316: consecutive checked cycles without two agreeing copies -/
def reqRun (n : Nat) : Fld := ix 4 5 2 n 2 0
/-- R306: consecutive cycles with the RC count outside its limits -/
def oscRun : Fld := ix 4 5 3 0 2 0
/-- R326: SAFETY_FN_SEL_n as the present cycle uses it -/
def fnCur (n : Nat) : Fld := ix 4 5 4 n 7 0
/-- R327: activation instant of SLS, ticks -/
def fnAt (n : Nat) : Fld := ix 4 5 5 n 72 0
/-- R327: consecutive snapshots above SLS_LIM -/
def fnSlsRun (n : Nat) : Fld := ix 4 5 6 n 2 0
/-- R328: farthest travel reached in the allowed direction -/
def fnFar (n : Nat) : Fld := ix 4 5 7 n 48 0
/-- R329: travel at the activation of SLP -/
def fnRef (n : Nat) : Fld := ix 4 5 8 n 48 0
/-- R330: SLS, SDI, SLP violated in the last snapshot -/
def fnViol (n : Nat) : Fld := ix 4 5 9 n 3 0
/-- R330: the last snapshot was a position fault -/
def fnPosF (n : Nat) : Fld := ix 4 5 10 n 1 0
/-- R321: the Stalls of the running safe stop -/
def ss1Mask : Fld := ix 4 5 11 0 4 0
/-- R321: the run's first cycle has not come yet -/
def ss1First : Fld := ix 4 5 12 0 1 0
/-- R321: start of the run's first cycle, ticks -/
def ss1At : Fld := ix 4 5 13 0 72 0
/-- R321: speed of Stall n in the run's first snapshot, binary32 -/
def ss1W0 (n : Nat) : Fld := ix 4 5 14 n 32 0
/-- R322: consecutive snapshots above the envelope -/
def ss1Run (n : Nat) : Fld := ix 4 5 15 n 2 0

/-! ### SAFETY -/

/-- R338: the boot check has read the straps -/
def safBooted : Fld := ix 4 6 15 0 1 0
/-- R339: the strap code last reported as changed, or the boot code -/
def safStrapRep : Fld := ix 4 6 16 0 4 0
/-- R319: instant since which exactly one STO input has been active, ticks, plus 1; 0: none -/
def safOneAt : Fld := ix 4 6 17 0 72 0
/-- R334: instant of the last refused discharge request, ticks -/
def safDisRptAt : Fld := ix 4 6 18 0 72 0

/-! ### CONTACTOR -/

/-- R333: instant of the last change of CTCk_CMD, ticks -/
def ctcCmdAt (k : Nat) : Fld := ix 4 19 3 k 72 0
/-- R333: the last change of CTCk_CMD was a forced opening -/
def ctcByForce (k : Nat) : Fld := ix 4 19 4 k 1 0
/-- R333: the main contact has read closed since the command closed -/
def ctcWas (k : Nat) : Fld := ix 4 19 5 k 1 0
/-- R333: the present disagreement is reported -/
def ctcBad (k : Nat) : Fld := ix 4 19 6 k 1 0

/-! ### SHEEPDOG -/

/-- R304: instant of the last cycle, ticks, plus 1; 0: none -/
def shdCycAt : Fld := ix 4 5 16 0 72 0
/-- R323: instant at which the commit write of a due safe stop lands, ticks, plus 1; 0: none is due -/
def ss1DueAt : Fld := ix 4 5 17 0 72 0
/-- R323: instant at which the committed run reports its end, ticks, plus 1; 0: none -/
def ss1EndAt : Fld := ix 4 5 18 0 72 0
/-- R310, R330: the violations of SLS, SDI and SLP and the position fault (bit 3) that command Stall n while they last -/
def fnCmd (n : Nat) : Fld := ix 4 5 19 n 4 0

/-! ### SAFETY -/

/-- R312: the phase, in ticks, of the microseconds that SAFETY_TQ_AGE_n counts -/
def tqAgePh (n : Nat) : Fld := ix 4 6 19 n 8 0

/-! ### YOKE -/

/-- R360: instant of core c's last resynchronisation, ticks, plus 1; 0: none -/
def yokeResyncAt (c : Nat) : Fld := ix 4 4 1 c 72 0
/-- R355: running CRC-32 register of core c's stores to its own SRAM -/
def yokeCrc (c : Nat) : Fld := ix 4 4 2 c 32 4294967295
/-- R356: interrupts core c has entered -/
def yokeInts (c : Nat) : Fld := ix 4 4 3 c 72 0
/-- R362: instant of the last accepted kick, or of the Yoke's start, ticks -/
def yokeWdAt : Fld := ix 4 4 4 0 72 0
/-- R362: the window ended without a kick, and the fault is reported -/
def yokeWdLate : Fld := ix 4 4 5 0 1 0
/-- R359: start of the running resynchronisation, ticks -/
def yokeRsAt : Fld := ix 4 4 6 0 72 0
/-- R359: ticks of its steps 1 to 3, a free value -/
def yokeRsDur : Fld := ix 4 4 7 0 20 0
/-- R359: an abort came at step 3 or later -/
def yokeRsLate : Fld := ix 4 4 8 0 1 0

/-! ### PORTER -/

/-- R372: number of the next grant to a ranked requester -/
def porterNum : Fld := ix 4 2 1 0 64 0
/-- R372: end of requester r's last grant, ticks -/
def porterEnd (r : Nat) : Fld := ix 4 2 2 r 72 0
/-- R371: the ranked requester whose burst a Courier interrupted; 15 none -/
def porterCutR : Fld := ix 4 2 3 0 4 15
/-- R368: the next 64 bytes to be refreshed and scrubbed -/
def porterScrub : Fld := ix 4 2 4 0 27 0
/-- R368: the halved refresh interval is in force -/
def porterHalf : Fld := ix 4 2 5 0 1 0
/-- R368: the last temperature reading was missing or out of range -/
def porterTempBad : Fld := ix 4 2 6 0 1 0
/-- R368: instant of the last refresh, ticks, plus 1; 0: none -/
def porterRefAt : Fld := ix 4 2 7 0 72 0
/-- R368: instant of the last temperature reading, ticks, plus 1; 0: none -/
def porterTempAt : Fld := ix 4 2 8 0 72 0
/-- R369: instant of the last grant to Courier DBG, ticks, plus 1; 0: none -/
def porterDbgAt : Fld := ix 4 2 9 0 72 0

/-! ### CELLAR -/

/-- R378: code of processor p's command that waits for one of the same instant served before it; 0 none -/
def cellarWait (p : Nat) : Fld := ix 4 3 2 p 2 0
/-- R378: CELLAR_p_ARG at that command -/
def cellarWaitArg (p : Nat) : Fld := ix 4 3 3 p 20 0

/-! ### LOGBOOK -/

/-- R381: instant at which the i-th staging cask was taken, ticks -/
def logCaskAt (i : Nat) : Fld := ix 4 17 7 i 72 0
/-- R383: instant of the last TIME record, ticks, plus 1; 0: none -/
def logTimeAt : Fld := ix 4 17 8 0 72 0
/-- R388: kind of the first trigger that coincides with an ARM still to come; 0 none -/
def logDefKind : Fld := ix 4 17 9 0 4 0
/-- R388: its code -/
def logDefCode : Fld := ix 4 17 10 0 16 0
/-- R388: triggers after it that coincide with that ARM -/
def logDefMore : Fld := ix 4 17 11 0 8 0
/-- R383, R384: bit 16 of the open STREAM record of converter i % 4 of Stall i / 4 -/
def strOpen (i : Nat) : Fld := ix 4 17 12 i 1 0
/-- R384: a trigger closed that record -/
def strTrig (i : Nat) : Fld := ix 4 17 13 i 1 0

/-! ### CAN -/

/-- R418: unacknowledged results in the ring -/
def canTxrN (k : Nat) : Fld := ix 4 8 1 k 5 0
/-- R418: consecutive results other than 0 -/
def canFailRun (k : Nat) : Fld := ix 4 8 2 k 5 0
/-- R416: receive error counter -/
def canRec (k : Nat) : Fld := ix 4 8 3 k 9 0
/-- R421: a frame has been dropped since the last entered one -/
def canDropRun (k : Nat) : Fld := ix 4 8 4 k 1 0
/-- R414, R416: instant of the present state's start, ticks -/
def canStateAt (k : Nat) : Fld := ix 4 8 5 k 72 0
/-- R422: instant of the last report of a dominant line, ticks, plus 1; 0 none -/
def canDomAt (k : Nat) : Fld := ix 4 8 6 k 72 0

/-! ### ETH -/

/-- R425: receive buffers held by software -/
def ethRxFill : Fld := ix 4 12 1 0 13 0
/-- R428: 802.1AS time at asAt, ns -/
def asBase : Fld := ix 4 12 2 0 96 0
/-- R428: TB_NOW of the last step or rate change of the 802.1AS time -/
def asAt : Fld := ix 4 12 3 0 72 0
/-- R428: consecutive Syncs within 500 ns -/
def asGood : Fld := ix 4 12 4 0 4 0
/-- R428: instant of the last Sync, ticks -/
def asSyncAt : Fld := ix 4 12 5 0 72 0
/-- R430: entry j of the list waiting for its change time -/
def gclAdm (p j : Nat) : Fld := ix 4 12 6 (((p) * 1024 + j)) 32 0
/-- R430: entries of the waiting list -/
def gclAdmLen (p : Nat) : Fld := ix 4 12 7 p 7 0
/-- R430: cycle time of the waiting list, ns -/
def gclAdmCycle (p : Nat) : Fld := ix 4 12 8 p 32 0
/-- R430: change time of the waiting list, 802.1AS ns -/
def gclAt (p : Nat) : Fld := ix 4 12 9 p 96 0
/-- R430: entries of the list in force -/
def gclLen (p : Nat) : Fld := ix 4 12 10 p 7 0
/-- R430: cycle time of the list in force, ns -/
def gclCycle (p : Nat) : Fld := ix 4 12 11 p 32 0
/-- R430: start of the present cycle, 802.1AS ns -/
def gclCycleAt (p : Nat) : Fld := ix 4 12 12 p 96 0
/-- R430: end of the running entry, 802.1AS ns -/
def gclEnd (p : Nat) : Fld := ix 4 12 13 p 96 0
/-- R430: an abort of APPLY came at or after its change time -/
def gclLate (p : Nat) : Fld := ix 4 12 14 p 1 0
/-- R429: end of the frame on the wire with its gap, ticks -/
def ethTxEnd (p : Nat) : Fld := ix 4 12 15 p 72 0
/-- R427: instant of the last Sync sent, ticks, plus 1; 0 none -/
def asTxAt : Fld := ix 4 12 16 0 72 0

/-! ### CONFIG -/

/-- R442: key bits of slot k as blown, most significant byte first -/
def keyFuse (k : Nat) : Fld := ix 6 14 1 k 256 0
/-- R442: state bits of slot k as blown: 0 none, 1 AES-128, 2 AES-256, 3 hash -/
def keyType (k : Nat) : Fld := ix 6 14 2 k 2 0
/-- R443: key bits of slot k are blown and its state bits are not -/
def keyDamaged (k : Nat) : Fld := ix 6 14 3 k 1 0
/-- R443: revoke fuse of slot k -/
def keyRevoked (k : Nat) : Fld := ix 6 14 4 k 1 0
/-- R442: working copy of slot k's key in shielded SRAM -/
def keyWork (k : Nat) : Fld := ix 4 14 5 k 256 0

/-! ### AUTH -/

/-- R432: word w of the message under check -/
def authSnap (w : Nat) : Fld := ix 4 20 1 w 32 0
/-- R432: reason found by the running check; 0 passed -/
def authReason : Fld := ix 4 20 2 0 4 0
/-- R433: both copies of the freshness record are damaged -/
def authBad : Fld := ix 4 20 3 0 1 0
/-- R435: instant since which every masked Stall reads still, ticks, plus 1; 0 none -/
def authStillAt : Fld := ix 4 20 4 0 72 0
/-- R432: start of the lock, ticks -/
def authLockAt : Fld := ix 4 20 5 0 72 0
/-- R432: start of the running check, ticks -/
def authAt : Fld := ix 4 20 6 0 72 0
/-- R434: instant from which the running second of validity counts, ticks -/
def authSecAt : Fld := ix 5 20 7 0 72 0

/-! ### CONFIG -/

/-- R446: slot k passed the last test of every condition -/
def slotFull (k : Nat) : Fld := ix 4 14 6 k 1 0
/-- R492: slot k failed while it was being loaded in this boot -/
def slotBad (k : Nat) : Fld := ix 4 14 7 k 1 0
/-- R444: blown rollback fuses -/
def rollCount : Fld := ix 6 14 8 0 6 0
/-- R449: source address of the running WRITE -/
def cfgSrc : Fld := ix 4 14 9 0 40 0
/-- R449: length of the running WRITE, bytes -/
def cfgLen : Fld := ix 4 14 10 0 32 0
/-- R449: target slot of the running WRITE -/
def cfgTgt : Fld := ix 4 14 11 0 1 0
/-- R450, R454: instant of the running command, ticks -/
def cfgAt : Fld := ix 4 14 12 0 72 0
/-- R450, R454: instant of the last step of the running WRITE or RECONF, ticks -/
def cfgStepAt : Fld := ix 4 14 13 0 72 0
/-- R450: rows of 4,096 bytes that the running WRITE has programmed -/
def cfgRow : Fld := ix 4 14 14 0 17 0
/-- R454: Stalls isolated by the running RECONF -/
def cfgMask : Fld := ix 4 14 15 0 4 0
/-- R453: source slot of the running RECONF -/
def cfgFrom : Fld := ix 4 14 16 0 1 0
/-- R455, R465: PWM state of Stall n at the start of its isolation -/
def isoPrev (n : Nat) : Fld := ix 4 14 17 n 3 0
/-- R443: slot that verified the image of the running Yard domain, plus 1; 0 none -/
def verKey : Fld := ix 4 14 18 0 4 0
/-- R443: key taken from the cask by the running PROG, most significant byte first -/
def keyPend : Fld := ix 4 14 19 0 256 0
/-- R443: slot of the running key command -/
def keyPendSlot : Fld := ix 4 14 20 0 3 0
/-- R443: state the running PROG blows -/
def keyPendType : Fld := ix 4 14 21 0 2 0
/-- R443: cask of the running PROG -/
def keyPendCask : Fld := ix 4 14 22 0 10 0
/-- R50: an abort came too late: 0 CONFIG_CMD, 1 CONFIG_KEY_CMD, 2 BIST_CMD, 3 SYS_RST_CMD, 4 AUX_COH_CMD -/
def cmdLate (i : Nat) : Fld := ix 4 14 23 i 1 0
/-- R440, R457: word w of the Yard's fabric points -/
def fabYard (w : Nat) : Fld := ix 4 14 24 w 32 0
/-- R440, R457: word w % 32768 of bank w / 32768 % 2 of the fabric points of Stall w / 65536 -/
def fabStall (w : Nat) : Fld := ix 4 14 25 w 32 0
/-- R454: active configuration bank of Stall n -/
def fabBank (n : Nat) : Fld := ix 4 14 26 n 1 0
/-- R489: Stalls whose reset is in progress -/
def stallRst : Fld := ix 4 14 27 0 4 0
/-- R500: the present boot follows a power-on reset -/
def porBoot : Fld := ix 4 14 28 0 1 1
/-- R491: instant of step 1 of the present boot, ticks -/
def bootAt : Fld := ix 4 14 29 0 72 0

/-! ### BIST -/

/-- R461: Stalls of the running retest -/
def bistMask : Fld := ix 4 15 6 0 4 0
/-- R464: instant of the running command, ticks -/
def bistAt : Fld := ix 4 15 7 0 72 0
/-- R470: group g holds Stall n (8: the loop engines by the Remount) -/
def bistHeldGrp (n g : Nat) : Fld := ix 5 15 8 (((n) * 1024 + g)) 1 0
/-- R471: lifecycle fuse CLOSED -/
def dbgClosed : Fld := ix 6 15 9 0 1 0
/-- R464: start of step 4 of the running RETEST, ticks -/
def bistRegAt : Fld := ix 4 15 10 0 72 0
/-- R473: 1 internal scan enabled, 2 a read-back found a word that is not zero -/
def scanOn : Fld := ix 5 15 11 0 2 0
/-- R472: the debug port holds EXTEST -/
def extestOn : Fld := ix 4 15 12 0 1 0
/-- R465: the running retest was aborted before its swap -/
def bistAborted : Fld := ix 4 15 13 0 1 0
/-- R465: the running retest has passed its swap -/
def bistSwapped : Fld := ix 4 15 14 0 1 0

/-! ### REMOUNT -/

/-- R468: the Remount is paired to repair a failed engine -/
def remRepair : Fld := ix 4 18 2 0 1 0

/-! ### CONFIG -/

/-- R491: instant at which the running step of the boot began, ticks, plus 1; 0 before step 1 -/
def bootStepAt : Fld := ix 4 14 30 0 72 0

/-! ### POWER -/

/-- R497: end of step 2 of the running entry, ticks -/
def parkAt : Fld := ix 4 16 1 0 72 0
/-- R480: instant of the last measurement, ticks, plus 1; 0 none -/
def measAt : Fld := ix 4 16 2 0 72 0
/-- R481: VIN has exceeded 31.0 V since the last warning -/
def vinArmed : Fld := ix 4 16 3 0 1 0
/-- R499: 0 powered, 1 switched off, 2 no supply -/
def offState : Fld := ix 6 16 4 0 2 0
/-- R497: instant at which Lantern mode began, ticks -/
def lanternAt : Fld := ix 5 16 5 0 72 0
/-- R497: Lantern mode -/
def lanternOn : Fld := ix 5 16 6 0 1 0
/-- R59: true total less counted ticks, two's complement, sixty-fourths of a tick -/
def lanternAcc : Fld := ix 5 16 7 0 7 0
/-- R497: a wake source that asserted during entry: as POWER_WAKE_STAT.SRC -/
def wakePend : Fld := ix 4 16 8 0 2 0
/-- R482, R486: 1 a device reset, 2 the power-on reset is asserted -/
def resetHeld : Fld := ix 5 16 9 0 2 0
/-- R480: the last die temperature reading lay outside -55 to 200 degrees C -/
def dieBad : Fld := ix 4 16 10 0 1 0
/-- R393: Lantern seconds that the Ledger adds once it is loaded -/
def ledLantern : Fld := ix 5 16 11 0 32 0

/-! ### TIMEBASE -/

/-- R71: consecutive good pulses, up to 8 -/
def tbGood : Fld := ix 4 1 1 0 4 0
/-- R71: consecutive missing or bad pulses, up to 3 -/
def tbBad : Fld := ix 4 1 2 0 2 0
/-- R69: level of SYNC_OUT -/
def syncOut : Fld := ix 4 1 3 0 1 0

/-! ### SHEEPDOG -/

/-- R306: instant of the last accepted kick or of the firmware's start, ticks, plus 1; 0: no kick is awaited -/
def shdKickAt : Fld := ix 4 5 20 0 72 0

/-! ### YOKE -/

/-- R356: accesses of core c that the voter or its own SRAM has seen: its place in the instruction stream -/
def yokeSeq (c : Nat) : Fld := ix 4 4 9 c 72 0
/-- R356: interrupts the voter has recorded -/
def yokeIntN : Fld := ix 4 4 10 0 72 0
/-- R356: place K of recorded interrupt i in the stream, i modulo 2^18 -/
def yokeIntK (i : Nat) : Fld := ix 4 4 11 i 72 0

/-! ### POWER -/

/-- R482, R483, R517: the I/O rail is in band and the power-on reset has been released since: no output is high-impedance -/
def ioUp : Fld := ix 6 16 12 0 1 1

/-! ### SYS -/

/-- R491: ticks from step 3 to step 4, or from step 5 to step 6 -/
def bootWait : Fld := ix 4 0 1 0 20 0

/-! ### BIST -/

/-- R461: groups of the run in progress -/
def bistGrp : Fld := ix 4 15 15 0 9 0
/-- R460: first address of the run's DRAM range -/
def bistLo : Fld := ix 4 15 16 0 40 0
/-- R460: end of the run's DRAM range -/
def bistHi : Fld := ix 4 15 17 0 41 0

/-! ### POS -/

/-- R304: words 8 to 11 of the Sheepdog's snapshot, index w from 0, as at the last trigger -/
def shdLat (n w : Nat) : Fld := ix n 3 54 w 32 0

/-! ### PWM -/

/-- R221: bit 23 of the period in force, where a transition period exceeds the register -/
def pwmPerHi (n : Nat) : Fld := ix n 0 31 0 1 0
/-- R221: bit 23 of the compare in force of half-bridge h, scaled to such a period -/
def pwmCmpHi (n h : Nat) : Fld := ix n 0 32 h 1 0

/-! ### TIMEBASE -/

/-- R62: instant at which placer group k last failed its calibration, ticks -/
def tbCoarseAt (k : Nat) : Fld := ix 4 1 4 k 72 0

/-! ### SENSE -/

/-- R74, R395: the control period of the last trigger has not been evaluated -/
def senOpen (n : Nat) : Fld := ix n 1 33 0 1 0

/-! ### LOOP -/

/-- R199, R383: the control period of the last trigger was skipped in a recovery -/
def loopSkip (n : Nat) : Fld := ix n 4 16 0 1 0

/-! ### POS -/

/-- R147: sector before the last change of the Hall code, plus 1; 0 none since enable -/
def posHallPrev (n : Nat) : Fld := ix n 3 55 0 3 0
/-- R147: instant of that change, ticks, plus 1 -/
def posHallAt (n : Nat) : Fld := ix n 3 56 0 72 0

/-! ### PWM -/

/-- R209: a load has brought a dead time below the floor, and none has brought them all above it since -/
def pwmDtSeen (n : Nat) : Fld := ix n 0 33 0 1 0

/-! ### REIN -/

/-- R246: after a discarded uplink frame, earliest instant of the next start bit, ticks; 0 none -/
def reinHunt (l : Nat) : Fld := ix (l / 3) (linkBlk l) 36 l 72 0

/-! ### LOGBOOK -/

/-- R383, R384: bit 16 of the STREAM record that the last trigger closed -/
def strWas (i : Nat) : Fld := ix 4 17 14 i 1 0
/-- R383, R384: channel of the STREAM record that the last trigger closed -/
def strCh (i : Nat) : Fld := ix 4 17 15 i 4 0
/-- R384: primary raw code of the trigger before the last -/
def strPrev (i : Nat) : Fld := ix 4 17 16 i 16 0

/-! ### SENSE -/

/-- R384: the Stall's trigger before the last, ticks -/
def senTrigPrev (n : Nat) : Fld := ix n 1 34 0 72 0

/-! ### CAN -/

/-- R417: the head of the transmit queue is known to have started on the bus -/
def canStarted (k : Nat) : Fld := ix 4 8 7 k 1 0

/-! ### ETH -/

/-- R427, R428: time that the last Sync of the slave port told, ns -/
def asRxNs : Fld := ix 4 12 17 0 80 0
/-- R427: time that the last Sync and Follow_Up of port p told, ns -/
def asTold (p : Nat) : Fld := ix 4 12 18 p 80 0

end Sys2Proof.Machine.Reg
end

