-- ==== Sys2Proof/Machine/RegStall.lean ====
section
/-!
DEFINITION. Every register field of the Stall blocks, one definition a field, in the order of the spec's register
tables: its address (R35 to R38), its lowest bit, its width and its reset value. `n` is the Stall, `h` the half-bridge,
`c` the converter, `m` the monitor (R13); `l` is a Rein link 0 to 13 and `g` a Rein group (0 to 3 the Stalls, 4 the
AUX block, R273). A name ending in `_ACT` is the read-only active copy of a shadowed field (R6).
-/

namespace Sys2Proof.Machine.Reg


/-! ### LOOP (02_self_timed_execution.md) -/

def LOOP_SLACK_LAST_SLACK (n : Nat) : Fld := ⟨0x41049000 + 0x100000 * n, 0, 24, 0⟩
def LOOP_SLACK_MIN_MIN (n : Nat) : Fld := ⟨0x41049004 + 0x100000 * n, 0, 24, 0x7FFFFF⟩
def LOOP_SLACK_MIN_TB_LO_TB (n : Nat) : Fld := ⟨0x41049008 + 0x100000 * n, 0, 32, 0⟩
def LOOP_SLACK_MIN_TB_HI_TB (n : Nat) : Fld := ⟨0x4104900C + 0x100000 * n, 0, 32, 0⟩
def LOOP_SLACK_WARN_THRESH (n : Nat) : Fld := ⟨0x41049010 + 0x100000 * n, 0, 24, 20⟩
def LOOP_LATE_COUNT_COUNT (n : Nat) : Fld := ⟨0x41049014 + 0x100000 * n, 0, 32, 0⟩
def LOOP_LATE_CFG_LIMIT (n : Nat) : Fld := ⟨0x41049018 + 0x100000 * n, 0, 4, 3⟩
def LOOP_LATE_RUN_RUN (n : Nat) : Fld := ⟨0x4104901C + 0x100000 * n, 0, 5, 0⟩

/-! ### SENSE (03_current_and_voltage_sensing.md) -/

def SENSE_Cc_SEL_CH (n c : Nat) : Fld := ⟨0x41010000 + 0x100000 * n + 0x4 * c, 0, 4, c⟩
def SENSE_Cc_SEL_CH_ACT (n c : Nat) : Fld := ⟨0x41018000 + 0x100000 * n + 0x4 * c, 0, 4, c⟩
def SENSE_CTRL_DERIVE_EN (n : Nat) : Fld := ⟨0x41018100 + 0x100000 * n, 3, 1, 0⟩
def SENSE_CTRL_AUTO_RETURN (n : Nat) : Fld := ⟨0x41018100 + 0x100000 * n, 2, 1, 1⟩
def SENSE_CTRL_XCHK_EN (n : Nat) : Fld := ⟨0x41018100 + 0x100000 * n, 1, 1, 0⟩
def SENSE_CTRL_EN (n : Nat) : Fld := ⟨0x41018100 + 0x100000 * n, 0, 1, 0⟩
def SENSE_Cc_SEQ_POS (n c : Nat) : Fld := ⟨0x41018110 + 0x100000 * n + 0x4 * c, 20, 2, 0⟩
def SENSE_Cc_SEQ_LEN (n c : Nat) : Fld := ⟨0x41018110 + 0x100000 * n + 0x4 * c, 16, 2, 0⟩
def SENSE_Cc_SEQ_E (n c : Nat) : Fld := ⟨0x41018110 + 0x100000 * n + 0x4 * c, 0, 16, 0⟩
/-- DESIGN CHOICE: the spec gives no number for this reset value (log entry 3). -/
def SENSE_Cc_FG_FG (n c : Nat) : Fld := ⟨0x41018120 + 0x100000 * n + 0x4 * c, 0, 24, 0x400000⟩
/-- DESIGN CHOICE: the spec gives no number for this reset value (log entry 3). -/
def SENSE_Cc_FO_FO (n c : Nat) : Fld := ⟨0x41018130 + 0x100000 * n + 0x4 * c, 0, 24, 0⟩
def SENSE_Cc_RAW_CLIP (n c : Nat) : Fld := ⟨0x41018140 + 0x100000 * n + 0x4 * c, 20, 1, 0⟩
def SENSE_Cc_RAW_CH (n c : Nat) : Fld := ⟨0x41018140 + 0x100000 * n + 0x4 * c, 16, 4, 0⟩
def SENSE_Cc_RAW_RAW (n c : Nat) : Fld := ⟨0x41018140 + 0x100000 * n + 0x4 * c, 0, 16, 0⟩
def SENSE_Cc_STAT_XFAIL (n c : Nat) : Fld := ⟨0x41018150 + 0x100000 * n + 0x4 * c, 8, 8, 0⟩
def SENSE_Cc_STAT_FAILED (n c : Nat) : Fld := ⟨0x41018150 + 0x100000 * n + 0x4 * c, 3, 1, 0⟩
def SENSE_Cc_STAT_CHECK (n c : Nat) : Fld := ⟨0x41018150 + 0x100000 * n + 0x4 * c, 2, 1, 0⟩
def SENSE_Cc_STAT_OUT (n c : Nat) : Fld := ⟨0x41018150 + 0x100000 * n + 0x4 * c, 1, 1, 0⟩
def SENSE_Cc_STAT_SPARE (n c : Nat) : Fld := ⟨0x41018150 + 0x100000 * n + 0x4 * c, 0, 1, 0⟩
def SENSE_CHk_UG_UG (n k : Nat) : Fld := ⟨0x41018200 + 0x100000 * n + 0x4 * k, 0, 24, 0x400000⟩
def SENSE_CHk_UO_UO (n k : Nat) : Fld := ⟨0x41018240 + 0x100000 * n + 0x4 * k, 0, 24, 0⟩
def SENSE_CHk_SCALE_SCALE (n k : Nat) : Fld := ⟨0x41018280 + 0x100000 * n + 0x4 * k, 0, 32, 0x3F800000⟩
def SENSE_CHk_COR_COR (n k : Nat) : Fld := ⟨0x410182C0 + 0x100000 * n + 0x4 * k, 0, 24, 0⟩
def SENSE_Qq_CFG_VALID (n q : Nat) : Fld := ⟨0x41018300 + 0x100000 * n + 0x4 * q, 15, 1, 0⟩
def SENSE_Qq_CFG_SUBST (n q : Nat) : Fld := ⟨0x41018300 + 0x100000 * n + 0x4 * q, 14, 1, 0⟩
def SENSE_Qq_CFG_PATH (n q : Nat) : Fld := ⟨0x41018300 + 0x100000 * n + 0x4 * q, 12, 2, 0⟩
def SENSE_Qq_CFG_PL_LIMIT (n q : Nat) : Fld := ⟨0x41018300 + 0x100000 * n + 0x4 * q, 8, 4, 0⟩
def SENSE_Qq_CFG_DERIVE (n q : Nat) : Fld := ⟨0x41018300 + 0x100000 * n + 0x4 * q, 7, 1, 0⟩
def SENSE_Qq_CFG_MODIN (n q : Nat) : Fld := ⟨0x41018300 + 0x100000 * n + 0x4 * q, 4, 3, 7⟩
def SENSE_Qq_CFG_CH (n q : Nat) : Fld := ⟨0x41018300 + 0x100000 * n + 0x4 * q, 0, 4, 0⟩
def SENSE_Qq_PL_ABS_ABS (n q : Nat) : Fld := ⟨0x41018320 + 0x100000 * n + 0x4 * q, 0, 32, 0⟩
def SENSE_Qq_PL_REL_REL (n q : Nat) : Fld := ⟨0x41018340 + 0x100000 * n + 0x4 * q, 0, 32, 0⟩
def SENSE_Qq_PL_STAT_FAILS (n q : Nat) : Fld := ⟨0x41018360 + 0x100000 * n + 0x4 * q, 16, 16, 0⟩
def SENSE_Qq_PL_STAT_RUN (n q : Nat) : Fld := ⟨0x41018360 + 0x100000 * n + 0x4 * q, 0, 4, 0⟩
def SENSE_XCHK_CFG_N (n : Nat) : Fld := ⟨0x41018380 + 0x100000 * n, 16, 4, 3⟩
def SENSE_XCHK_CFG_THR (n : Nat) : Fld := ⟨0x41018380 + 0x100000 * n, 0, 16, 64⟩
def SENSE_XCHK_STAT_MISMATCH (n : Nat) : Fld := ⟨0x41018384 + 0x100000 * n, 0, 4, 0⟩
def SENSE_CAL_CMD_CODE (n : Nat) : Fld := ⟨0x41018390 + 0x100000 * n, 0, 8, 0⟩
def SENSE_CAL_CMD_STATUS (n : Nat) : Fld := ⟨0x41018390 + 0x100000 * n, 8, 3, 0⟩
def SENSE_CAL_CFG_AVG (n : Nat) : Fld := ⟨0x41018394 + 0x100000 * n, 24, 4, 10⟩
def SENSE_CAL_CFG_MODMASK (n : Nat) : Fld := ⟨0x41018394 + 0x100000 * n, 16, 6, 0⟩
def SENSE_CAL_CFG_MASK (n : Nat) : Fld := ⟨0x41018394 + 0x100000 * n, 0, 16, 0⟩
def SENSE_CAL_STEP_STEP (n : Nat) : Fld := ⟨0x41018398 + 0x100000 * n, 0, 2, 0⟩
def SENSE_CAL_STAT_VALID (n : Nat) : Fld := ⟨0x4101839C + 0x100000 * n, 16, 1, 0⟩
def SENSE_CAL_STAT_ERR (n : Nat) : Fld := ⟨0x4101839C + 0x100000 * n, 8, 8, 0⟩
def SENSE_CAL_STAT_PHASE (n : Nat) : Fld := ⟨0x4101839C + 0x100000 * n, 0, 3, 0⟩
def SENSE_CAL_FULLj_FULL (n j : Nat) : Fld := ⟨0x41018400 + 0x100000 * n + 0x4 * j, 0, 32, 0⟩

/-! ### MOD (03_current_and_voltage_sensing.md) -/

def MOD_CTRL_IN_EN (n : Nat) : Fld := ⟨0x41078000 + 0x100000 * n, 16, 6, 0⟩
def MOD_CTRL_CLK_DIV (n : Nat) : Fld := ⟨0x41078000 + 0x100000 * n, 8, 5, 10⟩
def MOD_CTRL_EN (n : Nat) : Fld := ⟨0x41078000 + 0x100000 * n, 0, 1, 0⟩
def MOD_CAPT_TICK (n : Nat) : Fld := ⟨0x41078004 + 0x100000 * n, 6, 4, 0⟩
def MOD_CAPT_FINE (n : Nat) : Fld := ⟨0x41078004 + 0x100000 * n, 0, 6, 0⟩
def MOD_INi_CFG_STUCK_N (n i : Nat) : Fld := ⟨0x41078010 + 0x100000 * n + 0x4 * i, 16, 10, 64⟩
def MOD_INi_CFG_OSR (n i : Nat) : Fld := ⟨0x41078010 + 0x100000 * n + 0x4 * i, 9, 6, 16⟩
def MOD_INi_CFG_DEC (n i : Nat) : Fld := ⟨0x41078010 + 0x100000 * n + 0x4 * i, 0, 9, 64⟩
def MOD_INi_UG_UG (n i : Nat) : Fld := ⟨0x41078030 + 0x100000 * n + 0x4 * i, 0, 24, 0x400000⟩
def MOD_INi_UO_UO (n i : Nat) : Fld := ⟨0x41078050 + 0x100000 * n + 0x4 * i, 0, 24, 0⟩
def MOD_INi_SCALE_SCALE (n i : Nat) : Fld := ⟨0x41078070 + 0x100000 * n + 0x4 * i, 0, 32, 0x3F800000⟩
def MOD_INi_MAIN_VALID (n i : Nat) : Fld := ⟨0x41078090 + 0x100000 * n + 0x4 * i, 16, 1, 0⟩
def MOD_INi_MAIN_RAW (n i : Nat) : Fld := ⟨0x41078090 + 0x100000 * n + 0x4 * i, 0, 16, 0⟩
def MOD_INi_FAST_VALID (n i : Nat) : Fld := ⟨0x410780B0 + 0x100000 * n + 0x4 * i, 16, 1, 0⟩
def MOD_INi_FAST_RAW (n i : Nat) : Fld := ⟨0x410780B0 + 0x100000 * n + 0x4 * i, 0, 16, 0⟩
def MOD_INi_COR_COR (n i : Nat) : Fld := ⟨0x410780D0 + 0x100000 * n + 0x4 * i, 0, 24, 0⟩
def MOD_STAT_CLIP_SEEN (n : Nat) : Fld := ⟨0x410780F0 + 0x100000 * n, 16, 6, 0⟩
def MOD_STAT_STUCK_SEEN (n : Nat) : Fld := ⟨0x410780F0 + 0x100000 * n, 8, 6, 0⟩
def MOD_STAT_STUCK (n : Nat) : Fld := ⟨0x410780F0 + 0x100000 * n, 0, 6, 0⟩

/-! ### MON (04_window_monitors.md) -/

def MON_Mm_THR_HI (n m : Nat) : Fld := ⟨0x41020000 + 0x100000 * n + 0x4 * m, 16, 12, 0xFFF⟩
def MON_Mm_THR_LO (n m : Nat) : Fld := ⟨0x41020000 + 0x100000 * n + 0x4 * m, 0, 12, 0⟩
def MON_Mm_THR_HI_ACT (n m : Nat) : Fld := ⟨0x41028000 + 0x100000 * n + 0x4 * m, 16, 12, 0xFFF⟩
def MON_Mm_THR_LO_ACT (n m : Nat) : Fld := ⟨0x41028000 + 0x100000 * n + 0x4 * m, 0, 12, 0⟩
def MON_Mm_CFG_PERIOD (n m : Nat) : Fld := ⟨0x41028100 + 0x100000 * n + 0x4 * m, 16, 12, 5⟩
def MON_Mm_CFG_HYS (n m : Nat) : Fld := ⟨0x41028100 + 0x100000 * n + 0x4 * m, 8, 8, 0⟩
def MON_Mm_CFG_IN (n m : Nat) : Fld := ⟨0x41028100 + 0x100000 * n + 0x4 * m, 4, 4, 0⟩
def MON_Mm_CFG_SRC (n m : Nat) : Fld := ⟨0x41028100 + 0x100000 * n + 0x4 * m, 3, 1, 0⟩
def MON_Mm_CFG_PROT (n m : Nat) : Fld := ⟨0x41028100 + 0x100000 * n + 0x4 * m, 1, 1, 0⟩
def MON_Mm_CFG_EN (n m : Nat) : Fld := ⟨0x41028100 + 0x100000 * n + 0x4 * m, 0, 1, 0⟩
def MON_Mm_FILT_LATCH (n m : Nat) : Fld := ⟨0x41028130 + 0x100000 * n + 0x4 * m, 16, 2, 0⟩
def MON_Mm_FILT_M (n m : Nat) : Fld := ⟨0x41028130 + 0x100000 * n + 0x4 * m, 8, 5, 1⟩
def MON_Mm_FILT_N (n m : Nat) : Fld := ⟨0x41028130 + 0x100000 * n + 0x4 * m, 0, 5, 1⟩
def MON_Mm_HARD_HEN (n m : Nat) : Fld := ⟨0x41028160 + 0x100000 * n + 0x4 * m, 28, 1, 0⟩
def MON_Mm_HARD_HHI (n m : Nat) : Fld := ⟨0x41028160 + 0x100000 * n + 0x4 * m, 16, 12, 0xFFF⟩
def MON_Mm_HARD_HN (n m : Nat) : Fld := ⟨0x41028160 + 0x100000 * n + 0x4 * m, 12, 2, 0⟩
def MON_Mm_HARD_HLO (n m : Nat) : Fld := ⟨0x41028160 + 0x100000 * n + 0x4 * m, 0, 12, 0⟩
def MON_Mm_ROUTE_SHD (n m : Nat) : Fld := ⟨0x41028190 + 0x100000 * n + 0x4 * m, 8, 1, 0⟩
def MON_Mm_ROUTE_TRIP (n m : Nat) : Fld := ⟨0x41028190 + 0x100000 * n + 0x4 * m, 0, 4, 0⟩
def MON_Mm_STAT_TRIPS (n m : Nat) : Fld := ⟨0x410281C0 + 0x100000 * n + 0x4 * m, 16, 16, 0⟩
def MON_Mm_STAT_SPARE (n m : Nat) : Fld := ⟨0x410281C0 + 0x100000 * n + 0x4 * m, 10, 1, 0⟩
def MON_Mm_STAT_FAILED (n m : Nat) : Fld := ⟨0x410281C0 + 0x100000 * n + 0x4 * m, 9, 1, 0⟩
def MON_Mm_STAT_WAKE (n m : Nat) : Fld := ⟨0x410281C0 + 0x100000 * n + 0x4 * m, 8, 1, 0⟩
def MON_Mm_STAT_HARD_SEEN (n m : Nat) : Fld := ⟨0x410281C0 + 0x100000 * n + 0x4 * m, 7, 1, 0⟩
def MON_Mm_STAT_HARD (n m : Nat) : Fld := ⟨0x410281C0 + 0x100000 * n + 0x4 * m, 6, 1, 0⟩
def MON_Mm_STAT_FALL (n m : Nat) : Fld := ⟨0x410281C0 + 0x100000 * n + 0x4 * m, 5, 1, 0⟩
def MON_Mm_STAT_RISE (n m : Nat) : Fld := ⟨0x410281C0 + 0x100000 * n + 0x4 * m, 4, 1, 0⟩
def MON_Mm_STAT_LATCHED (n m : Nat) : Fld := ⟨0x410281C0 + 0x100000 * n + 0x4 * m, 3, 1, 0⟩
def MON_Mm_STAT_OUT (n m : Nat) : Fld := ⟨0x410281C0 + 0x100000 * n + 0x4 * m, 2, 1, 0⟩
def MON_Mm_STAT_STATE (n m : Nat) : Fld := ⟨0x410281C0 + 0x100000 * n + 0x4 * m, 0, 2, 0⟩
def MON_LANTERN_MON (n : Nat) : Fld := ⟨0x41028200 + 0x100000 * n, 2, 4, 0⟩
def MON_LANTERN_EN (n : Nat) : Fld := ⟨0x41028200 + 0x100000 * n, 0, 1, 0⟩
def MON_Mm_HIST_HIST (n m : Nat) : Fld := ⟨0x41028220 + 0x100000 * n + 0x4 * m, 0, 16, 0⟩

/-! ### POS (05_position_and_speed.md) -/

def POS_CTRL_PRB_EN (n : Nat) : Fld := ⟨0x41038000 + 0x100000 * n, 10, 1, 0⟩
def POS_CTRL_SENT_EN (n : Nat) : Fld := ⟨0x41038000 + 0x100000 * n, 9, 1, 0⟩
def POS_CTRL_SAFETY (n : Nat) : Fld := ⟨0x41038000 + 0x100000 * n, 8, 1, 0⟩
def POS_CTRL_INTERP (n : Nat) : Fld := ⟨0x41038000 + 0x100000 * n, 6, 1, 0⟩
def POS_CTRL_EXC_EN (n : Nat) : Fld := ⟨0x41038000 + 0x100000 * n, 5, 1, 0⟩
def POS_CTRL_HALL_EN (n : Nat) : Fld := ⟨0x41038000 + 0x100000 * n, 4, 1, 0⟩
def POS_CTRL_PRIM (n : Nat) : Fld := ⟨0x41038000 + 0x100000 * n, 1, 3, 0⟩
def POS_CTRL_EN (n : Nat) : Fld := ⟨0x41038000 + 0x100000 * n, 0, 1, 0⟩
def POS_SCALE_RATIO (n : Nat) : Fld := ⟨0x41038004 + 0x100000 * n, 0, 6, 1⟩
def POS_OFFSET_OFS (n : Nat) : Fld := ⟨0x41038008 + 0x100000 * n, 0, 16, 0⟩
def POS_STAT_EXC_FAULT (n : Nat) : Fld := ⟨0x4103800C + 0x100000 * n, 6, 1, 0⟩
def POS_STAT_CFG_ERR (n : Nat) : Fld := ⟨0x4103800C + 0x100000 * n, 5, 1, 0⟩
def POS_STAT_LOS_SEEN (n : Nat) : Fld := ⟨0x4103800C + 0x100000 * n, 4, 1, 0⟩
def POS_STAT_HOMED (n : Nat) : Fld := ⟨0x4103800C + 0x100000 * n, 3, 1, 0⟩
def POS_STAT_SFAIL (n : Nat) : Fld := ⟨0x4103800C + 0x100000 * n, 2, 1, 0⟩
def POS_STAT_SRC (n : Nat) : Fld := ⟨0x4103800C + 0x100000 * n, 0, 2, 0⟩
def POS_ANG_QUAL (n : Nat) : Fld := ⟨0x41038010 + 0x100000 * n, 16, 2, 0⟩
def POS_ANG_ANGLE (n : Nat) : Fld := ⟨0x41038010 + 0x100000 * n, 0, 16, 0⟩
def POS_SANG_ANGLE (n : Nat) : Fld := ⟨0x41038014 + 0x100000 * n, 0, 16, 0⟩
def POS_SPD_SPD (n : Nat) : Fld := ⟨0x41038018 + 0x100000 * n, 0, 32, 0⟩
def POS_SPD_STAT_MODE (n : Nat) : Fld := ⟨0x41038020 + 0x100000 * n, 3, 2, 0⟩
def POS_SPD_STAT_DIR (n : Nat) : Fld := ⟨0x41038020 + 0x100000 * n, 2, 1, 0⟩
def POS_SPD_STAT_STILL (n : Nat) : Fld := ⟨0x41038020 + 0x100000 * n, 1, 1, 1⟩
def POS_SPD_STAT_VALID (n : Nat) : Fld := ⟨0x41038020 + 0x100000 * n, 0, 1, 1⟩
def POS_SPD_CFG_STILL_TO (n : Nat) : Fld := ⟨0x41038024 + 0x100000 * n, 16, 16, 0x1F4⟩
def POS_SPD_CFG_FN (n : Nat) : Fld := ⟨0x41038024 + 0x100000 * n, 4, 12, 200⟩
def POS_SPD_CFG_OBS_N (n : Nat) : Fld := ⟨0x41038024 + 0x100000 * n, 0, 4, 4⟩
def POS_STILL_THR_THR (n : Nat) : Fld := ⟨0x41038028 + 0x100000 * n, 0, 32, 0x41200000⟩
def POS_TRAVEL_LO_TRAVEL (n : Nat) : Fld := ⟨0x41038030 + 0x100000 * n, 0, 32, 0⟩
def POS_TRAVEL_HI_TRAVEL (n : Nat) : Fld := ⟨0x41038034 + 0x100000 * n, 0, 16, 0⟩
def POS_TRAVEL_MIN_LO_MIN (n : Nat) : Fld := ⟨0x41038038 + 0x100000 * n, 0, 32, 0⟩
def POS_TRAVEL_MIN_HI_MIN (n : Nat) : Fld := ⟨0x4103803C + 0x100000 * n, 0, 16, 0x8000⟩
def POS_TRAVEL_MAX_LO_MAX (n : Nat) : Fld := ⟨0x41038040 + 0x100000 * n, 0, 32, 0xFFFFFFFF⟩
def POS_TRAVEL_MAX_HI_MAX (n : Nat) : Fld := ⟨0x41038044 + 0x100000 * n, 0, 16, 0x7FFF⟩
def POS_TRAVEL_STAT_SAT_SEEN (n : Nat) : Fld := ⟨0x41038048 + 0x100000 * n, 2, 1, 0⟩
def POS_TRAVEL_STAT_AT_MAX (n : Nat) : Fld := ⟨0x41038048 + 0x100000 * n, 1, 1, 0⟩
def POS_TRAVEL_STAT_AT_MIN (n : Nat) : Fld := ⟨0x41038048 + 0x100000 * n, 0, 1, 0⟩
def POS_RES_EXC_AMP (n : Nat) : Fld := ⟨0x41038050 + 0x100000 * n, 16, 5, 0⟩
def POS_RES_EXC_PER (n : Nat) : Fld := ⟨0x41038050 + 0x100000 * n, 0, 16, 0x4E20⟩
def POS_RES_PHASE_AUTOPH (n : Nat) : Fld := ⟨0x41038054 + 0x100000 * n, 16, 1, 0⟩
def POS_RES_PHASE_PHASE (n : Nat) : Fld := ⟨0x41038054 + 0x100000 * n, 0, 16, 0⟩
def POS_RES_PHMEAS_PHASE (n : Nat) : Fld := ⟨0x41038058 + 0x100000 * n, 0, 16, 0⟩
def POS_RES_FN_LOSS_N (n : Nat) : Fld := ⟨0x4103805C + 0x100000 * n, 12, 4, 4⟩
def POS_RES_FN_FN (n : Nat) : Fld := ⟨0x4103805C + 0x100000 * n, 0, 12, 0x1F4⟩
def POS_RES_AMP_HI (n : Nat) : Fld := ⟨0x41038060 + 0x100000 * n, 16, 16, 0xFFFF⟩
def POS_RES_AMP_LO (n : Nat) : Fld := ⟨0x41038060 + 0x100000 * n, 0, 16, 0⟩
def POS_RES_AMPMEAS_AMP (n : Nat) : Fld := ⟨0x41038064 + 0x100000 * n, 0, 16, 0⟩
def POS_RES_STAT_CLIP_SEEN (n : Nat) : Fld := ⟨0x41038068 + 0x100000 * n, 3, 1, 0⟩
def POS_RES_STAT_HIGH_SEEN (n : Nat) : Fld := ⟨0x41038068 + 0x100000 * n, 2, 1, 0⟩
def POS_RES_STAT_LOW_SEEN (n : Nat) : Fld := ⟨0x41038068 + 0x100000 * n, 1, 1, 0⟩
def POS_RES_STAT_LOCK (n : Nat) : Fld := ⟨0x41038068 + 0x100000 * n, 0, 1, 0⟩
def POS_ENC_CFG_INV (n : Nat) : Fld := ⟨0x41038070 + 0x100000 * n, 24, 1, 0⟩
def POS_ENC_CFG_ZGATE (n : Nat) : Fld := ⟨0x41038070 + 0x100000 * n, 23, 1, 0⟩
def POS_ENC_CFG_FILT (n : Nat) : Fld := ⟨0x41038070 + 0x100000 * n, 20, 3, 2⟩
def POS_ENC_CFG_CPR (n : Nat) : Fld := ⟨0x41038070 + 0x100000 * n, 0, 20, 0x1000⟩
def POS_ENC_IDX_IDX_TOL (n : Nat) : Fld := ⟨0x41038074 + 0x100000 * n, 0, 16, 0⟩
def POS_ENC_IDXPOS_POS (n : Nat) : Fld := ⟨0x41038078 + 0x100000 * n, 0, 20, 0⟩
def POS_ENC_COUNT_COUNT (n : Nat) : Fld := ⟨0x4103807C + 0x100000 * n, 0, 20, 0⟩
def POS_IDX_DEV_DEV (n : Nat) : Fld := ⟨0x41038080 + 0x100000 * n, 0, 32, 0⟩
def POS_IDX_STAT_MISM (n : Nat) : Fld := ⟨0x41038084 + 0x100000 * n, 16, 16, 0⟩
def POS_IDX_STAT_CORR (n : Nat) : Fld := ⟨0x41038084 + 0x100000 * n, 0, 16, 0⟩
def POS_ENC_ILL_LIMIT (n : Nat) : Fld := ⟨0x41038088 + 0x100000 * n, 16, 10, 8⟩
def POS_ENC_ILL_ILLEGAL (n : Nat) : Fld := ⟨0x41038088 + 0x100000 * n, 0, 16, 0⟩
def POS_HALL_CFG_ILL_TO (n : Nat) : Fld := ⟨0x41038090 + 0x100000 * n, 24, 8, 10⟩
def POS_HALL_CFG_FILT (n : Nat) : Fld := ⟨0x41038090 + 0x100000 * n, 16, 8, 10⟩
def POS_HALL_CFG_OFS (n : Nat) : Fld := ⟨0x41038090 + 0x100000 * n, 0, 16, 0⟩
def POS_HALL_STAT_SKIP (n : Nat) : Fld := ⟨0x41038094 + 0x100000 * n, 16, 16, 0⟩
def POS_HALL_STAT_ILL (n : Nat) : Fld := ⟨0x41038094 + 0x100000 * n, 8, 8, 0⟩
def POS_HALL_STAT_ILLNOW (n : Nat) : Fld := ⟨0x41038094 + 0x100000 * n, 3, 1, 0⟩
def POS_HALL_STAT_CODE (n : Nat) : Fld := ⟨0x41038094 + 0x100000 * n, 0, 3, 0⟩
def POS_SSI_CFG_PAR (n : Nat) : Fld := ⟨0x410380A0 + 0x100000 * n, 22, 1, 0⟩
def POS_SSI_CFG_ERRB (n : Nat) : Fld := ⟨0x410380A0 + 0x100000 * n, 21, 1, 0⟩
def POS_SSI_CFG_GRAY (n : Nat) : Fld := ⟨0x410380A0 + 0x100000 * n, 20, 1, 0⟩
def POS_SSI_CFG_ST (n : Nat) : Fld := ⟨0x410380A0 + 0x100000 * n, 14, 6, 16⟩
def POS_SSI_CFG_BITS (n : Nat) : Fld := ⟨0x410380A0 + 0x100000 * n, 8, 6, 25⟩
def POS_SSI_CFG_DIV (n : Nat) : Fld := ⟨0x410380A0 + 0x100000 * n, 0, 8, 20⟩
def POS_SSI_TIM_JUMP (n : Nat) : Fld := ⟨0x410380A4 + 0x100000 * n, 20, 12, 0x100⟩
def POS_SSI_TIM_ERR_N (n : Nat) : Fld := ⟨0x410380A4 + 0x100000 * n, 16, 4, 3⟩
def POS_SSI_TIM_DLY (n : Nat) : Fld := ⟨0x410380A4 + 0x100000 * n, 8, 8, 0⟩
def POS_SSI_TIM_MONO (n : Nat) : Fld := ⟨0x410380A4 + 0x100000 * n, 0, 8, 20⟩
def POS_SSI_RAW_RAW (n : Nat) : Fld := ⟨0x410380A8 + 0x100000 * n, 0, 32, 0⟩
def POS_SSI_STAT_SKIP (n : Nat) : Fld := ⟨0x410380AC + 0x100000 * n, 16, 16, 0⟩
def POS_SSI_STAT_ERRS (n : Nat) : Fld := ⟨0x410380AC + 0x100000 * n, 0, 16, 0⟩
def POS_XCHK_N (n : Nat) : Fld := ⟨0x410380B0 + 0x100000 * n, 20, 4, 3⟩
def POS_XCHK_TOL (n : Nat) : Fld := ⟨0x410380B0 + 0x100000 * n, 4, 16, 0xE39⟩
def POS_XCHK_SRC (n : Nat) : Fld := ⟨0x410380B0 + 0x100000 * n, 0, 2, 0⟩
def POS_XCHK_STAT_MISM (n : Nat) : Fld := ⟨0x410380B4 + 0x100000 * n, 16, 1, 0⟩
def POS_XCHK_STAT_DIFF (n : Nat) : Fld := ⟨0x410380B4 + 0x100000 * n, 0, 16, 0⟩
def POS_BEMF_RS_RS (n : Nat) : Fld := ⟨0x410380C0 + 0x100000 * n, 0, 32, 0⟩
def POS_BEMF_LS_LS (n : Nat) : Fld := ⟨0x410380C4 + 0x100000 * n, 0, 32, 0⟩
def POS_BEMF_TAKE_TAKE (n : Nat) : Fld := ⟨0x410380C8 + 0x100000 * n, 0, 32, 0x7F800000⟩
def POS_BEMF_EMIN_EMIN (n : Nat) : Fld := ⟨0x410380CC + 0x100000 * n, 0, 32, 0⟩
def POS_BEMF_CFG_EN (n : Nat) : Fld := ⟨0x410380D0 + 0x100000 * n, 22, 1, 0⟩
def POS_BEMF_CFG_DIFF_N (n : Nat) : Fld := ⟨0x410380D0 + 0x100000 * n, 18, 4, 8⟩
def POS_BEMF_CFG_HYS (n : Nat) : Fld := ⟨0x410380D0 + 0x100000 * n, 12, 6, 20⟩
def POS_BEMF_CFG_FN (n : Nat) : Fld := ⟨0x410380D0 + 0x100000 * n, 0, 12, 100⟩
def POS_BEMF_TOL_TOL (n : Nat) : Fld := ⟨0x410380D4 + 0x100000 * n, 0, 16, 0x1555⟩
def POS_BEMF_STAT_QUAL (n : Nat) : Fld := ⟨0x410380D8 + 0x100000 * n, 16, 1, 0⟩
def POS_BEMF_STAT_ANGLE (n : Nat) : Fld := ⟨0x410380D8 + 0x100000 * n, 0, 16, 0⟩
def POS_BEMF_DIFF_DIFF (n : Nat) : Fld := ⟨0x410380DC + 0x100000 * n, 0, 16, 0⟩
def POS_BEMF_SPD_SPD (n : Nat) : Fld := ⟨0x410380E0 + 0x100000 * n, 0, 32, 0⟩
def POS_PRB_CFG_FILT (n : Nat) : Fld := ⟨0x410380F0 + 0x100000 * n, 2, 8, 4⟩
def POS_PRB_CFG_EDGE (n : Nat) : Fld := ⟨0x410380F0 + 0x100000 * n, 0, 2, 0⟩
def POS_PRB_STAT_MISS (n : Nat) : Fld := ⟨0x410380F4 + 0x100000 * n, 16, 16, 0⟩
def POS_PRB_STAT_FULL (n : Nat) : Fld := ⟨0x410380F4 + 0x100000 * n, 0, 1, 0⟩
def POS_PRB_TB_LO_TB (n : Nat) : Fld := ⟨0x410380F8 + 0x100000 * n, 0, 32, 0⟩
def POS_PRB_TB_HI_TB (n : Nat) : Fld := ⟨0x410380FC + 0x100000 * n, 0, 32, 0⟩
def POS_PRB_ANG_FRAC (n : Nat) : Fld := ⟨0x41038100 + 0x100000 * n, 24, 8, 0⟩
def POS_PRB_ANG_ANGLE (n : Nat) : Fld := ⟨0x41038100 + 0x100000 * n, 0, 16, 0⟩
def POS_PRB_TRAVEL_LO_TRAVEL (n : Nat) : Fld := ⟨0x41038104 + 0x100000 * n, 0, 32, 0⟩
def POS_PRB_TRAVEL_HI_TRAVEL (n : Nat) : Fld := ⟨0x41038108 + 0x100000 * n, 0, 16, 0⟩
def SENT_CFG_SLOW_EN (n : Nat) : Fld := ⟨0x41038200 + 0x100000 * n, 14, 1, 0⟩
def SENT_CFG_PAUSE (n : Nat) : Fld := ⟨0x41038200 + 0x100000 * n, 13, 1, 0⟩
def SENT_CFG_CRCM (n : Nat) : Fld := ⟨0x41038200 + 0x100000 * n, 12, 1, 1⟩
def SENT_CFG_DN (n : Nat) : Fld := ⟨0x41038200 + 0x100000 * n, 9, 3, 6⟩
def SENT_TICK_TICK (n : Nat) : Fld := ⟨0x41038204 + 0x100000 * n, 0, 10, 30⟩
def SENT_TO_TO (n : Nat) : Fld := ⟨0x41038208 + 0x100000 * n, 0, 16, 0x7D0⟩
def SENT_FAST_STATUS (n : Nat) : Fld := ⟨0x4103820C + 0x100000 * n, 24, 4, 0⟩
def SENT_FAST_DATA (n : Nat) : Fld := ⟨0x4103820C + 0x100000 * n, 0, 24, 0⟩
def SENT_FAST_TB_LO_TB (n : Nat) : Fld := ⟨0x41038210 + 0x100000 * n, 0, 32, 0⟩
def SENT_FAST_TB_HI_TB (n : Nat) : Fld := ⟨0x41038214 + 0x100000 * n, 0, 32, 0⟩
def SENT_SLOW_C (n : Nat) : Fld := ⟨0x41038218 + 0x100000 * n, 24, 1, 0⟩
def SENT_SLOW_ID (n : Nat) : Fld := ⟨0x41038218 + 0x100000 * n, 16, 8, 0⟩
def SENT_SLOW_DATA (n : Nat) : Fld := ⟨0x41038218 + 0x100000 * n, 0, 16, 0⟩
def SENT_STAT_OVR (n : Nat) : Fld := ⟨0x4103821C + 0x100000 * n, 8, 8, 0⟩
def SENT_STAT_NEW_SLOW (n : Nat) : Fld := ⟨0x4103821C + 0x100000 * n, 2, 1, 0⟩
def SENT_STAT_NEW_FAST (n : Nat) : Fld := ⟨0x4103821C + 0x100000 * n, 1, 1, 0⟩
def SENT_STAT_LOST (n : Nat) : Fld := ⟨0x4103821C + 0x100000 * n, 0, 1, 0⟩
def SENT_ERR_SCRC (n : Nat) : Fld := ⟨0x41038220 + 0x100000 * n, 24, 8, 0⟩
def SENT_ERR_CRC (n : Nat) : Fld := ⟨0x41038220 + 0x100000 * n, 16, 8, 0⟩
def SENT_ERR_NIB (n : Nat) : Fld := ⟨0x41038220 + 0x100000 * n, 8, 8, 0⟩
def SENT_ERR_SYNC (n : Nat) : Fld := ⟨0x41038220 + 0x100000 * n, 0, 8, 0⟩
def SENT_ANG_OFS (n : Nat) : Fld := ⟨0x41038224 + 0x100000 * n, 16, 16, 0⟩
def SENT_ANG_LAT (n : Nat) : Fld := ⟨0x41038224 + 0x100000 * n, 8, 8, 0⟩
def SENT_ANG_RATIO (n : Nat) : Fld := ⟨0x41038224 + 0x100000 * n, 0, 6, 0⟩

/-! ### LOOP (06_loop_engine.md) -/

def LOOP_ID_REF_REF (n : Nat) : Fld := ⟨0x41040000 + 0x100000 * n, 0, 32, 0⟩
def LOOP_ID_REF_REF_ACT (n : Nat) : Fld := ⟨0x41048000 + 0x100000 * n, 0, 32, 0⟩
def LOOP_IQ_REF_REF (n : Nat) : Fld := ⟨0x41040004 + 0x100000 * n, 0, 32, 0⟩
def LOOP_IQ_REF_REF_ACT (n : Nat) : Fld := ⟨0x41048004 + 0x100000 * n, 0, 32, 0⟩
def LOOP_W_REF_REF (n : Nat) : Fld := ⟨0x41040008 + 0x100000 * n, 0, 32, 0⟩
def LOOP_W_REF_REF_ACT (n : Nat) : Fld := ⟨0x41048008 + 0x100000 * n, 0, 32, 0⟩
def LOOP_A_REF_REF (n : Nat) : Fld := ⟨0x4104000C + 0x100000 * n, 0, 32, 0⟩
def LOOP_A_REF_REF_ACT (n : Nat) : Fld := ⟨0x4104800C + 0x100000 * n, 0, 32, 0⟩
def LOOP_CMD_CODE (n : Nat) : Fld := ⟨0x41048100 + 0x100000 * n, 0, 8, 0⟩
def LOOP_CMD_STATUS (n : Nat) : Fld := ⟨0x41048100 + 0x100000 * n, 8, 3, 0⟩
def LOOP_STAT_FERR (n : Nat) : Fld := ⟨0x41048104 + 0x100000 * n, 11, 1, 0⟩
def LOOP_STAT_B_FAILED (n : Nat) : Fld := ⟨0x41048104 + 0x100000 * n, 10, 1, 0⟩
def LOOP_STAT_A_FAILED (n : Nat) : Fld := ⟨0x41048104 + 0x100000 * n, 9, 1, 0⟩
def LOOP_STAT_SHADOW (n : Nat) : Fld := ⟨0x41048104 + 0x100000 * n, 8, 1, 0⟩
def LOOP_STAT_ENG_R (n : Nat) : Fld := ⟨0x41048104 + 0x100000 * n, 7, 1, 0⟩
def LOOP_STAT_ENG_B (n : Nat) : Fld := ⟨0x41048104 + 0x100000 * n, 6, 1, 1⟩
def LOOP_STAT_ENG_A (n : Nat) : Fld := ⟨0x41048104 + 0x100000 * n, 5, 1, 1⟩
def LOOP_STAT_PSET (n : Nat) : Fld := ⟨0x41048104 + 0x100000 * n, 4, 1, 0⟩
def LOOP_STAT_VSAT (n : Nat) : Fld := ⟨0x41048104 + 0x100000 * n, 3, 1, 0⟩
def LOOP_STAT_STATE (n : Nat) : Fld := ⟨0x41048104 + 0x100000 * n, 0, 3, 0⟩
def LOOP_LAW_CFG_OVM_EN (n : Nat) : Fld := ⟨0x4104810C + 0x100000 * n, 1, 1, 0⟩
def LOOP_LAW_CFG_SPD_EN (n : Nat) : Fld := ⟨0x4104810C + 0x100000 * n, 0, 1, 0⟩
def LOOP_ID_MEAS_I (n : Nat) : Fld := ⟨0x41048110 + 0x100000 * n, 0, 32, 0⟩
def LOOP_IQ_MEAS_I (n : Nat) : Fld := ⟨0x41048114 + 0x100000 * n, 0, 32, 0⟩
def LOOP_VD_CMD_V (n : Nat) : Fld := ⟨0x41048118 + 0x100000 * n, 0, 32, 0⟩
def LOOP_VQ_CMD_V (n : Nat) : Fld := ⟨0x4104811C + 0x100000 * n, 0, 32, 0⟩
def LOOP_INT_D_I (n : Nat) : Fld := ⟨0x41048120 + 0x100000 * n, 0, 32, 0⟩
def LOOP_INT_Q_I (n : Nat) : Fld := ⟨0x41048124 + 0x100000 * n, 0, 32, 0⟩
def LOOP_INT_W_I (n : Nat) : Fld := ⟨0x41048128 + 0x100000 * n, 0, 32, 0⟩
def LOOP_IQ_SPD_I (n : Nat) : Fld := ⟨0x4104812C + 0x100000 * n, 0, 32, 0⟩
def LOOP_FERR_STAT_EXCEED (n : Nat) : Fld := ⟨0x41048130 + 0x100000 * n, 16, 16, 0⟩
def LOOP_FERR_STAT_TIME (n : Nat) : Fld := ⟨0x41048130 + 0x100000 * n, 0, 16, 0⟩
def LOOP_MIS_STAT_MISMATCH (n : Nat) : Fld := ⟨0x41048140 + 0x100000 * n, 16, 16, 0⟩
def LOOP_MIS_STAT_SKIP (n : Nat) : Fld := ⟨0x41048140 + 0x100000 * n, 0, 16, 0⟩
def LOOP_RCV_STAT_LAST (n : Nat) : Fld := ⟨0x41048144 + 0x100000 * n, 0, 4, 0⟩
def LOOP_RCV_TIME_MAX (n : Nat) : Fld := ⟨0x41048148 + 0x100000 * n, 16, 16, 0⟩
def LOOP_RCV_TIME_LAST (n : Nat) : Fld := ⟨0x41048148 + 0x100000 * n, 0, 16, 0⟩
def LOOP_GAP_MAX (n : Nat) : Fld := ⟨0x4104814C + 0x100000 * n, 16, 16, 0⟩
def LOOP_GAP_LAST (n : Nat) : Fld := ⟨0x4104814C + 0x100000 * n, 0, 16, 0⟩
def LOOP_REJOIN_N (n : Nat) : Fld := ⟨0x41048150 + 0x100000 * n, 16, 16, 0x1000⟩
def LOOP_REJOIN_MAXFAIL (n : Nat) : Fld := ⟨0x41048150 + 0x100000 * n, 8, 8, 4⟩
def LOOP_REJOIN_FAILS (n : Nat) : Fld := ⟨0x41048150 + 0x100000 * n, 0, 8, 0⟩
def LOOP_DTC_h_G (n h : Nat) : Fld := ⟨0x41048160 + 0x100000 * n + 0x4 * h, 0, 32, 0⟩
def LOOP_DTA_h_DT (n h : Nat) : Fld := ⟨0x41048170 + 0x100000 * n + 0x4 * h, 0, 16, 0⟩
def LOOP_Pb_GT_XMAX_D_X (n b : Nat) : Fld := ⟨0x4104A000 + 0x100000 * n + 0x800 * b, 0, 32, 0x3F800000⟩
def LOOP_Pb_GT_XMAX_Q_X (n b : Nat) : Fld := ⟨0x4104A004 + 0x100000 * n + 0x800 * b, 0, 32, 0x3F800000⟩
def LOOP_Pb_AW_AW (n b : Nat) : Fld := ⟨0x4104A008 + 0x100000 * n + 0x800 * b, 0, 32, 0⟩
def LOOP_Pb_ILIM_D_L (n b : Nat) : Fld := ⟨0x4104A00C + 0x100000 * n + 0x800 * b, 0, 32, 0⟩
def LOOP_Pb_ILIM_Q_L (n b : Nat) : Fld := ⟨0x4104A010 + 0x100000 * n + 0x800 * b, 0, 32, 0⟩
def LOOP_Pb_LD_LD (n b : Nat) : Fld := ⟨0x4104A014 + 0x100000 * n + 0x800 * b, 0, 32, 0x3F800000⟩
def LOOP_Pb_LQ_LQ (n b : Nat) : Fld := ⟨0x4104A018 + 0x100000 * n + 0x800 * b, 0, 32, 0x3F800000⟩
def LOOP_Pb_PSI_PSI (n b : Nat) : Fld := ⟨0x4104A01C + 0x100000 * n + 0x800 * b, 0, 32, 0⟩
def LOOP_Pb_MMAX_M (n b : Nat) : Fld := ⟨0x4104A020 + 0x100000 * n + 0x800 * b, 0, 32, 0x3F800000⟩
def LOOP_Pb_VDC_MIN_V (n b : Nat) : Fld := ⟨0x4104A024 + 0x100000 * n + 0x800 * b, 0, 32, 0x41200000⟩
def LOOP_Pb_ADV_T (n b : Nat) : Fld := ⟨0x4104A028 + 0x100000 * n + 0x800 * b, 0, 32, 0⟩
def LOOP_Pb_SPD_KP_K (n b : Nat) : Fld := ⟨0x4104A02C + 0x100000 * n + 0x800 * b, 0, 32, 0⟩
def LOOP_Pb_SPD_KI_K (n b : Nat) : Fld := ⟨0x4104A030 + 0x100000 * n + 0x800 * b, 0, 32, 0⟩
def LOOP_Pb_SPD_KA_K (n b : Nat) : Fld := ⟨0x4104A034 + 0x100000 * n + 0x800 * b, 0, 32, 0⟩
def LOOP_Pb_IQ_MAX_I (n b : Nat) : Fld := ⟨0x4104A038 + 0x100000 * n + 0x800 * b, 0, 32, 0⟩
def LOOP_Pb_FERR_LIM_I (n b : Nat) : Fld := ⟨0x4104A03C + 0x100000 * n + 0x800 * b, 0, 32, 0⟩
def LOOP_Pb_DTC_T0_T (n b : Nat) : Fld := ⟨0x4104A040 + 0x100000 * n + 0x800 * b, 0, 32, 0⟩
def LOOP_Pb_DTC_BAND_I (n b : Nat) : Fld := ⟨0x4104A044 + 0x100000 * n + 0x800 * b, 0, 32, 0x3F800000⟩
def LOOP_Pb_OVM_M1_M (n b : Nat) : Fld := ⟨0x4104A048 + 0x100000 * n + 0x800 * b, 0, 32, 0x3F800000⟩
def LOOP_Pb_DTA_TARGET_T (n b : Nat) : Fld := ⟨0x4104A04C + 0x100000 * n + 0x800 * b, 0, 32, 0⟩
def LOOP_Pb_DTA_MAX_T (n b : Nat) : Fld := ⟨0x4104A050 + 0x100000 * n + 0x800 * b, 0, 32, 0⟩
def LOOP_Pb_CFG_FERR_T (n b : Nat) : Fld := ⟨0x4104A080 + 0x100000 * n + 0x800 * b, 16, 16, 0⟩
def LOOP_Pb_CFG_DTC_TAU (n b : Nat) : Fld := ⟨0x4104A080 + 0x100000 * n + 0x800 * b, 8, 4, 4⟩
def LOOP_Pb_CFG_GT_IDX (n b : Nat) : Fld := ⟨0x4104A080 + 0x100000 * n + 0x800 * b, 6, 1, 0⟩
def LOOP_Pb_CFG_DTA_EN (n b : Nat) : Fld := ⟨0x4104A080 + 0x100000 * n + 0x800 * b, 5, 1, 0⟩
def LOOP_Pb_CFG_DTC_EN (n b : Nat) : Fld := ⟨0x4104A080 + 0x100000 * n + 0x800 * b, 4, 1, 0⟩
def LOOP_Pb_CFG_DEC_EN (n b : Nat) : Fld := ⟨0x4104A080 + 0x100000 * n + 0x800 * b, 3, 1, 0⟩
def LOOP_Pb_CFG_MOD (n b : Nat) : Fld := ⟨0x4104A080 + 0x100000 * n + 0x800 * b, 0, 3, 0⟩
def LOOP_Pb_GTD_KPj_KP (n b j : Nat) : Fld := ⟨0x4104A400 + 0x100000 * n + 0x800 * b + 0x8 * j, 0, 32, 0⟩
def LOOP_Pb_GTD_KIj_KI (n b j : Nat) : Fld := ⟨0x4104A404 + 0x100000 * n + 0x800 * b + 0x8 * j, 0, 32, 0⟩
def LOOP_Pb_GTQ_KPj_KP (n b j : Nat) : Fld := ⟨0x4104A600 + 0x100000 * n + 0x800 * b + 0x8 * j, 0, 32, 0⟩
def LOOP_Pb_GTQ_KIj_KI (n b j : Nat) : Fld := ⟨0x4104A604 + 0x100000 * n + 0x800 * b + 0x8 * j, 0, 32, 0⟩

/-! ### PWM (07_pwm.md) -/

def PWM_PER_PER (n : Nat) : Fld := ⟨0x41000000 + 0x100000 * n, 0, 23, 0x1F400⟩
def PWM_PER_PER_ACT (n : Nat) : Fld := ⟨0x41008000 + 0x100000 * n, 0, 23, 0x1F400⟩
def PWM_OFFSET_OFS (n : Nat) : Fld := ⟨0x41000004 + 0x100000 * n, 0, 23, 0⟩
def PWM_OFFSET_OFS_ACT (n : Nat) : Fld := ⟨0x41008004 + 0x100000 * n, 0, 23, 0⟩
def PWM_PAIR_OFS_OFS (n : Nat) : Fld := ⟨0x41000008 + 0x100000 * n, 0, 23, 0⟩
def PWM_PAIR_OFS_OFS_ACT (n : Nat) : Fld := ⟨0x41008008 + 0x100000 * n, 0, 23, 0⟩
def PWM_CMPh_CMP (n h : Nat) : Fld := ⟨0x41000010 + 0x100000 * n + 0x4 * h, 0, 23, 0⟩
def PWM_CMPh_CMP_ACT (n h : Nat) : Fld := ⟨0x41008010 + 0x100000 * n + 0x4 * h, 0, 23, 0⟩
def PWM_DTh_DTR (n h : Nat) : Fld := ⟨0x41000020 + 0x100000 * n + 0x4 * h, 16, 16, 0x200⟩
def PWM_DTh_DTF (n h : Nat) : Fld := ⟨0x41000020 + 0x100000 * n + 0x4 * h, 0, 16, 0x200⟩
def PWM_DTh_DTR_ACT (n h : Nat) : Fld := ⟨0x41008020 + 0x100000 * n + 0x4 * h, 16, 16, 0x200⟩
def PWM_DTh_DTF_ACT (n h : Nat) : Fld := ⟨0x41008020 + 0x100000 * n + 0x4 * h, 0, 16, 0x200⟩
def PWM_BLK_C0_C (n : Nat) : Fld := ⟨0x41000030 + 0x100000 * n, 0, 23, 0⟩
def PWM_BLK_C0_C_ACT (n : Nat) : Fld := ⟨0x41008030 + 0x100000 * n, 0, 23, 0⟩
def PWM_BLK_C1_C (n : Nat) : Fld := ⟨0x41000034 + 0x100000 * n, 0, 23, 0⟩
def PWM_BLK_C1_C_ACT (n : Nat) : Fld := ⟨0x41008034 + 0x100000 * n, 0, 23, 0⟩
def PWM_CTRL_CREF (n : Nat) : Fld := ⟨0x41008100 + 0x100000 * n, 10, 3, 0⟩
def PWM_CTRL_PAIR (n : Nat) : Fld := ⟨0x41008100 + 0x100000 * n, 5, 2, 0⟩
def PWM_CTRL_COH (n : Nat) : Fld := ⟨0x41008100 + 0x100000 * n, 4, 1, 0⟩
def PWM_CTRL_LOCK (n : Nat) : Fld := ⟨0x41008100 + 0x100000 * n, 3, 1, 0⟩
def PWM_CTRL_SAMP (n : Nat) : Fld := ⟨0x41008100 + 0x100000 * n, 1, 2, 1⟩
def PWM_CTRL_ALIGN (n : Nat) : Fld := ⟨0x41008100 + 0x100000 * n, 0, 1, 0⟩
def PWM_CMD_CODE (n : Nat) : Fld := ⟨0x41008104 + 0x100000 * n, 0, 8, 0⟩
def PWM_CMD_STATUS (n : Nat) : Fld := ⟨0x41008104 + 0x100000 * n, 8, 3, 0⟩
def PWM_STAT_EN_PIN (n : Nat) : Fld := ⟨0x41008108 + 0x100000 * n, 8, 1, 0⟩
def PWM_STAT_TRANS (n : Nat) : Fld := ⟨0x41008108 + 0x100000 * n, 5, 1, 0⟩
def PWM_STAT_DT_FLOOR (n : Nat) : Fld := ⟨0x41008108 + 0x100000 * n, 4, 1, 0⟩
def PWM_STAT_STATE (n : Nat) : Fld := ⟨0x41008108 + 0x100000 * n, 0, 3, 0⟩
def PWM_LOAD_ARM_ONCE (n : Nat) : Fld := ⟨0x4100810C + 0x100000 * n, 1, 1, 0⟩
def PWM_LOAD_ARM_ARM (n : Nat) : Fld := ⟨0x4100810C + 0x100000 * n, 0, 1, 0⟩
def PWM_MINP_MINP (n : Nat) : Fld := ⟨0x41008110 + 0x100000 * n, 0, 16, 0⟩
def PWM_TRIP_CFG_TRIP (n : Nat) : Fld := ⟨0x41008114 + 0x100000 * n, 0, 32, 0⟩
def PWM_TRIP_STAT_SEEN (n : Nat) : Fld := ⟨0x41008118 + 0x100000 * n, 16, 4, 0⟩
def PWM_TRIP_STAT_PEND (n : Nat) : Fld := ⟨0x41008118 + 0x100000 * n, 12, 4, 0⟩
def PWM_TRIP_STAT_LATCH (n : Nat) : Fld := ⟨0x41008118 + 0x100000 * n, 8, 4, 0⟩
def PWM_TRIP_STAT_FORCE (n : Nat) : Fld := ⟨0x41008118 + 0x100000 * n, 4, 4, 0⟩
def PWM_TRIP_STAT_IN (n : Nat) : Fld := ⟨0x41008118 + 0x100000 * n, 0, 4, 0⟩
def PWM_BLK_CFG_LEN (n : Nat) : Fld := ⟨0x4100811C + 0x100000 * n, 16, 16, 0⟩
def PWM_BLK_CFG_MODE (n : Nat) : Fld := ⟨0x4100811C + 0x100000 * n, 14, 2, 0⟩
def PWM_BLK_CFG_OFF_SRC (n : Nat) : Fld := ⟨0x4100811C + 0x100000 * n, 6, 6, 0⟩
def PWM_BLK_CFG_ON_SRC (n : Nat) : Fld := ⟨0x4100811C + 0x100000 * n, 0, 6, 0⟩
def PWM_GP_CFG_DEF_OFF (n : Nat) : Fld := ⟨0x41008120 + 0x100000 * n, 4, 2, 0⟩
def PWM_GP_CFG_DEF_ON (n : Nat) : Fld := ⟨0x41008120 + 0x100000 * n, 2, 2, 0⟩
def PWM_GP_CFG_EN (n : Nat) : Fld := ⟨0x41008120 + 0x100000 * n, 0, 1, 0⟩
def PWM_GP_ITHR_I (n : Nat) : Fld := ⟨0x41008124 + 0x100000 * n, 0, 30, 0⟩
def PWM_GP_TTHR_T (n : Nat) : Fld := ⟨0x41008128 + 0x100000 * n, 0, 24, 0⟩
def PWM_GP_MAP_ON_MAP (n : Nat) : Fld := ⟨0x4100812C + 0x100000 * n, 0, 32, 0⟩
def PWM_GP_MAP_OFF_MAP (n : Nat) : Fld := ⟨0x41008130 + 0x100000 * n, 0, 32, 0⟩
def PWM_GP_STAT_PREV (n : Nat) : Fld := ⟨0x41008134 + 0x100000 * n, 16, 16, 0⟩
def PWM_GP_STAT_DEF (n : Nat) : Fld := ⟨0x41008134 + 0x100000 * n, 0, 16, 0⟩
def PWM_CAR_FALL (n : Nat) : Fld := ⟨0x41008140 + 0x100000 * n, 31, 1, 0⟩
def PWM_CAR_POS (n : Nat) : Fld := ⟨0x41008140 + 0x100000 * n, 0, 23, 0⟩
def PWM_LINES_CMD (n : Nat) : Fld := ⟨0x41008144 + 0x100000 * n, 8, 6, 0⟩
def PWM_LINES_LINE (n : Nat) : Fld := ⟨0x41008144 + 0x100000 * n, 0, 6, 0⟩
def PWM_CNT_CLAMP_COUNT (n : Nat) : Fld := ⟨0x41008150 + 0x100000 * n, 0, 32, 0⟩
def PWM_CNT_MINP_BRIDGED (n : Nat) : Fld := ⟨0x41008154 + 0x100000 * n, 16, 16, 0⟩
def PWM_CNT_MINP_REMOVED (n : Nat) : Fld := ⟨0x41008154 + 0x100000 * n, 0, 16, 0⟩
def PWM_SHOOT_STAT_COUNT (n : Nat) : Fld := ⟨0x41008158 + 0x100000 * n, 0, 24, 0⟩

/-! ### REIN (08_rein_link.md) -/

def REIN_Lh_STAT_FLAGS (l : Nat) : Fld := ⟨reinBase l + 0x0, 16, 16, 0⟩
def REIN_Lh_STAT_TRAIN (l : Nat) : Fld := ⟨reinBase l + 0x0, 12, 4, 0⟩
def REIN_Lh_STAT_CAUSE (l : Nat) : Fld := ⟨reinBase l + 0x0, 8, 4, 0⟩
def REIN_Lh_STAT_PAT (l : Nat) : Fld := ⟨reinBase l + 0x0, 7, 1, 0⟩
def REIN_Lh_STAT_PAT_SEEN (l : Nat) : Fld := ⟨reinBase l + 0x0, 6, 1, 0⟩
def REIN_Lh_STAT_LOSS_SEEN (l : Nat) : Fld := ⟨reinBase l + 0x0, 5, 1, 0⟩
def REIN_Lh_STAT_STATE (l : Nat) : Fld := ⟨reinBase l + 0x0, 0, 3, 0⟩
def REIN_Lh_VON_SW (l : Nat) : Fld := ⟨reinBase l + 0x4, 16, 1, 0⟩
def REIN_Lh_VON_VON (l : Nat) : Fld := ⟨reinBase l + 0x4, 0, 12, 0⟩
def REIN_Lh_VON_TB_LO_TB (l : Nat) : Fld := ⟨reinBase l + 0x8, 0, 32, 0⟩
def REIN_Lh_VON_TB_HI_TB (l : Nat) : Fld := ⟨reinBase l + 0xC, 0, 32, 0⟩
def REIN_Lh_NTC_NTC (l : Nat) : Fld := ⟨reinBase l + 0x10, 0, 12, 0⟩
def REIN_Lh_DLY_LS_OFF (l : Nat) : Fld := ⟨reinBase l + 0x14, 24, 8, 0⟩
def REIN_Lh_DLY_LS_ON (l : Nat) : Fld := ⟨reinBase l + 0x14, 16, 8, 0⟩
def REIN_Lh_DLY_HS_OFF (l : Nat) : Fld := ⟨reinBase l + 0x14, 8, 8, 0⟩
def REIN_Lh_DLY_HS_ON (l : Nat) : Fld := ⟨reinBase l + 0x14, 0, 8, 0⟩
def REIN_Lh_ECHO_EXP (l : Nat) : Fld := ⟨reinBase l + 0x18, 16, 4, 0⟩
def REIN_Lh_ECHO_ECHO (l : Nat) : Fld := ⟨reinBase l + 0x18, 0, 16, 0⟩
def REIN_Lh_ERR_CRC (l : Nat) : Fld := ⟨reinBase l + 0x1C, 24, 8, 0⟩
def REIN_Lh_ERR_FMT (l : Nat) : Fld := ⟨reinBase l + 0x1C, 16, 8, 0⟩
def REIN_Lh_ERR_SEQ (l : Nat) : Fld := ⟨reinBase l + 0x1C, 8, 8, 0⟩
def REIN_Lh_ERR_DNERR (l : Nat) : Fld := ⟨reinBase l + 0x1C, 0, 8, 0⟩
def REIN_Lh_ECHOERR_COUNT (l : Nat) : Fld := ⟨reinBase l + 0x20, 0, 16, 0⟩
def REIN_Lh_ACC_WR (l : Nat) : Fld := ⟨reinBase l + 0x24, 31, 1, 0⟩
def REIN_Lh_ACC_ADDR (l : Nat) : Fld := ⟨reinBase l + 0x24, 16, 8, 0⟩
def REIN_Lh_ACC_DATA (l : Nat) : Fld := ⟨reinBase l + 0x24, 0, 16, 0⟩
def REIN_Lh_ACC_CMD_CODE (l : Nat) : Fld := ⟨reinBase l + 0x28, 0, 8, 0⟩
def REIN_Lh_ACC_CMD_STATUS (l : Nat) : Fld := ⟨reinBase l + 0x28, 8, 3, 0⟩
def REIN_Lh_ACC_RES_RESULT (l : Nat) : Fld := ⟨reinBase l + 0x2C, 16, 4, 0⟩
def REIN_Lh_ACC_RES_DATA (l : Nat) : Fld := ⟨reinBase l + 0x2C, 0, 16, 0⟩
def REIN_CMD_CODE (g : Nat) : Fld := ⟨reinGroup g, 0, 8, 0⟩
def REIN_CMD_STATUS (g : Nat) : Fld := ⟨reinGroup g, 8, 3, 0⟩
def REIN_CFG_VS_DLS (n : Nat) : Fld := ⟨0x41068C04 + 0x100000 * n, 16, 7, 0⟩
def REIN_CFG_VS_DHS (n : Nat) : Fld := ⟨0x41068C04 + 0x100000 * n, 8, 7, 0⟩
def REIN_CFG_VS_EN (n : Nat) : Fld := ⟨0x41068C04 + 0x100000 * n, 4, 1, 0⟩
def REIN_CFG_UP_TERM (n : Nat) : Fld := ⟨0x41068C04 + 0x100000 * n, 0, 3, 7⟩
def REIN_ERR_CFG_LIMIT (g : Nat) : Fld := ⟨reinGroup g + 8, 8, 8, 16⟩
def REIN_ERR_CFG_ECHO_N (g : Nat) : Fld := ⟨reinGroup g + 8, 0, 4, 3⟩
def REIN_INITj_VALID (g j : Nat) : Fld := ⟨reinGroup g + 0x100 + 4 * j, 31, 1, 0⟩
def REIN_INITj_ADDR (g j : Nat) : Fld := ⟨reinGroup g + 0x100 + 4 * j, 16, 8, 0⟩
def REIN_INITj_DATA (g j : Nat) : Fld := ⟨reinGroup g + 0x100 + 4 * j, 0, 16, 0⟩

/-! ### PROT (09_power_stage_protection.md) -/

def PROT_CMD_CODE (n : Nat) : Fld := ⟨0x41058000 + 0x100000 * n, 0, 8, 0⟩
def PROT_CMD_STATUS (n : Nat) : Fld := ⟨0x41058000 + 0x100000 * n, 8, 3, 0⟩
def PROT_STAT_RREASON (n : Nat) : Fld := ⟨0x41058004 + 0x100000 * n, 28, 4, 0⟩
def PROT_STAT_ROW (n : Nat) : Fld := ⟨0x41058004 + 0x100000 * n, 18, 4, 0⟩
def PROT_STAT_SAFE (n : Nat) : Fld := ⟨0x41058004 + 0x100000 * n, 16, 2, 0⟩
def PROT_STAT_PROV (n : Nat) : Fld := ⟨0x41058004 + 0x100000 * n, 15, 1, 0⟩
def PROT_STAT_SPD_HIGH (n : Nat) : Fld := ⟨0x41058004 + 0x100000 * n, 14, 1, 0⟩
def PROT_STAT_CTC_REQ (n : Nat) : Fld := ⟨0x41058004 + 0x100000 * n, 13, 1, 0⟩
def PROT_STAT_CHOP (n : Nat) : Fld := ⟨0x41058004 + 0x100000 * n, 12, 1, 0⟩
def PROT_STAT_PSF (n : Nat) : Fld := ⟨0x41058004 + 0x100000 * n, 11, 1, 0⟩
def PROT_STAT_EN_PIN (n : Nat) : Fld := ⟨0x41058004 + 0x100000 * n, 10, 1, 0⟩
def PROT_STAT_SHD (n : Nat) : Fld := ⟨0x41058004 + 0x100000 * n, 8, 2, 0⟩
def PROT_STAT_STO (n : Nat) : Fld := ⟨0x41058004 + 0x100000 * n, 7, 1, 0⟩
def PROT_STAT_DEV_SAFE (n : Nat) : Fld := ⟨0x41058004 + 0x100000 * n, 6, 1, 0⟩
def PROT_SAFE_CAUSE_CODE (n : Nat) : Fld := ⟨0x41058008 + 0x100000 * n, 0, 16, 0⟩
def PROT_SAFE_TB_LO_TB (n : Nat) : Fld := ⟨0x41058010 + 0x100000 * n, 0, 32, 0⟩
def PROT_SAFE_TB_HI_TB (n : Nat) : Fld := ⟨0x41058014 + 0x100000 * n, 0, 32, 0⟩
def PROT_PSF_MON (n : Nat) : Fld := ⟨0x41058018 + 0x100000 * n, 16, 12, 0⟩
def PROT_PSF_LINK (n : Nat) : Fld := ⟨0x41058018 + 0x100000 * n, 12, 3, 0⟩
def PROT_PSF_CLRFAIL (n : Nat) : Fld := ⟨0x41058018 + 0x100000 * n, 8, 1, 0⟩
def PROT_PSF_SRC (n : Nat) : Fld := ⟨0x41058018 + 0x100000 * n, 0, 8, 0⟩
def PROT_EN_STAT_LOW_US (n : Nat) : Fld := ⟨0x4105801C + 0x100000 * n, 16, 16, 0⟩
def PROT_EN_STAT_CLEARS (n : Nat) : Fld := ⟨0x4105801C + 0x100000 * n, 8, 8, 0⟩
def PROT_EN_STAT_LAST (n : Nat) : Fld := ⟨0x4105801C + 0x100000 * n, 0, 2, 0⟩
def PROT_SW_STAT_SW (n : Nat) : Fld := ⟨0x41058020 + 0x100000 * n, 0, 12, 0⟩
def PROT_SW_OVR_OVR (n : Nat) : Fld := ⟨0x41058024 + 0x100000 * n, 0, 12, 0⟩
def PROT_POL_DWELL (n : Nat) : Fld := ⟨0x41058030 + 0x100000 * n, 8, 8, 0⟩
def PROT_POL_PREF (n : Nat) : Fld := ⟨0x41058030 + 0x100000 * n, 0, 1, 0⟩
def PROT_SPD_HI_SPD (n : Nat) : Fld := ⟨0x41058034 + 0x100000 * n, 0, 32, 0⟩
def PROT_SPD_LO_SPD (n : Nat) : Fld := ⟨0x41058038 + 0x100000 * n, 0, 32, 0⟩
def PROT_LINK_CFG_GOV (n : Nat) : Fld := ⟨0x41058040 + 0x100000 * n, 13, 1, 0⟩
def PROT_LINK_CFG_MEMBER (n : Nat) : Fld := ⟨0x41058040 + 0x100000 * n, 12, 1, 0⟩
def PROT_LINK_CFG_WARN_EN (n : Nat) : Fld := ⟨0x41058040 + 0x100000 * n, 8, 1, 0⟩
def PROT_LINK_CFG_WARN_MON (n : Nat) : Fld := ⟨0x41058040 + 0x100000 * n, 0, 4, 0⟩
def PROT_CH_TON_TON (n : Nat) : Fld := ⟨0x41058044 + 0x100000 * n, 0, 23, 0⟩
def PROT_DIS_CMD_CODE (n : Nat) : Fld := ⟨0x41058048 + 0x100000 * n, 0, 8, 0⟩
def PROT_DIS_CMD_STATUS (n : Nat) : Fld := ⟨0x41058048 + 0x100000 * n, 8, 3, 0⟩
def PROT_DIS_CFG_TMAX (n : Nat) : Fld := ⟨0x4105804C + 0x100000 * n, 8, 8, 100⟩
def PROT_DIS_CFG_WIND (n : Nat) : Fld := ⟨0x4105804C + 0x100000 * n, 4, 1, 0⟩
def PROT_DIS_CFG_MON (n : Nat) : Fld := ⟨0x4105804C + 0x100000 * n, 0, 4, 0⟩
def PROT_DIS_TON_TON (n : Nat) : Fld := ⟨0x41058050 + 0x100000 * n, 0, 23, 0⟩
def PROT_DIS_C_C (n : Nat) : Fld := ⟨0x41058054 + 0x100000 * n, 0, 32, 0⟩
def PROT_DIS_EMAX_E (n : Nat) : Fld := ⟨0x41058058 + 0x100000 * n, 0, 32, 0⟩
def PROT_DIS_TAU_T (n : Nat) : Fld := ⟨0x4105805C + 0x100000 * n, 0, 32, 0x3F800000⟩
def PROT_DIS_VMAX_V (n : Nat) : Fld := ⟨0x41058060 + 0x100000 * n, 0, 32, 0⟩
def PROT_DIS_ID_I (n : Nat) : Fld := ⟨0x41058064 + 0x100000 * n, 0, 32, 0⟩
/-- DESIGN CHOICE: the spec gives no number for this reset value (log entry 3). -/
def PROT_DIS_EACC_E (n : Nat) : Fld := ⟨0x41058068 + 0x100000 * n, 0, 32, 0⟩
def PROT_DIS_STAT_ERR (n : Nat) : Fld := ⟨0x4105806C + 0x100000 * n, 8, 8, 0⟩
def PROT_DIS_STAT_PATH (n : Nat) : Fld := ⟨0x4105806C + 0x100000 * n, 0, 2, 0⟩
def PROT_TJ_s_VALID (n s : Nat) : Fld := ⟨0x41058080 + 0x100000 * n + 0x4 * s, 16, 1, 0⟩
def PROT_TJ_s_T (n s : Nat) : Fld := ⟨0x41058080 + 0x100000 * n + 0x4 * s, 0, 16, 0⟩
def PROT_TJ_V0_V (n : Nat) : Fld := ⟨0x410580A0 + 0x100000 * n, 0, 32, 0⟩
def PROT_TJ_KV_K (n : Nat) : Fld := ⟨0x410580A4 + 0x100000 * n, 0, 32, 0⟩
def PROT_TJ_R25_R (n : Nat) : Fld := ⟨0x410580A8 + 0x100000 * n, 0, 32, 0⟩
def PROT_TJ_KR_K (n : Nat) : Fld := ⟨0x410580AC + 0x100000 * n, 0, 32, 0⟩
def PROT_TJ_IMIN_I (n : Nat) : Fld := ⟨0x410580B0 + 0x100000 * n, 0, 32, 0x42C80000⟩
def PROT_TJ_CFG_NTC_OFS (n : Nat) : Fld := ⟨0x410580B4 + 0x100000 * n, 24, 8, 20⟩
def PROT_TJ_CFG_BELOW (n : Nat) : Fld := ⟨0x410580B4 + 0x100000 * n, 16, 8, 10⟩
def PROT_TJ_CFG_AGE (n : Nat) : Fld := ⟨0x410580B4 + 0x100000 * n, 8, 8, 10⟩
def PROT_TJ_CFG_BIDIR (n : Nat) : Fld := ⟨0x410580B4 + 0x100000 * n, 4, 1, 0⟩
def PROT_TJ_CFG_TAU (n : Nat) : Fld := ⟨0x410580B4 + 0x100000 * n, 0, 4, 3⟩
def PROT_TJ_CNT_ACC (n : Nat) : Fld := ⟨0x410580B8 + 0x100000 * n, 16, 16, 0⟩
def PROT_TJ_CNT_REJ (n : Nat) : Fld := ⟨0x410580B8 + 0x100000 * n, 0, 16, 0⟩
def PROT_NTC_TABk_T_ODD (n k : Nat) : Fld := ⟨0x410580C0 + 0x100000 * n + 0x4 * k, 16, 16, 0⟩
def PROT_NTC_TABk_T_EVEN (n k : Nat) : Fld := ⟨0x410580C0 + 0x100000 * n + 0x4 * k, 0, 16, 0⟩
def PROT_NTC_h_VALID (n h : Nat) : Fld := ⟨0x410580E0 + 0x100000 * n + 0x4 * h, 16, 1, 0⟩
def PROT_NTC_h_T (n h : Nat) : Fld := ⟨0x410580E0 + 0x100000 * n + 0x4 * h, 0, 16, 0⟩
def PROT_TEMP_TRIP_HYS (n : Nat) : Fld := ⟨0x410580F0 + 0x100000 * n, 16, 8, 10⟩
def PROT_TEMP_TRIP_NTC_TRIP (n : Nat) : Fld := ⟨0x410580F0 + 0x100000 * n, 8, 8, 175⟩
def PROT_TEMP_TRIP_TJ_TRIP (n : Nat) : Fld := ⟨0x410580F0 + 0x100000 * n, 0, 8, 225⟩
def PROT_DR_IMAX_I (n : Nat) : Fld := ⟨0x41058100 + 0x100000 * n, 0, 32, 0x7F800000⟩
def PROT_DR_CFG_FMIN (n : Nat) : Fld := ⟨0x41058104 + 0x100000 * n, 16, 8, 64⟩
def PROT_DR_CFG_T1 (n : Nat) : Fld := ⟨0x41058104 + 0x100000 * n, 8, 8, 210⟩
def PROT_DR_CFG_T0 (n : Nat) : Fld := ⟨0x41058104 + 0x100000 * n, 0, 8, 180⟩
def PROT_DR_OVR_F (n : Nat) : Fld := ⟨0x41058108 + 0x100000 * n, 8, 9, 0x100⟩
def PROT_DR_OVR_MODE (n : Nat) : Fld := ⟨0x41058108 + 0x100000 * n, 0, 2, 0⟩
def PROT_DR_STAT_NTC_FB (n : Nat) : Fld := ⟨0x4105810C + 0x100000 * n, 24, 1, 0⟩
def PROT_DR_STAT_ACTIVE (n : Nat) : Fld := ⟨0x4105810C + 0x100000 * n, 16, 1, 0⟩
def PROT_DR_STAT_FACTOR (n : Nat) : Fld := ⟨0x4105810C + 0x100000 * n, 0, 9, 0x100⟩
def PROT_DR_LIMIT_I (n : Nat) : Fld := ⟨0x41058110 + 0x100000 * n, 0, 32, 0x7F800000⟩

end Sys2Proof.Machine.Reg
end

