-- ==== Sys2Proof/Machine/RegYard.lean ====
section
/-!
DEFINITION. Every register field of the Yard blocks, one definition a field, in the order of the spec's register
tables: its address (R35 to R38), its lowest bit, its width and its reset value. `n` is the Stall, `h` the half-bridge,
`c` the converter, `m` the monitor (R13); `l` is a Rein link 0 to 13 and `g` a Rein group (0 to 3 the Stalls, 4 the
AUX block, R273). A name ending in `_ACT` is the read-only active copy of a shadowed field (R6).
-/

namespace Sys2Proof.Machine.Reg


/-! ### SYS (01_architecture.md) -/

def SYS_EVT_ROUTE_e_INN_EN (e : Nat) : Fld := ⟨0x4000A000 + 0x4 * e, 22, 1, 0⟩
def SYS_EVT_ROUTE_e_INN_LINE (e : Nat) : Fld := ⟨0x4000A000 + 0x4 * e, 16, 6, 0⟩
def SYS_EVT_ROUTE_e_SHD_EN (e : Nat) : Fld := ⟨0x4000A000 + 0x4 * e, 13, 1, 0⟩
def SYS_EVT_ROUTE_e_SHD_LINE (e : Nat) : Fld := ⟨0x4000A000 + 0x4 * e, 8, 5, 0⟩
def SYS_EVT_ROUTE_e_YOKE_EN (e : Nat) : Fld := ⟨0x4000A000 + 0x4 * e, 6, 1, 0⟩
def SYS_EVT_ROUTE_e_YOKE_LINE (e : Nat) : Fld := ⟨0x4000A000 + 0x4 * e, 0, 6, 0⟩
def SYS_YOKE_PEND_LO_PEND : Fld := ⟨0x4000A800, 0, 32, 0⟩
def SYS_YOKE_PEND_HI_PEND : Fld := ⟨0x4000A804, 0, 32, 0⟩
def SYS_SHD_PEND_PEND : Fld := ⟨0x4000A808, 0, 32, 0⟩
def SYS_INN_PEND_LO_PEND : Fld := ⟨0x4000A80C, 0, 32, 0⟩
def SYS_INN_PEND_HI_PEND : Fld := ⟨0x4000A810, 0, 32, 0⟩
def SYS_VIOL_ADDR_LO_ADDR : Fld := ⟨0x4000A820, 0, 32, 0⟩
def SYS_VIOL_ADDR_HI_ADDR : Fld := ⟨0x4000A824, 0, 8, 0⟩
def SYS_VIOL_INFO_VALID : Fld := ⟨0x4000A828, 3, 1, 0⟩
def SYS_VIOL_INFO_WRITE : Fld := ⟨0x4000A828, 2, 1, 0⟩
def SYS_VIOL_INFO_REQ : Fld := ⟨0x4000A828, 0, 2, 0⟩
def SYS_VIOL_COUNT_COUNT : Fld := ⟨0x4000A82C, 0, 16, 0⟩

/-! ### TIMEBASE (02_self_timed_execution.md) -/

def TB_NOW_LO_NOW : Fld := ⟨0x40018000, 0, 32, 0⟩
def TB_NOW_HI_NOW : Fld := ⟨0x40018004, 0, 32, 0⟩
def TB_STATUS_FINE_COARSE : Fld := ⟨0x40018010, 7, 5, 0⟩
def TB_STATUS_SYNC_LOST : Fld := ⟨0x40018010, 6, 1, 0⟩
def TB_STATUS_SYNC_LOCK : Fld := ⟨0x40018010, 5, 1, 0⟩
def TB_STATUS_LANTERN : Fld := ⟨0x40018010, 4, 1, 0⟩
def TB_STATUS_RC_ACTIVE : Fld := ⟨0x40018010, 3, 1, 1⟩
def TB_STATUS_XTAL_LOST : Fld := ⟨0x40018010, 2, 1, 0⟩
def TB_STATUS_XTAL_OK : Fld := ⟨0x40018010, 1, 1, 0⟩
def TB_SYNC_CTRL_DLY : Fld := ⟨0x40018020, 2, 16, 0⟩
def TB_SYNC_CTRL_MODE : Fld := ⟨0x40018020, 0, 2, 0⟩
def TB_EPOCH_LO_EPOCH : Fld := ⟨0x40018028, 0, 32, 0⟩
def TB_EPOCH_HI_EPOCH : Fld := ⟨0x4001802C, 0, 16, 0⟩
def TB_SYNC_CMD_CODE : Fld := ⟨0x40018030, 0, 8, 0⟩
def TB_SYNC_CMD_STATUS : Fld := ⟨0x40018030, 8, 3, 0⟩
def TB_SYNC_ERR_ERR : Fld := ⟨0x40018034, 0, 32, 0⟩
def TB_SYNC_STEER_PPB : Fld := ⟨0x40018038, 0, 32, 0⟩
def TB_FINE_ERRk_ERR (k : Nat) : Fld := ⟨0x40018040 + 0x4 * k, 0, 8, 0⟩

/-! ### REMOUNT (06_loop_engine.md) -/

def REMOUNT_CTRL_EN : Fld := ⟨0x40128000, 0, 1, 1⟩
def REMOUNT_STAT_BUSY : Fld := ⟨0x40128004, 5, 1, 0⟩
def REMOUNT_STAT_FAILED : Fld := ⟨0x40128004, 4, 1, 0⟩
def REMOUNT_STAT_PAIRED : Fld := ⟨0x40128004, 3, 1, 0⟩
def REMOUNT_STAT_STALL : Fld := ⟨0x40128004, 1, 2, 0⟩
def REMOUNT_STAT_HELD : Fld := ⟨0x40128004, 0, 1, 0⟩
def REMOUNT_REQ_REQ : Fld := ⟨0x40128008, 0, 4, 0⟩
def REMOUNT_COUNT_DENIED : Fld := ⟨0x4012800C, 16, 16, 0⟩
def REMOUNT_COUNT_GRANTS : Fld := ⟨0x4012800C, 0, 16, 0⟩

/-! ### AUX (07_pwm.md) -/

def AUX_REF_PER_PER : Fld := ⟨0x40070000, 0, 23, 0x1F400⟩
def AUX_REF_PER_PER_ACT : Fld := ⟨0x40078000, 0, 23, 0x1F400⟩
def AUX_Ak_PER_PER (k : Nat) : Fld := ⟨0x40070010 + 0x10 * k, 0, 23, 0x1F400⟩
def AUX_Ak_PER_PER_ACT (k : Nat) : Fld := ⟨0x40078010 + 0x10 * k, 0, 23, 0x1F400⟩
def AUX_Ak_CMP_CMP (k : Nat) : Fld := ⟨0x40070014 + 0x10 * k, 0, 23, 0⟩
def AUX_Ak_CMP_CMP_ACT (k : Nat) : Fld := ⟨0x40078014 + 0x10 * k, 0, 23, 0⟩
def AUX_REF_CTRL_EN : Fld := ⟨0x40078100, 0, 1, 0⟩
def AUX_COH_MASK_MASK : Fld := ⟨0x40078104, 0, 4, 0⟩
def AUX_COH_CMD_CODE : Fld := ⟨0x40078108, 0, 8, 0⟩
def AUX_COH_CMD_STATUS : Fld := ⟨0x40078108, 8, 3, 0⟩
def AUX_COH_STAT_SKIPPED : Fld := ⟨0x4007810C, 4, 4, 0⟩
def AUX_COH_STAT_LOADED : Fld := ⟨0x4007810C, 0, 4, 0⟩
def AUX_REF_POS_POS : Fld := ⟨0x40078110, 0, 23, 0⟩
def AUX_Ak_CTRL_MINP (k : Nat) : Fld := ⟨0x40078120 + 0x10 * k, 16, 16, 0⟩
def AUX_Ak_CTRL_EN (k : Nat) : Fld := ⟨0x40078120 + 0x10 * k, 0, 1, 0⟩
def AUX_Ak_STAT_DEMANDS (k : Nat) : Fld := ⟨0x40078124 + 0x10 * k, 16, 16, 0⟩
def AUX_Ak_STAT_PIN (k : Nat) : Fld := ⟨0x40078124 + 0x10 * k, 2, 1, 0⟩
def AUX_Ak_STAT_DEMAND (k : Nat) : Fld := ⟨0x40078124 + 0x10 * k, 1, 1, 0⟩
def AUX_Ak_STAT_LINE (k : Nat) : Fld := ⟨0x40078124 + 0x10 * k, 0, 1, 0⟩
def AUX_Ak_CLAMP_COUNT (k : Nat) : Fld := ⟨0x40078128 + 0x10 * k, 0, 32, 0⟩
def AUX_REIN_CFG_VS_D : Fld := ⟨0x40078404, 16, 7, 0⟩
def AUX_REIN_CFG_POFF1 : Fld := ⟨0x40078404, 10, 2, 0⟩
def AUX_REIN_CFG_PON1 : Fld := ⟨0x40078404, 8, 2, 0⟩
def AUX_REIN_CFG_POFF0 : Fld := ⟨0x40078404, 6, 2, 0⟩
def AUX_REIN_CFG_PON0 : Fld := ⟨0x40078404, 4, 2, 0⟩
def AUX_REIN_CFG_VS_EN : Fld := ⟨0x40078404, 3, 1, 0⟩
def AUX_REIN_CFG_UP_TERM : Fld := ⟨0x40078404, 0, 2, 3⟩

/-! ### SHEEPDOG (10_safety_functions.md) -/

def SHD_STAT_CE : Fld := ⟨0x40058000, 16, 16, 0⟩
def SHD_STAT_UE_SEEN : Fld := ⟨0x40058000, 3, 1, 0⟩
def SHD_STAT_OSC_ERR : Fld := ⟨0x40058000, 2, 1, 0⟩
def SHD_STAT_RUN : Fld := ⟨0x40058000, 1, 1, 0⟩
def SHD_STAT_LOADED : Fld := ⟨0x40058000, 0, 1, 0⟩
def SHD_CYCLE_COUNT : Fld := ⟨0x40058004, 0, 32, 0⟩
def SHD_OSC_COUNT : Fld := ⟨0x40058008, 0, 16, 0⟩
def SHD_TQ_n_TQ (n : Nat) : Fld := ⟨0x40058010 + 0x4 * n, 0, 32, 0⟩
def SHD_SPD_n_SPD (n : Nat) : Fld := ⟨0x40058020 + 0x4 * n, 0, 32, 0⟩
def SHD_COVER_DEG : Fld := ⟨0x40058030, 0, 4, 0⟩
def SHD_LAST_CODE : Fld := ⟨0x40058034, 0, 16, 0⟩
def SHD_SNAP_n_w_W (n w : Nat) : Fld := ⟨0x40059000 + 0x40 * n + 0x4 * w, 0, 32, 0⟩

/-! ### SAFETY (10_safety_functions.md) -/

def SAFETY_STAT_STRAP_BOOT : Fld := ⟨0x40068000, 28, 4, 0⟩
def SAFETY_STAT_STRAP : Fld := ⟨0x40068000, 24, 4, 0⟩
def SAFETY_STAT_COPY : Fld := ⟨0x40068000, 5, 1, 0⟩
def SAFETY_STAT_VALID : Fld := ⟨0x40068000, 4, 1, 0⟩
def SAFETY_STAT_MODE : Fld := ⟨0x40068000, 2, 2, 0⟩
def SAFETY_STAT_DS : Fld := ⟨0x40068000, 1, 1, 0⟩
def SAFETY_DS_CAUSE_CODE : Fld := ⟨0x40068004, 0, 16, 0⟩
def SAFETY_DS_TB_LO_TB : Fld := ⟨0x40068008, 0, 32, 0⟩
def SAFETY_DS_TB_HI_TB : Fld := ⟨0x4006800C, 0, 32, 0⟩
def SAFETY_CTRL_DIS_REQ : Fld := ⟨0x40068010, 1, 1, 0⟩
def SAFETY_CTRL_DS_REQ : Fld := ⟨0x40068010, 0, 1, 0⟩
def SAFETY_STALL_CMD_KIND : Fld := ⟨0x40068014, 0, 8, 0⟩
def SAFETY_RAISE_CODE : Fld := ⟨0x40068018, 0, 16, 0⟩
def SAFETY_ACK_CMD_CODE : Fld := ⟨0x4006801C, 0, 8, 0⟩
def SAFETY_ACK_CMD_STATUS : Fld := ⟨0x4006801C, 8, 3, 0⟩
def SAFETY_STO_STAT_SEEN : Fld := ⟨0x40068020, 8, 1, 0⟩
def SAFETY_STO_STAT_ACK_NEED : Fld := ⟨0x40068020, 4, 1, 0⟩
def SAFETY_STO_STAT_DISC : Fld := ⟨0x40068020, 3, 1, 0⟩
def SAFETY_STO_STAT_HOLD : Fld := ⟨0x40068020, 2, 1, 0⟩
def SAFETY_STO_STAT_B : Fld := ⟨0x40068020, 1, 1, 0⟩
def SAFETY_STO_STAT_A : Fld := ⟨0x40068020, 0, 1, 0⟩
def SAFETY_STO_CMD_CODE : Fld := ⟨0x40068024, 0, 8, 0⟩
def SAFETY_STO_CMD_STATUS : Fld := ⟨0x40068024, 8, 3, 0⟩
def SAFETY_TQ_LO_n_LO (n : Nat) : Fld := ⟨0x40068030 + 0x8 * n, 0, 32, 0⟩
def SAFETY_TQ_HI_n_HI (n : Nat) : Fld := ⟨0x40068034 + 0x8 * n, 0, 32, 0⟩
def SAFETY_TQ_AGE_n_AGE (n : Nat) : Fld := ⟨0x40068050 + 0x4 * n, 0, 24, 0⟩
def SAFETY_SS1_CMD_CODE : Fld := ⟨0x40068060, 0, 8, 0⟩
def SAFETY_SS1_CMD_STATUS : Fld := ⟨0x40068060, 8, 3, 0⟩
def SAFETY_SS1_CFG_MASK : Fld := ⟨0x40068064, 0, 4, 0⟩
def SAFETY_SS1_STAT_T_MS : Fld := ⟨0x40068068, 16, 16, 0⟩
def SAFETY_SS1_STAT_HELD : Fld := ⟨0x40068068, 8, 4, 0⟩
def SAFETY_SS1_STAT_ERR : Fld := ⟨0x40068068, 4, 4, 0⟩
def SAFETY_SS1_STAT_PHASE : Fld := ⟨0x40068068, 0, 2, 0⟩
def SAFETY_SS1_TB_LO_TB : Fld := ⟨0x4006806C, 0, 32, 0⟩
def SAFETY_SS1_TB_HI_TB : Fld := ⟨0x40068070, 0, 32, 0⟩
def SAFETY_FN_SEL_n_SLP_EN (n : Nat) : Fld := ⟨0x40068080 + 0x4 * n, 6, 1, 0⟩
def SAFETY_FN_SEL_n_SDI_EN (n : Nat) : Fld := ⟨0x40068080 + 0x4 * n, 5, 1, 0⟩
def SAFETY_FN_SEL_n_SLS_EN (n : Nat) : Fld := ⟨0x40068080 + 0x4 * n, 4, 1, 0⟩
def SAFETY_FN_SEL_n_SET (n : Nat) : Fld := ⟨0x40068080 + 0x4 * n, 0, 2, 0⟩
def SAFETY_FN_STAT_n_VIOL (n : Nat) : Fld := ⟨0x40068090 + 0x4 * n, 4, 3, 0⟩
def SAFETY_FN_STAT_n_ACT (n : Nat) : Fld := ⟨0x40068090 + 0x4 * n, 0, 3, 0⟩
def SAFETY_WD_KICK_TOKEN : Fld := ⟨0x400680A0, 16, 16, 0x5A3C⟩
def SAFETY_WD_KICK_KICK : Fld := ⟨0x400680A0, 0, 16, 0⟩
def SAFETY_WD_STAT_LAST : Fld := ⟨0x400680A4, 0, 16, 0⟩
def SAFETY_SEAL_CMD_CODE : Fld := ⟨0x400680B0, 0, 8, 0⟩
def SAFETY_SEAL_CMD_STATUS : Fld := ⟨0x400680B0, 8, 3, 0⟩
def SAFETY_SEAL_SRC_CASK : Fld := ⟨0x400680B4, 0, 10, 0⟩
def SAFETY_SEAL_STAT_WORD : Fld := ⟨0x400680B8, 16, 16, 0⟩
def SAFETY_SEAL_STAT_ERR : Fld := ⟨0x400680B8, 0, 8, 0⟩
def SAFETY_SEQ_SEQ : Fld := ⟨0x400680BC, 0, 32, 0⟩

/-! ### CONTACTOR (10_safety_functions.md) -/

def CTC_CTRL_CLOSE : Fld := ⟨0x40138000, 0, 4, 0⟩
def CTC_STAT_FORCED : Fld := ⟨0x40138004, 20, 4, 0⟩
def CTC_STAT_REQ : Fld := ⟨0x40138004, 16, 4, 0⟩
def CTC_STAT_MAIN : Fld := ⟨0x40138004, 12, 4, 0⟩
def CTC_STAT_FB : Fld := ⟨0x40138004, 8, 4, 0⟩
def CTC_STAT_OUT : Fld := ⟨0x40138004, 0, 4, 0⟩
def CTC_FAULT_OPENED : Fld := ⟨0x40138008, 12, 4, 0⟩
def CTC_FAULT_NOCLOSE : Fld := ⟨0x40138008, 8, 4, 0⟩
def CTC_FAULT_WELD : Fld := ⟨0x40138008, 0, 4, 0⟩
def CTC_COUNT_k_OPS (k : Nat) : Fld := ⟨0x40138010 + 0x4 * k, 0, 32, 0⟩

/-! ### YOKE (11_yoke.md) -/

def YOKE_CTRL_AUTO : Fld := ⟨0x40048000, 16, 1, 1⟩
def YOKE_CTRL_REMARK : Fld := ⟨0x40048000, 8, 8, 10⟩
def YOKE_CTRL_STAGGER : Fld := ⟨0x40048000, 0, 4, 4⟩
def YOKE_STAT_LOCKSTEP_BROKEN : Fld := ⟨0x40048004, 11, 1, 0⟩
def YOKE_STAT_FAILED : Fld := ⟨0x40048004, 8, 3, 0⟩
def YOKE_STAT_HALTED : Fld := ⟨0x40048004, 4, 3, 0⟩
def YOKE_STAT_MARKED : Fld := ⟨0x40048004, 2, 2, 3⟩
def YOKE_STAT_MODE : Fld := ⟨0x40048004, 0, 2, 0⟩
def YOKE_CMD_CODE : Fld := ⟨0x40048008, 0, 8, 0⟩
def YOKE_CMD_STATUS : Fld := ⟨0x40048008, 8, 3, 0⟩
def YOKE_DIS_INFO_ADDR_HI : Fld := ⟨0x4004800C, 24, 8, 0⟩
def YOKE_DIS_INFO_KIND : Fld := ⟨0x4004800C, 4, 4, 0⟩
def YOKE_DIS_INFO_CORE : Fld := ⟨0x4004800C, 0, 2, 3⟩
def YOKE_DIS_ADDR_ADDR : Fld := ⟨0x40048010, 0, 32, 0⟩
def YOKE_DIS_TB_LO_TB : Fld := ⟨0x40048014, 0, 32, 0⟩
def YOKE_DIS_TB_HI_TB : Fld := ⟨0x40048018, 0, 32, 0⟩
def YOKE_COUNT_RESYNCS : Fld := ⟨0x4004801C, 16, 16, 0⟩
def YOKE_COUNT_DISAGREE : Fld := ⟨0x4004801C, 0, 16, 0⟩
def YOKE_BUF_B2 : Fld := ⟨0x40048020, 10, 5, 0⟩
def YOKE_BUF_B1 : Fld := ⟨0x40048020, 5, 5, 0⟩
def YOKE_BUF_B0 : Fld := ⟨0x40048020, 0, 5, 0⟩
def YOKE_LAG_LAG2 : Fld := ⟨0x40048024, 16, 16, 0⟩
def YOKE_LAG_LAG1 : Fld := ⟨0x40048024, 0, 16, 0⟩
def YOKE_SIG_REQ_SIG : Fld := ⟨0x40048028, 0, 32, 0⟩
def YOKE_TMO_TMO : Fld := ⟨0x4004802C, 0, 16, 200⟩
def YOKE_WD_KICK_TOKEN : Fld := ⟨0x40048030, 16, 16, 0xC35A⟩
def YOKE_WD_KICK_KICK : Fld := ⟨0x40048030, 0, 16, 0⟩
def YOKE_WD_CFG_MAX : Fld := ⟨0x40048034, 16, 16, 0⟩
def YOKE_WD_CFG_MIN : Fld := ⟨0x40048034, 0, 16, 0⟩
def YOKE_RESYNC_STAT_PAUSE : Fld := ⟨0x40048038, 16, 16, 0⟩
def YOKE_RESYNC_STAT_WORDS : Fld := ⟨0x40048038, 0, 16, 0⟩
def YOKE_SRAM_CE_CE : Fld := ⟨0x4004803C, 0, 32, 0⟩
def YOKE_IE_LO_IE : Fld := ⟨0x40048040, 0, 32, 0⟩
def YOKE_IE_HI_IE : Fld := ⟨0x40048044, 0, 32, 0⟩
def YOKE_IRQ_ID_ID : Fld := ⟨0x40048048, 0, 7, 64⟩
def YOKE_TIMECMP_LO_CMP : Fld := ⟨0x40048050, 0, 32, 0xFFFFFFFF⟩
def YOKE_TIMECMP_HI_CMP : Fld := ⟨0x40048054, 0, 32, 0xFFFFFFFF⟩

/-! ### PORTER (12_memory_porter_cellar.md) -/

def PORTER_RANK_RANK : Fld := ⟨0x40020000, 0, 24, 0x124357⟩
def PORTER_RANK_RANK_ACT : Fld := ⟨0x40028000, 0, 24, 0x124357⟩
def PORTER_FAIR_N_N : Fld := ⟨0x40020004, 0, 7, 8⟩
def PORTER_FAIR_N_N_ACT : Fld := ⟨0x40028004, 0, 7, 8⟩
def PORTER_COMMIT_PEND : Fld := ⟨0x40028100, 0, 1, 0⟩
def PORTER_STAT_HOT : Fld := ⟨0x40028104, 4, 1, 0⟩
def PORTER_STAT_HOLDER : Fld := ⟨0x40028104, 0, 4, 15⟩
def PORTER_REQ_REQ : Fld := ⟨0x40028108, 0, 8, 0⟩
def PORTER_PART_YWIN : Fld := ⟨0x4002810C, 16, 5, 0⟩
def PORTER_PART_LOG : Fld := ⟨0x4002810C, 0, 7, 0⟩
def PORTER_ECC_UE_VALID : Fld := ⟨0x40028110, 16, 1, 0⟩
def PORTER_ECC_CE : Fld := ⟨0x40028110, 0, 16, 0⟩
def PORTER_UE_ADDR_LO_ADDR : Fld := ⟨0x40028114, 0, 32, 0⟩
def PORTER_UE_ADDR_HI_ADDR : Fld := ⟨0x40028118, 0, 8, 0⟩
def PORTER_BYTES_r_UNITS (r : Nat) : Fld := ⟨0x40028120 + 0x4 * r, 0, 32, 0⟩

/-! ### CELLAR (12_memory_porter_cellar.md) -/

def CELLAR_p_CMD_CODE (p : Nat) : Fld := ⟨0x40038000 + 0x10 * p, 0, 8, 0⟩
def CELLAR_p_CMD_STATUS (p : Nat) : Fld := ⟨0x40038000 + 0x10 * p, 8, 3, 0⟩
def CELLAR_p_ARG_TO (p : Nat) : Fld := ⟨0x40038004 + 0x10 * p, 16, 4, 0⟩
def CELLAR_p_ARG_CASK (p : Nat) : Fld := ⟨0x40038004 + 0x10 * p, 0, 10, 0⟩
def CELLAR_p_RES_ERR (p : Nat) : Fld := ⟨0x40038008 + 0x10 * p, 16, 3, 0⟩
def CELLAR_p_RES_CASK (p : Nat) : Fld := ⟨0x40038008 + 0x10 * p, 0, 10, 0⟩
def CELLAR_QUOTA_u_MAX (u : Nat) : Fld := ⟨0x40038100 + 0x4 * u, 16, 11, 0⟩
def CELLAR_QUOTA_u_MIN (u : Nat) : Fld := ⟨0x40038100 + 0x4 * u, 0, 11, 0⟩
def CELLAR_USE_u_PEAK (u : Nat) : Fld := ⟨0x40038140 + 0x4 * u, 16, 11, 0⟩
def CELLAR_USE_u_COUNT (u : Nat) : Fld := ⟨0x40038140 + 0x4 * u, 0, 11, 0⟩
def CELLAR_FREE_UNRES : Fld := ⟨0x40038180, 16, 11, 0x400⟩
def CELLAR_FREE_FREE : Fld := ⟨0x40038180, 0, 11, 0x400⟩
def CELLAR_CE_CE : Fld := ⟨0x40038184, 0, 16, 0⟩
def CELLAR_OWNj_OWN (j : Nat) : Fld := ⟨0x40039000 + 0x4 * j, 0, 32, 0⟩

/-! ### LOGBOOK (12_memory_porter_cellar.md) -/

def LOGBOOK_CTRL_STREAM : Fld := ⟨0x40118000, 16, 16, 0⟩
def LOGBOOK_CTRL_PERIOD : Fld := ⟨0x40118000, 12, 4, 0⟩
def LOGBOOK_CTRL_REIN : Fld := ⟨0x40118000, 3, 1, 0⟩
def LOGBOOK_CTRL_FAULT : Fld := ⟨0x40118000, 2, 1, 1⟩
def LOGBOOK_CTRL_EVENT : Fld := ⟨0x40118000, 1, 1, 0⟩
def LOGBOOK_CTRL_EN : Fld := ⟨0x40118000, 0, 1, 0⟩
def LOGBOOK_CMD_CODE : Fld := ⟨0x40118004, 0, 8, 0⟩
def LOGBOOK_CMD_STATUS : Fld := ⟨0x40118004, 8, 3, 0⟩
def LOGBOOK_TRIG_CFG_EVT_EN : Fld := ⟨0x40118008, 25, 1, 0⟩
def LOGBOOK_TRIG_CFG_EVT : Fld := ⟨0x40118008, 16, 9, 0⟩
def LOGBOOK_TRIG_CFG_CLASS : Fld := ⟨0x40118008, 0, 3, 6⟩
def LOGBOOK_POST_MS : Fld := ⟨0x4011800C, 0, 16, 0x3E8⟩
def LOGBOOK_STAT_WRAP : Fld := ⟨0x40118010, 2, 1, 0⟩
def LOGBOOK_STAT_STATE : Fld := ⟨0x40118010, 0, 2, 0⟩
def LOGBOOK_WR_PTR_LO_OFS : Fld := ⟨0x40118014, 0, 32, 0⟩
def LOGBOOK_WR_PTR_HI_OFS : Fld := ⟨0x40118018, 0, 1, 0⟩
def LOGBOOK_OLD_PTR_LO_OFS : Fld := ⟨0x4011801C, 0, 32, 0⟩
def LOGBOOK_OLD_PTR_HI_OFS : Fld := ⟨0x40118020, 0, 1, 0⟩
def LOGBOOK_TRIG_PTR_LO_OFS : Fld := ⟨0x40118024, 0, 32, 0⟩
def LOGBOOK_TRIG_PTR_HI_OFS : Fld := ⟨0x40118028, 0, 1, 0⟩
def LOGBOOK_TRIG_TB_LO_TB : Fld := ⟨0x4011802C, 0, 32, 0⟩
def LOGBOOK_TRIG_TB_HI_TB : Fld := ⟨0x40118030, 0, 32, 0⟩
def LOGBOOK_TRIG_INFO_MORE : Fld := ⟨0x40118034, 24, 8, 0⟩
def LOGBOOK_TRIG_INFO_KIND : Fld := ⟨0x40118034, 16, 4, 0⟩
def LOGBOOK_TRIG_INFO_CODE : Fld := ⟨0x40118034, 0, 16, 0⟩
def LOGBOOK_SEQ_SEQ : Fld := ⟨0x40118038, 0, 32, 0⟩
def LOGBOOK_DROP_COUNT : Fld := ⟨0x4011803C, 0, 32, 0⟩

/-! ### LEDGER (13_ledger_and_calendar.md) -/

def LEDGER_CMD_CODE : Fld := ⟨0x400D8000, 0, 8, 0⟩
def LEDGER_CMD_STATUS : Fld := ⟨0x400D8000, 8, 3, 0⟩
def LEDGER_STAT_LOADED : Fld := ⟨0x400D8004, 23, 1, 0⟩
def LEDGER_STAT_NEW : Fld := ⟨0x400D8004, 22, 1, 0⟩
def LEDGER_STAT_LAST : Fld := ⟨0x400D8004, 19, 3, 0⟩
def LEDGER_STAT_SLOT : Fld := ⟨0x400D8004, 0, 15, 0⟩
def LEDGER_SEQ_SEQ : Fld := ⟨0x400D8008, 0, 32, 0⟩
def LEDGER_CNT_FAILS : Fld := ⟨0x400D800C, 16, 16, 0⟩
def LEDGER_CNT_SKIPS : Fld := ⟨0x400D800C, 0, 16, 0⟩
def LEDGER_RETIRED_COUNT : Fld := ⟨0x400D8010, 0, 8, 0⟩
def LEDGER_FLT_STAT_LOST : Fld := ⟨0x400D8014, 16, 16, 0⟩
def LEDGER_FLT_STAT_PAGE : Fld := ⟨0x400D8014, 8, 6, 0⟩
def LEDGER_FLT_STAT_FILL : Fld := ⟨0x400D8014, 0, 5, 0⟩
def LEDGER_RIPPLE_THR_R : Fld := ⟨0x400D8020, 0, 30, 0⟩
def LEDGER_WIND_n_T (n : Nat) : Fld := ⟨0x400D8030 + 0x4 * n, 8, 24, 0⟩
def LEDGER_WIND_n_SLOT (n : Nat) : Fld := ⟨0x400D8030 + 0x4 * n, 1, 2, 0⟩
def LEDGER_WIND_n_EN (n : Nat) : Fld := ⟨0x400D8030 + 0x4 * n, 0, 1, 0⟩
def LEDGER_CAL_SUB_SUB : Fld := ⟨0x400D8040, 0, 15, 0⟩
def LEDGER_CAL_SEC_LO_SEC : Fld := ⟨0x400D8044, 0, 32, 0⟩
def LEDGER_CAL_SEC_HI_SEC : Fld := ⟨0x400D8048, 0, 16, 0⟩
def LEDGER_CAL_STAT_SYNCED : Fld := ⟨0x400D804C, 3, 1, 0⟩
def LEDGER_CAL_STAT_SLEW : Fld := ⟨0x400D804C, 2, 1, 0⟩
def LEDGER_CAL_STAT_VBAK_LOW : Fld := ⟨0x400D804C, 1, 1, 0⟩
def LEDGER_CAL_STAT_VALID : Fld := ⟨0x400D804C, 0, 1, 0⟩
def LEDGER_CAL_SET_SUB_SUB : Fld := ⟨0x400D8050, 0, 15, 0⟩
def LEDGER_CAL_SET_LO_SEC : Fld := ⟨0x400D8054, 0, 32, 0⟩
def LEDGER_CAL_SET_HI_SEC : Fld := ⟨0x400D8058, 0, 16, 0⟩
def LEDGER_CAL_CMD_CODE : Fld := ⟨0x400D805C, 0, 8, 0⟩
def LEDGER_CAL_CMD_STATUS : Fld := ⟨0x400D805C, 8, 3, 0⟩
def LEDGER_CAL_CFG_STEP : Fld := ⟨0x400D8060, 8, 8, 100⟩
def LEDGER_CAL_CFG_AUTO : Fld := ⟨0x400D8060, 0, 1, 0⟩
def LEDGER_CAL_UTC_OFS_OFS : Fld := ⟨0x400D8064, 0, 8, 0⟩
def LEDGER_CAL_ERR_ERR : Fld := ⟨0x400D8068, 0, 32, 0⟩
def LEDGER_LIVE_w_W (w : Nat) : Fld := ⟨0x400DA000 + 0x4 * w, 0, 32, 0⟩
def LEDGER_RF_STACK_s_PT (s w : Nat) : Fld := ⟨0x400DB000 + 0x20 * s + 0x4 * w, 0, 32, 0⟩
def LEDGER_PAGE_p_W (p w : Nat) : Fld := ⟨0x400DC000 + 0x100 * p + 0x4 * w, 0, 32, 0⟩

/-! ### CAN (14_networks_and_authorization.md) -/

def CAN_CTRL_AUTO_BOR (k : Nat) : Fld := ⟨0x40088000 + 0x10000 * k, 4, 1, 0⟩
def CAN_CTRL_SELF_RX (k : Nat) : Fld := ⟨0x40088000 + 0x10000 * k, 3, 1, 0⟩
def CAN_CTRL_LISTEN (k : Nat) : Fld := ⟨0x40088000 + 0x10000 * k, 2, 1, 0⟩
def CAN_CTRL_FD_EN (k : Nat) : Fld := ⟨0x40088000 + 0x10000 * k, 1, 1, 0⟩
def CAN_CTRL_EN (k : Nat) : Fld := ⟨0x40088000 + 0x10000 * k, 0, 1, 0⟩
def CAN_NBT_SJW (k : Nat) : Fld := ⟨0x40088004 + 0x10000 * k, 24, 7, 0⟩
def CAN_NBT_TSEG2 (k : Nat) : Fld := ⟨0x40088004 + 0x10000 * k, 16, 7, 1⟩
def CAN_NBT_TSEG1 (k : Nat) : Fld := ⟨0x40088004 + 0x10000 * k, 8, 8, 1⟩
def CAN_NBT_BRP (k : Nat) : Fld := ⟨0x40088004 + 0x10000 * k, 0, 8, 0⟩
def CAN_DBT_TDC (k : Nat) : Fld := ⟨0x40088008 + 0x10000 * k, 31, 1, 0⟩
def CAN_DBT_SJW (k : Nat) : Fld := ⟨0x40088008 + 0x10000 * k, 24, 4, 0⟩
def CAN_DBT_TSEG2 (k : Nat) : Fld := ⟨0x40088008 + 0x10000 * k, 16, 4, 0⟩
def CAN_DBT_TSEG1 (k : Nat) : Fld := ⟨0x40088008 + 0x10000 * k, 8, 5, 0⟩
def CAN_DBT_BRP (k : Nat) : Fld := ⟨0x40088008 + 0x10000 * k, 0, 5, 0⟩
def CAN_TDC_TDCV (k : Nat) : Fld := ⟨0x4008800C + 0x10000 * k, 16, 7, 0⟩
def CAN_TDC_TDCO (k : Nat) : Fld := ⟨0x4008800C + 0x10000 * k, 0, 7, 0⟩
def CAN_CMD_CODE (k : Nat) : Fld := ⟨0x40088010 + 0x10000 * k, 0, 8, 0⟩
def CAN_CMD_STATUS (k : Nat) : Fld := ⟨0x40088010 + 0x10000 * k, 8, 3, 0⟩
def CAN_STAT_QERR (k : Nat) : Fld := ⟨0x40088014 + 0x10000 * k, 8, 1, 0⟩
def CAN_STAT_TXQ (k : Nat) : Fld := ⟨0x40088014 + 0x10000 * k, 3, 5, 0⟩
def CAN_STAT_STATE (k : Nat) : Fld := ⟨0x40088014 + 0x10000 * k, 0, 3, 0⟩
def CAN_ERRCNT_RP (k : Nat) : Fld := ⟨0x40088018 + 0x10000 * k, 23, 1, 0⟩
def CAN_ERRCNT_REC (k : Nat) : Fld := ⟨0x40088018 + 0x10000 * k, 16, 7, 0⟩
def CAN_ERRCNT_TEC (k : Nat) : Fld := ⟨0x40088018 + 0x10000 * k, 0, 9, 0⟩
def CAN_ERR_BUSOFF (k : Nat) : Fld := ⟨0x4008801C + 0x10000 * k, 16, 16, 0⟩
def CAN_ERR_PEX (k : Nat) : Fld := ⟨0x4008801C + 0x10000 * k, 8, 8, 0⟩
def CAN_ERR_DLEC (k : Nat) : Fld := ⟨0x4008801C + 0x10000 * k, 4, 3, 0⟩
def CAN_ERR_LEC (k : Nat) : Fld := ⟨0x4008801C + 0x10000 * k, 0, 3, 0⟩
def CAN_TX_CFG_FAIL_N (k : Nat) : Fld := ⟨0x40088020 + 0x10000 * k, 0, 4, 8⟩
def CAN_TX_ID_RTR (k : Nat) : Fld := ⟨0x40088030 + 0x10000 * k, 30, 1, 0⟩
def CAN_TX_ID_XTD (k : Nat) : Fld := ⟨0x40088030 + 0x10000 * k, 29, 1, 0⟩
def CAN_TX_ID_ID (k : Nat) : Fld := ⟨0x40088030 + 0x10000 * k, 0, 29, 0⟩
def CAN_TX_FLAGS_TAG (k : Nat) : Fld := ⟨0x40088034 + 0x10000 * k, 8, 8, 0⟩
def CAN_TX_FLAGS_BRS (k : Nat) : Fld := ⟨0x40088034 + 0x10000 * k, 5, 1, 0⟩
def CAN_TX_FLAGS_FDF (k : Nat) : Fld := ⟨0x40088034 + 0x10000 * k, 4, 1, 0⟩
def CAN_TX_FLAGS_DLC (k : Nat) : Fld := ⟨0x40088034 + 0x10000 * k, 0, 4, 0⟩
def CAN_TX_DATAw_D (k w : Nat) : Fld := ⟨0x40088040 + 0x10000 * k + 0x4 * w, 0, 32, 0⟩
def CAN_TXR_HEAD_HEAD (k : Nat) : Fld := ⟨0x40088080 + 0x10000 * k, 0, 4, 0⟩
def CAN_TXR_TAIL_TAIL (k : Nat) : Fld := ⟨0x40088084 + 0x10000 * k, 0, 4, 0⟩
def CAN_TXR_j_LEC (k j : Nat) : Fld := ⟨0x40088100 + 0x10000 * k + 0x8 * j, 12, 3, 0⟩
def CAN_TXR_j_RESULT (k j : Nat) : Fld := ⟨0x40088100 + 0x10000 * k + 0x8 * j, 8, 4, 0⟩
def CAN_TXR_j_TAG (k j : Nat) : Fld := ⟨0x40088100 + 0x10000 * k + 0x8 * j, 0, 8, 0⟩
def CAN_TXR_TB_j_TB (k j : Nat) : Fld := ⟨0x40088104 + 0x10000 * k + 0x8 * j, 0, 32, 0⟩
def CAN_RXQ_CFG_CASKS (k : Nat) : Fld := ⟨0x40088200 + 0x10000 * k, 0, 6, 4⟩
def CAN_RXQ_HEAD_HEAD (k : Nat) : Fld := ⟨0x40088204 + 0x10000 * k, 0, 10, 0⟩
def CAN_RXQ_TAIL_TAIL (k : Nat) : Fld := ⟨0x40088208 + 0x10000 * k, 0, 10, 0⟩
def CAN_RXQ_FILL_FILL (k : Nat) : Fld := ⟨0x4008820C + 0x10000 * k, 0, 11, 0⟩
def CAN_RXQ_DROP_COUNT (k : Nat) : Fld := ⟨0x40088210 + 0x10000 * k, 0, 32, 0⟩
def CAN_RXQ_MAPj_ODD (k j : Nat) : Fld := ⟨0x40088240 + 0x10000 * k + 0x4 * j, 16, 10, 0⟩
def CAN_RXQ_MAPj_EVEN (k j : Nat) : Fld := ⟨0x40088240 + 0x10000 * k + 0x4 * j, 0, 10, 0⟩

/-! ### ETH (14_networks_and_authorization.md) -/

def ETH_Pp_CTRL_PCP (p : Nat) : Fld := ⟨0x400C8000 + 0x40 * (p - 1), 28, 3, 0⟩
def ETH_Pp_CTRL_PVID (p : Nat) : Fld := ⟨0x400C8000 + 0x40 * (p - 1), 16, 12, 1⟩
def ETH_Pp_CTRL_AS_ROLE (p : Nat) : Fld := ⟨0x400C8000 + 0x40 * (p - 1), 2, 2, 0⟩
def ETH_Pp_CTRL_PHY_MASTER (p : Nat) : Fld := ⟨0x400C8000 + 0x40 * (p - 1), 1, 1, 0⟩
def ETH_Pp_CTRL_EN (p : Nat) : Fld := ⟨0x400C8000 + 0x40 * (p - 1), 0, 1, 0⟩
def ETH_Pp_STAT_DROPS (p : Nat) : Fld := ⟨0x400C8004 + 0x40 * (p - 1), 16, 16, 0⟩
def ETH_Pp_STAT_AS_CAP (p : Nat) : Fld := ⟨0x400C8004 + 0x40 * (p - 1), 1, 1, 0⟩
def ETH_Pp_STAT_LINK (p : Nat) : Fld := ⟨0x400C8004 + 0x40 * (p - 1), 0, 1, 0⟩
def ETH_Pp_RXF_COUNT (p : Nat) : Fld := ⟨0x400C8008 + 0x40 * (p - 1), 0, 32, 0⟩
def ETH_Pp_RXERR_COUNT (p : Nat) : Fld := ⟨0x400C800C + 0x40 * (p - 1), 0, 32, 0⟩
def ETH_Pp_TXF_COUNT (p : Nat) : Fld := ⟨0x400C8010 + 0x40 * (p - 1), 0, 32, 0⟩
def ETH_Pp_PDLY_NS (p : Nat) : Fld := ⟨0x400C8014 + 0x40 * (p - 1), 0, 32, 0⟩
def ETH_Pp_GCL_CMD_CODE (p : Nat) : Fld := ⟨0x400C8018 + 0x40 * (p - 1), 0, 8, 0⟩
def ETH_Pp_GCL_CMD_STATUS (p : Nat) : Fld := ⟨0x400C8018 + 0x40 * (p - 1), 8, 3, 0⟩
def ETH_Pp_GCL_CYCLE_NS (p : Nat) : Fld := ⟨0x400C801C + 0x40 * (p - 1), 0, 32, 0xF4240⟩
def ETH_Pp_GCL_LEN_LEN (p : Nat) : Fld := ⟨0x400C8020 + 0x40 * (p - 1), 0, 7, 1⟩
def ETH_Pp_GCL_BASE_NS_NS (p : Nat) : Fld := ⟨0x400C8024 + 0x40 * (p - 1), 0, 30, 0⟩
def ETH_Pp_GCL_BASE_LO_SEC (p : Nat) : Fld := ⟨0x400C8028 + 0x40 * (p - 1), 0, 32, 0⟩
def ETH_Pp_GCL_BASE_HI_SEC (p : Nat) : Fld := ⟨0x400C802C + 0x40 * (p - 1), 0, 16, 0⟩
def ETH_Pp_GCL_STAT_ENTRY (p : Nat) : Fld := ⟨0x400C8030 + 0x40 * (p - 1), 2, 6, 0⟩
def ETH_Pp_GCL_STAT_PEND (p : Nat) : Fld := ⟨0x400C8030 + 0x40 * (p - 1), 1, 1, 0⟩
def ETH_Pp_GCL_STAT_OPER (p : Nat) : Fld := ⟨0x400C8030 + 0x40 * (p - 1), 0, 1, 0⟩
def ETH_TCMAP_TC : Fld := ⟨0x400C8100, 0, 24, 0xFAC688⟩
def ETH_TX_AGE_MS : Fld := ⟨0x400C8104, 0, 16, 100⟩
def ETH_DROP_TXERR : Fld := ⟨0x400C8108, 20, 12, 0⟩
def ETH_DROP_TX : Fld := ⟨0x400C8108, 10, 10, 0⟩
def ETH_DROP_RX : Fld := ⟨0x400C8108, 0, 10, 0⟩
def ETH_RXR_BASE_LO_ADDR : Fld := ⟨0x400C8110, 0, 32, 0⟩
def ETH_RXR_BASE_HI_ADDR : Fld := ⟨0x400C8114, 0, 8, 0⟩
def ETH_RXR_CFG_N : Fld := ⟨0x400C8118, 0, 13, 8⟩
def ETH_RXR_HEAD_HEAD : Fld := ⟨0x400C811C, 0, 12, 0⟩
def ETH_RXR_TAIL_TAIL : Fld := ⟨0x400C8120, 0, 12, 0⟩
def ETH_TXR_BASE_LO_ADDR : Fld := ⟨0x400C8130, 0, 32, 0⟩
def ETH_TXR_BASE_HI_ADDR : Fld := ⟨0x400C8134, 0, 8, 0⟩
def ETH_TXR_CFG_N : Fld := ⟨0x400C8138, 0, 13, 8⟩
def ETH_TXR_HEAD_HEAD : Fld := ⟨0x400C813C, 0, 12, 0⟩
def ETH_TXR_TAIL_TAIL : Fld := ⟨0x400C8140, 0, 12, 0⟩
def ETH_AS_CFG_PDLY_MAX : Fld := ⟨0x400C8180, 16, 16, 0x320⟩
def ETH_AS_CFG_GM : Fld := ⟨0x400C8180, 4, 1, 0⟩
def ETH_AS_CFG_SYNC_LOG : Fld := ⟨0x400C8180, 0, 4, 13⟩
def ETH_AS_STAT_SYNCED : Fld := ⟨0x400C8184, 0, 1, 0⟩
def ETH_AS_OFS_NS : Fld := ⟨0x400C8188, 0, 32, 0⟩
def ETH_AS_RATE_PPB : Fld := ⟨0x400C818C, 0, 32, 0⟩
def ETH_AS_NS_NS : Fld := ⟨0x400C8190, 0, 30, 0⟩
def ETH_AS_SEC_LO_SEC : Fld := ⟨0x400C8194, 0, 32, 0⟩
def ETH_AS_SEC_HI_SEC : Fld := ⟨0x400C8198, 0, 16, 0⟩
def ETH_AS_TB_LO_TB : Fld := ⟨0x400C819C, 0, 32, 0⟩
def ETH_AS_TB_HI_TB : Fld := ⟨0x400C81A0, 0, 32, 0⟩
def ETH_FDB_LO_j_MAC (j : Nat) : Fld := ⟨0x400C9000 + 0x8 * j, 0, 32, 0⟩
def ETH_FDB_HI_j_VALID (j : Nat) : Fld := ⟨0x400C9004 + 0x8 * j, 31, 1, 0⟩
def ETH_FDB_HI_j_PORTS (j : Nat) : Fld := ⟨0x400C9004 + 0x8 * j, 28, 3, 0⟩
def ETH_FDB_HI_j_VID (j : Nat) : Fld := ⟨0x400C9004 + 0x8 * j, 16, 12, 0⟩
def ETH_FDB_HI_j_MAC (j : Nat) : Fld := ⟨0x400C9004 + 0x8 * j, 0, 16, 0⟩
def ETH_Pp_GCL_j_GATES (p j : Nat) : Fld := ⟨0x400CA000 + 0x400 * (p - 1) + 0x4 * j, 24, 8, 255⟩
def ETH_Pp_GCL_j_NS (p j : Nat) : Fld := ⟨0x400CA000 + 0x400 * (p - 1) + 0x4 * j, 0, 24, 0⟩
def ETH_Pp_GCLOP_j_E (p j : Nat) : Fld := ⟨0x400CA200 + 0x400 * (p - 1) + 0x4 * j, 0, 32, 0⟩

/-! ### AUTH (14_networks_and_authorization.md) -/

def AUTH_CFG_LOCK_N : Fld := ⟨0x40148000, 28, 4, 8⟩
def AUTH_CFG_HOLD : Fld := ⟨0x40148000, 20, 8, 30⟩
def AUTH_CFG_MASK : Fld := ⟨0x40148000, 4, 4, 0⟩
def AUTH_CFG_SLOT : Fld := ⟨0x40148000, 0, 3, 0⟩
def AUTH_VID_VID : Fld := ⟨0x40148004, 0, 32, 0⟩
def AUTH_MSGw_B (w : Nat) : Fld := ⟨0x40148010 + 0x4 * w, 0, 32, 0⟩
def AUTH_CMD_CODE : Fld := ⟨0x40148028, 0, 8, 0⟩
def AUTH_CMD_STATUS : Fld := ⟨0x40148028, 8, 3, 0⟩
def AUTH_RES_TAGFAIL : Fld := ⟨0x4014802C, 4, 4, 0⟩
def AUTH_RES_REASON : Fld := ⟨0x4014802C, 0, 4, 0⟩
def AUTH_STAT_LOCKED : Fld := ⟨0x40148030, 5, 1, 0⟩
def AUTH_STAT_INHIBIT : Fld := ⟨0x40148030, 4, 1, 0⟩
def AUTH_STAT_PENDING : Fld := ⟨0x40148030, 3, 1, 0⟩
def AUTH_STAT_STATE : Fld := ⟨0x40148030, 0, 2, 0⟩
def AUTH_BOOKING_ID : Fld := ⟨0x40148034, 0, 32, 0⟩
def AUTH_FRESH_CTR : Fld := ⟨0x40148038, 0, 32, 0⟩
def AUTH_REMAIN_S : Fld := ⟨0x4014803C, 0, 16, 0⟩
def AUTH_KEY_FPw_FP (w : Nat) : Fld := ⟨0x40148040 + 0x4 * w, 0, 32, 0⟩

/-! ### CONFIG (15_configuration_and_update.md) -/

def CONFIG_CMD_CODE : Fld := ⟨0x400E8000, 0, 8, 0⟩
def CONFIG_CMD_STATUS : Fld := ⟨0x400E8000, 8, 3, 0⟩
def CONFIG_ARG_RSRC : Fld := ⟨0x400E8004, 12, 1, 0⟩
def CONFIG_ARG_STALL : Fld := ⟨0x400E8004, 8, 2, 0⟩
def CONFIG_ARG_TARGET : Fld := ⟨0x400E8004, 0, 1, 0⟩
def CONFIG_SRC_LO_ADDR : Fld := ⟨0x400E8008, 0, 32, 0⟩
def CONFIG_SRC_HI_ADDR : Fld := ⟨0x400E800C, 0, 8, 0⟩
def CONFIG_LEN_LEN : Fld := ⟨0x400E8010, 0, 32, 0⟩
def CONFIG_STAT_MIB : Fld := ⟨0x400E8014, 20, 9, 0⟩
def CONFIG_STAT_ERR : Fld := ⟨0x400E8014, 8, 8, 0⟩
def CONFIG_STAT_PHASE : Fld := ⟨0x400E8014, 4, 4, 0⟩
def CONFIG_STAT_TRIAL : Fld := ⟨0x400E8014, 2, 1, 0⟩
def CONFIG_STAT_RUN_SLOT : Fld := ⟨0x400E8014, 0, 2, 3⟩
def CONFIG_SLOT_s_GEN (s : Nat) : Fld := ⟨0x400E8018 + 0x4 * s, 16, 16, 0⟩
def CONFIG_SLOT_s_SECVER (s : Nat) : Fld := ⟨0x400E8018 + 0x4 * s, 8, 6, 0⟩
def CONFIG_SLOT_s_ATTEMPTS (s : Nat) : Fld := ⟨0x400E8018 + 0x4 * s, 4, 2, 0⟩
def CONFIG_SLOT_s_CONFIRMED (s : Nat) : Fld := ⟨0x400E8018 + 0x4 * s, 2, 1, 0⟩
def CONFIG_SLOT_s_SEALED (s : Nat) : Fld := ⟨0x400E8018 + 0x4 * s, 1, 1, 0⟩
def CONFIG_SLOT_s_VALID (s : Nat) : Fld := ⟨0x400E8018 + 0x4 * s, 0, 1, 0⟩
def CONFIG_FUSE_COUNT : Fld := ⟨0x400E8020, 0, 6, 0⟩
def CONFIG_DOMAIN_SRC : Fld := ⟨0x400E8024, 0, 10, 0x3FF⟩
def CONFIG_FAB_PAGE_BANK : Fld := ⟨0x400E8028, 8, 1, 0⟩
def CONFIG_FAB_PAGE_PAGE : Fld := ⟨0x400E8028, 0, 8, 0⟩
def CONFIG_TIME_RECONF : Fld := ⟨0x400E802C, 16, 16, 0⟩
def CONFIG_TIME_WRITE : Fld := ⟨0x400E802C, 0, 16, 0⟩
def CONFIG_KEY_CMD_CODE : Fld := ⟨0x400E8030, 0, 8, 0⟩
def CONFIG_KEY_CMD_STATUS : Fld := ⟨0x400E8030, 8, 3, 0⟩
def CONFIG_KEY_ARG_CASK : Fld := ⟨0x400E8034, 8, 10, 0⟩
def CONFIG_KEY_ARG_TYPE : Fld := ⟨0x400E8034, 4, 4, 0⟩
def CONFIG_KEY_ARG_SLOT : Fld := ⟨0x400E8034, 0, 3, 0⟩
def CONFIG_KEY_STAT_STATE : Fld := ⟨0x400E8038, 0, 32, 0⟩
def CONFIG_KEY_ERR_ERR : Fld := ⟨0x400E803C, 0, 8, 0⟩
def CONFIG_KEY_FPk_w_FP (k w : Nat) : Fld := ⟨0x400E8040 + 0x20 * k + 0x4 * w, 0, 32, 0⟩
def CONFIG_FAB_w_PTS (w : Nat) : Fld := ⟨0x400E9000 + 0x4 * w, 0, 32, 0⟩

/-! ### BIST (16_self_test_and_repair.md) -/

def BIST_CMD_CODE : Fld := ⟨0x400F8000, 0, 8, 0⟩
def BIST_CMD_STATUS : Fld := ⟨0x400F8000, 8, 3, 0⟩
def BIST_CFG_SGRP : Fld := ⟨0x400F8004, 24, 8, 255⟩
def BIST_CFG_RSTALL : Fld := ⟨0x400F8004, 20, 2, 0⟩
def BIST_CFG_YGRP : Fld := ⟨0x400F8004, 0, 9, 240⟩
def BIST_PWR_PEAK : Fld := ⟨0x400F8008, 24, 8, 0⟩
def BIST_PWR_BUDGET : Fld := ⟨0x400F8008, 0, 8, 15⟩
def BIST_STAT_ERR : Fld := ⟨0x400F800C, 24, 8, 0⟩
def BIST_STAT_HELD : Fld := ⟨0x400F800C, 12, 4, 0⟩
def BIST_STAT_PHASE : Fld := ⟨0x400F800C, 4, 4, 0⟩
def BIST_STAT_KIND : Fld := ⟨0x400F800C, 0, 2, 0⟩
def BIST_RES_Y_G : Fld := ⟨0x400F8010, 0, 18, 0⟩
def BIST_RES_n_G (n : Nat) : Fld := ⟨0x400F8014 + 0x4 * n, 0, 16, 0⟩
def BIST_RES_TB_LO_TB : Fld := ⟨0x400F8024, 0, 32, 0⟩
def BIST_RES_TB_HI_TB : Fld := ⟨0x400F8028, 0, 32, 0⟩
def BIST_FAIL_CNT_LOST : Fld := ⟨0x400F802C, 16, 16, 0⟩
def BIST_FAIL_CNT_COUNT : Fld := ⟨0x400F802C, 0, 7, 0⟩
def BIST_SPARE_CONV_VALID : Fld := ⟨0x400F8030, 7, 1, 0⟩
def BIST_SPARE_CONV_FUSED : Fld := ⟨0x400F8030, 6, 1, 0⟩
def BIST_SPARE_CONV_STALL : Fld := ⟨0x400F8030, 2, 2, 0⟩
def BIST_SPARE_CONV_C : Fld := ⟨0x400F8030, 0, 2, 0⟩
def BIST_SPARE_MON_S : Fld := ⟨0x400F8034, 0, 32, 0⟩
def BIST_SPARE_STAT_CONV_FAIL : Fld := ⟨0x400F8038, 4, 1, 0⟩
def BIST_SPARE_STAT_MON_FAIL : Fld := ⟨0x400F8038, 0, 4, 0⟩
def BIST_DRAM_BASE_LO_ADDR : Fld := ⟨0x400F8040, 0, 32, 0⟩
def BIST_DRAM_BASE_HI_ADDR : Fld := ⟨0x400F8044, 0, 8, 0⟩
def BIST_DRAM_LEN_LEN : Fld := ⟨0x400F8048, 0, 32, 0⟩
def BIST_DBG_CONN : Fld := ⟨0x400F8100, 3, 1, 0⟩
/-- DESIGN CHOICE: the spec gives no number for this reset value (log entry 3). -/
def BIST_DBG_CLOSED : Fld := ⟨0x400F8100, 2, 1, 0⟩
def BIST_DBG_LEVEL : Fld := ⟨0x400F8100, 0, 2, 2⟩
def BIST_DBG_CMD_CODE : Fld := ⟨0x400F8104, 0, 8, 0⟩
def BIST_DBG_CMD_STATUS : Fld := ⟨0x400F8104, 8, 3, 0⟩
def BIST_FAILj_INFO_DOMAIN (j : Nat) : Fld := ⟨0x400F8400 + 0x8 * j, 28, 4, 0⟩
def BIST_FAILj_INFO_GROUP (j : Nat) : Fld := ⟨0x400F8400 + 0x8 * j, 24, 4, 0⟩
def BIST_FAILj_INFO_ELEM (j : Nat) : Fld := ⟨0x400F8400 + 0x8 * j, 20, 4, 0⟩
def BIST_FAILj_INFO_REPAIRED (j : Nat) : Fld := ⟨0x400F8400 + 0x8 * j, 19, 1, 0⟩
def BIST_FAILj_INFO_BIT (j : Nat) : Fld := ⟨0x400F8400 + 0x8 * j, 8, 7, 0⟩
def BIST_FAILj_ADDR_ADDR (j : Nat) : Fld := ⟨0x400F8404 + 0x8 * j, 0, 32, 0⟩
def BIST_MAPj_VALID (j : Nat) : Fld := ⟨0x400F8800 + 0x4 * j, 31, 1, 0⟩
def BIST_MAPj_FUSED (j : Nat) : Fld := ⟨0x400F8800 + 0x4 * j, 30, 1, 0⟩
def BIST_MAPj_DOMAIN (j : Nat) : Fld := ⟨0x400F8800 + 0x4 * j, 26, 4, 0⟩
def BIST_MAPj_GROUP (j : Nat) : Fld := ⟨0x400F8800 + 0x4 * j, 22, 4, 0⟩
def BIST_MAPj_ELEM (j : Nat) : Fld := ⟨0x400F8800 + 0x4 * j, 18, 4, 0⟩
def BIST_MAPj_SPARE (j : Nat) : Fld := ⟨0x400F8800 + 0x4 * j, 14, 4, 0⟩
def BIST_MAPj_TILE (j : Nat) : Fld := ⟨0x400F8800 + 0x4 * j, 0, 14, 0⟩
/-- DESIGN CHOICE: the spec gives no number for this reset value (log entry 3). -/
def BIST_FUSEj_W (j : Nat) : Fld := ⟨0x400F8A00 + 0x4 * j, 0, 32, 0⟩

/-! ### SYS (17_power_reset_boot.md) -/

def SYS_ID_PART : Fld := ⟨0x40008000, 16, 16, 0x4860⟩
/-- DESIGN CHOICE: the spec gives no number for this reset value (log entry 3). -/
def SYS_ID_STEP : Fld := ⟨0x40008000, 12, 4, 0⟩
def SYS_RST_CMD_CODE : Fld := ⟨0x40008004, 0, 8, 0⟩
def SYS_RST_CMD_STATUS : Fld := ⟨0x40008004, 8, 3, 0⟩
def SYS_RST_CAUSE_POR_SRC : Fld := ⟨0x40008008, 8, 1, 0⟩
def SYS_RST_CAUSE_REQ : Fld := ⟨0x40008008, 4, 2, 0⟩
def SYS_RST_CAUSE_KIND : Fld := ⟨0x40008008, 0, 4, 0⟩
def SYS_RST_COUNT_DEV : Fld := ⟨0x4000800C, 16, 16, 0⟩
def SYS_RST_COUNT_BOOT_TO : Fld := ⟨0x4000800C, 0, 2, 0⟩
def SYS_RST_TB_LO_TB : Fld := ⟨0x40008010, 0, 32, 0⟩
def SYS_RST_TB_HI_TB : Fld := ⟨0x40008014, 0, 32, 0⟩
def SYS_BOOT_STAGE : Fld := ⟨0x40008018, 0, 4, 1⟩
def SYS_BOOT_TIME_US : Fld := ⟨0x4000801C, 0, 32, 0⟩
def SYS_PINS_WAKE : Fld := ⟨0x40008020, 7, 1, 0⟩
def SYS_PINS_RESET_L : Fld := ⟨0x40008020, 6, 1, 1⟩
def SYS_PINS_AUX_EN : Fld := ⟨0x40008020, 4, 1, 0⟩
def SYS_PINS_STALL_EN : Fld := ⟨0x40008020, 0, 4, 0⟩
def SYS_BFLASH_OUTCOME : Fld := ⟨0x40008024, 0, 2, 0⟩

/-! ### POWER (17_power_reset_boot.md) -/

def POWER_CMD_CODE : Fld := ⟨0x40108000, 0, 8, 0⟩
def POWER_CMD_STATUS : Fld := ⟨0x40108000, 8, 3, 0⟩
def POWER_STAT_ERR : Fld := ⟨0x40108004, 24, 8, 0⟩
def POWER_STAT_PHASE : Fld := ⟨0x40108004, 16, 4, 0⟩
def POWER_STAT_RAILS : Fld := ⟨0x40108004, 10, 6, 63⟩
def POWER_STAT_HIGH_SEEN : Fld := ⟨0x40108004, 3, 1, 0⟩
def POWER_STAT_LOW_SEEN : Fld := ⟨0x40108004, 2, 1, 0⟩
def POWER_STAT_VIN_HIGH : Fld := ⟨0x40108004, 1, 1, 0⟩
def POWER_STAT_VIN_LOW : Fld := ⟨0x40108004, 0, 1, 0⟩
def POWER_VIN_V : Fld := ⟨0x40108008, 0, 16, 0⟩
def POWER_RAIL_k_MV (k : Nat) : Fld := ⟨0x40108010 + 0x4 * k, 0, 16, 0⟩
def POWER_DIE_T_VALID : Fld := ⟨0x40108030, 16, 1, 0⟩
def POWER_DIE_T_T : Fld := ⟨0x40108030, 0, 16, 0⟩
def POWER_VSENS_OVL : Fld := ⟨0x40108034, 4, 2, 0⟩
def POWER_VSENS_EN : Fld := ⟨0x40108034, 0, 2, 0⟩
def POWER_VSENS_I_I1 : Fld := ⟨0x40108038, 16, 16, 0⟩
def POWER_VSENS_I_I0 : Fld := ⟨0x40108038, 0, 16, 0⟩
def POWER_WAKE_CFG_ALARM_EN : Fld := ⟨0x40108040, 2, 1, 0⟩
def POWER_WAKE_CFG_MON_EN : Fld := ⟨0x40108040, 1, 1, 0⟩
def POWER_WAKE_CFG_PIN_EN : Fld := ⟨0x40108040, 0, 1, 1⟩
def POWER_WAKE_STAT_MON : Fld := ⟨0x40108044, 4, 4, 0⟩
def POWER_WAKE_STAT_SRC : Fld := ⟨0x40108044, 0, 2, 0⟩
def POWER_ALARM_LO_SEC : Fld := ⟨0x40108048, 0, 32, 0⟩
def POWER_ALARM_HI_SEC : Fld := ⟨0x4010804C, 0, 16, 0⟩
def POWER_LANTERN_S_S : Fld := ⟨0x40108050, 0, 32, 0⟩

end Sys2Proof.Machine.Reg
end

