-- ==== Sys2Proof/Machine/State.lean ====
section
/-!
DEFINITION. The state of the block as plain data, its stop reasons, and the state after the release of the power-on reset.

Registers, and the internal fields the rules name without giving them a register, are held in ONE sparse store, `regs`: a list
of (key, value) pairs, keys strictly rising, holding a field only while its value differs from its reset value. The fields
themselves are listed one definition each in Machine/RegStall.lean, Machine/RegYard.lean and Machine/RegIntern.lean, each with
its width and its reset value; `State.get` and `State.set` (Machine/Ops.lean) read and write them. What is not a number of
fixed width (queues, frames, records, memory) has a field of State of its own.
-/

namespace Sys2Proof.Machine

/-- A sparse table of natural numbers: (key, value) pairs, keys strictly rising. -/
abbrev Store := List (Nat × Nat)

/-- One frame waiting in a CAN controller's transmit queue (R417): the controller, the identifier word, the flags word and the
data words as `CAN_TX_ID`, `CAN_TX_FLAGS` and `CAN_TX_DATAw` held them. -/
structure CanTx where
  ctl   : Nat
  id    : Nat
  flags : Nat
  data  : List Nat
  deriving DecidableEq, Repr

/-- One Ethernet frame queued for transmission (R426): the port, the traffic class, the casks that hold it, its bytes and the
`TB_NOW` at which it entered its cask. -/
structure EthTx where
  port   : Nat
  cls    : Nat
  source : Nat
  casks  : List Nat
  bytes  : List Byte
  since  : Nat
  deriving DecidableEq, Repr

/-- One frame in the Ethernet receive casks, waiting for a receive buffer (R425). -/
structure EthRx where
  port  : Nat
  casks : List Nat
  bytes : List Byte
  since : Nat
  deriving DecidableEq, Repr

/-- One downlink frame waiting for a Rein link's `DN` line (R249). -/
structure DnFrame where
  link : Nat
  typ  : Nat
  load : Nat
  deriving DecidableEq, Repr

/-- One copy of a transaction that a Yoke core presented, or that the voter still expects from it (R350, R351); `resp` is what the issue
of an expected one answered, for its core (R350, R354). -/
structure YokeCopy where
  core  : Nat
  txn   : Txn
  since : Nat
  resp  : Option Resp
  deriving DecidableEq, Repr

/-- The state of the block. -/
structure State where
  /-- `TB_NOW`, in ticks of 5 ns (R56) -/
  tbNow     : BitVec 64
  /-- every register field and internal field whose value is not its reset value -/
  regs      : Store
  /-- every byte of the address space of R35 that does not read as `memDefault` -/
  mem       : List Host.Cell
  /-- words of wide values held until the highest word is written (R47): (register address, value) -/
  held      : Store
  /-- words of wide values snapshot by a read of the lowest word (R47): (requester and register address, value) -/
  snaps     : Store
  /-- response of the last access on the register bus -/
  bus       : Resp
  /-- Logbook records staged in casks of user 4 and not yet in the ring, oldest first, as bytes (R381) -/
  logStage  : List (List Byte)
  /-- fault codes raised while the Ledger's boot load runs, oldest first: (code, class) (R399) -/
  faultHeld : List (Nat × Nat)
  /-- frames in the CAN transmit queues, oldest first (R417) -/
  canTx     : List CanTx
  /-- frames in the Ethernet transmit casks, oldest first (R426) -/
  ethTx     : List EthTx
  /-- frames in the Ethernet receive casks, oldest first (R425) -/
  ethRx     : List EthRx
  /-- downlink frames waiting, oldest first (R249) -/
  dn        : List DnFrame
  /-- stagger buffers of the three Yoke cores: copies not issued yet, oldest first (R349) -/
  yokeBuf   : List YokeCopy
  /-- copies of issued transactions that a core has still to present, oldest first, each with the instant of the second identical
  copy (R350, R351) -/
  yokeOwed  : List YokeCopy
  /-- the Ledger record being committed, 1,024 words; empty while no commit runs (R402) -/
  ledSnap   : List Nat
  /-- register entries of the running image, in list order: domain (0 Yard, 1 to 4 Stalls 0 to 3), byte offset, value (R440, R489) -/
  entries   : List (Nat × Nat × Nat)
  /-- the Yoke firmware of the running slot, as a Yoke reset reloads it (R488) -/
  yokeFw    : List Byte
  /-- counter the free values are drawn with (the model's own; see Config.lean) -/
  freeCount : Nat
  /-- commands waiting, first in first out -/
  pending   : List Instr
  deriving DecidableEq, Repr

/-- Faults that stop the block. The block has none: every access ends with a response (R4, R23), and every fault the spec names
is a fault CODE, which is state. -/
inductive Fault where
  deriving DecidableEq, Repr

/-- Refusals of the model. -/
inductive Refusal where
  /-- raised by `exec` for a command that has no meaning yet; safe: the machine stops -/
  | notModelled (mnemonic : String)
  deriving DecidableEq, Repr

/-- What one command answers. -/
abbrev Out := Host.Outcome State Fault Refusal

/-- The block right after the release of the power-on reset (R482, R483): every field at its Reset column's value. -/
def State.reset : State :=
  { tbNow := 0, regs := [], mem := [], held := [], snaps := [], bus := ⟨false, 0⟩, logStage := [], faultHeld := [],
    canTx := [], ethTx := [], ethRx := [], dn := [], yokeBuf := [], yokeOwed := [], ledSnap := [], entries := [], yokeFw := [], freeCount := 0, pending := [] }

end Sys2Proof.Machine
end

