-- ==== Sys2Proof/Machine/Ops.lean ====
section
/-!
DEFINITION. The named operations every meaning is written over: reading and writing register fields and memory, raising
events through the event matrix (R39 to R43), and the command-register rules (R7 to R10, R527).
-/

namespace Sys2Proof.Machine

/-! ### The register store -/

/-- The value under key `k`, or `d` where the store lists none. -/
def storeGet (d k : Nat) : Store → Nat
  | [] => d
  | (a, v) :: r => if a = k then v else storeGet d k r

/-- The store without key `k`. -/
def storeDrop (k : Nat) : Store → Store
  | [] => []
  | (a, v) :: r => if a = k then storeDrop k r else (a, v) :: storeDrop k r

/-- The store with (`k`, `v`) put in its sorted place (`k` not listed). -/
def storeIns (k v : Nat) : Store → Store
  | [] => [(k, v)]
  | (a, b) :: r => if k < a then (k, v) :: (a, b) :: r else (a, b) :: storeIns k v r

/-- The store with `v` under `k`; `d` is what an unlisted key reads as. -/
def storeSet (d k v : Nat) (t : Store) : Store :=
  if v = d then storeDrop k t else storeIns k v (storeDrop k t)

/-- The canonical form of a store: keys strictly rising. -/
def storeSorted : Store → Bool
  | [] => true
  | [_] => true
  | (a, _) :: (b, w) :: r => decide (a < b) && storeSorted ((b, w) :: r)

/-- The store without the keys that `p` names. -/
def storeClear (p : Nat → Bool) (t : Store) : Store := t.filter (fun e => !p e.1)

/-- The present value of a field: at most its width. -/
def State.get (s : State) (f : Fld) : Nat := storeGet f.reset f.key s.regs % 2 ^ f.width

/-- The state with a field set to `v`, cut to the field's width. -/
def State.set (s : State) (f : Fld) (v : Nat) : State :=
  { s with regs := storeSet f.reset f.key (v % 2 ^ f.width) s.regs }

/-- A one-bit field as a truth value (any field: not 0). -/
def State.flag (s : State) (f : Fld) : Bool := s.get f != 0

/-- A field read as two's complement. -/
def State.geti (s : State) (f : Fld) : Int := sext f.width (s.get f)

/-- A field read as a binary32 pattern. -/
def State.getF (s : State) (f : Fld) : F32 := BitVec.ofNat 32 (s.get f)

/-- Set a one-bit field. -/
def State.setB (s : State) (f : Fld) (b : Bool) : State := s.set f b.toNat

/-- Set a field to an integer in two's complement. -/
def State.seti (s : State) (f : Fld) (x : Int) : State := s.set f (wrap f.width x)

/-- Set a field to a binary32 pattern. -/
def State.setF (s : State) (f : Fld) (x : F32) : State := s.set f x.toNat

/-- Add `k` to a field, saturating at its width. -/
def State.addSat (s : State) (f : Fld) (k : Nat) : State := s.set f (clampU f.width (s.get f + k))

/-- Add 1 to a field, saturating. -/
def State.inc (s : State) (f : Fld) : State := s.addSat f 1

/-- Set bit `i` of a field. -/
def State.setBit (s : State) (f : Fld) (i : Nat) (b : Bool) : State := s.set f (putBit (s.get f) i b)

/-- Apply `f` where `c` holds. -/
def State.when (s : State) (c : Bool) (f : State → State) : State := if c then f s else s

/-- Apply `f` to each number of a list in turn. -/
def State.each (s : State) (l : List Nat) (f : Nat → State → State) : State := l.foldl (fun s k => f k s) s

/-- Write a 64-bit value into a pair of 32-bit (or narrower) fields. -/
def State.setWide (s : State) (lo hi : Fld) (v : Nat) : State := (s.set lo v).set hi (v / 2 ^ 32)

/-- A pair of fields as one value. -/
def State.getWide (s : State) (lo hi : Fld) : Nat := s.get lo + 2 ^ 32 * s.get hi

/-- The present `TB_NOW` in ticks. -/
def State.now (s : State) : Nat := s.tbNow.toNat

/-- An instant on the fine-step grid: the present tick and a fine step within it (R60). -/
def State.fineNow (s : State) (fine : Nat) : Nat := s.now * 64 + fine

/-- The fine part of an instant as placer group `k` places it: 0 while the placer works on whole ticks (R62). -/
def State.fineOf (s : State) (k fine : Nat) : Nat := if bitAt (s.get Reg.TB_STATUS_FINE_COARSE) k then 0 else fine

/-- Where placer group `k` places an edge due at instant `t`: at the start of its tick while the placer works on whole ticks (R62). -/
def State.placeAt (s : State) (k t : Nat) : Nat := t / 64 * 64 + s.fineOf k (t % 64)

/-- Draw a free value (log entry 2). -/
def State.draw (s : State) : State := { s with freeCount := s.freeCount + 1 }

/-! ### Memory -/

/-- What a byte reads as when memory lists none for it: the boot ROM's byte, an erased byte of the non-volatile store, and 0
elsewhere (log entry 4). -/
def memDefault (a : Nat) : Byte :=
  if a < 0x10000 then Config.romByte a
  else if 0xC0000000 ≤ a ∧ a < 0x100000000 then 0xFF
  else 0

/-- The byte at an address. -/
def memGet (a : Nat) : List Host.Cell → Byte
  | [] => memDefault a
  | (b, v) :: r => if b = a then v else memGet a r

/-- Memory without a cell for `a`. -/
def memDrop (a : Nat) : List Host.Cell → List Host.Cell
  | [] => []
  | (b, v) :: r => if b = a then memDrop a r else (b, v) :: memDrop a r

/-- Memory with the cell (`a`, `v`) in its sorted place. -/
def memIns (a : Nat) (v : Byte) : List Host.Cell → List Host.Cell
  | [] => [(a, v)]
  | (b, w) :: r => if a < b then (a, v) :: (b, w) :: r else (b, w) :: memIns a v r

/-- Memory with byte `v` at `a`, in canonical form. -/
def memSet (a : Nat) (v : Byte) (m : List Host.Cell) : List Host.Cell :=
  if v = memDefault a then memDrop a m else memIns a v (memDrop a m)

/-- Addresses strictly rising. -/
def memSorted : List Host.Cell → Bool
  | [] => true
  | [_] => true
  | (a, _) :: (b, w) :: r => decide (a < b) && memSorted ((b, w) :: r)

/-- The canonical form of memory: addresses strictly rising, no cell equal to what an unlisted address reads as. -/
abbrev Memory.wf (m : List Host.Cell) : Prop := memSorted m = true ∧ ∀ c ∈ m, c.2 ≠ memDefault c.1

/-- Write bytes at consecutive addresses. -/
def memPut : Nat → List Byte → List Host.Cell → List Host.Cell
  | _, [], m => m
  | a, b :: r, m => memPut (a + 1) r (memSet a b m)

/-- Read `k` bytes from consecutive addresses. -/
def memTake (m : List Host.Cell) : Nat → Nat → List Byte
  | _, 0 => []
  | a, k + 1 => memGet a m :: memTake m (a + 1) k

/-- Memory with every cell from `a` up to `a + k` back at its default. -/
def memErase (a k : Nat) (m : List Host.Cell) : List Host.Cell := m.filter (fun c => decide (c.1 < a) || decide (a + k ≤ c.1))

/-- A byte of the address space. -/
def State.byteAt (s : State) (a : Nat) : Byte := memGet a s.mem

/-- The 32-bit word at an address, lowest byte first. -/
def State.wordAt (s : State) (a : Nat) : Nat := ofBytes (memTake s.mem a 4)

/-- Write bytes. -/
def State.putBytes (s : State) (a : Nat) (l : List Byte) : State := { s with mem := memPut a l s.mem }

/-- Write a 32-bit word, lowest byte first. -/
def State.putWord (s : State) (a v : Nat) : State := s.putBytes a (toBytes 4 v)

/-- Write 32-bit words at consecutive addresses. -/
def State.putWords (s : State) (a : Nat) (l : List Nat) : State := s.putBytes a (l.flatMap (toBytes 4))

/-- Read `k` 32-bit words from consecutive addresses. -/
def State.wordsAt (s : State) (a k : Nat) : List Nat := (List.range k).map (fun i => s.wordAt (a + 4 * i))

/-! ### The event matrix -/

/-- Set pending bit `line` of a pair of pending registers (R41). -/
def pendLine (lo hi : Fld) (line : Nat) (s : State) : State :=
  if line < 32 then s.setBit lo line true else s.setBit hi (line - 32) true

/-- Keep `YOKE_IRQ_ID` at the lowest pending enabled line, 64 with none (R356). -/
def irqUpdate (s : State) : State :=
  let p := (s.get Reg.SYS_YOKE_PEND_LO_PEND &&& s.get Reg.YOKE_IE_LO_IE) +
    2 ^ 32 * (s.get Reg.SYS_YOKE_PEND_HI_PEND &&& s.get Reg.YOKE_IE_HI_IE)
  s.set Reg.YOKE_IRQ_ID_ID ((firstBelow 64 (fun i => bitAt p i)).getD 64)

/-- Whether Stall `n` is isolated by a reconfiguration or a retest (R30). -/
def isolated (n : Nat) (s : State) : Bool := bitAt (s.get Reg.cfgMask ||| s.get Reg.bistMask) n

/-- Whether event `e` is held off the lines: the events of an isolated Stall are, but for `EV_RETEST_DONE`, the completion event of the
operation itself (R30). -/
def eventHeld (e : Nat) (s : State) : Bool :=
  decide (0x40 ≤ e) && isolated ((e - 0x40) / 0x40) s && (e - 0x40) % 0x40 != 0x09

/-- Carry event `e` to at most one line of each processor (R40, R41). -/
def routeEvent (e : Nat) (s : State) : State :=
  if eventHeld e s then s else
    let s := s.when (s.flag (Reg.SYS_EVT_ROUTE_e_YOKE_EN e))
      (fun s => irqUpdate (pendLine Reg.SYS_YOKE_PEND_LO_PEND Reg.SYS_YOKE_PEND_HI_PEND (s.get (Reg.SYS_EVT_ROUTE_e_YOKE_LINE e)) s))
    let s := s.when (s.flag (Reg.SYS_EVT_ROUTE_e_SHD_EN e))
      (fun s => s.setBit Reg.SYS_SHD_PEND_PEND (s.get (Reg.SYS_EVT_ROUTE_e_SHD_LINE e)) true)
    s.when (s.flag (Reg.SYS_EVT_ROUTE_e_INN_EN e))
      (fun s => pendLine Reg.SYS_INN_PEND_LO_PEND Reg.SYS_INN_PEND_HI_PEND (s.get (Reg.SYS_EVT_ROUTE_e_INN_LINE e)) s)

/-! ### Command registers (R7 to R10, R527) -/

/-- Status codes of R8. -/
def stIdle : Nat := 0
def stBusy : Nat := 1
def stDone : Nat := 2
def stRefused : Nat := 3
def stAborted : Nat := 4
def stTooLate : Nat := 5
def stFailed : Nat := 6

/-- A command register: its code field and its status field. -/
structure CmdReg where
  code   : Fld
  status : Fld
  deriving DecidableEq, Repr

/-- The command register shows `code` with `status`. -/
def State.cmdSet (s : State) (r : CmdReg) (code status : Nat) : State := (s.set r.code code).set r.status status

/-- Whether a command runs. -/
def State.busy (s : State) (r : CmdReg) : Bool := s.get r.status == stBusy

/-- End the running command with a status; its code stays (R9). -/
def State.cmdEnd (s : State) (r : CmdReg) (status : Nat) : State := s.set r.status status

/-- A listed code is written: ignored while a command runs (R9), else judged. `ok` says whether its preconditions hold;
`run` is what it does then, the register showing it with `status`. -/
def State.cmdStart (s : State) (r : CmdReg) (code : Nat) (ok : Bool) (status : Nat) (run refuse : State → State) : State :=
  if s.busy r then s
  else if ok then run (s.cmdSet r code status)
  else refuse (s.cmdSet r code stRefused)

/-- Whether `t` ticks have passed since the instant that field `f` holds plus 1; 0 in it stands for none. -/
def dueAfter (f : Fld) (t : Nat) (s : State) : Bool := s.get f == 0 || decide (s.get f - 1 + t ≤ s.now)

/-- Whether `t` ticks have passed since the instant that field `f` holds plus 1, and it holds one. -/
def passedSince (f : Fld) (t : Nat) (s : State) : Bool := s.get f != 0 && decide (s.get f - 1 + t ≤ s.now)

/-! ### Outcomes -/

/-- The block's next state. -/
def ok (s : State) : Out := .next s

/-- An access ends with an error response (R4, R526, R528). -/
def busErr (s : State) : State := { s with bus := ⟨true, 0⟩ }

/-- An access ends without error. -/
def busOk (s : State) : State := { s with bus := ⟨false, 0⟩ }

/-- Stalls whose registers a reconfiguration, a retest or a Stall reset is rewriting (R30, R489). -/
def rewritten (s : State) : Nat := s.get Reg.cfgMask ||| s.get Reg.bistMask ||| s.get Reg.stallRst

/-- A register write of a processor to Stall `n`: an error response while the Stall's blocks are being rewritten (R30). -/
def stallWrite (n : Nat) (f : State → Out) (s : State) : Out := if bitAt (rewritten s) n then ok (busErr s) else f s

end Sys2Proof.Machine
end

