-- ==== Sys2Proof/Machine/Record.lean ====
section
/-!
DEFINITION. What every block reports through: Cellar casks handed to engines (R376, R377), Logbook records and triggers
(R381 to R388), the Ledger's fault history (R399, R400), and raising an event or recording a fault code over them.
-/

namespace Sys2Proof.Machine
open Reg

/-! ### Cellar casks (R376 to R378) -/

/-- Owner code of cask `k`. -/
def caskOwner (s : State) (k : Nat) : Nat := bits (s.get (CELLAR_OWNj_OWN (k / 8))) (4 * (k % 8)) 4

/-- Give cask `k` the owner code `u`. -/
def setCaskOwner (k u : Nat) (s : State) : State :=
  s.set (CELLAR_OWNj_OWN (k / 8)) (putBits (s.get (CELLAR_OWNj_OWN (k / 8))) (4 * (k % 8)) 4 u)

/-- First address of cask `k`. -/
def caskBase (k : Nat) : Nat := 0x20000000 + k * 0x1000

/-- Casks reserved for user `v` and not held by it. -/
def unusedReserve (s : State) (v : Nat) : Nat := s.get (CELLAR_QUOTA_u_MIN v) - s.get (CELLAR_USE_u_COUNT v)

/-- Unused reserves of every user. -/
def reserves (s : State) : Nat := ((List.range 16).map (unusedReserve s)).sum

/-- Keep `CELLAR_FREE.UNRES` at the free casks beyond unused reserves. -/
def cellarCount (s : State) : State := s.set CELLAR_FREE_UNRES (s.get CELLAR_FREE_FREE - reserves s)

/-- Whether R377 lets user `u` have one more cask. -/
def caskAllowed (s : State) (u : Nat) : Bool :=
  let c := s.get (CELLAR_USE_u_COUNT u)
  decide (c < s.get (CELLAR_QUOTA_u_MIN u)) ||
    (decide (c < s.get (CELLAR_QUOTA_u_MAX u)) && decide (reserves s - unusedReserve s u < s.get CELLAR_FREE_FREE))

/-- The lowest-numbered cask that can be handed out. -/
def freeCask (s : State) : Option Nat :=
  firstBelow 1024 (fun k => caskOwner s k == 0 && !s.flag (cellarZeroing k))

/-- User `u` holds one more cask. -/
def useInc (u : Nat) (s : State) : State :=
  let s := s.inc (CELLAR_USE_u_COUNT u)
  s.set (CELLAR_USE_u_PEAK u) (max (s.get (CELLAR_USE_u_PEAK u)) (s.get (CELLAR_USE_u_COUNT u)))

/-- User `u` holds one cask less. -/
def useDec (u : Nat) (s : State) : State := s.set (CELLAR_USE_u_COUNT u) (s.get (CELLAR_USE_u_COUNT u) - 1)

/-- Hand the lowest free cask to user `u`, if its quota allows (R377). -/
def cellarTake (u : Nat) (s : State) : Option (Nat × State) :=
  if caskAllowed s u then
    match freeCask s with
    | none => none
    | some k =>
      some (k, cellarCount (useInc u (setCaskOwner k u (s.set CELLAR_FREE_FREE (s.get CELLAR_FREE_FREE - 1)))))
  else none

/-- Take back cask `k` from its owner: it reads as free and is zeroed before it can be handed out again (R377). -/
def cellarFree (k : Nat) (s : State) : State :=
  cellarCount ((setCaskOwner k 0 (useDec (caskOwner s k) s)).setB (cellarZeroing k) true)

/-- Take `c` casks for user `u`, all or none. -/
def cellarTakeN (u : Nat) : Nat → State → Option (List Nat × State)
  | 0, s => some ([], s)
  | c + 1, s =>
    match cellarTake u s with
    | none => none
    | some (k, s) =>
      match cellarTakeN u c s with
      | none => none
      | some (l, s) => some (k :: l, s)

/-! ### Logbook records -/

/-- Whether the engine writes records: enabled, a ring exists, capturing or in the post phase (R381, R387). -/
def logOn (s : State) : Bool :=
  s.flag LOGBOOK_CTRL_EN && s.flag PORTER_PART_LOG && (s.get LOGBOOK_STAT_STATE == 1 || s.get LOGBOOK_STAT_STATE == 2)

/-- Bytes in the ring: 64 MiB units (R366). -/
def ringSize (s : State) : Nat := s.get PORTER_PART_LOG * 0x4000000

/-- The 8 header bytes of a record (R382). -/
def logHeader (s : State) (typ len src sub at_ : Nat) : List Byte :=
  toBytes 4 (typ + 2 ^ 8 * len + 2 ^ 16 * src + 2 ^ 20 * sub + 2 ^ 24 * (s.get LOGBOOK_SEQ_SEQ % 256)) ++ toBytes 4 at_

/-- Number of staging casks held. -/
def logCasks (s : State) : Nat := (firstBelow 1024 (fun i => s.get (logCask i) == 0)).getD 1024

/-- Make room for `len` bytes in the last staging cask, or take a new cask. `none`: no space (R386). -/
def logRoom (len : Nat) (s : State) : Option (Nat × State) :=
  let c := logCasks s
  if 0 < c ∧ s.get (logFill (c - 1)) + len ≤ 4096 then some (c - 1, s)
  else
    match cellarTake 4 s with
    | none => none
    | some (k, s) => some (c, (((s.set (logCask c) (k + 1)).set (logFill c) 0).set (logRecs c) 0).set (logCaskAt c) s.now)

/-- The bytes after the header: a `TIME` record holds the full time and its own sequence number (R383). -/
def logBody (typ : Nat) (body : List Byte) (s : State) : List Byte :=
  if typ = 6 then toBytes 8 s.now ++ toBytes 4 (s.get LOGBOOK_SEQ_SEQ) else body

/-- Stage one whole record of `len` 8-byte units: sequence number, ring offset, trigger pointer (R382, R385, R387). -/
def logPut (typ len src sub at_ : Nat) (body : List Byte) (s : State) : Option State :=
  match logRoom (8 * len) s with
  | none => none
  | some (i, s) =>
    let body := logBody typ body s
    let rec_ := logHeader s typ len src sub at_ ++ (body ++ List.replicate (8 * len - 8 - body.length) 0)
    let v := s.get logVirt
    let s := s.putBytes (caskBase (s.get (logCask i) - 1) + s.get (logFill i)) rec_
    let s := { s with logStage := s.logStage ++ [rec_] }
    let s := (s.addSat (logFill i) (8 * len)).inc (logRecs i)
    let s := s.when (s.flag logTrigPend)
      (fun s => (s.setWide LOGBOOK_TRIG_PTR_LO_OFS LOGBOOK_TRIG_PTR_HI_OFS v).set logTrigPend 0)
    let s := s.set LOGBOOK_SEQ_SEQ (s.get LOGBOOK_SEQ_SEQ + 1)
    some (s.set logVirt (if v + 8 * len = ringSize s then 0 else v + 8 * len))

/-- A record in its place in the ring: a `PAD` record first where it would span the ring's end (R385). -/
def logPlace (typ len src sub at_ : Nat) (body : List Byte) (s : State) : Option State :=
  let room := ringSize s - s.get logVirt
  if room < 8 * len then
    match logPut 0 (room / 8) 4 0 s.now [] s with
    | none => none
    | some s => logPut typ len src sub at_ body s
  else logPut typ len src sub at_ body s

/-- Count one dropped record (R386). -/
def logDrop (s : State) : State := (s.inc LOGBOOK_DROP_COUNT).inc logDropRun

/-- Stage a record, with a `GAP` record before it when records were dropped (R386). The flag tells of a first drop after a
written record. The staging of an isolated Stall is stopped (R30). -/
def logRecord (typ len src sub at_ : Nat) (body : List Byte) (s : State) : Bool × State :=
  if logOn s && !(decide (src < 4) && isolated src s) then
    let gap := s.get logDropRun
    let s1 : Option State :=
      if gap = 0 then some s else (logPlace 7 2 4 0 s.now (toBytes 4 gap) s).map (fun s => s.set logDropRun 0)
    match s1.bind (logPlace typ len src sub at_ body) with
    | some s' => (false, s')
    | none => (gap == 0, logDrop s)
  else (false, s)

/-- Record source of a fault code's or an event's domain: 0 to 3 Stall, 4 Yard (R382). -/
def eventSrc (e : Nat) : Nat := if e < 0x40 then 4 else (e - 0x40) / 0x40
def codeSrc (code : Nat) : Nat := if code / 0x1000 = 0 then 4 else code / 0x1000 - 1

/-- An event on its lines and in the Logbook, without its effect as a trigger. -/
def reportEvent (e : Nat) (s : State) : Bool × State :=
  let s := routeEvent e s
  if s.flag LOGBOOK_CTRL_EVENT then logRecord 3 2 (eventSrc e) 0 s.now (toBytes 4 e) s else (false, s)

/-- Whether an `ARM` waits in the queue: it falls into the same instant (R388). -/
def armWaits (s : State) : Bool :=
  s.pending.any (fun c => match c with
    | .logbookArm => true
    | .registerWrite _ a v => a.toNat == LOGBOOK_CMD_CODE.addr && v.toNat % 256 == 2
    | _ => false)

/-- What a Logbook trigger of `kind` with `code` writes (R387); one that is met while capturing is reported as `EV_LOG_TRIG` besides. One
that coincides with an `ARM` of a frozen ring is taken after it (R388). -/
def trigSet (kind code : Nat) (s : State) : State :=
  if s.get LOGBOOK_STAT_STATE = 1 then
    let s := s.setWide LOGBOOK_TRIG_TB_LO_TB LOGBOOK_TRIG_TB_HI_TB s.now
    let s := ((s.set LOGBOOK_TRIG_INFO_KIND kind).set LOGBOOK_TRIG_INFO_CODE code).set logTrigPend 1
    s.set LOGBOOK_STAT_STATE 2
  else if s.get LOGBOOK_STAT_STATE = 3 ∧ armWaits s then
    if s.get logDefKind = 0 then (s.set logDefKind kind).set logDefCode code else s.inc logDefMore
  else if s.get LOGBOOK_STAT_STATE = 2 ∨ s.get LOGBOOK_STAT_STATE = 3 then s.inc LOGBOOK_TRIG_INFO_MORE
  else s

/-- Whether an event acts as a trigger: `LOGBOOK_TRIG_CFG` names it. -/
def eventTrigs (e : Nat) (s : State) : Bool := s.flag LOGBOOK_TRIG_CFG_EVT_EN && s.get LOGBOOK_TRIG_CFG_EVT == e

/-- Class number in a fault entry and a `FAULT` record (R383, R399). -/
def clsNum : Cls → Nat
  | .ride => 0
  | .stallSafe => 1
  | .deviceSafe => 2

/-- Whether a fault code acts as a trigger: its class is enabled. -/
def codeTrigs (c : Nat) (s : State) : Bool := bitAt (s.get LOGBOOK_TRIG_CFG_CLASS) c

/-! ### The Ledger's fault history (R399, R400) -/

/-- The open page takes a new entry. -/
def ledAppend (code c : Nat) (s : State) : State :=
  let p := s.get LEDGER_FLT_STAT_PAGE
  let k := s.get LEDGER_FLT_STAT_FILL % 16
  let s := s.set (LEDGER_LIVE_w_W 75) (s.get (LEDGER_LIVE_w_W 75) + 1)
  let s := s.set (LEDGER_PAGE_p_W p (4 * k)) (code + 2 ^ 16 * c)
  let s := s.set (LEDGER_PAGE_p_W p (4 * k + 1)) (s.get (LEDGER_LIVE_w_W 75))
  let s := s.set (LEDGER_PAGE_p_W p (4 * k + 2)) (s.get LEDGER_CAL_SEC_LO_SEC)
  let s := s.set (LEDGER_PAGE_p_W p (4 * k + 3)) (s.get LEDGER_CAL_SUB_SUB + 2 ^ 15 * s.get LEDGER_CAL_STAT_VALID)
  let s := (s.set LEDGER_FLT_STAT_FILL (k + 1)).inc (ledUncarried p)
  s.set (ledDirty p) 1

/-- A full page: the next page modulo 64 is cleared and opened; entries no record carried are lost (R400). -/
def ledOpenPage (s : State) : State :=
  let p := (s.get LEDGER_FLT_STAT_PAGE + 1) % 64
  let s := s.addSat LEDGER_FLT_STAT_LOST (s.get (ledUncarried p))
  let s := s.each (List.range 64) (fun w s => s.set (LEDGER_PAGE_p_W p w) 0)
  (((s.set (ledUncarried p) 0).set (ledDirty p) 1).set LEDGER_FLT_STAT_PAGE p).set LEDGER_FLT_STAT_FILL 0

/-- The newest entry is of `code`, made in this calendar second, and still in the open page. -/
def ledSameNewest (code : Nat) (s : State) : Bool :=
  let p := s.get LEDGER_FLT_STAT_PAGE
  let k := s.get LEDGER_FLT_STAT_FILL
  decide (0 < k) && s.get (LEDGER_PAGE_p_W p (4 * ((k - 1) % 16))) % 2 ^ 16 == code &&
    s.get (LEDGER_PAGE_p_W p (4 * ((k - 1) % 16) + 2)) == s.get LEDGER_CAL_SEC_LO_SEC

/-- Repeat count of the newest entry, saturating at 63. -/
def ledRepeat (s : State) : State :=
  let p := s.get LEDGER_FLT_STAT_PAGE
  let f := LEDGER_PAGE_p_W p (4 * ((s.get LEDGER_FLT_STAT_FILL - 1) % 16))
  (s.set f (putBits (s.get f) 18 6 (min 63 (bits (s.get f) 18 6 + 1)))).set (ledDirty p) 1

/-- One fault code enters the history of a loaded Ledger. -/
def ledEnter (code c : Nat) (s : State) : State :=
  let s := s.inc (LEDGER_LIVE_w_W (72 + c))
  if ledSameNewest code s then ledRepeat s
  else if s.get LEDGER_FLT_STAT_FILL = 16 then ledAppend code c (ledOpenPage s)
  else ledAppend code c s

/-- Whether the entry of a fault code opens a page whose entries no record carried, which raises LEDGER cause 0x04 (R400). -/
def ledLoses (code : Nat) (s : State) : Bool :=
  s.flag LEDGER_STAT_LOADED && !ledSameNewest code s && s.get LEDGER_FLT_STAT_FILL == 16 &&
    s.flag (ledUncarried ((s.get LEDGER_FLT_STAT_PAGE + 1) % 64))

/-- A raised fault code in the fault history: held while the boot load runs, up to 64 of them (R399). -/
def faultEntry (code c : Nat) (s : State) : State :=
  if s.flag LEDGER_STAT_LOADED then ledEnter code c s
  else if s.faultHeld.length < 64 then { s with faultHeld := s.faultHeld ++ [(code, c)] }
  else (s.inc LEDGER_FLT_STAT_LOST).inc (ledLateCls c)

/-! ### Events and fault codes -/

/-- A fault code in the history and the Logbook, without its effect as a trigger. -/
def reportFault (code c : Nat) (s : State) : Bool × State :=
  let s := faultEntry code c s
  if s.flag LOGBOOK_CTRL_FAULT then logRecord 4 2 (codeSrc code) 0 s.now (toBytes 4 (code + 2 ^ 16 * c)) s else (false, s)

/-- What is raised: an event, or a fault code with the number of its class. -/
inductive Report
  | event (e : Nat)
  | fault (code cls : Nat)
  deriving DecidableEq, Repr

/-- The first drop of a Logbook record after a written one raises `EV_LOG_DROP` and cause 0x0380 (R386). -/
def dropReports (first : Bool) : List Report := if first then [.event 0x02A, .fault 0x0380 0] else []

/-- A trigger met while capturing raises `EV_LOG_TRIG` (R387). -/
def trigReports (taken : Bool) : List Report := if taken then [.event 0x028] else []

/-- One event (R39 to R42) or fault code (R399) on its lines, in the history, in the Logbook and as a trigger (R383, R387), and what that
raises in turn. What a code's class makes the device do follows in Machine/Raise.lean. -/
def reportOne (r : Report) (s : State) : List Report × State :=
  match r with
  | .event e =>
    let (first, s) := reportEvent e s
    let hit := eventTrigs e s
    (dropReports first ++ trigReports (hit && s.get LOGBOOK_STAT_STATE == 1), s.when hit (trigSet 2 e))
  | .fault code c =>
    let lost := ledLoses code s
    let (first, s) := reportFault code c s
    let hit := codeTrigs c s
    ((if lost then [.fault 0x0A04 0] else []) ++ (dropReports first ++ trigReports (hit && s.get LOGBOOK_STAT_STATE == 1)),
      s.when hit (trigSet 1 code))

/-- Reports one after the other, each followed by those that it raises. `k` bounds their number: one report raises a lost page once, one
trigger, and a first drop at most as often as a record still fits between two drops, so that 32 are never reached. -/
def reports : Nat → List Report → State → State
  | 0, _, s => s
  | _, [], s => s
  | k + 1, r :: l, s => let (m, s) := reportOne r s; reports k (m ++ l) s

/-- Raise event `e` (R39 to R42, R387). -/
def raiseEvent (e : Nat) (s : State) : State := reports 32 [.event e] s

/-- A Logbook trigger of `kind` with `code` (R387, R388). -/
def logTrigger (kind code : Nat) (s : State) : State :=
  reports 32 (trigReports (s.get LOGBOOK_STAT_STATE == 1)) (trigSet kind code s)

/-- Raise event `i` of Stall `n` (R12). -/
def raiseStall (n i : Nat) (s : State) : State := raiseEvent (0x40 + 0x40 * n + i) s

/-- Stage a Logbook record and report a first drop. -/
def logWrite (typ len src sub at_ : Nat) (body : List Byte) (s : State) : State :=
  let (first, s) := logRecord typ len src sub at_ body s
  reports 32 (dropReports first) s

/-- A code held during the boot load enters the history (R399, R400). -/
def heldEnter (code c : Nat) (s : State) : State :=
  let lost := ledLoses code s
  (ledEnter code c s).when lost (reports 32 [.fault 0x0A04 0])

/-- Record a raised fault code: history, Logbook record, Logbook trigger. What its class makes the device do follows in
Machine/Raise.lean. -/
def recordFault (code : Nat) (cls : Cls) (s : State) : State := reports 32 [.fault code (clsNum cls)] s

/-- The fault code of cause `cause` of block `blk` of Stall `n` (R11). -/
def stallCode (n blk cause : Nat) : Nat := 0x1000 * (n + 1) + 0x100 * blk + cause

/-- The fault code of cause `cause` of Yard block value `blk` (R11). -/
def yardCode (blk cause : Nat) : Nat := 0x100 * blk + cause

/-! ### Access violations (R23) -/

/-- The number of a requester (R23); `SYS_RST_CAUSE.REQ` of a writer (R487). -/
def reqCode : Req → Nat
  | .y => 0
  | .s => 1
  | .i => 2
  | .d => 3

/-- An access outside the rights of R22 by requester `req` (R23); the caller discards the write or reads 0. -/
def violation (req a : Nat) (write : Bool) (s : State) : State :=
  let s := (busErr s).inc SYS_VIOL_COUNT_COUNT
  let s := s.when (!s.flag SYS_VIOL_INFO_VALID) (fun s =>
    let s := s.setWide SYS_VIOL_ADDR_LO_ADDR SYS_VIOL_ADDR_HI_ADDR a
    ((s.set SYS_VIOL_INFO_REQ req).setB SYS_VIOL_INFO_WRITE write).set SYS_VIOL_INFO_VALID 1)
  raiseEvent 0 s

/-- An act of the debug port shows that a debugger is connected (R474; log entry 110). -/
def debugSeen (who : Req) (s : State) : State := s.when (who == .d) (fun s => s.set BIST_DBG_CONN 1)

/-- A command row of `who` at the register at `a`: the debug port writes at level 2 only (R471). -/
def debugWrite (who : Req) (a : Nat) (run : State → State) (s : State) : State :=
  let s := debugSeen who s
  if who = .d ∧ s.get BIST_DBG_LEVEL ≠ 2 then violation (reqCode who) a true s else run s

end Sys2Proof.Machine
end

