-- ==== Sys2Proof/Machine/Lines.lean ====
section
/-!
DEFINITION. The output stage: the command lines of a Stall and of the two AUX units from their ranked sources (R275), the
shoot-through interlock (R231), the dead-time floor (R232) and the enable pins.
-/

namespace Sys2Proof.Machine
open Reg

/-- Lines are numbered as in `ON_SRC` (R228): 2h the high side of half-bridge h, 2h + 1 its low side. -/
def highs : Nat := 0b010101
def lows : Nat := 0b101010

/-- `a` without the bits of `b` (6-bit masks). -/
def without (a b : Nat) : Nat := a &&& (0b111111 ^^^ (b &&& 0b111111))

/-- Lines of the half-bridges whose Rein link is `READY`: the others are held low (R244). -/
def readyMask (n : Nat) (s : State) : Nat :=
  ((List.range 3).map (fun h => if s.get (REIN_Lh_STAT_STATE (3 * n + h)) = 3 then 3 * 4 ^ h else 0)).sum

/-- Level number of a trip input's `LVLj` field: 0 all off, 1 low sides on, 2 high sides on (R224). -/
def trip_level (n j : Nat) (s : State) : Nat := bits (s.get (PWM_TRIP_CFG_TRIP n)) (8 * j + 2) 2

/-- The common level of the forcing trips, all off where they differ (R224). -/
def forcedLevel (n : Nat) (s : State) : Nat :=
  let l := (List.range 4).filter (fun j => bitAt (s.get (PWM_TRIP_STAT_FORCE n)) j)
  match l with
  | [] => 0
  | j :: r => if r.all (fun k => trip_level n k s == trip_level n j s) then trip_level n j s else 0

/-- Lines on for a level number of R224. -/
def levelLines (l : Nat) : Nat := if l = 1 then lows else if l = 2 then highs else 0

/-- Lines on for `PROT_STAT.SAFE` (R274). -/
def safeLines (v : Nat) : Nat := if v = 2 then lows else if v = 3 then highs else 0

/-- The PWM's own commands after the minimum pulse (R210): removed intervals off, bridged gaps on, held lines as they are. -/
def pwmLines (n : Nat) (s : State) : Nat :=
  let hold := s.get (pwmHold n)
  let free := (without (s.get (PWM_LINES_CMD n)) (s.get (pwmRemoved n))) ||| s.get (pwmBridged n)
  (without free hold) ||| (s.get (PWM_LINES_LINE n) &&& hold)

/-- What the highest ranked source calls for on the six lines (R275). -/
def wantedLines (n : Nat) (s : State) : Nat :=
  let st := s.get (PWM_STAT_STATE n)
  let w :=
    if !s.flag (pwmPinHigh n) then 0
    else if s.flag (PROT_STAT_STO n) then 0
    else if s.get (PROT_STAT_SHD n) = 2 then 0
    else if st = 3 then (if s.flag (PROT_STAT_PROV n) then 0 else safeLines (s.get (PROT_STAT_SAFE n)))
    else if st = 1 ∨ st = 2 then
      (if s.flag (PWM_TRIP_STAT_FORCE n) then levelLines (forcedLevel n s) else pwmLines n s)
    else 0
  w &&& readyMask n s

/-- The lead of Stall `n`'s pair, or `n`. -/
def leadOf (n : Nat) (s : State) : Nat := if s.get (PWM_CTRL_PAIR n) = 2 then n - 1 else n

/-- `SAMP` as Stall `n` obeys it: a follower copies its lead's (R223). -/
def sampOf (n : Nat) (s : State) : Nat := s.get (PWM_CTRL_SAMP (leadOf n s))

/-- The sampling instants of Stall `n` take in this one (R205). -/
def sampledAt (n : Nat) (peak : Bool) (s : State) : Bool := bitAt (sampOf n s) peak.toNat

/-- Whether an edge of Stall `n` at instant `t` falls on a zero that is a load instant and whose selections are still to be sent: it is
nearer to its load instant than the frame allows (R235). -/
def atLoadZero (n t : Nat) (s : State) : Bool := t == s.get (pwmZeroAt n) && !s.flag (pwmZeroDone n) && sampledAt n false s

/-- The dead-time floor in fine steps (R209, R232). -/
def floorFine (s : State) : Nat := s.get safDtFloor * 64

/-- First instant at which a line called on from instant `req` may turn on: its partner `p` off for the floor (R232). -/
def onDue (n p req : Nat) (s : State) : Nat :=
  let o := s.get (pwmOffAt n p)
  if o = 0 then req else max req (o - 1 + floorFine s)

/-- A command edge of link `l` at instant `t`: kind 0 high side on, 1 high side off, 2 low side on, 3 low side off. The selection due
at it is the newest whose frame ended 300 ns before it, either one within 40 ns of that limit (R235, R249); an edge nearer to its
load instant counts in `PWM_GP_STAT.PREV`. A turn-on that a `VSAMP` frame waits for gives the sample's stamp (R250). -/
def reinEdge (l kind t : Nat) (s : State) : State :=
  let tag := s.get (REIN_Lh_ECHO_EXP l)
  let sel := s.get (reinSelT l tag)
  let lim := sel - 1 + 3840
  let code := if sel = 0 then 3 else if t + 512 < lim then 1 else if t ≤ lim + 512 then 2 else 0
  let s := s.when (decide (l < 12) && (atLoadZero (l / 3) t s || (sel != 0 && decide (t < lim)))) (fun s => s.inc (PWM_GP_STAT_PREV (l / 3)))
  let s := s.each [3, 2, 1] (fun j s =>
    (s.set (reinEAt l (4 * kind + j)) (s.get (reinEAt l (4 * kind + j - 1)))).set (reinEInfo l (4 * kind + j))
      (s.get (reinEInfo l (4 * kind + j - 1))))
  let s := (s.set (reinEAt l (4 * kind)) (t + 1)).set (reinEInfo l (4 * kind)) (4 * tag + code)
  let side := kind / 2
  let vs := s.get (reinVsEnd l side)
  s.when (kind % 2 == 0 && vs != 0 && decide (vs - 1 + 3840 ≤ t)) (fun s =>
    (s.set (reinVonStamp l side) (t / 64 + 8 * s.get (reinVsD l side))).set (reinVsEnd l side) 0)

/-- Line `i` of Stall `n` takes a level at instant `t`. -/
def setLine (n i t : Nat) (on : Bool) (s : State) : State :=
  if bitAt (s.get (PWM_LINES_LINE n)) i = on then s
  else
    let s := reinEdge (3 * n + i / 2) (2 * (i % 2) + (!on).toNat) t (s.setBit (PWM_LINES_LINE n) i on)
    if on then s.set (pwmOnAt n i) t else s.set (pwmOffAt n i) (t + 1)

/-- The interlock suppresses a turn-on of line `i`: count, event, cause 0x01 (R231). -/
def suppress (n i : Nat) (s : State) : State :=
  let h := i / 2
  let c := s.get (PWM_SHOOT_STAT_COUNT n)
  let s := s.setBit (pwmSup n) i true
  let s := s.set (PWM_SHOOT_STAT_COUNT n) (putBits c (8 * h) 8 (min 255 (bits c (8 * h) 8 + 1)))
  recordFault (stallCode n 0 1) .ride (raiseStall n 0x03 s)

/-- Line `i`, off and called on while its partner `p` is off, turns on at the first instant it may, if that has come by instant `t`
(R232). -/
def turnOn (n i p t : Nat) (s : State) : State :=
  let due := onDue n p (s.get (pwmReqAt n i) - 1) s
  s.when (!bitAt (s.get (PWM_LINES_LINE n)) i && decide (due ≤ t)) (setLine n i due true)

/-- Line `i` is not called on at instant `t`: it is off, and no turn-on of it waits. -/
def turnOff (n i t : Nat) (s : State) : State := ((setLine n i t false s).setBit (pwmSup n) i false).set (pwmReqAt n i) 0

/-- Line `i` is called on at instant `t`, and off until the output stage lets it on. -/
def callOn (n i t : Nat) (s : State) : State :=
  s.when (s.get (pwmReqAt n i) == 0 && !bitAt (s.get (PWM_LINES_LINE n)) i) (fun s => s.set (pwmReqAt n i) (t + 1))

/-- Line `a` of Stall `n` and its partner `b` are both called on: in the same tick, both stay off; else the later call is suppressed
(R231; log entry 12). -/
def shoot (n a b t : Nat) (s : State) : State :=
  let ra := s.get (pwmReqAt n a)
  let rb := s.get (pwmReqAt n b)
  let on := fun i => bitAt (s.get (PWM_LINES_LINE n)) i
  if ra ≠ 0 ∧ rb ≠ 0 ∧ (ra - 1) / 64 = (rb - 1) / 64 then
    suppress n b (suppress n a (setLine n b t false (setLine n a t false s)))
  else if on b || (!on a && decide (rb < ra)) then turnOn n b a t (suppress n a s)
  else turnOn n a b t (suppress n b s)

/-- The two lines of half-bridge `h` after the output stage sees `want` at instant `t` (R231, R232). -/
def stageHalf (n t want h : Nat) (s : State) : State :=
  let a := 2 * h
  let b := 2 * h + 1
  let s := s.each [a, b] (fun i s => if bitAt want i then callOn n i t s else turnOff n i t s)
  let live := fun i => bitAt want i && !bitAt (s.get (pwmSup n)) i
  if live a && live b then shoot n a b t s
  else if live a then turnOn n a b t s
  else if live b then turnOn n b a t s
  else s

/-- Let the output stage of Stall `n` act at instant `t` (fine steps). -/
def refreshLines (n t : Nat) (s : State) : State :=
  let w := wantedLines n s
  s.each [0, 1, 2] (stageHalf n t w)

/-- Every line of Stall `n` off at once, commands and minimum-pulse bookkeeping cleared (R216). -/
def linesOff (n : Nat) (s : State) : State :=
  let s := ((s.set (PWM_LINES_CMD n) 0).set (pwmRemoved n) 0).set (pwmBridged n) 0
  let s := ((s.set (pwmHold n) 0).set (pwmSup n) 0).each [0, 1, 2] (fun h s => (s.set (pwmDtPend n h) 0).set (pwmRef n h) 0)
  s.each (List.range 6) (fun i s => turnOff n i (s.now * 64) s)

/-- Whether Stall `n` is switching: PWM state 1, 2 or 3 (R214). -/
def switching (n : Nat) (s : State) : Bool :=
  let st := s.get (PWM_STAT_STATE n)
  decide (1 ≤ st) && decide (st ≤ 3)

/-- The partner of Stall `n` in a six-phase pair (R31). -/
def partner (n : Nat) (s : State) : Option Nat :=
  if s.get (PWM_CTRL_PAIR n) = 1 then some (n + 1)
  else if s.get (PWM_CTRL_PAIR n) = 2 then some (n - 1) else none

/-- Stall `n` and its partner, the lead first. -/
def pairList (n : Nat) (s : State) : List Nat :=
  if s.get (PWM_CTRL_PAIR n) = 1 then [n, n + 1]
  else if s.get (PWM_CTRL_PAIR n) = 2 then [n - 1, n] else [n]

/-- Whether an STO hold acts on output `k` of the sealed maps: 0 to 3 Stalls, 4 and 5 the AUX units (R318, R335). -/
def stoMapped (k : Nat) (s : State) : Bool :=
  let m := s.get safStoMap
  (bitAt (s.get safStoHeld) 0 && bitAt m k) || (bitAt (s.get safStoHeld) 1 && bitAt m (8 + k))

/-- The line of AUX unit `k` from its call, `AUX_EN`, a mapped STO input and its link (R236, R237, R244). -/
def auxLine (k t : Nat) (s : State) : State :=
  let on := s.flag (auxWant k) && s.flag safAuxPin && !stoMapped (4 + k) s &&
    s.get (REIN_Lh_STAT_STATE (12 + k)) == 3
  if s.flag (AUX_Ak_STAT_LINE k) = on then s
  else
    let s := reinEdge (12 + k) (!on).toNat t (s.setB (AUX_Ak_STAT_LINE k) on)
    if on then s.set (auxOnAt k) t else s.set (auxOffAt k) (t + 1)

end Sys2Proof.Machine
end

