-- ==== Sys2Proof/Machine/Raise.lean ====
section
/-!
DEFINITION. What a fault code's class makes the device do (R308): a Stall's entry into its safe state and the row of the
decision table (R274 to R286), the device-safe latch (R309), the Sheepdog's commands (R310), the contactor requests (R332) and
the demands on the AUX units (R237, R289).
-/

namespace Sys2Proof.Machine
open Reg

/-! ### AUX demands (R237, R288, R289) -/

/-- The lowest-numbered member Stall that is not isolated (R288). -/
def governing (s : State) : Option Nat :=
  firstBelow 4 (fun n => s.flag (PROT_LINK_CFG_MEMBER n) && s.get (PWM_STAT_STATE n) != 4)

/-- Keep `PROT_LINK_CFG.GOV` of each Stall (R288). -/
def govUpdate (s : State) : State :=
  s.each [0, 1, 2, 3] (fun n s => s.setB (PROT_LINK_CFG_GOV n) (governing s == some n))

/-- The on-time of the AUX0 demand, `none` while nothing demands it (R289). -/
def aux0Demand (s : State) : Option Nat :=
  let rows := [0, 1, 2, 3].filter (fun n => s.flag (PROT_STAT_CHOP n))
  let mons := [0, 1, 2, 3].filter (fun n => s.flag (PROT_LINK_CFG_MEMBER n) && s.flag (PROT_LINK_CFG_WARN_EN n) && s.flag (protWarn n))
  if rows.isEmpty && mons.isEmpty then none
  else
    match governing s with
    | some g => some (s.get (PROT_CH_TON_TON g))
    | none => some ((rows.map (fun n => s.get (PROT_CH_TON_TON n))).foldl max 0)

/-- The on-time of the AUX1 demand (R290). -/
def aux1Demand (s : State) : Option Nat :=
  if s.flag auxDisRun then
    match governing s with
    | some g => some (s.get (PROT_DIS_TON_TON g))
    | none => some 0
  else none

/-! ### Contactor opening requests (R332) -/

/-- `OPEN_MASK` of the sealed copy in force. -/
def openMask (s : State) : Nat := bits (s.get safDsCfg) 4 4

/-- Whether a Stall's row or the device-safe latch requests the contactors open. -/
def ctcRequested (s : State) : Bool :=
  s.flag SAFETY_STAT_DS || [0, 1, 2, 3].any (fun n => s.flag (PROT_STAT_CTC_REQ n))

/-- Whether source `i` requests the contactors open: 0 to 3 a Stall's row, 4 the device-safe latch (R332). -/
def ctcSource (i : Nat) (s : State) : Bool := if i < 4 then s.flag (PROT_STAT_CTC_REQ i) else s.flag SAFETY_STAT_DS

/-- Keep `CTC_STAT.REQ` and the instant each source's request began. -/
def ctcUpdate (s : State) : State :=
  let s := s.each [0, 1, 2, 3, 4] (fun i s =>
    if ctcSource i s then s.when (s.get (ctcReqAt i) == 0) (fun s => s.set (ctcReqAt i) (s.now + 1)) else s.set (ctcReqAt i) 0)
  if ctcRequested s then
    (s.set CTC_STAT_REQ (openMask s)).each [0, 1, 2, 3] (fun k s => s.set (ctcZero k) 0)
  else s.set CTC_STAT_REQ 0

/-! ### The decision table (R280 to R286) -/

/-- Status of switch `w` of Stall `n` (R280): 1 suspected shorted, 3 unknown, 2 unavailable, 0 available. -/
def switchStatus (n w : Nat) (s : State) : Nat :=
  let h := w / 2
  let l := 3 * n + h
  let st := s.get (REIN_Lh_STAT_STATE l)
  let fl := s.get (REIN_Lh_STAT_FLAGS l)
  let sus := s.get (protSus n w)
  let ovr := bits (s.get (PROT_SW_OVR_OVR n)) (2 * w) 2
  let uvlo := bitAt fl (if w % 2 = 0 then 10 else 6)
  if sus = 1 ∨ ovr = 1 then 1
  else if st = 5 ∨ s.flag (protUnk n h) then 3
  else if sus = 2 ∨ uvlo ∨ bitAt fl 12 ∨ st ≠ 3 ∨ ovr = 2 then 2
  else 0

/-- Keep `PROT_SW_STAT` (R280). -/
def switchUpdate (n : Nat) (s : State) : State :=
  s.set (PROT_SW_STAT_SW n) (((List.range 6).map (fun w => switchStatus n w s * 4 ^ w)).sum)

/-- Status of switch `w` as `PROT_SW_STAT` holds it. -/
def swOf (n w : Nat) (s : State) : Nat := bits (s.get (PROT_SW_STAT_SW n)) (2 * w) 2

/-- Speed band at this instant, or `none` where it keeps its value (R283). `entry`: at the entry into state 3. -/
def speedBand (n : Nat) (entry : Bool) (s : State) : Option Bool :=
  let p := leadOf n s
  let v := F32.abs (s.getF (POS_SPD_SPD p))
  if !s.flag (POS_SPD_STAT_VALID p) || s.get (POS_STAT_SRC p) == 2 then some true
  else if entry then some (F32.le (s.getF (PROT_SPD_LO_SPD p)) v)
  else if F32.le (s.getF (PROT_SPD_HI_SPD p)) v then some true
  else if F32.lt v (s.getF (PROT_SPD_LO_SPD p)) then some false
  else none

/-- Keep `PROT_STAT.SPD_HIGH`. -/
def bandUpdate (n : Nat) (entry : Bool) (s : State) : State :=
  match speedBand n entry s with
  | some b => s.setB (PROT_STAT_SPD_HIGH n) b
  | none => s

/-- The row of the decision table for Stall `n`, over its pair, in the speed band `high` (R282, R286). -/
def decideRow (n : Nat) (high : Bool) (s : State) : Nat :=
  let ps := pairList n s
  let kind := (ps.map (fun p => s.get (PROT_STAT_SHD p))).foldl max 0
  let short := fun side => ps.any (fun p => [0, 1, 2].any (fun h => swOf p (2 * h + side) s == 1))
  let full := fun side => ps.all (fun p => [0, 1, 2].all (fun h => decide (swOf p (2 * h + side) s ≤ 1)))
  let pref := s.get (PROT_POL_PREF (leadOf n s))
  -- side 0 is the high side, side 1 the low side
  let prefSide := if pref = 1 then 0 else 1
  if kind = 2 then 1
  else if short 0 && short 1 then 2
  else if short 1 then (if full 1 then 3 else 4)
  else if short 0 then (if full 0 then 5 else 6)
  else if !high then 7
  else if full prefSide then 8
  else if full (1 - prefSide) then 9
  else 10

/-- Safe state of a row: 1 `TORQUE_OFF`, 2 `ASC_LOW`, 3 `ASC_HIGH`. -/
def rowSafe (row pref : Nat) : Nat :=
  if row = 3 then 2 else if row = 5 then 3
  else if row = 8 then (if pref = 1 then 3 else 2)
  else if row = 9 then (if pref = 1 then 2 else 3)
  else 1

/-- Whether a row demands AUX0. -/
def rowChop (row : Nat) (high : Bool) : Bool :=
  row == 2 || row == 4 || row == 6 || row == 10 || (row == 1 && high)

/-- Whether a row requests the contactors open. -/
def rowOpens (row : Nat) : Bool := row == 2 || row == 4 || row == 6 || row == 10

/-- Whether a decision wait runs for Stall `n` or its partner (R284). -/
def waiting (n : Nat) (s : State) : Bool :=
  (pairList n s).any (fun p => [0, 1, 2].any (fun h => s.flag (protWait p h)))

/-- One Stall of the pair takes a row: its registers, its event on a change, its lines (R285). -/
def takeRow (row p : Nat) (s : State) : State :=
  if s.get (PWM_STAT_STATE p) ≠ 3 then s
  else
    let l := leadOf p s
    let high := s.flag (PROT_STAT_SPD_HIGH l)
    let old := s.get (PROT_STAT_ROW p)
    let s := (s.set (PROT_STAT_ROW p) row).set (PROT_STAT_SAFE p) (rowSafe row (s.get (PROT_POL_PREF l)))
    let s := (s.setB (PROT_STAT_CHOP p) (rowChop row high)).setB (PROT_STAT_CTC_REQ p) (rowOpens row)
    let s := (s.set (PROT_STAT_PROV p) 0).when (old != row) (fun s => s.set (protRowAt p) s.now)
    let s := s.when (old != row && old != 0) (raiseStall p 0x1B)
    refreshLines p (s.now * 64) s

/-- Whether a change of row caused only by the speed band may apply now (R285). -/
def dwellOver (n : Nat) (s : State) : Bool :=
  decide (s.get (protRowAt n) + s.get (PROT_POL_DWELL n) * 200000 ≤ s.now)

/-- All lines of a Stall in state 3 are held off until its decision has its inputs (R284). -/
def provisional (p : Nat) (s : State) : State :=
  refreshLines p (s.now * 64) (s.when (s.get (PWM_STAT_STATE p) == 3) (fun s => s.set (PROT_STAT_PROV p) 1))

/-- Evaluate the table for Stall `n` and its partner and apply its row. A decision wait holds the lines off meanwhile, but for row 1, which
needs no more than the Sheepdog's command; a change that only the speed band causes waits for the dwell, and a decision wait that ends
meanwhile resumes the row in force (R284, R285). -/
def reDecide (n : Nat) (s : State) : State :=
  let s := s.each (pairList n s) switchUpdate
  if s.get (PWM_STAT_STATE n) ≠ 3 then s
  else if waiting n s && (pairList n s).all (fun p => s.get (PROT_STAT_SHD p) != 2) then s.each (pairList n s) provisional
  else
    let high := s.flag (PROT_STAT_SPD_HIGH (leadOf n s))
    let old := s.get (PROT_STAT_ROW n)
    let row := decideRow n high s
    if old ≠ 0 ∧ row ≠ old ∧ decideRow n (s.flag (protBandRow n)) s = old ∧ !dwellOver n s then
      s.when (s.flag (PROT_STAT_PROV n)) (fun s => s.each (pairList n s) (takeRow old))
    else ctcUpdate (s.each (pairList n s) (fun p s => takeRow row p (s.setB (protBandRow p) high)))

/-- Keep the speed band at a change of speed and evaluate the table (R283, R285). -/
def decideBand (n : Nat) (s : State) : State :=
  let s := bandUpdate n false s
  s.each (pairList n s) reDecide

/-! ### Safe-state entry (R274) -/

/-- The loop engines of Stall `n` hold: integrators at 0, those of a period under recovery too (R174). -/
def loopHold (n : Nat) (s : State) : State :=
  let s := s.when (s.get (LOOP_STAT_STATE n) == 1) (fun s => s.set (LOOP_STAT_STATE n) 2)
  s.when (s.flag (LOOP_STAT_STATE n)) (fun s =>
    [LOOP_INT_D_I n, LOOP_INT_Q_I n, LOOP_INT_W_I n, loopRes n 4, loopRes n 5, loopRes n 6].foldl (fun s f => s.set f 0) s)

/-- Whether Stall `n` holds the Remount. -/
def holdsRemount (n : Nat) (s : State) : Bool := s.flag REMOUNT_STAT_HELD && s.get REMOUNT_STAT_STALL == n

/-- Stall `n` releases the Remount, if it holds it (R197). -/
def remountRelease (n : Nat) (s : State) : State :=
  if holdsRemount n s then
    let s := ((s.set REMOUNT_STAT_HELD 0).set REMOUNT_STAT_PAIRED 0).set REMOUNT_STAT_BUSY 0
    let s := (s.set (LOOP_STAT_ENG_R n) 0).when (s.flag remEnPend) (fun s => (s.set REMOUNT_CTRL_EN 0).set remEnPend 0)
    raiseEvent 0x021 s
  else s

/-- `QUAL` of the back-EMF observer of Stall `n` clears (R164). -/
def bemfClear (n : Nat) (s : State) : State :=
  (((s.set (POS_BEMF_STAT_QUAL n) 0).set (bemfGood n) 0).set (bemfBad n) 0).set (bemfDiffRun n) 0

/-- Stall `n` has left switching, PWM states 1 to 3 (R214): the observer's `QUAL` clears at once, and one in use is lost; its `STALL_SAFE`
cause finds a Stall in state 0 or 4 and is only recorded (R164, R166, R274). -/
def bemfLeft (n : Nat) (s : State) : State :=
  (bemfClear n s).when (s.get (POS_STAT_SRC n) == 1) (fun s =>
    recordFault (stallCode n 3 0x0B) .stallSafe ((s.set (POS_STAT_SRC n) 2).set (POS_ANG_QUAL n) 0))

/-- A winding discharge whose Stall leaves PWM state 2 fails (R292). -/
def windingFail (n : Nat) (s : State) : State :=
  s.when (s.get (PROT_DIS_STAT_PATH n) == 2) (fun s =>
    let s := (s.set (PROT_DIS_STAT_PATH n) 0).when (s.get (PROT_DIS_CMD_STATUS n) == stBusy) (fun s => s.set (PROT_DIS_CMD_STATUS n) stFailed)
    recordFault (stallCode n 5 0x40) .ride s)

/-- Stall `n`, in PWM state 1 or 2, enters state 3 with `code` as its first cause (R274). -/
def enterOne (n code : Nat) (s : State) : State :=
  let s := (s.set (PROT_SAFE_CAUSE_CODE n) code).setWide (PROT_SAFE_TB_LO_TB n) (PROT_SAFE_TB_HI_TB n) s.now
  let s := ((s.set (PWM_STAT_STATE n) 3).set (PROT_STAT_PROV n) 1).set (PROT_STAT_ROW n) 0
  let s := raiseStall n 0x1A (loopHold n (bandUpdate n true s))
  -- a Stall in its safe state never holds the Remount, but for one that replaces a failed engine (R197, R468; log entry 74)
  let s := s.when (!s.flag remRepair) (remountRelease n)
  refreshLines n (s.now * 64) (windingFail n (s.set (protRelPend n) 0))

/-- A `STALL_SAFE` cause of Stall `n` with its code already recorded: entry of the Stall and of its partner (R274, R33). A
Stall already in state 3 drops a release that waits and evaluates its table again; one in state 0 or 4 does nothing. -/
def stallSafe (n code : Nat) (s : State) : State :=
  let live := fun p (s : State) => s.get (PWM_STAT_STATE p) == 1 || s.get (PWM_STAT_STATE p) == 2
  let s := if live n s then enterOne n code s
    else s.when (s.get (PWM_STAT_STATE n) == 3) (fun s => s.each (pairList n s) (fun p s => bandUpdate p false (s.set (protRelPend p) 0)))
  let s := match partner n s with
    | some p => if s.get (PWM_STAT_STATE n) = 3 ∧ live p s then
        enterOne p (stallCode p 5 6) (recordFault (stallCode p 5 6) .stallSafe s) else s
    | none => s
  reDecide n s

/-- The Sheepdog's command for Stall `n` becomes `kind` (R310). -/
def shdCommand (n kind : Nat) (s : State) : State :=
  let old := s.get (PROT_STAT_SHD n)
  if old = kind then s
  else
    let s := s.set SAFETY_STALL_CMD_KIND (putBits (s.get SAFETY_STALL_CMD_KIND) (2 * n) 2 kind)
    let s := s.set (PROT_STAT_SHD n) kind
    if old = 0 then stallSafe n (stallCode n 5 3) (recordFault (stallCode n 5 3) .stallSafe s)
    else refreshLines n (s.now * 64) (reDecide n s)

/-- The whole of `SAFETY_STALL_CMD` takes a value: each changed field reaches its Stall, and `EV_SHD_CMD` reports it. -/
def shdCommands (v : Nat) (s : State) : State :=
  if s.get SAFETY_STALL_CMD_KIND = v then s
  else raiseEvent 0x031 (s.each [0, 1, 2, 3] (fun n => shdCommand n (bits v (2 * n) 2)))

/-! ### The device-safe latch (R309) -/

/-- `DS_KIND` and `DS_DIS` of the sealed copy in force. -/
def dsKind (s : State) : Bool := bitAt (s.get safDsCfg) 0
def dsDis (s : State) : Bool := bitAt (s.get safDsCfg) 1

/-- A `DEVICE_SAFE` code, already recorded, sets the latch; a latch already set keeps its first code (R309). -/
def setDeviceSafe (code : Nat) (s : State) : State :=
  let force := code == 0x0605 || code == 0x0606
  if s.flag SAFETY_STAT_DS then
    s.when force (fun s => shdCommands 0xAA (s.set safDsFloor 0xAA))
  else
    let s := ((s.set SAFETY_STAT_DS 1).set SAFETY_DS_CAUSE_CODE code).setWide SAFETY_DS_TB_LO_TB SAFETY_DS_TB_HI_TB s.now
    let s := raiseEvent 0x030 s
    let s := s.each [0, 1, 2, 3] (fun n s =>
      let s := recordFault (stallCode n 5 4) .deviceSafe (s.set (PROT_STAT_DEV_SAFE n) 1)
      if s.get (PWM_STAT_STATE n) = 1 ∨ s.get (PWM_STAT_STATE n) = 2 then enterOne n (stallCode n 5 4) s else s)
    let s := s.each [0, 1, 2, 3] reDecide
    let s := s.when (force || dsKind s) (fun s => shdCommands 0xAA (s.set safDsFloor 0xAA))
    ctcUpdate (s.setB safDisWait (dsDis s))

/-- Raise a fault code of a class: it is recorded, and its class acts (R308). A `STALL_SAFE` code of the Yard commands Stalls
through the Sheepdog (R310), which its raiser does. -/
def raiseFault (code : Nat) (cls : Cls) (s : State) : State :=
  let s := recordFault code cls s
  match cls with
  | .ride => s
  | .stallSafe => if 0x1000 ≤ code then stallSafe (code / 0x1000 - 1) code s else s
  | .deviceSafe => setDeviceSafe code s

/-- Raise cause `cause` of block `blk` of Stall `n`. -/
def raiseStallFault (n blk cause : Nat) (cls : Cls) (s : State) : State := raiseFault (stallCode n blk cause) cls s

/-- The age of Stall `n`'s request window starts again at 0 (R312). -/
def ageRestart (n : Nat) (s : State) : State := (s.set (SAFETY_TQ_AGE_n_AGE n) 0).set (tqAgePh n) (s.now % 200)

/-! ### The power-stage fault latch (R277) -/

/-- A source sets the latch of Stall `n`: `src` as `PROT_PSF.SRC` reads it, `mon`, `link` and `clr` the bits it adds; `code` the
fault code of the source, already recorded. -/
def psfSet (n src mon link clr code : Nat) (s : State) : State :=
  let fresh := !s.flag (PROT_STAT_PSF n)
  let s := s.set (PROT_PSF_MON n) (s.get (PROT_PSF_MON n) ||| mon)
  let s := s.set (PROT_PSF_LINK n) (s.get (PROT_PSF_LINK n) ||| link)
  let s := s.set (PROT_PSF_CLRFAIL n) (s.get (PROT_PSF_CLRFAIL n) ||| clr)
  let s := s.when fresh (fun s => raiseStall n 0x1D ((s.set (PROT_STAT_PSF n) 1).set (PROT_PSF_SRC n) src))
  stallSafe n code s

end Sys2Proof.Machine
end

