-- ==== Sys2Proof/Machine/Pwm.lean ====
section
/-!
DEFINITION. The PWM block (07_pwm): shadows and their loads, edges and the minimum pulse, trip inputs and blanking, starting
and stopping, gate profiles, and the reference carrier with the cross-Stall coherent load.
-/

namespace Sys2Proof.Machine
open Reg

def pwmCmd (n : Nat) : CmdReg := ⟨PWM_CMD_CODE n, PWM_CMD_STATUS n⟩

/-! ### Shadows (R203 to R213) -/

/-- Period in force of Stall `n`, fine steps (R204): the active copy, and above it the bit that a transition period may need (R221). -/
def period (n : Nat) (s : State) : Nat := s.get (PWM_PER_PER_ACT n) + 2 ^ 23 * s.get (pwmPerHi n)

/-- The period in force becomes `p`. -/
def setPeriod (n p : Nat) (s : State) : State := (s.set (PWM_PER_PER_ACT n) p).set (pwmPerHi n) (p / 2 ^ 23)

/-- Compare in force of half-bridge `h`, fine steps (R206, R221). -/
def cmpAct (n h : Nat) (s : State) : Nat := s.get (PWM_CMPh_CMP_ACT n h) + 2 ^ 23 * s.get (pwmCmpHi n h)

/-- The compare in force becomes `c`. -/
def setCmp (n h c : Nat) (s : State) : State := (s.set (PWM_CMPh_CMP_ACT n h) c).set (pwmCmpHi n h) (c / 2 ^ 23)

/-- `ALIGN` and `LOCK` as Stall `n` obeys them: a follower copies its lead's (R223). -/
def alignOf (n : Nat) (s : State) : Bool := s.flag (PWM_CTRL_ALIGN (leadOf n s))
def lockOf (n : Nat) (s : State) : Bool := s.flag (PWM_CTRL_LOCK (leadOf n s))

/-- Dead time in force before line `i` turns on, fine steps (R208, R209). -/
def deadTime (n i : Nat) (s : State) : Nat :=
  max (s.get (if i % 2 = 0 then PWM_DTh_DTR_ACT n (i / 2) else PWM_DTh_DTF_ACT n (i / 2))) (floorFine s)

/-- Whether a loaded dead time of Stall `n` lies below the floor. -/
def dtLow (n : Nat) (s : State) : Bool :=
  [0, 1, 2].any (fun h =>
    decide (s.get (PWM_DTh_DTR_ACT n h) < floorFine s) || decide (s.get (PWM_DTh_DTF_ACT n h) < floorFine s))

/-- `PWM_STAT.DT_FLOOR` after a change of the floor or of a dead time, the reset values of a Stall reset among them (R209). -/
def dtFloorFlag (n : Nat) (s : State) : State := s.setB (PWM_STAT_DT_FLOOR n) (dtLow n s)

/-- `PWM_STAT.DT_FLOOR` after a load; the load that brings a dead time below the floor reports it (R209). -/
def dtFloorCheck (n : Nat) (s : State) : State :=
  let was := s.flag (pwmDtSeen n)
  ((dtFloorFlag n s).setB (pwmDtSeen n) (dtLow n s)).when (dtLow n s && !was) (raiseStall n 0x08)

/-- A compare above the period clamps: counted once a period, reported after a period without one (R207). -/
def clampCheck (n : Nat) (s : State) : State :=
  let c := [0, 1, 2].any (fun h => decide (period n s < cmpAct n h s))
  if c && !s.flag (pwmClampNow n) then
    let s := (s.set (pwmClampNow n) 1).inc (PWM_CNT_CLAMP_COUNT n)
    s.when (!s.flag (pwmClampSeen n)) (raiseStall n 0x02)
  else s

/-- The active copy `act` takes its shadow `f` if that was written since its last load: bit `i` of `pwmPendSet` (R205, R211). -/
def loadOne (n i : Nat) (act f : Fld) (s : State) : State := s.when (bitAt (s.get (pwmPendSet n)) i) (fun s => s.set act (s.get f))

/-- Load the compares, dead times and blanking compares that are pending (R205). -/
def loadCompares (n : Nat) (s : State) : State :=
  let s := s.each [0, 1, 2] (fun h s =>
    loadOne n (4 + h) (PWM_DTh_DTF_ACT n h) (PWM_DTh_DTF n h) (loadOne n (4 + h) (PWM_DTh_DTR_ACT n h) (PWM_DTh_DTR n h)
      (s.when (bitAt (s.get (pwmPendSet n)) (1 + h)) (fun s => setCmp n h (s.get (PWM_CMPh_CMP n h)) s))))
  let s := loadOne n 8 (PWM_BLK_C1_C_ACT n) (PWM_BLK_C1_C n) (loadOne n 7 (PWM_BLK_C0_C_ACT n) (PWM_BLK_C0_C n) s)
  dtFloorCheck n (s.set (pwmPendSet n) (s.get (pwmPendSet n) &&& 0b11000000001))

/-- Load the monitor thresholds (R112). -/
def loadThresholds (n : Nat) (s : State) : State :=
  s.each (List.range 12) (fun m s =>
    (s.set (MON_Mm_THR_HI_ACT n m) (s.get (MON_Mm_THR_HI n m))).set (MON_Mm_THR_LO_ACT n m) (s.get (MON_Mm_THR_LO n m)))

/-- The period a Stall takes from its own registers: the reference period when locked, the lead's in a follower (R219, R223). -/
def ownPeriod (n : Nat) (s : State) : Nat :=
  if s.get (PWM_CTRL_PAIR n) = 2 then period (n - 1) s
  else if s.flag (PWM_CTRL_LOCK n) then s.get AUX_REF_PER_PER_ACT
  else s.get (PWM_PER_PER n)

/-- Load `PWM_PER`; a transition period ends (R205, R221). -/
def loadPeriod (n : Nat) (s : State) : State :=
  let s := (setPeriod n (ownPeriod n s) s).set (pwmPerTook n) (ownPeriod n s)
  (s.set (PWM_STAT_TRANS n) 0).set (pwmPendSet n) (s.get (pwmPendSet n) &&& 0b11111111110)

/-- An armed load has come: `ARM` clears, and with `ONCE` also `COH` (R212). -/
def armDone (n : Nat) (s : State) : State :=
  (s.when (s.flag (PWM_LOAD_ARM_ARM n) && s.flag (PWM_LOAD_ARM_ONCE n)) (fun s => s.set (PWM_CTRL_COH n) 0)).set (PWM_LOAD_ARM_ARM n) 0

/-- An armed coherent load of every pending shadow, at a zero or (no period pending) at a peak (R212). -/
def armedLoad (n : Nat) (zero : Bool) (s : State) : State :=
  raiseStall n 0x07 (armDone n (loadThresholds n (loadCompares n (s.when zero (loadPeriod n)))))

/-! ### Minimum pulse and edges (R206 to R210) -/

/-- Time of instant `t` within the carrier period that holds it, taking the periods after the present one as long as it (R203). -/
def carrierPos (n t : Nat) (s : State) : Nat :=
  let pos := t - s.get (pwmZeroAt n)
  if pos < period n s then pos else pos - period n s

/-- The compare that governs half-bridge `h` at instant `t`: the old one up to the guard instant of a mid-period load (R198). -/
def cmpAt (n h t : Nat) (s : State) : Nat :=
  if t + 1 < s.get (pwmGuardAt n) then s.get (pwmCmpOld n h) else cmpAct n h s

/-- Rise and fall of the reference signal within a period, for compare `c` (R206). -/
def refEdges (n c : Nat) (s : State) : Nat × Nat :=
  if alignOf n s then (period n s / 2 - c / 2, period n s / 2 + c / 2) else (0, c)

/-- Length of the reference switch's on-command in a period, fine steps (R206). -/
def refOn (n h : Nat) (s : State) : Nat :=
  let c := min (cmpAct n h s) (period n s)
  (refEdges n c s).2 - (refEdges n c s).1

/-- The level that the values in force give the reference signal of half-bridge `h` at instant `t`: off for a compare of 0, on for one at
or above the period (R206, R207). -/
def refLevel (n h t : Nat) (s : State) : Bool :=
  let c := cmpAt n h t s
  let (rise, fall) := refEdges n c s
  let pos := carrierPos n t s
  decide (0 < c) && (decide (period n s ≤ c) || (decide (rise ≤ pos) && decide (pos < fall)))

/-- Instants at which the values in force may change the reference signal of half-bridge `h`: the edges of this period and the next,
the zero, the peak and the next zero, and a guard instant to come (R198, R206). -/
def refInstants (n h : Nat) (s : State) : List Nat :=
  let z := s.get (pwmZeroAt n)
  let p := period n s
  let g := s.get (pwmGuardAt n)
  let (rise, fall) := refEdges n (cmpAct n h s) s
  let (rise', fall') := refEdges n (s.get (pwmCmpOld n h)) s
  [z, z + p / 2, z + rise, z + fall, z + p, z + p + rise, z + p + fall] ++ if g = 0 then [] else [g - 1, z + rise', z + fall']

/-- Time from instant `t` to the next change of the reference signal of half-bridge `h`; `none` when the values in force give it no
further edge (R206, R210). -/
def untilEdge (n h t : Nat) (s : State) : Option Nat :=
  ((refInstants n h s).filter (fun c => decide (t < c) && refLevel n h c s != s.flag (pwmRef n h))).min?.map (· - t)

/-- Whether an interval of length `d` (`none`: without end) is shorter than `MINP`. -/
def shortPulse (n : Nat) (d : Option Nat) (s : State) : Bool := d.any (fun d => decide (d < s.get (PWM_MINP_MINP n)))

/-- Line `i`'s edge waits until instant `due` (R210). -/
def holdLine (n i due : Nat) (s : State) : State := (s.setBit (pwmHold n) i true).set (pwmHoldAt n i) due

/-- Line `o` is commanded off at instant `t`: at once, bridged, or delayed to the end of its minimum on-interval (R208, R210). The
off-interval ends a dead time after the next edge. -/
def commandOff (n o t : Nat) (s : State) : State :=
  let on := bitAt (s.get (PWM_LINES_LINE n)) o
  let due := s.get (pwmOnAt n o) + s.get (PWM_MINP_MINP n)
  let s := (s.setBit (PWM_LINES_CMD n) o false).setBit (pwmRemoved n) o false
  if on && shortPulse n ((untilEdge n (o / 2) t s).map (· + deadTime n o s)) s then
    (s.setBit (pwmBridged n) o true).inc (PWM_CNT_MINP_BRIDGED n)
  else if on && decide (t < due) then holdLine n o due s
  else s

/-- Line `i` is commanded on at instant `t`: at once, removed, or delayed to the end of its minimum off-interval. -/
def commandOn (n i t : Nat) (s : State) : State :=
  let on := bitAt (s.get (PWM_LINES_LINE n)) i
  let o := s.get (pwmOffAt n i)
  let due := o - 1 + s.get (PWM_MINP_MINP n)
  let s := (s.setBit (PWM_LINES_CMD n) i true).setBit (pwmBridged n) i false
  if !on && shortPulse n (untilEdge n (i / 2) t s) s then (s.setBit (pwmRemoved n) i true).inc (PWM_CNT_MINP_REMOVED n)
  else if !on && decide (0 < o) && decide (t < due) then holdLine n i due s
  else s

/-- Line that turns on when the reference signal of half-bridge `h` takes a level; the other turns off (R206). -/
def lineFor (n h : Nat) (on : Bool) (s : State) : Nat :=
  if on != bitAt (s.get (PWM_CTRL_CREF n)) h then 2 * h else 2 * h + 1

/-- The reference signal of half-bridge `h` takes a level at instant `t`: the outgoing line is commanded off, the dead time of the
incoming one begins (R206, R208). -/
def refEdge (n h : Nat) (on : Bool) (t : Nat) (s : State) : State :=
  if s.flag (pwmRef n h) = on then s
  else
    let s := ((refreshLines n t s).setB (pwmRef n h) on).set (pwmEdge n h) (1 + on.toNat)
    refreshLines n t (((commandOff n (lineFor n h (!on) s) t s).set (pwmDtPend n h) 1).set (pwmDtAt n h)
      (t + deadTime n (lineFor n h on s) s))

/-- The dead time of half-bridge `h` has run out by instant `t`: its edge is placed at the instant it did (R60, R208). -/
def deadEnd (n h t : Nat) (s : State) : State :=
  let due := s.placeAt n (s.get (pwmDtAt n h))
  if s.flag (pwmDtPend n h) && decide (due ≤ t) then
    let i := lineFor n h (s.flag (pwmRef n h)) s
    refreshLines n due (commandOn n i due ((refreshLines n due s).set (pwmDtPend n h) 0))
  else s

/-- At the carrier's first zero `z` each reference signal takes its level, and the switch that it names is commanded on (R206, R215). -/
def firstLevels (n z : Nat) (s : State) : State :=
  let t := s.placeAt n z
  refreshLines n t (s.each [0, 1, 2] (fun h s =>
    let on := refLevel n h z s
    commandOn n (lineFor n h on s) t (s.setB (pwmRef n h) on)))

/-- Whether the line's command, now different from its level, lasts `MINP` from instant `t` under the values in force (R210). -/
def lastsMinp (n i t : Nat) (s : State) : Bool :=
  let d := untilEdge n (i / 2) t s
  !shortPulse n (if bitAt (s.get (PWM_LINES_CMD n)) i then d else d.map (· + deadTime n i s)) s

/-- Line `i`'s bridge is judged again at instant `t` (R210). -/
def rejudgeBridge (n t i : Nat) (s : State) : State :=
  s.when (bitAt (s.get (pwmBridged n)) i && lastsMinp n i t s) (fun s => s.setBit (pwmBridged n) i false)

/-- Line `i`'s removal is judged again at instant `t`; a turn-on then also waits for the dead time after its partner's turn-off. -/
def rejudgeRemoval (n t i : Nat) (s : State) : State :=
  s.when (bitAt (s.get (pwmRemoved n)) i && lastsMinp n i t s) (fun s =>
    let o := s.get (pwmOffAt n (if i % 2 = 0 then i + 1 else i - 1))
    let due := o - 1 + deadTime n i s
    let s := s.setBit (pwmRemoved n) i false
    if o = 0 ∨ due ≤ t then s else holdLine n i due s)

/-- Every bridge of Stall `n` is judged again at instant `z`, and then, its lines as they now are, every removal (R210). -/
def rejudgeAll (n z : Nat) (s : State) : State :=
  let t := s.placeAt n z
  let s := refreshLines n t ((refreshLines n t s).each (List.range 6) (rejudgeBridge n t))
  refreshLines n t (s.each (List.range 6) (rejudgeRemoval n t))

/-! ### Trip inputs (R224 to R230, R530) -/

/-- Action of trip input `j`: 0 ignore, 1 cycle-by-cycle, 2 latched. -/
def tripAct (n j : Nat) (s : State) : Nat := bits (s.get (PWM_TRIP_CFG_TRIP n)) (8 * j) 2

/-- Whether edge window of line `i` is open at instant `t` (R228). -/
def edgeWindow (n i t : Nat) (s : State) : Bool :=
  let len := s.get (PWM_BLK_CFG_LEN n)
  let onAt := s.get (pwmOnAt n i)
  let offAt := s.get (pwmOffAt n i)
  (bitAt (s.get (PWM_BLK_CFG_ON_SRC n)) i && decide (0 < onAt) && decide (onAt ≤ t) && decide (t < onAt + len)) ||
    (bitAt (s.get (PWM_BLK_CFG_OFF_SRC n)) i && decide (0 < offAt) && decide (offAt ≤ t + 1) && decide (t < offAt - 1 + len))

/-- Whether the compare window is open at instant `t` (R228); before the first zero of a started Stall it is measured from the last zero there
was (log entry 112). -/
def compareWindow (n t : Nat) (s : State) : Bool :=
  let pos := t - s.get (pwmZeroAt n)
  let a := s.get (PWM_BLK_C0_C_ACT n)
  let b := s.get (PWM_BLK_C1_C_ACT n)
  if a ≤ b then decide (a ≤ pos) && decide (pos < b) else decide (a ≤ pos) || decide (pos < b)

/-- The blanking union of Stall `n` at instant `t`. -/
def blanking (n t : Nat) (s : State) : Bool :=
  let mode := s.get (PWM_BLK_CFG_MODE n)
  (bitAt mode 0 && (List.range 6).any (fun i => edgeWindow n i t s)) || (bitAt mode 1 && compareWindow n t s)

/-- Trip input `j` forces its level (R225). -/
def tripForce (n j t : Nat) (s : State) : State :=
  let s := (s.setBit (PWM_TRIP_STAT_FORCE n) j true).setBit (PWM_TRIP_STAT_SEEN n) j true
  let s := s.when (tripAct n j s == 2) (fun s => s.setBit (PWM_TRIP_STAT_LATCH n) j true)
  refreshLines n t (raiseStall n 0x04 s)

/-- Trip input `j` asserts anew at instant `t` and is judged (R530, R229). -/
def tripAnew (n j t : Nat) (s : State) : State :=
  if !switching n s || tripAct n j s == 0 then s
  else if bitAt (s.get (PWM_TRIP_CFG_TRIP n)) (8 * j + 4) && blanking n t s then
    let was := bitAt (s.get (PWM_TRIP_STAT_PEND n)) j
    (s.setBit (PWM_TRIP_STAT_PEND n) j true).when (!was) (fun s => s.set (pwmTripAt n j) s.now)
  else tripForce n j t s

/-- Whether the filter output of some monitor routed to trip input `j` is asserted (R229). -/
def routedOut (n j : Nat) (s : State) : Bool :=
  (List.range 12).any (fun m => s.flag (MON_Mm_STAT_OUT n m) && bitAt (s.get (MON_Mm_ROUTE_TRIP n m)) j)

/-- The judgement of a pending trip at the end of the blanking union or 20 us after it asserted (R229). -/
def tripJudge (n j t : Nat) (s : State) : State :=
  if bitAt (s.get (PWM_TRIP_STAT_PEND n)) j &&
      (!blanking n t s || decide (s.get (pwmTripAt n j) + 4000 ≤ s.now)) then
    let s := s.setBit (PWM_TRIP_STAT_PEND n) j false
    if routedOut n j s then tripForce n j t s else raiseStall n 0x05 s
  else s

/-- Trips released at a carrier zero: cycle-by-cycle ones whose input reads deasserted, latched ones whose latch is cleared
(R226, R227). -/
def tripRelease (n : Nat) (s : State) : State :=
  s.each [0, 1, 2, 3] (fun j s =>
    s.when (bitAt (s.get (PWM_TRIP_STAT_FORCE n)) j &&
        (if tripAct n j s == 2 then !bitAt (s.get (PWM_TRIP_STAT_LATCH n)) j else !bitAt (s.get (PWM_TRIP_STAT_IN n)) j))
      (fun s => s.setBit (PWM_TRIP_STAT_FORCE n) j false))

/-! ### The cross-Stall coherent load (R220 to R223) -/

def cohCmd : CmdReg := ⟨AUX_COH_CMD_CODE, AUX_COH_CMD_STATUS⟩

/-- End the command when no Stall is left to load (R220). -/
def cohFinish (s : State) : State :=
  if s.busy cohCmd && s.flag cohOpen && [0, 1, 2, 3].all (fun n => !s.flag (pwmCohPart n)) then
    raiseEvent 0x012 (((s.cmdEnd cohCmd (if s.flag (cmdLate 4) then stTooLate else stDone)).set cohOpen 0).set (cmdLate 4) 0)
  else s

/-- An abort of the cross-Stall load (R220): before the boundary nothing loads; from it on the load completes. -/
def cohAbort (s : State) : State :=
  if s.flag cohOpen then s.set (cmdLate 4) 1
  else (s.each [0, 1, 2, 3] (fun n s => s.set (pwmCohPart n) 0)).cmdEnd cohCmd stAborted

/-- Stall `n` leaves a running cross-Stall load: it stopped switching or was isolated (R220). -/
def cohLeave (n : Nat) (s : State) : State :=
  if s.busy cohCmd && s.flag (pwmCohPart n) then
    cohFinish ((s.set (pwmCohPart n) 0).setBit AUX_COH_STAT_SKIPPED n true)
  else s

/-- Length of the period that begins at a Stall's load zero: `p` the period it would have, `q` the new reference period, which is
added until the length is no shorter (R221). -/
def transition (p q ofsNew ofsOld : Nat) : Nat :=
  let l : Int := (p : Int) + (ofsNew : Int) - (ofsOld : Int)
  if l ≥ q then l.toNat
  else if q = 0 then 0
  else (l + ((((q : Int) - l) + (q - 1 : Int)) / q) * q).toNat

/-- A Stall has loaded in the cross-Stall load, as by an armed load (R220). -/
def cohLoaded (n : Nat) (s : State) : State :=
  cohFinish (raiseStall n 0x07 ((((armDone n s).set (pwmPendSet n) 0).set (pwmCohPart n) 0).setBit AUX_COH_STAT_LOADED n true))

/-- The loaded compares of Stall `n` from the period `old` to the transition period `l`, to the nearest fine step (R221). -/
def scaleCompares (n l old : Nat) (s : State) : State :=
  s.each [0, 1, 2] (fun h s =>
    setCmp n h (min (2 ^ 24 - 1) (divRound ((cmpAct n h s * l : Nat) : Int) old).toNat) s)

/-- Offset of Stall `n`'s zeros before and after its coherent load: to its lead's zeros in a follower, to the reference zeros else. -/
def offsets (n : Nat) (s : State) : Nat × Nat :=
  if s.get (PWM_CTRL_PAIR n) = 2 then (s.get (PWM_PAIR_OFS_OFS_ACT n), s.get (PWM_PAIR_OFS_OFS_ACT (n - 1)))
  else (s.get (PWM_OFFSET_OFS_ACT n), s.get (PWM_OFFSET_OFS n))

/-- The active `PWM_PAIR_OFS` loads; a follower's copy follows its lead's active one (R223). -/
def loadPairOfs (n : Nat) (s : State) : State :=
  s.set (PWM_PAIR_OFS_OFS_ACT n)
    (if s.get (PWM_CTRL_PAIR n) = 2 then s.get (PWM_PAIR_OFS_OFS_ACT (n - 1)) else s.get (PWM_PAIR_OFS_OFS n))

/-- The active offsets load (R220). -/
def loadOffsets (n : Nat) (s : State) : State := loadPairOfs n (s.set (PWM_OFFSET_OFS_ACT n) (s.get (PWM_OFFSET_OFS n)))

/-- Stall `n` loads every pending shadow at its own zero (R220). A locked Stall whose period or offset changes, and a follower whose
offset changes or whose lead is in a transition, runs a transition period, its compares scaled to it (R221 to R223). -/
def cohLoad (n : Nat) (s : State) : State :=
  let old := period n s
  let follower := s.get (PWM_CTRL_PAIR n) == 2
  let (was, now) := offsets n s
  let took := s.get (pwmPerTook n)
  let s := loadPeriod n (loadThresholds n (loadCompares n s))
  let q := if follower then s.get (pwmPerTook (n - 1)) else s.get (pwmPerTook n)
  let l := transition (period n s) q now was
  let moved := decide (was ≠ now) ||
    (if follower then s.flag (PWM_STAT_TRANS (n - 1)) else decide (took ≠ q))
  let s := s.when ((follower || s.flag (PWM_CTRL_LOCK n)) && moved) (fun s =>
    scaleCompares n l old ((setPeriod n l s).set (PWM_STAT_TRANS n) 1))
  cohLoaded n (loadOffsets n s)

/-- Whether Stall `n` loads at the zero at instant `z`: the first of its own at or after R_k, and in a follower at or after its lead's
load zero (R220, R223). -/
def cohDueAt (n z : Nat) (s : State) : Bool :=
  s.flag cohOpen && s.flag (pwmCohPart n) && decide (s.get cohAt ≤ z) &&
    (s.get (PWM_CTRL_PAIR n) != 2 || (!s.flag (pwmCohPart (n - 1)) && decide (s.get (pwmZeroAt (n - 1)) ≤ z)))

/-- COHERENT_LOAD (R220): the masked Stalls that are switching take part; the others are named skipped. -/
def execCoherentLoad (s : State) : Out :=
  ok (s.cmdStart cohCmd 1 (s.flag AUX_REF_CTRL_EN) stBusy
    (fun s =>
      let m := s.get AUX_COH_MASK_MASK
      let inMask := fun n => bitAt m n || (s.get (PWM_CTRL_PAIR n) == 2 && bitAt m (n - 1))
      let s := ((s.set AUX_COH_STAT_SKIPPED 0).set AUX_COH_STAT_LOADED 0).set cohOpen 0
      let s := s.set cohDue (s.now + 64)
      s.each [0, 1, 2, 3] (fun n s =>
        if inMask n && switching n s then s.set (pwmCohPart n) 1
        else (s.set (pwmCohPart n) 0).setBit AUX_COH_STAT_SKIPPED n (inMask n)))
    id)

/-- REF_CARRIER_ENABLE (R218): the first reference zero comes at least 64 ticks later. -/
def execRefCarrierEnable (s : State) : Out :=
  ok (busOk (if s.flag AUX_REF_CTRL_EN then s else ((s.set AUX_REF_CTRL_EN 1).set refRun 0).set refDue (s.now + 64)))

/-- REF_CARRIER_DISABLE (R218): accepted only while no locked Stall is switching; a `LOAD` still waiting waits on (log entry 112). -/
def execRefCarrierDisable (s : State) : Out :=
  if s.flag AUX_REF_CTRL_EN && [0, 1, 2, 3].any (fun n => lockOf n s && switching n s) then ok (busErr s)
  else ok (busOk ((s.set AUX_REF_CTRL_EN 0).set refRun 0))

/-- Instant of the reference carrier's next zero: the first at the tick set by `EN`, then one active period on (R218). -/
def refNext (s : State) : Nat :=
  if s.flag refRun then s.get refZeroAt + s.get AUX_REF_PER_PER_ACT else s.get refDue * 64

/-- REFERENCE_ZERO (R218, R219, R220): the active period at the first zero; the boundary of a pending cross-Stall load. -/
def execReferenceZero (fine : Fin 64) (s : State) : Out :=
  let z := refNext s
  ok <|
    if !s.flag AUX_REF_CTRL_EN || decide (s.fineNow fine < z) then s
    else
      let s := (s.when (!s.flag refRun) (fun s => s.set AUX_REF_PER_PER_ACT (s.get AUX_REF_PER_PER))).set refRun 1 |>.set refZeroAt z
      s.when (s.busy cohCmd && !s.flag cohOpen && decide (s.get cohDue * 64 ≤ z)) (fun s =>
        cohFinish (((s.set AUX_REF_PER_PER_ACT (s.get AUX_REF_PER_PER)).set cohOpen 1).set cohAt z))

/-! ### Starting and stopping (R214 to R217) -/

/-- Whether an enabled protection monitor of Stall `n` is unresolved (R115) or failed (R126), as R215 and R299 name it. -/
def monBlocked (n : Nat) (s : State) : Bool :=
  (List.range 12).any (fun m => s.flag (MON_Mm_CFG_PROT n m) && s.flag (MON_Mm_CFG_EN n m) &&
    (s.get (MON_Mm_STAT_STATE n m) == 0 || s.flag (MON_Mm_STAT_FAILED n m)))

/-- Conditions that refuse `START` in one Stall (R215). -/
def startBlocked (n : Nat) (s : State) : Bool :=
  s.get (PWM_STAT_STATE n) != 0 || !s.flag (pwmPinHigh n) || s.flag (PROT_STAT_PSF n) ||
    s.flag (PWM_TRIP_STAT_LATCH n) || monBlocked n s || s.get (SENSE_CAL_CMD_STATUS n) == stBusy ||
    readyMask n s != 0b111111 || (lockOf n s && !s.flag AUX_REF_CTRL_EN)

/-- Entry causes already present when a Stall enters state 1, with the code of each (R274; log entry 12). -/
def standingCause (n : Nat) (s : State) : Option Nat :=
  if s.flag (PROT_STAT_SHD n) then some (stallCode n 5 3)
  else if s.flag (PROT_STAT_DEV_SAFE n) then some (stallCode n 5 4)
  else if s.flag (PROT_STAT_STO n) then some (stallCode n 5 5)
  else none

/-- A Stall enters state 1 or an AUX unit's `EN` is set while lock-step is broken (R364). -/
def brokenDrive (s : State) : State := s.when (s.flag YOKE_STAT_LOCKSTEP_BROKEN) (raiseFault (yardCode 4 0x10) .deviceSafe)

/-- One Stall enters state 1 (R215, R530). -/
def startOne (n : Nat) (s : State) : State :=
  let s := ((s.set (PWM_STAT_STATE n) 1).set (pwmDue n) (s.now + 64)).set (pwmAwait n) 1
  let s := s.when (s.flag (PWM_CTRL_LOCK n)) (fun s => s.set (PWM_OFFSET_OFS_ACT n) (s.get (PWM_OFFSET_OFS n)))
  let s := ageRestart n s
  let s := s.each [0, 1, 2, 3] (fun j s =>
    (s.set (pwmTripNew n j) 0).when (bitAt (s.get (PWM_TRIP_STAT_IN n)) j) (tripAnew n j (s.now * 64)))
  let s := match standingCause n s with
    | some c => stallSafe n c s
    | none => s
  brokenDrive s

/-- PWM_START (R215). -/
def execPwmStart (n : Fin 4) : State → Out := stallWrite n (fun s =>
  let ps := pairList n s
  ok (s.cmdStart (pwmCmd n) 1 (s.get (PWM_CTRL_PAIR n) != 2 && ps.all (fun p => !startBlocked p s)) stDone
    (fun s => s.each ps startOne) id))

/-- The PWM block of Stall `n` stops: lines off, carrier stopped, shadows and trip latches kept (R216). -/
def haltOne (n : Nat) (s : State) : State :=
  let was := s.get (PWM_STAT_STATE n)
  let s := linesOff n (((s.set (PWM_STAT_STATE n) 0).set (pwmAwait n) 0).set (pwmGuardAt n) 0)
  let s := (((s.set (PWM_TRIP_STAT_FORCE n) 0).set (PWM_TRIP_STAT_PEND n) 0).set (protRelPend n) 0).set (PWM_STAT_TRANS n) 0
  let s := (((s.set (PROT_STAT_ROW n) 0).set (PROT_STAT_SAFE n) 0).set (PROT_STAT_PROV n) 0).set (PROT_STAT_CHOP n) 0
  let s := s.set (PROT_STAT_CTC_REQ n) 0
  let s := s.when (s.get (LOOP_STAT_STATE n) == 2) (fun s => s.set (LOOP_STAT_STATE n) 1)
  let s := cohLeave n (ctcUpdate s)
  windingFail n (s.when (was != 0) (bemfLeft n))

/-- PWM_STOP (R216): in a pair, both Stalls. -/
def execPwmStop (n : Fin 4) : State → Out := stallWrite n (fun s =>
  ok (s.cmdStart (pwmCmd n) 2 (switching n s) stDone
    (fun s => s.each (pairList n s) (fun p s => raiseStall p 0x01 (haltOne p s))) id))

/-- TRIP_CLEAR (R227): the latches that `mask` names, unless the input of one that is set still asserts. -/
def execTripClear (n : Fin 4) (mask : BitVec 4) : State → Out := stallWrite n (fun s =>
  let named := mask.toNat &&& s.get (PWM_TRIP_STAT_LATCH n)
  ok (s.cmdStart (pwmCmd n) (0x10 + mask.toNat) (named &&& s.get (PWM_TRIP_STAT_IN n) == 0 && mask != 0) stDone
    (fun s => s.set (PWM_TRIP_STAT_LATCH n) (s.get (PWM_TRIP_STAT_LATCH n) ^^^ named)) id))

/-- ARM (R212): an arm written while `COH` is 0 is discarded with an error response. -/
def execArm (n : Fin 4) : State → Out := stallWrite n (fun s => if s.flag (PWM_CTRL_COH n) then ok (busOk (s.set (PWM_LOAD_ARM_ARM n) 1)) else ok (busErr s))

/-! ### Edges and trips -/

/-- Whether the carrier of Stall `n` has passed its first zero. -/
def carrierOn (n : Nat) (s : State) : Bool :=
  (s.get (PWM_STAT_STATE n) == 2 || s.get (PWM_STAT_STATE n) == 3) && !s.flag (pwmAwait n)

/-- Instant of the first zero of a started Stall, once it can be told: a follower's lies at its lead's zero plus `PWM_PAIR_OFS`, a locked
Stall's at R_k plus `OFS`, a free one's at the first tick at least 64 ticks after the write (R215, R219, R223). -/
def firstZero (n : Nat) (s : State) : Option Nat :=
  let z? :=
    if s.get (PWM_CTRL_PAIR n) = 2 then
      (if carrierOn (n - 1) s then some (s.get (pwmZeroAt (n - 1)) + s.get (PWM_PAIR_OFS_OFS_ACT (n - 1))) else none)
    else if s.flag (PWM_CTRL_LOCK n) then
      (if s.flag refRun then some (s.get refZeroAt + s.get (PWM_OFFSET_OFS_ACT n)) else none)
    else some (s.get (pwmDue n) * 64)
  z?.filter (fun z => decide (s.get (pwmDue n) * 64 ≤ z))

/-- The next common trigger of Stall `n`, fine steps: the first of its sampling instants that has not passed (R205). -/
def nextTrigger (n : Nat) (s : State) : Option Nat :=
  let half := period n s / 2
  let ofZero := fun (z : Nat) => (if sampledAt n false s then [z] else []) ++ if sampledAt n true s then [z + half] else []
  if s.flag (pwmAwait n) then ((firstZero n s).bind (fun z => (ofZero z).head?))
  else if carrierOn n s then
    let z := s.get (pwmZeroAt n)
    let now := (if s.flag (pwmZeroDone n) then [] else if sampledAt n false s then [z] else []) ++
      if s.flag (pwmPeakDone n) then [] else if sampledAt n true s then [z + half] else []
    (now ++ ofZero (z + period n s)).head?
  else none

/-- Whether an edge of the reference signal of half-bridge `h` to level `on` falls at instant `t`: its level there is `on`, and it is
another just before or the values in force change there. A coarse placer places the edges of a tick at its start (R62). -/
def edgeDue (n h : Nat) (on : Bool) (t : Nat) (s : State) : Bool :=
  let coarse := bitAt (s.get TB_STATUS_FINE_COARSE) n
  let q := if coarse then t / 64 * 64 + 63 else t
  let b := (if coarse then t / 64 * 64 else t) - 1
  let g := s.get (pwmGuardAt n)
  let z := s.get (pwmZeroAt n)
  refLevel n h q s == on && (refLevel n h b s != on ||
    (z :: (z + period n s / 2) :: if g = 0 then [] else [g - 1]).any (fun x => decide (b < x) && decide (x ≤ q)))

/-- COMPARE_EDGE (R206, R208, R210): an edge that falls at this instant. -/
def execCompareEdge (n : Fin 4) (h : Fin 3) (on : Bool) (fine : Fin 64) (s : State) : Out :=
  ok (s.when (carrierOn n s && edgeDue n h on (s.fineNow (s.fineOf n fine)) s) (refEdge n h on (s.fineNow (s.fineOf n fine))))

/-- DEAD_TIME_END (R208, R209, R232): a dead time that has run out. -/
def execDeadTimeEnd (n : Fin 4) (h : Fin 3) (fine : Fin 64) (s : State) : Out :=
  ok (s.when (carrierOn n s) (deadEnd n h (s.fineNow (s.fineOf n fine))))

/-- MINP_END (R198, R210): the delayed edge of line `i` is placed at the instant from which it may be; at the guard instant of a mid-period
load, or later, the line's bridge or removal is judged again. -/
def execMinpEnd (n : Fin 4) (i : Fin 6) (fine : Fin 64) (s : State) : Out :=
  let t := s.fineNow (s.fineOf n fine)
  let g := s.get (pwmGuardAt n)
  let due := s.placeAt n (s.get (pwmHoldAt n i))
  ok (if bitAt (s.get (pwmHold n)) i then
      s.when (decide (due ≤ t)) (fun s => refreshLines n due ((refreshLines n due s).setBit (pwmHold n) i false))
    else s.when (carrierOn n s && g != 0 && decide (g ≤ s.fineNow fine + 1)) (fun s =>
      let t := if s.fineNow fine < g + 63 then s.placeAt n (g - 1) else t
      refreshLines n t (rejudgeRemoval n t i (refreshLines n t (rejudgeBridge n t i s)))))

/-- TRIP_ASSERT (R530): a new assertion of trip input `j`, brought about by a monitor, reaches the input and is judged once. -/
def execTripAssert (n : Fin 4) (j : Fin 4) (fine : Fin 64) (s : State) : Out :=
  ok (s.when (s.flag (pwmTripNew n j)) (fun s => tripAnew n j (s.fineNow fine) (s.set (pwmTripNew n j) 0)))

/-- TRIP_JUDGE (R229). -/
def execTripJudge (n : Fin 4) (j : Fin 4) (fine : Fin 64) (s : State) : Out :=
  ok (tripJudge n j (s.fineNow fine) s)

/-! ### Gate profiles (R233, R234) -/

/-- How many of three thresholds of `w` bits in `v` the predicate accepts. -/
def bandOf (v w : Nat) (p : Nat → Bool) : Nat := ([0, 1, 2].filter (fun k => p (bits v (w * k) w))).length

/-- Current band of half-bridge `h` (R233): thresholds in 2 A units. -/
def currentBand (n h : Nat) (s : State) : Nat :=
  bandOf (s.get (PWM_GP_ITHR_I n)) 10 (fun c => F32.le (F32.ofInt (2 * c)) (F32.abs (s.getF (senQVal n h))))

/-- Temperature band of switch `w`: thresholds as the temperature plus 50 (R233, R294). -/
def tempBand (n w : Nat) (s : State) : Nat :=
  bandOf (s.get (PWM_GP_TTHR_T n)) 8 (fun c => decide ((c : Int) - 50 ≤ s.geti (PROT_TJ_s_T n w) / 16))

/-- Choose the profile of switch `w`, both directions; the flag tells of a counted default (R234). -/
def chooseProfile (n w : Nat) (s : State) : State :=
  let known := s.flag (SENSE_Qq_CFG_VALID n (w / 2)) && s.flag (PROT_TJ_s_VALID n w)
  if s.flag (PWM_GP_CFG_EN n) && known then
    let c := 4 * tempBand n w s + currentBand n (w / 2) s
    (s.set (pwmProf n (2 * w)) (bits (s.get (PWM_GP_MAP_ON_MAP n)) (2 * c) 2)).set (pwmProf n (2 * w + 1))
      (bits (s.get (PWM_GP_MAP_OFF_MAP n)) (2 * c) 2)
  else
    let s := (s.set (pwmProf n (2 * w)) (s.get (PWM_GP_CFG_DEF_ON n))).set (pwmProf n (2 * w + 1)) (s.get (PWM_GP_CFG_DEF_OFF n))
    s.when (s.flag (PWM_GP_CFG_EN n)) (fun s => s.addSat (PWM_GP_STAT_DEF n) 2)

/-- The gate-profile choice of a load instant (R233, R234). -/
def gateProfiles (n : Nat) (s : State) : State :=
  let used := s.flag (PWM_GP_CFG_EN n) &&
    (List.range 6).any (fun w => !(s.flag (SENSE_Qq_CFG_VALID n (w / 2)) && s.flag (PROT_TJ_s_VALID n w)))
  let was := s.flag (pwmDefSeen n)
  let s := (s.each (List.range 6) (chooseProfile n)).setB (pwmDefSeen n) used
  s.when (used && !was) (raiseStall n 0x06)

/-- The `SEL` payload of half-bridge `h` (R248). -/
def selPayload (n h : Nat) (s : State) : Nat :=
  64 * s.get (pwmProf n (4 * h)) + 16 * s.get (pwmProf n (4 * h + 1)) + 4 * s.get (pwmProf n (4 * h + 2)) + s.get (pwmProf n (4 * h + 3))

end Sys2Proof.Machine
end

