-- ==== Sys2Proof/Machine/Sigma.lean ====
section
/-!
DEFINITION. The modulator filters (R81, R83, R84): when bits are sampled, the sinc3 main filter and the sinc2 fast filter over the last bits
of an input, and their codes. A bit history is a number, bit 0 the newest bit.
-/

namespace Sys2Proof.Machine
open Reg

/-- Bits sampled from the inputs of Stall `n` by the fine instant `t` since its clock was last started: one each clock period of `CLK_DIV`
ticks, `MOD_CAPT` after the rising edge (R81). -/
def bitsBy (n t : Nat) (s : State) : Nat :=
  let first := (s.get (modClkAt n) + s.get (MOD_CAPT_TICK n)) * 64 + s.get (MOD_CAPT_FINE n)
  if first ≤ t then (t - first) / (64 * s.get (MOD_CTRL_CLK_DIV n)) + 1 else 0

/-- Bits sampled since the tick `from`. -/
def bitsSince (n start : Nat) (s : State) : Nat := bitsBy n (s.now * 64 + 63) s - bitsBy n (start * 64) s

/-- Numbers of triples below `d` with sum `k`: the weight of the bit `k` clocks old in a sinc3 filter of decimation `d`. -/
def sinc3Weight (d k : Nat) : Nat :=
  let tri := fun j => if j ≤ k then (k - j + 1) * (k - j + 2) / 2 else 0
  tri 0 + 3 * tri (2 * d) - 3 * tri d

/-- Weight of the bit `k` clocks old in a sinc2 filter of ratio `r`. -/
def sinc2Weight (r k : Nat) : Nat := min (k + 1) (2 * r - 1 - k)

/-- Sum of the weights of the bits that are 1 among the newest `len`. -/
def weighBits (w : Nat → Nat) (len v : Nat) : Nat := (List.range len).foldl (fun a k => if bitAt v k then a + w k else a) 0

/-- Output of a filter for a bit density of `a / b`, before saturation: (p - 0.5) x 65,536 rounded to nearest (R84), a tie to
even (log entry 26). -/
def densityCode (a b : Nat) : Int := divRound ((2 * (a : Int) - b) * 32768) b

/-- Main-filter output of input `i` over the bits `v`, before saturation (R83, R84). -/
def mainOut (n i v : Nat) (s : State) : Int :=
  let d := s.get (MOD_INi_CFG_DEC n i)
  densityCode (weighBits (sinc3Weight d) (3 * d - 2) v) (d * d * d)

/-- Fast-filter output of input `i` over the bits `v`, before saturation. -/
def fastOut (n i v : Nat) (s : State) : Int :=
  let r := s.get (MOD_INi_CFG_OSR n i)
  densityCode (weighBits (sinc2Weight r) (2 * r - 1) v) (r * r)

/-- A filter output as the signed 16-bit raw code (R84). -/
def filterCode (x : Int) : Nat := wrap 16 (clampS 16 x)

/-- Whether a filter output saturates: at or beyond either end of the range (R84; log entry 75). -/
def saturates (x : Int) : Bool := decide (x ≤ -32768) || decide (32767 < x)

/-- Whether the newest `k` bits of `v` are equal (R86). -/
def equalBits (k v : Nat) : Bool := v % 2 ^ k == 0 || v % 2 ^ k == 2 ^ k - 1

end Sys2Proof.Machine
end

