-- ==== Sys2Proof/Machine/Mon.lean ====
section
/-!
DEFINITION. The window monitors (04_window_monitors): classification, the majority filter, the resolved state, latching, the
hard threshold, the routes to the trip inputs, the DC warning, and the writes of `EN`.

A sample is a 16-bit code: of an analog monitor the pin in converter LSB, of a fast-filter monitor the signed fast-filter raw
code that the newest bits of its modulator input give. Bits [15:4] are what the thresholds are compared with (R110).
-/

namespace Sys2Proof.Machine
open Reg

/-! ### Classification (R111) -/

/-- A 12-bit threshold or sample field as monitor `m` reads it: signed on a fast-filter monitor (R110). -/
def monCode (n m v : Nat) (s : State) : Int := if s.flag (MON_Mm_CFG_SRC n m) then sext 12 v else ((v % 4096 : Nat) : Int)

/-- Class of a sample: 0 band, 1 clearly inside, 2 clearly above, 3 clearly below (R111). -/
def monClass (n m : Nat) (code : Nat) (s : State) : Nat :=
  let x := monCode n m (code / 16) s
  let hi := monCode n m (s.get (MON_Mm_THR_HI_ACT n m)) s
  let lo := monCode n m (s.get (MON_Mm_THR_LO_ACT n m)) s
  let h : Int := s.get (MON_Mm_CFG_HYS n m)
  if hi < x then 2 else if x < lo then 3 else if lo + h ≤ x ∧ x ≤ hi - h then 1 else 0

/-- Whether a sample of class `c` counts as outside while the filter output is `out` (R111). -/
def monOutside (c : Nat) (out : Bool) : Bool := if c = 0 then out else c != 1

/-- Whether a sample lies beyond the hard thresholds (R118). -/
def monBeyond (n m : Nat) (code : Nat) (s : State) : Bool :=
  let x := monCode n m (code / 16) s
  decide (monCode n m (s.get (MON_Mm_HARD_HHI n m)) s < x) || decide (x < monCode n m (s.get (MON_Mm_HARD_HLO n m)) s)

/-! ### What a change of a monitor's outputs reaches -/

/-- Level of trip input `j`: the OR of the routed `LATCHED` outputs (R119). -/
def tripLevel (n j : Nat) (s : State) : Bool :=
  (List.range 12).any (fun m => s.flag (MON_Mm_STAT_LATCHED n m) && bitAt (s.get (MON_Mm_ROUTE_TRIP n m)) j)

/-- Keep `PWM_TRIP_STAT.IN`. A rise of the level, or a rise of the filter output of routed monitor `m` while the level is
already high (`rose`), is a new assertion while the Stall is switching (R530). -/
def tripFollow (n m : Nat) (rose : Bool) (s : State) : State :=
  s.each [0, 1, 2, 3] (fun j s =>
    let was := bitAt (s.get (PWM_TRIP_STAT_IN n)) j
    let lvl := tripLevel n j s
    let anew := lvl && (!was || (rose && bitAt (s.get (MON_Mm_ROUTE_TRIP n m)) j))
    let s := s.setBit (PWM_TRIP_STAT_IN n) j lvl
    s.when (anew && switching n s) (fun s => s.set (pwmTripNew n j) 1))

/-- Whether the `WARN_MON` source of Stall `n` asserts (R289). -/
def warnLevel (n : Nat) (s : State) : Bool :=
  let m := s.get (PROT_LINK_CFG_WARN_MON n)
  s.flag (PROT_LINK_CFG_MEMBER n) && s.flag (PROT_LINK_CFG_WARN_EN n) &&
    (s.flag (MON_Mm_STAT_OUT n m) || s.flag (MON_Mm_STAT_HARD n m))

/-- Follow the `WARN_MON` source; each rise raises `EV_DC_WARN` (R289). -/
def warnFollow (n : Nat) (s : State) : State :=
  let was := s.flag (protWarn n)
  let lvl := warnLevel n s
  (s.setB (protWarn n) lvl).when (lvl && !was) (raiseStall n 0x2B)

/-- After a change of monitor `m`'s outputs: trip inputs and the DC warning follow. -/
def monFollow (n m : Nat) (rose : Bool) (s : State) : State := warnFollow n (tripFollow n m rose s)

/-- Whether the carrier of Stall `n` does not run, in the sense of R112: PWM state 0 or 4. -/
def carrierStopped (n : Nat) (s : State) : Bool := s.get (PWM_STAT_STATE n) == 0 || s.get (PWM_STAT_STATE n) == 4

/-- `LATCHED` while the filter output is deasserted (R116): mode 0 clears it; mode 1 clears it at a `sample` while the carrier does not
run. -/
def latchFollow (n m : Nat) (sample : Bool) (s : State) : State :=
  let mode := s.get (MON_Mm_FILT_LATCH n m)
  s.when (!s.flag (MON_Mm_STAT_OUT n m) && (mode == 0 || (mode == 1 && sample && carrierStopped n s)))
    (fun s => s.set (MON_Mm_STAT_LATCHED n m) 0)

/-- The hard output takes a level; the protection block reads it (R118). -/
def hardLevel (n m : Nat) (b : Bool) (s : State) : State :=
  (s.setB (MON_Mm_STAT_HARD n m) b).setBit (protHard n) m b

/-! ### Starting and sampling -/

/-- Monitor `m` starts unresolved (R115). -/
def monStart (n m : Nat) (s : State) : State :=
  let was := s.flag (MON_Mm_STAT_OUT n m)
  let prot := s.flag (MON_Mm_CFG_PROT n m)
  let s := ((s.set (MON_Mm_STAT_STATE n m) 0).set (monWin n m) 0).set (monRunLen n m) 0
  let s := hardLevel n m false ((s.set (monHardRun n m) 0).set (monLastAt n m) s.now)
  let s := s.setB (MON_Mm_STAT_OUT n m) prot
  let s := if prot then s.set (MON_Mm_STAT_LATCHED n m) 1
    else latchFollow n m false (s.when was (fun s => s.set (MON_Mm_STAT_FALL n m) 1))
  monFollow n m (prot && !was) s

/-- Whether monitor `m` takes samples: enabled, not failed, its input valid (R115, R123), and in Lantern mode only the monitor
that `MON_LANTERN` names (R124). -/
def monSamples (n m : Nat) (s : State) : Bool :=
  s.flag (MON_Mm_CFG_EN n m) && !s.flag (MON_Mm_STAT_FAILED n m) &&
    (!s.flag (MON_Mm_CFG_SRC n m) || s.flag (MOD_INi_FAST_VALID n (s.get (MON_Mm_CFG_IN n m)))) &&
    (!s.flag TB_STATUS_LANTERN || (s.flag (MON_LANTERN_EN n) && s.get (MON_LANTERN_MON n) == m))

/-- The filter output asserts: `RISE`, `TRIPS`, `LATCHED`, the event, and `WAKE` in Lantern mode (R116, R117, R124). -/
def monAssert (n m : Nat) (s : State) : State :=
  let s := ((s.set (MON_Mm_STAT_OUT n m) 1).set (MON_Mm_STAT_LATCHED n m) 1).set (MON_Mm_STAT_RISE n m) 1
  let s := (s.inc (MON_Mm_STAT_TRIPS n m)).when (s.flag TB_STATUS_LANTERN) (fun s => s.set (MON_Mm_STAT_WAKE n m) 1)
  monFollow n m true (raiseStall n 0x30 s)

/-- The filter output deasserts: `FALL`, and `LATCHED` by its mode (R116, R117). -/
def monDeassert (n m : Nat) (s : State) : State :=
  let s := (s.set (MON_Mm_STAT_OUT n m) 0).set (MON_Mm_STAT_FALL n m) 1
  monFollow n m false (latchFollow n m true s)

/-- The monitor resolves on a run of class `c`: the filter starts from that run (R115); in Lantern mode an output that takes the asserted
value wakes (R124). -/
def monResolve (n m c : Nat) (s : State) : State :=
  let was := s.flag (MON_Mm_STAT_OUT n m)
  let out := c != 1
  let s := (s.set (MON_Mm_STAT_STATE n m) c).set (monWin n m) (if out then 0xFFFF else 0)
  let s := s.setB (MON_Mm_STAT_OUT n m) out
  let s := if out then s.set (MON_Mm_STAT_LATCHED n m) 1 else latchFollow n m true s
  let s := s.when (out && s.flag TB_STATUS_LANTERN) (fun s => s.set (MON_Mm_STAT_WAKE n m) 1)
  monFollow n m (out && !was) (raiseStall n 0x32 s)

/-- The hard output at one sample (R118): asserted after `HN` + 1 consecutive samples beyond, deasserted at the first that is
not. A rise sets the power-stage fault latch (R277). -/
def monHardStep (n m code : Nat) (s : State) : State :=
  if s.flag (MON_Mm_CFG_PROT n m) && s.flag (MON_Mm_HARD_HEN n m) && s.get (MON_Mm_STAT_STATE n m) != 0 then
    if monBeyond n m code s then
      let s := s.set (monHardRun n m) (min 4 (s.get (monHardRun n m) + 1))
      if s.get (MON_Mm_HARD_HN n m) < s.get (monHardRun n m) ∧ !s.flag (MON_Mm_STAT_HARD n m) then
        let s := raiseStall n 0x31 ((hardLevel n m true s).set (MON_Mm_STAT_HARD_SEEN n m) 1)
        let s := warnFollow n s
        let code := stallCode n 5 (0x10 + m)
        psfSet n (0x10 + m) (2 ^ m) 0 0 code (recordFault code .stallSafe s)
      else s
    else warnFollow n (hardLevel n m false (s.set (monHardRun n m) 0))
  else s

/-- One sample of the majority filter of a resolved monitor (R114). -/
def monFilterStep (n m : Nat) (outside : Bool) (s : State) : State :=
  let w := (s.get (monWin n m) * 2 + outside.toNat) % 65536
  let len := s.get (MON_Mm_FILT_M n m)
  let k := s.get (MON_Mm_FILT_N n m)
  let high := popCount len w
  let s := s.set (monWin n m) w
  if !s.flag (MON_Mm_STAT_OUT n m) && decide (k ≤ high) then monAssert n m s
  else if s.flag (MON_Mm_STAT_OUT n m) && decide (k ≤ len - high) then monDeassert n m s
  else monFollow n m false (latchFollow n m true s)

/-- The active thresholds of monitor `m` load. -/
def monThrLoad (n m : Nat) (s : State) : State :=
  (s.set (MON_Mm_THR_HI_ACT n m) (s.get (MON_Mm_THR_HI n m))).set (MON_Mm_THR_LO_ACT n m) (s.get (MON_Mm_THR_LO n m))

/-- Whether `k` sampling instants of monitor `m` have come since its last sample: one every `PERIOD` ticks, in Lantern mode by the 1 kHz
tick of its own oscillator (R113, R124). -/
def monPeriods (n m k : Nat) (s : State) : Bool :=
  s.flag TB_STATUS_LANTERN || decide (s.get (monLastAt n m) + k * s.get (MON_Mm_CFG_PERIOD n m) ≤ s.now)

/-- The code of a sample: of an analog monitor the sample itself, of a fast-filter monitor the fast filter's output over the input's newest
bits (R84, R110, R113). -/
def monCodeOf (n m x : Nat) (s : State) : Nat :=
  if s.flag (MON_Mm_CFG_SRC n m) then filterCode (fastOut n (s.get (MON_Mm_CFG_IN n m)) x s) else x % 65536

/-- One sample of monitor `m` of Stall `n`; thresholds written while the carrier does not run load at it (R112). -/
def monSample (n m x : Nat) (s : State) : State :=
  if monSamples n m s then
    let code := monCodeOf n m x s
    let s := s.when (carrierStopped n s) (monThrLoad n m)
    let s := s.when (s.flag (MON_Mm_CFG_SRC n m)) (fun s => s.set (MOD_INi_FAST_RAW n (s.get (MON_Mm_CFG_IN n m))) code)
    let c := monClass n m code s
    let outside := monOutside c (s.flag (MON_Mm_STAT_OUT n m))
    let s := s.set (MON_Mm_HIST_HIST n m) ((s.get (MON_Mm_HIST_HIST n m) * 2 + outside.toNat) % 65536)
    let run := if c = 0 then 0 else if c = s.get (monRunCls n m) then min 16 (s.get (monRunLen n m) + 1) else 1
    let s := (s.set (monRunCls n m) c).set (monRunLen n m) run
    if s.get (MON_Mm_STAT_STATE n m) = 0 then
      (if c ≠ 0 ∧ s.get (MON_Mm_FILT_M n m) ≤ run then monHardStep n m code (monResolve n m c s)
       else monFollow n m false (latchFollow n m true s))
    else
      let s := s.when (c != 0) (fun s => s.set (MON_Mm_STAT_STATE n m) c)
      monHardStep n m code (monFilterStep n m outside s)
  else s

/-- A run of samples, oldest first, the last one now, each at a sampling instant of its own (R113). -/
def monRun (n m : Nat) (l : List (BitVec 64)) (s : State) : State :=
  if monPeriods n m l.length s then (l.foldl (fun s c => monSample n m c.toNat s) s).set (monLastAt n m) s.now else s

/-! ### The commands -/

/-- EV_MON_RESOLVED (R115): samples up to the M-th of a run of clear ones. -/
def execEvMonResolved (n : Fin 4) (m : Fin 12) (samples : List (BitVec 64)) (s : State) : Out := ok (monRun n m samples s)

/-- MON_FILTER_ASSERT (R114, R117): samples up to the N-th that is outside. -/
def execMonFilterAssert (n : Fin 4) (m : Fin 12) (samples : List (BitVec 64)) (s : State) : Out := ok (monRun n m samples s)

/-- MON_FILTER_DEASSERT (R114, R117): samples up to the N-th that is inside. -/
def execMonFilterDeassert (n : Fin 4) (m : Fin 12) (samples : List (BitVec 64)) (s : State) : Out := ok (monRun n m samples s)

/-- MON_HARD_ASSERT (R118): samples up to the one that completes `HN` + 1 beyond the hard thresholds. -/
def execMonHardAssert (n : Fin 4) (m : Fin 12) (samples : List (BitVec 64)) (s : State) : Out := ok (monRun n m samples s)

/-- MON_HARD_DEASSERT (R118): samples up to the first that is not beyond the hard thresholds. -/
def execMonHardDeassert (n : Fin 4) (m : Fin 12) (samples : List (BitVec 64)) (s : State) : Out := ok (monRun n m samples s)

/-- MON_ENABLE (R115, R123): a monitor that was disabled starts unresolved. -/
def execMonEnable (n : Fin 4) (m : Fin 12) : State → Out :=
  stallWrite n (fun s => ok (busOk (if s.flag (MON_Mm_CFG_EN n m) then s else monStart n m (s.set (MON_Mm_CFG_EN n m) 1))))

/-- Monitor `m` stops (R123). -/
def monStop (n m : Nat) (s : State) : State :=
  let s := (((s.set (MON_Mm_CFG_EN n m) 0).set (MON_Mm_STAT_LATCHED n m) 0).set (MON_Mm_STAT_OUT n m) 0).set (MON_Mm_STAT_STATE n m) 0
  let s := hardLevel n m false (((s.set (monWin n m) 0).set (monRunLen n m) 0).set (monHardRun n m) 0)
  monFollow n m false s

/-- MON_DISABLE (R123): not a protection monitor of a switching Stall; `LATCHED` clears where `EN` is 0 already too. -/
def execMonDisable (n : Fin 4) (m : Fin 12) : State → Out :=
  stallWrite n (fun s =>
    if s.flag (MON_Mm_CFG_EN n m) && s.flag (MON_Mm_CFG_PROT n m) && switching n s then ok (busErr s)
    else ok (busOk (monStop n m s)))

/-- MON_THR_LOAD (R112): at a sampling instant while the carrier does not run. -/
def execMonThrLoad (n : Fin 4) (m : Fin 12) (s : State) : Out :=
  ok (s.when (carrierStopped n s && monSamples n m s && monPeriods n m 1 s) (monThrLoad n m))

/-- MON_LATCH_CLEAR (R116): in latch modes 1 and 2, while the filter output is deasserted; otherwise nothing, without error. -/
def execMonLatchClear (n : Fin 4) (m : Fin 12) : State → Out :=
  stallWrite n (fun s => ok (busOk (s.when (!s.flag (MON_Mm_STAT_OUT n m)) (fun s => monFollow n m false (s.set (MON_Mm_STAT_LATCHED n m) 0)))))

/-- Latch mode 1 at a carrier period start (R116). -/
def monPeriodClear (n : Nat) (s : State) : State :=
  s.each (List.range 12) (fun m s =>
    s.when (s.get (MON_Mm_FILT_LATCH n m) == 1 && s.flag (MON_Mm_STAT_LATCHED n m) && !s.flag (MON_Mm_STAT_OUT n m))
      (fun s => tripFollow n m false (s.set (MON_Mm_STAT_LATCHED n m) 0)))

/-- The monitors of Stall `n` that watch modulator input `i` start when its fast filter becomes valid or invalid (R115). -/
def monInputChange (n i : Nat) (s : State) : State :=
  s.each (List.range 12) (fun m s =>
    s.when (s.flag (MON_Mm_CFG_EN n m) && s.flag (MON_Mm_CFG_SRC n m) && s.get (MON_Mm_CFG_IN n m) == i) (monStart n m))

end Sys2Proof.Machine
end

