-- ==== Sys2Proof/Machine/Sense.lean ====
section
/-!
DEFINITION. Current and voltage sensing (03_current_and_voltage_sensing): converters and their correction, the cross-check, the
converter check and the spare, modulator inputs, the path checks of the quantity slots, and the system calibration.
-/

namespace Sys2Proof.Machine
open Reg

/-! ### Correction (R87) -/

/-- `FG` x raw + `FO` in 2^-26 LSB: raw in LSB, `fo` in 1/16 LSB. -/
def factoryValue (fg : Nat) (fo : Int) (raw : Int) : Int := (fg : Int) * raw * 16 + fo * 2 ^ 22

/-- `UG` x (`FG` x raw + `FO`) + `UO` in 1/16 LSB, rounded once, saturated (R87). -/
def correct (ug : Nat) (uo : Int) (v : Int) : Int :=
  clampS 24 (divRound ((ug : Int) * v + uo * 2 ^ 44) (2 ^ 44))

/-- A corrected value of 1/16 LSB times its scale, binary32. -/
def physical (cor : Int) (scale : F32) : F32 := F32.mul (F32.ofRat cor 16) scale

/-- Factory value of a code of the converter at position `c`. -/
def converterValue (n c raw : Nat) (s : State) : Int :=
  factoryValue (s.get (SENSE_Cc_FG_FG n c)) (s.geti (SENSE_Cc_FO_FO n c)) raw

/-! ### Converter checks and the spare (R95 to R98) -/

/-- The requested converter checks of Stall `n`, first to run first. -/
def checkQueue (n : Nat) (s : State) : List Nat :=
  ((List.range 4).map (fun i => bits (s.get (senQueue n)) (3 * i) 3)).filterMap (fun d => if d = 0 then none else some (d - 1))

/-- Store the queue of checks. -/
def setCheckQueue (n : Nat) (l : List Nat) (s : State) : State :=
  s.set (senQueue n) (l.foldr (fun c a => a * 8 + (c + 1)) 0)

/-- Request a converter check of position `c`, for the latches of the slots of the mask `slots` (R92) or for a run of mismatches (mask 0);
a failed position is not checked, nor one already queued or under check. -/
def requestCheck (n c : Nat) (slots : Nat) (s : State) : State :=
  if s.flag (SENSE_Cc_STAT_OUT n c) && !s.flag (SENSE_Cc_STAT_CHECK n c) then s
  else
    let s := s.set (senCkLatch n c) (s.get (senCkLatch n c) ||| slots)
    if s.flag (SENSE_Cc_STAT_CHECK n c) || (checkQueue n s).contains c then s
    else setCheckQueue n (checkQueue n s ++ [c]) s

/-- The slot's converter is out of service (R95, R97). -/
def slotOut (n q : Nat) (s : State) : Bool :=
  let c := s.get (senConvOf n (s.get (SENSE_Qq_CFG_CH n q)))
  c != 0 && s.flag (SENSE_Cc_STAT_OUT n (c - 1))

/-- Whether slot `q` has a valid modulator value. -/
def slotHasMod (n q : Nat) (s : State) : Bool :=
  let i := s.get (SENSE_Qq_CFG_MODIN n q)
  decide (i < 6) && s.flag (MOD_INi_MAIN_VALID n i)

/-- Keep `PATH` when a converter goes out of or returns to service: a slot that has a modulator value takes it (R95, R100); a configured
derivation of Q2 has no path of its own (R74). -/
def pathRefresh (n : Nat) (s : State) : State :=
  s.each (List.range 8) (fun q s =>
    if q = 2 ∧ s.flag (SENSE_Qq_CFG_DERIVE n 2) then s
    else if s.flag (senLatched n q) || slotOut n q s then
      s.when (slotHasMod n q s) <| fun s => s.when (s.get (SENSE_Qq_CFG_PATH n q) == 0) (fun s => (s.set (SENSE_Qq_CFG_PATH n q) 1).set (SENSE_Qq_CFG_SUBST n q) 1)
    else s.when (s.get (SENSE_Qq_CFG_PATH n q) == 1) (fun s => s.set (SENSE_Qq_CFG_PATH n q) 0))

/-- Result of a converter check from the deviations of its five means, 1/16 LSB, and its five spreads, LSB (R95). -/
def checkPasses (devs spreads : List (BitVec 20)) : Bool :=
  devs.all (fun d => decide ((sext 20 d.toNat).natAbs ≤ 8 * 16)) && spreads.all (fun d => decide (d.toNat ≤ 16))

def calCmd (n : Nat) : CmdReg := ⟨SENSE_CAL_CMD_CODE n, SENSE_CAL_CMD_STATUS n⟩

/-- A calibration run ends with a status; every end raises `EV_CAL_DONE` (R108). -/
def calEnd (n st : Nat) (s : State) : State :=
  raiseStall n 0x26 ((s.cmdEnd (calCmd n) st).set (SENSE_CAL_STAT_PHASE n) 0)

/-- A running calibration fails with cause `err` (R107). -/
def calFail (n err : Nat) (s : State) : State :=
  s.when (s.busy (calCmd n)) (fun s => calEnd n stFailed (s.set (SENSE_CAL_STAT_ERR n) err))

/-- The converter at position `c` fails its check (R97). -/
def converterFails (n c : Nat) (s : State) : State :=
  let s := (s.set (SENSE_Cc_STAT_FAILED n c) 1).set (SENSE_Cc_STAT_OUT n c) 1
  let s := calFail n 6 (raiseStall n 0x24 s)
  if s.flag (SENSE_Cc_STAT_SPARE n c) then
    raiseStallFault n 1 3 .ride (s.set BIST_SPARE_STAT_CONV_FAIL 1)
  else if s.flag BIST_SPARE_CONV_VALID || s.flag BIST_SPARE_STAT_CONV_FAIL then raiseStallFault n 1 3 .ride s
  else
    let ask := fun (s : State) => ((s.set spareReq (n + 1)).set spareReqC c).set spareReqAt s.now
    let r := s.get spareReq
    if r = 0 then ask s
    else if s.get spareReqAt = s.now ∧ n + 1 < r then raiseStallFault (r - 1) 1 3 .ride (ask s)
    else raiseStallFault n 1 3 .ride s

/-- Converter `c` leaves service: the mismatch runs of its pairs start again from 0 (R94), its stream resumes with bit 16 set (R384). -/
def pairsOut (n c : Nat) (s : State) : State :=
  ((s.set (senXrun n c) 0).set (senXrun n ((c + 3) % 4)) 0).set (strOpen (4 * n + c)) 1

/-- CONVERTER_CHECK_START (R95): at a trigger, one check at a time in a Stall. -/
def execConverterCheckStart (n : Fin 4) (s : State) : Out :=
  ok <|
    if s.get (senTrigAt n) ≠ s.now || [0, 1, 2, 3].any (fun c => s.flag (SENSE_Cc_STAT_CHECK n c)) then s
    else match checkQueue n s with
      | [] => s
      | c :: r =>
        let s := pairsOut n c ((setCheckQueue n r s).set (senCkAt n) s.now)
        pathRefresh n (((s.set (SENSE_Cc_STAT_CHECK n c) 1).set (SENSE_Cc_STAT_OUT n c) 1).set (senBack n c) 0)

/-- The latches of the mask `slots`, for which converter `c` was checked and passed, stay until the Stall is reset (R96). -/
def latchForGood (n c slots : Nat) (s : State) : State :=
  s.each (List.range 8) (fun q s =>
    s.when (bitAt slots q && s.flag (senLatched n q) && s.get (senLconv n q) == c + 1) (fun s => s.set (senPassed n q) 1))

/-- CONVERTER_CHECK_DONE (R95 to R97): at least 16 µs after the start; a converter that passes returns at the next trigger. -/
def execConverterCheckDone (n : Fin 4) (devs spreads : List (BitVec 20)) (s : State) : Out :=
  ok <|
    match firstBelow 4 (fun c => s.flag (SENSE_Cc_STAT_CHECK n c)) with
    | none => s
    | some c =>
      if s.now < s.get (senCkAt n) + 3200 then s
      else
        let slots := s.get (senCkLatch n c)
        let s := (s.set (SENSE_Cc_STAT_CHECK n c) 0).set (senCkLatch n c) 0
        if checkPasses devs spreads then
          (s.set (senBack n c) 1).when (slots != 0) (fun s => raiseStallFault n 1 4 .ride (latchForGood n c slots s))
        else converterFails n c s

/-- SPARE_CHECK_DONE (R97, R98): at least 16 µs after the request; the spare takes the failed position at the next trigger, or fails. -/
def execSpareCheckDone (devs spreads : List (BitVec 20)) (s : State) : Out :=
  ok <|
    if s.get spareReq = 0 ∨ s.now < s.get spareReqAt + 3200 then s
    else
      let n := s.get spareReq - 1
      let c := s.get spareReqC
      let s := s.set spareReq 0
      if checkPasses devs spreads then
        (((s.set BIST_SPARE_CONV_VALID 1).set BIST_SPARE_CONV_STALL n).set BIST_SPARE_CONV_C c).set (senBack n c) 2
      else raiseStallFault n 1 3 .ride (raiseStall n 0x24 (s.set BIST_SPARE_STAT_CONV_FAIL 1))

/-- Position `c` returns to service at a trigger: its converter after a passed check, or the spare in its place (R96, R97). -/
def positionBack (n c : Nat) (s : State) : State :=
  let b := s.get (senBack n c)
  if b = 0 then s
  else
    let s := (s.set (senBack n c) 0).set (SENSE_Cc_STAT_OUT n c) 0
    let s := s.when (b == 2) (fun s =>
      let s := (s.set (SENSE_Cc_STAT_SPARE n c) 1).set (SENSE_Cc_FG_FG n c) (s.get spareFg)
      raiseStallFault n 1 2 .ride (raiseStall n 0x25 (s.set (SENSE_Cc_FO_FO n c) (s.get spareFo))))
    pathRefresh n s

/-! ### Selects and conversions (R76 to R80, R93) -/

/-- SEL_LOAD (R77): once, 100 ns (1,280 fine steps) before the coming trigger. -/
def execSelLoad (n : Fin 4) (s : State) : Out :=
  ok (s.when (!s.flag (senSelDone n) && (nextTrigger n s).any (fun t => decide (t ≤ s.now * 64 + 63 + 1280))) (fun s =>
    (s.set (senSelDone n) 1).each [0, 1, 2, 3] (fun c s =>
      (s.set (SENSE_Cc_SEL_CH_ACT n c) (s.get (SENSE_Cc_SEL_CH n c))).set (senPosAct n c) (s.get (senNext n c)))))

/-- A trigger closes the stream record of converter `c` (R384): it holds the samples up to here, if the converter delivered any. -/
def streamCut (n c : Nat) (s : State) : State :=
  let i := 4 * n + c
  let s := s.set (strPrev i) (s.get (SENSE_Cc_RAW_RAW n c))
  if s.flag (SENSE_CTRL_EN n) && !s.flag (SENSE_Cc_STAT_OUT n c) then
    (((s.set (strCh i) (s.get (senCh n c))).set (strWas i) (s.get (strOpen i))).set (strTrig i) 1).set (strOpen i) 1
  else s.set (strTrig i) 0

/-- The holds of Stall `n` close at its trigger (R80); every second trigger is one of the cross-check (R93). -/
def holdsClose (n : Nat) (s : State) : State :=
  let s := s.each [0, 1, 2, 3] (streamCut n)
  let s := (s.each [0, 1, 2, 3] (positionBack n)).set (senSelDone n) 0
  let x := s.flag (SENSE_CTRL_XCHK_EN n) && !s.flag (senXpar n)
  let s := (s.setB (senXpar n) x).set (senXdue n) (if x && s.flag (SENSE_CTRL_EN n) then 15 else 0)
  s.each [0, 1, 2, 3] (fun c s =>
    let run := s.flag (SENSE_CTRL_EN n) && !s.flag (SENSE_Cc_STAT_OUT n c)
    let s := (s.setB (senHeld n c) run).set (senPrimOk n c) 0
    s.when run (fun s => s.set (senCh n c) (s.get (SENSE_Cc_SEL_CH_ACT n c))))

/-- A primary conversion of converter `c` gives code `raw` (R76, R79, R87). -/
def conversion (n c raw : Nat) (s : State) : State :=
  let ch := s.get (senCh n c)
  let clip := raw == 0 || raw == 65535
  let v := converterValue n c raw s
  let s := ((s.set (SENSE_Cc_RAW_RAW n c) raw).set (SENSE_Cc_RAW_CH n c) ch).setB (SENSE_Cc_RAW_CLIP n c) clip
  let s := s.seti (SENSE_CHk_COR_COR n ch) (correct (s.get (SENSE_CHk_UG_UG n ch)) (s.geti (SENSE_CHk_UO_UO n ch)) v)
  let s := ((s.set (senConvOf n ch) (c + 1)).setB (senClip n ch) clip).set (senConvAt n ch) s.now
  ((s.seti (senPrim n c) v).set (senPrimOk n c) 1).set (senHeld n c) 0

/-- CONVERSION_DONE (R76, R79, R80, R87): not before 30 ns after the trigger. -/
def execConversionDone (n : Fin 4) (c : Fin 4) (raw : BitVec 16) (s : State) : Out :=
  ok (s.when (s.flag (senHeld n c) && decide (s.get (senTrigAt n) + 6 ≤ s.now)) (conversion n c raw.toNat))

/-- Pair `c` mismatches once more (R93). -/
def pairMismatch (n c : Nat) (s : State) : State :=
  let d := (c + 1) % 4
  let s := ((s.inc (SENSE_Cc_STAT_XFAIL n c)).inc (SENSE_Cc_STAT_XFAIL n d)).inc (senXrun n c)
  let need := if s.get (SENSE_XCHK_CFG_N n) = 0 then 16 else s.get (SENSE_XCHK_CFG_N n)
  if need ≤ s.get (senXrun n c) then
    let s := (s.set (senXrun n c) 0).setBit (SENSE_XCHK_STAT_MISMATCH n) c true
    requestCheck n d 0 (requestCheck n c 0 (raiseStall n 0x23 s))
  else s

/-- CHECK_CONVERSION_DONE (R80, R93, R94): the check hold of converter `c` took the channel of converter (c + 1) mod 4; its hold
starts 80 ns after the trigger, and `XCHK_STAT` follows 100 ns after it at the earliest. -/
def execCheckConversionDone (n : Fin 4) (c : Fin 4) (raw : BitVec 16) (s : State) : Out :=
  ok <|
    if bitAt (s.get (senXdue n)) c && decide (s.get (senTrigAt n) + 20 ≤ s.now) then
      let d := (c.val + 1) % 4
      let s := s.setBit (senXdue n) c false
      if s.flag (SENSE_Cc_STAT_OUT n c) || s.flag (SENSE_Cc_STAT_OUT n d) || !s.flag (senPrimOk n d) then s.set (senXrun n c) 0
      else
        let diff := (converterValue n c raw.toNat s - s.geti (senPrim n d)).natAbs
        if s.get (SENSE_XCHK_CFG_THR n) * 2 ^ 26 < diff then pairMismatch n c s else s.set (senXrun n c) 0
    else s

/-! ### Modulator inputs (R81 to R86) -/

/-- Whether modulator input `i` is enabled (R83). -/
def modOn (n i : Nat) (s : State) : Bool := s.flag (MOD_CTRL_EN n) && bitAt (s.get (MOD_CTRL_IN_EN n)) i

/-- The filters of input `i` start cleared (R83). -/
def modClear (n i : Nat) (s : State) : State :=
  let s := ((s.set (modFill n i) 0).set (MOD_INi_MAIN_VALID n i) 0).setBit (MOD_STAT_STUCK n) i false |>.set (modOnAt n i) s.now
  let was := s.flag (MOD_INi_FAST_VALID n i)
  (s.set (MOD_INi_FAST_VALID n i) 0).when was (monInputChange n i)

/-- Keep the `VALID` bits of input `i` (R83, R86); the monitors that watch it start when the fast one changes (R115). -/
def modValid (n i : Nat) (s : State) : State :=
  let live := modOn n i s && !bitAt (s.get (MOD_STAT_STUCK n)) i
  let was := s.flag (MOD_INi_FAST_VALID n i)
  let fast := live && bitAt (s.get (modFill n i)) 1
  let s := (s.setB (MOD_INi_MAIN_VALID n i) (live && bitAt (s.get (modFill n i)) 0)).setB (MOD_INi_FAST_VALID n i) fast
  s.when (was != fast) (monInputChange n i)

/-- The loop engines of Stall `n` run. -/
def loopRuns (n : Nat) (s : State) : Bool := s.get (LOOP_STAT_STATE n) != 0

/-- A write of `w` to `MOD_CTRL` (R82, R83, R526). -/
def modCtrlWrite (n w : Nat) (s : State) : State :=
  let en := bitAt w 0
  let div := bits w 8 5
  let ins := bits w 16 6
  if div < 8 ∨ 20 < div then busErr s
  else
    let on := s.flag (MOD_CTRL_EN n)
    let badEn := on && !en && loopRuns n s
    let badDiv := on && div != s.get (MOD_CTRL_CLK_DIV n)
    let was := (List.range 6).map (fun i => modOn n i s)
    let s := if badEn || badDiv then busErr s else busOk s
    let s := s.when (!badEn) (fun s => (s.setB (MOD_CTRL_EN n) en).when (en && !on) (fun s => s.set (modClkAt n) s.now))
    let s := s.when (!badDiv) (fun s => s.set (MOD_CTRL_CLK_DIV n) div)
    let s := s.set (MOD_CTRL_IN_EN n) ins
    s.each (List.range 6) (fun i s => s.when (was.getD i false != modOn n i s) (modClear n i))

/-- MOD_CTRL_WRITE (R82, R83). -/
def execModCtrlWrite (n : Fin 4) (w : BitVec 32) : State → Out := stallWrite n (fun s => ok (modCtrlWrite n w.toNat s))

/-- MOD_FILTER_FILLED (R83): the main filter of an enabled input has taken its 3 x D bits, or the fast one its 2 x K; `bits` are the
newest. -/
def execModFilterFilled (n : Fin 4) (i : Fin 6) (fast : Bool) (bits : BitVec 768) (s : State) : Out :=
  let need := if fast then 2 * s.get (MOD_INi_CFG_OSR n i) else 3 * s.get (MOD_INi_CFG_DEC n i)
  ok (s.when (modOn n i s && decide (need ≤ bitsSince n (s.get (modOnAt n i)) s)) (fun s =>
    let s := s.set (MOD_INi_FAST_RAW n i) (filterCode (fastOut n i bits.toNat s))
    modValid n i (s.setBit (modFill n i) fast.toNat true)))

/-- EV_MOD_CLIP (R84): the onset of saturation: the main-filter output over the newest bits saturates, the one before it did not; judged
only while the main filter is valid. -/
def execEvModClip (n : Fin 4) (x : Fin 6 × BitVec 769) (s : State) : Out :=
  let i := x.1
  let v := x.2.toNat
  ok (s.when (s.flag (MOD_INi_MAIN_VALID n i) && saturates (mainOut n i v s) && !saturates (mainOut n i (v / 2) s))
    (fun s =>
      let s := s.set (MOD_INi_FAST_RAW n i) (filterCode (fastOut n i v s))
      raiseStall n 0x29 (s.setBit (MOD_STAT_CLIP_SEEN n) i true)))

/-- MOD_STUCK (R86): the newest `STUCK_N` bits of the input are equal. -/
def execModStuck (n : Fin 4) (x : Fin 6 × BitVec 1023) (s : State) : Out :=
  let i := x.1
  let k := s.get (MOD_INi_CFG_STUCK_N n i)
  ok (s.when (modOn n i s && !bitAt (s.get (MOD_STAT_STUCK n)) i && equalBits k x.2.toNat &&
      decide (k ≤ bitsSince n (s.get (modOnAt n i)) s)) (fun s =>
    let s := s.set (MOD_INi_FAST_RAW n i) (filterCode (fastOut n i x.2.toNat s))
    let s := modValid n i (((s.setBit (MOD_STAT_STUCK n) i true).setBit (MOD_STAT_STUCK_SEEN n) i true).set (modStuckAt n i) s.now)
    calFail n 6 (raiseStallFault n 7 1 .ride (raiseStall n 0x28 s))))

/-- MOD_UNSTUCK (R86): 4 x D clocks without a stuck run; the filters have filled meanwhile. -/
def execModUnstuck (n : Fin 4) (i : Fin 6) (s : State) : Out :=
  ok (s.when (bitAt (s.get (MOD_STAT_STUCK n)) i && decide (4 * s.get (MOD_INi_CFG_DEC n i) ≤ bitsSince n (s.get (modStuckAt n i)) s))
    (fun s => modValid n i ((s.setBit (MOD_STAT_STUCK n) i false).set (modFill n i) 3)))

/-- The filter outputs of the enabled inputs at a trigger, over the bits sampled before it: the main one latches and is corrected (R85,
R87), the fast one is the newest (R113). -/
def modLatch (n : Nat) (l : List (BitVec 768)) (s : State) : State :=
  s.each (List.range 6) (fun i s =>
    match l[i]? with
    | none => s
    | some v => s.when (modOn n i s) (fun s =>
        let code := filterCode (mainOut n i v.toNat s)
        let s := s.set (MOD_INi_FAST_RAW n i) (filterCode (fastOut n i v.toNat s))
        (s.set (MOD_INi_MAIN_RAW n i) code).seti (MOD_INi_COR_COR n i)
          (correct (s.get (MOD_INi_UG_UG n i)) (s.geti (MOD_INi_UO_UO n i)) (factoryValue (2 ^ 22) 0 (sext 16 code)))))

/-! ### Quantity slots (R73 to R75, R90 to R92, R99, R100) -/

/-- Converter-path value of slot `q`, `none` while no converter in service has converted its channel. -/
def slotC (n q : Nat) (s : State) : Option F32 :=
  let ch := s.get (SENSE_Qq_CFG_CH n q)
  if s.get (senConvOf n ch) = 0 ∨ slotOut n q s then none
  else some (physical (s.geti (SENSE_CHk_COR_COR n ch)) (s.getF (SENSE_CHk_SCALE_SCALE n ch)))

/-- Modulator-path value of slot `q`, `none` without a valid modulator input. -/
def slotM (n q : Nat) (s : State) : Option F32 :=
  let i := s.get (SENSE_Qq_CFG_MODIN n q)
  if slotHasMod n q s then
    some (physical (s.geti (MOD_INi_COR_COR n i)) (s.getF (MOD_INi_SCALE_SCALE n i)))
  else none

/-- Whether the two values of slot `q` fail the path check (R76, R90). -/
def pathFails (n q : Nat) (xc xm : F32) (s : State) : Bool :=
  let lim := F32.add (s.getF (SENSE_Qq_PL_ABS_ABS n q)) (F32.mul (s.getF (SENSE_Qq_PL_REL_REL n q)) (F32.abs xm))
  (decide (q < 4) && s.flag (senClip n (s.get (SENSE_Qq_CFG_CH n q)))) || F32.lt lim (F32.abs (F32.sub xc xm))

/-- A period in which slot `q` is not checked breaks its runs of failing and of passing periods (R92, R99). -/
def slotUnchecked (n q : Nat) (s : State) : State := (s.set (SENSE_Qq_PL_STAT_RUN n q) 0).set (senRet n q) 0

/-- Count one check of slot `q`; `PL_LIMIT` failures in a row latch it (R91, R92, R99). -/
def slotCount (n q : Nat) (fail : Bool) (s : State) : State :=
  let f := SENSE_Qq_PL_STAT_RUN n q
  if fail then
    let first := !s.flag (senFailing n q)
    let s := (((s.inc (SENSE_Qq_PL_STAT_FAILS n q)).inc f).set (senRet n q) 0).set (senFailing n q) 1 |>.when first (raiseStall n 0x20)
    if s.get (SENSE_Qq_CFG_PL_LIMIT n q) ≤ s.get f ∧ !s.flag (senLatched n q) then
      let c := s.get (senConvOf n (s.get (SENSE_Qq_CFG_CH n q)))
      let s := (s.set (senLatched n q) 1).set (senLconv n q) c
      let s := raiseStallFault n 1 1 .ride (raiseStall n 0x21 (s.set (SENSE_Qq_CFG_PATH n q) 1))
      s.when (c != 0) (requestCheck n (c - 1) (2 ^ q))
    else s
  else
    let s := (s.set f 0).set (senFailing n q) 0
    s.when (s.flag (senLatched n q)) (fun s => s.set (senRet n q) (min 1024 (s.get (senRet n q) + 1)))

/-- Slot `q` takes value `x` on path `path`. -/
def slotTake (n q path : Nat) (subst : Bool) (x : F32) (s : State) : State :=
  let s := ((s.setF (senQVal n q) x).set (SENSE_Qq_CFG_VALID n q) 1).setB (SENSE_Qq_CFG_SUBST n q) subst
  (s.set (SENSE_Qq_CFG_PATH n q) path).set (senQAt n q) (s.get (senTrigAt n) + 1)

/-- Slot `q` has no value. -/
def slotNone (n q : Nat) (s : State) : State :=
  ((s.set (SENSE_Qq_CFG_VALID n q) 0).set (SENSE_Qq_CFG_SUBST n q) 0).set (SENSE_Qq_CFG_PATH n q) 3

/-- Evaluate slot `q` in a period, lost paths left with `VALID` 0 and `PATH` 3 (R90 to R92). A slot that R90 leaves unchecked counts no
failure, a clipped sample of R76 included (log entry 77). -/
def slotEval (n q : Nat) (s : State) : State :=
  let xc := slotC n q s
  let xm := slotM n q s
  let was := s.flag (senLatched n q)
  let u := slotUnchecked n q s
  match xc, xm with
  | some c, some m =>
    if s.get (SENSE_Qq_CFG_PL_LIMIT n q) = 0 then (if was then slotTake n q 1 true m u else slotTake n q 0 false c u)
    else
      let fail := pathFails n q c m s
      let s := slotCount n q fail s
      if was || s.flag (senLatched n q) then slotTake n q 1 true m s
      else if fail then slotTake n q 0 true m s
      else slotTake n q 0 false c s
  | some c, none => if was then slotNone n q u else slotTake n q 0 false c u
  | none, some m => slotTake n q 1 true m u
  | none, none => slotNone n q u

/-- Whether slot `q` has a value from a path of its own in this period. -/
def slotHas (n q : Nat) (s : State) : Bool := s.flag (SENSE_Qq_CFG_VALID n q) && decide (s.get (SENSE_Qq_CFG_PATH n q) < 2)

/-- A phase current without a path is derived where R100 allows it; otherwise cause 0x06. `before` is `PATH` before the period. -/
def slotLost (n q before : Nat) (s : State) : State :=
  if s.get (SENSE_Qq_CFG_PATH n q) ≠ 3 then s
  else
    let a := (q + 1) % 3
    let b := (q + 2) % 3
    if q < 3 ∧ s.flag (SENSE_CTRL_DERIVE_EN n) ∧ slotHas n a s ∧ slotHas n b s then
      let x := F32.neg (F32.add (s.getF (senQVal n (min a b))) (s.getF (senQVal n (max a b))))
      let s := (slotTake n q 2 false x s)
      s.when (before != 2) (raiseStallFault n 1 5 .ride)
    else s.when (decide (q < 4) && before != 3) (raiseStallFault n 1 6 .stallSafe)

/-- The phase currents of the last trigger are kept with it, the newest 8 (R293). -/
def slotsKeep (n : Nat) (s : State) : State :=
  let k := s.get (senHistN n)
  let s := (s.set (senHistAt n k) (s.get (senTrigAt n) + 1)).set (senHistN n) (k + 1)
  s.each [0, 1, 2] (fun q s => s.setF (senHistQ n k q) (s.getF (senQVal n q)))

/-- Value of slot `q` at the last trigger where no engine evaluates it (R73, R90 to R92): the path a latch leaves, else the converter's,
else the modulator's (log entry 113). -/
def slotAlone (n q : Nat) (s : State) : Option F32 :=
  if s.flag (senLatched n q) then slotM n q s else (slotC n q s).orElse (fun _ => slotM n q s)

/-- The same, a slot Q2 that is derived included (R74). -/
def slotNow (n q : Nat) (s : State) : Option F32 :=
  if q = 2 ∧ s.flag (SENSE_Qq_CFG_DERIVE n 2) then
    (slotAlone n 0 s).bind (fun a => (slotAlone n 1 s).map (fun b => F32.neg (F32.add a b)))
  else slotAlone n q s

/-- The values of a trigger that no engine evaluates are taken as they are, validity and paths as they were (R291, R293, R397). -/
def slotsClose (n : Nat) (s : State) : State :=
  s.when (s.flag (senOpen n)) (fun s =>
    let l := (List.range 8).map (fun q => slotNow n q s)
    let s := s.each (List.range 8) (fun q s =>
      match (l[q]?).join with
      | some x => (s.setF (senQVal n q) x).set (senQAt n q) (s.get (senTrigAt n) + 1)
      | none => s)
    slotsKeep n (s.set (senOpen n) 0))

/-- Newest value of slot `q` with its trigger, ticks, plus 1: of the last trigger, or the last one that gave the slot a value. -/
def slotNewest (n q : Nat) (s : State) : Nat × F32 :=
  match (if s.flag (senOpen n) then slotNow n q s else none) with
  | some x => (s.get (senTrigAt n) + 1, x)
  | none => (s.get (senQAt n q), s.getF (senQVal n q))

/-- All slots of Stall `n` in one control period (R74, R90 to R92, R100). -/
def slotsEval (n : Nat) (s : State) : State :=
  let s := s.set (senOpen n) 0
  let before := (List.range 8).map (fun q => s.get (SENSE_Qq_CFG_PATH n q))
  let derive := s.flag (SENSE_Qq_CFG_DERIVE n 2)
  let s := s.each (List.range 8) (fun q s => if q = 2 ∧ derive then s else slotEval n q s)
  let s := s.when derive (fun s =>
    let x := F32.neg (F32.add (s.getF (senQVal n 0)) (s.getF (senQVal n 1)))
    let okk := s.flag (SENSE_Qq_CFG_VALID n 0) && s.flag (SENSE_Qq_CFG_VALID n 1)
    ((slotTake n 2 0 false x s).setB (SENSE_Qq_CFG_VALID n 2) okk))
  slotsKeep n (s.each (List.range 8) (fun q s => if q = 2 ∧ derive then s else slotLost n q (before.getD q 0) s))

/-- PATH_RETURN (R99): a latched slot whose converter the spare replaced, after 1,024 passing periods. -/
def execPathReturn (n : Fin 4) (q : Fin 8) (s : State) : Out :=
  let c := s.get (senLconv n q)
  ok (s.when (s.flag (senLatched n q) && !s.flag (senPassed n q) && s.flag (SENSE_CTRL_AUTO_RETURN n) && s.get (senRet n q) == 1024 && c != 0 &&
      s.flag (SENSE_Cc_STAT_SPARE n (c - 1)) && !s.flag (SENSE_Cc_STAT_OUT n (c - 1)))
    (fun s => raiseStall n 0x22 (((s.set (senLatched n q) 0).set (senRet n q) 0).set (SENSE_Qq_CFG_PATH n q) 0)))

/-- Whether the channel of slot `q` is the sole entry of some converter's sequence (R74). -/
def slotSole (n q : Nat) (s : State) : Bool :=
  [0, 1, 2, 3].any (fun c => s.get (SENSE_Cc_SEQ_LEN n c) == 0 &&
    s.get (SENSE_Cc_SEQ_E n c) % 16 == s.get (SENSE_Qq_CFG_CH n q))

/-- R74: Q0, Q1, Q3, and Q2 unless it is derived, are converted at every trigger. -/
def slotsReady (n : Nat) (s : State) : Bool :=
  slotSole n 0 s && slotSole n 1 s && slotSole n 3 s && (s.flag (SENSE_Qq_CFG_DERIVE n 2) || slotSole n 2 s)

/-- The engines write the selects of the next trigger (R78). -/
def selectsNext (n : Nat) (s : State) : State :=
  s.each [0, 1, 2, 3] (fun c s =>
    let k := s.get (senNext n c)
    let k' := if s.get (SENSE_Cc_SEQ_LEN n c) ≤ k then 0 else k + 1
    (s.set (SENSE_Cc_SEL_CH n c) (bits (s.get (SENSE_Cc_SEQ_E n c)) (4 * k') 4)).set (senNext n c) k')

/-! ### System calibration (R102 to R108) -/

/-- Address of calibration record copy `k` of Stall `n` (R102). -/
def calAddr (n k : Nat) : Nat := 0xE8010000 + n * 0x800 + k * 0x400

/-- Whether a record copy is valid (R103). -/
def calCopyValid (n k : Nat) (s : State) : Bool :=
  let a := calAddr n k
  s.wordAt a == 0x5E45C000 + n && s.wordAt (a + 4 * 46) == crc32Words (s.wordsAt a 46) && s.wordAt (a + 4 * 47) == s.wordAt (a + 4)

/-- The newest valid copy (R103). -/
def calNewest (n : Nat) (s : State) : Option Nat :=
  match calCopyValid n 0 s, calCopyValid n 1 s with
  | true, true => some (if s.wordAt (calAddr n 0 + 4) < s.wordAt (calAddr n 1 + 4) then 1 else 0)
  | true, false => some 0
  | false, true => some 1
  | false, false => none

/-- Gain and offset fields of calibration channel `j`: 0 to 15 analog, 16 to 21 modulator inputs. -/
def calGain (n j : Nat) : Fld := if j < 16 then SENSE_CHk_UG_UG n j else MOD_INi_UG_UG n (j - 16)
def calOffset (n j : Nat) : Fld := if j < 16 then SENSE_CHk_UO_UO n j else MOD_INi_UO_UO n (j - 16)

/-- Word numbers of channel `j`'s gain and offset in a record (R103). -/
def calWordG (j : Nat) : Nat := if j < 16 then 2 + j else 34 + (j - 16)
def calWordO (j : Nat) : Nat := if j < 16 then 18 + j else 40 + (j - 16)

/-- Load every UG and UO from the newest valid record, or the reset values (R89). -/
def calLoad (n : Nat) (s : State) : State :=
  match calNewest n s with
  | some k =>
    let s := s.set (SENSE_CAL_STAT_VALID n) 1
    s.each (List.range 22) (fun j s =>
      (s.set (calGain n j) (s.wordAt (calAddr n k + 4 * calWordG j))).set (calOffset n j) (s.wordAt (calAddr n k + 4 * calWordO j)))
  | none =>
    let s := s.set (SENSE_CAL_STAT_VALID n) 0
    s.each (List.range 22) (fun j s => (s.set (calGain n j) 0x400000).set (calOffset n j) 0)

/-- Whether calibration channel `j` is in the run. -/
def calMasked (n j : Nat) (s : State) : Bool :=
  if j < 16 then bitAt (s.get (SENSE_CAL_CFG_MASK n)) j else bitAt (s.get (SENSE_CAL_CFG_MODMASK n)) (j - 16)

/-- Scale of calibration channel `j`. -/
def calScale (n j : Nat) (s : State) : F32 :=
  if j < 16 then s.getF (SENSE_CHk_SCALE_SCALE n j) else s.getF (MOD_INi_SCALE_SCALE n (j - 16))

/-- Whether a binary32 value can be calibrated with: not zero, infinite or NaN (R104). -/
def calUsable (x : F32) : Bool := F32.isFinite x && !F32.isZero x

/-- Preconditions of `RUN` (R104). -/
def calAllowed (n : Nat) (s : State) : Bool :=
  !switching n s && !loopRuns n s && s.flag (SENSE_CTRL_EN n) &&
    (s.get (SENSE_CAL_CFG_MODMASK n) == 0 || s.flag (MOD_CTRL_EN n)) &&
    (s.get (SENSE_CAL_CFG_MASK n) != 0 || s.get (SENSE_CAL_CFG_MODMASK n) != 0) &&
    decide (4 ≤ s.get (SENSE_CAL_CFG_AVG n)) && decide (s.get (SENSE_CAL_CFG_AVG n) ≤ 12) &&
    (List.range 22).all (fun j => !calMasked n j s || (calUsable (calScale n j s) && calUsable (s.getF (SENSE_CAL_FULLj_FULL n j))))

/-- Enter a wait phase (R105). -/
def calWait (n phase : Nat) (s : State) : State :=
  raiseStall n 0x27 ((s.set (SENSE_CAL_STAT_PHASE n) phase).set (calWaitAt n) s.now)

/-- CAL_RUN (R104). -/
def execCalRun (n : Fin 4) : State → Out :=
  stallWrite n (fun s => ok (s.cmdStart (calCmd n) 1 (calAllowed n s) stBusy (calWait n 1) (raiseStall n 0x26)))

/-- A write of `SENSE_CAL_STEP` (R105). -/
def calStep (n v : Nat) (s : State) : State :=
  let ph := s.get (SENSE_CAL_STAT_PHASE n)
  if (v = 1 ∧ ph = 1) ∨ (v = 2 ∧ ph = 3) then
    busOk (((s.set (SENSE_CAL_STEP_STEP n) v).set (SENSE_CAL_STAT_PHASE n) (ph + 1)).set (calWaitAt n) s.now)
  else busErr s

/-- Length of a capture in ticks: N x 2^AVG / 4 µs over N analog channels (R105). -/
def captureTicks (n : Nat) (s : State) : Nat := popCount 16 (s.get (SENSE_CAL_CFG_MASK n)) * 2 ^ s.get (SENSE_CAL_CFG_AVG n) * 50

/-- ZERO_APPLIED (R105). -/
def execZeroApplied (n : Fin 4) : State → Out := stallWrite n (fun s => ok (calStep n 1 s))

/-- FULL_APPLIED (R105). -/
def execFullApplied (n : Fin 4) : State → Out := stallWrite n (fun s => ok (calStep n 2 s))

/-- Gain and offset of channel `j` from the means `a0`, `a1` (1/16 LSB), or the failure cause of R107. -/
def calCompute (n j : Nat) (a0 a1 : Int) (s : State) : Except Nat (Int × Int) :=
  let num := F32.val (s.getF (SENSE_CAL_FULLj_FULL n j)) * 16
  let den0 := F32.val (calScale n j s) * (a1 - a0)
  let num := if den0 < 0 then -num else num
  let den := den0.natAbs
  let uo := divRound (-(num * a0)) den
  if (a1 - a0).natAbs < 256 * 16 then .error 3
  else if 4 * num < den ∨ 15 * (den : Int) < 4 * num then .error 4
  else if (524288 * 16 : Int) < uo ∨ uo < -(524288 * 16 : Int) then .error 5
  else .ok (divRound (num * 2 ^ 22) den, clampS 24 uo)

/-- Phase 5: compute and check every masked channel; the first failure in channel order ends the run (R105 to R107). -/
def calComputeAll (n : Nat) (means : List (BitVec 24)) : List Nat → State → State
  | [], s => s.set (SENSE_CAL_STAT_PHASE n) 6
  | j :: r, s =>
    if calMasked n j s then
      match calCompute n j (s.geti (calA0 n j)) (sext 24 (means.getD j 0).toNat) s with
      | .error e => calFail n e s
      | .ok (g, o) => calComputeAll n means r ((s.seti (calUg n j) g).seti (calUo n j) o)
    else calComputeAll n means r s

/-- CAPTURE_DONE (R105 to R107): a capture has lasted its time; means of FG x raw + FO in 1/16 LSB and spreads in LSB, one of each a calibration channel. -/
def execCaptureDone (n : Fin 4) (means : List (BitVec 24)) (spreads : List (BitVec 20)) (s : State) : Out :=
  let wide := (List.range 22).any (fun j => calMasked n j s && decide (2048 < (spreads.getD j 0).toNat))
  let ph := s.get (SENSE_CAL_STAT_PHASE n)
  ok <|
    if s.now < s.get (calWaitAt n) + captureTicks n s then s
    else if ph = 2 then
      (if wide then calFail n 2 s
       else calWait n 3 (s.each (List.range 22) (fun j s => s.set (calA0 n j) (means.getD j 0).toNat)))
    else if ph = 4 then
      (if wide then calFail n 2 s else calComputeAll n means (List.range 22) (s.set (SENSE_CAL_STAT_PHASE n) 5))
    else s

/-- CAL_WAIT_TIMEOUT (R105, R107): a wait longer than 60 s. -/
def execCalWaitTimeout (n : Fin 4) (s : State) : Out :=
  let ph := s.get (SENSE_CAL_STAT_PHASE n)
  ok (s.when ((ph == 1 || ph == 3) && decide (s.get (calWaitAt n) + 12000000000 < s.now)) (calFail n 1))

/-- The words of the new record (R103, R108): sequence number `sq`, masked channels from the run, the others as loaded. -/
def calRecord (n sq : Nat) (s : State) : List Nat :=
  let old := calNewest n s
  let g := fun j => if calMasked n j s then s.get (calUg n j) else
    match old with | some k => s.wordAt (calAddr n k + 4 * calWordG j) | none => 0x400000
  let o := fun j => if calMasked n j s then s.get (calUo n j) else
    match old with | some k => s.wordAt (calAddr n k + 4 * calWordO j) | none => 0
  let w := [0x5E45C000 + n, sq] ++ (List.range 16).map g ++ (List.range 16).map o ++
    ((List.range 6).map (fun i => g (16 + i))) ++ (List.range 6).map (fun i => o (16 + i))
  w ++ [crc32Words w, sq]

/-- The copy a commit writes, and its sequence number (R108). -/
def calTarget (n : Nat) (s : State) : Nat × Nat :=
  match calNewest n s with
  | some k => (1 - k, (s.wordAt (calAddr n k + 4) + 1) % 2 ^ 32)
  | none => (0, 1)

/-- The closing word of the new record is written: its values load, and the run ends with a status (R108). -/
def calCommit (n st : Nat) (s : State) : State :=
  let (k, sq) := calTarget n s
  calEnd n st (calLoad n ((s.putWords (calAddr n k) (calRecord n sq s)).inc (LEDGER_LIVE_w_W 68)))

/-- CAL_COMMIT_DONE (R107, R108): the closing word is written (`good`), or the non-volatile write failed. A commit that does not reach its
closing word leaves the older copy as it was (log entry 78). -/
def execCalCommitDone (n : Fin 4) (good : Bool) (s : State) : Out :=
  ok (s.when (s.get (SENSE_CAL_STAT_PHASE n) == 6 && s.busy (calCmd n)) (fun s => if good then calCommit n stDone s else calFail n 7 s))

/-- An abort of a run (R108): in the commit it meets the closing word written or not, a free choice (log entry 64). -/
def calAbort (n : Nat) (s : State) : State :=
  if s.get (SENSE_CAL_STAT_PHASE n) = 6 ∧ bitAt (Config.fresh s.freeCount).toNat 0 then calCommit n stTooLate s.draw
  else calEnd n stAborted (s.when (s.get (SENSE_CAL_STAT_PHASE n) == 6) State.draw)

/-- A reset meets a run that commits: the older copy is as it was, invalid without its closing word, or valid with the new values, a free
choice (R108; log entry 64). -/
def calReset (n : Nat) (s : State) : State :=
  if s.get (SENSE_CAL_STAT_PHASE n) = 6 ∧ s.busy (calCmd n) then
    let (k, sq) := calTarget n s
    let w := calRecord n sq s
    match (Config.fresh s.freeCount).toNat % 3 with
    | 0 => s.draw
    | 1 => (s.putWords (calAddr n k) (w.take 47 ++ [(sq + 1) % 2 ^ 32])).draw
    | _ => (s.putWords (calAddr n k) w).draw
  else s

end Sys2Proof.Machine
end

