-- ==== Sys2Proof/Machine/Junction.lean ====
section
/-!
DEFINITION. Temperatures of the power stage: the junction-temperature estimator (R293, R294), the NTC conversion (R295), the trips
of R298 and the derating factor (R296).
-/

namespace Sys2Proof.Machine
open Reg

/-! ### NTC (R295, R298) -/

/-- Temperature of point `k` of the NTC table, 1/16 °C. -/
def ntcPoint (n k : Nat) (s : State) : Int :=
  if k % 2 = 0 then s.geti (PROT_NTC_TABk_T_EVEN n (k / 2)) else s.geti (PROT_NTC_TABk_T_ODD n (k / 2))

/-- The NTC temperature of a code, linear between the points at codes 273 k, to the nearest 1/16 °C. -/
def ntcTemp (n code : Nat) (s : State) : Int :=
  let k := min 14 (code / 273)
  let a := ntcPoint n k s
  a + divRound ((ntcPoint n (k + 1) s - a) * ((code : Int) - (273 * k : Nat))) 273

/-- A temperature code (°C plus 50) in 1/16 °C. -/
def tempCode (c : Nat) : Int := 16 * ((c : Int) - 50)

/-- Keep `PROT_NTC_h` of Stall `n`; a temperature that reaches its trip raises cause 0x31 (R298). -/
def ntcUpdate (n h : Nat) (s : State) : State :=
  let l := 3 * n + h
  let st := s.get (REIN_Lh_STAT_STATE l)
  let valid := (st == 3 || st == 4) && s.flag (reinNtcSeen l)
  let t := ntcTemp n (s.get (REIN_Lh_NTC_NTC l)) s
  let s := (s.setB (PROT_NTC_h_VALID n h) valid).when valid (fun s => s.seti (PROT_NTC_h_T n h) t)
  let hot := valid && decide (tempCode (s.get (PROT_TEMP_TRIP_NTC_TRIP n)) ≤ t)
  let was := s.flag (protNtcTrip n h)
  (s.setB (protNtcTrip n h) hot).when (hot && !was) (raiseStallFault n 5 0x31 .stallSafe)

/-! ### The estimator (R293, R294, R298) -/

/-- A temperature of 1/16 °C in binary32 °C. -/
def tempF (t : Int) : F32 := F32.ofRat t 16

/-- The junction temperature that an on-state voltage of `von` (2.5 mV units) gives at current magnitude `i` (R293). -/
def junctionTemp (n von : Nat) (i : F32) (s : State) : F32 :=
  let v := F32.ofRat ((von : Int) * 25) 10000
  let v0 := s.getF (PROT_TJ_V0_V n)
  let r := s.getF (PROT_TJ_R25_R n)
  let num := F32.sub (F32.sub v v0) (F32.mul r i)
  let den := F32.add (F32.mul v0 (s.getF (PROT_TJ_KV_K n))) (F32.mul (F32.mul r (s.getF (PROT_TJ_KR_K n))) i)
  F32.add (F32.ofInt 25) (F32.div num den)

/-- The estimate of switch `w` takes an accepted temperature (R293, R294, R298). -/
def junctionAccept (n w : Nat) (t : F32) (s : State) : State :=
  let old := s.getF (protTjF n w)
  let x := F32.add old (F32.div (F32.sub t old) (F32.ofInt (2 ^ s.get (PROT_TJ_CFG_TAU n))))
  let t16 := clampS 16 (F32.scaleNear x 16)
  let s := ((s.setF (protTjF n w) x).seti (PROT_TJ_s_T n w) t16).inc (PROT_TJ_CNT_ACC n)
  let s := (s.set (protTjAt n w) s.now).set (protTjAcc n w) (min 8 (s.get (protTjAcc n w) + 1))
  let s := s.when (s.get (protTjAcc n w) == 8) (fun s => s.set (PROT_TJ_s_VALID n w) 1)
  if s.flag (PROT_TJ_s_VALID n w) && decide (tempCode (s.get (PROT_TEMP_TRIP_TJ_TRIP n)) ≤ t16) then
    let was := s.get (protTjTrip n w)
    (s.set (protTjTrip n w) (min 3 (was + 1))).when (was == 2) (raiseStallFault n 5 0x30 .stallSafe)
  else s.set (protTjTrip n w) 0

/-- Corrected current of slot Q_h at the latest trigger at or before tick `t`: the last one's, or one of the newest 8 before it; 0 before any
(R293). -/
def currentAt (n h t : Nat) (s : State) : F32 :=
  if s.flag (senOpen n) && decide (s.get (senTrigAt n) ≤ t) then (slotNewest n h s).2 else
  let l := (List.range 8).filter (fun k => s.get (senHistAt n k) != 0 && decide (s.get (senHistAt n k) - 1 ≤ t))
  match l with
  | [] => F32.zero
  | k :: r => s.getF (senHistQ n (r.foldl (fun a b => if s.get (senHistAt n a) < s.get (senHistAt n b) then b else a) k) h)

/-- One on-state voltage sample of switch `w`, taken at tick `at_` (R250, R293). -/
def junctionSample (n w von at_ : Nat) (s : State) : State :=
  let h := w / 2
  let i := currentAt n h at_ s
  let forward := if w % 2 = 0 then F32.lt F32.zero i else F32.lt i F32.zero
  if F32.le (s.getF (PROT_TJ_IMIN_I n)) (F32.abs i) && (forward || s.flag (PROT_TJ_CFG_BIDIR n)) then
    let t := junctionTemp n von (F32.abs i) s
    let low := F32.sub (tempF (s.geti (PROT_NTC_h_T n h))) (F32.ofInt (s.get (PROT_TJ_CFG_BELOW n)))
    if (!s.flag (PROT_NTC_h_VALID n h) || F32.le low t) && F32.le t (F32.ofInt 250) then junctionAccept n w t s
    else s.inc (PROT_TJ_CNT_REJ n)
  else s

/-- TJ_AGE_TIMEOUT (R294): no accepted sample of switch `w` for `AGE` ms. -/
def execTjAgeTimeout (n : Fin 4) (w : Fin 6) (s : State) : Out :=
  ok (s.when (s.flag (PROT_TJ_s_VALID n w) && decide (s.get (protTjAt n w) + s.get (PROT_TJ_CFG_AGE n) * 200000 ≤ s.now)) (fun s =>
    let s := ((s.set (PROT_TJ_s_VALID n w) 0).set (protTjAcc n w) 0).set (protTjTrip n w) 0
    raiseStallFault n 5 0x32 .ride (raiseStall n 0x2A s)))

/-! ### Derating (R296) -/

/-- Temperature of switch `w` for derating: its estimate, or its leg's NTC temperature plus `NTC_OFS`. -/
def switchTemp (n w : Nat) (s : State) : Int :=
  if s.flag (PROT_TJ_s_VALID n w) then s.geti (PROT_TJ_s_T n w)
  else s.geti (PROT_NTC_h_T n (w / 2)) + 16 * (s.get (PROT_TJ_CFG_NTC_OFS n) : Int)

/-- The automatic factor in 1/256 at temperature `t` (1/16 °C), to the nearest 1/256. -/
def derateFactor (n : Nat) (t : Int) (s : State) : Nat :=
  let t0 := tempCode (s.get (PROT_DR_CFG_T0 n))
  let t1 := tempCode (s.get (PROT_DR_CFG_T1 n))
  let fmin : Int := s.get (PROT_DR_CFG_FMIN n)
  if t ≤ t0 then 256 else if t1 ≤ t then fmin.toNat
  else (256 - divRound ((256 - fmin) * (t - t0)) (t1 - t0).toNat).toNat

/-- The factor and the limit in force, from the automatic factor and the override (R296, R297). -/
def derateShow (n : Nat) (s : State) : State :=
  let mode := s.get (PROT_DR_OVR_MODE n)
  let f := if mode = 1 then s.get (PROT_DR_OVR_F n) else if mode = 2 then 256 else s.get (protDerAuto n)
  (s.set (PROT_DR_STAT_FACTOR n) f).setF (PROT_DR_LIMIT_I n) (F32.mul (F32.ofRat f 256) (s.getF (PROT_DR_IMAX_I n)))

/-- The automatic factor is formed anew (R296). -/
def derate (n : Nat) (s : State) : State :=
  let ts := (List.range 6).map (fun w => switchTemp n w s)
  let s := (s.set (protDerAuto n) (derateFactor n (ts.foldl max (ts.headD 0)) s)).set (protDerAt n) s.now
  derateShow n (s.setB (PROT_DR_STAT_NTC_FB n) ((List.range 6).any (fun w => !s.flag (PROT_TJ_s_VALID n w))))

/-- DERATE_TICK (R296, R297): every 1 ms. -/
def execDerateTick (n : Fin 4) (s : State) : Out := ok (s.when (decide (s.get (protDerAt n) + 200000 ≤ s.now)) (derate n))

/-- The estimates of Stall `n` count their accepted samples anew from an enable of the sampling (R294). -/
def junctionEnable (n : Nat) (s : State) : State := s.each (List.range 6) (fun w s => s.set (protTjAcc n w) 0)

end Sys2Proof.Machine
end

