-- ==== Sys2Proof/Machine/Rein.lean ====
section
/-!
DEFINITION. The Rein links (08_rein_link): link states, the downlink, uplink frames with the echo check and the error window, fault
patterns and link loss, training, and driver accesses. Links 0 to 11 belong to the Stalls, 12 and 13 to the AUX block (R273).

An uplink frame's bits are handed over by the command that reports it, as the receiver has recovered them (log entry 86); the downlink's
frames are formed here (R245 to R249).
-/

namespace Sys2Proof.Machine
open Reg

/-! ### Frames (R246 to R248, R251) -/

/-- CRC of the `k` bits of a covered field (R247). -/
def reinCrc (k v : Nat) : Nat := crcOfBits 8 0x2F 0xFF (bitsMSB k v) ^^^ 0xFF

/-- A downlink frame: start bit 0, type, tag, `k` payload bits, CRC, stop bit 1 (R246, R248); it has 18 + `k` bits. -/
def dnBits (typ tag k pay : Nat) : Nat :=
  let v := (typ * 16 + tag) * 2 ^ k + pay
  v * 2 ^ 9 + reinCrc (8 + k) v * 2 + 1

/-- Type, `SEQ` and payload words of an uplink frame (R251). -/
def upType (f : BitVec 96) : Nat := bits f.toNat 92 4
def upSeq (f : BitVec 96) : Nat := bits f.toNat 88 4
def upWord (f : BitVec 96) (i : Nat) : Nat := bits f.toNat (8 + 16 * (4 - i)) 16

/-- The covered field matches the CRC (R247). -/
def upCrcOk (f : BitVec 96) : Bool := reinCrc 88 (f.toNat / 256) == f.toNat % 256

/-- A frame of type `t` that the receiver accepts: a `STATUS` (1) or `REPLY` (2) frame with its CRC. -/
def upValid (t : Nat) (f : BitVec 96) : Bool := upType f == t && upCrcOk f

/-- The bits that 96 pairs of line levels carry, and whether a pair has no transition: low then high is a 1, high then low a 0 (R245). -/
def upBits (halves : BitVec 192) : BitVec 96 := BitVec.ofNat 96 ((List.range 96).foldl (fun v i => v + 2 ^ i * bits halves.toNat (2 * i) 1) 0)
def upBroken (halves : BitVec 192) : Bool := (List.range 96).any (fun i => bitAt halves.toNat (2 * i) == bitAt halves.toNat (2 * i + 1))

/-- Whether a frame is discarded for its format: a bit without a transition, or an unknown type (R246). -/
def upFormat (halves : BitVec 192) : Bool := upBroken halves || (upType (upBits halves) != 1 && upType (upBits halves) != 2)

/-! ### Links and groups -/

def reinCmd (g : Nat) : CmdReg := ⟨REIN_CMD_CODE g, REIN_CMD_STATUS g⟩
/-- A write to a register of link `l`'s own block: an error response while its Stall is being rewritten (R30). -/
def linkWrite (l : Nat) (f : State → Out) (s : State) : Out := if l < 12 then stallWrite (l / 3) f s else f s

def reinAccCmd (l : Nat) : CmdReg := ⟨REIN_Lh_ACC_CMD_CODE l, REIN_Lh_ACC_CMD_STATUS l⟩

/-- Group of a link and the links of a group (R267, R268). -/
def groupOf (l : Nat) : Nat := if l < 12 then l / 3 else 4
def groupLinks (g : Nat) : List Nat := if g < 4 then [3 * g, 3 * g + 1, 3 * g + 2] else [12, 13]

/-- State of a link (R266). -/
def linkState (l : Nat) (s : State) : Nat := s.get (REIN_Lh_STAT_STATE l)

/-- An event of a link: its Stall's event `i`, or `EV_AUX_REIN` (R271). -/
def linkEvent (l i : Nat) (s : State) : State := if l < 12 then raiseStall (l / 3) i s else raiseEvent 0x013 s

/-- Class of local cause `c` of link `l` (R271, R334). -/
def linkClass (l c : Nat) (s : State) : Cls :=
  if 4 ≤ c then .ride
  else if l < 12 then .stallSafe
  else if l = 12 ∧ s.flag (AUX_Ak_STAT_DEMAND 0) then .deviceSafe else .ride

/-- Local cause `c` of link `l`: its fault code; causes 0 to 3 of a half-bridge link set the power-stage fault latch (R271, R277). -/
def linkCause (l c : Nat) (s : State) : State :=
  let s := s.set (REIN_Lh_STAT_CAUSE l) c
  if l < 12 then
    let n := l / 3
    let h := l % 3
    let code := stallCode n 6 (0x10 * h + c)
    if c < 4 then psfSet n (0x20 + h) 0 (2 ^ h) 0 code (recordFault code .stallSafe s)
    else raiseFault code .ride s
  else raiseFault (yardCode 6 (0x70 + 8 * (l - 12) + c)) (linkClass l c s) s

/-! ### Driver accesses (R248, R252, R269) -/

/-- Whether the access in hand is one of `ACC_CMD`. -/
def accBusy (l : Nat) (s : State) : Bool := s.busy (reinAccCmd l)

/-- The access of `ACC_CMD` ends: every end raises `EV_REIN_ACC`. -/
def accEnd (l st : Nat) (s : State) : State :=
  linkEvent l 0x0F ((s.cmdEnd (reinAccCmd l) (if s.flag (reinReqLate l) then stTooLate else st)).set (reinReqLate l) 0)

/-- No access of link `l` is in hand, and no request of it waits. -/
def dropRequests (l : Nat) (s : State) : State :=
  { s.set (reinReq l) 0 with dn := s.dn.filter (fun f => !(f.link == l && (f.typ == 2 || f.typ == 3))) }

/-- A `WRITE` (typ 2) or `READ` (typ 3) is queued for the downlink. -/
def queueAccess (l typ addr data : Nat) (s : State) : State :=
  let tag := s.get (reinTagNext l)
  let s := ((s.set (reinReq l) 1).set (reinReqTag l) tag).set (reinTagNext l) (tag + 1)
  { s with dn := s.dn ++ [⟨l, typ, 2 ^ 24 * tag + 2 ^ 16 * addr + (if typ = 2 then data else 0)⟩] }

/-! ### Link states -/

/-- A link takes a state: its lines, its switches' statuses and its NTC follow; an access of `ACC_CMD` that can no longer be
answered ends `FAILED` (R244, R269, R280). -/
def setLink (l st : Nat) (s : State) : State :=
  let s := s.set (REIN_Lh_STAT_STATE l) st
  let gone := st == 0 || st == 1 || st == 5
  let s := s.when gone (dropRequests l)
  let s := s.when (gone && accBusy l s) (fun s => accEnd l stFailed ((s.set (REIN_Lh_ACC_RES_RESULT l) 0xF).set (REIN_Lh_ACC_RES_DATA l) 0))
  if l < 12 then refreshLines (l / 3) (s.now * 64) (reDecide (l / 3) (ntcUpdate (l / 3) (l % 3) s))
  else auxLine (l - 12) (s.now * 64) s

/-- A link enters `FAULT` (R256, R257): cause 0, with a decision wait until `wait` where it is not 0 (R284). -/
def linkFault (l wait : Nat) (s : State) : State :=
  let n := l / 3
  let h := l % 3
  let s := s.when (decide (l < 12)) (fun s =>
    (s.set (reinLines l) (bits (s.get (PWM_LINES_LINE n)) (2 * h) 2)).set (reinFaultNew l) 1)
  let s := s.when (decide (l < 12) && wait != 0) (fun s => (s.set (protWait n h) 1).set (protWaitEnd n h) wait)
  linkEvent l 0x0A (linkCause l 0 (setLink l 4 s))

/-! ### Training (R267) -/

/-- The training of a group ends once none of its links trains. -/
def trainCheck (g : Nat) (s : State) : State :=
  if s.busy (reinCmd g) && (groupLinks g).all (fun l => s.get (reinStep l) == 0) then
    let st := if s.flag (reinTrainLate g) then stTooLate
      else if (groupLinks g).all (fun l => linkState l s == 3) then stDone else stFailed
    (s.cmdEnd (reinCmd g) st).set (reinTrainLate g) 0
  else s

/-- A training step of link `l` fails with `TRAIN` value `c`: the link returns to `OFF` and raises cause 6. -/
def trainFail (l c : Nat) (s : State) : State :=
  let s := setLink l 0 ((s.set (reinStep l) 0).set (REIN_Lh_STAT_TRAIN l) c)
  trainCheck (groupOf l) (linkCause l 6 s)

/-- Link loss with local cause `c` (R258): a link that has locked is lost, in training too, which it then leaves (log entry 42). -/
def linkLoss (l c : Nat) (s : State) : State :=
  if 2 ≤ linkState l s ∧ linkState l s ≤ 4 then
    trainCheck (groupOf l) (linkEvent l 0x0B (linkCause l c ((setLink l 5 (s.set (reinStep l) 0)).set (REIN_Lh_STAT_LOSS_SEEN l) 1)))
  else s

/-- The next valid entry of the initialisation table from `j` on. -/
def initNext (g j : Nat) (s : State) : Option Nat :=
  firstBelow 128 (fun i => decide (j ≤ i) && s.flag (REIN_INITj_VALID g i))

/-- Step 4 at entry `j` or after it; without one, step 5. -/
def trainEntry (l j : Nat) (s : State) : State :=
  let g := groupOf l
  let s := s.set (reinStepAt l) s.now
  match initNext g j s with
  | some i => queueAccess l 2 (s.get (REIN_INITj_ADDR g i)) (s.get (REIN_INITj_DATA g i)) ((s.set (reinStep l) 3).set (reinInitJ l) i)
  | none => queueAccess l 2 1 1 (s.set (reinStep l) 5)

/-- Ticks that the present training step, or the entry in hand, may take (R267). -/
def trainBound (step : Nat) : Nat := if step = 2 then 2000 else if step ≤ 4 then 4000 else 2400

/-- The failure that a step's bound stands for (R267). -/
def trainMissed (step : Nat) : Nat := if step = 2 then 3 else if step ≤ 4 then 4 else 6

/-- A reply with `result` and `data` answers the training access of link `l`. -/
def trainReply (l result data : Nat) (s : State) : State :=
  let g := groupOf l
  let j := s.get (reinInitJ l)
  match s.get (reinStep l) with
  | 2 => if result = 1 ∧ data % 16 = 1 then trainEntry l 0 s else trainFail l 3 s
  | 3 => if result = 0 then queueAccess l 3 (s.get (REIN_INITj_ADDR g j)) 0 (s.set (reinStep l) 4) else trainFail l 4 s
  | 4 => if result = 1 ∧ data = s.get (REIN_INITj_DATA g j) then trainEntry l (j + 1) s else trainFail l 4 s
  | 5 => if result = 0 then s.set (reinStep l) 6 else trainFail l 6 s
  | _ => s

/-- Whether `START` and `STOP` of group `g` are accepted: the Stall neither switches nor is isolated, no AUX unit is enabled or held by a
demand (R267, R268). -/
def reinIdleGroup (g : Nat) (s : State) : Bool :=
  if g < 4 then s.get (PWM_STAT_STATE g) == 0
  else !([0, 1].any fun k => s.flag (AUX_Ak_CTRL_EN k) || s.flag (AUX_Ak_STAT_DEMAND k))

/-- Link `l` begins to train, unless it is ready (R267). -/
def trainStart (l : Nat) (s : State) : State :=
  if linkState l s = 3 then s
  else
    let s := setLink l 1 ((((s.set (reinStep l) 1).set (reinLock l) 0).set (reinSeq l) 0).set (REIN_Lh_STAT_TRAIN l) 0)
    (s.set (reinTrainAt l) s.now).set (reinDnAt l) s.now

/-- REIN_START (R267): every link of the group that is not ready is trained. -/
def execReinStart (g : Fin 5) (s : State) : Out :=
  linkWrite (3 * g) (fun s => ok (s.cmdStart (reinCmd g) 1 (reinIdleGroup g s) stBusy
    (fun s => trainCheck g (s.each (groupLinks g) trainStart)) id)) s

/-- REIN_STOP (R268): every link of the group goes to `OFF`. -/
def execReinStop (g : Fin 5) (s : State) : Out :=
  linkWrite (3 * g) (fun s => ok (s.cmdStart (reinCmd g) 2 (reinIdleGroup g s) stDone
    (fun s => s.each (groupLinks g) (fun l s => setLink l 0 (s.set (reinStep l) 0))) id)) s

/-- TRAIN_LOCK_TIMEOUT (R267): no lock within 200 us; `swapped` tells that the uplink decodes only with its pins exchanged. -/
def execTrainLockTimeout (l : Fin 14) (swapped : Bool) (s : State) : Out :=
  ok (s.when (s.get (reinStep l) == 1 && decide (s.get (reinTrainAt l) + 40000 ≤ s.now)) (trainFail l (if swapped then 2 else 1)))

/-- TRAIN_STEP_TIMEOUT (R267): a reply or `READY` has not come within its step's bound. -/
def execTrainStepTimeout (l : Fin 14) (s : State) : Out :=
  let st := s.get (reinStep l)
  ok (s.when (decide (2 ≤ st) && decide (s.get (reinStepAt l) + trainBound st ≤ s.now)) (trainFail l (trainMissed st)))

/-- An abort of a group's `START` (R267): accepted before the last link's step-5 `WRITE` ends. -/
def trainAbort (g : Nat) (s : State) : State :=
  let ended := fun l => s.get (reinStep l) == 0 || s.get (reinStep l) == 6 ||
    (s.get (reinStep l) == 5 && s.get (reinReq l) == 2 && decide (s.get (reinReqEnd l) ≤ s.now))
  if (groupLinks g).all ended then s.set (reinTrainLate g) 1
  else
    let s := s.each (groupLinks g) (fun l s => if s.get (reinStep l) = 0 then s else setLink l 0 (s.set (reinStep l) 0))
    s.cmdEnd (reinCmd g) stAborted

/-! ### The downlink (R248 to R250, R269) -/

/-- First tick of a bit boundary at or after tick `t` (R245). -/
def dnBoundary (t : Nat) : Nat := (t + 3) / 4 * 4

/-- Whether the link runs the full schedule of R249 (R266). -/
def fullSchedule (l : Nat) (s : State) : Bool := decide (3 ≤ linkState l s)

/-- Whether the `DN` pair of link `l` is held differential-low and sends nothing: under `EXTEST` (R472), and in a retest whose loop-back
tests its link (R464). -/
def dnHeld (l : Nat) (s : State) : Bool :=
  s.flag extestOn || (decide (l < 12) && s.get BIST_CMD_STATUS == stBusy && s.get BIST_CMD_CODE == 2 && bitAt (s.get bistMask) (l / 3) &&
    bitAt (s.get bistGrp) 4)

/-- Link `l` sends a frame whose start bit is at tick `t` (R245, R246, R248). -/
def dnSend (l typ tag k pay t : Nat) (s : State) : State :=
  let s := (s.set (reinDnF l typ) (dnBits typ tag k pay)).set (reinDnT l typ) (t + 1)
  (s.set (reinDnAt l) t).set (reinDnEnd l) (t + 4 * (18 + k))

/-- Instant of AUX unit `k`'s next zero: the first at the tick set by `EN`, then one period on (R236). -/
def auxNext (k : Nat) (s : State) : Nat :=
  if s.flag (auxRun k) then s.get (auxZeroAt k) + s.get (AUX_Ak_PER_PER_ACT k) else s.get (auxDue k) * 64

/-- The next load instant that concerns link `l`, fine steps (R205, R249). -/
def linkLoad (l : Nat) (s : State) : Option Nat :=
  if l < 12 then nextTrigger (l / 3) s
  else if s.flag (AUX_Ak_CTRL_EN (l - 12)) || s.flag (AUX_Ak_STAT_DEMAND (l - 12)) then some (auxNext (l - 12) s) else none

/-- Whether a frame of `k` payload bits other than `SEL` may start at tick `t`: at least two idle bits after the last one, and off the line
40 ns before the next load instant (R246, R249). -/
def dnMay (l k t : Nat) (s : State) : Bool :=
  !dnHeld l s && decide (s.get (reinDnEnd l) + 8 ≤ t) &&
    match linkLoad l s with
    | some z => decide ((t + 4 * (18 + k)) * 64 + 512 ≤ z)
    | none => true

/-- HEARTBEAT (R248, R249): no downlink frame has started for 20 us. The first carries count 0 (log entry 87). -/
def execHeartbeat (l : Fin 14) (s : State) : Out :=
  let t := dnBoundary s.now
  let c := s.get (reinHb l)
  ok (s.when (linkState l s != 0 && decide (s.get (reinDnAt l) + 4000 ≤ t) && dnMay l 8 t s)
    (fun s => dnSend l 0 0 8 c t (s.set (reinHb l) (c + 1))))

/-- The oldest frame of link `l` leaves the queue. -/
def dnPop (l : Nat) : List DnFrame → Option (DnFrame × List DnFrame)
  | [] => none
  | f :: r => if f.link = l then some (f, r) else (dnPop l r).map (fun p => (p.1, f :: p.2))

/-- Payload bits of a frame of type `typ` (R248). -/
def dnLen (typ : Nat) : Nat := if typ = 2 then 24 else 8

/-- A `CLEAR` frame is queued for link `l` (R259). -/
def queueClear (l : Nat) (s : State) : State := { s with dn := s.dn ++ [⟨l, 5, 0xA5⟩] }

/-- The queued frame `f` starts at tick `t`: a `CLEAR`, or an access, whose word holds tag, address and data (R248, R269). -/
def accessStart (f : DnFrame) (t : Nat) (s : State) : State :=
  if f.typ = 5 then dnSend f.link 5 0 8 f.load t s
  else
    let pay := if f.typ = 2 then f.load % 2 ^ 24 else bits f.load 16 8
    let s := dnSend f.link f.typ (f.load / 2 ^ 24) (dnLen f.typ) pay t s
    ((s.set (reinReq f.link) 2).set (reinReqStart f.link) t).set (reinReqEnd f.link) (t + 4 * (18 + dnLen f.typ))

/-- DOWNLINK_ACCESS_FRAME (R245, R249): at a bit boundary the oldest waiting `WRITE`, `READ` or `CLEAR` of the link starts, when the line is
free for it. -/
def execDownlinkAccessFrame (l : Fin 14) (s : State) : Out :=
  ok (s.when (decide (2 ≤ linkState l s) && s.now % 4 == 0) (fun s =>
    match dnPop l s.dn with
    | none => s
    | some (f, r) => if dnMay l (dnLen f.typ) s.now s then accessStart f s.now { s with dn := r } else s))

/-- A `SEL` frame with the selections `load` follows a load instant at `t`, and a `VSAMP` frame for switch `side` with delay `d`
where `vs` (R249). -/
def sendSel (l load t : Nat) (vs : Bool) (side d : Nat) (s : State) : State :=
  if fullSchedule l s && !dnHeld l s then
    let tag := (s.get (REIN_Lh_ECHO_EXP l) + 1) % 16
    let start := dnBoundary ((t + 64 + 63) / 64)
    let s := dnSend l 1 tag 8 load start (s.set (REIN_Lh_ECHO_EXP l) tag)
    let s := (s.set (reinSelT l tag) ((start + 104) * 64 + 1)).set (reinSelPay l tag) load
    -- two idle bits between the frames
    s.when vs (fun s => ((dnSend l 4 0 8 (128 * side + d) (start + 112) s).set (reinVsEnd l side) ((start + 216) * 64 + 1)).set (reinVsD l side) d)
  else s

/-- Whether `SEND` of link `l` is refused (R269). -/
def sendRefused (l : Nat) (s : State) : Bool :=
  let st := linkState l s
  let low := s.flag (REIN_Lh_ACC_WR l) && decide (s.get (REIN_Lh_ACC_ADDR l) < 0x80)
  let live := if l < 12 then switching (l / 3) s else s.flag (AUX_Ak_CTRL_EN (l - 12)) || s.flag (AUX_Ak_STAT_DEMAND (l - 12))
  st == 0 || st == 1 || st == 5 || s.busy (reinCmd (groupOf l)) || (low && live)

/-- SEND (R269). -/
def execSend (l : Fin 14) (s : State) : Out :=
  linkWrite l (fun s => ok (s.cmdStart (reinAccCmd l) 1 (!sendRefused l s) stBusy (fun s =>
    queueAccess l (if s.flag (REIN_Lh_ACC_WR l) then 2 else 3) (s.get (REIN_Lh_ACC_ADDR l)) (s.get (REIN_Lh_ACC_DATA l)) s)
    (linkEvent l 0x0F))) s

/-- ACCESS_TIMEOUT (R269): no reply within 10 us of the end of the request. -/
def execAccessTimeout (l : Fin 14) (s : State) : Out :=
  ok (s.when (s.get (reinReq l) == 2 && accBusy l s && decide (s.get (reinReqEnd l) + 2000 ≤ s.now)) (fun s =>
    let s := ((s.set (reinReq l) 0).set (REIN_Lh_ACC_RES_RESULT l) 0xF).set (REIN_Lh_ACC_RES_DATA l) 0
    accEnd l stFailed (linkCause l 7 s)))

/-- An abort of `SEND` (R269): accepted before the request's start bit. -/
def accAbort (l : Nat) (s : State) : State :=
  if s.get (reinReq l) = 1 then accEnd l stAborted (dropRequests l s)
  else s.set (reinReqLate l) 1

/-! ### Errors on the uplink (R270) -/

/-- Errors counted in the last 1 ms, of the newest 256. -/
def errSum (l : Nat) (s : State) : Nat :=
  let k := s.get (reinErrN l)
  ((List.range (min k 256)).filter (fun i => decide (s.now < s.get (reinErrAt l ((k - 1 - i) % 256)) + 200000))).length

/-- `k` more errors count in field `f` and in the window; a sum that rises above `LIMIT` raises cause 5 once (R270). -/
def linkErrors (l k : Nat) (f : Fld) (s : State) : State :=
  let lim := s.get (REIN_ERR_CFG_LIMIT (groupOf l))
  let high := s.flag (reinErrHigh l) && decide (lim < errSum l s)
  let s := (s.addSat f k).each (List.range k) (fun _ s =>
    let c := s.get (reinErrN l)
    (s.set (reinErrAt l (c % 256)) s.now).set (reinErrN l) (c + 1))
  let now := decide (lim < errSum l s)
  (s.setB (reinErrHigh l) now).when (now && !high) (fun s => linkEvent l 0x0C (linkCause l 5 s))

/-- UPLINK_FRAME_ERROR (R246, R247): a frame of a wrong format, or whose CRC does not match, is discarded and counted. -/
def execUplinkFrameError (l : Fin 14) (halves : BitVec 192) (s : State) : Out :=
  ok (s.when (linkState l s != 0 && (upFormat halves || !upCrcOk (upBits halves))) (fun s =>
    let s := s.when (s.get (reinStep l) == 1) (fun s => s.set (reinLock l) 0)
    let s := s.when (upFormat halves) (fun s => s.set (reinHunt l) (s.now + 8))
    linkErrors l 1 (if upFormat halves then REIN_Lh_ERR_FMT l else REIN_Lh_ERR_CRC l) s))

/-- Whether the receiver of link `l` takes a frame whose stop bit ends now, 98 bits after its start: the link is in use, and the start bit
followed the two idle bits that a frame of a wrong format lets it hunt for (R246). -/
def upOpen (l : Nat) (s : State) : Bool := linkState l s != 0 && decide (s.get (reinHunt l) + 392 ≤ s.now ∨ s.get (reinHunt l) = 0)

/-- The `SEQ` of a valid frame; the flag tells that it follows the previous one (R253). -/
def linkSeq (l sq : Nat) (s : State) : Bool × State :=
  let prev := s.get (reinSeq l)
  let missed := (sq + 32 - prev) % 16
  let s' := s.set (reinSeq l) (sq + 1)
  if prev = 0 then (false, s')
  else (missed == 0, s'.when (missed != 0) (linkErrors l missed (REIN_Lh_ERR_SEQ l)))

/-! ### The echo check (R254) -/

/-- Edges of kind `k` at or before instant `cap`, newest first: (instant, information). -/
def echoEdges (l cap k : Nat) (s : State) : List (Nat × Nat) :=
  ((List.range 4).map (fun j => (s.get (reinEAt l (4 * k + j)), s.get (reinEInfo l (4 * k + j))))).filter
    (fun e => e.1 != 0 && decide (e.1 - 1 ≤ cap))

/-- Whether the driver may have judged before edge `e`: its ball instant lies less than 250 ns before the frame's start bit. -/
def echoYoung (cap : Nat) (e : Nat × Nat) : Bool := decide (cap < e.1 - 1 + 3200)

/-- The edges of one kind that the check accepts: the newest, and the one before it where the newest is young. The flag tells that the edge
before it is not known. -/
def echoAccept (cap : Nat) (l : List (Nat × Nat)) : List (Nat × Nat) × Bool :=
  match l with
  | [] => ([], true)
  | e :: r => if echoYoung cap e then (e :: r.take 1, r.isEmpty) else ([e], false)

/-- The edges that may have been the most recent one, from all edges newest first, each marked where it is the newest of its kind: one edge of
each kind may be too young to have been seen. -/
def echoRecent (cap : Nat) : List ((Nat × Nat) × Bool) → List (Nat × Nat) × Bool
  | [] => ([], true)
  | (e, first) :: r => if first && echoYoung cap e then (e :: (echoRecent cap r).1, (echoRecent cap r).2) else ([e], false)

/-- `SEL` tags due at an edge; with a downlink error since that `SEL`, an older tag too: one that is neither due nor newer (R254). -/
def echoTags (l : Nat) (dnErr : Bool) (info : Nat) (s : State) : List Nat :=
  let tag := info / 4
  let prev := (tag + 15) % 16
  let due := match info % 4 with
    | 0 => [tag]
    | 1 => [prev]
    | 2 => [tag, prev]
    | _ => List.range 16
  let lost := dnErr || due.any (fun t => s.get (reinSelT l t) != 0 && decide (s.get (reinSelT l t) ≤ s.get (reinDnErrAt l)))
  let d := due.getLastD tag
  let newer := (s.get (REIN_Lh_ECHO_EXP l) + 16 - d) % 16
  if lost then due ++ (List.range (15 - newer)).map (fun j => (d + 15 - j) % 16) else due

/-- Insert an edge into a list held newest first. -/
def echoInsert (e : (Nat × Nat) × Bool) : List ((Nat × Nat) × Bool) → List ((Nat × Nat) × Bool)
  | [] => [e]
  | f :: r => if f.1.1 < e.1.1 then e :: f :: r else f :: echoInsert e r

/-- Edges of one kind, newest first, the newest marked. -/
def echoMark (l : List (Nat × Nat)) : List ((Nat × Nat) × Bool) := l.mapIdx (fun i e => (e, i == 0))

/-- Whether an echo word passes both checks, `none` before any edge; `cap` is the frame's start bit. -/
def echoPasses (l echo cap : Nat) (dnErr : Bool) (s : State) : Option Bool :=
  let kinds := (List.range 4).map (fun k => echoEdges l cap k s)
  let recent := echoRecent cap ((kinds.flatMap echoMark).foldl (fun a e => echoInsert e a) [])
  if recent.1.isEmpty then none
  else
    let tagOk := recent.2 || recent.1.any (fun e => (echoTags l dnErr e.2 s).contains (bits echo 12 4))
    let profOk := (List.range 4).all (fun k =>
      let c := echoAccept cap (kinds.getD k [])
      c.2 || c.1.any (fun e => e.2 % 4 == 3 || (echoTags l dnErr e.2 s).any (fun t =>
        bits (s.get (reinSelPay l t)) (6 - 2 * k) 2 == bits echo (6 - 2 * k) 2)))
    some (tagOk && profOk)

/-- The echo check of a `STATUS` frame (R254, R270). -/
def echoCheck (l echo : Nat) (dnErr : Bool) (s : State) : State :=
  match echoPasses l echo ((s.now - 392) * 64) dnErr s with
  | none => s
  | some true => s.set (reinEchoRun l) 0
  | some false =>
    let run := s.get (reinEchoRun l)
    let lim := if s.get (REIN_ERR_CFG_ECHO_N (groupOf l)) = 0 then 16 else s.get (REIN_ERR_CFG_ECHO_N (groupOf l))
    let s := (s.inc (REIN_Lh_ECHOERR_COUNT l)).set (reinEchoRun l) (min 31 (run + 1))
    let s := s.when (run == 0) (linkEvent l 0x0D)
    s.when (run + 1 == lim) (linkCause l 4)

/-! ### STATUS and REPLY frames (R250 to R253, R257 to R259) -/

/-- Whether the command line of switch `w` of link `l` was on at instant `t`: its newest edges up to `t` (R254). -/
def lineAt (l w t : Nat) (s : State) : Bool :=
  let newest := fun k => ((echoEdges l t k s).map (·.1)).foldl max 0
  decide (newest (2 * w + 1) < newest (2 * w))

/-- Whether the command line of switch `w` (0 high side, 1 low side) of link `l` was on when a `GMIS` that a `STATUS` frame reports arose:
for the frame that follows a fault, at the fault; else when the frame captured its flags (R251, R280). -/
def gmisOn (l w : Nat) (s : State) : Bool :=
  if s.flag (reinFaultNew l) then bitAt (s.get (reinLines l)) w else lineAt l w ((s.now - 392) * 64) s

/-- Switch `w` of Stall `n` is suspected: 1 shorted, which stands over 2, unavailable (R280, R281). -/
def mark (n w v : Nat) (s : State) : State := if s.get (protSus n w) = 1 then s else s.set (protSus n w) v

/-- What a `GMIS` flag that is set does to its switch; `was`: it was set in the frame before. A mark holds (R280, R281). -/
def gmisMark (l w : Nat) (was : Bool) (s : State) : State :=
  let i := 2 * (l % 3) + w
  if was && s.flag (protSus (l / 3) i) then s else mark (l / 3) i (if gmisOn l w s then 2 else 1) s

/-- Suspicions that the flags of a `STATUS` frame give, `old` those of the frame before (R280, R281): `DESAT` of one switch suspects its
partner; `GMIS` suspects its own switch while its line was off, and makes it unavailable while it was on. -/
def suspicions (l old fl : Nat) (s : State) : State :=
  let n := l / 3
  let h := l % 3
  let s := s.when (bitAt fl 11) (mark n (2 * h + 1) 1)
  let s := s.when (bitAt fl 7) (mark n (2 * h) 1)
  let s := s.when (bitAt fl 8) (gmisMark l 0 (bitAt old 8))
  (s.when (bitAt fl 4) (gmisMark l 1 (bitAt old 4))).set (reinFaultNew l) 0

/-- The registers that a `STATUS` frame updates (R253). -/
def statusRegs (l : Nat) (w : Nat → Nat) (s : State) : State :=
  let s := ((s.set (REIN_Lh_STAT_FLAGS l) (w 0)).set (REIN_Lh_NTC_NTC l) (w 2)).set (REIN_Lh_ECHO_ECHO l) (w 4)
  let s := s.set (reinNtcSeen l) 1
  let on := bits (w 3) 0 8
  let off := bits (w 3) 8 8
  let s := s.when (on != 0) (fun s => s.set (if bitAt (w 0) 1 then REIN_Lh_DLY_LS_ON l else REIN_Lh_DLY_HS_ON l) on)
  let s := s.when (off != 0) (fun s => s.set (if bitAt (w 0) 0 then REIN_Lh_DLY_LS_OFF l else REIN_Lh_DLY_HS_OFF l) off)
  s.when (bitAt (w 1) 14) (fun s =>
    let sw := bits (w 1) 15 1
    let s := (s.set (REIN_Lh_VON_SW l) sw).set (REIN_Lh_VON_VON l) (w 1)
    s.setWide (REIN_Lh_VON_TB_LO_TB l) (REIN_Lh_VON_TB_HI_TB l) (s.get (reinVonStamp l sw)))

/-- What a valid `STATUS` frame does to the link's state and training (R257 to R259, R267). -/
def statusState (l fl : Nat) (follows : Bool) (s : State) : State :=
  let fault := bitAt fl 15
  let step := s.get (reinStep l)
  if 2 ≤ linkState l s ∧ linkState l s ≤ 4 ∧ bitAt fl 2 then linkLoss l 3 s
  else if step ≠ 0 then
    if fault then trainFail l 5 s
    else if step = 1 then
      let k := if follows && s.get (reinLock l) != 0 then s.get (reinLock l) + 1 else 1
      if 8 ≤ k then queueAccess l 3 0 0 (setLink l 2 (((s.set (reinLock l) 8).set (reinStep l) 2).set (reinStepAt l) s.now))
      else s.set (reinLock l) k
    else if step = 6 ∧ bitAt fl 14 then
      trainCheck (groupOf l) (linkEvent l 0x0E (setLink l 3 (s.set (reinStep l) 0)))
    else s
  else if linkState l s = 3 ∧ fault then linkFault l 0 s
  else if linkState l s = 4 ∧ !fault ∧ bitAt fl 14 then
    linkEvent l 0x0E (setLink l 3 (s.when (decide (l < 12)) (fun s => s.set (protClr (l / 3) (l % 3)) 0)))
  else s

/-- The Logbook's `REIN` record (R383). -/
def reinRecord (l sq : Nat) (w : Nat → Nat) (s : State) : State :=
  let src := if l < 12 then l / 3 else 4
  let sub := if l < 12 then l % 3 else l - 12
  logWrite 5 3 src sub s.now ((List.range 5).flatMap (fun i => toBytes 2 (w i)) ++ toBytes 2 (sq + 0x10)) s

/-- A valid `STATUS` frame. -/
def statusFrame (l sq : Nat) (w : Nat → Nat) (s : State) : State :=
  let old := s.get (REIN_Lh_STAT_FLAGS l)
  let (follows, s) := linkSeq l sq s
  let dnErr := bitAt (w 0) 13
  let s := s.when dnErr (fun s => linkErrors l 1 (REIN_Lh_ERR_DNERR l) (s.set (reinDnErrAt l) (s.now * 64 + 1)))
  let s := statusRegs l w s
  let s := s.when (decide (l < 12)) (suspicions l old (w 0))
  let s := statusState l (w 0) follows s
  let s := echoCheck l (w 4) dnErr s
  let s := s.when (decide (l < 12)) (fun s =>
    let n := l / 3
    let s := ntcUpdate n (l % 3) ((s.set (protWait n (l % 3)) 0).set (protUnk n (l % 3)) 0)
    let s := reDecide n s
    let sw := bits (w 1) 15 1
    s.when (bitAt (w 1) 14) (junctionSample n (2 * (l % 3) + sw) (bits (w 1) 0 12) (s.get (reinVonStamp l sw))))
  let rec_ := s.flag LOGBOOK_CTRL_REIN && (bitAt (w 1) 14 || bits old 2 14 != bits (w 0) 2 14)
  s.when rec_ (reinRecord l sq w)

/-- STATUS_FRAME (R253). -/
def execStatusFrame (l : Fin 14) (h : BitVec 8) (w : BitVec 88) (s : State) : Out :=
  let f := h ++ w
  ok (s.when (upOpen l s && upValid 1 f) (fun s => statusFrame l (upSeq f) (upWord f) (s.set (reinFrameAt l) s.now)))

/-- A valid `REPLY` frame: the reply to the access in hand whose tag it carries (R252, R267, R269). -/
def replyFrame (l sq : Nat) (w : Nat → Nat) (s : State) : State :=
  let s := (linkSeq l sq s).2
  let result := bits (w 1) 8 4
  if s.get (reinReq l) = 2 ∧ s.get (reinReqTag l) = bits (w 1) 12 4 then
    let s := s.set (reinReq l) 0
    if accBusy l s then
      accEnd l (if result ≤ 1 then stDone else stFailed) ((s.set (REIN_Lh_ACC_RES_RESULT l) result).set (REIN_Lh_ACC_RES_DATA l) (w 2))
    else trainReply l result (w 2) s
  else s

/-- REPLY_FRAME (R252). -/
def execReplyFrame (l : Fin 14) (h : BitVec 8) (w : BitVec 88) (s : State) : Out :=
  let f := h ++ w
  ok (s.when (upOpen l s && upValid 2 f) (fun s => replyFrame l (upSeq f) (upWord f) (s.set (reinFrameAt l) s.now)))

/-! ### Fault pattern and loss (R256, R258) -/

/-- FAULT_PATTERN (R256): 160 ns without a transition, differential-low. The decision wait ends 3,000 ns after the last transition. In
training it is the driver's report of a fault (R267; log entry 42). -/
def execFaultPattern (l : Fin 14) (s : State) : Out :=
  let s := (s.set (REIN_Lh_STAT_PAT l) 1).set (REIN_Lh_STAT_PAT_SEEN l) 1
  ok (if s.flag (reinStep l) then trainFail l 5 s
    else s.when (linkState l s == 3 || linkState l s == 4) (linkFault l (s.now + 568)))

/-- REIN_PATTERN_END (R256). -/
def execReinPatternEnd (l : Fin 14) (s : State) : Out := ok (s.set (REIN_Lh_STAT_PAT l) 0)

/-- UPLINK_SILENCE (R258): 1 us without a transition, so none since the last valid frame. -/
def execUplinkSilence (l : Fin 14) (s : State) : Out := ok (s.when (decide (s.get (reinFrameAt l) + 200 ≤ s.now)) (linkLoss l 1))

/-- NO_FRAME_TIMEOUT (R258): 6 us since the last valid frame ended. -/
def execNoFrameTimeout (l : Fin 14) (s : State) : Out := ok (s.when (decide (s.get (reinFrameAt l) + 1200 ≤ s.now)) (linkLoss l 2))

end Sys2Proof.Machine
end

