-- ==== Sys2Proof/Machine/AuxUnits.lean ====
section
/-!
DEFINITION. The two AUX units (R236, R237): carriers, on-times, demands and the `AUX_EN` pin.
-/

namespace Sys2Proof.Machine
open Reg

/-- The demand on unit `k`: its on-time (R289, R290). -/
def auxDemand (k : Nat) (s : State) : Option Nat := if k = 0 then aux0Demand s else aux1Demand s

/-- The on-time in force of unit `k`. -/
def auxOnTime (k : Nat) (s : State) : Nat :=
  if s.flag (AUX_Ak_STAT_DEMAND k) then (auxDemand k s).getD (s.get (auxTon k)) else s.get (AUX_Ak_CMP_CMP_ACT k)

/-- First instant from `t` on at which line `k` may take level `on`: the interval it ends has lasted `MINP` (R210, R236). -/
def auxMay (k t : Nat) (on : Bool) (s : State) : Nat :=
  let o := s.get (auxOffAt k)
  if s.flag (AUX_Ak_STAT_LINE k) = on then t
  else if on then (if o = 0 then t else max t (o - 1 + s.get (AUX_Ak_CTRL_MINP k)))
  else max t (s.get (auxOnAt k) + s.get (AUX_Ak_CTRL_MINP k))

/-- Unit `k` calls for a level from instant `due` on; once that has come by instant `t`, its edge is placed there (R60, R62). -/
def auxCall (k due t : Nat) (on : Bool) (s : State) : State :=
  if due ≤ t then auxLine k (s.placeAt 4 due) ((s.setB (auxWant k) on).set (auxWait k) 0)
  else (s.set (auxWait k) (if on then 1 else 2)).set (auxWaitAt k) due

/-- Unit `k` calls for a level at instant `t`; an interval that has begun lasts `MINP` (R210, R236). -/
def auxGo (k t : Nat) (on : Bool) (s : State) : State := auxCall k (auxMay k t on s) t on s

/-- A change of line `k` that waits for `MINP` takes effect at its own instant, once instant `t` has reached it. -/
def auxDelayed (k t : Nat) (s : State) : State :=
  let w := s.get (auxWait k)
  if w = 0 then s else auxCall k (s.get (auxWaitAt k)) t (w == 1) s

/-- Unit `k` begins a period at instant `t`: shadows load, the line goes on for the on-time in force; an on-interval shorter than `MINP`
never starts, and one that has begun goes on (R210, R236). -/
def auxPeriod (k t : Nat) (s : State) : State :=
  let s := (s.set (AUX_Ak_PER_PER_ACT k) (s.get (AUX_Ak_PER_PER k))).set (AUX_Ak_CMP_CMP_ACT k) (s.get (AUX_Ak_CMP_CMP k))
  let s := (s.set (auxZeroAt k) t).set (auxRun k) 1
  let ton := auxOnTime k s
  let clamped := !s.flag (AUX_Ak_STAT_DEMAND k) && decide (s.get (AUX_Ak_PER_PER_ACT k) < s.get (AUX_Ak_CMP_CMP_ACT k))
  let was := s.flag (auxClampSeen k)
  let s := (s.setB (auxClampSeen k) clamped).when clamped (fun s =>
    (s.inc (AUX_Ak_CLAMP_COUNT k)).when (!was) (raiseEvent 0x011))
  auxGo k t (ton != 0 && (s.flag (AUX_Ak_STAT_LINE k) || decide (s.get (AUX_Ak_CTRL_MINP k) ≤ ton))) s

/-- AUX_ENABLE (R236): the first zero comes at least 64 ticks later. -/
def execAuxEnable (k : Fin 2) (s : State) : Out :=
  ok (busOk (if s.flag (AUX_Ak_CTRL_EN k) then s else brokenDrive ((s.set (AUX_Ak_CTRL_EN k) 1).set (auxDue k) (s.now + 64))))

/-- AUX_DISABLE (R236): the line goes off at once unless a demand holds the unit (R237). -/
def execAuxDisable (k : Fin 2) (s : State) : Out :=
  let s' := s.set (AUX_Ak_CTRL_EN k) 0
  ok (busOk (if !s.flag (AUX_Ak_CTRL_EN k) || s.flag (AUX_Ak_STAT_DEMAND k) then s'
    else auxLine k (s.now * 64) (((s'.set (auxWant k) 0).set (auxWait k) 0).set (auxRun k) 0)))

/-- The selection of a load instant `t` of unit `k` goes to its driver (R249). -/
def auxSel (k t : Nat) (s : State) : State :=
  let load := if k = 0 then 64 * s.get AUX_REIN_CFG_PON0 + 16 * s.get AUX_REIN_CFG_POFF0
    else 64 * s.get AUX_REIN_CFG_PON1 + 16 * s.get AUX_REIN_CFG_POFF1
  sendSel (12 + k) load t (s.flag AUX_REIN_CFG_VS_EN) 0 (s.get AUX_REIN_CFG_VS_D) s

/-- AUX_ZERO (R236, R249): a zero of unit `k`, at its own instant. -/
def execAuxZero (k : Fin 2) (fine : Fin 64) (s : State) : Out :=
  let t := auxNext k s
  ok (s.when ((s.flag (AUX_Ak_STAT_DEMAND k) || s.flag (AUX_Ak_CTRL_EN k)) && decide (t ≤ s.fineNow fine)) (fun s =>
    auxSel k t (auxPeriod k t ((auxDelayed k t s).set (auxFirst k) 0))))

/-- Instant from which the on-time in hand counts: the zero, or the turn-on in a demand's first period (R237). -/
def auxStart (k : Nat) (s : State) : Nat :=
  if s.flag (auxFirst k) then max (s.get (auxOnAt k)) (s.get (auxZeroAt k)) else s.get (auxZeroAt k)

/-- Whether unit `k` may go off at instant `t`: the off-interval up to its next zero is not bridged (R210, R236). -/
def auxGap (k t : Nat) (s : State) : Bool :=
  let z := s.get (auxZeroAt k) + s.get (AUX_Ak_PER_PER_ACT k)
  decide (t < z) && decide (t + s.get (AUX_Ak_CTRL_MINP k) ≤ z)

/-- AUX_ON_TIME_END (R236, R210): the line goes off at the end of its on-time unless the off-interval would be shorter than `MINP`. -/
def execAuxOnTimeEnd (k : Fin 2) (fine : Fin 64) (s : State) : Out :=
  let t := s.fineNow fine
  let s := auxDelayed k t s
  let due := auxStart k s + auxOnTime k s
  ok (s.when (s.flag (auxRun k) && s.flag (auxWant k) && decide (s.placeAt 4 due ≤ t) && auxGap k due s) (auxGo k due false))

/-- EV_AUX_DEMAND (R237): a demand's onset; a new period begins at once. -/
def execEvAuxDemand (k : Fin 2) (s : State) : Out :=
  ok <| match auxDemand k s with
    | some ton =>
      if s.flag (AUX_Ak_STAT_DEMAND k) then s
      else
        let s := (((s.set (AUX_Ak_STAT_DEMAND k) 1).inc (AUX_Ak_STAT_DEMANDS k)).set (auxTon k) ton).set (auxFirst k) 1
        auxSel k (s.now * 64) (auxPeriod k (s.now * 64) (raiseEvent 0x010 s))
    | none => s

/-- DEMAND_END (R237): off without `EN`; with it the software on-time applies within the present period, and the gap it opens is judged
(R210). A line already off stays off to the next zero, however long the software on-time (log entry 112). -/
def execDemandEnd (k : Fin 2) (s : State) : Out :=
  let t := s.now * 64
  ok <|
    if !s.flag (AUX_Ak_STAT_DEMAND k) || (auxDemand k s).isSome then s
    else
      let s := s.set (AUX_Ak_STAT_DEMAND k) 0
      if s.flag (AUX_Ak_CTRL_EN k) then
        (if auxStart k s + s.get (AUX_Ak_CMP_CMP_ACT k) ≤ t ∧ auxGap k t s then auxGo k t false s else s)
      else auxGo k t false (s.set (auxRun k) 0)

/-- The `AUX_EN` pin takes a level (R237). -/
def auxPin (b : Bool) (s : State) : State :=
  let s := (s.setB safAuxPin b).setB SYS_PINS_AUX_EN b
  s.each [0, 1] (fun k s => auxLine k (s.now * 64) (s.setB (AUX_Ak_STAT_PIN k) b))

/-- AUX_EN_FALL (R237). -/
def execAuxEnFall (s : State) : Out := ok (auxPin false s)

/-- AUX_EN_RISE (R259): `CLEAR` goes to Rein 12 and 13 where they are in `FAULT`. -/
def execAuxEnRise (s : State) : Out :=
  ok (if s.flag safAuxPin then s
    else (auxPin true s).each [12, 13] (fun l s => s.when (linkState l s == 4) (queueClear l)))

end Sys2Proof.Machine
end

