-- ==== Sys2Proof/Machine/Ledger.lean ====
section
/-!
DEFINITION. The Ledger (13_ledger_and_calendar): rainflow counting, energy, ripple and winding bands, records and their commit,
and the boot load. The calendar's commands are in Machine/Calendar.lean.
-/

namespace Sys2Proof.Machine
open Reg

/-! ### Rainflow (R394) -/

/-- The turning points on the stack of switch `k`, oldest first, 1/16 °C. -/
def rfStack (k : Nat) (s : State) : List Int :=
  (List.range (s.get (rfLen k))).map (fun i => sext 16 (bits (s.get (LEDGER_RF_STACK_s_PT k (i / 2))) (16 * (i % 2)) 16))

/-- Store a stack; unused points read 0x8000. -/
def setRfStack (k : Nat) (l : List Int) (s : State) : State :=
  (s.set (rfLen k) l.length).each (List.range 8) (fun w s =>
    let pt := fun i => match l[i]? with | some x => wrap 16 x | none => 0x8000
    s.set (LEDGER_RF_STACK_s_PT k w) (pt (2 * w) + 65536 * pt (2 * w + 1)))

/-- Number of the bounds that `x` reaches. -/
def bandUp (l : List Int) (x : Int) : Nat := (l.filter (fun b => decide (b ≤ x))).length

/-- Count `c` half cycles between turning points `a` and `b` of switch `k`. -/
def rfCount (k c : Nat) (a b : Int) (s : State) : State :=
  let r : Int := (a - b).natAbs
  if r < 32 then s
  else
    let d := bandUp [64, 128, 256, 512, 1024, 1536, 2048] r
    let m := bandUp [60 * 32, 100 * 32, 140 * 32] (a + b)
    s.addSat (LEDGER_LIVE_w_W (256 + 32 * k + 8 * m + d)) c

/-- The four-point rule on a stack held newest first: closed cycles are counted and removed; at most `f` times. -/
def rfClose (k : Nat) : Nat → List Int → State → List Int × State
  | 0, l, s => (l, s)
  | f + 1, d :: c :: b :: a :: r, s =>
    if (b - c).natAbs ≤ (a - b).natAbs ∧ (b - c).natAbs ≤ (c - d).natAbs then rfClose k f (d :: a :: r) (rfCount k 2 b c s)
    else (d :: c :: b :: a :: r, s)
  | _ + 1, l, s => (l, s)

/-- A new turning point of switch `k`. -/
def rfPush (k : Nat) (x : Int) (s : State) : State :=
  let l := rfStack k s
  let (l, s) := match l with
    | a :: b :: r => if 16 ≤ l.length then (b :: r, rfCount k 1 a b s) else (l, s)
    | _ => (l, s)
  let (l, s) := rfClose k 16 (x :: l.reverse) s
  setRfStack k l.reverse s

/-- The ranges between the turning points `l` of switch `k` count as half cycles. -/
def rfHalves (k : Nat) (l : List Int) (s : State) : State := (l.zip (l.drop 1)).foldl (fun s p => rfCount k 1 p.1 p.2 s) s

/-- The ranges left on the stack count as half cycles, and the stack empties. -/
def rfFlush (k : Nat) (s : State) : State := (setRfStack k [] (rfHalves k (rfStack k s) s)).set (rfDir k) 0

/-- A reset of the LEDGER block (R394): the ranges that `was` held on its stacks count in the counters that start from 0 (log entry 115). -/
def rfReset (was s : State) : State := s.each (List.range 24) (fun k s => rfHalves k (rfStack k was) s)

/-- One estimate of switch `k`: turning points with 1 °C hysteresis. -/
def rfSample (k : Nat) (x : Int) (s : State) : State :=
  let e := s.geti (rfExt k)
  match s.get (rfDir k) with
  | 0 => (s.set (rfDir k) 3).seti (rfExt k) x
  | 1 => if e < x then s.seti (rfExt k) x
         else if 16 ≤ e - x then ((rfPush k e s).set (rfDir k) 2).seti (rfExt k) x else s
  | 2 => if x < e then s.seti (rfExt k) x
         else if 16 ≤ x - e then ((rfPush k e s).set (rfDir k) 1).seti (rfExt k) x else s
  | _ => if 16 ≤ x - e then ((rfPush k e s).set (rfDir k) 1).seti (rfExt k) x
         else if 16 ≤ e - x then ((rfPush k e s).set (rfDir k) 2).seti (rfExt k) x else s

/-- RAINFLOW_TICK (R394): once per ms. -/
def execRainflowTick (s : State) : Out :=
  ok (s.when (dueAfter rfAt 200000 s) (fun s =>
    (s.set rfAt (s.now + 1)).each (List.range 24) (fun k s =>
      if s.flag (PROT_TJ_s_VALID (k / 6) (k % 6)) then rfSample k (s.geti (PROT_TJ_s_T (k / 6) (k % 6))) s
      else if s.get (rfDir k) = 0 then s else rfFlush k s)))

/-! ### Energy, ripple, winding and switching time (R393, R395 to R397) -/

/-- High-side on-time of half-bridge `h` in the active compare, fine steps (R206, R395). -/
def highTime (n h : Nat) (s : State) : Nat :=
  if bitAt (s.get (PWM_CTRL_CREF n)) h then period n s - refOn n h s else refOn n h s

/-- Add an energy in 2^-40 J to the counter of its direction, saturating (R395). -/
def energyAdd (n d e : Nat) (s : State) : State :=
  let x := s.get (ledEFrac n d) + e
  let lo := LEDGER_LIVE_w_W (14 + 2 * d + 4 * n)
  let hi := LEDGER_LIVE_w_W (15 + 2 * d + 4 * n)
  (s.set (ledEFrac n d) (x % 2 ^ 40)).setWide lo hi (min (2 ^ 64 - 1) (s.getWide lo hi + x / 2 ^ 40))

/-- One control period of Stall `n` in PWM state 2 (R395 to R397). -/
def ledgerPeriod (n : Nat) (s : State) : State :=
  let w := 4 + s.get (LEDGER_WIND_n_SLOT n)
  let s := s.when (s.flag (LEDGER_WIND_n_EN n) && s.get (senQAt n w) == s.get (senTrigAt n) + 1) (fun s =>
    let x := s.getF (senQVal n w)
    let m := if s.flag (ledWindOk n) then F32.max (s.getF (ledWindMax n)) x else x
    (s.setF (ledWindMax n) m).set (ledWindOk n) 1)
  let i := fun h => s.getF (senQVal n h)
  let v := s.getF (senQVal n 3)
  if s.get (PWM_STAT_STATE n) = 2 ∧ F32.isFinite (i 0) ∧ F32.isFinite (i 1) ∧ F32.isFinite (i 2) ∧ F32.isFinite v ∧ period n s ≠ 0 then
    let c : Nat → Int := fun h => highTime n h s
    let x := fun h => F32.val (i h)
    let dc := c 0 * x 0 + c 1 * x 1 + c 2 * x 2
    let samp := if sampOf n s = 3 then 2 else 1
    -- dc / P amperes times v volts times P / samp fine steps of 78.125 ps
    let e := divRound (dc * F32.val v * 78125 * 2 ^ 40) (2 ^ 298 * samp * 10 ^ 15)
    let s := if e < 0 then energyAdd n 1 e.natAbs s else energyAdd n 0 e.natAbs s
    let rms := ([0, 1, 2].map (fun a => ([0, 1, 2].map (fun b => min (c a) (c b) * x a * x b)).sum)).sum
    let p : Int := period n s
    let r := divRound ((rms * p - dc * dc) * 2 ^ 16) (p.toNat * p.toNat * 2 ^ 298)
    (s.set (ledRipSum n) (s.get (ledRipSum n) + r.toNat)).inc (ledRipN n)
  else s

/-- A control period of `t` fine steps ended in PWM state 2: switching time (R393). -/
def switchingTime (n t : Nat) (s : State) : State :=
  let x := s.get (ledSwFine n) + t
  (s.set (ledSwFine n) (x % 12800000000)).addSat (LEDGER_LIVE_w_W (10 + n)) (x / 12800000000)

/-- The bands of one second (R396, R397). -/
def secondBands (n : Nat) (s : State) : State :=
  let k := s.get (ledRipN n)
  let s :=
    if k = 0 then s
    else
      let thr := fun j => ((2 * bits (s.get LEDGER_RIPPLE_THR_R) (10 * j) 10) ^ 2 * 2 ^ 16 * k : Nat)
      let b := ([0, 1, 2].filter (fun j => decide (thr j ≤ s.get (ledRipSum n)))).length
      s.inc (LEDGER_LIVE_w_W (30 + 4 * n + b))
  let s :=
    if s.flag (ledWindOk n) then
      let t := fun j => F32.ofInt ((bits (s.get (LEDGER_WIND_n_T n)) (8 * j) 8 : Int) - 50)
      let b := ([0, 1, 2].filter (fun j => F32.le (t j) (s.getF (ledWindMax n)))).length
      s.inc (LEDGER_LIVE_w_W (46 + 4 * n + b))
    else s
  ((s.set (ledRipSum n) 0).set (ledRipN n) 0).set (ledWindOk n) 0

/-! ### Records and the commit (R401 to R405) -/

/-- Address of slot `k`. -/
def ledAddr (k : Nat) : Nat := 0xE0000000 + k * 0x1000

/-- Whether slot `k` is in the retired list. -/
def ledRetired (k : Nat) (s : State) : Bool :=
  (List.range (s.get LEDGER_RETIRED_COUNT)).any (fun i => bits (s.get (LEDGER_LIVE_w_W (76 + i / 2))) (16 * (i % 2)) 16 == k)

/-- The first slot from `k` on, in ascending order modulo 32,768, that is not retired; at most 64 are. -/
def ledNextSlot (s : State) : Nat → Nat → Nat
  | 0, k => k % 32768
  | f + 1, k => if ledRetired (k % 32768) s then ledNextSlot s f (k + 1) else k % 32768

/-- The page a new record carries besides the open one (R400). -/
def ledCarryPage (sq : Nat) (s : State) : Nat :=
  let p := s.get LEDGER_FLT_STAT_PAGE
  match (List.range 63).find? (fun i => s.flag (ledDirty ((p + 63 - i) % 64))) with
  | some i => (p + 63 - i) % 64
  | none => (p + 127 - sq % 63) % 64

/-- The body of the record, every word but 127, goes into the target slot, which holds no valid record until word 127 follows (R402, R403;
log entry 94). -/
def ledBody (s : State) : State :=
  let a := ledAddr (s.get ledSlot)
  ((s.putWords a (s.ledSnap.take 127)).putWords (a + 512) (s.ledSnap.drop 128)).set ledAt s.now

/-- Word `w` of the record that a commit of a kind would take now, but for words 126 and 127 (R401, R403). -/
def ledWord (kind w : Nat) (s : State) : Nat :=
  let sq := (s.get LEDGER_SEQ_SEQ + 1) % 2 ^ 32
  let p := s.get LEDGER_FLT_STAT_PAGE
  let c := ledCarryPage sq s
  if w = 0 then 0x1ED6E400
  else if w = 1 then sq
  else if w = 2 then s.get LEDGER_CAL_SEC_LO_SEC
  else if w = 3 then s.get LEDGER_CAL_STAT_VALID + (if kind = 3 then 2 else 0) + 4 * s.get ledFirst + (if kind = 2 ∨ kind = 4 then 8 else 0)
  else if w = 4 then s.now % 2 ^ 32
  else if w = 5 then s.now / 2 ^ 32 % 2 ^ 32
  else if w = 6 then p + 256 * s.get LEDGER_FLT_STAT_FILL + 65536 * c
  else if w = 7 then s.get LEDGER_RETIRED_COUNT
  else if w < 128 ∨ 256 ≤ w then s.get (LEDGER_LIVE_w_W w)
  else if w < 192 then s.get (LEDGER_PAGE_p_W p (w - 128))
  else s.get (LEDGER_PAGE_p_W c (w - 192))

/-- A commit of a kind starts: the snapshot, the sequence number, the target slot (R402, R403). -/
def ledStart (kind : Nat) (s : State) : State :=
  let sq := (s.get LEDGER_SEQ_SEQ + 1) % 2 ^ 32
  let slot := if s.flag LEDGER_STAT_NEW then ledNextSlot s 64 0 else ledNextSlot s 64 (s.get LEDGER_STAT_SLOT + 1)
  let p := s.get LEDGER_FLT_STAT_PAGE
  let c := ledCarryPage sq s
  let head := (List.range 126).map (fun w => ledWord kind w s)
  let tail := (List.range 896).map (fun w => ledWord kind (128 + w) s)
  let s := ((s.set ledKind kind).set ledTry 0).set ledSlot slot
  let s := ((s.set ledCarried c).set (ledUncSnap 0) (s.get (ledUncarried p))).set (ledUncSnap 1) (s.get (ledUncarried c))
  let s := ((s.set (ledDirty p) 0).set (ledDirty c) 0).set ledFirst 0
  ledBody { s with ledSnap := head ++ [crc32Words (head ++ tail), sq] ++ tail }

/-- LEDGER_AUTO_COMMIT (R396, R397, R402, R403): once at every `TB_NOW` that is a whole second. -/
def execLedgerAutoCommit (s : State) : Out :=
  ok <|
    if s.flag TB_STATUS_LANTERN ∨ s.get resetHeld ≠ 0 ∨ s.now % 200000000 ≠ 0 ∨ s.get ledSecAt = s.now + 1 then s
    else
      let s := ((s.set ledSecAt (s.now + 1)).each [0, 1, 2, 3] secondBands).inc (LEDGER_LIVE_w_W 8)
      if !s.flag LEDGER_STAT_LOADED then s
      else if s.get ledKind ≠ 0 then s.inc LEDGER_CNT_SKIPS
      else ledStart 1 s

def ledgerCmd : CmdReg := ⟨LEDGER_CMD_CODE, LEDGER_CMD_STATUS⟩

/-- COMMIT (R403). -/
def execCommit (s : State) : Out :=
  ok (s.cmdStart ledgerCmd 1 (s.get ledKind == 0 && s.flag LEDGER_STAT_LOADED) stBusy (ledStart 2) id)

/-- The running commit ends with a status (R402 to R404). -/
def ledEnd (st : Nat) (s : State) : State :=
  let byCmd := s.get ledKind == 2
  let s := { (s.set ledKind 0).set LEDGER_STAT_LAST st with ledSnap := [] }
  s.when byCmd (fun s => s.cmdEnd ledgerCmd st)

/-- The snapshot's pages count as changed again when its commit does not happen. -/
def ledUndo (s : State) : State := (s.set (ledDirty (bits (s.ledSnap.getD 6 0) 0 6)) 1).set (ledDirty (s.get ledCarried)) 1

/-- Retire slot `k` (R404). -/
def ledRetire (k : Nat) (s : State) : State :=
  let c := s.get LEDGER_RETIRED_COUNT
  if 64 ≤ c then s
  else
    let f := LEDGER_LIVE_w_W (76 + c / 2)
    let old := if c % 2 = 0 then 0xFFFFFFFF else s.get f
    let s := (s.set f (putBits old (16 * (c % 2)) 16 k)).set LEDGER_RETIRED_COUNT (c + 1)
    s.when (c + 1 == 48) (fun s => raiseEvent 0x2D (raiseFault 0x0A02 .ride s))

/-- Word 127 of the record is programmed: the commit point (R402). -/
def ledClose (s : State) : State := s.putWord (ledAddr (s.get ledSlot) + 508) (s.ledSnap.getD 127 0)

/-- The commit with what follows it, its command ending with `st` (R402). -/
def ledCommit (st : Nat) (s : State) : State :=
  let p := bits (s.ledSnap.getD 6 0) 0 6
  let c := s.get ledCarried
  let s := ledClose s
  let s := ((s.set LEDGER_SEQ_SEQ (s.ledSnap.getD 1 0)).set LEDGER_STAT_SLOT (s.get ledSlot)).set LEDGER_STAT_NEW 0
  let s := s.set (ledUncarried p) (s.get (ledUncarried p) - s.get (ledUncSnap 0))
  let s := s.when (c != p) (fun s => s.set (ledUncarried c) (s.get (ledUncarried c) - s.get (ledUncSnap 1)))
  raiseEvent 0x2B (ledEnd st s)

/-- Ticks the running commit has taken since its start, or since the retry's. -/
def ledAge (s : State) : Nat := s.now - s.get ledAt

/-- EV_LEDGER_COMMIT (R402, R404): word 127 is programmed and verified, at least 1.101 ms after the start, or (`good` false) a mismatch is
met in a verification, the first of which ends at least 1.1 ms after it. -/
def execEvLedgerCommit (good : Bool) (s : State) : Out :=
  ok <|
    if s.get ledKind = 0 ∨ ledAge s < (if good then 220200 else 220000) then s
    else if good then ledCommit stDone s
    else
      let slot := s.get ledSlot
      let s := ledRetire slot s
      if s.get ledTry = 0 ∧ s.get ledKind ≠ 3 then ledBody ((s.set ledTry 1).set ledSlot (ledNextSlot s 64 (slot + 1)))
      else
        let s := (ledEnd stFailed (ledUndo s)).inc LEDGER_CNT_FAILS
        raiseEvent 0x2C (raiseFault 0x0A01 .ride s)

/-- An abort of `COMMIT` (R403): before word 127 the slot stays invalid; from step 3 on it meets that word programmed or not, a free choice
(log entry 64). -/
def ledAbort (s : State) : State :=
  if ledAge s < 220000 then ledEnd stAborted (ledUndo s)
  else (if bitAt (Config.fresh s.freeCount).toNat 0 then ledCommit stTooLate s else ledEnd stAborted (ledUndo s)).draw

/-- A reset meets a commit: from step 3 on word 127 is programmed or not, a free choice (R403; log entry 64). -/
def ledReset (s : State) : State :=
  s.when (s.get ledKind != 0 && decide (220000 ≤ ledAge s)) (fun s => (if bitAt (Config.fresh s.freeCount).toNat 0 then ledClose s else s).draw)

/-- The commit at the power-fail warning (R405): none while one runs. -/
def ledPowerLoss (s : State) : State := if s.get ledKind = 0 ∧ s.flag LEDGER_STAT_LOADED then ledStart 3 s else s

/-! ### The boot load (R406) -/

/-- Whether slot `k` holds a valid record. -/
def ledValid (k : Nat) (s : State) : Bool :=
  let w := s.wordsAt (ledAddr k) 1024
  w.getD 0 0 == 0x1ED6E400 && w.getD 127 0 == w.getD 1 0 && w.getD 126 0 == crc32Words (w.take 126 ++ w.drop 128)

/-- Slots with a listed byte, each once: the others read erased and hold no record. -/
def ledSlots (s : State) : List Nat :=
  let l := s.mem.filterMap (fun c => if 0xE0000000 ≤ c.1 ∧ c.1 < 0xE8000000 then some ((c.1 - 0xE0000000) / 0x1000) else none)
  l.foldr (fun k a => if a.head? = some k then a else k :: a) []

/-- Valid slots, newest first, at most `k`. -/
def ledNewest (s : State) : Nat → List Nat → List Nat
  | 0, _ => []
  | f + 1, l =>
    let sq := fun k => s.wordAt (ledAddr k + 4)
    match l with
    | [] => []
    | a :: r =>
      let m := r.foldl (fun b k => if sq b < sq k then k else b) a
      m :: ledNewest s f (l.filter (fun k => k != m))

/-- Page `p` from the newest of the records `l` that carries it. -/
def ledFindPage (p : Nat) (s : State) : List Nat → Option Nat
  | [] => none
  | k :: r =>
    let w := s.wordAt (ledAddr k + 24)
    if w % 64 = p then some (ledAddr k + 512) else if bits w 16 6 = p then some (ledAddr k + 768) else ledFindPage p s r

/-- The 64-bit counter in words `w` and `w + 1` takes `v` and what it has counted since the reset, saturating (R393). -/
def ledGain (w v : Nat) (s : State) : State :=
  s.setWide (LEDGER_LIVE_w_W w) (LEDGER_LIVE_w_W (w + 1)) (min (2 ^ 64 - 1) (v + s.getWide (LEDGER_LIVE_w_W w) (LEDGER_LIVE_w_W (w + 1))))

/-- First words of the 64-bit counters (R401). -/
def ledWides : List Nat := (List.range 8).map (fun i => 14 + 2 * i) ++ [70]

/-- The counters, the retired list and the pages of the newest record come back; a counter keeps what it has counted since the reset. -/
def ledRestore (k : Nat) (l : List Nat) (s : State) : State :=
  let a := ledAddr k
  let s := s.each ((List.range 6).map (fun i => i + 8) ++ (List.range 40).map (fun i => i + 30) ++ (List.range 3).map (fun i => i + 72) ++
    (List.range 768).map (fun i => i + 256)) (fun w s => s.addSat (LEDGER_LIVE_w_W w) (s.wordAt (a + 4 * w)))
  let s := s.each ledWides (fun w s => ledGain w (s.wordAt (a + 4 * w) + 2 ^ 32 * s.wordAt (a + 4 * w + 4)) s)
  let s := s.each ((List.range 51).map (fun i => i + 75)) (fun w s => s.set (LEDGER_LIVE_w_W w) (s.wordAt (a + 4 * w)))
  let s := s.set LEDGER_RETIRED_COUNT (s.wordAt (a + 28) % 256)
  let s := s.each (List.range 64) (fun p s =>
    match ledFindPage p s l with
    | some b => s.each (List.range 64) (fun w s => s.set (LEDGER_PAGE_p_W p w) (s.wordAt (b + 4 * w)))
    | none => s)
  let w6 := s.wordAt (a + 24)
  let s := (s.set LEDGER_FLT_STAT_PAGE (w6 % 64)).set LEDGER_FLT_STAT_FILL (bits w6 8 5)
  (s.set LEDGER_STAT_SLOT k).set LEDGER_SEQ_SEQ (s.wordAt (a + 4))

/-- LEDGER_LOAD_DONE (R393, R399, R400, R406): the load ends; the Lantern time of the last stay and the codes held meanwhile are entered. -/
def execLedgerLoadDone (s : State) : Out :=
  ok <|
    if s.flag LEDGER_STAT_LOADED then s
    else
      let l := ledNewest s 64 ((ledSlots s).filter (fun k => ledValid k s))
      let s := match l with
        | [] => (s.set LEDGER_STAT_NEW 1).each (List.range 32) (fun i s => s.set (LEDGER_LIVE_w_W (76 + i)) 0xFFFFFFFF)
        | k :: _ => ledRestore k l s
      let held := s.faultHeld
      let s := (s.addSat (LEDGER_LIVE_w_W 9) (s.get ledLantern)).set ledLantern 0
      let s := { s.set LEDGER_STAT_LOADED 1 with faultHeld := [] }
      let s := s.each [0, 1, 2] (fun c s => (s.addSat (LEDGER_LIVE_w_W (72 + c)) (s.get (ledLateCls c))).set (ledLateCls c) 0)
      held.foldl (fun s e => heldEnter e.1 e.2 s) s

end Sys2Proof.Machine
end

