-- ==== Sys2Proof/Machine/Trig.lean ====
section
/-!
DEFINITION. Sine, cosine and the angle of a vector, as the loop engines and the Sheepdog evaluate them (R175, R177, R182, R183, R313): the
binary32 value nearest to the function's value at the binary32 argument. They are computed in fixed point with 280 fraction bits.
-/

namespace Sys2Proof.Machine.F32

/-- One, in fixed point. -/
def fix : Nat := 2 ^ 280

/-- The circle number, in fixed point. -/
def piFix : Nat := 0x3243F6A8885A308D313198A2E03707344A4093822299F31D0082EFA98EC4E6C89452821

/-- `k` terms of 1 - x²/((j+1)(j+2)) (1 - x²/((j+3)(j+4)) (...)) for the square `x2` of x. -/
def cosSeries (x2 : Int) : Nat → Nat → Int
  | 0, _ => fix
  | k + 1, j => fix - x2 * cosSeries x2 k (j + 2) / (fix * ((j + 1) * (j + 2)) : Nat)

/-- Sine and cosine of a fixed-point angle of at most an eighth of a turn. -/
def sinCosFix (r : Int) : Int × Int :=
  let x2 := r * r / (fix : Nat)
  (r * cosSeries x2 30 1 / (fix : Nat), cosSeries x2 30 0)

/-- Sine and cosine after `k` further quarter turns. -/
def quarters (k : Int) (p : Int × Int) : Int × Int :=
  match (k % 4).toNat with
  | 0 => p
  | 1 => (p.2, -p.1)
  | 2 => (-p.1, -p.2)
  | _ => (-p.2, p.1)

/-- Sine and cosine of a finite angle in radians, in fixed point, after taking off whole quarter turns. -/
def sinCosVal (x : F32) : Int × Int :=
  let v := val x * 2 ^ 131
  let k : Int := (2 * v + (piFix / 2 : Nat)) / (piFix : Nat)
  quarters k (sinCosFix ((2 * v - k * (piFix : Nat)) / 2))

/-- Sine of `a / b` turns, in fixed point. -/
def sinTurn (a : Int) (b : Nat) : Int :=
  let k := (8 * a + b) / (2 * b : Nat)
  (quarters k (sinCosFix ((4 * a - k * b) * (piFix : Nat) / (2 * b : Nat)))).1

/-- Sine of an angle in radians. -/
def sin (x : F32) : F32 := if !isFinite x then nan else if isZero x then x else ofRat (sinCosVal x).1 fix

/-- Cosine of an angle in radians. -/
def cos (x : F32) : F32 := if !isFinite x then nan else ofRat (sinCosVal x).2 fix

/-- `k` terms of 1/j - x²/(j+2) + x⁴/(j+4) - ... for the square `x2` of x. -/
def atanSeries (x2 : Int) : Nat → Nat → Int
  | 0, _ => 0
  | k + 1, j => ((fix / j : Nat) : Int) - x2 * atanSeries x2 k (j + 2) / (fix : Nat)

/-- Tangent of half the angle whose tangent is `t`. -/
def halfTan (t : Nat) : Nat := t * fix / (fix + isqrt 282 (fix * fix + t * t) 0)

/-- The angle whose tangent is `t`, 0 to 1, in fixed point: three halvings, and the series. -/
def atanFix (t : Nat) : Int :=
  let h := halfTan (halfTan (halfTan t))
  8 * ((h : Int) * atanSeries ((h * h / fix : Nat) : Int) 45 1 / (fix : Nat))

/-- Angle of the vector (`x`, `y`) in radians, -π to π; 0 for the zero vector. -/
def atan2 (y x : F32) : F32 :=
  if !isFinite x || !isFinite y then nan
  else
    let a := units y
    let b := units x
    let q := if a = 0 ∧ b = 0 then 0 else if a ≤ b then atanFix (a * fix / b) else (piFix / 2 : Nat) - atanFix (b * fix / a)
    let r := if neg? x && b != 0 then (piFix : Int) - q else q
    ofRat (if neg? y then -r else r) fix

end Sys2Proof.Machine.F32
end

