-- ==== Sys2Proof/Machine/Pos.lean ====
section
/-!
DEFINITION. Position and speed feedback (05_position_and_speed): resolver, encoder, Halls, SSI and SENT, the travel counter, the
probe input, the speed states, the back-EMF observer and the cross-checks.
-/

namespace Sys2Proof.Machine
open Reg

/-! ### Units -/

/-- 2 pi and pi / 3 in binary32. -/
def twoPi : F32 := 0x40C90FDB#32
def piThird : F32 := 0x3F860A92#32

/-- A number of ticks in seconds, binary32. -/
def secs (ticks : Int) : F32 := F32.div (F32.ofInt ticks) (F32.ofInt 200000000)

/-- An angle in radians in 1/256 LSB (2^24 to a turn). -/
def turn24 (x : F32) : Int := F32.toIntNear (F32.mul x (F32.div (F32.ofInt (2 ^ 24)) twoPi))

/-- A difference of two 16-bit angles, wrapped to signed. -/
def angDiff (a b : Int) : Int := sext 16 (wrap 16 (a - b))

def posOn (n : Nat) (s : State) : Bool := s.flag (POS_CTRL_EN n)
def posPrim (n : Nat) (s : State) : Nat := s.get (POS_CTRL_PRIM n)

/-- Whether the Halls of port `n` run (R129). -/
def hallsRun (n : Nat) (s : State) : Bool := posOn n s && (posPrim n s == 4 || s.flag (POS_CTRL_HALL_EN n))

/-- One count's electrical angle: of the encoder or of the Halls (R160). -/
def countAngle (n : Nat) (s : State) : F32 :=
  if posPrim n s = 4 then piThird
  else F32.div (F32.mul twoPi (F32.ofInt (s.get (POS_SCALE_RATIO n)))) (F32.ofInt (s.get (POS_ENC_CFG_CPR n)))

/-! ### Hall sectors (R146, R147) -/

/-- Sector number of a Hall code, 0 to 5; `none` for the illegal codes. -/
def hallSector (code : Nat) : Option Nat :=
  match code with
  | 5 => some 0 | 1 => some 1 | 3 => some 2 | 2 => some 3 | 6 => some 4 | 4 => some 5
  | _ => none

/-- Edge angle at which sector `k` begins in positive rotation. -/
def hallEdgeAngle (k : Nat) : Nat := [0, 10923, 21845, 32768, 43691, 54613].getD (k % 6) 0

/-- Width of sector `k`. -/
def hallWidth (k : Nat) : Nat := (hallEdgeAngle (k + 1) + 65536 - hallEdgeAngle k) % 65536

/-- Sector at instant `t`: the present one, or the one before the last change where `t` lies before that. -/
def sectorAt (n t : Nat) (s : State) : Nat :=
  let p := s.get (posHallPrev n)
  if p ≠ 0 ∧ t + 1 < s.get (posHallAt n) then p - 1 else (hallSector (s.get (POS_HALL_STAT_CODE n))).getD 0

/-- Centre of the sector at instant `t` with the Hall offset, as a Hall angle. -/
def hallCentre (n t : Nat) (s : State) : Nat :=
  let k := sectorAt n t s
  (hallEdgeAngle k + hallWidth k / 2 + s.get (POS_HALL_CFG_OFS n)) % 65536

/-! ### Speed (R160 to R162) -/

/-- Ticks from the last edge to instant `t`. -/
def sinceEdge (n t : Nat) (s : State) : Int := (t : Int) - (s.get (posEdgeAt n) - 1 : Nat)

/-- Speed in the direction of travel that an edge sensor reports at instant `t`, its magnitude limited whatever the observer's sign
(R160, R161). -/
def edgeSpeed (n t : Nat) (s : State) : F32 :=
  let w := s.getF (if s.get (POS_SPD_STAT_MODE n) = 2 then posIntW n else posObsW n)
  if sinceEdge n t s ≤ 0 then w else clampSym w (F32.div (countAngle n s) (secs (sinceEdge n t s)))

/-- Whether the primary sensor is an edge sensor. -/
def edgeSensor (n : Nat) (s : State) : Bool := posPrim n s == 2 || posPrim n s == 4

/-- Electrical speed at instant `t`, signed. -/
def speedAt (n t : Nat) (s : State) : F32 :=
  if edgeSensor n s then
    let m := s.get (POS_SPD_STAT_MODE n)
    if m = 0 then F32.zero
    else
      let w := if m = 1 then F32.zero else edgeSpeed n t s
      if s.flag (POS_SPD_STAT_DIR n) then F32.neg w else w
  else if s.flag (POS_SPD_STAT_STILL n) then F32.zero
  else F32.mul (s.getF (posOmega n)) (F32.ofInt (s.get (POS_SCALE_RATIO n)))

/-- An edge in direction `dir` at instant `t` (R160). -/
def speedEdge (n t : Nat) (dir : Bool) (s : State) : State :=
  let m := s.get (POS_SPD_STAT_MODE n)
  let s := s.set (POS_SPD_STAT_STILL n) 0
  if m = 0 ∨ s.flag (POS_SPD_STAT_DIR n) ≠ dir then
    let s := ((s.set (POS_SPD_STAT_MODE n) 1).setB (POS_SPD_STAT_DIR n) dir).set (POS_SPD_STAT_VALID n) 0
    (s.set (posEdgeN n) 0).set (posEdgeAt n) (t + 1)
  else
    let dt := secs ((t : Int) - (s.get (posEdgeAt n) - 1 : Nat))
    let step := countAngle n s
    let w := F32.div step dt
    let k := min 16 (s.get (posEdgeN n) + 1)
    let s :=
      if m = 1 then (s.setF (posObsW n) w).setF (posObsD n) F32.zero
      else
        let wn := F32.mul twoPi (F32.ofInt (s.get (POS_SPD_CFG_FN n)))
        let om := s.getF (posObsW n)
        let e := F32.sub (F32.sub step (F32.mul om dt)) (s.getF (posObsD n))
        let g := F32.min (F32.mul (F32.mul (F32.ofInt 2) wn) dt) F32.one
        let s := s.setF (posObsD n) (F32.sub (F32.mul g e) e)
        s.setF (posObsW n) (F32.add om (F32.mul (F32.mul (F32.mul wn wn) dt) e))
    let s := ((s.setF (posIntW n) w).set (posEdgeN n) k).set (posEdgeAt n) (t + 1)
    (s.set (POS_SPD_STAT_MODE n) (if s.get (POS_SPD_CFG_OBS_N n) ≤ k then 3 else 2)).set (POS_SPD_STAT_VALID n) 1

/-- The speed estimate restarts at the first state with the direction unknown (R148). -/
def speedRestart (n t : Nat) (s : State) : State :=
  let s := ((s.set (POS_SPD_STAT_MODE n) 1).set (POS_SPD_STAT_VALID n) 0).set (POS_SPD_STAT_STILL n) 0
  (s.set (posEdgeN n) 0).set (posEdgeAt n) (t + 1)

/-! ### Angle at an instant (R131, R136, R141, R145, R147, R151) -/

/-- One count in units of 2^-149. -/
def countUnit : Nat := 2 ^ 149

/-- Encoder count at instant `t` in units of 2^-149: the count, and with `interp` the speed times the time since the last edge, less
than one count away from it (R141). An instant before the last edge is reached back at the same speed, or, where no speed is known, to the
count before that edge (log entry 79). -/
def countAt (n t : Nat) (interp : Bool) (s : State) : Int :=
  let u : Int := countUnit
  let c : Int := s.get (POS_ENC_COUNT_COUNT n) * u
  let down := s.flag (POS_SPD_STAT_DIR n)
  let past := decide (sinceEdge n t s < 0)
  if s.get (POS_SPD_STAT_MODE n) < 2 then (if !past then c else if down then c + u else c - u)
  else
    let f := F32.div (F32.mul (edgeSpeed n t s) (secs (sinceEdge n t s))) (countAngle n s)
    let g := if past then f else clampSym f 0x3F7FFFFF#32
    let v : Int := if F32.isFinite g then F32.val g else 0
    let x := if down then c - v else c + v
    if interp then x else if !past then c else if down then -(-x / u * u) else x / u * u

/-- Hall angle at instant `t` in 1/256 LSB, limited to the far end of the present sector; the centre of that instant's sector while the speed is not
valid or no edge has given an angle (R147). -/
def hallAt (n t : Nat) (s : State) : Nat :=
  if !s.flag (POS_SPD_STAT_VALID n) || !s.flag (posHallHas n) then hallCentre n t s * 256
  else if s.get (POS_SPD_STAT_MODE n) < 2 then s.get (posHallAng n) * 256
  else
    let k := (hallSector (s.get (POS_HALL_STAT_CODE n))).getD 0
    let d : Int := min ((hallWidth k * 256 : Nat) : Int) (turn24 (F32.mul (edgeSpeed n t s) (secs (sinceEdge n t s))))
    wrap 24 ((s.get (posHallAng n) * 256 : Nat) + (if s.flag (POS_SPD_STAT_DIR n) then -d else d))

/-- Age of the window centre of the last resolver update (R136). -/
def resAge (n t : Nat) (s : State) : Int := (t : Int) - s.get (posUpdAt n) + (s.get (POS_RES_EXC_PER n) / 2 + 200 : Nat)

/-- Sensor angle at instant `t`, 1/256 LSB; `interp`: an encoder's count is interpolated. -/
def thetaS (n t : Nat) (interp : Bool) (s : State) : Nat :=
  match posPrim n s with
  | 1 => wrap 24 ((s.get (posTheta n) : Int) + turn24 (F32.mul (s.getF (posOmega n)) (secs (resAge n t s))))
  | 2 => wrap 24 (countAt n t interp s * 2 ^ 24 / (s.get (POS_ENC_CFG_CPR n) * countUnit : Nat))
  | 3 => wrap 24 ((s.get (posTheta n) : Int) + turn24 (F32.mul (s.getF (posOmega n)) (secs ((t : Int) - s.get (posUpdAt n)))))
  | 4 => hallAt n t s
  | _ => 0

/-- Whether an encoder takes its angle from the Hall sector (R145). -/
def hallCoarse (n : Nat) (s : State) : Bool :=
  posPrim n s == 2 && s.flag (POS_CTRL_HALL_EN n) && !s.flag (POS_STAT_HOMED n) && !s.flag (posAligned n)

/-- Electrical angle of the sensor at instant `t` (R131, R145): `RATIO` is taken as 1 for Halls. -/
def thetaE (n t : Nat) (interp : Bool) (s : State) : Nat :=
  if hallCoarse n s then hallCentre n t s
  else
    let ratio := if posPrim n s = 4 then 1 else s.get (POS_SCALE_RATIO n)
    (ratio * thetaS n t interp s / 256 + s.get (POS_OFFSET_OFS n)) % 65536

/-- Grade of the primary sensor's angle (R133, R137, R142, R145, R147, R151). -/
def posGrade (n : Nat) (s : State) : Nat :=
  if !posOn n s then 0
  else match posPrim n s with
  | 1 => if s.flag (POS_RES_STAT_LOCK n) then 2 else 0
  | 2 => if s.flag (POS_STAT_HOMED n) then 2
         else if s.flag (POS_CTRL_HALL_EN n) && (hallSector (s.get (POS_HALL_STAT_CODE n))).isSome then 1 else 0
  | 3 => if s.flag (posSsiGood n) then 2 else 0
  | 4 => if (hallSector (s.get (POS_HALL_STAT_CODE n))).isNone then 0
         else if s.flag (POS_SPD_STAT_VALID n) && s.flag (posHallHas n) then 2 else 1
  | _ => 0

/-! ### Failure of the sensor (R165, R166) -/

/-- The sensor fails with cause `cause` (R165); a sensor already failed stays as it is. -/
def sensorFailed (n cause : Nat) (s : State) : State :=
  if s.flag (POS_STAT_SFAIL n) then s
  else
    let s := raiseStall n 0x38 (s.set (POS_STAT_SFAIL n) 1)
    if s.flag (POS_BEMF_STAT_QUAL n) then
      raiseStallFault n 3 cause .ride (raiseStall n 0x3D (s.set (POS_STAT_SRC n) 1))
    else raiseStallFault n 3 cause .stallSafe ((s.set (POS_STAT_SRC n) 2).set (POS_ANG_QUAL n) 0)

/-- An observer in use is lost (R166). -/
def observerLost (n : Nat) (s : State) : State :=
  s.when (s.get (POS_STAT_SRC n) == 1) (fun s =>
    raiseStallFault n 3 0x0B .stallSafe ((s.set (POS_STAT_SRC n) 2).set (POS_ANG_QUAL n) 0))

/-! ### Travel (R156 to R158) -/

def travel (n : Nat) (s : State) : Int := sext 48 (s.getWide (POS_TRAVEL_LO_TRAVEL n) (POS_TRAVEL_HI_TRAVEL n))
def travelMin (n : Nat) (s : State) : Int := sext 48 (s.getWide (POS_TRAVEL_MIN_LO_MIN n) (POS_TRAVEL_MIN_HI_MIN n))
def travelMax (n : Nat) (s : State) : Int := sext 48 (s.getWide (POS_TRAVEL_MAX_LO_MAX n) (POS_TRAVEL_MAX_HI_MAX n))
def setTravel (n : Nat) (x : Int) (s : State) : State := s.setWide (POS_TRAVEL_LO_TRAVEL n) (POS_TRAVEL_HI_TRAVEL n) (wrap 48 x)

/-- The travel counter moves by `d` and saturates at its limits (R157). -/
def travelMove (n : Nat) (d : Int) (s : State) : State :=
  if d = 0 then s
  else
    let before := if s.get (posMvAt n) = s.now + 1 then s.geti (posMvD n) else 0
    let s := (s.set (posMvAt n) (s.now + 1)).seti (posMvD n) (before + d)
    let x := travel n s + d
    let hi := decide (travelMax n s < x)
    let lo := decide (x < travelMin n s)
    let new := (hi && !s.flag (POS_TRAVEL_STAT_AT_MAX n)) || (lo && !s.flag (POS_TRAVEL_STAT_AT_MIN n))
    let s := setTravel n (if hi then travelMax n s else if lo then travelMin n s else x) s
    let s := (s.setB (POS_TRAVEL_STAT_AT_MAX n) hi).setB (POS_TRAVEL_STAT_AT_MIN n) lo
    s.when new (fun s => raiseStallFault n 3 0x0C .ride (raiseStall n 0x3E (s.set (POS_TRAVEL_STAT_SAT_SEEN n) 1)))

/-- The word held for a register, or its present value (R47). -/
def heldOr (s : State) (addr cur : Nat) : Nat := storeGet cur addr s.held

/-- A write of `hi` to `POS_TRAVEL_HI` applies the held low word with it; what the counter has moved in the same tick is added to the
preset value (R158). -/
def travelPreset (n hi : Nat) (s : State) : State :=
  let lo := heldOr s (POS_TRAVEL_LO_TRAVEL n).addr (s.get (POS_TRAVEL_LO_TRAVEL n))
  let x := sext 48 (lo + 2 ^ 32 * (hi % 65536))
  if travelMin n s ≤ x ∧ x ≤ travelMax n s then
    let s := { s with held := storeDrop (POS_TRAVEL_LO_TRAVEL n).addr s.held }
    let s := ((setTravel n x s).set (POS_TRAVEL_STAT_AT_MAX n) 0).set (POS_TRAVEL_STAT_AT_MIN n) 0
    busOk (if s.get (posMvAt n) = s.now + 1 then travelMove n (s.geti (posMvD n)) (s.set (posMvAt n) 0) else s)
  else busErr s

/-- TRAVEL_PRESET (R158). -/
def execTravelPreset (n : Fin 4) (hi : BitVec 32) (s : State) : Out := stallWrite n (fun s => ok (travelPreset n hi.toNat s)) s

/-! ### Enabling (R130) -/

/-- Every rule of the chapter that bounds a combination of fields (R130). -/
def posConfigOk (n : Nat) (s : State) : Bool :=
  let p := s.get (POS_SSI_CFG_BITS n) - s.get (POS_SSI_CFG_ERRB n) - s.get (POS_SSI_CFG_PAR n)
  decide (s.get (POS_RES_FN_FN n) * s.get (POS_RES_EXC_PER n) * 5 ≤ 200000000) &&
    decide (s.get (POS_RES_PHASE_PHASE n) < s.get (POS_RES_EXC_PER n)) &&
    decide (8 ≤ s.get (POS_SSI_CFG_ST n)) && decide (s.get (POS_SSI_CFG_ST n) ≤ p) &&
    decide (s.get (POS_ENC_IDXPOS_POS n) < s.get (POS_ENC_CFG_CPR n))

/-- The sensor state of port `n` as it stands at enable: a tracking observer starts from angle 0 and speed 0 (log entry 29). -/
def posRestart (n : Nat) (s : State) : State :=
  let s := ((s.set (POS_SPD_STAT_MODE n) 0).set (POS_SPD_STAT_STILL n) 1).set (POS_SPD_STAT_VALID n) 1
  let s := ((s.set (POS_STAT_HOMED n) 0).set (posAligned n) 0).set (posMismRun n) 0
  let s := (s.set (posEdges n) 0).set (posIllN n) 0
  let s := ((s.set (POS_RES_STAT_LOCK n) 0).set (posLockRun n) 0).set (posLowRun n) 0
  let s := ((s.set (posClipRun n) 0).set (posHighRun n) 0).set (posLowAt n) 0
  let s := ((s.set (posSsiGood n) 0).set (posSsiPrev n) 0).set (posSsiErrRun n) 0
  let s := ((s.set (posSsiBusy n) 0).set (posEdgeAt n) 0).set (posEdgeN n) 0
  let s := ((s.set (posXRun n) 0).set (posHallOut n) 0).set (posHallSeq n) 0
  let s := ((s.set (posHallHas n) 0).set (POS_HALL_STAT_ILLNOW n) 0).set (posIllDone n) 0
  ((((s.set (posIdxPend n) 0).set (posTrk n) 0).set (posOmega n) 0).set (posTheta n) 0).set (posHallPrev n) 0

/-- The SENT port as it stands at enable (R153, R155). -/
def sentRestart (n : Nat) (s : State) : State := ((s.set (posSentAt n) s.now).set (posSentSync n) 0).set (posSlowN n) 0

/-- POS_ENABLE (R130). -/
def execPosEnable (n : Fin 4) (s : State) : Out :=
  stallWrite n (fun s =>
    if posOn n s then ok (busOk s)
    else if posConfigOk n s then ok (busOk ((posRestart n s).set (POS_CTRL_EN n) 1))
    else ok (busErr (s.set (POS_STAT_CFG_ERR n) 1))) s

/-- POS_DISABLE (R130). -/
def execPosDisable (n : Fin 4) (s : State) : Out :=
  stallWrite n (fun s =>
    if posOn n s && loopRuns n s then ok (busErr s)
    else ok (busOk (s.when (posOn n s) (fun s => (posRestart n s).set (POS_CTRL_EN n) 0)))) s

/-! ### Delivery (R132, R149) -/

/-- Last clock edge of the frame under way: from its first falling edge, `BITS` rising edges a clock period apart (R149). -/
def ssiLastEdge (n : Nat) (s : State) : Nat :=
  s.get (posSsiAt n) + (2 * s.get (POS_SSI_CFG_BITS n) - 1) * s.get (POS_SSI_CFG_DIV n)

/-- An SSI frame starts at a trigger or an internal instant, or is skipped (R149). -/
def ssiStart (n : Nat) (s : State) : State :=
  if posOn n s && posPrim n s == 3 then
    let e := s.get (posSsiEnd n)
    if s.flag (posSsiBusy n) || (e != 0 && decide (s.now < e - 1 + s.get (POS_SSI_TIM_MONO n) * 200)) then s.inc (POS_SSI_STAT_SKIP n)
    else (s.set (posSsiBusy n) 1).set (posSsiAt n) s.now
  else s

/-- Electrical angle of the back-EMF observer at instant `t` (R163): the tracked angle of e carried on by the speed, less the quarter turn
by which e leads the rotor in its direction of rotation (R181; log entry 80). -/
def bemfAngleAt (n t : Nat) (s : State) : Nat :=
  let w := s.getF (POS_BEMF_SPD_SPD n)
  let x := (s.get (bemfTheta n) : Int) + turn24 (F32.mul w (secs ((t : Int) - s.get (bemfAt n))))
  wrap 24 (if F32.neg? w then x + 2 ^ 22 else x - 2 ^ 22) / 256

/-- Electrical angle at instant `t` of the source in use (R131, R165). -/
def thetaNow (n t : Nat) (interp : Bool) (s : State) : Nat :=
  if s.get (POS_STAT_SRC n) = 1 then bemfAngleAt n t s else thetaE n t interp s

/-- Speed below which an observer in use is given up (R166). -/
def bemfLeave (n : Nat) (s : State) : F32 :=
  F32.mul (s.getF (POS_BEMF_TAKE_TAKE n)) (F32.sub F32.one (F32.div (F32.ofInt (s.get (POS_BEMF_CFG_HYS n))) (F32.ofInt 100)))

/-- The flags and the travel as they stand at a trigger (R132, R169). -/
def latchFlags (n : Nat) (s : State) : State :=
  let f := s.get (POS_SPD_STAT_VALID n) + 2 * s.get (POS_SPD_STAT_STILL n) + 4 * s.get (POS_SPD_STAT_DIR n) +
    8 * s.get (POS_STAT_SFAIL n) + 16 * s.get (POS_STAT_SRC n) + 64 * s.get (POS_ANG_QUAL n)
  (s.set (posLatFlags n) f).seti (posLatTrav n) (travel n s)

/-- The port latches its values at a trigger or an internal instant (R132, R162, R165, R166). -/
def posLatch (n : Nat) (s : State) : State :=
  let t := s.now
  let interp := s.flag (POS_CTRL_INTERP n)
  let s := s.when (s.flag (POS_BEMF_CFG_EN n) && loopRuns n s) (fun s => s.set (POS_BEMF_STAT_ANGLE n) (bemfAngleAt n t s))
  let s := s.set (POS_SANG_ANGLE n) (thetaS n t interp s / 256)
  if s.get (POS_STAT_SRC n) = 1 then
    let v := s.getF (POS_BEMF_SPD_SPD n)
    let s := (s.set (POS_ANG_ANGLE n) (s.get (POS_BEMF_STAT_ANGLE n))).set (POS_ANG_QUAL n) 2
    let s := ((s.setF (POS_SPD_SPD n) v).set (POS_SPD_STAT_VALID n) 1).set (POS_SPD_STAT_STILL n) 0
    let s := s.setB (POS_SPD_STAT_DIR n) (F32.neg? v)
    latchFlags n (if F32.lt (F32.abs v) (bemfLeave n s) then observerLost n s else s)
  else
    let g := if s.get (POS_STAT_SRC n) = 0 then posGrade n s else 0
    let s := s.when (!edgeSensor n s && decide (posPrim n s ≠ 0)) (fun s =>
      (s.setB (POS_SPD_STAT_VALID n) (g == 2)).setB (POS_SPD_STAT_DIR n) (F32.neg? (s.getF (posOmega n))))
    let s := (s.set (POS_ANG_ANGLE n) (thetaE n t interp s)).set (POS_ANG_QUAL n) g
    latchFlags n (s.setF (POS_SPD_SPD n) (speedAt n t s))

/-- POS_INTERNAL_INSTANT (R132, R149, R283): every 2,000 ticks while the carrier does not run. -/
def execPosInternalInstant (n : Fin 4) (s : State) : Out :=
  ok (s.when ((s.get (PWM_STAT_STATE n) == 0 || s.get (PWM_STAT_STATE n) == 4) && s.now % 2000 == 0)
    (fun s => decideBand n (ssiStart n (posLatch n s))))

/-! ### Resolver (R134 to R138, R162) -/

/-- Low speed begins or ends for a resolver or SSI sensor (R162). -/
def stillFollow (n : Nat) (s : State) : State :=
  let v := F32.abs (F32.mul (s.getF (posOmega n)) (F32.ofInt (s.get (POS_SCALE_RATIO n))))
  if F32.lt v (s.getF (POS_STILL_THR_THR n)) then
    s.when (s.get (posLowAt n) == 0) (fun s => s.set (posLowAt n) (s.now + 1))
  else (s.set (posLowAt n) 0).set (POS_SPD_STAT_STILL n) 0

/-- A run counter of R138: one more, or 0. -/
def runStep (f : Fld) (b : Bool) (s : State) : State := if b then s.inc f else s.set f 0

/-- An angle of 1/256 LSB in radians. -/
def rad24 (x : Int) : F32 := F32.div (F32.mul twoPi (F32.ofInt x)) (F32.ofInt (2 ^ 24))

/-- Sample `k` of a window: 16 bits each, two's complement. -/
def windowSample (w : BitVec 1024) (k : Nat) : Int := sext 16 (bits w.toNat (16 * k) 16)

/-- Correlation of a window of 64 samples that ended 1 us ago with the excitation delayed by `phase` ticks, in input LSB (R135, R136): the
samples lie in the middle of each 64th of the excitation period, and the excitation is a sine that rises through zero at the multiples of
its period (log entry 81). -/
def envelope (per phase now : Nat) (w : BitVec 1024) : F32 :=
  let ref := fun (k : Nat) => F32.sinTurn (128 * ((now : Int) - 200 - per - phase) + (2 * k + 1) * per) (128 * per)
  F32.ofRat (((List.range 64).map (fun k => windowSample w k * ref k)).sum) (32 * F32.fix)

/-- One update of a type-II observer with Kp = 2 wn and Ki = wn², in the form R160 gives (log entry 82): predicted angle `th`, speed `om`,
error `e` (radians) and `dt` (seconds) since the last update give the new angle, 1/256 LSB, and the new speed. -/
def trackStep (fn : Nat) (dt : F32) (th : Int) (om e : F32) : Nat × F32 :=
  let wn := F32.mul twoPi (F32.ofInt fn)
  let g := F32.min (F32.mul (F32.mul (F32.ofInt 2) wn) dt) F32.one
  (wrap 24 (th + turn24 (F32.mul g e)), F32.add om (F32.mul (F32.mul (F32.mul wn wn) dt) e))

/-- The tracking observer's part of an update from the envelopes `sS`, `sC`: angle, speed, lock, travel (R136, R137, R156). With an
amplitude of 0 the error has no value (log entry 2). -/
def resTrack (n : Nat) (sS sC ampF : F32) (s : State) : State :=
  let old := s.get (posTheta n)
  let om := s.getF (posOmega n)
  let dt := F32.div (secs (s.get (POS_RES_EXC_PER n))) (F32.ofInt 16)
  let th := (old : Int) + turn24 (F32.mul om dt)
  let e := if F32.isZero ampF then Config.fresh s.freeCount
    else F32.div (F32.sub (F32.mul sS (F32.cos (rad24 (wrap 24 th)))) (F32.mul sC (F32.sin (rad24 (wrap 24 th))))) ampF
  let s := if F32.isZero ampF then s.draw else s
  let new := trackStep (s.get (POS_RES_FN_FN n)) dt th om e
  let s := ((s.set (posTheta n) new.1).setF (posOmega n) new.2).set (posUpdAt n) s.now
  let s := travelMove n (angDiff (new.1 / 256 : Nat) (old / 256 : Nat)) s
  -- R137: one update with an error of 1 degree or more loses the lock (log entry 83)
  let small := F32.lt (F32.abs e) 0x3C8EFA35#32
  let s := if small then s.set (posLockRun n) (min 64 (s.get (posLockRun n) + 1)) else s.set (posLockRun n) 0
  s.setB (POS_RES_STAT_LOCK n) (small && (s.flag (POS_RES_STAT_LOCK n) || s.get (posLockRun n) == 64))

/-- The amplitude `amp` of one update against its limits, and whether an input clipped (R138). -/
def resWindow (n : Nat) (amp : F32) (clip : Bool) (s : State) : State :=
  let low := F32.lt amp (F32.ofInt (s.get (POS_RES_AMP_LO n)))
  let high := F32.lt (F32.ofInt (s.get (POS_RES_AMP_HI n))) amp
  let s := runStep (posLowRun n) low (s.when low (fun s => s.set (POS_RES_STAT_LOW_SEEN n) 1))
  let s := runStep (posHighRun n) high (s.when high (fun s => s.set (POS_RES_STAT_HIGH_SEEN n) 1))
  runStep (posClipRun n) clip (s.when clip (fun s => s.set (POS_RES_STAT_CLIP_SEEN n) 1))

/-- Whether the runs of updates out of the window fail the resolver, and with which cause (R138). -/
def resJudge (n : Nat) (s : State) : State :=
  let k := s.get (POS_RES_FN_LOSS_N n)
  if k ≤ s.get (posLowRun n) ∨ k ≤ s.get (posClipRun n) then sensorFailed n 1 s
  else if k ≤ s.get (posHighRun n) then sensorFailed n 2 s
  else s

/-- One update: the envelopes of the two windows, the amplitude, to the nearest LSB in its register (log entry 114), the observer and the
checks (R135 to R138, R162). -/
def resUpdate (n : Nat) (sinW cosW : BitVec 1024) (clip : Bool) (phase : Nat) (s : State) : State :=
  let per := s.get (POS_RES_EXC_PER n)
  let ph := if s.flag (POS_RES_PHASE_AUTOPH n) then phase else s.get (POS_RES_PHASE_PHASE n)
  let sS := envelope per ph s.now sinW
  let sC := envelope per ph s.now cosW
  let amp := F32.sqrt (F32.add (F32.mul sS sS) (F32.mul sC sC))
  let s := (s.set (POS_RES_AMPMEAS_AMP n) (clampU 16 (F32.toIntNear amp).toNat)).set (POS_RES_PHMEAS_PHASE n) phase
  resJudge n (stillFollow n (resWindow n amp clip (resTrack n sS sC amp s)))

/-- Whether an update of the resolver falls into the present tick: every sixteenth of the excitation period, which is locked to the
timebase (R134, R135), once. -/
def resDue (n : Nat) (s : State) : Bool :=
  decide (16 * s.now % s.get (POS_RES_EXC_PER n) < 16) && s.get (posUpdAt n) != s.now

/-- RES_UPDATE (R135 to R138, R162). -/
def execResUpdate (n : Fin 4) (sinW cosW : BitVec 1024) (clip : Bool) (phase : BitVec 16) (s : State) : Out :=
  ok (s.when (posOn n s && posPrim n s == 1 && resDue n s) (resUpdate n sinW cosW clip phase.toNat))

/-- EXC_FAULT (R134): the driver is enabled by `EXC_EN`; it makes a resolver in use fail. -/
def execExcFault (n : Fin 4) (s : State) : Out :=
  ok (s.when (s.flag (POS_CTRL_EXC_EN n)) (fun s =>
    (s.set (POS_STAT_EXC_FAULT n) 1).when (posOn n s && posPrim n s == 1) (sensorFailed n 3)))

/-! ### Encoder (R139 to R145) -/

/-- Position of a pair of levels in the counting sequence: A leads B in positive rotation. -/
def quad (a b : Bool) : Nat := if a then (if b then 2 else 1) else if b then 3 else 0

/-- An illegal transition: two accepted edges, one transition (R140). -/
def encIllegal (n : Nat) (s : State) : State :=
  let s := raiseStall n 0x3A (s.inc (POS_ENC_ILL_ILLEGAL n))
  let pos := s.get (posEdges n) + 2
  let k := s.get (posIllN n)
  let lim := s.get (POS_ENC_ILL_LIMIT n)
  let s := ((s.set (posEdges n) pos).set (posIllAt n (k % 1024)) (pos + 1)).set (posIllN n) (k + 1)
  -- the transition LIMIT before this one, if it lies within 1,024 consecutive accepted edges
  if lim ≤ k ∧ pos < s.get (posIllAt n ((k - lim) % 1024)) - 1 + 1024 then sensorFailed n 4 s else s

/-- One quadrature count in direction `up` at instant `t` (R139, R156, R160). -/
def encCount (n t : Nat) (up : Bool) (s : State) : State :=
  let cpr := s.get (POS_ENC_CFG_CPR n)
  let c := s.get (POS_ENC_COUNT_COUNT n)
  let s := s.set (posEdges n) (s.get (posEdges n) + 1)
  let s := s.set (POS_ENC_COUNT_COUNT n) (if up then (c + 1) % cpr else (c + cpr - 1) % cpr)
  speedEdge n t (!up) (travelMove n (if up then 1 else -1) s)

/-- ENCODER_LOSS (R140). -/
def execEncoderLoss (n : Fin 4) (s : State) : Out :=
  ok (s.when (posOn n s && posPrim n s == 2) (fun s => sensorFailed n 4 (s.set (POS_STAT_LOS_SEEN n) 1)))

/-- A later index: its deviation is judged (R143). -/
def indexJudge (n : Nat) (s : State) : State :=
  let cpr : Int := s.get (POS_ENC_CFG_CPR n)
  let pos := s.get (POS_ENC_IDXPOS_POS n)
  let d := ((s.get (POS_ENC_COUNT_COUNT n) : Int) - pos + cpr / 2) % cpr - cpr / 2
  if d = 0 then s.set (posMismRun n) 0
  else if d.natAbs ≤ s.get (POS_ENC_IDX_IDX_TOL n) then
    travelMove n (-d) (((s.set (POS_ENC_COUNT_COUNT n) pos).inc (POS_IDX_STAT_CORR n)).set (posMismRun n) 0)
  else
    let s := ((s.seti (POS_IDX_DEV_DEV n) d).inc (POS_IDX_STAT_MISM n)).inc (posMismRun n)
    let s := raiseStallFault n 3 5 .ride (raiseStall n 0x39 (s.set (posMismSeen n) 1))
    s.when (decide (3 ≤ s.get (posMismRun n))) (sensorFailed n 6)

/-- An accepted index homes the encoder, or is judged (R142, R143). -/
def indexEdge (n : Nat) (s : State) : State :=
  if s.flag (POS_STAT_HOMED n) then indexJudge n s
  else ((s.set (POS_ENC_COUNT_COUNT n) (s.get (POS_ENC_IDXPOS_POS n))).set (POS_STAT_HOMED n) 1).set (posMismRun n) 0

/-- Whether a further A or B edge of port `n` waits in the queue: it falls into the present tick, which ends only when the queue is
empty. -/
def encoderEdgeWaits (n : Nat) (s : State) : Bool :=
  s.pending.any (fun c => match c with
    | .encoderEdge m _ _ => m.val == n
    | _ => false)

/-- Whether a further edge of port `n`'s Halls waits in the queue. -/
def hallEdgeWaits (n : Nat) (s : State) : Bool :=
  s.pending.any (fun c => match c with
    | .hallEdge m _ => m.val == n
    | _ => false)

/-- An index that waits for the edges of its tick is judged after the last of them (R144). -/
def indexFollow (n : Nat) (s : State) : State :=
  s.when (s.flag (posIdxPend n) && !encoderEdgeWaits n s) (fun s => indexEdge n (s.set (posIdxPend n) 0))

/-- One change of the levels of A and B (R139, R140). -/
def encoderEdge (n : Nat) (a b : Bool) (s : State) : State :=
  let d := (quad a b + 4 - quad (s.flag (posA n)) (s.flag (posB n))) % 4
  let s := (s.setB (posA n) a).setB (posB n) b
  if posOn n s && posPrim n s == 2 then
    indexFollow n
      (if d = 0 then s
      else if d = 2 then encIllegal n s
      else encCount n (s.now - s.get (POS_ENC_CFG_FILT n)) ((d == 1) != s.flag (POS_ENC_CFG_INV n)) s)
  else s

/-- ENCODER_EDGE (R139, R140): the accepted levels after the change. -/
def execEncoderEdge (n : Fin 4) (a b : Bool) (s : State) : Out := ok (encoderEdge n a b s)

/-- INDEX (R142 to R144): an accepted rising edge of Z. -/
def execIndex (n : Fin 4) (s : State) : Out :=
  ok (s.when (posOn n s && posPrim n s == 2 && (!s.flag (POS_ENC_CFG_ZGATE n) || (s.flag (posA n) && s.flag (posB n))))
    (fun s => if encoderEdgeWaits n s then s.set (posIdxPend n) 1 else indexEdge n s))

/-! ### Cross-check (R168) -/

/-- One comparison of the second source's angle `x` with θe at instant `t`. -/
def crossCheck (n x t : Nat) (s : State) : State :=
  let d := angDiff x (thetaNow n t (s.flag (POS_CTRL_INTERP n)) s)
  let s := s.seti (POS_XCHK_STAT_DIFF n) d
  if s.get (POS_XCHK_TOL n) < d.natAbs then
    let was := s.get (posXRun n)
    let s := s.set (posXRun n) (min 15 (was + 1))
    s.when (was + 1 == s.get (POS_XCHK_N n)) (fun s =>
      raiseStallFault n 3 9 .ride (raiseStall n 0x3C ((s.set (POS_XCHK_STAT_MISM n) 1).set (posMismSeen n) 1)))
  else s.set (posXRun n) 0

/-! ### Halls (R145 to R148) -/

/-- The first Hall edge before homing aligns the count (R145). -/
def hallAlign (n ang : Nat) (s : State) : State :=
  let cpr := s.get (POS_ENC_CFG_CPR n)
  let e := wrap 16 ((ang : Int) - s.get (POS_OFFSET_OFS n))
  (s.set (POS_ENC_COUNT_COUNT n) ((divRound ((e * cpr : Nat) : Int) (65536 * s.get (POS_SCALE_RATIO n))).toNat % cpr)).set (posAligned n) 1

/-- An edge between neighbouring sectors, `up` in positive rotation, at Hall angle `ang` and instant `t`. With the Halls themselves as primary
sensor `XCHK.SRC` = 1 compares nothing (log entry 114). -/
def hallStep (n t ang : Nat) (up : Bool) (s : State) : State :=
  let s := (s.set (posHallAng n) ang).set (posHallHas n) 1
  let s := s.when (hallCoarse n s) (hallAlign n ang)
  let s := s.when (posPrim n s == 4) (fun s => speedEdge n t (!up) (travelMove n (if up then 1 else -1) s))
  if s.flag (posHallOut n) then
    let s := s.set (posHallSeq n) (min 6 (s.get (posHallSeq n) + 1))
    s.when (s.get (posHallSeq n) == 6) (fun s =>
      ((s.set (posHallOut n) 0).set (posHallSeq n) 0).when (s.get (POS_XCHK_SRC n) == 1) (fun s => s.set (posXRun n) 0))
  else s.when (s.get (POS_XCHK_SRC n) == 1 && posPrim n s != 4) (crossCheck n ang t)

/-- A change from sector `j` to sector `k`, stamped at instant `t` (R147, R148). One that skips a sector has no edge angle: it compares
nothing, and the run of mismatches stands (log entry 114). -/
def hallChange (n t j k : Nat) (s : State) : State :=
  let s := s.when (k != j) (fun s => (s.set (posHallPrev n) (j + 1)).set (posHallAt n) (t + 1))
  if k = j then s
  else if k = (j + 1) % 6 then hallStep n t ((hallEdgeAngle k + s.get (POS_HALL_CFG_OFS n)) % 65536) true s
  else if j = (k + 1) % 6 then hallStep n t ((hallEdgeAngle j + s.get (POS_HALL_CFG_OFS n)) % 65536) false s
  else
    let s := ((s.inc (POS_HALL_STAT_SKIP n)).set (posHallSeq n) 0).set (posHallHas n) 0
    s.when (posPrim n s == 4) (speedRestart n t)

/-- HALL_EDGE (R146 to R148): the filtered code after the change. Its instant is the accepting tick less the filter (log entry 84). -/
def execHallEdge (n : Fin 4) (code : BitVec 3) (s : State) : Out :=
  ok <|
    if hallsRun n s then
      match hallSector code.toNat with
      | none => s
      | some k =>
        let old := hallSector (s.get (POS_HALL_STAT_CODE n))
        let s := ((s.set (POS_HALL_STAT_CODE n) code.toNat).set (POS_HALL_STAT_ILLNOW n) 0).set (posIllDone n) 0
        match old with
        | none => s
        | some j => hallChange n (s.now - 20 * s.get (POS_HALL_CFG_FILT n)) j k s
    else s

/-- EV_HALL_ILLEGAL (R148): an illegal code appears; the last valid code is held. -/
def execEvHallIllegal (n : Fin 4) (s : State) : Out :=
  ok (s.when (hallsRun n s && !s.flag (POS_HALL_STAT_ILLNOW n)) (fun s =>
    let s := ((s.set (POS_HALL_STAT_ILLNOW n) 1).inc (POS_HALL_STAT_ILL n)).set (posHallSeq n) 0
    raiseStall n 0x3B ((s.set (posHallIllAt n) s.now).set (posIllDone n) 0)))

/-- An illegal code has lasted for `ILL_TO` x 10 us (R148). -/
def hallIllegal (n : Nat) (s : State) : State :=
  let s := s.set (posIllDone n) 1
  if posPrim n s = 4 then sensorFailed n 7 s
  else
    let s := (s.set (posHallOut n) 1).set (posHallSeq n) 0
    raiseStallFault n 3 7 .ride (s.when (s.get (POS_XCHK_SRC n) == 1) (fun s => s.set (posXRun n) 0))

/-- HALL_ILLEGAL_TIMEOUT (R148), once for each illegal code. -/
def execHallIllegalTimeout (n : Fin 4) (s : State) : Out :=
  ok (s.when (hallsRun n s && s.flag (POS_HALL_STAT_ILLNOW n) && !s.flag (posIllDone n) &&
    decide (s.get (posHallIllAt n) + 2000 * s.get (POS_HALL_CFG_ILL_TO n) ≤ s.now)) (hallIllegal n))

/-! ### SSI (R149 to R151) -/

/-- Gray code of `k` bits to binary. -/
def grayDecode : Nat → Nat → Nat
  | 0, v => v
  | k + 1, v => grayDecode k (v ^^^ (v / 2 ^ (2 ^ k)))

/-- Position field of a frame of `raw` bits. -/
def ssiField (n raw : Nat) (s : State) : Nat :=
  let x := s.get (POS_SSI_CFG_ERRB n) + s.get (POS_SSI_CFG_PAR n)
  let p := s.get (POS_SSI_CFG_BITS n) - x
  let v := bits raw x p
  if s.flag (POS_SSI_CFG_GRAY n) then grayDecode 5 v else v

/-- Whether a frame is in error: its error bit, its parity, or a jump from the previous frame that was not discarded (R151). -/
def ssiBad (n raw v : Nat) (s : State) : Bool :=
  let st := s.get (POS_SSI_CFG_ST n)
  let par := s.get (POS_SSI_CFG_PAR n)
  let prev := s.get (posSsiPrev n)
  (s.flag (POS_SSI_CFG_ERRB n) && bitAt raw par) || (par == 1 && popCount 32 raw % 2 == 1) ||
    (prev != 0 && decide (s.get (POS_SSI_TIM_JUMP n) < (sext st (wrap st ((v : Int) - (prev - 1 : Nat)))).natAbs))

/-- The tracking observer of an SSI sensor takes the angle `th` latched at instant `at_`; the first good frame seeds it (R162; log entry
29). -/
def ssiTrack (n th at_ : Nat) (s : State) : State :=
  if s.flag (posSsiGood n) then
    let om := s.getF (posOmega n)
    let dt := secs ((at_ : Int) - s.get (posUpdAt n))
    let p := (s.get (posTrk n) : Int) + turn24 (F32.mul om dt)
    let new := trackStep (s.get (POS_SPD_CFG_FN n)) dt p om (rad24 (sext 24 (wrap 24 ((th : Int) - p))))
    (s.set (posTrk n) new.1).setF (posOmega n) new.2
  else (s.set (posTrk n) th).set (posOmega n) 0

/-- A good frame: angle, travel, speed, grade (R151, R156, R162). -/
def ssiGood (n v : Nat) (s : State) : State :=
  let st := s.get (POS_SSI_CFG_ST n)
  let p := s.get (POS_SSI_CFG_BITS n) - s.get (POS_SSI_CFG_ERRB n) - s.get (POS_SSI_CFG_PAR n)
  let th : Nat := v % 2 ^ st * 2 ^ 24 / 2 ^ st
  let at_ := s.get (posSsiAt n)
  let prev := s.get (posSsiPrev n)
  let s := ssiTrack n th at_ s
  let s := s.when (prev != 0) (travelMove n (sext p (wrap p ((v : Int) - (prev - 1 : Nat)))))
  let s := ((s.set (posTheta n) th).set (posUpdAt n) at_).set (posSsiPrev n) (v + 1)
  stillFollow n ((s.set (posSsiGood n) 1).set (posSsiErrRun n) 0)

/-- A frame of `r` is judged and delivered or discarded (R150, R151). -/
def ssiFrame (n r : Nat) (s : State) : State :=
  let v := ssiField n r s
  let s := ((s.set (posSsiBusy n) 0).set (posSsiEnd n) (ssiLastEdge n s + 1)).set (POS_SSI_RAW_RAW n) r
  if ssiBad n r v s then
    let s := (s.inc (POS_SSI_STAT_ERRS n)).inc (posSsiErrRun n)
    s.when (decide (s.get (POS_SSI_TIM_ERR_N n) ≤ s.get (posSsiErrRun n))) (sensorFailed n 8)
  else ssiGood n v s

/-- SSI_FRAME (R149 to R151): the bits of a whole frame, right-aligned, at the earliest when its last bit has been sampled. -/
def execSsiFrame (n : Fin 4) (raw : BitVec 32) (s : State) : Out :=
  ok (s.when (posOn n s && s.flag (posSsiBusy n) && decide (ssiLastEdge n s + s.get (POS_SSI_TIM_DLY n) ≤ s.now))
    (ssiFrame n (raw.toNat % 2 ^ s.get (POS_SSI_CFG_BITS n))))

/-! ### SENT (R152 to R155) -/

/-- CRC-4 of data nibbles (R153). -/
def sentCrc (recommended : Bool) (l : List Nat) : Nat :=
  let c := l.foldl (fun c d => crcBits 4 0xD 4 c ^^^ (d % 16)) 5
  if recommended then crcBits 4 0xD 4 c else c

/-- CRC-6 of the 24 bits of an enhanced serial message, bits 2 and 3 of frames 7 to 18 in turn (log entry 31). -/
def sentCrc6 (b2 b3 : Nat) : Nat :=
  let l := (List.range 12).flatMap (fun i => [bitAt b2 (11 - i), bitAt b3 (11 - i)])
  let c := l.foldl (fun c b => crcBits 6 0x19 1 c ^^^ b.toNat) 0b010101
  crcBits 6 0x19 6 c

/-- One status nibble of the slow channel: a complete message with a valid CRC-6 is written (R154). -/
def sentSlow (n st : Nat) (s : State) : State :=
  let b2 := (s.get (posSlow2 n) * 2 + (bitAt st 2).toNat) % 2 ^ 18
  let b3 := (s.get (posSlow3 n) * 2 + (bitAt st 3).toNat) % 2 ^ 18
  let k := min 18 (s.get (posSlowN n) + 1)
  let s := ((s.set (posSlow2 n) b2).set (posSlow3 n) b3).set (posSlowN n) k
  if k = 18 ∧ bits b3 11 7 = 0b1111110 ∧ !bitAt b3 5 ∧ !bitAt b3 0 then
    let s := s.set (posSlowN n) 0
    if bits b2 12 6 = sentCrc6 b2 b3 then
      let c := (bitAt b3 10).toNat
      let idHi := bits b3 6 4
      let idLo := bits b3 1 4
      let s := s.when (s.flag (SENT_STAT_NEW_SLOW n)) (fun s => s.inc (SENT_STAT_OVR n))
      let s := (s.set (SENT_SLOW_C n) c).set (SENT_SLOW_ID n) (if c = 1 then idHi else idHi * 16 + idLo)
      let s := s.set (SENT_SLOW_DATA n) (if c = 1 then idLo * 4096 + bits b2 0 12 else bits b2 0 12)
      raiseStall n 0x37 (s.set (SENT_STAT_NEW_SLOW n) 1)
    else s.inc (SENT_ERR_SCRC n)
  else s

/-- The SENT angle of the last frame (R168); fewer than three data nibbles are followed by zeros (log entry 114). -/
def sentAngle (n : Nat) (s : State) : Nat :=
  let d := s.get (SENT_FAST_DATA n)
  let dn := s.get (SENT_CFG_DN n)
  let top := if 3 ≤ dn then d / 16 ^ (dn - 3) % 4096 else d * 16 ^ (3 - dn) % 4096
  (s.get (SENT_ANG_RATIO n) * top * 16 + s.get (SENT_ANG_OFS n)) % 65536

/-- An accepted frame whose sync pulse fell at instant `t` (R154, R155, R168). -/
def sentAccept (n t st data : Nat) (s : State) : State :=
  let s := ((s.set (SENT_FAST_STATUS n) st).set (SENT_FAST_DATA n) data).set (SENT_STAT_NEW_FAST n) 1
  let s := s.setWide (SENT_FAST_TB_LO_TB n) (SENT_FAST_TB_HI_TB n) t
  let was := s.flag (SENT_STAT_LOST n)
  let s := ((s.set (SENT_STAT_LOST n) 0).set (posSentAt n) s.now).when (was && s.get (POS_XCHK_SRC n) == 2) (fun s => s.set (posXRun n) 0)
  let s := s.when (s.flag (SENT_CFG_SLOW_EN n)) (sentSlow n st)
  s.when (s.get (POS_XCHK_SRC n) == 2 && s.get (SENT_ANG_RATIO n) != 0 && posOn n s)
    (crossCheck n (sentAngle n s) (t - 200 * s.get (SENT_ANG_LAT n)))

/-- SENT_FRAME (R153, R154): length of the sync pulse in ticks, nibble widths in SENT ticks (status, data, CRC), the pause
pulse's width, and the ticks since the sync pulse's falling edge. -/
def execSentFrame (n : Fin 4) (sync : BitVec 24) (widths : List (BitVec 16)) (pause : Option (BitVec 16)) (age : BitVec 32)
    (s : State) : Out :=
  let nom := 1120 * s.get (SENT_TICK_TICK n)
  let y := sync.toNat
  let prev := s.get (posSentSync n)
  let dn := s.get (SENT_CFG_DN n)
  let far := fun (a b : Nat) => (((a : Int) - b).natAbs)
  let syncOk := decide (5 * far y nom ≤ nom) && (prev == 0 || decide (64 * far y prev ≤ prev))
  let nibOk := widths.length == dn + 2 && widths.all (fun w => decide (12 ≤ w.toNat) && decide (w.toNat ≤ 27)) &&
    (match pause with
     | none => true
     | some p => s.flag (SENT_CFG_PAUSE n) && decide (12 ≤ p.toNat) && decide (p.toNat ≤ 768))
  let nibs := widths.map (fun w => w.toNat - 12)
  let data := (nibs.drop 1).take dn
  let crcOk := nibs.getD (dn + 1) 16 == sentCrc (s.flag (SENT_CFG_CRCM n)) data
  ok <|
    if s.flag (POS_CTRL_SENT_EN n) then
      let s := s.set (posSentSync n) y
      if !syncOk then (s.inc (SENT_ERR_SYNC n)).set (posSlowN n) 0
      else if !nibOk then (s.inc (SENT_ERR_NIB n)).set (posSlowN n) 0
      else if !crcOk then (s.inc (SENT_ERR_CRC n)).set (posSlowN n) 0
      else sentAccept n (s.now - age.toNat) (nibs.getD 0 0) (data.foldl (fun a d => a * 16 + d) 0) s
    else s

/-- SENT_TIMEOUT (R155). -/
def execSentTimeout (n : Fin 4) (s : State) : Out :=
  ok (s.when (s.flag (POS_CTRL_SENT_EN n) && !s.flag (SENT_STAT_LOST n) &&
      decide (s.get (posSentAt n) + 200 * s.get (SENT_TO_TO n) ≤ s.now))
    (fun s => raiseStallFault n 3 0x10 .ride (raiseStall n 0x36
      ((s.set (SENT_STAT_LOST n) 1).when (s.get (POS_XCHK_SRC n) == 2) (fun s => s.set (posXRun n) 0)))))

/-! ### Probe (R159) and standstill (R160, R162) -/

/-- Travel units to one electrical radian. -/
def unitsPerRad (n : Nat) (s : State) : F32 :=
  let r := F32.mul twoPi (F32.ofInt (s.get (POS_SCALE_RATIO n)))
  match posPrim n s with
  | 1 => F32.div (F32.ofInt 65536) r
  | 3 => F32.div (F32.ofInt (2 ^ s.get (POS_SSI_CFG_ST n))) r
  | _ => F32.div F32.one (countAngle n s)

/-- Travel since the last count or update at instant `t`, in 1/256 units (R159). -/
def travelFrac (n t : Nat) (s : State) : Int :=
  let last := if edgeSensor n s then s.get (posEdgeAt n) - 1 else s.get (posUpdAt n)
  let x := F32.toIntDown (F32.mul (F32.mul (F32.mul (speedAt n t s) (secs ((t : Int) - last))) (unitsPerRad n s)) (F32.ofInt 256))
  if edgeSensor n s then max (-255) (min 255 x) else x

/-- The probe latches the values of instant `t` (R159): θe is interpolated whatever `INTERP`. -/
def probeLatch (n t : Nat) (s : State) : State :=
  let x := travel n s * 256 + travelFrac n t s
  let s := s.setWide (POS_PRB_TB_LO_TB n) (POS_PRB_TB_HI_TB n) t
  let s := (s.set (POS_PRB_ANG_ANGLE n) (thetaNow n t true s)).set (POS_PRB_ANG_FRAC n) (wrap 8 x)
  let s := s.setWide (POS_PRB_TRAVEL_LO_TRAVEL n) (POS_PRB_TRAVEL_HI_TRAVEL n) (wrap 48 (x / 256))
  raiseStall n 0x3F (s.set (POS_PRB_STAT_FULL n) 1)

/-- PROBE_EDGE (R159): an edge accepted after `FILT` ticks, rising or falling. -/
def execProbeEdge (n : Fin 4) (rising : Bool) (s : State) : Out :=
  let e := s.get (POS_PRB_CFG_EDGE n)
  ok (s.when (s.flag (POS_CTRL_PRB_EN n) && (e == 2 || (e == 0) == rising)) (fun s =>
    if s.flag (POS_PRB_STAT_FULL n) then s.inc (POS_PRB_STAT_MISS n) else probeLatch n (s.now - s.get (POS_PRB_CFG_FILT n)) s))

/-- PROBE_REARM (R159): a W1C clear of `FULL`. -/
def execProbeRearm (n : Fin 4) (s : State) : Out := stallWrite n (fun s => ok (busOk (s.set (POS_PRB_STAT_FULL n) 0))) s

/-- Whether the standstill timeout of port `n` is over: no edge for it, or as long below the threshold (R160, R162). An edge of the same
tick, still in the queue, counts instead. -/
def stillOver (n : Nat) (s : State) : Bool :=
  let wait := 20000 * s.get (POS_SPD_CFG_STILL_TO n)
  if edgeSensor n s then
    s.get (POS_SPD_STAT_MODE n) != 0 && decide (s.get (posEdgeAt n) - 1 + wait ≤ s.now) &&
      !(if posPrim n s = 4 then hallEdgeWaits n s else encoderEdgeWaits n s)
  else s.get (posLowAt n) != 0 && decide (s.get (posLowAt n) - 1 + wait ≤ s.now)

/-- STILL_TIMEOUT (R160, R162). -/
def execStillTimeout (n : Fin 4) (s : State) : Out :=
  ok (s.when (posOn n s && stillOver n s) (fun s =>
    (s.when (edgeSensor n s) (fun s => (s.set (POS_SPD_STAT_MODE n) 0).set (POS_SPD_STAT_VALID n) 1)).set (POS_SPD_STAT_STILL n) 1))

/-! ### The back-EMF observer (R163 to R167) -/

/-- The observer tracks the vector (`ea`, `eb`) over `dt` seconds (R163, R164). A vector of length 0 has no angle (log entry 2); the speed
that R164 compares is the observer's own (log entry 85). -/
def bemfTrack (n : Nat) (ea eb dt : F32) (s : State) : State :=
  let om := s.getF (POS_BEMF_SPD_SPD n)
  let p := (s.get (bemfTheta n) : Int) + turn24 (F32.mul om dt)
  let mag := F32.sqrt (F32.add (F32.mul ea ea) (F32.mul eb eb))
  let ang := if F32.isZero mag then (Config.fresh s.freeCount).toInt else turn24 (F32.atan2 eb ea)
  let s := if F32.isZero mag then s.draw else s
  let e := rad24 (sext 24 (wrap 24 (ang - p)))
  let new := trackStep (s.get (POS_BEMF_CFG_FN n)) dt p om e
  let s := (s.set (bemfTheta n) new.1).setF (POS_BEMF_SPD_SPD n) new.2
  let good := F32.le (s.getF (POS_BEMF_TAKE_TAKE n)) (F32.abs new.2) && F32.le (s.getF (POS_BEMF_EMIN_EMIN n)) mag &&
    F32.lt (F32.abs e) 0x3E32B8C2#32
  if good then (s.set (bemfGood n) (min 256 (s.get (bemfGood n) + 1))).set (bemfBad n) 0
  else (s.set (bemfGood n) 0).set (bemfBad n) (min 16 (s.get (bemfBad n) + 1))

/-- One period of the observer, at the trigger of its computation: voltages and currents in the stationary frame (R163). The first period
after a start of the engines has no earlier current: it seeds the observer. -/
def bemfPeriod (n : Nat) (va vb ia ib : F32) (s : State) : State :=
  if s.flag (POS_BEMF_CFG_EN n) then
    let at_ := s.get (loopLawAt n)
    let dt := secs ((at_ : Int) - s.get (bemfAt n))
    let rs := s.getF (POS_BEMF_RS_RS n)
    let ls := s.getF (POS_BEMF_LS_LS n)
    let back := fun v i (prev : F32) => F32.sub (F32.sub v (F32.mul rs i)) (F32.mul ls (F32.div (F32.sub i prev) dt))
    let s := if s.flag (bemfHas n) then bemfTrack n (back va ia (s.getF (bemfIa n))) (back vb ib (s.getF (bemfIb n))) dt s
      else (s.set (bemfTheta n) 0).setF (POS_BEMF_SPD_SPD n) F32.zero
    (((s.setF (bemfIa n) ia).setF (bemfIb n) ib).set (bemfAt n) at_).set (bemfHas n) 1
  else s

/-- The comparison of the observer with the sensor in one period; a period without one ends the run (R167). -/
def bemfCompare (n : Nat) (s : State) : State :=
  if s.get (POS_ANG_QUAL n) = 2 ∧ s.flag (POS_BEMF_STAT_QUAL n) ∧ s.get (POS_STAT_SRC n) = 0 then
    let d := angDiff (s.get (POS_BEMF_STAT_ANGLE n)) (s.get (POS_ANG_ANGLE n))
    let s := s.seti (POS_BEMF_DIFF_DIFF n) d
    if s.get (POS_BEMF_TOL_TOL n) < d.natAbs then
      let was := s.get (bemfDiffRun n)
      let s := s.set (bemfDiffRun n) (min 15 (was + 1))
      s.when (was + 1 == s.get (POS_BEMF_CFG_DIFF_N n)) (fun s => raiseStallFault n 3 0x0A .ride (raiseStall n 0x3C (s.set (posMismSeen n) 1)))
    else s.set (bemfDiffRun n) 0
  else s.set (bemfDiffRun n) 0

/-- `QUAL` of the observer clears; an observer in use is lost (R164, R166). -/
def bemfUnqual (n : Nat) (s : State) : State := observerLost n (bemfClear n s)

/-- BEMF_QUAL_SET (R164): after 256 qualifying periods. -/
def execBemfQualSet (n : Fin 4) (s : State) : Out :=
  ok (s.when (s.get (bemfGood n) == 256 && loopRuns n s) (fun s => s.set (POS_BEMF_STAT_QUAL n) 1))

/-- BEMF_QUAL_CLEAR (R164, R166): after 16 failing periods. -/
def execBemfQualClear (n : Fin 4) (s : State) : Out :=
  ok (s.when (s.get (bemfBad n) == 16 && s.flag (POS_BEMF_STAT_QUAL n)) (bemfUnqual n))

end Sys2Proof.Machine
end

