-- ==== Sys2Proof/Machine/Loop.lean ====
section
/-!
DEFINITION. The loop engines (06_loop_engine): starting and stopping, the control law, the parameter banks, the slack monitor and
late results, the pair compare with recovery and the Remount, and the references.
-/

namespace Sys2Proof.Machine
open Reg

def loopCmd (n : Nat) : CmdReg := ⟨LOOP_CMD_CODE n, LOOP_CMD_STATUS n⟩

/-! ### Constants and small functions of the law (R175) -/

/-- The square root of 3, 30° and 60° in radians, 1/2, 2, 3 and -1, as binary32. -/
def sqrt3 : F32 := 0x3FDDB3D7#32
def deg30 : F32 := 0x3F060A92#32
def half : F32 := 0x3F000000#32
def two : F32 := 0x40000000#32
def three : F32 := 0x40400000#32
def minusOne : F32 := 0xBF800000#32

/-- The sign of a value: -1, 0 or 1. -/
def signF (x : F32) : Int := if F32.lt F32.zero x then 1 else if F32.lt x F32.zero then -1 else 0

/-- A number of fine steps (78.125 ps) in seconds. -/
def fineSecs (k : Nat) : F32 := F32.ofRat ((k : Int) * 78125) (10 ^ 15)

/-- A number of nanoseconds in seconds. -/
def nsSecs (k : Nat) : F32 := F32.ofRat k (10 ^ 9)

/-! ### Parameter banks (R186, R187) -/

/-- The binary32 scalars of bank `b`. -/
def bankScalars (n b : Nat) : List Fld :=
  [LOOP_Pb_GT_XMAX_D_X n b, LOOP_Pb_GT_XMAX_Q_X n b, LOOP_Pb_AW_AW n b, LOOP_Pb_ILIM_D_L n b, LOOP_Pb_ILIM_Q_L n b,
   LOOP_Pb_LD_LD n b, LOOP_Pb_LQ_LQ n b, LOOP_Pb_PSI_PSI n b, LOOP_Pb_MMAX_M n b, LOOP_Pb_VDC_MIN_V n b, LOOP_Pb_ADV_T n b,
   LOOP_Pb_SPD_KP_K n b, LOOP_Pb_SPD_KI_K n b, LOOP_Pb_SPD_KA_K n b, LOOP_Pb_IQ_MAX_I n b, LOOP_Pb_FERR_LIM_I n b,
   LOOP_Pb_DTC_T0_T n b, LOOP_Pb_DTC_BAND_I n b, LOOP_Pb_OVM_M1_M n b, LOOP_Pb_DTA_TARGET_T n b, LOOP_Pb_DTA_MAX_T n b]

/-- The table entries of bank `b`. -/
def bankTables (n b : Nat) : List Fld :=
  (List.range 64).flatMap (fun j => [LOOP_Pb_GTD_KPj_KP n b j, LOOP_Pb_GTD_KIj_KI n b j, LOOP_Pb_GTQ_KPj_KP n b j, LOOP_Pb_GTQ_KIj_KI n b j])

/-- The fields that must not be negative. -/
def bankNonNeg (n b : Nat) : List Fld :=
  [LOOP_Pb_ILIM_D_L n b, LOOP_Pb_ILIM_Q_L n b, LOOP_Pb_PSI_PSI n b, LOOP_Pb_SPD_KP_K n b, LOOP_Pb_SPD_KI_K n b,
   LOOP_Pb_SPD_KA_K n b, LOOP_Pb_IQ_MAX_I n b, LOOP_Pb_FERR_LIM_I n b, LOOP_Pb_DTC_T0_T n b, LOOP_Pb_DTC_BAND_I n b,
   LOOP_Pb_DTA_TARGET_T n b, LOOP_Pb_DTA_MAX_T n b] ++ bankTables n b

/-- Whether bank `b` of Stall `n` passes its checks (R187). -/
def bankOk (n b : Nat) (s : State) : Bool :=
  let x := fun f => s.getF f
  let ovm := s.flag (LOOP_LAW_CFG_OVM_EN n)
  let mmax := x (LOOP_Pb_MMAX_M n b)
  (bankScalars n b ++ bankTables n b).all (fun f => F32.isFinite (x f)) &&
  (bankNonNeg n b).all (fun f => F32.le F32.zero (x f)) &&
  [LOOP_Pb_GT_XMAX_D_X n b, LOOP_Pb_GT_XMAX_Q_X n b, LOOP_Pb_LD_LD n b, LOOP_Pb_LQ_LQ n b, LOOP_Pb_MMAX_M n b].all
    (fun f => F32.lt F32.zero (x f)) &&
  F32.le F32.zero (x (LOOP_Pb_AW_AW n b)) && F32.le (x (LOOP_Pb_AW_AW n b)) F32.one &&
  F32.le F32.one (x (LOOP_Pb_VDC_MIN_V n b)) &&
  F32.le F32.zero (x (LOOP_Pb_ADV_T n b)) && F32.le (x (LOOP_Pb_ADV_T n b)) (F32.ofRat 1 1000) &&
  F32.le mmax (if ovm then F32.ofRat 11027 10000 else F32.one) &&
  (!ovm || (F32.le F32.one (x (LOOP_Pb_OVM_M1_M n b)) && F32.le (x (LOOP_Pb_OVM_M1_M n b)) mmax)) &&
  decide (s.get (LOOP_Pb_CFG_MOD n b) ≤ 4)

/-! ### The law (R176 to R191) -/

/-- The results of one period: readbacks, new state words, duties as compares, and what the pair compares at stage 10. -/
structure Law where
  id    : F32
  iq    : F32
  vd    : F32
  vq    : F32
  intD  : F32
  intQ  : F32
  intW  : F32
  iqSpd : F32
  /-- compares of the three half-bridges, fine steps -/
  cmps  : List Nat
  /-- filtered gaps -/
  gaps  : List F32
  /-- adapted dead times, fine steps; 0 while the bank does not adapt -/
  dts   : List Nat
  vsat  : Bool
  above : Bool
  derate : Bool
  finite : Bool
  /-- the bank adapts the dead times (R191) -/
  adapts : Bool
  /-- stationary-frame voltage, from the duties after dead-time compensation, and current, for the back-EMF observer -/
  va : F32
  vb : F32
  ia : F32
  ib : F32
  deriving DecidableEq, Repr

/-- Gain lookup of one axis (R178): `KP` and `KI` at index quantity `x`. -/
def gainLookup (xmax : F32) (kp ki : Nat → Fld) (x : F32) (s : State) : F32 × F32 :=
  let r := F32.div x xmax
  let p := F32.mul (F32.min r F32.one) (F32.ofInt 63)
  let j := (F32.toIntDown p).toNat
  if !F32.isFinite r then (F32.nan, F32.nan)
  else if 63 ≤ j then (s.getF (kp 63), s.getF (ki 63))
  else
    let f := F32.sub p (F32.ofInt j)
    let mix := fun (t : Nat → Fld) =>
      F32.add (s.getF (t j)) (F32.mul f (F32.sub (s.getF (t (j + 1))) (s.getF (t j))))
    (mix kp, mix ki)

/-- The zero sequence (R182). -/
def zeroSeq (mode : Nat) (a b c vdc : F32) : F32 :=
  let hi := F32.max (F32.max a b) c
  let lo := F32.min (F32.min a b) c
  let h := F32.div vdc two
  match mode with
  | 0 => F32.neg (F32.div (F32.add hi lo) two)
  | 1 => F32.zero
  | 2 =>
    let m := F32.max (F32.max (F32.abs a) (F32.abs b)) (F32.abs c)
    let k := if F32.eq (F32.abs a) m then a else if F32.eq (F32.abs b) m then b else c
    F32.sub (F32.mul (F32.ofInt (signF k)) h) k
  | 3 => F32.sub (F32.neg h) lo
  | _ => F32.sub h hi

/-- Overmodulation of a vector beyond the inscribed circle (R183), with the values on the way; `none` for one inside it. -/
def overmodulate (va vb vdc mmax m1 : F32) : Option (F32 × F32 × List F32) :=
  let v := F32.div vdc sqrt3
  let mag := F32.sqrt (F32.add (F32.mul va va) (F32.mul vb vb))
  let m := F32.div mag v
  if F32.lt F32.one m then
    let phi := F32.atan2 vb va
    let edge := fun (x : F32) =>
      F32.add deg30 (F32.mul piThird (F32.ofInt (F32.toIntNear (F32.div (F32.sub x deg30) piThird))))
    let hex := fun (x : F32) => F32.div v (F32.cos (F32.sub x (edge x)))
    let vertex := F32.mul piThird (F32.ofInt (F32.toIntNear (F32.div phi piThird)))
    let f := F32.min (F32.div (F32.sub m m1) (F32.sub mmax m1)) F32.one
    let (r, ang, way) :=
      if F32.le m m1 then (F32.min mag (hex phi), phi, [mag, m, hex phi])
      else let p := F32.add phi (F32.mul f (F32.sub vertex phi)); (hex p, p, [mag, m, F32.div (F32.sub m m1) (F32.sub mmax m1), p, hex p])
    some (F32.mul r (F32.cos ang), F32.mul r (F32.sin ang), way)
  else none

/-- Control period in half fine steps: half the active period when the Stall samples at zero and peak (R179). -/
def controlHalf (n : Nat) (s : State) : Nat := if sampOf n s = 3 then period n s else 2 * period n s

/-- The gap of half-bridge `h` at its edge in this period, `none` without one (R190): dead time plus the incoming switch's turn-on
delay less the outgoing switch's turn-off delay. -/
def edgeGap (n h : Nat) (s : State) : Option F32 :=
  let e := s.get (pwmEdge n h)
  let l := 3 * n + h
  if e = 0 then none
  else
    let high := (e == 2) != bitAt (s.get (PWM_CTRL_CREF n)) h
    let t := fineSecs (deadTime n (if high then 2 * h else 2 * h + 1) s)
    let dOn := if high then REIN_Lh_DLY_HS_ON l else REIN_Lh_DLY_LS_ON l
    let dOff := if high then REIN_Lh_DLY_LS_OFF l else REIN_Lh_DLY_HS_OFF l
    some (F32.sub (F32.add t (nsSecs (s.get dOn))) (nsSecs (s.get dOff)))

/-- Adapted dead time of half-bridge `h` in fine steps (R191): the larger dead time in force, steered, rounded and bounded. -/
def adaptDead (n b h : Nat) (g : F32) (s : State) : Option Nat :=
  let t := max (deadTime n (2 * h) s) (deadTime n (2 * h + 1) s)
  let k := F32.ofInt (2 ^ s.get (LOOP_Pb_CFG_DTC_TAU n b))
  let v := F32.add (fineSecs t) (F32.div (F32.sub (s.getF (LOOP_Pb_DTA_TARGET_T n b)) g) k)
  if F32.isFinite v then
    -- seconds to fine steps: one fine step is 78125 / 10^15 s
    let steps := fun (x : F32) => divRound (F32.val x * 10 ^ 15) (2 ^ 149 * 78125)
    let top := ((F32.val (s.getF (LOOP_Pb_DTA_MAX_T n b)) * 10 ^ 15) / (2 ^ 149 * 78125)).toNat
    some (min 65535 (max (floorFine s) (min top (steps v).toNat)))
  else none

/-- Angle of the engines of Stall `n` in LSB: the lead's port, in a follower minus 30° electrical (R31, R177). -/
def loopAngle (n : Nat) (s : State) : Nat :=
  let a := s.get (POS_ANG_ANGLE (leadOf n s))
  if s.get (PWM_CTRL_PAIR n) = 2 then (a + 65536 - 5461) % 65536 else a

/-- Whether the authorization inhibit acts on Stall `n` (R435): not over a winding discharge. -/
def inhibited (n : Nat) (s : State) : Bool :=
  s.flag AUTH_STAT_INHIBIT && bitAt (s.get AUTH_CFG_MASK) n && s.get (PROT_DIS_STAT_PATH n) != 2

/-- Stage 7 and the acquisition of the references: i_d and i_q references before the derating limit, the new speed integrator and
the value `LOOP_IQ_SPD` takes (R176, R181, R290, R435). -/
def references (n b : Nat) (w ts : F32) (s : State) : F32 × F32 × F32 × F32 :=
  let idr := s.getF (LOOP_ID_REF_REF_ACT n)
  let iw := s.getF (LOOP_INT_W_I n)
  let spd := s.flag (LOOP_LAW_CFG_SPD_EN n)
  if s.get (PROT_DIS_STAT_PATH n) = 2 then (s.getF (PROT_DIS_ID_I n), F32.zero, iw, s.getF (LOOP_IQ_SPD_I n))
  else if inhibited n s then (F32.zero, F32.zero, iw, if spd then F32.zero else s.getF (LOOP_IQ_SPD_I n))
  else if spd then
    let okW := s.flag (POS_SPD_STAT_VALID (leadOf n s))
    let ew := if okW then F32.sub (s.getF (LOOP_W_REF_REF_ACT n)) w else F32.zero
    let out := F32.add (F32.add (F32.mul (s.getF (LOOP_Pb_SPD_KP_K n b)) ew) iw)
      (F32.mul (s.getF (LOOP_Pb_SPD_KA_K n b)) (s.getF (LOOP_A_REF_REF_ACT n)))
    let top := s.getF (LOOP_Pb_IQ_MAX_I n b)
    let iq := clampSym out top
    let iw' :=
      if okW && (F32.eq out iq || signF ew != signF out) then
        let sum := F32.add iw (F32.mul (F32.mul (s.getF (LOOP_Pb_SPD_KI_K n b)) ts) ew)
        if F32.isFinite sum then clampSym sum top else F32.nan
      else iw
    (idr, iq, if F32.isFinite out then iw' else F32.nan, iq)
  else (idr, s.getF (LOOP_IQ_REF_REF_ACT n), iw, s.getF (LOOP_IQ_SPD_I n))

/-- One period of the law in Stall `n` (R175): every stage from the present inputs, state and active bank. -/
def law (n : Nat) (s : State) : Law :=
  let b := s.get (LOOP_STAT_PSET n)
  let x := fun f => s.getF f
  let hold := s.get (PWM_STAT_STATE n) == 3
  let lead := leadOf n s
  let tc := fineSecs (period n s)
  let ts := F32.div (fineSecs (controlHalf n s)) two
  let th := F32.div (F32.mul twoPi (F32.ofInt (loopAngle n s))) (F32.ofInt 65536)
  let w := if s.flag (POS_SPD_STAT_VALID lead) then x (POS_SPD_SPD lead) else F32.zero
  let cur := fun h => x (senQVal n h)
  -- stage 7 and R297
  let (idr0, iqr0, intW, iqSpd) := references n b w ts s
  let mag := F32.sqrt (F32.add (F32.mul idr0 idr0) (F32.mul iqr0 iqr0))
  let lim := x (PROT_DR_LIMIT_I n)
  let derate := F32.lt lim mag
  let k := F32.div lim mag
  let idr := if derate then F32.mul idr0 k else idr0
  let iqr := if derate then F32.mul iqr0 k else iqr0
  -- stage 3 (R177)
  let ia := F32.div (F32.sub (F32.sub (F32.mul two (cur 0)) (cur 1)) (cur 2)) three
  let ib := F32.div (F32.sub (cur 1) (cur 2)) sqrt3
  let id := F32.add (F32.mul ia (F32.cos th)) (F32.mul ib (F32.sin th))
  let iq := F32.add (F32.mul (F32.neg ia) (F32.sin th)) (F32.mul ib (F32.cos th))
  -- stage 4 (R178)
  let ed := F32.sub idr id
  let eq := F32.sub iqr iq
  let byErr := s.flag (LOOP_Pb_CFG_GT_IDX n b)
  let (kpd, kid) := gainLookup (x (LOOP_Pb_GT_XMAX_D_X n b)) (LOOP_Pb_GTD_KPj_KP n b) (LOOP_Pb_GTD_KIj_KI n b)
    (F32.abs (if byErr then ed else idr)) s
  let (kpq, kiq) := gainLookup (x (LOOP_Pb_GT_XMAX_Q_X n b)) (LOOP_Pb_GTQ_KPj_KP n b) (LOOP_Pb_GTQ_KIj_KI n b)
    (F32.abs (if byErr then eq else iqr)) s
  -- stages 5 and 6 (R179, R180)
  let i0d := x (LOOP_INT_D_I n)
  let i0q := x (LOOP_INT_Q_I n)
  let dec := s.flag (LOOP_Pb_CFG_DEC_EN n b)
  let decD := if dec then F32.mul (F32.mul (F32.neg w) (x (LOOP_Pb_LQ_LQ n b))) iq else F32.zero
  let decQ := if dec then F32.mul w (F32.add (F32.mul (x (LOOP_Pb_LD_LD n b)) id) (x (LOOP_Pb_PSI_PSI n b))) else F32.zero
  let ud := F32.add (F32.add (F32.mul kpd ed) i0d) decD
  let uq := F32.add (F32.add (F32.mul kpq eq) i0q) decQ
  let vdc := F32.max (cur 3) (x (LOOP_Pb_VDC_MIN_V n b))
  let vmax := F32.div (F32.mul (x (LOOP_Pb_MMAX_M n b)) vdc) sqrt3
  let vd := clampSym ud vmax
  let vqMax := F32.sqrt (F32.sub (F32.mul vmax vmax) (F32.mul vd vd))
  let vq := clampSym uq vqMax
  let aw := x (LOOP_Pb_AW_AW n b)
  let integ := fun (i0 ki e ul u : F32) => F32.add (F32.add i0 (F32.mul (F32.mul ki ts) e)) (F32.mul aw (F32.sub ul u))
  let sumD := integ i0d kid ed vd ud
  let sumQ := integ i0q kiq eq vq uq
  let intD := clampSym sumD (x (LOOP_Pb_ILIM_D_L n b))
  let intQ := clampSym sumQ (x (LOOP_Pb_ILIM_Q_L n b))
  -- R190
  let tau := F32.ofInt (2 ^ s.get (LOOP_Pb_CFG_DTC_TAU n b))
  let gap := fun h =>
    let g := x (LOOP_DTC_h_G n h)
    match edgeGap n h s with
    | some e => F32.add g (F32.div (F32.sub e g) tau)
    | none => g
  -- stages 8 and 9 (R182, R183)
  let th' := F32.add th (F32.mul w (x (LOOP_Pb_ADV_T n b)))
  let va0 := F32.sub (F32.mul vd (F32.cos th')) (F32.mul vq (F32.sin th'))
  let vb0 := F32.add (F32.mul vd (F32.sin th')) (F32.mul vq (F32.cos th'))
  let mapped := if s.flag (LOOP_LAW_CFG_OVM_EN n) then overmodulate va0 vb0 vdc (x (LOOP_Pb_MMAX_M n b)) (x (LOOP_Pb_OVM_M1_M n b)) else none
  let (va, vb, way) := mapped.getD (va0, vb0, [])
  let mode := if mapped.isSome then 0 else s.get (LOOP_Pb_CFG_MOD n b)
  let ha := F32.div (F32.neg va) two
  let hb := F32.mul (F32.div sqrt3 two) vb
  let p0 := va
  let p1 := F32.add ha hb
  let p2 := F32.sub ha hb
  let v0 := zeroSeq mode p0 p1 p2 vdc
  let dtc := s.flag (LOOP_Pb_CFG_DTC_EN n b)
  let share := fun h => F32.div (cur h) (x (LOOP_Pb_DTC_BAND_I n b))
  let comp := fun h => if dtc then F32.div (F32.mul (clampF (share h) minusOne F32.one) (gap h)) tc else F32.zero
  let ideal := fun h => F32.add half (F32.div (F32.add ([p0, p1, p2].getD h F32.zero) v0) vdc)
  let sum := fun h => if dtc then F32.add (ideal h) (comp h) else ideal h
  let duty := fun h => clampF (sum h) F32.zero F32.one
  -- R184: the high side's compare; with CREF 1 the reference switch is the low side
  let cmp := fun h =>
    let c := (F32.scaleNear (duty h) (period n s)).toNat
    if bitAt (s.get (PWM_CTRL_CREF n)) h then period n s - c else c
  let dta := s.flag (LOOP_Pb_CFG_DTA_EN n b)
  let dts := [0, 1, 2].map (fun h => adaptDead n b h (gap h) s)
  let f := F32.sqrt (F32.add (F32.mul ed ed) (F32.mul eq eq))
  let zero := fun v => if hold then F32.zero else v
  { id := id, iq := iq, vd := vd, vq := vq, intD := zero intD, intQ := zero intQ, intW := zero intW, iqSpd := iqSpd,
    cmps := [0, 1, 2].map cmp, gaps := [0, 1, 2].map gap, dts := dts.map (fun d => if dta then d.getD 0 else 0),
    vsat := F32.lt vd ud || F32.lt ud vd || F32.lt vq uq || F32.lt uq vq,
    above := F32.lt (x (LOOP_Pb_FERR_LIM_I n b)) f, derate := derate,
    finite := ([cur 0, cur 1, cur 2, cur 3, id, iq, idr0, iqr0, mag, idr, iqr, intW, iqSpd, ia, ib, ed, eq, kpd, kid, kpq, kiq, ud, uq, vdc, vmax, vqMax, vd, vq,
      sumD, sumQ, th', va0, vb0, va, vb, p1, p2, v0, sum 0, sum 1, sum 2, comp 0, comp 1, comp 2, gap 0, gap 1, gap 2, f].all F32.isFinite) &&
      way.all F32.isFinite && (!dtc || [0, 1, 2].all (fun h => F32.isFinite (share h))) &&
      (!dta || dts.all (fun d => d.isSome)),
    adapts := dta,
    va := F32.mul vdc (F32.div (F32.sub (F32.sub (F32.mul two (duty 0)) (duty 1)) (duty 2)) three)
    vb := F32.mul vdc (F32.div (F32.sub (duty 1) (duty 2)) sqrt3), ia := ia, ib := ib }

/-- The results as words, for the period under recovery (R193), and back. -/
def Law.words (l : Law) : List Nat :=
  [l.id, l.iq, l.vd, l.vq, l.intD, l.intQ, l.intW, l.iqSpd, l.va, l.vb, l.ia, l.ib].map (fun v => v.toNat) ++
    l.gaps.map (fun v => v.toNat) ++ l.cmps ++ l.dts ++ [l.vsat.toNat, l.above.toNat, l.derate.toNat, l.finite.toNat, l.adapts.toNat]

def Law.ofWords (w : Nat → Nat) : Law :=
  let f := fun i => (BitVec.ofNat 32 (w i) : F32)
  { id := f 0, iq := f 1, vd := f 2, vq := f 3, intD := f 4, intQ := f 5, intW := f 6, iqSpd := f 7, va := f 8, vb := f 9, ia := f 10,
    ib := f 11, gaps := [f 12, f 13, f 14], cmps := [w 15, w 16, w 17], dts := [w 18, w 19, w 20], vsat := w 21 == 1,
    above := w 22 == 1, derate := w 23 == 1, finite := w 24 == 1, adapts := w 25 == 1 }

/-- Keep the results of the period under recovery. -/
def keepLaw (n : Nat) (l : Law) (s : State) : State :=
  (List.zip (List.range 26) l.words).foldl (fun s p => s.set (loopRes n p.1) p.2) s

/-! ### Writing a result (R184, R189, R193) -/

/-- Stage 11 and the new checkpoint of a period whose result is written: readbacks, state words, shadows and selects; the runs of R164 pass
over any other period (log entry 114). In a safe state the integrators stay 0 and no shadow is written (R174). -/
def lawCommit (n : Nat) (l : Law) (s : State) : State :=
  let hold := s.get (PWM_STAT_STATE n) == 3
  let z := fun v => if hold then F32.zero else v
  let s := (((s.setF (LOOP_ID_MEAS_I n) l.id).setF (LOOP_IQ_MEAS_I n) l.iq).setF (LOOP_VD_CMD_V n) l.vd).setF (LOOP_VQ_CMD_V n) l.vq
  let s := ((s.setF (LOOP_INT_D_I n) (z l.intD)).setF (LOOP_INT_Q_I n) (z l.intQ)).setF (LOOP_INT_W_I n) (z l.intW)
  let s := (s.setF (LOOP_IQ_SPD_I n) l.iqSpd).each [0, 1, 2] (fun h s =>
    (s.setF (LOOP_DTC_h_G n h) (l.gaps.getD h F32.zero)).set (pwmEdge n h) 0)
  let s := s.when (!hold) (fun s => s.each [0, 1, 2] (fun h s =>
    (s.set (PWM_CMPh_CMP n h) (l.cmps.getD h 0)).setBit (pwmPendSet n) (1 + h) true))
  let s := s.when (!hold && l.adapts) (fun s => s.each [0, 1, 2] (fun h s =>
    let d := l.dts.getD h 0
    (((s.set (PWM_DTh_DTR n h) d).set (PWM_DTh_DTF n h) d).set (LOOP_DTA_h_DT n h) d).setBit (pwmPendSet n) (4 + h) true))
  let s := selectsNext n s
  let wasSat := s.flag (LOOP_STAT_VSAT n)
  let s := (s.setB (LOOP_STAT_VSAT n) l.vsat).when (l.vsat && !wasSat) (raiseStall n 0x15)
  let wasDer := s.flag (PROT_DR_STAT_ACTIVE n)
  let s := (s.setB (PROT_DR_STAT_ACTIVE n) l.derate).when (l.derate && !wasDer) (raiseStall n 0x1F)
  let wasOver := s.flag (LOOP_STAT_FERR n)
  let t := if l.above then clampU 40 (s.get (loopFerr n) + controlHalf n s) else 0
  let s := ((s.setB (LOOP_STAT_FERR n) l.above).set (loopFerr n) t).set (LOOP_FERR_STAT_TIME n) (clampU 16 (t / 25600))
  let s := s.when l.above (fun s => s.inc (LOOP_FERR_STAT_EXCEED n))
  let s := s.when (!l.above) (fun s => s.set (loopFerrDone n) 0)
  let s := s.when (l.above && !wasOver) (raiseStall n 0x14)
  bemfCompare n (bemfPeriod n l.va l.vb l.ia l.ib s)

/-! ### Slack and late results (R66, R67) -/

/-- A slack of `sl` ticks against the deadline `dl` (fine steps) is recorded. -/
def slackRecord (n : Nat) (sl : Int) (dl : Nat) (s : State) : State :=
  let v := clampS 24 sl
  let s := ((s.seti (LOOP_SLACK_LAST_SLACK n) v).set (loopSlackAt n) (s.now + 1)).set (loopSlackDl n) (dl / 64)
  let s := s.when (decide (v < s.geti (LOOP_SLACK_MIN_MIN n))) (fun s =>
    (s.seti (LOOP_SLACK_MIN_MIN n) v).setWide (LOOP_SLACK_MIN_TB_LO_TB n) (LOOP_SLACK_MIN_TB_HI_TB n) (dl / 64))
  s.when (decide (v < s.geti (LOOP_SLACK_WARN_THRESH n))) (raiseStall n 0x11)

/-- One late period is counted; a run of `LIMIT` or more raises cause 0x20 once (R67). -/
def lateCount (n : Nat) (s : State) : State :=
  let s := raiseStall n 0x10 ((s.inc (LOOP_LATE_COUNT_COUNT n)).inc (LOOP_LATE_RUN_RUN n))
  let lim := if s.get (LOOP_LATE_CFG_LIMIT n) = 0 then 16 else s.get (LOOP_LATE_CFG_LIMIT n)
  s.when (decide (lim ≤ s.get (LOOP_LATE_RUN_RUN n)) && !s.flag (loopLateSeen n))
    (fun s => raiseStallFault n 4 0x20 .stallSafe (s.set (loopLateSeen n) 1))

/-- An on-time period ends the run of late ones (R67). -/
def lateClear (n : Nat) (s : State) : State := (s.set (LOOP_LATE_RUN_RUN n) 0).set (loopLateSeen n) 0

/-- Deadline of the computation under way, fine steps: the next load instant after its trigger (R66, R205). -/
def deadline (n : Nat) (s : State) : Nat :=
  let z := s.get (pwmZeroAt n)
  let p := period n s
  match sampOf n s with
  | 3 => if s.flag (loopPeak n) then z + p else z + p / 2
  | 2 => if s.get (loopTrigAt n) < z / 64 then z + p / 2 else z + p + p / 2
  | _ => z + p

/-- The `PERIOD` record of the Logbook (R383). -/
def periodRecord (n : Nat) (late rcv : Bool) (s : State) : State :=
  s.when (bitAt (s.get LOGBOOK_CTRL_PERIOD) n) (fun s =>
    let raw := fun c => s.get (SENSE_Cc_RAW_RAW n c)
    let m := fun i => s.get (MOD_INi_MAIN_RAW n i)
    let w4 := ((List.range 4).map (fun c => s.get (SENSE_Cc_RAW_CH n c) * 16 ^ c)).sum + 2 ^ 16 * s.get (PWM_STAT_STATE n) +
      2 ^ 19 * s.get (LOOP_STAT_VSAT n) + 2 ^ 20 * late.toNat + 2 ^ 21 * rcv.toNat + 2 ^ 22 * s.get (PWM_TRIP_STAT_FORCE n) +
      2 ^ 26 * s.get (PWM_STAT_TRANS n)
    let w8 := s.get (POS_ANG_ANGLE n) + 2 ^ 16 * s.get (POS_ANG_QUAL n) + 2 ^ 18 * s.get (POS_STAT_SRC n) + 2 ^ 20 * s.get (POS_SPD_STAT_VALID n)
    let w13 := ((List.range 4).map (fun q => s.get (SENSE_Qq_CFG_PATH n q) * 4 ^ q)).sum +
      ((List.range 6).map (fun i => s.get (MOD_INi_MAIN_VALID n i) * 2 ^ (8 + i))).sum
    let words := [raw 0 + 65536 * raw 1, raw 2 + 65536 * raw 3, w4, m 0 + 65536 * m 1, m 2 + 65536 * m 3, m 4 + 65536 * m 5, w8,
      s.get (POS_SPD_SPD n), s.get (PWM_CMPh_CMP_ACT n 0), s.get (PWM_CMPh_CMP_ACT n 1), s.get (PWM_CMPh_CMP_ACT n 2), w13,
      s.get (LOOP_SLACK_LAST_SLACK n), 0]
    logWrite 1 8 n 0 (s.get (senTrigAt n)) (words.flatMap (toBytes 4)) s)

/-- The engines stop where a stop waits for the end of the period (R173). -/
def loopEnd (n : Nat) (s : State) : State :=
  s.when (s.flag (loopStopPend n)) (fun s => (s.set (loopStopPend n) 0).set (LOOP_STAT_STATE n) 0)

/-- What every control period brings whatever becomes of its computation: the values of its trigger, the Ledger's sums, the comparison
of the observer with the sensor (R167, R395 to R397). -/
def periodSums (n : Nat) (s : State) : State := bemfCompare n (ledgerPeriod n (slotsClose n s))

/-- A computation that did not complete by its deadline is abandoned: its slack is minus the control period (R67). -/
def loopAbandon (n : Nat) (s : State) : State :=
  let dl := deadline n s
  let s := slackRecord n (-(((controlHalf n s / 2) / 64 : Nat) : Int)) dl (s.set (loopBusy n) 0)
  loopEnd n (periodRecord n true false (lateCount n (periodSums n s)))

/-- The control period of the last trigger ends at the next sampling instant: a computation still running is abandoned (R67), and a
period without one has its sums and its record (R199, R383). -/
def periodClose (n : Nat) (s : State) : State :=
  if s.flag (loopBusy n) then loopAbandon n s
  else s.when (s.flag (senOpen n)) (fun s => (periodRecord n false (s.flag (loopSkip n)) (periodSums n s)).set (loopSkip n) 0)

/-- The engines' part of a common trigger: active references load, and a computation begins, or its period is skipped during a
recovery (R176, R199). -/
def loopTrigger (n t : Nat) (peak : Bool) (s : State) : State :=
  let s := (s.set (LOOP_ID_REF_REF_ACT n) (s.get (LOOP_ID_REF_REF n))).set (LOOP_IQ_REF_REF_ACT n) (s.get (LOOP_IQ_REF_REF n))
  let s := (s.set (LOOP_W_REF_REF_ACT n) (s.get (LOOP_W_REF_REF n))).set (LOOP_A_REF_REF_ACT n) (s.get (LOOP_A_REF_REF n))
  let s := s.each [0, 1, 2, 3] (fun c s => s.set (SENSE_Cc_SEQ_POS n c) (s.get (senPosAct n c)))
  if s.get (LOOP_STAT_STATE n) = 0 then s
  else if s.get (LOOP_STAT_STATE n) = 3 then
    raiseStall n 0x19 (((s.inc (LOOP_MIS_STAT_SKIP n)).set (loopTrigAt n) (t / 64)).set (loopSkip n) 1)
  else (((s.set (loopBusy n) 1).set (loopTrigAt n) (t / 64)).set (loopLawAt n) (t / 64)).setB (loopPeak n) peak

/-! ### The Remount (R29, R194, R197) -/

/-- Stall `n` requests the Remount: its request line is driven until the next arbitration (R29, R45, R194). -/
def remountRequest (n : Nat) (s : State) : State := s.setBit REMOUNT_REQ_REQ n true

/-- The Remount is granted to Stall `n` (R29). -/
def remountGrant (n : Nat) (s : State) : State :=
  raiseEvent 0x020 ((((s.set REMOUNT_STAT_HELD 1).set REMOUNT_STAT_STALL n).set REMOUNT_STAT_BUSY 1).inc REMOUNT_COUNT_GRANTS)

/-- Whether Stall `n` may take the Remount: not in its safe state, not isolated (R30, R197). -/
def mayHold (n : Nat) (s : State) : Bool := decide (s.get (PWM_STAT_STATE n) < 3)

/-- Whether a fused repair has given the Remount to one Stall for good: it is never free for R29 (R469). -/
def remountFused (s : State) : Bool :=
  (List.range 64).any (fun j => s.flag (BIST_MAPj_VALID j) && s.flag (BIST_MAPj_FUSED j) && decide (1 ≤ s.get (BIST_MAPj_DOMAIN j)) &&
    decide (s.get (BIST_MAPj_DOMAIN j) ≤ 4) && s.get (BIST_MAPj_GROUP j) == 6)

/-- One arbitration: the lowest requesting Stall takes the Remount if it is enabled, not failed and free; the other requests are not
granted (R29, R194). -/
def remountArbitrate (s : State) : State :=
  let req := s.get REMOUNT_REQ_REQ
  if req = 0 then s
  else
    let free := s.flag REMOUNT_CTRL_EN && !s.flag REMOUNT_STAT_FAILED && !s.flag REMOUNT_STAT_HELD && !remountFused s
    let win := if free then firstBelow 4 (fun n => bitAt req n && mayHold n s) else none
    let s := s.addSat REMOUNT_COUNT_DENIED (popCount 4 req - win.toList.length)
    let s := s.set REMOUNT_REQ_REQ 0
    match win with
    | some n => remountGrant n s
    | none => s

/-- Number of engines in service in Stall `n`. -/
def enginesIn (n : Nat) (s : State) : Nat := s.get (LOOP_STAT_ENG_A n) + s.get (LOOP_STAT_ENG_B n) + s.get (LOOP_STAT_ENG_R n)

/-- One period of the shadow engine (R196). -/
def shadowStep (n : Nat) (agrees : Bool) (s : State) : State :=
  if !s.flag (LOOP_STAT_SHADOW n) then s
  else if agrees then s.inc (loopAgree n)
  else
    let s := (s.set (loopAgree n) 0).inc (LOOP_REJOIN_FAILS n)
    if s.get (LOOP_REJOIN_MAXFAIL n) ≤ s.get (LOOP_REJOIN_FAILS n) then
      let f := if s.flag (LOOP_STAT_ENG_A n) then LOOP_STAT_B_FAILED n else LOOP_STAT_A_FAILED n
      raiseStallFault n 4 0x27 .ride ((s.set f 1).set (LOOP_STAT_SHADOW n) 0)
    else s

/-! ### The commands -/

/-- LOOP_START (R172). The sequences of the channel selects start over (R78; which entry comes first: log entry 99). -/
def execLoopStart (n : Fin 4) : State → Out := stallWrite n (fun s =>
  let good := s.get (LOOP_STAT_STATE n) == 0 && slotsReady n s && s.flag (SENSE_CTRL_EN n) && s.flag (SENSE_CAL_STAT_VALID n) &&
    s.get (POS_ANG_QUAL (leadOf n s)) != 0 && bankOk n (s.get (LOOP_STAT_PSET n)) s &&
    !(s.flag (LOOP_STAT_A_FAILED n) && s.flag (LOOP_STAT_B_FAILED n)) && s.get (PWM_STAT_STATE n) != 4
  ok (s.cmdStart (loopCmd n) 1 good stDone (fun s =>
    let b := s.get (LOOP_STAT_PSET n)
    let s := ((s.set (LOOP_INT_D_I n) 0).set (LOOP_INT_Q_I n) 0).set (LOOP_INT_W_I n) 0
    let s := s.each [0, 1, 2] (fun h s => (s.set (LOOP_DTC_h_G n h) (s.get (LOOP_Pb_DTC_T0_T n b))).set (pwmEdge n h) 0)
    let s := (((s.set (loopFerr n) 0).set (loopFerrDone n) 0).set (bemfHas n) 0).each [0, 1, 2, 3] (fun c s => s.set (senNext n c) 0)
    s.set (LOOP_STAT_STATE n) (if s.get (PWM_STAT_STATE n) = 3 then 2 else 1)) id))

/-- LOOP_STOP (R173): refused while the Stall is switching; the engines stop after the period in progress. -/
def execLoopStop (n : Fin 4) : State → Out := stallWrite n (fun s =>
  ok (s.cmdStart (loopCmd n) 2 (!switching n s) stDone (fun s =>
    bemfUnqual n (if s.flag (loopBusy n) ∨ s.get (LOOP_STAT_STATE n) = 3 then s.set (loopStopPend n) 1 else s.set (LOOP_STAT_STATE n) 0)) id))

/-- The active bank switches (R186). -/
def bankSwitch (n : Nat) (s : State) : State :=
  raiseStall n 0x16 ((s.set (LOOP_STAT_PSET n) (1 - s.get (LOOP_STAT_PSET n))).set (loopPset n) 0)

/-- PSET (R186): the other bank is checked; while the engines are stopped it becomes active at once. -/
def execPset (n : Fin 4) : State → Out := stallWrite n (fun s =>
  ok (s.cmdStart (loopCmd n) 3 (!s.flag (loopPset n) && bankOk n (1 - s.get (LOOP_STAT_PSET n)) s) stDone
    (fun s => if s.get (LOOP_STAT_STATE n) = 0 then bankSwitch n s else s.set (loopPset n) 1) id))

/-- EV_PSET (R186): at a trigger, or when the engines stop first. -/
def execEvPset (n : Fin 4) (s : State) : Out :=
  ok (s.when (s.flag (loopPset n) && (s.get (LOOP_STAT_STATE n) == 0 || s.get (senTrigAt n) == s.now)) (bankSwitch n))

/-- A write of `w` to `LOOP_A_REF` applies the held words with it (R47, R176). -/
def referenceApply (n w : Nat) (s : State) : State :=
  let s := [LOOP_ID_REF_REF n, LOOP_IQ_REF_REF n, LOOP_W_REF_REF n].foldl
    (fun s f => s.set f (heldOr s f.addr (s.get f))) s
  let s := { s with held := storeDrop (LOOP_ID_REF_REF n).addr (storeDrop (LOOP_IQ_REF_REF n).addr (storeDrop (LOOP_W_REF_REF n).addr s.held)) }
  busOk (s.set (LOOP_A_REF_REF n) w)

/-- REFERENCE_APPLY (R176). -/
def execReferenceApply (n : Fin 4) (w : BitVec 32) : State → Out := stallWrite n (fun s => ok (referenceApply n w.toNat s))

/-- The pair compare finds a mismatch: nothing is written, the Remount is requested and the recovery begins (R194). -/
def loopMismatch (n : Nat) (l : Law) (s : State) : State :=
  let dl := deadline n s
  let s := keepLaw n l (((s.set (loopBusy n) 0).set (loopDl n) dl).set (loopRcvAt n) s.now)
  let s := (raiseStall n 0x12 (s.inc (LOOP_MIS_STAT_MISMATCH n))).set (LOOP_STAT_STATE n) 3
  let s := s.when (decide (dl < s.now * 64)) (lateCount n)
  -- a pair of one engine and the Remount recovers with that pair (R194)
  if s.flag (LOOP_STAT_ENG_R n) then s.when (holdsRemount n s) (fun s => s.set REMOUNT_STAT_BUSY 1) else remountRequest n s

/-- A period whose compare passes (R66, R185, R193, R196). -/
def loopPass (n : Nat) (l : Law) (shadow : Bool) (s : State) : State :=
  let dl := deadline n s
  let late := decide (dl < s.now * 64)
  let s := slackRecord n (((dl : Int) - (s.now * 64 : Nat)) / 64) dl (s.set (loopBusy n) 0)
  let s := if !l.finite then raiseStallFault n 4 0x26 .stallSafe (bemfCompare n (s.when (!late) (lateClear n)))
    else if late then lateCount n (bemfCompare n s)
    else lawCommit n l (lateClear n s)
  shadowStep n shadow (periodRecord n late false s)

/-- LOOP_PERIOD_DONE (R175, R192). -/
def execLoopPeriodDone (n : Fin 4) (mismatch shadow : Bool) (s : State) : Out :=
  ok <|
    if !s.flag (loopBusy n) then s
    else
      let s := ledgerPeriod n (slotsEval n s)
      let l := law n s
      if mismatch && decide (2 ≤ enginesIn n s) then
        periodRecord n (decide (deadline n s < s.now * 64)) true (loopMismatch n l s)
      else loopEnd n (loopPass n l shadow s)

/-- LATE_PERIOD (R67): the deadline has passed without a result. -/
def execLatePeriod (n : Fin 4) (s : State) : Out :=
  ok (s.when (s.flag (loopBusy n) && decide (deadline n s ≤ s.now * 64)) (loopAbandon n))

/-- Outcome 6 releases the Remount, whether it voted or was paired with one engine; it repairs none any more (R197). -/
def remountGiveUp (n : Nat) (s : State) : State :=
  remountRelease n (s.when (holdsRemount n s) (fun s => s.set remRepair 0))

/-- Outcome of a recovery from which recomputed results agree (R195). -/
def rcvOutcome (n : Nat) (ab ar br : Bool) (s : State) : Nat :=
  if s.flag (LOOP_STAT_ENG_R n) then
    (if (if s.flag (LOOP_STAT_ENG_A n) then ar else br) then 5 else 6)
  else if holdsRemount n s then
    (if ab && ar then 1 else if br then 2 else if ar then 3 else if ab then 4 else 6)
  else if ab then 5 else 6

/-- What outcomes 1 to 5 do besides loading the result: the cause, the engines and the Remount (R195 to R197). -/
def rcvEngines (n o : Nat) (s : State) : State :=
  let out := fun (f : Fld) (s : State) =>
    let s := (((s.set f 0).set (LOOP_STAT_ENG_R n) 1).set (LOOP_STAT_SHADOW n) 1).set REMOUNT_STAT_PAIRED 1
    raiseStall n 0x17 (raiseStallFault n 4 0x23 .ride ((s.set (LOOP_REJOIN_FAILS n) 0).set (loopAgree n) 0))
  match o with
  | 1 => remountRelease n (raiseStallFault n 4 0x22 .ride s)
  | 2 => out (LOOP_STAT_ENG_A n) s
  | 3 => out (LOOP_STAT_ENG_B n) s
  | 4 => remountRelease n (raiseEvent 0x022 (raiseFault (yardCode 0xE 1) .ride (s.set REMOUNT_STAT_FAILED 1)))
  | _ => raiseStallFault n 4 0x24 .ride s

/-- The active compares take a recovered result mid-period; the old ones govern up to the guard instant 64 ticks later (R198). -/
def midLoad (n : Nat) (s : State) : State :=
  s.when (s.get (PWM_STAT_STATE n) != 3) (fun s =>
    let s := s.each [0, 1, 2] (fun h s =>
      setCmp n h (s.get (PWM_CMPh_CMP n h)) (s.set (pwmCmpOld n h) (cmpAct n h s)))
    let s := s.set (pwmPendSet n) (s.get (pwmPendSet n) &&& 0b11111110001)
    clampCheck n (s.set (pwmGuardAt n) ((s.now + 64) * 64 + 1)))

/-- The recovered result loads at its deadline or, after it, mid-period (R198, R200). -/
def rcvLoad (n : Nat) (s : State) : State :=
  let dl := s.get (loopDl n)
  let l := Law.ofWords (fun i => s.get (loopRes n i))
  let now := s.now * 64
  let onTime := decide (now ≤ dl)
  let s := s.when onTime (fun s => slackRecord n (((dl : Int) - (now : Nat)) / 64) dl (lateClear n s))
  let s := if l.finite then (lawCommit n l s).when (!onTime) (midLoad n) else raiseStallFault n 4 0x26 .stallSafe (bemfCompare n s)
  let active := max now dl
  let took := clampU 16 (active / 64 - s.get (loopRcvAt n))
  let gap := clampU 16 ((active - dl) / 64)
  let s := (s.set (LOOP_RCV_TIME_LAST n) took).set (LOOP_RCV_TIME_MAX n) (max took (s.get (LOOP_RCV_TIME_MAX n)))
  (s.set (LOOP_GAP_LAST n) gap).set (LOOP_GAP_MAX n) (max gap (s.get (LOOP_GAP_MAX n)))

/-- RECOVERY_DONE (R195, R198, R200). -/
def execRecoveryDone (n : Fin 4) (ab ar br : Bool) (s : State) : Out :=
  ok <|
    if s.get (LOOP_STAT_STATE n) ≠ 3 then s
    else
      let s := remountArbitrate s
      let o := rcvOutcome n ab ar br s
      let s := (s.set (LOOP_RCV_STAT_LAST n) o).when (holdsRemount n s) (fun s => s.set REMOUNT_STAT_BUSY 0)
      let s := s.set (LOOP_STAT_STATE n) (if s.get (PWM_STAT_STATE n) = 3 then 2 else 1)
      let s :=
        if o = 6 then raiseStallFault n 4 0x25 .stallSafe (remountGiveUp n (bemfCompare n s))
        else rcvLoad n (raiseStall n 0x13 (rcvEngines n o s))
      loopEnd n s

/-- EV_ENGINE_REJOIN (R196): after `N` agreeing periods. -/
def execEvEngineRejoin (n : Fin 4) (s : State) : Out :=
  ok (s.when (s.flag (LOOP_STAT_SHADOW n) && decide (s.get (LOOP_REJOIN_N n) ≤ s.get (loopAgree n))) (fun s =>
    let s := ((s.set (LOOP_STAT_SHADOW n) 0).set (LOOP_STAT_ENG_A n) 1).set (LOOP_STAT_ENG_B n) 1
    raiseStall n 0x18 (remountRelease n (s.set (LOOP_STAT_ENG_R n) 0))))

/-- FERR_TIMEOUT (R189): the timer has reached `FERR_T` µs; 0 disables the check. -/
def execFerrTimeout (n : Fin 4) (s : State) : Out :=
  let lim := s.get (LOOP_Pb_CFG_FERR_T n (s.get (LOOP_STAT_PSET n))) * 25600
  ok (s.when (lim != 0 && decide (lim ≤ s.get (loopFerr n)) && !s.flag (loopFerrDone n))
    (fun s => raiseStallFault n 4 0x21 .stallSafe (s.set (loopFerrDone n) 1)))

/-- A write of `v` to `LOOP_SLACK_MIN` (R66). -/
def slackMinWrite (n v : Nat) (s : State) : State :=
  let last := s.geti (LOOP_SLACK_LAST_SLACK n)
  let s := s.set (LOOP_SLACK_MIN_MIN n) v
  busOk (s.when (s.get (loopSlackAt n) == s.now + 1 && decide (last < s.geti (LOOP_SLACK_MIN_MIN n)))
    (fun s => (s.seti (LOOP_SLACK_MIN_MIN n) last).setWide (LOOP_SLACK_MIN_TB_LO_TB n) (LOOP_SLACK_MIN_TB_HI_TB n) (s.get (loopSlackDl n))))

/-- SLACK_MIN_WRITE (R66). -/
def execSlackMinWrite (n : Fin 4) (v : BitVec 24) : State → Out := stallWrite n (fun s => ok (slackMinWrite n v.toNat s))

end Sys2Proof.Machine
end

