-- ==== Sys2Proof/Machine/Trigger.lean ====
section
/-!
DEFINITION. The carrier of a Stall meets its instants: load instants with the common trigger (R80, R205), and zeros (R203).
-/

namespace Sys2Proof.Machine
open Reg

/-- `PWM_PER` of Stall `n` is pending. -/
def perPending (n : Nat) (s : State) : Bool := bitAt (s.get (pwmPendSet n)) 0

/-- The shadows due at a load instant (R211, R212). -/
def loadShadows (n : Nat) (peak : Bool) (s : State) : State :=
  if s.flag (PWM_CTRL_COH n) then
    s.when (s.flag (PWM_LOAD_ARM_ARM n) && !(peak && perPending n s)) (armedLoad n (!peak))
  else loadThresholds n (loadCompares n s)

/-- The load instant of the present period that instant `t` has reached and that has not passed: its zero, or its peak at P/2 (R203,
R205). -/
def loadDue (n : Nat) (peak : Bool) (t : Nat) (s : State) : Option Nat :=
  if peak then
    (if s.flag (pwmPeakDone n) || decide (t < s.get (pwmZeroAt n) + period n s / 2) then none
    else some (s.get (pwmZeroAt n) + period n s / 2))
  else if s.flag (pwmZeroDone n) then none else some (s.get (pwmZeroAt n))

/-- The selections of a load instant go to the three drivers (R235, R249). -/
def selFrames (n t : Nat) (s : State) : State :=
  s.each [0, 1, 2] (fun h s =>
    let l := 3 * n + h
    let side := s.get (reinVsSide l)
    let s := sendSel l (selPayload n h s) t (s.flag (REIN_CFG_VS_EN n)) side
      (s.get (if side = 0 then REIN_CFG_VS_DHS n else REIN_CFG_VS_DLS n)) s
    s.when (fullSchedule l s) (fun s => s.set (reinVsSide l) (1 - side)))

/-! ### What the Sheepdog's snapshot takes from a trigger (R304) -/

/-- A register word from its fields. -/
def wordOf (l : List Fld) (s : State) : Nat := (l.map (fun f => s.get f * 2 ^ f.lsb)).sum

/-- Fields of `PROT_STAT`. -/
def protStatFields (n : Nat) : List Fld :=
  [PROT_STAT_RREASON n, PROT_STAT_ROW n, PROT_STAT_SAFE n, PROT_STAT_PROV n, PROT_STAT_SPD_HIGH n, PROT_STAT_CTC_REQ n,
   PROT_STAT_CHOP n, PROT_STAT_PSF n, PROT_STAT_EN_PIN n, PROT_STAT_SHD n, PROT_STAT_STO n, PROT_STAT_DEV_SAFE n]

/-- The monitors of Stall `n` routed to the Sheepdog (R121). -/
def shdMons (n : Nat) (s : State) : List Nat := (List.range 12).filter (fun m => s.flag (MON_Mm_ROUTE_SHD n m))

/-- Words 8 to 11 of the snapshot of Stall `n`, as they stand. -/
def shdWords (n : Nat) (s : State) : List Nat :=
  let g := fun f => s.get f
  [g (PWM_STAT_STATE n) + ([0, 1, 2, 3].map (fun q => g (SENSE_Qq_CFG_PATH n q) * 2 ^ (8 + 2 * q))).sum +
     ((List.range 6).map (fun i => g (MOD_INi_MAIN_VALID n i) * 2 ^ (16 + i))).sum,
   wordOf (protStatFields n) s,
   ((shdMons n s).map (fun m => g (MON_Mm_STAT_LATCHED n m) * 2 ^ m)).sum,
   ((shdMons n s).map (fun m => g (MON_Mm_STAT_STATE n m) * 4 ^ m)).sum]

/-- A trigger keeps those words for the next snapshot. -/
def shdLatch (n : Nat) (s : State) : State :=
  let l := shdWords n s
  s.each (List.range 4) (fun w s => s.set (shdLat n w) (l.getD w 0))

/-- The common trigger (R80): the control period before it ends, holds close, modulator and position values latch, the engines begin. -/
def commonTrigger (n t : Nat) (peak : Bool) (bits : List (BitVec 768)) (s : State) : State :=
  let s := periodClose n s
  let s := ((s.set (senTrigPrev n) (s.get (senTrigAt n))).set (senTrigAt n) (t / 64)).set (senOpen n) 1
  let s := posLatch n (modLatch n bits (holdsClose n s))
  loopTrigger n t peak (shdLatch n (decideBand n (ssiStart n s)))

/-- What happens at a load instant `t` of Stall `n` (R205, R210, R233, R235). -/
def loadInstant (n t : Nat) (peak : Bool) (bits : List (BitVec 768)) (s : State) : State :=
  let s := s.set (if peak then pwmPeakDone n else pwmZeroDone n) 1
  let s := s.when (s.get (PWM_STAT_STATE n) == 2) (switchingTime n (controlHalf n s / 2))
  let s := commonTrigger n t peak bits s
  let s := clampCheck n (loadShadows n peak s)
  rejudgeAll n t (selFrames n t (gateProfiles n s))

/-- LOAD_INSTANT (R205): `bits` are the last bits of each modulator input. -/
def execLoadInstant (n : Fin 4) (peak : Bool) (fine : Fin 64) (bits : List (BitVec 768)) (s : State) : Out :=
  ok (s.when (carrierOn n s && sampledAt n peak s) (fun s =>
    match loadDue n peak (s.fineNow fine) s with
    | some t => loadInstant n t peak bits s
    | none => s))

/-- What loads only at a zero: the period, an armed load that waited for it, a cross-Stall load (R205, R212, R220). With independent
loading the zero is a boundary at which a PWM shadow loads whatever `SAMP`, so the monitor thresholds load too (R112; log entry 76). -/
def loadAtZero (n z : Nat) (s : State) : State :=
  let locked := s.get (PWM_CTRL_PAIR n) == 2 || s.flag (PWM_CTRL_LOCK n)
  if cohDueAt n z s then cohLoad n s
  else if s.flag (PWM_CTRL_COH n) && s.flag (PWM_LOAD_ARM_ARM n) && (perPending n s || sampledAt n false s) then armedLoad n true s
  else if s.flag (PWM_CTRL_COH n) && !locked then s
  else (loadPeriod n s).when (!s.flag (PWM_CTRL_COH n)) (loadThresholds n)

/-- A carrier period of Stall `n` begins at instant `z` (R203, R207). A guard instant still to come stays (R198). -/
def periodBegin (n z : Nat) (s : State) : State :=
  let s := s.when (decide (s.get (pwmGuardAt n) ≤ z + 1)) (fun s => s.set (pwmGuardAt n) 0)
  let s := ((s.set (pwmZeroAt n) z).set (pwmZeroDone n) 0).set (pwmPeakDone n) 0
  (s.set (pwmClampSeen n) (s.get (pwmClampNow n))).set (pwmClampNow n) 0

/-- What every zero at instant `z` does after its loads: monitors of latch mode 1 and trips are released; a period whose zero is no
load instant is judged for clamps (R116, R207, R226, R227). -/
def zeroAfter (n z : Nat) (s : State) : State :=
  let s := s.when (!sampledAt n false s) (clampCheck n)
  refreshLines n (s.placeAt n z) (tripRelease n (monPeriodClear n s))

/-- CARRIER_ZERO (R203, R219, R223): the zero one period after the last, at its own instant. Where it is a sampling instant, the control
period before it ends on the values it ran with (R67, R205). -/
def execCarrierZero (n : Fin 4) (fine : Fin 64) (s : State) : Out :=
  let z := s.get (pwmZeroAt n) + period n s
  ok (s.when (carrierOn n s && decide (z ≤ s.fineNow fine)) (fun s =>
    let s := s.when (sampledAt n false s) (periodClose n)
    zeroAfter n z (loadAtZero n z (periodBegin n z s))))

/-- Every shadow loads at the first zero `z`, whatever the arm state, but `PWM_OFFSET`, which `START` loaded (R215, R239); a pending
cross-Stall load takes it as the Stall's own, `PWM_OFFSET` with it (R220), and an armed load is done by it (R212). -/
def firstLoads (n z : Nat) (s : State) : State :=
  let s := s.set (pwmPendSet n) (2 ^ 11 - 1)
  let s := (loadPairOfs n (loadThresholds n (loadCompares n (loadPeriod n s)))).set (pwmPendSet n) 0
  if cohDueAt n z s then cohLoaded n (loadOffsets n s)
  else if s.flag (PWM_CTRL_COH n) && s.flag (PWM_LOAD_ARM_ARM n) then raiseStall n 0x07 (armDone n s)
  else s.set (PWM_LOAD_ARM_ARM n) 0

/-- The first zero of Stall `n` at instant `z`: `STATE` becomes 2, and the edges begin; a Stall that has gone into its safe state stays in
it (R215, R217). -/
def carrierStart (n z : Nat) (s : State) : State :=
  let s := periodBegin n z (((slotsClose n s).set (pwmAwait n) 0).set (pwmClampNow n) 0)
  let s := firstLevels n z (firstLoads n z s)
  zeroAfter n z (s.when (s.get (PWM_STAT_STATE n) == 1) (fun s => raiseStall n 0x00 (s.set (PWM_STAT_STATE n) 2)))

/-- EV_PWM_START (R215): the first zero of a starting Stall. -/
def execEvPwmStart (n : Fin 4) (fine : Fin 64) (s : State) : Out :=
  ok (s.when (s.flag (pwmAwait n) && (s.get (PWM_STAT_STATE n) == 1 || s.get (PWM_STAT_STATE n) == 3)) (fun s =>
    match firstZero n s with
    | some z => s.when (decide (z ≤ s.fineNow fine)) (carrierStart n z)
    | none => s))

end Sys2Proof.Machine
end

