-- ==== Sys2Proof/Machine/Prot.lean ====
section
/-!
DEFINITION. Commands of the protection block (09_power_stage_protection): safe-state entry by command, decision waits and the
dwell, the enable pin and the power-stage fault latch, the release, and the discharge with its energy account.
-/

namespace Sys2Proof.Machine
open Reg

def protCmd (n : Nat) : CmdReg := ⟨PROT_CMD_CODE n, PROT_CMD_STATUS n⟩
def disCmd (n : Nat) : CmdReg := ⟨PROT_DIS_CMD_CODE n, PROT_DIS_CMD_STATUS n⟩

/-! ### Entry and decision (R274, R281, R284, R285) -/

/-- SAFE (R274): on the lead of a pair it acts on both Stalls (R299). -/
def execSafe (n : Fin 4) (s : State) : Out :=
  let ps := if s.get (PWM_CTRL_PAIR n) = 1 then pairList n s else [n.val]
  stallWrite n (fun s => ok (s.cmdStart (protCmd n) 1 true stDone (fun s => s.each ps (fun p => raiseStallFault p 5 2 .stallSafe)) id)) s

/-- DECISION_WAIT_END (R284): a wait of link `h` that runs out marks its switches unknown. -/
def execDecisionWaitEnd (n : Fin 4) (h : Fin 3) (s : State) : Out :=
  ok (s.when (s.flag (protWait n h) && decide (s.get (protWaitEnd n h) ≤ s.now)) (fun s =>
    reDecide n ((s.set (protWait n h) 0).set (protUnk n h) 1)))

/-- DWELL_EXPIRY (R285). -/
def execDwellExpiry (n : Fin 4) (s : State) : Out := ok (s.when (dwellOver n s) (reDecide n))

/-- A write of `v` to `PROT_SW_OVR` (R281): a field of 3 discards it. -/
def swOvrWrite (n v : Nat) (s : State) : State :=
  if (List.range 6).any (fun w => bits v (2 * w) 2 == 3) then busErr s else busOk (reDecide n (s.set (PROT_SW_OVR_OVR n) v))

/-- SW_OVR_WRITE (R281). -/
def execSwOvrWrite (n : Fin 4) (v : BitVec 12) (s : State) : Out := stallWrite n (fun s => ok (swOvrWrite n v.toNat s)) s

/-! ### The enable pin and the latch (R277 to R279) -/

/-- `STALLn_EN` takes a level: every register that reads it. -/
def enPin (n : Nat) (b : Bool) (s : State) : State :=
  (((s.setB (pwmPinHigh n) b).setB (PWM_STAT_EN_PIN n) b).setB (PROT_STAT_EN_PIN n) b).setBit SYS_PINS_STALL_EN n b

/-- STALL_EN_FALL (R278, R275): rank 1 holds the lines off. -/
def execStallEnFall (n : Fin 4) (s : State) : Out :=
  ok (if s.flag (pwmPinHigh n) then
    let s := (enPin n false s).set (protEnFallAt n) s.now
    let s := refreshLines n (s.now * 64) s
    s.when (switching n s) (raiseStallFault n 5 1 .stallSafe)
  else s)

/-- A cause of the latch is present at the enable pin's edge (R278). -/
def psfPresent (n : Nat) (s : State) : Bool :=
  s.flag (protHard n) || [0, 1, 2].any (fun h => s.flag (REIN_Lh_STAT_PAT (3 * n + h)) || linkState (3 * n + h) s == 5)

/-- The latch clears: suspicions end, and `CLEAR` goes to each link in `FAULT` (R278, R281, R259). -/
def psfClear (n : Nat) (s : State) : State :=
  let s := (((s.set (PROT_STAT_PSF n) 0).set (PROT_PSF_MON n) 0).set (PROT_PSF_LINK n) 0).set (PROT_PSF_CLRFAIL n) 0
  let s := ((s.set (PROT_PSF_SRC n) 0).inc (PROT_EN_STAT_CLEARS n)).set (PROT_EN_STAT_LAST n) 1
  let s := s.each (List.range 6) (fun w s => s.set (protSus n w) 0)
  let s := (s.set (protClrAt n) s.now).each [0, 1, 2] (fun h s =>
    if linkState (3 * n + h) s = 4 then queueClear (3 * n + h) (s.set (protClr n h) 1) else s.set (protClr n h) 0)
  reDecide n (raiseStall n 0x1E s)

/-- STALL_EN_RISE (R278): the latch is judged; 10 us are 2,000 ticks. -/
def execStallEnRise (n : Fin 4) (s : State) : Out :=
  ok (if s.flag (pwmPinHigh n) then s
  else
    let low := s.now - s.get (protEnFallAt n)
    let s := (enPin n true s).set (PROT_EN_STAT_LOW_US n) (clampU 16 (low / 200))
    let s := if !s.flag (PROT_STAT_PSF n) then s
      else if low < 2000 then s.set (PROT_EN_STAT_LAST n) 2
      else if psfPresent n s then s.set (PROT_EN_STAT_LAST n) 3
      else psfClear n s
    refreshLines n (s.now * 64) s)

/-- EV_PSF_CLR_FAIL (R279): 20 us after the rising edge a link that was sent `CLEAR` is not `READY`. -/
def execEvPsfClrFail (n : Fin 4) (s : State) : Out :=
  let late := [0, 1, 2].filter (fun h => s.flag (protClr n h) && linkState (3 * n + h) s != 3)
  ok (s.when (!late.isEmpty && decide (s.get (protClrAt n) + 4000 ≤ s.now)) (fun s =>
    let s := s.each [0, 1, 2] (fun h s => s.set (protClr n h) 0)
    let code := stallCode n 5 0x38
    raiseStall n 0x2D (psfSet n 0x38 0 ((late.map (fun h => 2 ^ h)).sum) 1 code (recordFault code .stallSafe s))))

/-! ### Release (R299) -/

/-- A temperature stands at or above its trip less `HYS`. -/
def tempHigh (n : Nat) (s : State) : Bool :=
  let hys : Int := 16 * s.get (PROT_TEMP_TRIP_HYS n)
  (List.range 6).any (fun w => s.flag (PROT_TJ_s_VALID n w) && decide (tempCode (s.get (PROT_TEMP_TRIP_TJ_TRIP n)) - hys ≤ s.geti (PROT_TJ_s_T n w))) ||
    [0, 1, 2].any (fun h => s.flag (PROT_NTC_h_VALID n h) && decide (tempCode (s.get (PROT_TEMP_TRIP_NTC_TRIP n)) - hys ≤ s.geti (PROT_NTC_h_T n h)))

/-- The first failing condition of one Stall, 1 to 10; 0 none. -/
def releaseReason (n : Nat) (s : State) : Nat :=
  if s.get (PWM_STAT_STATE n) ≠ 3 then 1
  else if s.flag (PROT_STAT_PSF n) then 2
  else if !s.flag (pwmPinHigh n) then 3
  else if s.flag (PROT_STAT_STO n) then 4
  else if s.flag (PROT_STAT_SHD n) || s.flag (PROT_STAT_DEV_SAFE n) then 5
  else if [0, 1, 2, 3].any (fun q => s.get (SENSE_Qq_CFG_PATH n q) == 3) then 6
  else if s.get (POS_ANG_QUAL (leadOf n s)) = 0 then 7
  else if s.get (LOOP_STAT_STATE n) ≠ 2 then 8
  else if monBlocked n s then 9
  else if tempHigh n s then 10
  else 0

/-- The reason of a release written to Stall `n`: then its partner's, then that it is a follower. -/
def releaseOf (n : Nat) (s : State) : Nat :=
  let r := releaseReason n s
  if r ≠ 0 then r
  else match partner n s with
    | some p => if releaseReason p s ≠ 0 then 11 else if s.get (PWM_CTRL_PAIR n) = 2 then 12 else 0
    | none => 0

/-- An accepted release waits for the carrier's next zero (R299). -/
def releaseWait (p : Nat) (s : State) : State := (s.set (protRelPend p) 1).set (protRelZ p) (s.get (pwmZeroAt p) + 1)

/-- PROT_RELEASE (R299). -/
def execProtRelease (n : Fin 4) (s : State) : Out :=
  let r := releaseOf n s
  stallWrite n (fun s => ok (s.cmdStart (protCmd n) 2 (r == 0) stDone (fun s => s.each (pairList n s) releaseWait)
    (fun s => s.set (PROT_STAT_RREASON n) r))) s

/-- Stall `n` returns to state 2 at its carrier's zero `z`: the active compares take P/2, and the lines follow their commands (R174,
R299). -/
def safeRelease (n z : Nat) (s : State) : State :=
  let s := (s.set (protRelPend n) 0).set (PWM_STAT_STATE n) 2
  let s := (((s.set (PROT_STAT_ROW n) 0).set (PROT_STAT_SAFE n) 0).set (PROT_STAT_PROV n) 0).set (PROT_STAT_CHOP n) 0
  let s := ctcUpdate (s.set (PROT_STAT_CTC_REQ n) 0)
  let s := s.each [0, 1, 2] (fun h s => setCmp n h (period n s / 2) s)
  let t := s.placeAt n z
  let s := s.each [0, 1, 2] (fun h s => refEdge n h (refLevel n h z s) t s)
  let s := s.when (s.get (LOOP_STAT_STATE n) == 2) (fun s => s.set (LOOP_STAT_STATE n) 1)
  raiseStall n 0x1C (refreshLines n t s)

/-- EV_SAFE_RELEASE (R299): the first carrier zero after the release. -/
def execEvSafeRelease (n : Fin 4) (fine : Fin 64) (s : State) : Out :=
  let z := s.get (pwmZeroAt n)
  ok (s.when (s.flag (protRelPend n) && s.get (PWM_STAT_STATE n) == 3 && !s.flag (pwmAwait n) && s.get (protRelZ n) != z + 1 &&
    decide (z ≤ s.fineNow fine)) (safeRelease n z))

/-! ### Discharge (R290 to R292) -/

/-- Every member Stall reads the one energy account (R291). -/
def eaccShow (s : State) : State :=
  s.each [0, 1, 2, 3] (fun n s => s.when (s.flag (PROT_LINK_CFG_MEMBER n)) (fun s => s.set (PROT_DIS_EACC_E n) (s.get disEacc)))

/-- The energy account takes a value (R291). -/
def eaccSet (x : F32) (s : State) : State :=
  eaccShow ((s.setF disEacc x).set disEaccSec (s.getWide LEDGER_CAL_SEC_LO_SEC LEDGER_CAL_SEC_HI_SEC))

/-- Trigger of the newest value of slot Q3 of Stall `n`, ticks, plus 1; 0 before any. -/
def q3At (n : Nat) (s : State) : Nat := (slotNewest n 3 s).1

/-- V0: the newest Q3 of a member Stall within the last second, else `PROT_DIS_VMAX` (R291). -/
def linkVolts (g : Nat) (s : State) : F32 :=
  let fresh := [0, 1, 2, 3].filter (fun n => s.flag (PROT_LINK_CFG_MEMBER n) &&
    q3At n s != 0 && decide (s.now < q3At n s + 200000000))
  match fresh with
  | [] => s.getF (PROT_DIS_VMAX_V g)
  | a :: r => (slotNewest (r.foldl (fun b n => if q3At b s < q3At n s then n else b) a) 3 s).2

/-- Energy of one discharge: C / 2 x V0^2. -/
def dischargeEnergy (g : Nat) (v : F32) (s : State) : F32 := F32.mul (F32.mul 0x3F000000#32 (s.getF (PROT_DIS_C_C g))) (F32.mul v v)

/-- A discharge runs. -/
def disRuns (s : State) : Bool := [0, 1, 2, 3].any (fun n => s.get (PROT_DIS_STAT_PATH n) != 0)

/-- The path of a request to governing Stall `g`: 1 resistor, 2 winding, 0 none (R290). -/
def dischargePath (g : Nat) (bySafety : Bool) (s : State) : Nat :=
  let e := dischargeEnergy g (linkVolts g s) s
  if linkState 13 s == 3 && s.flag safAuxPin && F32.le (F32.add (s.getF disEacc) e) (s.getF (PROT_DIS_EMAX_E g)) then 1
  else if s.flag (PROT_DIS_CFG_WIND g) && !(bySafety && s.flag SAFETY_STAT_DS) && s.get (PWM_STAT_STATE g) == 2 &&
      s.get (LOOP_STAT_STATE g) == 1 && !s.flag (PROT_STAT_SPD_HIGH g) then 2
  else 0

/-- A discharge starts on a path; the resistor's energy is added at once (R291). -/
def dischargeStart (g path : Nat) (bySafety : Bool) (s : State) : State :=
  let s := s.when (path == 1) (fun s => eaccSet (F32.add (s.getF disEacc) (dischargeEnergy g (linkVolts g s) s)) s)
  let s := (s.set (PROT_DIS_STAT_PATH g) path).setB auxDisRun (path == 1)
  (s.setB (protDisReq g) bySafety).set (protDisAt g) s.now

/-- The discharge of Stall `g` ends with a status; its demand or override ends (R292). -/
def dischargeEnd (g st : Nat) (s : State) : State :=
  let s := (s.set (PROT_DIS_STAT_PATH g) 0).set auxDisRun 0
  s.when (s.busy (disCmd g)) (fun s => s.cmdEnd (disCmd g) st)

/-- Reason that refuses `RUN` in Stall `n`; 0 none (R290). -/
def dischargeReason (n : Nat) (s : State) : Nat :=
  let path := dischargePath n false s
  if governing s ≠ some n then 1
  else if disRuns s then 2
  else if path = 0 then 3
  else if [0, 1, 2, 3].any (fun m => s.flag (PROT_LINK_CFG_MEMBER m) && !(path == 2 && m == n) &&
      (s.get (PWM_STAT_STATE m) == 1 || s.get (PWM_STAT_STATE m) == 2)) then 4
  else 0

/-- DISCHARGE_RUN (R290). -/
def execDischargeRun (n : Fin 4) (s : State) : Out :=
  let r := dischargeReason n s
  stallWrite n (fun s => ok (s.cmdStart (disCmd n) 1 (r == 0) stBusy
    (fun s => dischargeStart n (dischargePath n false s) false (s.set (PROT_DIS_STAT_ERR n) 0)) (fun s => s.set (PROT_DIS_STAT_ERR n) r))) s

/-- A discharge request of the SAFETY block (R290, R334): without a path cause 0x41 is raised, and the request repeats. -/
def safetyDischarge (s : State) : State :=
  if disRuns s then s
  else
    let g := (governing s).getD 0
    let path := if (governing s).isSome then dischargePath g true s else 0
    if path = 0 then raiseStallFault g 5 0x41 .ride ((s.set safDisRpt 1).set safDisRptAt s.now)
    else dischargeStart g path true (s.set safDisRpt 0)

/-- DIS_REQ (R290): the Sheepdog writes 1 to `SAFETY_CTRL.DIS_REQ`, which clears when the request is accepted or refused. -/
def execDisReq (s : State) : Out := ok (busOk ((safetyDischarge s).set SAFETY_CTRL_DIS_REQ 0))

/-- DIS_REPEAT (R334): once per second while the device-safe latch is set. -/
def execDisRepeat (s : State) : Out :=
  ok (s.when (s.flag SAFETY_STAT_DS && s.flag safDisRpt && decide (s.get safDisRptAt + 200000000 ≤ s.now)) safetyDischarge)

/-- The Stall whose discharge runs. -/
def disStall (s : State) : Option Nat := firstBelow 4 (fun n => s.get (PROT_DIS_STAT_PATH n) != 0)

/-- EV_DIS_DONE (R292): the discharge monitor reads below. -/
def execEvDisDone (s : State) : Out :=
  ok <| match disStall s with
    | some g => s.when (s.get (MON_Mm_STAT_STATE g (s.get (PROT_DIS_CFG_MON g))) == 3) (fun s => raiseStall g 0x2C (dischargeEnd g stDone s))
    | none => s

/-- DISCHARGE_TIMEOUT (R292): `TMAX` x 10 ms have passed. -/
def execDischargeTimeout (s : State) : Out :=
  ok <| match disStall s with
    | some g => s.when (decide (s.get (protDisAt g) + s.get (PROT_DIS_CFG_TMAX g) * 2000000 ≤ s.now)) (fun s =>
        raiseStallFault g 5 0x40 .ride (dischargeEnd g stFailed s))
    | none => s

/-- The account after 1 ms: E x (1 - 0.001 s / `PROT_DIS_TAU`) (R291). -/
def eaccDecay (tau e : F32) : F32 := F32.mul e (F32.sub F32.one (F32.div (F32.ofRat 1 1000) tau))

/-- ENERGY_DECAY (R291): every 1 ms. -/
def execEnergyDecay (s : State) : Out :=
  ok (s.when (decide (s.get disDecAt + 200000 ≤ s.now)) (fun s =>
    eaccSet (eaccDecay (s.getF (PROT_DIS_TAU_T ((governing s).getD 0))) (s.getF disEacc)) (s.set disDecAt s.now)))

end Sys2Proof.Machine
end

