-- ==== Sys2Proof/Machine/SafetyUnit.lean ====
section
/-!
DEFINITION. The SAFETY hardware and the CONTACTOR block (10_safety_functions): the device-safe latch by command, Sheepdog commands,
the STO inputs, the contactors, and the sealed safety block.
-/

namespace Sys2Proof.Machine
open Reg

/-! ### The latch and the Sheepdog's writes (R307, R309, R310) -/

/-- SHD_SRAM_UE (R307). -/
def execShdSramUe (s : State) : Out := ok (raiseFault (yardCode 6 3) .deviceSafe (s.set SHD_STAT_UE_SEEN 1))

/-- DS_REQ (R309). -/
def execDsReq (s : State) : Out := ok (raiseFault (yardCode 6 4) .deviceSafe (busOk (s.set SAFETY_CTRL_DS_REQ 1)))

/-- Whether a value of `SAFETY_STALL_CMD` is written: no field of 3, none below what the latch set (R309, R310). -/
def shdCmdOk (v : Nat) (s : State) : Bool :=
  [0, 1, 2, 3].all (fun n => bits v (2 * n) 2 != 3 &&
    (!s.flag SAFETY_STAT_DS || decide (bits (s.get safDsFloor) (2 * n) 2 ≤ bits v (2 * n) 2)))

/-- EV_SHD_CMD (R310): a Sheepdog write to `SAFETY_STALL_CMD`. -/
def execEvShdCmd (v : BitVec 8) (s : State) : Out :=
  ok (if shdCmdOk v.toNat s then
    let s := s.each [0, 1, 2, 3] (fun n s => s.when (bits v.toNat (2 * n) 2 == 0) (fun s => s.set (safCmdKind n) 0))
    busOk (shdCommands v.toNat s)
  else busErr s)

/-! ### Safe torque off (R318 to R320) -/

/-- `STO_RESTART` and `STO_DISC` of the sealed copy in force. -/
def stoRestart (s : State) : Bool := bitAt (s.get safStoCfg) 8
def stoDisc (s : State) : Nat := s.get safStoCfg % 256

/-- Every command line and `PROT_STAT.STO` follow the holds (R275 rank 2, R318). -/
def stoApply (s : State) : State :=
  let s := s.each [0, 1, 2, 3] (fun n s => refreshLines n (s.now * 64) (s.setB (PROT_STAT_STO n) (stoMapped n s)))
  auxLine 1 (s.now * 64) (auxLine 0 (s.now * 64) s)

/-- Level of STO input `i` as the block takes it. -/
def stoActive (i : Nat) (s : State) : Bool := if i = 0 then s.flag SAFETY_STO_STAT_A else s.flag SAFETY_STO_STAT_B

/-- Input `i` becomes active or inactive: its bit, the discrepancy latch and its timer (R319). -/
def stoInput (i : Nat) (b : Bool) (s : State) : State :=
  let s := if i = 0 then s.setB SAFETY_STO_STAT_A b else s.setB SAFETY_STO_STAT_B b
  let s := s.when (stoActive 0 s && stoActive 1 s) (fun s => s.set SAFETY_STO_STAT_DISC 0)
  if stoActive 0 s != stoActive 1 s then s.when (s.get safOneAt == 0) (fun s => s.set safOneAt (s.now + 1)) else s.set safOneAt 0

/-- End the holds where the restart rule allows, else tell whether an `ACK` is what is missing (R320). -/
def stoTryEnd (s : State) : State :=
  if s.get safStoHeld = 0 ∨ stoActive 0 s ∨ stoActive 1 s ∨ s.flag SAFETY_STO_STAT_DISC then s.set SAFETY_STO_STAT_ACK_NEED 0
  else if (stoRestart s || s.flag safDiscAck) && !s.flag safAckDone then s.set SAFETY_STO_STAT_ACK_NEED 1
  else stoApply ((((s.set safStoHeld 0).set SAFETY_STO_STAT_HOLD 0).set SAFETY_STO_STAT_ACK_NEED 0).set safDiscAck 0)

/-- EV_STO (R318): input `i`, inactive so far, has passed its glitch filter. -/
def execEvSto (i : Fin 2) (s : State) : Out :=
  ok (s.when (!stoActive i s) (fun s =>
    let s := (stoInput i true s).set safAckDone 0
    let s := ((s.setBit safStoHeld i true).set SAFETY_STO_STAT_HOLD 1).set SAFETY_STO_STAT_SEEN 1
    let s := stoApply (s.set SAFETY_STO_STAT_ACK_NEED 0)
    let s := raiseEvent 0x033 s
    let mine := [0, 1, 2, 3].filter (fun n => bitAt (s.get safStoMap) (8 * i.val + n) && switching n s)
    s.each mine (fun n => raiseStallFault n 5 5 .stallSafe)))

/-- STO_RISE (R320): input `i` has been inactive for 1.1 us. -/
def execStoRise (i : Fin 2) (s : State) : Out := ok (s.when (stoActive i s) (fun s => stoTryEnd (stoInput i false s)))

/-- EV_STO_DISC (R319): class `STALL_SAFE` for every Stall that either map names (R343). -/
def execEvStoDisc (s : State) : Out :=
  let due := s.get safOneAt != 0 && decide (s.get safOneAt - 1 + stoDisc s * 200000 ≤ s.now)
  ok (s.when (due && !s.flag SAFETY_STO_STAT_DISC) (fun s =>
    let s := (s.set SAFETY_STO_STAT_DISC 1).set safDiscAck 1
    let s := raiseEvent 0x034 (recordFault (yardCode 6 7) .stallSafe s)
    let m := s.get safStoMap
    s.each ([0, 1, 2, 3].filter (fun n => bitAt m n || bitAt m (8 + n))) (fun n => stallSafe n (yardCode 6 7))))

def stoCmd : CmdReg := ⟨SAFETY_STO_CMD_CODE, SAFETY_STO_CMD_STATUS⟩

/-- STO_ACK (R320). -/
def execStoAck (s : State) : Out :=
  ok (s.cmdStart stoCmd 1 (!stoActive 0 s && !stoActive 1 s && !s.flag SAFETY_STO_STAT_DISC) stDone
    (fun s => stoTryEnd (s.set safAckDone 1)) id)

/-! ### Contactors (R331 to R333) -/

/-- Whether `STALL0_EN` to `STALL3_EN` and `AUX_EN` are low and the level is 2 (R471, R472). -/
def scanAllowed (s : State) : Bool :=
  s.get BIST_DBG_LEVEL == 2 && [0, 1, 2, 3].all (fun n => !s.flag (pwmPinHigh n)) && !s.flag safAuxPin

/-- Commands follow `CLOSE` and `FORCED`, and are held open under `EXTEST`; every change is counted (R331, R333, R393, R472). -/
def ctcApply (forced : Bool) (s : State) : State :=
  s.each [0, 1, 2, 3] (fun k s =>
    let want := bitAt (s.get CTC_CTRL_CLOSE) k && !bitAt (s.get CTC_STAT_FORCED) k && !s.flag extestOn
    if bitAt (s.get CTC_STAT_OUT) k = want then s
    else
      let s := ((s.setBit CTC_STAT_OUT k want).inc (CTC_COUNT_k_OPS k)).inc (LEDGER_LIVE_w_W (62 + k))
      (((s.set (ctcCmdAt k) s.now).setB (ctcByForce k) forced).set (ctcWas k) 0).set (ctcBad k) 0)

/-- `EXTEST` gives way to `BYPASS` when an enable pin rises or the level falls; part of the tick (R472). -/
def extestTick (s : State) : State := s.when (s.flag extestOn && !scanAllowed s) (fun s => ctcApply true (s.set extestOn 0))

/-- CTC_CLOSE_WRITE (R331, R332): a forced contactor follows only a 0 and then a 1 written after every request has ended. -/
def execCtcCloseWrite (v : BitVec 4) (s : State) : Out :=
  let free := !ctcRequested s
  let s := (s.set CTC_CTRL_CLOSE v.toNat).each [0, 1, 2, 3] (fun k s =>
    if bitAt (s.get CTC_STAT_FORCED) k ∧ free then
      (if !bitAt v.toNat k then s.set (ctcZero k) 1
       else s.when (s.flag (ctcZero k)) (fun s => (s.setBit CTC_STAT_FORCED k false).set (ctcZero k) 0))
    else s)
  ok (busOk (ctcApply false s))

/-- `OPEN_DLY` and `CTC_TFB`, ms, of the sealed copy in force. -/
def openDly (s : State) : Nat := bits (s.get safDsCfg) 8 8
def ctcTfb (s : State) : Nat := bits (s.get safDsCfg) 16 8

/-- CTC_FORCE_OPEN (R332): a request has lasted `OPEN_DLY` ms. -/
def execCtcForceOpen (s : State) : Out :=
  let due := [0, 1, 2, 3, 4].any (fun i => s.get (ctcReqAt i) != 0 && decide (s.get (ctcReqAt i) - 1 + openDly s * 200000 ≤ s.now))
  ok (s.when due (fun s => ctcApply true (s.set CTC_STAT_FORCED (s.get CTC_STAT_FORCED ||| openMask s))))

/-- A discharge by `DS_DIS` waits and every contactor of `OPEN_MASK` reads open (R309). -/
def disCheck (s : State) : State :=
  s.when (s.flag safDisWait && s.get CTC_STAT_MAIN &&& openMask s == 0) (fun s => safetyDischarge (s.set safDisWait 0))

/-- Contactor `k` disagrees with its command, and the time `CTC_TFB` of the last change is over (R333): local cause and class. -/
def ctcJudge (k : Nat) (s : State) : State :=
  let out := bitAt (s.get CTC_STAT_OUT) k
  let main := bitAt (s.get CTC_STAT_MAIN) k
  let s := s.when (out && main) (fun s => s.set (ctcWas k) 1)
  if out = main then s.set (ctcBad k) 0
  else if s.flag (ctcBad k) ∨ s.now < s.get (ctcCmdAt k) + ctcTfb s * 200000 then s
  else
    let c := if !out then 0 else if s.flag (ctcWas k) then 2 else 1
    let cls := if c = 0 && s.flag (ctcByForce k) then Cls.deviceSafe else Cls.ride
    let s := if c = 0 then s.setBit CTC_FAULT_WELD k true else if c = 1 then s.setBit CTC_FAULT_NOCLOSE k true
      else s.setBit CTC_FAULT_OPENED k true
    raiseFault (yardCode 6 (0x80 + 8 * k + c)) cls (raiseEvent 0x037 (s.set (ctcBad k) 1))

/-- EV_CTC_FAULT (R333): the feedback is compared with the commands. `CTCk_FB` is high while the main contact is open (R331). -/
def execEvCtcFault (fb : BitVec 4) (s : State) : Out :=
  let s := (s.set CTC_STAT_FB fb.toNat).set CTC_STAT_MAIN (15 - fb.toNat)
  ok (disCheck (s.each [0, 1, 2, 3] ctcJudge))

/-! ### The sealed safety block (R335 to R338) -/

/-- First address of sealed copy `c`. -/
def sealBase (c : Nat) : Nat := 0xE8000000 + c * 0x8000

/-- Word `i` of the copy in force; 0 while no copy is valid. -/
def sealed (i : Nat) (s : State) : Nat :=
  if s.flag SAFETY_STAT_VALID then s.wordAt (sealBase (s.get SAFETY_STAT_COPY) + 4 * i) else 0

/-- Word `i` of the copy in force as binary32. -/
def sealedF (i : Nat) (s : State) : F32 := BitVec.ofNat 32 (sealed i s)

/-- Whether copy `c` is valid (R335). -/
def sealValid (c : Nat) (s : State) : Bool :=
  s.wordAt (sealBase c) == 0x5AFEB10C && s.wordAt (sealBase c + 32764) == crc32Words (s.wordsAt (sealBase c) 8191)

/-- The copy in force: the valid one with the higher sequence number. -/
def sealPick (s : State) : Option Nat :=
  match sealValid 0 s, sealValid 1 s with
  | true, true => some (if s.wordAt (sealBase 0 + 32760) < s.wordAt (sealBase 1 + 32760) then 1 else 0)
  | true, false => some 0
  | false, true => some 1
  | false, false => none

/-- The hardware takes the sealed values of the copy in force (R337, R344); an STO hold acts on what its map names now (R318). -/
def sealLoad (s : State) : State :=
  let w := fun i => sealed i s
  let s := ((s.set safDtFloor (w 1 % 256)).set safStoMap (w 2 % 2 ^ 14)).set safStoCfg (bits (w 2) 24 8 + 256 * bits (w 2) 16 1)
  let s := stoApply (s.set safDsCfg (w 3 % 2 ^ 24))
  s.each [0, 1, 2, 3] (fun n s =>
    let s := (s.set (PROT_POL_DWELL n) (bits (w (7 + n)) 8 8)).set (PROT_POL_PREF n) (w (7 + n) % 2)
    dtFloorFlag n ((s.set (PROT_SPD_HI_SPD n) (w (11 + n))).set (PROT_SPD_LO_SPD n) (w (15 + n))))

/-- Read both copies: which is in force, its sequence number, and the hardware's values (R335, R338). -/
def sealRead (s : State) : State :=
  match sealPick s with
  | some c =>
    sealLoad (((s.set SAFETY_STAT_VALID 1).set SAFETY_STAT_COPY c).set SAFETY_SEQ_SEQ (s.wordAt (sealBase c + 32760)))
  | none => ((s.set SAFETY_STAT_VALID 0).set SAFETY_STAT_COPY 0).set SAFETY_SEQ_SEQ 0

/-- A binary32 word that is finite and not negative. -/
def plainF (w : Nat) : Bool := let x : F32 := BitVec.ofNat 32 w; F32.isFinite x && F32.le F32.zero x

/-- A signed 48-bit value from two words. -/
def travel48 (lo hi : Nat) : Int := sext 48 (lo + 2 ^ 32 * (hi % 65536))

/-- Whether word `i` of a sealed content `w` keeps the layout table and R336. -/
def sealWordOk (w : Nat → Nat) (i : Nat) : Bool :=
  let x := w i
  let f := fun j : Nat => (BitVec.ofNat 32 (w j) : F32)
  if i = 0 then x == 0x5AFEB10C
  else if i = 1 then decide (8 ≤ x % 256)
  else if i = 2 then decide (1 ≤ bits x 24 8)
  else if i = 3 then decide (1 ≤ bits x 16 8)
  else if i = 4 then decide (x % 65536 < x / 65536) && decide (x / 65536 ≤ 10000)
  else if i = 5 then true
  else if i = 6 then x % 2 ^ 20 % 32 == 0 && decide (x % 2 ^ 20 < 0xFFFE0)
  else if i < 11 then true
  else if i < 15 then plainF x && F32.lt (f (i + 4)) (f i)
  else if i < 22 then plainF x
  else if i = 22 then decide (x % 65536 < x / 65536)
  else if i < 32 then x == 0
  else if i < 64 then
    let k := i % 8
    if k < 5 then plainF x
    else if k = 5 then decide (1 ≤ bits x 8 4) && decide (bits x 8 4 ≤ 8) && decide (1 ≤ bits x 16 8)
    else x == 0
  else if i < 192 then
    let k := i % 8
    let b := i - k
    if k = 0 then plainF x
    else if k = 2 then x % 4 != 3
    else if k = 3 then
      let lo := travel48 (w (b + 3)) (w (b + 4))
      let hi := travel48 (w (b + 5)) (w (b + 6))
      decide (lo < hi) && (!bitAt (w (b + 7)) 8 || (decide (lo ≤ 0) && decide (0 ≤ hi)))
    else true
  else if i < 256 then x == 0
  else if i < 2304 then F32.isFinite (f i)
  else if i < 8190 then x == 0
  else true

/-- The first failing word of a sealed content. -/
def sealBad (w : Nat → Nat) : Option Nat := firstBelow 8190 (fun i => !sealWordOk w i)

def sealCmdReg : CmdReg := ⟨SAFETY_SEAL_CMD_CODE, SAFETY_SEAL_CMD_STATUS⟩

/-- Cellar user of a processor (R376); the debug port owns no cask. -/
def reqUser : Req → Nat
  | .y => 1
  | .s => 2
  | .i => 3
  | .d => 0

/-- No Stall, AUX unit or demand works: the condition of R336 (2), R358, R487 and R496 (1). -/
def stageIdle (s : State) : Bool :=
  [0, 1, 2, 3].all (fun n => s.get (PWM_STAT_STATE n) == 0) &&
    [0, 1].all (fun k => !s.flag (AUX_Ak_CTRL_EN k) && !s.flag (AUX_Ak_STAT_DEMAND k))

/-- Reason that refuses `SEAL` written by `who`; 0 none (R336). -/
def sealReason (who : Req) (s : State) : Nat :=
  let c := s.get SAFETY_SEAL_SRC_CASK
  if s.get SAFETY_STAT_STRAP ≠ 0b1010 then 1
  else if !stageIdle s then 2
  else if c + 8 ≤ 1024 ∧ (List.range 8).all (fun k => caskOwner s (c + k) == reqUser who) ∧ reqUser who ≠ 0 then 0
  else 3

/-- The copy that a seal writes and its sequence number (R337). -/
def sealTarget (s : State) : Nat := if s.flag SAFETY_STAT_VALID then 1 - s.get SAFETY_STAT_COPY else 0
def sealSeq (s : State) : Nat := if s.flag SAFETY_STAT_VALID then (s.get SAFETY_SEQ_SEQ + 1) % 2 ^ 32 else 1

/-- SEAL (R336, R337): every word but the seal word is written; the seal word's place is left erased. -/
def execSealCmd (who : Req) (s : State) : Out :=
  let r := sealReason who s
  ok (debugWrite who SAFETY_SEAL_CMD_CODE.addr (fun s => s.cmdStart sealCmdReg 1 (r == 0) stBusy (fun s =>
      let a := caskBase (s.get SAFETY_SEAL_SRC_CASK)
      match sealBad (fun i => s.wordAt (a + 4 * i)) with
      | some i => ((s.set SAFETY_SEAL_STAT_ERR 4).set SAFETY_SEAL_STAT_WORD i).cmdEnd sealCmdReg stFailed
      | none => s.putWords (sealBase (sealTarget s)) (s.wordsAt a 8190 ++ [sealSeq s, 0xFFFFFFFF]))
    (fun s => s.set SAFETY_SEAL_STAT_ERR r)) s)

/-- The seal word of the copy being written goes in: the commit point (R337). -/
def sealWrite (s : State) : State :=
  let c := sealTarget s
  s.putWord (sealBase c + 32764) (crc32Words (s.wordsAt (sealBase c) 8191))

/-- The commit with what follows it, the command ending with `st` (R337). -/
def sealCommit (st : Nat) (s : State) : State :=
  let c := sealTarget s
  let q := sealSeq s
  let s := (((sealWrite s).set SAFETY_STAT_VALID 1).set SAFETY_STAT_COPY c).set SAFETY_SEQ_SEQ q
  raiseEvent 0x039 (((sealLoad s).inc (LEDGER_LIVE_w_W 69)).cmdEnd sealCmdReg st)

/-- A run fails with cause 5 or 6, where no word of the content has failed: what `WORD` takes is free (R336; log entry 107). -/
def sealFails (e : Nat) (s : State) : State :=
  (((s.set SAFETY_SEAL_STAT_ERR e).set SAFETY_SEAL_STAT_WORD (Config.fresh s.freeCount).toNat).draw).cmdEnd sealCmdReg stFailed

/-- EV_SEAL_DONE (R336, R337): the write of the seal word. -/
def execEvSealDone (good : Bool) (s : State) : Out :=
  ok (s.when (s.busy sealCmdReg) (fun s =>
    if good then sealCommit stDone s else sealFails 5 s))

/-- The straps leave the open code during a run (R336). -/
def sealStraps (s : State) : State :=
  s.when (s.busy sealCmdReg && s.get SAFETY_STAT_STRAP != 0b1010) (sealFails 6)

/-- An abort of `SEAL` (R50, R337): it meets the seal word written or not, a free choice (log entry 64). -/
def sealAbort (s : State) : State :=
  (if bitAt (Config.fresh s.freeCount).toNat 0 then sealCommit stTooLate s else s.cmdEnd sealCmdReg stAborted).draw

/-- A reset that meets a run leaves the seal word written or not, a free choice (R51, R337; log entry 64). -/
def sealReset (s : State) : State :=
  s.when (s.busy sealCmdReg) (fun s => (if bitAt (Config.fresh s.freeCount).toNat 0 then sealWrite s else s).draw)

end Sys2Proof.Machine
end

