-- ==== Sys2Proof/Machine/Sheepdog.lean ====
section
/-!
DEFINITION. The Sheepdog's cycle (10_safety_functions): the hardware's snapshot and checks (R304, R306, R339), and what the safety
firmware decides from it (R305): torque, coverage, functions, safe stop, acknowledgement and the withdrawal of commands.
-/

namespace Sys2Proof.Machine
open Reg

/-! ### The snapshot (R304) -/

/-- Current or voltage of slot `q` on the modulator path, the converter's where that input is invalid. -/
def snapQ (n q : Nat) (s : State) : Nat :=
  let ch := s.get (SENSE_Qq_CFG_CH n q)
  ((slotM n q s).getD (physical (s.geti (SENSE_CHk_COR_COR n ch)) (s.getF (SENSE_CHk_SCALE_SCALE n ch)))).toNat

/-- Word 4 but its bit 25: what the port latched at the last trigger or internal instant (R132, R304). -/
def posWord (n : Nat) (s : State) : Nat :=
  let f := s.get (posLatFlags n)
  s.get (POS_ANG_ANGLE n) + 2 ^ 16 * bits f 6 2 + 2 ^ 18 * bits f 4 2 + 2 ^ 20 * bits f 1 1 + 2 ^ 21 * bits f 2 1 +
    2 ^ 22 * bits f 0 1 + 2 ^ 23 * bits f 3 1 + 2 ^ 24 * s.get (posMismSeen n)

/-- Words 0 to 15 of Stall `n`: words 8 to 11 as at the last trigger, or as they stand where the Stall has no carrier. Where
`POS_CTRL.SAFETY` is 0 the port feeds the Sheepdog nothing (R169), and what it would feed reads 0 (log entry 88). -/
def snapWords (n : Nat) (s : State) : List Nat :=
  let g := fun f => s.get f
  let fed := fun x => if s.flag (POS_CTRL_SAFETY n) then x else 0
  [snapQ n 0 s, snapQ n 1 s, snapQ n 2 s, snapQ n 3 s,
   fed (posWord n s) + 2 ^ 25 * g (POS_CTRL_SAFETY n), fed (g (POS_SPD_SPD n)),
   fed (g (posLatTrav n) % 2 ^ 32), fed (g (posLatTrav n) / 2 ^ 32)] ++
    (if carrierOn n s then (List.range 4).map (fun w => g (shdLat n w)) else shdWords n s) ++ [g (senTrigAt n), 0, 0, 0]

/-- The snapshot of Stall `n`. -/
def snapTake (n : Nat) (s : State) : State :=
  let l := snapWords n s
  (s.each (List.range 16) (fun w s => s.set (SHD_SNAP_n_w_W n w) (l.getD w 0))).set (posMismSeen n) 0

def snap (n w : Nat) (s : State) : Nat := s.get (SHD_SNAP_n_w_W n w)
def snapF (n w : Nat) (s : State) : F32 := s.getF (SHD_SNAP_n_w_W n w)

/-- PWM `STATE` 1 or 2 in the snapshot, and not a follower: the cycles in which torque is checked (R312). -/
def snapChecked (n : Nat) (s : State) : Bool :=
  (snap n 8 s % 8 == 1 || snap n 8 s % 8 == 2) && s.get (PWM_CTRL_PAIR n) != 2

/-! ### The hardware's checks -/

/-- The oscillator count (R306). -/
def oscCheck (osc : Nat) (s : State) : State :=
  let bad := decide (osc < 720) || decide (880 < osc)
  let s := (s.set SHD_OSC_COUNT osc).setB SHD_STAT_OSC_ERR bad
  if bad then
    let s := s.set oscRun (min 3 (s.get oscRun + 1))
    s.when (s.get oscRun == 2) (raiseFault (yardCode 6 2) .deviceSafe)
  else s.set oscRun 0

/-- The straps (R339): a code that differs from the boot code is reported once. -/
def strapCheck (strap : Nat) (s : State) : State :=
  let s := sealStraps (s.set SAFETY_STAT_STRAP strap)
  if s.flag safBooted ∧ s.get safStrapRep ≠ strap then
    let s := s.set safStrapRep strap
    s.when (strap != s.get SAFETY_STAT_STRAP_BOOT) (raiseFault (yardCode 6 8) .ride)
  else s

/-! ### Firmware causes (R310, R343) -/

/-- Word 7 of the selected profile set of Stall `n` (R325). -/
def fnSet (n : Nat) (s : State) : Nat := 64 + 32 * n + 8 * (s.get (fnCur n) % 4)

/-- Reaction of function `f` (0 SLS, 1 SDI, 2 SLP) of Stall `n`. -/
def fnReaction (n f : Nat) (s : State) : Nat := bits (sealed (fnSet n s + 7) s) (2 * f) 2

/-- Whether function `f` of Stall `n` is active. -/
def fnActive (n f : Nat) (s : State) : Bool := bitAt (s.get (fnCur n)) (4 + f)

/-- Reaction to a position fault: the first of 2, 1, 3, 0 among the active functions (R330). -/
def posReaction (n : Nat) (s : State) : Nat :=
  let l := ([0, 1, 2].filter (fun f => fnActive n f s)).map (fun f => fnReaction n f s)
  if l.contains 2 then 2 else if l.contains 1 then 1 else if l.contains 3 then 3 else 0

/-- Reaction of firmware cause `c`, 0x10 to 0x37: 0 report, 1 by table, 2 `TORQUE_OFF`, 3 safe stop (R330, R343). -/
def fwReaction (c : Nat) (s : State) : Nat :=
  let n := (c - 0x10) % 4
  match (c - 0x10) / 4 with
  | 3 | 4 => 0
  | 5 => fnReaction n 0 s
  | 6 => fnReaction n 1 s
  | 7 => fnReaction n 2 s
  | 9 => posReaction n s
  | _ => 1

/-- Class of firmware cause `c`. -/
def fwClass (c : Nat) (s : State) : Cls :=
  if (c - 0x10) / 4 = 4 then .deviceSafe
  else if fwReaction c s = 1 ∨ fwReaction c s = 2 then .stallSafe else .ride

/-- The firmware commands Stall `n` with `kind` for a cause, present from now on until a snapshot shows it gone (R310). -/
def fwCommand (n kind : Nat) (s : State) : State :=
  let s := ((s.set (safCause n) 1).set (safAckd n) 0).set (safCmdKind n) (max kind (s.get (safCmdKind n)))
  let v := s.get SAFETY_STALL_CMD_KIND
  shdCommands (putBits v (2 * n) 2 (max kind (bits v (2 * n) 2))) s

/-! ### Safe stop (R321 to R324) -/

def ss1Cmd : CmdReg := ⟨SAFETY_SS1_CMD_CODE, SAFETY_SS1_CMD_STATUS⟩

/-- A run is in phase 1 or 2, its commit not due yet. -/
def ss1Runs (s : State) : Bool := (s.get SAFETY_SS1_STAT_PHASE == 1 || s.get SAFETY_SS1_STAT_PHASE == 2) && s.get ss1DueAt == 0

/-- Reason that refuses a safe stop of the Stalls in `mask`; 0 none (R321). `on` says which are in PWM state 2, `seen` which have a valid
speed and `POS_CTRL.SAFETY`. -/
def ss1Refuse (on seen : Nat → Bool) (mask : Nat) (s : State) : Nat :=
  let l := [0, 1, 2, 3].filter (fun n => bitAt mask n)
  if mask = 0 ∨ l.any (fun n => s.get (PWM_CTRL_PAIR n) == 2 || !on n) then 1
  else if l.any (fun n => !seen n) then 2
  else if s.get SAFETY_SS1_STAT_PHASE ≠ 0 then 3
  else if s.flag SAFETY_STAT_DS then 4
  else 0

/-- The reason for a command, from the registers at its write (R321). -/
def ss1Reason (mask : Nat) (s : State) : Nat :=
  ss1Refuse (fun n => s.get (PWM_STAT_STATE n) == 2) (fun n => s.flag (POS_CTRL_SAFETY n) && s.flag (POS_SPD_STAT_VALID n)) mask s

/-- The reason for a firmware reaction, which rests on the cycle's snapshot alone (R305, R330). -/
def ss1SnapReason (mask : Nat) (s : State) : Nat :=
  ss1Refuse (fun n => snap n 8 s % 8 == 2) (fun n => bitAt (snap n 4 s) 25 && bitAt (snap n 4 s) 22) mask s

/-- A run of `mask` starts: its time counts from the next cycle. -/
def ss1Start (mask : Nat) (s : State) : State :=
  let s := (((s.set ss1Mask mask).set ss1First 1).set SAFETY_SS1_STAT_PHASE 1).set ss1DueAt 0
  (s.set SAFETY_SS1_STAT_T_MS 0).each [0, 1, 2, 3] (fun n s => s.set (ss1Run n) 0)

/-- A run ends with a status and leaves phase `ph`; `EV_SS1` reports every end (R323). -/
def ss1End (st ph : Nat) (s : State) : State :=
  let s := (((s.set SAFETY_SS1_STAT_PHASE ph).set ss1Mask 0).set ss1DueAt 0).set ss1EndAt 0
  raiseEvent 0x035 (s.when (s.busy ss1Cmd && s.get SAFETY_SS1_CMD_CODE == 1) (fun s => s.cmdEnd ss1Cmd st))

/-- SS1_RUN (R321). -/
def execSs1Run (s : State) : Out :=
  let mask := s.get SAFETY_SS1_CFG_MASK
  let r := ss1Reason mask s
  ok (s.cmdStart ss1Cmd 1 (r == 0) stBusy (fun s => ss1Start mask (s.set SAFETY_SS1_STAT_ERR 0)) (fun s => s.set SAFETY_SS1_STAT_ERR r))

/-- SS1_RESTART (R324): the firmware decides it in its next cycle. -/
def execSs1Restart (s : State) : Out := ok (s.cmdStart ss1Cmd 2 true stBusy id id)

/-- The firmware raises cause `c` with its event, if any, and takes the reaction: a command, or a safe stop where none runs (R330). -/
def fwRaise (c : Nat) (s : State) : State :=
  let n := (c - 0x10) % 4
  let r := fwReaction c s
  let s := (s.set SAFETY_RAISE_CODE c).set SHD_LAST_CODE (yardCode 6 c)
  let s := raiseFault (yardCode 6 c) (fwClass c s) s
  if r = 1 ∨ r = 2 then fwCommand n r s
  else if r = 3 then (if ss1SnapReason (2 ^ n) s = 0 then ss1Start (2 ^ n) s else fwCommand n 1 s)
  else s

/-- Whether cause `c`, raised now, commands its Stall: at once, or by table in place of a safe stop that cannot start (R330). -/
def fwCommands (c : Nat) (s : State) : Bool :=
  let r := fwReaction c s
  r == 1 || r == 2 || (r == 3 && ss1SnapReason (2 ^ ((c - 0x10) % 4)) s != 0)

/-- Violation or position fault `f` of Stall `n` with cause `c`, as the snapshot shows it: raised at its onset with `tell`, and present
for its command while it lasts (R310, R330). -/
def fwOnset (n f c : Nat) (now was : Bool) (tell : State → State) (s : State) : State :=
  if !now then s.setBit (fnCmd n) f false
  else if was then s.when (bitAt (s.get (fnCmd n)) f) (fun s => s.set (safCause n) 1)
  else fwRaise c (tell (s.setBit (fnCmd n) f (fwCommands c s)))

/-- SAFETY_RAISE (R343). -/
def execSafetyRaise (c : BitVec 16) (s : State) : Out :=
  ok (if 0x10 ≤ c.toNat ∧ c.toNat ≤ 0x37 then busOk (fwRaise c.toNat s) else busErr s)

/-- The envelope at `t` ticks into the run (R322). -/
def ss1Envelope (n t : Nat) (s : State) : F32 :=
  let late := t - sealed 22 s % 65536 * 200000
  F32.sub (F32.add (F32.abs (s.getF (ss1W0 n))) (sealedF 20 s)) (F32.mul (sealedF 19 s) (F32.ofRat late 200000000))

/-- Whether the snapshot of Stall `n` ends the run, its run of snapshots above the envelope brought on. -/
def ss1Judge (n t : Nat) (s : State) : Bool × State :=
  let w := F32.abs (snapF n 5 s)
  let p := snap n 4 s
  let lost := !bitAt p 22 || bits p 16 2 == 0 || bits p 18 2 == 2
  let s := if F32.lt (ss1Envelope n t s) w then s.set (ss1Run n) (s.get (ss1Run n) + 1) else s.set (ss1Run n) 0
  (lost || decide (2 ≤ s.get (ss1Run n)), s)

/-- The Stalls of the run. -/
def ss1Stalls (s : State) : List Nat := [0, 1, 2, 3].filter (fun n => bitAt (s.get ss1Mask) n)

/-- The commit (R323): 2 into `KINDn` of every named Stall in one write. -/
def ss1Commit (s : State) : State :=
  let mask := s.get ss1Mask
  let v := (ss1Stalls s).foldl (fun v n => putBits v (2 * n) 2 2) (s.get SAFETY_STALL_CMD_KIND)
  let s := shdCommands v (s.set ss1DueAt 0)
  ((s.set SAFETY_SS1_STAT_HELD mask).set SAFETY_SS1_STAT_PHASE 3).setWide SAFETY_SS1_TB_LO_TB SAFETY_SS1_TB_HI_TB s.now

/-- The commit is due in this cycle: the firmware's write lands at a free instant of the cycle's first 80 us, and its report of the
run's end with it or later within them (R305, R323; log entry 89). -/
def ss1Due (s : State) : State :=
  let a := (Config.fresh s.freeCount).toNat % 16000
  let s := s.draw
  let b := (Config.fresh s.freeCount).toNat % (16000 - a)
  ((s.set ss1DueAt (s.now + a + 1)).set ss1EndAt (s.now + a + b + 1)).draw

/-- What a tick brings a due safe stop: its commit write, and its end (R323). -/
def ss1Tick (s : State) : State :=
  let s := s.when (s.get ss1DueAt != 0 && decide (s.get ss1DueAt - 1 ≤ s.now)) ss1Commit
  s.when (s.get ss1DueAt == 0 && s.get ss1EndAt != 0 && decide (s.get ss1EndAt - 1 ≤ s.now)) (ss1End stDone 3)

/-- An abort of `SAFETY_SS1_CMD` (R323, R324): before the commit write nothing is commanded; at or after it torque is removed. -/
def ss1Abort (s : State) : State :=
  if s.get SAFETY_SS1_CMD_CODE ≠ 1 then s.cmdEnd ss1Cmd stAborted
  else if s.get ss1EndAt ≠ 0 ∧ s.get ss1DueAt = 0 then ss1End stTooLate 3 s
  else ss1End stAborted 0 s

/-- One cycle of a running safe stop (R321 to R323). -/
def ss1Cycle (s : State) : State :=
  if !ss1Runs s then s
  else
    let l := ss1Stalls s
    let s := if s.flag ss1First then
        ((s.set ss1First 0).set ss1At s.now).each l (fun n s => s.set (ss1W0 n) (snap n 5 s))
      else s
    let t := s.now - s.get ss1At
    let delay := sealed 22 s % 65536 * 200000
    let s := (s.set SAFETY_SS1_STAT_T_MS (clampU 16 (t / 200000))).set SAFETY_SS1_STAT_PHASE (if t < delay then 1 else 2)
    let (bad, s) := if t < delay then ([], s) else
      l.foldl (fun (r : List Nat × State) n => let (b, s) := ss1Judge n t r.2; (if b then r.1 ++ [n] else r.1, s)) ([], s)
    if !bad.isEmpty then (ss1End stFailed 0 s).each bad (fun n => fwRaise (0x30 + n))
    else if l.all (fun n => F32.le (F32.abs (snapF n 5 s)) (sealedF 21 s)) ∨ sealed 22 s / 65536 * 200000 ≤ t then ss1Due s
    else s

/-- The firmware's decision of a waiting `RESTART` (R324). -/
def ss1RestartCycle (s : State) : State :=
  if s.busy ss1Cmd ∧ s.get SAFETY_SS1_CMD_CODE = 2 then
    let held := s.get SAFETY_SS1_STAT_HELD
    let l := [0, 1, 2, 3].filter (fun n => bitAt held n)
    if ss1Runs s ∨ held = 0 ∨ s.flag SAFETY_STAT_DS ∨ l.any (fun n => s.get (safCmdKind n) != 0) then s.cmdEnd ss1Cmd stRefused
    else
      let v := l.foldl (fun v n => putBits v (2 * n) 2 0) (s.get SAFETY_STALL_CMD_KIND)
      shdCommands v (((s.set SAFETY_SS1_STAT_HELD 0).set SAFETY_SS1_STAT_PHASE 0).cmdEnd ss1Cmd stDone)
  else s

/-! ### Torque and coverage (R312 to R316) -/

/-- WINDOW_APPLY (R312): the write of `SAFETY_TQ_HI_n` applies both words. -/
def execWindowApply (n : Fin 4) (hi : BitVec 32) (s : State) : Out :=
  let a := (SAFETY_TQ_LO_n_LO n).addr
  let s := s.set (SAFETY_TQ_LO_n_LO n) (heldOr s a (s.get (SAFETY_TQ_LO_n_LO n)))
  let s := { s with held := storeDrop a s.held }
  ok (busOk (ageRestart n (s.set (SAFETY_TQ_HI_n_HI n) hi.toNat)))

/-- The sealed word `k` of Stall `n`'s torque monitoring (R335). -/
def tqWord (n k : Nat) (s : State) : Nat := sealed (32 + 8 * n + k) s
def tqF (n k : Nat) (s : State) : F32 := sealedF (32 + 8 * n + k) s

/-- Whether the window of Stall `n` is valid (R312); in a pair either Stall's degraded coverage counts. -/
def windowValid (n : Nat) (s : State) : Bool :=
  let lo := s.getF (SAFETY_TQ_LO_n_LO n)
  let hi := s.getF (SAFETY_TQ_HI_n_HI n)
  let deg := (pairList n s).any (fun p => bitAt (s.get SHD_COVER_DEG) p)
  let lim := tqF n (if deg then 1 else 0) s
  let inside := fun x => F32.le (F32.neg lim) x && F32.le x lim
  F32.le lo hi && F32.le (F32.sub hi lo) (tqF n 2 s) && inside lo && inside hi

/-- Position of a current on a table's axis: grid point and fraction (R313). -/
def gridPos (imax i : F32) : Nat × F32 :=
  let c := clampSym i imax
  let x := F32.div (F32.mul (F32.add c imax) (F32.ofInt 15)) (F32.mul two imax)
  let j := min 14 (F32.toIntDown x).toNat
  (j, F32.sub x (F32.ofInt j))

/-- Bilinear value of Stall `n`'s flux table at sealed word `base`. -/
def fluxAt (n base : Nat) (imax id iq : F32) (s : State) : F32 :=
  let (j, fj) := gridPos imax id
  let (k, fk) := gridPos imax iq
  let p := fun a b => sealedF (256 + 512 * n + base + 16 * (j + a) + (k + b)) s
  let mix := fun (a b f : F32) => F32.add a (F32.mul f (F32.sub b a))
  mix (mix (p 0 0) (p 0 1) fk) (mix (p 1 0) (p 1 1) fk) fj

/-- The torque of Stall `n` from its snapshot (R313); a follower uses the lead's angle less 30° (R31). -/
def torque (n : Nat) (dev : F32) (s : State) : F32 :=
  let ang : Int := if s.get (PWM_CTRL_PAIR n) = 2 then ((snap (n - 1) 4 s % 65536 : Nat) - 5461) % 65536 else (snap n 4 s % 65536 : Nat)
  let th := F32.div (F32.mul twoPi (F32.ofInt ang)) (F32.ofInt 65536)
  let cur := fun w => snapF n w s
  let ia := F32.div (F32.sub (F32.sub (F32.mul two (cur 0)) (cur 1)) (cur 2)) three
  let ib := F32.div (F32.sub (cur 1) (cur 2)) sqrt3
  let id := F32.add (F32.mul ia (F32.cos th)) (F32.mul ib (F32.sin th))
  let iq := F32.add (F32.mul (F32.neg ia) (F32.sin th)) (F32.mul ib (F32.cos th))
  let imax := tqF n 4 s
  let pd := fluxAt n 0 imax id iq s
  let pq := fluxAt n 256 imax id iq s
  let t := F32.mul (F32.mul (F32.ofRat 3 2) (F32.ofInt (tqWord n 5 s % 32))) (F32.sub (F32.mul pd iq) (F32.mul pq id))
  let lim := F32.mul (F32.ofRat 5 1000) (tqF n 0 s)
  F32.add t (if F32.isFinite dev then clampSym dev lim else F32.zero)

/-- Whether at least two core copies of the request record equal the applied window (R316). -/
def requestAgrees (n : Nat) (s : State) : Bool :=
  let ofs := sealed 6 s % 2 ^ 20 + 8 * n
  let same := fun c => s.wordAt (0x10100000 + c * 0x100000 + ofs) == s.get (SAFETY_TQ_LO_n_LO n) &&
    s.wordAt (0x10100000 + c * 0x100000 + ofs + 4) == s.get (SAFETY_TQ_HI_n_HI n)
  decide (2 ≤ ([0, 1, 2].filter same).length)

/-- Coverage of Stall `n` (R315). -/
def coverage (n : Nat) (s : State) : State :=
  let w := snap n 8 s
  let bad := [0, 1, 2].any (fun q =>
    let i := s.get (SENSE_Qq_CFG_MODIN n q)
    bits w (8 + 2 * q) 2 != 0 || !(decide (i < 6) && bitAt w (16 + i)))
  let was := bitAt (s.get SHD_COVER_DEG) n
  let s := s.setBit SHD_COVER_DEG n bad
  s.when (bad && !was) (fun s => fwRaise (0x1C + n) (raiseEvent 0x03A s))

/-- Torque, window, age and request record of a checked Stall (R313, R314, R316). -/
def torqueCheck (n : Nat) (dev : List (BitVec 32)) (s : State) : State :=
  let s := s.setF (SHD_SPD_n_SPD n) (snapF (leadOf n s) 5 s)
  if !snapChecked n s then s
  else
    let ps := pairList n s
    let s := s.each ps (fun p s => s.setF (SHD_TQ_n_TQ p) (torque p (dev.getD p 0) s))
    let t := (ps.drop 1).foldl (fun t p => F32.add t (s.getF (SHD_TQ_n_TQ p))) (s.getF (SHD_TQ_n_TQ n))
    let tol := tqF n 3 s
    let out := F32.lt t (F32.sub (s.getF (SAFETY_TQ_LO_n_LO n)) tol) || F32.lt (F32.add (s.getF (SAFETY_TQ_HI_n_HI n)) tol) t
    let run := if out then min 15 (s.get (tqRun n) + 1) else 0
    let req := if requestAgrees n s then 0 else min 3 (s.get (reqRun n) + 1)
    let was := s.get (reqRun n)
    let s := (s.set (tqRun n) run).set (reqRun n) req
    let viol := out && decide (bits (tqWord n 5 s) 8 4 ≤ run)
    let stale := decide (bits (tqWord n 5 s) 16 8 * 1000 < s.get (SAFETY_TQ_AGE_n_AGE n))
    let invalid := !windowValid n s
    let s := s.when viol (fun s => fwRaise (0x10 + n) (raiseEvent 0x032 (s.set (tqRun n) 0)))
    let s := s.when invalid (fwRaise (0x14 + n))
    let s := s.when stale (fwRaise (0x18 + n))
    s.when (decide (req = 3) && decide (was < 3)) (fwRaise (0x20 + n))

/-! ### Limited speed, direction and position (R325 to R330) -/

/-- FN_SEL_WRITE (R326): a follower, or a Stall without `POS_CTRL.SAFETY`, enables nothing. -/
def execFnSelWrite (n : Fin 4) (v : BitVec 32) (s : State) : Out :=
  let w := v.toNat
  ok (if bits w 4 3 ≠ 0 ∧ (s.get (PWM_CTRL_PAIR n) = 2 ∨ !s.flag (POS_CTRL_SAFETY n)) then busErr s
  else
    let s := (s.set (SAFETY_FN_SEL_n_SLP_EN n) (bits w 6 1)).set (SAFETY_FN_SEL_n_SDI_EN n) (bits w 5 1)
    busOk ((s.set (SAFETY_FN_SEL_n_SLS_EN n) (bits w 4 1)).set (SAFETY_FN_SEL_n_SET n) (w % 4)))

/-- Travel of Stall `n` in the snapshot. -/
def snapTravel (n : Nat) (s : State) : Int := travel48 (snap n 6 s) (snap n 7 s)

/-- A write of `SAFETY_FN_SEL_n` takes effect: references of newly active functions, or of all at a change of set,
whose violations begin anew (R326, R330). -/
def fnActivate (n : Nat) (s : State) : State :=
  let old := s.get (fnCur n)
  let new := s.get (SAFETY_FN_SEL_n_SET n) + 16 * s.get (SAFETY_FN_SEL_n_SLS_EN n) + 32 * s.get (SAFETY_FN_SEL_n_SDI_EN n) +
    64 * s.get (SAFETY_FN_SEL_n_SLP_EN n)
  let fresh := fun f => bitAt new (4 + f) && (!bitAt old (4 + f) || old % 4 != new % 4)
  let s := (s.set (fnCur n) new).set (SAFETY_FN_STAT_n_ACT n) (new / 16)
  let s := s.each ([0, 1, 2].filter fresh) (fun f s => s.setBit (fnViol n) f false)
  let s := s.when (fresh 0) (fun s => (s.set (fnAt n) s.now).set (fnSlsRun n) 0)
  let s := s.when (fresh 1) (fun s => s.seti (fnFar n) (snapTravel n s))
  s.when (fresh 2) (fun s => s.seti (fnRef n) (snapTravel n s))

/-- SLS is violated, its run brought on (R327). -/
def slsJudge (n : Nat) (s : State) : Bool × State :=
  let b := fnSet n s
  let late := decide (s.get (fnAt n) + sealed (b + 1) s % 65536 * 200000 ≤ s.now)
  let lim := sealedF b s
  if fnActive n 0 s && late && !F32.isZero lim && F32.lt lim (F32.abs (snapF n 5 s)) then
    let s := s.set (fnSlsRun n) (min 2 (s.get (fnSlsRun n) + 1))
    (s.get (fnSlsRun n) == 2, s)
  else (false, s.set (fnSlsRun n) 0)

/-- SDI is violated, its farthest travel brought on (R328). -/
def sdiJudge (n : Nat) (s : State) : Bool × State :=
  let w := sealed (fnSet n s + 2) s
  let dir := w % 4
  let tol : Int := (w / 256 : Nat)
  let x := snapTravel n s
  let far := s.geti (fnFar n)
  if !fnActive n 1 s || dir == 0 then (false, s)
  else if dir = 2 then (decide (tol < x - far), s.seti (fnFar n) (min far x))
  else (decide (tol < far - x), s.seti (fnFar n) (max far x))

/-- SLP is violated (R329). -/
def slpJudge (n : Nat) (s : State) : Bool :=
  let b := fnSet n s
  let w := fun i => sealed (b + i) s
  let x0 := snapTravel n s
  let x := if bitAt (w 7) 8 then x0 - s.geti (fnRef n) else x0
  fnActive n 2 s && (decide (x < travel48 (w 3) (w 4)) || decide (travel48 (w 5) (w 6) < x))

/-- The functions of Stall `n` in one cycle (R326 to R330): a violation is raised at its onset, and is present while it lasts. -/
def fnCycle (n : Nat) (s : State) : State :=
  let s := fnActivate n s
  let old := s.get (fnViol n)
  let (a, s) := slsJudge n s
  let (b, s) := sdiJudge n s
  let c := slpJudge n s
  let now := a.toNat + 2 * b.toNat + 4 * c.toNat
  let s := s.set (fnViol n) now
  s.each [0, 1, 2] (fun f => fwOnset n f (0x24 + 4 * f + n) (bitAt now f) (bitAt old f)
    (fun s => raiseEvent 0x036 (s.setBit (SAFETY_FN_STAT_n_VIOL n) f true)))

/-- Position faults of Stall `n` (R330), where `POS_CTRL.SAFETY` lets them reach the Sheepdog (R169). -/
def posFault (n : Nat) (s : State) : State :=
  let p := snap n 4 s
  let bad := bitAt p 25 && (bitAt p 24 || bitAt p 23 || bits p 16 2 == 0 || bits p 18 2 == 2)
  let was := s.flag (fnPosF n)
  fwOnset n 3 (0x34 + n) bad was id (s.setB (fnPosF n) bad)

/-! ### Acknowledgement and withdrawal (R310, R311) -/

def shdAckCmd : CmdReg := ⟨SAFETY_ACK_CMD_CODE, SAFETY_ACK_CMD_STATUS⟩

/-- SAFETY_ACK (R311): codes 0x01 to 0x0F. The firmware decides it in its next cycle. -/
def execSafetyAck (mask : BitVec 4) (s : State) : Out :=
  ok (s.cmdStart shdAckCmd mask.toNat (mask != 0) stBusy id id)

/-- The decision of a waiting acknowledgement. -/
def ackCycle (s : State) : State :=
  if s.busy shdAckCmd then
    let l := [0, 1, 2, 3].filter (fun n => bitAt (s.get SAFETY_ACK_CMD_CODE) n)
    if l.any (fun n => s.flag (safCause n)) then s.cmdEnd shdAckCmd stRefused
    else (s.each l (fun n s => s.set (safAckd n) 1)).cmdEnd shdAckCmd stDone
  else s

/-- The firmware withdraws what its causes commanded (R310); a Stall held by a safe stop stays commanded. -/
def withdraw (s : State) : State :=
  let l := [0, 1, 2, 3].filter (fun n => s.get (safCmdKind n) != 0 && !s.flag (safCause n) && s.flag (safAckd n) && !s.flag SAFETY_STAT_DS)
  let v := l.foldl (fun v n => putBits v (2 * n) 2 (if bitAt (s.get SAFETY_SS1_STAT_HELD) n then 2 else 0)) (s.get SAFETY_STALL_CMD_KIND)
  let s := shdCommands v (s.each l (fun n s => s.set (safCmdKind n) 0))
  s.each [0, 1, 2, 3] (fun n s => s.set (safCause n) 0)

/-! ### The cycle (R304, R305) -/

/-- What the firmware decides in one cycle. -/
def firmware (dev : List (BitVec 32)) (s : State) : State :=
  let s := s.each [0, 1, 2, 3] coverage
  let s := s.each [0, 1, 2, 3] (fun n => torqueCheck n dev)
  let s := s.each [0, 1, 2, 3] (fun n s => posFault n (fnCycle n s))
  withdraw (ackCycle (ss1RestartCycle (ss1Cycle s)))

/-- SHEEPDOG_CYCLE (R304): once at every `TB_NOW` that is a multiple of 20,000; `osc` RC cycles counted, the strap code, corrected
SRAM errors, and the deviations of the computed torques (R313). -/
def execSheepdogCycle (osc : BitVec 16) (strap : BitVec 4) (ce : BitVec 8) (dev : List (BitVec 32)) (s : State) : Out :=
  ok (s.when (s.now % 20000 == 0 && s.get shdCycAt != s.now + 1) (fun s =>
    let s := ((s.set shdCycAt (s.now + 1)).set SHD_CYCLE_COUNT (s.get SHD_CYCLE_COUNT + 1)).addSat SHD_STAT_CE ce.toNat
    let s := strapCheck strap.toNat (oscCheck osc.toNat (s.each [0, 1, 2, 3] snapTake))
    disCheck (s.when (s.flag SHD_STAT_RUN) (firmware dev))))

end Sys2Proof.Machine
end

