-- ==== Sys2Proof/Machine/Yoke.lean ====
section
/-!
DEFINITION. The Yoke's voter (11_yoke): stagger buffers and voting, marks, signatures, interrupts, resynchronisation, the watchdog
and broken lock-step. What an issued transaction does on the bus is in Machine/Access.lean.
-/

namespace Sys2Proof.Machine
open Reg

/-- Cores in service (R351, R358). -/
def inService (s : State) : List Nat :=
  if s.get YOKE_STAT_MODE = 0 then [0, 1, 2] else [0, 1, 2].filter (fun c => s.get YOKE_STAT_MARKED != c)

/-- Cores that run: after a broken lock-step Y0 alone (R363). -/
def runningCores (s : State) : List Nat := if s.flag YOKE_STAT_LOCKSTEP_BROKEN then [0] else inService s

/-- What the voter compares of a transaction: its data only for a write or a signature (R350). -/
def comparedTxn (t : Txn) : Txn := if t.kind = .read then { t with data := 0 } else t

/-- First copy of core `c` in its stagger buffer. -/
def headOf (c : Nat) (s : State) : Option YokeCopy := s.yokeBuf.find? (fun e => e.core == c)

/-- A list of copies without core `c`'s first one. -/
def dropFirst (c : Nat) : List YokeCopy → List YokeCopy
  | [] => []
  | e :: r => if e.core = c then r else e :: dropFirst c r

/-- How many copies core `c`'s stagger buffer holds. -/
def bufCount (c : Nat) (s : State) : Nat := (s.yokeBuf.filter (fun e => e.core == c)).length

/-- Keep `YOKE_BUF` (R349). -/
def bufUpdate (s : State) : State :=
  ((s.set YOKE_BUF_B0 (bufCount 0 s)).set YOKE_BUF_B1 (bufCount 1 s)).set YOKE_BUF_B2 (bufCount 2 s)

/-- `YOKE_DIS_INFO.KIND` of copy `t` against `e`. -/
def diffKind (e t : Txn) : Nat :=
  if e.kind = .sig ∨ t.kind = .sig then 3
  else if e.kind = .read then 2
  else if e.kind = t.kind ∧ e.addr = t.addr ∧ e.size = t.size then 0 else 1

/-! ### Which core may go on (R348, R349, R356 to R359, R363) -/

/-- The index of the voter's record of the `i`-th interrupt. -/
def intSlot (i : Nat) : Nat := i % 2 ^ 18

/-- Core `c` has reached the instruction K of a recorded interrupt that it has not entered (R356). -/
def intDue (c : Nat) (s : State) : Bool :=
  decide (s.get (yokeInts c) < s.get yokeIntN) && s.get (yokeSeq c) == s.get (yokeIntK (intSlot (s.get (yokeInts c))))

/-- Core `c` has not come as far as another core in service, or has an interrupt to enter. -/
def coreBehind (c : Nat) (s : State) : Bool :=
  (inService s).any (fun d => decide (s.get (yokeSeq c) < s.get (yokeSeq d))) || decide (s.get (yokeInts c) < s.get yokeIntN)

/-- Steps 1 and 2 of a running resynchronisation are over (R359). -/
def resyncDrains (s : State) : Bool :=
  s.get YOKE_STAT_MODE == 2 && decide (s.get yokeRsDur ≤ s.now - s.get yokeRsAt)

/-- Core `c` stands still: the Yoke has stopped (R353), the core is held (R359, R363) or drained for a resynchronisation (R359), or its
stagger buffer is full (R349). -/
def coreStops (c : Nat) (s : State) : Bool :=
  s.get YOKE_STAT_MODE == 3 || (s.flag YOKE_STAT_LOCKSTEP_BROKEN && c != 0) ||
    (s.get YOKE_STAT_MODE == 2 && s.get YOKE_STAT_MARKED == c) || (resyncDrains s && !coreBehind c s) || decide (16 ≤ bufCount c s)

/-- Core `c` may make an access: it does not stand still, and no interrupt is due at it first (R356). -/
def coreMay (c : Nat) (s : State) : Bool := !coreStops c s && !((runningCores s).contains c && intDue c s)

/-- A trailing core's distance from the lead is at least `STAGGER` for each core between (R348); while a resynchronisation drains, the
cores come to the same count (R359). -/
def lagOk (c lag : Nat) (s : State) : Bool := resyncDrains s || decide ((runningCores s).idxOf c % (runningCores s).length * s.get YOKE_CTRL_STAGGER ≤ lag)

/-- Core `c` has made one more access that others or its own SRAM can tell. -/
def coreStep (c : Nat) (s : State) : State := s.set (yokeSeq c) (s.get (yokeSeq c) + 1)

/-- Record a disagreement (R351). -/
def disRecord (core kind addr : Nat) (s : State) : State :=
  let s := ((s.set YOKE_DIS_INFO_CORE core).set YOKE_DIS_INFO_KIND kind).set YOKE_DIS_INFO_ADDR_HI (addr / 2 ^ 32)
  ((s.set YOKE_DIS_ADDR_ADDR addr).setWide YOKE_DIS_TB_LO_TB YOKE_DIS_TB_HI_TB s.now).inc YOKE_COUNT_DISAGREE

def yokeCmd : CmdReg := ⟨YOKE_CMD_CODE, YOKE_CMD_STATUS⟩

/-- Core `c` is marked out of service with cause `cause`; a core that disagrees again too soon is failed (R351, R352, R360). -/
def markCore (c kind cause addr : Nat) (s : State) : State :=
  let s := disRecord c kind addr s
  let s := { s with yokeBuf := s.yokeBuf.filter (fun e => e.core != c), yokeOwed := s.yokeOwed.filter (fun e => e.core != c) }
  let s := bufUpdate ((s.set YOKE_STAT_MODE 1).set YOKE_STAT_MARKED c)
  let s := raiseFault (yardCode 4 cause) .ride (raiseEvent 0x018 s)
  s.when (s.get (yokeResyncAt c) != 0 && decide (s.now < s.get (yokeResyncAt c) - 1 + s.get YOKE_CTRL_REMARK * 20000000))
    (fun s => raiseFault (yardCode 4 0x0A) .ride (s.setBit YOKE_STAT_FAILED c true))

/-- The voter cannot decide: the Yoke stops (R353). `core` is the core at fault, 3 where none is decided. A resynchronisation cannot
complete; one whose abort came too late says so (R9). -/
def voteImpossible (core kind addr : Nat) (s : State) : State :=
  let s := (disRecord core kind addr s).set YOKE_STAT_MODE 3
  raiseFault (yardCode 4 8) .deviceSafe
    (s.when (s.busy yokeCmd) (fun s => s.cmdEnd yokeCmd (if s.flag yokeRsLate then stTooLate else stFailed)))

/-- The disagreement of core `c`, in three-core or two-core operation. -/
def disagree (c kind addr : Nat) (s : State) : State :=
  if s.get YOKE_STAT_MODE = 0 then markCore c kind (1 + c) addr s else voteImpossible 3 kind addr s

/-- The third core's copy at the issue of `t`: already there, or owed (R350). -/
def thirdCopy (t : Txn) (d : Nat) (s : State) : State :=
  match headOf d s with
  | none => { s with yokeOwed := s.yokeOwed ++ [⟨d, t, s.now, none⟩] }
  | some e =>
    let s := { s with yokeBuf := dropFirst d s.yokeBuf }
    if e.txn = t then s else disagree d (diffKind t e.txn) e.txn.addr.toNat s

/-- Two cores that have presented the same transaction, the lower first. -/
def agreeing (l : List (Nat × YokeCopy)) : Option (Nat × Nat × Txn) :=
  (l.flatMap (fun a => (l.filter (fun b => a.1 < b.1 && b.2.txn == a.2.txn)).map (fun b => (a.1, b.1, a.2.txn)))).head?

/-- One vote while the Yoke runs: issue what two cores have presented identically, or find that no decision is possible (R350, R353). -/
def vote (s : State) : Option Txn × State :=
  let cores := inService s
  let heads := cores.filterMap (fun c => (headOf c s).map (fun e => (c, e)))
  match agreeing heads with
  | some (a, b, t) =>
    let s := { s with yokeBuf := dropFirst a (dropFirst b s.yokeBuf) }
    (some t, (cores.filter (fun d => d != a && d != b)).foldl (fun s d => thirdCopy t d s) s)
  | none =>
    if heads.length = cores.length ∧ s.get YOKE_STAT_MODE ≠ 3 then
      match heads with
      | (_, e) :: (_, f) :: r =>
        (none, voteImpossible 3 (if r.isEmpty then diffKind e.txn f.txn else 6) e.txn.addr.toNat s)
      | _ => (none, s)
    else (none, s)

/-- Core `c` presents a transaction: what is issued, and the state after the vote (R349 to R353, R363). -/
def present (c : Nat) (x : Txn) (s : State) : Option Txn × State :=
  let t := comparedTxn x
  if s.get YOKE_STAT_MODE = 3 then (none, s)
  else if s.flag YOKE_STAT_LOCKSTEP_BROKEN then
    match s.yokeOwed.find? (fun e => e.core == c) with
    | some e =>
      let u := { s with yokeOwed := dropFirst c s.yokeOwed }
      if e.txn = t then (none, { u with bus := e.resp.getD s.bus }) else (if c = 0 then some t else none, u)
    | none => (if c = 0 then some t else none, s)
  else if !(inService s).contains c then (none, s)
  else match s.yokeOwed.find? (fun e => e.core == c) with
    | some e =>
      let s := { s with yokeOwed := dropFirst c s.yokeOwed }
      if e.txn = t then (none, { s with bus := e.resp.getD s.bus })
      else (none, bufUpdate (vote (disagree c (diffKind e.txn t) t.addr.toNat s)).2)
    | none =>
      if 16 ≤ bufCount c s then (none, s)
      else
        let (r, s) := vote { s with yokeBuf := s.yokeBuf ++ [⟨c, t, s.now, none⟩] }
        (r, bufUpdate s)

/-- Core `c`, in service, presents its signature; one that passes the vote reads in `YOKE_SIG_REQ`, and the core's SRAM CRC restarts
(R355). -/
def presentSig (c : Nat) (digest : BitVec 32) (s : State) : State :=
  let sig := Config.signature (BitVec.ofNat 32 (s.get (yokeCrc c))) digest
  let (r, s) := present c ⟨.sig, 0x0040048028#40, 4, sig⟩ (coreStep c (s.set (yokeCrc c) 0xFFFFFFFF))
  match r with
  | some t => s.set YOKE_SIG_REQ_SIG t.data.toNat
  | none => s

/-- Whether core `c` may present a signature now. -/
def maySign (c : Nat) (s : State) : Bool := (runningCores s).contains c && coreMay c s

/-- SIG_REQ (R355). -/
def execSigReq (c : Fin 3) (digest : BitVec 32) (s : State) : Out := ok (s.when (maySign c s) (presentSig c digest))

/-- First address of core `c`'s copy of the Yoke SRAM (R35). -/
def coreBase (c : Nat) : Nat := 0x10100000 + c * 0x100000

/-- A store of core `c` to its own SRAM: its copy and its CRC, of address and data (R346, R355). -/
def ownStore (c ofs size data : Nat) (s : State) : State :=
  let l := toBytes size data
  let crc := (toBytes 4 (0x10000000 + ofs) ++ l).foldl crc32Byte (s.get (yokeCrc c))
  (s.putBytes (coreBase c + ofs) l).set (yokeCrc c) crc

/-- VOTE_TIMEOUT (R351, R353). -/
def execVoteTimeout (s : State) : Out :=
  let late := fun (e : YokeCopy) => decide (e.since + s.get YOKE_TMO_TMO ≤ s.now)
  ok (if s.get YOKE_STAT_MODE = 3 ∨ s.flag YOKE_STAT_LOCKSTEP_BROKEN then s
    else match s.yokeOwed.find? late with
      | some e => bufUpdate (vote (disagree e.core 4 e.txn.addr.toNat { s with yokeOwed := dropFirst e.core s.yokeOwed })).2
      | none => match s.yokeBuf.find? late with
        | some e => voteImpossible 3 4 e.txn.addr.toNat s
        | none => s)

/-- YOKE_SRAM_UE (R352): of a core in service. The two cores left decide at once on what they have presented. -/
def execYokeSramUe (c : Fin 3) (a : BitVec 20) (s : State) : Out :=
  let addr := 0x10000000 + a.toNat
  ok (if s.get YOKE_STAT_MODE = 3 ∨ !(inService s).contains c.val then s
    else if s.get YOKE_STAT_MODE = 0 then bufUpdate (vote (markCore c 5 (5 + c) addr s)).2
    else voteImpossible c 5 addr s)

/-- Whether an enabled interrupt is pending: an enabled line, or the timer (R356). -/
def irqPending (s : State) : Bool :=
  s.get YOKE_IRQ_ID_ID != 64 || decide (s.getWide YOKE_TIMECMP_LO_CMP YOKE_TIMECMP_HI_CMP ≤ s.now)

/-- The voter records the lead's place in its stream as K of one more interrupt (R356). -/
def intRecord (c : Nat) (s : State) : State :=
  (s.set (yokeIntK (intSlot (s.get yokeIntN))) (s.get (yokeSeq c))).set yokeIntN (s.get yokeIntN + 1)

/-- INTERRUPT_ENTRY (R355, R356): the lead enters while an enabled interrupt is pending, and K is recorded; every core that runs enters at
the same K, with its signature. -/
def execInterruptEntry (c : Fin 3) (digest : BitVec 32) (s : State) : Out :=
  let fresh := s.get yokeIntN ≤ s.get (yokeInts c)
  let due := if fresh then c.val == (runningCores s).headD 0 && irqPending s else intDue c s
  ok (s.when (due && (runningCores s).contains c.val && !coreStops c s) (fun s =>
    let s := s.when fresh (intRecord c)
    presentSig c digest (s.set (yokeInts c) (s.get (yokeInts c) + 1))))

/-! ### Resynchronisation (R358, R359) -/

/-- A resynchronisation may start. -/
def resyncOk (s : State) : Bool :=
  s.get YOKE_STAT_MODE == 1 && !bitAt (s.get YOKE_STAT_FAILED) (s.get YOKE_STAT_MARKED) && !s.flag YOKE_STAT_LOCKSTEP_BROKEN

/-- Step 1: `MODE` 2, the target held, the copy begins. Its steps 1 to 3 take a free time from 0.7 ms to 4.002 ms (R359; log entry 90). -/
def resyncStart (s : State) : State :=
  let d := 140000 + (Config.fresh s.freeCount).toNat % 660401
  let s := ((s.set YOKE_STAT_MODE 2).set YOKE_RESYNC_STAT_WORDS 0).set yokeRsLate 0
  ((s.set yokeRsAt s.now).set yokeRsDur d).draw

/-- Ticks the running resynchronisation has taken. -/
def resyncAge (s : State) : Nat := s.now - s.get yokeRsAt

/-- What a tick brings the copy: the words copied, in units of 8, at an even rate (R359; log entry 90). -/
def resyncTick (s : State) : State :=
  s.when (s.get YOKE_STAT_MODE == 2) (fun s => s.set YOKE_RESYNC_STAT_WORDS (min 32768 (resyncAge s * 32768 / s.get yokeRsDur)))

/-- RESYNC (R358). -/
def execResync (s : State) : Out := ok (s.cmdStart yokeCmd 1 (resyncOk s) stBusy resyncStart id)

/-- AUTO_RESYNC (R358): 1 ms after a mark. -/
def execAutoResync (s : State) : Out :=
  ok (s.when (s.flag YOKE_CTRL_AUTO && resyncOk s && decide (s.getWide YOKE_DIS_TB_LO_TB YOKE_DIS_TB_HI_TB + 200000 ≤ s.now)) resyncStart)

/-- `k` bytes from `a` copied over those from `b`. -/
def memCopy (a b k : Nat) (m : List Host.Cell) : List Host.Cell :=
  ((m.filter (fun c => decide (a ≤ c.1) && decide (c.1 < a + k))).foldl (fun m c => memSet (b + (c.1 - a)) c.2 m) (memErase b k m))

/-- The target takes the source's SRAM, CRC and place in the stream (R359 steps 2 and 4). -/
def resyncCopy (src dst : Nat) (s : State) : State :=
  let s := { s with mem := memCopy (coreBase src) (coreBase dst) 0x100000 s.mem }
  let s := (s.set (yokeCrc dst) (s.get (yokeCrc src))).set (yokeInts dst) (s.get (yokeInts src))
  s.set (yokeSeq dst) (s.get (yokeSeq src))

/-- How a resynchronisation by command ends at its last step: `DONE`, or `TOO_LATE` after an abort at step 3 or later; `FAILED` where the
verification failed (R359). -/
def resyncEnd (st : Nat) (s : State) : State :=
  s.when (s.busy yokeCmd) (fun s => s.cmdEnd yokeCmd (if s.flag yokeRsLate && st == stDone then stTooLate else st))

/-- Step 3 of R359: the stagger buffers are empty, and both source-side cores have come to the same place. -/
def resyncDrained (s : State) : Bool :=
  s.yokeBuf.isEmpty && s.yokeOwed.isEmpty && (inService s).all (fun c => !coreBehind c s)

/-- EV_YOKE_RESYNC (R359): step 5 or 6, at least 0.35 us after step 3; the pause is 3.25 us at most. -/
def execEvYokeResync (pause : BitVec 16) (good : Bool) (s : State) : Out :=
  ok (s.when (s.get YOKE_STAT_MODE == 2 && decide (s.get yokeRsDur + 70 ≤ resyncAge s) && resyncDrained s) (fun s =>
    let src := (inService s).headD 0
    let dst := s.get YOKE_STAT_MARKED
    let s := (resyncCopy src dst s).set YOKE_RESYNC_STAT_WORDS 32768
    let s := s.set YOKE_RESYNC_STAT_PAUSE (min 650 pause.toNat)
    if good then
      let s := (((s.set YOKE_STAT_MODE 0).set YOKE_STAT_MARKED 3).inc YOKE_COUNT_RESYNCS).set (yokeResyncAt dst) (s.now + 1)
      raiseEvent 0x019 (resyncEnd stDone s)
    else raiseFault (yardCode 4 0x0B) .ride (resyncEnd stFailed (s.set YOKE_STAT_MODE 1))))

/-- An accepted abort of a resynchronisation: before step 3 the target stays marked, later the operation completes (R359). -/
def resyncAbort (s : State) : State :=
  if resyncAge s < s.get yokeRsDur then (s.set YOKE_STAT_MODE 1).cmdEnd yokeCmd stAborted else s.set yokeRsLate 1

/-! ### The watchdog (R362) -/

/-- A token that differs from the present one; the spec gives no rule for its value (log entry 2). -/
def nextToken (t : Nat) (s : State) : Nat := (t + 1 + (Config.fresh s.freeCount).toNat % 65535) % 65536

/-- A watchdog fault of the Yoke. -/
def yokeWdFault (s : State) : State := raiseFault (yardCode 4 0x20) .deviceSafe (raiseEvent 0x01B s)

/-- YOKE_WD_KICK (R362, R306): a voted write, so none comes once the Yoke has stopped (R353). -/
def execYokeWdKick (v : BitVec 16) (s : State) : Out :=
  let d0 := s
  let d := s.now - s.get yokeWdAt
  let t := s.get YOKE_WD_KICK_TOKEN
  let s := busOk (s.set YOKE_WD_KICK_KICK v.toNat)
  ok (if s.get YOKE_STAT_MODE = 3 then d0
  else if v.toNat + t = 65535 ∧ s.get YOKE_WD_CFG_MIN * 200 ≤ d ∧ d ≤ s.get YOKE_WD_CFG_MAX * 200 then
    (((s.set YOKE_WD_KICK_TOKEN (nextToken t s)).set yokeWdAt s.now).set yokeWdLate 0).draw
  else yokeWdFault s)

/-- EV_YOKE_WD (R362): no kick by `MAX` since the last accepted one, or since the Yoke started; reported once (log entry 91). -/
def execEvYokeWd (s : State) : Out :=
  ok (s.when (s.get SYS_BOOT_STAGE == 7 && !s.flag yokeWdLate && decide (s.get yokeWdAt + s.get YOKE_WD_CFG_MAX * 200 < s.now))
    (fun s => yokeWdFault (s.set yokeWdLate 1)))

/-! ### Broken lock-step (R363, R364) -/

/-- Lock-step breaks (R363, R364); a running resynchronisation cannot complete with Y1 and Y2 held (log entry 106). -/
def lockstepBreak (s : State) : State :=
  let s := s.when (s.get YOKE_STAT_MODE == 2) (fun s => resyncEnd stFailed (s.set YOKE_STAT_MODE 1))
  let busy := [0, 1, 2, 3].any (fun n => switching n s) || [0, 1].any (fun k => s.flag (AUX_Ak_CTRL_EN k) || s.flag (AUX_Ak_STAT_DEMAND k))
  let s := raiseEvent 0x01A (s.set YOKE_STAT_LOCKSTEP_BROKEN 1)
  if busy then raiseFault (yardCode 4 0x10) .deviceSafe s else raiseFault (yardCode 4 0x11) .ride s

/-! ### Voted reads of the SRAM (R24) -/

/-- VOTED_SRAM_READ (R24): the Sheepdog's read of word `a`. -/
def execVotedSramRead (a : BitVec 18) (s : State) : Out :=
  let x := fun c => s.wordAt (coreBase c + 4 * a.toNat)
  ok (if x 0 = x 1 ∨ x 0 = x 2 then { s with bus := ⟨false, BitVec.ofNat 64 (x 0)⟩ }
  else if x 1 = x 2 then { s with bus := ⟨false, BitVec.ofNat 64 (x 1)⟩ }
  else raiseEvent 0 (busErr s))

end Sys2Proof.Machine
end

