-- ==== Sys2Proof/Machine/Memory.lean ====
section
/-!
DEFINITION. The pooled memories (12_memory_porter_cellar): the Porter's grants, refresh and scrub, the Cellar's commands, and the
Logbook's ring, freeze and re-arm.
-/

namespace Sys2Proof.Machine
open Reg

/-! ### The Porter (R366 to R375) -/

/-- PORTER_COMMIT (R373). -/
def execPorterCommit (s : State) : Out := ok (busOk (s.set PORTER_COMMIT_PEND 1))

/-- At a grant decision a pending commit loads both active copies; a change of N restarts the numbering at 0 (R372, R373). -/
def porterLoad (s : State) : State :=
  s.when (s.flag PORTER_COMMIT_PEND) (fun s =>
    let n := s.get PORTER_FAIR_N_N
    let s := s.when (n != s.get PORTER_FAIR_N_N_ACT) (fun s => s.set porterNum 0)
    ((s.set PORTER_FAIR_N_N_ACT n).set PORTER_RANK_RANK_ACT (s.get PORTER_RANK_RANK)).set PORTER_COMMIT_PEND 0)

/-- Active rank of requester `r`. -/
def rankOf (r : Nat) (s : State) : Nat := bits (s.get PORTER_RANK_RANK_ACT) (4 * r) 3

/-- The raised ranked requester of the highest rank, the lower number on a tie (R370). -/
def topRanked (l : List Nat) (s : State) : Option Nat :=
  l.foldl (fun b r => match b with
    | none => some r
    | some x => if rankOf x s < rankOf r s then some r else some x) none

/-- Since when requester `r` waits: the later of its raising and the end of its last grant (R372). -/
def waitSince (ages : List (BitVec 32)) (r : Nat) (s : State) : Nat := max (s.now - (ages.getD r 0).toNat) (s.get (porterEnd r))

/-- The raised ranked requester that has waited longest, the lower number on a tie (R372). -/
def longestWait (l : List Nat) (ages : List (BitVec 32)) (s : State) : Option Nat :=
  l.foldl (fun b r => match b with
    | none => some r
    | some x => if waitSince ages r s < waitSince ages x s then some r else some x) none

/-- A decision among the ranked requesters `l`: every N-th grant goes to the longest wait. -/
def rankedGrant (l : List Nat) (ages : List (BitVec 32)) (s : State) : State :=
  let k := s.get porterNum
  match if k % s.get PORTER_FAIR_N_N_ACT = 0 then longestWait l ages s else topRanked l s with
  | some r => (s.set PORTER_STAT_HOLDER r).set porterNum (k + 1)
  | none => s

/-- The raised Courier that may have the port: `REF` first, `DBG` at most once per 500 ns (R369, R370). -/
def courierOf (req : Nat) (s : State) : Option Nat :=
  if bitAt req 6 then some 6
  else if bitAt req 7 && dueAfter porterDbgAt 100 s then some 7
  else none

/-- Courier `c` takes the port; a waiting `REF` is served. -/
def courierGrant (c : Nat) (s : State) : State :=
  let s := s.set PORTER_STAT_HOLDER c
  if c = 6 then s.setBit PORTER_REQ_REQ 6 false else s.set porterDbgAt (s.now + 1)

/-- GRANT_DECISION (R370 to R374): a free port is granted; a held one only a Courier takes, from a ranked holder. A `REF` that found
the port with `DBG` still waits. -/
def execGrantDecision (req : BitVec 8) (ages : List (BitVec 32)) (s : State) : Out :=
  let req := req.toNat ||| (s.get PORTER_REQ_REQ &&& 64)
  let s := s.set PORTER_REQ_REQ req
  let holder := s.get PORTER_STAT_HOLDER
  ok (if holder = 15 then
    let s := porterLoad s
    match courierOf req s with
    | some c => courierGrant c s
    | none => rankedGrant ((List.range 6).filter (bitAt req)) ages s
  else match courierOf req s with
    | some c => s.when (decide (holder < 6)) (fun s => courierGrant c (s.set porterCutR holder))
    | none => s)

/-- Corrected and uncorrectable errors of a DRAM access (R367). -/
def dramEcc (ce : Nat) (ue : Option Nat) (s : State) : State :=
  let s := s.addSat PORTER_ECC_CE ce
  match ue with
  | none => s
  | some a =>
    let s := s.when (!s.flag PORTER_ECC_UE_VALID) (fun s => s.setWide PORTER_UE_ADDR_LO_ADDR PORTER_UE_ADDR_HI_ADDR a)
    raiseFault (yardCode 2 1) .ride (raiseEvent 0x026 (s.set PORTER_ECC_UE_VALID 1))

/-- The response of a burst that met an uncorrectable 64-bit word at `a`: the word as it is read, with an error (R367). -/
def ueAnswer (a : Nat) (s : State) : State :=
  { s with bus := ⟨true, BitVec.ofNat 64 (ofBytes (memTake s.mem (a / 8 * 8) 8))⟩ }

/-- BURST_DONE (R370, R371): a burst moves 256 bytes at most, a Courier's 64; an interrupted burst resumes ahead of every other decision. -/
def execBurstDone (units : BitVec 3) (ce : BitVec 8) (ue : Option (BitVec 40)) (s : State) : Out :=
  let h := s.get PORTER_STAT_HOLDER
  ok (if h = 15 then s
  else
    let s := (s.addSat (PORTER_BYTES_r_UNITS h) (min units.toNat (if h < 6 then 4 else 1))).set (porterEnd h) s.now
    let s := if h < 6 then s.set PORTER_STAT_HOLDER 15
      else (s.set PORTER_STAT_HOLDER (s.get porterCutR)).set porterCutR 15
    let s := match ue with
      | some a => s.when (h != 6) (ueAnswer a.toNat)
      | none => s
    dramEcc ce.toNat (ue.map BitVec.toNat) s)

/-- Whether the refresh interval in force is over: 3.9 us, or 1.95 us halved (R368). -/
def refreshDue (s : State) : Bool :=
  dueAfter porterRefAt (if s.flag porterHalf then 390 else 780) s

/-- REFRESH (R368): the next 64 bytes are refreshed and scrubbed, the interval in force follows `HOT`, and `REF` takes the port from
anyone but `DBG`; a port that was free makes a grant decision (R373). -/
def execRefresh (ce : BitVec 8) (ue : Option (Fin 8)) (s : State) : Out :=
  ok (s.when (refreshDue s) (fun s =>
    let h := s.get PORTER_STAT_HOLDER
    let s := (s.set porterRefAt (s.now + 1)).set porterHalf (s.get PORTER_STAT_HOT)
    let s := if h < 6 then (s.set porterCutR h).set PORTER_STAT_HOLDER 6
      else if h = 15 then (porterLoad s).set PORTER_STAT_HOLDER 6 else s.setBit PORTER_REQ_REQ 6 true
    let a := 0x100000000 + 64 * s.get porterScrub
    dramEcc ce.toNat (ue.map (fun w => a + 8 * w.val)) (s.set porterScrub (s.get porterScrub + 1))))

/-- The stack's temperature decides the interval (R368). -/
def dramTemp (t : Option (BitVec 16)) (s : State) : State :=
  match t with
  | none =>
    let was := s.flag porterTempBad
    ((s.set PORTER_STAT_HOT 1).set porterTempBad 1).when (!was) (raiseFault (yardCode 2 2) .ride)
  | some t =>
    let x := sext 16 t.toNat
    let s := s.set porterTempBad 0
    if 105 * 16 < x then s.when (!s.flag PORTER_STAT_HOT) (fun s => raiseEvent 0x024 (s.set PORTER_STAT_HOT 1))
    else if x < 100 * 16 then s.when (s.flag PORTER_STAT_HOT) (fun s => raiseEvent 0x025 (s.set PORTER_STAT_HOT 0))
    else s

/-- DRAM_TEMP_READ (R368): once per ms. -/
def execDramTempRead (t : Option (BitVec 16)) (s : State) : Out :=
  ok (s.when (dueAfter porterTempAt 200000 s) (fun s =>
    dramTemp t (s.set porterTempAt (s.now + 1))))

/-! ### The Cellar (R376 to R379) -/

def cellarCmd (p : Nat) : CmdReg := ⟨CELLAR_p_CMD_CODE p, CELLAR_p_CMD_STATUS p⟩

/-- A Cellar command of processor `p` ends at once with a reason; 0 runs it. -/
def cellarEnd (p code r : Nat) (run : State → State) (s : State) : State :=
  s.cmdStart (cellarCmd p) code (r == 0) stDone (fun s => run (s.set (CELLAR_p_RES_ERR p) 0)) (fun s => s.set (CELLAR_p_RES_ERR p) r)

/-- ALLOC (R377, R378). -/
def cellarAlloc (p : Nat) (s : State) : State :=
  let u := p + 1
  match cellarTake u s with
  | some (k, _) => cellarEnd p 1 0 (fun s => match cellarTake u s with
      | some (_, s) => s.set (CELLAR_p_RES_CASK p) k
      | none => s) s
  | none => cellarEnd p 1 (if s.get (CELLAR_QUOTA_u_MAX u) ≤ s.get (CELLAR_USE_u_COUNT u) then 1 else 2) id s

/-- FREE of cask `k` (R378). -/
def cellarFreeCmd (p k : Nat) (s : State) : State := cellarEnd p 2 (if caskOwner s k = p + 1 then 0 else 3) (cellarFree k) s

/-- Cask `k` moves to user `v` (R378). -/
def cellarMove (k v : Nat) (s : State) : State := cellarCount (useInc v (setCaskOwner k v (useDec (caskOwner s k) s)))

/-- GIVE of cask `k` to user `v` (R378). -/
def cellarGive (p k v : Nat) (s : State) : State :=
  let u := p + 1
  let r := if caskOwner s k ≠ u then 3 else if ¬ [1, 2, 3, 5, 11].contains v then 4
    else if v ≠ u ∧ s.get (CELLAR_QUOTA_u_MAX v) ≤ s.get (CELLAR_USE_u_COUNT v) then 5 else 0
  cellarEnd p 3 r (cellarMove k v) s

/-- Command `code` of processor `p` on cask `arg % 1024`, to user `arg / 1024`. -/
def cellarOp (p code arg : Nat) (s : State) : State :=
  if code = 1 then cellarAlloc p s else if code = 2 then cellarFreeCmd p (arg % 1024) s else cellarGive p (arg % 1024) (arg / 1024) s

/-- `CELLAR_p_ARG` as one number. -/
def cellarArg (p : Nat) (s : State) : Nat := s.get (CELLAR_p_ARG_CASK p) + 1024 * s.get (CELLAR_p_ARG_TO p)

/-- The order in which commands of the same instant are served: Sheepdog, Yoke, Innkeeper (R378). -/
def cellarRank (p : Nat) : Nat := if p = 1 then 0 else if p = 0 then 1 else 2

/-- Whether a Cellar command of a processor served before `p` still waits in the queue: it falls into the same instant. -/
def cellarAhead (p : Nat) (s : State) : Bool :=
  s.pending.any (fun c => match c with
    | .alloc q => decide (cellarRank q < cellarRank p)
    | .free q => decide (cellarRank q < cellarRank p)
    | .give q => decide (cellarRank q < cellarRank p)
    | .registerWrite _ a _ => [0, 1, 2].any (fun q => a.toNat == (CELLAR_p_CMD_CODE q).addr && decide (cellarRank q < cellarRank p))
    | _ => false)

/-- The commands that waited for one of their instant, as soon as none is ahead of them. -/
def cellarRest (s : State) : State :=
  s.each [1, 0, 2] (fun p s =>
    let k := s.get (cellarWait p)
    s.when (k != 0 && !cellarAhead p s) (fun s =>
      cellarOp p k (s.get (cellarWaitArg p)) ((s.set (cellarWait p) 0).set (CELLAR_p_CMD_STATUS p) stIdle)))

/-- Command `code` of processor `p`: served at once, after those of its instant that go before it (R378). -/
def cellarServe (p code : Nat) (s : State) : State :=
  if s.busy (cellarCmd p) then s
  else if cellarAhead p s then ((s.cmdSet (cellarCmd p) code stBusy).set (cellarWait p) code).set (cellarWaitArg p) (cellarArg p s)
  else cellarRest (cellarOp p code (cellarArg p s) s)

/-- An abort of a Cellar command that waits for one of its instant: nothing is changed (R9). -/
def cellarAbort (p : Nat) (s : State) : State := (s.set (cellarWait p) 0).cmdEnd (cellarCmd p) stAborted

/-- ALLOC (R377, R378). -/
def execAlloc (p : Fin 3) (s : State) : Out := ok (cellarServe p 1 s)

/-- FREE (R378). -/
def execFree (p : Fin 3) (s : State) : Out := ok (cellarServe p 2 s)

/-- GIVE (R378). -/
def execGive (p : Fin 3) (s : State) : Out := ok (cellarServe p 3 s)

/-- CASK_ZEROED (R377). -/
def execCaskZeroed (k : Fin 1024) (s : State) : Out :=
  ok (s.when (s.flag (cellarZeroing k)) (fun s =>
    let s := { s with mem := memErase (caskBase k) 0x1000 s.mem }
    cellarCount ((s.set (cellarZeroing k) 0).set CELLAR_FREE_FREE (s.get CELLAR_FREE_FREE + 1))))

/-- EV_CELLAR_UE (R379): a Cellar access with its corrected errors, uncorrectable or not. -/
def execEvCellarUe (ce : BitVec 8) (ue : Bool) (s : State) : Out :=
  let s := s.addSat CELLAR_CE_CE ce.toNat
  ok (s.when ue (fun s => raiseFault (yardCode 3 1) .ride (raiseEvent 0x027 (busErr s))))

/-! ### The Logbook's ring (R381 to R390) -/

/-- First address of the ring. -/
def ringBase : Nat := 0x100000000

/-- The oldest record's offset after `[p, p + len)` is overwritten, records found by their `LEN` byte (R385). -/
def oldAfter (s : State) (p len : Nat) : Nat → Nat → Nat
  | 0, o => o
  | k + 1, o =>
    if p ≤ o ∧ o < p + len then
      let l := 8 * max 1 (s.byteAt (ringBase + o + 1)).toNat
      oldAfter s p len k (if ringSize s ≤ o + l then 0 else o + l)
    else o

/-- One record goes into the ring (R385). -/
def ringWrite (r : List Byte) (s : State) : State :=
  let p := s.getWide LOGBOOK_WR_PTR_LO_OFS LOGBOOK_WR_PTR_HI_OFS
  let o := s.getWide LOGBOOK_OLD_PTR_LO_OFS LOGBOOK_OLD_PTR_HI_OFS
  let s := s.when (s.flag LOGBOOK_STAT_WRAP) (fun s => s.setWide LOGBOOK_OLD_PTR_LO_OFS LOGBOOK_OLD_PTR_HI_OFS (oldAfter s p r.length 34 o))
  let s := s.putBytes (ringBase + p) r
  let wrap := p + r.length = ringSize s
  let s := s.when wrap (fun s => s.set LOGBOOK_STAT_WRAP 1)
  s.setWide LOGBOOK_WR_PTR_LO_OFS LOGBOOK_WR_PTR_HI_OFS (if wrap then 0 else p + r.length)

/-- The oldest staging cask is written into the ring and freed. -/
def flushOne (s : State) : State :=
  if s.get (logCask 0) = 0 then s
  else
    let k := s.get (logCask 0) - 1
    let c := s.get (logRecs 0)
    let n := logCasks s
    let s := (s.logStage.take c).foldl (fun s r => ringWrite r s) { s with logStage := s.logStage.drop c }
    let s := s.each (List.range n) (fun i s =>
      (((s.set (logCask i) (s.get (logCask (i + 1)))).set (logFill i) (s.get (logFill (i + 1)))).set (logRecs i) (s.get (logRecs (i + 1)))).set
        (logCaskAt i) (s.get (logCaskAt (i + 1))))
    cellarFree k s

/-- Whether the oldest staging cask is full, or a younger one begun for want of room, or 10 us old (R381). -/
def flushDue (s : State) : Bool := s.get (logCask 1) != 0 || s.get (logFill 0) == 4096 || decide (s.get (logCaskAt 0) + 2000 ≤ s.now)

/-- STAGING_FLUSH (R381). -/
def execStagingFlush (s : State) : Out := ok (s.when (flushDue s) flushOne)

/-- TIME_RECORD (R383): once per ms. -/
def execTimeRecord (s : State) : Out :=
  ok (s.when (dueAfter logTimeAt 200000 s) (fun s =>
    logWrite 6 3 4 0 s.now [] (s.set logTimeAt (s.now + 1))))

/-- The code a stream carries for a sample taken at instant `t`: from 100 ns before a trigger to 90 ns after it the primary code of that
trigger, once it is converted (R80, R384). -/
def streamCode (n c t x : Nat) (s : State) : Nat :=
  let near := fun g => decide (g ≤ t + 20) && decide (t ≤ g + 18)
  if near (s.get (senTrigAt n)) && !s.flag (senHeld n c) then s.get (SENSE_Cc_RAW_RAW n c)
  else if near (s.get (senTrigPrev n)) && !near (s.get (senTrigAt n)) then s.get (strPrev (4 * n + c))
  else x

/-- STREAM_RECORD_CLOSE (R383, R384): a record closes at a trigger of its Stall, where the converter delivered samples before it, and after
122 samples. Samples stand 10 ticks apart, the last at or before the trigger or, for a record closed by its count, this instant. -/
def execStreamRecordClose (n : Fin 4) (c : Fin 4) (samples : List (BitVec 16)) (first : BitVec 16) (s : State) : Out :=
  let k := samples.length + 1
  let i := 4 * n.val + c.val
  let trig := s.flag (strTrig i)
  let on := bitAt (s.get LOGBOOK_CTRL_STREAM) i && (trig || (k == 122 && !s.flag (SENSE_Cc_STAT_OUT n c) && s.flag (SENSE_CTRL_EN n)))
  let e := if trig then s.get (senTrigAt n) else s.now
  let at_ := e - e % 10 - 10 * (k - 1)
  let ch := if trig then s.get (strCh i) else s.get (senCh n c)
  let first16 := if trig then s.get (strWas i) else s.get (strOpen i)
  let codes := (first :: samples).mapIdx (fun j x => streamCode n c (at_ + 10 * j) x.toNat s)
  let body := toBytes 4 (ch + 2 ^ 8 * k + 2 ^ 16 * first16) ++ codes.flatMap (toBytes 2)
  ok (s.when (on && decide (k ≤ 122)) (fun s =>
    logWrite 2 ((12 + 2 * k + 7) / 8) n c at_ body (if trig then s.set (strTrig i) 0 else s.set (strOpen i) 0)))

/-- Capture begins while the engine is enabled and a ring exists, and ends with either (R381). -/
def logEnable (s : State) : State :=
  let on := s.flag LOGBOOK_CTRL_EN && s.flag PORTER_PART_LOG
  if on ∧ s.get LOGBOOK_STAT_STATE = 0 then s.set LOGBOOK_STAT_STATE 1
  else if ¬ on ∧ s.get LOGBOOK_STAT_STATE = 1 then s.set LOGBOOK_STAT_STATE 0
  else s

def logCmd : CmdReg := ⟨LOGBOOK_CMD_CODE, LOGBOOK_CMD_STATUS⟩

/-- TRIGGER (R387, R388). -/
def execTrigger (s : State) : Out := ok (s.cmdStart logCmd 1 (s.get LOGBOOK_STAT_STATE == 1) stDone (logTrigger 3 0) id)

/-- Free every staging cask, its records lost. -/
def stagingDrop (s : State) : State :=
  let n := logCasks s
  let s := s.each (List.range n) (fun i s =>
    let k := s.get (logCask i) - 1
    cellarFree k (((s.set (logCask i) 0).set (logFill i) 0).set (logRecs i) 0))
  { s with logStage := [] }

/-- No record followed the trigger before the ring stops: the first one would stand at the write pointer (R387). -/
def trigClose (s : State) : State :=
  s.when (s.flag logTrigPend) (fun s => (s.setWide LOGBOOK_TRIG_PTR_LO_OFS LOGBOOK_TRIG_PTR_HI_OFS
    (s.getWide LOGBOOK_WR_PTR_LO_OFS LOGBOOK_WR_PTR_HI_OFS)).set logTrigPend 0)

/-- The ring freezes: what is staged is written first, then the casks are free (R387). -/
def freeze (s : State) : State :=
  let s := trigClose (s.each (List.range (logCasks s)) (fun _ => flushOne))
  raiseEvent 0x029 (s.set LOGBOOK_STAT_STATE 3)

/-- EV_LOG_FROZEN (R387): `POST` ms after the trigger. -/
def execEvLogFrozen (s : State) : Out :=
  ok (s.when (s.get LOGBOOK_STAT_STATE == 2 &&
    decide (s.getWide LOGBOOK_TRIG_TB_LO_TB LOGBOOK_TRIG_TB_HI_TB + s.get LOGBOOK_POST_MS * 200000 ≤ s.now)) freeze)

/-- A reset other than power-on reset, of the device, a Stall or the Yoke (R485), is a trigger of kind 4 and freezes the ring at once; what
is staged is lost (R387, R389; log entry 93). -/
def logReset (s : State) : State :=
  let was := s.get LOGBOOK_STAT_STATE
  let s := logTrigger 4 0 s
  let s := (stagingDrop s).set logVirt (s.getWide LOGBOOK_WR_PTR_LO_OFS LOGBOOK_WR_PTR_HI_OFS)
  s.when (was == 1 || was == 2) (fun s =>
    raiseEvent 0x029 ((trigClose (s.when (was == 1) (fun s => s.set logTrigPend 1))).set LOGBOOK_STAT_STATE 3))

/-- The triggers that coincided with an `ARM` arrive after it (R388). -/
def logDeferred (s : State) : State :=
  if s.get logDefKind = 0 then s
  else
    let k := s.get logDefKind
    let c := s.get logDefCode
    let more := s.get logDefMore
    let s := ((s.set logDefKind 0).set logDefCode 0).set logDefMore 0
    (if k = 4 then logReset s else logTrigger k c s).addSat LOGBOOK_TRIG_INFO_MORE more

/-- LOGBOOK_ARM (R388). -/
def execLogbookArm (s : State) : Out :=
  ok (s.cmdStart logCmd 2 (s.get LOGBOOK_STAT_STATE == 3) stDone (fun s =>
    let s := ((s.set LOGBOOK_STAT_WRAP 0).setWide LOGBOOK_WR_PTR_LO_OFS LOGBOOK_WR_PTR_HI_OFS 0)
    let s := (s.setWide LOGBOOK_OLD_PTR_LO_OFS LOGBOOK_OLD_PTR_HI_OFS 0).set logVirt 0
    logDeferred (s.set LOGBOOK_STAT_STATE 1)) id)

/-! ### The Innkeeper partition (R366) -/

/-- First address of the Innkeeper partition (R366). -/
def innBase (s : State) : Nat := 0x100000000 + s.get PORTER_PART_LOG * 0x4000000 + s.get PORTER_PART_YWIN * 0x1000000

/-- Whether `[a, a + len)` lies in the Innkeeper partition. -/
def inInn (a len : Nat) (s : State) : Bool := decide (innBase s ≤ a) && decide (a + len ≤ 0x300000000)

end Sys2Proof.Machine
end

