-- ==== Sys2Proof/Machine/Can.lean ====
section
/-!
DEFINITION. The CAN FD controllers (14_networks_and_authorization, R412 to R422). What the bus does (arbitration, acknowledgement, error
kinds, bit timing) comes with the commands; error confinement counts as ISO 11898-1 does (log entry 36).
-/

namespace Sys2Proof.Machine
open Reg

/-- CAN cause `c` of controller `k` (R422). -/
def canFault (k c : Nat) (s : State) : State := raiseFault (0x0800 + 0x40 * k + c) .ride s

/-- Controller `k` takes state `st`; every change raises `EV_CAN_ERR` (R422). -/
def canState (k st : Nat) (s : State) : State :=
  if s.get (CAN_STAT_STATE k) = st then s
  else
    let s := raiseEvent 0x00D ((s.set (CAN_STAT_STATE k) st).set (canStateAt k) s.now)
    if st = 3 then canFault k 2 s
    else if st = 4 then canFault k 1 (s.inc (CAN_ERR_BUSOFF k))
    else s

/-- Ticks of one nominal bit (R413). -/
def canBit (k : Nat) (s : State) : Nat :=
  (s.get (CAN_NBT_BRP k) + 1) * (3 + s.get (CAN_NBT_TSEG1 k) + s.get (CAN_NBT_TSEG2 k))

/-- Whether `b` nominal bits have passed since the present state began. -/
def canBitsPassed (k b : Nat) (s : State) : Bool := decide (s.get (canStateAt k) + b * canBit k s ≤ s.now)

/-- Whether controller `k` takes part in the bus: error-active or error-passive. -/
def canActive (k : Nat) (s : State) : Bool := s.get (CAN_STAT_STATE k) == 2 || s.get (CAN_STAT_STATE k) == 3

/-- Frames queued in controller `k`. -/
def canQueue (k : Nat) (s : State) : List CanTx := s.canTx.filter (fun (f : CanTx) => f.ctl == k)

/-- Replace controller `k`'s queue. -/
def setCanQueue (k : Nat) (l : List CanTx) (s : State) : State :=
  ({ s with canTx := s.canTx.filter (fun (f : CanTx) => f.ctl != k) ++ l }).set (CAN_STAT_TXQ k) l.length

/-- Cask of ring position `i` of controller `k`'s receive queue (R420). -/
def rxqCask (k i : Nat) (s : State) : Nat := if i % 2 = 0 then s.get (CAN_RXQ_MAPj_EVEN k (i / 2)) else s.get (CAN_RXQ_MAPj_ODD k (i / 2))

/-- Write of `EN` = 1 (R414, R420). -/
def canEnable (k : Nat) (s : State) : State :=
  if s.flag (CAN_CTRL_EN k) then busOk s
  else match cellarTakeN (7 + k) (s.get (CAN_RXQ_CFG_CASKS k)) s with
    | none => busErr (s.set (CAN_STAT_QERR k) 1)
    | some (l, s) =>
      let s := s.each (List.range 16) (fun j s => (s.set (CAN_RXQ_MAPj_EVEN k j) (l.getD (2 * j) 0)).set (CAN_RXQ_MAPj_ODD k j) (l.getD (2 * j + 1) 0))
      let s := (((s.set (CAN_RXQ_HEAD_HEAD k) 0).set (CAN_RXQ_TAIL_TAIL k) 0).set (CAN_RXQ_FILL_FILL k) 0).set (canDropRun k) 0
      let s := (((s.set (CAN_ERRCNT_TEC k) 0).set (canRec k) 0).set (CAN_ERRCNT_REC k) 0).set (CAN_ERRCNT_RP k) 0
      busOk (canState k 1 (s.set (CAN_CTRL_EN k) 1))

/-- CAN_ENABLE (R414). -/
def execCanEnable (k : Fin 4) (s : State) : Out := ok (canEnable k s)

/-- Write of `EN` = 0 (R414). -/
def canDisable (k : Nat) (s : State) : State :=
  if !s.flag (CAN_CTRL_EN k) then busOk s
  else
    let l := (List.range (s.get (CAN_RXQ_CFG_CASKS k))).map (fun i => rxqCask k i s)
    let s := (setCanQueue k [] (s.each l cellarFree)).set (canStarted k) 0
    let s := ((s.set (CAN_RXQ_HEAD_HEAD k) 0).set (CAN_RXQ_TAIL_TAIL k) 0).set (CAN_RXQ_FILL_FILL k) 0
    busOk (canState k 0 (s.set (CAN_CTRL_EN k) 0))

/-- CAN_DISABLE (R414). -/
def execCanDisable (k : Fin 4) (s : State) : Out := ok (canDisable k s)

/-! ### Results (R418) -/

/-- One result enters controller `k`'s ring. -/
def canResult (k res lec tag tb : Nat) (s : State) : State :=
  let h := s.get (CAN_TXR_HEAD_HEAD k)
  let full := s.get (canTxrN k) == 16
  let s := ((s.set (CAN_TXR_j_LEC k h) lec).set (CAN_TXR_j_RESULT k h) res).set (CAN_TXR_j_TAG k h) tag
  let s := (s.set (CAN_TXR_TB_j_TB k h) tb).set (CAN_TXR_HEAD_HEAD k) (h + 1)
  let s := if full then canFault k 4 (s.set (CAN_TXR_TAIL_TAIL k) (s.get (CAN_TXR_TAIL_TAIL k) + 1)) else s.inc (canTxrN k)
  let s := raiseEvent 0x00C s
  if res = 0 then s.set (canFailRun k) 0
  else
    let run := s.get (canFailRun k) + 1
    let lim := if s.get (CAN_TX_CFG_FAIL_N k) = 0 then 16 else s.get (CAN_TX_CFG_FAIL_N k)
    if lim ≤ run then canFault k 7 (s.set (canFailRun k) 0) else s.set (canFailRun k) run

/-- Tag of a queued frame. -/
def canTag (f : CanTx) : Nat := bits f.flags 8 8

/-- Frames that never started end with a result; they have no start-of-frame, so its time is a free value (log entry 2). -/
def canEndAll (k res : Nat) (l : List CanTx) (s : State) : State :=
  l.foldl (fun s f => canResult k res 0 (canTag f) (Config.fresh s.freeCount).toNat s.draw) s

/-- TXR_ACK (R418), under the rules of R421. -/
def execTxrAck (k : Fin 4) (v : BitVec 4) (s : State) : Out :=
  let d := (v.toNat + 16 - s.get (CAN_TXR_TAIL_TAIL k)) % 16
  ok (if d ≤ s.get (canTxrN k) then busOk ((s.set (CAN_TXR_TAIL_TAIL k) v.toNat).set (canTxrN k) (s.get (canTxrN k) - d)) else busErr s)

/-! ### Error confinement (R416) -/

/-- Show the receive error counter. -/
def canShowRec (k : Nat) (s : State) : State :=
  (s.set (CAN_ERRCNT_REC k) (clampU 7 (s.get (canRec k)))).setB (CAN_ERRCNT_RP k) (decide (128 ≤ s.get (canRec k)))

/-- Bus-off is entered: every queued frame ends with result 3, and recovery may start (R416). -/
def canBusOff (k : Nat) (s : State) : State :=
  let l := canQueue k s
  let s := canEndAll k 3 l ((setCanQueue k [] (canState k 4 s)).set (canStarted k) 0)
  s.when (s.flag (CAN_CTRL_AUTO_BOR k)) (canState k 5)

/-- The state that the error counters call for. -/
def canConfine (k : Nat) (s : State) : State :=
  let s := canShowRec k s
  let st := s.get (CAN_STAT_STATE k)
  if st ≠ 2 ∧ st ≠ 3 then s
  else if 256 ≤ s.get (CAN_ERRCNT_TEC k) then canBusOff k s
  else if 128 ≤ s.get (CAN_ERRCNT_TEC k) ∨ 128 ≤ s.get (canRec k) then canState k 3 s
  else canState k 2 s

/-- Record the kind of an error. -/
def canLec (k lec : Nat) (dataPhase : Bool) (s : State) : State :=
  (s.set (CAN_ERR_LEC k) lec).when dataPhase (fun s => s.set (CAN_ERR_DLEC k) lec)

/-- An error while controller `k` receives: the receive error counter rises by `by_`; restricted operation holds both counters
(R412, log entry 36). -/
def canRxErr (k lec by_ : Nat) (dataPhase : Bool) (s : State) : State :=
  (canLec k lec dataPhase s).when (!s.flag (CAN_CTRL_LISTEN k)) (fun s => canConfine k (s.addSat (canRec k) by_))

/-- CAN_RX_ERROR (R416). -/
def execCanRxError (k : Fin 4) (lec : BitVec 3) (dataPhase heavy : Bool) (s : State) : Out :=
  ok (s.when (canActive k s) (canRxErr k lec.toNat (if heavy then 8 else 1) dataPhase))

/-- CAN_INTEGRATED (R414, R415): 11 recessive bits, none of them before the wait began. -/
def execCanIntegrated (k : Fin 4) (s : State) : Out :=
  let passive := decide (128 ≤ s.get (CAN_ERRCNT_TEC k)) || decide (128 ≤ s.get (canRec k))
  ok (s.when (s.get (CAN_STAT_STATE k) == 1 && canBitsPassed k 11 s) (canState k (if passive then 3 else 2)))

def canCmd (k : Nat) : CmdReg := ⟨CAN_CMD_CODE k, CAN_CMD_STATUS k⟩

/-- RECOVER (R416). -/
def execRecover (k : Fin 4) (s : State) : Out :=
  ok (s.cmdStart (canCmd k) 3 (s.get (CAN_STAT_STATE k) == 4) stDone (canState k 5) id)

/-- CAN_RECOVERED (R416): 128 occurrences of 11 recessive bits. -/
def execCanRecovered (k : Fin 4) (s : State) : Out :=
  ok (s.when (s.get (CAN_STAT_STATE k) == 5 && canBitsPassed k (128 * 11) s) (fun s => canState k 2 (canShowRec k ((s.set (CAN_ERRCNT_TEC k) 0).set (canRec k) 0))))

/-- PROTOCOL_EXCEPTION (R415). -/
def execProtocolException (k : Fin 4) (s : State) : Out :=
  ok (s.when (s.flag (CAN_CTRL_FD_EN k) && canActive k s) (fun s => canFault k 6 (canState k 1 (s.inc (CAN_ERR_PEX k)))))

/-- CAN_RX_DOMINANT (R422): 1 ms without pause, in a controller that is on. -/
def execCanRxDominant (k : Fin 4) (s : State) : Out :=
  ok (s.when (s.flag (CAN_CTRL_EN k) && dueAfter (canDomAt k) 200000 s) (fun s => canFault k 5 (s.set (canDomAt k) (s.now + 1))))

/-! ### Transmission (R417, R418) -/

/-- A `PUSH` may enter its frame. -/
def pushOk (k : Nat) (s : State) : Bool :=
  let st := s.get (CAN_STAT_STATE k)
  decide ((canQueue k s).length < 16) && s.flag (CAN_CTRL_EN k) && !s.flag (CAN_CTRL_LISTEN k) && st != 4 && st != 5 &&
    (!s.flag (CAN_TX_FLAGS_FDF k) || (s.flag (CAN_CTRL_FD_EN k) && !s.flag (CAN_TX_ID_RTR k)))

/-- The frame held in the registers. -/
def heldFrame (k : Nat) (s : State) : CanTx :=
  let g := fun f => s.get f
  { ctl := k
    id := g (CAN_TX_ID_ID k) + 2 ^ 29 * g (CAN_TX_ID_XTD k) + 2 ^ 30 * g (CAN_TX_ID_RTR k)
    flags := g (CAN_TX_FLAGS_DLC k) + 2 ^ 4 * g (CAN_TX_FLAGS_FDF k) + 2 ^ 5 * g (CAN_TX_FLAGS_BRS k) + 2 ^ 8 * g (CAN_TX_FLAGS_TAG k)
    data := (List.range 16).map (fun w => g (CAN_TX_DATAw_D k w)) }

/-- PUSH (R417). -/
def execPush (k : Fin 4) (s : State) : Out :=
  ok (s.cmdStart (canCmd k) 1 (pushOk k s) stDone (fun s => setCanQueue k (canQueue k s ++ [heldFrame k s]) s) id)

/-- FLUSH (R417): a frame already on the bus stays; `started` says whether the head has started, which one FLUSH learns and the next keeps. -/
def execFlush (k : Fin 4) (started : Bool) (s : State) : Out :=
  ok (s.cmdStart (canCmd k) 2 true stDone (fun s =>
    let l := canQueue k s
    let keep := if (started || s.flag (canStarted k)) && canActive k s then 1 else 0
    canEndAll k 4 (l.drop keep) ((setCanQueue k (l.take keep) s).setB (canStarted k) (keep == 1 && l != []))) id)

/-- EV_CAN_TX (R416, R418): the one transmission of the queue's head ends. -/
def execEvCanTx (k : Fin 4) (result : Fin 3) (lec : BitVec 3) (dataPhase : Bool) (tdcv : Option (BitVec 7)) (age : BitVec 32)
    (s : State) : Out :=
  let st := s.get (CAN_STAT_STATE k)
  ok (match canQueue k s with
  | [] => s
  | f :: r =>
    if !canActive k s then s
    else
      let s := (setCanQueue k r s).set (canStarted k) 0
      let s := match tdcv with
        | some d => s.when (s.flag (CAN_DBT_TDC k)) (fun s => s.set (CAN_TDC_TDCV k) d.toNat)
        | none => s
      let tec := s.get (CAN_ERRCNT_TEC k)
      let s := if result = 0 then s.set (CAN_ERRCNT_TEC k) (tec - 1)
        else if result = 1 then s
        else
          let s := canLec k lec.toNat dataPhase s
          if lec = 3 ∧ st = 3 then s else s.set (CAN_ERRCNT_TEC k) (min 511 (tec + 8))
      let s := canResult k result.val (if result = 2 then lec.toNat else 0) (canTag f) ((s.now - age.toNat) % 2 ^ 32) s
      canConfine k s)

/-! ### Reception (R419 to R421) -/

/-- Data bytes of a length code. -/
def dlcBytes (dlc : Nat) (fdf rtr : Bool) : Nat :=
  if rtr then 0
  else if dlc ≤ 8 then dlc
  else if !fdf then 8
  else [12, 16, 20, 24, 32, 48, 64].getD (dlc - 9) 64

/-- The 128 bytes of a receive entry. -/
def rxEntry (id : Nat) (flags dlc tb : Nat) (data : List Byte) : List Byte :=
  let n := dlcBytes dlc (bitAt flags 3) (bitAt flags 1)
  let w0 := id + 2 ^ 29 * bits flags 0 1 + 2 ^ 30 * bits flags 1 1 + 2 ^ 31 * bits flags 2 1
  let w1 := dlc + 2 ^ 4 * bits flags 3 1 + 2 ^ 5 * bits flags 4 1 + 2 ^ 6 * bits flags 5 1 + 2 ^ 8 * n
  toBytes 4 w0 ++ toBytes 4 w1 ++ toBytes 8 tb ++ (data.take n ++ List.replicate (112 - (data.take n).length) 0)

/-- EV_CANK_RX (R415, R419, R421): with `FD_EN` 0 an FD frame is a form error. -/
def execEvCankRx (k : Fin 4) (id : BitVec 29) (flags : BitVec 8) (dlc : BitVec 4) (data : List Byte) (age : BitVec 32) (s : State) : Out :=
  let own := bitAt flags.toNat 2
  let fd := bitAt flags.toNat 3 && !s.flag (CAN_CTRL_FD_EN k)
  ok (if !canActive k s then s
  else if fd then s.when (!own) (canRxErr k 2 1 false)
  else s.when (!own || s.flag (CAN_CTRL_SELF_RX k)) (fun s =>
    let rec_ := s.get (canRec k)
    let s := s.when (!own && !s.flag (CAN_CTRL_LISTEN k)) (fun s => canConfine k (s.set (canRec k) (if 128 ≤ rec_ then 127 else rec_ - 1)))
    let n := 32 * s.get (CAN_RXQ_CFG_CASKS k)
    let e := s.get (CAN_RXQ_HEAD_HEAD k)
    if n ≤ s.get (CAN_RXQ_FILL_FILL k) then
      let first := !s.flag (canDropRun k)
      ((s.inc (CAN_RXQ_DROP_COUNT k)).set (canDropRun k) 1).when first (fun s => raiseEvent 0x00D (canFault k 3 s))
    else
      let a := caskBase (rxqCask k (e / 32) s) + e % 32 * 128
      let s := s.putBytes a (rxEntry id.toNat flags.toNat dlc.toNat (s.now - age.toNat) data)
      let s := (s.set (CAN_RXQ_HEAD_HEAD k) ((e + 1) % n)).set (CAN_RXQ_FILL_FILL k) (s.get (CAN_RXQ_FILL_FILL k) + 1)
      raiseEvent (8 + k) (s.set (canDropRun k) 0)))

/-- RXQ_ACK (R421). -/
def execRxqAck (k : Fin 4) (v : BitVec 10) (s : State) : Out :=
  let n := 32 * s.get (CAN_RXQ_CFG_CASKS k)
  let d := (v.toNat + n - s.get (CAN_RXQ_TAIL_TAIL k)) % n
  ok (if v.toNat < n ∧ d ≤ s.get (CAN_RXQ_FILL_FILL k) then
    busOk ((s.set (CAN_RXQ_TAIL_TAIL k) v.toNat).set (CAN_RXQ_FILL_FILL k) (s.get (CAN_RXQ_FILL_FILL k) - d))
  else busErr s)

end Sys2Proof.Machine
end

