-- ==== Sys2Proof/Machine/Eth.lean ====
section
/-!
DEFINITION. The Ethernet switch, its rings and casks, the IEEE 802.1AS time and the IEEE 802.1Qbv gates (14_networks_and_authorization,
R423 to R430). Ports are numbered as the spec numbers them: 0 the Innkeeper, 1 and 2 the wires. Times are in ns of 802.1AS time.
-/

namespace Sys2Proof.Machine
open Reg

/-- ETH cause `c`, all of class `RIDE` (R430). -/
def ethFault (c : Nat) (s : State) : State := raiseFault (yardCode 9 c) .ride s

/-! ### Frames (R423, R424) -/

/-- Bytes `i` and `i + 1` of a frame, most significant first. -/
def frame16 (b : List Byte) (i : Nat) : Nat := ofBytesBE ((b.drop i).take 2)

/-- Whether the frame carries an IEEE 802.1Q tag. -/
def tagged (b : List Byte) : Bool := frame16 b 12 == 0x8100

/-- EtherType behind at most one tag. -/
def etherType (b : List Byte) : Nat := if tagged b then frame16 b 16 else frame16 b 12

/-- Whether the MAC passes the frame: 64 to 1,522 bytes with a good FCS, at most one tag (R423). The FCS is IEEE 802.3's, the CRC-32 of
R103, as a number whose least significant byte is the first on the wire (log entry 38). -/
def macPasses (b : List Byte) (fcs : Nat) : Bool :=
  fcs == crc32 b && decide (60 ≤ b.length) && decide (b.length ≤ 1518) && !(tagged b && (etherType b == 0x8100 || etherType b == 0x88A8))

/-- `PVID` and `PCP` of an ingress port; P0 has no registers and uses VLAN 1, priority 0 (log entry 37). -/
def portVid (q : Nat) (s : State) : Nat := if q = 0 then 1 else s.get (ETH_Pp_CTRL_PVID q)
def portPcp (q : Nat) (s : State) : Nat := if q = 0 then 0 else s.get (ETH_Pp_CTRL_PCP q)

/-- VLAN identifier and priority of a frame. -/
def frameVid (b : List Byte) (q : Nat) (s : State) : Nat := if tagged b then frame16 b 14 % 0x1000 else portVid q s
def framePcp (b : List Byte) (q : Nat) (s : State) : Nat := if tagged b then frame16 b 14 / 0x2000 else portPcp q s

/-- The table's first entry for a frame, as its delivery bits. -/
def fdbPorts (b : List Byte) (q : Nat) (s : State) : Option Nat :=
  let hi := frame16 b 0
  let lo := ofBytesBE ((b.drop 2).take 4)
  let vid := frameVid b q s
  (firstBelow 64 (fun j => s.flag (ETH_FDB_HI_j_VALID j) && s.get (ETH_FDB_HI_j_VID j) == vid && s.get (ETH_FDB_HI_j_MAC j) == hi &&
    s.get (ETH_FDB_LO_j_MAC j) == lo)).map (fun j => s.get (ETH_FDB_HI_j_PORTS j))

/-- The ports a frame leaves by (R424): none for a gPTP frame, which goes to the time engine. -/
def egress (b : List Byte) (q : Nat) (s : State) : List Nat :=
  if etherType b = 0x88F7 then [] else
  let m := match fdbPorts b q s with
    | some m => m
    | none => if frame16 b 0 / 0x100 % 2 = 0 then 1 else 7
  [0, 1, 2].filter (fun p => bitAt m p && p != q)

/-- Traffic class of a priority (R429). -/
def pcpClass (pcp : Nat) (s : State) : Nat := bits (s.get ETH_TCMAP_TC) (3 * pcp) 3

/-! ### Transmit casks (R426) -/

/-- One discarded transmit frame. -/
def txDiscard (s : State) : State := ethFault 0x21 (s.inc ETH_DROP_TX)

/-- Write a frame into a cask. -/
def caskPut (k : Nat) (b : List Byte) (s : State) : State := s.putBytes (caskBase k) b

/-- A frame enters a transmit cask for port `p`, or is discarded: its link is down, or user 5 has no cask left. -/
def txQueue (p cls q : Nat) (b : List Byte) (s : State) : State :=
  if !s.flag (ETH_Pp_STAT_LINK p) then txDiscard s
  else match cellarTake 5 s with
    | none => txDiscard s
    | some (k, s) =>
      let s := caskPut k b s
      { s with ethTx := s.ethTx ++ [{ port := p, cls := cls, source := q, casks := [k], bytes := b, since := s.now }] }

/-- Discard the queued frames that `p` names: their casks are free again. -/
def txDiscardAll (p : EthTx → Bool) (s : State) : State :=
  let l := s.ethTx.filter p
  let s := { s with ethTx := s.ethTx.filter (fun f => !p f) }
  l.foldl (fun s f => txDiscard (s.each f.casks cellarFree)) s

/-- Address of buffer `i` of the transmit ring, and of the receive ring. -/
def txBuffer (i : Nat) (s : State) : Nat := s.getWide ETH_TXR_BASE_LO_ADDR ETH_TXR_BASE_HI_ADDR + 0x800 * i
def rxBuffer (i : Nat) (s : State) : Nat := s.getWide ETH_RXR_BASE_LO_ADDR ETH_RXR_BASE_HI_ADDR + 0x800 * i

/-- What the ETH requester reads of a transmit buffer: zeros outside the Innkeeper partition (R23). -/
def txRead (a len : Nat) (s : State) : List Byte := if inInn a len s then memTake s.mem a len else List.replicate len 0

/-- The transmit ring moves one buffer on. -/
def txNext (s : State) : State := s.set ETH_TXR_HEAD_HEAD ((s.get ETH_TXR_HEAD_HEAD + 1) % s.get ETH_TXR_CFG_N)

/-- The ports a ring frame with descriptor word `w` leaves by: those it names, else as a received frame would (R426). -/
def txPorts (w : Nat) (b : List Byte) (s : State) : List Nat :=
  if bits w 12 2 = 0 then egress b 0 s else [1, 2].filter (fun p => bitAt (bits w 12 2) (p - 1))

/-- A ring frame into the transmit casks of its ports; `none`: it waits for casks. -/
def txStore (w : Nat) (b : List Byte) (ps : List Nat) (s : State) : Option State :=
  match cellarTakeN 5 (ps.filter (fun p => s.flag (ETH_Pp_STAT_LINK p))).length s with
  | none => none
  | some _ => some (raiseEvent 0x015 (txNext (s.each ps (fun p => txQueue p (bits w 16 3) 0 b))))

/-- Take the buffer at `ETH_TXR_HEAD`; `none`: it waits for casks (R426). -/
def txTake (s : State) : Option State :=
  let a := txBuffer (s.get ETH_TXR_HEAD_HEAD) s
  let w := ofBytes (txRead a 4 s)
  let len := bits w 0 11
  if len < 60 ∨ 1518 < len then some ((txNext s).inc ETH_DROP_TXERR)
  else
    let b := txRead (a + 16) len s
    txStore w b (txPorts w b s) s

/-- Take the buffer at `ETH_TXR_HEAD` where the Innkeeper has handed one over, and go on with `go` (R426). -/
def txStep (go : State → State) (s : State) : State :=
  if s.get ETH_TXR_HEAD_HEAD = s.get ETH_TXR_TAIL_TAIL then s
  else match txTake s with
    | none => s
    | some t => go t

/-- Copy buffers in ring order while casks are free. -/
def txFill : Nat → State → State
  | 0, s => s
  | k + 1, s => txStep (txFill k) s

/-- ETH_TX_QUEUE (R426): `ETH_TXR_TAIL` takes a position of the ring. -/
def execEthTxQueue (v : BitVec 12) (s : State) : Out :=
  ok (if v.toNat < s.get ETH_TXR_CFG_N then txFill 4096 (busOk (s.set ETH_TXR_TAIL_TAIL v.toNat)) else busErr s)

/-- ETH_TX_AGE_EXPIRY (R426). -/
def execEthTxAgeExpiry (s : State) : Out :=
  ok (txDiscardAll (fun f => decide (f.since + s.get ETH_TX_AGE_MS * 200000 ≤ s.now)) s)

/-- EV_ETH_LINK (R423, R426). -/
def execEvEthLink (p : Fin 2) (up : Bool) (s : State) : Out :=
  let q := p.val + 1
  ok (if s.flag (ETH_Pp_STAT_LINK q) = up then s
  else
    let s := raiseEvent 0x016 (s.setB (ETH_Pp_STAT_LINK q) up)
    if up then s
    else txDiscardAll (fun f => f.port == q) (ethFault (0x10 + q) (s.inc (ETH_Pp_STAT_DROPS q))))

/-! ### Reception (R424, R425) -/

/-- A frame lands in a receive cask for P0. -/
def rxQueue (q : Nat) (b : List Byte) (since : Nat) (s : State) : State :=
  match cellarTake 6 s with
  | none => ethFault 0x20 (s.inc ETH_DROP_RX)
  | some (k, s) =>
    let s := caskPut k b s
    { s with ethRx := s.ethRx ++ [{ port := q, casks := [k], bytes := b, since := since }] }

/-- ETH_FRAME_RX (R423, R424). -/
def execEthFrameRx (p : Fin 2) (b : List Byte) (fcs : BitVec 32) (age : BitVec 32) (s : State) : Out :=
  let q := p.val + 1
  ok (if !s.flag (ETH_Pp_CTRL_EN q) || !s.flag (ETH_Pp_STAT_LINK q) then s
  else if !macPasses b fcs.toNat || etherType b == 0x8808 then s.inc (ETH_Pp_RXERR_COUNT q)
  else
    let s := s.inc (ETH_Pp_RXF_COUNT q)
    s.each (egress b q s) (fun e s => if e = 0 then rxQueue q b (s.now - age.toNat) s
      else txQueue e (pcpClass (framePcp b q s) s) q b s))

/-- The 16 bytes before a frame in its receive buffer. -/
def rxHead (f : EthRx) : List Byte := toBytes 8 (f.bytes.length + 2 ^ 12 * f.port) ++ toBytes 8 f.since

/-- EV_ETH_RX (R425): the oldest waiting frame is copied, while the ring has a free buffer. -/
def execEvEthRx (s : State) : Out :=
  ok (match s.ethRx with
  | [] => s
  | f :: r =>
    if s.get ETH_RXR_CFG_N ≤ s.get ethRxFill then s
    else
      let h := s.get ETH_RXR_HEAD_HEAD
      let a := rxBuffer h s
      let d := rxHead f ++ f.bytes
      let s := if inInn a d.length s then s.putBytes a d else violation 2 a true s
      let s := ({ s with ethRx := r }).each f.casks cellarFree
      raiseEvent 0x014 ((s.set ETH_RXR_HEAD_HEAD ((h + 1) % s.get ETH_RXR_CFG_N)).inc ethRxFill))

/-- ETH_RX_RETURN (R425), under the rules of R421. -/
def execEthRxReturn (v : BitVec 12) (s : State) : Out :=
  let n := s.get ETH_RXR_CFG_N
  let d := (v.toNat + n - s.get ETH_RXR_TAIL_TAIL) % n
  ok (if v.toNat < n ∧ d ≤ s.get ethRxFill then busOk ((s.set ETH_RXR_TAIL_TAIL v.toNat).set ethRxFill (s.get ethRxFill - d)) else busErr s)

/-! ### IEEE 802.1AS (R427, R428) -/

/-- The 802.1AS time, ns: `TB_NOW` through the rate and the offset. -/
def asTime (s : State) : Nat :=
  s.get asBase + ((s.now - s.get asAt : Nat) * 5 * (1000000000 + s.geti ETH_AS_RATE_PPB)).toNat / 1000000000

/-- The 802.1AS time becomes `t` at this instant and runs on with `rate`. -/
def asSet (t : Nat) (rate : Int) (s : State) : State := ((s.set asBase t).set asAt s.now).seti ETH_AS_RATE_PPB rate

/-- The slave port, if there is one. -/
def asSlave (s : State) : Option Nat := [1, 2].find? (fun p => s.get (ETH_Pp_CTRL_AS_ROLE p) == 2)

/-- `SYNCED` changes: each change raises `EV_ETH_SYNC`, a clear also cause 0x30. -/
def syncSet (b : Bool) (s : State) : State :=
  if s.flag ETH_AS_STAT_SYNCED = b then s
  else
    let s := raiseEvent 0x017 (s.setB ETH_AS_STAT_SYNCED b)
    s.when (!b) (ethFault 0x30)

/-- Whether port `p` is on with its link up. -/
def portUp (p : Nat) (s : State) : Bool := s.flag (ETH_Pp_CTRL_EN p) && s.flag (ETH_Pp_STAT_LINK p)

/-- Whether the device is grandmaster, where `SYNCED` never reads 1 (R428). -/
def grandmaster (s : State) : Bool := s.flag ETH_AS_CFG_GM && (asSlave s).isNone

/-- SYNC_MESSAGE (R428): `t` is the sender's present time. The steered rate is a free value within 500 ppm (log entry 2). -/
def execSyncMessage (p : Fin 2) (t : BitVec 80) (s : State) : Out :=
  ok (if asSlave s ≠ some (p.val + 1) ∨ !portUp (p.val + 1) s then s
  else
    let own := asTime s
    let ofs : Int := own - t.toNat
    let s := ((s.seti ETH_AS_OFS_NS (clampS 32 ofs)).set asSyncAt s.now).set asRxNs t.toNat
    let s := if 1000000 < ofs.natAbs then asSet t.toNat (s.geti ETH_AS_RATE_PPB) s
      else (asSet own ((Config.fresh s.freeCount).toNat % 1000001 - 500000) s).draw
    let s := s.set asGood (if ofs.natAbs ≤ 500 then min 8 (s.get asGood + 1) else 0)
    if 10000 < ofs.natAbs then syncSet false s else s.when (s.get asGood == 8) (syncSet true))

/-- Ticks of one Sync interval. -/
def syncTicks (s : State) : Nat := 200000000 / 2 ^ (s.geti ETH_AS_CFG_SYNC_LOG).natAbs

/-- SYNC_TIMEOUT (R428): three Sync intervals without a Sync. -/
def execSyncTimeout (s : State) : Out :=
  ok (s.when (((asSlave s).isSome || s.flag ETH_AS_STAT_SYNCED) && decide (s.get asSyncAt + 3 * syncTicks s ≤ s.now)) (fun s => syncSet false (s.set asGood 0)))

/-- The master ports that can send. -/
def masterPorts (s : State) : List Nat := [1, 2].filter (fun p => s.get (ETH_Pp_CTRL_AS_ROLE p) == 1 && portUp p s)

/-- The time a master port tells (R427): a device with a slave port relays the time of that port's last Sync, run on since then at the
steered rate (log entry 116); any other tells its own. -/
def relayTime (s : State) : Nat :=
  if (asSlave s).isSome then
    s.get asRxNs + ((s.now - s.get asSyncAt : Nat) * 5 * (1000000000 + s.geti ETH_AS_RATE_PPB)).toNat / 1000000000
  else asTime s

/-- SYNC_TRANSMIT (R427): every Sync interval, Sync and Follow_Up on every master port. -/
def execSyncTransmit (s : State) : Out :=
  ok (s.when (dueAfter asTxAt (syncTicks s) s) (fun s =>
    let x := relayTime s
    (s.each (masterPorts s) (fun p s => (s.addSat (ETH_Pp_TXF_COUNT p) 2).set (asTold p) x)).set asTxAt (s.now + 1)))

/-- PEER_DELAY_MESSAGE (R427). -/
def execPeerDelayMessage (p : Fin 2) (delay : BitVec 32) (valid : Bool) (s : State) : Out :=
  let q := p.val + 1
  ok (if s.get (ETH_Pp_CTRL_AS_ROLE q) = 0 ∨ !portUp q s then s
  else (s.set (ETH_Pp_PDLY_NS q) delay.toNat).setB (ETH_Pp_STAT_AS_CAP q) (valid && decide (delay.toNat < s.get ETH_AS_CFG_PDLY_MAX)))

/-- The calendar as ns. -/
def calNs (s : State) : Nat :=
  s.getWide LEDGER_CAL_SEC_LO_SEC LEDGER_CAL_SEC_HI_SEC * 1000000000 + s.get LEDGER_CAL_SUB_SUB * 1000000000 / 32768

/-- `GM` is written 1: without a slave port the time starts from the calendar and runs on the timebase (R428). -/
def gmStart (s : State) : State := if (asSlave s).isSome then s else syncSet false (asSet (calNs s) 0 (s.set asGood 0))

/-- GM_WRITE (R428). -/
def execGmWrite (s : State) : Out := ok (gmStart (busOk (s.set ETH_AS_CFG_GM 1)))

/-! ### IEEE 802.1Qbv (R429, R430) -/

/-- The end within the cycle of entry `j`, which starts at `at_`: the last entry holds, and every entry is cut, at the cycle's end. -/
def entryEnd (entry : Nat → Nat) (len cycle j at_ : Nat) : Nat :=
  if len ≤ j + 1 then cycle else min cycle (at_ + bits (entry j) 0 24)

/-- From entry `j`, ending at absolute time `t` (`at_` within its cycle), the time at which the gate of class `c` closes; `none`: it
stays open over `fuel` entries. -/
def gateWalk (entry : Nat → Nat) (len cycle c : Nat) : Nat → Nat → Nat → Nat → Option Nat
  | 0, _, _, _ => none
  | fuel + 1, j, at_, t =>
    let (j', a0) := if cycle ≤ at_ then (0, 0) else (j + 1, at_)
    if bitAt (entry j') (24 + c) then
      let e := entryEnd entry len cycle j' a0
      gateWalk entry len cycle c fuel j' e (t + (e - a0))
    else some t

/-- Entries of the list in force and of the waiting list. -/
def gclEntry (p j : Nat) (s : State) : Nat := s.get (ETH_Pp_GCLOP_j_E p j)

/-- Whether the gate of class `c` of port `p` is open now. -/
def gateOpen (p c : Nat) (s : State) : Bool :=
  !s.flag (ETH_Pp_GCL_STAT_OPER p) || bitAt (gclEntry p (s.get (ETH_Pp_GCL_STAT_ENTRY p)) s) (24 + c)

/-- The time at which the open gate of class `c` closes, the waiting list taking over at its change time. -/
def gateClose (p c : Nat) (s : State) : Option Nat :=
  let oper := if s.flag (ETH_Pp_GCL_STAT_OPER p) then
      gateWalk (fun j => gclEntry p j s) (s.get (gclLen p)) (s.get (gclCycle p)) c 130 (s.get (ETH_Pp_GCL_STAT_ENTRY p))
        (s.get (gclEnd p) - s.get (gclCycleAt p)) (s.get (gclEnd p))
    else none
  let at_ := s.get (gclAt p)
  if s.flag (ETH_Pp_GCL_STAT_PEND p) && (match oper with | some t => decide (at_ ≤ t) | none => true) then
    -- the new list starts at `at_` as if a cycle of it ended there
    gateWalk (fun j => s.get (gclAdm p j)) (s.get (gclAdmLen p)) (s.get (gclAdmCycle p)) c 130 0 (s.get (gclAdmCycle p)) at_
  else oper

/-- Whether a frame started now ends, preamble and gap counted, before its gate closes (R429). -/
def frameFits (f : EthTx) (s : State) : Bool :=
  match gateClose f.port f.cls s with
  | none => true
  | some t => decide (asTime s + (f.bytes.length + 24) * 8 ≤ t)

/-- The first queued frame of class `c` at port `p`. -/
def classHead (p c : Nat) (s : State) : Option EthTx := s.ethTx.find? (fun f => f.port == p && f.cls == c)

/-- The frame port `p` sends next: the highest class whose gate is open and whose first frame fits. -/
def txPick (p : Nat) (s : State) : Option EthTx :=
  [7, 6, 5, 4, 3, 2, 1, 0].findSome? (fun c =>
    match classHead p c s with
    | some f => if gateOpen p c s && frameFits f s then some f else none
    | none => none)

/-- Ticks that a frame takes on the wire with FCS, preamble and gap: (length + 24) × 8 ns, the last tick taken whole (R429). -/
def wireTicks (f : EthTx) : Nat := ((f.bytes.length + 24) * 8 + 4) / 5

/-- ETH_FRAME_TX (R429): the frame drains from its cask into the wire, once the frame before it has ended. -/
def execEthFrameTx (p : Fin 2) (s : State) : Out :=
  let q := p.val + 1
  ok (if !portUp q s || s.now < s.get (ethTxEnd q) then s
  else match txPick q s with
    | none => s
    | some f =>
      let s := s.set (ethTxEnd q) (s.now + wireTicks f)
      txFill 4096 ((({ s with ethTx := s.ethTx.erase f }).each f.casks cellarFree).inc (ETH_Pp_TXF_COUNT q)))

def gclCmd (p : Nat) : CmdReg := ⟨ETH_Pp_GCL_CMD_CODE p, ETH_Pp_GCL_CMD_STATUS p⟩

/-- The administrative base time, ns. -/
def gclBase (p : Nat) (s : State) : Nat := s.getWide (ETH_Pp_GCL_BASE_LO_SEC p) (ETH_Pp_GCL_BASE_HI_SEC p) * 1000000000 + s.get (ETH_Pp_GCL_BASE_NS_NS p)

/-- The change time (R430). -/
def gclChange (p : Nat) (s : State) : Nat :=
  let b := gclBase p s
  let t := asTime s
  let c := s.get (ETH_Pp_GCL_CYCLE_NS p)
  if t < b then b else b + (t + 1000000 - b + c - 1) / c * c

/-- APPLY (R430). -/
def execApply (p : Fin 2) (s : State) : Out :=
  let q := p.val + 1
  ok (s.cmdStart (gclCmd q) 1 ((s.flag ETH_AS_STAT_SYNCED || s.flag ETH_AS_CFG_GM) && !s.flag (ETH_Pp_GCL_STAT_PEND q)) stBusy (fun s =>
    let s := s.set (gclAt q) (gclChange q s)
    let s := s.each (List.range 64) (fun j s => s.set (gclAdm q j) (s.get (ETH_Pp_GCL_j_NS q j) + 2 ^ 24 * s.get (ETH_Pp_GCL_j_GATES q j)))
    ((s.set (gclAdmLen q) (s.get (ETH_Pp_GCL_LEN_LEN q))).set (gclAdmCycle q) (s.get (ETH_Pp_GCL_CYCLE_NS q))).set (ETH_Pp_GCL_STAT_PEND q) 1) id)

/-- Entry `j` runs from the offset `at_` of the present cycle. -/
def gclRun (p j at_ : Nat) (s : State) : State :=
  let e := entryEnd (fun i => gclEntry p i s) (s.get (gclLen p)) (s.get (gclCycle p)) j at_
  (s.set (ETH_Pp_GCL_STAT_ENTRY p) j).set (gclEnd p) (s.get (gclCycleAt p) + e)

/-- EV_GCL_APPLY (R430): the change time. -/
def execEvGclApply (p : Fin 2) (s : State) : Out :=
  let q := p.val + 1
  ok (s.when (s.flag (ETH_Pp_GCL_STAT_PEND q) && decide (s.get (gclAt q) ≤ asTime s)) (fun s =>
    let s := s.each (List.range 64) (fun j s => s.set (ETH_Pp_GCLOP_j_E q j) (if j < s.get (gclAdmLen q) then s.get (gclAdm q j) else 0))
    let s := ((s.set (gclLen q) (s.get (gclAdmLen q))).set (gclCycle q) (s.get (gclAdmCycle q))).set (gclCycleAt q) (s.get (gclAt q))
    let s := gclRun q 0 0 ((s.set (ETH_Pp_GCL_STAT_PEND q) 0).set (ETH_Pp_GCL_STAT_OPER q) 1)
    ((raiseEvent 0x01F s).cmdEnd (gclCmd q) (if s.flag (gclLate q) then stTooLate else stDone)).set (gclLate q) 0))

/-- GATE_ENTRY_END (R430): the running entry's interval expires; without sync the schedule runs on. -/
def execGateEntryEnd (p : Fin 2) (s : State) : Out :=
  let q := p.val + 1
  ok (s.when (s.flag (ETH_Pp_GCL_STAT_OPER q) && decide (s.get (gclEnd q) ≤ asTime s)) (fun s =>
    let at_ := s.get (gclEnd q) - s.get (gclCycleAt q)
    if s.get (gclCycle q) ≤ at_ then gclRun q 0 0 (s.set (gclCycleAt q) (s.get (gclCycleAt q) + s.get (gclCycle q)))
    else gclRun q (s.get (ETH_Pp_GCL_STAT_ENTRY q) + 1) at_ s))

/-- DISABLE (R430): every gate opens. -/
def execDisable (p : Fin 2) (s : State) : Out :=
  let q := p.val + 1
  ok (s.cmdStart (gclCmd q) 2 true stDone (fun s => (s.set (ETH_Pp_GCL_STAT_OPER q) 0).set (ETH_Pp_GCL_STAT_ENTRY q) 0) id)

/-- An abort of `APPLY`: before the change time the old list stays; at or after it the change goes on, and ends `TOO_LATE` (R430). -/
def gclAbort (p : Nat) (s : State) : State :=
  if asTime s < s.get (gclAt p) then (s.set (ETH_Pp_GCL_STAT_PEND p) 0).cmdEnd (gclCmd p) stAborted
  else s.set (gclLate p) 1

/-- Roles were written, from `s` to `t`: a device that becomes grandmaster so, its `GM` standing, starts its time from the calendar, on the
timebase, and reads `SYNCED` 0 (R428; log entry 116). -/
def roleFollow (s t : State) : State := t.when (!grandmaster s && grandmaster t) gmStart

end Sys2Proof.Machine
end

