-- ==== Sys2Proof/Machine/Calendar.lean ====
section
/-!
DEFINITION. The calendar (13_ledger_and_calendar, R408 to R410). Its running in time is part of the tick (Machine/Tick.lean).
-/

namespace Sys2Proof.Machine
open Reg

/-- The calendar as counts of 1/32,768 s. -/
def calCounts (s : State) : Nat := s.getWide LEDGER_CAL_SEC_LO_SEC LEDGER_CAL_SEC_HI_SEC * 32768 + s.get LEDGER_CAL_SUB_SUB

/-- The calendar reads `c` counts (48-bit seconds). -/
def clkLoad (c : Nat) (s : State) : State :=
  (s.setWide LEDGER_CAL_SEC_LO_SEC LEDGER_CAL_SEC_HI_SEC (c / 32768)).set LEDGER_CAL_SUB_SUB (c % 32768)

/-- A step or `SET` to `c` counts: a move by more than 1 s raises cause 0x10 (R410). -/
def clkStep (c : Nat) (s : State) : State :=
  let far := decide (32768 < ((calCounts s : Int) - c).natAbs)
  (clkLoad c s).when far (raiseFault (yardCode 10 0x10) .ride)

def clkCmd : CmdReg := ⟨LEDGER_CAL_CMD_CODE, LEDGER_CAL_CMD_STATUS⟩

/-- Counts held in the `LEDGER_CAL_SET` group. -/
def calSetCounts (s : State) : Nat := s.getWide LEDGER_CAL_SET_LO_SEC LEDGER_CAL_SET_HI_SEC * 32768 + s.get LEDGER_CAL_SET_SUB_SUB

/-- SET (R409): the group is loaded at the next 32.768 kHz edge. -/
def execCalSet (s : State) : Out := ok (s.cmdStart clkCmd 1 true stBusy id id)

/-- The load of `SET` at its edge. -/
def calSetLoad (s : State) : State :=
  let s := clkStep (calSetCounts s) s
  raiseEvent 0x02E (((s.set LEDGER_CAL_STAT_VALID 1).set LEDGER_CAL_STAT_SLEW 0).cmdEnd clkCmd stDone)

/-- Calendar less 802.1AS time in units of 1/(2 x 10^17) of a count; `phase` is the calendar's phase within a count, of 200,000,000. -/
def calDiff (phase : Nat) (s : State) : Int :=
  ((calCounts s * 200000000 + phase) * 1000000000 : Nat) - (asTime s * 32768 * 200000000 : Nat)

/-- One count in the unit of `calDiff`. -/
def calUnit : Nat := 200000000000000000

/-- The comparison of `ALIGN` at an edge: step, or slew until the difference is below one count (R409). -/
def calAlign (s : State) : State :=
  let d := calDiff (s.get calAcc) s
  let s := s.seti LEDGER_CAL_ERR_ERR (clampS 32 (d.tdiv calUnit))
  if s.get LEDGER_CAL_CFG_STEP * 32768 * calUnit ≤ d.natAbs * 100 then
    let s := clkStep (asTime s * 32768 / 1000000000) s
    (s.set LEDGER_CAL_STAT_SLEW 0).set LEDGER_CAL_STAT_SYNCED 1
  else if d.natAbs < calUnit then (s.set LEDGER_CAL_STAT_SLEW 0).set LEDGER_CAL_STAT_SYNCED 1
  else (((s.set LEDGER_CAL_STAT_SLEW 1).set LEDGER_CAL_STAT_SYNCED 0).setB calSlewUp (decide (d < 0))).set calSlewN 0

/-- ALIGN (R409): the comparison is made at the next 32.768 kHz edge. -/
def execAlign (s : State) : Out := ok (s.cmdStart clkCmd 2 (s.flag ETH_AS_STAT_SYNCED) stBusy id id)

/-- AUTO_ALIGN (R409): every 10 s. -/
def execAutoAlign (s : State) : Out :=
  ok (s.when (s.flag LEDGER_CAL_CFG_AUTO && s.flag ETH_AS_STAT_SYNCED && dueAfter calAlignAt 2000000000 s)
    (fun s => (s.set calAlignAt (s.now + 1)).set calAlignDue 1))

/-- VBAK_CHECK (R408): a reading in mV, every second. -/
def execVbakCheck (mv : BitVec 16) (s : State) : Out :=
  ok (s.when (dueAfter vbakAt 200000000 s) (fun s =>
    (s.set vbakAt (s.now + 1)).when (decide (mv.toNat < 2000))
      (fun s => raiseFault (yardCode 10 0x12) .ride (s.set LEDGER_CAL_STAT_VBAK_LOW 1))))

/-- CALENDAR_SLEW_END (R409). -/
def execCalendarSlewEnd (s : State) : Out :=
  ok (s.when (s.flag LEDGER_CAL_STAT_SLEW && decide ((calDiff (s.get calAcc) s).natAbs < calUnit))
    (fun s => s.set LEDGER_CAL_STAT_SLEW 0))

/-- One count of the 32.768 kHz oscillator: while slewing, one in every 1,024 is omitted or repeated (R409). -/
def calCount (s : State) : State :=
  let n := s.get calSlewN + 1
  let slew := s.flag LEDGER_CAL_STAT_SLEW
  let k := if slew ∧ n = 1024 then (if s.flag calSlewUp then 2 else 0) else 1
  (clkLoad (calCounts s + k) s).set calSlewN (if slew ∧ n < 1024 then n else 0)

/-- An edge of the 32.768 kHz oscillator: the count, or the load of a waiting `SET`, then a waiting comparison (R409). -/
def calEdge (s : State) : State :=
  let s := if s.busy clkCmd ∧ s.get LEDGER_CAL_CMD_CODE = 1 then calSetLoad s else calCount s
  let s := s.when (s.busy clkCmd && s.get LEDGER_CAL_CMD_CODE == 2) (fun s => calAlign (s.cmdEnd clkCmd stDone))
  s.when (s.flag calAlignDue) (fun s => calAlign (s.set calAlignDue 0))

/-- The calendar over one tick of 5 ns (R408). -/
def calTick (s : State) : State :=
  let a := s.get calAcc + 32768
  if a < 200000000 then s.set calAcc a else calEdge (s.set calAcc (a - 200000000))

end Sys2Proof.Machine
end

