-- ==== Sys2Proof/Machine/Crypto.lean ====
section
/-!
DEFINITION. The cryptographic functions the spec names: SHA-256 (FIPS 180-4), AES-128 (FIPS 197), AES-CMAC (RFC 4493) and ECDSA over P-256
with SHA-256 (FIPS 186-4), on lists of bytes. The spec names them and defines none of them (log entry 38).
-/

namespace Sys2Proof.Machine

/-! ### SHA-256 -/

/-- The 64 round constants, constant `i` in bits [32 i + 31 : 32 i]. -/
def shaK : Nat := 0xC67178F2BEF9A3F7A4506CEB90BEFFFA8CC7020884C8781478A5636F748F82EE682E6FF35B9CCA4F4ED8AA4A391C0CB334B0BCB52748774C1E376C0819A4C116106AA070F40E3585D6990624D192E819C76C51A3C24B8B70A81A664BA2BFE8A192722C8581C2C92E766A0ABB650A735453380D134D2C6DFC2E1B213827B70A851429296706CA6351D5A79147C6E00BF3BF597FC7B00327C8A831C66D983E515276F988DA5CB0A9DC4A7484AA2DE92C6F240CA1CC0FC19DC6EFBE4786E49B69C1C19BF1749BDC06A780DEB1FE72BE5D74550C7DC3243185BE12835B01D807AA98AB1C5ED5923F82A459F111F13956C25BE9B5DBA5B5C0FBCF71374491428A2F98

/-- The initial hash value. -/
def shaH : List (BitVec 32) := [0x6A09E667#32, 0xBB67AE85#32, 0x3C6EF372#32, 0xA54FF53A#32, 0x510E527F#32, 0x9B05688C#32, 0x1F83D9AB#32, 0x5BE0CD19#32]

def rotr (x : (BitVec 32)) (k : Nat) : (BitVec 32) := x.rotateRight k

/-- Message schedule: the words so far, newest first; one more word. -/
def shaExtend (w : List (BitVec 32)) : List (BitVec 32) :=
  let g := fun i => w.getD i 0#32
  let s0 := rotr (g 14) 7 ^^^ rotr (g 14) 18 ^^^ (g 14 >>> 3)
  let s1 := rotr (g 1) 17 ^^^ rotr (g 1) 19 ^^^ (g 1 >>> 10)
  (s1 + g 6 + s0 + g 15) :: w

/-- One round on the eight working words. -/
def shaRound (v : List (BitVec 32)) (k w : (BitVec 32)) : List (BitVec 32) :=
  match v with
  | [a, b, c, d, e, f, g, h] =>
    let t1 := h + (rotr e 6 ^^^ rotr e 11 ^^^ rotr e 25) + ((e &&& f) ^^^ (~~~e &&& g)) + k + w
    let t2 := (rotr a 2 ^^^ rotr a 13 ^^^ rotr a 22) + ((a &&& b) ^^^ (a &&& c) ^^^ (b &&& c))
    [t1 + t2, a, b, c, d + t1, e, f, g]
  | _ => v

/-- One block of 16 words. -/
def shaBlock (h : List (BitVec 32)) (m : List (BitVec 32)) : List (BitVec 32) :=
  let w := ((List.range 48).foldl (fun w _ => shaExtend w) m.reverse).reverse
  let v := (List.range 64).foldl (fun v i => shaRound v (BitVec.ofNat 32 (shaK / 2 ^ (32 * i))) (w.getD i 0#32)) h
  List.zipWith (· + ·) h v

/-- Blocks of 64 bytes. -/
def shaBlocks : Nat → List (BitVec 32) → List Byte → List (BitVec 32)
  | 0, h, _ => h
  | k + 1, h, b =>
    shaBlocks k (shaBlock h ((List.range 16).map (fun i => BitVec.ofNat 32 (ofBytesBE ((b.drop (4 * i)).take 4))))) (b.drop 64)

/-- SHA-256 of a byte string, 32 bytes. -/
def sha256 (b : List Byte) : List Byte :=
  let k := (b.length + 72) / 64
  let p := b ++ [0x80#8] ++ List.replicate (64 * k - 9 - b.length) 0#8 ++ toBytesBE 8 (8 * b.length)
  (shaBlocks k shaH p).flatMap (fun w => toBytesBE 4 w.toNat)

/-! ### AES-128 -/

/-- The S-box, entry `i` in bits [8 i + 7 : 8 i]. -/
def aesSbox : Nat := 0x16BB54B00F2D99416842E6BF0D89A18CDF2855CEE9871E9B948ED9691198F8E19E1DC186B95735610EF6034866B53E708A8BBD4B1F74DDE8C6B4A61C2E2578BA08AE7A65EAF4566CA94ED58D6D37C8E779E4959162ACD3C25C2406490A3A32E0DB0B5EDE14B8EE4688902A22DC4F816073195D643D7EA7C41744975FEC130CCDD2F3FF1021DAB6BCF5389D928F40A351A89F3C507F02F94585334D43FBAAEFD0CF584C4A39BECB6A5BB1FC20ED00D153842FE329B3D63B52A05A6E1B1A2C830975B227EBE28012079A059618C323C7041531D871F1E5A534CCF73F362693FDB7C072A49CAFA2D4ADF04759FA7DC982CA76ABD7FE2B670130C56F6BF27B777C63

def aesSub (x : Byte) : Byte := BitVec.ofNat 8 (aesSbox / 2 ^ (8 * x.toNat))

/-- Multiplication by x in GF(2^8). -/
def aesX (x : Byte) : Byte := if x.msb then (x <<< 1) ^^^ 0x1B#8 else x <<< 1

def xorBytes (a b : List Byte) : List Byte := List.zipWith (· ^^^ ·) a b

/-- The next round key from a round key and its round constant. -/
def aesNextKey (k : List Byte) (rc : Byte) : List Byte :=
  let w := fun i => (k.drop (4 * i)).take 4
  let r := [aesSub (k.getD 13 0) ^^^ rc, aesSub (k.getD 14 0), aesSub (k.getD 15 0), aesSub (k.getD 12 0)]
  let w0 := xorBytes (w 0) r
  let w1 := xorBytes (w 1) w0
  let w2 := xorBytes (w 2) w1
  w0 ++ w1 ++ w2 ++ xorBytes (w 3) w2

/-- SubBytes and ShiftRows: byte r + 4c comes from r + 4 (c + r). -/
def aesShift (s : List Byte) : List Byte := (List.range 16).map (fun i => aesSub (s.getD ((i % 4 + 4 * (i / 4 + i % 4)) % 16) 0))

/-- MixColumns on one column. -/
def aesMixCol (a b c d : Byte) : List Byte :=
  [aesX a ^^^ (aesX b ^^^ b) ^^^ c ^^^ d, a ^^^ aesX b ^^^ (aesX c ^^^ c) ^^^ d, a ^^^ b ^^^ aesX c ^^^ (aesX d ^^^ d),
    (aesX a ^^^ a) ^^^ b ^^^ c ^^^ aesX d]

def aesMix (s : List Byte) : List Byte :=
  (List.range 4).flatMap (fun c => aesMixCol (s.getD (4 * c) 0) (s.getD (4 * c + 1) 0) (s.getD (4 * c + 2) 0) (s.getD (4 * c + 3) 0))

/-- The rounds 1 to 10: state and round key. -/
def aesRounds : List Byte → List Byte → List Byte → List Byte
  | [], _, s => s
  | [rc], k, s => xorBytes (aesShift s) (aesNextKey k rc)
  | rc :: r, k, s => let k' := aesNextKey k rc; aesRounds r k' (xorBytes (aesMix (aesShift s)) k')

/-- AES-128 of one block of 16 bytes. -/
def aes128 (key block : List Byte) : List Byte :=
  aesRounds [1, 2, 4, 8, 16, 32, 64, 128, 0x1B, 0x36] key (xorBytes block key)

/-- Doubling in GF(2^128), on 16 bytes. -/
def cmacDouble (l : List Byte) : List Byte :=
  let v := ofBytesBE l
  toBytesBE 16 (if v / 2 ^ 127 = 1 then (2 * v % 2 ^ 128) ^^^ 0x87 else 2 * v)

/-- AES-128-CMAC of a message of whole blocks. -/
def cmacBlocks (key : List Byte) : Nat → List Byte → List Byte → List Byte
  | 0, x, _ => x
  | 1, x, m => aes128 key (xorBytes (xorBytes x (m.take 16)) (cmacDouble (aes128 key (List.replicate 16 0))))
  | k + 2, x, m => cmacBlocks key (k + 1) (aes128 key (xorBytes x (m.take 16))) (m.drop 16)

/-- AES-128-CMAC of a message whose length is a positive multiple of 16 bytes. -/
def aesCmac (key m : List Byte) : List Byte := cmacBlocks key (m.length / 16) (List.replicate 16 0) m

/-! ### ECDSA over P-256 -/

/-- The field prime, the group order, the coefficient b and the base point of P-256. -/
def p256P : Nat := 2 ^ 256 - 2 ^ 224 + 2 ^ 192 + 2 ^ 96 - 1
def p256N : Nat := 0xFFFFFFFF00000000FFFFFFFFFFFFFFFFBCE6FAADA7179E84F3B9CAC2FC632551
def p256B : Nat := 0x5AC635D8AA3A93E7B3EBBD55769886BC651D06B0CC53B0F63BCE3C3E27D2604B
def p256G : Nat × Nat := (0x6B17D1F2E12C4247F8BCE6E563A440F277037D812DEB33A0F4A13945D898C296,
  0x4FE342E2FE1A7F9B8EE7EB4A7C0F9E162BCE33576B315ECECBB6406837BF51F5)

/-- `a` to the power `e` modulo `m`, `e` of `k` bits. -/
def powMod (m a e : Nat) : Nat → Nat
  | 0 => 1
  | k + 1 => let r := powMod m a (e / 2) k; if e % 2 = 1 then r * r * a % m else r * r % m

/-- Inverse modulo a prime of 256 bits. -/
def invMod (m a : Nat) : Nat := powMod m a (m - 2) 256

/-- `a - b` modulo the field prime. -/
def fpSub (a b : Nat) : Nat := (a + p256P - b % p256P) % p256P

/-- Sum of two points; `none` is the point at infinity. -/
def ecAdd : Option (Nat × Nat) → Option (Nat × Nat) → Option (Nat × Nat)
  | none, q => q
  | p, none => p
  | some (x1, y1), some (x2, y2) =>
    if x1 = x2 ∧ (y1 + y2) % p256P = 0 then none
    else
      let l := if x1 = x2 then (3 * x1 * x1 + p256P - 3) * invMod p256P (2 * y1 % p256P) % p256P
        else fpSub y2 y1 * invMod p256P (fpSub x2 x1) % p256P
      let x3 := fpSub (fpSub (l * l) x1) x2
      some (x3, fpSub (l * fpSub x1 x3) y1)

/-- `e` times a point, `e` of `k` bits. -/
def ecMul (p : Option (Nat × Nat)) (e : Nat) : Nat → Option (Nat × Nat)
  | 0 => none
  | k + 1 => let r := ecMul p (e / 2) k; let d := ecAdd r r; if e % 2 = 1 then ecAdd d p else d

/-- Whether a point lies on the curve. -/
def onCurve (x y : Nat) : Bool :=
  decide (x < p256P) && decide (y < p256P) && (y * y % p256P == (x * x * x + (p256P - 3) * x + p256B) % p256P)

/-- Whether (r, s) is a signature under the key (x, y) over the digest `z`. -/
def ecdsaVerify (x y r s z : Nat) : Bool :=
  onCurve x y && decide (0 < r) && decide (r < p256N) && decide (0 < s) && decide (s < p256N) &&
    (let w := invMod p256N s
     match ecAdd (ecMul (some p256G) (z * w % p256N) 256) (ecMul (some (x, y)) (r * w % p256N) 256) with
     | some (x1, _) => x1 % p256N == r
     | none => false)

end Sys2Proof.Machine
end

