-- ==== Sys2Proof/Machine/Auth.lean ====
section
/-!
DEFINITION. The key slots as they read (15_configuration_and_update, R442) and drive authorisation (14_networks_and_authorization, R431 to R435).
-/

namespace Sys2Proof.Machine
open Reg

/-! ### Key slots (R48, R442) -/

/-- State of key slot `k` as `CONFIG_KEY_STAT` codes it (R442). -/
def keyState (k : Nat) (s : State) : Nat :=
  if s.flag (keyRevoked k) then 15 else if s.flag (keyDamaged k) then 14 else s.get (keyType k)

/-- Key bytes of the working copy: 16 in state 1, else 32. -/
def keyBytes (k : Nat) (s : State) : List Byte :=
  let b := toBytesBE 32 (s.get (keyWork k))
  if s.get (keyType k) = 1 then b.take 16 else b

/-- Word `w` of the fingerprint of slot `k`: 0 of an empty slot (R48). -/
def keyPrint (k w : Nat) (s : State) : Nat :=
  if keyState k s = 0 then 0 else ofBytesBE (((sha256 (keyBytes k s)).drop (4 * w)).take 4)

/-- Keep the registers that show the slots: states and fingerprints. -/
def keyShow (s : State) : State :=
  let s := s.set CONFIG_KEY_STAT_STATE (((List.range 8).map (fun k => keyState k s * 16 ^ k)).sum)
  let s := s.each (List.range 8) (fun k s => s.each (List.range 8) (fun w s => s.set (CONFIG_KEY_FPk_w_FP k w) (keyPrint k w s)))
  s.each (List.range 8) (fun w s => s.set (AUTH_KEY_FPw_FP w) (s.get (CONFIG_KEY_FPk_w_FP (s.get AUTH_CFG_SLOT) w)))

/-- Load every working copy from the fuses (R442, R491 step 3). -/
def keyLoad (s : State) : State := keyShow (s.each (List.range 8) (fun k s => s.set (keyWork k) (s.get (keyFuse k))))

/-! ### The freshness record (R433) -/

/-- Address of copy `c`. -/
def freshAddr (c : Nat) : Nat := 0xE8020000 + c * 0x400

/-- Whether copy `c` is valid. -/
def freshValid (c : Nat) (s : State) : Bool :=
  let a := freshAddr c
  s.wordAt a == 0xA07B0000 && s.wordAt (a + 44) == crc32Words (s.wordsAt a 11) && s.wordAt (a + 48) == s.wordAt (a + 4)

/-- The newest valid copy. -/
def freshNewest (s : State) : Option Nat :=
  match freshValid 0 s, freshValid 1 s with
  | true, true => some (if s.wordAt (freshAddr 0 + 4) < s.wordAt (freshAddr 1 + 4) then 1 else 0)
  | true, false => some 0
  | false, true => some 1
  | false, false => none

/-- Whether both copies are erased. -/
def freshErased (s : State) : Bool := [0, 1].all (fun c => (s.wordsAt (freshAddr c) 13).all (fun w => w == 0xFFFFFFFF))

/-- The counter in force: 0 where the record was made under another key. -/
def freshLoad (s : State) : State :=
  match freshNewest s with
  | some c =>
    let same := (List.range 8).all (fun w => s.wordAt (freshAddr c + 12 + 4 * w) == s.get (AUTH_KEY_FPw_FP w))
    s.set AUTH_FRESH_CTR (if same then s.wordAt (freshAddr c + 8) else 0)
  | none => s.set AUTH_FRESH_CTR 0

/-- The boot's reading of the record: damaged copies raise cause 0x03. -/
def freshBoot (s : State) : State :=
  let s := freshLoad s
  if (freshNewest s).isNone && !freshErased s then raiseFault (yardCode 15 3) .ride (s.set authBad 1) else s.set authBad 0

/-- The record of counter `ctr`: every word up to the CRC, then the closing word `close`. -/
def freshWords (ctr sq close : Nat) (s : State) : List Nat :=
  let w := [0xA07B0000, sq, ctr] ++ (List.range 8).map (fun w => s.get (AUTH_KEY_FPw_FP w))
  w ++ [crc32Words w, close]

/-- The copy that is written next, and its sequence number. -/
def freshTarget (s : State) : Nat × Nat :=
  match freshNewest s with
  | some c => (1 - c, (s.wordAt (freshAddr c + 4) + 1) % 2 ^ 32)
  | none => (0, 1)

/-! ### The check (R431, R432) -/

/-- Byte-wise fields of the message under check. -/
def authW (w : Nat) (s : State) : Nat := s.get (authSnap w)
def authType (s : State) : Nat := bits (authW 0 s) 24 8
def authByte1 (s : State) : Nat := bits (authW 0 s) 16 8
def authFresh (s : State) : Nat := bits (authW 0 s) 0 16 * 2 ^ 16 + bits (authW 1 s) 16 16
def authBooking (s : State) : Nat := bits (authW 1 s) 0 16 * 2 ^ 16 + bits (authW 2 s) 16 16
def authValidity (s : State) : Nat := bits (authW 2 s) 0 16
def authVid (s : State) : Nat := authW 3 s

/-- Whether the tag is the upper half of the AES-128-CMAC of bytes 0 to 15 under the slot's key. -/
def authTagOk (s : State) : Bool :=
  let m := (List.range 4).flatMap (fun w => toBytesBE 4 (authW w s))
  (aesCmac (keyBytes (s.get AUTH_CFG_SLOT) s) m).take 8 == toBytesBE 4 (authW 4 s) ++ toBytesBE 4 (authW 5 s)

/-- The reason of the check, in the order of R432; 0 passed. -/
def authJudge (s : State) : Nat :=
  let t := authType s
  let b := authBooking s
  if s.flag AUTH_STAT_LOCKED then 9
  else if s.flag authBad then 7
  else if keyState (s.get AUTH_CFG_SLOT) s ≠ 1 then 6
  else if !authTagOk s then 1
  else if t = 0 ∨ 3 < t ∨ authByte1 s ≠ 0 then 4
  else if authVid s ≠ s.get AUTH_VID_VID then 3
  else if authFresh s ≤ s.get AUTH_FRESH_CTR then 2
  else if (t = 2 ∧ (b ≠ s.get AUTH_BOOKING_ID ∨ s.get AUTH_STAT_STATE = 0)) ∨ (t = 3 ∧ b ≠ 0 ∧ b ≠ s.get AUTH_BOOKING_ID) then 5
  else if t ≠ 3 ∧ authValidity s = 0 then 8
  else 0

def authCmd : CmdReg := ⟨AUTH_CMD_CODE, AUTH_CMD_STATUS⟩

/-- CHECK (R432): the six words are snapshot and judged; the command ends with `EV_AUTH_RESULT`. -/
def execCheck (s : State) : Out :=
  ok (s.cmdStart authCmd 1 true stBusy (fun s =>
    let s := s.each (List.range 6) (fun w s => s.set (authSnap w) (s.get (AUTH_MSGw_B w)))
    (s.set authReason (authJudge s)).set authAt s.now) id)

/-- Keep `AUTH_STAT.PENDING`: not valid and not inhibited (R435). -/
def authPending (s : State) : State := s.setB AUTH_STAT_PENDING (s.get AUTH_STAT_STATE != 1 && !s.flag AUTH_STAT_INHIBIT)

/-- The state becomes `LAPSED`; a lapse raises `EV_AUTH_LAPSE` (R434). -/
def authLapse (s : State) : State :=
  if s.get AUTH_STAT_STATE = 2 then s else raiseEvent 0x01D (authPending (s.set AUTH_STAT_STATE 2))

/-- An accepted message acts (R434, R435). -/
def authAccept (s : State) : State :=
  if authType s = 3 then authLapse (s.set AUTH_REMAIN_S 0)
  else
    let s := s.when (authType s == 1) (fun s => s.set AUTH_BOOKING_ID (authBooking s))
    let s := (s.set AUTH_REMAIN_S (authValidity s)).set authSecAt s.now
    authPending ((s.set AUTH_STAT_STATE 1).set AUTH_STAT_INHIBIT 0)

/-- A check that fails ends `REFUSED`; tag failures in a row lock the check (R432). -/
def authFail (r : Nat) (s : State) : State :=
  let s := (s.set AUTH_RES_REASON r).cmdEnd authCmd stRefused
  if r = 1 then
    let s := s.inc AUTH_RES_TAGFAIL
    s.when (decide (s.get AUTH_CFG_LOCK_N ≤ s.get AUTH_RES_TAGFAIL))
      (fun s => raiseFault (yardCode 15 1) .ride ((s.set AUTH_STAT_LOCKED 1).set authLockAt s.now))
  else s.when (r != 6 && r != 7 && r != 9) (fun s => s.set AUTH_RES_TAGFAIL 0)

/-- The freshness record of the message under check goes into the copy that is written next; its closing word only where `closed`. -/
def freshPut (closed : Bool) (s : State) : State :=
  let (c, q) := freshTarget s
  s.putWords (freshAddr c) (freshWords (authFresh s) q (if closed then q else 0xFFFFFFFF) s)

/-- The commit of a check that passed: the record with its closing word, then the state; the command ends with `st` (R433). -/
def authCommit (st : Nat) (s : State) : State :=
  let s := freshPut true s
  let s := ((s.set AUTH_FRESH_CTR (authFresh s)).set AUTH_RES_REASON 0).set AUTH_RES_TAGFAIL 0
  (authAccept s).cmdEnd authCmd st

/-- The end of a check; `good`, the freshness record's closing word is written. -/
def authResult (good : Bool) (s : State) : State :=
  let r := s.get authReason
  raiseEvent 0x01C (
    if r ≠ 0 then authFail r s
    else if good then authCommit stDone s
    else raiseFault (yardCode 15 2) .ride ((((freshPut false s).set AUTH_RES_TAGFAIL 0).set AUTH_RES_REASON 7).cmdEnd authCmd stFailed))

/-- EV_AUTH_RESULT (R432, R433). -/
def execEvAuthResult (good : Bool) (s : State) : Out := ok (s.when (s.busy authCmd) (authResult good))

/-- A check that has run for 20 µs ends, its record written; part of the tick (R432, log entry 95). -/
def authDue (s : State) : State := s.when (s.busy authCmd && decide (s.get authAt + 4000 ≤ s.now)) (authResult true)

/-- An abort of `CHECK` (R50, R433): in a check that passes it meets the closing word written or not, a free choice (log entry 64). -/
def authAbort (s : State) : State :=
  let late := s.get authReason == 0 && bitAt (Config.fresh s.freeCount).toNat 0
  (raiseEvent 0x01C (if late then authCommit stTooLate s else s.cmdEnd authCmd stAborted)).draw

/-- A reset that meets a check that passes finds the record untouched, written without its closing word, or closed, a free choice:
closed, the counter is consumed (R51, R433; log entry 64). -/
def authReset (s : State) : State :=
  s.when (s.busy authCmd && s.get authReason == 0) (fun s =>
    let v := (Config.fresh s.freeCount).toNat % 3
    (if v = 0 then s else freshPut (v == 1) s).draw)

/-- AUTH_LOCK_END (R432): 1 s after the lock. -/
def execAuthLockEnd (s : State) : Out :=
  ok (s.when (s.flag AUTH_STAT_LOCKED && decide (s.get authLockAt + 200000000 ≤ s.now))
    (fun s => (s.set AUTH_STAT_LOCKED 0).set AUTH_RES_TAGFAIL 0))

/-- Whether a whole second of validity has passed since the acceptance or since the second before it. -/
def secondOver (s : State) : Bool :=
  s.get AUTH_STAT_STATE == 1 && decide (0 < s.get AUTH_REMAIN_S) && decide (s.get authSecAt + 200000000 ≤ s.now)

/-- AUTH_SECOND (R434): one second of validity has passed. -/
def execAuthSecond (s : State) : Out :=
  ok (s.when (secondOver s) (fun s => (s.set AUTH_REMAIN_S (s.get AUTH_REMAIN_S - 1)).set authSecAt (s.get authSecAt + 200000000)))

/-- EV_AUTH_LAPSE (R434): `AUTH_REMAIN` is 0. -/
def execEvAuthLapse (s : State) : Out := ok (s.when (s.get AUTH_STAT_STATE == 1 && s.get AUTH_REMAIN_S == 0) authLapse)

/-! ### The inhibit (R435) -/

/-- Stalls subject to the inhibit. -/
def authStalls (s : State) : List Nat := [0, 1, 2, 3].filter (fun n => bitAt (s.get AUTH_CFG_MASK) n)

/-- Whether every masked Stall reads still with a known speed. -/
def authStill (s : State) : Bool :=
  (authStalls s).all (fun n => s.flag (POS_SPD_STAT_STILL n) && s.flag (POS_SPD_STAT_VALID n) && s.get (POS_STAT_SRC n) != 2)

/-- Keep the start of the present standstill; part of the tick. -/
def authTick (s : State) : State :=
  if authStill s then s.when (s.get authStillAt == 0) (fun s => s.set authStillAt (s.now + 1)) else s.set authStillAt 0

/-- Whether the inhibit engages now: standstill, and nothing switching or the hold elapsed. -/
def authEngages (s : State) : Bool :=
  s.get AUTH_STAT_STATE != 1 && !s.flag AUTH_STAT_INHIBIT && authStill s &&
    ((authStalls s).all (fun n => s.get (PWM_STAT_STATE n) != 1 && s.get (PWM_STAT_STATE n) != 2) ||
      (s.get authStillAt != 0 && decide (s.get authStillAt - 1 + s.get AUTH_CFG_HOLD * 200000000 ≤ s.now)))

/-- A check whose acceptance releases the inhibit ends in this same instant: its end waits in the queue (R435). -/
def acceptWaits (s : State) : Bool :=
  s.busy authCmd && s.get authReason == 0 && authType s != 3 && s.pending.any (fun i => i == .evAuthResult true)

/-- EV_AUTH_INHIBIT (R435). -/
def execEvAuthInhibit (s : State) : Out :=
  ok (s.when (authEngages s && !acceptWaits s) (fun s => raiseEvent 0x01E (authPending (s.set AUTH_STAT_INHIBIT 1))))

end Sys2Proof.Machine
end

