-- ==== Sys2Proof/Machine/RegTable.lean ====
section
/-!
DEFINITION. The register tables as data, for the register bus: one row a register (or array of registers), by its offset in its block, with
its fields: lowest bit, width, reset value, access, writers (bit 0 Y, 1 S, 2 I; 8: only the processor the register belongs to), the range of
R528 and the condition of R526. Fields that the spec loads from the image although no processor writes them have access `img`.
-/

namespace Sys2Proof.Machine

/-- Access codes (R2); `cmd`: the code byte of a command register; `img`: read-only and loaded from the image (R440). -/
inductive Acc where
  | ro | rw | w1c | w1s | cmd | img
  deriving DecidableEq, Repr

/-- Conditions under which a field accepts a write (R526). -/
inductive Cond where
  /-- always -/
  | none
  /-- loop engines stopped (R78) -/
  | loopStop
  /-- not 0 while the loop engines run -/
  | senEn
  /-- `MOD_CTRL.EN` 0 (R82) -/
  | modOff
  /-- `MON_Mm_CFG.EN` 0 (R123) -/
  | monOff
  /-- not 0 on a protection monitor while the Stall is switching (R123) -/
  | monEn
  /-- `POS_CTRL.EN` 0 (R130) -/
  | posOff
  /-- not 0 while the loop engines run (R130) -/
  | posEn
  /-- not the active bank, nor the target of a waiting `PSET` (R186) -/
  | bank
  /-- loop engines stopped (R213) -/
  | cmp
  /-- loop engines stopped or `DTA_EN` 0 (R213) -/
  | dt
  /-- not a follower's (R223) -/
  | lead
  /-- Stall not switching (R224, R239) -/
  | pwmStop
  /-- not 0 while a locked Stall is switching (R218) -/
  | refEn
  /-- no link training, Stall not switching (R272) -/
  | reinIdle
  /-- `CAN_CTRL.EN` 0 (R414) -/
  | canOff
  /-- no check running (R432) -/
  | msg
  /-- no bit cleared while a Stall is switching (R478) -/
  | vsens
  deriving DecidableEq, Repr

/-- Rules of R528 that bind several fields of one register. -/
inductive Chk where
  | none | act | rank | monThr | monCfg | monFilt | lantern | asc10 | asc8 | asc8hi | samp | pwmOfs | trip | reinInit | derate | slave | pow2
  | align (k : Nat) | syncLog | modin | swOvr | arm | posEn
  deriving DecidableEq, Repr

/-- One field of a register table row. -/
structure RField where
  lsb  : Nat
  w    : Nat
  rst  : Nat
  acc  : Acc
  wr   : Nat
  lo   : Nat
  hi   : Nat
  cond : Cond
  deriving DecidableEq, Repr

/-- A read-only field. -/
def RField.ro (lsb w rst : Nat) : RField := ⟨lsb, w, rst, .ro, 0, 0, 0, .none⟩

/-- A field of access `acc` whose every value is in range. -/
def RField.mk' (lsb w rst : Nat) (acc : Acc) (wr : Nat) (cond : Cond) : RField := ⟨lsb, w, rst, acc, wr, 0, 2 ^ w - 1, cond⟩

/-- A field with a range. -/
def RField.lim (lsb w rst : Nat) (acc : Acc) (wr lo hi : Nat) (cond : Cond) : RField := ⟨lsb, w, rst, acc, wr, lo, hi, cond⟩

/-- One row of a register table: the offset in its block, the strides and counts of its indices, its fields. -/
structure RRow where
  off : Nat
  idx : List (Nat × Nat)
  chk : Chk
  fs  : List RField
  deriving DecidableEq, Repr

/-- Registers of the SYS block. -/
def rowsSys : List RRow := [
  ⟨0xA000, [(0x4, 320)], .none, [.mk' 22 1 0 .rw 4 .none, .mk' 16 6 0 .rw 4 .none, .mk' 13 1 0 .img 0 .none, .mk' 8 5 0 .img 0 .none, .mk' 6 1 0 .rw 1 .none, .mk' 0 6 0 .rw 1 .none]⟩,
  ⟨0xA800, [], .none, [.mk' 0 32 0 .w1c 1 .none]⟩,
  ⟨0xA804, [], .none, [.mk' 0 32 0 .w1c 1 .none]⟩,
  ⟨0xA808, [], .none, [.mk' 0 32 0 .w1c 2 .none]⟩,
  ⟨0xA80C, [], .none, [.mk' 0 32 0 .w1c 4 .none]⟩,
  ⟨0xA810, [], .none, [.mk' 0 32 0 .w1c 4 .none]⟩,
  ⟨0xA820, [], .none, [.ro 0 32 0]⟩,
  ⟨0xA824, [], .none, [.ro 0 8 0]⟩,
  ⟨0xA828, [], .none, [.mk' 3 1 0 .w1c 5 .none, .ro 2 1 0, .ro 0 2 0]⟩,
  ⟨0xA82C, [], .none, [.ro 0 16 0]⟩,
  ⟨0x8000, [], .none, [.ro 16 16 0x4860, .ro 12 4 0]⟩,
  ⟨0x8004, [], .none, [.mk' 0 8 0 .cmd 5 .none, .ro 8 3 0]⟩,
  ⟨0x8008, [], .none, [.ro 8 1 0, .ro 4 2 0, .ro 0 4 0]⟩,
  ⟨0x800C, [], .none, [.ro 16 16 0, .ro 0 2 0]⟩,
  ⟨0x8010, [], .none, [.ro 0 32 0]⟩,
  ⟨0x8014, [], .none, [.ro 0 32 0]⟩,
  ⟨0x8018, [], .none, [.ro 0 4 1]⟩,
  ⟨0x801C, [], .none, [.ro 0 32 0]⟩,
  ⟨0x8020, [], .none, [.ro 7 1 0, .ro 6 1 1, .ro 4 1 0, .ro 0 4 0]⟩,
  ⟨0x8024, [], .none, [.ro 0 2 0]⟩]

/-- Registers of the TIMEBASE block. -/
def rowsTimebase : List RRow := [
  ⟨0x8000, [], .none, [.ro 0 32 0]⟩,
  ⟨0x8004, [], .none, [.ro 0 32 0]⟩,
  ⟨0x8010, [], .none, [.ro 7 5 0, .mk' 6 1 0 .w1c 1 .none, .ro 5 1 0, .ro 4 1 0, .ro 3 1 1, .ro 2 1 0, .ro 1 1 0]⟩,
  ⟨0x8020, [], .none, [.mk' 2 16 0 .rw 1 .none, .lim 0 2 0 .rw 1 0 2 .none]⟩,
  ⟨0x8028, [], .none, [.mk' 0 32 0 .rw 1 .none]⟩,
  ⟨0x802C, [], .none, [.mk' 0 16 0 .rw 1 .none]⟩,
  ⟨0x8030, [], .none, [.mk' 0 8 0 .cmd 1 .none, .ro 8 3 0]⟩,
  ⟨0x8034, [], .none, [.ro 0 32 0]⟩,
  ⟨0x8038, [], .none, [.ro 0 32 0]⟩,
  ⟨0x8040, [(0x4, 5)], .none, [.ro 0 8 0]⟩]

/-- Registers of the LOOP block, part 1. -/
def rowsLoop0 : List RRow := [
  ⟨0x9000, [], .none, [.ro 0 24 0]⟩,
  ⟨0x9004, [], .none, [.mk' 0 24 0x7FFFFF .rw 5 .none]⟩,
  ⟨0x9008, [], .none, [.ro 0 32 0]⟩,
  ⟨0x900C, [], .none, [.ro 0 32 0]⟩,
  ⟨0x9010, [], .none, [.mk' 0 24 20 .rw 1 .none]⟩,
  ⟨0x9014, [], .none, [.ro 0 32 0]⟩,
  ⟨0x9018, [], .none, [.mk' 0 4 3 .rw 1 .none]⟩,
  ⟨0x901C, [], .none, [.ro 0 5 0]⟩,
  ⟨0x0, [], .none, [.mk' 0 32 0 .rw 1 .none]⟩,
  ⟨0x8000, [], .act, [.ro 0 32 0]⟩,
  ⟨0x4, [], .none, [.mk' 0 32 0 .rw 1 .none]⟩,
  ⟨0x8004, [], .act, [.ro 0 32 0]⟩,
  ⟨0x8, [], .none, [.mk' 0 32 0 .rw 1 .none]⟩,
  ⟨0x8008, [], .act, [.ro 0 32 0]⟩,
  ⟨0xC, [], .none, [.mk' 0 32 0 .rw 1 .none]⟩,
  ⟨0x800C, [], .act, [.ro 0 32 0]⟩,
  ⟨0x8100, [], .none, [.mk' 0 8 0 .cmd 1 .none, .ro 8 3 0]⟩,
  ⟨0x8104, [], .none, [.ro 11 1 0, .ro 10 1 0, .ro 9 1 0, .ro 8 1 0, .ro 7 1 0, .ro 6 1 1, .ro 5 1 1, .ro 4 1 0, .ro 3 1 0, .ro 0 3 0]⟩,
  ⟨0x810C, [], .none, [.mk' 1 1 0 .img 0 .none, .mk' 0 1 0 .img 0 .none]⟩,
  ⟨0x8110, [], .none, [.ro 0 32 0]⟩,
  ⟨0x8114, [], .none, [.ro 0 32 0]⟩,
  ⟨0x8118, [], .none, [.ro 0 32 0]⟩,
  ⟨0x811C, [], .none, [.ro 0 32 0]⟩,
  ⟨0x8120, [], .none, [.ro 0 32 0]⟩,
  ⟨0x8124, [], .none, [.ro 0 32 0]⟩,
  ⟨0x8128, [], .none, [.ro 0 32 0]⟩,
  ⟨0x812C, [], .none, [.ro 0 32 0]⟩,
  ⟨0x8130, [], .none, [.ro 16 16 0, .ro 0 16 0]⟩,
  ⟨0x8140, [], .none, [.ro 16 16 0, .ro 0 16 0]⟩,
  ⟨0x8144, [], .none, [.ro 0 4 0]⟩,
  ⟨0x8148, [], .none, [.ro 16 16 0, .ro 0 16 0]⟩,
  ⟨0x814C, [], .none, [.ro 16 16 0, .ro 0 16 0]⟩,
  ⟨0x8150, [], .none, [.lim 16 16 0x1000 .rw 1 0x100 0xFFFF .none, .lim 8 8 4 .rw 1 1 255 .none, .ro 0 8 0]⟩,
  ⟨0x8160, [(0x4, 3)], .none, [.ro 0 32 0]⟩,
  ⟨0x8170, [(0x4, 3)], .none, [.ro 0 16 0]⟩,
  ⟨0xA000, [(0x800, 2)], .none, [.mk' 0 32 0x3F800000 .rw 1 .bank]⟩,
  ⟨0xA004, [(0x800, 2)], .none, [.mk' 0 32 0x3F800000 .rw 1 .bank]⟩,
  ⟨0xA008, [(0x800, 2)], .none, [.mk' 0 32 0 .rw 1 .bank]⟩,
  ⟨0xA00C, [(0x800, 2)], .none, [.mk' 0 32 0 .rw 1 .bank]⟩,
  ⟨0xA010, [(0x800, 2)], .none, [.mk' 0 32 0 .rw 1 .bank]⟩,
  ⟨0xA014, [(0x800, 2)], .none, [.mk' 0 32 0x3F800000 .rw 1 .bank]⟩,
  ⟨0xA018, [(0x800, 2)], .none, [.mk' 0 32 0x3F800000 .rw 1 .bank]⟩,
  ⟨0xA01C, [(0x800, 2)], .none, [.mk' 0 32 0 .rw 1 .bank]⟩,
  ⟨0xA020, [(0x800, 2)], .none, [.mk' 0 32 0x3F800000 .rw 1 .bank]⟩,
  ⟨0xA024, [(0x800, 2)], .none, [.mk' 0 32 0x41200000 .rw 1 .bank]⟩,
  ⟨0xA028, [(0x800, 2)], .none, [.mk' 0 32 0 .rw 1 .bank]⟩,
  ⟨0xA02C, [(0x800, 2)], .none, [.mk' 0 32 0 .rw 1 .bank]⟩,
  ⟨0xA030, [(0x800, 2)], .none, [.mk' 0 32 0 .rw 1 .bank]⟩,
  ⟨0xA034, [(0x800, 2)], .none, [.mk' 0 32 0 .rw 1 .bank]⟩,
  ⟨0xA038, [(0x800, 2)], .none, [.mk' 0 32 0 .rw 1 .bank]⟩,
  ⟨0xA03C, [(0x800, 2)], .none, [.mk' 0 32 0 .rw 1 .bank]⟩,
  ⟨0xA040, [(0x800, 2)], .none, [.mk' 0 32 0 .rw 1 .bank]⟩,
  ⟨0xA044, [(0x800, 2)], .none, [.mk' 0 32 0x3F800000 .rw 1 .bank]⟩,
  ⟨0xA048, [(0x800, 2)], .none, [.mk' 0 32 0x3F800000 .rw 1 .bank]⟩,
  ⟨0xA04C, [(0x800, 2)], .none, [.mk' 0 32 0 .rw 1 .bank]⟩,
  ⟨0xA050, [(0x800, 2)], .none, [.mk' 0 32 0 .rw 1 .bank]⟩,
  ⟨0xA080, [(0x800, 2)], .none, [.mk' 16 16 0 .rw 1 .bank, .mk' 8 4 4 .rw 1 .bank, .mk' 6 1 0 .rw 1 .bank, .mk' 5 1 0 .rw 1 .bank, .mk' 4 1 0 .rw 1 .bank, .mk' 3 1 0 .rw 1 .bank, .mk' 0 3 0 .rw 1 .bank]⟩,
  ⟨0xA400, [(0x800, 2), (0x8, 64)], .none, [.mk' 0 32 0 .rw 1 .bank]⟩,
  ⟨0xA404, [(0x800, 2), (0x8, 64)], .none, [.mk' 0 32 0 .rw 1 .bank]⟩,
  ⟨0xA600, [(0x800, 2), (0x8, 64)], .none, [.mk' 0 32 0 .rw 1 .bank]⟩]

/-- Registers of the LOOP block, part 2. -/
def rowsLoop1 : List RRow := [
  ⟨0xA604, [(0x800, 2), (0x8, 64)], .none, [.mk' 0 32 0 .rw 1 .bank]⟩]

/-- Registers of the SENSE block. -/
def rowsSense : List RRow := [
  ⟨0x0, [], .none, [.mk' 0 4 0 .rw 1 .loopStop]⟩,
  ⟨0x4, [], .none, [.mk' 0 4 1 .rw 1 .loopStop]⟩,
  ⟨0x8, [], .none, [.mk' 0 4 2 .rw 1 .loopStop]⟩,
  ⟨0xC, [], .none, [.mk' 0 4 3 .rw 1 .loopStop]⟩,
  ⟨0x8000, [], .act, [.ro 0 4 0]⟩,
  ⟨0x8004, [], .act, [.ro 0 4 1]⟩,
  ⟨0x8008, [], .act, [.ro 0 4 2]⟩,
  ⟨0x800C, [], .act, [.ro 0 4 3]⟩,
  ⟨0x8100, [], .none, [.mk' 3 1 0 .rw 1 .none, .mk' 2 1 1 .rw 1 .none, .mk' 1 1 0 .rw 1 .none, .mk' 0 1 0 .rw 1 .senEn]⟩,
  ⟨0x8110, [(0x4, 4)], .none, [.ro 20 2 0, .mk' 16 2 0 .rw 1 .loopStop, .mk' 0 16 0 .rw 1 .loopStop]⟩,
  ⟨0x8120, [(0x4, 4)], .none, [.ro 0 24 0x400000]⟩,
  ⟨0x8130, [(0x4, 4)], .none, [.ro 0 24 0]⟩,
  ⟨0x8140, [(0x4, 4)], .none, [.ro 20 1 0, .ro 16 4 0, .ro 0 16 0]⟩,
  ⟨0x8150, [(0x4, 4)], .none, [.ro 8 8 0, .ro 3 1 0, .ro 2 1 0, .ro 1 1 0, .ro 0 1 0]⟩,
  ⟨0x8200, [(0x4, 16)], .none, [.ro 0 24 0x400000]⟩,
  ⟨0x8240, [(0x4, 16)], .none, [.ro 0 24 0]⟩,
  ⟨0x8280, [(0x4, 16)], .none, [.mk' 0 32 0x3F800000 .rw 1 .none]⟩,
  ⟨0x82C0, [(0x4, 16)], .none, [.ro 0 24 0]⟩,
  ⟨0x8300, [], .modin, [.ro 15 1 0, .ro 14 1 0, .ro 12 2 0, .mk' 8 4 0 .rw 1 .none, .mk' 4 3 7 .rw 1 .none, .mk' 0 4 0 .rw 1 .none]⟩,
  ⟨0x8304, [], .modin, [.ro 15 1 0, .ro 14 1 0, .ro 12 2 0, .mk' 8 4 0 .rw 1 .none, .mk' 4 3 7 .rw 1 .none, .mk' 0 4 0 .rw 1 .none]⟩,
  ⟨0x8308, [], .modin, [.ro 15 1 0, .ro 14 1 0, .ro 12 2 0, .mk' 8 4 0 .rw 1 .none, .mk' 7 1 0 .rw 1 .none, .mk' 4 3 7 .rw 1 .none, .mk' 0 4 0 .rw 1 .none]⟩,
  ⟨0x830C, [], .modin, [.ro 15 1 0, .ro 14 1 0, .ro 12 2 0, .mk' 8 4 0 .rw 1 .none, .mk' 4 3 7 .rw 1 .none, .mk' 0 4 0 .rw 1 .none]⟩,
  ⟨0x8310, [], .modin, [.ro 15 1 0, .ro 14 1 0, .ro 12 2 0, .mk' 8 4 0 .rw 1 .none, .mk' 4 3 7 .rw 1 .none, .mk' 0 4 0 .rw 1 .none]⟩,
  ⟨0x8314, [], .modin, [.ro 15 1 0, .ro 14 1 0, .ro 12 2 0, .mk' 8 4 0 .rw 1 .none, .mk' 4 3 7 .rw 1 .none, .mk' 0 4 0 .rw 1 .none]⟩,
  ⟨0x8318, [], .modin, [.ro 15 1 0, .ro 14 1 0, .ro 12 2 0, .mk' 8 4 0 .rw 1 .none, .mk' 4 3 7 .rw 1 .none, .mk' 0 4 0 .rw 1 .none]⟩,
  ⟨0x831C, [], .modin, [.ro 15 1 0, .ro 14 1 0, .ro 12 2 0, .mk' 8 4 0 .rw 1 .none, .mk' 4 3 7 .rw 1 .none, .mk' 0 4 0 .rw 1 .none]⟩,
  ⟨0x8320, [(0x4, 8)], .none, [.mk' 0 32 0 .rw 1 .none]⟩,
  ⟨0x8340, [(0x4, 8)], .none, [.mk' 0 32 0 .rw 1 .none]⟩,
  ⟨0x8360, [(0x4, 8)], .none, [.ro 16 16 0, .ro 0 4 0]⟩,
  ⟨0x8380, [], .none, [.mk' 16 4 3 .rw 1 .none, .mk' 0 16 64 .rw 1 .none]⟩,
  ⟨0x8384, [], .none, [.mk' 0 4 0 .w1c 1 .none]⟩,
  ⟨0x8390, [], .none, [.mk' 0 8 0 .cmd 5 .none, .ro 8 3 0]⟩,
  ⟨0x8394, [], .none, [.lim 24 4 10 .rw 5 4 12 .none, .mk' 16 6 0 .rw 5 .none, .mk' 0 16 0 .rw 5 .none]⟩,
  ⟨0x8398, [], .none, [.mk' 0 2 0 .rw 5 .none]⟩,
  ⟨0x839C, [], .none, [.ro 16 1 0, .ro 8 8 0, .ro 0 3 0]⟩,
  ⟨0x8400, [(0x4, 22)], .none, [.mk' 0 32 0 .rw 5 .none]⟩]

/-- Registers of the MOD block. -/
def rowsMod : List RRow := [
  ⟨0x8000, [], .none, [.mk' 16 6 0 .rw 1 .none, .lim 8 5 10 .rw 1 8 20 .modOff, .mk' 0 1 0 .rw 1 .senEn]⟩,
  ⟨0x8004, [], .none, [.mk' 6 4 0 .rw 1 .modOff, .mk' 0 6 0 .rw 1 .modOff]⟩,
  ⟨0x8010, [(0x4, 6)], .none, [.lim 16 10 64 .rw 1 32 0x3FF .modOff, .lim 9 6 16 .rw 1 8 32 .modOff, .lim 0 9 64 .rw 1 32 0x100 .modOff]⟩,
  ⟨0x8030, [(0x4, 6)], .none, [.ro 0 24 0x400000]⟩,
  ⟨0x8050, [(0x4, 6)], .none, [.ro 0 24 0]⟩,
  ⟨0x8070, [(0x4, 6)], .none, [.mk' 0 32 0x3F800000 .rw 1 .none]⟩,
  ⟨0x8090, [(0x4, 6)], .none, [.ro 16 1 0, .ro 0 16 0]⟩,
  ⟨0x80B0, [(0x4, 6)], .none, [.ro 16 1 0, .ro 0 16 0]⟩,
  ⟨0x80D0, [(0x4, 6)], .none, [.ro 0 24 0]⟩,
  ⟨0x80F0, [], .none, [.mk' 16 6 0 .w1c 1 .none, .mk' 8 6 0 .w1c 1 .none, .ro 0 6 0]⟩]

/-- Registers of the MON block. -/
def rowsMon : List RRow := [
  ⟨0x0, [(0x4, 12)], .monThr, [.mk' 16 12 0xFFF .rw 1 .none, .mk' 0 12 0 .rw 1 .none]⟩,
  ⟨0x8000, [(0x4, 12)], .act, [.ro 16 12 0xFFF, .ro 0 12 0]⟩,
  ⟨0x8100, [(0x4, 12)], .monCfg, [.lim 16 12 5 .rw 1 5 0xFFF .monOff, .mk' 8 8 0 .rw 1 .monOff, .mk' 4 4 0 .rw 1 .monOff, .mk' 3 1 0 .rw 1 .monOff, .mk' 1 1 0 .img 0 .none, .mk' 0 1 0 .rw 1 .monEn]⟩,
  ⟨0x8130, [(0x4, 12)], .monFilt, [.lim 16 2 0 .rw 1 0 2 .monOff, .lim 8 5 1 .rw 1 1 16 .monOff, .mk' 0 5 1 .rw 1 .monOff]⟩,
  ⟨0x8160, [(0x4, 12)], .none, [.mk' 28 1 0 .img 0 .none, .mk' 16 12 0xFFF .img 0 .none, .mk' 12 2 0 .img 0 .none, .mk' 0 12 0 .img 0 .none]⟩,
  ⟨0x8190, [(0x4, 12)], .none, [.mk' 8 1 0 .img 0 .none, .mk' 0 4 0 .rw 1 .monOff]⟩,
  ⟨0x81C0, [(0x4, 12)], .none, [.ro 16 16 0, .ro 10 1 0, .ro 9 1 0, .mk' 8 1 0 .w1c 1 .none, .mk' 7 1 0 .w1c 1 .none, .ro 6 1 0, .mk' 5 1 0 .w1c 1 .none, .mk' 4 1 0 .w1c 1 .none, .mk' 3 1 0 .w1c 1 .none, .ro 2 1 0, .ro 0 2 0]⟩,
  ⟨0x8200, [], .lantern, [.lim 2 4 0 .rw 1 0 11 .none, .mk' 0 1 0 .rw 1 .none]⟩,
  ⟨0x8220, [(0x4, 12)], .none, [.ro 0 16 0]⟩]

/-- Registers of the POS block, part 1. -/
def rowsPos0 : List RRow := [
  ⟨0x8000, [], .posEn, [.mk' 10 1 0 .rw 1 .none, .mk' 9 1 0 .rw 1 .none, .mk' 8 1 0 .img 0 .none, .mk' 6 1 0 .rw 1 .posOff, .mk' 5 1 0 .rw 1 .posOff, .mk' 4 1 0 .rw 1 .posOff, .lim 1 3 0 .rw 1 0 4 .posOff, .mk' 0 1 0 .rw 1 .posEn]⟩,
  ⟨0x8004, [], .none, [.lim 0 6 1 .rw 1 1 32 .posOff]⟩,
  ⟨0x8008, [], .none, [.mk' 0 16 0 .rw 1 .none]⟩,
  ⟨0x800C, [], .none, [.ro 6 1 0, .mk' 5 1 0 .w1c 1 .none, .mk' 4 1 0 .w1c 1 .none, .ro 3 1 0, .ro 2 1 0, .ro 0 2 0]⟩,
  ⟨0x8010, [], .none, [.ro 16 2 0, .ro 0 16 0]⟩,
  ⟨0x8014, [], .none, [.ro 0 16 0]⟩,
  ⟨0x8018, [], .none, [.ro 0 32 0]⟩,
  ⟨0x8020, [], .none, [.ro 3 2 0, .ro 2 1 0, .ro 1 1 1, .ro 0 1 1]⟩,
  ⟨0x8024, [], .none, [.lim 16 16 0x1F4 .rw 1 1 0xFFFF .posOff, .lim 4 12 200 .rw 1 10 0xFA0 .posOff, .lim 0 4 4 .rw 1 2 15 .posOff]⟩,
  ⟨0x8028, [], .none, [.mk' 0 32 0x41200000 .rw 1 .posOff]⟩,
  ⟨0x8030, [], .none, [.mk' 0 32 0 .rw 1 .none]⟩,
  ⟨0x8034, [], .none, [.mk' 0 16 0 .rw 1 .none]⟩,
  ⟨0x8038, [], .none, [.mk' 0 32 0 .rw 1 .none]⟩,
  ⟨0x803C, [], .none, [.mk' 0 16 0x8000 .rw 1 .none]⟩,
  ⟨0x8040, [], .none, [.mk' 0 32 0xFFFFFFFF .rw 1 .none]⟩,
  ⟨0x8044, [], .none, [.mk' 0 16 0x7FFF .rw 1 .none]⟩,
  ⟨0x8048, [], .none, [.mk' 2 1 0 .w1c 1 .none, .ro 1 1 0, .ro 0 1 0]⟩,
  ⟨0x8050, [], .none, [.lim 16 5 0 .rw 1 0 20 .posOff, .lim 0 16 0x4E20 .rw 1 0x2710 0x9C40 .posOff]⟩,
  ⟨0x8054, [], .none, [.mk' 16 1 0 .rw 1 .posOff, .mk' 0 16 0 .rw 1 .posOff]⟩,
  ⟨0x8058, [], .none, [.ro 0 16 0]⟩,
  ⟨0x805C, [], .none, [.lim 12 4 4 .rw 1 1 15 .posOff, .lim 0 12 0x1F4 .rw 1 50 0x7D0 .posOff]⟩,
  ⟨0x8060, [], .none, [.mk' 16 16 0xFFFF .rw 1 .posOff, .mk' 0 16 0 .rw 1 .posOff]⟩,
  ⟨0x8064, [], .none, [.ro 0 16 0]⟩,
  ⟨0x8068, [], .none, [.mk' 3 1 0 .w1c 1 .none, .mk' 2 1 0 .w1c 1 .none, .mk' 1 1 0 .w1c 1 .none, .ro 0 1 0]⟩,
  ⟨0x8070, [], .none, [.mk' 24 1 0 .rw 1 .posOff, .mk' 23 1 0 .rw 1 .posOff, .mk' 20 3 2 .rw 1 .posOff, .lim 0 20 0x1000 .rw 1 16 0xFFFFF .posOff]⟩,
  ⟨0x8074, [], .none, [.mk' 0 16 0 .rw 1 .none]⟩,
  ⟨0x8078, [], .none, [.mk' 0 20 0 .rw 1 .posOff]⟩,
  ⟨0x807C, [], .none, [.ro 0 20 0]⟩,
  ⟨0x8080, [], .none, [.ro 0 32 0]⟩,
  ⟨0x8084, [], .none, [.ro 16 16 0, .ro 0 16 0]⟩,
  ⟨0x8088, [], .none, [.lim 16 10 8 .rw 1 1 0x3FF .posOff, .ro 0 16 0]⟩,
  ⟨0x8090, [], .none, [.lim 24 8 10 .rw 1 1 255 .posOff, .mk' 16 8 10 .rw 1 .posOff, .mk' 0 16 0 .rw 1 .none]⟩,
  ⟨0x8094, [], .none, [.ro 16 16 0, .ro 8 8 0, .ro 3 1 0, .ro 0 3 0]⟩,
  ⟨0x80A0, [], .none, [.mk' 22 1 0 .rw 1 .posOff, .mk' 21 1 0 .rw 1 .posOff, .mk' 20 1 0 .rw 1 .posOff, .lim 14 6 16 .rw 1 8 63 .posOff, .lim 8 6 25 .rw 1 8 32 .posOff, .lim 0 8 20 .rw 1 10 255 .posOff]⟩,
  ⟨0x80A4, [], .none, [.mk' 20 12 0x100 .rw 1 .posOff, .lim 16 4 3 .rw 1 1 15 .posOff, .mk' 8 8 0 .rw 1 .posOff, .lim 0 8 20 .rw 1 1 255 .posOff]⟩,
  ⟨0x80A8, [], .none, [.ro 0 32 0]⟩,
  ⟨0x80AC, [], .none, [.ro 16 16 0, .ro 0 16 0]⟩,
  ⟨0x80B0, [], .none, [.lim 20 4 3 .rw 1 1 15 .posOff, .mk' 4 16 0xE39 .rw 1 .posOff, .lim 0 2 0 .rw 1 0 2 .posOff]⟩,
  ⟨0x80B4, [], .none, [.mk' 16 1 0 .w1c 1 .none, .ro 0 16 0]⟩,
  ⟨0x80C0, [], .none, [.mk' 0 32 0 .rw 1 .none]⟩,
  ⟨0x80C4, [], .none, [.mk' 0 32 0 .rw 1 .none]⟩,
  ⟨0x80C8, [], .none, [.mk' 0 32 0x7F800000 .rw 1 .posOff]⟩,
  ⟨0x80CC, [], .none, [.mk' 0 32 0 .rw 1 .posOff]⟩,
  ⟨0x80D0, [], .none, [.mk' 22 1 0 .rw 1 .posOff, .lim 18 4 8 .rw 1 1 15 .posOff, .lim 12 6 20 .rw 1 0 50 .posOff, .lim 0 12 100 .rw 1 10 0x7D0 .posOff]⟩,
  ⟨0x80D4, [], .none, [.mk' 0 16 0x1555 .rw 1 .none]⟩,
  ⟨0x80D8, [], .none, [.ro 16 1 0, .ro 0 16 0]⟩,
  ⟨0x80DC, [], .none, [.ro 0 16 0]⟩,
  ⟨0x80E0, [], .none, [.ro 0 32 0]⟩,
  ⟨0x80F0, [], .none, [.mk' 2 8 4 .rw 1 .posOff, .lim 0 2 0 .rw 1 0 2 .posOff]⟩,
  ⟨0x80F4, [], .none, [.ro 16 16 0, .mk' 0 1 0 .w1c 5 .none]⟩,
  ⟨0x80F8, [], .none, [.ro 0 32 0]⟩,
  ⟨0x80FC, [], .none, [.ro 0 32 0]⟩,
  ⟨0x8100, [], .none, [.ro 24 8 0, .ro 0 16 0]⟩,
  ⟨0x8104, [], .none, [.ro 0 32 0]⟩,
  ⟨0x8108, [], .none, [.ro 0 16 0]⟩,
  ⟨0x8200, [], .none, [.mk' 14 1 0 .rw 1 .posOff, .mk' 13 1 0 .rw 1 .posOff, .mk' 12 1 1 .rw 1 .posOff, .lim 9 3 6 .rw 1 1 6 .posOff]⟩,
  ⟨0x8204, [], .none, [.lim 0 10 30 .rw 1 30 0x384 .posOff]⟩,
  ⟨0x8208, [], .none, [.mk' 0 16 0x7D0 .rw 1 .none]⟩,
  ⟨0x820C, [], .none, [.ro 24 4 0, .ro 0 24 0]⟩,
  ⟨0x8210, [], .none, [.ro 0 32 0]⟩]

/-- Registers of the POS block, part 2. -/
def rowsPos1 : List RRow := [
  ⟨0x8214, [], .none, [.ro 0 32 0]⟩,
  ⟨0x8218, [], .none, [.ro 24 1 0, .ro 16 8 0, .ro 0 16 0]⟩,
  ⟨0x821C, [], .none, [.ro 8 8 0, .mk' 2 1 0 .w1c 5 .none, .mk' 1 1 0 .w1c 5 .none, .ro 0 1 0]⟩,
  ⟨0x8220, [], .none, [.ro 24 8 0, .ro 16 8 0, .ro 8 8 0, .ro 0 8 0]⟩,
  ⟨0x8224, [], .none, [.mk' 16 16 0 .rw 1 .none, .mk' 8 8 0 .rw 1 .posOff, .lim 0 6 0 .rw 1 0 32 .posOff]⟩]

/-- Registers of the REMOUNT block. -/
def rowsRemount : List RRow := [
  ⟨0x8000, [], .none, [.mk' 0 1 1 .rw 1 .none]⟩,
  ⟨0x8004, [], .none, [.ro 5 1 0, .ro 4 1 0, .ro 3 1 0, .ro 1 2 0, .ro 0 1 0]⟩,
  ⟨0x8008, [], .none, [.ro 0 4 0]⟩,
  ⟨0x800C, [], .none, [.ro 16 16 0, .ro 0 16 0]⟩]

/-- Registers of the PWM block. -/
def rowsPwm : List RRow := [
  ⟨0x0, [], .none, [.lim 0 23 0x1F400 .rw 1 0x1F400 0x61A800 .none]⟩,
  ⟨0x8000, [], .act, [.ro 0 23 0x1F400]⟩,
  ⟨0x4, [], .pwmOfs, [.mk' 0 23 0 .rw 1 .none]⟩,
  ⟨0x8004, [], .act, [.ro 0 23 0]⟩,
  ⟨0x8, [], .none, [.mk' 0 23 0 .rw 1 .lead]⟩,
  ⟨0x8008, [], .act, [.ro 0 23 0]⟩,
  ⟨0x10, [(0x4, 3)], .none, [.mk' 0 23 0 .rw 1 .cmp]⟩,
  ⟨0x8010, [(0x4, 3)], .act, [.ro 0 23 0]⟩,
  ⟨0x20, [(0x4, 3)], .none, [.mk' 16 16 0x200 .rw 1 .dt, .mk' 0 16 0x200 .rw 1 .dt]⟩,
  ⟨0x8020, [(0x4, 3)], .act, [.ro 16 16 0x200, .ro 0 16 0x200]⟩,
  ⟨0x30, [], .none, [.mk' 0 23 0 .rw 1 .none]⟩,
  ⟨0x8030, [], .act, [.ro 0 23 0]⟩,
  ⟨0x34, [], .none, [.mk' 0 23 0 .rw 1 .none]⟩,
  ⟨0x8034, [], .act, [.ro 0 23 0]⟩,
  ⟨0x8100, [], .samp, [.mk' 10 3 0 .rw 1 .pwmStop, .lim 5 2 0 .img 0 0 2 .none, .mk' 4 1 0 .rw 1 .none, .mk' 3 1 0 .rw 1 .pwmStop, .mk' 1 2 1 .rw 1 .pwmStop, .mk' 0 1 0 .rw 1 .pwmStop]⟩,
  ⟨0x8104, [], .none, [.mk' 0 8 0 .cmd 1 .none, .ro 8 3 0]⟩,
  ⟨0x8108, [], .none, [.ro 8 1 0, .ro 5 1 0, .ro 4 1 0, .ro 0 3 0]⟩,
  ⟨0x810C, [], .arm, [.mk' 1 1 0 .rw 1 .none, .mk' 0 1 0 .w1s 1 .none]⟩,
  ⟨0x8110, [], .none, [.mk' 0 16 0 .rw 1 .pwmStop]⟩,
  ⟨0x8114, [], .trip, [.mk' 0 32 0 .rw 1 .pwmStop]⟩,
  ⟨0x8118, [], .none, [.mk' 16 4 0 .w1c 1 .none, .ro 12 4 0, .ro 8 4 0, .ro 4 4 0, .ro 0 4 0]⟩,
  ⟨0x811C, [], .none, [.mk' 16 16 0 .rw 1 .none, .mk' 14 2 0 .rw 1 .none, .mk' 6 6 0 .rw 1 .none, .mk' 0 6 0 .rw 1 .none]⟩,
  ⟨0x8120, [], .none, [.mk' 4 2 0 .rw 1 .none, .mk' 2 2 0 .rw 1 .none, .mk' 0 1 0 .rw 1 .none]⟩,
  ⟨0x8124, [], .asc10, [.mk' 0 30 0 .rw 1 .none]⟩,
  ⟨0x8128, [], .asc8, [.mk' 0 24 0 .rw 1 .none]⟩,
  ⟨0x812C, [], .none, [.mk' 0 32 0 .rw 1 .none]⟩,
  ⟨0x8130, [], .none, [.mk' 0 32 0 .rw 1 .none]⟩,
  ⟨0x8134, [], .none, [.ro 16 16 0, .ro 0 16 0]⟩,
  ⟨0x8140, [], .none, [.ro 31 1 0, .ro 0 23 0]⟩,
  ⟨0x8144, [], .none, [.ro 8 6 0, .ro 0 6 0]⟩,
  ⟨0x8150, [], .none, [.ro 0 32 0]⟩,
  ⟨0x8154, [], .none, [.ro 16 16 0, .ro 0 16 0]⟩,
  ⟨0x8158, [], .none, [.ro 0 24 0]⟩]

/-- Registers of the AUX block. -/
def rowsAux : List RRow := [
  ⟨0x0, [], .none, [.lim 0 23 0x1F400 .rw 1 0x1F400 0x61A800 .none]⟩,
  ⟨0x8000, [], .act, [.ro 0 23 0x1F400]⟩,
  ⟨0x10, [(0x10, 2)], .none, [.lim 0 23 0x1F400 .rw 1 0x1F400 0x61A800 .none]⟩,
  ⟨0x8010, [(0x10, 2)], .act, [.ro 0 23 0x1F400]⟩,
  ⟨0x14, [(0x10, 2)], .none, [.mk' 0 23 0 .rw 1 .none]⟩,
  ⟨0x8014, [(0x10, 2)], .act, [.ro 0 23 0]⟩,
  ⟨0x8100, [], .none, [.mk' 0 1 0 .rw 1 .refEn]⟩,
  ⟨0x8104, [], .none, [.mk' 0 4 0 .rw 1 .none]⟩,
  ⟨0x8108, [], .none, [.mk' 0 8 0 .cmd 1 .none, .ro 8 3 0]⟩,
  ⟨0x810C, [], .none, [.ro 4 4 0, .ro 0 4 0]⟩,
  ⟨0x8110, [], .none, [.ro 0 23 0]⟩,
  ⟨0x8120, [(0x10, 2)], .none, [.mk' 16 16 0 .rw 1 .none, .mk' 0 1 0 .rw 1 .none]⟩,
  ⟨0x8124, [(0x10, 2)], .none, [.ro 16 16 0, .ro 2 1 0, .ro 1 1 0, .ro 0 1 0]⟩,
  ⟨0x8128, [(0x10, 2)], .none, [.ro 0 32 0]⟩,
  ⟨0x8200, [(0x100, 2)], .none, [.ro 16 16 0, .ro 12 4 0, .ro 8 4 0, .ro 7 1 0, .mk' 6 1 0 .w1c 1 .none, .mk' 5 1 0 .w1c 1 .none, .ro 0 3 0]⟩,
  ⟨0x8204, [(0x100, 2)], .none, [.ro 16 1 0, .ro 0 12 0]⟩,
  ⟨0x8208, [(0x100, 2)], .none, [.ro 0 32 0]⟩,
  ⟨0x820C, [(0x100, 2)], .none, [.ro 0 32 0]⟩,
  ⟨0x8210, [(0x100, 2)], .none, [.ro 0 12 0]⟩,
  ⟨0x8214, [(0x100, 2)], .none, [.ro 24 8 0, .ro 16 8 0, .ro 8 8 0, .ro 0 8 0]⟩,
  ⟨0x8218, [(0x100, 2)], .none, [.ro 16 4 0, .ro 0 16 0]⟩,
  ⟨0x821C, [(0x100, 2)], .none, [.ro 24 8 0, .ro 16 8 0, .ro 8 8 0, .ro 0 8 0]⟩,
  ⟨0x8220, [(0x100, 2)], .none, [.ro 0 16 0]⟩,
  ⟨0x8224, [(0x100, 2)], .none, [.mk' 31 1 0 .rw 1 .none, .mk' 16 8 0 .rw 1 .none, .mk' 0 16 0 .rw 1 .none]⟩,
  ⟨0x8228, [(0x100, 2)], .none, [.mk' 0 8 0 .cmd 1 .none, .ro 8 3 0]⟩,
  ⟨0x822C, [(0x100, 2)], .none, [.ro 16 4 0, .ro 0 16 0]⟩,
  ⟨0x8400, [], .none, [.mk' 0 8 0 .cmd 1 .none, .ro 8 3 0]⟩,
  ⟨0x8408, [], .none, [.lim 8 8 16 .rw 1 1 255 .none, .mk' 0 4 3 .rw 1 .none]⟩,
  ⟨0x8500, [(0x4, 128)], .reinInit, [.mk' 31 1 0 .rw 1 .reinIdle, .mk' 16 8 0 .rw 1 .reinIdle, .mk' 0 16 0 .rw 1 .reinIdle]⟩,
  ⟨0x8404, [], .none, [.mk' 16 7 0 .rw 1 .reinIdle, .mk' 10 2 0 .rw 1 .reinIdle, .mk' 8 2 0 .rw 1 .reinIdle, .mk' 6 2 0 .rw 1 .reinIdle, .mk' 4 2 0 .rw 1 .reinIdle, .mk' 3 1 0 .rw 1 .reinIdle, .mk' 0 2 3 .rw 1 .reinIdle]⟩]

/-- Registers of the REIN block. -/
def rowsRein : List RRow := [
  ⟨0x8000, [(0x100, 3)], .none, [.ro 16 16 0, .ro 12 4 0, .ro 8 4 0, .ro 7 1 0, .mk' 6 1 0 .w1c 1 .none, .mk' 5 1 0 .w1c 1 .none, .ro 0 3 0]⟩,
  ⟨0x8004, [(0x100, 3)], .none, [.ro 16 1 0, .ro 0 12 0]⟩,
  ⟨0x8008, [(0x100, 3)], .none, [.ro 0 32 0]⟩,
  ⟨0x800C, [(0x100, 3)], .none, [.ro 0 32 0]⟩,
  ⟨0x8010, [(0x100, 3)], .none, [.ro 0 12 0]⟩,
  ⟨0x8014, [(0x100, 3)], .none, [.ro 24 8 0, .ro 16 8 0, .ro 8 8 0, .ro 0 8 0]⟩,
  ⟨0x8018, [(0x100, 3)], .none, [.ro 16 4 0, .ro 0 16 0]⟩,
  ⟨0x801C, [(0x100, 3)], .none, [.ro 24 8 0, .ro 16 8 0, .ro 8 8 0, .ro 0 8 0]⟩,
  ⟨0x8020, [(0x100, 3)], .none, [.ro 0 16 0]⟩,
  ⟨0x8024, [(0x100, 3)], .none, [.mk' 31 1 0 .rw 1 .none, .mk' 16 8 0 .rw 1 .none, .mk' 0 16 0 .rw 1 .none]⟩,
  ⟨0x8028, [(0x100, 3)], .none, [.mk' 0 8 0 .cmd 1 .none, .ro 8 3 0]⟩,
  ⟨0x802C, [(0x100, 3)], .none, [.ro 16 4 0, .ro 0 16 0]⟩,
  ⟨0x8C00, [], .none, [.mk' 0 8 0 .cmd 1 .none, .ro 8 3 0]⟩,
  ⟨0x8C04, [], .none, [.mk' 16 7 0 .rw 1 .reinIdle, .mk' 8 7 0 .rw 1 .reinIdle, .mk' 4 1 0 .rw 1 .reinIdle, .mk' 0 3 7 .rw 1 .reinIdle]⟩,
  ⟨0x8C08, [], .none, [.lim 8 8 16 .rw 1 1 255 .none, .mk' 0 4 3 .rw 1 .none]⟩,
  ⟨0x8D00, [(0x4, 128)], .reinInit, [.mk' 31 1 0 .rw 1 .reinIdle, .mk' 16 8 0 .rw 1 .reinIdle, .mk' 0 16 0 .rw 1 .reinIdle]⟩]

/-- Registers of the PROT block. `PROT_DIS_CFG.MON` takes the numbers of the monitors, 0 to 11 (log entry 102). -/
def rowsProt : List RRow := [
  ⟨0x8000, [], .none, [.mk' 0 8 0 .cmd 1 .none, .ro 8 3 0]⟩,
  ⟨0x8004, [], .none, [.ro 28 4 0, .ro 18 4 0, .ro 16 2 0, .ro 15 1 0, .ro 14 1 0, .ro 13 1 0, .ro 12 1 0, .ro 11 1 0, .ro 10 1 0, .ro 8 2 0, .ro 7 1 0, .ro 6 1 0]⟩,
  ⟨0x8008, [], .none, [.ro 0 16 0]⟩,
  ⟨0x8010, [], .none, [.ro 0 32 0]⟩,
  ⟨0x8014, [], .none, [.ro 0 32 0]⟩,
  ⟨0x8018, [], .none, [.ro 16 12 0, .ro 12 3 0, .ro 8 1 0, .ro 0 8 0]⟩,
  ⟨0x801C, [], .none, [.ro 16 16 0, .ro 8 8 0, .ro 0 2 0]⟩,
  ⟨0x8020, [], .none, [.ro 0 12 0]⟩,
  ⟨0x8024, [], .swOvr, [.mk' 0 12 0 .rw 3 .none]⟩,
  ⟨0x8030, [], .none, [.ro 8 8 0, .ro 0 1 0]⟩,
  ⟨0x8034, [], .none, [.ro 0 32 0]⟩,
  ⟨0x8038, [], .none, [.ro 0 32 0]⟩,
  ⟨0x8040, [], .none, [.ro 13 1 0, .mk' 12 1 0 .img 0 .none, .mk' 8 1 0 .rw 1 .none, .lim 0 4 0 .rw 1 0 11 .none]⟩,
  ⟨0x8044, [], .none, [.mk' 0 23 0 .rw 1 .none]⟩,
  ⟨0x8048, [], .none, [.mk' 0 8 0 .cmd 1 .none, .ro 8 3 0]⟩,
  ⟨0x804C, [], .none, [.lim 8 8 100 .rw 1 1 255 .none, .mk' 4 1 0 .rw 1 .none, .lim 0 4 0 .rw 1 0 11 .none]⟩,
  ⟨0x8050, [], .none, [.mk' 0 23 0 .rw 1 .none]⟩,
  ⟨0x8054, [], .none, [.mk' 0 32 0 .rw 1 .none]⟩,
  ⟨0x8058, [], .none, [.mk' 0 32 0 .rw 1 .none]⟩,
  ⟨0x805C, [], .none, [.mk' 0 32 0x3F800000 .rw 1 .none]⟩,
  ⟨0x8060, [], .none, [.mk' 0 32 0 .rw 1 .none]⟩,
  ⟨0x8064, [], .none, [.mk' 0 32 0 .rw 1 .none]⟩,
  ⟨0x8068, [], .none, [.ro 0 32 0]⟩,
  ⟨0x806C, [], .none, [.ro 8 8 0, .ro 0 2 0]⟩,
  ⟨0x8080, [(0x4, 6)], .none, [.ro 16 1 0, .ro 0 16 0]⟩,
  ⟨0x80A0, [], .none, [.mk' 0 32 0 .rw 1 .none]⟩,
  ⟨0x80A4, [], .none, [.mk' 0 32 0 .rw 1 .none]⟩,
  ⟨0x80A8, [], .none, [.mk' 0 32 0 .rw 1 .none]⟩,
  ⟨0x80AC, [], .none, [.mk' 0 32 0 .rw 1 .none]⟩,
  ⟨0x80B0, [], .none, [.mk' 0 32 0x42C80000 .rw 1 .none]⟩,
  ⟨0x80B4, [], .none, [.mk' 24 8 20 .rw 1 .none, .mk' 16 8 10 .rw 1 .none, .lim 8 8 10 .rw 1 1 255 .none, .mk' 4 1 0 .rw 1 .none, .lim 0 4 3 .rw 1 0 8 .none]⟩,
  ⟨0x80B8, [], .none, [.ro 16 16 0, .ro 0 16 0]⟩,
  ⟨0x80C0, [(0x4, 8)], .none, [.mk' 16 16 0 .rw 1 .none, .mk' 0 16 0 .rw 1 .none]⟩,
  ⟨0x80E0, [(0x4, 3)], .none, [.ro 16 1 0, .ro 0 16 0]⟩,
  ⟨0x80F0, [], .none, [.mk' 16 8 10 .rw 1 .none, .mk' 8 8 175 .rw 1 .none, .mk' 0 8 225 .rw 1 .none]⟩,
  ⟨0x8100, [], .none, [.mk' 0 32 0x7F800000 .rw 1 .none]⟩,
  ⟨0x8104, [], .derate, [.mk' 16 8 64 .rw 1 .none, .mk' 8 8 210 .rw 1 .none, .mk' 0 8 180 .rw 1 .none]⟩,
  ⟨0x8108, [], .none, [.lim 8 9 0x100 .rw 1 0 0x100 .none, .lim 0 2 0 .rw 1 0 2 .none]⟩,
  ⟨0x810C, [], .none, [.ro 24 1 0, .ro 16 1 0, .ro 0 9 0x100]⟩,
  ⟨0x8110, [], .none, [.ro 0 32 0x7F800000]⟩]

/-- Registers of the SHEEPDOG block. -/
def rowsSheepdog : List RRow := [
  ⟨0x8000, [], .none, [.ro 16 16 0, .ro 3 1 0, .ro 2 1 0, .ro 1 1 0, .ro 0 1 0]⟩,
  ⟨0x8004, [], .none, [.ro 0 32 0]⟩,
  ⟨0x8008, [], .none, [.ro 0 16 0]⟩,
  ⟨0x8010, [(0x4, 4)], .none, [.mk' 0 32 0 .rw 2 .none]⟩,
  ⟨0x8020, [(0x4, 4)], .none, [.mk' 0 32 0 .rw 2 .none]⟩,
  ⟨0x8030, [], .none, [.mk' 0 4 0 .rw 2 .none]⟩,
  ⟨0x8034, [], .none, [.mk' 0 16 0 .rw 2 .none]⟩,
  ⟨0x9000, [(0x40, 4), (0x4, 16)], .none, [.ro 0 32 0]⟩]

/-- Registers of the SAFETY block. -/
def rowsSafety : List RRow := [
  ⟨0x8000, [], .none, [.ro 28 4 0, .ro 24 4 0, .ro 5 1 0, .ro 4 1 0, .ro 2 2 0, .ro 1 1 0]⟩,
  ⟨0x8004, [], .none, [.ro 0 16 0]⟩,
  ⟨0x8008, [], .none, [.ro 0 32 0]⟩,
  ⟨0x800C, [], .none, [.ro 0 32 0]⟩,
  ⟨0x8010, [], .none, [.mk' 1 1 0 .w1s 2 .none, .mk' 0 1 0 .w1s 2 .none]⟩,
  ⟨0x8014, [], .none, [.mk' 0 8 0 .rw 2 .none]⟩,
  ⟨0x8018, [], .none, [.mk' 0 16 0 .rw 2 .none]⟩,
  ⟨0x801C, [], .none, [.mk' 0 8 0 .cmd 1 .none, .ro 8 3 0]⟩,
  ⟨0x8020, [], .none, [.mk' 8 1 0 .w1c 1 .none, .ro 4 1 0, .ro 3 1 0, .ro 2 1 0, .ro 1 1 0, .ro 0 1 0]⟩,
  ⟨0x8024, [], .none, [.mk' 0 8 0 .cmd 3 .none, .ro 8 3 0]⟩,
  ⟨0x8030, [(0x8, 4)], .none, [.mk' 0 32 0 .rw 1 .none]⟩,
  ⟨0x8034, [(0x8, 4)], .none, [.mk' 0 32 0 .rw 1 .none]⟩,
  ⟨0x8050, [(0x4, 4)], .none, [.ro 0 24 0]⟩,
  ⟨0x8060, [], .none, [.mk' 0 8 0 .cmd 3 .none, .ro 8 3 0]⟩,
  ⟨0x8064, [], .none, [.mk' 0 4 0 .rw 3 .none]⟩,
  ⟨0x8068, [], .none, [.ro 16 16 0, .ro 8 4 0, .ro 4 4 0, .ro 0 2 0]⟩,
  ⟨0x806C, [], .none, [.ro 0 32 0]⟩,
  ⟨0x8070, [], .none, [.ro 0 32 0]⟩,
  ⟨0x8080, [(0x4, 4)], .none, [.mk' 6 1 0 .rw 3 .none, .mk' 5 1 0 .rw 3 .none, .mk' 4 1 0 .rw 3 .none, .mk' 0 2 0 .rw 3 .none]⟩,
  ⟨0x8090, [(0x4, 4)], .none, [.mk' 4 3 0 .w1c 1 .none, .ro 0 3 0]⟩,
  ⟨0x80A0, [], .none, [.ro 16 16 0x5A3C, .mk' 0 16 0 .rw 2 .none]⟩,
  ⟨0x80A4, [], .none, [.ro 0 16 0]⟩,
  ⟨0x80B0, [], .none, [.mk' 0 8 0 .cmd 5 .none, .ro 8 3 0]⟩,
  ⟨0x80B4, [], .none, [.mk' 0 10 0 .rw 5 .none]⟩,
  ⟨0x80B8, [], .none, [.ro 16 16 0, .ro 0 8 0]⟩,
  ⟨0x80BC, [], .none, [.ro 0 32 0]⟩]

/-- Registers of the CONTACTOR block. -/
def rowsContactor : List RRow := [
  ⟨0x8000, [], .none, [.mk' 0 4 0 .rw 1 .none]⟩,
  ⟨0x8004, [], .none, [.ro 20 4 0, .ro 16 4 0, .ro 12 4 0, .ro 8 4 0, .ro 0 4 0]⟩,
  ⟨0x8008, [], .none, [.mk' 12 4 0 .w1c 1 .none, .mk' 8 4 0 .w1c 1 .none, .mk' 0 4 0 .w1c 1 .none]⟩,
  ⟨0x8010, [(0x4, 4)], .none, [.ro 0 32 0]⟩]

/-- Registers of the YOKE block. -/
def rowsYoke : List RRow := [
  ⟨0x8000, [], .none, [.mk' 16 1 1 .rw 1 .none, .lim 8 8 10 .rw 1 1 255 .none, .lim 0 4 4 .img 0 2 15 .none]⟩,
  ⟨0x8004, [], .none, [.ro 11 1 0, .ro 8 3 0, .ro 4 3 0, .ro 2 2 3, .ro 0 2 0]⟩,
  ⟨0x8008, [], .none, [.mk' 0 8 0 .cmd 1 .none, .ro 8 3 0]⟩,
  ⟨0x800C, [], .none, [.ro 24 8 0, .ro 4 4 0, .ro 0 2 3]⟩,
  ⟨0x8010, [], .none, [.ro 0 32 0]⟩,
  ⟨0x8014, [], .none, [.ro 0 32 0]⟩,
  ⟨0x8018, [], .none, [.ro 0 32 0]⟩,
  ⟨0x801C, [], .none, [.ro 16 16 0, .ro 0 16 0]⟩,
  ⟨0x8020, [], .none, [.ro 10 5 0, .ro 5 5 0, .ro 0 5 0]⟩,
  ⟨0x8024, [], .none, [.ro 16 16 0, .ro 0 16 0]⟩,
  ⟨0x8028, [], .none, [.mk' 0 32 0 .rw 1 .none]⟩,
  ⟨0x802C, [], .none, [.mk' 0 16 200 .img 0 .none]⟩,
  ⟨0x8030, [], .none, [.ro 16 16 0xC35A, .mk' 0 16 0 .rw 1 .none]⟩,
  ⟨0x8034, [], .none, [.mk' 16 16 0 .img 0 .none, .mk' 0 16 0 .img 0 .none]⟩,
  ⟨0x8038, [], .none, [.ro 16 16 0, .ro 0 16 0]⟩,
  ⟨0x803C, [], .none, [.ro 0 32 0]⟩,
  ⟨0x8040, [], .none, [.mk' 0 32 0 .rw 1 .none]⟩,
  ⟨0x8044, [], .none, [.mk' 0 32 0 .rw 1 .none]⟩,
  ⟨0x8048, [], .none, [.ro 0 7 64]⟩,
  ⟨0x8050, [], .none, [.mk' 0 32 0xFFFFFFFF .rw 1 .none]⟩,
  ⟨0x8054, [], .none, [.mk' 0 32 0xFFFFFFFF .rw 1 .none]⟩]

/-- Registers of the PORTER block. -/
def rowsPorter : List RRow := [
  ⟨0x0, [], .rank, [.mk' 0 24 0x124357 .rw 5 .none]⟩,
  ⟨0x8000, [], .act, [.ro 0 24 0x124357]⟩,
  ⟨0x4, [], .none, [.lim 0 7 8 .rw 5 2 64 .none]⟩,
  ⟨0x8004, [], .act, [.ro 0 7 8]⟩,
  ⟨0x8100, [], .none, [.mk' 0 1 0 .w1s 5 .none]⟩,
  ⟨0x8104, [], .none, [.ro 4 1 0, .ro 0 4 15]⟩,
  ⟨0x8108, [], .none, [.ro 0 8 0]⟩,
  ⟨0x810C, [], .none, [.lim 16 5 0 .img 0 0 16 .none, .lim 0 7 0 .img 0 0 96 .none]⟩,
  ⟨0x8110, [], .none, [.mk' 16 1 0 .w1c 5 .none, .ro 0 16 0]⟩,
  ⟨0x8114, [], .none, [.ro 0 32 0]⟩,
  ⟨0x8118, [], .none, [.ro 0 8 0]⟩,
  ⟨0x8120, [(0x4, 8)], .none, [.ro 0 32 0]⟩]

/-- Registers of the CELLAR block. -/
def rowsCellar : List RRow := [
  ⟨0x8000, [(0x10, 3)], .none, [.mk' 0 8 0 .cmd 8 .none, .ro 8 3 0]⟩,
  ⟨0x8004, [(0x10, 3)], .none, [.mk' 16 4 0 .rw 8 .none, .mk' 0 10 0 .rw 8 .none]⟩,
  ⟨0x8008, [(0x10, 3)], .none, [.ro 16 3 0, .ro 0 10 0]⟩,
  ⟨0x8100, [(0x4, 16)], .none, [.lim 16 11 0 .img 0 0 0x400 .none, .lim 0 11 0 .img 0 0 0x400 .none]⟩,
  ⟨0x8140, [(0x4, 16)], .none, [.ro 16 11 0, .ro 0 11 0]⟩,
  ⟨0x8180, [], .none, [.ro 16 11 0x400, .ro 0 11 0x400]⟩,
  ⟨0x8184, [], .none, [.ro 0 16 0]⟩,
  ⟨0x9000, [(0x4, 128)], .none, [.ro 0 32 0]⟩]

/-- Registers of the LOGBOOK block. -/
def rowsLogbook : List RRow := [
  ⟨0x8000, [], .none, [.mk' 16 16 0 .rw 5 .none, .mk' 12 4 0 .rw 5 .none, .mk' 3 1 0 .rw 5 .none, .mk' 2 1 1 .rw 5 .none, .mk' 1 1 0 .rw 5 .none, .mk' 0 1 0 .rw 5 .none]⟩,
  ⟨0x8004, [], .none, [.mk' 0 8 0 .cmd 5 .none, .ro 8 3 0]⟩,
  ⟨0x8008, [], .none, [.mk' 25 1 0 .rw 5 .none, .mk' 16 9 0 .rw 5 .none, .mk' 0 3 6 .rw 5 .none]⟩,
  ⟨0x800C, [], .none, [.mk' 0 16 0x3E8 .rw 5 .none]⟩,
  ⟨0x8010, [], .none, [.ro 2 1 0, .ro 0 2 0]⟩,
  ⟨0x8014, [], .none, [.ro 0 32 0]⟩,
  ⟨0x8018, [], .none, [.ro 0 1 0]⟩,
  ⟨0x801C, [], .none, [.ro 0 32 0]⟩,
  ⟨0x8020, [], .none, [.ro 0 1 0]⟩,
  ⟨0x8024, [], .none, [.ro 0 32 0]⟩,
  ⟨0x8028, [], .none, [.ro 0 1 0]⟩,
  ⟨0x802C, [], .none, [.ro 0 32 0]⟩,
  ⟨0x8030, [], .none, [.ro 0 32 0]⟩,
  ⟨0x8034, [], .none, [.ro 24 8 0, .ro 16 4 0, .ro 0 16 0]⟩,
  ⟨0x8038, [], .none, [.ro 0 32 0]⟩,
  ⟨0x803C, [], .none, [.ro 0 32 0]⟩]

/-- Registers of the LEDGER block. -/
def rowsLedger : List RRow := [
  ⟨0x8000, [], .none, [.mk' 0 8 0 .cmd 5 .none, .ro 8 3 0]⟩,
  ⟨0x8004, [], .none, [.ro 23 1 0, .ro 22 1 0, .ro 19 3 0, .ro 0 15 0]⟩,
  ⟨0x8008, [], .none, [.ro 0 32 0]⟩,
  ⟨0x800C, [], .none, [.ro 16 16 0, .ro 0 16 0]⟩,
  ⟨0x8010, [], .none, [.ro 0 8 0]⟩,
  ⟨0x8014, [], .none, [.ro 16 16 0, .ro 8 6 0, .ro 0 5 0]⟩,
  ⟨0x8020, [], .asc10, [.mk' 0 30 0 .rw 1 .none]⟩,
  ⟨0x8030, [(0x4, 4)], .asc8hi, [.mk' 8 24 0 .rw 1 .none, .mk' 1 2 0 .rw 1 .none, .mk' 0 1 0 .rw 1 .none]⟩,
  ⟨0x8040, [], .none, [.ro 0 15 0]⟩,
  ⟨0x8044, [], .none, [.ro 0 32 0]⟩,
  ⟨0x8048, [], .none, [.ro 0 16 0]⟩,
  ⟨0x804C, [], .none, [.ro 3 1 0, .ro 2 1 0, .mk' 1 1 0 .w1c 5 .none, .ro 0 1 0]⟩,
  ⟨0x8050, [], .none, [.mk' 0 15 0 .rw 5 .none]⟩,
  ⟨0x8054, [], .none, [.mk' 0 32 0 .rw 5 .none]⟩,
  ⟨0x8058, [], .none, [.mk' 0 16 0 .rw 5 .none]⟩,
  ⟨0x805C, [], .none, [.mk' 0 8 0 .cmd 5 .none, .ro 8 3 0]⟩,
  ⟨0x8060, [], .none, [.lim 8 8 100 .rw 5 1 255 .none, .mk' 0 1 0 .rw 5 .none]⟩,
  ⟨0x8064, [], .none, [.mk' 0 8 0 .rw 5 .none]⟩,
  ⟨0x8068, [], .none, [.ro 0 32 0]⟩,
  ⟨0xA000, [(0x4, 1024)], .none, [.ro 0 32 0]⟩,
  ⟨0xB000, [(0x20, 24), (0x4, 8)], .none, [.ro 0 32 0]⟩,
  ⟨0xC000, [(0x100, 64), (0x4, 64)], .none, [.ro 0 32 0]⟩]

/-- Registers of the CAN block. -/
def rowsCan : List RRow := [
  ⟨0x8000, [], .none, [.mk' 4 1 0 .rw 5 .canOff, .mk' 3 1 0 .rw 5 .canOff, .mk' 2 1 0 .rw 5 .canOff, .mk' 1 1 0 .rw 5 .canOff, .mk' 0 1 0 .rw 5 .none]⟩,
  ⟨0x8004, [], .none, [.mk' 24 7 0 .rw 5 .canOff, .lim 16 7 1 .rw 5 1 127 .canOff, .lim 8 8 1 .rw 5 1 255 .canOff, .mk' 0 8 0 .rw 5 .canOff]⟩,
  ⟨0x8008, [], .none, [.mk' 31 1 0 .rw 5 .canOff, .mk' 24 4 0 .rw 5 .canOff, .mk' 16 4 0 .rw 5 .canOff, .mk' 8 5 0 .rw 5 .canOff, .mk' 0 5 0 .rw 5 .canOff]⟩,
  ⟨0x800C, [], .none, [.ro 16 7 0, .mk' 0 7 0 .rw 5 .canOff]⟩,
  ⟨0x8010, [], .none, [.mk' 0 8 0 .cmd 5 .none, .ro 8 3 0]⟩,
  ⟨0x8014, [], .none, [.mk' 8 1 0 .w1c 5 .none, .ro 3 5 0, .ro 0 3 0]⟩,
  ⟨0x8018, [], .none, [.ro 23 1 0, .ro 16 7 0, .ro 0 9 0]⟩,
  ⟨0x801C, [], .none, [.ro 16 16 0, .ro 8 8 0, .ro 4 3 0, .ro 0 3 0]⟩,
  ⟨0x8020, [], .none, [.mk' 0 4 8 .rw 5 .none]⟩,
  ⟨0x8030, [], .none, [.mk' 30 1 0 .rw 5 .none, .mk' 29 1 0 .rw 5 .none, .mk' 0 29 0 .rw 5 .none]⟩,
  ⟨0x8034, [], .none, [.mk' 8 8 0 .rw 5 .none, .mk' 5 1 0 .rw 5 .none, .mk' 4 1 0 .rw 5 .none, .mk' 0 4 0 .rw 5 .none]⟩,
  ⟨0x8040, [(0x4, 16)], .none, [.mk' 0 32 0 .rw 5 .none]⟩,
  ⟨0x8080, [], .none, [.ro 0 4 0]⟩,
  ⟨0x8084, [], .none, [.mk' 0 4 0 .rw 5 .none]⟩,
  ⟨0x8100, [(0x8, 16)], .none, [.ro 12 3 0, .ro 8 4 0, .ro 0 8 0]⟩,
  ⟨0x8104, [(0x8, 16)], .none, [.ro 0 32 0]⟩,
  ⟨0x8200, [], .none, [.lim 0 6 4 .rw 5 1 32 .canOff]⟩,
  ⟨0x8204, [], .none, [.ro 0 10 0]⟩,
  ⟨0x8208, [], .none, [.mk' 0 10 0 .rw 5 .none]⟩,
  ⟨0x820C, [], .none, [.ro 0 11 0]⟩,
  ⟨0x8210, [], .none, [.ro 0 32 0]⟩,
  ⟨0x8240, [(0x4, 16)], .none, [.ro 16 10 0, .ro 0 10 0]⟩]

/-- Registers of the ETH block. -/
def rowsEth : List RRow := [
  ⟨0x8000, [(0x40, 2)], .slave, [.mk' 28 3 0 .rw 4 .none, .mk' 16 12 1 .rw 4 .none, .lim 2 2 0 .rw 4 0 2 .none, .mk' 1 1 0 .rw 4 .none, .mk' 0 1 0 .rw 4 .none]⟩,
  ⟨0x8004, [(0x40, 2)], .none, [.ro 16 16 0, .ro 1 1 0, .ro 0 1 0]⟩,
  ⟨0x8008, [(0x40, 2)], .none, [.ro 0 32 0]⟩,
  ⟨0x800C, [(0x40, 2)], .none, [.ro 0 32 0]⟩,
  ⟨0x8010, [(0x40, 2)], .none, [.ro 0 32 0]⟩,
  ⟨0x8014, [(0x40, 2)], .none, [.ro 0 32 0]⟩,
  ⟨0x8018, [(0x40, 2)], .none, [.mk' 0 8 0 .cmd 4 .none, .ro 8 3 0]⟩,
  ⟨0x801C, [(0x40, 2)], .none, [.lim 0 32 0xF4240 .rw 4 0x3E8 0x3B9ACA00 .none]⟩,
  ⟨0x8020, [(0x40, 2)], .none, [.lim 0 7 1 .rw 4 1 64 .none]⟩,
  ⟨0x8024, [(0x40, 2)], .none, [.mk' 0 30 0 .rw 4 .none]⟩,
  ⟨0x8028, [(0x40, 2)], .none, [.mk' 0 32 0 .rw 4 .none]⟩,
  ⟨0x802C, [(0x40, 2)], .none, [.mk' 0 16 0 .rw 4 .none]⟩,
  ⟨0x8030, [(0x40, 2)], .none, [.ro 2 6 0, .ro 1 1 0, .ro 0 1 0]⟩,
  ⟨0x8100, [], .none, [.mk' 0 24 0xFAC688 .rw 4 .none]⟩,
  ⟨0x8104, [], .none, [.lim 0 16 100 .rw 4 1 0xFFFF .none]⟩,
  ⟨0x8108, [], .none, [.ro 20 12 0, .ro 10 10 0, .ro 0 10 0]⟩,
  ⟨0x8110, [], .align 11, [.mk' 0 32 0 .rw 4 .none]⟩,
  ⟨0x8114, [], .none, [.mk' 0 8 0 .rw 4 .none]⟩,
  ⟨0x8118, [], .pow2, [.lim 0 13 8 .rw 4 8 0x1000 .none]⟩,
  ⟨0x811C, [], .none, [.ro 0 12 0]⟩,
  ⟨0x8120, [], .none, [.mk' 0 12 0 .rw 4 .none]⟩,
  ⟨0x8130, [], .align 11, [.mk' 0 32 0 .rw 4 .none]⟩,
  ⟨0x8134, [], .none, [.mk' 0 8 0 .rw 4 .none]⟩,
  ⟨0x8138, [], .pow2, [.lim 0 13 8 .rw 4 8 0x1000 .none]⟩,
  ⟨0x813C, [], .none, [.ro 0 12 0]⟩,
  ⟨0x8140, [], .none, [.mk' 0 12 0 .rw 4 .none]⟩,
  ⟨0x8180, [], .syncLog, [.mk' 16 16 0x320 .rw 4 .none, .mk' 4 1 0 .rw 4 .none, .mk' 0 4 13 .rw 4 .none]⟩,
  ⟨0x8184, [], .none, [.ro 0 1 0]⟩,
  ⟨0x8188, [], .none, [.ro 0 32 0]⟩,
  ⟨0x818C, [], .none, [.ro 0 32 0]⟩,
  ⟨0x8190, [], .none, [.ro 0 30 0]⟩,
  ⟨0x8194, [], .none, [.ro 0 32 0]⟩,
  ⟨0x8198, [], .none, [.ro 0 16 0]⟩,
  ⟨0x819C, [], .none, [.ro 0 32 0]⟩,
  ⟨0x81A0, [], .none, [.ro 0 32 0]⟩,
  ⟨0x9000, [(0x8, 64)], .none, [.mk' 0 32 0 .rw 4 .none]⟩,
  ⟨0x9004, [(0x8, 64)], .none, [.mk' 31 1 0 .rw 4 .none, .mk' 28 3 0 .rw 4 .none, .mk' 16 12 0 .rw 4 .none, .mk' 0 16 0 .rw 4 .none]⟩,
  ⟨0xA000, [(0x400, 2), (0x4, 64)], .none, [.mk' 24 8 255 .rw 4 .none, .lim 0 24 0 .rw 4 1 0xFFFFFF .none]⟩,
  ⟨0xA200, [(0x400, 2), (0x4, 64)], .none, [.ro 0 32 0]⟩]

/-- Registers of the AUTH block. -/
def rowsAuth : List RRow := [
  ⟨0x8000, [], .none, [.lim 28 4 8 .img 0 1 15 .none, .mk' 20 8 30 .img 0 .none, .mk' 4 4 0 .img 0 .none, .mk' 0 3 0 .img 0 .none]⟩,
  ⟨0x8004, [], .none, [.mk' 0 32 0 .img 0 .none]⟩,
  ⟨0x8010, [(0x4, 6)], .none, [.mk' 0 32 0 .rw 5 .msg]⟩,
  ⟨0x8028, [], .none, [.mk' 0 8 0 .cmd 5 .none, .ro 8 3 0]⟩,
  ⟨0x802C, [], .none, [.ro 4 4 0, .ro 0 4 0]⟩,
  ⟨0x8030, [], .none, [.ro 5 1 0, .ro 4 1 0, .ro 3 1 0, .ro 0 2 0]⟩,
  ⟨0x8034, [], .none, [.ro 0 32 0]⟩,
  ⟨0x8038, [], .none, [.ro 0 32 0]⟩,
  ⟨0x803C, [], .none, [.ro 0 16 0]⟩,
  ⟨0x8040, [(0x4, 8)], .none, [.ro 0 32 0]⟩]

/-- Registers of the CONFIG block. -/
def rowsConfig : List RRow := [
  ⟨0x8000, [], .none, [.mk' 0 8 0 .cmd 5 .none, .ro 8 3 0]⟩,
  ⟨0x8004, [], .none, [.mk' 12 1 0 .rw 5 .none, .mk' 8 2 0 .rw 5 .none, .mk' 0 1 0 .rw 5 .none]⟩,
  ⟨0x8008, [], .align 12, [.mk' 0 32 0 .rw 4 .none]⟩,
  ⟨0x800C, [], .none, [.mk' 0 8 0 .rw 4 .none]⟩,
  ⟨0x8010, [], .none, [.mk' 0 32 0 .rw 4 .none]⟩,
  ⟨0x8014, [], .none, [.ro 20 9 0, .ro 8 8 0, .ro 4 4 0, .ro 2 1 0, .ro 0 2 3]⟩,
  ⟨0x8018, [(0x4, 2)], .none, [.ro 16 16 0, .ro 8 6 0, .ro 4 2 0, .ro 2 1 0, .ro 1 1 0, .ro 0 1 0]⟩,
  ⟨0x8020, [], .none, [.ro 0 6 0]⟩,
  ⟨0x8024, [], .none, [.ro 0 10 0x3FF]⟩,
  ⟨0x8028, [], .none, [.mk' 8 1 0 .rw 7 .none, .lim 0 8 0 .rw 7 0 191 .none]⟩,
  ⟨0x802C, [], .none, [.ro 16 16 0, .ro 0 16 0]⟩,
  ⟨0x8030, [], .none, [.mk' 0 8 0 .cmd 5 .none, .ro 8 3 0]⟩,
  ⟨0x8034, [], .none, [.mk' 8 10 0 .rw 5 .none, .lim 4 4 0 .rw 5 1 3 .none, .mk' 0 3 0 .rw 5 .none]⟩,
  ⟨0x8038, [], .none, [.ro 0 32 0]⟩,
  ⟨0x803C, [], .none, [.ro 0 8 0]⟩,
  ⟨0x8040, [(0x20, 8), (0x4, 8)], .none, [.ro 0 32 0]⟩,
  ⟨0x9000, [(0x4, 1024)], .none, [.ro 0 32 0]⟩]

/-- Registers of the BIST block. -/
def rowsBist : List RRow := [
  ⟨0x8000, [], .none, [.mk' 0 8 0 .cmd 5 .none, .ro 8 3 0]⟩,
  ⟨0x8004, [], .none, [.mk' 24 8 255 .rw 5 .none, .mk' 20 2 0 .rw 5 .none, .mk' 0 9 240 .rw 5 .none]⟩,
  ⟨0x8008, [], .none, [.ro 24 8 0, .lim 0 8 15 .rw 5 1 15 .none]⟩,
  ⟨0x800C, [], .none, [.ro 24 8 0, .ro 12 4 0, .ro 4 4 0, .ro 0 2 0]⟩,
  ⟨0x8010, [], .none, [.ro 0 18 0]⟩,
  ⟨0x8014, [(0x4, 4)], .none, [.ro 0 16 0]⟩,
  ⟨0x8024, [], .none, [.ro 0 32 0]⟩,
  ⟨0x8028, [], .none, [.ro 0 32 0]⟩,
  ⟨0x802C, [], .none, [.ro 16 16 0, .ro 0 7 0]⟩,
  ⟨0x8030, [], .none, [.ro 7 1 0, .ro 6 1 0, .ro 2 2 0, .ro 0 2 0]⟩,
  ⟨0x8034, [], .none, [.ro 0 32 0]⟩,
  ⟨0x8038, [], .none, [.ro 4 1 0, .ro 0 4 0]⟩,
  ⟨0x8040, [], .align 16, [.mk' 0 32 0 .rw 4 .none]⟩,
  ⟨0x8044, [], .none, [.mk' 0 8 0 .rw 4 .none]⟩,
  ⟨0x8048, [], .none, [.mk' 0 32 0 .rw 4 .none]⟩,
  ⟨0x8100, [], .none, [.ro 3 1 0, .ro 2 1 0, .ro 0 2 2]⟩,
  ⟨0x8104, [], .none, [.mk' 0 8 0 .cmd 5 .none, .ro 8 3 0]⟩,
  ⟨0x8400, [(0x8, 64)], .none, [.ro 28 4 0, .ro 24 4 0, .ro 20 4 0, .ro 19 1 0, .ro 8 7 0]⟩,
  ⟨0x8404, [(0x8, 64)], .none, [.ro 0 32 0]⟩,
  ⟨0x8800, [(0x4, 64)], .none, [.ro 31 1 0, .ro 30 1 0, .ro 26 4 0, .ro 22 4 0, .ro 18 4 0, .ro 14 4 0, .ro 0 14 0]⟩,
  ⟨0x8A00, [(0x4, 64)], .none, [.ro 0 32 0]⟩]

/-- Registers of the POWER block. -/
def rowsPower : List RRow := [
  ⟨0x8000, [], .none, [.mk' 0 8 0 .cmd 5 .none, .ro 8 3 0]⟩,
  ⟨0x8004, [], .none, [.ro 24 8 0, .ro 16 4 0, .ro 10 6 63, .mk' 3 1 0 .w1c 5 .none, .mk' 2 1 0 .w1c 5 .none, .ro 1 1 0, .ro 0 1 0]⟩,
  ⟨0x8008, [], .none, [.ro 0 16 0]⟩,
  ⟨0x8010, [(0x4, 6)], .none, [.ro 0 16 0]⟩,
  ⟨0x8030, [], .none, [.ro 16 1 0, .ro 0 16 0]⟩,
  ⟨0x8034, [], .none, [.ro 4 2 0, .mk' 0 2 0 .rw 5 .vsens]⟩,
  ⟨0x8038, [], .none, [.ro 16 16 0, .ro 0 16 0]⟩,
  ⟨0x8040, [], .none, [.mk' 2 1 0 .rw 5 .none, .mk' 1 1 0 .rw 5 .none, .mk' 0 1 1 .rw 5 .none]⟩,
  ⟨0x8044, [], .none, [.ro 4 4 0, .ro 0 2 0]⟩,
  ⟨0x8048, [], .none, [.mk' 0 32 0 .rw 5 .none]⟩,
  ⟨0x804C, [], .none, [.mk' 0 16 0 .rw 5 .none]⟩,
  ⟨0x8050, [], .none, [.ro 0 32 0]⟩]

/-- The rows of Stall block `b` (R38). -/
def stallRows : Nat → List RRow
  | 4 => rowsLoop0 ++ rowsLoop1
  | 1 => rowsSense
  | 7 => rowsMod
  | 2 => rowsMon
  | 3 => rowsPos0 ++ rowsPos1
  | 0 => rowsPwm
  | 6 => rowsRein
  | 5 => rowsProt
  | _ => []

/-- The rows of Yard block `b` (R37); blocks 8 to 11 are the CAN controllers. -/
def yardRows : Nat → List RRow
  | 0 => rowsSys
  | 1 => rowsTimebase
  | 18 => rowsRemount
  | 7 => rowsAux
  | 5 => rowsSheepdog
  | 6 => rowsSafety
  | 19 => rowsContactor
  | 4 => rowsYoke
  | 2 => rowsPorter
  | 3 => rowsCellar
  | 17 => rowsLogbook
  | 13 => rowsLedger
  | 8 | 9 | 10 | 11 => rowsCan
  | 12 => rowsEth
  | 20 => rowsAuth
  | 14 => rowsConfig
  | 15 => rowsBist
  | 16 => rowsPower
  | _ => []

/-- The indices that make up an offset, or `none`. -/
def matchIdx : List (Nat × Nat) → Nat → Option (List Nat)
  | [], d => if d = 0 then some [] else none
  | [(st, c)], d => if d % st = 0 ∧ d / st < c then some [d / st] else none
  | (st, c) :: r, d => (List.range c).findSome? (fun i => if st * i ≤ d then (matchIdx r (d - st * i)).map (i :: ·) else none)

/-- The row at offset `off`, with its indices. -/
def findRow (l : List RRow) (off : Nat) : Option (RRow × List Nat) :=
  l.findSome? (fun r => if r.off ≤ off then (matchIdx r.idx (off - r.off)).map (fun i => (r, i)) else none)

/-- The Stall and the block a register address lies in: Stall 4 stands for the Yard. -/
def regBlock (a : Nat) : Nat × Nat :=
  if a < 0x41000000 then (4, (a - 0x40000000) / 0x10000) else ((a - 0x41000000) / 0x100000, (a - 0x41000000) / 0x10000 % 16)

/-- The register at an address (R37, R38). -/
def regAt (a : Nat) : Option (RRow × List Nat) :=
  if a < 0x40000000 ∨ 0x41400000 ≤ a ∨ a % 4 ≠ 0 then none
  else
    let (n, b) := regBlock a
    findRow (if n = 4 then yardRows b else stallRows b) (a % 0x10000)

/-- A field of the register at `a`. -/
def RField.fld (f : RField) (a : Nat) : Fld := ⟨a, f.lsb, f.w, f.rst⟩

end Sys2Proof.Machine
end

