-- ==== Sys2Proof/Machine/RegWrite.lean ====
section
/-!
DEFINITION. A write to a register, judged field by field (R2 to R6, R44, R526, R528), without the operations that some writes start; and
the register entries of an image (R440).
-/

namespace Sys2Proof.Machine
open Reg

/-- The present word of a register, reserved bits 0 (R3, R5). -/
def RRow.word (r : RRow) (a : Nat) (s : State) : Nat := (r.fs.map (fun f => s.get (f.fld a) * 2 ^ f.lsb)).sum

/-- Field `f`'s part of a written word; reserved bits inside the field read 0 (R3). -/
def RField.part (f : RField) (chk : Chk) (v : Nat) : Nat :=
  let x := bits v f.lsb f.w
  if chk = .trip then x &&& 0x1F1F1F1F else if chk = .rank then x &&& 0x777777 else x

/-- Whether every value `v` carries lies in its field's range: in the RW fields at a write by a processor (R528), in the fields loaded from
the image too at an entry of one (`img`, R440). -/
def RRow.inRange (img : Bool) (r : RRow) (v : Nat) : Bool :=
  r.fs.all (fun f =>
    let x := f.part r.chk v
    !(f.acc == .rw || (img && f.acc == .img)) || (decide (f.lo ≤ x) && decide (x ≤ f.hi)))

/-- Three values of `k` bits in ascending order. -/
def ascending (k v : Nat) : Bool := decide (bits v 0 k ≤ bits v k k) && decide (bits v k k ≤ bits v (2 * k) k)

/-- Rules of R528 over several fields; `ix` the indices of the register, `n` its Stall. `PWM_OFFSET` is judged by the reference period in force,
as it last stood while the reference is off (log entry 112). -/
def chkBad (chk : Chk) (n : Nat) (ix : List Nat) (v : Nat) (s : State) : Bool :=
  let m := ix.headD 0
  match chk with
  | .none | .act | .rank => false
  | .monThr =>
    let hi := bits v 16 12
    let lo := bits v 0 12
    if s.flag (MON_Mm_CFG_SRC n m) then decide (sext 12 hi < sext 12 lo) else decide (hi < lo)
  | .monCfg => bitAt v 3 && (decide (5 < bits v 4 4) || (s.flag (MON_LANTERN_EN n) && s.get (MON_LANTERN_MON n) == m))
  | .monFilt =>
    let k := bits v 0 5
    let w := bits v 8 5
    decide (2 * k ≤ w) || decide (w < k)
  | .lantern => s.flag (MON_Mm_CFG_SRC n (bits v 2 4))
  | .asc10 => !ascending 10 v
  | .asc8 => !ascending 8 v
  | .asc8hi => !ascending 8 (v / 2 ^ 8)
  | .samp => decide (bits v 1 2 = 0) || (decide (2 ≤ bits v 1 2) && !bitAt v 0)
  | .pwmOfs =>
    let p := if s.flag AUX_REF_CTRL_EN then s.get AUX_REF_PER_PER_ACT else s.get AUX_REF_PER_PER
    decide (p ≤ bits v 0 23)
  | .trip => [0, 1, 2, 3].any (fun j => bits v (8 * j) 2 == 3 || bits v (8 * j + 2) 2 == 3)
  | .reinInit => bitAt v 31 && decide (bits v 16 8 ≤ 2)
  | .derate => decide (bits v 8 8 ≤ bits v 0 8)
  | .slave => decide (bits v 2 2 = 2) && s.get (ETH_Pp_CTRL_AS_ROLE (2 - m)) == 2
  | .pow2 => popCount 13 (bits v 0 13) != 1
  | .align k => decide (v % 2 ^ k ≠ 0)
  | .syncLog => decide (1 ≤ bits v 0 4) && decide (bits v 0 4 ≤ 10)
  | .modin => decide (bits v 4 3 = 6)
  | .swOvr => (List.range 6).any (fun w => bits v (2 * w) 2 == 3)
  | .arm => bitAt v 0 && !s.flag (PWM_CTRL_COH n)
  | .posEn => false

/-- Whether field `f`'s condition forbids the value `x` now (R526); `n` the Stall, `ix` the indices. -/
def condForbids (c : Cond) (n : Nat) (ix : List Nat) (cur x : Nat) (s : State) : Bool :=
  let m := ix.headD 0
  match c with
  | .none => false
  | .loopStop | .cmp => loopRuns n s
  | .senEn | .posEn => decide (x = 0) && loopRuns n s
  | .modOff => s.flag (MOD_CTRL_EN n)
  | .monOff => s.flag (MON_Mm_CFG_EN n m)
  | .monEn => decide (x = 0) && s.flag (MON_Mm_CFG_PROT n m) && switching n s
  | .posOff => posOn n s
  | .bank => m == s.get (LOOP_STAT_PSET n) || s.flag (loopPset n)
  | .dt => loopRuns n s && s.flag (LOOP_Pb_CFG_DTA_EN n (s.get (LOOP_STAT_PSET n)))
  | .lead => s.get (PWM_CTRL_PAIR n) == 2
  | .pwmStop => switching n s
  | .refEn => decide (x = 0) && [0, 1, 2, 3].any (fun k => lockOf k s && switching k s)
  | .reinIdle => (if n < 4 then switching n s else [0, 1].any (fun k => s.flag (AUX_Ak_CTRL_EN k) || s.flag (AUX_Ak_STAT_DEMAND k))) || (groupLinks n).any (fun l => linkState l s == 1 || linkState l s == 2)
  | .canOff => s.flag (CAN_CTRL_EN m)
  | .msg => s.busy authCmd
  | .vsens => decide (cur &&& x ≠ cur) && [0, 1, 2, 3].any (fun k => switching k s)

/-- The writers' bits of a requester: the debug port writes what Y or I writes (R471). -/
def reqBits : Req → Nat
  | .y => 1
  | .s => 2
  | .i => 4
  | .d => 5

/-- Whether `who` is named a writer of field `f`; the registers of one processor name that one. -/
def mayWrite (who : Req) (ix : List Nat) (f : RField) : Bool :=
  if f.wr = 8 then reqBits who &&& [1, 2, 4].getD (ix.headD 0) 0 != 0 else reqBits who &&& f.wr != 0

/-- Whether processors can write the field at all. -/
def RField.writable (f : RField) : Bool := f.acc == .rw || f.acc == .w1c || f.acc == .w1s || f.acc == .cmd

/-- The value a field takes from a written part `x`. -/
def RField.next (f : RField) (cur x : Nat) : Nat :=
  match f.acc with
  | .rw => x
  | .w1c => cur &&& (2 ^ f.w - 1 - x)
  | .w1s => cur ||| x
  | _ => cur

/-- Indices a rule or condition sees first: a CAN controller's number stands for its rows' own. -/
def regIx (a : Nat) (ix : List Nat) : List Nat :=
  let (n, b) := regBlock a
  if n = 4 ∧ 8 ≤ b ∧ b ≤ 11 then (b - 8) :: ix else ix

/-- The Stall, or the Rein group 4 for the AUX block's links, that a register belongs to. -/
def regStall (a : Nat) : Nat := (regBlock a).1

/-- Apply a write field by field; the flag tells of a discarded part (R44, R526). -/
def writeFields (who : Req) (a v : Nat) (r : RRow) (ix : List Nat) (s : State) : Bool × State :=
  r.fs.foldl (fun (e, t) f =>
    if !f.writable || f.acc == .cmd then (e, t)
    else
      let x := f.part r.chk v
      let cur := s.get (f.fld a)
      if !mayWrite who ix f then (e || x != cur, t)
      else if x != cur && condForbids f.cond (regStall a) (regIx a ix) cur x s then (true, t)
      else (e, t.set (f.fld a) (f.next cur x))) (false, s)

/-- Whether the write of a whole register is discarded (R528). -/
def writeBad (a v : Nat) (r : RRow) (ix : List Nat) (s : State) : Bool :=
  !r.inRange false v || chkBad r.chk (regStall a) (regIx a ix) v s

/-- Whether a register entry of an image is rejected for its value (R440, R528). -/
def entryBad (a v : Nat) (r : RRow) (ix : List Nat) (s : State) : Bool :=
  !r.inRange true v || chkBad r.chk (regStall a) (regIx a ix) v s

/-- A write of `v` to the register `r` at `a` by `who`, with its response (R4, R44, R526, R528). -/
def regStore (who : Req) (a v : Nat) (r : RRow) (ix : List Nat) (s : State) : State :=
  if !r.fs.any RField.writable then busOk s
  else if !r.fs.any (fun f => f.writable && mayWrite who ix f) then busErr s
  else if writeBad a v r ix s then busErr s
  else
    let (e, t) := writeFields who a v r ix s
    if e then busErr t else busOk t

/-! ### Registers whose write does more than store -/

/-- What `o` leaves; a command of this block always answers a next state. -/
def Out.state (o : Out) (d : State) : State :=
  match o with
  | .next s => s
  | _ => d

/-- A voted store to `YOKE_SIG_REQ` as the bus sees it: every running core has presented its signature, which replaces the data, and their
SRAM CRCs restart (R355). -/
def sigWrite (s : State) : State :=
  let c := (runningCores s).headD 0
  let sig := Config.signature (BitVec.ofNat 32 (s.get (yokeCrc c))) (Config.coreDigest (s.get (yokeSeq c)))
  let s := (busOk s).set YOKE_SIG_REQ_SIG sig.toNat
  s.each (runningCores s) (fun c s => coreStep c (s.set (yokeCrc c) 0xFFFFFFFF))

/-- A register whose whole write is an operation of its own, the Sheepdog's kick apart; the writer is already judged. -/
def storeWrite (a v : Nat) (s : State) : Option State :=
  let (n, b) := regBlock a
  let o := a % 0x10000
  let run : Out → Option State := fun x => some (x.state s)
  if n < 4 then
    match b, o with
    | 7, 0x8000 => some (modCtrlWrite n v s)
    | 4, 0x9004 => some (slackMinWrite n (v % 2 ^ 24) s)
    | 1, 0x8398 => some (calStep n (v % 4) s)
    | 5, 0x8024 => some (swOvrWrite n (v % 4096) s)
    | _, _ => none
  else
    match b, o with
    | 6, 0x8014 => run (execEvShdCmd (BitVec.ofNat 8 v) s)
    | 6, 0x8018 => run (execSafetyRaise (BitVec.ofNat 16 v) s)
    | 6, 0x8080 => run (execFnSelWrite 0 (BitVec.ofNat 32 v) s)
    | 6, 0x8084 => run (execFnSelWrite 1 (BitVec.ofNat 32 v) s)
    | 6, 0x8088 => run (execFnSelWrite 2 (BitVec.ofNat 32 v) s)
    | 6, 0x808C => run (execFnSelWrite 3 (BitVec.ofNat 32 v) s)
    | 4, 0x8030 => run (execYokeWdKick (BitVec.ofNat 16 v) s)
    | 4, 0x8028 => some (sigWrite s)
    | 19, 0x8000 => run (execCtcCloseWrite (BitVec.ofNat 4 v) s)
    | 12, 0x8120 => run (execEthRxReturn (BitVec.ofNat 12 v) s)
    | 12, 0x8140 => run (execEthTxQueue (BitVec.ofNat 12 v) s)
    | _, 0x8084 => if 8 ≤ b ∧ b ≤ 11 then run (execTxrAck (Fin.ofNat 4 b) (BitVec.ofNat 4 v) s) else none
    | _, 0x8208 => if 8 ≤ b ∧ b ≤ 11 then run (execRxqAck (Fin.ofNat 4 b) (BitVec.ofNat 10 v) s) else none
    | _, _ => none

/-- A travel limit is judged with the other (R157): MIN below MAX. -/
def travelLimitsOk (a : Nat) (s : State) : Bool :=
  let n := (regBlock a).1
  let o := a % 0x10000
  (o != 0x803C && o != 0x8044) || (regBlock a).2 != 3 || decide (n = 4) || decide (travelMin n s < travelMax n s)

/-! ### Register entries of an image (R440) -/

/-- Fields an entry writes. -/
def entryFields (a v : Nat) (r : RRow) (s : State) : State :=
  r.fs.foldl (fun t f => if f.acc == .rw || f.acc == .img then t.set (f.fld a) (f.part r.chk v) else t) s

/-- Active copies that the load writes with their shadows (R112, R373); a change of N restarts the Porter's numbering (R372). -/
def entryActive (a : Nat) (r : RRow) (s : State) : State :=
  let b := a % 0x10000
  let both := r.chk == .monThr || (a / 0x10000 == 0x4002 && (b == 0 || b == 4))
  let t := if both then r.fs.foldl (fun t f => if f.acc == .rw then t.set (f.fld (a + 0x8000)) (t.get (f.fld a)) else t) s else s
  t.when (t.get PORTER_FAIR_N_N_ACT != s.get PORTER_FAIR_N_N_ACT) (fun t => t.set porterNum 0)

/-- A write of `POS_CTRL.EN` = 1 with a combination that R130 forbids. -/
def entryPosBad (a v : Nat) (r : RRow) (s : State) : Bool :=
  r.chk == .posEn && bitAt v 0 && !posConfigOk (regStall a) (entryFields a v r s)

/-- Rules of R528 that a write keeps at its own operation, or between two registers: travel limits, the Yoke watchdog's window. -/
def entryRuleBad (a v : Nat) (r : RRow) (s : State) : Bool :=
  (storeWrite a v s).any (fun t => t.bus.err) || !travelLimitsOk a (entryFields a v r s) ||
    (a == YOKE_WD_CFG_MIN.addr && decide (v / 65536 % 65536 ≤ v % 65536))

/-- Whether an entry names a command register; `SAFETY_STALL_CMD`, which has no command code, is one by its name (log entry 111). -/
def entryCommand (a : Nat) (r : RRow) : Bool := r.fs.any (fun f => f.acc == .cmd) || a == SAFETY_STALL_CMD_KIND.addr

/-- One register entry, at byte offset `off` of the domain that starts at `base` and has `size` bytes; `none`: rejected. -/
def regEntry (base size off v : Nat) (s : State) : Option State :=
  if size ≤ off then none
  else match regAt (base + off) with
    | none => none
    | some (r, ix) =>
      let a := base + off
      if r.chk = .act ∨ entryCommand a r ∨ entryBad a v r ix s ∨ entryPosBad a v r s ∨ entryRuleBad a v r s then none
      else some (entryActive a r (entryFields a v r s))

end Sys2Proof.Machine
end

