-- ==== Sys2Proof/Machine/Image.lean ====
section
/-!
DEFINITION. Xobrius images as bytes (15_configuration_and_update): header, sections, signature, slots and seal records, the boot
choice, and what a domain section puts into the block. An image source is a function from a byte offset and a count to bytes.
-/

namespace Sys2Proof.Machine
open Reg

/-- Reads a number of bytes of an image from an offset. -/
abbrev Img := Nat → Nat → List Byte

/-- First address of slot `k` (R445). -/
def slotBase (k : Nat) : Nat := 0xC0000000 + k * 0x10000000

/-- The image in slot `k`. -/
def slotImg (k : Nat) (s : State) : Img := fun o n => memTake s.mem (slotBase k + o) n

/-- The image in the boot flash, whose bytes past the given ones read 0xFF. -/
def flashImg (f : List Byte) : Img := fun o n => (List.range n).map (fun i => f.getD (o + i) 0xFF)

/-! ### The header (R437 to R439) -/

/-- Word `w` of an image. -/
def imgWord (m : Img) (w : Nat) : Nat := ofBytes (m (4 * w) 4)

/-- A big-endian integer of 32 bytes at word `w`. -/
def imgInt (m : Img) (w : Nat) : Nat := ofBytesBE (m (4 * w) 32)

/-- Whether a length is one R437 allows. -/
def imgLenOk (l : Nat) : Bool := decide (8192 ≤ l) && decide (l ≤ 268431360) && l % 4096 == 0

/-- Section `e`: type, offset, length. -/
def imgSection (m : Img) (e : Nat) : Nat × Nat × Nat := (imgWord m (40 + 12 * e), imgWord m (41 + 12 * e), imgWord m (42 + 12 * e))

/-- The section table. -/
def imgSections (m : Img) : List (Nat × Nat × Nat) := (List.range (imgWord m 6)).map (imgSection m)

/-- Index of the section of type `t`. -/
def sectionIx (m : Img) (t : Nat) : Option Nat := firstBelow (min 16 (imgWord m 6)) (fun e => (imgSection m e).1 == t)

/-- Whether the image holds a section of type `t`. -/
def holds (m : Img) (t : Nat) : Bool := (sectionIx m t).isSome

/-- Bytes of the section of type `t`; none of an absent one. -/
def sectionBytes (m : Img) (t : Nat) : List Byte :=
  match sectionIx m t with
  | some e => m (imgSection m e).2.1 (imgSection m e).2.2
  | none => []

/-- The stored digest of section `e`. -/
def sectionDigest (m : Img) (e : Nat) : List Byte := m (4 * (44 + 12 * e)) 32

/-- Largest size of a section of type `t` in an image of `l` bytes; 0 of an unknown type. -/
def sectionMax (t l : Nat) : Nat :=
  if t = 0x01 then 0x400000 else if 0x10 ≤ t ∧ t ≤ 0x13 then 0x100000 else if t = 0x20 then 0x100000
  else if t = 0x21 then 0x41000 else if t = 0x22 then l else if t = 0x30 then 0x1000 else 0

/-- Stalls present, bit n for Stall n, and the pairing bits [13:12] (R437). -/
def imgStalls (m : Img) : Nat := bits (imgWord m 5) 8 4
def imgPairing (m : Img) : Nat := bits (imgWord m 5) 8 6

/-- Whether the section table keeps R439. -/
def tableOk (m : Img) : Bool :=
  let l := imgWord m 2
  let t := imgSections m
  let r := List.range t.length
  t.all (fun (ty, o, n) => o % 4096 == 0 && decide (n ≤ sectionMax ty l) && decide (0 < sectionMax ty l) && decide (o + n ≤ l)) &&
    r.all (fun i => r.all (fun j => i == j ||
      (let (ti, oi, ni) := t.getD i (0, 0, 0)
       let (tj, oj, nj) := t.getD j (0, 0, 0)
       ti != tj && (decide (oi + ni ≤ oj) || decide (oj + nj ≤ oi))))) &&
    [0x01, 0x20, 0x21, 0x30].all (holds m) &&
    [0, 1, 2, 3].all (fun n => !bitAt (imgStalls m) n || holds m (0x10 + n))

/-- Whether words 0, 1, 2 and 6 and the section table are right. -/
def headerOk (m : Img) : Bool :=
  imgWord m 0 == 0x584F4231 && imgWord m 1 == 1 && imgLenOk (imgWord m 2) && decide (1 ≤ imgWord m 6) && decide (imgWord m 6 ≤ 16) &&
    tableOk m

/-- The signed header: words 24 to 39 taken as zero (R438). -/
def signedHeader (m : Img) : List Byte := m 0 96 ++ (List.replicate 64 0 ++ m 160 3936)

/-- The header digest. -/
def headerDigest (m : Img) : List Byte := sha256 (signedHeader m)

/-- The key slot in state 3 that holds the hash of the header's public key (R446). -/
def imgKeySlot (m : Img) (s : State) : Option Nat :=
  let h := sha256 (m 32 64)
  firstBelow 8 (fun k => keyState k s == 3 && keyBytes k s == h)

/-- Whether the header's signature verifies. -/
def imgSigned (m : Img) : Bool := ecdsaVerify (imgInt m 8) (imgInt m 16) (imgInt m 24) (imgInt m 32) (ofBytesBE (headerDigest m))

/-- Whether every section's digest matches. -/
def imgDigests (m : Img) : Bool :=
  (List.range (imgWord m 6)).all (fun e => sha256 (m (imgSection m e).2.1 (imgSection m e).2.2) == sectionDigest m e)

/-- Security version. -/
def imgSecver (m : Img) : Nat := imgWord m 3 % 64

/-- Whether the Sheepdog section's trailer verifies under Valrath's key (R441). -/
def imgTrailer (m : Img) : Bool :=
  let b := sectionBytes m 0x21
  let c := b.length - 4096
  let t := b.drop c
  decide (4096 ≤ b.length) &&
    ecdsaVerify Config.valrathX Config.valrathY (ofBytesBE (t.take 32)) (ofBytesBE ((t.drop 32).take 32)) (ofBytesBE (sha256 (b.take c)))

/-- The first failure of an image, as `ERR` codes it; 0 none (R450). -/
def imgErr (m : Img) (s : State) : Nat :=
  if !headerOk m then 0x10
  else if (imgKeySlot m s).isNone then 0x11
  else if !imgSigned m then 0x12
  else if !imgDigests m then 0x13
  else if imgSecver m < s.get rollCount then 0x14
  else if !imgTrailer m then 0x16
  else 0

/-! ### Slots (R445 to R447) -/

/-- Word `i` of slot `k`'s seal record. -/
def sealRec (k i : Nat) (s : State) : Nat := s.wordAt (slotBase k + 0x0FFFF000 + 4 * i)

/-- Whether the seal record of slot `k` is valid. -/
def slotSealed (k : Nat) (s : State) : Bool :=
  sealRec k 0 s == 0x5EA10A00 + k && sealRec k 12 s == crc32Words (s.wordsAt (slotBase k + 0x0FFFF000) 12) && sealRec k 13 s == sealRec k 1 s

/-- The conditions that are tested again after every command: the first, third, fourth and fifth (R446). -/
def slotRetest (k : Nat) (s : State) : Bool :=
  let m := slotImg k s
  slotSealed k s && (imgKeySlot m s).isSome && imgSigned m && decide (s.get rollCount ≤ imgSecver m)

/-- The conditions that only the boot check and `WRITE` test: the second and the sixth, with the form of the header (R446). -/
def slotTest (k : Nat) (s : State) : Bool :=
  let m := slotImg k s
  headerOk m && headerDigest m == memTake s.mem (slotBase k + 0x0FFFF010) 32 && imgDigests m && imgTrailer m

/-- Whether the confirm word of slot `k` is programmed, and how many trial marks are used. -/
def slotConfirmed (k : Nat) (s : State) : Bool := sealRec k 64 s == 0
def slotMarks (k : Nat) (s : State) : Nat := ([128, 129, 130].filter (fun w => sealRec k w s == 0)).length

/-- Keep `CONFIG_SLOT_s` (R446): an unsealed slot's record fields read 0; a slot that failed step 5 of the boot is invalid (R492). -/
def slotShow (k : Nat) (s : State) : State :=
  let on := slotSealed k s
  let p := fun v => if on then v else 0
  let s' := ((s.set (CONFIG_SLOT_s_GEN k) (p (sealRec k 1 s))).set (CONFIG_SLOT_s_SECVER k) (p (sealRec k 3 s)))
  let s' := (s'.set (CONFIG_SLOT_s_ATTEMPTS k) (p (slotMarks k s))).setB (CONFIG_SLOT_s_CONFIRMED k) (on && slotConfirmed k s)
  (s'.setB (CONFIG_SLOT_s_SEALED k) on).setB (CONFIG_SLOT_s_VALID k) (s.flag (slotFull k) && slotRetest k s && !s.flag (slotBad k))

/-- Keep both slots, and the rollback count. -/
def slotsShow (s : State) : State := slotShow 1 (slotShow 0 (s.set CONFIG_FUSE_COUNT (s.get rollCount)))

/-- Test both slots on every condition (R446). -/
def slotsTest (s : State) : State :=
  slotsShow ([0, 1].foldl (fun t k => t.setB (slotFull k) (slotTest k s)) s)

/-- Generation of a new seal record: above every valid one (R450). -/
def newGeneration (s : State) : Nat :=
  1 + (([0, 1].filter (fun k => slotSealed k s)).map (fun k => sealRec k 1 s)).foldl max 0

/-- The slot of a list with the higher generation. -/
def highestGen (l : List Nat) (s : State) : Option Nat :=
  match l with
  | [] => none
  | a :: r => some (r.foldl (fun b k => if sealRec b 1 s < sealRec k 1 s then k else b) a)

/-- What R447 chooses, before the boot flash. -/
inductive BootPick where
  /-- on trial -/
  | trial (k : Nat)
  /-- a confirmed slot; whether an unconfirmed valid slot has used its marks -/
  | confirmed (k : Nat) (spent : Bool)
  | flash
  deriving DecidableEq, Repr

/-- The choice of R447; a slot that has failed in this boot is not valid (R492). -/
def bootPick (s : State) : BootPick :=
  let v := [0, 1].filter (fun k => s.flag (CONFIG_SLOT_s_VALID k))
  let c := v.filter (fun k => slotConfirmed k s)
  let t := v.filter (fun k => !slotConfirmed k s && decide (slotMarks k s < 3) && c.all (fun j => decide (sealRec j 1 s < sealRec k 1 s)))
  match highestGen t s, highestGen c s with
  | some k, _ => .trial k
  | none, some k => .confirmed k (v.any (fun k => !slotConfirmed k s && slotMarks k s == 3))
  | none, none => .flash

/-- Program the next trial mark of slot `k`: the first that is not used. -/
def useMark (k : Nat) (s : State) : State :=
  match [128, 129, 130].find? (fun w => sealRec k w s != 0) with
  | some w => s.putWord (slotBase k + 0x0FFFF000 + 4 * w) 0
  | none => s

/-! ### Domain sections (R440, R457) -/

/-- The bytes of a section as words, lowest byte first. -/
def wordsOf : Nat → List Byte → List Nat
  | 0, _ => []
  | k + 1, b => ofBytes (b.take 4) :: wordsOf k (b.drop 4)

/-- Fabric points of domain `d`: 0 the Yard, 1 to 4 the Stalls. -/
def domainPoints (d : Nat) : Nat := if d = 0 then 2097152 else 1048576

/-- Section type of domain `d`. -/
def domainType (d : Nat) : Nat := if d = 0 then 0x01 else 0x10 + (d - 1)

/-- First address and size of domain `d`'s registers (R35). -/
def domainBase (d : Nat) : Nat := if d = 0 then 0x40000000 else 0x41000000 + (d - 1) * 0x100000
def domainSize (d : Nat) : Nat := if d = 0 then 0x150000 else 0x80000

/-- The point words and the register entries of domain `d` in an image. -/
def domainSection (d : Nat) (m : Img) : List Nat × List (Nat × Nat × Nat) :=
  let b := sectionBytes m (domainType d)
  let w := wordsOf (b.length / 4) b
  let p := domainPoints d / 32
  let e := w.drop (3 + p)
  ((w.drop 2).take p, (List.range (w.getD (2 + p) 0)).map (fun i => (d, e.getD (2 * i) 0, e.getD (2 * i + 1) 0)))

/-- Field of point word `w` of the bank `b` of domain `d`; the Yard has one bank. -/
def fabWord (d b w : Nat) : Fld := if d = 0 then fabYard w else fabStall ((d - 1) * 65536 + b * 32768 + w)

/-- Load a domain's fabric points into a bank. -/
def fabLoad (d b : Nat) (l : List Nat) (s : State) : State :=
  (l.foldl (fun (t : State × Nat) v => (t.1.set (fabWord d b t.2) v, t.2 + 1)) (s, 0)).1

/-- `CONFIG_FAB_w` as it reads (R457). -/
def fabRead (w : Nat) (s : State) : Nat :=
  let p := s.get CONFIG_FAB_PAGE_PAGE
  if p < 64 then (if s.flag CONFIG_FAB_PAGE_BANK then 0 else s.get (fabYard (1024 * p + w)))
  else
    let n := (p - 64) / 32
    let b := if s.flag CONFIG_FAB_PAGE_BANK then 1 - s.get (fabBank n) else s.get (fabBank n)
    s.get (fabStall (n * 65536 + b * 32768 + 1024 * ((p - 64) % 32) + w))

/-- A rejected entry of domain `d` raises its cause (R440, R454). -/
def entryReject (d : Nat) (s : State) : State :=
  if d = 0 then raiseFault (yardCode 11 0x28) .deviceSafe s
  else stallSafe (d - 1) (yardCode 11 (0x20 + (d - 1))) (raiseFault (yardCode 11 (0x20 + (d - 1))) .stallSafe s)

/-- Offsets that are loaded only at a boot after a power-on reset (R500). -/
def porOnly (off : Nat) : Bool := off == 0x108034 || off == 0x108040 || off == 0x108048 || off == 0x10804C

/-- Apply a list of register entries in order. -/
def applyEntries (l : List (Nat × Nat × Nat)) (s : State) : State :=
  l.foldl (fun s (d, off, v) =>
    if d == 0 && porOnly off && !s.flag porBoot then s
    else match regEntry (domainBase d) (domainSize d) off v s with
      | some s => s
      | none => entryReject d s) s

/-- Entries of domain `d` in the running image. -/
def entriesOf (d : Nat) (s : State) : List (Nat × Nat × Nat) := s.entries.filter (fun e => e.1 == d)

/-! ### Release of a loaded domain -/

/-- Enabling fields the load set in Stall `n` take their effect at its release. -/
def releaseStall (n : Fin 4) (s : State) : State :=
  let s := s.each (List.range 12) (fun m s =>
    s.when (s.flag (MON_Mm_CFG_EN n m)) (fun s => monStart n m s))
  let s := s.when (posOn n s) (posRestart n)
  let s := (s.set (modClkAt n) s.now).each (List.range 6) (fun i s => s.set (modOnAt n i) s.now)
  let s := derateShow n (switchUpdate n (sentRestart n s))
  eaccShow (govUpdate s)

/-- Enabling fields the load set in the Yard take their effect at its release. -/
def releaseYard (s : State) : State :=
  let s := s.each [0, 1] (fun k s => s.when (s.flag (AUX_Ak_CTRL_EN k)) (fun s => (s.set (auxDue k) (s.now + 64))))
  let s := s.when (s.flag AUX_REF_CTRL_EN) (fun s => (s.set refRun 0).set refDue (s.now + 64))
  let s := s.each [0, 1, 2, 3] (fun k s => s.when (s.flag (CAN_CTRL_EN k)) (fun s => canEnable k (s.set (CAN_CTRL_EN k) 0)))
  let s := s.when (s.flag ETH_AS_CFG_GM) gmStart
  irqUpdate (logEnable (cellarCount s))

end Sys2Proof.Machine
end

