-- ==== Sys2Proof/Machine/Reset.lean ====
section
/-!
DEFINITION. Resets (17_power_reset_boot, R483 to R490): which fields each kind clears and which it keeps, and the resets as shared
operations.
-/

namespace Sys2Proof.Machine
open Reg

/-! ### Which fields a reset covers -/

/-- The keys of the addresses from `a` up to `b`. -/
def keyIn (a b k : Nat) : Bool := decide (a * 32 ≤ k) && decide (k < b * 32)

/-- Keys of Stall `n`: its registers and its internal fields. -/
def stallKey (n k : Nat) : Bool :=
  keyIn (0x41000000 + n * 0x100000) (0x41080000 + n * 0x100000) k ||
    keyIn (0x10000000000 + n * 0x1000000000) (0x11000000000 + n * 0x1000000000) k

/-- Keys of the Yard. -/
def yardKey (k : Nat) : Bool := keyIn 0x40000000 0x40150000 k || keyIn 0x14000000000 0x15000000000 k

/-- Keys of the internal fields that only a power-on reset clears, and of those that it keeps. -/
def porKey (k : Nat) : Bool := keyIn 0x15000000000 0x16000000000 k

/-- Whether a key belongs to one of the fields of a list. -/
def keyOf (l : List Fld) (k : Nat) : Bool := l.any (fun f => f.key == k)

/-- Fields whose keys `p` names return to their reset values, but for those that `keep` names. -/
def clearKeys (p keep : Nat → Bool) (s : State) : State := { s with regs := storeClear (fun k => p k && !keep k) s.regs }

/-- Levels at the balls and instants of the output stage, which no reset of logic changes. -/
def pinFields (n : Nat) : List Fld :=
  [pwmPinHigh n, PWM_STAT_EN_PIN n, PROT_STAT_EN_PIN n, protEnFallAt n, posA n, posB n] ++ (List.range 6).map (fun i => pwmOffAt n i)

/-- The power-stage fault latch of Stall `n` and what lasts as long as it (R277, R281). -/
def psfFields (n : Nat) : List Fld :=
  [PROT_STAT_PSF n, PROT_PSF_MON n, PROT_PSF_LINK n, PROT_PSF_CLRFAIL n, PROT_PSF_SRC n] ++ (List.range 6).map (fun w => protSus n w)

/-- What a Stall reset keeps in Stall `n` (R485, R489): the latch, the spare assignments, converters, monitors and engines that failed,
and what the Yard's lines and the sealed copy hold there. -/
def stallKept (n : Nat) : List Fld :=
  pinFields n ++ (psfFields n ++ ([PROT_POL_DWELL n, PROT_POL_PREF n, PROT_SPD_HI_SPD n, PROT_SPD_LO_SPD n, PROT_STAT_SHD n, PROT_STAT_STO n,
    PROT_STAT_DEV_SAFE n, LOOP_STAT_A_FAILED n, LOOP_STAT_B_FAILED n] ++
    ((List.range 4).flatMap (fun c => [SENSE_Cc_STAT_SPARE n c, SENSE_Cc_STAT_FAILED n c, SENSE_Cc_STAT_OUT n c, SENSE_Cc_FG_FG n c, SENSE_Cc_FO_FO n c]) ++
     (List.range 12).flatMap (fun m => [MON_Mm_STAT_SPARE n m, MON_Mm_STAT_FAILED n m]))))

/-! ### Stall reset (R489) -/

/-- A failed protection monitor holds its filter output and `LATCHED` asserted; any other its output deasserted
(R126); while `EN` is 0 both read 0 (R123; log entry 103). -/
def monFailedHold (n m : Nat) (s : State) : State :=
  if s.flag (MON_Mm_STAT_FAILED n m) && s.flag (MON_Mm_CFG_EN n m) then
    let p := s.flag (MON_Mm_CFG_PROT n m)
    monFollow n m false ((s.setB (MON_Mm_STAT_OUT n m) p).setB (MON_Mm_STAT_LATCHED n m) p)
  else s

/-- Keys of the links of Stall `n`: what a reconfiguration or a retest leaves as it is (R456, R464). -/
def linkKey (n k : Nat) : Bool :=
  keyIn (0x41068000 + n * 0x100000) (0x41068300 + n * 0x100000) k ||
    keyIn (0x10180000000 + n * 0x1000000000) (0x101C0000000 + n * 0x1000000000) k

/-- The blocks of Stall `n` reset: `STOP`, the Remount released unless it repairs an engine, a discharge it governs ended, every other
field cleared. `links`: the Rein links are covered too. -/
def stallClear (links : Bool) (n : Nat) (s : State) : State :=
  let s := if switching n s then raiseStall n 0x01 (haltOne n s) else haltOne n s
  let s := calReset n (s.when (!s.flag remRepair) (remountRelease n))
  let s := s.when (s.get (PROT_DIS_STAT_PATH n) != 0) (dischargeEnd n stIdle)
  let spare := [0, 1, 2, 3].filter (fun c => s.get (senBack n c) == 2)
  let s := clearKeys (stallKey n) (fun k => keyOf (stallKept n) k || (!links && linkKey n k)) s
  let s := s.when links (fun s => { s with dn := s.dn.filter (fun f => f.link / 3 != n) })
  let s := s.each [0, 1, 2, 3] (fun c s =>
    let back := s.flag (SENSE_Cc_STAT_SPARE n c) && !s.flag BIST_SPARE_STAT_CONV_FAIL
    let s := s.setB (SENSE_Cc_STAT_OUT n c) (s.flag (SENSE_Cc_STAT_FAILED n c) && !back)
    s.when (spare.contains c) (fun s => s.set (senBack n c) 2))
  let s := (s.setB (LOOP_STAT_ENG_A n) (!s.flag (LOOP_STAT_A_FAILED n))).setB (LOOP_STAT_ENG_B n) (!s.flag (LOOP_STAT_B_FAILED n))
  let s := s.setB (LOOP_STAT_ENG_R n) (s.flag remRepair && holdsRemount n s)
  switchUpdate n (govUpdate (ctcUpdate (dtFloorFlag n s)))

/-- The register entries of Stall `n` apply, and its calibration loads. -/
def stallEntries (n : Nat) (s : State) : State := calLoad n (applyEntries (entriesOf (n + 1) s) s)

/-- The blocks of Stall `n` are released. -/
def stallRelease (n : Nat) (s : State) : State := (releaseStall (Fin.ofNat 4 n) s).each (List.range 12) (monFailedHold n)

/-- The register entries of Stall `n` apply, its calibration loads, and its blocks are released. -/
def stallLoad (n : Nat) (s : State) : State := stallRelease n (stallEntries n s)

/-! ### Yoke reset (R488) -/

/-- Keys of the YOKE block. -/
def yokeKey (k : Nat) : Bool := keyIn 0x40040000 0x40050000 k || keyIn 0x14100000000 0x14140000000 k

/-- Whether an offset of the Yard holds a route register. -/
def routeOffset (off : Nat) : Bool := decide (0xA000 ≤ off) && decide (off < 0xA500) && off % 4 == 0

/-- The Yoke's fields of the route registers take the image's values (R43, R488). -/
def yokeRoutes (s : State) : State :=
  let s := s.each (List.range 320) (fun e s => (s.set (SYS_EVT_ROUTE_e_YOKE_EN e) 0).set (SYS_EVT_ROUTE_e_YOKE_LINE e) 0)
  (entriesOf 0 s).foldl (fun s (_, off, v) =>
    s.when (routeOffset off) (fun s =>
      let e := (off - 0xA000) / 4
      (s.setB (SYS_EVT_ROUTE_e_YOKE_EN e) (bitAt v 6)).set (SYS_EVT_ROUTE_e_YOKE_LINE e) (v % 64))) s

/-- The Yoke firmware in the own view's three copies. -/
def yokeFirmware (s : State) : State :=
  s.each [0, 1, 2] (fun c s => { s with mem := memPut (coreBase c) s.yokeFw (memErase (coreBase c) 0x100000 s.mem) })

/-- The Yoke reset, which freezes the Logbook's ring (R387). A failed core stays out of service (R360; log entry 91). -/
def yokeReset (s : State) : State :=
  let failed := s.get YOKE_STAT_FAILED
  let s := logReset s
  let s := clearKeys yokeKey (fun _ => false) { s with yokeBuf := [], yokeOwed := [] }
  let s := applyEntries ((entriesOf 0 s).filter (fun e => decide (0x40000 ≤ e.2.1) && decide (e.2.1 < 0x50000))) s
  let s := match firstBelow 3 (bitAt failed) with
    | some c => ((s.set YOKE_STAT_FAILED failed).set YOKE_STAT_MARKED c).set YOKE_STAT_MODE 1
    | none => s
  irqUpdate ((yokeRoutes (yokeFirmware s)).set yokeWdAt s.now)

/-! ### Device reset (R485, R486) -/

/-- What a device reset keeps in the register tables (R485). -/
def deviceKept : List Fld :=
  (List.range 4).flatMap (fun n => pinFields n ++ psfFields n) ++
  [safStoHeld, SAFETY_STO_STAT_A, SAFETY_STO_STAT_B, SAFETY_STO_STAT_HOLD, BIST_DBG_CONN, safAuxPin,
   AUX_Ak_STAT_PIN 0, AUX_Ak_STAT_PIN 1, SYS_PINS_WAKE, SYS_PINS_RESET_L, SYS_PINS_AUX_EN, SYS_PINS_STALL_EN, SYS_ID_STEP,
   SYS_RST_CAUSE_POR_SRC, SYS_RST_CAUSE_REQ, SYS_RST_CAUSE_KIND, SYS_RST_COUNT_DEV, SYS_RST_COUNT_BOOT_TO, SYS_RST_TB_LO_TB, SYS_RST_TB_HI_TB,
   POWER_VSENS_EN, POWER_VSENS_OVL, POWER_WAKE_CFG_ALARM_EN, POWER_WAKE_CFG_MON_EN, POWER_WAKE_CFG_PIN_EN, POWER_ALARM_LO_SEC, POWER_ALARM_HI_SEC,
   LOGBOOK_STAT_WRAP, LOGBOOK_STAT_STATE, LOGBOOK_WR_PTR_LO_OFS, LOGBOOK_WR_PTR_HI_OFS, LOGBOOK_OLD_PTR_LO_OFS, LOGBOOK_OLD_PTR_HI_OFS,
   LOGBOOK_TRIG_CFG_EVT_EN, LOGBOOK_TRIG_CFG_EVT, LOGBOOK_TRIG_CFG_CLASS, LOGBOOK_TRIG_PTR_LO_OFS, LOGBOOK_TRIG_PTR_HI_OFS,
   LOGBOOK_TRIG_TB_LO_TB, LOGBOOK_TRIG_TB_HI_TB, LOGBOOK_TRIG_INFO_MORE, LOGBOOK_TRIG_INFO_KIND, LOGBOOK_TRIG_INFO_CODE, LOGBOOK_SEQ_SEQ,
   LOGBOOK_DROP_COUNT, LEDGER_CAL_SUB_SUB, LEDGER_CAL_SEC_LO_SEC, LEDGER_CAL_SEC_HI_SEC, LEDGER_CAL_STAT_SYNCED, LEDGER_CAL_STAT_SLEW,
   LEDGER_CAL_STAT_VBAK_LOW, LEDGER_CAL_STAT_VALID, LEDGER_CAL_UTC_OFS_OFS, AUTH_STAT_STATE, AUTH_BOOKING_ID, AUTH_REMAIN_S,
   SAFETY_SS1_TB_LO_TB, SAFETY_SS1_TB_HI_TB]

/-- Keys of the BIST block that only a power-on reset clears: all but its commands and the step of a run (R474). -/
def bistKept (k : Nat) : Bool :=
  keyIn 0x400F8000 0x400F9000 k &&
    !keyOf [BIST_CMD_CODE, BIST_CMD_STATUS, BIST_DBG_CMD_CODE, BIST_DBG_CMD_STATUS, BIST_STAT_PHASE, BIST_DBG_LEVEL] k

/-- Draw `k` free values as one number of 32 bits each. -/
def freeWords : Nat → State → Nat × State
  | 0, s => (0, s)
  | k + 1, s =>
    let (v, s) := freeWords k s
    ((Config.fresh s.freeCount).toNat + 2 ^ 32 * v, s.draw)

/-- A key command that a reset or a failed fuse interrupts: which fuses blew is free (R443). -/
def keyInterrupt (failed : Bool) (s : State) : State :=
  if s.get CONFIG_KEY_CMD_STATUS ≠ stBusy then s
  else
    let k := s.get keyPendSlot
    let (b, s) := freeWords 1 s
    if s.get CONFIG_KEY_CMD_CODE = 1 then
      if failed || b % 2 == 1 then
        let (v, s) := freeWords 8 s
        (s.set (keyDamaged k) 1).set (keyFuse k) v
      else s
    else if failed then s.set (keyDamaged k) 1 else s.when (b % 2 == 1) (fun s => s.set (keyRevoked k) 1)

/-- A `ROLLFWD` that stops part way leaves a free count between the old and the new value (R452). -/
def rollInterrupt (target : Nat) (s : State) : State :=
  let (v, s) := freeWords 1 s
  let c := s.get rollCount
  s.set rollCount (c + v % (target - c + 1))

/-- The security version of the running slot's image. -/
def runSecver (s : State) : Nat := imgSecver (slotImg (s.get CONFIG_STAT_RUN_SLOT) s)

/-- The next free entry of the fuse map, one with no fuse blown, takes soft-map entry `j` (R469). -/
def burnOne (j : Nat) (s : State) : Option State :=
  match firstBelow 64 (fun i => s.get (BIST_FUSEj_W i) == 0) with
  | none => none
  | some i =>
    let s := s.set (BIST_MAPj_FUSED j) 1
    let w := 2 ^ 31 + 2 ^ 30 + s.get (BIST_MAPj_DOMAIN j) * 2 ^ 26 + s.get (BIST_MAPj_GROUP j) * 2 ^ 22 + s.get (BIST_MAPj_ELEM j) * 2 ^ 18 +
      s.get (BIST_MAPj_SPARE j) * 2 ^ 14 + s.get (BIST_MAPj_TILE j)
    some (s.set (BIST_FUSEj_W i) w)

/-- Soft-map entries that `BURN` has still to blow. -/
def burnList (s : State) : List Nat := (List.range 64).filter (fun j => s.flag (BIST_MAPj_VALID j) && !s.flag (BIST_MAPj_FUSED j))

/-- Blow entries in order until one does not fit; the flag tells of it. -/
def burnAll : List Nat → State → Bool × State
  | [], s => (true, s)
  | j :: r, s =>
    match burnOne j s with
    | none => (false, s)
    | some s => burnAll r s

/-- A `BURN` that stops part way leaves a free number of entries blown (R469). -/
def burnInterrupt (s : State) : State :=
  let (v, s) := freeWords 1 s
  let l := burnList s
  (burnAll (l.take (v % (l.length + 1))) s).2

/-- A reset that meets the write of the closing word of an image's seal record leaves it written or not, a free choice (R51, R451;
log entry 64). -/
def cfgReset (s : State) : State :=
  let a := slotBase (s.get cfgTgt) + 0x0FFFF000
  s.when (s.get CONFIG_CMD_STATUS == stBusy && s.get CONFIG_CMD_CODE == 1 && s.get CONFIG_STAT_PHASE == 5) (fun s =>
    (s.when (bitAt (Config.fresh s.freeCount).toNat 0) (fun s => s.putWord (a + 52) (s.wordAt (a + 4)))).draw)

/-- Calibrations, a seal and a Ledger record that commit, and commands that blow fuses, when a reset comes. -/
def fuseInterrupt (s : State) : State :=
  let s := keyInterrupt false (cfgReset <| authReset (ledReset (sealReset (s.each [0, 1, 2, 3] calReset))))
  let s := s.when (s.get CONFIG_CMD_STATUS == stBusy && s.get CONFIG_CMD_CODE == 4) (rollInterrupt (runSecver s))
  s.when (s.get BIST_CMD_STATUS == stBusy && s.get BIST_CMD_CODE == 3) burnInterrupt

/-- The debug port's level at a reset: 0 once the fuse `CLOSED` is blown, else 2; a change of it raises `EV_DEBUG` (R471). `was` is the
level before. -/
def dbgReset (was : Nat) (s : State) : State :=
  let l := if s.flag dbgClosed then 0 else 2
  (s.set BIST_DBG_LEVEL l).when (was != l) (raiseEvent 0x00F)

/-- What every device reset does to the state, whatever its kind. -/
def deviceClear (s : State) : State :=
  let level := s.get BIST_DBG_LEVEL
  let s := fuseInterrupt (logReset s)
  let s := rfReset s (clearKeys (fun k => yardKey k || [0, 1, 2, 3].any (fun n => stallKey n k)) (fun k => keyOf deviceKept k || bistKept k) s)
  let s := { s with held := [], snaps := [], logStage := [], faultHeld := [], canTx := [], ethTx := [], ethRx := [], dn := [], yokeBuf := [],
                    yokeOwed := [], ledSnap := [], entries := [], yokeFw := [] }
  dbgReset level s

/-- A device reset of kind `kind`; `req` the writer of a `DEVICE` command (R485, R486). -/
def deviceReset (kind req : Nat) (s : State) : State :=
  let s := deviceClear s
  let s := ((s.set SYS_RST_CAUSE_KIND kind).set SYS_RST_CAUSE_REQ (if kind = 2 then req else 0)).inc SYS_RST_COUNT_DEV
  (((s.setWide SYS_RST_TB_LO_TB SYS_RST_TB_HI_TB s.now).set porBoot 0).set lanternOn 0).set resetHeld 1

/-! ### Power-on reset (R483, R485) -/

/-- What a power-on reset keeps in the register tables: the calendar domain and what fuses hold. -/
def porKept : List Fld :=
  [LEDGER_CAL_SUB_SUB, LEDGER_CAL_SEC_LO_SEC, LEDGER_CAL_SEC_HI_SEC, LEDGER_CAL_STAT_SYNCED, LEDGER_CAL_STAT_SLEW, LEDGER_CAL_STAT_VBAK_LOW,
   LEDGER_CAL_STAT_VALID, LEDGER_CAL_UTC_OFS_OFS, SYS_RST_CAUSE_POR_SRC, SYS_ID_STEP, BIST_DBG_CLOSED,
   safStoHeld, SAFETY_STO_STAT_A, SAFETY_STO_STAT_B, SAFETY_STO_STAT_HOLD, safAuxPin, AUX_Ak_STAT_PIN 0, AUX_Ak_STAT_PIN 1,
   SYS_PINS_WAKE, SYS_PINS_RESET_L, SYS_PINS_AUX_EN, SYS_PINS_STALL_EN] ++ ((List.range 64).map BIST_FUSEj_W ++ (List.range 4).flatMap (fun n =>
     [pwmPinHigh n, PWM_STAT_EN_PIN n, PROT_STAT_EN_PIN n, posA n, posB n]))

/-- Whether an address belongs to the non-volatile store. -/
def nonVolatile (a : Nat) : Bool := decide (0xC0000000 ≤ a) && decide (a < 0x100000000)

/-- The power-on reset: `src` 0 VIN, 1 a rail. Memory outside the non-volatile store returns to what an unlisted byte reads as. -/
def powerOnReset (src : Nat) (s : State) : State :=
  let level := s.get BIST_DBG_LEVEL
  let s := fuseInterrupt s
  let s := rfReset s (clearKeys (fun k => yardKey k || porKey k || [0, 1, 2, 3].any (fun n => stallKey n k)) (keyOf porKept) s)
  let s := s.set SYS_RST_CAUSE_POR_SRC src
  let s := { s with tbNow := 0, mem := s.mem.filter (fun c => nonVolatile c.1), held := [], snaps := [], logStage := [], faultHeld := [],
                    canTx := [], ethTx := [], ethRx := [], dn := [], yokeBuf := [], yokeOwed := [], ledSnap := [], entries := [], yokeFw := [] }
  dbgReset level s

end Sys2Proof.Machine
end

