-- ==== Sys2Proof/Machine/ConfigBlk.lean ====
section
/-!
DEFINITION. The CONFIG block's commands (15_configuration_and_update): image writes, confirm and abandon, the rollback counter, keys, and
partial reconfiguration.
-/

namespace Sys2Proof.Machine
open Reg

def cfgCmd : CmdReg := ⟨CONFIG_CMD_CODE, CONFIG_CMD_STATUS⟩
def keyCmd : CmdReg := ⟨CONFIG_KEY_CMD_CODE, CONFIG_KEY_CMD_STATUS⟩

/-- After the end of every `CONFIG_CMD` command: the slots are tested again and the event is raised (R446). -/
def cfgAfter (s : State) : State := raiseEvent 0x001 (slotsShow (s.set CONFIG_STAT_PHASE 0))

/-- The running command ends with a status. -/
def cfgEnd (st : Nat) (s : State) : State := cfgAfter (s.cmdEnd cfgCmd st)

/-- The running command ends `FAILED` with a reason. -/
def cfgFail (e : Nat) (s : State) : State := cfgEnd stFailed (s.set CONFIG_STAT_ERR e)

/-- A command code is judged: reason 0 runs it and leaves it `BUSY` or ends it at once. -/
def cfgStart (code r status : Nat) (run : State → State) (s : State) : State :=
  s.cmdStart cfgCmd code (r == 0) status run (fun s => cfgAfter (s.set CONFIG_STAT_ERR r))

/-! ### Image writes (R449 to R451) -/

/-- Source of domain `d` in `CONFIG_DOMAIN`. -/
def domainSrc (d : Nat) (s : State) : Nat := bits (s.get CONFIG_DOMAIN_SRC) (2 * d) 2

/-- Domain `d` runs on a configuration from `v`. -/
def setDomainSrc (d v : Nat) (s : State) : State := s.set CONFIG_DOMAIN_SRC (putBits (s.get CONFIG_DOMAIN_SRC) (2 * d) 2 v)

/-- Source address of a `WRITE`. -/
def srcAddr (s : State) : Nat := s.getWide CONFIG_SRC_LO_ADDR CONFIG_SRC_HI_ADDR

/-- Reason that refuses `WRITE` (R449); 0 none. -/
def writeReason (s : State) : Nat :=
  let t := s.get CONFIG_ARG_TARGET
  if s.get CONFIG_STAT_RUN_SLOT = t then 1
  else if !imgLenOk (s.get CONFIG_LEN_LEN) then 2
  else if !inInn (srcAddr s) (s.get CONFIG_LEN_LEN) s then 3
  else if s.flag CONFIG_STAT_TRIAL then 4
  else if (List.range 5).any (fun d => domainSrc d s == t) then 5
  else 0

/-- WRITE (R449, R450 step 1): the target slot is erased and reads invalid. -/
def execWrite (s : State) : Out :=
  ok (cfgStart 1 (writeReason s) stBusy (fun s =>
    let t := s.get CONFIG_ARG_TARGET
    let s := ((s.set cfgSrc (srcAddr s)).set cfgLen (s.get CONFIG_LEN_LEN)).set cfgTgt t
    let s := (((s.set cfgAt s.now).set cfgStepAt s.now).set CONFIG_STAT_PHASE 1).set CONFIG_STAT_MIB 0
    let s := { s with mem := memErase (slotBase t) 0x10000000 s.mem }
    slotsShow ((s.set (slotFull t) 0).set (slotBad t) 0)) s)

/-- Duration of the running write in `CONFIG_TIME`, 10 ms units. -/
def writeTime (s : State) : State := s.set CONFIG_TIME_WRITE (clampU 16 ((s.now - s.get cfgAt) / 2000000))

/-- The words of a new seal record from 0 to 12. -/
def sealWords (t : Nat) (s : State) : List Nat :=
  let m := slotImg t s
  let w := [0x5EA10A00 + t, newGeneration s, imgWord m 2, imgSecver m] ++ wordsOf 8 (headerDigest m)
  w ++ [crc32Words w]

/-- An accepted abort came at or after the commit point: the command ends `TOO_LATE` (R50). -/
def cfgFin (s : State) : Nat := if s.flag (cmdLate 0) then stTooLate else stDone

/-- Row `r` of the running `WRITE`, 4,096 bytes, is programmed; `MIB` advances (R450 step 2). -/
def rowPut (r : Nat) (s : State) : State :=
  let s := s.putBytes (slotBase (s.get cfgTgt) + 4096 * r) (memTake s.mem (s.get cfgSrc + 4096 * r) 4096)
  (s.set cfgRow (r + 1)).set CONFIG_STAT_MIB (4096 * (r + 1) / 0x100000)

/-- What the check of the programmed slot finds (R450 step 3); 0 passed. -/
def writeErr (s : State) : Nat :=
  let m := slotImg (s.get cfgTgt) s
  if imgWord m 2 = s.get cfgLen then imgErr m s else 0x10

/-- The end of the running step of a `WRITE` (R450): erased, a row programmed, checked, body sealed, closing word programmed, reported. -/
def writeNext (s : State) : State :=
  let t := s.get cfgTgt
  let a := slotBase t + 0x0FFFF000
  match s.get CONFIG_STAT_PHASE with
  | 1 => ((s.set CONFIG_STAT_PHASE 2).set cfgRow 0).inc (LEDGER_LIVE_w_W (66 + t))
  | 2 =>
    let s := rowPut (s.get cfgRow) s
    s.when (decide (s.get cfgLen ≤ 4096 * s.get cfgRow)) (fun s => s.set CONFIG_STAT_PHASE 3)
  | 3 => if writeErr s = 0 then s.set CONFIG_STAT_PHASE 4 else cfgFail (writeErr s) (writeTime s)
  | 4 => (s.putWords a (sealWords t s)).set CONFIG_STAT_PHASE 5
  | 5 => ((s.putWord (a + 52) (s.wordAt (a + 4))).set (slotFull t) 1).set CONFIG_STAT_PHASE 6
  | _ => cfgEnd (cfgFin s) ((writeTime s).set (cmdLate 0) 0)

/-! ### Confirm, abandon, roll forward (R448, R452) -/

/-- CONFIRM (R448). -/
def execConfirm (s : State) : Out :=
  ok (cfgStart 3 (if s.flag CONFIG_STAT_TRIAL then 0 else 0x30) stDone (fun s =>
    cfgAfter (s.putWord (slotBase (s.get CONFIG_STAT_RUN_SLOT) + 0x0FFFF000 + 256) 0)) s)

/-- ABANDON (R448): every unused trial mark of the running slot. -/
def execAbandon (s : State) : Out :=
  ok (cfgStart 5 (if s.flag CONFIG_STAT_TRIAL then 0 else 0x30) stDone (fun s =>
    cfgAfter (s.putWords (slotBase (s.get CONFIG_STAT_RUN_SLOT) + 0x0FFFF000 + 512) [0, 0, 0])) s)

/-- Whether the running slot is confirmed. -/
def runConfirmed (s : State) : Bool :=
  let k := s.get CONFIG_STAT_RUN_SLOT
  decide (k < 2) && slotSealed k s && slotConfirmed k s

/-- ROLLFWD (R452). -/
def execRollfwd (s : State) : Out :=
  ok (cfgStart 4 (if runConfirmed s then 0 else 0x31) stBusy (fun s => s.set cfgAt s.now) s)

/-- ROLLFWD_DONE (R452): an accepted abort, which cannot stop the fuses, makes it end `TOO_LATE`; `good`, every fuse verified;
else `blown` of them, counted from the old value, were blown before one failed. -/
def execRollfwdDone (good : Bool) (blown : BitVec 6) (s : State) : Out :=
  ok (s.when (s.busy cfgCmd && s.get CONFIG_CMD_CODE == 4) (fun s =>
    let c := s.get rollCount
    let target := max c (runSecver s)
    if good then cfgEnd (cfgFin s) ((s.set rollCount target).set (cmdLate 0) 0)
    else
      let st := if s.flag (cmdLate 0) then stTooLate else stFailed
      let s := (s.set rollCount (min target (c + blown.toNat))).set (cmdLate 0) 0
      cfgEnd st (raiseFault (yardCode 11 0x30) .ride (s.set CONFIG_STAT_ERR 0x32))))

/-! ### Keys (R442, R443) -/

/-- After the end of every `CONFIG_KEY_CMD` command: slots, fingerprints and the freshness record follow (R446, R433). -/
def keyAfter (s : State) : State := raiseEvent 0x002 (slotsShow (keyShow s))

/-- The first bytes of a cask read as zero from now on. -/
def caskZero (c k : Nat) (s : State) : State := s.putBytes (caskBase c) (List.replicate k 0)

/-- Bytes a `PROG` of state `t` takes. -/
def keyLen (t : Nat) : Nat := if t = 1 then 16 else 32

/-- Reason that refuses `PROG` written by `who` (R443). -/
def progReason (who : Req) (s : State) : Nat :=
  if keyState (s.get CONFIG_KEY_ARG_SLOT) s ≠ 0 then 1
  else if s.get CONFIG_KEY_ARG_TYPE < 1 ∨ 3 < s.get CONFIG_KEY_ARG_TYPE then 2
  else if caskOwner s (s.get CONFIG_KEY_ARG_CASK) ≠ reqUser who ∨ reqUser who = 0 then 3
  else 0

/-- PROG (R443): a refused one takes no bytes from the cask. -/
def execProg (who : Req) (s : State) : Out :=
  let r := progReason who s
  ok (debugWrite who CONFIG_KEY_CMD_CODE.addr (fun s => s.cmdStart keyCmd 1 (r == 0) stBusy (fun s =>
    let t := s.get CONFIG_KEY_ARG_TYPE
    let c := s.get CONFIG_KEY_ARG_CASK
    let key := memTake s.mem (caskBase c) (keyLen t)
    let s := s.set keyPend (ofBytesBE (key ++ List.replicate (32 - keyLen t) 0))
    ((s.set keyPendSlot (s.get CONFIG_KEY_ARG_SLOT)).set keyPendType t).set keyPendCask c)
    (fun s => keyAfter (s.set CONFIG_KEY_ERR_ERR r))) s)

/-- REVOKE (R443). -/
def execRevoke (s : State) : Out :=
  let k := s.get CONFIG_KEY_ARG_SLOT
  let bad := keyState k s == 0 || s.get verKey == k + 1
  ok (s.cmdStart keyCmd 2 (!bad) stBusy (fun s => s.set keyPendSlot k) (fun s => keyAfter (s.set CONFIG_KEY_ERR_ERR 4)))

/-- The freshness record follows a new key in the slot that `AUTH_CFG` names (R433). -/
def keyFresh (k : Nat) (s : State) : State :=
  s.when (k == s.get AUTH_CFG_SLOT) (fun s => freshLoad (s.set authBad 0))

/-- EV_KEY_DONE (R443): every fuse verified, or one did not. -/
def execEvKeyDone (good : Bool) (s : State) : Out :=
  ok (s.when (s.busy keyCmd) (fun s =>
    let k := s.get keyPendSlot
    let prog := s.get CONFIG_KEY_CMD_CODE == 1
    let fin := if s.flag (cmdLate 1) then stTooLate else stDone
    let s := (s.set (cmdLate 1) 0).when prog (caskZero (s.get keyPendCask) (keyLen (s.get keyPendType)))
    if good then
      let s := if prog then keyFresh k (keyShow (((s.set (keyFuse k) (s.get keyPend)).set (keyType k) (s.get keyPendType)).set (keyWork k) (s.get keyPend)))
        else s.set (keyRevoked k) 1
      keyAfter ((s.set keyPend 0).cmdEnd keyCmd fin)
    else
      let s := keyInterrupt true s
      let s := (s.set (keyWork k) (s.get (keyFuse k))).set keyPend 0
      let st := if fin = stTooLate then stTooLate else stFailed
      keyAfter (raiseFault (yardCode 11 0x31) .ride ((s.set CONFIG_KEY_ERR_ERR 5).cmdEnd keyCmd st))))

/-! ### Partial reconfiguration (R453 to R456) -/

/-- Source slot of a `RECONF`; `none` where the Yard runs from no slot. -/
def reconfSource (s : State) : Option Nat :=
  let r := s.get CONFIG_STAT_RUN_SLOT
  if 2 ≤ r then none else some (if s.flag CONFIG_ARG_RSRC then 1 - r else r)

/-- Whether a Stall may be isolated: PWM state 0, or 3 with every line off (R453, R462). -/
def isolable (n : Nat) (s : State) : Bool :=
  s.get (PWM_STAT_STATE n) == 0 || (s.get (PWM_STAT_STATE n) == 3 && s.get (PROT_STAT_SAFE n) == 1)

/-- A link of Stall `n` trains. -/
def training (n : Nat) (s : State) : Bool := s.busy (reinCmd n) || (groupLinks n).any (fun l => s.get (reinStep l) != 0)

/-- A retest of Stall `n`, or a repair, runs. -/
def bistActs (n : Nat) (s : State) : Bool :=
  s.get BIST_CMD_STATUS == stBusy && ((s.get BIST_CMD_CODE == 2 && bitAt (s.get bistMask) n) || s.get BIST_CMD_CODE == 3)

/-- The stored digest of the section of type `t`. -/
def digestOf (m : Img) (t : Nat) : List Byte :=
  match sectionIx m t with
  | some e => sectionDigest m e
  | none => []

/-- Reason that refuses `RECONF` (R453); 0 none. -/
def reconfReason (s : State) : Nat :=
  let n := s.get CONFIG_ARG_STALL
  let l := pairList n s
  if s.get (PWM_CTRL_PAIR n) = 2 then 0x20
  else match reconfSource s with
    | none => 0x22
    | some k =>
      let m := slotImg k s
      let r := slotImg (s.get CONFIG_STAT_RUN_SLOT) s
      if !l.all (fun p => holds m (0x10 + p)) then 0x20
      else if !l.all (fun p => isolable p s) then 0x21
      else if !s.flag (CONFIG_SLOT_s_VALID k) then 0x22
      else if digestOf m 0x01 != digestOf r 0x01 || digestOf m 0x21 != digestOf r 0x21 || imgPairing m != imgPairing r then 0x23
      else if l.any (fun p => s.busy (calCmd p) || training p s || bistActs p s) then 0x24
      else 0

/-- Stall `n` is isolated: PWM state 4, the Remount released unless it repairs an engine (R454, R464, R468). -/
def isolate (n : Nat) (s : State) : State :=
  let s := (s.set (isoPrev n) (s.get (PWM_STAT_STATE n))).when (!s.flag remRepair) (remountRelease n)
  let s := s.when (switching n s) (bemfLeft n)
  govUpdate (cohLeave n ((s.set (PWM_STAT_STATE n) 4).set (pwmAwait n) 0))

/-- Stall `n` returns to the PWM state it had (R455). -/
def unisolate (n : Nat) (s : State) : State := reDecide n (govUpdate (s.set (PWM_STAT_STATE n) (s.get (isoPrev n))))

/-- RECONF (R453, R454 step 1). -/
def execReconf (s : State) : Out :=
  let l := pairList (s.get CONFIG_ARG_STALL) s
  ok (cfgStart 2 (reconfReason s) stBusy (fun s =>
    let s := (s.set cfgMask ((l.map (fun p => 2 ^ p)).sum)).set cfgFrom ((reconfSource s).getD 0)
    (((s.set cfgAt s.now).set cfgStepAt s.now).set CONFIG_STAT_PHASE 1).each l isolate) s)

/-- Stalls of the running reconfiguration. -/
def cfgStalls (s : State) : List Nat := [0, 1, 2, 3].filter (fun n => bitAt (s.get cfgMask) n)

/-- Whether the section of Stall `n` in slot `k` matches its digest. -/
def sectionMatches (n k : Nat) (s : State) : Bool := sha256 (sectionBytes (slotImg k s) (0x10 + n)) == digestOf (slotImg k s) (0x10 + n)

/-- The Stalls of a reconfiguration that ended before its commit point go back as they were. -/
def reconfBack (s : State) : State := (s.each (cfgStalls s) unisolate).set cfgMask 0

/-- Duration of the `RECONF` that ends, in `CONFIG_TIME`, µs (R459). -/
def reconfTime (s : State) : State := s.set CONFIG_TIME_RECONF (clampU 16 ((s.now - s.get cfgAt) / 200))

/-- Bytes of the sections that the running `RECONF` loads. -/
def reconfBytes (s : State) : Nat :=
  ((cfgStalls s).map (fun n => (sectionBytes (slotImg (s.get cfgFrom) s) (0x10 + n)).length)).sum

/-- Stall `n`'s section of slot `k` goes into its inactive configuration bank. -/
def reconfPoints (k n : Nat) (s : State) : State :=
  fabLoad (n + 1) (1 - s.get (fabBank n)) (domainSection (n + 1) (slotImg k s)).1 s

/-- The configuration banks of Stall `n` swap: the commit point. -/
def reconfSwap (n : Nat) (s : State) : State := s.set (fabBank n) (1 - s.get (fabBank n))

/-- Stall `n` is reset, and takes its register entries from slot `k` and its calibration; it stays isolated. -/
def reconfEntries (k n : Nat) (s : State) : State :=
  let es := (domainSection (n + 1) (slotImg k s)).2
  let s := { s with entries := s.entries.filter (fun e => e.1 != n + 1) ++ es }
  stallEntries n ((stallClear false n s).set (PWM_STAT_STATE n) 4)

/-- Stall `n` is released, its domain running on slot `k`. -/
def reconfFree (k n : Nat) (s : State) : State :=
  govUpdate (stallRelease n (setDomainSrc (n + 1) k (s.set (PWM_STAT_STATE n) 0)))

/-- The end of the running step of a `RECONF` (R454): isolated, verified, loaded, banks swapped, registers applied, released. -/
def reconfNext (s : State) : State :=
  let l := cfgStalls s
  let k := s.get cfgFrom
  match s.get CONFIG_STAT_PHASE with
  | 1 => s.set CONFIG_STAT_PHASE 2
  | 2 => if l.all (fun n => sectionMatches n k s) then s.set CONFIG_STAT_PHASE 3 else cfgFail 0x28 (reconfTime (reconfBack s))
  | 3 => (s.each l (reconfPoints k)).set CONFIG_STAT_PHASE 4
  | 4 => (s.each l reconfSwap).set CONFIG_STAT_PHASE 5
  | 5 => ((logReset s).each l (reconfEntries k)).set CONFIG_STAT_PHASE 6
  | _ =>
    let s := reconfTime ((s.each l (reconfFree k)).set cfgMask 0)
    cfgEnd (cfgFin s) (s.set (cmdLate 0) 0)

/-! ### The steps in time (R450, R454) -/

/-- Whether a `WRITE` or a `RECONF` runs. -/
def cfgRuns (s : State) : Bool := s.busy cfgCmd && (s.get CONFIG_CMD_CODE == 1 || s.get CONFIG_CMD_CODE == 2)

/-- Least and greatest duration of the running step, ticks: in a `WRITE`, of one row in step 2. -/
def cfgBounds (s : State) : Nat × Nat :=
  let l := s.get cfgLen
  let b := reconfBytes s
  if s.get CONFIG_CMD_CODE = 1 then
    match s.get CONFIG_STAT_PHASE with
    | 1 => (100000000, 400000000)
    | 2 => (40960, 109226)
    | 3 => (l / 2, l + 2000000)
    | 4 => (4000, 200000)
    | 5 => (200, 800)
    | _ => (0, 10)
  else
    match s.get CONFIG_STAT_PHASE with
    | 1 => (0, 400)
    | 2 => ((b + 1) / 2, b)
    | 3 => (100000, 800000)
    | 4 => (20, 200)
    | 5 => (40000, 600000)
    | _ => (0, 10)

/-- The running step ends. -/
def cfgNext (s : State) : State := if s.get CONFIG_CMD_CODE = 1 then writeNext s else reconfNext s

/-- Part of the tick: from its least duration on, the running step ends at a free instant, at its greatest at the latest (log entry 96). -/
def cfgTick (s : State) : State :=
  if !cfgRuns s || s.now < s.get cfgStepAt + (cfgBounds s).1 then s
  else if s.get cfgStepAt + (cfgBounds s).2 ≤ s.now ∨ bitAt (Config.fresh s.freeCount).toNat 0 then (cfgNext (s.set cfgStepAt s.now)).draw
  else s.draw

/-- The steps that may have ended by now end, each after its least duration. -/
def cfgCatch : Nat → State → State
  | 0, s => s
  | k + 1, s =>
    let at_ := s.get cfgStepAt + (cfgBounds s).1
    if cfgRuns s && decide (at_ ≤ s.now) then cfgCatch k (cfgNext (s.set cfgStepAt at_)) else s

/-- The running command's remaining steps, where they may all have ended by now; otherwise nothing. -/
def cfgFinish (k : Nat) (s : State) : State :=
  let t := cfgCatch k s
  if t.busy cfgCmd then s else t

/-- Steps that a `WRITE` has left until the row `r` runs. -/
def rowsLeft (r : Nat) (s : State) : Nat := if s.get CONFIG_STAT_PHASE = 1 then r + 1 else r - s.get cfgRow

/-- A row of the running `WRITE` does not verify: byte `o` reads `b` (R450). -/
def rowFail (o : Nat) (b : Byte) (s : State) : State :=
  let r := o / 4096
  let t := cfgCatch (rowsLeft r s) s
  if t.get CONFIG_STAT_PHASE = 2 ∧ t.get cfgRow = r ∧ o < t.get cfgLen then
    let t := t.putBytes (slotBase (t.get cfgTgt) + 4096 * r) (memTake t.mem (t.get cfgSrc + 4096 * r) (o % 4096) ++ [b])
    cfgFail 0x15 (writeTime t)
  else s

/-- EV_CONFIG_DONE (R450): the remaining steps of the running `WRITE` have ended, or a row names a byte that did not verify, and what it
reads. -/
def execEvConfigDone (row : Option (BitVec 28 × Byte)) (s : State) : Out :=
  ok (s.when (s.busy cfgCmd && s.get CONFIG_CMD_CODE == 1) (fun s =>
    match row with
    | some (o, b) => rowFail o.toNat b s
    | none => cfgFinish (s.get cfgLen / 4096 + 6) s))

/-- RECONF_DONE (R454): the remaining steps of the running `RECONF` have ended. -/
def execReconfDone (s : State) : Out := ok (s.when (s.busy cfgCmd && s.get CONFIG_CMD_CODE == 2) (cfgFinish 7))

/-! ### Aborts (R451, R455) -/

/-- An abort of the running `CONFIG_CMD` command: before the commit point it rolls back; at or after it, and where fuses are being blown,
the command goes on and ends `TOO_LATE` (R9, R50). -/
def cfgAbort (s : State) : State :=
  match s.get CONFIG_CMD_CODE, decide (s.get CONFIG_STAT_PHASE < 6), decide (s.get CONFIG_STAT_PHASE < 5) with
  | 1, true, _ => cfgEnd stAborted (writeTime s)
  | 2, _, true => cfgEnd stAborted (reconfTime (reconfBack s))
  | _, _, _ => s.set (cmdLate 0) 1

end Sys2Proof.Machine
end

