-- ==== Sys2Proof/Machine/Bist.lean ====
section
/-!
DEFINITION. Self-test and repair (16_self_test_and_repair): runs and their scheduler, results and the soft-repair map, `BURN`, the debug levels
and the scan instructions. What a test finds comes from outside, as the failing bits and test points; what follows from it is here.
-/

namespace Sys2Proof.Machine
open Reg

def bistCmd : CmdReg := ⟨BIST_CMD_CODE, BIST_CMD_STATUS⟩
def dbgCmd : CmdReg := ⟨BIST_DBG_CMD_CODE, BIST_DBG_CMD_STATUS⟩

/-! ### Groups and the scheduler (R460, R463) -/

/-- Power in 0.1 W and longest time in µs of Yard group `g`; group 8's time follows its range. -/
def yardGroup (g : Nat) (s : State) : Nat × Nat :=
  [(18, 4000), (2, 1000), (14, 8000), (3, 500), (3, 2000), (1, 100), (1, 200), (2, 200), (20, s.get BIST_DRAM_LEN_LEN * 66 + 1000)].getD g (0, 0)

/-- Power and longest time of Stall group `g`. -/
def stallGroup (g : Nat) : Nat × Nat :=
  [(3, 200), (1, 100), (3, 500), (4, 2000), (3, 500), (2, 1000), (5, 2000), (4, 1000)].getD g (0, 0)

/-- Sum of the running groups' powers; each entry is (end, power). -/
def runPower (l : List (Nat × Nat)) : Nat := (l.map Prod.snd).sum

/-- Wait until a group of power `p` fits the budget: the earliest ends pass one after the other. -/
def schedWait (budget p : Nat) : Nat → Nat → List (Nat × Nat) → Nat × List (Nat × Nat)
  | 0, now, l => (now, l)
  | f + 1, now, l =>
    if runPower l + p ≤ budget then (now, l)
    else match l with
      | [] => (now, l)
      | a :: r =>
        let e := r.foldl (fun b x => min b x.1) a.1
        schedWait budget p f (max now e) (l.filter (fun x => decide (e < x.1)))

/-- The highest sum the scheduler reaches over groups in table order (R463). -/
def schedPeak (budget : Nat) : List (Nat × Nat) → Nat → List (Nat × Nat) → Nat
  | [], _, _ => 0
  | (p, d) :: r, now, l =>
    let (now, l) := schedWait budget p (l.length + 1) now l
    let l := l ++ [(now + d, p)]
    max (runPower l) (schedPeak budget r now l)

/-- Groups of a mask. -/
def groupsOf (k m : Nat) : List Nat := (List.range k).filter (fun g => bitAt m g)

/-- Groups of a run, in table order, as (power, time). -/
def runGroups (ym sm : Nat) (l : List Nat) (s : State) : List (Nat × Nat) :=
  (groupsOf 9 ym).map (fun g => yardGroup g s) ++ l.flatMap (fun _ => (groupsOf 8 sm).map stallGroup)

/-! ### The repair maps (R466 to R469) -/

/-- A memory group: its failing tiles are replaced. -/
def memoryGroup (d g : Nat) : Bool := if d = 0 then decide (g < 4) else g == 7

/-- Spare tiles of a memory (R467). -/
def spareTiles (d g : Nat) : Nat := if d = 0 then [4, 2, 8, 2].getD g 0 else 2

/-- Tile of 4 KiB that holds a word: 32-bit words, 64-bit in the Cellar. -/
def tileOf (f : BistFail) : Nat := if f.dom = 0 ∧ f.grp = 2 then f.addr.toNat / 512 else f.addr.toNat / 1024

/-- Domain, group, element of soft-map entry `j`. -/
def mapAt (j d g e : Nat) (s : State) : Bool :=
  s.flag (BIST_MAPj_VALID j) && s.get (BIST_MAPj_DOMAIN j) == d && s.get (BIST_MAPj_GROUP j) == g && s.get (BIST_MAPj_ELEM j) == e

/-- The soft-map entry for a tile (0 for an element). -/
def mapFind (d g e t : Nat) (s : State) : Option Nat := firstBelow 64 (fun j => mapAt j d g e s && s.get (BIST_MAPj_TILE j) == t)

/-- Fuse-map entry `i` names a domain, group and element. -/
def fuseAt (i d g e : Nat) (s : State) : Bool :=
  let w := s.get (BIST_FUSEj_W i)
  bitAt w 31 && bits w 26 4 == d && bits w 22 4 == g && bits w 18 4 == e

/-- The elements that share spare tiles with element `e`: each Yoke copy has its own, any other memory has them for all (R467). -/
def spareMates (d g e : Nat) : List Nat := if d = 0 ∧ g = 0 then [e] else List.range 16

/-- The lowest spare tile of the memory that neither map uses. -/
def spareFree (d g e : Nat) (s : State) : Option Nat :=
  let l := spareMates d g e
  firstBelow (spareTiles d g) (fun k =>
    (List.range 64).all (fun j => !(l.any (fun e => mapAt j d g e s) && s.get (BIST_MAPj_SPARE j) == k)) &&
    (List.range 64).all (fun i => !(l.any (fun e => fuseAt i d g e s) && bits (s.get (BIST_FUSEj_W i)) 14 4 == k)))

/-- A new soft-map entry; none is free: no repair. -/
def mapAdd (d g e spare tile : Nat) (s : State) : Option State :=
  (firstBelow 64 (fun j => !s.flag (BIST_MAPj_VALID j))).map (fun j =>
    let s := ((s.set (BIST_MAPj_VALID j) 1).set (BIST_MAPj_FUSED j) 0).set (BIST_MAPj_DOMAIN j) d
    let s := ((s.set (BIST_MAPj_GROUP j) g).set (BIST_MAPj_ELEM j) e).set (BIST_MAPj_SPARE j) spare
    s.set (BIST_MAPj_TILE j) tile)

/-- Whether soft-map entry `j` is the spare converter's, which stays where it is until device reset (R98). -/
def mapSpareConv (j : Nat) (s : State) : Bool :=
  s.flag BIST_SPARE_CONV_VALID && mapAt j (s.get BIST_SPARE_CONV_STALL + 1) 0 (s.get BIST_SPARE_CONV_C) s

/-- A run that tests group `g` of domain `d` renews its part of the map: entries that are not fused go (R467), but for the spare
converter's. -/
def mapRenew (d g : Nat) (s : State) : State :=
  s.each (List.range 64) (fun j s =>
    s.when (s.flag (BIST_MAPj_VALID j) && !s.flag (BIST_MAPj_FUSED j) && s.get (BIST_MAPj_DOMAIN j) == d && s.get (BIST_MAPj_GROUP j) == g &&
        !mapSpareConv j s)
      (fun s => ((((s.set (BIST_MAPj_VALID j) 0).set (BIST_MAPj_DOMAIN j) 0).set (BIST_MAPj_GROUP j) 0).set (BIST_MAPj_ELEM j) 0
        |>.set (BIST_MAPj_SPARE j) 0).set (BIST_MAPj_TILE j) 0))

/-- Replace the tile of a failing bit, unless it is replaced already. -/
def tileRepair (f : BistFail) (s : State) : State :=
  let d := f.dom.toNat
  let g := f.grp.toNat
  let e := f.elem.toNat
  if (mapFind d g e (tileOf f) s).isSome then s
  else match spareFree d g e s with
    | none => s
    | some k => (mapAdd d g e k (tileOf f) s).getD s

/-- Whether a failure is repaired. -/
def repaired (s : State) (f : BistFail) : Bool :=
  (mapFind f.dom.toNat f.grp.toNat f.elem.toNat (if memoryGroup f.dom.toNat f.grp.toNat then tileOf f else 0) s).isSome

/-- Failing elements of a group, in order. -/
def failing (d g : Nat) (l : List BistFail) : List Nat :=
  (List.range 16).filter (fun e => l.any (fun f => f.dom.toNat == d && f.grp.toNat == g && f.elem.toNat == e))

/-! ### Elements (R468) -/

/-- Spare monitor `k`'s byte. -/
def spareMon (k : Nat) (s : State) : Nat := bits (s.get BIST_SPARE_MON_S) (8 * k) 8
def setSpareMon (k v : Nat) (s : State) : State := s.set BIST_SPARE_MON_S (putBits (s.get BIST_SPARE_MON_S) (8 * k) 8 v)

/-- A free spare monitor. -/
def spareMonFree (s : State) : Option Nat := firstBelow 4 (fun k => !bitAt (spareMon k s) 7 && !bitAt (s.get BIST_SPARE_STAT_MON_FAIL) k)

/-- The spare monitors of Stall `n` that are not fused are free again (R125). -/
def spareMonRenew (n : Nat) (s : State) : State :=
  let s := s.each [0, 1, 2, 3] (fun k s =>
    let v := spareMon k s
    s.when (bitAt v 7 && !bitAt v 6 && bits v 4 2 == n) (fun s => setSpareMon k 0 (s.set (MON_Mm_STAT_SPARE n (v % 16)) 0)))
  s.each (List.range 12) (fun m s => s.set (MON_Mm_STAT_FAILED n m) 0)

/-- The causes and the event of a failed monitor without a spare (R126). -/
def monFailedRaise (n m : Nat) (s : State) : State :=
  if s.flag (MON_Mm_CFG_PROT n m) then raiseStallFault n 2 2 .stallSafe s else raiseStallFault n 2 3 .ride s

/-- Monitor `m` of Stall `n` fails its test (R125, R126); `boot`: its `PROT` is not loaded yet, and the cause follows the load. -/
def monRepair (boot : Bool) (n m : Nat) (s : State) : State :=
  match spareMonFree s with
  | some k =>
    let s := setSpareMon k (0x80 + 16 * n + m) (s.set (MON_Mm_STAT_SPARE n m) 1)
    let s := (mapAdd (n + 1) 2 m 0 0 s).getD s
    raiseStallFault n 2 1 .ride (raiseStall n 0x33 (s.when (s.flag (MON_Mm_CFG_EN n m)) (monStart n m)))
  | none =>
    let s := raiseStall n 0x34 (monFailedHold n m (s.set (MON_Mm_STAT_FAILED n m) 1))
    s.when (!boot) (monFailedRaise n m)

/-- Converter `c` of Stall `n` fails its test (R97, R98); `spareOk` the spare's own check. -/
def convRepair (spareOk : Bool) (n c : Nat) (s : State) : State :=
  let s := raiseStall n 0x24 ((s.set (SENSE_Cc_STAT_FAILED n c) 1).set (SENSE_Cc_STAT_OUT n c) 1)
  if s.flag (SENSE_Cc_STAT_SPARE n c) then raiseStallFault n 1 3 .ride (s.set BIST_SPARE_STAT_CONV_FAIL 1)
  else if s.flag BIST_SPARE_CONV_VALID || s.flag BIST_SPARE_STAT_CONV_FAIL || s.get spareReq != 0 then raiseStallFault n 1 3 .ride s
  else if spareOk then
    let s := ((s.set BIST_SPARE_CONV_VALID 1).set BIST_SPARE_CONV_STALL n).set BIST_SPARE_CONV_C c
    let s := (s.set (SENSE_Cc_STAT_SPARE n c) 1).set (SENSE_Cc_STAT_OUT n c) 0
    let s := (s.set (SENSE_Cc_FG_FG n c) (s.get spareFg)).set (SENSE_Cc_FO_FO n c) (s.get spareFo)
    let s := (mapAdd (n + 1) 0 c 0 0 s).getD s
    raiseStallFault n 1 2 .ride (raiseStall n 0x25 s)
  else raiseStallFault n 1 3 .ride (s.set BIST_SPARE_STAT_CONV_FAIL 1)

/-- Converter `c` passes: one that failed without a spare returns to service (R97). -/
def convPass (n c : Nat) (s : State) : State :=
  s.when (s.flag (SENSE_Cc_STAT_FAILED n c) && !s.flag (SENSE_Cc_STAT_SPARE n c))
    (fun s => (s.set (SENSE_Cc_STAT_FAILED n c) 0).set (SENSE_Cc_STAT_OUT n c) 0)

/-- The Remount, if it repairs an engine of Stall `n`, is free again: a run renews the map (R468). -/
def engineRenew (n : Nat) (s : State) : State :=
  s.when (s.flag remRepair && holdsRemount n s) (fun s => remountRelease n (s.set remRepair 0))

/-- Engines of Stall `n` after group 6: those in `l` failed; one failed engine is replaced by the Remount where it is free (R468). -/
def engineRepair (n : Nat) (l : List Nat) (s : State) : State :=
  let s := (s.setB (LOOP_STAT_A_FAILED n) (l.contains 0)).setB (LOOP_STAT_B_FAILED n) (l.contains 1)
  let s := (s.setB (LOOP_STAT_ENG_A n) (!l.contains 0)).setB (LOOP_STAT_ENG_B n) (!l.contains 1)
  match l with
  | [e] =>
    if s.flag REMOUNT_CTRL_EN && !s.flag REMOUNT_STAT_FAILED && !s.flag REMOUNT_STAT_HELD then
      match mapAdd (n + 1) 6 e 0 0 s with
      | some s => ((remountGrant n s).set REMOUNT_STAT_PAIRED 1).set remRepair 1 |>.set (LOOP_STAT_ENG_R n) 1
      | none => s
    else s
  | _ => s

/-! ### The swap (R465, R466, R470) -/

/-- Failure entry `j` of the last run; `BIT` of an analog or logic group is 0 (R466). -/
def failEntry (j : Nat) (f : BistFail) (rep : Bool) (s : State) : State :=
  let bit := if memoryGroup f.dom.toNat f.grp.toNat ∨ (f.dom = 0 ∧ f.grp = 8) then f.bit.toNat else 0
  let s := ((s.set (BIST_FAILj_INFO_DOMAIN j) f.dom.toNat).set (BIST_FAILj_INFO_GROUP j) f.grp.toNat).set (BIST_FAILj_INFO_ELEM j) f.elem.toNat
  ((s.setB (BIST_FAILj_INFO_REPAIRED j) rep).set (BIST_FAILj_INFO_BIT j) bit).set (BIST_FAILj_ADDR_ADDR j) f.addr.toNat

/-- Every failure entry returns to 0. -/
def failClear (s : State) : State := s.each (List.range 64) (fun j => failEntry j ⟨0, 0, 0, 0, 0⟩ false)

/-- Outcome of group `g` of domain `d` (R466). -/
def outcome (d g : Nat) (l : List BistFail) (s : State) : Nat :=
  let m := l.filter (fun f => f.dom.toNat == d && f.grp.toNat == g)
  if m.isEmpty then 1 else if m.all (repaired s) then 2 else 3

/-- Stall groups whose failure holds the Stall (R470): filters, Rein links, placers, memories; and engines without the Remount. -/
def holdsStall (g : Nat) : Bool := g == 1 || g == 4 || g == 5 || g == 6 || g == 7

/-- The spare elements that this run found failed, before any is assigned: the Remount, which stays failed until a device reset, the spare
converter, spare monitors (R125, R197, R468). -/
def spareResults (ym : Nat) (l : List BistFail) (s : State) : State :=
  let bad := fun g => !(failing 0 g l).isEmpty
  let s := s.when (bitAt ym 4 && bad 4) (fun s => s.set REMOUNT_STAT_FAILED 1)
  let s := s.when (bitAt ym 5) (fun s => s.setB BIST_SPARE_STAT_CONV_FAIL (bad 5))
  s.when (bitAt ym 6) (fun s => s.set BIST_SPARE_STAT_MON_FAIL (((failing 0 6 l).map (fun k => 2 ^ k)).sum))

/-- What follows an unrepaired failure in the Yard (R470). -/
def yardCauses (ym : Nat) (l : List BistFail) (s : State) : State :=
  let bad := fun g (s : State) => bitAt ym g && outcome 0 g l s == 3
  let copies := (failing 0 0 l).filter (fun c => (l.filter (fun f => f.dom = 0 ∧ f.grp = 0 ∧ f.elem.toNat = c)).any (fun f => !repaired s f))
  let s := if !bad 0 s then s
    else match copies with
      | [c] => raiseFault (yardCode 12 1) .ride (((s.setBit YOKE_STAT_FAILED c true).set YOKE_STAT_MODE 1).set YOKE_STAT_MARKED c)
      | _ => raiseFault (yardCode 12 2) .deviceSafe s
  let s := s.each [1, 2, 3] (fun g s => s.when (bad g s) (raiseFault (yardCode 12 (2 + g)) .deviceSafe))
  let s := s.when (bad 4 s) (raiseFault (yardCode 12 6) .ride)
  let s := s.when (bad 5 s) (raiseFault (yardCode 12 7) .ride)
  let s := s.each (if bitAt ym 6 then failing 0 6 l else []) (fun _ => raiseFault (yardCode 12 8) .ride)
  let s := s.when (bitAt ym 7 && (failing 0 7 l).contains 0) (raiseFault (yardCode 12 9) .deviceSafe)
  let s := s.when (bitAt ym 7 && (failing 0 7 l).contains 1) (raiseFault (yardCode 12 0xA) .ride)
  s.when (bad 8 s) (raiseFault (yardCode 12 0xB) .ride)

/-- Keep `HELD` of Stall `n`. -/
def heldShow (n : Nat) (s : State) : State := s.setBit BIST_STAT_HELD n ((List.range 8).any (fun g => s.flag (bistHeldGrp n g)))

/-- Spare elements of the tested groups of Stall `n` that are not fused are free again, before any Stall takes one (R125, R468). -/
def stallRenew (sm n : Nat) (s : State) : State :=
  let fused := (List.range 64).any (fun i => (List.range 2).any (fun e => fuseAt i (n + 1) 6 e s))
  (s.when (bitAt sm 2) (spareMonRenew n)).when (bitAt sm 6 && !fused) (engineRenew n)

/-- The resolver interface of Stall `n` fails its test: cause 0x03 of its home chapter (R134, R470), of the class that R165 gives a sensor
with no observer to take over where no resolver is in use. -/
def resolverFails (n : Nat) (s : State) : State :=
  let s := s.set (POS_STAT_EXC_FAULT n) 1
  if posOn n s && posPrim n s == 1 && !s.flag (POS_STAT_SFAIL n) then sensorFailed n 3 s else raiseStallFault n 3 3 .stallSafe s

/-- The tested groups of Stall `n` take their outcome: elements repaired, the Stall held where a failure stands. -/
def stallResults (boot spareOk : Bool) (sm : Nat) (l : List BistFail) (n : Nat) (s : State) : State :=
  let el := fun g => failing (n + 1) g l
  let s := s.when (bitAt sm 0) (fun s => (s.each [0, 1, 2, 3] (fun c s => if (el 0).contains c then convRepair spareOk n c s else convPass n c s)))
  let s := s.when (bitAt sm 2) (fun s => s.each (el 2) (monRepair boot n))
  let s := s.when (bitAt sm 3 && !(el 3).isEmpty) (resolverFails n)
  let fused := (List.range 64).any (fun i => (List.range 2).any (fun e => fuseAt i (n + 1) 6 e s))
  let s := s.when (bitAt sm 6 && !fused) (engineRepair n (el 6))
  let res := fun g => outcome (n + 1) g l s
  let s := s.set (BIST_RES_n_G n) (((groupsOf 8 sm).map (fun g => res g * 4 ^ g)).sum)
  let was := bitAt (s.get BIST_STAT_HELD) n
  let s := s.each (groupsOf 8 sm) (fun g s => s.setB (bistHeldGrp n g) (holdsStall g && res g == 3))
  let s := heldShow n s
  let bad := (groupsOf 8 sm).any (fun g => holdsStall g && res g == 3)
  s.when (bad || (bitAt (s.get BIST_STAT_HELD) n && !was))
    (fun s => stallSafe n (yardCode 12 (0x10 + n)) (raiseFault (yardCode 12 (0x10 + n)) .stallSafe s))

/-- The swap: results and the renewed map take the place of the old ones (R465). `ym` and `sm` the groups tested, `st` the Stalls. -/
def bistSwap (kind ym sm : Nat) (st : List Nat) (spareOk : Bool) (l : List BistFail) (s : State) : State :=
  let boot := kind == 1
  let l := l.filter (fun f => (f.dom.toNat == 0 && bitAt ym f.grp.toNat) || (f.dom.toNat != 0 && st.contains (f.dom.toNat - 1) && bitAt sm f.grp.toNat))
  let s := (s.set BIST_STAT_KIND kind).setWide BIST_RES_TB_LO_TB BIST_RES_TB_HI_TB s.now
  let s := s.each (groupsOf 9 ym) (mapRenew 0)
  let s := s.each st (fun n s => s.each (groupsOf 8 sm) (mapRenew (n + 1)))
  let s := (l.filter (fun f => memoryGroup f.dom.toNat f.grp.toNat)).foldl (fun s f => tileRepair f s) s
  let s := s.when (ym != 0) (fun s => s.set BIST_RES_Y_G (((groupsOf 9 ym).map (fun g => outcome 0 g l s * 4 ^ g)).sum))
  let s := (spareResults ym l s).each st (stallRenew sm)
  let s := s.each st (stallResults boot spareOk sm l) |> yardCauses ym l
  let s := failClear s
  let s := ((l.take 64).zip (List.range 64)).foldl (fun s e => failEntry e.2 e.1 (repaired s e.1) s) s
  (s.set BIST_FAIL_CNT_COUNT (min 64 l.length)).set BIST_FAIL_CNT_LOST (clampU 16 (l.length - 64))

/-! ### Runs in service (R461, R462, R464) -/

/-- Whether the budget is below the power of a named group. -/
def overBudget (l : List (Nat × Nat)) (s : State) : Bool := l.any (fun g => decide (s.get BIST_PWR_BUDGET < g.1))

/-- Range of group 8: first address and end. -/
def dramRange (s : State) : Nat × Nat :=
  let a := s.getWide BIST_DRAM_BASE_LO_ADDR BIST_DRAM_BASE_HI_ADDR
  (a, a + s.get BIST_DRAM_LEN_LEN * 0x10000)

/-- Whether the range is 64 KiB aligned and lies in the Yoke table windows and the Innkeeper partition. -/
def dramRangeOk (s : State) : Bool :=
  let (a, e) := dramRange s
  a % 0x10000 == 0 && decide (0x100000000 + ringSize s ≤ a) && decide (e ≤ 0x300000000)

/-- Reason that refuses `RUN` (R462); 0 none. -/
def runReason (s : State) : Nat :=
  let m := s.get BIST_CFG_YGRP
  if m % 16 ≠ 0 ∨ m = 0 then 2
  else if bitAt m 4 ∧ s.flag REMOUNT_STAT_HELD then 3
  else if bitAt m 7 ∧ ([0, 1].any (fun k => s.flag (AUX_Ak_CTRL_EN k) || s.flag (AUX_Ak_STAT_DEMAND k)) ∨ linkState 12 s ≠ 0 ∨ linkState 13 s ≠ 0) then 4
  else if bitAt m 8 ∧ !dramRangeOk s then 5
  else if overBudget (runGroups m 0 [] s) s then 8
  else 0

/-- Reason that refuses `RETEST` (R462); 0 none. -/
def retestReason (s : State) : Nat :=
  let n := s.get BIST_CFG_RSTALL
  let l := pairList n s
  let cfg := fun p => s.busy cfgCmd && s.get CONFIG_CMD_CODE == 2 && bitAt (s.get cfgMask) p
  if s.get (PWM_CTRL_PAIR n) = 2 ∨ !l.all (fun p => isolable p s || (s.get (PWM_STAT_STATE p) == 4 && bitAt (s.get BIST_STAT_HELD) p)) then 6
  else if l.any (fun p => s.busy (calCmd p) || training p s || cfg p) then 7
  else if overBudget (runGroups 0 (s.get BIST_CFG_SGRP) l s) s then 8
  else 0

/-- A refused command. -/
def bistRefuse (r : Nat) (s : State) : State := raiseEvent 0x00E (s.set BIST_STAT_ERR r)

/-- BIST_RUN (R461, R462): its highest scheduled sum is known with its groups. -/
def execBistRun (s : State) : Out :=
  let r := runReason s
  ok (s.cmdStart bistCmd 1 (r == 0) stBusy (fun s =>
    let s := s.set BIST_PWR_PEAK (schedPeak (s.get BIST_PWR_BUDGET) (runGroups (s.get BIST_CFG_YGRP) 0 [] s) 0 [])
    let (a, e) := dramRange s
    (((s.set bistAt s.now).set bistGrp (s.get BIST_CFG_YGRP)).set bistLo a).set bistHi e) (bistRefuse r))

/-- RETEST (R464 step 1). -/
def execRetest (s : State) : Out :=
  let r := retestReason s
  let l := pairList (s.get BIST_CFG_RSTALL) s
  ok (s.cmdStart bistCmd 2 (r == 0) stBusy (fun s =>
    let s := s.set BIST_PWR_PEAK (schedPeak (s.get BIST_PWR_BUDGET) (runGroups 0 (s.get BIST_CFG_SGRP) l s) 0 [])
    let s := ((s.set bistAt s.now).set bistMask ((l.map (fun p => 2 ^ p)).sum)).set BIST_STAT_PHASE 1
    let s := ((s.set bistAborted 0).set bistSwapped 0).set bistGrp (s.get BIST_CFG_SGRP)
    s.each l isolate) (bistRefuse r))

/-- Stalls of the running retest. -/
def bistStalls (s : State) : List Nat := [0, 1, 2, 3].filter (fun n => bitAt (s.get bistMask) n)

/-- EV_BIST_DONE (R465): the tests end and the swap is made; a `RUN` ends with it, a `RETEST` goes on. A `RETEST` swaps 0.1 ms and 0.1 µs
after its start at the earliest (R464). -/
def execEvBistDone (fails : List BistFail) (spareOk : Bool) (s : State) : Out :=
  ok (if !s.busy bistCmd then s
  else if s.get BIST_CMD_CODE = 1 then
    let m := s.get bistGrp
    let s := bistSwap 2 m 0 [] spareOk (fails.filter (fun f => f.dom == 0)) s
    let s := s.when (bitAt m 8) (fun s => { s with mem := memErase (s.get bistLo) (s.get bistHi - s.get bistLo) s.mem })
    raiseEvent 0x00E (s.cmdEnd bistCmd stDone)
  else if s.get BIST_CMD_CODE = 2 ∧ !s.flag bistAborted ∧ !s.flag bistSwapped ∧ s.get bistAt + 20020 ≤ s.now then
    let s := bistSwap 3 0 (s.get bistGrp) (bistStalls s) spareOk (fails.filter (fun f => f.dom != 0)) s
    ((s.set bistSwapped 1).set bistRegAt s.now).set BIST_STAT_PHASE 4
  else s)

/-- A tested Stall is reset, reloaded and released (R464 steps 4 and 5). -/
def retestStall (links : Bool) (n : Nat) (s : State) : State :=
  let s := stallLoad n (stallClear links n s)
  let s := s.when (bitAt (s.get BIST_STAT_HELD) n) (fun s => govUpdate (s.set (PWM_STAT_STATE n) 4))
  raiseStall n 0x09 s

/-- EV_RETEST_DONE (R464): step 4 has taken 0.2 ms or more; the retested Stalls are released, whatever an abort left (R465). -/
def execEvRetestDone (s : State) : Out :=
  ok (s.when (s.busy bistCmd && s.get BIST_CMD_CODE == 2 && (s.flag bistSwapped || s.flag bistAborted) &&
      decide (s.get bistRegAt + 40000 ≤ s.now)) (fun s =>
    let s := (logReset s).each (bistStalls s) (retestStall (bitAt (s.get bistGrp) 4))
    let st := if s.flag bistAborted then stAborted else if s.flag (cmdLate 2) then stTooLate else stDone
    let s := (((s.set bistMask 0).set bistSwapped 0).set bistAborted 0).set (cmdLate 2) 0
    raiseEvent 0x00E ((s.set BIST_STAT_PHASE 0).cmdEnd bistCmd st)))

/-- An abort of the running `BIST_CMD` command (R465): a `RUN` ends at once; a `RETEST` still resets and releases its Stalls. -/
def bistAbort (s : State) : State :=
  match s.get BIST_CMD_CODE with
  | 1 => raiseEvent 0x00E (s.cmdEnd bistCmd stAborted)
  | 2 => if s.flag bistSwapped then s.set (cmdLate 2) 1 else ((s.set bistAborted 1).set bistRegAt s.now).set BIST_STAT_PHASE 4
  | _ => s.set (cmdLate 2) 1

/-! ### BURN (R469) -/

/-- BURN. -/
def execBurn (s : State) : Out :=
  let bad := [0, 1, 2, 3].any (fun n => switching n s) || [0, 1].any (fun k => s.flag (AUX_Ak_CTRL_EN k))
  ok (s.cmdStart bistCmd 3 (!bad) stBusy (fun s => s.set bistAt s.now) (bistRefuse 9))

/-- Assignments of spare elements that are now fused read so. -/
def fusedShow (s : State) : State :=
  let has := fun d g e (s : State) => (List.range 64).any (fun j => mapAt j d g e s && s.flag (BIST_MAPj_FUSED j))
  let s := s.when (s.flag BIST_SPARE_CONV_VALID && has (s.get BIST_SPARE_CONV_STALL + 1) 0 (s.get BIST_SPARE_CONV_C) s) (fun s => s.set BIST_SPARE_CONV_FUSED 1)
  s.each [0, 1, 2, 3] (fun k s =>
    let v := spareMon k s
    s.when (bitAt v 7 && has (bits v 4 2 + 1) 2 (v % 16) s) (fun s => setSpareMon k (putBit v 6 true) s))

/-- BURN_DONE (R469): an accepted abort, which cannot stop the fuses, makes it end `TOO_LATE`; every entry verified, or
`stop` of them were blown and the next did not verify, its fuses left free. -/
def execBurnDone (stop : Option (BitVec 7)) (s : State) : Out :=
  ok (s.when (s.busy bistCmd && s.get BIST_CMD_CODE == 3) (fun s =>
    let l := burnList s
    let (fit, s) := burnAll (match stop with | none => l | some k => l.take k.toNat) s
    let s := match stop, firstBelow 64 (fun i => s.get (BIST_FUSEj_W i) == 0) with
      | some _, some i => let (v, s) := freeWords 1 s; s.set (BIST_FUSEj_W i) v
      | _, _ => s
    let s := fusedShow s
    let s := if fit && stop.isNone then s.cmdEnd bistCmd (if s.flag (cmdLate 2) then stTooLate else stDone)
      else raiseFault (yardCode 12 0xC) .ride (s.cmdEnd bistCmd (if s.flag (cmdLate 2) then stTooLate else stFailed))
    raiseEvent 0x00E (s.set (cmdLate 2) 0)))

/-! ### The boot run (R461, R467, R469) -/

/-- The fuse map's spare elements belong to their positions (R469); a fused spare raises nothing at boot (log entry 117). -/
def fuseApply (s : State) : State :=
  s.each (List.range 64) (fun i s =>
    let w := s.get (BIST_FUSEj_W i)
    let n := bits w 26 4 - 1
    let e := bits w 18 4
    if !bitAt w 31 ∨ bits w 26 4 = 0 ∨ 4 < bits w 26 4 then s
    else match bits w 22 4 with
      | 0 =>
        let s := (((s.set BIST_SPARE_CONV_VALID 1).set BIST_SPARE_CONV_FUSED 1).set BIST_SPARE_CONV_STALL n).set BIST_SPARE_CONV_C e
        ((s.set (SENSE_Cc_STAT_SPARE n e) 1).set (SENSE_Cc_FG_FG n e) (s.get spareFg)).set (SENSE_Cc_FO_FO n e) (s.get spareFo)
      | 2 =>
        (match spareMonFree s with
        | some k => setSpareMon k (0xC0 + 16 * n + e) (s.set (MON_Mm_STAT_SPARE n e) 1)
        | none => s)
      | 6 =>
        let s := ((s.setB (LOOP_STAT_A_FAILED n) (e == 0)).setB (LOOP_STAT_B_FAILED n) (e == 1))
        let s := (s.setB (LOOP_STAT_ENG_A n) (e != 0)).setB (LOOP_STAT_ENG_B n) (e != 1)
        (((s.set REMOUNT_STAT_HELD 1).set REMOUNT_STAT_PAIRED 1).set REMOUNT_STAT_STALL n).set remRepair 1 |>.set (LOOP_STAT_ENG_R n) 1
      | _ => s)

/-- The boot run's results (R461): the soft-repair map is renewed as a whole, fused elements first. -/
def bootRun (fails : List BistFail) (spareOk : Bool) (s : State) : State :=
  let s := s.each (List.range 64) (fun j s => s.set (BIST_MAPj_VALID j) 0 |>.set (BIST_MAPj_FUSED j) 0)
  let s := (((s.set BIST_SPARE_CONV_VALID 0).set BIST_SPARE_CONV_FUSED 0).set BIST_SPARE_CONV_STALL 0).set BIST_SPARE_CONV_C 0
  let s := s.each [0, 1, 2, 3] (fun n s => s.each (List.range 8) (fun g s => s.set (bistHeldGrp n g) 0))
  let s := fuseApply ((s.set BIST_SPARE_MON_S 0).set BIST_STAT_HELD 0)
  let s := s.set BIST_PWR_PEAK (schedPeak 95 (runGroups 0xFF 0xFF [0, 1, 2, 3] s) 0 [])
  let s := bistSwap 1 0xFF 0xFF [0, 1, 2, 3] spareOk fails s
  let s := s.each [0, 1, 2, 3] (fun n s => s.when (bitAt (s.get BIST_STAT_HELD) n) (fun s => s.set (PWM_STAT_STATE n) 4))
  raiseEvent 0x00E s

/-! ### The debug port (R471 to R473) -/

/-- The level changes (R471); an open fuse keeps it at 2. -/
def dbgLevel (v : Nat) (s : State) : State :=
  if s.flag BIST_DBG_CLOSED && s.get BIST_DBG_LEVEL != v then raiseEvent 0x00F (s.set BIST_DBG_LEVEL v) else s

/-- CLOSE. -/
def execClose (s : State) : Out := ok (s.cmdStart dbgCmd 0x10 true stDone (dbgLevel 0) id)

/-- OPEN_READ. -/
def execOpenRead (s : State) : Out := ok (s.cmdStart dbgCmd 0x11 true stDone (dbgLevel 1) id)

/-- OPEN_WRITE. -/
def execOpenWrite (s : State) : Out := ok (s.cmdStart dbgCmd 0x12 true stDone (dbgLevel 2) id)

/-- LOCKDOWN: the level falls at the next reset or `CLOSE`. -/
def execLockdown (s : State) : Out := ok (s.cmdStart dbgCmd 0x20 true stDone (fun s => (s.set dbgClosed 1).set BIST_DBG_CLOSED 1) id)

/-- EXTEST (R472): while it is held, contactor commands stay open. Another instruction, or `BYPASS` in its place, ends it. -/
def execExtest (on : Bool) (s : State) : Out :=
  ok (ctcApply true ((debugSeen .d s).setB extestOn (on && scanAllowed s)))

/-- INTSCAN (R473): `clean`, every read-back found zero. -/
def execIntscan (clean : Bool) (s : State) : Out :=
  let s := debugSeen .d s
  ok (s.when (scanAllowed s) (fun s =>
    let s := deviceReset 7 0 s
    let s := s.each (List.range 8) (fun k s => s.set (keyWork k) 0)
    let m := memErase 0x100000000 0x200000000 (memErase 0x10000000 0x30030000 s.mem)
    { s with mem := m }.set scanOn (if clean then 1 else 2)))

end Sys2Proof.Machine
end

