-- ==== Sys2Proof/Machine/Power.lean ====
section
/-!
DEFINITION. The POWER block and the resets (17_power_reset_boot, R475 to R490): supply thresholds, measurements, sensor supplies, the
reset commands, Lantern mode and off. The boot is in Machine/Boot.lean.
-/

namespace Sys2Proof.Machine
open Reg

/-! ### Supply (R478 to R483) -/

/-- POWER_UP (R482): VIN crosses VIN_ON; the power-on reset stays asserted until the rails are in band. -/
def execPowerUp (s : State) : Out :=
  ok (s.when (s.get offState != 0) (fun s => (((powerOnReset 0 s).set offState 0).set resetHeld 2).set ioUp 0))

/-- POR_RELEASE (R482 step 4): a low `RESET_L` holds it. -/
def execPorRelease (pin : Bool) (s : State) : Out :=
  ok (s.when (s.get resetHeld == 2 && s.get offState == 0) (fun s => (s.setB SYS_PINS_RESET_L pin).when pin (fun s => (s.set resetHeld 0).set ioUp 1)))

/-- POWER_ON_RESET (R483): VIN below VIN_UV takes the supply away too, from a device that is switched off as well (R499). Outputs go
high-impedance with `VIO18`: without a supply, and free where a rail has left its band that the command does not name (log entry 108). -/
def execPowerOnReset (src : Fin 2) (s : State) : Out :=
  ok (if s.get offState = 0 then
      let s := (powerOnReset src s).set resetHeld 2
      if src = 0 then (s.set offState 2).set ioUp 0
      else (s.set ioUp (Config.fresh s.freeCount).toNat).draw
    else s.when (src == 0) (fun s => s.set offState 2))

/-- EV_VIN_LOW (R481, R405). -/
def execEvVinLow (s : State) : Out :=
  ok (s.when (s.flag vinArmed) (fun s =>
    let s := ((s.set vinArmed 0).set POWER_STAT_VIN_LOW 1).set POWER_STAT_LOW_SEEN 1
    let s := raiseEvent 0x023 (raiseFault (yardCode 13 1) .ride s)
    s.when (!s.flag TB_STATUS_LANTERN) ledPowerLoss))

/-- EV_VIN_HIGH (R481). -/
def execEvVinHigh (s : State) : Out :=
  ok (s.when (!s.flag POWER_STAT_VIN_HIGH) (fun s =>
    raiseEvent 0x038 (raiseFault (yardCode 13 2) .ride ((s.set POWER_STAT_VIN_HIGH 1).set POWER_STAT_HIGH_SEEN 1))))

/-- VIN_HIGH_CLEAR (R481). -/
def execVinHighClear (s : State) : Out := ok (s.set POWER_STAT_VIN_HIGH 0)

/-- VSENS_OVERLOAD (R478). -/
def execVsensOverload (j : Fin 2) (s : State) : Out :=
  ok (s.when (bitAt (s.get POWER_VSENS_EN) j && !bitAt (s.get POWER_VSENS_OVL) j) (fun s =>
    raiseEvent 0x03B (raiseFault (yardCode 13 (3 + j)) .ride (s.setBit POWER_VSENS_OVL j true))))

/-- A write of `POWER_VSENS` (R478): the rise of an `EN` bit ends that output's overload. -/
def vsensWrite (who : Req) (v : Nat) (s : State) : State :=
  match regAt 0x40108034 with
  | some (r, ix) =>
    let t := debugWrite who 0x40108034 (regStore who 0x40108034 v r ix) s
    t.set POWER_VSENS_OVL (s.get POWER_VSENS_OVL &&& (3 - (t.get POWER_VSENS_EN &&& (3 - s.get POWER_VSENS_EN))))
  | none => s

/-- VSENS_ENABLE. -/
def execVsensEnable (who : Req) (v : BitVec 32) (s : State) : Out := ok (vsensWrite who v.toNat s)

/-- The band of rail `k` in operation, mV (R477). -/
def railBand (k : Nat) : Nat × Nat :=
  [(8600, 9400), (760, 840), (1067, 1133), (1710, 1890), (3135, 3465), (4950, 5050)].getD k (0, 0)

/-- The die temperature's causes, each at the onset of its condition (R480). -/
def dieJudge (die : Int) (s : State) : State :=
  let was := fun t : Int => s.flag POWER_DIE_T_VALID && decide (t ≤ s.geti POWER_DIE_T_T)
  let hot := was 2400
  let trip := was 2640
  let bad := s.flag dieBad
  if die < -880 ∨ 3200 < die then
    ((s.set POWER_DIE_T_VALID 0).set dieBad 1).when (!bad) (raiseFault (yardCode 13 7) .ride)
  else
    let s := ((s.seti POWER_DIE_T_T die).set POWER_DIE_T_VALID 1).set dieBad 0
    let s := s.when (decide (2400 ≤ die) && !hot) (fun s => raiseEvent 0x03C (raiseFault (yardCode 13 5) .ride s))
    s.when (decide (2640 ≤ die) && !trip) (raiseFault (yardCode 13 6) .deviceSafe)

/-- What one measurement brings: VIN in 10 mV, the rails in mV, the die temperature, the currents of `VSENS0` and `VSENS1`. -/
def measure (vin : BitVec 16) (rails : List (BitVec 16)) (die i0 i1 : BitVec 16) (s : State) : State :=
  let mv := fun k => (rails.getD k 0).toNat
  let s := (s.set POWER_VIN_V vin.toNat).each (List.range 6) (fun k s => s.set (POWER_RAIL_k_MV k) (mv k))
  let s := s.set POWER_STAT_RAILS (((List.range 6).map (fun k => if (railBand k).1 ≤ mv k ∧ mv k ≤ (railBand k).2 then 2 ^ k else 0)).sum)
  let s := (s.set POWER_VSENS_I_I0 i0.toNat).set POWER_VSENS_I_I1 i1.toNat
  let s := s.when (decide (3100 < vin.toNat)) (fun s => (s.set vinArmed 1).set POWER_STAT_VIN_LOW 0)
  dieJudge die.toInt s

/-- POWER_MEASURE (R480, R481): every 100 µs. -/
def execPowerMeasure (vin : BitVec 16) (rails : List (BitVec 16)) (die : BitVec 16) (i0 i1 : BitVec 16) (s : State) : Out :=
  ok (s.when (dueAfter measAt 20000 s) (fun s => measure vin rails die i0 i1 (s.set measAt (s.now + 1))))

/-! ### Resets (R485 to R489) -/

/-- RESET_L_LOW (R485). -/
def execResetLLow (s : State) : Out :=
  ok (if s.get offState ≠ 0 ∨ s.get resetHeld = 2 then s.set SYS_PINS_RESET_L 0 else deviceReset 1 0 (s.set SYS_PINS_RESET_L 0))

/-- DEVICE_RESET (R486): a device reset of a kind that R485 lists. -/
def execDeviceReset (kind : BitVec 4) (req : BitVec 2) (s : State) : Out :=
  ok (s.when (decide (1 ≤ kind.toNat) && decide (kind.toNat ≤ 7)) (deviceReset kind.toNat req.toNat))

/-- DEVICE_RESET_RELEASE (R486): after 10 us, when `RESET_L` is high; internal scan holds it (R473). -/
def execDeviceResetRelease (pin : Bool) (s : State) : Out :=
  ok (s.when (s.get resetHeld == 1) (fun s =>
    let s := s.setB SYS_PINS_RESET_L pin
    s.when (pin && decide (s.getWide SYS_RST_TB_LO_TB SYS_RST_TB_HI_TB + 2000 ≤ s.now) && s.get scanOn == 0) (fun s => s.set resetHeld 0)))

def rstCmd : CmdReg := ⟨SYS_RST_CMD_CODE, SYS_RST_CMD_STATUS⟩

/-- A reset command of `who`, which the Writer column does not name as the Sheepdog (R4, R487). -/
def rstStart (who : Req) (code : Nat) (good : Bool) (status : Nat) (run : State → State) (s : State) : State :=
  if who = .s then busErr s
  else debugWrite who SYS_RST_CMD_CODE.addr (fun s => (busOk s).cmdStart rstCmd code good status run id) s

/-- DEVICE (R487). -/
def execDevice (who : Req) (s : State) : Out := ok (rstStart who 1 true stIdle (deviceReset 2 (reqCode who)) s)

/-- YOKE (R487, R488). -/
def execYoke (who : Req) (s : State) : Out :=
  ok (rstStart who 2 (who != .y && stageIdle s && !s.flag SAFETY_STAT_DS) stDone yokeReset s)

/-- INNKEEPER (R487): casks of user 3 are freed. -/
def execInnkeeper (who : Req) (s : State) : Out :=
  ok (rstStart who 3 (who != .i) stDone (fun s => s.each (List.range 1024) (fun k s => s.when (caskOwner s k == 3) (cellarFree k))) s)

/-- A Stall reset ends a reconfiguration and a retest of the Stalls of `mask` that have not passed their commit points (R455, R465). -/
def stallMeets (mask : Nat) (s : State) : State :=
  let s := s.when (s.busy cfgCmd && s.get CONFIG_CMD_CODE == 2 && s.get cfgMask &&& mask != 0 && decide (s.get CONFIG_STAT_PHASE < 5))
    (fun s => cfgEnd stFailed (reconfTime (s.set cfgMask 0)))
  s.when (s.busy bistCmd && s.get BIST_CMD_CODE == 2 && s.get bistMask &&& mask != 0 && !s.flag bistSwapped)
    (fun s =>
      let st := if s.flag bistAborted then stAborted else stFailed
      raiseEvent 0x00E ((((s.set bistMask 0).set bistAborted 0).set BIST_STAT_PHASE 0).cmdEnd bistCmd st))

/-- STALL (R487, R489). -/
def execStall (who : Req) (n : Fin 4) (s : State) : Out :=
  let l := pairList n s
  let mask := (l.map (fun p => 2 ^ p)).sum
  ok (rstStart who (0x10 + n) (who != .i) stBusy (fun s => (stallMeets mask ((logReset s).each l (stallClear true))).set stallRst mask) s)

/-- STALL_RESET_DONE (R489): register entries and calibration are back; a held Stall stays isolated (R470). -/
def execStallResetDone (s : State) : Out :=
  ok (s.when (s.busy rstCmd && s.get stallRst != 0) (fun s =>
    let s := s.each ([0, 1, 2, 3].filter (fun n => bitAt (s.get stallRst) n)) (fun n s =>
      (stallLoad n s).when (bitAt (s.get BIST_STAT_HELD) n) (fun s => govUpdate (s.set (PWM_STAT_STATE n) 4)))
    ((s.set stallRst 0).set (cmdLate 3) 0).cmdEnd rstCmd (if s.flag (cmdLate 3) then stTooLate else stDone)))

/-- DEVRESET (R485): the debug instruction at level 2. -/
def execDevreset (s : State) : Out :=
  let s := debugSeen .d s
  ok (s.when (s.get BIST_DBG_LEVEL == 2) (deviceReset 4 0))

/-! ### Lantern mode and off (R496 to R499) -/

def powerCmd : CmdReg := ⟨POWER_CMD_CODE, POWER_CMD_STATUS⟩

/-- Reason that refuses `LANTERN` (code 1) or `OFF` (code 2); 0 none (R496). -/
def parkReason (code : Nat) (s : State) : Nat :=
  if !stageIdle s then 1
  else if s.get CTC_CTRL_CLOSE ≠ 0 then 2
  else if s.get LOGBOOK_STAT_STATE = 2 ∨ s.get LOGBOOK_STAT_STATE = 3 then 3
  else if s.busy cfgCmd || s.busy keyCmd || s.busy bistCmd || s.busy sealCmdReg || s.busy ledgerCmd || [0, 1, 2, 3].any (fun n => s.busy (calCmd n)) then 4
  else if code = 1 ∧ (!(s.flag POWER_WAKE_CFG_PIN_EN || s.flag POWER_WAKE_CFG_MON_EN || s.flag POWER_WAKE_CFG_ALARM_EN) ∨
      (s.flag POWER_WAKE_CFG_ALARM_EN ∧ !s.flag LEDGER_CAL_STAT_VALID)) then 5
  else 0

/-- Steps 1 and 2 of R497: the Logbook engine stops, and a Ledger commit starts; one that already runs serves. -/
def parkStart (s : State) : State :=
  let s := stagingDrop (s.set POWER_STAT_PHASE 1)
  let s := (s.set LOGBOOK_STAT_STATE 0).set LOGBOOK_STAT_WRAP 0
  let s := (s.setWide LOGBOOK_WR_PTR_LO_OFS LOGBOOK_WR_PTR_HI_OFS 0).setWide LOGBOOK_OLD_PTR_LO_OFS LOGBOOK_OLD_PTR_HI_OFS 0
  let s := (s.set logVirt 0).set wakePend 0
  s.when (s.get ledKind == 0 && s.flag LEDGER_STAT_LOADED) (ledStart 4)

/-- `POWER_CMD` with code 1 or 2. -/
def parkCmd (code : Nat) (s : State) : State :=
  let r := parkReason code s
  s.cmdStart powerCmd code (r == 0) stBusy parkStart (fun s => s.set POWER_STAT_ERR r)

/-- LANTERN (R496). -/
def execLantern (s : State) : Out := ok (parkCmd 1 s)

/-- OFF (R499). -/
def execOffCmd (s : State) : Out := ok (parkCmd 2 s)

/-- Seconds that `TB_NOW` counted since Lantern mode began. -/
def lanternStay (s : State) : Nat := (s.now - s.get lanternAt) / 200000000

/-- The device wakes from Lantern mode by a source: a device reset of kind wake (R498). -/
def wake (src : Nat) (s : State) : State :=
  let mon := ([0, 1, 2, 3].filter (fun n => (List.range 12).any (fun m => s.flag (MON_Mm_STAT_WAKE n m)))).map (fun n => 2 ^ n)
  let stay := lanternStay s
  let s := (deviceReset 5 0 s).set lanternOn 0
  let s := (s.set POWER_WAKE_STAT_SRC src).set POWER_WAKE_STAT_MON (if src = 2 then mon.sum else 0)
  (s.set POWER_LANTERN_S_S (clampU 32 stay)).addSat ledLantern stay

/-- An abort of `LANTERN` or `OFF` before step 3: the device runs on (R497). -/
def parkAbort (s : State) : State := ((s.set POWER_STAT_PHASE 0).set wakePend 0).cmdEnd powerCmd stAborted

/-- First and past-last address of the DRAM. -/
def dramLo : Nat := 0x100000000
def dramHi : Nat := 0x300000000

/-- Step 3 of R497. -/
def parked (s : State) : State :=
  let s := ((s.set POWER_STAT_PHASE 3).set POWER_VSENS_EN 0).set SHD_STAT_RUN 0
  let s := ((s.set TB_STATUS_LANTERN 1).set TB_STATUS_XTAL_OK 0).set TB_STATUS_RC_ACTIVE 0
  let s := (((s.set lanternOn 1).set lanternAt s.now).set lanternAcc 0).set syncOut 0
  let s := { s with mem := memErase dramLo (dramHi - dramLo) s.mem }
  let s := s.cmdEnd powerCmd stDone
  s.when (s.get wakePend != 0) (fun s => wake (s.get wakePend) s)

/-- The buck stops; the rails leave their bands (R499). A `WAKE` edge of the entry acts at once. -/
def switchedOff (s : State) : State :=
  let w := s.get wakePend
  let s := ((powerOnReset 1 s).set resetHeld 2).set ioUp 0
  s.set offState (if w = 0 then 1 else 0)

/-- Step 2 of R497 ends with the Ledger commit. -/
def parkCommitted (s : State) : State :=
  s.when (s.busy powerCmd && s.get POWER_STAT_PHASE == 1 && s.get ledKind == 0) (fun s => (s.set POWER_STAT_PHASE 2).set parkAt s.now)

/-- LANTERN_PARKED (R497, R499): after the Ledger commit, and for Lantern mode 0.1 ms after it at the earliest. -/
def execLanternParked (s : State) : Out :=
  let s := parkCommitted s
  ok (s.when (s.busy powerCmd && s.get POWER_STAT_PHASE == 2) (fun s =>
    if s.get POWER_CMD_CODE = 2 then switchedOff s else s.when (decide (s.get parkAt + 20000 ≤ s.now)) parked))

/-- Take a wake source where one may act: in Lantern mode at once, in its entry at the entry's end (R497, R498); from off only `WAKE`
wakes, enabled or not (R499). -/
def wakeBy (src : Nat) (enabled : Bool) (s : State) : State :=
  if s.flag lanternOn && enabled then wake src s
  else
    let counts := if s.get POWER_CMD_CODE = 2 then src == 1 else enabled
    s.when (s.busy powerCmd && counts && s.get wakePend == 0) (fun s => s.set wakePend src)

/-- WAKE (R498, R499): the pin is high for 100 us after a rising edge, or (`high` false) it has fallen. -/
def execWake (high : Bool) (s : State) : Out :=
  let s := s.setB SYS_PINS_WAKE high
  ok (if !high then s
  else if s.get offState = 1 then s.set offState 0
  else wakeBy 1 (s.flag POWER_WAKE_CFG_PIN_EN) s)

/-- CALENDAR_ALARM (R498). -/
def execCalendarAlarm (s : State) : Out :=
  let due := decide (s.getWide POWER_ALARM_LO_SEC POWER_ALARM_HI_SEC ≤ s.getWide LEDGER_CAL_SEC_LO_SEC LEDGER_CAL_SEC_HI_SEC)
  ok (wakeBy 3 (s.flag POWER_WAKE_CFG_ALARM_EN && due) s)

/-- MONITOR_WAKE (R124, R498). -/
def execMonitorWake (s : State) : Out :=
  let set := [0, 1, 2, 3].any (fun n => (List.range 12).any (fun m => s.flag (MON_Mm_STAT_WAKE n m)))
  ok (wakeBy 2 (s.flag POWER_WAKE_CFG_MON_EN && set) s)

end Sys2Proof.Machine
end

