-- ==== Sys2Proof/Machine/Balls.lean ====
section
/-!
DEFINITION. What stands at the device's output balls (18_package_and_electrical, R517; R482, R483): derived from the state, as it holds what
drives each of them.
-/

namespace Sys2Proof.Machine
open Reg

/-- The output balls that R517 names: a half-bridge's command pair, an AUX unit's, a link's `DN` pair, a contactor's command, and the rest by
their names. -/
inductive Ball
  | cmd (n : Fin 4) (i : Fin 6)
  | auxCmd (k : Fin 2)
  | dn (l : Fin 14)
  | ctcCmd (k : Fin 4)
  | canTx (k : Fin 4)
  | bfCs
  | hspiCs
  | modClk (n : Fin 4)
  | syncOut
  | trace
  | posExc (n : Fin 4)
  | posB (n : Fin 4)
  | ethTrx (p : Fin 2)
  | vsens (j : Fin 2)
  | tdo
  deriving DecidableEq, Repr

/-- What a ball shows: a level, a state of R517, or `driven`, a waveform of the block that is enabled. -/
inductive BallState
  | highZ
  | low
  | high
  | diffLow
  | diffHigh
  | commonMode
  | receiver
  | silent
  | off
  | driven
  deriving DecidableEq, Repr

/-- The state of a ball before its I/O rail is in band. -/
def ballUnpowered (b : Ball) : BallState :=
  match b with
  | .ctcCmd _ => .low
  | .posB _ => .receiver
  | .vsens _ => .off
  | _ => .highZ

/-- The state of a ball with its rail in band: at rest until its block enables it. `TDO` is driven in Shift-DR and Shift-IR only, which no
command enters; no command drives `BF_CS_L`, `HSPI_CS_L` or the trace port. -/
def ballPowered (b : Ball) (s : State) : BallState :=
  let pair := fun (x : Bool) => if x then BallState.diffHigh else .diffLow
  let level := fun (x : Bool) => if x then BallState.high else .low
  let run := fun (x : Bool) (r : BallState) => if x then .driven else r
  match b with
  | .cmd n i => pair (bitAt (s.get (PWM_LINES_LINE n)) i)
  | .auxCmd k => pair (s.flag (AUX_Ak_STAT_LINE k))
  | .dn l => run (decide (s.get (reinDnAt l) ≤ s.now) && decide (s.now < s.get (reinDnEnd l))) .diffLow
  | .ctcCmd k => level (bitAt (s.get CTC_STAT_OUT) k)
  | .canTx k => run (s.flag (CAN_CTRL_EN k)) .high
  | .bfCs => .high
  | .hspiCs => .high
  | .modClk n => run (s.flag (MOD_CTRL_EN n)) .low
  | .syncOut => level (s.flag syncOut)
  | .trace => .low
  | .posExc n => run (s.flag (POS_CTRL_EXC_EN n)) .commonMode
  | .posB n => run (posOn n s && posPrim n s == 3) .receiver
  | .ethTrx p => run (s.flag (ETH_Pp_CTRL_EN (p + 1))) .silent
  | .vsens j => run (bitAt (s.get POWER_VSENS_EN) j && !bitAt (s.get POWER_VSENS_OVL) j) .off
  | .tdo => .highZ

/-- What stands at ball `b` (R517). -/
def ballState (b : Ball) (s : State) : BallState := if s.flag ioUp then ballPowered b s else ballUnpowered b

end Sys2Proof.Machine
end

