-- ==== Sys2Proof/Machine/Boot.lean ====
section
/-!
DEFINITION. The boot (17_power_reset_boot, R491 to R495): its steps as the events that end them, the load of an image, and its timeout.
-/

namespace Sys2Proof.Machine
open Reg

/-! ### Steps 1 to 4 -/

/-- A step of the boot begins. -/
def bootStep (s : State) : State := s.set bootStepAt (s.now + 1)

/-- What the calendar domain loses with both of its supplies, beside its count (R411). -/
def calendarFields : List Fld :=
  [LEDGER_CAL_STAT_VALID, LEDGER_CAL_STAT_SYNCED, LEDGER_CAL_STAT_SLEW, LEDGER_CAL_STAT_VBAK_LOW, LEDGER_CAL_UTC_OFS_OFS]

/-- BOOT_START (R491 step 1, R408, R411): once after each release; `calOk`, the calendar kept counting since it was last valid. -/
def execBootStart (calOk : Bool) (s : State) : Out :=
  ok (s.when (s.get resetHeld == 0 && s.get offState == 0 && s.get SYS_BOOT_STAGE == 1 && s.get bootStepAt == 0) (fun s =>
    let s := (bootStep (s.set bootAt s.now)).each [0, 1, 2, 3] calLoad
    s.when (!calOk) (fun s =>
      let s := clearKeys (keyOf calendarFields) (fun _ => false) (clkLoad 0 (s.set calAcc 0))
      raiseEvent 0x02F (raiseFault (yardCode 10 0x11) .ride s))))

/-- XTAL_OK (R491 step 2): 0.5 ms after step 1 at the earliest. -/
def execXtalOk (s : State) : Out :=
  ok (s.when (s.get SYS_BOOT_STAGE == 1 && !s.flag TB_STATUS_XTAL_LOST && passedSince bootStepAt 100000 s) (fun s =>
    (((bootStep s).set TB_STATUS_XTAL_OK 1).set TB_STATUS_RC_ACTIVE 0).set SYS_BOOT_STAGE 2))

/-- The crystal is declared lost; the tick runs from the RC oscillator until a reset (R58). -/
def xtalLost (s : State) : State :=
  let s := ((s.set TB_STATUS_XTAL_LOST 1).set TB_STATUS_XTAL_OK 0).set TB_STATUS_RC_ACTIVE 1
  raiseFault (yardCode 1 1) .deviceSafe (raiseEvent 0x004 s)

/-- XTAL_BOOT_TIMEOUT (R491): 10 ms after step 1. -/
def execXtalBootTimeout (s : State) : Out :=
  ok (s.when (s.get SYS_BOOT_STAGE == 1 && !s.flag TB_STATUS_XTAL_LOST && passedSince bootStepAt 2000000 s) (fun s => xtalLost (bootStep s)))

/-- The boot check of the safety block: `MODE` and its cause by straps and copies (R338). -/
def safetyCheck (straps : Nat) (s : State) : State :=
  let s := sealRead ((s.set SAFETY_STAT_STRAP straps).set SAFETY_STAT_STRAP_BOOT straps)
  let s := (s.set safBooted 1).set safStrapRep straps
  if straps = 0b0101 then
    if s.flag SAFETY_STAT_VALID then s.set SAFETY_STAT_MODE 1 else raiseFault (yardCode 6 6) .deviceSafe (s.set SAFETY_STAT_MODE 0)
  else if straps = 0b1010 then raiseFault (yardCode 6 6) .deviceSafe (s.set SAFETY_STAT_MODE 2)
  else raiseFault (yardCode 6 5) .deviceSafe (s.set SAFETY_STAT_MODE 0)

/-- The memories that the boot run tests are left at 0. -/
def testedMemory (m : List Host.Cell) : List Host.Cell :=
  memErase 0x10000000 0x400000 (memErase 0x20000000 0x400000 (memErase 0x30000000 0x40000 m))

/-- SELF_TEST_DONE (R461, R491 step 3), 8 ms after step 2 at the earliest: the boot run, fuse maps and key working copies. Step 4 follows
after a free time from 0.2 ms to 1 ms and takes the straps (log entry 109). -/
def execSelfTestDone (fails : List BistFail) (spareOk : Bool) (straps : BitVec 4) (s : State) : Out :=
  ok (s.when ((s.get SYS_BOOT_STAGE == 2 || (s.get SYS_BOOT_STAGE == 1 && s.flag TB_STATUS_XTAL_LOST)) && passedSince bootStepAt 1600000 s) (fun s =>
    let s := bootStep (keyLoad (bootRun fails spareOk { s with mem := testedMemory s.mem }))
    let s := (s.set SAFETY_STAT_STRAP straps.toNat).set SYS_BOOT_STAGE 3
    (s.set bootWait (40000 + (Config.fresh s.freeCount).toNat % 160001)).draw))

/-- Step 6 of R491: the Sheepdog runs. -/
def bootSheepdog (s : State) : State := ((s.set SHD_STAT_RUN 1).set shdKickAt (s.now + 1)).set SYS_BOOT_STAGE 6

/-- What a tick brings the boot: step 4 (straps and sealed copies, R338) after step 3, step 6 after step 5, each at the end of its free
time. -/
def bootTick (s : State) : State :=
  if !passedSince bootStepAt (s.get bootWait) s then s
  else if s.get SYS_BOOT_STAGE = 3 then (safetyCheck (s.get SAFETY_STAT_STRAP) (bootStep s)).set SYS_BOOT_STAGE 4
  else s.when (s.get SYS_BOOT_STAGE == 5) bootSheepdog

/-! ### Step 5: the image (R447, R491, R492) -/

/-- `k` further milliseconds of decay. -/
def eaccDecays (tau : F32) : Nat → F32 → F32
  | 0, e => e
  | k + 1, e => eaccDecays tau k (eaccDecay tau e)

/-- The energy account after a power-on reset (R291). -/
def eaccBoot (s : State) : State :=
  let g := (governing s).getD 0
  if s.flag LEDGER_CAL_STAT_VALID then
    let away := s.getWide LEDGER_CAL_SEC_LO_SEC LEDGER_CAL_SEC_HI_SEC - s.get disEaccSec
    eaccSet (eaccDecays (s.getF (PROT_DIS_TAU_T g)) (1000 * away) (s.getF disEacc)) s
  else eaccSet (F32.max F32.zero (F32.sub (s.getF (PROT_DIS_EMAX_E g)) (dischargeEnergy g (s.getF (PROT_DIS_VMAX_V g)) s))) s

/-- The Yard's section of an image. -/
def loadYard (src : Nat) (m : Img) (s : State) : State :=
  let (pts, es) := domainSection 0 m
  let s := setDomainSrc 0 src (fabLoad 0 0 pts { s with entries := es })
  releaseYard (applyEntries es s)

/-- Stall `n`'s section of an image. -/
def loadStall (src : Nat) (m : Img) (n : Nat) (s : State) : State :=
  let (pts, es) := domainSection (n + 1) m
  let s := setDomainSrc (n + 1) src (fabLoad (n + 1) 0 pts { s with entries := s.entries ++ es })
  stallLoad n (s.set (fabBank n) 0)

/-- The firmware sections: Yoke in three copies, Sheepdog code without its trailer, Innkeeper at the start of its partition. -/
def loadFirmware (m : Img) (s : State) : State :=
  let shd := sectionBytes m 0x21
  let s := yokeFirmware { s with yokeFw := sectionBytes m 0x20 }
  let s := (s.putBytes 0x30000000 (shd.take (shd.length - 4096))).set SHD_STAT_LOADED 1
  s.putBytes (innBase s) (sectionBytes m 0x22)

/-- Monitors that failed without a spare raise their causes once `PROT` is loaded (R126). -/
def monFailedAll (s : State) : State :=
  s.each [0, 1, 2, 3] (fun n s => s.each (List.range 12) (fun m s => s.when (s.flag (MON_Mm_STAT_FAILED n m)) (monFailedRaise n m)))

/-- Load the image `m` from `src` (0 slot A, 1 slot B, 2 boot flash); step 6 of R491 follows after a free time from 0.5 ms to 2 ms (log
entry 109). -/
def loadImage (src : Nat) (trial : Bool) (m : Img) (s : State) : State :=
  let s := ((s.set CONFIG_STAT_RUN_SLOT src).setB CONFIG_STAT_TRIAL trial).set verKey ((imgKeySlot m s).elim 0 (fun k => k + 1))
  let s := keyShow (loadYard src m s)
  let s := loadFirmware m (s.each ([0, 1, 2, 3].filter (fun n => bitAt (imgStalls m) n)) (loadStall src m))
  let s := (monFailedAll s).when (s.flag porBoot) eaccBoot
  let s := (authPending (freshBoot (bootStep s))).set SYS_BOOT_STAGE 5
  (s.set bootWait (100000 + (Config.fresh s.freeCount).toNat % 300001)).draw

/-- The boot flash as it answered (R493): none is absent; `ferr` a read error. -/
def flashOutcome (flash : Option (List Byte)) (ferr : Bool) : Nat :=
  match flash with
  | none => 1
  | some f => if imgWord (flashImg f) 0 ≠ 0x584F4231 then 1 else if ferr then 3 else 2

/-- No image boots (R447). -/
def bootNothing (s : State) : State := raiseFault (yardCode 11 1) .deviceSafe (s.set CONFIG_STAT_RUN_SLOT 3)

/-- Slot `k` fails step 5: it is invalid for this boot, and the step begins again (R492). -/
def slotFails (k : Nat) (s : State) : State := bootStep (slotsShow (s.set (slotBad k) 1))

/-- One candidate of R447, whose load finds a digest wrong where `bad` (R492). -/
def bootCandidate (flash : Option (List Byte)) (ferr bad : Bool) (s : State) : State :=
  match bootPick s with
  | .trial k =>
    let s := slotsShow (useMark k s)
    if bad then slotFails k s else loadImage k true (slotImg k s) s
  | .confirmed k spent =>
    let s := s.when spent (raiseFault (yardCode 11 2) .ride)
    if bad then slotFails k s else loadImage k false (slotImg k s) s
  | .flash =>
    let o := flashOutcome flash ferr
    let s := s.set SYS_BFLASH_OUTCOME o
    let m := flashImg (flash.getD [])
    if o = 2 ∧ !bad ∧ imgErr m s = 0 then loadImage 2 false m s else bootNothing s

/-- Least ticks that the load of the candidate of R447 takes: its length at 400 MB/s (R491); none where no image is loaded. -/
def loadTicks (flash : Option (List Byte)) (s : State) : Nat :=
  match bootPick s with
  | .trial k => imgWord (slotImg k s) 2 / 2
  | .confirmed k _ => imgWord (slotImg k s) 2 / 2
  | .flash => if flashOutcome flash false = 1 then 0 else (flash.getD []).length / 2

/-- IMAGE_LOADED (R447, R491, R492). -/
def execImageLoaded (flash : Option (List Byte)) (ferr bad : Bool) (s : State) : Out :=
  ok (s.when (s.get SYS_BOOT_STAGE == 4) (fun s =>
    let t := slotsTest s
    if passedSince bootStepAt (loadTicks flash t) t then bootCandidate flash ferr bad t else s))

/-! ### Steps 6 and 7, and the timeout -/

/-- EV_BOOT_DONE (R490, R491): step 7, with step 6 or up to 50 ns after it. -/
def execEvBootDone (s : State) : Out :=
  ok (s.when (s.get SYS_BOOT_STAGE == 6 || (s.get SYS_BOOT_STAGE == 5 && passedSince bootStepAt 100000 s)) (fun s =>
    let s := s.when (s.get SYS_BOOT_STAGE == 5) bootSheepdog
    let s := (s.set SYS_BOOT_STAGE 7).set SYS_BOOT_TIME_US (clampU 32 ((s.now - s.get bootAt) / 200))
    raiseEvent 0x003 (((s.set SYS_RST_COUNT_BOOT_TO 0).set yokeWdAt s.now).set porBoot 0)))

/-- BOOT_TIMEOUT (R494): 3 s after step 1. -/
def execBootTimeout (s : State) : Out :=
  ok (s.when (s.get SYS_BOOT_STAGE != 7 && s.get SYS_BOOT_STAGE != 15 && s.get resetHeld == 0 && s.get bootStepAt != 0 &&
      decide (s.get bootAt + 600000000 ≤ s.now)) (fun s =>
    let s := raiseFault 0x0001 .deviceSafe (s.inc SYS_RST_COUNT_BOOT_TO)
    if s.get SYS_RST_COUNT_BOOT_TO = 3 then s.set SYS_BOOT_STAGE 15 else deviceReset 6 0 s))

end Sys2Proof.Machine
end

