-- ==== Sys2Proof/Machine/Timebase.lean ====
section
/-!
DEFINITION. The timebase's events and commands (02_self_timed_execution, R58, R62, R69 to R72) and the Sheepdog watchdog (R306). The count
itself advances in Machine/Tick.lean.
-/

namespace Sys2Proof.Machine
open Reg

/-! ### Crystal and edge placers (R58, R62) -/

/-- XTAL_LOST (R58): of a crystal that was running and checked; before that, XTAL_BOOT_TIMEOUT decides (R491). -/
def execXtalLost (s : State) : Out := ok (s.when (s.flag TB_STATUS_XTAL_OK && !s.flag TB_STATUS_XTAL_LOST) xtalLost)

/-- FINE_COARSE (R62) of placer group `k`, with the delay-line error measured, beyond one fine step (16 sixteenths). -/
def execFineCoarse (k : Fin 5) (err : BitVec 8) (s : State) : Out :=
  let s := s.set (TB_FINE_ERRk_ERR k) err.toNat
  ok (s.when (decide (16 < err.toInt.natAbs)) (fun s =>
    (s.set (tbCoarseAt k) s.now).when (!bitAt (s.get TB_STATUS_FINE_COARSE) k) (fun s =>
      raiseFault (yardCode 1 2) .ride (raiseEvent 0x007 (s.setBit TB_STATUS_FINE_COARSE k true)))))

/-- FINE_RETURN (R62): the error is within half a fine step, and 1 ms has passed since it was last beyond a whole one. -/
def execFineReturn (k : Fin 5) (err : BitVec 8) (s : State) : Out :=
  ok ((s.set (TB_FINE_ERRk_ERR k) err.toNat).when (decide (err.toInt.natAbs ≤ 8) && decide (s.get (tbCoarseAt k) + 200000 ≤ s.now))
    (fun s => s.setBit TB_STATUS_FINE_COARSE k false))

/-! ### Synchronising two devices (R69 to R72) -/

/-- SYNC_OUT_PULSE (R69): the pulse begins; the tick ends it 8 ticks on. -/
def execSyncOutPulse (s : State) : Out :=
  ok (s.when (s.get TB_SYNC_CTRL_MODE == 1 && s.now % 65536 == 0) (fun s => s.set syncOut 1))

/-- End of `SYNC_OUT`'s pulse, and its level in the other modes. -/
def syncOutFall (s : State) : State :=
  if s.get TB_SYNC_CTRL_MODE ≠ 1 ∨ 8 ≤ s.now % 65536 then s.set syncOut 0 else s

/-- The lock ends (R71): the steering keeps its last value. -/
def syncLose (s : State) : State :=
  raiseEvent 0x005 (((s.set TB_STATUS_SYNC_LOCK 0).set TB_STATUS_SYNC_LOST 1).set tbGood 0)

/-- Lock is declared (R70). -/
def syncGain (s : State) : State := raiseEvent 0x006 ((s.set TB_STATUS_SYNC_LOCK 1).set tbBad 0)

/-- A free steering value within ±200,000 parts per 10^9 (R70; log entry 2). -/
def steerFree (s : State) : State :=
  (s.seti TB_SYNC_STEER_PPB (((Config.fresh s.freeCount).toNat % 400001 : Nat) - 200000 : Int)).draw

/-- A follower's judgement of one pulse by its error in fine steps (R70, R71): 1 ns is 12.8 fine steps, 100 ns is 1,280. -/
def syncJudge (e : Int) (s : State) : State :=
  let far := decide (1280 < e.natAbs)
  let near := decide (e.natAbs ≤ 12)
  if s.flag TB_STATUS_SYNC_LOCK then
    if far then
      let s := s.set tbBad (s.get tbBad + 1)
      s.when (decide (3 ≤ s.get tbBad)) syncLose
    else s.set tbBad 0
  else if near then
    let s := s.set tbGood (s.get tbGood + 1)
    s.when (decide (8 ≤ s.get tbGood)) syncGain
  else s.set tbGood 0

/-- SYNC_IN_PULSE (R70): an edge at fine step `fine` of the present tick. A pulse out of the window of a follower in lock leaves the
steering at its last value (R71, log entry 18). -/
def execSyncInPulse (fine : Fin 64) (s : State) : Out :=
  ok (s.when (s.get TB_SYNC_CTRL_MODE == 2) (fun s =>
    let x := (s.fineNow fine + 2 ^ 22 - s.get TB_SYNC_CTRL_DLY) % 2 ^ 22
    let e := sext 22 x
    let s := s.seti TB_SYNC_ERR_ERR e
    syncJudge e (if s.flag TB_STATUS_SYNC_LOCK ∧ 1280 < e.natAbs then s else steerFree s)))

/-- SYNC_LOST (R71): `missing` pulses did not come. -/
def execSyncLost (missing : BitVec 2) (s : State) : Out :=
  ok (s.when (s.get TB_SYNC_CTRL_MODE == 2 && s.flag TB_STATUS_SYNC_LOCK) (fun s =>
    let n := min 3 (s.get tbBad + missing.toNat)
    (s.set tbBad n).when (n == 3) syncLose))

def tbCmd : CmdReg := ⟨TB_SYNC_CMD_CODE, TB_SYNC_CMD_STATUS⟩

/-- Whether any Stall or AUX unit is switching (R72). -/
def anySwitching (s : State) : Bool :=
  [0, 1, 2, 3].any (fun n => switching n s) || [0, 1].any (fun k => s.flag (AUX_Ak_CTRL_EN k) || s.flag (AUX_Ak_STAT_DEMAND k))

/-- `TB_EPOCH` as a count of ticks (R72). -/
def epochTicks (s : State) : Nat := s.getWide TB_EPOCH_LO_EPOCH TB_EPOCH_HI_EPOCH * 65536

/-- LOCK (R72). -/
def execLock (s : State) : Out :=
  let good := !anySwitching s && s.get TB_SYNC_CTRL_MODE == 2 && decide (s.now / 65536 ≤ epochTicks s / 65536)
  ok ((busOk s).cmdStart tbCmd 1 good stBusy id id)

/-- EPOCH_LOAD (R72): the `SYNC_IN` pulse after a `LOCK`. `TB_NOW` never moves backward. -/
def execEpochLoad (s : State) : Out :=
  ok (s.when (s.busy tbCmd) (fun s =>
    if epochTicks s < s.now then s.cmdEnd tbCmd stFailed
    else { s with tbNow := BitVec.ofNat 64 (epochTicks s) }.cmdEnd tbCmd stDone))

/-- A write of `TB_SYNC_CTRL` that leaves mode 2 ends the lock, and one that leaves mode 1 ends the pulse (R69, R70). -/
def syncModeKeep (s : State) : State :=
  let s := s.when (s.get TB_SYNC_CTRL_MODE != 2) (fun s => ((s.set TB_STATUS_SYNC_LOCK 0).set tbGood 0).set tbBad 0)
  syncOutFall s

/-- RELEASE (R72). -/
def execRelease (s : State) : Out :=
  ok ((busOk s).cmdStart tbCmd 2 true stDone (fun s => syncModeKeep (s.set TB_SYNC_CTRL_MODE 0)) id)

/-! ### The Sheepdog watchdog (R306) -/

/-- A wrong, early or missing kick (R306, R485). -/
def shdWdFail (s : State) : State :=
  let s := raiseFault (yardCode 6 1) .deviceSafe s
  s.when (bitAt (sealed 5 s) 0) (deviceReset 3 0)

/-- KICK (R306): the write of `value`, `us` microseconds of the Sheepdog's RC oscillator after the last accepted kick or the start. -/
def execKick (us value : BitVec 16) (s : State) : Out :=
  let t := s.get SAFETY_WD_KICK_TOKEN
  let w := sealed 4 s
  let s := busOk (s.set SAFETY_WD_KICK_KICK value.toNat)
  ok (if value.toNat + t = 65535 ∧ bits w 0 16 ≤ us.toNat ∧ us.toNat ≤ bits w 16 16 then
    ((s.set SAFETY_WD_STAT_LAST us.toNat).set SAFETY_WD_KICK_TOKEN (nextToken t s)).draw.set shdKickAt (s.now + 1)
  else shdWdFail s)

/-- WATCHDOG_EXPIRY (R306): no kick by `WD_MAX` microseconds of the Sheepdog's RC oscillator, which alone measures them: it expires with a
stopped timebase too (log entry 97). Reported once. -/
def execWatchdogExpiry (s : State) : Out :=
  ok (s.when (s.flag SHD_STAT_RUN && s.flag shdKickAt) (fun s => shdWdFail (s.set shdKickAt 0)))

end Sys2Proof.Machine
end

