-- ==== Sys2Proof/Machine/Access.lean ====
section
/-!
DEFINITION. Access to the address map: the rights of R22 and R471, access violations (R23), reads, and wide values (R47).
-/

namespace Sys2Proof.Machine
open Reg

/-! ### The address map (R35) and the rights (R22) -/

/-- What lies at an address. -/
inductive Region where
  | rom | yokeOwn | yokeAlias | cellar | shdSram | regs | slots | ledger | sealed | nvKept | nv | ring | window | inn
  deriving DecidableEq, Repr

/-- Whether `a` lies in the `k` bytes from `lo`. -/
def within (lo k a : Nat) : Bool := decide (lo ≤ a) && decide (a < lo + k)

/-- End of the Logbook ring, where the Yoke's table windows begin (R366). -/
def ringEnd (s : State) : Nat := dramLo + ringSize s

/-- The region of an address; `none` where the map reserves it (R35, R366, R102, R433). -/
def regionOf (a : Nat) (s : State) : Option Region :=
  if within 0 0x10000 a then some .rom
  else if within 0x10000000 0x100000 a then some .yokeOwn
  else if within 0x10100000 0x300000 a then some .yokeAlias
  else if within 0x20000000 0x400000 a then some .cellar
  else if within 0x30000000 0x40000 a then some .shdSram
  else if within 0x40000000 0x1400000 a then (if (regAt (a - a % 4)).isSome then some .regs else none)
  else if within 0xC0000000 0x20000000 a then some .slots
  else if within 0xE0000000 0x8000000 a then some .ledger
  else if within 0xE8000000 0x10000 a then some .sealed
  else if within 0xE8010000 0x10000 a || within 0xE8020000 0x800 a then some .nvKept
  else if within 0xE8010000 0x17FF0000 a then some .nv
  else if within dramLo (ringSize s) a then some .ring
  else if decide (ringEnd s ≤ a) && decide (a < innBase s) then some .window
  else if decide (innBase s ≤ a) && decide (a < dramHi) then some .inn
  else none

/-- Cask of an address in the Cellar. -/
def caskAt (a : Nat) : Nat := (a - 0x20000000) / 0x1000

/-- Rights of a processor in a region (R22); registers are judged by R4. -/
def mayRegion (who : Req) (r : Region) (a : Nat) (write : Bool) (s : State) : Bool :=
  match r with
  | .rom | .slots | .ledger | .sealed | .nvKept => !write
  | .yokeOwn => who == .y || (who == .s && !write)
  | .yokeAlias => who == .s && !write
  | .cellar => !write || (caskOwner s (caskAt a) == reqUser who && reqUser who != 0)
  | .shdSram => !write || who == .s
  | .regs => true
  | .nv => !write || who == .i
  | .ring => !write && (who == .y || who == .i)
  | .window => who == .y || (who == .i && !write)
  | .inn => who == .i

/-- Whether the boot ROM waits for a debugger to stage an image: no image boots, or `STAGE` is 15 (R495). -/
def romWaits (s : State) : Bool := s.get SYS_BOOT_STAGE == 15 || s.get CONFIG_STAT_RUN_SLOT == 3

/-- Whether an access keeps the rights of R22; the debug port reads everything at level 1 and writes registers at level 2 (R471), and the
Innkeeper partition where it stages an image (R495). -/
def mayAccess (who : Req) (a : Nat) (write : Bool) (s : State) : Bool :=
  match regionOf a s with
  | none => false
  | some r =>
    if who = .d then
      (if write then s.get BIST_DBG_LEVEL == 2 && (r == .regs || (r == .inn && romWaits s)) else s.get BIST_DBG_LEVEL != 0)
    else mayRegion who r a write s

/-- An access without the right to it (R23). -/
def violate (who : Req) (a : Nat) (write : Bool) (s : State) : State := violation (reqCode who) a write s

/-- ACCESS_VIOLATION (R23). -/
def execAccessViolation (who : Req) (a : BitVec 40) (write : Bool) (s : State) : Out :=
  ok (s.when (!mayAccess who a.toNat write s) (violate who a.toNat write))

/-! ### The window of a Stall under an operation (R30, R489) -/

/-- Whether the register at `a` answers with an error response now; a read of PROT does not (R30). -/
def windowShut (a : Nat) (write : Bool) (s : State) : Bool :=
  let (n, b) := regBlock a
  decide (n < 4) && bitAt (rewritten s) n && (write || b != 5)

/-! ### Wide values (R47) -/

/-- A value wider than 32 bits: whether its lower words are held at a write, the address of its lowest word, the strides and counts of
its indices, the offsets of its words. -/
structure WideRow where
  holds : Bool
  base  : Nat
  idx   : List (Nat × Nat)
  offs  : List Nat
  deriving DecidableEq, Repr

/-- The Stall index. -/
def stallIdx : Nat × Nat := (0x100000, 4)

/-- Every value wider than 32 bits of the register tables. -/
def wideRows : List WideRow := [
  ⟨true, 0x41040000, [stallIdx], [0, 4, 8, 12]⟩, ⟨true, 0x41038030, [stallIdx], [0, 4]⟩, ⟨true, 0x41038038, [stallIdx], [0, 4]⟩,
  ⟨true, 0x41038040, [stallIdx], [0, 4]⟩, ⟨true, 0x40068030, [(8, 4)], [0, 4]⟩, ⟨true, 0x40018028, [], [0, 4]⟩,
  ⟨true, 0x40048050, [], [0, 4]⟩, ⟨true, 0x400D8050, [], [0, 4, 8]⟩, ⟨true, 0x400C8024, [(0x40, 2)], [0, 4, 8]⟩,
  ⟨true, 0x400C8110, [], [0, 4]⟩, ⟨true, 0x400C8130, [], [0, 4]⟩, ⟨true, 0x400C9000, [(8, 64)], [0, 4]⟩,
  ⟨true, 0x400E8008, [], [0, 4]⟩, ⟨true, 0x400F8040, [], [0, 4]⟩, ⟨true, 0x40108048, [], [0, 4]⟩,
  ⟨false, 0x41048000, [stallIdx], [0, 4, 8, 12]⟩, ⟨false, 0x41049008, [stallIdx], [0, 4]⟩, ⟨false, 0x410380F8, [stallIdx], [0, 4]⟩,
  ⟨false, 0x41038104, [stallIdx], [0, 4]⟩, ⟨false, 0x41038210, [stallIdx], [0, 4]⟩, ⟨false, 0x41068008, [stallIdx, (0x100, 3)], [0, 4]⟩,
  ⟨false, 0x41058010, [stallIdx], [0, 4]⟩, ⟨false, 0x40078208, [(0x100, 2)], [0, 4]⟩, ⟨false, 0x4000A820, [], [0, 4]⟩,
  ⟨false, 0x40018000, [], [0, 4]⟩, ⟨false, 0x40008010, [], [0, 4]⟩, ⟨false, 0x40068008, [], [0, 4]⟩, ⟨false, 0x4006806C, [], [0, 4]⟩,
  ⟨false, 0x40048014, [], [0, 4]⟩, ⟨false, 0x40028114, [], [0, 4]⟩, ⟨false, 0x40118014, [], [0, 4]⟩, ⟨false, 0x4011801C, [], [0, 4]⟩,
  ⟨false, 0x40118024, [], [0, 4]⟩, ⟨false, 0x4011802C, [], [0, 4]⟩, ⟨false, 0x400D8040, [], [0, 4, 8]⟩,
  ⟨false, 0x400C8190, [], [0, 4, 8, 12, 16]⟩, ⟨false, 0x400F8024, [], [0, 4]⟩, ⟨false, 0x400E8040, [(0x20, 8)], [0, 4, 8, 12, 16, 20, 24, 28]⟩,
  ⟨false, 0x40148040, [], [0, 4, 8, 12, 16, 20, 24, 28]⟩, ⟨false, 0x40059018, [(0x40, 4)], [0, 4]⟩,
  ⟨false, 0x400DA010, [], [0, 4]⟩, ⟨false, 0x400DA038, [(8, 8)], [0, 4]⟩, ⟨false, 0x400DA118, [], [0, 4]⟩]

/-- The wide value that has a word at `a`: whether its lower words are held, and its words' addresses, lowest first. -/
def wideFind (a : Nat) : Option (Bool × List Nat) :=
  wideRows.findSome? (fun r => r.offs.findSome? (fun o =>
    if r.base + o ≤ a then (matchIdx r.idx (a - r.base - o)).map (fun _ => (r.holds, r.offs.map (fun p => a - o + p))) else none))

/-- Key of a snapshot word: the requester and the register. -/
def snapKey (who : Req) (a : Nat) : Nat := reqCode who * 2 ^ 40 + a

/-- Put `v` under `k`, whatever an unlisted key reads as. -/
def storePut (k v : Nat) (t : Store) : Store := storeIns k v (storeDrop k t)

/-! ### Reading a register (R5, R45, R46) -/

/-- `PWM_CAR` of Stall `n`: the time since the last zero, and whether a center-aligned carrier falls; 0 while no carrier runs (R203). -/
def carrierWord (n : Nat) (s : State) : Nat :=
  let pos := (s.now * 64 - s.get (pwmZeroAt n)) % 2 ^ 23
  if !carrierOn n s then 0
  else pos + 2 ^ 31 * (alignOf n s && decide (period n s / 2 ≤ pos)).toNat

/-- The value of the register at `a` itself; some are computed as they are read. -/
def regWord (a : Nat) (s : State) : Nat :=
  if a = 0x40018000 then s.now % 2 ^ 32
  else if a = 0x40018004 then s.now / 2 ^ 32
  else if a = 0x40078110 then (if s.flag refRun then (s.now * 64 - s.get refZeroAt) % 2 ^ 23 else 0)
  else if within 0x41008140 0x400000 a && a % 0x100000 == 0x8140 then carrierWord ((a - 0x41008140) / 0x100000) s
  else if a = 0x400C8190 then asTime s % 1000000000
  else if a = 0x400C8194 then asTime s / 1000000000 % 2 ^ 32
  else if a = 0x400C8198 then asTime s / 1000000000 / 2 ^ 32 % 65536
  else if a = 0x400C819C then s.now % 2 ^ 32
  else if a = 0x400C81A0 then s.now / 2 ^ 32
  else if within 0x400DA000 0x1000 a then (let w := (a - 0x400DA000) / 4; if w = 126 ∨ w = 127 then 0 else ledWord 1 w s)
  else if within 0x400E9000 0x1000 a then fabRead ((a - 0x400E9000) / 4) s
  else match regAt a with
    | some (r, _) => r.word a s
    | none => 0

/-- What a read of `a` by anyone answers, snapshots apart: a held word reads the value held (R47). -/
def heldWord (a : Nat) (s : State) : Nat := heldOr s a (regWord a s)

/-- What `who` reads at `a` (R47). -/
def readWord (who : Req) (a : Nat) (s : State) : Nat := storeGet (heldWord a s) (snapKey who a) s.snaps

/-- Snapshot the words `l` for `who`. -/
def wideSnap (who : Req) (l : List Nat) (s : State) : State :=
  l.foldl (fun t a => { t with snaps := storePut (snapKey who a) (heldWord a t) t.snaps }) s

/-- A 32-bit read of a register by `who`: its response, and the snapshot that the lowest word of a wide value takes. -/
def regRead (who : Req) (a : Nat) (s : State) : State :=
  if windowShut a false s then busErr s
  else
    let s := match wideFind a with
      | some (_, l :: r) => if l = a then wideSnap who r s else s
      | _ => s
    { s with bus := ⟨false, BitVec.ofNat 64 (readWord who a s)⟩ }

/-- WIDE_READ_SNAPSHOT (R47): a read of the lowest word of a wide value. -/
def execWideReadSnapshot (who : Req) (a : BitVec 40) (s : State) : Out :=
  let a := a.toNat
  let s := debugSeen who s
  ok (match wideFind a with
  | some (_, l :: _) => if l = a ∧ mayAccess who a false s then regRead who a s else s
  | _ => s)

/-! ### Reading and writing memory -/

/-- The word at offset `o` of the Yoke SRAM that at least two cores' copies hold (R24). -/
def votedWord (o : Nat) (s : State) : Option Nat :=
  let x := fun c => s.wordAt (coreBase c + o)
  if x 0 = x 1 ∨ x 0 = x 2 then some (x 0) else if x 1 = x 2 then some (x 1) else none

/-- A read of `size` bytes of memory. The Yoke's SRAM at its own view is read voted by everyone but the Yoke. -/
def memRead (a size : Nat) (s : State) : State :=
  if within 0x10000000 0x100000 a then
    match votedWord ((a - 0x10000000) / 4 * 4) s with
    | some w => { s with bus := ⟨false, BitVec.ofNat 64 (bits w (8 * (a % 4)) (8 * size))⟩ }
    | none => raiseEvent 0 (busErr s)
  else { s with bus := ⟨false, BitVec.ofNat 64 (ofBytes (memTake s.mem a size))⟩ }

/-- A read of `size` bytes by `who`; a register is read as a whole word. -/
def busRead (who : Req) (a size : Nat) (s : State) : State :=
  if !mayAccess who a false s then violate who a false s
  else if regionOf a s = some .regs then (if size = 4 ∧ a % 4 = 0 then regRead who a s else busErr s)
  else memRead a size s

/-- Words that the Innkeeper writes to its non-volatile region are counted (R393). -/
def nvCount (size : Nat) (s : State) : State :=
  let c := s.getWide (LEDGER_LIVE_w_W 70) (LEDGER_LIVE_w_W 71) + max 1 (size / 4)
  s.setWide (LEDGER_LIVE_w_W 70) (LEDGER_LIVE_w_W 71) (min c (2 ^ 64 - 1))

/-- A write of bytes to memory for which the right is there. -/
def memWrite (a : Nat) (l : List Byte) (s : State) : State :=
  if within 0x10000000 0x100000 a then
    busOk ([0, 1, 2].foldl (fun s c => ownStore c (a - 0x10000000) l.length (ofBytes l) s) s)
  else (busOk (s.putBytes a l)).when (within 0xE8010000 0x17FF0000 a) (nvCount l.length)

end Sys2Proof.Machine
end

