-- ==== Sys2Proof/Machine/BusWrite.lean ====
section
/-!
DEFINITION. A write on the register bus by a processor or the debug port (R4, R44, R526, R528): command registers (R7 to R10, R527), wide
values (R47), registers whose write starts an operation of its own, and all others; and the Yoke's voted transactions (R349, R350).
-/

namespace Sys2Proof.Machine
open Reg

/-! ### Command registers (R7 to R10, R527) -/

/-- What a listed code of a Stall's command register starts: Stall `n`, block `b`, offset `o`. -/
def stallCommand (n : Fin 4) (b o code : Nat) : Option (State → Out) :=
  let link : Nat → Fin 14 := fun h => Fin.ofNat 14 (3 * n.val + h)
  let group : Fin 5 := Fin.ofNat 5 n.val
  match b, o with
  | 0, 0x8104 =>
    if code = 1 then some (execPwmStart n)
    else if code = 2 then some (execPwmStop n)
    else if 0x11 ≤ code ∧ code ≤ 0x1F then some (execTripClear n (BitVec.ofNat 4 code))
    else none
  | 1, 0x8390 => if code = 1 then some (execCalRun n) else none
  | 4, 0x8100 =>
    if code = 1 then some (execLoopStart n) else if code = 2 then some (execLoopStop n) else if code = 3 then some (execPset n) else none
  | 5, 0x8000 => if code = 1 then some (execSafe n) else if code = 2 then some (execProtRelease n) else none
  | 5, 0x8048 => if code = 1 then some (execDischargeRun n) else none
  | 6, 0x8028 => if code = 1 then some (execSend (link 0)) else none
  | 6, 0x8128 => if code = 1 then some (execSend (link 1)) else none
  | 6, 0x8228 => if code = 1 then some (execSend (link 2)) else none
  | 6, 0x8C00 => if code = 1 then some (execReinStart group) else if code = 2 then some (execReinStop group) else none
  | _, _ => none

/-- Commands of the four CAN controllers. -/
def canCommand (k : Fin 4) (code : Nat) : Option (State → Out) :=
  if code = 1 then some (execPush k)
  else if code = 2 then some (fun s => execFlush k (bitAt (Config.fresh s.freeCount).toNat 0) s.draw)
  else if code = 3 then some (execRecover k)
  else none

/-- Commands of CONFIG, BIST, POWER, LOGBOOK and AUTH. -/
def serviceCommand (who : Req) (b o code : Nat) : Option (State → Out) :=
  match b, o, code with
  | 14, 0x8000, 1 => some execWrite
  | 14, 0x8000, 2 => some execReconf
  | 14, 0x8000, 3 => some execConfirm
  | 14, 0x8000, 4 => some execRollfwd
  | 14, 0x8000, 5 => some execAbandon
  | 14, 0x8030, 1 => some (execProg who)
  | 14, 0x8030, 2 => some execRevoke
  | 15, 0x8000, 1 => some execBistRun
  | 15, 0x8000, 2 => some execRetest
  | 15, 0x8000, 3 => some execBurn
  | 15, 0x8104, 0x10 => some execClose
  | 15, 0x8104, 0x11 => some execOpenRead
  | 15, 0x8104, 0x12 => some execOpenWrite
  | 15, 0x8104, 0x20 => some execLockdown
  | 16, 0x8000, 1 => some execLantern
  | 16, 0x8000, 2 => some execOffCmd
  | 17, 0x8004, 1 => some execTrigger
  | 17, 0x8004, 2 => some execLogbookArm
  | 20, 0x8028, 1 => some execCheck
  | _, _, _ => none

/-- Commands of the other Yard blocks. -/
def yardCommand (who : Req) (b o code : Nat) : Option (State → Out) :=
  match b, o with
  | 0, 0x8004 =>
    if code = 1 then some (execDevice who)
    else if code = 2 then some (execYoke who)
    else if code = 3 then some (execInnkeeper who)
    else if 0x10 ≤ code ∧ code ≤ 0x13 then some (execStall who (Fin.ofNat 4 code))
    else none
  | 1, 0x8030 => if code = 1 then some execLock else if code = 2 then some execRelease else none
  | 4, 0x8008 => if code = 1 then some execResync else none
  | 6, 0x801C => if 1 ≤ code ∧ code ≤ 15 then some (execSafetyAck (BitVec.ofNat 4 code)) else none
  | 6, 0x8024 => if code = 1 then some execStoAck else none
  | 6, 0x8060 => if code = 1 then some execSs1Run else if code = 2 then some execSs1Restart else none
  | 6, 0x80B0 => if code = 1 then some (execSealCmd who) else none
  | 7, 0x8108 => if code = 1 then some execCoherentLoad else none
  | 7, 0x8228 => if code = 1 then some (execSend 12) else none
  | 7, 0x8328 => if code = 1 then some (execSend 13) else none
  | 7, 0x8400 => if code = 1 then some (execReinStart 4) else if code = 2 then some (execReinStop 4) else none
  | 12, 0x8018 => if code = 1 then some (execApply 0) else if code = 2 then some (execDisable 0) else none
  | 12, 0x8058 => if code = 1 then some (execApply 1) else if code = 2 then some (execDisable 1) else none
  | 13, 0x8000 => if code = 1 then some execCommit else none
  | 13, 0x805C => if code = 1 then some execCalSet else if code = 2 then some execAlign else none
  | 3, _ =>
    let p : Fin 3 := Fin.ofNat 3 ((o - 0x8000) / 0x10)
    if code = 1 then some (execAlloc p) else if code = 2 then some (execFree p) else if code = 3 then some (execGive p) else none
  | _, _ => none

/-- What code `code` of the command register at `a`, written by `who`, starts; `none`: the register does not list it. -/
def commandAt (who : Req) (a code : Nat) : Option (State → Out) :=
  let (n, b) := regBlock a
  let o := a % 0x10000
  if n < 4 then stallCommand (Fin.ofNat 4 n) b o code
  else if 8 ≤ b ∧ b ≤ 11 then canCommand (Fin.ofNat 4 b) code
  else if 14 ≤ b then serviceCommand who b o code
  else yardCommand who b o code

/-- What an abort of the running command at `a` does (R9, R50). -/
def abortAt (a : Nat) (s : State) : State :=
  let (n, b) := regBlock a
  let o := a % 0x10000
  if n < 4 then
    match b with
    | 1 => calAbort n s
    | 5 => dischargeEnd n stAborted s
    | 6 => if o = 0x8C00 then trainAbort n s else accAbort (3 * n + (o - 0x8000) / 0x100) s
    | _ => s
  else
    match b, o with
    | 0, _ => s.set (cmdLate 3) 1
    | 1, _ => s.cmdEnd tbCmd stAborted
    | 3, _ => cellarAbort ((o - 0x8000) / 0x10) s
    | 4, _ => resyncAbort s
    | 6, 0x801C => s.cmdEnd shdAckCmd stAborted
    | 6, 0x8060 => ss1Abort s
    | 6, _ => sealAbort s
    | 7, 0x8108 => cohAbort s
    | 7, 0x8400 => trainAbort 4 s
    | 7, _ => accAbort (12 + (o - 0x8200) / 0x100) s
    | 12, _ => gclAbort (1 + (o - 0x8018) / 0x40) s
    | 13, 0x8000 => ledAbort s
    | 13, _ => s.cmdEnd clkCmd stAborted
    | 14, 0x8000 => cfgAbort s
    | 14, _ => s.set (cmdLate 1) 1
    | 15, _ => bistAbort s
    | 16, _ => parkAbort s
    | 20, _ => authAbort s
    | _, _ => s

/-- The command register at an address. -/
def cmdRegAt (a : Nat) : CmdReg := ⟨⟨a, 0, 8, 0⟩, ⟨a, 8, 3, 0⟩⟩

/-- A row is a command register's. -/
def RRow.isCmd (r : RRow) : Bool := r.fs.any (fun f => f.acc == .cmd)

/-- Whether `who` is named a writer of a command register. -/
def mayCommand (who : Req) (r : RRow) (ix : List Nat) : Bool := r.fs.any (fun f => f.acc == .cmd && mayWrite who ix f)

/-- A write of `code` to the command register at `a` (R9, R10, R527). -/
def cmdWrite (who : Req) (a code : Nat) (s : State) : State :=
  let c := cmdRegAt a
  let s := busOk s
  if s.busy c then (if code = 0xFF then abortAt a s else s)
  else if code = 0xFF then s.cmdSet c 0xFF stRefused
  else if code = 0 then s.cmdSet c 0 stIdle
  else match commandAt who a code with
    | some f => (f s).state s
    | none => s.cmdSet c code stRefused

/-! ### Wide values (R47) -/

/-- A lower word of a wide value is written: held, and it reads so in snapshots already taken. -/
def holdWord (who : Req) (a v : Nat) (r : RRow) (ix : List Nat) (s : State) : State :=
  if !r.fs.any (fun f => f.writable && mayWrite who ix f) || writeBad a v r ix s then busErr s
  else
    let w := (r.fs.map (fun f => if f.acc == .ro then 0 else f.part r.chk v * 2 ^ f.lsb)).sum
    busOk { s with held := storePut a w s.held, snaps := s.snaps.map (fun e => if e.1 % 2 ^ 40 = a then (e.1, w) else e) }

/-- Every held word of `l` is applied. -/
def applyHeld (l : List Nat) (s : State) : State :=
  l.foldl (fun t a =>
    match regAt a, t.held.find? (fun e => e.1 == a) with
    | some (r, _), some e => r.fs.foldl (fun t f => if f.acc == .rw then t.set (f.fld a) (f.part r.chk e.2) else t)
        { t with held := storeDrop a t.held }
    | _, _ => t) s

/-- The highest word of a wide value is written: it applies with the held words. -/
def applyWord (who : Req) (a v : Nat) (lower : List Nat) (r : RRow) (ix : List Nat) (s : State) : State :=
  if !r.fs.any (fun f => f.writable && mayWrite who ix f) || writeBad a v r ix s then busErr s
  else
    let (n, b) := regBlock a
    let o := a % 0x10000
    if n < 4 ∧ b = 4 then referenceApply n v s
    else if n < 4 ∧ b = 3 ∧ o = 0x8034 then travelPreset n v s
    else if n = 4 ∧ b = 6 then (execWindowApply (Fin.ofNat 4 ((o - 0x8034) / 8)) (BitVec.ofNat 32 v) s).state s
    else
      let t := regStore who a v r ix (applyHeld lower s)
      if travelLimitsOk a t then t else busErr s

/-! ### What a stored write brings with it -/

/-- The `PWM_PER` to `PWM_PAIR_OFS` shadows: their bit of the pending set (R211). -/
def shadowBit (o : Nat) : Option Nat :=
  match o with
  | 0x0 => some 0
  | 0x10 => some 1
  | 0x14 => some 2
  | 0x18 => some 3
  | 0x20 => some 4
  | 0x24 => some 5
  | 0x28 => some 6
  | 0x30 => some 7
  | 0x34 => some 8
  | 0x4 => some 9
  | 0x8 => some 10
  | _ => none

/-- What a one-bit field did over a write. -/
def rose (f : Fld) (s t : State) : Bool := !s.flag f && t.flag f
def fell (f : Fld) (s t : State) : Bool := s.flag f && !t.flag f

/-- A write of `POS_CTRL`: the rise of `EN` is judged by every combination rule of the chapter (R130). -/
def posCtrlAfter (n : Nat) (s t : State) : State :=
  if rose (POS_CTRL_EN n) s t && !posConfigOk n t then busErr (s.set (POS_STAT_CFG_ERR n) 1)
  else
    let t := t.when (rose (POS_CTRL_EN n) s t || fell (POS_CTRL_EN n) s t) (posRestart n)
    t.when (rose (POS_CTRL_SENT_EN n) s t) (sentRestart n)

/-- What the stored write of a Stall's register brings with it: `s` before, `t` after. -/
def stallAfter (n b o v : Nat) (s t : State) : State :=
  if b = 0 then
    match shadowBit o with
    | some i => t.when (!t.bus.err) (fun t => t.setBit (pwmPendSet n) i true)
    | none => t
  else if b = 1 ∧ o = 0x8100 then t.when (rose (SENSE_CTRL_XCHK_EN n) s t) (fun t => t.set (senXpar n) 0)
  else if b = 2 ∧ 0x8100 ≤ o ∧ o < 0x8130 then
    let m := (o - 0x8100) / 4
    if rose (MON_Mm_CFG_EN n m) s t then monStart n m t else if !t.bus.err && !t.flag (MON_Mm_CFG_EN n m) then monStop n m t else t
  else if b = 2 ∧ 0x8190 ≤ o ∧ o < 0x81C0 then tripFollow n ((o - 0x8190) / 4) false t
  else if b = 2 ∧ 0x81C0 ≤ o ∧ o < 0x81F0 then
    let m := (o - 0x81C0) / 4
    let t' := t.set (MON_Mm_STAT_LATCHED n m) (s.get (MON_Mm_STAT_LATCHED n m))
    if bitAt v 3 ∧ t.bus.err = false then (execMonLatchClear (Fin.ofNat 4 n) (Fin.ofNat 12 m) t').state t' else t'
  else if b = 3 ∧ o = 0x8000 then posCtrlAfter n s t
  else if b = 5 ∧ o = 0x8040 then warnFollow n t
  else if b = 5 ∧ (o = 0x8100 ∨ o = 0x8108) then derateShow n t
  else if b = 6 ∧ o = 0x8C04 then t.when (rose (REIN_CFG_VS_EN n) s t) (junctionEnable n)
  else t

/-- The edges of an enable bit, each as the row of that edge does it, on a state whose other fields are written; the response stays. -/
def enableEdge (f : Fld) (s t : State) (on off : State → Out) : State :=
  if rose f s t then (on (t.set f 0)).state t
  else if fell f s t then (off (t.set f 1)).state t
  else t

/-- `DS_REQ` and `DIS_REQ` written 1 (R309, R334). -/
def safetyCtrlAfter (v : Nat) (t : State) : State :=
  if t.bus.err then t
  else
    let t := if bitAt v 0 then execDsReq t |>.state t else t
    if bitAt v 1 then execDisReq t |>.state t else t

/-- The Remount in use keeps its enable until it is released (R198). -/
def remountAfter (s t : State) : State :=
  if fell REMOUNT_CTRL_EN s t ∧ s.flag REMOUNT_STAT_HELD then (t.set REMOUNT_CTRL_EN 1).set remEnPend 1
  else t.when (t.flag REMOUNT_CTRL_EN) (fun t => t.set remEnPend 0)

/-- What the stored write of a Yard register brings with it. -/
def yardAfter (b o v : Nat) (s t : State) : State :=
  match b, o with
  | 0, 0xA800 => irqUpdate t
  | 0, 0xA804 => irqUpdate t
  | 4, 0x8040 => irqUpdate t
  | 4, 0x8044 => irqUpdate t
  | 1, 0x8020 => syncModeKeep t
  | 7, 0x8100 => enableEdge AUX_REF_CTRL_EN s t execRefCarrierEnable execRefCarrierDisable
  | 7, 0x8120 => enableEdge (AUX_Ak_CTRL_EN 0) s t (execAuxEnable 0) (execAuxDisable 0)
  | 7, 0x8130 => enableEdge (AUX_Ak_CTRL_EN 1) s t (execAuxEnable 1) (execAuxDisable 1)
  | 6, 0x8010 => safetyCtrlAfter v t
  | 17, 0x8000 => logEnable t
  | 12, 0x8000 => roleFollow s t
  | 12, 0x8040 => roleFollow s t
  | 12, 0x8180 => t.when (rose ETH_AS_CFG_GM s t) gmStart
  | 18, 0x8000 => remountAfter s t
  | 16, 0x8034 =>
    t.set POWER_VSENS_OVL (s.get POWER_VSENS_OVL &&& (3 - (t.get POWER_VSENS_EN &&& (3 - s.get POWER_VSENS_EN))))
  | _, 0x8000 =>
    if 8 ≤ b ∧ b ≤ 11 then enableEdge (CAN_CTRL_EN (b - 8)) s t (execCanEnable (Fin.ofNat 4 b)) (execCanDisable (Fin.ofNat 4 b)) else t
  | _, _ => t

/-- A stored write with what it brings; an error response that the store gave stays. -/
def plainWrite (who : Req) (a v : Nat) (r : RRow) (ix : List Nat) (s : State) : State :=
  let t := regStore who a v r ix s
  let (n, b) := regBlock a
  let u := if n < 4 then stallAfter n b (a % 0x10000) v s t else yardAfter b (a % 0x10000) v s t
  if t.bus.err then { u with bus := t.bus } else u

/-! ### A register write (R4) -/

/-- A register whose whole write is an operation of its own: `storeWrite`'s, and the kick, at a free time since the one before (R306). -/
def ownWrite (a v : Nat) (s : State) : Option State :=
  let (n, b) := regBlock a
  if n = 4 ∧ b = 6 ∧ a % 0x10000 = 0x80A0 then
    some ((execKick (BitVec.ofNat 16 (Config.fresh s.freeCount).toNat) (BitVec.ofNat 16 v) s.draw).state s)
  else storeWrite a v s

/-- A write of `v` to the register at `a`. -/
def regWrite (who : Req) (a v : Nat) (r : RRow) (ix : List Nat) (s : State) : State :=
  if windowShut a true s then busErr s
  else if r.isCmd then (if mayCommand who r ix then cmdWrite who a (v % 256) s else busErr s)
  else if !r.fs.any RField.writable then busOk s
  else if !r.fs.any (fun f => f.writable && mayWrite who ix f) then busErr s
  else match wideFind a with
    | some (true, ws) => if a + 4 ≤ ws.foldl max 0 then holdWord who a v r ix s else applyWord who a v (ws.filter (fun w => w < a)) r ix s
    | _ => (ownWrite a v s).getD (plainWrite who a v r ix s)

/-- A write of a word by `who` at `a`: a register, or a word of memory that the requester may write; the voter of a Yoke that has stopped
issues nothing (R353). -/
def busWrite (who : Req) (a v : Nat) (s : State) : State :=
  let s := debugSeen who s
  if who = .y ∧ s.get YOKE_STAT_MODE = 3 then s
  else if !mayAccess who a true s then violate who a true s
  else if a % 4 ≠ 0 then busErr s
  else match regAt a with
    | some (r, ix) => regWrite who a v r ix s
    | none => memWrite a (toBytes 4 v) s

/-- REGISTER_WRITE (R4, R44, R526, R528). -/
def execRegisterWrite (who : Req) (a : BitVec 40) (v : BitVec 32) (s : State) : Out := ok (busWrite who a.toNat v.toNat s)

/-- Whether the word at `a` is a lower word of a value whose lower words are held; `some false` the highest. -/
def heldPlace (a : Nat) : Option Bool :=
  match wideFind a with
  | some (true, ws) => some (decide (a + 4 ≤ ws.foldl max 0))
  | _ => none

/-- WIDE_WORD_HOLD (R47). -/
def execWideWordHold (who : Req) (a : BitVec 40) (v : BitVec 32) (s : State) : Out :=
  ok (s.when (heldPlace a.toNat == some true) (busWrite who a.toNat v.toNat))

/-- WIDE_WORD_APPLY (R47). -/
def execWideWordApply (who : Req) (a : BitVec 40) (v : BitVec 32) (s : State) : Out :=
  ok (s.when (heldPlace a.toNat == some false) (busWrite who a.toNat v.toNat))

/-- Whether the register at `a` is a command register. -/
def isCommand (a : Nat) : Bool :=
  match regAt a with
  | some (r, _) => r.isCmd
  | none => false

/-- ABORT (R9). -/
def execAbort (who : Req) (a : BitVec 40) (s : State) : Out := ok (s.when (isCommand a.toNat) (busWrite who a.toNat 0xFF))

/-- COMMAND_CLEAR (R10). -/
def execCommandClear (who : Req) (a : BitVec 40) (s : State) : Out := ok (s.when (isCommand a.toNat) (busWrite who a.toNat 0))

/-- Whether R487 names `who` for a code of `SYS_RST_CMD`. -/
def rstNamed (who : Req) (code : Nat) : Bool :=
  if code = 2 then who != .y else if code = 3 ∨ 0x10 ≤ code then who != .i else true

/-- Whether `code` is unlisted at `a`, or listed and not for `who` (R527). -/
def unlisted (who : Req) (a code : Nat) : Bool :=
  (commandAt who a code).isNone || (a == 0x40008004 && !rstNamed who code)

/-- UNLISTED_COMMAND (R527). -/
def execUnlistedCommand (who : Req) (a : BitVec 40) (code : BitVec 8) (s : State) : Out :=
  ok (s.when (isCommand a.toNat && unlisted who a.toNat code.toNat && code != 0 && code != 0xFF) (busWrite who a.toNat code.toNat))

/-! ### The Yoke's transactions (R346 to R350) -/

/-- A write of `size` bytes; a register takes whole words only. -/
def sizedWrite (who : Req) (a size v : Nat) (s : State) : State :=
  if !mayAccess who a true s then violate who a true s
  else if regionOf a s = some .regs then (if size = 4 then busWrite who a v s else busErr s)
  else memWrite a (toBytes size v) s

/-- What the voter issues. -/
def issue (t : Txn) (s : State) : State :=
  match t.kind with
  | .read => busRead .y t.addr.toNat t.size.toNat s
  | .write => sizedWrite .y t.addr.toNat t.size.toNat t.data.toNat s
  | .sig => s.set YOKE_SIG_REQ_SIG t.data.toNat

/-- Issue a transaction; a core that still owes its copy receives the answer when it presents it (R350, R354). -/
def issueAll (t : Txn) (s : State) : State :=
  let s := issue t s
  { s with yokeOwed := s.yokeOwed.map (fun e => { e with resp := some (e.resp.getD s.bus) }) }

/-- EV_LOCKSTEP_BROKEN (R363, R364): core `c` enters debug mode. Of the transactions that wait, those of Y0 are issued, unvoted. -/
def execEvLockstepBroken (c : Fin 3) (s : State) : Out :=
  let s := s.setBit YOKE_STAT_HALTED c true
  ok (if s.flag YOKE_STAT_LOCKSTEP_BROKEN then s
  else
    let l := if s.get YOKE_STAT_MODE = 3 then [] else s.yokeBuf.filter (fun e => e.core == 0)
    let s := lockstepBreak (bufUpdate { s with yokeBuf := [], yokeOwed := s.yokeOwed.filter (fun e => e.core == 0) })
    l.foldl (fun s e => issue e.txn s) s)

/-- An access of core `c` to its own copy of the SRAM stays inside the core (R346). -/
def ownAccess (c : Nat) (t : Txn) (s : State) : State :=
  let o := t.addr.toNat - 0x10000000
  match t.kind with
  | .write => busOk (ownStore c o t.size.toNat t.data.toNat (coreStep c s))
  | _ => { s with bus := ⟨false, BitVec.ofNat 64 (ofBytes (memTake s.mem (coreBase c + o) t.size.toNat))⟩ }

/-- Corrected errors in core `c`'s SRAM copy (R346). -/
def sramCorrected (c ce : Nat) (s : State) : State :=
  let v := s.get YOKE_SRAM_CE_CE
  s.set YOKE_SRAM_CE_CE (putBits v (8 * c) 8 (min 255 (bits v (8 * c) 8 + ce)))

/-- Keep `YOKE_LAG` (R349); the lead is behind nobody. -/
def lagKeep (c lag : Nat) (s : State) : State :=
  let d := if c = (runningCores s).headD 0 then 0 else lag
  if c = 1 then s.set YOKE_LAG_LAG1 d else if c = 2 then s.set YOKE_LAG_LAG2 d else s

/-- A transaction of core `c` outside its own SRAM goes to the voter; a store to `YOKE_SIG_REQ` presents the signature in place of its data
(R350, R355). -/
def outerAccess (c : Nat) (t : Txn) (s : State) : State :=
  if t.kind == .write && t.addr.toNat == YOKE_SIG_REQ_SIG.addr then
    s.when ((runningCores s).contains c) (presentSig c (Config.coreDigest (s.get (yokeSeq c))))
  else
    match present c t (coreStep c s) with
    | (some t, s) => issueAll t s
    | (none, s) => s

/-- YOKE_TRANSACTION (R346, R348 to R350): core `c`, `lag` retired instructions behind the lead, with `ce` errors corrected in its copy. -/
def execYokeTransaction (c : Fin 3) (t : Txn) (lag : BitVec 16) (ce : BitVec 8) (s : State) : Out :=
  ok (s.when (coreMay c s && lagOk c lag.toNat s) (fun s =>
    let s := lagKeep c lag.toNat (sramCorrected c ce.toNat s)
    if within 0x10000000 0x100000 t.addr.toNat && t.kind != .sig then ownAccess c t s else outerAccess c t s))

end Sys2Proof.Machine
end

