-- ==== Sys2Proof/Machine/Tick.lean ====
section
/-!
DEFINITION. The tick (log entry 1): what one step does while no command waits. `TB_NOW` advances by one (R56), the calendar with it
(R408), and what runs on the timebase without an event of its own keeps up.
-/

namespace Sys2Proof.Machine
open Reg

/-- One calendar cycle of Lantern mode (R59): 6,103 or 6,104 ticks, whichever keeps the total nearest to 6,103.515625 a cycle; where both
are equally near, 6,103 (log entry 1). `SYNC_OUT` is low: its mode drives nothing while the crystal is stopped. -/
def lanternTick (s : State) : State :=
  let e := s.geti lanternAcc + 33
  let adv := if e ≤ 32 then 6103 else 6104
  let s := s.set syncOut 0
  calEdge ({ s with tbNow := s.tbNow + BitVec.ofNat 64 adv }.seti lanternAcc (e - 64 * ((adv : Int) - 6103)))

/-- `SAFETY_TQ_AGE_n` counts microseconds while Stall `n` is starting or running (R312). -/
def ageTick (s : State) : State :=
  s.each [0, 1, 2, 3] (fun n s =>
    s.when (s.now % 200 == s.get (tqAgePh n) && (s.get (PWM_STAT_STATE n) == 1 || s.get (PWM_STAT_STATE n) == 2))
      (fun s => s.inc (SAFETY_TQ_AGE_n_AGE n)))

/-- Command lines and AUX lines whose change waited for a dead-time floor or a minimum pulse (R210, R232). -/
def lineTick (s : State) : State :=
  let t := s.now * 64
  let s := s.each [0, 1, 2, 3] (fun n => refreshLines n t)
  s.each [0, 1] (fun k => auxDelayed k t)

/-- One tick of the running device. -/
def runTick (s : State) : State :=
  let s := calTick { s with tbNow := s.tbNow + 1 }
  syncOutFall (authTick (authDue <| txFill 4096 (disCheck (cfgTick <| parkCommitted <| bootTick <| extestTick <|
    logDeferred <| cellarRest <| resyncTick <| ss1Tick <| ageTick (lineTick (remountArbitrate s))))))

/-- What a step does on an empty queue: while the device is off or in its power-on reset, only the calendar runs (R408, R499). -/
def tick (s : State) : State :=
  if s.get offState ≠ 0 ∨ s.get resetHeld = 2 then calTick s
  else if s.flag lanternOn then lanternTick s
  else runTick s

end Sys2Proof.Machine
end

