-- ==== Sys2Proof/Machine/Dispatch.lean ====
section
/-!
DEFINITION. The dispatcher: one arm for each command, each one direct call of its meaning.
-/

namespace Sys2Proof.Machine

def exec (i : Instr) (s : State) : Host.Outcome State Fault Refusal :=
  match i with
  | .registerWrite who a v => Sys2Proof.Machine.execRegisterWrite who a v s
  | .accessViolation who a write => Sys2Proof.Machine.execAccessViolation who a write s
  | .votedSramRead a => Sys2Proof.Machine.execVotedSramRead a s
  | .wideWordHold who a v => Sys2Proof.Machine.execWideWordHold who a v s
  | .wideWordApply who a v => Sys2Proof.Machine.execWideWordApply who a v s
  | .wideReadSnapshot who a => Sys2Proof.Machine.execWideReadSnapshot who a s
  | .abort who a => Sys2Proof.Machine.execAbort who a s
  | .commandClear who a => Sys2Proof.Machine.execCommandClear who a s
  | .unlistedCommand who a code => Sys2Proof.Machine.execUnlistedCommand who a code s
  | .xtalLost => Sys2Proof.Machine.execXtalLost s
  | .fineCoarse k err => Sys2Proof.Machine.execFineCoarse k err s
  | .fineReturn k err => Sys2Proof.Machine.execFineReturn k err s
  | .syncOutPulse => Sys2Proof.Machine.execSyncOutPulse s
  | .syncInPulse fine => Sys2Proof.Machine.execSyncInPulse fine s
  | .syncLost missing => Sys2Proof.Machine.execSyncLost missing s
  | .lock => Sys2Proof.Machine.execLock s
  | .epochLoad => Sys2Proof.Machine.execEpochLoad s
  | .release => Sys2Proof.Machine.execRelease s
  | .slackMinWrite n v => Sys2Proof.Machine.execSlackMinWrite n v s
  | .selLoad n => Sys2Proof.Machine.execSelLoad n s
  | .loadInstant n peak fine x => Sys2Proof.Machine.execLoadInstant n peak fine x s
  | .carrierZero n fine => Sys2Proof.Machine.execCarrierZero n fine s
  | .conversionDone n c raw => Sys2Proof.Machine.execConversionDone n c raw s
  | .checkConversionDone n c raw => Sys2Proof.Machine.execCheckConversionDone n c raw s
  | .modCtrlWrite n w => Sys2Proof.Machine.execModCtrlWrite n w s
  | .modFilterFilled n x fast y => Sys2Proof.Machine.execModFilterFilled n x fast y s
  | .evModClip n x => Sys2Proof.Machine.execEvModClip n x s
  | .modStuck n x => Sys2Proof.Machine.execModStuck n x s
  | .modUnstuck n x => Sys2Proof.Machine.execModUnstuck n x s
  | .converterCheckStart n => Sys2Proof.Machine.execConverterCheckStart n s
  | .converterCheckDone n devs spreads => Sys2Proof.Machine.execConverterCheckDone n devs spreads s
  | .spareCheckDone devs spreads => Sys2Proof.Machine.execSpareCheckDone devs spreads s
  | .pathReturn n q => Sys2Proof.Machine.execPathReturn n q s
  | .calRun n => Sys2Proof.Machine.execCalRun n s
  | .zeroApplied n => Sys2Proof.Machine.execZeroApplied n s
  | .fullApplied n => Sys2Proof.Machine.execFullApplied n s
  | .captureDone n means spreads => Sys2Proof.Machine.execCaptureDone n means spreads s
  | .calWaitTimeout n => Sys2Proof.Machine.execCalWaitTimeout n s
  | .calCommitDone n good => Sys2Proof.Machine.execCalCommitDone n good s
  | .monEnable n m => Sys2Proof.Machine.execMonEnable n m s
  | .monDisable n m => Sys2Proof.Machine.execMonDisable n m s
  | .monThrLoad n m => Sys2Proof.Machine.execMonThrLoad n m s
  | .evMonResolved n m samples => Sys2Proof.Machine.execEvMonResolved n m samples s
  | .monFilterAssert n m samples => Sys2Proof.Machine.execMonFilterAssert n m samples s
  | .monFilterDeassert n m samples => Sys2Proof.Machine.execMonFilterDeassert n m samples s
  | .monLatchClear n m => Sys2Proof.Machine.execMonLatchClear n m s
  | .monHardAssert n m samples => Sys2Proof.Machine.execMonHardAssert n m samples s
  | .monHardDeassert n m samples => Sys2Proof.Machine.execMonHardDeassert n m samples s
  | .posEnable n => Sys2Proof.Machine.execPosEnable n s
  | .posDisable n => Sys2Proof.Machine.execPosDisable n s
  | .posInternalInstant n => Sys2Proof.Machine.execPosInternalInstant n s
  | .resUpdate n sinW cosW clip phase => Sys2Proof.Machine.execResUpdate n sinW cosW clip phase s
  | .excFault n => Sys2Proof.Machine.execExcFault n s
  | .encoderEdge n a b => Sys2Proof.Machine.execEncoderEdge n a b s
  | .encoderLoss n => Sys2Proof.Machine.execEncoderLoss n s
  | .index n => Sys2Proof.Machine.execIndex n s
  | .hallEdge n code => Sys2Proof.Machine.execHallEdge n code s
  | .evHallIllegal n => Sys2Proof.Machine.execEvHallIllegal n s
  | .hallIllegalTimeout n => Sys2Proof.Machine.execHallIllegalTimeout n s
  | .ssiFrame n raw => Sys2Proof.Machine.execSsiFrame n raw s
  | .sentFrame n sync widths pause age => Sys2Proof.Machine.execSentFrame n sync widths pause age s
  | .sentTimeout n => Sys2Proof.Machine.execSentTimeout n s
  | .travelPreset n hi => Sys2Proof.Machine.execTravelPreset n hi s
  | .probeEdge n rising => Sys2Proof.Machine.execProbeEdge n rising s
  | .probeRearm n => Sys2Proof.Machine.execProbeRearm n s
  | .stillTimeout n => Sys2Proof.Machine.execStillTimeout n s
  | .bemfQualSet n => Sys2Proof.Machine.execBemfQualSet n s
  | .bemfQualClear n => Sys2Proof.Machine.execBemfQualClear n s
  | .loopStart n => Sys2Proof.Machine.execLoopStart n s
  | .loopStop n => Sys2Proof.Machine.execLoopStop n s
  | .pset n => Sys2Proof.Machine.execPset n s
  | .evPset n => Sys2Proof.Machine.execEvPset n s
  | .referenceApply n w => Sys2Proof.Machine.execReferenceApply n w s
  | .loopPeriodDone n mismatch shadow => Sys2Proof.Machine.execLoopPeriodDone n mismatch shadow s
  | .latePeriod n => Sys2Proof.Machine.execLatePeriod n s
  | .recoveryDone n ab ar br => Sys2Proof.Machine.execRecoveryDone n ab ar br s
  | .evEngineRejoin n => Sys2Proof.Machine.execEvEngineRejoin n s
  | .ferrTimeout n => Sys2Proof.Machine.execFerrTimeout n s
  | .pwmStart n => Sys2Proof.Machine.execPwmStart n s
  | .evPwmStart n fine => Sys2Proof.Machine.execEvPwmStart n fine s
  | .pwmStop n => Sys2Proof.Machine.execPwmStop n s
  | .tripClear n mask => Sys2Proof.Machine.execTripClear n mask s
  | .arm n => Sys2Proof.Machine.execArm n s
  | .compareEdge n h on fine => Sys2Proof.Machine.execCompareEdge n h on fine s
  | .deadTimeEnd n h fine => Sys2Proof.Machine.execDeadTimeEnd n h fine s
  | .minpEnd n x fine => Sys2Proof.Machine.execMinpEnd n x fine s
  | .tripAssert n j fine => Sys2Proof.Machine.execTripAssert n j fine s
  | .tripJudge n j fine => Sys2Proof.Machine.execTripJudge n j fine s
  | .coherentLoad => Sys2Proof.Machine.execCoherentLoad s
  | .refCarrierEnable => Sys2Proof.Machine.execRefCarrierEnable s
  | .refCarrierDisable => Sys2Proof.Machine.execRefCarrierDisable s
  | .referenceZero fine => Sys2Proof.Machine.execReferenceZero fine s
  | .auxEnable k => Sys2Proof.Machine.execAuxEnable k s
  | .auxDisable k => Sys2Proof.Machine.execAuxDisable k s
  | .auxZero k fine => Sys2Proof.Machine.execAuxZero k fine s
  | .auxOnTimeEnd k fine => Sys2Proof.Machine.execAuxOnTimeEnd k fine s
  | .evAuxDemand k => Sys2Proof.Machine.execEvAuxDemand k s
  | .demandEnd k => Sys2Proof.Machine.execDemandEnd k s
  | .auxEnFall => Sys2Proof.Machine.execAuxEnFall s
  | .auxEnRise => Sys2Proof.Machine.execAuxEnRise s
  | .heartbeat l => Sys2Proof.Machine.execHeartbeat l s
  | .downlinkAccessFrame l => Sys2Proof.Machine.execDownlinkAccessFrame l s
  | .statusFrame l h w => Sys2Proof.Machine.execStatusFrame l h w s
  | .replyFrame l h w => Sys2Proof.Machine.execReplyFrame l h w s
  | .uplinkFrameError l halves => Sys2Proof.Machine.execUplinkFrameError l halves s
  | .faultPattern l => Sys2Proof.Machine.execFaultPattern l s
  | .uplinkSilence l => Sys2Proof.Machine.execUplinkSilence l s
  | .noFrameTimeout l => Sys2Proof.Machine.execNoFrameTimeout l s
  | .reinStart g => Sys2Proof.Machine.execReinStart g s
  | .trainLockTimeout l swapped => Sys2Proof.Machine.execTrainLockTimeout l swapped s
  | .reinStop g => Sys2Proof.Machine.execReinStop g s
  | .send l => Sys2Proof.Machine.execSend l s
  | .accessTimeout l => Sys2Proof.Machine.execAccessTimeout l s
  | .safe n => Sys2Proof.Machine.execSafe n s
  | .decisionWaitEnd n h => Sys2Proof.Machine.execDecisionWaitEnd n h s
  | .dwellExpiry n => Sys2Proof.Machine.execDwellExpiry n s
  | .swOvrWrite n v => Sys2Proof.Machine.execSwOvrWrite n v s
  | .stallEnFall n => Sys2Proof.Machine.execStallEnFall n s
  | .stallEnRise n => Sys2Proof.Machine.execStallEnRise n s
  | .evPsfClrFail n => Sys2Proof.Machine.execEvPsfClrFail n s
  | .protRelease n => Sys2Proof.Machine.execProtRelease n s
  | .evSafeRelease n fine => Sys2Proof.Machine.execEvSafeRelease n fine s
  | .dischargeRun n => Sys2Proof.Machine.execDischargeRun n s
  | .disReq => Sys2Proof.Machine.execDisReq s
  | .evDisDone => Sys2Proof.Machine.execEvDisDone s
  | .dischargeTimeout => Sys2Proof.Machine.execDischargeTimeout s
  | .energyDecay => Sys2Proof.Machine.execEnergyDecay s
  | .tjAgeTimeout n w => Sys2Proof.Machine.execTjAgeTimeout n w s
  | .derateTick n => Sys2Proof.Machine.execDerateTick n s
  | .sheepdogCycle osc strap ce dev => Sys2Proof.Machine.execSheepdogCycle osc strap ce dev s
  | .kick us value => Sys2Proof.Machine.execKick us value s
  | .watchdogExpiry => Sys2Proof.Machine.execWatchdogExpiry s
  | .shdSramUe => Sys2Proof.Machine.execShdSramUe s
  | .dsReq => Sys2Proof.Machine.execDsReq s
  | .evShdCmd v => Sys2Proof.Machine.execEvShdCmd v s
  | .safetyRaise c => Sys2Proof.Machine.execSafetyRaise c s
  | .safetyAck mask => Sys2Proof.Machine.execSafetyAck mask s
  | .windowApply n hi => Sys2Proof.Machine.execWindowApply n hi s
  | .evSto x => Sys2Proof.Machine.execEvSto x s
  | .stoRise x => Sys2Proof.Machine.execStoRise x s
  | .evStoDisc => Sys2Proof.Machine.execEvStoDisc s
  | .stoAck => Sys2Proof.Machine.execStoAck s
  | .ss1Run => Sys2Proof.Machine.execSs1Run s
  | .ss1Restart => Sys2Proof.Machine.execSs1Restart s
  | .fnSelWrite n v => Sys2Proof.Machine.execFnSelWrite n v s
  | .ctcCloseWrite v => Sys2Proof.Machine.execCtcCloseWrite v s
  | .ctcForceOpen => Sys2Proof.Machine.execCtcForceOpen s
  | .evCtcFault fb => Sys2Proof.Machine.execEvCtcFault fb s
  | .disRepeat => Sys2Proof.Machine.execDisRepeat s
  | .sealCmd who => Sys2Proof.Machine.execSealCmd who s
  | .evSealDone good => Sys2Proof.Machine.execEvSealDone good s
  | .yokeTransaction c t lag ce => Sys2Proof.Machine.execYokeTransaction c t lag ce s
  | .voteTimeout => Sys2Proof.Machine.execVoteTimeout s
  | .yokeSramUe c a => Sys2Proof.Machine.execYokeSramUe c a s
  | .sigReq c digest => Sys2Proof.Machine.execSigReq c digest s
  | .interruptEntry c digest => Sys2Proof.Machine.execInterruptEntry c digest s
  | .resync => Sys2Proof.Machine.execResync s
  | .autoResync => Sys2Proof.Machine.execAutoResync s
  | .evYokeResync pause good => Sys2Proof.Machine.execEvYokeResync pause good s
  | .yokeWdKick v => Sys2Proof.Machine.execYokeWdKick v s
  | .evYokeWd => Sys2Proof.Machine.execEvYokeWd s
  | .evLockstepBroken c => Sys2Proof.Machine.execEvLockstepBroken c s
  | .grantDecision req ages => Sys2Proof.Machine.execGrantDecision req ages s
  | .burstDone units ce ue => Sys2Proof.Machine.execBurstDone units ce ue s
  | .refresh ce ue => Sys2Proof.Machine.execRefresh ce ue s
  | .dramTempRead t => Sys2Proof.Machine.execDramTempRead t s
  | .porterCommit => Sys2Proof.Machine.execPorterCommit s
  | .alloc p => Sys2Proof.Machine.execAlloc p s
  | .free p => Sys2Proof.Machine.execFree p s
  | .give p => Sys2Proof.Machine.execGive p s
  | .caskZeroed k => Sys2Proof.Machine.execCaskZeroed k s
  | .evCellarUe ce ue => Sys2Proof.Machine.execEvCellarUe ce ue s
  | .stagingFlush => Sys2Proof.Machine.execStagingFlush s
  | .timeRecord => Sys2Proof.Machine.execTimeRecord s
  | .streamRecordClose n c samples first => Sys2Proof.Machine.execStreamRecordClose n c samples first s
  | .trigger => Sys2Proof.Machine.execTrigger s
  | .evLogFrozen => Sys2Proof.Machine.execEvLogFrozen s
  | .logbookArm => Sys2Proof.Machine.execLogbookArm s
  | .rainflowTick => Sys2Proof.Machine.execRainflowTick s
  | .ledgerAutoCommit => Sys2Proof.Machine.execLedgerAutoCommit s
  | .commit => Sys2Proof.Machine.execCommit s
  | .evLedgerCommit good => Sys2Proof.Machine.execEvLedgerCommit good s
  | .ledgerLoadDone => Sys2Proof.Machine.execLedgerLoadDone s
  | .calSet => Sys2Proof.Machine.execCalSet s
  | .align => Sys2Proof.Machine.execAlign s
  | .autoAlign => Sys2Proof.Machine.execAutoAlign s
  | .vbakCheck mv => Sys2Proof.Machine.execVbakCheck mv s
  | .canEnable k => Sys2Proof.Machine.execCanEnable k s
  | .canDisable k => Sys2Proof.Machine.execCanDisable k s
  | .canIntegrated k => Sys2Proof.Machine.execCanIntegrated k s
  | .push k => Sys2Proof.Machine.execPush k s
  | .flush k started => Sys2Proof.Machine.execFlush k started s
  | .recover k => Sys2Proof.Machine.execRecover k s
  | .canRecovered k => Sys2Proof.Machine.execCanRecovered k s
  | .evCanTx k result lec dataPhase tdcv age => Sys2Proof.Machine.execEvCanTx k result lec dataPhase tdcv age s
  | .evCankRx k id flags dlc data age => Sys2Proof.Machine.execEvCankRx k id flags dlc data age s
  | .protocolException k => Sys2Proof.Machine.execProtocolException k s
  | .canRxDominant k => Sys2Proof.Machine.execCanRxDominant k s
  | .rxqAck k v => Sys2Proof.Machine.execRxqAck k v s
  | .txrAck k v => Sys2Proof.Machine.execTxrAck k v s
  | .ethFrameRx p bytes fcs age => Sys2Proof.Machine.execEthFrameRx p bytes fcs age s
  | .evEthRx => Sys2Proof.Machine.execEvEthRx s
  | .ethRxReturn v => Sys2Proof.Machine.execEthRxReturn v s
  | .ethTxQueue v => Sys2Proof.Machine.execEthTxQueue v s
  | .ethFrameTx p => Sys2Proof.Machine.execEthFrameTx p s
  | .ethTxAgeExpiry => Sys2Proof.Machine.execEthTxAgeExpiry s
  | .evEthLink p up => Sys2Proof.Machine.execEvEthLink p up s
  | .syncMessage p t => Sys2Proof.Machine.execSyncMessage p t s
  | .syncTransmit => Sys2Proof.Machine.execSyncTransmit s
  | .peerDelayMessage p delay valid => Sys2Proof.Machine.execPeerDelayMessage p delay valid s
  | .syncTimeout => Sys2Proof.Machine.execSyncTimeout s
  | .gmWrite => Sys2Proof.Machine.execGmWrite s
  | .apply p => Sys2Proof.Machine.execApply p s
  | .evGclApply p => Sys2Proof.Machine.execEvGclApply p s
  | .gateEntryEnd p => Sys2Proof.Machine.execGateEntryEnd p s
  | .disable p => Sys2Proof.Machine.execDisable p s
  | .check => Sys2Proof.Machine.execCheck s
  | .evAuthResult good => Sys2Proof.Machine.execEvAuthResult good s
  | .authLockEnd => Sys2Proof.Machine.execAuthLockEnd s
  | .evAuthLapse => Sys2Proof.Machine.execEvAuthLapse s
  | .authSecond => Sys2Proof.Machine.execAuthSecond s
  | .evAuthInhibit => Sys2Proof.Machine.execEvAuthInhibit s
  | .write => Sys2Proof.Machine.execWrite s
  | .evConfigDone row => Sys2Proof.Machine.execEvConfigDone row s
  | .reconf => Sys2Proof.Machine.execReconf s
  | .reconfDone => Sys2Proof.Machine.execReconfDone s
  | .confirm => Sys2Proof.Machine.execConfirm s
  | .abandon => Sys2Proof.Machine.execAbandon s
  | .rollfwd => Sys2Proof.Machine.execRollfwd s
  | .prog who => Sys2Proof.Machine.execProg who s
  | .revoke => Sys2Proof.Machine.execRevoke s
  | .evKeyDone good => Sys2Proof.Machine.execEvKeyDone good s
  | .bistRun => Sys2Proof.Machine.execBistRun s
  | .retest => Sys2Proof.Machine.execRetest s
  | .evBistDone fails spareOk => Sys2Proof.Machine.execEvBistDone fails spareOk s
  | .evRetestDone => Sys2Proof.Machine.execEvRetestDone s
  | .burn => Sys2Proof.Machine.execBurn s
  | .close => Sys2Proof.Machine.execClose s
  | .openRead => Sys2Proof.Machine.execOpenRead s
  | .openWrite => Sys2Proof.Machine.execOpenWrite s
  | .lockdown => Sys2Proof.Machine.execLockdown s
  | .extest on => Sys2Proof.Machine.execExtest on s
  | .intscan clean => Sys2Proof.Machine.execIntscan clean s
  | .devreset => Sys2Proof.Machine.execDevreset s
  | .powerUp => Sys2Proof.Machine.execPowerUp s
  | .porRelease pin => Sys2Proof.Machine.execPorRelease pin s
  | .powerOnReset src => Sys2Proof.Machine.execPowerOnReset src s
  | .evVinLow => Sys2Proof.Machine.execEvVinLow s
  | .evVinHigh => Sys2Proof.Machine.execEvVinHigh s
  | .vinHighClear => Sys2Proof.Machine.execVinHighClear s
  | .resetLLow => Sys2Proof.Machine.execResetLLow s
  | .deviceReset kind req => Sys2Proof.Machine.execDeviceReset kind req s
  | .deviceResetRelease pin => Sys2Proof.Machine.execDeviceResetRelease pin s
  | .device who => Sys2Proof.Machine.execDevice who s
  | .yoke who => Sys2Proof.Machine.execYoke who s
  | .innkeeper who => Sys2Proof.Machine.execInnkeeper who s
  | .stall who n => Sys2Proof.Machine.execStall who n s
  | .stallResetDone => Sys2Proof.Machine.execStallResetDone s
  | .bootStart calOk => Sys2Proof.Machine.execBootStart calOk s
  | .xtalOk => Sys2Proof.Machine.execXtalOk s
  | .xtalBootTimeout => Sys2Proof.Machine.execXtalBootTimeout s
  | .selfTestDone fails spareOk straps => Sys2Proof.Machine.execSelfTestDone fails spareOk straps s
  | .imageLoaded flash ferr bad => Sys2Proof.Machine.execImageLoaded flash ferr bad s
  | .evBootDone => Sys2Proof.Machine.execEvBootDone s
  | .bootTimeout => Sys2Proof.Machine.execBootTimeout s
  | .lantern => Sys2Proof.Machine.execLantern s
  | .offCmd => Sys2Proof.Machine.execOffCmd s
  | .lanternParked => Sys2Proof.Machine.execLanternParked s
  | .wake high => Sys2Proof.Machine.execWake high s
  | .calendarAlarm => Sys2Proof.Machine.execCalendarAlarm s
  | .monitorWake => Sys2Proof.Machine.execMonitorWake s
  | .vsensOverload j => Sys2Proof.Machine.execVsensOverload j s
  | .vsensEnable who v => Sys2Proof.Machine.execVsensEnable who v s
  | .powerMeasure vin rails die i0 i1 => Sys2Proof.Machine.execPowerMeasure vin rails die i0 i1 s
  | .trainStepTimeout l => Sys2Proof.Machine.execTrainStepTimeout l s
  | .rollfwdDone good blown => Sys2Proof.Machine.execRollfwdDone good blown s
  | .burnDone stop => Sys2Proof.Machine.execBurnDone stop s
  | .calendarSlewEnd => Sys2Proof.Machine.execCalendarSlewEnd s
  | .canRxError k lec dataPhase heavy => Sys2Proof.Machine.execCanRxError k lec dataPhase heavy s
  | .reinPatternEnd l => Sys2Proof.Machine.execReinPatternEnd l s

end Sys2Proof.Machine
end

