-- ==== Sys2Proof/Safety.lean ====
section
/-!
DEFINITION. What statements call a good state of the block: the sparse tables and memory are in their canonical forms.
-/

namespace Sys2Proof.Machine

/-- The state's tables are canonical: register store, held words and snapshots with strictly rising keys, memory as `Memory.wf` says. -/
def State.Inv (s : State) : Prop :=
  storeSorted s.regs = true ∧ storeSorted s.held = true ∧ storeSorted s.snaps = true ∧ Memory.wf s.mem

/-- What a step answers is a next state. -/
def answers (o : Host.Outcome State Fault Refusal) : Bool :=
  match o with
  | .next _ => true
  | _ => false

end Sys2Proof.Machine
end

