-- ==== Sys2Proof/Certificates/Slice0/Obligations.lean ====
section
/-!
DEFINITION. The statements.
-/
open Sys2Proof Sys2Proof.Machine Sys2Proof.Machine.Reg

/-- Blocks: a step runs the command at the front of the queue on the state with the queue's rest (log entry 1). Readings and choices of the model:
log entries 1, 73. -/
def Obligations.StepRunsFront : Prop :=
  ∀ (c : Instr) (r : List Instr) (s : State), s.pending = c :: r → step s = exec c { s with pending := r }

/-- On an empty queue a step is one tick (log entry 1): the calendar alone while the device is off or in its power-on reset (R408, R499), a calendar
cycle in Lantern mode (R59), else a tick of `TB_NOW` (R56). The tick as the step of an empty queue is the model's own choice. Readings and choices
of the model: log entry 1. -/
def Obligations.IdleStepTicks : Prop :=
  ∀ s : State, s.pending = [] →
    (s.get offState ≠ 0 ∨ s.get resetHeld = 2 → step s = .next (calTick s)) ∧
    (s.get offState = 0 → s.get resetHeld ≠ 2 → s.get lanternOn ≠ 0 → step s = .next (lanternTick s)) ∧
    (s.get offState = 0 → s.get resetHeld ≠ 2 → s.get lanternOn = 0 → step s = .next (runTick s))

/-- Every command answers a next state in every state: the block has no stop (R4 and R23 end a bad access with a response). Readings and choices of
the model: log entry 73. -/
def Obligations.EveryCommandAnswers : Prop := ∀ (c : Instr) (s : State), ∃ t, exec c s = .next t

/-- A command's effect is on everything but the queue. Readings and choices of the model: log entry 1. -/
def Obligations.CommandsKeepQueue : Prop := ∀ (c : Instr) (s t : State), exec c s = .next t → t.pending = s.pending

/-- The state after reset is in canonical form. Readings and choices of the model: log entries 3, 4. -/
def Obligations.ResetStateIsCanonical : Prop := State.reset.Inv

/-- Every step keeps the canonical forms: the register store, held words and snapshots sorted with no key twice, memory sorted and without a cell
that equals what an unlisted address reads as. Readings and choices of the model: log entry 4. -/
def Obligations.StepKeepsCanonical : Prop := ∀ s t : State, s.Inv → step s = .next t → t.Inv

/-- R4, R44: a plain register all of whose fields are RW, unconditional and named for the writer. Every field takes its part of the word, the access
ends without error, and no other field, no memory and no other table changes. R4: REGISTER_WRITE by a writer whom no writable field of the register
names leaves everything and ends with an error response; to a register without a writable field (RO) it leaves everything and ends without error. A
voter that has stopped issues nothing (R353). The debug port's access shows that a debugger is connected (`debugSeen`: R474, log entry 110; of every
other requester it changes nothing). REGISTER_WRITE (R4, R44, R526, R528): the write of a named writer to a register of one word without an
operation of its own is judged field by field (`regStore`), and what the register's write brings with it follows; while an operation rewrites the
Stall the access ends with an error. Readings and choices of the model: log entries 9, 11, 13, 102. -/
def Obligations.WritesStoreNamedFieldsOnly : Prop :=
  (∀ (who : Req) (a v : Nat) (r : RRow) (l : List Nat) (s : State),
    (r.fs.map RField.lsb).Nodup → r.fs ≠ [] →
    (∀ f ∈ r.fs, f.acc = .rw ∧ mayWrite who l f = true ∧ f.cond = .none ∧ f.lsb < 32) → writeBad a v r l s = false →
    (∀ f ∈ r.fs, (regStore who a v r l s).get (f.fld a) = f.part r.chk v % 2 ^ f.w) ∧
    (∀ g : Fld, (∀ f ∈ r.fs, g.key ≠ (f.fld a).key) → (regStore who a v r l s).get g = s.get g) ∧
    (regStore who a v r l s).bus = ⟨false, 0⟩ ∧ (regStore who a v r l s).mem = s.mem ∧ (regStore who a v r l s).held = s.held) ∧
  (∀ (who : Req) (a : BitVec 40) (v : BitVec 32) (r : RRow) (l : List Nat) (s : State),
    (let u := debugSeen who s
    regAt a.toNat = some (r, l) → a.toNat % 4 = 0 → (who = .y → s.get YOKE_STAT_MODE ≠ 3) → mayAccess who a.toNat true u = true →
    windowShut a.toNat true u = false → r.isCmd = false →
    (r.fs.any RField.writable = true → r.fs.any (fun f => f.writable && mayWrite who l f) = false →
      exec (.registerWrite who a v) s = .next (busErr u)) ∧
    (r.fs.any RField.writable = false → exec (.registerWrite who a v) s = .next (busOk u)) ∧
    (s.get YOKE_STAT_MODE = 3 → exec (.registerWrite .y a v) s = .next s) ∧
    (who ≠ .d → u = s) ∧ debugSeen .d s = s.set BIST_DBG_CONN 1)) ∧
  (∀ (who : Req) (a : BitVec 40) (v : BitVec 32) (r : RRow) (l : List Nat) (s : State),
    (let u := debugSeen who s
    regAt a.toNat = some (r, l) → a.toNat % 4 = 0 → (who = .y → s.get YOKE_STAT_MODE ≠ 3) → mayAccess who a.toNat true u = true →
    r.isCmd = false → wideFind a.toNat = none →
    r.fs.any (fun f => f.writable && mayWrite who l f) = true → ownWrite a.toNat v.toNat u = none →
    (windowShut a.toNat true u = false → exec (.registerWrite who a v) s = .next (plainWrite who a.toNat v.toNat r l u)) ∧
    (windowShut a.toNat true u = true → exec (.registerWrite who a v) s = .next (busErr u)) ∧
    ((plainWrite who a.toNat v.toNat r l u).bus.err = false → (regStore who a.toNat v.toNat r l u).bus.err = false)))

/-- R23: an access without the right to it, or to a reserved address, ends with an error response and data 0, counts in `SYS_VIOL_COUNT`, is
captured while `VALID` is 0, and raises `EV_ACCESS_VIOL`; a write writes nothing. Readings and choices of the model: log entry 9. -/
def Obligations.ViolationsEndInError : Prop :=
  (∀ (who : Req) (a : Nat) (w : Bool) (s : State), regionOf a s = none → mayAccess who a w s = false) ∧
  (∀ (who : Req) (a : BitVec 40) (w : Bool) (s : State), mayAccess who a.toNat w s = false →
    exec (.accessViolation who a w) s = .next (violation (reqCode who) a.toNat w s)) ∧
  (∀ (who : Req) (a : BitVec 40) (v : BitVec 32) (s : State), (who = .y → s.get YOKE_STAT_MODE ≠ 3) →
    mayAccess who a.toNat true (debugSeen who s) = false →
    exec (.registerWrite who a v) s = .next (violation (reqCode who) a.toNat true (debugSeen who s))) ∧
  (∀ (who : Req) (a size : Nat) (s : State), mayAccess who a false s = false → busRead who a size s = violation (reqCode who) a false s) ∧
  (∀ (q a : Nat) (w : Bool) (s : State), s.get SYS_VIOL_INFO_VALID ≠ 0 → violation q a w s = raiseEvent 0 ((busErr s).inc SYS_VIOL_COUNT_COUNT)) ∧
  (∀ (q a : Nat) (w : Bool) (s : State), s.get SYS_VIOL_INFO_VALID = 0 →
    violation q a w s = raiseEvent 0 ((((((busErr s).inc SYS_VIOL_COUNT_COUNT).setWide SYS_VIOL_ADDR_LO_ADDR SYS_VIOL_ADDR_HI_ADDR a).set
      SYS_VIOL_INFO_REQ q).setB SYS_VIOL_INFO_WRITE w).set SYS_VIOL_INFO_VALID 1)) ∧
  (∀ s : State, (busErr s).bus = ⟨true, 0⟩)

/-- R24: VOTED_SRAM_READ answers the word that at least two core copies hold; where all three differ it answers 0 with an error response and raises
`EV_ACCESS_VIOL`; that such a read does not count in `SYS_VIOL_COUNT` is the model's reading (log entry 55). A read of a per-core alias answers that
core's copy. Readings and choices of the model: log entry 55. -/
def Obligations.VotedReadNeedsTwoCopies : Prop :=
  (∀ (a : BitVec 18) (s : State) (w : Nat) (i j : Nat), i < 3 → j < 3 → i ≠ j →
    s.wordAt (coreBase i + 4 * a.toNat) = w → s.wordAt (coreBase j + 4 * a.toNat) = w →
    exec (.votedSramRead a) s = .next { s with bus := ⟨false, BitVec.ofNat 64 w⟩ }) ∧
  (∀ (a : BitVec 18) (s : State), s.wordAt (coreBase 0 + 4 * a.toNat) ≠ s.wordAt (coreBase 1 + 4 * a.toNat) →
    s.wordAt (coreBase 0 + 4 * a.toNat) ≠ s.wordAt (coreBase 2 + 4 * a.toNat) →
    s.wordAt (coreBase 1 + 4 * a.toNat) ≠ s.wordAt (coreBase 2 + 4 * a.toNat) →
    exec (.votedSramRead a) s = .next (raiseEvent 0 (busErr s))) ∧
  (∀ (c o size : Nat) (s : State), c < 3 → o < 0x100000 →
    memRead (coreBase c + o) size s = { s with bus := ⟨false, BitVec.ofNat 64 (ofBytes (memTake s.mem (coreBase c + o) size))⟩ })

/-- R47: WIDE_WORD_HOLD holds the word of a named writer and changes no field; the word held reads so in snapshots already taken. WIDE_WORD_APPLY
applies the words held below it, each of which is held no more, and stores the highest word: every read-write field of a held word takes its part of
that word, and no other field changes by them (`applyHeld`). The references of a loop (R176), the travel preset (R158) and the torque windows (R312)
are applied by their own operations; travel limits out of order are discarded (R157). A lower word that R528 discards holds nothing.
WIDE_READ_SNAPSHOT of the lowest word answers it, held words as held, and snapshots the others for the reader. Readings and choices of the model:
log entry 10. -/
def Obligations.WideWordsHeldAndSnapshot : Prop :=
  (∀ (who : Req) (a : BitVec 40) (v : BitVec 32) (r : RRow) (l ws : List Nat) (s : State),
    (let u := debugSeen who s
    regAt a.toNat = some (r, l) → a.toNat % 4 = 0 → (who = .y → s.get YOKE_STAT_MODE ≠ 3) → mayAccess who a.toNat true u = true →
    windowShut a.toNat true u = false → r.isCmd = false → wideFind a.toNat = some (true, ws) →
    r.fs.any (fun f => f.writable && mayWrite who l f) = true →
    (a.toNat + 4 ≤ ws.foldl max 0 → writeBad a.toNat v.toNat r l u = false →
      ∃ t, exec (.wideWordHold who a v) s = .next t ∧ t.regs = u.regs ∧ t.mem = u.mem ∧ t.bus = ⟨false, 0⟩ ∧
        heldOr t a.toNat 0 = (r.fs.map (fun f => if f.acc == .ro then 0 else f.part r.chk v.toNat * 2 ^ f.lsb)).sum ∧
        (∀ b d, b ≠ a.toNat → heldOr t b d = heldOr s b d) ∧
        t.snaps = s.snaps.map (fun e => if e.1 % 2 ^ 40 = a.toNat then (e.1, heldOr t a.toNat 0) else e)) ∧
    (a.toNat + 4 ≤ ws.foldl max 0 → writeBad a.toNat v.toNat r l u = true → exec (.wideWordHold who a v) s = .next (busErr u)) ∧
    (¬ a.toNat + 4 ≤ ws.foldl max 0 → writeBad a.toNat v.toNat r l u = false →
      ((regBlock a.toNat).1 < 4 → (regBlock a.toNat).2 = 4 →
        exec (.wideWordApply who a v) s = .next (referenceApply (regBlock a.toNat).1 v.toNat u)) ∧
      ((regBlock a.toNat).1 < 4 → (regBlock a.toNat).2 = 3 → a.toNat % 0x10000 = 0x8034 →
        exec (.wideWordApply who a v) s = .next (travelPreset (regBlock a.toNat).1 v.toNat u)) ∧
      ((regBlock a.toNat).1 = 4 → (regBlock a.toNat).2 = 6 →
        exec (.wideWordApply who a v) s = exec (.windowApply (Fin.ofNat 4 ((a.toNat % 0x10000 - 0x8034) / 8)) v) u) ∧
      (((regBlock a.toNat).1 < 4 → (regBlock a.toNat).2 ≠ 4 ∧ ((regBlock a.toNat).2 = 3 → a.toNat % 0x10000 ≠ 0x8034)) →
        ((regBlock a.toNat).1 = 4 → (regBlock a.toNat).2 ≠ 6) →
        (let t := regStore who a.toNat v.toNat r l (applyHeld (ws.filter (fun w => w < a.toNat)) u)
        exec (.wideWordApply who a v) s = .next (if travelLimitsOk a.toNat t then t else busErr u)))))) ∧
  (∀ (ws : List Nat) (s : State), ws.Nodup →
    (∀ w ∈ ws, ∃ r l, regAt w = some (r, l) ∧ (r.fs.map RField.lsb).Nodup ∧ ∀ f ∈ r.fs, f.lsb < 32) →
    (∀ (w d : Nat) (r : RRow) (l : List Nat), w ∈ ws → regAt w = some (r, l) → s.held.find? (fun e => e.1 == w) = some (w, d) →
      ∀ f ∈ r.fs, f.acc = .rw → (applyHeld ws s).get (f.fld w) = f.part r.chk d % 2 ^ f.w) ∧
    (∀ g : Fld, (∀ (w d : Nat) (r : RRow) (l : List Nat), w ∈ ws → regAt w = some (r, l) → (w, d) ∈ s.held →
      ∀ f ∈ r.fs, f.acc = .rw → g.key ≠ (f.fld w).key) → (applyHeld ws s).get g = s.get g) ∧
    (∀ w d : Nat, heldOr (applyHeld ws s) w d = if w ∈ ws then d else heldOr s w d) ∧
    (applyHeld ws s).mem = s.mem ∧ (applyHeld ws s).snaps = s.snaps) ∧
  (∀ (who : Req) (a : BitVec 40) (h : Bool) (ws : List Nat) (s : State),
    (let u := debugSeen who s
    wideFind a.toNat = some (h, a.toNat :: ws) → mayAccess who a.toNat false u = true → windowShut a.toNat false u = false →
    ∃ t, exec (.wideReadSnapshot who a) s = .next t ∧ t.regs = u.regs ∧ t.mem = u.mem ∧ t.held = u.held ∧
      t.bus = ⟨false, BitVec.ofNat 64 (readWord who a.toNat u)⟩ ∧
      (∀ b ∈ ws, storeGet 0 (snapKey who b) t.snaps = heldWord b u) ∧
      (∀ k, (∀ b ∈ ws, k ≠ snapKey who b) → storeGet 0 k t.snaps = storeGet 0 k u.snaps)))

/-- R10: a code of 0 while no command runs (COMMAND_CLEAR). Readings and choices of the model: log entry 9. -/
def Obligations.ZeroCodeClearsIdleCommand : Prop :=
  ∀ (who : Req) (a : BitVec 40) (r : RRow) (l : List Nat) (s : State),
    (let u := debugSeen who s
    regAt a.toNat = some (r, l) → r.isCmd = true → mayCommand who r l = true →
    a.toNat % 4 = 0 → (who = .y → s.get YOKE_STAT_MODE ≠ 3) → mayAccess who a.toNat true u = true → windowShut a.toNat true u = false →
    u.get (cmdRegAt a.toNat).status ≠ stBusy →
    ∃ t, exec (.commandClear who a) s = .next t ∧ t = (busOk u).cmdSet (cmdRegAt a.toNat) 0 stIdle ∧
      t.get (cmdRegAt a.toNat).code = 0 ∧ t.get (cmdRegAt a.toNat).status = stIdle)

/-- R9, R527: a code the register does not list or the writer may not issue starts nothing and reads back REFUSED (UNLISTED_COMMAND), so does an
abort while nothing runs (ABORT); a reset code that R487 does not name for the writer too. While a command runs, an abort reaches it and every other
code is ignored. Readings and choices of the model: log entry 9. -/
def Obligations.UnlistedCodesReadRefused : Prop :=
  ∀ (who : Req) (a : BitVec 40) (code : BitVec 8) (r : RRow) (l : List Nat) (s : State),
    (let u := debugSeen who s
    regAt a.toNat = some (r, l) → r.isCmd = true →
    mayCommand who r l = true → a.toNat % 4 = 0 → (who = .y → s.get YOKE_STAT_MODE ≠ 3) → mayAccess who a.toNat true u = true →
    windowShut a.toNat true u = false →
    (u.get (cmdRegAt a.toNat).status ≠ stBusy →
      (code ≠ 0 → code ≠ 0xFF → commandAt who a.toNat code.toNat = none →
        exec (.unlistedCommand who a code) s = .next ((busOk u).cmdSet (cmdRegAt a.toNat) code.toNat stRefused)) ∧
      (a = 0x40008004 → rstNamed who code.toNat = false → code.toNat ≤ 3 ∨ (0x10 ≤ code.toNat ∧ code.toNat ≤ 0x13) →
        exec (.unlistedCommand who a code) s = .next ((busOk u).cmdSet (cmdRegAt a.toNat) code.toNat stRefused)) ∧
      exec (.abort who a) s = .next ((busOk u).cmdSet (cmdRegAt a.toNat) 0xFF stRefused)) ∧
    (u.get (cmdRegAt a.toNat).status = stBusy →
      exec (.abort who a) s = .next (abortAt a.toNat (busOk u)) ∧
      (code ≠ 0xFF → exec (.registerWrite who a (code.setWidth 32)) s = .next (busOk u))))

/-- R58, R62: a checked crystal that is lost; a placer that leaves fine placement and one that comes back to it. R69 to R72: the leader's pulse, the
follower's judgement of a pulse (lock at the eighth good one, loss at the third bad one), missing pulses, and the three operations of `TB_SYNC_CMD`.
`TB_NOW` never moves backward. A pulse out of the window of a follower in lock leaves the steering (log entry 18). Readings and choices of the
model: log entries 2, 18. -/
def Obligations.TimebaseCommandsAndLock : Prop :=
  (∀ s : State, s.get TB_STATUS_XTAL_OK ≠ 0 → s.get TB_STATUS_XTAL_LOST = 0 →
    exec .xtalLost s = .next (raiseFault 0x0101 .deviceSafe (raiseEvent 0x004
      (((s.set TB_STATUS_XTAL_LOST 1).set TB_STATUS_XTAL_OK 0).set TB_STATUS_RC_ACTIVE 1)))) ∧
  (∀ (k : Fin 5) (e : BitVec 8) (s : State), let u := s.set (TB_FINE_ERRk_ERR k) e.toNat
    (e.toInt.natAbs ≤ 16 → exec (.fineCoarse k e) s = .next u) ∧
    (16 < e.toInt.natAbs → bitAt (s.get TB_STATUS_FINE_COARSE) k = false → exec (.fineCoarse k e) s = .next (raiseFault 0x0102 .ride
      (raiseEvent 0x007 ((u.set (tbCoarseAt k) s.now).setBit TB_STATUS_FINE_COARSE k true)))) ∧
    (16 < e.toInt.natAbs → bitAt (s.get TB_STATUS_FINE_COARSE) k = true → exec (.fineCoarse k e) s = .next (u.set (tbCoarseAt k) s.now))) ∧
  (∀ (k : Fin 5) (e : BitVec 8) (s : State), let u := s.set (TB_FINE_ERRk_ERR k) e.toNat
    (e.toInt.natAbs ≤ 8 → s.get (tbCoarseAt k) + 200000 ≤ s.now → exec (.fineReturn k e) s = .next (u.setBit TB_STATUS_FINE_COARSE k false)) ∧
    (8 < e.toInt.natAbs ∨ s.now < s.get (tbCoarseAt k) + 200000 → exec (.fineReturn k e) s = .next u)) ∧
  (∀ s : State, s.get TB_SYNC_CTRL_MODE = 1 → s.now % 65536 = 0 → exec .syncOutPulse s = .next (s.set syncOut 1)) ∧
  (∀ (f : Fin 64) (s : State), s.get TB_SYNC_CTRL_MODE = 2 →
    let e := sext 22 ((s.fineNow f + 2 ^ 22 - s.get TB_SYNC_CTRL_DLY) % 2 ^ 22)
    let t := s.seti TB_SYNC_ERR_ERR e
    (s.get TB_STATUS_SYNC_LOCK = 0 ∨ e.natAbs ≤ 1280 → exec (.syncInPulse f) s = .next (syncJudge e (steerFree t))) ∧
    (s.get TB_STATUS_SYNC_LOCK ≠ 0 → 1280 < e.natAbs → exec (.syncInPulse f) s = .next (syncJudge e t))) ∧
  (∀ (e : Int) (s : State), s.get TB_STATUS_SYNC_LOCK = 0 →
    (e.natAbs ≤ 12 → s.get tbGood < 7 → syncJudge e s = s.set tbGood (s.get tbGood + 1)) ∧
    (e.natAbs ≤ 12 → s.get tbGood = 7 → syncJudge e s = raiseEvent 0x006 (((s.set tbGood 8).set TB_STATUS_SYNC_LOCK 1).set tbBad 0)) ∧
    (12 < e.natAbs → syncJudge e s = s.set tbGood 0)) ∧
  (∀ (e : Int) (s : State), s.get TB_STATUS_SYNC_LOCK ≠ 0 →
    (e.natAbs ≤ 1280 → syncJudge e s = s.set tbBad 0) ∧
    (1280 < e.natAbs → s.get tbBad < 2 → syncJudge e s = s.set tbBad (s.get tbBad + 1)) ∧
    (1280 < e.natAbs → s.get tbBad = 2 →
      syncJudge e s = raiseEvent 0x005 ((((s.set tbBad 3).set TB_STATUS_SYNC_LOCK 0).set TB_STATUS_SYNC_LOST 1).set tbGood 0))) ∧
  (∀ (m : BitVec 2) (s : State), s.get TB_SYNC_CTRL_MODE = 2 → s.get TB_STATUS_SYNC_LOCK ≠ 0 →
    (s.get tbBad + m.toNat < 3 → exec (.syncLost m) s = .next (s.set tbBad (s.get tbBad + m.toNat))) ∧
    (3 ≤ s.get tbBad + m.toNat →
      exec (.syncLost m) s = .next (raiseEvent 0x005 ((((s.set tbBad 3).set TB_STATUS_SYNC_LOCK 0).set TB_STATUS_SYNC_LOST 1).set tbGood 0)))) ∧
  (∀ s : State, s.busy tbCmd = false →
    (anySwitching s = false → s.get TB_SYNC_CTRL_MODE = 2 → s.now / 65536 ≤ epochTicks s / 65536 →
      exec .lock s = .next ((busOk s).cmdSet tbCmd 1 stBusy)) ∧
    (anySwitching s = true ∨ s.get TB_SYNC_CTRL_MODE ≠ 2 ∨ epochTicks s / 65536 < s.now / 65536 →
      exec .lock s = .next ((busOk s).cmdSet tbCmd 1 stRefused))) ∧
  (∀ s : State, s.busy tbCmd = true → s.now ≤ epochTicks s → ∃ t, exec .epochLoad s = .next t ∧ t.now = epochTicks s % 2 ^ 64 ∧
    t.get TB_SYNC_CMD_STATUS = stDone ∧ ∀ g : Fld, g.key ≠ TB_SYNC_CMD_STATUS.key → t.get g = s.get g) ∧
  (∀ s : State, s.busy tbCmd = true → epochTicks s < s.now → exec .epochLoad s = .next (s.set TB_SYNC_CMD_STATUS stFailed)) ∧
  (∀ s : State, s.busy tbCmd = false → ∃ t, exec .release s = .next t ∧ t.get TB_SYNC_CTRL_MODE = 0 ∧ t.get TB_STATUS_SYNC_LOCK = 0 ∧
    t.get TB_SYNC_STEER_PPB = s.get TB_SYNC_STEER_PPB ∧ t.tbNow = s.tbNow ∧ t.get TB_SYNC_CMD_CODE = 2 ∧ t.get TB_SYNC_CMD_STATUS = stDone)

/-- R59: in Lantern mode a calendar cycle advances `TB_NOW` by 6,103 or 6,104 ticks so that the total stays within half a tick of 6,103.515625 ticks
a cycle: `lanternAcc` holds 64 times the shortfall, from -31 to 32 (at exactly half a tick the choice is the model's, log entry 1). Readings and
choices of the model: log entry 1. -/
def Obligations.LanternCycleTracksTotal : Prop :=
  ∀ s : State, -31 ≤ s.geti lanternAcc → s.geti lanternAcc ≤ 32 →
    ∃ k : Nat, (k = 6103 ∨ k = 6104) ∧ (lanternTick s).tbNow = s.tbNow + BitVec.ofNat 64 k ∧
      (lanternTick s).geti lanternAcc = s.geti lanternAcc + 390625 - 64 * k ∧ -31 ≤ (lanternTick s).geti lanternAcc ∧ (lanternTick s).geti lanternAcc ≤ 32

/-- R408 to R410: SET and ALIGN wait for the next 32.768 kHz edge, which loads the group or compares; the comparison every 10 s, the VBAK reading of
every second, and the end of a slew. R408: a tick of 5 ns adds 32,768 to the calendar's phase of 200,000,000; a full phase is one edge of the 32.768
kHz oscillator, a count of 1/32,768 s where no command waits, and 32,768 counts are a second with its carry into the seconds. Readings and choices
of the model: log entry 19. -/
def Obligations.CalendarCountsAndAligns : Prop :=
  (∀ s : State, s.busy clkCmd = false → exec .calSet s = .next (s.cmdSet clkCmd 1 stBusy)) ∧
  (∀ s : State, s.busy clkCmd = false →
    (s.get ETH_AS_STAT_SYNCED ≠ 0 → exec .align s = .next (s.cmdSet clkCmd 2 stBusy)) ∧
    (s.get ETH_AS_STAT_SYNCED = 0 → exec .align s = .next (s.cmdSet clkCmd 2 stRefused))) ∧
  (∀ s : State, s.busy clkCmd = true → s.get LEDGER_CAL_CMD_CODE = 1 → s.get calAlignDue = 0 →
    calEdge s = raiseEvent 0x02E ((((clkStep (calSetCounts s) s).set LEDGER_CAL_STAT_VALID 1).set LEDGER_CAL_STAT_SLEW 0).set LEDGER_CAL_CMD_STATUS stDone)) ∧
  (∀ s : State, s.busy clkCmd = true → s.get LEDGER_CAL_CMD_CODE = 2 → s.get calAlignDue = 0 →
    calEdge s = calAlign ((calCount s).set LEDGER_CAL_CMD_STATUS stDone)) ∧
  (∀ (c : Nat) (s : State), c < 2 ^ 48 * 32768 → calCounts (clkStep c s) = c) ∧
  (∀ s : State, s.get LEDGER_CAL_CFG_AUTO ≠ 0 → s.get ETH_AS_STAT_SYNCED ≠ 0 → (s.get calAlignAt = 0 ∨ s.get calAlignAt - 1 + 2000000000 ≤ s.now) →
    exec .autoAlign s = .next ((s.set calAlignAt (s.now + 1)).set calAlignDue 1)) ∧
  (∀ (mv : BitVec 16) (s : State), (s.get vbakAt = 0 ∨ s.get vbakAt - 1 + 200000000 ≤ s.now) →
    (mv.toNat < 2000 → exec (.vbakCheck mv) s = .next (raiseFault 0x0A12 .ride ((s.set vbakAt (s.now + 1)).set LEDGER_CAL_STAT_VBAK_LOW 1))) ∧
    (2000 ≤ mv.toNat → exec (.vbakCheck mv) s = .next (s.set vbakAt (s.now + 1)))) ∧
  (∀ s : State, s.get LEDGER_CAL_STAT_SLEW ≠ 0 → (calDiff (s.get calAcc) s).natAbs < calUnit →
    exec .calendarSlewEnd s = .next (s.set LEDGER_CAL_STAT_SLEW 0)) ∧
  (∀ s : State, s.get calAcc + 32768 < 200000000 → calTick s = s.set calAcc (s.get calAcc + 32768)) ∧
  (∀ s : State, 200000000 ≤ s.get calAcc + 32768 → calTick s = calEdge (s.set calAcc (s.get calAcc + 32768 - 200000000))) ∧
  (∀ s : State, s.busy clkCmd = false → s.get calAlignDue = 0 → calEdge s = calCount s) ∧
  (∀ s : State, s.get LEDGER_CAL_STAT_SLEW = 0 → s.get LEDGER_CAL_SUB_SUB < 32768 → calCounts s + 1 < 2 ^ 48 * 32768 →
    calCounts (calCount s) = calCounts s + 1 ∧ (calCount s).get LEDGER_CAL_SUB_SUB < 32768)

/-- R481 to R483, R478: supply thresholds, power-up and power-on reset, sensor supplies. R480: every 100 us a measurement writes VIN, the rails, the
currents and the die temperature; a rail bit is set only inside the rail's band; VIN above 31 V arms the low warning again; the temperature's causes
come at their onset. Readings and choices of the model: log entries 20, 21. -/
def Obligations.SupplyEventsAndMeasurement : Prop :=
  (∀ s : State, s.get offState ≠ 0 → exec .powerUp s = .next ((((powerOnReset 0 s).set offState 0).set resetHeld 2).set ioUp 0)) ∧
  (∀ s : State, s.get resetHeld = 2 → s.get offState = 0 →
    exec (.porRelease true) s = .next (((s.setB SYS_PINS_RESET_L true).set resetHeld 0).set ioUp 1) ∧
    exec (.porRelease false) s = .next (s.setB SYS_PINS_RESET_L false)) ∧
  (∀ s : State, s.get offState = 0 → exec (.powerOnReset 0) s = .next ((((powerOnReset 0 s).set resetHeld 2).set offState 2).set ioUp 0) ∧
    ∃ b : Nat, exec (.powerOnReset 1) s = .next (((powerOnReset 1 s).set resetHeld 2).set ioUp b).draw) ∧
  (∀ s : State, s.get offState ≠ 0 → exec (.powerOnReset 0) s = .next (s.set offState 2) ∧ exec (.powerOnReset 1) s = .next s) ∧
  (∀ (src n : Nat) (s : State), src < 2 → n < 4 → (powerOnReset src s).get SYS_RST_CAUSE_POR_SRC = src ∧ (powerOnReset src s).now = 0 ∧
    (powerOnReset src s).get SYS_BOOT_STAGE = 1 ∧ (powerOnReset src s).get (PWM_STAT_STATE n) = 0) ∧
  (∀ s : State, s.get vinArmed ≠ 0 → exec .evVinLow s = .next (
    let t := raiseEvent 0x023 (raiseFault 0x0D01 .ride (((s.set vinArmed 0).set POWER_STAT_VIN_LOW 1).set POWER_STAT_LOW_SEEN 1))
    if t.get TB_STATUS_LANTERN = 0 then ledPowerLoss t else t)) ∧
  (∀ s : State, s.get POWER_STAT_VIN_HIGH = 0 → exec .evVinHigh s = .next (raiseEvent 0x038 (raiseFault 0x0D02 .ride
    ((s.set POWER_STAT_VIN_HIGH 1).set POWER_STAT_HIGH_SEEN 1)))) ∧
  (∀ s : State, exec .vinHighClear s = .next (s.set POWER_STAT_VIN_HIGH 0)) ∧
  (∀ (j : Fin 2) (s : State), bitAt (s.get POWER_VSENS_EN) j = true → bitAt (s.get POWER_VSENS_OVL) j = false →
    exec (.vsensOverload j) s = .next (raiseEvent 0x03B (raiseFault (0x0D03 + j) .ride (s.setBit POWER_VSENS_OVL j true)))) ∧
  (∀ (v : BitVec 32) (s : State), v.toNat < 4 → ∃ t, exec (.vsensEnable .i v) s = .next t ∧ t.get POWER_VSENS_EN = v.toNat ∧
    (∀ j < 2, bitAt (t.get POWER_VSENS_OVL) j = (bitAt (s.get POWER_VSENS_OVL) j && !(bitAt v.toNat j && !bitAt (s.get POWER_VSENS_EN) j))) ∧ t.mem = s.mem) ∧
  (∀ (vin die i0 i1 : BitVec 16) (rails : List (BitVec 16)) (s : State), (s.get measAt = 0 ∨ s.get measAt - 1 + 20000 ≤ s.now) →
    ∃ t, exec (.powerMeasure vin rails die i0 i1) s = .next (dieJudge die.toInt t) ∧
    t.get POWER_VIN_V = vin.toNat ∧ (∀ k < 6, t.get (POWER_RAIL_k_MV k) = (rails.getD k 0).toNat) ∧
    (∀ k < 6, bitAt (t.get POWER_STAT_RAILS) k = decide ((railBand k).1 ≤ (rails.getD k 0).toNat ∧ (rails.getD k 0).toNat ≤ (railBand k).2)) ∧
    t.get POWER_VSENS_I_I0 = i0.toNat ∧ t.get POWER_VSENS_I_I1 = i1.toNat ∧
    (3100 < vin.toNat → t.get vinArmed = 1 ∧ t.get POWER_STAT_VIN_LOW = 0) ∧ t.mem = s.mem) ∧
  (∀ (d : Int) (s : State), (d < -880 ∨ 3200 < d) → s.get dieBad = 0 →
    dieJudge d s = raiseFault 0x0D07 .ride ((s.set POWER_DIE_T_VALID 0).set dieBad 1)) ∧
  (∀ (d : Int) (s : State), -880 ≤ d → d < 2400 → dieJudge d s = ((s.seti POWER_DIE_T_T d).set POWER_DIE_T_VALID 1).set dieBad 0) ∧
  (∀ (d : Int) (s : State), 2400 ≤ d → d < 2640 → s.get POWER_DIE_T_VALID = 0 ∨ s.geti POWER_DIE_T_T < 2400 →
    dieJudge d s = raiseEvent 0x03C (raiseFault 0x0D05 .ride (((s.seti POWER_DIE_T_T d).set POWER_DIE_T_VALID 1).set dieBad 0)))

/-- R485 to R487: what makes a device reset, what it leaves, and its release. R487 to R489: the reset commands of the Yoke, the Innkeeper and a
Stall, the writers R487 allows, and the end of a Stall reset. Readings and choices of the model: log entries 21, 68. -/
def Obligations.ResetCommandsAndCauses : Prop :=
  (∀ s : State, s.get offState = 0 → s.get resetHeld ≠ 2 → exec .resetLLow s = .next (deviceReset 1 0 (s.set SYS_PINS_RESET_L 0))) ∧
  (∀ (k : BitVec 4) (q : BitVec 2) (s : State), 1 ≤ k.toNat → k.toNat ≤ 7 → exec (.deviceReset k q) s = .next (deviceReset k.toNat q.toNat s)) ∧
  (∀ s : State, s.get resetHeld = 1 → s.getWide SYS_RST_TB_LO_TB SYS_RST_TB_HI_TB + 2000 ≤ s.now → s.get scanOn = 0 →
    exec (.deviceResetRelease true) s = .next ((s.setB SYS_PINS_RESET_L true).set resetHeld 0)) ∧
  (∀ (who : Req) (s : State), who ≠ .s → (who = .d → s.get BIST_DBG_LEVEL = 2) → s.busy rstCmd = false →
    exec (.device who) s = .next (deviceReset 2 (reqCode who) ((busOk (debugSeen who s)).cmdSet rstCmd 1 stIdle))) ∧
  (∀ s : State, s.get BIST_DBG_LEVEL = 2 → exec .devreset s = .next (deviceReset 4 0 (debugSeen .d s))) ∧
  (∀ (kind req n : Nat) (s : State), kind < 16 → req < 4 → n < 4 → (deviceReset kind req s).get SYS_RST_CAUSE_KIND = kind ∧
    (kind = 2 → (deviceReset kind req s).get SYS_RST_CAUSE_REQ = req) ∧ (deviceReset kind req s).get resetHeld = 1 ∧
    (deviceReset kind req s).getWide SYS_RST_TB_LO_TB SYS_RST_TB_HI_TB = s.now ∧ (deviceReset kind req s).tbNow = s.tbNow ∧
    (deviceReset kind req s).get SYS_BOOT_STAGE = 1 ∧ (deviceReset kind req s).get (PWM_STAT_STATE n) = 0) ∧
  (∀ (who : Req) (s : State), who ≠ .s → (who = .d → s.get BIST_DBG_LEVEL = 2) → s.busy rstCmd = false →
    let u := busOk (debugSeen who s)
    (who ≠ .y → stageIdle u = true → s.get SAFETY_STAT_DS = 0 → exec (.yoke who) s = .next (yokeReset (u.cmdSet rstCmd 2 stDone))) ∧
    (who = .y ∨ stageIdle u = false ∨ s.get SAFETY_STAT_DS ≠ 0 → exec (.yoke who) s = .next (u.cmdSet rstCmd 2 stRefused)) ∧
    (who ≠ .i → exec (.innkeeper who) s =
      .next ((u.cmdSet rstCmd 3 stDone).each (List.range 1024) (fun k s => if caskOwner s k = 3 then cellarFree k s else s))) ∧
    (∀ n : Fin 4, who ≠ .i → let mask := ((pairList n s).map (fun p => 2 ^ p)).sum
      exec (.stall who n) s =
        .next ((stallMeets mask ((logReset (u.cmdSet rstCmd (0x10 + n) stBusy)).each (pairList n s) (stallClear true))).set stallRst mask)) ∧
    (who = .i → exec (.innkeeper who) s = .next (u.cmdSet rstCmd 3 stRefused) ∧
      ∀ n : Fin 4, exec (.stall who n) s = .next (u.cmdSet rstCmd (0x10 + n) stRefused))) ∧
  (∀ (n : Fin 4) (s : State), s.get BIST_DBG_LEVEL ≠ 2 → let u := violation 3 0x40008004 true (debugSeen .d s)
    exec (.device .d) s = .next u ∧ exec (.yoke .d) s = .next u ∧ exec (.innkeeper .d) s = .next u ∧ exec (.stall .d n) s = .next u) ∧
  (∀ (n : Nat) (s : State), n < 4 → let t := stallClear true n s
    t.get (PWM_STAT_STATE n) = 0 ∧ t.get (LOOP_STAT_STATE n) = 0 ∧ t.get (SENSE_CTRL_EN n) = 0 ∧
    t.mem = s.mem ∧ t.tbNow = s.tbNow) ∧
  (∀ s : State, s.busy rstCmd = true → s.get stallRst ≠ 0 → ∃ t, exec .stallResetDone s = .next t ∧ t.get stallRst = 0 ∧
    t.get SYS_RST_CMD_STATUS = (if s.get (cmdLate 3) = 0 then stDone else stTooLate))

/-- R491 to R494: the boot steps that a state may take, each no sooner than its least time, and the boot timeout. R496 to R499: the entry into
Lantern mode and off, and the wake sources. Readings and choices of the model: log entries 22, 23. -/
def Obligations.BootStepsAndLanternEntry : Prop :=
  (∀ s : State, s.get resetHeld = 0 → s.get offState = 0 → s.get SYS_BOOT_STAGE = 1 → s.get bootStepAt = 0 →
    exec (.bootStart true) s = .next (((s.set bootAt s.now).set bootStepAt (s.now + 1)).each [0, 1, 2, 3] calLoad)) ∧
  (∀ s : State, s.get resetHeld = 0 → s.get offState = 0 → s.get SYS_BOOT_STAGE = 1 → s.get bootStepAt = 0 →
    exec (.bootStart false) s = .next (raiseEvent 0x02F (raiseFault 0x0A11 .ride (clearKeys (keyOf calendarFields) (fun _ => false)
      (clkLoad 0 ((((s.set bootAt s.now).set bootStepAt (s.now + 1)).each [0, 1, 2, 3] calLoad).set calAcc 0)))))) ∧
  (∀ s : State, s.get SYS_BOOT_STAGE = 1 → s.get TB_STATUS_XTAL_LOST = 0 → s.get bootStepAt ≠ 0 → s.get bootStepAt - 1 + 100000 ≤ s.now →
    exec .xtalOk s = .next ((((s.set bootStepAt (s.now + 1)).set TB_STATUS_XTAL_OK 1).set TB_STATUS_RC_ACTIVE 0).set SYS_BOOT_STAGE 2)) ∧
  (∀ s : State, s.get SYS_BOOT_STAGE = 1 → s.get TB_STATUS_XTAL_LOST = 0 → s.get bootStepAt ≠ 0 → s.get bootStepAt - 1 + 2000000 ≤ s.now →
    exec .xtalBootTimeout s = .next (raiseFault 0x0101 .deviceSafe (raiseEvent 0x004
      ((((s.set bootStepAt (s.now + 1)).set TB_STATUS_XTAL_LOST 1).set TB_STATUS_XTAL_OK 0).set TB_STATUS_RC_ACTIVE 1)))) ∧
  (∀ (fails : List BistFail) (sp : Bool) (straps : BitVec 4) (s : State),
    (s.get SYS_BOOT_STAGE = 2 ∨ s.get SYS_BOOT_STAGE = 1 ∧ s.get TB_STATUS_XTAL_LOST ≠ 0) → s.get bootStepAt ≠ 0 → s.get bootStepAt - 1 + 1600000 ≤ s.now →
    ∃ w : Nat, 40000 ≤ w ∧ w ≤ 200000 ∧ exec (.selfTestDone fails sp straps) s = .next
      ((((bootStep (keyLoad (bootRun fails sp { s with mem := testedMemory s.mem }))).set SAFETY_STAT_STRAP straps.toNat).set SYS_BOOT_STAGE 3).set bootWait w).draw) ∧
  (∀ s : State, passedSince bootStepAt (s.get bootWait) s = true →
    (s.get SYS_BOOT_STAGE = 3 → bootTick s = (safetyCheck (s.get SAFETY_STAT_STRAP) (bootStep s)).set SYS_BOOT_STAGE 4) ∧
    (s.get SYS_BOOT_STAGE = 5 → bootTick s = ((s.set SHD_STAT_RUN 1).set shdKickAt (s.now + 1)).set SYS_BOOT_STAGE 6)) ∧
  (∀ (straps : Nat) (s : State), straps < 16 → straps ≠ 5 → straps ≠ 10 → let t := safetyCheck straps s
    t.get SAFETY_STAT_MODE = 0 ∧ t.get SAFETY_STAT_STRAP = straps ∧ t.get SAFETY_STAT_STRAP_BOOT = straps ∧ t.get SAFETY_STAT_DS = 1) ∧
  (∀ (flash : Option (List Byte)) (ferr bad : Bool) (s : State), s.get SYS_BOOT_STAGE = 4 → passedSince bootStepAt (loadTicks flash (slotsTest s)) (slotsTest s) = true →
    exec (.imageLoaded flash ferr bad) s = .next (bootCandidate flash ferr bad (slotsTest s))) ∧
  (∀ (ferr bad : Bool) (s : State), bootPick s = .flash →
    bootCandidate none ferr bad s = raiseFault 0x0B01 .deviceSafe ((s.set SYS_BFLASH_OUTCOME 1).set CONFIG_STAT_RUN_SLOT 3)) ∧
  (∀ s : State, s.get SYS_BOOT_STAGE = 6 → s.now - s.get bootAt < 2 ^ 32 * 200 →
    exec .evBootDone s = .next (raiseEvent 0x003 (((((s.set SYS_BOOT_STAGE 7).set SYS_BOOT_TIME_US
      ((s.now - s.get bootAt) / 200)).set SYS_RST_COUNT_BOOT_TO 0).set yokeWdAt s.now).set porBoot 0))) ∧
  (∀ s : State, s.get SYS_BOOT_STAGE = 5 → s.get bootStepAt ≠ 0 → s.get bootStepAt - 1 + 100000 ≤ s.now → s.now - s.get bootAt < 2 ^ 32 * 200 →
    exec .evBootDone s = .next (raiseEvent 0x003 ((((((((s.set SHD_STAT_RUN 1).set shdKickAt (s.now + 1)).set SYS_BOOT_STAGE 6).set SYS_BOOT_STAGE 7).set SYS_BOOT_TIME_US
      ((s.now - s.get bootAt) / 200)).set SYS_RST_COUNT_BOOT_TO 0).set yokeWdAt s.now).set porBoot 0))) ∧
  (∀ s : State, s.get SYS_BOOT_STAGE ≠ 7 → s.get SYS_BOOT_STAGE ≠ 15 → s.get resetHeld = 0 → s.get bootStepAt ≠ 0 → s.get bootAt + 600000000 ≤ s.now →
    let t := raiseFault 0x0001 .deviceSafe (s.inc SYS_RST_COUNT_BOOT_TO)
    exec .bootTimeout s = .next (if t.get SYS_RST_COUNT_BOOT_TO = 3 then t.set SYS_BOOT_STAGE 15 else deviceReset 6 0 t)) ∧
  (∀ s : State, s.busy powerCmd = false →
    (parkReason 1 s = 0 → exec .lantern s = .next (parkStart (s.cmdSet powerCmd 1 stBusy))) ∧
    (parkReason 1 s ≠ 0 → exec .lantern s = .next ((s.cmdSet powerCmd 1 stRefused).set POWER_STAT_ERR (parkReason 1 s))) ∧
    (parkReason 2 s = 0 → exec .offCmd s = .next (parkStart (s.cmdSet powerCmd 2 stBusy))) ∧
    (parkReason 2 s ≠ 0 → exec .offCmd s = .next ((s.cmdSet powerCmd 2 stRefused).set POWER_STAT_ERR (parkReason 2 s)))) ∧
  (∀ s : State, let t := parkStart s
    t.get POWER_STAT_PHASE = 1 ∧ t.get LOGBOOK_STAT_STATE = 0 ∧ (s.get LEDGER_STAT_LOADED ≠ 0 → t.get ledKind ≠ 0)) ∧
  (∀ s : State, s.busy powerCmd = true → s.get POWER_STAT_PHASE = 2 → s.get POWER_CMD_CODE = 1 → s.get wakePend = 0 → s.get parkAt + 20000 ≤ s.now →
    ∃ t, exec .lanternParked s = .next t ∧
    t.get lanternOn = 1 ∧ t.get TB_STATUS_LANTERN = 1 ∧ t.get SHD_STAT_RUN = 0 ∧ t.get POWER_VSENS_EN = 0 ∧ t.get POWER_CMD_STATUS = stDone ∧
    ∀ a, (a < 0x100000000 ∨ 0x300000000 ≤ a) → t.byteAt a = s.byteAt a) ∧
  (∀ s : State, s.busy powerCmd = true → s.get POWER_STAT_PHASE = 2 → s.get POWER_CMD_CODE = 2 → s.get wakePend = 0 →
    exec .lanternParked s = .next ((((powerOnReset 1 s).set resetHeld 2).set ioUp 0).set offState 1)) ∧
  (∀ s : State, s.get offState = 1 → exec (.wake true) s = .next ((s.setB SYS_PINS_WAKE true).set offState 0)) ∧
  (∀ s : State, exec (.wake false) s = .next (s.setB SYS_PINS_WAKE false)) ∧
  (∀ s : State, s.get offState ≠ 1 → s.get lanternOn ≠ 0 → s.get POWER_WAKE_CFG_PIN_EN ≠ 0 →
    exec (.wake true) s = .next (wake 1 (s.setB SYS_PINS_WAKE true))) ∧
  (∀ s : State, s.get lanternOn ≠ 0 → s.get POWER_WAKE_CFG_ALARM_EN ≠ 0 →
    s.getWide POWER_ALARM_LO_SEC POWER_ALARM_HI_SEC ≤ s.getWide LEDGER_CAL_SEC_LO_SEC LEDGER_CAL_SEC_HI_SEC →
    exec .calendarAlarm s = .next (wake 3 s)) ∧
  (∀ (n m : Nat) (s : State), s.get lanternOn ≠ 0 → s.get POWER_WAKE_CFG_MON_EN ≠ 0 → n < 4 → m < 12 → s.get (MON_Mm_STAT_WAKE n m) ≠ 0 →
    exec .monitorWake s = .next (wake 2 s)) ∧
  (∀ (src : Nat) (s : State), src < 4 → (wake src s).get POWER_WAKE_STAT_SRC = src ∧ (wake src s).get SYS_RST_CAUSE_KIND = 5 ∧ (wake src s).get lanternOn = 0)

/-- R77, R80, R205, R203: the channel selects load once, 100 ns before the coming trigger; a load instant and a zero act at their own instants of
the running carrier; a load instant that the carrier does not have, or that is no sampling instant of the Stall, leaves the state. R82 to R86:
`MOD_CTRL`, the filters' fill, saturation, and a stuck bit stream. Readings and choices of the model: log entries 24, 26, 75, 76, 100. -/
def Obligations.SamplingInstantsAndFilters : Prop :=
  (∀ (n : Fin 4) (s : State), s.get (senSelDone n) = 0 → (nextTrigger n s).any (fun t => decide (t ≤ s.now * 64 + 63 + 1280)) = true →
    ∃ t, exec (.selLoad n) s = .next t ∧ t.get (senSelDone n) = 1 ∧
    (∀ c < 4, t.get (SENSE_Cc_SEL_CH_ACT n c) = s.get (SENSE_Cc_SEL_CH n c)) ∧ t.mem = s.mem ∧ t.tbNow = s.tbNow) ∧
  (∀ (n : Fin 4) (peak : Bool) (f : Fin 64) (l : List (BitVec 768)) (s : State),
    (∀ t : Nat, carrierOn n s = true → sampledAt n peak s = true → loadDue n peak (s.fineNow f) s = some t →
      exec (.loadInstant n peak f l) s = .next (loadInstant n t peak l s)) ∧
    (carrierOn n s = false ∨ sampledAt n peak s = false ∨ loadDue n peak (s.fineNow f) s = none → exec (.loadInstant n peak f l) s = .next s)) ∧
  (∀ (n : Nat) (s : State), n < 4 →
    (∀ t : Nat, s.get (pwmZeroDone n) = 0 → loadDue n false t s = some (s.get (pwmZeroAt n))) ∧
    (∀ t : Nat, s.get (pwmPeakDone n) = 0 → s.get (pwmZeroAt n) + period n s / 2 ≤ t → loadDue n true t s = some (s.get (pwmZeroAt n) + period n s / 2)) ∧
    (∀ t : Nat, t < s.get (pwmZeroAt n) + period n s / 2 → loadDue n true t s = none)) ∧
  (∀ (n : Fin 4) (f : Fin 64) (s : State),
    let z := s.get (pwmZeroAt n) + period n s
    (carrierOn n s = true → z ≤ s.fineNow f → exec (.carrierZero n f) s = .next (zeroAfter n z (loadAtZero n z (periodBegin n z s)))) ∧
    (s.fineNow f < z → exec (.carrierZero n f) s = .next s)) ∧
  (∀ (n z : Nat) (s : State), n < 4 → z < 2 ^ 72 → (periodBegin n z s).get (pwmZeroAt n) = z ∧ (periodBegin n z s).get (pwmZeroDone n) = 0 ∧
    (periodBegin n z s).get (pwmPeakDone n) = 0) ∧
  (∀ (n : Nat) (s : State), n < 4 → s.flag (SENSE_CTRL_EN n) = true → ∀ c < 4, s.flag (SENSE_Cc_STAT_OUT n c) = false → s.get (senBack n c) = 0 →
    (holdsClose n s).get (senHeld n c) = 1 ∧ (holdsClose n s).get (senCh n c) = s.get (SENSE_Cc_SEL_CH_ACT n c)) ∧
  (∀ (n : Fin 4) (w : BitVec 32) (s : State), (bits w.toNat 8 5 < 8 ∨ 20 < bits w.toNat 8 5) → exec (.modCtrlWrite n w) s = .next (busErr s)) ∧
  (∀ (n : Fin 4) (w : BitVec 32) (s : State), bitAt (rewritten s) n = false → 8 ≤ bits w.toNat 8 5 → bits w.toNat 8 5 ≤ 20 → s.get (MOD_CTRL_EN n) = 0 →
    ∃ t, exec (.modCtrlWrite n w) s = .next t ∧
    t.get (MOD_CTRL_EN n) = w.toNat % 2 ∧ t.get (MOD_CTRL_CLK_DIV n) = bits w.toNat 8 5 ∧ t.get (MOD_CTRL_IN_EN n) = bits w.toNat 16 6 ∧
    t.bus = ⟨false, 0⟩ ∧ ∀ i < 6, w.toNat % 2 = 1 → bitAt w.toNat (16 + i) = true → t.get (modFill n i) = 0 ∧ t.get (MOD_INi_MAIN_VALID n i) = 0) ∧
  (∀ (n : Fin 4) (i : Fin 6) (b : BitVec 768) (s : State), modOn n i s = true →
    (3 * s.get (MOD_INi_CFG_DEC n i) ≤ bitsSince n (s.get (modOnAt n i)) s → ∃ t, exec (.modFilterFilled n i false b) s = .next t ∧
      (bitAt (s.get (MOD_STAT_STUCK n)) i = false → t.get (MOD_INi_MAIN_VALID n i) = 1) ∧
      t.get (MOD_INi_FAST_RAW n i) = filterCode (fastOut n i b.toNat s) % 2 ^ 16 ∧ t.mem = s.mem) ∧
    (2 * s.get (MOD_INi_CFG_OSR n i) ≤ bitsSince n (s.get (modOnAt n i)) s →
      exec (.modFilterFilled n i true b) s = .next (modValid n i
        ((s.set (MOD_INi_FAST_RAW n i) (filterCode (fastOut n i b.toNat s))).setBit (modFill n i) 1 true)))) ∧
  (∀ (n : Fin 4) (i : Fin 6) (b : BitVec 769) (s : State), s.get (MOD_INi_MAIN_VALID n i) ≠ 0 →
    saturates (mainOut n i b.toNat s) = true → saturates (mainOut n i (b.toNat / 2) s) = false →
    exec (.evModClip n (i, b)) s = .next (raiseEvent (0x69 + 0x40 * n)
      ((s.set (MOD_INi_FAST_RAW n i) (filterCode (fastOut n i b.toNat s))).setBit (MOD_STAT_CLIP_SEEN n) i true))) ∧
  (∀ (n : Fin 4) (i : Fin 6) (b : BitVec 1023) (s : State), modOn n i s = true → bitAt (s.get (MOD_STAT_STUCK n)) i = false →
    let k := s.get (MOD_INi_CFG_STUCK_N n i)
    (b.toNat % 2 ^ k = 0 ∨ b.toNat % 2 ^ k = 2 ^ k - 1) → k ≤ bitsSince n (s.get (modOnAt n i)) s →
    exec (.modStuck n (i, b)) s = .next (calFail n 6 (raiseStallFault n 7 1 .ride (raiseEvent (0x68 + 0x40 * n)
      (modValid n i ((((s.set (MOD_INi_FAST_RAW n i) (filterCode (fastOut n i b.toNat s))).setBit (MOD_STAT_STUCK n) i true).setBit (MOD_STAT_STUCK_SEEN n) i true).set (modStuckAt n i) s.now)))))) ∧
  (∀ (n : Fin 4) (i : Fin 6) (s : State), bitAt (s.get (MOD_STAT_STUCK n)) i = true → 4 * s.get (MOD_INi_CFG_DEC n i) ≤ bitsSince n (s.get (modStuckAt n i)) s →
    exec (.modUnstuck n i) s = .next (modValid n i ((s.setBit (MOD_STAT_STUCK n) i false).set (modFill n i) 3)))

/-- R76, R79, R87: a conversion of a closed hold writes its raw code, its channel and the clip flag, and the channel's corrected value `UG` x (`FG`
x raw + `FO`) + `UO`; a converter whose hold is open, or whose conversion cannot have ended, gives none. R93, R94: a cross-check above `THR` counts
in both converters' `XFAIL`, and at `N` in a row (16 for 0) it sets `MISMATCH`, raises `EV_XCHK_MISMATCH` and asks for both checks; one within it
ends the run; a pair with a converter out is not compared and starts at 0. R87: the correction rounds once to the nearest 1/16 LSB and saturates at
24 bits; with `UG` and `FG` of 1.0 and no offset it gives the code itself, 16 times its number of LSB. Readings and choices of the model: log
entries 24, 26, 77. -/
def Obligations.ConversionsCorrectAndSaturate : Prop :=
  (∀ (n c : Fin 4) (raw : BitVec 16) (s : State), s.get (senCh n c) < 16 →
    (s.get (senHeld n c) ≠ 0 → s.get (senTrigAt n) + 6 ≤ s.now → ∃ t, exec (.conversionDone n c raw) s = .next t ∧ t.get (SENSE_Cc_RAW_RAW n c) = raw.toNat ∧
      t.get (SENSE_Cc_RAW_CH n c) = s.get (senCh n c) ∧ t.get (SENSE_Cc_RAW_CLIP n c) = (raw == 0 || raw == 0xFFFF).toNat ∧
      t.geti (SENSE_CHk_COR_COR n (s.get (senCh n c))) =
        correct (s.get (SENSE_CHk_UG_UG n (s.get (senCh n c)))) (s.geti (SENSE_CHk_UO_UO n (s.get (senCh n c))))
          (factoryValue (s.get (SENSE_Cc_FG_FG n c)) (s.geti (SENSE_Cc_FO_FO n c)) raw.toNat) ∧
      t.get (senHeld n c) = 0 ∧ t.mem = s.mem ∧
      ∀ k : Nat, k < 16 → k ≠ s.get (senCh n c) → t.get (SENSE_CHk_COR_COR n k) = s.get (SENSE_CHk_COR_COR n k)) ∧
    (s.get (senHeld n c) = 0 ∨ s.now < s.get (senTrigAt n) + 6 → exec (.conversionDone n c raw) s = .next s)) ∧
  (∀ (n c : Fin 4) (raw : BitVec 16) (s : State),
    let d := (c.val + 1) % 4
    let u := s.setBit (senXdue n) c false
    let diff := (converterValue n c raw.toNat s - s.geti (senPrim n d)).natAbs
    let need := if s.get (SENSE_XCHK_CFG_N n) = 0 then 16 else s.get (SENSE_XCHK_CFG_N n)
    let w := ((s.inc (SENSE_Cc_STAT_XFAIL n c)).inc (SENSE_Cc_STAT_XFAIL n d)).inc (senXrun n c)
    (bitAt (s.get (senXdue n)) c = true → s.get (senTrigAt n) + 20 ≤ s.now →
      s.get (SENSE_Cc_STAT_OUT n c) = 0 → s.get (SENSE_Cc_STAT_OUT n d) = 0 → s.get (senPrimOk n d) ≠ 0 →
      (diff ≤ s.get (SENSE_XCHK_CFG_THR n) * 2 ^ 26 → exec (.checkConversionDone n c raw) s = .next (u.set (senXrun n c) 0)) ∧
      (s.get (SENSE_XCHK_CFG_THR n) * 2 ^ 26 < diff → exec (.checkConversionDone n c raw) s = .next (pairMismatch n c u))) ∧
    (bitAt (s.get (senXdue n)) c = true → s.get (senTrigAt n) + 20 ≤ s.now → (s.get (SENSE_Cc_STAT_OUT n c) ≠ 0 ∨ s.get (SENSE_Cc_STAT_OUT n d) ≠ 0) →
      exec (.checkConversionDone n c raw) s = .next (u.set (senXrun n c) 0)) ∧
    (w.get (senXrun n c) < need → pairMismatch n c s = w) ∧
    (need ≤ w.get (senXrun n c) → pairMismatch n c s = requestCheck n d 0 (requestCheck n c 0 (raiseEvent (0x63 + 0x40 * n)
      ((w.set (senXrun n c) 0).setBit (SENSE_XCHK_STAT_MISMATCH n) c true))))) ∧
  (∀ (ug : Nat) (uo v : Int), -(2 ^ 23) ≤ correct ug uo v ∧ correct ug uo v < 2 ^ 23) ∧
  (∀ raw : Nat, raw < 65536 → correct 0x400000 0 (factoryValue 0x400000 0 raw) = 16 * raw) ∧
  (∀ (ug : Nat) (uo v w : Int), v ≤ w → correct ug uo v ≤ correct ug uo w)

/-- R95 to R99: a queued converter check starts at the trigger and takes its converter out of service; it passes where the five means lie within 8
LSB and the five spreads within 16 LSB, and the converter is back at the next trigger; a failed converter asks for the spare, which takes its place
at the next trigger with its own factory constants, or fails. A replaced slot returns to its converter after 1,024 passing periods. Readings and
choices of the model: log entry 24. -/
def Obligations.FailedConverterTakesSpare : Prop :=
  (∀ (n : Fin 4) (c : Nat) (r : List Nat) (s : State), s.get (senTrigAt n) = s.now → (∀ d < 4, s.get (SENSE_Cc_STAT_CHECK n d) = 0) →
    checkQueue n s = c :: r → c < 4 → ∃ t, exec (.converterCheckStart n) s = .next t ∧ t.get (SENSE_Cc_STAT_CHECK n c) = 1 ∧
      t.get (SENSE_Cc_STAT_OUT n c) = 1 ∧ t.get (senCkAt n) = s.now ∧ t.get (senXrun n c) = 0 ∧ t.mem = s.mem) ∧
  (∀ (n : Fin 4) (c : Nat) (devs spreads : List (BitVec 20)) (s : State), c < 4 → s.get (SENSE_Cc_STAT_CHECK n c) ≠ 0 →
    (∀ d < c, s.get (SENSE_Cc_STAT_CHECK n d) = 0) → s.get (senCkAt n) + 3200 ≤ s.now →
    let t := (s.set (SENSE_Cc_STAT_CHECK n c) 0).set (senCkLatch n c) 0
    ((∀ d ∈ devs, d.toInt.natAbs ≤ 128) → (∀ d ∈ spreads, d.toNat ≤ 16) →
      (s.get (senCkLatch n c) = 0 → exec (.converterCheckDone n devs spreads) s = .next (t.set (senBack n c) 1)) ∧
      (s.get (senCkLatch n c) ≠ 0 → exec (.converterCheckDone n devs spreads) s =
        .next (raiseStallFault n 1 4 .ride (latchForGood n c (s.get (senCkLatch n c)) (t.set (senBack n c) 1))))) ∧
    (((∃ d ∈ devs, 128 < d.toInt.natAbs) ∨ ∃ d ∈ spreads, 16 < d.toNat) →
      exec (.converterCheckDone n devs spreads) s = .next (converterFails n c t))) ∧
  (∀ (n c : Nat) (s : State), n < 4 → c < 4 →
    let t := calFail n 6 (raiseEvent (0x64 + 0x40 * n) ((s.set (SENSE_Cc_STAT_FAILED n c) 1).set (SENSE_Cc_STAT_OUT n c) 1))
    (t.get (SENSE_Cc_STAT_SPARE n c) ≠ 0 → converterFails n c s = raiseStallFault n 1 3 .ride (t.set BIST_SPARE_STAT_CONV_FAIL 1)) ∧
    (t.get (SENSE_Cc_STAT_SPARE n c) = 0 → (t.get BIST_SPARE_CONV_VALID ≠ 0 ∨ t.get BIST_SPARE_STAT_CONV_FAIL ≠ 0) →
      converterFails n c s = raiseStallFault n 1 3 .ride t) ∧
    (t.get (SENSE_Cc_STAT_SPARE n c) = 0 → t.get BIST_SPARE_CONV_VALID = 0 → t.get BIST_SPARE_STAT_CONV_FAIL = 0 → t.get spareReq = 0 →
      converterFails n c s = ((t.set spareReq (n + 1)).set spareReqC c).set spareReqAt t.now)) ∧
  (∀ (n c : Nat) (devs spreads : List (BitVec 20)) (s : State), n < 4 → c < 4 → s.get spareReq = n + 1 → s.get spareReqC = c → s.get spareReqAt + 3200 ≤ s.now →
    (checkPasses devs spreads = true → exec (.spareCheckDone devs spreads) s = .next (((((s.set spareReq 0).set BIST_SPARE_CONV_VALID 1).set
      BIST_SPARE_CONV_STALL n).set BIST_SPARE_CONV_C c).set (senBack n c) 2)) ∧
    (checkPasses devs spreads = false → exec (.spareCheckDone devs spreads) s =
      .next (raiseStallFault n 1 3 .ride (raiseEvent (0x64 + 0x40 * n) ((s.set spareReq 0).set BIST_SPARE_STAT_CONV_FAIL 1))))) ∧
  (∀ (n c : Nat) (s : State), n < 4 → c < 4 →
    (s.get (senBack n c) = 1 → positionBack n c s = pathRefresh n ((s.set (senBack n c) 0).set (SENSE_Cc_STAT_OUT n c) 0)) ∧
    (s.get (senBack n c) = 2 → positionBack n c s = pathRefresh n (raiseStallFault n 1 2 .ride (raiseEvent (0x65 + 0x40 * n)
      (((((s.set (senBack n c) 0).set (SENSE_Cc_STAT_OUT n c) 0).set (SENSE_Cc_STAT_SPARE n c) 1).set (SENSE_Cc_FG_FG n c) (s.get spareFg)).set
        (SENSE_Cc_FO_FO n c) (s.get spareFo)))))) ∧
  (∀ (n : Fin 4) (q : Fin 8) (c : Nat) (s : State), s.get (senLatched n q) ≠ 0 → s.get (senPassed n q) = 0 → s.get (SENSE_CTRL_AUTO_RETURN n) ≠ 0 →
    s.get (senRet n q) = 1024 → s.get (senLconv n q) = c + 1 → s.get (SENSE_Cc_STAT_SPARE n c) ≠ 0 → s.get (SENSE_Cc_STAT_OUT n c) = 0 →
    exec (.pathReturn n q) s = .next (raiseEvent (0x62 + 0x40 * n) (((s.set (senLatched n q) 0).set (senRet n q) 0).set (SENSE_Qq_CFG_PATH n q) 0)))

/-- R104 to R108: the calibration sequence. RUN where its preconditions hold, the two waits and captures, each of its length, the 60 s timeout, and
the commit of the record, whose copy is written over the older one. Readings and choices of the model: log entries 25, 64, 78. -/
def Obligations.CalibrationRunsAndCommits : Prop :=
  (∀ (n : Fin 4) (s : State), bitAt (rewritten s) n = false → s.get (SENSE_CAL_CMD_STATUS n) ≠ stBusy →
    (calAllowed n s = true → exec (.calRun n) s = .next (raiseEvent (0x67 + 0x40 * n)
      (((s.cmdSet (calCmd n) 1 stBusy).set (SENSE_CAL_STAT_PHASE n) 1).set (calWaitAt n) s.now))) ∧
    (calAllowed n s = false → exec (.calRun n) s = .next (raiseEvent (0x66 + 0x40 * n) (s.cmdSet (calCmd n) 1 stRefused)))) ∧
  (∀ (n : Fin 4) (s : State), bitAt (rewritten s) n = false →
    (s.get (SENSE_CAL_STAT_PHASE n) = 1 →
      exec (.zeroApplied n) s = .next (busOk (((s.set (SENSE_CAL_STEP_STEP n) 1).set (SENSE_CAL_STAT_PHASE n) 2).set (calWaitAt n) s.now))) ∧
    (s.get (SENSE_CAL_STAT_PHASE n) ≠ 1 → exec (.zeroApplied n) s = .next (busErr s)) ∧
    (s.get (SENSE_CAL_STAT_PHASE n) = 3 →
      exec (.fullApplied n) s = .next (busOk (((s.set (SENSE_CAL_STEP_STEP n) 2).set (SENSE_CAL_STAT_PHASE n) 4).set (calWaitAt n) s.now))) ∧
    (s.get (SENSE_CAL_STAT_PHASE n) ≠ 3 → exec (.fullApplied n) s = .next (busErr s))) ∧
  (∀ (n : Fin 4) (means : List (BitVec 24)) (spreads : List (BitVec 20)) (s : State), s.get (calWaitAt n) + captureTicks n s ≤ s.now →
    let wide := ∃ j < 22, calMasked n j s = true ∧ 2048 < (spreads.getD j 0).toNat
    (s.get (SENSE_CAL_STAT_PHASE n) = 2 → ¬ wide → ∃ t, exec (.captureDone n means spreads) s = .next t ∧
      t = calWait n 3 (s.each (List.range 22) (fun j s => s.set (calA0 n j) (means.getD j 0).toNat)) ∧
      (∀ j < 22, t.get (calA0 n j) = (means.getD j 0).toNat) ∧ t.get (SENSE_CAL_STAT_PHASE n) = 3) ∧
    (s.get (SENSE_CAL_STAT_PHASE n) = 4 → ¬ wide → exec (.captureDone n means spreads) s =
      .next (calComputeAll n means (List.range 22) (s.set (SENSE_CAL_STAT_PHASE n) 5))) ∧
    (s.get (SENSE_CAL_STAT_PHASE n) = 2 ∨ s.get (SENSE_CAL_STAT_PHASE n) = 4 → wide →
      exec (.captureDone n means spreads) s = .next (calFail n 2 s))) ∧
  (∀ (n : Fin 4) (s : State), s.get (SENSE_CAL_STAT_PHASE n) = 1 ∨ s.get (SENSE_CAL_STAT_PHASE n) = 3 →
    s.get (calWaitAt n) + 12000000000 < s.now → s.get (SENSE_CAL_CMD_STATUS n) = stBusy → exec (.calWaitTimeout n) s =
    .next (raiseEvent (0x66 + 0x40 * n) (((s.set (SENSE_CAL_STAT_ERR n) 1).set (SENSE_CAL_CMD_STATUS n) stFailed).set (SENSE_CAL_STAT_PHASE n) 0))) ∧
  (∀ (n : Fin 4) (k : Nat) (s : State), s.get (SENSE_CAL_STAT_PHASE n) = 6 → s.get (SENSE_CAL_CMD_STATUS n) = stBusy → calNewest n s = some k →
    (exec (.calCommitDone n true) s = .next (calEnd n stDone (calLoad n ((s.putWords (calAddr n (1 - k))
      (calRecord n ((s.wordAt (calAddr n k + 4) + 1) % 2 ^ 32) s)).inc (LEDGER_LIVE_w_W 68))))) ∧
    (∃ t, exec (.calCommitDone n false) s = .next t ∧ t.get (SENSE_CAL_CMD_STATUS n) = stFailed ∧ t.get (SENSE_CAL_STAT_ERR n) = 7 ∧
      ∀ a, 0xE8010000 ≤ a → a < 0xE8012000 → t.byteAt a = s.byteAt a))

/-- R112, R115, R116, R123 at the commands: enabling starts a disabled monitor unresolved, a protection monitor with its output asserted; a
protection monitor of a switching Stall cannot be disabled, any other stops; a latch clears only while the filter output is deasserted; the
thresholds load at a sampling instant while the carrier does not run. Readings and choices of the model: log entries 27, 103. -/
def Obligations.MonitorCommandsStartAndClear : Prop :=
  (∀ (n : Fin 4) (m : Fin 12) (s : State), bitAt (rewritten s) n = false →
    (s.get (MON_Mm_CFG_EN n m) = 0 → ∃ t, exec (.monEnable n m) s = .next t ∧ t = busOk (monStart n m (s.set (MON_Mm_CFG_EN n m) 1)) ∧
      t.get (MON_Mm_CFG_EN n m) = 1 ∧ t.get (MON_Mm_STAT_STATE n m) = 0 ∧ t.get (MON_Mm_STAT_HARD n m) = 0 ∧
      t.get (MON_Mm_STAT_OUT n m) = (if s.get (MON_Mm_CFG_PROT n m) = 0 then 0 else 1) ∧ t.mem = s.mem) ∧
    (s.get (MON_Mm_CFG_EN n m) ≠ 0 → exec (.monEnable n m) s = .next (busOk s))) ∧
  (∀ (n : Fin 4) (m : Fin 12) (s : State), bitAt (rewritten s) n = false →
    (s.get (MON_Mm_CFG_EN n m) ≠ 0 → s.get (MON_Mm_CFG_PROT n m) ≠ 0 → switching n s = true → exec (.monDisable n m) s = .next (busErr s)) ∧
    (s.get (MON_Mm_CFG_EN n m) ≠ 0 → s.get (MON_Mm_CFG_PROT n m) = 0 ∨ switching n s = false → ∃ t, exec (.monDisable n m) s = .next t ∧
      t.get (MON_Mm_CFG_EN n m) = 0 ∧
      t.get (MON_Mm_STAT_LATCHED n m) = 0 ∧ t.get (MON_Mm_STAT_OUT n m) = 0 ∧ t.get (MON_Mm_STAT_STATE n m) = 0 ∧ t.get (MON_Mm_STAT_HARD n m) = 0) ∧
    (s.get (MON_Mm_CFG_EN n m) = 0 → exec (.monDisable n m) s = .next (busOk s))) ∧
  (∀ (n : Fin 4) (m : Fin 12) (s : State), s.get (PWM_STAT_STATE n) = 0 ∨ s.get (PWM_STAT_STATE n) = 4 → monSamples n m s = true → monPeriods n m 1 s = true →
    exec (.monThrLoad n m) s = .next ((s.set (MON_Mm_THR_HI_ACT n m) (s.get (MON_Mm_THR_HI n m))).set (MON_Mm_THR_LO_ACT n m) (s.get (MON_Mm_THR_LO n m)))) ∧
  (∀ (n : Fin 4) (m : Fin 12) (s : State), bitAt (rewritten s) n = false →
    (s.get (MON_Mm_STAT_OUT n m) ≠ 0 → exec (.monLatchClear n m) s = .next (busOk s)) ∧
    (s.get (MON_Mm_STAT_OUT n m) = 0 → ∃ t, exec (.monLatchClear n m) s = .next t ∧ t.get (MON_Mm_STAT_LATCHED n m) = 0 ∧ t.mem = s.mem)) ∧
  (∀ (n : Fin 4) (m : Fin 12) (s : State), bitAt (rewritten s) n = true →
    exec (.monEnable n m) s = .next (busErr s) ∧ exec (.monDisable n m) s = .next (busErr s) ∧ exec (.monLatchClear n m) s = .next (busErr s))

/-- R111, R113 to R118: what one sample does. The run commands (EV_MON_RESOLVED, MON_FILTER_ASSERT, MON_FILTER_DEASSERT, MON_HARD_ASSERT,
MON_HARD_DEASSERT) are their samples taken one after the other, oldest first, each one `PERIOD` after the one before. R111: every sample is in
exactly one class: clearly above `HI`, clearly below `LO`, clearly inside both by the hysteresis, or in the band between, where it counts as the
filter output stands. Readings and choices of the model: log entry 27. -/
def Obligations.MonitorSamplesClassified : Prop :=
  (∀ (n : Fin 4) (m : Fin 12) (l : List (BitVec 64)) (s : State), monPeriods n m l.length s = true →
    let t := (l.foldl (fun s x => monSample n m x.toNat s) s).set (monLastAt n m) s.now
    exec (.evMonResolved n m l) s = .next t ∧ exec (.monFilterAssert n m l) s = .next t ∧ exec (.monFilterDeassert n m l) s = .next t ∧
    exec (.monHardAssert n m l) s = .next t ∧ exec (.monHardDeassert n m l) s = .next t) ∧
  (∀ (n m x : Nat) (s : State), monSamples n m s = false → monSample n m x s = s) ∧
  (∀ (n : Fin 4) (m : Fin 12) (x : BitVec 64) (s : State), monSamples n m s = true → monPeriods n m 1 s = true → carrierStopped n s = false →
    s.get (MON_Mm_CFG_SRC n m) = 0 → s.get (MON_Mm_HARD_HEN n m) = 0 →
    let c := monClass n m (x.toNat % 65536) s
    let w := (s.get (monWin n m) * 2 + (monOutside c (s.flag (MON_Mm_STAT_OUT n m))).toNat) % 65536
    let high := popCount (s.get (MON_Mm_FILT_M n m)) w
    (s.get (MON_Mm_STAT_STATE n m) = 0 → c ≠ 0 → c = s.get (monRunCls n m) → s.get (MON_Mm_FILT_M n m) ≤ min 16 (s.get (monRunLen n m) + 1) →
      ∃ t, exec (.evMonResolved n m [x]) s = .next t ∧ t.get (MON_Mm_STAT_STATE n m) = c ∧ (t.get (MON_Mm_STAT_OUT n m) = 1 ↔ c ≠ 1)) ∧
    (s.get (MON_Mm_STAT_STATE n m) ≠ 0 → s.get (MON_Mm_STAT_OUT n m) = 0 → s.get (MON_Mm_FILT_N n m) ≤ high →
      ∃ t, exec (.monFilterAssert n m [x]) s = .next t ∧ t.get (MON_Mm_STAT_OUT n m) = 1 ∧ t.get (MON_Mm_STAT_LATCHED n m) = 1 ∧
        t.get (MON_Mm_STAT_RISE n m) = 1) ∧
    (s.get (MON_Mm_STAT_STATE n m) ≠ 0 → s.get (MON_Mm_STAT_OUT n m) ≠ 0 → s.get (MON_Mm_FILT_N n m) ≤ s.get (MON_Mm_FILT_M n m) - high →
      ∃ t, exec (.monFilterDeassert n m [x]) s = .next t ∧ t.get (MON_Mm_STAT_OUT n m) = 0 ∧ t.get (MON_Mm_STAT_FALL n m) = 1)) ∧
  (∀ (n m x : Nat) (s : State), n < 4 → m < 12 → s.get (MON_Mm_CFG_PROT n m) ≠ 0 → s.get (MON_Mm_HARD_HEN n m) ≠ 0 → s.get (MON_Mm_STAT_STATE n m) ≠ 0 →
    let k := min 4 (s.get (monHardRun n m) + 1)
    (monBeyond n m x s = false → ∃ t, monHardStep n m x s = t ∧ t.get (MON_Mm_STAT_HARD n m) = 0 ∧ t.get (monHardRun n m) = 0) ∧
    (monBeyond n m x s = true → k ≤ s.get (MON_Mm_HARD_HN n m) ∨ s.get (MON_Mm_STAT_HARD n m) ≠ 0 → monHardStep n m x s = s.set (monHardRun n m) k) ∧
    (monBeyond n m x s = true → s.get (MON_Mm_HARD_HN n m) < k → s.get (MON_Mm_STAT_HARD n m) = 0 →
      let t := warnFollow n (raiseEvent (0x71 + 0x40 * n) ((hardLevel n m true (s.set (monHardRun n m) k)).set (MON_Mm_STAT_HARD_SEEN n m) 1))
      monHardStep n m x s = psfSet n (0x10 + m) (2 ^ m) 0 0 (stallCode n 5 (0x10 + m)) (recordFault (stallCode n 5 (0x10 + m)) .stallSafe t))) ∧
  (∀ (n m : Nat) (s : State), n < 4 → m < 12 → (monAssert n m s).get (MON_Mm_STAT_OUT n m) = 1 ∧ (monAssert n m s).get (MON_Mm_STAT_LATCHED n m) = 1 ∧
    (monAssert n m s).get (MON_Mm_STAT_RISE n m) = 1 ∧ (monAssert n m s).get (MON_Mm_STAT_TRIPS n m) = clampU (MON_Mm_STAT_TRIPS n m).width (s.get (MON_Mm_STAT_TRIPS n m) + 1) ∧
    (monDeassert n m s).get (MON_Mm_STAT_OUT n m) = 0 ∧ (monDeassert n m s).get (MON_Mm_STAT_FALL n m) = 1) ∧
  (∀ (n m x : Nat) (s : State), monCode n m (s.get (MON_Mm_THR_LO_ACT n m)) s ≤ monCode n m (s.get (MON_Mm_THR_HI_ACT n m)) s →
    let v := monCode n m (x / 16) s
    let hi := monCode n m (s.get (MON_Mm_THR_HI_ACT n m)) s
    let lo := monCode n m (s.get (MON_Mm_THR_LO_ACT n m)) s
    let h : Int := s.get (MON_Mm_CFG_HYS n m)
    (monClass n m x s = 2 ↔ hi < v) ∧ (monClass n m x s = 3 ↔ v < lo) ∧ (monClass n m x s = 1 ↔ lo + h ≤ v ∧ v ≤ hi - h) ∧
    (monClass n m x s = 0 ↔ lo ≤ v ∧ v ≤ hi ∧ (v < lo + h ∨ hi - h < v)) ∧
    (∀ out, monOutside 2 out = true ∧ monOutside 3 out = true ∧ monOutside 1 out = false ∧ monOutside 0 out = out))

/-- R130, R132, R149: POS_ENABLE judges the port's fields together; POS_DISABLE waits for the loop engines; the port latches and starts an SSI frame
at each internal instant while the carrier does not run. R134 to R138: at each sixteenth of the excitation period the two windows give the envelopes
and the amplitude, which is written with the measured phase; the observer takes its error from them; runs of low, high and clipped updates are
counted and fail the sensor. A fault of the excitation fails a resolver in use. R165, R166: a failed sensor raises its event once; a qualified
observer takes over with a riding fault, else the Stall goes to its safe state. Readings and choices of the model: log entries 29, 81, 82, 83. -/
def Obligations.PositionPortAndSensorFailure : Prop :=
  (∀ (n : Fin 4) (s : State), bitAt (rewritten s) n = false → s.get (POS_CTRL_EN n) = 0 →
    (posConfigOk n s = true → ∃ t, exec (.posEnable n) s = .next t ∧ t = busOk ((posRestart n s).set (POS_CTRL_EN n) 1) ∧ t.get (POS_CTRL_EN n) = 1 ∧
      t.get (POS_STAT_HOMED n) = 0 ∧ t.get (POS_RES_STAT_LOCK n) = 0 ∧ t.get (POS_SPD_STAT_MODE n) = 0 ∧ t.get (POS_ENC_COUNT_COUNT n) = s.get (POS_ENC_COUNT_COUNT n)) ∧
    (posConfigOk n s = false → exec (.posEnable n) s = .next (busErr (s.set (POS_STAT_CFG_ERR n) 1))) ∧
    exec (.posDisable n) s = .next (busOk s)) ∧
  (∀ (n : Fin 4) (s : State), bitAt (rewritten s) n = false → s.get (POS_CTRL_EN n) ≠ 0 → exec (.posEnable n) s = .next (busOk s) ∧
    (s.get (LOOP_STAT_STATE n) ≠ 0 → exec (.posDisable n) s = .next (busErr s)) ∧
    (s.get (LOOP_STAT_STATE n) = 0 → exec (.posDisable n) s = .next (busOk ((posRestart n s).set (POS_CTRL_EN n) 0)))) ∧
  (∀ (n : Fin 4) (s : State), bitAt (rewritten s) n = true → exec (.posEnable n) s = .next (busErr s) ∧ exec (.posDisable n) s = .next (busErr s)) ∧
  (∀ (n : Fin 4) (s : State), s.get (PWM_STAT_STATE n) = 0 ∨ s.get (PWM_STAT_STATE n) = 4 → s.now % 2000 = 0 →
    exec (.posInternalInstant n) s = .next (decideBand n (ssiStart n (posLatch n s)))) ∧
  (∀ (n : Nat) (s : State), n < 4 → s.get (POS_STAT_SRC n) = 0 → s.get (POS_CTRL_PRIM n) = 2 →
    let t := posLatch n s
    t.get (POS_SANG_ANGLE n) = thetaS n s.now (s.flag (POS_CTRL_INTERP n)) s / 256 % 65536 ∧
    t.get (POS_ANG_ANGLE n) = thetaE n s.now (s.flag (POS_CTRL_INTERP n)) s % 65536 ∧ t.get (POS_ANG_QUAL n) = posGrade n s ∧
    t.get (POS_SPD_SPD n) = (speedAt n s.now s).toNat) ∧
  (∀ (n : Nat) (s : State), n < 4 → s.get (POS_STAT_SRC n) = 2 → (posLatch n s).get (POS_ANG_QUAL n) = 0) ∧
  (∀ (n : Fin 4) (a b : BitVec 1024) (clip : Bool) (ph : BitVec 16) (s : State), s.get (POS_CTRL_EN n) ≠ 0 → s.get (POS_CTRL_PRIM n) = 1 → resDue n s = true →
    let per := s.get (POS_RES_EXC_PER n)
    let p := if s.get (POS_RES_PHASE_AUTOPH n) = 0 then s.get (POS_RES_PHASE_PHASE n) else ph.toNat
    let x := envelope per p s.now a
    let y := envelope per p s.now b
    let amp := F32.sqrt (F32.add (F32.mul x x) (F32.mul y y))
    exec (.resUpdate n a b clip ph) s = .next (resJudge n (stillFollow n (resWindow n amp clip (resTrack n x y amp
      ((s.set (POS_RES_AMPMEAS_AMP n) (clampU 16 (F32.toIntNear amp).toNat)).set (POS_RES_PHMEAS_PHASE n) ph.toNat)))))) ∧
  (∀ (n : Nat) (amp : F32) (s : State), n < 4 →
    (let t := resWindow n amp true s
     t.get (POS_RES_STAT_CLIP_SEEN n) = 1 ∧ t.get (posClipRun n) = clampU (posClipRun n).width (s.get (posClipRun n) + 1)) ∧
    (resWindow n amp false s).get (posClipRun n) = 0 ∧
    (F32.lt amp (F32.ofInt (s.get (POS_RES_AMP_LO n))) = true → (resWindow n amp false s).get (POS_RES_STAT_LOW_SEEN n) = 1 ∧
      (resWindow n amp false s).get (posLowRun n) = clampU (posLowRun n).width (s.get (posLowRun n) + 1)) ∧
    (F32.lt amp (F32.ofInt (s.get (POS_RES_AMP_LO n))) = false → (resWindow n amp false s).get (posLowRun n) = 0) ∧
    (F32.lt (F32.ofInt (s.get (POS_RES_AMP_HI n))) amp = true → (resWindow n amp false s).get (POS_RES_STAT_HIGH_SEEN n) = 1)) ∧
  (∀ (n : Nat) (s : State),
    (s.get (POS_RES_FN_LOSS_N n) ≤ s.get (posLowRun n) ∨ s.get (POS_RES_FN_LOSS_N n) ≤ s.get (posClipRun n) → resJudge n s = sensorFailed n 1 s) ∧
    (s.get (posLowRun n) < s.get (POS_RES_FN_LOSS_N n) → s.get (posClipRun n) < s.get (POS_RES_FN_LOSS_N n) →
      (s.get (POS_RES_FN_LOSS_N n) ≤ s.get (posHighRun n) → resJudge n s = sensorFailed n 2 s) ∧
      (s.get (posHighRun n) < s.get (POS_RES_FN_LOSS_N n) → resJudge n s = s))) ∧
  (∀ (n : Fin 4) (s : State), s.get (POS_CTRL_EXC_EN n) ≠ 0 →
    (s.get (POS_CTRL_EN n) ≠ 0 → s.get (POS_CTRL_PRIM n) = 1 → exec (.excFault n) s = .next (sensorFailed n 3 (s.set (POS_STAT_EXC_FAULT n) 1))) ∧
    (s.get (POS_CTRL_EN n) = 0 ∨ s.get (POS_CTRL_PRIM n) ≠ 1 → exec (.excFault n) s = .next (s.set (POS_STAT_EXC_FAULT n) 1))) ∧
  (∀ (n cause : Nat) (s : State), s.get (POS_STAT_SFAIL n) ≠ 0 → sensorFailed n cause s = s) ∧
  (∀ (n cause : Nat) (s : State), n < 4 → s.get (POS_STAT_SFAIL n) = 0 → s.get (POS_BEMF_STAT_QUAL n) ≠ 0 →
    sensorFailed n cause s = raiseStallFault n 3 cause .ride (raiseStall n 0x3D ((raiseStall n 0x38 (s.set (POS_STAT_SFAIL n) 1)).set (POS_STAT_SRC n) 1))) ∧
  (∀ (n cause : Nat) (s : State), n < 4 → s.get (POS_STAT_SFAIL n) = 0 → s.get (POS_BEMF_STAT_QUAL n) = 0 →
    sensorFailed n cause s = raiseStallFault n 3 cause .stallSafe
      (((raiseStall n 0x38 (s.set (POS_STAT_SFAIL n) 1)).set (POS_STAT_SRC n) 2).set (POS_ANG_QUAL n) 0))

/-- R139, R140, R142 to R144: an edge of A or B counts one quadrature step in its direction, modulo `CPR`; a change of both at once is illegal and
counts none; an index homes the encoder or is judged, after the last edge of its tick. R146 to R148: a Hall edge writes the code and clears
`ILLNOW`; a step to a neighbouring sector is a step in its direction, a longer one counts in `SKIP`; an illegal code is held off and fails a Hall
primary after its timeout, once. Readings and choices of the model: log entries 28, 79, 84, 104. -/
def Obligations.EncoderAndHallEdgesCount : Prop :=
  (∀ (n : Fin 4) (a b : Bool) (s : State), s.get (POS_CTRL_EN n) ≠ 0 → s.get (POS_CTRL_PRIM n) = 2 → s.get (POS_ENC_COUNT_COUNT n) < s.get (POS_ENC_CFG_CPR n) →
    s.get (posIdxPend n) = 0 →
    let q := quad (s.get (posA n) != 0) (s.get (posB n) != 0)
    let up := s.get (POS_ENC_CFG_INV n) == 0
    (quad a b = (q + 1) % 4 → ∃ t, exec (.encoderEdge n a b) s = .next t ∧ t.get (POS_ENC_COUNT_COUNT n) =
      if up then (s.get (POS_ENC_COUNT_COUNT n) + 1) % s.get (POS_ENC_CFG_CPR n)
      else (s.get (POS_ENC_COUNT_COUNT n) + s.get (POS_ENC_CFG_CPR n) - 1) % s.get (POS_ENC_CFG_CPR n)) ∧
    (quad a b = (q + 3) % 4 → ∃ t, exec (.encoderEdge n a b) s = .next t ∧ t.get (POS_ENC_COUNT_COUNT n) =
      if up then (s.get (POS_ENC_COUNT_COUNT n) + s.get (POS_ENC_CFG_CPR n) - 1) % s.get (POS_ENC_CFG_CPR n)
      else (s.get (POS_ENC_COUNT_COUNT n) + 1) % s.get (POS_ENC_CFG_CPR n)) ∧
    (quad a b = (q + 2) % 4 → exec (.encoderEdge n a b) s = .next (encIllegal n ((s.setB (posA n) a).setB (posB n) b))) ∧
    (quad a b = q → exec (.encoderEdge n a b) s = .next ((s.setB (posA n) a).setB (posB n) b))) ∧
  (∀ (n : Nat) (s : State), n < 4 → s.get (posIllN n) < s.get (POS_ENC_ILL_LIMIT n) → ∃ t, encIllegal n s = t ∧
    t.get (POS_ENC_ILL_ILLEGAL n) = clampU (POS_ENC_ILL_ILLEGAL n).width (s.get (POS_ENC_ILL_ILLEGAL n) + 1) ∧
    t.get (POS_ENC_COUNT_COUNT n) = s.get (POS_ENC_COUNT_COUNT n) ∧ t.get (POS_STAT_SFAIL n) = s.get (POS_STAT_SFAIL n)) ∧
  (∀ (n : Fin 4) (s : State), s.get (POS_CTRL_EN n) ≠ 0 → s.get (POS_CTRL_PRIM n) = 2 →
    exec (.encoderLoss n) s = .next (sensorFailed n 4 (s.set (POS_STAT_LOS_SEEN n) 1))) ∧
  (∀ (n : Fin 4) (s : State), s.get (POS_CTRL_EN n) ≠ 0 → s.get (POS_CTRL_PRIM n) = 2 →
    s.get (POS_ENC_CFG_ZGATE n) = 0 ∨ (s.get (posA n) ≠ 0 ∧ s.get (posB n) ≠ 0) →
    (encoderEdgeWaits n s = true → exec (.index n) s = .next (s.set (posIdxPend n) 1)) ∧
    (encoderEdgeWaits n s = false → s.get (POS_STAT_HOMED n) = 0 → exec (.index n) s =
      .next (((s.set (POS_ENC_COUNT_COUNT n) (s.get (POS_ENC_IDXPOS_POS n))).set (POS_STAT_HOMED n) 1).set (posMismRun n) 0)) ∧
    (encoderEdgeWaits n s = false → s.get (POS_STAT_HOMED n) ≠ 0 → exec (.index n) s = .next (indexJudge n s))) ∧
  (∀ (n : Nat) (s : State), n < 4 →
    let d := ((s.get (POS_ENC_COUNT_COUNT n) : Int) - s.get (POS_ENC_IDXPOS_POS n) + s.get (POS_ENC_CFG_CPR n) / 2) % s.get (POS_ENC_CFG_CPR n) - s.get (POS_ENC_CFG_CPR n) / 2
    (d = 0 → indexJudge n s = s.set (posMismRun n) 0) ∧
    (d ≠ 0 → d.natAbs ≤ s.get (POS_ENC_IDX_IDX_TOL n) → indexJudge n s = travelMove n (-d)
      (((s.set (POS_ENC_COUNT_COUNT n) (s.get (POS_ENC_IDXPOS_POS n))).inc (POS_IDX_STAT_CORR n)).set (posMismRun n) 0)) ∧
    (d ≠ 0 → s.get (POS_ENC_IDX_IDX_TOL n) < d.natAbs → s.get (posMismRun n) < 2 → indexJudge n s = raiseStallFault n 3 5 .ride (raiseStall n 0x39
      ((((s.seti (POS_IDX_DEV_DEV n) d).inc (POS_IDX_STAT_MISM n)).inc (posMismRun n)).set (posMismSeen n) 1)))) ∧
  (∀ (n : Fin 4) (code : BitVec 3) (j k : Nat) (s : State), hallsRun n s = true → hallSector code.toNat = some k →
    hallSector (s.get (POS_HALL_STAT_CODE n)) = some j →
    let t := s.now - 20 * s.get (POS_HALL_CFG_FILT n)
    let u := ((s.set (POS_HALL_STAT_CODE n) code.toNat).set (POS_HALL_STAT_ILLNOW n) 0).set (posIllDone n) 0
    let v := (u.set (posHallPrev n) (j + 1)).set (posHallAt n) (t + 1)
    (k = j → exec (.hallEdge n code) s = .next u) ∧
    (k = (j + 1) % 6 → exec (.hallEdge n code) s = .next (hallStep n t ((hallEdgeAngle k + s.get (POS_HALL_CFG_OFS n)) % 65536) true v)) ∧
    (j = (k + 1) % 6 → exec (.hallEdge n code) s = .next (hallStep n t ((hallEdgeAngle j + s.get (POS_HALL_CFG_OFS n)) % 65536) false v)) ∧
    (k ≠ j → k ≠ (j + 1) % 6 → j ≠ (k + 1) % 6 → ∃ t, exec (.hallEdge n code) s = .next t ∧
      t.get (POS_HALL_STAT_SKIP n) = clampU (POS_HALL_STAT_SKIP n).width (s.get (POS_HALL_STAT_SKIP n) + 1) ∧
      t.get (POS_TRAVEL_LO_TRAVEL n) = s.get (POS_TRAVEL_LO_TRAVEL n))) ∧
  (∀ (n : Fin 4) (code : BitVec 3) (s : State), hallsRun n s = true → hallSector code.toNat ≠ none → hallSector (s.get (POS_HALL_STAT_CODE n)) = none →
    exec (.hallEdge n code) s = .next (((s.set (POS_HALL_STAT_CODE n) code.toNat).set (POS_HALL_STAT_ILLNOW n) 0).set (posIllDone n) 0)) ∧
  (∀ (n t a : Nat) (up : Bool) (s : State), n < 4 → a < 65536 → s.get (POS_CTRL_PRIM n) = 4 → s.get (posHallOut n) = 0 →
    hallStep n t a up s = speedEdge n t (!up) (travelMove n (if up then 1 else -1) ((s.set (posHallAng n) a).set (posHallHas n) 1))) ∧
  (∀ (n : Fin 4) (s : State), hallsRun n s = true → s.get (POS_HALL_STAT_ILLNOW n) = 0 → ∃ t, exec (.evHallIllegal n) s = .next t ∧
    t.get (POS_HALL_STAT_ILLNOW n) = 1 ∧ t.get (POS_HALL_STAT_CODE n) = s.get (POS_HALL_STAT_CODE n) ∧
    t.get (POS_HALL_STAT_ILL n) = clampU (POS_HALL_STAT_ILL n).width (s.get (POS_HALL_STAT_ILL n) + 1)) ∧
  (∀ (n : Fin 4) (s : State), hallsRun n s = true → s.get (POS_HALL_STAT_ILLNOW n) ≠ 0 → s.get (posIllDone n) = 0 →
    s.get (posHallIllAt n) + 2000 * s.get (POS_HALL_CFG_ILL_TO n) ≤ s.now →
    let u := s.set (posIllDone n) 1
    (s.get (POS_CTRL_PRIM n) = 4 → exec (.hallIllegalTimeout n) s = .next (sensorFailed n 7 u)) ∧
    (s.get (POS_CTRL_PRIM n) ≠ 4 → s.get (POS_XCHK_SRC n) = 1 → exec (.hallIllegalTimeout n) s = .next (raiseStallFault n 3 7 .ride
      (((u.set (posHallOut n) 1).set (posHallSeq n) 0).set (posXRun n) 0))) ∧
    (s.get (POS_CTRL_PRIM n) ≠ 4 → s.get (POS_XCHK_SRC n) ≠ 1 → exec (.hallIllegalTimeout n) s = .next (raiseStallFault n 3 7 .ride
      ((u.set (posHallOut n) 1).set (posHallSeq n) 0))))

/-- R149 to R155: an SSI frame is stored raw; it is in error by its error bit, its parity or a jump from the frame before (`ssiBad`), is then
discarded and counted in `ERRS`, and `ERR_N` such frames in a row fail the sensor; a good one gives the angle, moves the travel by its change and is
the frame before of the next (`ssiGood`). A SENT frame is judged sync first, then nibbles, then its CRC-4; an accepted one stores its status, its
data and the instant of its sync pulse, ends `LOST`, feeds the slow channel (`sentSlow`) and, as the cross-check's source, is compared
(`crossCheck`, R168). The slow channel's message of 18 frames is stored with its CRC-6 valid, raises EV_SENT_SLOW and counts in `OVR` where the last
one has not been taken; with its CRC-6 not valid it counts in `SCRC`. That the register of 18 bits each of bits 2 and 3 is the message, with its
pattern and its CRC-6, is the model's choice (log entry 31). SENT_TIMEOUT marks the channel lost. Readings and choices of the model: log entries 30,
31. -/
def Obligations.SerialFramesJudged : Prop :=
  (∀ (n : Fin 4) (raw : BitVec 32) (s : State), s.get (POS_CTRL_EN n) ≠ 0 → s.get (posSsiBusy n) ≠ 0 → ssiLastEdge n s + s.get (POS_SSI_TIM_DLY n) ≤ s.now →
    let r := raw.toNat % 2 ^ s.get (POS_SSI_CFG_BITS n)
    let u := ((s.set (posSsiBusy n) 0).set (posSsiEnd n) (ssiLastEdge n s + 1)).set (POS_SSI_RAW_RAW n) r
    let w := (u.inc (POS_SSI_STAT_ERRS n)).inc (posSsiErrRun n)
    (ssiBad n r (ssiField n r s) u = false → exec (.ssiFrame n raw) s = .next (ssiGood n (ssiField n r s) u)) ∧
    (ssiBad n r (ssiField n r s) u = true → w.get (posSsiErrRun n) < s.get (POS_SSI_TIM_ERR_N n) → exec (.ssiFrame n raw) s = .next w) ∧
    (ssiBad n r (ssiField n r s) u = true → s.get (POS_SSI_TIM_ERR_N n) ≤ w.get (posSsiErrRun n) → exec (.ssiFrame n raw) s = .next (sensorFailed n 8 w))) ∧
  (∀ (n r v : Nat) (s : State), 1 ≤ s.get (POS_SSI_CFG_ST n) →
    let q := 2 ^ s.get (POS_SSI_CFG_ST n)
    let d := (((v % q : Nat) : Int) - ((s.get (posSsiPrev n) - 1) % q : Nat)).natAbs
    ssiBad n r v s = true ↔
      (s.get (POS_SSI_CFG_ERRB n) ≠ 0 ∧ r.testBit (s.get (POS_SSI_CFG_PAR n)) = true) ∨
      (s.get (POS_SSI_CFG_PAR n) = 1 ∧ popCount 32 r % 2 = 1) ∨
      (s.get (posSsiPrev n) ≠ 0 ∧ s.get (POS_SSI_TIM_JUMP n) < min d (q - d))) ∧
  (∀ (n v : Nat) (s : State), n < 4 →
    let t := ssiGood n v s
    let p := s.get (POS_SSI_CFG_BITS n) - s.get (POS_SSI_CFG_ERRB n) - s.get (POS_SSI_CFG_PAR n)
    let d := sext p (wrap p ((v : Int) - (s.get (posSsiPrev n) - 1 : Nat)))
    t.get (posSsiGood n) = 1 ∧ t.get (posSsiErrRun n) = 0 ∧
    t.get (posTheta n) = v % 2 ^ s.get (POS_SSI_CFG_ST n) * 2 ^ 24 / 2 ^ s.get (POS_SSI_CFG_ST n) % 2 ^ 24 ∧
    t.get (posSsiPrev n) = (v + 1) % 2 ^ 33 ∧ t.get (posUpdAt n) = s.get (posSsiAt n) ∧
    (s.get (posSsiGood n) = 0 → t.get (posTrk n) = t.get (posTheta n) ∧ t.get (posOmega n) = 0) ∧
    (s.get (posSsiPrev n) = 0 ∨ d = 0 → travel n t = travel n s) ∧
    (s.get (posSsiPrev n) ≠ 0 → d ≠ 0 → travelMin n s ≤ travelMax n s →
      travel n t = max (travelMin n s) (min (travelMax n s) (travel n s + d)))) ∧
  (∀ (n : Fin 4) (y : BitVec 24) (w : List (BitVec 16)) (p : Option (BitVec 16)) (age : BitVec 32) (s : State), s.get (POS_CTRL_SENT_EN n) ≠ 0 →
    let nom := 1120 * s.get (SENT_TICK_TICK n)
    let prev := s.get (posSentSync n)
    let dn := s.get (SENT_CFG_DN n)
    let u := s.set (posSentSync n) y.toNat
    let syncOk := 5 * ((y.toNat : Int) - nom).natAbs ≤ nom ∧ (prev = 0 ∨ 64 * ((y.toNat : Int) - prev).natAbs ≤ prev)
    let pauseOk := p.toList.all (fun z => s.get (SENT_CFG_PAUSE n) != 0 && decide (12 ≤ z.toNat ∧ z.toNat ≤ 768))
    let nibOk := w.length = dn + 2 ∧ (∀ x ∈ w, 12 ≤ x.toNat ∧ x.toNat ≤ 27) ∧ pauseOk = true
    let nibs := w.map (fun x => x.toNat - 12)
    let data := (nibs.drop 1).take dn
    (¬ syncOk → exec (.sentFrame n y w p age) s = .next ((u.inc (SENT_ERR_SYNC n)).set (posSlowN n) 0)) ∧
    (syncOk → ¬ nibOk → exec (.sentFrame n y w p age) s = .next ((u.inc (SENT_ERR_NIB n)).set (posSlowN n) 0)) ∧
    (syncOk → nibOk → nibs.getD (dn + 1) 16 ≠ sentCrc (s.flag (SENT_CFG_CRCM n)) data →
      exec (.sentFrame n y w p age) s = .next ((u.inc (SENT_ERR_CRC n)).set (posSlowN n) 0)) ∧
    (syncOk → nibOk → nibs.getD (dn + 1) 16 = sentCrc (s.flag (SENT_CFG_CRCM n)) data →
      exec (.sentFrame n y w p age) s = .next (sentAccept n (s.now - age.toNat) (nibs.getD 0 0) (data.foldl (fun a d => a * 16 + d) 0) u))) ∧
  (∀ (n t nib data : Nat) (s : State), n < 4 →
    let v := (((((s.set (SENT_FAST_STATUS n) nib).set (SENT_FAST_DATA n) data).set (SENT_STAT_NEW_FAST n) 1).setWide (SENT_FAST_TB_LO_TB n)
      (SENT_FAST_TB_HI_TB n) t).set (SENT_STAT_LOST n) 0).set (posSentAt n) s.now
    let w := if s.get (SENT_STAT_LOST n) ≠ 0 ∧ s.get (POS_XCHK_SRC n) = 2 then v.set (posXRun n) 0 else v
    let x := if s.get (SENT_CFG_SLOW_EN n) ≠ 0 then sentSlow n nib w else w
    (s.get (POS_XCHK_SRC n) ≠ 2 ∨ s.get (SENT_ANG_RATIO n) = 0 ∨ s.get (POS_CTRL_EN n) = 0 → sentAccept n t nib data s = x) ∧
    (s.get (POS_XCHK_SRC n) = 2 → s.get (SENT_ANG_RATIO n) ≠ 0 → s.get (POS_CTRL_EN n) ≠ 0 →
      sentAccept n t nib data s = crossCheck n (sentAngle n v) (t - 200 * s.get (SENT_ANG_LAT n)) x) ∧
    v.get (SENT_FAST_STATUS n) = nib % 16 ∧ v.get (SENT_FAST_DATA n) = data % 2 ^ 24 ∧ v.get (SENT_STAT_NEW_FAST n) = 1 ∧
    v.getWide (SENT_FAST_TB_LO_TB n) (SENT_FAST_TB_HI_TB n) = t % 2 ^ 64) ∧
  (∀ (n nib : Nat) (s : State), n < 4 →
    let b2 := (s.get (posSlow2 n) * 2 + (nib.testBit 2).toNat) % 2 ^ 18
    let b3 := (s.get (posSlow3 n) * 2 + (nib.testBit 3).toNat) % 2 ^ 18
    let u := ((s.set (posSlow2 n) b2).set (posSlow3 n) b3).set (posSlowN n) (min 18 (s.get (posSlowN n) + 1))
    let whole := 17 ≤ s.get (posSlowN n) ∧ b3 / 2 ^ 11 = 0b1111110 ∧ b3.testBit 5 = false ∧ b3.testBit 0 = false
    let t := u.set (posSlowN n) 0
    let v := if s.get (SENT_STAT_NEW_SLOW n) ≠ 0 then t.inc (SENT_STAT_OVR n) else t
    (¬ whole → sentSlow n nib s = u) ∧
    (whole → b2 / 2 ^ 12 ≠ sentCrc6 b2 b3 → sentSlow n nib s = t.inc (SENT_ERR_SCRC n)) ∧
    (whole → b2 / 2 ^ 12 = sentCrc6 b2 b3 → b3.testBit 10 = false → sentSlow n nib s = raiseStall n 0x37 ((((v.set (SENT_SLOW_C n) 0).set (SENT_SLOW_ID n)
      (b3 / 64 % 16 * 16 + b3 / 2 % 16)).set (SENT_SLOW_DATA n) (b2 % 4096)).set (SENT_STAT_NEW_SLOW n) 1)) ∧
    (whole → b2 / 2 ^ 12 = sentCrc6 b2 b3 → b3.testBit 10 = true → sentSlow n nib s = raiseStall n 0x37 ((((v.set (SENT_SLOW_C n) 1).set (SENT_SLOW_ID n)
      (b3 / 64 % 16)).set (SENT_SLOW_DATA n) (b3 / 2 % 16 * 4096 + b2 % 4096)).set (SENT_STAT_NEW_SLOW n) 1))) ∧
  (∀ b2 b3 : Nat, sentCrc6 b2 b3 < 64 ∧
    ((List.range 12).flatMap (fun i => [b2.testBit (11 - i), b3.testBit (11 - i)]) ++
      (List.range 6).map (fun i => (sentCrc6 b2 b3).testBit (5 - i))).foldl (fun c b => crcBits 6 0x19 1 c ^^^ b.toNat) 0b010101 = 0) ∧
  (∀ (n : Fin 4) (s : State), s.get (POS_CTRL_SENT_EN n) ≠ 0 → s.get (SENT_STAT_LOST n) = 0 → s.get (posSentAt n) + 200 * s.get (SENT_TO_TO n) ≤ s.now →
    (s.get (POS_XCHK_SRC n) ≠ 2 → exec (.sentTimeout n) s = .next (raiseStallFault n 3 0x10 .ride (raiseStall n 0x36 (s.set (SENT_STAT_LOST n) 1)))) ∧
    (s.get (POS_XCHK_SRC n) = 2 → exec (.sentTimeout n) s =
      .next (raiseStallFault n 3 0x10 .ride (raiseStall n 0x36 ((s.set (SENT_STAT_LOST n) 1).set (posXRun n) 0))))) ∧
  (∀ k v : Nat, k ≤ 5 → v < 2 ^ 2 ^ k → grayDecode k (v ^^^ (v / 2)) = v)

/-- R156 to R158: the travel counter moves by its step and stops at the limit it meets, with `AT_MAX` or `AT_MIN`; a preset within the limits loads,
and what the counter has moved in the same tick is added to it; a preset outside the limits ends with an error and leaves everything. R159 to R164:
the probe latches while it is empty and counts misses while it is full; the speed goes to standstill after `STILL_TO`; the back-EMF observer
qualifies after 256 good periods and loses its qualification after 16 bad ones. Readings and choices of the model: log entries 29, 30, 80, 85, 104. -/
def Obligations.TravelStopsAtLimits : Prop :=
  (∀ (n : Nat) (d : Int) (s : State), n < 4 → d ≠ 0 → travelMin n s ≤ travelMax n s →
    travel n (travelMove n d s) = max (travelMin n s) (min (travelMax n s) (travel n s + d)) ∧
    ((travelMove n d s).get (POS_TRAVEL_STAT_AT_MAX n) = 1 ↔ travelMax n s < travel n s + d) ∧
    ((travelMove n d s).get (POS_TRAVEL_STAT_AT_MIN n) = 1 ↔ travel n s + d < travelMin n s)) ∧
  (∀ (n : Fin 4) (hi : BitVec 32) (s : State), bitAt (rewritten s) n = false →
    let x := sext 48 (heldOr s (POS_TRAVEL_LO_TRAVEL n).addr (s.get (POS_TRAVEL_LO_TRAVEL n)) + 2 ^ 32 * (hi.toNat % 65536))
    let u := (setTravel n x { s with held := storeDrop (POS_TRAVEL_LO_TRAVEL n).addr s.held }).set (POS_TRAVEL_STAT_AT_MAX n) 0 |>.set (POS_TRAVEL_STAT_AT_MIN n) 0
    (travelMin n s ≤ x → x ≤ travelMax n s → s.get (posMvAt n) ≠ s.now + 1 → exec (.travelPreset n hi) s = .next (busOk u) ∧ travel n u = x) ∧
    (travelMin n s ≤ x → x ≤ travelMax n s → s.get (posMvAt n) = s.now + 1 →
      exec (.travelPreset n hi) s = .next (busOk (travelMove n (s.geti (posMvD n)) (u.set (posMvAt n) 0)))) ∧
    (x < travelMin n s ∨ travelMax n s < x → exec (.travelPreset n hi) s = .next (busErr s))) ∧
  (∀ (n : Fin 4) (r : Bool) (s : State), s.get (POS_CTRL_PRB_EN n) ≠ 0 → (s.get (POS_PRB_CFG_EDGE n) = 2 ∨ (s.get (POS_PRB_CFG_EDGE n) = 0 ∧ r = true) ∨
      (s.get (POS_PRB_CFG_EDGE n) = 1 ∧ r = false)) →
    (s.get (POS_PRB_STAT_FULL n) ≠ 0 → exec (.probeEdge n r) s = .next (s.inc (POS_PRB_STAT_MISS n))) ∧
    (s.get (POS_PRB_STAT_FULL n) = 0 → ∃ t, exec (.probeEdge n r) s = .next t ∧ t.get (POS_PRB_STAT_FULL n) = 1 ∧
      t.getWide (POS_PRB_TB_LO_TB n) (POS_PRB_TB_HI_TB n) = s.now - s.get (POS_PRB_CFG_FILT n) ∧
      t.get (POS_PRB_ANG_ANGLE n) = thetaNow n (s.now - s.get (POS_PRB_CFG_FILT n)) true s % 65536)) ∧
  (∀ (n : Fin 4) (s : State), bitAt (rewritten s) n = false → exec (.probeRearm n) s = .next (busOk (s.set (POS_PRB_STAT_FULL n) 0))) ∧
  (∀ (n t : Nat) (dir : Bool) (s : State), n < 4 → let u := speedEdge n t dir s
    u.get (POS_SPD_STAT_STILL n) = 0 ∧
    (s.get (POS_SPD_STAT_MODE n) = 0 ∨ s.flag (POS_SPD_STAT_DIR n) ≠ dir → u.get (POS_SPD_STAT_MODE n) = 1 ∧ u.flag (POS_SPD_STAT_DIR n) = dir ∧
      u.get (POS_SPD_STAT_VALID n) = 0) ∧
    (s.get (POS_SPD_STAT_MODE n) ≠ 0 → s.flag (POS_SPD_STAT_DIR n) = dir → u.get (POS_SPD_STAT_VALID n) = 1 ∧
      u.get (POS_SPD_STAT_MODE n) = (if s.get (POS_SPD_CFG_OBS_N n) ≤ min 16 (s.get (posEdgeN n) + 1) then 3 else 2))) ∧
  (∀ (n : Fin 4) (s : State), s.get (POS_CTRL_EN n) ≠ 0 →
    (s.get (POS_CTRL_PRIM n) = 2 → encoderEdgeWaits n s = false → s.get (POS_SPD_STAT_MODE n) ≠ 0 →
      s.get (posEdgeAt n) - 1 + 20000 * s.get (POS_SPD_CFG_STILL_TO n) ≤ s.now →
      exec (.stillTimeout n) s = .next (((s.set (POS_SPD_STAT_MODE n) 0).set (POS_SPD_STAT_VALID n) 1).set (POS_SPD_STAT_STILL n) 1)) ∧
    (s.get (POS_CTRL_PRIM n) = 4 → hallEdgeWaits n s = false → s.get (POS_SPD_STAT_MODE n) ≠ 0 →
      s.get (posEdgeAt n) - 1 + 20000 * s.get (POS_SPD_CFG_STILL_TO n) ≤ s.now →
      exec (.stillTimeout n) s = .next (((s.set (POS_SPD_STAT_MODE n) 0).set (POS_SPD_STAT_VALID n) 1).set (POS_SPD_STAT_STILL n) 1)) ∧
    (s.get (POS_CTRL_PRIM n) = 2 → encoderEdgeWaits n s = true → exec (.stillTimeout n) s = .next s) ∧
    (s.get (POS_CTRL_PRIM n) = 1 ∨ s.get (POS_CTRL_PRIM n) = 3 → s.get (posLowAt n) ≠ 0 →
      s.get (posLowAt n) - 1 + 20000 * s.get (POS_SPD_CFG_STILL_TO n) ≤ s.now →
      exec (.stillTimeout n) s = .next (s.set (POS_SPD_STAT_STILL n) 1))) ∧
  (∀ (n : Fin 4) (s : State), s.get (bemfGood n) = 256 → s.get (LOOP_STAT_STATE n) ≠ 0 → exec (.bemfQualSet n) s = .next (s.set (POS_BEMF_STAT_QUAL n) 1)) ∧
  (∀ (n : Fin 4) (s : State), s.get (bemfBad n) = 16 → s.get (POS_BEMF_STAT_QUAL n) ≠ 0 →
    let u := (((s.set (POS_BEMF_STAT_QUAL n) 0).set (bemfGood n) 0).set (bemfBad n) 0).set (bemfDiffRun n) 0
    (s.get (POS_STAT_SRC n) ≠ 1 → exec (.bemfQualClear n) s = .next u) ∧
    (s.get (POS_STAT_SRC n) = 1 → exec (.bemfQualClear n) s =
      .next (raiseStallFault n 3 0x0B .stallSafe ((u.set (POS_STAT_SRC n) 2).set (POS_ANG_QUAL n) 0))))

/-- R172, R173, R186, R176, R66: the commands of the loop engines and the writes with an operation of their own. The first select after a start is
the sequence entry after the first (log entry 99). R66, R67, R192 to R194, R189: a computed period. A mismatch between two engines starts a recovery
and requests the Remount; a computation past its deadline is abandoned and counted late; the following-error timer ends in the safe state. Readings
and choices of the model: log entries 32, 33, 34, 98, 99, 101. -/
def Obligations.LoopPeriodsComputeAndEnd : Prop :=
  (∀ (n : Fin 4) (s : State), bitAt (rewritten s) n = false → s.get (LOOP_CMD_STATUS n) ≠ stBusy → s.get (LOOP_STAT_STATE n) ≠ 0 →
    exec (.loopStart n) s = .next (s.cmdSet (loopCmd n) 1 stRefused)) ∧
  (∀ (n : Fin 4) (s : State), bitAt (rewritten s) n = false → s.get (LOOP_CMD_STATUS n) ≠ stBusy → s.get (LOOP_STAT_STATE n) = 0 → slotsReady n s = true → s.get (SENSE_CTRL_EN n) ≠ 0 →
    s.get (SENSE_CAL_STAT_VALID n) ≠ 0 → s.get (POS_ANG_QUAL (leadOf n s)) ≠ 0 → bankOk n (s.get (LOOP_STAT_PSET n)) s = true →
    (s.get (LOOP_STAT_A_FAILED n) = 0 ∨ s.get (LOOP_STAT_B_FAILED n) = 0) → s.get (PWM_STAT_STATE n) ≠ 4 →
    ∃ t, exec (.loopStart n) s = .next t ∧ t.get (LOOP_CMD_STATUS n) = stDone ∧ t.get (LOOP_STAT_STATE n) = (if s.get (PWM_STAT_STATE n) = 3 then 2 else 1) ∧
      t.get (LOOP_INT_D_I n) = 0 ∧ t.get (LOOP_INT_Q_I n) = 0 ∧ t.get (LOOP_INT_W_I n) = 0 ∧ t.mem = s.mem) ∧
  (∀ (n : Fin 4) (s : State), bitAt (rewritten s) n = false → s.get (LOOP_CMD_STATUS n) ≠ stBusy →
    (switching n s = true → exec (.loopStop n) s = .next (s.cmdSet (loopCmd n) 2 stRefused)) ∧
    (switching n s = false → s.get (loopBusy n) = 0 → s.get (LOOP_STAT_STATE n) ≠ 3 →
      exec (.loopStop n) s = .next (bemfUnqual n ((s.cmdSet (loopCmd n) 2 stDone).set (LOOP_STAT_STATE n) 0))) ∧
    (switching n s = false → s.get (loopBusy n) ≠ 0 ∨ s.get (LOOP_STAT_STATE n) = 3 →
      exec (.loopStop n) s = .next (bemfUnqual n ((s.cmdSet (loopCmd n) 2 stDone).set (loopStopPend n) 1)))) ∧
  (∀ (n : Fin 4) (s : State), bitAt (rewritten s) n = false → s.get (LOOP_CMD_STATUS n) ≠ stBusy →
    (s.get (loopPset n) = 0 → bankOk n (1 - s.get (LOOP_STAT_PSET n)) s = true → s.get (LOOP_STAT_STATE n) ≠ 0 →
      exec (.pset n) s = .next ((s.cmdSet (loopCmd n) 3 stDone).set (loopPset n) 1)) ∧
    (s.get (loopPset n) = 0 → bankOk n (1 - s.get (LOOP_STAT_PSET n)) s = true → s.get (LOOP_STAT_STATE n) = 0 →
      exec (.pset n) s = .next (raiseStall n 0x16 (((s.cmdSet (loopCmd n) 3 stDone).set (LOOP_STAT_PSET n) (1 - s.get (LOOP_STAT_PSET n))).set (loopPset n) 0))) ∧
    (s.get (loopPset n) ≠ 0 ∨ bankOk n (1 - s.get (LOOP_STAT_PSET n)) s = false → exec (.pset n) s = .next (s.cmdSet (loopCmd n) 3 stRefused))) ∧
  (∀ (n : Fin 4) (s : State), s.get (loopPset n) ≠ 0 → s.get (LOOP_STAT_STATE n) = 0 ∨ s.get (senTrigAt n) = s.now →
    exec (.evPset n) s = .next (raiseStall n 0x16 ((s.set (LOOP_STAT_PSET n) (1 - s.get (LOOP_STAT_PSET n))).set (loopPset n) 0))) ∧
  (∀ (n : Fin 4) (w : BitVec 32) (s : State), bitAt (rewritten s) n = false → ∃ t, exec (.referenceApply n w) s = .next t ∧ t.get (LOOP_A_REF_REF n) = w.toNat ∧
    t.get (LOOP_ID_REF_REF n) = heldOr s (LOOP_ID_REF_REF n).addr (s.get (LOOP_ID_REF_REF n)) % 2 ^ 32 ∧
    t.get (LOOP_IQ_REF_REF n) = heldOr s (LOOP_IQ_REF_REF n).addr (s.get (LOOP_IQ_REF_REF n)) % 2 ^ 32 ∧
    t.get (LOOP_W_REF_REF n) = heldOr s (LOOP_W_REF_REF n).addr (s.get (LOOP_W_REF_REF n)) % 2 ^ 32 ∧ t.bus = ⟨false, 0⟩ ∧ t.mem = s.mem) ∧
  (∀ (n : Fin 4) (v : BitVec 24) (s : State), bitAt (rewritten s) n = false → s.get (loopSlackAt n) ≠ s.now + 1 →
    exec (.slackMinWrite n v) s = .next (busOk (s.set (LOOP_SLACK_MIN_MIN n) v.toNat))) ∧
  (∀ (n : Fin 4) (w : BitVec 32) (v : BitVec 24) (s : State), bitAt (rewritten s) n = true → exec (.loopStart n) s = .next (busErr s) ∧
    exec (.loopStop n) s = .next (busErr s) ∧ exec (.pset n) s = .next (busErr s) ∧ exec (.referenceApply n w) s = .next (busErr s) ∧
    exec (.slackMinWrite n v) s = .next (busErr s)) ∧
  (∀ (n : Fin 4) (m sh : Bool) (s : State), s.get (loopBusy n) = 0 → exec (.loopPeriodDone n m sh) s = .next s) ∧
  (∀ (n : Fin 4) (m sh : Bool) (s : State), s.get (loopBusy n) ≠ 0 →
    let u := ledgerPeriod n (slotsEval n s)
    (m = true → 2 ≤ enginesIn n u → exec (.loopPeriodDone n m sh) s = .next (periodRecord n false true (loopMismatch n (law n u) u))) ∧
    (m = false ∨ enginesIn n u < 2 → exec (.loopPeriodDone n m sh) s = .next (loopEnd n (loopPass n (law n u) sh u)))) ∧
  (∀ (n : Nat) (l : Law) (s : State), n < 4 → s.now * 64 ≤ deadline n s → s.get (LOOP_STAT_ENG_R n) = 0 →
    let t := loopMismatch n l s
    t.get (LOOP_STAT_STATE n) = 3 ∧ t.get (loopBusy n) = 0 ∧ bitAt (t.get REMOUNT_REQ_REQ) n = true ∧
    (∀ h < 3, t.get (PWM_CMPh_CMP n h) = s.get (PWM_CMPh_CMP n h))) ∧
  (∀ (n : Fin 4) (s : State), s.get (loopBusy n) ≠ 0 → deadline n s ≤ s.now * 64 → exec (.latePeriod n) s = .next (loopAbandon n s)) ∧
  (∀ (n : Nat) (s : State), n < 4 →
    let u := raiseStall n 0x10 ((s.inc (LOOP_LATE_COUNT_COUNT n)).inc (LOOP_LATE_RUN_RUN n))
    let lim := if s.get (LOOP_LATE_CFG_LIMIT n) = 0 then 16 else s.get (LOOP_LATE_CFG_LIMIT n)
    (u.get (LOOP_LATE_RUN_RUN n) < lim ∨ s.get (loopLateSeen n) ≠ 0 → lateCount n s = u) ∧
    (lim ≤ u.get (LOOP_LATE_RUN_RUN n) → s.get (loopLateSeen n) = 0 → lateCount n s = raiseStallFault n 4 0x20 .stallSafe (u.set (loopLateSeen n) 1))) ∧
  (∀ (n : Fin 4) (s : State), s.get (LOOP_Pb_CFG_FERR_T n (s.get (LOOP_STAT_PSET n))) ≠ 0 →
    s.get (LOOP_Pb_CFG_FERR_T n (s.get (LOOP_STAT_PSET n))) * 25600 ≤ s.get (loopFerr n) → s.get (loopFerrDone n) = 0 →
    exec (.ferrTimeout n) s = .next (raiseStallFault n 4 0x21 .stallSafe (s.set (loopFerrDone n) 1)))

/-- R29, R194 to R197: the recovery's outcome, the arbitration of the Remount, its grant and release, and the rejoining of a shadowed engine.
Readings and choices of the model: log entries 33, 35, 74. -/
def Obligations.RecoveryOutcomesAndRemount : Prop :=
  (∀ (n : Fin 4) (ab ar br : Bool) (s : State), s.get (LOOP_STAT_STATE n) ≠ 3 → exec (.recoveryDone n ab ar br) s = .next s) ∧
  (∀ (n : Fin 4) (s : State), s.get (LOOP_STAT_ENG_R n) = 0 → holdsRemount n s = true →
    rcvOutcome n true true true s = 1 ∧ rcvOutcome n true true false s = 1 ∧ rcvOutcome n false false true s = 2 ∧ rcvOutcome n true false true s = 2 ∧
    rcvOutcome n false true false s = 3 ∧ rcvOutcome n true false false s = 4 ∧ rcvOutcome n false false false s = 6) ∧
  (∀ (n : Fin 4) (ab ar br : Bool) (s : State), s.get (LOOP_STAT_STATE n) = 3 → s.get REMOUNT_REQ_REQ = 0 →
    let o := rcvOutcome n ab ar br s
    let z := if s.get (PWM_STAT_STATE n) = 3 then 2 else 1
    let u := ((s.set (LOOP_RCV_STAT_LAST n) o).when (holdsRemount n s) (fun s => s.set REMOUNT_STAT_BUSY 0)).set (LOOP_STAT_STATE n) z
    (o = 6 → exec (.recoveryDone n ab ar br) s = .next (loopEnd n (raiseStallFault n 4 0x25 .stallSafe (remountRelease n u)))) ∧
    (o ≠ 6 → exec (.recoveryDone n ab ar br) s = .next (loopEnd n (rcvLoad n (raiseStall n 0x13 (rcvEngines n o u)))))) ∧
  (∀ s : State, s.get REMOUNT_REQ_REQ = 0 → remountArbitrate s = s) ∧
  (∀ (n : Nat) (s : State), n < 4 → bitAt (s.get REMOUNT_REQ_REQ) n = true → (∀ m < n, bitAt (s.get REMOUNT_REQ_REQ) m = false) → s.get (PWM_STAT_STATE n) < 3 →
    s.get REMOUNT_CTRL_EN ≠ 0 → s.get REMOUNT_STAT_FAILED = 0 → s.get REMOUNT_STAT_HELD = 0 →
    let t := remountArbitrate s
    holdsRemount n t = true ∧ t.get REMOUNT_STAT_BUSY = 1 ∧ t.get REMOUNT_REQ_REQ = 0) ∧
  (∀ s : State, s.get REMOUNT_REQ_REQ ≠ 0 → s.get REMOUNT_CTRL_EN = 0 ∨ s.get REMOUNT_STAT_FAILED ≠ 0 ∨ s.get REMOUNT_STAT_HELD ≠ 0 →
    remountArbitrate s = (s.addSat REMOUNT_COUNT_DENIED (popCount 4 (s.get REMOUNT_REQ_REQ))).set REMOUNT_REQ_REQ 0) ∧
  (∀ (n : Nat) (s : State), holdsRemount n s = true → (remountRelease n s).get REMOUNT_STAT_HELD = 0) ∧
  (∀ (n : Fin 4) (s : State), s.get (LOOP_STAT_SHADOW n) ≠ 0 → s.get (LOOP_REJOIN_N n) ≤ s.get (loopAgree n) → ∃ t, exec (.evEngineRejoin n) s = .next t ∧
    t.get (LOOP_STAT_SHADOW n) = 0 ∧ t.get (LOOP_STAT_ENG_A n) = 1 ∧ t.get (LOOP_STAT_ENG_B n) = 1 ∧ t.get (LOOP_STAT_ENG_R n) = 0)

/-- R203, R205, R212, R214 to R217, R219, R221, R223, R227: the commands of the PWM block. START is refused where either Stall of the pair is
blocked or the Stall is a follower; the first zero loads every shadow; STOP turns every line off; TRIP_CLEAR clears the named latches unless one of
their inputs still asserts; while the Stall's blocks are rewritten each is answered with an error. R206 to R210, R224 to R230, R530: an edge of the
reference signal that the compare in force places at this instant commands its line off and begins the dead time of the other, which is then
commanded on; a held line is released when its minimum pulse has passed; a new assertion of a trip input is judged once, and a pending one at the
end of the blanking or after 20 us. What has not fallen due does nothing. Readings and choices of the model: log entries 12, 39. -/
def Obligations.PwmCommandsAndEdgesAct : Prop :=
  (∀ (n : Fin 4) (s : State), bitAt (rewritten s) n = false → s.get (PWM_CMD_STATUS n) ≠ stBusy →
    (s.get (PWM_CTRL_PAIR n) ≠ 2 → (∀ p ∈ pairList n s, startBlocked p s = false) →
      exec (.pwmStart n) s = .next ((s.cmdSet (pwmCmd n) 1 stDone).each (pairList n s) startOne)) ∧
    (s.get (PWM_CTRL_PAIR n) = 2 ∨ (∃ p ∈ pairList n s, startBlocked p s = true) → exec (.pwmStart n) s = .next (s.cmdSet (pwmCmd n) 1 stRefused)) ∧
    (s.get (PWM_CTRL_PAIR n) = 0 → startBlocked n s = false → standingCause n s = none → s.get YOKE_STAT_LOCKSTEP_BROKEN = 0 →
      ∃ t, exec (.pwmStart n) s = .next t ∧ t.get (PWM_CMD_STATUS n) = stDone ∧ t.get (PWM_STAT_STATE n) = 1 ∧ t.get (pwmDue n) = s.now + 64 ∧
        t.get (pwmAwait n) = 1 ∧ t.get (PWM_LINES_CMD n) = s.get (PWM_LINES_CMD n)) ∧
    (s.get (PWM_CTRL_PAIR n) = 0 → startBlocked n s = false → standingCause n s ≠ none →
      ∃ t, exec (.pwmStart n) s = .next t ∧ t.get (PWM_CMD_STATUS n) = stDone ∧ t.get (PWM_STAT_STATE n) = 3)) ∧
  (∀ (n : Fin 4) (f : Fin 64) (z : Nat) (s : State), s.get (pwmAwait n) ≠ 0 → s.get (PWM_STAT_STATE n) = 1 ∨ s.get (PWM_STAT_STATE n) = 3 →
    firstZero n s = some z →
    (z ≤ s.fineNow f → ∃ t, exec (.evPwmStart n f) s = .next t ∧ t.get (PWM_STAT_STATE n) = (if s.get (PWM_STAT_STATE n) = 1 then 2 else 3) ∧
      t.get (pwmAwait n) = 0 ∧ t.get (pwmZeroAt n) = z ∧ t.get (PWM_LOAD_ARM_ARM n) = 0 ∧ t.get (PWM_PER_PER_ACT n) = ownPeriod n s ∧
      ∀ h < 3, t.get (PWM_CMPh_CMP_ACT n h) = s.get (PWM_CMPh_CMP n h)) ∧
    (s.fineNow f < z → exec (.evPwmStart n f) s = .next s)) ∧
  (∀ (n : Nat) (s : State), n < 4 → s.get (PWM_CTRL_PAIR n) ≠ 2 →
    (s.get (PWM_CTRL_LOCK n) = 0 → firstZero n s = some (s.get (pwmDue n) * 64)) ∧
    (s.get (PWM_CTRL_LOCK n) ≠ 0 → s.get refRun ≠ 0 → s.get (pwmDue n) * 64 ≤ s.get refZeroAt + s.get (PWM_OFFSET_OFS_ACT n) →
      firstZero n s = some (s.get refZeroAt + s.get (PWM_OFFSET_OFS_ACT n)))) ∧
  (∀ (n z : Nat) (s : State), n < 4 → cohDueAt n z s = false →
    (s.get (PWM_CTRL_COH n) = 0 → (loadAtZero n z s).get (PWM_PER_PER_ACT n) = ownPeriod n s ∧ (loadAtZero n z s).get (PWM_STAT_TRANS n) = 0) ∧
    (s.get (PWM_CTRL_COH n) ≠ 0 → s.get (PWM_LOAD_ARM_ARM n) ≠ 0 → bitAt (s.get (pwmPendSet n)) 0 = true →
      (loadAtZero n z s).get (PWM_PER_PER_ACT n) = ownPeriod n s ∧ (loadAtZero n z s).get (PWM_LOAD_ARM_ARM n) = 0 ∧
      ∀ h < 3, (loadAtZero n z s).get (PWM_CMPh_CMP_ACT n h) = s.get (if bitAt (s.get (pwmPendSet n)) (1 + h) then PWM_CMPh_CMP n h else PWM_CMPh_CMP_ACT n h))) ∧
  (∀ p q a b : Nat, 0 < q → q ≤ transition p q a b ∧ ((transition p q a b : Int) - (p + a - b)) % q = 0 ∧
    (transition p q a b < 2 * q ∨ (transition p q a b : Int) = p + a - b)) ∧
  (∀ (n : Fin 4) (s : State), bitAt (rewritten s) n = false → s.get (PWM_CMD_STATUS n) ≠ stBusy →
    (switching n s = true → exec (.pwmStop n) s =
      .next ((s.cmdSet (pwmCmd n) 2 stDone).each (pairList n s) (fun p s => raiseStall p 0x01 (haltOne p s)))) ∧
    (switching n s = false → exec (.pwmStop n) s = .next (s.cmdSet (pwmCmd n) 2 stRefused))) ∧
  (∀ (n : Nat) (s : State), n < 4 → (haltOne n s).get (PWM_STAT_STATE n) = 0 ∧ (haltOne n s).get (PWM_LINES_LINE n) &&& 63 = 0 ∧
    (haltOne n s).get (PWM_TRIP_STAT_FORCE n) = 0 ∧ (haltOne n s).get (PWM_TRIP_STAT_LATCH n) = s.get (PWM_TRIP_STAT_LATCH n) ∧
    ∀ h < 3, (haltOne n s).get (PWM_CMPh_CMP n h) = s.get (PWM_CMPh_CMP n h)) ∧
  (∀ (n : Fin 4) (mask : BitVec 4) (s : State), bitAt (rewritten s) n = false → s.get (PWM_CMD_STATUS n) ≠ stBusy →
    let named := mask.toNat &&& s.get (PWM_TRIP_STAT_LATCH n)
    (mask ≠ 0 → named &&& s.get (PWM_TRIP_STAT_IN n) = 0 → ∃ t, exec (.tripClear n mask) s = .next t ∧ t.get (PWM_CMD_STATUS n) = stDone ∧
      t.get (PWM_CMD_CODE n) = 0x10 + mask.toNat ∧ (∀ j < 4, bitAt (t.get (PWM_TRIP_STAT_LATCH n)) j =
        (bitAt (s.get (PWM_TRIP_STAT_LATCH n)) j && !bitAt mask.toNat j)) ∧ t.mem = s.mem) ∧
    (mask = 0 ∨ named &&& s.get (PWM_TRIP_STAT_IN n) ≠ 0 → exec (.tripClear n mask) s = .next (s.cmdSet (pwmCmd n) (0x10 + mask.toNat) stRefused))) ∧
  (∀ (n : Fin 4) (s : State), bitAt (rewritten s) n = false →
    (s.get (PWM_CTRL_COH n) ≠ 0 → exec (.arm n) s = .next (busOk (s.set (PWM_LOAD_ARM_ARM n) 1))) ∧
    (s.get (PWM_CTRL_COH n) = 0 → exec (.arm n) s = .next (busErr s))) ∧
  (∀ (n : Fin 4) (mask : BitVec 4) (s : State), bitAt (rewritten s) n = true → exec (.pwmStart n) s = .next (busErr s) ∧
    exec (.pwmStop n) s = .next (busErr s) ∧ exec (.tripClear n mask) s = .next (busErr s) ∧ exec (.arm n) s = .next (busErr s)) ∧
  (∀ (n : Fin 4) (h : Fin 3) (on : Bool) (f : Fin 64) (s : State),
    let x := s.fineNow (s.fineOf n f)
    (carrierOn n s = false ∨ edgeDue n h on x s = false ∨ s.flag (pwmRef n h) = on → exec (.compareEdge n h on f) s = .next s) ∧
    (carrierOn n s = true → edgeDue n h on x s = true → s.flag (pwmRef n h) = !on → ∃ t, exec (.compareEdge n h on f) s = .next t ∧
      t.flag (pwmRef n h) = on ∧ t.get (pwmDtPend n h) = 1 ∧ t.get (pwmDtAt n h) = x + deadTime n (lineFor n h on s) s ∧
      bitAt (t.get (PWM_LINES_CMD n)) (lineFor n h (!on) s) = false ∧
      ∀ i < 6, i ≠ lineFor n h (!on) s → bitAt (t.get (PWM_LINES_CMD n)) i = bitAt (s.get (PWM_LINES_CMD n)) i)) ∧
  (∀ (n h t : Nat) (s : State), let c := cmpAt n h t s
    (c = 0 → refLevel n h t s = false) ∧ (0 < c → period n s ≤ c → refLevel n h t s = true) ∧
    (0 < c → c < period n s → refLevel n h t s = if alignOf n s = true then
      decide (period n s / 2 - c / 2 ≤ carrierPos n t s) && decide (carrierPos n t s < period n s / 2 + c / 2) else decide (carrierPos n t s < c))) ∧
  (∀ (n : Fin 4) (h : Fin 3) (f : Fin 64) (s : State),
    let x := s.fineNow (s.fineOf n f)
    let i := lineFor n h (s.flag (pwmRef n h)) s
    (carrierOn n s = true → s.get (pwmDtPend n h) ≠ 0 → s.get (pwmDtAt n h) ≤ x → ∃ t, exec (.deadTimeEnd n h f) s = .next t ∧
      t = refreshLines n x (commandOn n i x ((refreshLines n x s).set (pwmDtPend n h) 0)) ∧ t.get (pwmDtPend n h) = 0 ∧
      bitAt (t.get (PWM_LINES_CMD n)) i = true ∧ bitAt (t.get (pwmBridged n)) i = false) ∧
    (carrierOn n s = false ∨ s.get (pwmDtPend n h) = 0 ∨ x < s.get (pwmDtAt n h) → exec (.deadTimeEnd n h f) s = .next s)) ∧
  (∀ (n i t : Nat) (s : State), n < 4 → i < 6 → bitAt (s.get (PWM_LINES_LINE n)) i = false →
    let u := commandOn n i t s
    let v := (s.setBit (PWM_LINES_CMD n) i true).setBit (pwmBridged n) i false
    (shortPulse n (untilEdge n (i / 2) t v) v = true →
      bitAt (u.get (pwmRemoved n)) i = true ∧ u.get (PWM_CNT_MINP_REMOVED n) = clampU (PWM_CNT_MINP_REMOVED n).width (s.get (PWM_CNT_MINP_REMOVED n) + 1)) ∧
    (shortPulse n (untilEdge n (i / 2) t v) v = false →
      (s.get (pwmOffAt n i) ≠ 0 → t < s.get (pwmOffAt n i) - 1 + s.get (PWM_MINP_MINP n) → u = holdLine n i (s.get (pwmOffAt n i) - 1 + s.get (PWM_MINP_MINP n)) v) ∧
      (s.get (pwmOffAt n i) = 0 ∨ s.get (pwmOffAt n i) - 1 + s.get (PWM_MINP_MINP n) ≤ t → u = v))) ∧
  (∀ (n : Fin 4) (i : Fin 6) (f : Fin 64) (s : State),
    let x := s.fineNow (s.fineOf n f)
    (bitAt (s.get (pwmHold n)) i = true → s.get (pwmHoldAt n i) ≤ x → ∃ t, exec (.minpEnd n i f) s = .next t ∧
      t = refreshLines n x ((refreshLines n x s).setBit (pwmHold n) i false) ∧ bitAt (t.get (pwmHold n)) i = false) ∧
    (bitAt (s.get (pwmHold n)) i = true → x < s.get (pwmHoldAt n i) → exec (.minpEnd n i f) s = .next s) ∧
    (bitAt (s.get (pwmHold n)) i = false → carrierOn n s = true → s.get (pwmGuardAt n) ≠ 0 → s.get (pwmGuardAt n) ≤ x + 1 →
      exec (.minpEnd n i f) s = .next (refreshLines n x (rejudgeRemoval n x i (refreshLines n x (rejudgeBridge n x i s))))) ∧
    (bitAt (s.get (pwmHold n)) i = false → carrierOn n s = false ∨ s.get (pwmGuardAt n) = 0 ∨ x + 1 < s.get (pwmGuardAt n) →
      exec (.minpEnd n i f) s = .next s)) ∧
  (∀ (n : Fin 4) (j : Fin 4) (f : Fin 64) (s : State), let x := s.fineNow f
    (s.get (pwmTripNew n j) = 0 → exec (.tripAssert n j f) s = .next s) ∧
    (s.get (pwmTripNew n j) ≠ 0 → let u := s.set (pwmTripNew n j) 0
      (switching n s = false ∨ tripAct n j s = 0 → exec (.tripAssert n j f) s = .next u) ∧
      (switching n s = true → tripAct n j s ≠ 0 →
        (bitAt (s.get (PWM_TRIP_CFG_TRIP n)) (8 * j + 4) = false ∨ blanking n x s = false → exec (.tripAssert n j f) s = .next (tripForce n j x u)) ∧
        (bitAt (s.get (PWM_TRIP_CFG_TRIP n)) (8 * j + 4) = true → blanking n x s = true → ∃ t, exec (.tripAssert n j f) s = .next t ∧
          bitAt (t.get (PWM_TRIP_STAT_PEND n)) j = true ∧ t.get (PWM_TRIP_STAT_FORCE n) = s.get (PWM_TRIP_STAT_FORCE n) ∧
          t.get (pwmTripAt n j) = (if bitAt (s.get (PWM_TRIP_STAT_PEND n)) j = true then s.get (pwmTripAt n j) else s.now))))) ∧
  (∀ (n j t : Nat) (s : State), n < 4 → j < 4 → let u := tripForce n j t s
    bitAt (u.get (PWM_TRIP_STAT_FORCE n)) j = true ∧ bitAt (u.get (PWM_TRIP_STAT_SEEN n)) j = true ∧
    (tripAct n j s = 2 → bitAt (u.get (PWM_TRIP_STAT_LATCH n)) j = true) ∧
    (tripAct n j s ≠ 2 → u.get (PWM_TRIP_STAT_LATCH n) = s.get (PWM_TRIP_STAT_LATCH n))) ∧
  (∀ (n : Fin 4) (j : Fin 4) (f : Fin 64) (s : State), let x := s.fineNow f
    (bitAt (s.get (PWM_TRIP_STAT_PEND n)) j = false ∨ (blanking n x s = true ∧ s.now < s.get (pwmTripAt n j) + 4000) → exec (.tripJudge n j f) s = .next s) ∧
    (bitAt (s.get (PWM_TRIP_STAT_PEND n)) j = true → blanking n x s = false ∨ s.get (pwmTripAt n j) + 4000 ≤ s.now →
      let u := s.setBit (PWM_TRIP_STAT_PEND n) j false
      (routedOut n j s = true → exec (.tripJudge n j f) s = .next (tripForce n j x u)) ∧
      (routedOut n j s = false → exec (.tripJudge n j f) s = .next (raiseStall n 0x05 u))))

/-- R231, R232: whatever its sources call for, the output stage never has both lines of a half-bridge on where it had not before, and a line that it
turns on finds the other line off since at least the dead-time floor. Readings and choices of the model: log entries 8, 72. -/
def Obligations.InterlockKeepsDeadTime : Prop :=
  ∀ (n t : Nat) (s : State), n < 4 → t < 2 ^ 72 →
    ((∀ h < 3, ¬ (bitAt (s.get (PWM_LINES_LINE n)) (2 * h) = true ∧ bitAt (s.get (PWM_LINES_LINE n)) (2 * h + 1) = true)) →
      ∀ h < 3, ¬ (bitAt ((refreshLines n t s).get (PWM_LINES_LINE n)) (2 * h) = true ∧
        bitAt ((refreshLines n t s).get (PWM_LINES_LINE n)) (2 * h + 1) = true)) ∧
    (∀ i < 6, bitAt (s.get (PWM_LINES_LINE n)) i = false → bitAt ((refreshLines n t s).get (PWM_LINES_LINE n)) i = true →
      let p := if i % 2 = 0 then i + 1 else i - 1
      let u := refreshLines n t s
      bitAt (u.get (PWM_LINES_LINE n)) p = false ∧ u.get (pwmOnAt n i) ≤ t ∧
      (u.get (pwmOffAt n p) = 0 ∨ u.get (pwmOffAt n p) - 1 + floorFine s ≤ u.get (pwmOnAt n i)))

/-- R275: the sources by rank. A low enable pin, a mapped STO hold and the Sheepdog's torque-off command call for no line; so does a Stall that is
neither switching nor in its safe state, and a half-bridge whose link is not `READY`. A line that no source calls for is off after the output stage
has acted. Readings and choices of the model: log entry 72. -/
def Obligations.HigherRankHoldsLinesOff : Prop :=
  (∀ (n : Nat) (s : State), s.get (pwmPinHigh n) = 0 ∨ s.get (PROT_STAT_STO n) ≠ 0 ∨ s.get (PROT_STAT_SHD n) = 2 ∨ s.get (PWM_STAT_STATE n) = 0 ∨
    s.get (PWM_STAT_STATE n) = 4 ∨ (s.get (PWM_STAT_STATE n) = 3 ∧ (s.get (PROT_STAT_PROV n) ≠ 0 ∨ s.get (PROT_STAT_SAFE n) = 1)) → wantedLines n s = 0) ∧
  (∀ (n h : Nat) (s : State), n < 4 → h < 3 → s.get (REIN_Lh_STAT_STATE (3 * n + h)) ≠ 3 → bitAt (wantedLines n s) (2 * h) = false ∧
    bitAt (wantedLines n s) (2 * h + 1) = false) ∧
  (∀ (n i t : Nat) (s : State), n < 4 → i < 6 → bitAt (wantedLines n s) i = false → bitAt ((refreshLines n t s).get (PWM_LINES_LINE n)) i = false)

/-- R218 to R220, R223: the reference carrier, whose zeros follow one another at its active period, and the cross-Stall coherent load, which needs
it; the followers of masked leads take part, and the masked Stalls that do not switch are named skipped. R236, R237, R259, R364: enabling and
disabling an AUX unit, its zeros, one active period apart, its on-times, the demands, and the `AUX_EN` pin. Readings and choices of the model: log
entries 40, 41. -/
def Obligations.ReferenceCarrierAndAuxUnits : Prop :=
  (∀ s : State, (s.get AUX_REF_CTRL_EN = 0 → exec .refCarrierEnable s = .next (busOk (((s.set AUX_REF_CTRL_EN 1).set refRun 0).set refDue (s.now + 64)))) ∧
    (s.get AUX_REF_CTRL_EN ≠ 0 → exec .refCarrierEnable s = .next (busOk s))) ∧
  (∀ s : State, s.get AUX_REF_CTRL_EN ≠ 0 →
    ((∃ n < 4, lockOf n s = true ∧ switching n s = true) → exec .refCarrierDisable s = .next (busErr s)) ∧
    ((∀ n < 4, lockOf n s = false ∨ switching n s = false) → exec .refCarrierDisable s = .next (busOk ((s.set AUX_REF_CTRL_EN 0).set refRun 0)))) ∧
  (∀ s : State, s.get AUX_REF_CTRL_EN = 0 → exec .refCarrierDisable s = .next (busOk ((s.set AUX_REF_CTRL_EN 0).set refRun 0))) ∧
  (∀ s : State, (s.get refRun = 0 → refNext s = s.get refDue * 64) ∧ (s.get refRun ≠ 0 → refNext s = s.get refZeroAt + s.get AUX_REF_PER_PER_ACT)) ∧
  (∀ (f : Fin 64) (s : State), s.get AUX_REF_CTRL_EN = 0 ∨ s.fineNow f < refNext s → exec (.referenceZero f) s = .next s) ∧
  (∀ (f : Fin 64) (s : State), s.get AUX_REF_CTRL_EN ≠ 0 → refNext s ≤ s.fineNow f →
    (s.get AUX_COH_CMD_STATUS ≠ stBusy ∨ s.get cohOpen ≠ 0 ∨ refNext s < s.get cohDue * 64 → ∃ t, exec (.referenceZero f) s = .next t ∧ t.get refRun = 1 ∧
      t.get refZeroAt = refNext s ∧ t.get AUX_REF_PER_PER_ACT = s.get (if s.get refRun = 0 then AUX_REF_PER_PER else AUX_REF_PER_PER_ACT) ∧ t.mem = s.mem) ∧
    (s.get AUX_COH_CMD_STATUS = stBusy → s.get cohOpen = 0 → s.get cohDue * 64 ≤ refNext s → ∃ t, exec (.referenceZero f) s = .next t ∧ t.get refRun = 1 ∧
      t.get refZeroAt = refNext s ∧ t.get AUX_REF_PER_PER_ACT = s.get AUX_REF_PER_PER ∧ t.get cohAt = refNext s ∧
      ((∃ n < 4, s.get (pwmCohPart n) ≠ 0) → t.get cohOpen = 1 ∧ t.get AUX_COH_CMD_STATUS = stBusy) ∧
      ((∀ n < 4, s.get (pwmCohPart n) = 0) → s.get (cmdLate 4) = 0 → t.get cohOpen = 0 ∧ t.get AUX_COH_CMD_STATUS = stDone))) ∧
  (∀ s : State, s.get AUX_COH_CMD_STATUS ≠ stBusy →
    (s.get AUX_REF_CTRL_EN = 0 → exec .coherentLoad s = .next (s.cmdSet cohCmd 1 stRefused)) ∧
    (s.get AUX_REF_CTRL_EN ≠ 0 → ∃ t, exec .coherentLoad s = .next t ∧ t.get AUX_COH_CMD_STATUS = stBusy ∧ t.get cohDue = s.now + 64 ∧ ∀ n < 4,
      let named := bitAt (s.get AUX_COH_MASK_MASK) n || (s.get (PWM_CTRL_PAIR n) == 2 && bitAt (s.get AUX_COH_MASK_MASK) (n - 1))
      t.get (pwmCohPart n) = (named && switching n s).toNat ∧ bitAt (t.get AUX_COH_STAT_SKIPPED) n = (named && !switching n s))) ∧
  (∀ (k : Fin 2) (s : State),
    (s.get (AUX_Ak_CTRL_EN k) = 0 → s.get YOKE_STAT_LOCKSTEP_BROKEN = 0 →
      exec (.auxEnable k) s = .next (busOk ((s.set (AUX_Ak_CTRL_EN k) 1).set (auxDue k) (s.now + 64)))) ∧
    (s.get (AUX_Ak_CTRL_EN k) = 0 → s.get YOKE_STAT_LOCKSTEP_BROKEN ≠ 0 → exec (.auxEnable k) s =
      .next (busOk (raiseFault (yardCode 4 0x10) .deviceSafe ((s.set (AUX_Ak_CTRL_EN k) 1).set (auxDue k) (s.now + 64))))) ∧
    (s.get (AUX_Ak_CTRL_EN k) ≠ 0 → exec (.auxEnable k) s = .next (busOk s))) ∧
  (∀ (k : Fin 2) (s : State),
    (s.get (AUX_Ak_CTRL_EN k) = 0 ∨ s.get (AUX_Ak_STAT_DEMAND k) ≠ 0 → exec (.auxDisable k) s = .next (busOk (s.set (AUX_Ak_CTRL_EN k) 0))) ∧
    (s.get (AUX_Ak_CTRL_EN k) ≠ 0 → s.get (AUX_Ak_STAT_DEMAND k) = 0 → ∃ t, exec (.auxDisable k) s = .next t ∧ t.get (AUX_Ak_CTRL_EN k) = 0 ∧
      t.get (AUX_Ak_STAT_LINE k) = 0 ∧ t.get (auxRun k) = 0 ∧ t.bus = ⟨false, 0⟩)) ∧
  (∀ (k : Fin 2) (f : Fin 64) (s : State),
    ((s.get (AUX_Ak_STAT_DEMAND k) = 0 ∧ s.get (AUX_Ak_CTRL_EN k) = 0) ∨ s.fineNow f < auxNext k s → exec (.auxZero k f) s = .next s) ∧
    (s.get (AUX_Ak_STAT_DEMAND k) ≠ 0 ∨ s.get (AUX_Ak_CTRL_EN k) ≠ 0 → auxNext k s ≤ s.fineNow f → ∃ t, exec (.auxZero k f) s = .next t ∧
      t.get (auxZeroAt k) = auxNext k s ∧ t.get (auxRun k) = 1 ∧ t.get (auxFirst k) = 0 ∧ t.get (AUX_Ak_PER_PER_ACT k) = s.get (AUX_Ak_PER_PER k) ∧
      t.get (AUX_Ak_CMP_CMP_ACT k) = s.get (AUX_Ak_CMP_CMP k) ∧
      t.get (AUX_Ak_CLAMP_COUNT k) = clampU (AUX_Ak_CLAMP_COUNT k).width (s.get (AUX_Ak_CLAMP_COUNT k) +
        (if s.get (AUX_Ak_STAT_DEMAND k) = 0 ∧ s.get (AUX_Ak_PER_PER k) < s.get (AUX_Ak_CMP_CMP k) then 1 else 0)))) ∧
  (∀ (k : Nat) (s : State), k < 2 →
    (s.get (auxRun k) = 0 → auxNext k s = s.get (auxDue k) * 64) ∧
    (s.get (auxRun k) ≠ 0 → auxNext k s = s.get (auxZeroAt k) + s.get (AUX_Ak_PER_PER_ACT k))) ∧
  (∀ (k due t : Nat) (on : Bool) (s : State), k < 2 →
    (due ≤ t → (auxCall k due t on s).flag (auxWant k) = on ∧ (auxCall k due t on s).get (auxWait k) = 0 ∧
      (auxCall k due t on s).flag (AUX_Ak_STAT_LINE k) = (on && s.flag safAuxPin && !stoMapped (4 + k) s && s.get (REIN_Lh_STAT_STATE (12 + k)) == 3)) ∧
    (t < due → due < 2 ^ 72 → (auxCall k due t on s).get (auxWaitAt k) = due ∧ (auxCall k due t on s).get (auxWait k) = (if on then 1 else 2) ∧
      (auxCall k due t on s).get (AUX_Ak_STAT_LINE k) = s.get (AUX_Ak_STAT_LINE k))) ∧
  (∀ (k t : Nat) (s : State), let next := s.get (auxZeroAt k) + s.get (AUX_Ak_PER_PER_ACT k)
    auxGap k t s = true ↔ t < next ∧ t + s.get (AUX_Ak_CTRL_MINP k) ≤ next) ∧
  (∀ (k : Fin 2) (f : Fin 64) (s : State),
    let x := s.fineNow f
    let u := auxDelayed k x s
    let due := auxStart k u + auxOnTime k u
    (u.get (auxRun k) ≠ 0 → u.get (auxWant k) ≠ 0 → u.placeAt 4 due ≤ x → auxGap k due u = true →
      exec (.auxOnTimeEnd k f) s = .next (auxCall k (auxMay k due false u) due false u)) ∧
    (u.get (auxRun k) = 0 ∨ u.get (auxWant k) = 0 ∨ x < u.placeAt 4 due ∨ auxGap k due u = false →
      exec (.auxOnTimeEnd k f) s = .next u)) ∧
  (∀ (k : Fin 2) (s : State),
    (auxDemand k s = none ∨ s.get (AUX_Ak_STAT_DEMAND k) ≠ 0 → exec (.evAuxDemand k) s = .next s) ∧
    (auxDemand k s ≠ none → s.get (AUX_Ak_STAT_DEMAND k) = 0 → ∃ t, exec (.evAuxDemand k) s = .next t ∧ t.get (AUX_Ak_STAT_DEMAND k) = 1 ∧
      t.get (AUX_Ak_STAT_DEMANDS k) = clampU (AUX_Ak_STAT_DEMANDS k).width (s.get (AUX_Ak_STAT_DEMANDS k) + 1) ∧ t.get (auxFirst k) = 1 ∧
      t.get (auxRun k) = 1 ∧ t.get (auxZeroAt k) = s.now * 64 ∧ t.get (AUX_Ak_PER_PER_ACT k) = s.get (AUX_Ak_PER_PER k))) ∧
  (∀ (k : Fin 2) (s : State), let u := s.set (AUX_Ak_STAT_DEMAND k) 0
    (s.get (AUX_Ak_STAT_DEMAND k) = 0 ∨ auxDemand k s ≠ none → exec (.demandEnd k) s = .next s) ∧
    (s.get (AUX_Ak_STAT_DEMAND k) ≠ 0 → auxDemand k s = none →
      (s.get (AUX_Ak_CTRL_EN k) = 0 → exec (.demandEnd k) s =
        .next (auxCall k (auxMay k (s.now * 64) false (u.set (auxRun k) 0)) (s.now * 64) false (u.set (auxRun k) 0))) ∧
      (s.get (AUX_Ak_CTRL_EN k) ≠ 0 → auxStart k u + s.get (AUX_Ak_CMP_CMP_ACT k) ≤ s.now * 64 → auxGap k (s.now * 64) u = true →
        exec (.demandEnd k) s = .next (auxCall k (auxMay k (s.now * 64) false u) (s.now * 64) false u)) ∧
      (s.get (AUX_Ak_CTRL_EN k) ≠ 0 → s.now * 64 < auxStart k u + s.get (AUX_Ak_CMP_CMP_ACT k) ∨ auxGap k (s.now * 64) u = false →
        exec (.demandEnd k) s = .next u))) ∧
  (∀ s : State, ∃ t, exec .auxEnFall s = .next t ∧ t.get SYS_PINS_AUX_EN = 0 ∧ t.get safAuxPin = 0 ∧ t.get (AUX_Ak_STAT_LINE 0) = 0 ∧ t.get (AUX_Ak_STAT_LINE 1) = 0) ∧
  (∀ s : State, (s.get safAuxPin ≠ 0 → exec .auxEnRise s = .next s) ∧
    (s.get safAuxPin = 0 → ∃ t, exec .auxEnRise s = .next t ∧ t.get SYS_PINS_AUX_EN = 1 ∧ t.get safAuxPin = 1 ∧
      t.dn = s.dn ++ (([12, 13] : List Nat).filter (fun l => linkState l s == 4)).map (fun l => ⟨l, 5, 0xA5⟩)))

/-- R245 to R249, R267 to R269: the commands of the links and what their downlinks send: frames start on a bit boundary, at least two idle bits
after the last one and off the line before the next load instant. Readings and choices of the model: log entries 42, 86, 87. -/
def Obligations.ReinCommandsQueueFrames : Prop :=
  (∀ (g : Fin 5) (s : State), g.val = 4 ∨ bitAt (rewritten s) g = false → s.get (REIN_CMD_STATUS g) ≠ stBusy →
    let idle := if g.val < 4 then s.get (PWM_STAT_STATE g) == 0 else [0, 1].all (fun k => s.get (AUX_Ak_CTRL_EN k) == 0 && s.get (AUX_Ak_STAT_DEMAND k) == 0)
    (idle = true → (∀ l ∈ groupLinks g, s.get (REIN_Lh_STAT_STATE l) ≠ 3) → ∃ t, exec (.reinStart g) s = .next t ∧ t.get (REIN_CMD_STATUS g) = stBusy ∧
      t.get (REIN_CMD_CODE g) = 1 ∧ ∀ l ∈ groupLinks g, t.get (REIN_Lh_STAT_STATE l) = 1 ∧ t.get (reinStep l) = 1 ∧ t.get (reinTrainAt l) = s.now ∧
        t.get (REIN_Lh_STAT_TRAIN l) = 0) ∧
    (idle = true → (∀ l ∈ groupLinks g, s.get (REIN_Lh_STAT_STATE l) = 3 ∧ s.get (reinStep l) = 0) → s.get (reinTrainLate g) = 0 →
      ∃ t, exec (.reinStart g) s = .next t ∧ t.get (REIN_CMD_STATUS g) = stDone ∧ ∀ l ∈ groupLinks g, t.get (REIN_Lh_STAT_STATE l) = 3) ∧
    (idle = true → ∃ t, exec (.reinStop g) s = .next t ∧ t.get (REIN_CMD_STATUS g) = stDone ∧ t.get (REIN_CMD_CODE g) = 2 ∧
      ∀ l ∈ groupLinks g, t.get (REIN_Lh_STAT_STATE l) = 0 ∧ t.get (reinStep l) = 0) ∧
    (idle = false → exec (.reinStart g) s = .next (s.cmdSet (reinCmd g) 1 stRefused) ∧ exec (.reinStop g) s = .next (s.cmdSet (reinCmd g) 2 stRefused))) ∧
  (∀ (g : Fin 5) (s : State), g.val < 4 → bitAt (rewritten s) g = true → exec (.reinStart g) s = .next (busErr s) ∧ exec (.reinStop g) s = .next (busErr s)) ∧
  (∀ (l : Fin 14) (s : State), 12 ≤ l.val ∨ bitAt (rewritten s) (l / 3) = false → s.get (REIN_Lh_ACC_CMD_STATUS l) ≠ stBusy →
    (sendRefused l s = true → exec (.send l) s = .next (linkEvent l 0x0F (s.cmdSet (reinAccCmd l) 1 stRefused))) ∧
    (sendRefused l s = false → ∃ t, exec (.send l) s = .next t ∧ t.get (REIN_Lh_ACC_CMD_STATUS l) = stBusy ∧ t.get (reinReq l) = 1 ∧
      t.get (reinReqTag l) = s.get (reinTagNext l) ∧
      t.dn = s.dn ++ [⟨l, if s.get (REIN_Lh_ACC_WR l) ≠ 0 then 2 else 3, 2 ^ 24 * s.get (reinTagNext l) + 2 ^ 16 * s.get (REIN_Lh_ACC_ADDR l) +
        (if s.get (REIN_Lh_ACC_WR l) ≠ 0 then s.get (REIN_Lh_ACC_DATA l) else 0)⟩])) ∧
  (∀ (l : Fin 14) (s : State), l.val < 12 → bitAt (rewritten s) (l / 3) = true → exec (.send l) s = .next (busErr s)) ∧
  (∀ (l : Fin 14) (s : State), let x := dnBoundary s.now
    (s.get (REIN_Lh_STAT_STATE l) ≠ 0 → s.get (reinDnAt l) + 4000 ≤ x → dnMay l 8 x s = true → ∃ t, exec (.heartbeat l) s = .next t ∧
      t.get (reinHb l) = (s.get (reinHb l) + 1) % 2 ^ (reinHb l).width ∧ t.get (reinDnF l 0) = dnBits 0 0 8 (s.get (reinHb l)) ∧ t.get (reinDnT l 0) = x + 1 ∧
      t.get (reinDnAt l) = x ∧ t.get (reinDnEnd l) = x + 104) ∧
    (s.get (REIN_Lh_STAT_STATE l) = 0 ∨ x < s.get (reinDnAt l) + 4000 ∨ dnMay l 8 x s = false → exec (.heartbeat l) s = .next s)) ∧
  (∀ (l k x : Nat) (s : State), (x < s.get (reinDnEnd l) + 8 → dnMay l k x s = false) ∧
    (∀ z : Nat, linkLoad l s = some z → z < (x + 4 * (18 + k)) * 64 + 512 → dnMay l k x s = false) ∧
    (s.get (reinDnEnd l) + 8 ≤ x → linkLoad l s = none → dnMay l k x s = true)) ∧
  (∀ (l : Fin 14) (f : DnFrame) (r : List DnFrame) (s : State), let x := dnBoundary s.now
    2 ≤ s.get (REIN_Lh_STAT_STATE l) → dnPop l s.dn = some (f, r) → f.typ = 2 ∨ f.typ = 3 ∨ f.typ = 5 →
    (dnMay l (dnLen f.typ) x s = true → ∃ t, exec (.downlinkAccessFrame l) s = .next t ∧ t.dn = r ∧ t.get (reinDnAt l) = x ∧
      t.get (reinDnEnd l) = x + (if f.typ = 2 then 168 else 104) ∧ (f.typ = 5 → t.get (reinDnF l 5) = dnBits 5 0 8 (f.load % 256) ∨ 256 ≤ f.load) ∧
      (f.typ ≠ 5 → t.get (reinReq l) = 2 ∧ t.get (reinReqStart l) = x ∧ t.get (reinReqEnd l) = x + (if f.typ = 2 then 168 else 104))) ∧
    (dnMay l (dnLen f.typ) x s = false → exec (.downlinkAccessFrame l) s = .next s)) ∧
  (∀ (l : Fin 14) (s : State), s.get (REIN_Lh_STAT_STATE l) < 2 ∨ dnPop l s.dn = none → exec (.downlinkAccessFrame l) s = .next s) ∧
  (∀ (l : Fin 14) (s : State),
    (s.get (reinReq l) = 2 → s.get (REIN_Lh_ACC_CMD_STATUS l) = stBusy → s.get (reinReqEnd l) + 2000 ≤ s.now → ∃ t, exec (.accessTimeout l) s = .next t ∧
      t.get (REIN_Lh_ACC_CMD_STATUS l) = (if s.get (reinReqLate l) = 0 then stFailed else stTooLate) ∧ t.get (REIN_Lh_ACC_RES_RESULT l) = 0xF ∧
      t.get (REIN_Lh_ACC_RES_DATA l) = 0 ∧ t.get (reinReq l) = 0 ∧ t.get (REIN_Lh_STAT_CAUSE l) = 7 ∧ t.get (REIN_Lh_STAT_STATE l) = s.get (REIN_Lh_STAT_STATE l)) ∧
    (s.get (reinReq l) ≠ 2 ∨ s.get (REIN_Lh_ACC_CMD_STATUS l) ≠ stBusy ∨ s.now < s.get (reinReqEnd l) + 2000 → exec (.accessTimeout l) s = .next s)) ∧
  (∀ (l c : Nat) (s : State), l < 14 → c < 8 → let t := trainFail l c s
    t.get (REIN_Lh_STAT_STATE l) = 0 ∧ t.get (reinStep l) = 0 ∧ t.get (REIN_Lh_STAT_TRAIN l) = c ∧ t.get (REIN_Lh_STAT_CAUSE l) = 6) ∧
  (∀ (l : Fin 14) (sw : Bool) (s : State),
    (s.get (reinStep l) = 1 → s.get (reinTrainAt l) + 40000 ≤ s.now → exec (.trainLockTimeout l sw) s = .next (trainFail l (if sw then 2 else 1) s)) ∧
    (s.get (reinStep l) ≠ 1 ∨ s.now < s.get (reinTrainAt l) + 40000 → exec (.trainLockTimeout l sw) s = .next s)) ∧
  (∀ (l : Fin 14) (s : State),
    (s.get (reinStep l) = 2 → s.get (reinStepAt l) + 2000 ≤ s.now → exec (.trainStepTimeout l) s = .next (trainFail l 3 s)) ∧
    (s.get (reinStep l) = 3 ∨ s.get (reinStep l) = 4 → s.get (reinStepAt l) + 4000 ≤ s.now → exec (.trainStepTimeout l) s = .next (trainFail l 4 s)) ∧
    (s.get (reinStep l) = 5 ∨ s.get (reinStep l) = 6 → s.get (reinStepAt l) + 2400 ≤ s.now → exec (.trainStepTimeout l) s = .next (trainFail l 6 s)) ∧
    (s.get (reinStep l) < 2 ∨ s.now < s.get (reinStepAt l) + trainBound (s.get (reinStep l)) → exec (.trainStepTimeout l) s = .next s)) ∧
  (∀ (l load t side d : Nat) (vs : Bool) (s : State), l < 14 → load < 256 → t < 2 ^ 70 → side < 2 → d < 128 →
    let tag := (s.get (REIN_Lh_ECHO_EXP l) + 1) % 16
    let u := sendSel l load t vs side d s
    (3 ≤ s.get (REIN_Lh_STAT_STATE l) → u.get (REIN_Lh_ECHO_EXP l) = tag ∧ u.get (reinSelPay l tag) = load ∧ u.get (reinDnF l 1) = dnBits 1 tag 8 load ∧
      (vs = true → u.get (reinDnF l 4) = dnBits 4 0 8 (128 * side + d))) ∧
    (s.get (REIN_Lh_STAT_STATE l) < 3 → u = s))

/-- R246, R247, R251 to R258, R267, R270: what comes up a link. A link that is `OFF` takes nothing in; a frame without its transitions, of an
unknown type or with a wrong CRC is counted and discarded; a `STATUS` frame writes the link's registers and moves its state; a reply with the tag of
the access in hand ends it; a fault pattern makes a link in `READY` or `FAULT` enter `FAULT` with a decision wait of 568 ticks and ends a training;
silence is a link loss of a link that has locked. Readings and choices of the model: log entries 42, 86. -/
def Obligations.UplinkFramesJudged : Prop :=
  (∀ (l : Fin 14) (h : BitVec 8) (w : BitVec 88) (x : BitVec 192) (s : State), s.get (REIN_Lh_STAT_STATE l) = 0 →
    exec (.statusFrame l h w) s = .next s ∧ exec (.replyFrame l h w) s = .next s ∧ exec (.uplinkFrameError l x) s = .next s) ∧
  (∀ (l : Fin 14) (x : BitVec 192) (s : State), s.get (REIN_Lh_STAT_STATE l) ≠ 0 →
    let f := if upFormat x = true then REIN_Lh_ERR_FMT l else REIN_Lh_ERR_CRC l
    (upFormat x = true ∨ upCrcOk (upBits x) = false → ∃ t, exec (.uplinkFrameError l x) s = .next t ∧ t.get f = clampU f.width (s.get f + 1) ∧
      t.get (REIN_Lh_STAT_STATE l) = s.get (REIN_Lh_STAT_STATE l) ∧ t.get (REIN_Lh_STAT_FLAGS l) = s.get (REIN_Lh_STAT_FLAGS l) ∧
      (s.get (reinStep l) = 1 → t.get (reinLock l) = 0)) ∧
    (upFormat x = false → upCrcOk (upBits x) = true → exec (.uplinkFrameError l x) s = .next s)) ∧
  (∀ (l : Fin 14) (h : BitVec 8) (w : BitVec 88) (s : State), s.get (REIN_Lh_STAT_STATE l) ≠ 0 → let f := h ++ w
    (upType f = 1 → upCrcOk f = true → ∃ t, exec (.statusFrame l h w) s = .next t ∧ t = statusFrame l (upSeq f) (upWord f) (s.set (reinFrameAt l) s.now) ∧
      t.get (REIN_Lh_STAT_FLAGS l) = upWord f 0 % 2 ^ (REIN_Lh_STAT_FLAGS l).width ∧ t.get (REIN_Lh_NTC_NTC l) = upWord f 2 % 2 ^ (REIN_Lh_NTC_NTC l).width ∧
      t.get (REIN_Lh_ECHO_ECHO l) = upWord f 4 % 2 ^ (REIN_Lh_ECHO_ECHO l).width ∧ t.get (reinSeq l) = upSeq f + 1 ∧ t.get (reinFrameAt l) = s.now) ∧
    (upType f ≠ 1 ∨ upCrcOk f = false → exec (.statusFrame l h w) s = .next s)) ∧
  (∀ (l fl : Nat) (fo : Bool) (s : State), l < 14 →
    (2 ≤ s.get (REIN_Lh_STAT_STATE l) → s.get (REIN_Lh_STAT_STATE l) ≤ 4 → bitAt fl 2 = true → (statusState l fl fo s).get (REIN_Lh_STAT_STATE l) = 5 ∧
      (statusState l fl fo s).get (REIN_Lh_STAT_CAUSE l) = 3) ∧
    (bitAt fl 2 = false → s.get (reinStep l) = 0 →
      (s.get (REIN_Lh_STAT_STATE l) = 3 → bitAt fl 15 = true → (statusState l fl fo s).get (REIN_Lh_STAT_STATE l) = 4 ∧
        (statusState l fl fo s).get (REIN_Lh_STAT_CAUSE l) = 0) ∧
      (s.get (REIN_Lh_STAT_STATE l) = 4 → bitAt fl 15 = false → bitAt fl 14 = true → (statusState l fl fo s).get (REIN_Lh_STAT_STATE l) = 3)) ∧
    (s.get (REIN_Lh_STAT_STATE l) = 1 → s.get (reinStep l) = 1 → bitAt fl 15 = false →
      (fo = true → s.get (reinLock l) = 7 → (statusState l fl fo s).get (REIN_Lh_STAT_STATE l) = 2 ∧ (statusState l fl fo s).get (reinStep l) = 2) ∧
      (fo = false ∨ s.get (reinLock l) = 0 → statusState l fl fo s = s.set (reinLock l) 1)) ∧
    (s.get (REIN_Lh_STAT_STATE l) = 2 → s.get (reinStep l) = 6 → bitAt fl 15 = false → bitAt fl 2 = false → bitAt fl 14 = true →
      (statusState l fl fo s).get (REIN_Lh_STAT_STATE l) = 3 ∧ (statusState l fl fo s).get (reinStep l) = 0)) ∧
  (∀ (l : Fin 14) (h : BitVec 8) (w : BitVec 88) (s : State), s.get (REIN_Lh_STAT_STATE l) ≠ 0 → let f := h ++ w
    let res := bits (upWord f 1) 8 4
    (upType f ≠ 2 ∨ upCrcOk f = false → exec (.replyFrame l h w) s = .next s) ∧
    (upType f = 2 → upCrcOk f = true → s.get (reinReq l) = 2 → s.get (reinReqTag l) = bits (upWord f 1) 12 4 → s.get (REIN_Lh_ACC_CMD_STATUS l) = stBusy →
      ∃ t, exec (.replyFrame l h w) s = .next t ∧ t.get (reinReq l) = 0 ∧ t.get (REIN_Lh_ACC_RES_RESULT l) = res ∧
        t.get (REIN_Lh_ACC_RES_DATA l) = upWord f 2 % 2 ^ (REIN_Lh_ACC_RES_DATA l).width ∧
        t.get (REIN_Lh_ACC_CMD_STATUS l) = (if s.get (reinReqLate l) ≠ 0 then stTooLate else if res ≤ 1 then stDone else stFailed)) ∧
    (upType f = 2 → upCrcOk f = true → s.get (reinReq l) = 2 → s.get (reinReqTag l) = bits (upWord f 1) 12 4 → s.get (REIN_Lh_ACC_CMD_STATUS l) ≠ stBusy →
      exec (.replyFrame l h w) s = .next (trainReply l res (upWord f 2) ((linkSeq l (upSeq f) (s.set (reinFrameAt l) s.now)).2.set (reinReq l) 0))) ∧
    (upType f = 2 → upCrcOk f = true → s.get (reinReq l) ≠ 2 ∨ s.get (reinReqTag l) ≠ bits (upWord f 1) 12 4 →
      exec (.replyFrame l h w) s = .next (linkSeq l (upSeq f) (s.set (reinFrameAt l) s.now)).2)) ∧
  (∀ (l sq : Nat) (s : State), l < 14 → sq < 16 → (linkSeq l sq s).2.get (reinSeq l) = sq + 1 ∧
    (s.get (reinSeq l) ≠ 0 → s.get (reinSeq l) ≤ 16 → (linkSeq l sq s).2.get (REIN_Lh_ERR_SEQ l) =
      clampU (REIN_Lh_ERR_SEQ l).width (s.get (REIN_Lh_ERR_SEQ l) + (sq + 32 - s.get (reinSeq l)) % 16))) ∧
  (∀ (l : Fin 14) (s : State), let u := (s.set (REIN_Lh_STAT_PAT l) 1).set (REIN_Lh_STAT_PAT_SEEN l) 1
    (s.get (reinStep l) ≠ 0 → exec (.faultPattern l) s = .next (trainFail l 5 u)) ∧
    (s.get (reinStep l) = 0 → s.get (REIN_Lh_STAT_STATE l) = 3 ∨ s.get (REIN_Lh_STAT_STATE l) = 4 → exec (.faultPattern l) s = .next (linkFault l (s.now + 568) u)) ∧
    (s.get (reinStep l) = 0 → s.get (REIN_Lh_STAT_STATE l) ≠ 3 → s.get (REIN_Lh_STAT_STATE l) ≠ 4 → exec (.faultPattern l) s = .next u)) ∧
  (∀ (l z : Nat) (s : State), l < 14 → z < 2 ^ 72 → (linkFault l z s).get (REIN_Lh_STAT_STATE l) = 4 ∧ (linkFault l z s).get (REIN_Lh_STAT_CAUSE l) = 0 ∧
    (l < 12 → (linkFault l z s).get (PROT_STAT_PSF (l / 3)) = 1 ∧ (z ≠ 0 → (linkFault l z s).get (protWait (l / 3) (l % 3)) = 1 ∧
      (linkFault l z s).get (protWaitEnd (l / 3) (l % 3)) = z))) ∧
  (∀ (l : Fin 14) (s : State), exec (.reinPatternEnd l) s = .next (s.set (REIN_Lh_STAT_PAT l) 0)) ∧
  (∀ (l : Fin 14) (s : State),
    (s.get (reinFrameAt l) + 200 ≤ s.now → exec (.uplinkSilence l) s = .next (linkLoss l 1 s)) ∧ (s.now < s.get (reinFrameAt l) + 200 → exec (.uplinkSilence l) s = .next s) ∧
    (s.get (reinFrameAt l) + 1200 ≤ s.now → exec (.noFrameTimeout l) s = .next (linkLoss l 2 s)) ∧
    (s.now < s.get (reinFrameAt l) + 1200 → exec (.noFrameTimeout l) s = .next s)) ∧
  (∀ (l c : Nat) (s : State), l < 14 → c < 4 →
    (2 ≤ s.get (REIN_Lh_STAT_STATE l) → s.get (REIN_Lh_STAT_STATE l) ≤ 4 → let t := linkLoss l c s
      t.get (REIN_Lh_STAT_STATE l) = 5 ∧ t.get (REIN_Lh_STAT_LOSS_SEEN l) = 1 ∧ t.get (REIN_Lh_STAT_CAUSE l) = c ∧ t.get (reinStep l) = 0) ∧
    (s.get (REIN_Lh_STAT_STATE l) < 2 ∨ 4 < s.get (REIN_Lh_STAT_STATE l) → linkLoss l c s = s))

/-- R274, R308: a cause of class STALL_SAFE takes a switching Stall without a partner into state 3 with that code as its first cause; a Stall that
does not switch keeps its state. Readings and choices of the model: log entries 43, 74. -/
def Obligations.StallSafeCauseEntersState3 : Prop :=
  (∀ (n code : Nat) (s : State), n < 4 → code < 2 ^ 16 → s.get (PWM_CTRL_PAIR n) = 0 → s.get (PWM_STAT_STATE n) = 1 ∨ s.get (PWM_STAT_STATE n) = 2 →
    (stallSafe n code s).get (PWM_STAT_STATE n) = 3 ∧ (stallSafe n code s).get (PROT_SAFE_CAUSE_CODE n) = code ∧
    (stallSafe n code s).getWide (PROT_SAFE_TB_LO_TB n) (PROT_SAFE_TB_HI_TB n) = s.now) ∧
  (∀ (n code : Nat) (s : State), n < 4 → s.get (PWM_CTRL_PAIR n) = 0 → s.get (PWM_STAT_STATE n) = 0 ∨ s.get (PWM_STAT_STATE n) = 4 →
    (stallSafe n code s).get (PWM_STAT_STATE n) = s.get (PWM_STAT_STATE n) ∧
    (stallSafe n code s).get (PROT_SAFE_CAUSE_CODE n) = s.get (PROT_SAFE_CAUSE_CODE n))

/-- R282, R286: the decision table's rows and what each row does: the torque-off rows, the rows that short the motor through one side, the rows that
demand AUX0 and the rows that request the contactors open. R274, R281, R284, R285: SAFE, the end of a decision wait, the dwell, a write of
`PROT_SW_OVR`, and the row a Stall in its safe state takes. Readings and choices of the model: log entry 43. -/
def Obligations.DecisionRowsAndDwell : Prop :=
  (∀ (n : Nat) (high : Bool) (s : State), 1 ≤ decideRow n high s ∧ decideRow n high s ≤ 10) ∧
  (∀ (n : Nat) (high : Bool) (s : State), s.get (PWM_CTRL_PAIR n) = 0 → (s.get (PROT_STAT_SHD n) = 2 → decideRow n high s = 1) ∧
    (s.get (PROT_STAT_SHD n) ≠ 2 → (∀ w < 6, swOf n w s = 0) →
      (high = false → decideRow n high s = 7) ∧ (high = true → decideRow n high s = 8)) ∧
    (s.get (PROT_STAT_SHD n) ≠ 2 → (∃ h < 3, swOf n (2 * h) s = 1) → (∃ h < 3, swOf n (2 * h + 1) s = 1) →
      decideRow n high s = 2)) ∧
  (∀ (row pref : Nat), 1 ≤ row → row ≤ 10 → (rowSafe row pref = 1 ↔ row ∈ [1, 2, 4, 6, 7, 10]) ∧ rowSafe 3 pref = 2 ∧ rowSafe 5 pref = 3 ∧
    rowSafe 8 pref ≠ rowSafe 9 pref ∧ (rowOpens row = true ↔ row ∈ [2, 4, 6, 10]) ∧ (rowChop row false = true ↔ row ∈ [2, 4, 6, 10]) ∧
    (rowChop row true = true ↔ row ∈ [1, 2, 4, 6, 10])) ∧
  (∀ (n : Fin 4) (s : State), bitAt (rewritten s) n = false → s.get (PROT_CMD_STATUS n) ≠ stBusy →
    (s.get (PWM_CTRL_PAIR n) ≠ 1 → exec (.safe n) s = .next (raiseStallFault n 5 2 .stallSafe (s.cmdSet (protCmd n) 1 stDone))) ∧
    (s.get (PWM_CTRL_PAIR n) = 1 → exec (.safe n) s =
      .next (raiseStallFault (n + 1 : Nat) 5 2 .stallSafe (raiseStallFault n 5 2 .stallSafe (s.cmdSet (protCmd n) 1 stDone)))) ∧
    (s.get (PWM_CTRL_PAIR n) = 0 → s.get (PWM_STAT_STATE n) = 1 ∨ s.get (PWM_STAT_STATE n) = 2 → ∃ t, exec (.safe n) s = .next t ∧
      t.get (PROT_CMD_STATUS n) = stDone ∧ t.get (PWM_STAT_STATE n) = 3 ∧ t.get (PROT_SAFE_CAUSE_CODE n) = stallCode n 5 2) ∧
    (s.get (PWM_CTRL_PAIR n) = 0 → s.get (PWM_STAT_STATE n) = 0 ∨ s.get (PWM_STAT_STATE n) = 4 → ∃ t, exec (.safe n) s = .next t ∧
      t.get (PROT_CMD_STATUS n) = stDone ∧ t.get (PWM_STAT_STATE n) = s.get (PWM_STAT_STATE n) ∧
      t.get (PROT_SAFE_CAUSE_CODE n) = s.get (PROT_SAFE_CAUSE_CODE n))) ∧
  (∀ (n : Fin 4) (h : Fin 3) (s : State),
    (s.get (protWait n h) ≠ 0 → s.get (protWaitEnd n h) ≤ s.now → ∃ t, exec (.decisionWaitEnd n h) s = .next t ∧
      t = reDecide n ((s.set (protWait n h) 0).set (protUnk n h) 1) ∧ t.get (protWait n h) = 0 ∧ t.get (protUnk n h) = 1) ∧
    (s.get (protWait n h) = 0 ∨ s.now < s.get (protWaitEnd n h) → exec (.decisionWaitEnd n h) s = .next s)) ∧
  (∀ (n : Fin 4) (s : State),
    (s.get (protRowAt n) + s.get (PROT_POL_DWELL n) * 200000 ≤ s.now → exec (.dwellExpiry n) s = .next (reDecide n s)) ∧
    (s.now < s.get (protRowAt n) + s.get (PROT_POL_DWELL n) * 200000 → exec (.dwellExpiry n) s = .next s)) ∧
  (∀ (n : Nat) (s : State), n < 4 → s.get (PWM_CTRL_PAIR n) = 0 →
    let u := switchUpdate n s
    let row := decideRow n (s.flag (PROT_STAT_SPD_HIGH n)) u
    (s.get (PWM_STAT_STATE n) ≠ 3 → reDecide n s = u) ∧
    (s.get (PWM_STAT_STATE n) = 3 → waiting n s = true → s.get (PROT_STAT_SHD n) ≠ 2 → (reDecide n s).get (PROT_STAT_PROV n) = 1 ∧
      (reDecide n s).get (PROT_STAT_ROW n) = s.get (PROT_STAT_ROW n)) ∧
    (s.get (PWM_STAT_STATE n) = 3 → waiting n s = false ∨ s.get (PROT_STAT_SHD n) = 2 → s.get (PROT_STAT_ROW n) = 0 ∨ dwellOver n s = true →
      (reDecide n s).get (PROT_STAT_ROW n) = row ∧ (reDecide n s).get (PROT_STAT_SAFE n) = rowSafe row (s.get (PROT_POL_PREF n)) ∧
      (reDecide n s).get (PROT_STAT_PROV n) = 0 ∧ (reDecide n s).flag (PROT_STAT_CTC_REQ n) = rowOpens row ∧
      (reDecide n s).flag (PROT_STAT_CHOP n) = rowChop row (s.flag (PROT_STAT_SPD_HIGH n)))) ∧
  (∀ (n : Fin 4) (v : BitVec 12) (s : State), bitAt (rewritten s) n = false →
    ((∃ w < 6, bits v.toNat (2 * w) 2 = 3) → exec (.swOvrWrite n v) s = .next (busErr s)) ∧
    ((∀ w < 6, bits v.toNat (2 * w) 2 ≠ 3) → ∃ t, exec (.swOvrWrite n v) s = .next t ∧ t = busOk (reDecide n (s.set (PROT_SW_OVR_OVR n) v.toNat)) ∧
      t.get (PROT_SW_OVR_OVR n) = v.toNat)) ∧
  (∀ (n : Fin 4) (v : BitVec 12) (s : State), bitAt (rewritten s) n = true → exec (.swOvrWrite n v) s = .next (busErr s) ∧
    exec (.safe n) s = .next (busErr s))

/-- R275, R277 to R279: the enable pin and the power-stage fault latch. The latch is judged at the rising edge: kept with reason 2 after less than
10 us low, with reason 3 while a cause is present, else cleared. R299, R174: a release names the first condition that fails, else waits for the next
carrier zero, where the Stall returns to state 2 with its active compares at P/2. Readings and choices of the model: log entry 44. -/
def Obligations.EnablePinJudgesLatch : Prop :=
  (∀ (n : Fin 4) (s : State), s.get (pwmPinHigh n) = 0 → exec (.stallEnFall n) s = .next s) ∧
  (∀ (n : Fin 4) (s : State), s.get (pwmPinHigh n) ≠ 0 → let u := refreshLines n (s.now * 64) ((enPin n false s).set (protEnFallAt n) s.now)
    (switching n s = false → exec (.stallEnFall n) s = .next u) ∧
    (switching n s = true → exec (.stallEnFall n) s = .next (raiseStallFault n 5 1 .stallSafe u))) ∧
  (∀ (n : Nat) (b : Bool) (s : State), n < 4 → (enPin n b s).flag (PWM_STAT_EN_PIN n) = b ∧ (enPin n b s).flag (PROT_STAT_EN_PIN n) = b ∧
    bitAt ((enPin n b s).get SYS_PINS_STALL_EN) n = b ∧ (enPin n b s).flag (pwmPinHigh n) = b) ∧
  (∀ (n : Fin 4) (s : State), s.get (pwmPinHigh n) ≠ 0 → exec (.stallEnRise n) s = .next s) ∧
  (∀ (n : Fin 4) (s : State), s.get (pwmPinHigh n) = 0 →
    let low := s.now - s.get (protEnFallAt n)
    let u := (enPin n true s).set (PROT_EN_STAT_LOW_US n) (clampU 16 (low / 200))
    (s.get (PROT_STAT_PSF n) = 0 → exec (.stallEnRise n) s = .next (refreshLines n (s.now * 64) u)) ∧
    (s.get (PROT_STAT_PSF n) ≠ 0 → low < 2000 → exec (.stallEnRise n) s = .next (refreshLines n (s.now * 64) (u.set (PROT_EN_STAT_LAST n) 2))) ∧
    (s.get (PROT_STAT_PSF n) ≠ 0 → 2000 ≤ low → psfPresent n s = true →
      exec (.stallEnRise n) s = .next (refreshLines n (s.now * 64) (u.set (PROT_EN_STAT_LAST n) 3))) ∧
    (s.get (PROT_STAT_PSF n) ≠ 0 → 2000 ≤ low → psfPresent n s = false → ∃ t, exec (.stallEnRise n) s = .next t ∧
      t.get (PROT_STAT_PSF n) = 0 ∧ t.get (PROT_PSF_SRC n) = 0 ∧ t.get (PROT_PSF_MON n) = 0 ∧ t.get (PROT_PSF_LINK n) = 0 ∧ t.get (PROT_EN_STAT_LAST n) = 1 ∧
      t.get (PROT_EN_STAT_CLEARS n) = clampU (PROT_EN_STAT_CLEARS n).width (s.get (PROT_EN_STAT_CLEARS n) + 1) ∧ (∀ w < 6, t.get (protSus n w) = 0) ∧
      t.dn = s.dn ++ (([0, 1, 2] : List Nat).filter (fun h => linkState (3 * n + h) s == 4)).map (fun h => ⟨3 * n + h, 5, 0xA5⟩))) ∧
  (∀ (n : Fin 4) (s : State),
    ((∃ h < 3, s.get (protClr n h) ≠ 0 ∧ s.get (REIN_Lh_STAT_STATE (3 * n + h)) ≠ 3) → s.get (protClrAt n) + 4000 ≤ s.now →
      ∃ t, exec (.evPsfClrFail n) s = .next t ∧ t.get (PROT_STAT_PSF n) = 1 ∧ t.get (PROT_PSF_CLRFAIL n) = 1 ∧ (∀ k < 3, t.get (protClr n k) = 0) ∧
        ∀ k < 3, bitAt (t.get (PROT_PSF_LINK n)) k = (bitAt (s.get (PROT_PSF_LINK n)) k ||
          (s.get (protClr n k) != 0 && s.get (REIN_Lh_STAT_STATE (3 * n + k)) != 3))) ∧
    ((∀ h < 3, s.get (protClr n h) = 0 ∨ s.get (REIN_Lh_STAT_STATE (3 * n + h)) = 3) ∨ s.now < s.get (protClrAt n) + 4000 →
      exec (.evPsfClrFail n) s = .next s)) ∧
  (∀ (n : Fin 4) (s : State), bitAt (rewritten s) n = false → s.get (PROT_CMD_STATUS n) ≠ stBusy →
    (releaseOf n s = 0 → ∃ t, exec (.protRelease n) s = .next t ∧ t.get (PROT_CMD_STATUS n) = stDone ∧
      (∀ p ∈ pairList n s, t.get (protRelPend p) = 1 ∧ t.get (protRelZ p) = s.get (pwmZeroAt p) + 1) ∧ t.get (PWM_STAT_STATE n) = s.get (PWM_STAT_STATE n)) ∧
    (releaseOf n s ≠ 0 → exec (.protRelease n) s = .next ((s.cmdSet (protCmd n) 2 stRefused).set (PROT_STAT_RREASON n) (releaseOf n s)))) ∧
  (∀ (n : Fin 4) (s : State), bitAt (rewritten s) n = true → exec (.protRelease n) s = .next (busErr s)) ∧
  (∀ (n : Nat) (s : State), releaseReason n s = 0 → s.get (PWM_STAT_STATE n) = 3 ∧ s.get (PROT_STAT_PSF n) = 0 ∧ s.get (pwmPinHigh n) ≠ 0 ∧
    s.get (PROT_STAT_STO n) = 0 ∧ s.get (PROT_STAT_SHD n) = 0 ∧ s.get (PROT_STAT_DEV_SAFE n) = 0 ∧ s.get (LOOP_STAT_STATE n) = 2) ∧
  (∀ (n : Fin 4) (f : Fin 64) (s : State),
    (s.get (protRelPend n) ≠ 0 → s.get (PWM_STAT_STATE n) = 3 → s.get (pwmAwait n) = 0 → s.get (protRelZ n) ≠ s.get (pwmZeroAt n) + 1 →
      s.get (pwmZeroAt n) ≤ s.fineNow f → ∃ t, exec (.evSafeRelease n f) s = .next t ∧ t.get (PWM_STAT_STATE n) = 2 ∧ t.get (protRelPend n) = 0 ∧
        t.get (PROT_STAT_ROW n) = 0 ∧ t.get (PROT_STAT_SAFE n) = 0 ∧
        t.get (LOOP_STAT_STATE n) = (if s.get (LOOP_STAT_STATE n) = 2 then 1 else s.get (LOOP_STAT_STATE n)) ∧
        ∀ h < 3, t.get (PWM_CMPh_CMP_ACT n h) = period n s / 2) ∧
    (s.get (protRelPend n) = 0 ∨ s.get (PWM_STAT_STATE n) ≠ 3 ∨ s.get (pwmAwait n) ≠ 0 ∨ s.get (protRelZ n) = s.get (pwmZeroAt n) + 1 ∨
      s.fineNow f < s.get (pwmZeroAt n) → exec (.evSafeRelease n f) s = .next s))

/-- R290 to R292, R334: the discharge commands and the energy account. R293, R294, R296, R297: the estimate of a switch is lost without an accepted
sample for `AGE` ms; the derating factor, formed every 1 ms, is that of the hottest switch, between `FMIN` and 256, unless the override names it,
and scales the current limit. Readings and choices of the model: log entries 45, 46. -/
def Obligations.DischargeAndDeratingBounded : Prop :=
  (∀ (n : Fin 4) (s : State), bitAt (rewritten s) n = false → s.get (PROT_DIS_CMD_STATUS n) ≠ stBusy →
    (dischargeReason n s ≠ 0 → exec (.dischargeRun n) s = .next ((s.cmdSet (disCmd n) 1 stRefused).set (PROT_DIS_STAT_ERR n) (dischargeReason n s))) ∧
    (dischargeReason n s = 0 → ∃ t, exec (.dischargeRun n) s = .next t ∧ t.get (PROT_DIS_CMD_STATUS n) = stBusy ∧ t.get (PROT_DIS_STAT_ERR n) = 0 ∧
      t.get (PROT_DIS_STAT_PATH n) = dischargePath n false s ∧ t.get (protDisAt n) = s.now ∧
      t.get auxDisRun = (dischargePath n false s == 1).toNat ∧ t.mem = s.mem)) ∧
  (∀ (n : Fin 4) (s : State), bitAt (rewritten s) n = true → exec (.dischargeRun n) s = .next (busErr s)) ∧
  (∀ (n : Nat) (s : State), dischargeReason n s = 0 → governing s = some n ∧ disRuns s = false ∧ dischargePath n false s ≠ 0) ∧
  (∀ s : State, exec .disReq s = .next (busOk (safetyDischarge s)) ∧
    (s.get SAFETY_STAT_DS ≠ 0 → s.get safDisRpt ≠ 0 → s.get safDisRptAt + 200000000 ≤ s.now → exec .disRepeat s = .next (safetyDischarge s)) ∧
    (s.get SAFETY_STAT_DS = 0 ∨ s.get safDisRpt = 0 ∨ s.now < s.get safDisRptAt + 200000000 → exec .disRepeat s = .next s)) ∧
  (∀ s : State, (disRuns s = true → safetyDischarge s = s) ∧
    (disRuns s = false → governing s = none → safetyDischarge s = raiseStallFault 0 5 0x41 .ride ((s.set safDisRpt 1).set safDisRptAt s.now)) ∧
    (∀ g : Nat, disRuns s = false → governing s = some g →
      (dischargePath g true s = 0 → safetyDischarge s = raiseStallFault g 5 0x41 .ride ((s.set safDisRpt 1).set safDisRptAt s.now)) ∧
      (dischargePath g true s ≠ 0 → (safetyDischarge s).get (PROT_DIS_STAT_PATH g) = dischargePath g true s ∧ (safetyDischarge s).get (protDisReq g) = 1 ∧
        (safetyDischarge s).get (protDisAt g) = s.now ∧ (safetyDischarge s).get safDisRpt = 0))) ∧
  (∀ (g : Nat) (s : State), g < 4 → (∀ k < g, s.get (PROT_DIS_STAT_PATH k) = 0) → s.get (PROT_DIS_STAT_PATH g) ≠ 0 →
    let done := s.get (MON_Mm_STAT_STATE g (s.get (PROT_DIS_CFG_MON g))) == 3
    (done = true → exec .evDisDone s = .next (raiseStall g 0x2C (dischargeEnd g stDone s))) ∧ (done = false → exec .evDisDone s = .next s) ∧
    (s.get (protDisAt g) + s.get (PROT_DIS_CFG_TMAX g) * 2000000 ≤ s.now →
      exec .dischargeTimeout s = .next (raiseStallFault g 5 0x40 .ride (dischargeEnd g stFailed s))) ∧
    (s.now < s.get (protDisAt g) + s.get (PROT_DIS_CFG_TMAX g) * 2000000 → exec .dischargeTimeout s = .next s)) ∧
  (∀ s : State, (∀ k < 4, s.get (PROT_DIS_STAT_PATH k) = 0) → exec .evDisDone s = .next s ∧ exec .dischargeTimeout s = .next s) ∧
  (∀ (g st : Nat) (s : State), g < 4 → st < 8 → (dischargeEnd g st s).get (PROT_DIS_STAT_PATH g) = 0 ∧ (dischargeEnd g st s).get auxDisRun = 0 ∧
    (s.get (PROT_DIS_CMD_STATUS g) = stBusy → (dischargeEnd g st s).get (PROT_DIS_CMD_STATUS g) = st)) ∧
  (∀ s : State, (s.get disDecAt + 200000 ≤ s.now → ∃ t, exec .energyDecay s = .next t ∧
      t.getF disEacc = eaccDecay (s.getF (PROT_DIS_TAU_T ((governing s).getD 0))) (s.getF disEacc) ∧ t.get disDecAt = s.now ∧
      (∀ n < 4, s.get (PROT_LINK_CFG_MEMBER n) ≠ 0 → t.get (PROT_DIS_EACC_E n) = t.get disEacc) ∧
      t.mem = s.mem ∧ t.get LEDGER_CAL_SEC_LO_SEC = s.get LEDGER_CAL_SEC_LO_SEC) ∧
    (s.now < s.get disDecAt + 200000 → exec .energyDecay s = .next s)) ∧
  (∀ (n : Fin 4) (w : Fin 6) (s : State),
    (s.get (PROT_TJ_s_VALID n w) ≠ 0 → s.get (protTjAt n w) + s.get (PROT_TJ_CFG_AGE n) * 200000 ≤ s.now →
      exec (.tjAgeTimeout n w) s = .next (raiseStallFault n 5 0x32 .ride (raiseStall n 0x2A
        (((s.set (PROT_TJ_s_VALID n w) 0).set (protTjAcc n w) 0).set (protTjTrip n w) 0)))) ∧
    (s.get (PROT_TJ_s_VALID n w) = 0 ∨ s.now < s.get (protTjAt n w) + s.get (PROT_TJ_CFG_AGE n) * 200000 → exec (.tjAgeTimeout n w) s = .next s)) ∧
  (∀ (n : Fin 4) (s : State), s.get (protDerAt n) + 200000 ≤ s.now → ∃ t, exec (.derateTick n) s = .next t ∧
    (s.get (PROT_DR_OVR_MODE n) = 1 → t.get (PROT_DR_STAT_FACTOR n) = s.get (PROT_DR_OVR_F n)) ∧
    (s.get (PROT_DR_OVR_MODE n) = 2 → t.get (PROT_DR_STAT_FACTOR n) = 256) ∧
    (∀ w < 6, s.get (PROT_DR_OVR_MODE n) = 0 → (∀ v < 6, switchTemp n v s ≤ switchTemp n w s) →
      t.get (PROT_DR_STAT_FACTOR n) = derateFactor n (switchTemp n w s) s % 2 ^ (PROT_DR_STAT_FACTOR n).width) ∧
    (s.get (PROT_DR_OVR_MODE n) < 3 → t.getF (PROT_DR_LIMIT_I n) = F32.mul (F32.ofRat (t.get (PROT_DR_STAT_FACTOR n)) 256) (s.getF (PROT_DR_IMAX_I n))) ∧
    t.get (protDerAt n) = s.now ∧ t.mem = s.mem ∧ t.get (PROT_DR_IMAX_I n) = s.get (PROT_DR_IMAX_I n)) ∧
  (∀ (n : Fin 4) (s : State), s.now < s.get (protDerAt n) + 200000 → exec (.derateTick n) s = .next s) ∧
  (∀ (n : Nat) (t : Int) (s : State), tempCode (s.get (PROT_DR_CFG_T0 n)) < tempCode (s.get (PROT_DR_CFG_T1 n)) → s.get (PROT_DR_CFG_FMIN n) ≤ 256 →
    s.get (PROT_DR_CFG_FMIN n) ≤ derateFactor n t s ∧ derateFactor n t s ≤ 256 ∧
    (t ≤ tempCode (s.get (PROT_DR_CFG_T0 n)) → derateFactor n t s = 256) ∧
    (tempCode (s.get (PROT_DR_CFG_T1 n)) ≤ t → derateFactor n t s = s.get (PROT_DR_CFG_FMIN n)))

/-- R304, R306, R339: one cycle of the Sheepdog, at a multiple of 20,000 ticks. The snapshot is taken first, then the hardware's checks are made,
then the firmware decides while it runs; straps that leave the open code end a sealing run (R336); the second bad oscillator count in a row is a
device-safe fault; a strap code that differs from the boot code is reported once. R306: a kick is accepted where its value and the token sum to
0xFFFF and it comes inside the sealed window; it leaves another token, whose value is free (log entry 2). Any other kick, and a window that ends
with none (timed by the RC oscillator alone, log entry 97), is a device-safe fault, and a reset where the sealed block asks for one. Readings and
choices of the model: log entries 2, 47, 53, 88, 89, 97. -/
def Obligations.SheepdogCycleAndKick : Prop :=
  (∀ (osc : BitVec 16) (strap : BitVec 4) (ce : BitVec 8) (dev : List (BitVec 32)) (s : State), s.now % 20000 = 0 → s.get shdCycAt ≠ s.now + 1 →
    s.get SHD_STAT_RUN = 0 → ∃ t, exec (.sheepdogCycle osc strap ce dev) s = .next t ∧ t.get SHD_CYCLE_COUNT = (s.get SHD_CYCLE_COUNT + 1) % 2 ^ SHD_CYCLE_COUNT.width ∧
      t.get SHD_STAT_CE = clampU SHD_STAT_CE.width (s.get SHD_STAT_CE + ce.toNat) ∧ t.get SHD_OSC_COUNT = osc.toNat ∧ t.get SAFETY_STAT_STRAP = strap.toNat ∧
      t.get shdCycAt = s.now + 1 ∧ ∀ n < 4, ∀ w < 16, t.get (SHD_SNAP_n_w_W n w) = (snapWords n s).getD w 0 % 2 ^ 32) ∧
  (∀ (osc : BitVec 16) (strap : BitVec 4) (ce : BitVec 8) (dev : List (BitVec 32)) (s : State), s.now % 20000 ≠ 0 ∨ s.get shdCycAt = s.now + 1 →
    exec (.sheepdogCycle osc strap ce dev) s = .next s) ∧
  (∀ (osc : BitVec 16) (strap : BitVec 4) (ce : BitVec 8) (dev : List (BitVec 32)) (s : State), s.now % 20000 = 0 → s.get shdCycAt ≠ s.now + 1 →
    let u := (((s.set shdCycAt (s.now + 1)).set SHD_CYCLE_COUNT (s.get SHD_CYCLE_COUNT + 1)).addSat SHD_STAT_CE ce.toNat).each [0, 1, 2, 3] snapTake
    let v := strapCheck strap.toNat (oscCheck osc.toNat u)
    exec (.sheepdogCycle osc strap ce dev) s = .next (disCheck (if v.get SHD_STAT_RUN ≠ 0 then firmware dev v else v))) ∧
  (∀ (osc : Nat) (s : State), let u := s.set SHD_OSC_COUNT osc
    (720 ≤ osc → osc ≤ 880 → oscCheck osc s = (u.set SHD_STAT_OSC_ERR 0).set oscRun 0) ∧
    (osc < 720 ∨ 880 < osc → s.get oscRun = 0 → oscCheck osc s = (u.set SHD_STAT_OSC_ERR 1).set oscRun 1) ∧
    (osc < 720 ∨ 880 < osc → s.get oscRun = 1 → oscCheck osc s = raiseFault 0x0602 .deviceSafe ((u.set SHD_STAT_OSC_ERR 1).set oscRun 2)) ∧
    (osc < 720 ∨ 880 < osc → 2 ≤ s.get oscRun → oscCheck osc s = (u.set SHD_STAT_OSC_ERR 1).set oscRun 3)) ∧
  (∀ (k : Nat) (s : State), k < 16 →
    let u := s.set SAFETY_STAT_STRAP k
    let v := sealStraps u
    (s.get SAFETY_SEAL_CMD_STATUS ≠ stBusy ∨ k = 10 → v = u) ∧
    (s.get SAFETY_SEAL_CMD_STATUS = stBusy → k ≠ 10 → v.get SAFETY_SEAL_CMD_STATUS = stFailed ∧ v.get SAFETY_SEAL_STAT_ERR = 6 ∧ v.mem = s.mem) ∧
    (s.get safBooted = 0 ∨ s.get safStrapRep = k → strapCheck k s = v) ∧
    (s.get safBooted ≠ 0 → s.get safStrapRep ≠ k → k ≠ s.get SAFETY_STAT_STRAP_BOOT → strapCheck k s = raiseFault 0x0608 .ride (v.set safStrapRep k)) ∧
    (s.get safBooted ≠ 0 → s.get safStrapRep ≠ k → k = s.get SAFETY_STAT_STRAP_BOOT → strapCheck k s = v.set safStrapRep k)) ∧
  (∀ (us v : BitVec 16) (s : State), v.toNat + s.get SAFETY_WD_KICK_TOKEN = 65535 → bits (sealed 4 s) 0 16 ≤ us.toNat → us.toNat ≤ bits (sealed 4 s) 16 16 →
    ∃ t, exec (.kick us v) s = .next t ∧ t.get SAFETY_WD_STAT_LAST = us.toNat ∧ t.get SAFETY_WD_KICK_TOKEN ≠ s.get SAFETY_WD_KICK_TOKEN ∧
      t.get SAFETY_WD_KICK_KICK = v.toNat ∧ t.get shdKickAt = s.now + 1 ∧ t.bus = ⟨false, 0⟩ ∧ t.mem = s.mem ∧ t.get SAFETY_STAT_DS = s.get SAFETY_STAT_DS) ∧
  (∀ (us v : BitVec 16) (s : State), v.toNat + s.get SAFETY_WD_KICK_TOKEN ≠ 65535 ∨ us.toNat < bits (sealed 4 s) 0 16 ∨ bits (sealed 4 s) 16 16 < us.toNat →
    exec (.kick us v) s = .next (shdWdFail (busOk (s.set SAFETY_WD_KICK_KICK v.toNat)))) ∧
  (∀ s : State,
    (s.get SHD_STAT_RUN ≠ 0 → s.get shdKickAt ≠ 0 →
      exec .watchdogExpiry s = .next (shdWdFail (s.set shdKickAt 0))) ∧
    (s.get SHD_STAT_RUN = 0 ∨ s.get shdKickAt = 0 → exec .watchdogExpiry s = .next s)) ∧
  (∀ s : State, (bitAt (sealed 5 (raiseFault 0x0601 .deviceSafe s)) 0 = false → shdWdFail s = raiseFault 0x0601 .deviceSafe s) ∧
    (bitAt (sealed 5 (raiseFault 0x0601 .deviceSafe s)) 0 = true → shdWdFail s = deviceReset 3 0 (raiseFault 0x0601 .deviceSafe s)))

/-- R307, R309, R310, R343: what sets the device-safe latch, the Sheepdog's command word, and the firmware's causes. A latch that is set keeps its
first cause; setting it takes every Stall that starts or runs into its safe state. R318 to R320: an STO input that becomes active holds its outputs
off at once; the holds end when both inputs are inactive, after an acknowledgement where the sealed block asks for one; the inputs may differ for
`STO_DISC` ms. Readings and choices of the model: log entries 48, 50. -/
def Obligations.DeviceSafeAndStoHold : Prop :=
  (∀ s : State, exec .shdSramUe s = .next (raiseFault 0x0603 .deviceSafe (s.set SHD_STAT_UE_SEEN 1)) ∧
    exec .dsReq s = .next (raiseFault 0x0604 .deviceSafe (busOk (s.set SAFETY_CTRL_DS_REQ 1)))) ∧
  (∀ (code : Nat) (s : State), code < 2 ^ 16 → s.get SAFETY_STAT_DS = 0 → let t := raiseFault code .deviceSafe s
    t.get SAFETY_STAT_DS = 1 ∧ t.get SAFETY_DS_CAUSE_CODE = code ∧ t.getWide SAFETY_DS_TB_LO_TB SAFETY_DS_TB_HI_TB = s.now ∧
    ∀ n < 4, t.get (PROT_STAT_DEV_SAFE n) = 1 ∧ (s.get (PWM_STAT_STATE n) = 1 ∨ s.get (PWM_STAT_STATE n) = 2 → t.get (PWM_STAT_STATE n) = 3)) ∧
  (∀ (code : Nat) (s : State), s.get SAFETY_STAT_DS ≠ 0 → code ≠ 0x0605 → code ≠ 0x0606 → setDeviceSafe code s = s) ∧
  (∀ (v : BitVec 8) (s : State), (∃ n < 4, bits v.toNat (2 * n) 2 = 3) → exec (.evShdCmd v) s = .next (busErr s)) ∧
  (∀ (v : BitVec 8) (s : State), s.get SAFETY_STAT_DS ≠ 0 → (∃ n < 4, bits v.toNat (2 * n) 2 < bits (s.get safDsFloor) (2 * n) 2) →
    exec (.evShdCmd v) s = .next (busErr s)) ∧
  (∀ (v : BitVec 8) (s : State), (∀ n < 4, bits v.toNat (2 * n) 2 ≠ 3) →
    (s.get SAFETY_STAT_DS = 0 ∨ ∀ n < 4, bits (s.get safDsFloor) (2 * n) 2 ≤ bits v.toNat (2 * n) 2) →
    exec (.evShdCmd v) s = .next (busOk (shdCommands v.toNat
      (s.each [0, 1, 2, 3] (fun n s => s.when (bits v.toNat (2 * n) 2 == 0) (fun s => s.set (safCmdKind n) 0)))))) ∧
  (∀ (v : Nat) (s : State), v < 256 → (∀ n < 4, s.get (PROT_STAT_SHD n) = bits (s.get SAFETY_STALL_CMD_KIND) (2 * n) 2) →
    let t := shdCommands v s
    t.get SAFETY_STALL_CMD_KIND = v ∧ ∀ n < 4, t.get (PROT_STAT_SHD n) = bits v (2 * n) 2 ∧
      (s.get (PROT_STAT_SHD n) = 0 → bits v (2 * n) 2 ≠ 0 → s.get (PWM_STAT_STATE n) = 1 ∨ s.get (PWM_STAT_STATE n) = 2 → t.get (PWM_STAT_STATE n) = 3)) ∧
  (∀ (c : BitVec 16) (s : State), (0x10 ≤ c.toNat → c.toNat ≤ 0x37 → exec (.safetyRaise c) s = .next (busOk (fwRaise c.toNat s))) ∧
    (c.toNat < 0x10 ∨ 0x37 < c.toNat → exec (.safetyRaise c) s = .next (busErr s))) ∧
  (∀ (c : Nat) (s : State), 0x10 ≤ c → c ≤ 0x37 → (fwRaise c s).get SAFETY_RAISE_CODE = c ∧ (fwRaise c s).get SHD_LAST_CODE = 0x0600 + c ∧
    (fwReaction c s = 1 ∨ fwReaction c s = 2 → (fwRaise c s).get (safCause ((c - 0x10) % 4)) = 1 ∧ (fwRaise c s).get (safAckd ((c - 0x10) % 4)) = 0)) ∧
  (∀ (i : Fin 2) (s : State), stoActive i s = true → exec (.evSto i) s = .next s) ∧
  (∀ (i : Fin 2) (s : State), stoActive i s = false → ∃ t, exec (.evSto i) s = .next t ∧ stoActive i t = true ∧ bitAt (t.get safStoHeld) i = true ∧
    t.get SAFETY_STO_STAT_HOLD = 1 ∧ t.get SAFETY_STO_STAT_SEEN = 1 ∧ t.get SAFETY_STO_STAT_ACK_NEED = 0 ∧
    ∀ n < 4, bitAt (s.get safStoMap) (8 * i + n) = true → t.get (PROT_STAT_STO n) = 1 ∧ t.get (PWM_LINES_LINE n) &&& 63 = 0 ∧
      (s.get (PWM_STAT_STATE n) = 1 ∨ s.get (PWM_STAT_STATE n) = 2 → t.get (PWM_STAT_STATE n) = 3)) ∧
  (∀ (n : Nat) (i : Nat) (s : State), n < 4 → i < 2 → bitAt (s.get safStoMap) (8 * i + n) = true → bitAt (s.get safStoHeld) i = true →
    wantedLines n (s.setB (PROT_STAT_STO n) (stoMapped n s)) = 0) ∧
  (∀ (i : Fin 2) (s : State), (stoActive i s = true → exec (.stoRise i) s = .next (stoTryEnd (stoInput i false s))) ∧
    (stoActive i s = false → exec (.stoRise i) s = .next s)) ∧
  (∀ (i : Nat) (b : Bool) (s : State), i < 2 → stoActive i (stoInput i b s) = b ∧ stoActive (1 - i) (stoInput i b s) = stoActive (1 - i) s) ∧
  (∀ s : State, (s.get safStoHeld = 0 ∨ stoActive 0 s = true ∨ stoActive 1 s = true ∨ s.get SAFETY_STO_STAT_DISC ≠ 0 →
      stoTryEnd s = s.set SAFETY_STO_STAT_ACK_NEED 0) ∧
    (s.get safStoHeld ≠ 0 → stoActive 0 s = false → stoActive 1 s = false → s.get SAFETY_STO_STAT_DISC = 0 →
      (stoRestart s = true ∨ s.get safDiscAck ≠ 0 → s.get safAckDone = 0 → stoTryEnd s = s.set SAFETY_STO_STAT_ACK_NEED 1) ∧
      ((stoRestart s = false ∧ s.get safDiscAck = 0) ∨ s.get safAckDone ≠ 0 → (stoTryEnd s).get safStoHeld = 0 ∧ (stoTryEnd s).get SAFETY_STO_STAT_HOLD = 0 ∧
        (stoTryEnd s).get SAFETY_STO_STAT_ACK_NEED = 0 ∧ ∀ n < 4, (stoTryEnd s).get (PROT_STAT_STO n) = 0))) ∧
  (∀ s : State,
    (s.get safOneAt ≠ 0 → s.get safOneAt - 1 + stoDisc s * 200000 ≤ s.now → s.get SAFETY_STO_STAT_DISC = 0 → ∃ t, exec .evStoDisc s = .next t ∧
      t.get SAFETY_STO_STAT_DISC = 1 ∧ t.get safDiscAck = 1 ∧
      ∀ n < 4, bitAt (s.get safStoMap) n = true ∨ bitAt (s.get safStoMap) (8 + n) = true → s.get (PWM_STAT_STATE n) = 1 ∨ s.get (PWM_STAT_STATE n) = 2 →
        t.get (PWM_STAT_STATE n) = 3) ∧
    (s.get safOneAt = 0 ∨ s.now < s.get safOneAt - 1 + stoDisc s * 200000 ∨ s.get SAFETY_STO_STAT_DISC ≠ 0 → exec .evStoDisc s = .next s)) ∧
  (∀ s : State, s.get SAFETY_STO_CMD_STATUS ≠ stBusy →
    (stoActive 0 s = false → stoActive 1 s = false → s.get SAFETY_STO_STAT_DISC = 0 →
      exec .stoAck s = .next (stoTryEnd ((s.cmdSet stoCmd 1 stDone).set safAckDone 1))) ∧
    (stoActive 0 s = true ∨ stoActive 1 s = true ∨ s.get SAFETY_STO_STAT_DISC ≠ 0 → exec .stoAck s = .next (s.cmdSet stoCmd 1 stRefused)))

/-- R311, R312, R321 to R324, R326: the commands and writes that the safety firmware answers. A refused safe stop names its reason; its commit
commands torque off to every Stall of the run; RESTART and an acknowledgement wait for the next cycle; a follower, or a Stall whose position is not
for safety use, enables no function. R316, R327 to R330: what the firmware's judgements find. A request record agrees where two of the three core
copies agree; a position outside its sealed limits violates SLP; a speed above the limit in two snapshots violates SLS; the reaction to a position
fault is the strongest of the active functions'. Readings and choices of the model: log entries 48, 49, 88, 89. -/
def Obligations.SafetyFunctionsJudge : Prop :=
  (∀ s : State, s.get SAFETY_SS1_CMD_STATUS ≠ stBusy → let r := ss1Reason (s.get SAFETY_SS1_CFG_MASK) s
    (r ≠ 0 → exec .ss1Run s = .next ((s.cmdSet ss1Cmd 1 stRefused).set SAFETY_SS1_STAT_ERR r)) ∧
    (r = 0 → ∃ t, exec .ss1Run s = .next t ∧ t.get SAFETY_SS1_STAT_PHASE = 1 ∧ t.get SAFETY_SS1_STAT_T_MS = 0 ∧ t.get SAFETY_SS1_STAT_ERR = 0 ∧
      t.get ss1Mask = s.get SAFETY_SS1_CFG_MASK ∧ t.get SAFETY_SS1_CMD_STATUS = stBusy ∧ t.mem = s.mem) ∧
    exec .ss1Restart s = .next (s.cmdSet ss1Cmd 2 stBusy)) ∧
  (∀ (m : Nat) (s : State), ss1Reason m s = 0 → m ≠ 0 ∧ s.get SAFETY_SS1_STAT_PHASE = 0 ∧ s.get SAFETY_STAT_DS = 0 ∧
    ∀ n < 4, bitAt m n = true → s.get (PWM_STAT_STATE n) = 2 ∧ s.get (PWM_CTRL_PAIR n) ≠ 2 ∧ s.get (POS_CTRL_SAFETY n) ≠ 0 ∧ s.get (POS_SPD_STAT_VALID n) ≠ 0) ∧
  (∀ s : State, (∀ n < 4, s.get (PROT_STAT_SHD n) = bits (s.get SAFETY_STALL_CMD_KIND) (2 * n) 2) → (ss1Commit s).get SAFETY_SS1_STAT_PHASE = 3 ∧
    (ss1Commit s).get SAFETY_SS1_STAT_HELD = s.get ss1Mask ∧ (ss1Commit s).getWide SAFETY_SS1_TB_LO_TB SAFETY_SS1_TB_HI_TB = s.now ∧
    ∀ n < 4, (ss1Commit s).get (PROT_STAT_SHD n) = if bitAt (s.get ss1Mask) n = true then 2 else s.get (PROT_STAT_SHD n)) ∧
  (∀ s : State, s.get SAFETY_SS1_CMD_STATUS = stBusy → s.get SAFETY_SS1_CMD_CODE = 2 →
    (ss1Runs s = true ∨ s.get SAFETY_SS1_STAT_HELD = 0 ∨ s.get SAFETY_STAT_DS ≠ 0 → ss1RestartCycle s = s.set SAFETY_SS1_CMD_STATUS stRefused) ∧
    (ss1Runs s = false → s.get SAFETY_SS1_STAT_HELD ≠ 0 → s.get SAFETY_STAT_DS = 0 → (∀ n < 4, s.get (safCmdKind n) = 0) →
      (∀ n < 4, s.get (PROT_STAT_SHD n) = bits (s.get SAFETY_STALL_CMD_KIND) (2 * n) 2) → (ss1RestartCycle s).get SAFETY_SS1_CMD_STATUS = stDone ∧
      (ss1RestartCycle s).get SAFETY_SS1_STAT_HELD = 0 ∧ (ss1RestartCycle s).get SAFETY_SS1_STAT_PHASE = 0 ∧
      ∀ n < 4, bitAt (s.get SAFETY_SS1_STAT_HELD) n = true → (ss1RestartCycle s).get (PROT_STAT_SHD n) = 0)) ∧
  (∀ (mask : BitVec 4) (s : State), s.get SAFETY_ACK_CMD_STATUS ≠ stBusy →
    (mask ≠ 0 → exec (.safetyAck mask) s = .next (s.cmdSet shdAckCmd mask.toNat stBusy)) ∧
    (mask = 0 → exec (.safetyAck mask) s = .next (s.cmdSet shdAckCmd 0 stRefused))) ∧
  (∀ s : State, s.get SAFETY_ACK_CMD_STATUS = stBusy → ((∃ n < 4, bitAt (s.get SAFETY_ACK_CMD_CODE) n = true ∧ s.get (safCause n) ≠ 0) →
      ackCycle s = s.set SAFETY_ACK_CMD_STATUS stRefused) ∧
    ((∀ n < 4, bitAt (s.get SAFETY_ACK_CMD_CODE) n = true → s.get (safCause n) = 0) → (ackCycle s).get SAFETY_ACK_CMD_STATUS = stDone ∧
      ∀ n < 4, bitAt (s.get SAFETY_ACK_CMD_CODE) n = true → (ackCycle s).get (safAckd n) = 1)) ∧
  (∀ (n : Fin 4) (v : BitVec 32) (s : State),
    (bits v.toNat 4 3 ≠ 0 → (s.get (PWM_CTRL_PAIR n) = 2 ∨ s.get (POS_CTRL_SAFETY n) = 0) → exec (.fnSelWrite n v) s = .next (busErr s)) ∧
    (bits v.toNat 4 3 = 0 ∨ (s.get (PWM_CTRL_PAIR n) ≠ 2 ∧ s.get (POS_CTRL_SAFETY n) ≠ 0) → ∃ t, exec (.fnSelWrite n v) s = .next t ∧ t.bus = ⟨false, 0⟩ ∧
      t.get (SAFETY_FN_SEL_n_SET n) = v.toNat % 4 ∧ t.get (SAFETY_FN_SEL_n_SLS_EN n) = bits v.toNat 4 1 ∧ t.get (SAFETY_FN_SEL_n_SDI_EN n) = bits v.toNat 5 1 ∧
      t.get (SAFETY_FN_SEL_n_SLP_EN n) = bits v.toNat 6 1 ∧ t.mem = s.mem)) ∧
  (∀ (n : Fin 4) (hi : BitVec 32) (s : State), ∃ t, exec (.windowApply n hi) s = .next t ∧ t.get (SAFETY_TQ_HI_n_HI n) = hi.toNat ∧
    t.get (SAFETY_TQ_LO_n_LO n) = heldOr s (SAFETY_TQ_LO_n_LO n).addr (s.get (SAFETY_TQ_LO_n_LO n)) % 2 ^ 32 ∧ t.get (SAFETY_TQ_AGE_n_AGE n) = 0 ∧
    t.bus = ⟨false, 0⟩ ∧ t.mem = s.mem) ∧
  (∀ (n i j : Nat) (s : State), i < j → j < 3 →
    (∀ c, c = i ∨ c = j → s.wordAt (0x10100000 + c * 0x100000 + sealed 6 s % 2 ^ 20 + 8 * n) = s.get (SAFETY_TQ_LO_n_LO n) ∧
      s.wordAt (0x10100000 + c * 0x100000 + sealed 6 s % 2 ^ 20 + 8 * n + 4) = s.get (SAFETY_TQ_HI_n_HI n)) → requestAgrees n s = true) ∧
  (∀ (n : Nat) (s : State), fnActive n 2 s = true → bitAt (sealed (fnSet n s + 7) s) 8 = false →
    (slpJudge n s = true ↔ snapTravel n s < travel48 (sealed (fnSet n s + 3) s) (sealed (fnSet n s + 4) s) ∨
      travel48 (sealed (fnSet n s + 5) s) (sealed (fnSet n s + 6) s) < snapTravel n s)) ∧
  (∀ (n : Nat) (s : State), fnActive n 2 s = true → bitAt (sealed (fnSet n s + 7) s) 8 = true →
    (slpJudge n s = true ↔ snapTravel n s - s.geti (fnRef n) < travel48 (sealed (fnSet n s + 3) s) (sealed (fnSet n s + 4) s) ∨
      travel48 (sealed (fnSet n s + 5) s) (sealed (fnSet n s + 6) s) < snapTravel n s - s.geti (fnRef n))) ∧
  (∀ (n : Nat) (s : State), fnActive n 2 s = false → slpJudge n s = false) ∧
  (∀ (n : Nat) (s : State), let w := sealed (fnSet n s + 2) s
    (fnActive n 1 s = false ∨ w % 4 = 0 → sdiJudge n s = (false, s)) ∧
    (fnActive n 1 s = true → w % 4 = 2 → (sdiJudge n s).1 = decide (((w / 256 : Nat) : Int) < snapTravel n s - s.geti (fnFar n))) ∧
    (fnActive n 1 s = true → w % 4 = 1 → (sdiJudge n s).1 = decide (((w / 256 : Nat) : Int) < s.geti (fnFar n) - snapTravel n s))) ∧
  (∀ (n : Nat) (s : State), fnActive n 0 s = false → (slsJudge n s).1 = false ∧ (slsJudge n s).2 = s.set (fnSlsRun n) 0) ∧
  (∀ (n : Nat) (s : State), (slsJudge n s).1 = true → s.get (fnSlsRun n) ≠ 0 ∧ F32.lt (sealedF (fnSet n s) s) (F32.abs (snapF n 5 s)) = true) ∧
  (∀ (n f : Nat) (s : State), f < 3 → fnActive n f s = true → (fnReaction n f s = 2 → posReaction n s = 2) ∧
    (fnReaction n f s = 1 → (∀ g < 3, fnActive n g s = true → fnReaction n g s ≠ 2) → posReaction n s = 1) ∧
    (fnReaction n f s = 3 → (∀ g < 3, fnActive n g s = true → fnReaction n g s = 0 ∨ fnReaction n g s = 3) → posReaction n s = 3))

/-- R331 to R333: a contactor is commanded closed only while `CLOSE` asks for it, no request has forced it open and the scan does not drive the
pins; a request that lasts `OPEN_DLY` forces the masked contactors open. Readings and choices of the model: log entry 51. -/
def Obligations.ContactorsOpenWhenForced : Prop :=
  (∀ (v : BitVec 4) (s : State), ∃ t, exec (.ctcCloseWrite v) s = .next t ∧ t.get CTC_CTRL_CLOSE = v.toNat ∧ t.bus = ⟨false, 0⟩ ∧ t.mem = s.mem ∧
    (∀ k < 4, bitAt (t.get CTC_STAT_OUT) k = (bitAt v.toNat k && !bitAt (t.get CTC_STAT_FORCED) k && !s.flag extestOn)) ∧
    (ctcRequested s = true → t.get CTC_STAT_FORCED = s.get CTC_STAT_FORCED)) ∧
  (∀ s : State, (∀ i < 5, s.get (ctcReqAt i) = 0 ∨ s.now < s.get (ctcReqAt i) - 1 + openDly s * 200000) → exec .ctcForceOpen s = .next s) ∧
  (∀ (i : Nat) (s : State), i < 5 → s.get (ctcReqAt i) ≠ 0 → s.get (ctcReqAt i) - 1 + openDly s * 200000 ≤ s.now → ∃ t, exec .ctcForceOpen s = .next t ∧
    (∀ k < 4, bitAt (openMask s) k = true → bitAt (t.get CTC_STAT_OUT) k = false ∧ bitAt (t.get CTC_STAT_FORCED) k = true) ∧ t.mem = s.mem) ∧
  (∀ (fb : BitVec 4) (s : State), exec (.evCtcFault fb) s = .next (disCheck
    (((s.set CTC_STAT_FB fb.toNat).set CTC_STAT_MAIN (15 - fb.toNat)).each [0, 1, 2, 3] ctcJudge))) ∧
  (∀ (k : Nat) (s : State), k < 4 → bitAt (s.get CTC_STAT_OUT) k = bitAt (s.get CTC_STAT_MAIN) k → (ctcJudge k s).get (ctcBad k) = 0 ∧
    (ctcJudge k s).get CTC_FAULT_WELD = s.get CTC_FAULT_WELD) ∧
  (∀ (k : Nat) (s : State), k < 4 → bitAt (s.get CTC_STAT_OUT) k = false → bitAt (s.get CTC_STAT_MAIN) k = true → s.get (ctcBad k) = 0 →
    s.get (ctcCmdAt k) + ctcTfb s * 200000 ≤ s.now → ctcJudge k s = raiseFault (0x0680 + 8 * k) (if s.get (ctcByForce k) ≠ 0 then .deviceSafe else .ride)
      (raiseEvent 0x037 ((s.setBit CTC_FAULT_WELD k true).set (ctcBad k) 1))) ∧
  (∀ (k : Nat) (s : State), k < 4 → bitAt (s.get CTC_STAT_OUT) k = true → bitAt (s.get CTC_STAT_MAIN) k = false → s.get (ctcBad k) = 0 →
    s.get (ctcCmdAt k) + ctcTfb s * 200000 ≤ s.now →
    (s.get (ctcWas k) = 0 → ctcJudge k s = raiseFault (0x0681 + 8 * k) .ride (raiseEvent 0x037 ((s.setBit CTC_FAULT_NOCLOSE k true).set (ctcBad k) 1))) ∧
    (s.get (ctcWas k) ≠ 0 → ctcJudge k s = raiseFault (0x0682 + 8 * k) .ride (raiseEvent 0x037 ((s.setBit CTC_FAULT_OPENED k true).set (ctcBad k) 1)))) ∧
  (∀ (k : Nat) (s : State), k < 4 → bitAt (s.get CTC_STAT_OUT) k ≠ bitAt (s.get CTC_STAT_MAIN) k →
    s.get (ctcBad k) ≠ 0 ∨ s.now < s.get (ctcCmdAt k) + ctcTfb s * 200000 → ctcJudge k s = s)

/-- R335 to R338: SEAL is refused with the wrong straps, while a Stall or an AUX unit works, and from casks that are not the writer's; a content
that breaks the layout fails with its first bad word; else the other copy is written, and its seal word last. A copy is valid only with its header
and its CRC. Readings and choices of the model: log entries 52, 64. -/
def Obligations.SealedBlockChecked : Prop :=
  (∀ (who : Req) (s : State), (who = .d → s.get BIST_DBG_LEVEL = 2) → s.get SAFETY_SEAL_CMD_STATUS ≠ stBusy → sealReason who s ≠ 0 →
    exec (.sealCmd who) s = .next (((debugSeen who s).cmdSet sealCmdReg 1 stRefused).set SAFETY_SEAL_STAT_ERR (sealReason who s))) ∧
  (∀ (who : Req) (s : State), (s.get SAFETY_STAT_STRAP ≠ 10 → sealReason who s = 1) ∧
    (s.get SAFETY_STAT_STRAP = 10 → stageIdle s = false → sealReason who s = 2) ∧
    (s.get SAFETY_STAT_STRAP = 10 → stageIdle s = true → (∃ k < 8, caskOwner s (s.get SAFETY_SEAL_SRC_CASK + k) ≠ reqUser who) → sealReason who s = 3)) ∧
  (∀ (who : Req) (s : State), who ≠ .d → s.get SAFETY_SEAL_CMD_STATUS ≠ stBusy → sealReason who s = 0 →
    let a := caskBase (s.get SAFETY_SEAL_SRC_CASK)
    (∀ i, sealBad (fun i => s.wordAt (a + 4 * i)) = some i → ∃ t, exec (.sealCmd who) s = .next t ∧ t.get SAFETY_SEAL_CMD_STATUS = stFailed ∧
      t.get SAFETY_SEAL_STAT_ERR = 4 ∧ t.get SAFETY_SEAL_STAT_WORD = i % 2 ^ (SAFETY_SEAL_STAT_WORD).width ∧ t.mem = s.mem) ∧
    (sealBad (fun i => s.wordAt (a + 4 * i)) = none → exec (.sealCmd who) s =
      .next ((s.cmdSet sealCmdReg 1 stBusy).putWords (sealBase (sealTarget s)) (s.wordsAt a 8190 ++ [sealSeq s, 0xFFFFFFFF])))) ∧
  (∀ s : State, s.get SAFETY_SEAL_CMD_STATUS = stBusy →
    (∃ w : Nat, exec (.evSealDone false) s =
      .next ((((s.set SAFETY_SEAL_STAT_ERR 5).set SAFETY_SEAL_STAT_WORD w).draw).set SAFETY_SEAL_CMD_STATUS stFailed)) ∧
    ∃ t, exec (.evSealDone true) s = .next (raiseEvent 0x039 t) ∧ t.get SAFETY_SEAL_CMD_STATUS = stDone ∧ t.get SAFETY_STAT_VALID = 1 ∧
      t.get SAFETY_STAT_COPY = sealTarget s ∧ t.get SAFETY_SEQ_SEQ = sealSeq s ∧
      t.wordAt (sealBase (sealTarget s) + 32764) = crc32Words (s.wordsAt (sealBase (sealTarget s)) 8191) % 2 ^ 32 ∧
      (∀ b, b < sealBase (sealTarget s) + 32764 ∨ sealBase (sealTarget s) + 32768 ≤ b → t.byteAt b = s.byteAt b)) ∧
  (∀ (good : Bool) (s : State), s.get SAFETY_SEAL_CMD_STATUS ≠ stBusy → exec (.evSealDone good) s = .next s) ∧
  (∀ (c : Nat) (s : State), sealValid c s = false → sealPick s ≠ some c) ∧
  (∀ s : State, sealReason .d s ≠ 0 ∧ (s.get BIST_DBG_LEVEL ≠ 2 → exec (.sealCmd .d) s = .next (violation 3 0x400680B0 true (debugSeen .d s))))

/-- R346, R349 to R351, R353, R363: the voter. A first copy waits; a second core's identical copy is issued at once, and in three-core operation the
third core then owes the same transaction. In two-core operation copies that differ stop the Yoke. Accesses of a core to its own SRAM stay inside
the core; a core out of service, a stopped Yoke and, under broken lock-step, every core but Y0 reach nothing. Readings and choices of the model: log
entries 54, 91. -/
def Obligations.VoterIssuesTwoOfThree : Prop :=
  (∀ (c : Fin 3) (t : Txn) (lag : BitVec 16) (ce : BitVec 8) (s : State), s.get YOKE_STAT_MODE = 0 → s.get YOKE_STAT_LOCKSTEP_BROKEN = 0 →
    (t.addr.toNat < 0x10000000 ∨ 0x10100000 ≤ t.addr.toNat) → (t.kind = .write → t.addr.toNat ≠ 0x40048028) → coreMay c s = true → lagOk c lag.toNat s = true → s.yokeOwed = [] →
    let x := comparedTxn t
    (s.yokeBuf = [] → ∃ u, exec (.yokeTransaction c t lag ce) s = .next u ∧ u.yokeBuf = [⟨c, x, s.now, none⟩] ∧ u.yokeOwed = [] ∧ u.mem = s.mem ∧ u.bus = s.bus ∧
      u.get YOKE_BUF_B0 = (decide (c.val = 0)).toNat ∧ u.get YOKE_BUF_B1 = (decide (c.val = 1)).toNat ∧ u.get YOKE_BUF_B2 = (decide (c.val = 2)).toNat) ∧
    (∀ (a : Nat) (at_ : Nat), a < 3 → a ≠ c → s.yokeBuf = [⟨a, x, at_, none⟩] → ∃ u, exec (.yokeTransaction c t lag ce) s = .next (issueAll x u) ∧
      u.yokeBuf = [] ∧ u.yokeOwed = [⟨3 - a - c, x, s.now, none⟩] ∧ u.mem = s.mem ∧ u.bus = s.bus ∧ u.get YOKE_STAT_MODE = 0)) ∧
  (∀ (c : Fin 3) (t o : Txn) (lag : BitVec 16) (ce : BitVec 8) (s : State), s.get YOKE_STAT_MODE = 1 ∨ s.get YOKE_STAT_MODE = 2 → s.get YOKE_STAT_LOCKSTEP_BROKEN = 0 →
    s.get YOKE_STAT_MARKED < 3 → s.get YOKE_STAT_MARKED ≠ c → (t.addr.toNat < 0x10000000 ∨ 0x10100000 ≤ t.addr.toNat) → (t.kind = .write → t.addr.toNat ≠ 0x40048028) →
    coreMay c s = true → lagOk c lag.toNat s = true → s.yokeOwed = [] →
    ∀ at_ : Nat, s.yokeBuf = [⟨3 - s.get YOKE_STAT_MARKED - c, o, at_, none⟩] → let x := comparedTxn t
    (o = x → ∃ u, exec (.yokeTransaction c t lag ce) s = .next (issueAll x u) ∧ u.yokeBuf = [] ∧ u.yokeOwed = [] ∧ u.mem = s.mem) ∧
    (o ≠ x → let f := decide (c.val < 3 - s.get YOKE_STAT_MARKED - c)
      ∃ u, exec (.yokeTransaction c t lag ce) s = .next (bufUpdate (voteImpossible 3 (if f then diffKind x o else diffKind o x) (if f then x else o).addr.toNat u)) ∧
        u.mem = s.mem ∧ u.get YOKE_STAT_MODE = s.get YOKE_STAT_MODE)) ∧
  (∀ (c : Fin 3) (t o : Txn) (at_ : Nat) (r : Option Resp) (s : State), s.get YOKE_STAT_MODE ≠ 3 → (inService s).contains c.val = true → s.get YOKE_STAT_LOCKSTEP_BROKEN = 0 →
    s.yokeOwed = [⟨c, o, at_, r⟩] → let u : State := { s with yokeOwed := [] }
    (o = comparedTxn t → present c t s = (none, { u with bus := r.getD s.bus })) ∧
    (o ≠ comparedTxn t → present c t s = (none, bufUpdate (vote (disagree c (diffKind o (comparedTxn t)) t.addr.toNat u)).2))) ∧
  (∀ t : Txn, (t.kind = .read → comparedTxn t = { t with data := 0 }) ∧ (t.kind ≠ .read → comparedTxn t = t)) ∧
  (∀ (c : Fin 3) (t : Txn) (lag : BitVec 16) (ce : BitVec 8) (s : State), 0x10000000 ≤ t.addr.toNat → t.addr.toNat < 0x10100000 → t.kind = .read → coreMay c s = true →
    lagOk c lag.toNat s = true → let d := if c.val = (runningCores s).headD 0 then 0 else lag.toNat
    ∃ u, exec (.yokeTransaction c t lag ce) s = .next u ∧ u.bus = ⟨false, BitVec.ofNat 64 (ofBytes (memTake s.mem (coreBase c + (t.addr.toNat - 0x10000000)) t.size.toNat))⟩ ∧
      u.yokeBuf = s.yokeBuf ∧ u.mem = s.mem ∧ bits (u.get YOKE_SRAM_CE_CE) (8 * c) 8 = min 255 (bits (s.get YOKE_SRAM_CE_CE) (8 * c) 8 + ce.toNat) ∧
      u.get YOKE_LAG_LAG1 = (if c.val = 1 then d else s.get YOKE_LAG_LAG1) ∧ u.get YOKE_LAG_LAG2 = (if c.val = 2 then d else s.get YOKE_LAG_LAG2)) ∧
  (∀ (c : Fin 3) (t : Txn) (lag : BitVec 16) (ce : BitVec 8) (s : State), 0x10000000 ≤ t.addr.toNat → t.addr.toNat < 0x10100000 → t.kind = .write → coreMay c s = true →
    lagOk c lag.toNat s = true → ∃ u, exec (.yokeTransaction c t lag ce) s = .next u ∧ u.bus = ⟨false, 0⟩ ∧ u.yokeBuf = s.yokeBuf ∧
      (∀ i < t.size.toNat, u.byteAt (coreBase c + (t.addr.toNat - 0x10000000) + i) = t.data.toNat / 256 ^ i % 256) ∧
      ∀ b, (b < coreBase c + (t.addr.toNat - 0x10000000) ∨ coreBase c + (t.addr.toNat - 0x10000000) + t.size.toNat ≤ b) → u.byteAt b = s.byteAt b) ∧
  (∀ (c : Fin 3) (t : Txn) (lag : BitVec 16) (ce : BitVec 8) (s : State), coreMay c s = false ∨ lagOk c lag.toNat s = false →
    exec (.yokeTransaction c t lag ce) s = .next s) ∧
  (∀ (c : Nat) (s : State), c < 3 → (s.get YOKE_STAT_MODE = 3 ∨ (s.get YOKE_STAT_LOCKSTEP_BROKEN ≠ 0 ∧ c ≠ 0) ∨ (s.get YOKE_STAT_MODE = 2 ∧ s.get YOKE_STAT_MARKED = c) ∨
    16 ≤ bufCount c s → coreMay c s = false) ∧
    (s.get YOKE_STAT_MODE = 0 → s.get YOKE_STAT_LOCKSTEP_BROKEN = 0 → bufCount c s < 16 → s.get yokeIntN ≤ s.get (yokeInts c) → coreMay c s = true)) ∧
  (∀ (c lag : Nat) (s : State), c < 3 → s.get YOKE_STAT_MODE = 0 → s.get YOKE_STAT_LOCKSTEP_BROKEN = 0 →
    (lagOk c lag s = true ↔ c * s.get YOKE_CTRL_STAGGER ≤ lag)) ∧
  (∀ (c : Fin 3) (t : Txn) (lag : BitVec 16) (ce : BitVec 8) (s : State), (t.addr.toNat < 0x10000000 ∨ 0x10100000 ≤ t.addr.toNat) → (t.kind = .write → t.addr.toNat ≠ 0x40048028) →
    coreMay c s = true → lagOk c lag.toNat s = true → s.get YOKE_STAT_MODE = 1 → s.get YOKE_STAT_MARKED = c → s.get YOKE_STAT_LOCKSTEP_BROKEN = 0 →
    ∃ u, exec (.yokeTransaction c t lag ce) s = .next u ∧ u.mem = s.mem ∧ u.bus = s.bus ∧ u.yokeBuf = s.yokeBuf ∧ u.yokeOwed = s.yokeOwed ∧
      u.get YOKE_STAT_MODE = s.get YOKE_STAT_MODE) ∧
  (∀ (t : Txn) (lag : BitVec 16) (ce : BitVec 8) (s : State), (t.addr.toNat < 0x10000000 ∨ 0x10100000 ≤ t.addr.toNat) → (t.kind = .write → t.addr.toNat ≠ 0x40048028) →
    coreMay 0 s = true → s.get YOKE_STAT_LOCKSTEP_BROKEN = 1 → (∀ e ∈ s.yokeOwed, e.core ≠ 0) →
    ∃ u, exec (.yokeTransaction 0 t lag ce) s = .next (issueAll (comparedTxn t) u) ∧ u.mem = s.mem ∧ u.yokeBuf = s.yokeBuf) ∧
  (∀ (c : Fin 3) (t : Txn) (lag : BitVec 16) (ce : BitVec 8) (s : State), t.kind = .write → t.addr.toNat = 0x40048028 → coreMay c s = true →
    lagOk c lag.toNat s = true →
    ((runningCores s).contains c.val = true → ∃ u, exec (.yokeTransaction c t lag ce) s = .next (presentSig c (Config.coreDigest (s.get (yokeSeq c))) u) ∧
      u.mem = s.mem ∧ u.yokeBuf = s.yokeBuf ∧ u.yokeOwed = s.yokeOwed ∧ u.get (yokeCrc c) = s.get (yokeCrc c) ∧ u.get YOKE_STAT_MODE = s.get YOKE_STAT_MODE) ∧
    ((runningCores s).contains c.val = false → ∃ u, exec (.yokeTransaction c t lag ce) s = .next u ∧ u.mem = s.mem ∧ u.yokeBuf = s.yokeBuf ∧ u.bus = s.bus)) ∧
  (∀ (t : Txn) (s : State), let u := issue t s
    issueAll t s = { u with yokeOwed := u.yokeOwed.map (fun e => { e with resp := some (e.resp.getD u.bus) }) } ∧
    (t.kind = .read → u = busRead .y t.addr.toNat t.size.toNat s) ∧ (t.kind = .write → u = sizedWrite .y t.addr.toNat t.size.toNat t.data.toNat s) ∧
    (t.kind = .sig → u = s.set YOKE_SIG_REQ_SIG t.data.toNat)) ∧
  (∀ (e f : YokeCopy) (s : State), s.get YOKE_STAT_MODE = 1 → s.yokeBuf = [e, f] → s.get YOKE_STAT_MARKED < 3 → e.core < f.core → f.core < 3 → e.core ≠ s.get YOKE_STAT_MARKED → f.core ≠ s.get YOKE_STAT_MARKED →
    (e.txn = f.txn → vote s = (some e.txn, { s with yokeBuf := [] })) ∧
    (e.txn ≠ f.txn → vote s = (none, voteImpossible 3 (diffKind e.txn f.txn) e.txn.addr.toNat s))) ∧
  (∀ (s : State), s.yokeBuf.length ≤ 1 → vote s = (none, s)) ∧
  (∀ (c kind cause addr : Nat) (s : State), c < 3 → (∀ e ∈ (markCore c kind cause addr s).yokeBuf, e.core ≠ c) ∧
    (∀ e ∈ (markCore c kind cause addr s).yokeOwed, e.core ≠ c)) ∧
  (∀ (c kind addr : Nat) (s : State), c < 4 → kind < 8 → let u := disRecord c kind addr s
    u.get YOKE_DIS_INFO_CORE = c ∧ u.get YOKE_DIS_INFO_KIND = kind ∧ u.get YOKE_DIS_ADDR_ADDR = addr % 2 ^ 32 ∧ u.get YOKE_DIS_INFO_ADDR_HI = addr / 2 ^ 32 % 256 ∧
    u.getWide YOKE_DIS_TB_LO_TB YOKE_DIS_TB_HI_TB = s.now ∧ u.get YOKE_COUNT_DISAGREE = clampU YOKE_COUNT_DISAGREE.width (s.get YOKE_COUNT_DISAGREE + 1) ∧ u.mem = s.mem) ∧
  (∀ (c kind addr : Nat) (s : State),
    (s.get YOKE_STAT_MODE = 0 → disagree c kind addr s = markCore c kind (1 + c) addr s) ∧ (s.get YOKE_STAT_MODE ≠ 0 → disagree c kind addr s = voteImpossible 3 kind addr s) ∧
    (let u := (disRecord c kind addr s).set YOKE_STAT_MODE 3
    voteImpossible c kind addr s = raiseFault 0x0408 .deviceSafe
      (if u.get YOKE_CMD_STATUS = stBusy then u.cmdEnd yokeCmd (if s.get yokeRsLate ≠ 0 then stTooLate else stFailed) else u))) ∧
  (∀ (c kind cause addr : Nat) (s : State), let u := disRecord c kind addr s
    let v : State := { u with yokeBuf := u.yokeBuf.filter (fun e => e.core != c), yokeOwed := u.yokeOwed.filter (fun e => e.core != c) }
    let w := raiseFault (0x0400 + cause) .ride (raiseEvent 0x018 (bufUpdate ((v.set YOKE_STAT_MODE 1).set YOKE_STAT_MARKED c)))
    (w.get (yokeResyncAt c) = 0 ∨ w.get (yokeResyncAt c) - 1 + w.get YOKE_CTRL_REMARK * 20000000 ≤ w.now → markCore c kind cause addr s = w) ∧
    (w.get (yokeResyncAt c) ≠ 0 → w.now < w.get (yokeResyncAt c) - 1 + w.get YOKE_CTRL_REMARK * 20000000 →
      markCore c kind cause addr s = raiseFault 0x040A .ride (w.setBit YOKE_STAT_FAILED c true)))

/-- R351 to R353, R355, R356: timeouts, uncorrectable errors, signatures and interrupt entries. In two-core operation a disagreement stops the Yoke.
R358 to R364: resynchronisation, the watchdog, and broken lock-step. After a good resynchronisation all three cores are in service again. How long
its steps 1 to 3 take is the model's choice (log entry 90). Readings and choices of the model: log entries 53, 54, 55, 90, 91. -/
def Obligations.YokeCoresMarkedAndResynced : Prop :=
  (∀ (e : YokeCopy) (s : State), s.get YOKE_STAT_MODE ≠ 3 → s.get YOKE_STAT_LOCKSTEP_BROKEN = 0 → s.yokeOwed = [e] → e.since + s.get YOKE_TMO_TMO ≤ s.now → let u : State := { s with yokeOwed := [] }
    exec .voteTimeout s = .next (bufUpdate (vote (disagree e.core 4 e.txn.addr.toNat u)).2)) ∧
  (∀ (e : YokeCopy) (s : State), s.get YOKE_STAT_MODE ≠ 3 → s.get YOKE_STAT_LOCKSTEP_BROKEN = 0 → s.yokeOwed = [] → s.yokeBuf = [e] → e.since + s.get YOKE_TMO_TMO ≤ s.now →
    exec .voteTimeout s = .next (voteImpossible 3 4 e.txn.addr.toNat s)) ∧
  (∀ s : State, s.get YOKE_STAT_MODE = 3 ∨ s.get YOKE_STAT_LOCKSTEP_BROKEN ≠ 0 ∨ ((∀ e ∈ s.yokeOwed, s.now < e.since + s.get YOKE_TMO_TMO) ∧ ∀ e ∈ s.yokeBuf, s.now < e.since + s.get YOKE_TMO_TMO) →
    exec .voteTimeout s = .next s) ∧
  (∀ (c : Fin 3) (a : BitVec 20) (s : State),
    (s.get YOKE_STAT_MODE = 0 → exec (.yokeSramUe c a) s = .next (bufUpdate (vote (markCore c 5 (5 + c) (0x10000000 + a.toNat) s)).2)) ∧
    (s.get YOKE_STAT_MODE = 1 ∨ s.get YOKE_STAT_MODE = 2 → s.get YOKE_STAT_MARKED ≠ c → exec (.yokeSramUe c a) s = .next (voteImpossible c 5 (0x10000000 + a.toNat) s)) ∧
    (s.get YOKE_STAT_MODE = 3 ∨ (s.get YOKE_STAT_MODE ≠ 0 ∧ s.get YOKE_STAT_MARKED = c) → exec (.yokeSramUe c a) s = .next s)) ∧
  (∀ (c : Fin 3) (d : BitVec 32) (s : State),
    (maySign c s = true → exec (.sigReq c d) s = .next (presentSig c d s)) ∧ (maySign c s = false → exec (.sigReq c d) s = .next s) ∧
    (maySign c s = true ↔ (runningCores s).contains c.val = true ∧ coreMay c s = true) ∧
    (maySign c s = true → s.get YOKE_STAT_MODE = 0 → s.get YOKE_STAT_LOCKSTEP_BROKEN = 0 → s.yokeOwed = [] →
      let t : Txn := ⟨.sig, 0x0040048028#40, 4, Config.signature (BitVec.ofNat 32 (s.get (yokeCrc c))) d⟩
      (s.yokeBuf = [] → ∃ u, exec (.sigReq c d) s = .next u ∧ u.yokeBuf = [⟨c, t, s.now, none⟩] ∧ u.get (yokeCrc c) = 0xFFFFFFFF ∧ u.mem = s.mem ∧
        u.get YOKE_SIG_REQ_SIG = s.get YOKE_SIG_REQ_SIG) ∧
      (∀ a at_ : Nat, a < 3 → a ≠ c → s.yokeBuf = [⟨a, t, at_, none⟩] → ∃ u, exec (.sigReq c d) s = .next u ∧ u.yokeBuf = [] ∧
        u.yokeOwed = [⟨3 - a - c, t, s.now, none⟩] ∧ u.get (yokeCrc c) = 0xFFFFFFFF ∧ u.mem = s.mem ∧ u.get YOKE_SIG_REQ_SIG = t.data.toNat))) ∧
  (∀ (c : Fin 3) (d : BitVec 32) (s : State), (runningCores s).contains c.val = true → coreStops c s = false →
    let i := s.get (yokeInts c)
    (s.get yokeIntN ≤ i → c.val = (runningCores s).headD 0 → irqPending s = true →
      exec (.interruptEntry c d) s = .next (presentSig c d ((intRecord c s).set (yokeInts c) (i + 1)))) ∧
    (i < s.get yokeIntN → s.get (yokeSeq c) = s.get (yokeIntK (i % 2 ^ 18)) → exec (.interruptEntry c d) s = .next (presentSig c d (s.set (yokeInts c) (i + 1)))) ∧
    (s.get yokeIntN ≤ i → c.val ≠ (runningCores s).headD 0 ∨ irqPending s = false → exec (.interruptEntry c d) s = .next s) ∧
    (i < s.get yokeIntN → s.get (yokeSeq c) ≠ s.get (yokeIntK (i % 2 ^ 18)) → exec (.interruptEntry c d) s = .next s)) ∧
  (∀ (c : Fin 3) (d : BitVec 32) (s : State), (runningCores s).contains c.val = false ∨ coreStops c s = true → exec (.interruptEntry c d) s = .next s) ∧
  (∀ (c : Nat) (s : State), intRecord c s = (s.set (yokeIntK (s.get yokeIntN % 2 ^ 18)) (s.get (yokeSeq c))).set yokeIntN (s.get yokeIntN + 1) ∧
    (irqPending s = true ↔ s.get YOKE_IRQ_ID_ID ≠ 64 ∨ s.getWide YOKE_TIMECMP_LO_CMP YOKE_TIMECMP_HI_CMP ≤ s.now)) ∧
  (∀ (c : Nat) (s : State), s.get YOKE_STAT_MODE = 2 → s.get yokeRsDur ≤ s.now - s.get yokeRsAt → coreBehind c s = false → coreStops c s = true) ∧
  (∀ s : State, s.get YOKE_CMD_STATUS ≠ stBusy →
    (resyncOk s = true → exec .resync s = .next (resyncStart (s.cmdSet yokeCmd 1 stBusy))) ∧
    (resyncOk s = false → exec .resync s = .next (s.cmdSet yokeCmd 1 stRefused))) ∧
  (∀ s : State, (resyncOk s = true ↔ s.get YOKE_STAT_MODE = 1 ∧ bitAt (s.get YOKE_STAT_FAILED) (s.get YOKE_STAT_MARKED) = false ∧ s.get YOKE_STAT_LOCKSTEP_BROKEN = 0) ∧
    (resyncStart s).get YOKE_STAT_MODE = 2 ∧ (resyncStart s).get YOKE_RESYNC_STAT_WORDS = 0 ∧ (resyncStart s).get yokeRsAt = s.now ∧ (resyncStart s).get yokeRsLate = 0 ∧
    140000 ≤ (resyncStart s).get yokeRsDur ∧ (resyncStart s).get yokeRsDur ≤ 800400 ∧ (resyncStart s).mem = s.mem) ∧
  (∀ s : State, (s.get YOKE_CTRL_AUTO ≠ 0 → resyncOk s = true → s.getWide YOKE_DIS_TB_LO_TB YOKE_DIS_TB_HI_TB + 200000 ≤ s.now →
      exec .autoResync s = .next (resyncStart s)) ∧
    (s.get YOKE_CTRL_AUTO = 0 ∨ resyncOk s = false ∨ s.now < s.getWide YOKE_DIS_TB_LO_TB YOKE_DIS_TB_HI_TB + 200000 → exec .autoResync s = .next s)) ∧
  (∀ (p : BitVec 16) (g : Bool) (s : State), s.get YOKE_STAT_MODE ≠ 2 ∨ resyncAge s < s.get yokeRsDur + 70 ∨ resyncDrained s = false →
    exec (.evYokeResync p g) s = .next s) ∧
  (∀ s : State, resyncDrained s = true ↔ s.yokeBuf = [] ∧ s.yokeOwed = [] ∧ ∀ c ∈ inService s, coreBehind c s = false) ∧
  (∀ (p : BitVec 16) (s : State), s.get YOKE_STAT_MODE = 2 → s.get yokeRsDur + 70 ≤ resyncAge s → resyncDrained s = true →
    ∃ u, exec (.evYokeResync p true) s = .next (raiseEvent 0x019 u) ∧
    u.get YOKE_STAT_MODE = 0 ∧ u.get YOKE_STAT_MARKED = 3 ∧ u.get YOKE_RESYNC_STAT_PAUSE = min 650 p.toNat ∧ u.get YOKE_RESYNC_STAT_WORDS = 32768 ∧ inService u = [0, 1, 2] ∧
    u.get YOKE_COUNT_RESYNCS = clampU YOKE_COUNT_RESYNCS.width (s.get YOKE_COUNT_RESYNCS + 1) ∧
    (s.get YOKE_CMD_STATUS = stBusy → u.get YOKE_CMD_STATUS = if s.get yokeRsLate ≠ 0 then stTooLate else stDone)) ∧
  (∀ (p : BitVec 16) (s : State), s.get YOKE_STAT_MODE = 2 → s.get yokeRsDur + 70 ≤ resyncAge s → resyncDrained s = true →
    ∃ u, exec (.evYokeResync p false) s = .next (raiseFault 0x040B .ride u) ∧
    u.get YOKE_STAT_MODE = 1 ∧ u.get YOKE_STAT_MARKED = s.get YOKE_STAT_MARKED ∧ u.get YOKE_RESYNC_STAT_PAUSE = min 650 p.toNat ∧
    (s.get YOKE_CMD_STATUS = stBusy → u.get YOKE_CMD_STATUS = stFailed)) ∧
  (∀ (p : BitVec 16) (good : Bool) (s : State), s.Inv → s.get YOKE_STAT_MODE = 2 → s.get yokeRsDur + 70 ≤ resyncAge s → resyncDrained s = true → s.get YOKE_STAT_MARKED < 3 →
    ∃ t, exec (.evYokeResync p good) s = .next t ∧
    (∀ i < 0x100000, t.byteAt (coreBase (s.get YOKE_STAT_MARKED) + i) = s.byteAt (coreBase ((inService s).headD 0) + i)) ∧
    (∀ b, b < 0x20000000 → (b < coreBase (s.get YOKE_STAT_MARKED) ∨ coreBase (s.get YOKE_STAT_MARKED) + 0x100000 ≤ b) → t.byteAt b = s.byteAt b)) ∧
  (∀ s : State, resyncAge s = s.now - s.get yokeRsAt ∧ (s.get YOKE_STAT_MODE ≠ 2 → resyncTick s = s) ∧
    (s.get YOKE_STAT_MODE = 2 → resyncTick s = s.set YOKE_RESYNC_STAT_WORDS (min 32768 (resyncAge s * 32768 / s.get yokeRsDur)))) ∧
  (∀ s : State, (resyncAge s < s.get yokeRsDur → resyncAbort s = (s.set YOKE_STAT_MODE 1).cmdEnd yokeCmd stAborted) ∧
    (s.get yokeRsDur ≤ resyncAge s → resyncAbort s = s.set yokeRsLate 1)) ∧
  (∀ (v : BitVec 16) (s : State), let d := s.now - s.get yokeWdAt
    (s.get YOKE_STAT_MODE ≠ 3 → v.toNat + s.get YOKE_WD_KICK_TOKEN = 65535 → s.get YOKE_WD_CFG_MIN * 200 ≤ d → d ≤ s.get YOKE_WD_CFG_MAX * 200 → ∃ t, exec (.yokeWdKick v) s = .next t ∧
      t.get YOKE_WD_KICK_TOKEN ≠ s.get YOKE_WD_KICK_TOKEN ∧ t.get yokeWdAt = s.now ∧ t.get yokeWdLate = 0 ∧ t.bus = ⟨false, 0⟩ ∧ t.mem = s.mem) ∧
    (s.get YOKE_STAT_MODE = 3 → exec (.yokeWdKick v) s = .next s) ∧
    (s.get YOKE_STAT_MODE ≠ 3 → v.toNat + s.get YOKE_WD_KICK_TOKEN ≠ 65535 ∨ d < s.get YOKE_WD_CFG_MIN * 200 ∨ s.get YOKE_WD_CFG_MAX * 200 < d →
      exec (.yokeWdKick v) s = .next (yokeWdFault (busOk (s.set YOKE_WD_KICK_KICK v.toNat))))) ∧
  (∀ s : State, yokeWdFault s = raiseFault 0x0420 .deviceSafe (raiseEvent 0x01B s)) ∧
  (∀ s : State, (s.get SYS_BOOT_STAGE = 7 → s.get yokeWdLate = 0 → s.get yokeWdAt + s.get YOKE_WD_CFG_MAX * 200 < s.now →
      exec .evYokeWd s = .next (yokeWdFault (s.set yokeWdLate 1))) ∧
    (s.get SYS_BOOT_STAGE ≠ 7 ∨ s.get yokeWdLate ≠ 0 ∨ s.now ≤ s.get yokeWdAt + s.get YOKE_WD_CFG_MAX * 200 → exec .evYokeWd s = .next s)) ∧
  (∀ (c : Fin 3) (s : State), let u := s.setBit YOKE_STAT_HALTED c true
    let v : State := { u with yokeBuf := [], yokeOwed := s.yokeOwed.filter (fun e => e.core == 0) }
    let l := if s.get YOKE_STAT_MODE = 3 then [] else s.yokeBuf.filter (fun e => e.core == 0)
    (s.get YOKE_STAT_LOCKSTEP_BROKEN ≠ 0 → exec (.evLockstepBroken c) s = .next u) ∧
    (s.get YOKE_STAT_LOCKSTEP_BROKEN = 0 → exec (.evLockstepBroken c) s = .next (l.foldl (fun s e => issue e.txn s) (lockstepBreak (bufUpdate v))))) ∧
  (∀ s : State, s.get YOKE_STAT_MODE = 2 → lockstepBreak s = lockstepBreak (resyncEnd stFailed (s.set YOKE_STAT_MODE 1))) ∧
  (∀ s : State, s.get YOKE_STAT_MODE ≠ 2 → let u := raiseEvent 0x01A (s.set YOKE_STAT_LOCKSTEP_BROKEN 1)
    ((∃ n < 4, switching n s = true) ∨ (∃ k < 2, s.get (AUX_Ak_CTRL_EN k) ≠ 0 ∨ s.get (AUX_Ak_STAT_DEMAND k) ≠ 0) → lockstepBreak s = raiseFault 0x0410 .deviceSafe u) ∧
    ((∀ n < 4, switching n s = false) → (∀ k < 2, s.get (AUX_Ak_CTRL_EN k) = 0 ∧ s.get (AUX_Ak_STAT_DEMAND k) = 0) → lockstepBreak s = raiseFault 0x0411 .ride u))

/-- R366, R369 to R374: the Porter. A free port goes to a Courier first, then among the raised ranked requesters; a held port is taken only by a
Courier, from a ranked holder; the end of a burst gives the port back to the interrupted holder. R367, R368: refresh, scrub, errors and the DRAM
temperature. Reads above 105 °C set `HOT`, reads below 100 °C clear it; a failed reading sets it. Readings and choices of the model: log entries 56,
93. -/
def Obligations.PorterGrantsByRank : Prop :=
  (∀ s : State, exec .porterCommit s = .next (busOk (s.set PORTER_COMMIT_PEND 1))) ∧
  (∀ (req : BitVec 8) (ages : List (BitVec 32)) (s : State), let r := req.toNat ||| (s.get PORTER_REQ_REQ &&& 64)
    let u := s.set PORTER_REQ_REQ r
    let dbg := bitAt r 7 && dueAfter porterDbgAt 100 s
    (s.get PORTER_STAT_HOLDER = 15 → bitAt r 6 = true → exec (.grantDecision req ages) s = .next (courierGrant 6 (porterLoad u))) ∧
    (s.get PORTER_STAT_HOLDER = 15 → bitAt r 6 = false → dbg = true → exec (.grantDecision req ages) s = .next (courierGrant 7 (porterLoad u))) ∧
    (s.get PORTER_STAT_HOLDER = 15 → bitAt r 6 = false → dbg = false →
      exec (.grantDecision req ages) s = .next (rankedGrant ((List.range 6).filter (bitAt r)) ages (porterLoad u))) ∧
    (s.get PORTER_STAT_HOLDER < 6 → bitAt r 6 = true → exec (.grantDecision req ages) s = .next (courierGrant 6 (u.set porterCutR (s.get PORTER_STAT_HOLDER)))) ∧
    (s.get PORTER_STAT_HOLDER < 6 → bitAt r 6 = false → dbg = true → exec (.grantDecision req ages) s = .next (courierGrant 7 (u.set porterCutR (s.get PORTER_STAT_HOLDER)))) ∧
    (s.get PORTER_STAT_HOLDER ≠ 15 → (6 ≤ s.get PORTER_STAT_HOLDER ∨ (bitAt r 6 = false ∧ dbg = false)) → exec (.grantDecision req ages) s = .next u)) ∧
  (∀ s : State, (courierGrant 6 s).get PORTER_STAT_HOLDER = 6 ∧ bitAt ((courierGrant 6 s).get PORTER_REQ_REQ) 6 = false ∧ (courierGrant 6 s).mem = s.mem ∧
    (courierGrant 7 s).get PORTER_STAT_HOLDER = 7 ∧ (courierGrant 7 s).get porterDbgAt = s.now + 1 ∧ (courierGrant 7 s).get PORTER_REQ_REQ = s.get PORTER_REQ_REQ) ∧
  (∀ s : State, (s.get PORTER_COMMIT_PEND = 0 → porterLoad s = s) ∧ (s.get PORTER_COMMIT_PEND ≠ 0 → let u := porterLoad s
    u.get PORTER_FAIR_N_N_ACT = s.get PORTER_FAIR_N_N ∧ u.get PORTER_RANK_RANK_ACT = s.get PORTER_RANK_RANK ∧ u.get PORTER_COMMIT_PEND = 0 ∧
    u.get porterNum = if s.get PORTER_FAIR_N_N = s.get PORTER_FAIR_N_N_ACT then s.get porterNum else 0)) ∧
  (∀ (l : List Nat) (ages : List (BitVec 32)) (s : State) (r : Nat), s.get porterNum % s.get PORTER_FAIR_N_N_ACT ≠ 0 → topRanked l s = some r → r < 6 →
    r ∈ l ∧ (∀ q ∈ l, rankOf q s ≤ rankOf r s) ∧ (rankedGrant l ages s).get PORTER_STAT_HOLDER = r ∧ (rankedGrant l ages s).get porterNum = (s.get porterNum + 1) % 2 ^ porterNum.width) ∧
  (∀ (l : List Nat) (ages : List (BitVec 32)) (s : State) (r : Nat), s.get porterNum % s.get PORTER_FAIR_N_N_ACT = 0 → longestWait l ages s = some r → r < 6 →
    r ∈ l ∧ (∀ q ∈ l, waitSince ages r s ≤ waitSince ages q s) ∧ (rankedGrant l ages s).get PORTER_STAT_HOLDER = r ∧ (rankedGrant l ages s).get porterNum = (s.get porterNum + 1) % 2 ^ porterNum.width) ∧
  (∀ (ages : List (BitVec 32)) (s : State), rankedGrant [] ages s = s) ∧
  (∀ (l : List Nat) (ages : List (BitVec 32)) (s : State), l ≠ [] → (topRanked l s).isSome = true ∧ (longestWait l ages s).isSome = true) ∧
  (∀ (ages : List (BitVec 32)) (r : Nat) (s : State), waitSince ages r s = max (s.now - (ages.getD r 0).toNat) (s.get (porterEnd r)) ∧
    rankOf r s = bits (s.get PORTER_RANK_RANK_ACT) (4 * r) 3) ∧
  (∀ (u : BitVec 3) (ce : BitVec 8) (s : State), s.get PORTER_STAT_HOLDER = 15 → ∀ ue, exec (.burstDone u ce ue) s = .next s) ∧
  (∀ (u : BitVec 3) (ce : BitVec 8) (ue : Option (BitVec 40)) (s : State), s.get PORTER_STAT_HOLDER < 6 → ∃ t, exec (.burstDone u ce ue) s =
      .next (dramEcc ce.toNat (ue.map BitVec.toNat) (ue.elim t (fun a => ueAnswer a.toNat t))) ∧ t.get PORTER_STAT_HOLDER = 15 ∧ t.get (porterEnd (s.get PORTER_STAT_HOLDER)) = s.now ∧
    t.get (PORTER_BYTES_r_UNITS (s.get PORTER_STAT_HOLDER)) = clampU 32 (s.get (PORTER_BYTES_r_UNITS (s.get PORTER_STAT_HOLDER)) + min u.toNat 4) ∧ t.mem = s.mem) ∧
  (∀ (u : BitVec 3) (ce : BitVec 8) (ue : Option (BitVec 40)) (s : State), s.get PORTER_STAT_HOLDER = 6 ∨ s.get PORTER_STAT_HOLDER = 7 → ∃ t,
    exec (.burstDone u ce ue) s = .next (dramEcc ce.toNat (ue.map BitVec.toNat) (if s.get PORTER_STAT_HOLDER = 6 then t else ue.elim t (fun a => ueAnswer a.toNat t))) ∧
    t.get PORTER_STAT_HOLDER = s.get porterCutR ∧ t.get porterCutR = 15 ∧
    t.get (PORTER_BYTES_r_UNITS (s.get PORTER_STAT_HOLDER)) = clampU 32 (s.get (PORTER_BYTES_r_UNITS (s.get PORTER_STAT_HOLDER)) + min u.toNat 1)) ∧
  (∀ (a : Nat) (s : State), ueAnswer a s = { s with bus := ⟨true, BitVec.ofNat 64 (ofBytes (memTake s.mem (a / 8 * 8) 8))⟩ }) ∧
  (∀ (ce : BitVec 8) (ue : Option (Fin 8)) (s : State), refreshDue s = true → ∃ t,
    exec (.refresh ce ue) s = .next (dramEcc ce.toNat (ue.map (fun w => 0x100000000 + 64 * s.get porterScrub + 8 * w.val)) t) ∧
    t.get porterScrub = (s.get porterScrub + 1) % 2 ^ 27 ∧ t.get porterRefAt = s.now + 1 ∧
    t.get porterHalf = s.get PORTER_STAT_HOT ∧ (s.get PORTER_STAT_HOLDER = 15 → s.get PORTER_COMMIT_PEND ≠ 0 → t.get PORTER_COMMIT_PEND = 0 ∧
      t.get PORTER_RANK_RANK_ACT = s.get PORTER_RANK_RANK ∧ t.get PORTER_FAIR_N_N_ACT = s.get PORTER_FAIR_N_N) ∧ (s.get PORTER_STAT_HOLDER < 6 ∨ s.get PORTER_STAT_HOLDER = 15 → t.get PORTER_STAT_HOLDER = 6) ∧
    (s.get PORTER_STAT_HOLDER < 6 → t.get porterCutR = s.get PORTER_STAT_HOLDER) ∧
    (s.get PORTER_STAT_HOLDER = 7 → t.get PORTER_STAT_HOLDER = 7 ∧ bitAt (t.get PORTER_REQ_REQ) 6 = true) ∧ t.mem = s.mem) ∧
  (∀ (ce : BitVec 8) (ue : Option (Fin 8)) (s : State), refreshDue s = false → exec (.refresh ce ue) s = .next s) ∧
  (∀ s : State, refreshDue s = true ↔ s.get porterRefAt = 0 ∨ s.get porterRefAt - 1 + (if s.get porterHalf ≠ 0 then 390 else 780) ≤ s.now) ∧
  (∀ (t : BitVec 16) (s : State), s.get porterTempAt = 0 ∨ s.get porterTempAt - 1 + 200000 ≤ s.now → let u := (s.set porterTempAt (s.now + 1)).set porterTempBad 0
    (1680 < t.toInt → s.get PORTER_STAT_HOT = 0 → exec (.dramTempRead (some t)) s = .next (raiseEvent 0x024 (u.set PORTER_STAT_HOT 1))) ∧
    (t.toInt < 1600 → s.get PORTER_STAT_HOT ≠ 0 → exec (.dramTempRead (some t)) s = .next (raiseEvent 0x025 (u.set PORTER_STAT_HOT 0))) ∧
    ((1600 ≤ t.toInt ∨ s.get PORTER_STAT_HOT = 0) → (t.toInt ≤ 1680 ∨ s.get PORTER_STAT_HOT ≠ 0) → exec (.dramTempRead (some t)) s = .next u)) ∧
  (∀ s : State, s.get porterTempAt = 0 ∨ s.get porterTempAt - 1 + 200000 ≤ s.now → let u := ((s.set porterTempAt (s.now + 1)).set PORTER_STAT_HOT 1).set porterTempBad 1
    (s.get porterTempBad = 0 → exec (.dramTempRead none) s = .next (raiseFault 0x0202 .ride u)) ∧
    (s.get porterTempBad ≠ 0 → exec (.dramTempRead none) s = .next u)) ∧
  (∀ (t : Option (BitVec 16)) (s : State), s.get porterTempAt ≠ 0 → s.now < s.get porterTempAt - 1 + 200000 → exec (.dramTempRead t) s = .next s) ∧
  (∀ (ce a : Nat) (s : State), dramEcc ce none s = s.addSat PORTER_ECC_CE ce ∧
    (s.get PORTER_ECC_UE_VALID ≠ 0 → dramEcc ce (some a) s = raiseFault 0x0201 .ride (raiseEvent 0x026 ((s.addSat PORTER_ECC_CE ce).set PORTER_ECC_UE_VALID 1))) ∧
    (s.get PORTER_ECC_UE_VALID = 0 → dramEcc ce (some a) s = raiseFault 0x0201 .ride (raiseEvent 0x026
      (((s.addSat PORTER_ECC_CE ce).setWide PORTER_UE_ADDR_LO_ADDR PORTER_UE_ADDR_HI_ADDR a).set PORTER_ECC_UE_VALID 1))))

/-- R376 to R379: the Cellar's commands. ALLOC hands out the lowest free cask; FREE and GIVE need the cask's owner; a freed cask reads as free at
once and is handed out again only after it was zeroed. Commands of one instant go Sheepdog, Yoke, Innkeeper; that commands still in the queue fall
into the same instant is the model's reading (log entry 92). Readings and choices of the model: log entries 57, 92, 104. -/
def Obligations.CellarCommandsKeepOwners : Prop :=
  (∀ (p : Fin 3) (k : Nat) (u : State) (s : State), s.get (CELLAR_p_CMD_STATUS p) ≠ stBusy → cellarAhead p s = false → (∀ q < 3, s.get (cellarWait q) = 0) →
    cellarTake (p + 1) s = some (k, u) → ∃ t, exec (.alloc p) s = .next t ∧
    t.get (CELLAR_p_CMD_CODE p) = 1 ∧ t.get (CELLAR_p_CMD_STATUS p) = stDone ∧ t.get (CELLAR_p_RES_CASK p) = k ∧ t.get (CELLAR_p_RES_ERR p) = 0 ∧ caskOwner t k = p + 1 ∧
    t.get CELLAR_FREE_FREE = s.get CELLAR_FREE_FREE - 1 ∧ (∀ j < 1024, j ≠ k → caskOwner t j = caskOwner s j) ∧ t.mem = s.mem) ∧
  (∀ (u k : Nat) (t s : State), cellarTake u s = some (k, t) → k < 1024 ∧ caskOwner s k = 0 ∧ s.get (cellarZeroing k) = 0 ∧ caskAllowed s u = true ∧
    ∀ j < k, caskOwner s j ≠ 0 ∨ s.get (cellarZeroing j) ≠ 0) ∧
  (∀ (p : Fin 3) (s : State), s.get (CELLAR_p_CMD_STATUS p) ≠ stBusy → cellarAhead p s = false → (∀ q < 3, s.get (cellarWait q) = 0) → cellarTake (p + 1) s = none →
    exec (.alloc p) s = .next ((s.cmdSet (cellarCmd p) 1 stRefused).set (CELLAR_p_RES_ERR p)
      (if s.get (CELLAR_QUOTA_u_MAX (p + 1)) ≤ s.get (CELLAR_USE_u_COUNT (p + 1)) then 1 else 2))) ∧
  (∀ (p : Fin 3) (s : State), s.get (CELLAR_p_CMD_STATUS p) ≠ stBusy → cellarAhead p s = false → (∀ q < 3, s.get (cellarWait q) = 0) →
    let k := s.get (CELLAR_p_ARG_CASK p)
    let v := s.get (CELLAR_p_ARG_TO p)
    (caskOwner s k ≠ p + 1 → exec (.free p) s = .next ((s.cmdSet (cellarCmd p) 2 stRefused).set (CELLAR_p_RES_ERR p) 3) ∧
      exec (.give p) s = .next ((s.cmdSet (cellarCmd p) 3 stRefused).set (CELLAR_p_RES_ERR p) 3)) ∧
    (caskOwner s k = p + 1 → exec (.free p) s = .next (cellarFree k ((s.cmdSet (cellarCmd p) 2 stDone).set (CELLAR_p_RES_ERR p) 0))) ∧
    (caskOwner s k = p + 1 → v ∉ [1, 2, 3, 5, 11] → exec (.give p) s = .next ((s.cmdSet (cellarCmd p) 3 stRefused).set (CELLAR_p_RES_ERR p) 4)) ∧
    (caskOwner s k = p + 1 → v ∈ [1, 2, 3, 5, 11] → v ≠ p + 1 → s.get (CELLAR_QUOTA_u_MAX v) ≤ s.get (CELLAR_USE_u_COUNT v) →
      exec (.give p) s = .next ((s.cmdSet (cellarCmd p) 3 stRefused).set (CELLAR_p_RES_ERR p) 5)) ∧
    (caskOwner s k = p + 1 → v ∈ [1, 2, 3, 5, 11] → (v = p + 1 ∨ s.get (CELLAR_USE_u_COUNT v) < s.get (CELLAR_QUOTA_u_MAX v)) →
      exec (.give p) s = .next (cellarMove k v ((s.cmdSet (cellarCmd p) 3 stDone).set (CELLAR_p_RES_ERR p) 0)))) ∧
  (∀ (p : Fin 3) (s : State), s.get (CELLAR_p_CMD_STATUS p) = stBusy → exec (.alloc p) s = .next s ∧ exec (.free p) s = .next s ∧ exec (.give p) s = .next s) ∧
  (∀ (p : Fin 3) (s : State), s.get (CELLAR_p_CMD_STATUS p) ≠ stBusy → cellarAhead p s = true →
    let w := fun code => (((s.cmdSet (cellarCmd p) code stBusy).set (cellarWait p) code).set (cellarWaitArg p) (cellarArg p s))
    exec (.alloc p) s = .next (w 1) ∧ exec (.free p) s = .next (w 2) ∧ exec (.give p) s = .next (w 3)) ∧
  (∀ (p : Fin 3) (s : State), s.get (CELLAR_p_CMD_STATUS p) ≠ stBusy → cellarAhead p s = false →
    exec (.alloc p) s = .next (cellarRest (cellarOp p 1 (cellarArg p s) s)) ∧ exec (.free p) s = .next (cellarRest (cellarOp p 2 (cellarArg p s) s)) ∧
    exec (.give p) s = .next (cellarRest (cellarOp p 3 (cellarArg p s) s))) ∧
  (∀ (p : Nat) (s : State), p < 3 → s.get (cellarWait p) ≠ 0 → (∀ q < 3, q ≠ p → s.get (cellarWait q) = 0) →
    (cellarAhead p s = true → cellarRest s = s) ∧ (cellarAhead p s = false →
      cellarRest s = cellarOp p (s.get (cellarWait p)) (s.get (cellarWaitArg p)) ((s.set (cellarWait p) 0).set (CELLAR_p_CMD_STATUS p) stIdle))) ∧
  (∀ (s : State) (q : Fin 3), (s.pending = [] → cellarAhead 0 s = false ∧ cellarAhead 2 s = false) ∧ cellarAhead 1 s = false ∧
    (s.pending = [.alloc q] → (cellarAhead 0 s = decide (q.val = 1)) ∧ (cellarAhead 2 s = decide (q.val ≠ 2)))) ∧
  (∀ (k : Nat) (s : State), k < 1024 → caskOwner (cellarFree k s) k = 0 ∧ (cellarFree k s).get (cellarZeroing k) = 1 ∧
    (∀ j < 1024, j ≠ k → caskOwner (cellarFree k s) j = caskOwner s j) ∧ (cellarFree k s).get CELLAR_FREE_FREE = s.get CELLAR_FREE_FREE ∧
    (cellarFree k s).get (CELLAR_USE_u_COUNT (caskOwner s k)) = s.get (CELLAR_USE_u_COUNT (caskOwner s k)) - 1) ∧
  (∀ (k v : Nat) (s : State), k < 1024 → v < 16 → v ≠ caskOwner s k → caskOwner (cellarMove k v s) k = v ∧ (∀ j < 1024, j ≠ k → caskOwner (cellarMove k v s) j = caskOwner s j) ∧
    (cellarMove k v s).get (CELLAR_USE_u_COUNT v) = clampU (CELLAR_USE_u_COUNT v).width (s.get (CELLAR_USE_u_COUNT v) + 1) ∧
    (cellarMove k v s).get (CELLAR_USE_u_COUNT (caskOwner s k)) = s.get (CELLAR_USE_u_COUNT (caskOwner s k)) - 1 ∧ (cellarMove k v s).mem = s.mem) ∧
  (∀ (k : Fin 1024) (s : State), (s.get (cellarZeroing k) = 0 → exec (.caskZeroed k) s = .next s) ∧
    (s.get (cellarZeroing k) ≠ 0 → ∃ t, exec (.caskZeroed k) s = .next t ∧ t.get (cellarZeroing k) = 0 ∧
      t.get CELLAR_FREE_FREE = (s.get CELLAR_FREE_FREE + 1) % 2 ^ CELLAR_FREE_FREE.width ∧
      (∀ b, caskBase k ≤ b → b < caskBase k + 0x1000 → t.byteAt b = 0) ∧ (∀ b, (b < caskBase k ∨ caskBase k + 0x1000 ≤ b) → t.byteAt b = s.byteAt b))) ∧
  (∀ (ce : BitVec 8) (s : State), exec (.evCellarUe ce false) s = .next (s.addSat CELLAR_CE_CE ce.toNat) ∧
    exec (.evCellarUe ce true) s = .next (raiseFault 0x0301 .ride (raiseEvent 0x027 (busErr (s.addSat CELLAR_CE_CE ce.toNat)))))

/-- R381 to R388: the Logbook. A record that goes into the ring is written whole at the write pointer, which moves on or wraps; nothing else of
memory changes. TRIGGER acts while the ring captures and ARM once it is frozen; the ring freezes `POST` ms after the trigger, or at once at a reset
(R389). Readings and choices of the model: log entries 15, 58, 93, 104. -/
def Obligations.LogbookRingRecordsWhole : Prop :=
  (∀ (r : List Byte) (s : State), let p := s.getWide LOGBOOK_WR_PTR_LO_OFS LOGBOOK_WR_PTR_HI_OFS
    (∀ i (h : i < r.length), (ringWrite r s).byteAt (ringBase + p + i) = r[i]) ∧
    (∀ b, (b < ringBase + p ∨ ringBase + p + r.length ≤ b) → (ringWrite r s).byteAt b = s.byteAt b) ∧
    (p + r.length < 2 ^ 33 → (ringWrite r s).getWide LOGBOOK_WR_PTR_LO_OFS LOGBOOK_WR_PTR_HI_OFS = if p + r.length = ringSize s then 0 else p + r.length) ∧
    (p + r.length = ringSize s → (ringWrite r s).get LOGBOOK_STAT_WRAP = 1)) ∧
  (∀ s : State, (flushDue s = false ∨ s.get (logCask 0) = 0 → exec .stagingFlush s = .next s) ∧
    (flushDue s = true → s.get (logCask 0) ≠ 0 → ∃ u, exec .stagingFlush s = .next (cellarFree (s.get (logCask 0) - 1) u) ∧ u.logStage = s.logStage.drop (s.get (logRecs 0)) ∧
      u.mem = ((s.logStage.take (s.get (logRecs 0))).foldl (fun s r => ringWrite r s) { s with logStage := s.logStage.drop (s.get (logRecs 0)) }).mem)) ∧
  (∀ s : State, flushDue s = true ↔ s.get (logCask 1) ≠ 0 ∨ s.get (logFill 0) = 4096 ∨ s.get (logCaskAt 0) + 2000 ≤ s.now) ∧
  (∀ s : State, (s.get logTimeAt = 0 ∨ s.get logTimeAt - 1 + 200000 ≤ s.now → exec .timeRecord s = .next (logWrite 6 3 4 0 s.now [] (s.set logTimeAt (s.now + 1)))) ∧
    (s.get logTimeAt ≠ 0 → s.now < s.get logTimeAt - 1 + 200000 → exec .timeRecord s = .next s)) ∧
  (∀ (typ len src sub at_ : Nat) (b : List Byte) (s : State), s.get LOGBOOK_CTRL_EN = 0 → logWrite typ len src sub at_ b s = s) ∧
  (∀ (n c : Fin 4) (x : List (BitVec 16)) (first : BitVec 16) (s : State), let k := x.length + 1
    let i := 4 * n.val + c.val
    let at_ := fun (e : Nat) => e - e % 10 - 10 * x.length
    let body := fun (e ch f : Nat) => toBytes 4 (ch + 2 ^ 8 * k + 2 ^ 16 * f) ++ ((first :: x).mapIdx (fun j y => streamCode n c (at_ e + 10 * j) y.toNat s)).flatMap (toBytes 2)
    (bitAt (s.get LOGBOOK_CTRL_STREAM) i = true → s.get (strTrig i) ≠ 0 → k ≤ 122 →
      exec (.streamRecordClose n c x first) s = .next (logWrite 2 ((12 + 2 * k + 7) / 8) n c (at_ (s.get (senTrigAt n)))
        (body (s.get (senTrigAt n)) (s.get (strCh i)) (s.get (strWas i))) (s.set (strTrig i) 0))) ∧
    (bitAt (s.get LOGBOOK_CTRL_STREAM) i = true → s.get (strTrig i) = 0 → k = 122 → s.get (SENSE_Cc_STAT_OUT n c) = 0 → s.get (SENSE_CTRL_EN n) ≠ 0 →
      exec (.streamRecordClose n c x first) s = .next (logWrite 2 ((12 + 2 * k + 7) / 8) n c (at_ s.now)
        (body s.now (s.get (senCh n c)) (s.get (strOpen i))) (s.set (strOpen i) 0))) ∧
    (bitAt (s.get LOGBOOK_CTRL_STREAM) i = false ∨ 122 < k ∨ (s.get (strTrig i) = 0 ∧ (k ≠ 122 ∨ s.get (SENSE_Cc_STAT_OUT n c) ≠ 0 ∨ s.get (SENSE_CTRL_EN n) = 0)) →
      exec (.streamRecordClose n c x first) s = .next s)) ∧
  (∀ (n c t x : Nat) (s : State), let g := s.get (senTrigAt n)
    let p := s.get (senTrigPrev n)
    (g ≤ t + 20 → t ≤ g + 18 → s.get (senHeld n c) = 0 → streamCode n c t x s = s.get (SENSE_Cc_RAW_RAW n c)) ∧
    (g ≤ t + 20 → t ≤ g + 18 → s.get (senHeld n c) ≠ 0 → streamCode n c t x s = x) ∧
    (t + 20 < g ∨ g + 18 < t → p ≤ t + 20 → t ≤ p + 18 → streamCode n c t x s = s.get (strPrev (4 * n + c))) ∧
    (t + 20 < g ∨ g + 18 < t → t + 20 < p ∨ p + 18 < t → streamCode n c t x s = x)) ∧
  (∀ s : State, s.get LOGBOOK_CMD_STATUS ≠ stBusy →
    (s.get LOGBOOK_STAT_STATE = 1 → exec .trigger s = .next (logTrigger 3 0 (s.cmdSet logCmd 1 stDone))) ∧
    (s.get LOGBOOK_STAT_STATE ≠ 1 → exec .trigger s = .next (s.cmdSet logCmd 1 stRefused)) ∧
    (s.get LOGBOOK_STAT_STATE ≠ 3 → exec .logbookArm s = .next (s.cmdSet logCmd 2 stRefused)) ∧
    (s.get LOGBOOK_STAT_STATE = 3 → ∃ t, exec .logbookArm s = .next (logDeferred t) ∧ t.get LOGBOOK_STAT_STATE = 1 ∧ t.get LOGBOOK_STAT_WRAP = 0 ∧ t.get LOGBOOK_CMD_STATUS = stDone ∧
      t.getWide LOGBOOK_WR_PTR_LO_OFS LOGBOOK_WR_PTR_HI_OFS = 0 ∧ t.getWide LOGBOOK_OLD_PTR_LO_OFS LOGBOOK_OLD_PTR_HI_OFS = 0 ∧ t.mem = s.mem ∧
      t.get LOGBOOK_SEQ_SEQ = s.get LOGBOOK_SEQ_SEQ ∧ t.get logDefKind = s.get logDefKind)) ∧
  (∀ s : State, (s.get logDefKind = 0 → logDeferred s = s) ∧
    (s.get logDefKind ≠ 0 → let u := ((s.set logDefKind 0).set logDefCode 0).set logDefMore 0
      logDeferred s = (if s.get logDefKind = 4 then logReset u else logTrigger (s.get logDefKind) (s.get logDefCode) u).addSat LOGBOOK_TRIG_INFO_MORE (s.get logDefMore))) ∧
  (∀ s : State, (s.get LOGBOOK_STAT_STATE = 1 ∨ s.get LOGBOOK_STAT_STATE = 2 → ∃ t, logReset s = raiseEvent 0x029 t ∧ t.get LOGBOOK_STAT_STATE = 3 ∧ t.logStage = [] ∧
      t.get logTrigPend = 0) ∧
    (s.get LOGBOOK_STAT_STATE = 0 → let u := stagingDrop s
      logReset s = u.set logVirt (u.getWide LOGBOOK_WR_PTR_LO_OFS LOGBOOK_WR_PTR_HI_OFS))) ∧
  (∀ s : State, (s.get logTrigPend = 0 → trigClose s = s) ∧ (s.get logTrigPend ≠ 0 → let t := trigClose s
    t.getWide LOGBOOK_TRIG_PTR_LO_OFS LOGBOOK_TRIG_PTR_HI_OFS = s.getWide LOGBOOK_WR_PTR_LO_OFS LOGBOOK_WR_PTR_HI_OFS ∧ t.get logTrigPend = 0 ∧ t.mem = s.mem)) ∧
  (∀ (kind code : Nat) (s : State), 0 < kind → kind < 5 → code < 65536 →
    (s.get LOGBOOK_STAT_STATE = 1 → ∃ t, logTrigger kind code s = raiseEvent 0x028 t ∧ t.get LOGBOOK_STAT_STATE = 2 ∧ t.get LOGBOOK_TRIG_INFO_KIND = kind ∧
      t.get LOGBOOK_TRIG_INFO_CODE = code ∧ t.getWide LOGBOOK_TRIG_TB_LO_TB LOGBOOK_TRIG_TB_HI_TB = s.now ∧ t.get logTrigPend = 1 ∧ t.mem = s.mem) ∧
    (s.get LOGBOOK_STAT_STATE = 2 ∨ (s.get LOGBOOK_STAT_STATE = 3 ∧ armWaits s = false) → logTrigger kind code s = s.inc LOGBOOK_TRIG_INFO_MORE) ∧
    (s.get LOGBOOK_STAT_STATE = 3 → armWaits s = true → s.get logDefKind = 0 → logTrigger kind code s = (s.set logDefKind kind).set logDefCode code) ∧
    (s.get LOGBOOK_STAT_STATE = 3 → armWaits s = true → s.get logDefKind ≠ 0 → logTrigger kind code s = s.inc logDefMore) ∧
    (s.get LOGBOOK_STAT_STATE = 0 → logTrigger kind code s = s)) ∧
  (∀ s : State, let at_ := s.getWide LOGBOOK_TRIG_TB_LO_TB LOGBOOK_TRIG_TB_HI_TB + s.get LOGBOOK_POST_MS * 200000
    (s.get LOGBOOK_STAT_STATE = 2 → at_ ≤ s.now → exec .evLogFrozen s =
      .next (raiseEvent 0x029 ((trigClose (s.each (List.range (logCasks s)) (fun _ => flushOne))).set LOGBOOK_STAT_STATE 3))) ∧
    (s.get LOGBOOK_STAT_STATE ≠ 2 ∨ s.now < at_ → exec .evLogFrozen s = .next s))

/-- R394, R395: the rainflow stack keeps its points, the newest point stays the newest under the four-point rule, ranges below 2 °C are not counted,
and an energy is added in full to the counter of its direction. A tick takes one estimate of every switch with a valid one, once per ms. R396, R397,
R402 to R406: commits and the boot load. A commit needs the load to be over and none running; a verified record stands in its slot with its sequence
number; a slot that fails is retired and the next one is tried once. When the words are programmed within the stated times is the model's choice
(log entry 94). Readings and choices of the model: log entries 16, 59, 60, 64, 94. -/
def Obligations.LedgerCountsAndCommits : Prop :=
  (∀ (k : Nat) (l : List Int) (s : State), k < 24 → l.length ≤ 16 → (∀ x ∈ l, -32768 ≤ x ∧ x < 32768) → rfStack k (setRfStack k l s) = l) ∧
  (∀ (k f : Nat) (x : Int) (l : List Int) (s : State), (rfClose k f (x :: l) s).1.head? = some x ∧ (rfClose k f (x :: l) s).1.length ≤ l.length + 1) ∧
  (∀ (k c : Nat) (a b : Int) (s : State), ((a - b).natAbs < 32 → rfCount k c a b s = s) ∧ (32 ≤ (a - b).natAbs →
    let d := ([64, 128, 256, 512, 1024, 1536, 2048].filter (fun t => decide (t ≤ (a - b).natAbs))).length
    let m := ([1920, 3200, 4480].filter (fun t : Int => decide (t ≤ a + b))).length
    rfCount k c a b s = s.addSat (LEDGER_LIVE_w_W (256 + 32 * k + 8 * m + d)) c)) ∧
  (∀ (k f : Nat) (a b c d : Int) (r : List Int) (s : State), (b - c).natAbs ≤ (a - b).natAbs → (b - c).natAbs ≤ (c - d).natAbs →
    rfClose k (f + 1) (d :: c :: b :: a :: r) s = rfClose k f (d :: a :: r) (rfCount k 2 b c s)) ∧
  (∀ (n d e : Nat) (s : State), n < 4 → d < 2 →
    let total := fun s : State => s.getWide (LEDGER_LIVE_w_W (14 + 2 * d + 4 * n)) (LEDGER_LIVE_w_W (15 + 2 * d + 4 * n)) * 2 ^ 40 + s.get (ledEFrac n d)
    s.get (ledEFrac n d) < 2 ^ 40 → total s + e < 2 ^ 104 → total (energyAdd n d e s) = total s + e) ∧
  (∀ s : State, s.get rfAt = 0 ∨ s.get rfAt - 1 + 200000 ≤ s.now → ∃ t, exec .rainflowTick s = .next t ∧ t.mem = s.mem ∧ t.get rfAt = s.now + 1 ∧
    (∀ k < 24, s.get (PROT_TJ_s_VALID (k / 6) (k % 6)) = 0 → s.get (rfDir k) ≠ 0 → t.get (rfLen k) = 0 ∧ t.get (rfDir k) = 0) ∧
    (∀ k < 24, s.get (PROT_TJ_s_VALID (k / 6) (k % 6)) ≠ 0 → s.get (rfDir k) = 0 → t.get (rfDir k) = 3 ∧ t.geti (rfExt k) = s.geti (PROT_TJ_s_T (k / 6) (k % 6)))) ∧
  (∀ s : State, (s.get rfAt ≠ 0 → s.now < s.get rfAt - 1 + 200000 → exec .rainflowTick s = .next s) ∧
    (s.get rfAt = 0 ∨ s.get rfAt - 1 + 200000 ≤ s.now → exec .rainflowTick s = .next ((s.set rfAt (s.now + 1)).each (List.range 24) (fun k s =>
      if s.get (PROT_TJ_s_VALID (k / 6) (k % 6)) ≠ 0 then rfSample k (s.geti (PROT_TJ_s_T (k / 6) (k % 6))) s
      else if s.get (rfDir k) = 0 then s else rfFlush k s)))) ∧
  (∀ (k : Nat) (x : Int) (s : State), let e := s.geti (rfExt k)
    (s.get (rfDir k) = 0 → rfSample k x s = (s.set (rfDir k) 3).seti (rfExt k) x) ∧
    (s.get (rfDir k) = 1 → e < x → rfSample k x s = s.seti (rfExt k) x) ∧ (s.get (rfDir k) = 2 → x < e → rfSample k x s = s.seti (rfExt k) x) ∧
    (s.get (rfDir k) = 1 ∨ s.get (rfDir k) = 3 → x + 16 ≤ e → rfSample k x s = ((rfPush k e s).set (rfDir k) 2).seti (rfExt k) x) ∧
    (s.get (rfDir k) = 2 ∨ s.get (rfDir k) = 3 → e + 16 ≤ x → rfSample k x s = ((rfPush k e s).set (rfDir k) 1).seti (rfExt k) x) ∧
    (s.get (rfDir k) = 1 → x ≤ e → e < x + 16 → rfSample k x s = s) ∧ (s.get (rfDir k) = 2 → e ≤ x → x < e + 16 → rfSample k x s = s) ∧
    (s.get (rfDir k) = 3 → x < e + 16 → e < x + 16 → rfSample k x s = s)) ∧
  (∀ s : State, (s.get TB_STATUS_LANTERN ≠ 0 ∨ s.get resetHeld ≠ 0 ∨ s.now % 200000000 ≠ 0 ∨ s.get ledSecAt = s.now + 1 → exec .ledgerAutoCommit s = .next s) ∧
    (s.get TB_STATUS_LANTERN = 0 → s.get resetHeld = 0 → s.now % 200000000 = 0 → s.get ledSecAt ≠ s.now + 1 →
      let u := ((s.set ledSecAt (s.now + 1)).each [0, 1, 2, 3] secondBands).inc (LEDGER_LIVE_w_W 8)
      (s.get LEDGER_STAT_LOADED = 0 → exec .ledgerAutoCommit s = .next u) ∧
      (s.get LEDGER_STAT_LOADED ≠ 0 → s.get ledKind ≠ 0 → exec .ledgerAutoCommit s = .next (u.inc LEDGER_CNT_SKIPS)) ∧
      (s.get LEDGER_STAT_LOADED ≠ 0 → s.get ledKind = 0 → exec .ledgerAutoCommit s = .next (ledStart 1 u)))) ∧
  (∀ s : State, s.get LEDGER_CMD_STATUS ≠ stBusy →
    (s.get ledKind = 0 → s.get LEDGER_STAT_LOADED ≠ 0 → exec .commit s = .next (ledStart 2 (s.cmdSet ledgerCmd 1 stBusy))) ∧
    (s.get ledKind ≠ 0 ∨ s.get LEDGER_STAT_LOADED = 0 → exec .commit s = .next (s.cmdSet ledgerCmd 1 stRefused))) ∧
  (∀ s : State, s.get LEDGER_CMD_STATUS = stBusy → exec .commit s = .next s) ∧
  (∀ (kind : Nat) (s : State), kind < 5 → let u := ledStart kind s
    u.get ledKind = kind ∧ u.get ledTry = 0 ∧ u.get ledAt = s.now ∧ u.ledSnap.length = 1024 ∧
    u.ledSnap.getD 0 0 = 0x1ED6E400 ∧ u.ledSnap.getD 1 0 = (s.get LEDGER_SEQ_SEQ + 1) % 2 ^ 32 ∧ u.ledSnap.getD 127 0 = (s.get LEDGER_SEQ_SEQ + 1) % 2 ^ 32 ∧
    (∀ w < 1024, w ≠ 126 → w ≠ 127 → u.ledSnap.getD w 0 = ledWord kind w s) ∧ u.get ledSlot = ledNextSlot s 64 (if s.get LEDGER_STAT_NEW ≠ 0 then 0 else s.get LEDGER_STAT_SLOT + 1) ∧
    (∀ b, (b < ledAddr (u.get ledSlot) ∨ ledAddr (u.get ledSlot) + 4096 ≤ b ∨ (ledAddr (u.get ledSlot) + 508 ≤ b ∧ b < ledAddr (u.get ledSlot) + 512)) →
      u.byteAt b = s.byteAt b)) ∧
  (∀ s : State, s.ledSnap.length = 1024 → (∀ w < 1024, w ≠ 127 → (ledBody s).wordAt (ledAddr (s.get ledSlot) + 4 * w) = s.ledSnap.getD w 0 % 2 ^ 32) ∧ (ledBody s).get ledAt = s.now) ∧
  (∀ s : State, s.get ledKind ≠ 0 → s.get ledAt + 220200 ≤ s.now → ∃ t, exec (.evLedgerCommit true) s = .next (raiseEvent 0x2B t) ∧ t.get ledKind = 0 ∧ t.get LEDGER_STAT_LAST = stDone ∧
    t.get LEDGER_SEQ_SEQ = s.ledSnap.getD 1 0 % 2 ^ 32 ∧ t.get LEDGER_STAT_SLOT = s.get ledSlot % 2 ^ (LEDGER_STAT_SLOT).width ∧ t.get LEDGER_STAT_NEW = 0 ∧
    (s.get ledKind = 2 → t.get LEDGER_CMD_STATUS = stDone) ∧ t.mem = (s.putWord (ledAddr (s.get ledSlot) + 508) (s.ledSnap.getD 127 0)).mem) ∧
  (∀ (good : Bool) (s : State), s.get ledKind = 0 ∨ s.now < s.get ledAt + (if good then 220200 else 220000) → exec (.evLedgerCommit good) s = .next s) ∧
  (∀ s : State, s.get ledKind ≠ 0 → s.get ledAt + 220000 ≤ s.now → let u := ledRetire (s.get ledSlot) s
    (s.get ledTry = 0 → s.get ledKind ≠ 3 → exec (.evLedgerCommit false) s = .next (ledBody ((u.set ledTry 1).set ledSlot (ledNextSlot u 64 (s.get ledSlot + 1))))) ∧
    (s.get ledTry ≠ 0 ∨ s.get ledKind = 3 → exec (.evLedgerCommit false) s = .next (raiseEvent 0x2C (raiseFault 0x0A01 .ride
      ((ledEnd stFailed (ledUndo u)).inc LEDGER_CNT_FAILS))))) ∧
  (∀ s : State, (s.get LEDGER_STAT_LOADED ≠ 0 → exec .ledgerLoadDone s = .next s) ∧
    (s.get LEDGER_STAT_LOADED = 0 → ∃ t, exec .ledgerLoadDone s = .next (s.faultHeld.foldl (fun s e => heldEnter e.1 e.2 s) t) ∧
      t.get LEDGER_STAT_LOADED = 1 ∧ t.faultHeld = [] ∧ t.get ledLantern = 0 ∧ t.mem = s.mem ∧
      (∀ k, (ledNewest s 64 ((ledSlots s).filter (fun k => ledValid k s))).head? = some k → t.get LEDGER_SEQ_SEQ = s.wordAt (ledAddr k + 4) ∧
        ∀ w, 10 ≤ w → w < 14 → t.get (LEDGER_LIVE_w_W w) = clampU 32 (s.get (LEDGER_LIVE_w_W w) + s.wordAt (ledAddr k + 4 * w))) ∧
      (ledNewest s 64 ((ledSlots s).filter (fun k => ledValid k s)) = [] → t.get LEDGER_STAT_NEW = 1))) ∧
  (∀ (s : State) (l : List Nat) (k : Nat), k ∈ ledNewest s 64 l → k ∈ l)

/-- R412 to R416, R422: enabling and disabling a controller, its receive errors and its states. Error confinement counts as ISO 11898-1 does, and a
listening controller holds its counters (the model's choice, log entry 36): the state that follows from the two counters is bus off at 256, passive
at 128, else active. R417 to R421: queueing and flushing frames, the end of a transmission with its result, reception into the queue's casks, and
the two acknowledgements. Readings and choices of the model: log entries 2, 36. -/
def Obligations.CanStatesFollowErrorCounts : Prop :=
  (∀ (k : Fin 4) (s : State),
    (s.get (CAN_CTRL_EN k) ≠ 0 → exec (.canEnable k) s = .next (busOk s)) ∧
    (s.get (CAN_CTRL_EN k) = 0 → cellarTakeN (7 + k) (s.get (CAN_RXQ_CFG_CASKS k)) s = none → exec (.canEnable k) s = .next (busErr (s.set (CAN_STAT_QERR k) 1))) ∧
    (∀ (l : List Nat) (u : State), s.get (CAN_CTRL_EN k) = 0 → cellarTakeN (7 + k) (s.get (CAN_RXQ_CFG_CASKS k)) s = some (l, u) →
      ∃ t, exec (.canEnable k) s = .next t ∧ t.get (CAN_CTRL_EN k) = 1 ∧ t.get (CAN_STAT_STATE k) = 1 ∧ (s.get (CAN_STAT_STATE k) ≠ 1 → t.get (canStateAt k) = s.now) ∧ t.get (CAN_RXQ_HEAD_HEAD k) = 0 ∧
        t.get (CAN_RXQ_TAIL_TAIL k) = 0 ∧ t.get (CAN_RXQ_FILL_FILL k) = 0 ∧ t.get (CAN_ERRCNT_TEC k) = 0 ∧ t.get (canRec k) = 0 ∧ t.bus = ⟨false, 0⟩ ∧
        ∀ i < 32, rxqCask k i t = l.getD i 0)) ∧
  (∀ (k : Fin 4) (s : State), (s.get (CAN_CTRL_EN k) = 0 → exec (.canDisable k) s = .next (busOk s)) ∧
    (s.get (CAN_CTRL_EN k) ≠ 0 → ∃ t, exec (.canDisable k) s = .next t ∧ t.get (CAN_CTRL_EN k) = 0 ∧ t.get (CAN_STAT_STATE k) = 0 ∧ canQueue k t = [] ∧
      t.get (CAN_STAT_TXQ k) = 0 ∧ t.get (CAN_RXQ_HEAD_HEAD k) = 0 ∧ t.get (CAN_RXQ_TAIL_TAIL k) = 0 ∧ t.get (CAN_RXQ_FILL_FILL k) = 0 ∧
      t.bus = ⟨false, 0⟩ ∧ ∀ j : Nat, j ≠ k → canQueue j t = canQueue j s)) ∧
  (∀ (k : Fin 4) (lec : BitVec 3) (dataPhase heavy : Bool) (s : State),
    let r := min 511 (s.get (canRec k) + if heavy then 8 else 1)
    let tec := s.get (CAN_ERRCNT_TEC k)
    (s.get (CAN_STAT_STATE k) ≠ 2 → s.get (CAN_STAT_STATE k) ≠ 3 → exec (.canRxError k lec dataPhase heavy) s = .next s) ∧
    (s.get (CAN_STAT_STATE k) = 2 ∨ s.get (CAN_STAT_STATE k) = 3 → s.get (CAN_CTRL_LISTEN k) ≠ 0 → ∃ t, exec (.canRxError k lec dataPhase heavy) s = .next t ∧
      t.get (CAN_ERR_LEC k) = lec.toNat ∧ t.get (CAN_ERR_DLEC k) = (if dataPhase then lec.toNat else s.get (CAN_ERR_DLEC k)) ∧
      t.get (canRec k) = s.get (canRec k) ∧ t.get (CAN_STAT_STATE k) = s.get (CAN_STAT_STATE k) ∧ t.mem = s.mem) ∧
    (s.get (CAN_STAT_STATE k) = 2 ∨ s.get (CAN_STAT_STATE k) = 3 → s.get (CAN_CTRL_LISTEN k) = 0 → ∃ t, exec (.canRxError k lec dataPhase heavy) s = .next t ∧
      t.get (CAN_ERR_LEC k) = lec.toNat ∧ t.get (CAN_ERR_DLEC k) = (if dataPhase then lec.toNat else s.get (CAN_ERR_DLEC k)) ∧ t.get (canRec k) = r ∧
      t.get (CAN_ERRCNT_REC k) = min r 127 ∧ t.get (CAN_ERRCNT_RP k) = (if 128 ≤ r then 1 else 0) ∧ t.get (CAN_ERRCNT_TEC k) = tec ∧
      t.get (CAN_STAT_STATE k) = (if 256 ≤ tec then (if s.get (CAN_CTRL_AUTO_BOR k) = 0 then 4 else 5) else if 128 ≤ tec ∨ 128 ≤ r then 3 else 2))) ∧
  (∀ (k : Fin 4) (s : State), (s.get (CAN_STAT_STATE k) ≠ 1 ∨ canBitsPassed k 11 s = false → exec (.canIntegrated k) s = .next s) ∧
    (s.get (CAN_STAT_STATE k) = 1 → canBitsPassed k 11 s = true → ∃ t, exec (.canIntegrated k) s = .next t ∧
      t.get (CAN_STAT_STATE k) = (if 128 ≤ s.get (CAN_ERRCNT_TEC k) ∨ 128 ≤ s.get (canRec k) then 3 else 2) ∧ t.get (canStateAt k) = s.now)) ∧
  (∀ (k b : Nat) (s : State), (canBitsPassed k b s = true ↔ s.get (canStateAt k) + b * canBit k s ≤ s.now) ∧
    canBit k s = (s.get (CAN_NBT_BRP k) + 1) * (3 + s.get (CAN_NBT_TSEG1 k) + s.get (CAN_NBT_TSEG2 k))) ∧
  (∀ (k v : Nat) (s : State), let u := raiseEvent 0x00D ((s.set (CAN_STAT_STATE k) v).set (canStateAt k) s.now)
    (s.get (CAN_STAT_STATE k) = v → canState k v s = s) ∧ (s.get (CAN_STAT_STATE k) ≠ v →
      (v = 3 → canState k v s = canFault k 2 u) ∧ (v = 4 → canState k v s = canFault k 1 (u.inc (CAN_ERR_BUSOFF k))) ∧ (v ≠ 3 → v ≠ 4 → canState k v s = u))) ∧
  (∀ (k : Fin 4) (s : State), s.get (CAN_CMD_STATUS k) ≠ stBusy →
    (s.get (CAN_STAT_STATE k) ≠ 4 → exec (.recover k) s = .next (s.cmdSet (canCmd k) 3 stRefused)) ∧
    (s.get (CAN_STAT_STATE k) = 4 → ∃ t, exec (.recover k) s = .next t ∧ t.get (CAN_STAT_STATE k) = 5 ∧ t.get (CAN_CMD_CODE k) = 3 ∧
      t.get (CAN_CMD_STATUS k) = stDone)) ∧
  (∀ (k : Fin 4) (s : State), (s.get (CAN_STAT_STATE k) ≠ 5 ∨ canBitsPassed k 1408 s = false → exec (.canRecovered k) s = .next s) ∧
    (s.get (CAN_STAT_STATE k) = 5 → canBitsPassed k 1408 s = true → ∃ t, exec (.canRecovered k) s = .next t ∧ t.get (CAN_STAT_STATE k) = 2 ∧ t.get (CAN_ERRCNT_TEC k) = 0 ∧
      t.get (canRec k) = 0 ∧ t.get (CAN_ERRCNT_REC k) = 0 ∧ t.get (CAN_ERRCNT_RP k) = 0)) ∧
  (∀ (k : Fin 4) (s : State),
    (s.get (CAN_CTRL_FD_EN k) = 0 ∨ (s.get (CAN_STAT_STATE k) ≠ 2 ∧ s.get (CAN_STAT_STATE k) ≠ 3) → exec (.protocolException k) s = .next s) ∧
    (s.get (CAN_CTRL_FD_EN k) ≠ 0 → s.get (CAN_STAT_STATE k) = 2 ∨ s.get (CAN_STAT_STATE k) = 3 → ∃ t, exec (.protocolException k) s = .next t ∧
      t.get (CAN_STAT_STATE k) = 1 ∧ t.get (CAN_ERR_PEX k) = min 255 (s.get (CAN_ERR_PEX k) + 1))) ∧
  (∀ (k : Fin 4) (s : State), (s.get (CAN_CTRL_EN k) ≠ 0 → s.get (canDomAt k) = 0 ∨ s.get (canDomAt k) - 1 + 200000 ≤ s.now →
      exec (.canRxDominant k) s = .next (raiseFault (0x0805 + 0x40 * k) .ride (s.set (canDomAt k) (s.now + 1)))) ∧
    (s.get (CAN_CTRL_EN k) = 0 ∨ (s.get (canDomAt k) ≠ 0 ∧ s.now < s.get (canDomAt k) - 1 + 200000) → exec (.canRxDominant k) s = .next s)) ∧
  (∀ (k : Fin 4) (s : State), s.get (CAN_CMD_STATUS k) = stBusy → exec (.recover k) s = .next s) ∧
  (∀ (k c : Nat) (s : State), canFault k c s = raiseFault (0x0800 + 0x40 * k + c) .ride s) ∧
  (∀ (k c : Nat) (s : State), (canFault k c s).canTx = s.canTx ∧ (canFault k c s).get (CAN_STAT_STATE k) = s.get (CAN_STAT_STATE k)) ∧
  (∀ (k : Fin 4) (s : State), s.get (CAN_CMD_STATUS k) ≠ stBusy →
    (pushOk k s = false → exec (.push k) s = .next (s.cmdSet (canCmd k) 1 stRefused)) ∧
    (pushOk k s = true → ∃ t, exec (.push k) s = .next t ∧ canQueue k t = canQueue k s ++ [heldFrame k s] ∧
      t.get (CAN_STAT_TXQ k) = (canQueue k s).length + 1 ∧ t.get (CAN_CMD_CODE k) = 1 ∧ t.get (CAN_CMD_STATUS k) = stDone ∧ t.mem = s.mem ∧
      (∀ j : Nat, j ≠ k → canQueue j t = canQueue j s) ∧
      ∀ g : Fld, g.key ≠ (CAN_STAT_TXQ k).key → g.key ≠ (CAN_CMD_CODE k).key → g.key ≠ (CAN_CMD_STATUS k).key → t.get g = s.get g)) ∧
  (∀ (k : Fin 4) (started : Bool) (s : State), s.get (CAN_CMD_STATUS k) ≠ stBusy → ∃ t, exec (.flush k started) s = .next t ∧
    t.get (CAN_CMD_CODE k) = 2 ∧ t.get (CAN_CMD_STATUS k) = stDone ∧ canQueue k t = (canQueue k s).take (if (started || s.flag (canStarted k)) && canActive k s then 1 else 0) ∧
    t.get (canStarted k) = ((started || s.flag (canStarted k)) && canActive k s && decide (canQueue k s ≠ [])).toNat ∧
    (∀ j : Nat, j ≠ k → canQueue j t = canQueue j s) ∧
    (s.get (canTxrN k) ≤ 16 → t.get (canTxrN k) = min 16 (s.get (canTxrN k) + ((canQueue k s).length - if (started || s.flag (canStarted k)) && canActive k s then 1 else 0)))) ∧
  (∀ (k : Fin 4) (started : Bool) (s : State), s.get (CAN_CMD_STATUS k) = stBusy → exec (.push k) s = .next s ∧ exec (.flush k started) s = .next s) ∧
  (∀ (k : Nat) (s : State), let st := s.get (CAN_STAT_STATE k)
    (canActive k s = true ↔ st = 2 ∨ st = 3) ∧ (pushOk k s = true ↔ (canQueue k s).length < 16 ∧ s.get (CAN_CTRL_EN k) ≠ 0 ∧ s.get (CAN_CTRL_LISTEN k) = 0 ∧ st ≠ 4 ∧ st ≠ 5 ∧
      (s.get (CAN_TX_FLAGS_FDF k) = 0 ∨ (s.get (CAN_CTRL_FD_EN k) ≠ 0 ∧ s.get (CAN_TX_ID_RTR k) = 0)))) ∧
  (∀ (k : Fin 4) (result : Fin 3) (lec : BitVec 3) (dataPhase : Bool) (tdcv : Option (BitVec 7)) (age : BitVec 32) (s : State),
    (canQueue k s = [] ∨ (s.get (CAN_STAT_STATE k) ≠ 2 ∧ s.get (CAN_STAT_STATE k) ≠ 3) → exec (.evCanTx k result lec dataPhase tdcv age) s = .next s) ∧
    (∀ (f : CanTx) (r : List CanTx), canQueue k s = f :: r → s.get (CAN_STAT_STATE k) = 2 ∨ s.get (CAN_STAT_STATE k) = 3 →
      let old := s.get (CAN_ERRCNT_TEC k)
      let tec := if result = 0 then old - 1 else if result = 1 then old else if lec = 3 ∧ s.get (CAN_STAT_STATE k) = 3 then old else min 511 (old + 8)
      let h := s.get (CAN_TXR_HEAD_HEAD k)
      ∃ t, exec (.evCanTx k result lec dataPhase tdcv age) s = .next t ∧ t.get (CAN_ERRCNT_TEC k) = tec ∧ (result = 2 → t.get (CAN_ERR_LEC k) = lec.toNat) ∧
        (∀ d : BitVec 7, tdcv = some d → s.get (CAN_DBT_TDC k) ≠ 0 → t.get (CAN_TDC_TDCV k) = d.toNat) ∧
        t.get (CAN_STAT_STATE k) = (if 256 ≤ tec then (if s.get (CAN_CTRL_AUTO_BOR k) = 0 then 4 else 5)
          else if 128 ≤ tec ∨ 128 ≤ s.get (canRec k) then 3 else 2) ∧
        (256 ≤ tec → canQueue k t = []) ∧
        (tec < 256 → canQueue k t = r ∧ t.get (CAN_TXR_j_RESULT k h) = result ∧ t.get (CAN_TXR_j_TAG k h) = canTag f ∧
          t.get (CAN_TXR_TB_j_TB k h) = (s.now - age.toNat) % 2 ^ 32 ∧ t.get (CAN_TXR_HEAD_HEAD k) = (h + 1) % 16))) ∧
  (∀ (k : Fin 4) (id : BitVec 29) (flags : BitVec 8) (dlc : BitVec 4) (data : List Byte) (age : BitVec 32) (s : State), data.length ≤ 64 →
    let act := s.get (CAN_STAT_STATE k) = 2 ∨ s.get (CAN_STAT_STATE k) = 3
    let fd := bitAt flags.toNat 3 = true ∧ s.get (CAN_CTRL_FD_EN k) = 0
    let taken := act ∧ ¬ fd ∧ (bitAt flags.toNat 2 = true → s.get (CAN_CTRL_SELF_RX k) ≠ 0)
    let n := 32 * s.get (CAN_RXQ_CFG_CASKS k)
    let e := s.get (CAN_RXQ_HEAD_HEAD k)
    let a := caskBase (rxqCask k (e / 32) s) + e % 32 * 128
    let rec_ := s.get (canRec k)
    (¬ taken → (act → fd → bitAt flags.toNat 2 = true) → exec (.evCankRx k id flags dlc data age) s = .next s) ∧
    (act → fd → bitAt flags.toNat 2 = false → ∃ t, exec (.evCankRx k id flags dlc data age) s = .next t ∧ t.get (CAN_ERR_LEC k) = 2 ∧
      t.get (canRec k) = (if s.get (CAN_CTRL_LISTEN k) ≠ 0 then rec_ else min 511 (rec_ + 1)) ∧ t.get (CAN_RXQ_FILL_FILL k) = s.get (CAN_RXQ_FILL_FILL k)) ∧
    (taken → n ≤ s.get (CAN_RXQ_FILL_FILL k) → ∃ t, exec (.evCankRx k id flags dlc data age) s = .next t ∧
      t.get (CAN_RXQ_DROP_COUNT k) = min (2 ^ 32 - 1) (s.get (CAN_RXQ_DROP_COUNT k) + 1) ∧ t.get (CAN_RXQ_HEAD_HEAD k) = e ∧
      t.get (canRec k) = (if bitAt flags.toNat 2 = true ∨ s.get (CAN_CTRL_LISTEN k) ≠ 0 then rec_ else if 128 ≤ rec_ then 127 else rec_ - 1) ∧
      t.get (CAN_RXQ_FILL_FILL k) = s.get (CAN_RXQ_FILL_FILL k) ∧ ∀ b, (b < 0x20000000 ∨ 0x21000000 ≤ b) → t.byteAt b = s.byteAt b) ∧
    (taken → s.get (CAN_RXQ_FILL_FILL k) < n → n ≤ 1024 → ∃ u, exec (.evCankRx k id flags dlc data age) s = .next (raiseEvent (8 + k) u) ∧
      u.get (canRec k) = (if bitAt flags.toNat 2 = true ∨ s.get (CAN_CTRL_LISTEN k) ≠ 0 then rec_ else if 128 ≤ rec_ then 127 else rec_ - 1) ∧
      u.get (CAN_RXQ_HEAD_HEAD k) = (e + 1) % n ∧ u.get (CAN_RXQ_FILL_FILL k) = s.get (CAN_RXQ_FILL_FILL k) + 1 ∧
      (∀ i < 128, u.byteAt (a + i) = (rxEntry id.toNat flags.toNat dlc.toNat (s.now - age.toNat) data).getD i 0) ∧
      ∀ b, (b < 0x20000000 ∨ 0x21000000 ≤ b) → u.byteAt b = s.byteAt b)) ∧
  (∀ (k : Fin 4) (v : BitVec 10) (s : State),
    let n := 32 * s.get (CAN_RXQ_CFG_CASKS k)
    let d := (v.toNat + n - s.get (CAN_RXQ_TAIL_TAIL k)) % n
    (v.toNat < n → d ≤ s.get (CAN_RXQ_FILL_FILL k) → exec (.rxqAck k v) s = .next (busOk ((s.set (CAN_RXQ_TAIL_TAIL k) v.toNat).set (CAN_RXQ_FILL_FILL k)
      (s.get (CAN_RXQ_FILL_FILL k) - d)))) ∧
    (n ≤ v.toNat ∨ s.get (CAN_RXQ_FILL_FILL k) < d → exec (.rxqAck k v) s = .next (busErr s))) ∧
  (∀ (k : Fin 4) (v : BitVec 4) (s : State),
    let d := (v.toNat + 16 - s.get (CAN_TXR_TAIL_TAIL k)) % 16
    (d ≤ s.get (canTxrN k) → exec (.txrAck k v) s = .next (busOk ((s.set (CAN_TXR_TAIL_TAIL k) v.toNat).set (canTxrN k) (s.get (canTxrN k) - d)))) ∧
    (s.get (canTxrN k) < d → exec (.txrAck k v) s = .next (busErr s)))

/-- R423 to R426: what a port takes in, the ports a frame leaves by, the receive and transmit rings, and the frames discarded. R427 to R430: the
802.1AS time and its steering (the steered rate is a free value within 500 ppm, log entry 2), peer delay, and the gate control lists: when a list
takes over, what it takes over, and how the entries run. Readings and choices of the model: log entries 2, 37. -/
def Obligations.EthernetForwardsAndGates : Prop :=
  (∀ (p : Fin 2) (b : List Byte) (fcs : BitVec 32) (age : BitVec 32) (s : State),
    let q := p.val + 1
    let u := s.inc (ETH_Pp_RXF_COUNT q)
    let e := egress b q s
    (s.get (ETH_Pp_CTRL_EN q) = 0 ∨ s.get (ETH_Pp_STAT_LINK q) = 0 → exec (.ethFrameRx p b fcs age) s = .next s) ∧
    (s.get (ETH_Pp_CTRL_EN q) ≠ 0 → s.get (ETH_Pp_STAT_LINK q) ≠ 0 → macPasses b fcs.toNat = false ∨ etherType b = 0x8808 →
      exec (.ethFrameRx p b fcs age) s = .next (s.inc (ETH_Pp_RXERR_COUNT q))) ∧
    (s.get (ETH_Pp_CTRL_EN q) ≠ 0 → s.get (ETH_Pp_STAT_LINK q) ≠ 0 → macPasses b fcs.toNat = true → etherType b = 0x88F7 →
      exec (.ethFrameRx p b fcs age) s = .next u) ∧
    (s.get (ETH_Pp_CTRL_EN q) ≠ 0 → s.get (ETH_Pp_STAT_LINK q) ≠ 0 → macPasses b fcs.toNat = true → etherType b ≠ 0x8808 → etherType b ≠ 0x88F7 →
      ∃ t, exec (.ethFrameRx p b fcs age) s = .next t ∧ t.get (ETH_Pp_RXF_COUNT q) = min (2 ^ 32 - 1) (s.get (ETH_Pp_RXF_COUNT q) + 1) ∧
        (0 ∉ e → t.ethRx = s.ethRx) ∧ (0 ∈ e → cellarTake 6 u = none → t.ethRx = s.ethRx) ∧
        (∀ (k : Nat) (v : State), 0 ∈ e → cellarTake 6 u = some (k, v) →
          t.ethRx = s.ethRx ++ [{ port := q, casks := [k], bytes := b, since := s.now - age.toNat }]) ∧
        (∀ x : Nat, x ∉ e → t.ethTx.filter (fun f => f.port == x) = s.ethTx.filter (fun f => f.port == x)) ∧
        ∀ x : Nat, e = [x] → x ≠ 0 → t = txQueue x (pcpClass (framePcp b q s) s) q b u)) ∧
  (∀ (b : List Byte) (f : Nat), macPasses b f = true ↔ f = crc32 b ∧ 60 ≤ b.length ∧ b.length ≤ 1518 ∧ (tagged b = false ∨ (etherType b ≠ 0x8100 ∧ etherType b ≠ 0x88A8))) ∧
  (∀ (p cls q : Nat) (b : List Byte) (s : State), (s.get (ETH_Pp_STAT_LINK p) = 0 ∨ cellarTake 5 s = none → txQueue p cls q b s = raiseFault 0x0921 .ride (s.inc ETH_DROP_TX)) ∧
    (∀ (k : Nat) (u : State), s.get (ETH_Pp_STAT_LINK p) ≠ 0 → cellarTake 5 s = some (k, u) → let t := txQueue p cls q b s
      t.ethTx = s.ethTx ++ [{ port := p, cls := cls, source := q, casks := [k], bytes := b, since := s.now }] ∧
      (∀ i < b.length, t.byteAt (caskBase k + i) = (b.getD i 0).toNat) ∧ ∀ a, (a < caskBase k ∨ caskBase k + b.length ≤ a) → t.byteAt a = s.byteAt a)) ∧
  (∀ (b : List Byte) (q : Nat) (s : State), (∀ p ∈ egress b q s, p ≠ q ∧ p < 3) ∧
    (etherType b = 0x88F7 → egress b q s = []) ∧
    (q = 1 ∨ q = 2 → etherType b ≠ 0x88F7 → fdbPorts b q s = none → egress b q s = if frame16 b 0 / 256 % 2 = 0 then [0] else [0, 3 - q])) ∧
  (∀ s : State, (s.ethRx = [] ∨ s.get ETH_RXR_CFG_N ≤ s.get ethRxFill → exec .evEthRx s = .next s) ∧
    (∀ (f : EthRx) (r : List EthRx), s.ethRx = f :: r → s.get ethRxFill < s.get ETH_RXR_CFG_N → s.get ETH_RXR_CFG_N ≤ 4096 →
      ∃ u, exec .evEthRx s = .next (raiseEvent 0x014 u) ∧ u.ethRx = r ∧ u.get ETH_RXR_HEAD_HEAD = (s.get ETH_RXR_HEAD_HEAD + 1) % s.get ETH_RXR_CFG_N ∧
        u.get ethRxFill = s.get ethRxFill + 1 ∧
        (inInn (rxBuffer (s.get ETH_RXR_HEAD_HEAD) s) (16 + f.bytes.length) s = false → u.mem = s.mem ∧
          u.get SYS_VIOL_COUNT_COUNT = clampU SYS_VIOL_COUNT_COUNT.width (s.get SYS_VIOL_COUNT_COUNT + 1)) ∧
        (inInn (rxBuffer (s.get ETH_RXR_HEAD_HEAD) s) (16 + f.bytes.length) s = true →
          (∀ i < 16 + f.bytes.length, u.byteAt (rxBuffer (s.get ETH_RXR_HEAD_HEAD) s + i) = (rxHead f ++ f.bytes).getD i 0) ∧
          ∀ a, (a < rxBuffer (s.get ETH_RXR_HEAD_HEAD) s ∨ rxBuffer (s.get ETH_RXR_HEAD_HEAD) s + 16 + f.bytes.length ≤ a) → u.byteAt a = s.byteAt a))) ∧
  (∀ (v : BitVec 12) (s : State),
    let n := s.get ETH_RXR_CFG_N
    let d := (v.toNat + n - s.get ETH_RXR_TAIL_TAIL) % n
    (v.toNat < n → d ≤ s.get ethRxFill → exec (.ethRxReturn v) s = .next (busOk ((s.set ETH_RXR_TAIL_TAIL v.toNat).set ethRxFill (s.get ethRxFill - d)))) ∧
    (n ≤ v.toNat ∨ s.get ethRxFill < d → exec (.ethRxReturn v) s = .next (busErr s))) ∧
  (∀ (v : BitVec 12) (s : State), (s.get ETH_TXR_CFG_N ≤ v.toNat → exec (.ethTxQueue v) s = .next (busErr s)) ∧
    (v.toNat < s.get ETH_TXR_CFG_N → exec (.ethTxQueue v) s = .next (txFill 4096 (busOk (s.set ETH_TXR_TAIL_TAIL v.toNat)))) ∧
    (v.toNat < s.get ETH_TXR_CFG_N → ∃ t, exec (.ethTxQueue v) s = .next t ∧ t.get ETH_TXR_TAIL_TAIL = v.toNat ∧
      (s.get ETH_TXR_CFG_N ≤ 4096 → s.get ETH_TXR_HEAD_HEAD < s.get ETH_TXR_CFG_N → t.get ETH_TXR_HEAD_HEAD = v.toNat ∨ txTake t = none))) ∧
  (∀ (w : Nat) (b : List Byte) (ps : List Nat) (s : State), let c := (ps.filter (fun p => s.get (ETH_Pp_STAT_LINK p) ≠ 0)).length
    (cellarTakeN 5 c s = none → txStore w b ps s = none) ∧ (∀ x, cellarTakeN 5 c s = some x →
      txStore w b ps s = some (raiseEvent 0x015 ((s.each ps (fun p => txQueue p (bits w 16 3) 0 b)).set ETH_TXR_HEAD_HEAD
        (((s.each ps (fun p => txQueue p (bits w 16 3) 0 b)).get ETH_TXR_HEAD_HEAD + 1) % (s.each ps (fun p => txQueue p (bits w 16 3) 0 b)).get ETH_TXR_CFG_N))))) ∧
  (∀ s : State, let w := ofBytes (txRead (txBuffer (s.get ETH_TXR_HEAD_HEAD) s) 4 s)
    let b := txRead (txBuffer (s.get ETH_TXR_HEAD_HEAD) s + 16) (w % 2048) s
    (w % 2048 < 60 ∨ 1518 < w % 2048 → txTake s = some ((s.set ETH_TXR_HEAD_HEAD ((s.get ETH_TXR_HEAD_HEAD + 1) % s.get ETH_TXR_CFG_N)).inc ETH_DROP_TXERR)) ∧
    (60 ≤ w % 2048 → w % 2048 ≤ 1518 → txTake s = txStore w b (txPorts w b s) s)) ∧
  (∀ (p : Fin 2) (s : State),
    let q := p.val + 1
    (s.get (ETH_Pp_CTRL_EN q) = 0 ∨ s.get (ETH_Pp_STAT_LINK q) = 0 ∨ s.now < s.get (ethTxEnd q) ∨ txPick q s = none → exec (.ethFrameTx p) s = .next s) ∧
    (∀ f : EthTx, s.get (ETH_Pp_CTRL_EN q) ≠ 0 → s.get (ETH_Pp_STAT_LINK q) ≠ 0 → s.get (ethTxEnd q) ≤ s.now → txPick q s = some f → ∃ t, exec (.ethFrameTx p) s = .next t ∧
      t.get (ETH_Pp_TXF_COUNT q) = min (2 ^ 32 - 1) (s.get (ETH_Pp_TXF_COUNT q) + 1) ∧
      t.get (ethTxEnd q) = s.now + ((f.bytes.length + 24) * 8 + 4) / 5 ∧
      (s.get ETH_TXR_HEAD_HEAD = s.get ETH_TXR_TAIL_TAIL → t.ethTx = s.ethTx.erase f ∧ t.mem = s.mem)) ∧
    (∀ f : EthTx, txPick q s = some f → f ∈ s.ethTx ∧ f.port = q ∧ gateOpen q f.cls s = true ∧ frameFits f s = true ∧
      ∀ (c : Nat) (g : EthTx), f.cls < c → c < 8 → classHead q c s = some g → gateOpen q c s = false ∨ frameFits g s = false)) ∧
  (∀ s : State, ∃ t, exec .ethTxAgeExpiry s = .next t ∧
    t.ethTx = s.ethTx.filter (fun f => !decide (f.since + s.get ETH_TX_AGE_MS * 200000 ≤ s.now)) ∧ t.ethRx = s.ethRx) ∧
  (∀ (p : Fin 2) (up : Bool) (s : State),
    let q := p.val + 1
    (s.get (ETH_Pp_STAT_LINK q) = up.toNat → exec (.evEthLink p up) s = .next s) ∧
    (up = true → s.get (ETH_Pp_STAT_LINK q) = 0 → exec (.evEthLink p up) s = .next (raiseEvent 0x016 (s.set (ETH_Pp_STAT_LINK q) 1))) ∧
    (up = false → s.get (ETH_Pp_STAT_LINK q) ≠ 0 → ∃ t, exec (.evEthLink p up) s = .next t ∧ t.get (ETH_Pp_STAT_LINK q) = 0 ∧ t.ethRx = s.ethRx ∧
      t.get (ETH_Pp_STAT_DROPS q) = min 65535 (s.get (ETH_Pp_STAT_DROPS q) + 1) ∧ t.ethTx = s.ethTx.filter (fun f => !(f.port == q)))) ∧
  (∀ (p : Fin 2) (x : BitVec 80) (s : State), (asSlave s ≠ some (p.val + 1) ∨ portUp (p.val + 1) s = false → exec (.syncMessage p x) s = .next s) ∧
    (asSlave s = some (p.val + 1) → portUp (p.val + 1) s = true → asTime s < 2 ^ 96 →
      let ofs : Int := asTime s - x.toNat
      ∃ t, exec (.syncMessage p x) s = .next t ∧ t.geti ETH_AS_OFS_NS = clampS 32 ofs ∧ t.get asSyncAt = s.now ∧ t.get asRxNs = x.toNat ∧
        asTime t = (if 1000000 < ofs.natAbs then x.toNat else asTime s) ∧
        (ofs.natAbs ≤ 1000000 → -500000 ≤ t.geti ETH_AS_RATE_PPB ∧ t.geti ETH_AS_RATE_PPB ≤ 500000) ∧
        t.get asGood = (if ofs.natAbs ≤ 500 then min 8 (s.get asGood + 1) else 0) ∧
        (10000 < ofs.natAbs → t.get ETH_AS_STAT_SYNCED = 0) ∧ (ofs.natAbs ≤ 500 → 7 ≤ s.get asGood → t.get ETH_AS_STAT_SYNCED = 1) ∧
        (ofs.natAbs ≤ 10000 → t.get asGood ≠ 8 → t.get ETH_AS_STAT_SYNCED = s.get ETH_AS_STAT_SYNCED))) ∧
  (∀ s : State,
    (((asSlave s = none ∧ s.get ETH_AS_STAT_SYNCED = 0) ∨ s.now < s.get asSyncAt + 3 * syncTicks s) → exec .syncTimeout s = .next s) ∧
    (asSlave s ≠ none ∨ s.get ETH_AS_STAT_SYNCED ≠ 0 → s.get asSyncAt + 3 * syncTicks s ≤ s.now → ∃ t, exec .syncTimeout s = .next t ∧ t.get ETH_AS_STAT_SYNCED = 0 ∧ t.get asGood = 0 ∧
      asTime t = asTime s)) ∧
  (∀ s : State, let up := fun p => s.get (ETH_Pp_CTRL_AS_ROLE p) = 1 ∧ s.get (ETH_Pp_CTRL_EN p) ≠ 0 ∧ s.get (ETH_Pp_STAT_LINK p) ≠ 0
    (s.get asTxAt ≠ 0 → s.now < s.get asTxAt - 1 + syncTicks s → exec .syncTransmit s = .next s) ∧
    (s.get asTxAt = 0 ∨ s.get asTxAt - 1 + syncTicks s ≤ s.now → ∃ t, exec .syncTransmit s = .next t ∧ t.mem = s.mem ∧ t.get asTxAt = s.now + 1 ∧
      (∀ p, p = 1 ∨ p = 2 → (up p → t.get (ETH_Pp_TXF_COUNT p) = min (2 ^ 32 - 1) (s.get (ETH_Pp_TXF_COUNT p) + 2) ∧ t.get (asTold p) = relayTime s % 2 ^ (asTold p).width) ∧
        (¬ up p → t.get (ETH_Pp_TXF_COUNT p) = s.get (ETH_Pp_TXF_COUNT p) ∧ t.get (asTold p) = s.get (asTold p))) ∧
      ∀ g : Fld, g.key ≠ (asTold 1).key → g.key ≠ (asTold 2).key → g.key ≠ (ETH_Pp_TXF_COUNT 1).key → g.key ≠ (ETH_Pp_TXF_COUNT 2).key → g.key ≠ asTxAt.key → t.get g = s.get g)) ∧
  (∀ s : State, (asSlave s = none → relayTime s = asTime s) ∧ (asSlave s ≠ none → relayTime s = s.get asRxNs +
    ((s.now - s.get asSyncAt : Nat) * 5 * (1000000000 + s.geti ETH_AS_RATE_PPB)).toNat / 1000000000)) ∧
  (∀ (p : Nat) (s : State), (portUp p s = true ↔ s.get (ETH_Pp_CTRL_EN p) ≠ 0 ∧ s.get (ETH_Pp_STAT_LINK p) ≠ 0) ∧
    syncTicks s = 200000000 / 2 ^ (s.geti ETH_AS_CFG_SYNC_LOG).natAbs) ∧
  (∀ (b : Bool) (s : State), let u := raiseEvent 0x017 (s.setB ETH_AS_STAT_SYNCED b)
    (s.flag ETH_AS_STAT_SYNCED = b → syncSet b s = s) ∧ (s.flag ETH_AS_STAT_SYNCED ≠ b → (b = true → syncSet b s = u) ∧ (b = false → syncSet b s = raiseFault 0x0930 .ride u))) ∧
  (∀ (p : Fin 2) (delay : BitVec 32) (valid : Bool) (s : State),
    let q := p.val + 1
    (s.get (ETH_Pp_CTRL_AS_ROLE q) = 0 ∨ portUp q s = false → exec (.peerDelayMessage p delay valid) s = .next s) ∧
    (s.get (ETH_Pp_CTRL_AS_ROLE q) ≠ 0 → portUp q s = true → ∃ t, exec (.peerDelayMessage p delay valid) s = .next t ∧ t.get (ETH_Pp_PDLY_NS q) = delay.toNat ∧ t.mem = s.mem ∧
      t.get (ETH_Pp_STAT_AS_CAP q) = (valid && decide (delay.toNat < s.get ETH_AS_CFG_PDLY_MAX)).toNat ∧
      ∀ g : Fld, g.key ≠ (ETH_Pp_PDLY_NS q).key → g.key ≠ (ETH_Pp_STAT_AS_CAP q).key → t.get g = s.get g)) ∧
  (∀ s : State, (asSlave s ≠ none → exec .gmWrite s = .next (busOk (s.set ETH_AS_CFG_GM 1))) ∧
    (asSlave s = none → calNs s < 2 ^ 96 → ∃ t, exec .gmWrite s = .next t ∧ t.get ETH_AS_CFG_GM = 1 ∧ asTime t = calNs s ∧ t.get ETH_AS_RATE_PPB = 0 ∧
      t.get ETH_AS_STAT_SYNCED = 0 ∧ t.bus = ⟨false, 0⟩)) ∧
  (∀ (p : Fin 2) (s : State), s.get (ETH_Pp_GCL_CMD_STATUS (p.val + 1)) ≠ stBusy →
    let q := p.val + 1
    let may := (s.get ETH_AS_STAT_SYNCED ≠ 0 ∨ s.get ETH_AS_CFG_GM ≠ 0) ∧ s.get (ETH_Pp_GCL_STAT_PEND q) = 0
    (¬ may → exec (.apply p) s = .next (s.cmdSet (gclCmd q) 1 stRefused)) ∧
    (may → ∃ t, exec (.apply p) s = .next t ∧ t.get (ETH_Pp_GCL_CMD_CODE q) = 1 ∧ t.get (ETH_Pp_GCL_CMD_STATUS q) = stBusy ∧
      t.get (ETH_Pp_GCL_STAT_PEND q) = 1 ∧ t.get (gclAt q) = gclChange q s % 2 ^ 96 ∧ t.get (gclAdmLen q) = s.get (ETH_Pp_GCL_LEN_LEN q) ∧
      t.get (gclAdmCycle q) = s.get (ETH_Pp_GCL_CYCLE_NS q) ∧
      (∀ j < 64, t.get (gclAdm q j) = s.get (ETH_Pp_GCL_j_NS q j) + 2 ^ 24 * s.get (ETH_Pp_GCL_j_GATES q j)) ∧ t.mem = s.mem ∧
      t.get (ETH_Pp_GCL_STAT_OPER q) = s.get (ETH_Pp_GCL_STAT_OPER q))) ∧
  (∀ (q : Nat) (s : State),
    let b := gclBase q s
    let c := s.get (ETH_Pp_GCL_CYCLE_NS q)
    (asTime s < b → gclChange q s = b) ∧
    (b ≤ asTime s → 0 < c → (gclChange q s - b) % c = 0 ∧ asTime s + 1000000 ≤ gclChange q s ∧ gclChange q s < asTime s + 1000000 + c)) ∧
  (∀ (p : Fin 2) (s : State),
    let q := p.val + 1
    let due := s.get (ETH_Pp_GCL_STAT_PEND q) ≠ 0 ∧ s.get (gclAt q) ≤ asTime s
    (¬ due → exec (.evGclApply p) s = .next s) ∧
    (due → ∃ t, exec (.evGclApply p) s = .next t ∧ t.get (ETH_Pp_GCL_STAT_PEND q) = 0 ∧ t.get (ETH_Pp_GCL_STAT_OPER q) = 1 ∧
      t.get (ETH_Pp_GCL_STAT_ENTRY q) = 0 ∧ t.get (ETH_Pp_GCL_CMD_STATUS q) = (if s.get (gclLate q) ≠ 0 then stTooLate else stDone) ∧ t.get (gclCycleAt q) = s.get (gclAt q) ∧
      t.get (gclCycle q) = s.get (gclAdmCycle q) ∧ t.get (gclLen q) = s.get (gclAdmLen q) ∧ t.get (gclLate q) = 0 ∧
      ∀ j < 64, t.get (ETH_Pp_GCLOP_j_E q j) = if j < s.get (gclAdmLen q) then s.get (gclAdm q j) else 0)) ∧
  (∀ (p : Fin 2) (s : State),
    let q := p.val + 1
    let due := s.get (ETH_Pp_GCL_STAT_OPER q) ≠ 0 ∧ s.get (gclEnd q) ≤ asTime s
    let at_ := s.get (gclEnd q) - s.get (gclCycleAt q)
    (¬ due → exec (.gateEntryEnd p) s = .next s) ∧
    (due → s.get (gclCycle q) ≤ at_ → ∃ t, exec (.gateEntryEnd p) s = .next t ∧ t.get (ETH_Pp_GCL_STAT_ENTRY q) = 0 ∧
      t.get (gclCycleAt q) = (s.get (gclCycleAt q) + s.get (gclCycle q)) % 2 ^ 96 ∧ t.mem = s.mem) ∧
    (due → at_ < s.get (gclCycle q) → ∃ t, exec (.gateEntryEnd p) s = .next t ∧
      t.get (ETH_Pp_GCL_STAT_ENTRY q) = (s.get (ETH_Pp_GCL_STAT_ENTRY q) + 1) % 64 ∧ t.get (gclCycleAt q) = s.get (gclCycleAt q) ∧ t.mem = s.mem)) ∧
  (∀ (p : Fin 2) (s : State), s.get (ETH_Pp_GCL_CMD_STATUS (p.val + 1)) ≠ stBusy → exec (.disable p) s = .next
    (((s.cmdSet (gclCmd (p.val + 1)) 2 stDone).set (ETH_Pp_GCL_STAT_OPER (p.val + 1)) 0).set (ETH_Pp_GCL_STAT_ENTRY (p.val + 1)) 0)) ∧
  (∀ (p : Fin 2) (s : State), s.get (ETH_Pp_GCL_CMD_STATUS (p.val + 1)) = stBusy → exec (.disable p) s = .next s ∧ exec (.apply p) s = .next s) ∧
  (∀ (p c : Nat) (s : State), (s.get (ETH_Pp_GCL_STAT_OPER p) = 0 → gateOpen p c s = true) ∧
    (s.get (ETH_Pp_GCL_STAT_OPER p) ≠ 0 → gateOpen p c s = bitAt (s.get (ETH_Pp_GCLOP_j_E p (s.get (ETH_Pp_GCL_STAT_ENTRY p)))) (24 + c))) ∧
  (∀ (p : Nat) (s : State), (asTime s < s.get (gclAt p) → gclAbort p s = (s.set (ETH_Pp_GCL_STAT_PEND p) 0).cmdEnd (gclCmd p) stAborted) ∧
    (s.get (gclAt p) ≤ asTime s → gclAbort p s = s.set (gclLate p) 1))

/-- R431 to R435: the check and the order of its reasons, what an accepted message does, the lock after tag failures, the run of the validity, the
lapse and the inhibit. That a check ends by itself after 20 µs, and that the seconds of the validity count from the acceptance, is the model's
reading (log entry 95). Readings and choices of the model: log entries 38, 61, 64, 95, 104. -/
def Obligations.AuthorisationJudgesMessages : Prop :=
  (∀ s : State, s.get AUTH_CMD_STATUS ≠ stBusy → ∃ t, exec .check s = .next t ∧ t.get AUTH_CMD_CODE = 1 ∧ t.get AUTH_CMD_STATUS = stBusy ∧
    (∀ w < 6, t.get (authSnap w) = s.get (AUTH_MSGw_B w)) ∧ t.get authReason = authJudge t ∧ t.get authAt = s.now ∧ t.mem = s.mem) ∧
  (∀ s : State, s.get AUTH_CMD_STATUS = stBusy → exec .check s = .next s) ∧
  (∀ s : State, (s.get AUTH_STAT_LOCKED ≠ 0 → authJudge s = 9) ∧
    (s.get AUTH_STAT_LOCKED = 0 → s.get authBad ≠ 0 → authJudge s = 7) ∧
    (s.get AUTH_STAT_LOCKED = 0 → s.get authBad = 0 → keyState (s.get AUTH_CFG_SLOT) s ≠ 1 → authJudge s = 6) ∧
    (s.get AUTH_STAT_LOCKED = 0 → s.get authBad = 0 → keyState (s.get AUTH_CFG_SLOT) s = 1 → authTagOk s = false → authJudge s = 1) ∧
    (s.get AUTH_STAT_LOCKED = 0 → s.get authBad = 0 → keyState (s.get AUTH_CFG_SLOT) s = 1 → authTagOk s = true →
      (authType s = 0 ∨ 3 < authType s ∨ authByte1 s ≠ 0 → authJudge s = 4) ∧
      (1 ≤ authType s → authType s ≤ 3 → authByte1 s = 0 → (authVid s ≠ s.get AUTH_VID_VID → authJudge s = 3) ∧
        (authVid s = s.get AUTH_VID_VID → authFresh s ≤ s.get AUTH_FRESH_CTR → authJudge s = 2) ∧
        (authVid s = s.get AUTH_VID_VID → s.get AUTH_FRESH_CTR < authFresh s →
          let b := (authType s = 2 ∧ (authBooking s ≠ s.get AUTH_BOOKING_ID ∨ s.get AUTH_STAT_STATE = 0)) ∨ (authType s = 3 ∧ authBooking s ≠ 0 ∧ authBooking s ≠ s.get AUTH_BOOKING_ID)
          (b → authJudge s = 5) ∧ (¬ b → authType s ≠ 3 → authValidity s = 0 → authJudge s = 8) ∧
          (¬ b → authType s = 3 ∨ authValidity s ≠ 0 → authJudge s = 0))))) ∧
  (∀ s : State, authType s = bits (s.get (authSnap 0)) 24 8 ∧ authByte1 s = bits (s.get (authSnap 0)) 16 8 ∧
    authFresh s = bits (s.get (authSnap 0)) 0 16 * 65536 + bits (s.get (authSnap 1)) 16 16 ∧
    authBooking s = bits (s.get (authSnap 1)) 0 16 * 65536 + bits (s.get (authSnap 2)) 16 16 ∧ authValidity s = bits (s.get (authSnap 2)) 0 16 ∧ authVid s = s.get (authSnap 3)) ∧
  (∀ s : State, let m := (List.range 4).flatMap (fun w => toBytesBE 4 (s.get (authSnap w)))
    authTagOk s = ((aesCmac (keyBytes (s.get AUTH_CFG_SLOT) s) m).take 8 == toBytesBE 4 (s.get (authSnap 4)) ++ toBytesBE 4 (s.get (authSnap 5)))) ∧
  (∀ (good : Bool) (s : State), s.get AUTH_CMD_STATUS ≠ stBusy → exec (.evAuthResult good) s = .next s) ∧
  (∀ s : State, s.get AUTH_CMD_STATUS = stBusy → s.get authReason = 0 → ∃ u, exec (.evAuthResult true) s = .next (raiseEvent 0x01C u) ∧
    u.get AUTH_CMD_STATUS = stDone ∧ u.get AUTH_FRESH_CTR = authFresh s ∧ u.get AUTH_RES_REASON = 0 ∧ u.get AUTH_RES_TAGFAIL = 0 ∧
    u.mem = (s.putWords (freshAddr (freshTarget s).1) (freshWords (authFresh s) (freshTarget s).2 (freshTarget s).2 s)).mem ∧
    (authType s = 3 → u.get AUTH_STAT_STATE = 2 ∧ u.get AUTH_REMAIN_S = 0 ∧ u.get AUTH_BOOKING_ID = s.get AUTH_BOOKING_ID) ∧
    (authType s ≠ 3 → u.get AUTH_STAT_STATE = 1 ∧ u.get AUTH_STAT_INHIBIT = 0 ∧ u.get AUTH_REMAIN_S = authValidity s ∧
      u.get authSecAt = s.now ∧ u.get AUTH_BOOKING_ID = (if authType s = 1 then authBooking s else s.get AUTH_BOOKING_ID))) ∧
  (∀ s : State, s.get AUTH_CMD_STATUS = stBusy → s.get authReason = 0 → ∃ t, exec (.evAuthResult false) s = .next t ∧
    t.get AUTH_CMD_STATUS = stFailed ∧ t.get AUTH_RES_REASON = 7 ∧ t.get AUTH_STAT_STATE = s.get AUTH_STAT_STATE ∧
    t.get AUTH_REMAIN_S = s.get AUTH_REMAIN_S ∧ t.get AUTH_FRESH_CTR = s.get AUTH_FRESH_CTR) ∧
  (∀ (good : Bool) (s : State), s.get AUTH_CMD_STATUS = stBusy → s.get authReason ≠ 0 → ∃ t, exec (.evAuthResult good) s = .next t ∧
    t.get AUTH_CMD_STATUS = stRefused ∧ t.get AUTH_RES_REASON = s.get authReason ∧ t.get AUTH_STAT_STATE = s.get AUTH_STAT_STATE ∧
    t.get AUTH_REMAIN_S = s.get AUTH_REMAIN_S ∧ t.get AUTH_FRESH_CTR = s.get AUTH_FRESH_CTR ∧ t.get AUTH_BOOKING_ID = s.get AUTH_BOOKING_ID ∧
    (s.get authReason = 1 → let k := min 15 (s.get AUTH_RES_TAGFAIL + 1)
      t.get AUTH_RES_TAGFAIL = k ∧ t.get AUTH_STAT_LOCKED = if s.get AUTH_CFG_LOCK_N ≤ k then 1 else s.get AUTH_STAT_LOCKED)) ∧
  (∀ s : State,
    (s.get AUTH_STAT_LOCKED ≠ 0 → s.get authLockAt + 200000000 ≤ s.now → exec .authLockEnd s = .next ((s.set AUTH_STAT_LOCKED 0).set AUTH_RES_TAGFAIL 0)) ∧
    (s.get AUTH_STAT_LOCKED = 0 ∨ s.now < s.get authLockAt + 200000000 → exec .authLockEnd s = .next s) ∧
    (s.get AUTH_STAT_STATE = 1 → 0 < s.get AUTH_REMAIN_S → s.get authSecAt + 200000000 ≤ s.now →
      exec .authSecond s = .next ((s.set AUTH_REMAIN_S (s.get AUTH_REMAIN_S - 1)).set authSecAt (s.get authSecAt + 200000000))) ∧
    (s.get AUTH_STAT_STATE ≠ 1 ∨ s.get AUTH_REMAIN_S = 0 ∨ s.now < s.get authSecAt + 200000000 → exec .authSecond s = .next s) ∧
    (s.get AUTH_STAT_STATE ≠ 1 ∨ s.get AUTH_REMAIN_S ≠ 0 → exec .evAuthLapse s = .next s) ∧
    (s.get AUTH_STAT_STATE = 1 → s.get AUTH_REMAIN_S = 0 → exec .evAuthLapse s = .next (raiseEvent 0x01D (authPending (s.set AUTH_STAT_STATE 2)))) ∧
    (authEngages s = false ∨ acceptWaits s = true → exec .evAuthInhibit s = .next s) ∧
    (authEngages s = true → acceptWaits s = false → exec .evAuthInhibit s = .next (raiseEvent 0x01E (authPending (s.set AUTH_STAT_INHIBIT 1)))) ∧
    (authEngages s = true → acceptWaits s = false → ∃ t, exec .evAuthInhibit s = .next t ∧ t.get AUTH_STAT_INHIBIT = 1 ∧ t.get AUTH_STAT_PENDING = 0 ∧
      t.get AUTH_STAT_STATE = s.get AUTH_STAT_STATE) ∧
    (authEngages s = true ↔ s.get AUTH_STAT_STATE ≠ 1 ∧ s.get AUTH_STAT_INHIBIT = 0 ∧ authStill s = true ∧
      ((∀ n < 4, bitAt (s.get AUTH_CFG_MASK) n = true → s.get (PWM_STAT_STATE n) ≠ 1 ∧ s.get (PWM_STAT_STATE n) ≠ 2) ∨
        (s.get authStillAt ≠ 0 ∧ s.get authStillAt - 1 + s.get AUTH_CFG_HOLD * 200000000 ≤ s.now))) ∧
    (authStill s = true ↔
      ∀ n < 4, bitAt (s.get AUTH_CFG_MASK) n = true → s.get (POS_SPD_STAT_STILL n) ≠ 0 ∧ s.get (POS_SPD_STAT_VALID n) ≠ 0 ∧ s.get (POS_STAT_SRC n) ≠ 2) ∧
    (acceptWaits s = true ↔ s.get AUTH_CMD_STATUS = stBusy ∧ s.get authReason = 0 ∧ authType s ≠ 3 ∧ .evAuthResult true ∈ s.pending)) ∧
  (∀ s : State, (s.get AUTH_CMD_STATUS = stBusy → s.get authAt + 4000 ≤ s.now → authDue s = authResult true s) ∧
    (s.get AUTH_CMD_STATUS ≠ stBusy ∨ s.now < s.get authAt + 4000 → authDue s = s) ∧
    ∀ good : Bool, s.get AUTH_CMD_STATUS = stBusy → exec (.evAuthResult good) s = .next (authResult good s))

/-- R446 to R452: image writes with their reasons, the erased slot, the steps of a write and the new seal record, confirm, abandon, and the rollback
counter. When a step ends between its stated bounds, and rows of 4,096 bytes, are the model's choice (log entry 96). R442, R443, R48: the key
commands, which slot they may act on, and what the fuses hold after them. Readings and choices of the model: log entries 2, 38, 62, 63, 64, 65, 96. -/
def Obligations.ImageWritesAndKeyFuses : Prop :=
  (∀ s : State, s.get CONFIG_CMD_STATUS ≠ stBusy →
    (writeReason s ≠ 0 → exec .write s = .next (cfgAfter ((s.cmdSet cfgCmd 1 stRefused).set CONFIG_STAT_ERR (writeReason s)))) ∧
    (writeReason s = 0 → ∃ t, exec .write s = .next t ∧ t.get CONFIG_CMD_CODE = 1 ∧ t.get CONFIG_CMD_STATUS = stBusy ∧ t.get CONFIG_STAT_PHASE = 1 ∧
      t.get CONFIG_STAT_MIB = 0 ∧ t.get (CONFIG_SLOT_s_VALID (s.get CONFIG_ARG_TARGET)) = 0 ∧ t.get cfgTgt = s.get CONFIG_ARG_TARGET ∧
      t.get cfgSrc = srcAddr s ∧ t.get cfgLen = s.get CONFIG_LEN_LEN ∧ t.get cfgStepAt = s.now ∧ t.get cfgAt = s.now ∧
      ∀ a, t.byteAt a = if slotBase (s.get CONFIG_ARG_TARGET) ≤ a ∧ a < slotBase (s.get CONFIG_ARG_TARGET) + 0x10000000 then 0xFF else s.byteAt a)) ∧
  (∀ s : State, s.get CONFIG_CMD_STATUS = stBusy → exec .write s = .next s ∧ exec .confirm s = .next s ∧ exec .abandon s = .next s ∧ exec .rollfwd s = .next s) ∧
  (∀ s : State, (s.get CONFIG_STAT_RUN_SLOT = s.get CONFIG_ARG_TARGET → writeReason s = 1) ∧
    (writeReason s = 0 → s.get CONFIG_STAT_RUN_SLOT ≠ s.get CONFIG_ARG_TARGET ∧ imgLenOk (s.get CONFIG_LEN_LEN) = true ∧
      inInn (srcAddr s) (s.get CONFIG_LEN_LEN) s = true ∧ s.get CONFIG_STAT_TRIAL = 0 ∧ ∀ d < 5, domainSrc d s ≠ s.get CONFIG_ARG_TARGET)) ∧
  (∀ (row : Option (BitVec 28 × Byte)) (s : State), s.get CONFIG_CMD_STATUS ≠ stBusy ∨ s.get CONFIG_CMD_CODE ≠ 1 →
    exec (.evConfigDone row) s = .next s) ∧
  (∀ (row : Option (BitVec 28 × Byte)) (s : State), s.get CONFIG_CMD_STATUS = stBusy → s.get CONFIG_CMD_CODE = 1 →
    (row = none → exec (.evConfigDone row) s = .next (cfgFinish (s.get cfgLen / 4096 + 6) s)) ∧
    ∀ (o : BitVec 28) (b : Byte), row = some (o, b) → exec (.evConfigDone row) s = .next (rowFail o.toNat b s)) ∧
  (∀ (k : Nat) (s : State), let u := cfgCatch k s
    (u.get CONFIG_CMD_STATUS = stBusy → cfgFinish k s = s) ∧ (u.get CONFIG_CMD_STATUS ≠ stBusy → cfgFinish k s = u)) ∧
  (∀ (k : Nat) (s : State), let a := s.get cfgStepAt + (cfgBounds s).1
    cfgCatch 0 s = s ∧ (s.get CONFIG_CMD_STATUS = stBusy → s.get CONFIG_CMD_CODE = 1 → a ≤ s.now → cfgCatch (k + 1) s = cfgCatch k (writeNext (s.set cfgStepAt a))) ∧
    (s.get CONFIG_CMD_STATUS = stBusy → s.get CONFIG_CMD_CODE = 2 → a ≤ s.now → cfgCatch (k + 1) s = cfgCatch k (reconfNext (s.set cfgStepAt a))) ∧
    (s.now < a ∨ cfgRuns s = false → cfgCatch (k + 1) s = s)) ∧
  (∀ s : State, s.get CONFIG_CMD_CODE = 1 → let l := s.get cfgLen
    (s.get CONFIG_STAT_PHASE = 1 → cfgBounds s = (100000000, 400000000)) ∧ (s.get CONFIG_STAT_PHASE = 2 → cfgBounds s = (40960, 109226)) ∧
    (s.get CONFIG_STAT_PHASE = 3 → cfgBounds s = (l / 2, l + 2000000)) ∧ (s.get CONFIG_STAT_PHASE = 4 → cfgBounds s = (4000, 200000)) ∧
    (s.get CONFIG_STAT_PHASE = 5 → cfgBounds s = (200, 800)) ∧ (s.get CONFIG_STAT_PHASE = 6 → cfgBounds s = (0, 10))) ∧
  (∀ s : State, let k := s.get cfgTgt
    let a := slotBase k + 0x0FFFF000
    (s.get CONFIG_STAT_PHASE = 1 → writeNext s = ((s.set CONFIG_STAT_PHASE 2).set cfgRow 0).inc (LEDGER_LIVE_w_W (66 + k))) ∧
    (s.get CONFIG_STAT_PHASE = 2 → let u := rowPut (s.get cfgRow) s
      (u.get cfgLen ≤ 4096 * u.get cfgRow → writeNext s = u.set CONFIG_STAT_PHASE 3) ∧ (4096 * u.get cfgRow < u.get cfgLen → writeNext s = u)) ∧
    (s.get CONFIG_STAT_PHASE = 3 → writeNext s = if writeErr s = 0 then s.set CONFIG_STAT_PHASE 4 else cfgFail (writeErr s) (writeTime s)) ∧
    (s.get CONFIG_STAT_PHASE = 4 → writeNext s = (s.putWords a (sealWords k s)).set CONFIG_STAT_PHASE 5) ∧
    (s.get CONFIG_STAT_PHASE = 5 → writeNext s = ((s.putWord (a + 52) (s.wordAt (a + 4))).set (slotFull k) 1).set CONFIG_STAT_PHASE 6) ∧
    (s.get CONFIG_STAT_PHASE = 6 → writeNext s = cfgEnd (cfgFin s) ((writeTime s).set (cmdLate 0) 0))) ∧
  (∀ (q : Nat) (s : State), let k := s.get cfgTgt
    let u := rowPut q s
    u.get cfgRow = (q + 1) % 2 ^ cfgRow.width ∧
    u.mem = (s.putBytes (slotBase k + 4096 * q) (memTake s.mem (s.get cfgSrc + 4096 * q) 4096)).mem ∧
    (sealWords k s).length = 13 ∧ (sealWords k s).getD 0 0 = 0x5EA10A00 + k ∧ (sealWords k s).getD 1 0 = newGeneration s ∧
    (sealWords k s).getD 2 0 = imgWord (slotImg k s) 2 ∧ (sealWords k s).getD 3 0 = imgSecver (slotImg k s) ∧
    (writeErr s = 0 ↔ imgWord (slotImg k s) 2 = s.get cfgLen ∧ imgErr (slotImg k s) s = 0)) ∧
  (∀ s : State, s.get CONFIG_CMD_STATUS = stBusy → s.get CONFIG_CMD_CODE = 1 → s.get CONFIG_STAT_PHASE = 5 → s.get cfgStepAt + 200 ≤ s.now → let k := s.get cfgTgt
    ∃ t, exec (.evConfigDone none) s = .next t ∧ t.get CONFIG_CMD_STATUS = (if s.get (cmdLate 0) = 0 then stDone else stTooLate) ∧ t.get CONFIG_STAT_PHASE = 0 ∧
      t.get (slotFull k) = 1 ∧ t.wordAt (slotBase k + 0x0FFFF000 + 52) = s.wordAt (slotBase k + 0x0FFFF000 + 4)) ∧
  (∀ s : State, s.get CONFIG_CMD_STATUS = stBusy → s.get CONFIG_CMD_CODE = 1 → s.get CONFIG_STAT_PHASE = 3 → s.get cfgStepAt + s.get cfgLen / 2 ≤ s.now →
    let e := writeErr (s.set cfgStepAt (s.get cfgStepAt + s.get cfgLen / 2))
    e ≠ 0 → e < 64 → ∃ t, exec (.evConfigDone none) s = .next t ∧ t.get CONFIG_CMD_STATUS = stFailed ∧ t.get CONFIG_STAT_ERR = e ∧ t.get CONFIG_STAT_PHASE = 0) ∧
  (∀ (o : Nat) (b : Byte) (s : State), let u := cfgCatch (if s.get CONFIG_STAT_PHASE = 1 then o / 4096 + 1 else o / 4096 - s.get cfgRow) s
    (u.get CONFIG_STAT_PHASE ≠ 2 ∨ u.get cfgRow ≠ o / 4096 ∨ u.get cfgLen ≤ o → rowFail o b s = s) ∧
    (u.get CONFIG_STAT_PHASE = 2 → u.get cfgRow = o / 4096 → o < u.get cfgLen → rowFail o b s = cfgFail 0x15 (writeTime
      (u.putBytes (slotBase (u.get cfgTgt) + 4096 * (o / 4096)) (memTake u.mem (u.get cfgSrc + 4096 * (o / 4096)) (o % 4096) ++ [b]))))) ∧
  (∀ (o : BitVec 28) (b : Byte) (s : State), s.get CONFIG_CMD_STATUS = stBusy → s.get CONFIG_CMD_CODE = 1 → s.get CONFIG_STAT_PHASE = 2 → s.get cfgRow = o.toNat / 4096 →
    o.toNat < s.get cfgLen → ∃ t, exec (.evConfigDone (some (o, b))) s = .next t ∧ t.get CONFIG_CMD_STATUS = stFailed ∧ t.get CONFIG_STAT_ERR = 0x15 ∧
      t.get CONFIG_STAT_PHASE = 0 ∧ t.byteAt (slotBase (s.get cfgTgt) + o.toNat) = b ∧
      (∀ i < o.toNat % 4096, t.byteAt (slotBase (s.get cfgTgt) + o.toNat / 4096 * 4096 + i) = s.byteAt (s.get cfgSrc + o.toNat / 4096 * 4096 + i))) ∧
  (∀ (j : Nat) (s : State), j < 2 → slotSealed j s = true → sealRec j 1 s < newGeneration s) ∧
  (∀ s : State, let b := bitAt (Config.fresh s.freeCount).toNat 0
    (cfgRuns s = false ∨ s.now < s.get cfgStepAt + (cfgBounds s).1 → cfgTick s = s) ∧
    (cfgRuns s = true → s.get cfgStepAt + (cfgBounds s).1 ≤ s.now →
      cfgTick s = if s.get cfgStepAt + (cfgBounds s).2 ≤ s.now ∨ b = true then (cfgNext (s.set cfgStepAt s.now)).draw else s.draw)) ∧
  (∀ s : State,
    (s.get CONFIG_CMD_CODE = 1 → s.get CONFIG_STAT_PHASE < 6 → cfgAbort s = cfgEnd stAborted (writeTime s)) ∧
    (s.get CONFIG_CMD_CODE = 2 → s.get CONFIG_STAT_PHASE < 5 → cfgAbort s = cfgEnd stAborted (reconfTime (reconfBack s))) ∧
    ((s.get CONFIG_CMD_CODE = 1 ∧ 6 ≤ s.get CONFIG_STAT_PHASE) ∨ (s.get CONFIG_CMD_CODE = 2 ∧ 5 ≤ s.get CONFIG_STAT_PHASE) ∨ s.get CONFIG_CMD_CODE = 4 →
      cfgAbort s = s.set (cmdLate 0) 1)) ∧
  (∀ s : State, s.get CONFIG_CMD_STATUS ≠ stBusy →
    let b := slotBase (s.get CONFIG_STAT_RUN_SLOT) + 0x0FFFF000
    (s.get CONFIG_STAT_TRIAL = 0 → exec .confirm s = .next (cfgAfter ((s.cmdSet cfgCmd 3 stRefused).set CONFIG_STAT_ERR 0x30)) ∧
      exec .abandon s = .next (cfgAfter ((s.cmdSet cfgCmd 5 stRefused).set CONFIG_STAT_ERR 0x30))) ∧
    (s.get CONFIG_STAT_TRIAL ≠ 0 → ∃ t, exec .confirm s = .next t ∧ t.get CONFIG_CMD_CODE = 3 ∧ t.get CONFIG_CMD_STATUS = stDone ∧ t.wordAt (b + 256) = 0 ∧
      ∀ a, (a < 0x20000000 ∨ 0x21000000 ≤ a) → (a < b + 256 ∨ b + 260 ≤ a) → t.byteAt a = s.byteAt a) ∧
    (s.get CONFIG_STAT_TRIAL ≠ 0 → ∃ t, exec .abandon s = .next t ∧ t.get CONFIG_CMD_CODE = 5 ∧ t.get CONFIG_CMD_STATUS = stDone ∧
      (∀ i < 3, t.wordAt (b + 512 + 4 * i) = 0) ∧
      ∀ a, (a < 0x20000000 ∨ 0x21000000 ≤ a) → (a < b + 512 ∨ b + 524 ≤ a) → t.byteAt a = s.byteAt a)) ∧
  (∀ s : State, s.get CONFIG_CMD_STATUS ≠ stBusy →
    (runConfirmed s = false → exec .rollfwd s = .next (cfgAfter ((s.cmdSet cfgCmd 4 stRefused).set CONFIG_STAT_ERR 0x31))) ∧
    (runConfirmed s = true → exec .rollfwd s = .next ((s.cmdSet cfgCmd 4 stBusy).set cfgAt s.now))) ∧
  (∀ (good : Bool) (blown : BitVec 6) (s : State),
    (s.get CONFIG_CMD_STATUS ≠ stBusy ∨ s.get CONFIG_CMD_CODE ≠ 4 → exec (.rollfwdDone good blown) s = .next s) ∧
    (s.get CONFIG_CMD_STATUS = stBusy → s.get CONFIG_CMD_CODE = 4 → ∃ t, exec (.rollfwdDone good blown) s = .next t ∧
      (good = true → t.get rollCount = max (s.get rollCount) (runSecver s) ∧
        t.get CONFIG_CMD_STATUS = if s.get (cmdLate 0) = 0 then stDone else stTooLate) ∧
      (good = false → t.get rollCount = min (max (s.get rollCount) (runSecver s)) (s.get rollCount + blown.toNat) ∧
        t.get CONFIG_CMD_STATUS = (if s.get (cmdLate 0) = 0 then stFailed else stTooLate) ∧ t.get CONFIG_STAT_ERR = 0x32) ∧ t.get (cmdLate 0) = 0 ∧
      t.get CONFIG_FUSE_COUNT = t.get rollCount)) ∧
  (∀ (who : Req) (s : State), s.get CONFIG_KEY_CMD_STATUS ≠ stBusy →
    (who ≠ .d → progReason who s ≠ 0 → exec (.prog who) s = .next (keyAfter ((s.cmdSet keyCmd 1 stRefused).set CONFIG_KEY_ERR_ERR (progReason who s)))) ∧
    (progReason who s = 0 → ∃ t, exec (.prog who) s = .next t ∧ t.get CONFIG_KEY_CMD_CODE = 1 ∧ t.get CONFIG_KEY_CMD_STATUS = stBusy ∧
      t.get keyPendSlot = s.get CONFIG_KEY_ARG_SLOT ∧ t.get keyPendType = s.get CONFIG_KEY_ARG_TYPE ∧ t.get keyPendCask = s.get CONFIG_KEY_ARG_CASK ∧
      t.get keyPend = ofBytesBE (memTake s.mem (caskBase (s.get CONFIG_KEY_ARG_CASK)) (keyLen (s.get CONFIG_KEY_ARG_TYPE)) ++
        List.replicate (32 - keyLen (s.get CONFIG_KEY_ARG_TYPE)) 0) ∧ t.mem = s.mem ∧
      ∀ k < 8, t.get (keyFuse k) = s.get (keyFuse k) ∧ t.get (keyWork k) = s.get (keyWork k))) ∧
  (∀ (who : Req) (s : State), who ≠ .d → s.get CONFIG_KEY_CMD_STATUS = stBusy → exec (.prog who) s = .next s ∧ exec .revoke s = .next s) ∧
  (∀ (who : Req) (s : State), let y := s.get CONFIG_KEY_ARG_TYPE
    let o := caskOwner s (s.get CONFIG_KEY_ARG_CASK)
    (keyState (s.get CONFIG_KEY_ARG_SLOT) s ≠ 0 → progReason who s = 1) ∧ (keyState (s.get CONFIG_KEY_ARG_SLOT) s = 0 → (y = 0 ∨ 3 < y) → progReason who s = 2) ∧
    (keyState (s.get CONFIG_KEY_ARG_SLOT) s = 0 → 1 ≤ y → y ≤ 3 → (o ≠ reqUser who ∨ reqUser who = 0 → progReason who s = 3) ∧
      (o = reqUser who → reqUser who ≠ 0 → progReason who s = 0)) ∧ progReason .d s ≠ 0) ∧
  (∀ (k : Nat) (s : State), (s.get (keyRevoked k) ≠ 0 → keyState k s = 15) ∧ (s.get (keyRevoked k) = 0 → s.get (keyDamaged k) ≠ 0 → keyState k s = 14) ∧
    (s.get (keyRevoked k) = 0 → s.get (keyDamaged k) = 0 → keyState k s = s.get (keyType k))) ∧
  (∀ s : State, s.get CONFIG_KEY_CMD_STATUS ≠ stBusy →
    (keyState (s.get CONFIG_KEY_ARG_SLOT) s = 0 ∨ s.get verKey = s.get CONFIG_KEY_ARG_SLOT + 1 →
      exec .revoke s = .next (keyAfter ((s.cmdSet keyCmd 2 stRefused).set CONFIG_KEY_ERR_ERR 4))) ∧
    (keyState (s.get CONFIG_KEY_ARG_SLOT) s ≠ 0 → s.get verKey ≠ s.get CONFIG_KEY_ARG_SLOT + 1 →
      exec .revoke s = .next ((s.cmdSet keyCmd 2 stBusy).set keyPendSlot (s.get CONFIG_KEY_ARG_SLOT)))) ∧
  (∀ (good : Bool) (s : State),
    let k := s.get keyPendSlot
    let fin := if s.get (cmdLate 1) = 0 then stDone else stTooLate
    (s.get CONFIG_KEY_CMD_STATUS ≠ stBusy → exec (.evKeyDone good) s = .next s) ∧
    (s.get CONFIG_KEY_CMD_STATUS = stBusy → s.get CONFIG_KEY_CMD_CODE = 1 → good = true →
      ∃ u, exec (.evKeyDone good) s = .next (raiseEvent 0x002 u) ∧ u.get (keyFuse k) = s.get keyPend ∧ u.get (keyType k) = s.get keyPendType ∧
        u.get (keyWork k) = s.get keyPend ∧ u.get keyPend = 0 ∧ u.get CONFIG_KEY_CMD_STATUS = fin ∧
        ∀ i < keyLen (s.get keyPendType), u.byteAt (caskBase (s.get keyPendCask) + i) = 0) ∧
    (s.get CONFIG_KEY_CMD_STATUS = stBusy → s.get CONFIG_KEY_CMD_CODE ≠ 1 → good = true →
      ∃ u, exec (.evKeyDone good) s = .next (raiseEvent 0x002 u) ∧ u.get (keyRevoked k) = 1 ∧ keyState k u = 15 ∧ u.get CONFIG_KEY_CMD_STATUS = fin ∧
        u.mem = s.mem) ∧
    (s.get CONFIG_KEY_CMD_STATUS = stBusy → good = false → ∃ t, exec (.evKeyDone good) s = .next t ∧ t.get CONFIG_KEY_CMD_STATUS = (if s.get (cmdLate 1) = 0 then stFailed else stTooLate) ∧ t.get (cmdLate 1) = 0 ∧
      t.get CONFIG_KEY_ERR_ERR = 5 ∧ t.get (keyDamaged k) = 1 ∧ t.get keyPend = 0)) ∧
  (∀ (k w : Nat) (s : State), keyState k s = 0 → keyPrint k w s = 0) ∧
  (∀ s : State, let u := debugSeen .d s
    (s.get BIST_DBG_LEVEL = 2 → s.get CONFIG_KEY_CMD_STATUS ≠ stBusy →
      exec (.prog .d) s = .next (keyAfter ((u.cmdSet keyCmd 1 stRefused).set CONFIG_KEY_ERR_ERR (progReason .d s)))) ∧
    (s.get BIST_DBG_LEVEL ≠ 2 → exec (.prog .d) s = .next (violation 3 CONFIG_KEY_CMD_CODE.addr true u)))

/-- R453 to R457: a reconfiguration is judged, isolates its Stalls, runs its steps, and ends with the Stalls swapped or back as they were; a bank
takes its points. When a step ends between its stated bounds is the model's choice (log entry 96). Readings and choices of the model: log entries
66, 96. -/
def Obligations.ReconfigurationSwapsBanks : Prop :=
  (∀ s : State, s.get CONFIG_CMD_STATUS ≠ stBusy →
    (reconfReason s ≠ 0 → exec .reconf s = .next (cfgAfter ((s.cmdSet cfgCmd 2 stRefused).set CONFIG_STAT_ERR (reconfReason s)))) ∧
    (reconfReason s = 0 → ∃ t, exec .reconf s = .next t ∧ t.get CONFIG_CMD_CODE = 2 ∧ t.get CONFIG_CMD_STATUS = stBusy ∧ t.get CONFIG_STAT_PHASE = 1 ∧
      ∀ p ∈ pairList (s.get CONFIG_ARG_STALL) s, t.get (PWM_STAT_STATE p) = 4 ∧ t.get (isoPrev p) = s.get (PWM_STAT_STATE p))) ∧
  (∀ s : State, (s.get (PWM_CTRL_PAIR (s.get CONFIG_ARG_STALL)) = 2 → reconfReason s = 0x20) ∧
    (reconfReason s = 0 → ∀ p ∈ pairList (s.get CONFIG_ARG_STALL) s, isolable p s = true)) ∧
  (∀ s : State, s.get CONFIG_CMD_STATUS = stBusy → exec .reconf s = .next s) ∧
  (∀ s : State, (s.get CONFIG_CMD_STATUS ≠ stBusy ∨ s.get CONFIG_CMD_CODE ≠ 2 → exec .reconfDone s = .next s) ∧
    (s.get CONFIG_CMD_STATUS = stBusy → s.get CONFIG_CMD_CODE = 2 → exec .reconfDone s = .next (cfgFinish 7 s))) ∧
  (∀ s : State, s.get CONFIG_CMD_CODE = 2 → let b := reconfBytes s
    (s.get CONFIG_STAT_PHASE = 1 → cfgBounds s = (0, 400)) ∧ (s.get CONFIG_STAT_PHASE = 2 → cfgBounds s = ((b + 1) / 2, b)) ∧
    (s.get CONFIG_STAT_PHASE = 3 → cfgBounds s = (100000, 800000)) ∧ (s.get CONFIG_STAT_PHASE = 4 → cfgBounds s = (20, 200)) ∧
    (s.get CONFIG_STAT_PHASE = 5 → cfgBounds s = (40000, 600000)) ∧ (s.get CONFIG_STAT_PHASE = 6 → cfgBounds s = (0, 10))) ∧
  (∀ s : State, let l := cfgStalls s
    let k := s.get cfgFrom
    (s.get CONFIG_STAT_PHASE = 1 → reconfNext s = s.set CONFIG_STAT_PHASE 2) ∧
    (s.get CONFIG_STAT_PHASE = 2 → ((∀ n ∈ l, sectionMatches n k s = true) → reconfNext s = s.set CONFIG_STAT_PHASE 3) ∧
      ((∃ n ∈ l, sectionMatches n k s = false) → reconfNext s = cfgFail 0x28 (reconfTime (reconfBack s)))) ∧
    (s.get CONFIG_STAT_PHASE = 3 → reconfNext s = (s.each l (reconfPoints k)).set CONFIG_STAT_PHASE 4) ∧
    (s.get CONFIG_STAT_PHASE = 4 → reconfNext s = (s.each l reconfSwap).set CONFIG_STAT_PHASE 5) ∧
    (s.get CONFIG_STAT_PHASE = 5 → reconfNext s = ((logReset s).each l (reconfEntries k)).set CONFIG_STAT_PHASE 6)) ∧
  (∀ s : State, reconfTime s = s.set CONFIG_TIME_RECONF (clampU 16 ((s.now - s.get cfgAt) / 200))) ∧
  (∀ s : State, s.get CONFIG_CMD_STATUS = stBusy → s.get CONFIG_CMD_CODE = 2 → s.get CONFIG_STAT_PHASE = 6 → s.get cfgStepAt ≤ s.now →
    ∃ t, exec .reconfDone s = .next t ∧ t.get CONFIG_CMD_STATUS = (if s.get (cmdLate 0) = 0 then stDone else stTooLate) ∧ t.get CONFIG_STAT_PHASE = 0 ∧ t.get cfgMask = 0 ∧
      t.get CONFIG_TIME_RECONF = clampU 16 ((s.now - s.get cfgAt) / 200) ∧ ∀ n < 4, bitAt (s.get cfgMask) n = true → domainSrc (n + 1) t = s.get cfgFrom % 4) ∧
  (∀ s : State, s.get CONFIG_CMD_STATUS = stBusy → s.get CONFIG_CMD_CODE = 2 → s.get CONFIG_STAT_PHASE = 2 → s.get cfgStepAt + (reconfBytes s + 1) / 2 ≤ s.now →
    (∃ n < 4, bitAt (s.get cfgMask) n = true ∧ sectionMatches n (s.get cfgFrom) s = false) →
    ∃ t, exec .reconfDone s = .next t ∧ t.get CONFIG_CMD_STATUS = stFailed ∧ t.get CONFIG_STAT_ERR = 0x28 ∧ t.get cfgMask = 0 ∧ t.get CONFIG_STAT_PHASE = 0) ∧
  (∀ (k n : Nat) (s : State), (reconfSwap n s = s.set (fabBank n) (1 - s.get (fabBank n))) ∧
    reconfPoints k n s = fabLoad (n + 1) (1 - s.get (fabBank n)) (domainSection (n + 1) (slotImg k s)).1 s) ∧
  (∀ (n : Nat) (s : State), n < 4 → (unisolate n s).mem = s.mem ∧ (isolate n s).get (PWM_STAT_STATE n) = 4 ∧ (isolate n s).get (isoPrev n) = s.get (PWM_STAT_STATE n)) ∧
  (∀ (d b w : Nat) (l : List Nat) (s : State), w < l.length → (fabLoad d b l s).get (fabWord d b w) = l.getD w 0 % 2 ^ 32) ∧
  (∀ (d b : Nat) (l : List Nat) (s : State), (fabLoad d b l s).mem = s.mem)

/-- R462 to R469: runs, retests and burns are judged and started, the scheduler keeps the power budget, a run that finds nothing reads so, and a
burn blows the next free entry of the fuse map. Readings and choices of the model: log entries 64, 67. -/
def Obligations.SelfTestKeepsBudgetAndMap : Prop :=
  (∀ s : State, s.get BIST_CMD_STATUS ≠ stBusy →
    (runReason s ≠ 0 → exec .bistRun s = .next (bistRefuse (runReason s) (s.cmdSet bistCmd 1 stRefused))) ∧
    (runReason s = 0 → ∃ t, exec .bistRun s = .next t ∧ t.get BIST_CMD_CODE = 1 ∧ t.get BIST_CMD_STATUS = stBusy ∧
      t.get bistAt = s.now ∧ t.get bistGrp = s.get BIST_CFG_YGRP ∧ t.get BIST_PWR_PEAK ≤ s.get BIST_PWR_BUDGET ∧ t.mem = s.mem)) ∧
  (∀ s : State, s.get BIST_CMD_STATUS = stBusy → exec .bistRun s = .next s ∧ exec .retest s = .next s ∧ exec .burn s = .next s) ∧
  (∀ s : State, let m := s.get BIST_CFG_YGRP
    (m % 16 ≠ 0 ∨ m = 0 → runReason s = 2) ∧ (m = 16 → s.get REMOUNT_STAT_HELD ≠ 0 → runReason s = 3) ∧
    (m = 128 → (∃ k < 2, s.get (AUX_Ak_CTRL_EN k) ≠ 0) → runReason s = 4) ∧ (m = 256 → dramRangeOk s = false → runReason s = 5) ∧
    (m = 16 → s.get REMOUNT_STAT_HELD = 0 → s.get BIST_PWR_BUDGET < 3 → runReason s = 8) ∧
    (m = 16 → s.get REMOUNT_STAT_HELD = 0 → 3 ≤ s.get BIST_PWR_BUDGET → runReason s = 0)) ∧
  (∀ (budget now : Nat) (l : List (Nat × Nat)), (∀ g ∈ l, g.1 ≤ budget) → schedPeak budget l now [] ≤ budget) ∧
  (∀ s : State, s.get BIST_CMD_STATUS ≠ stBusy →
    (retestReason s ≠ 0 → exec .retest s = .next (bistRefuse (retestReason s) (s.cmdSet bistCmd 2 stRefused))) ∧
    (retestReason s = 0 → ∃ t, exec .retest s = .next t ∧ t.get BIST_CMD_CODE = 2 ∧ t.get BIST_CMD_STATUS = stBusy ∧ t.get BIST_STAT_PHASE = 1 ∧
      t.get bistAt = s.now ∧ t.get bistGrp = s.get BIST_CFG_SGRP ∧ t.get bistSwapped = 0 ∧ t.get bistAborted = 0 ∧ ∀ p ∈ pairList (s.get BIST_CFG_RSTALL) s, t.get (PWM_STAT_STATE p) = 4)) ∧
  (∀ (fails : List BistFail) (spareOk : Bool) (s : State),
    (s.get BIST_CMD_STATUS ≠ stBusy ∨ (s.get BIST_CMD_CODE ≠ 1 ∧ s.get BIST_CMD_CODE ≠ 2) → exec (.evBistDone fails spareOk) s = .next s) ∧
    (s.get BIST_CMD_STATUS = stBusy → s.get BIST_CMD_CODE = 1 → ∃ t, exec (.evBistDone fails spareOk) s = .next t ∧ t.get BIST_CMD_STATUS = stDone) ∧
    (s.get BIST_CMD_STATUS = stBusy → s.get BIST_CMD_CODE = 1 → s.get bistGrp ≠ 0 → fails = [] → ∃ t, exec (.evBistDone fails spareOk) s = .next t ∧
      t.get BIST_RES_Y_G = ((groupsOf 9 (s.get bistGrp)).map (fun g => 4 ^ g)).sum ∧ t.get BIST_FAIL_CNT_COUNT = 0 ∧ t.get BIST_FAIL_CNT_LOST = 0 ∧
      t.get BIST_STAT_KIND = 2) ∧
    (s.get BIST_CMD_STATUS = stBusy → s.get BIST_CMD_CODE = 2 →
      (s.get bistAborted = 0 → s.get bistSwapped = 0 → s.get bistAt + 20020 ≤ s.now → ∃ t, exec (.evBistDone fails spareOk) s = .next t ∧ t.get bistSwapped = 1 ∧
        t.get bistRegAt = s.now ∧ t.get BIST_STAT_PHASE = 4 ∧ t.get BIST_STAT_KIND = 3) ∧
      (s.get bistAborted ≠ 0 ∨ s.get bistSwapped ≠ 0 ∨ s.now < s.get bistAt + 20020 → exec (.evBistDone fails spareOk) s = .next s))) ∧
  (∀ s : State,
    let due := s.get BIST_CMD_STATUS = stBusy ∧ s.get BIST_CMD_CODE = 2 ∧ (s.get bistSwapped ≠ 0 ∨ s.get bistAborted ≠ 0) ∧ s.get bistRegAt + 40000 ≤ s.now
    let u := (logReset s).each (bistStalls s) (retestStall (bitAt (s.get bistGrp) 4))
    (¬ due → exec .evRetestDone s = .next s) ∧
    (due → ∃ t, exec .evRetestDone s = .next t ∧ t.get bistMask = 0 ∧ t.get BIST_STAT_PHASE = 0 ∧ t.get bistSwapped = 0 ∧ t.get bistAborted = 0 ∧
      t.get BIST_CMD_STATUS = if u.get bistAborted ≠ 0 then stAborted else if u.get (cmdLate 2) ≠ 0 then stTooLate else stDone)) ∧
  (∀ s : State, s.get BIST_CMD_STATUS ≠ stBusy →
    let bad := [0, 1, 2, 3].any (fun n => switching n s) || [0, 1].any (fun k => s.flag (AUX_Ak_CTRL_EN k))
    (bad = true → exec .burn s = .next (bistRefuse 9 (s.cmdSet bistCmd 3 stRefused))) ∧
    (bad = false → exec .burn s = .next ((s.cmdSet bistCmd 3 stBusy).set bistAt s.now))) ∧
  (∀ (stop : Option (BitVec 7)) (s : State),
    (s.get BIST_CMD_STATUS ≠ stBusy ∨ s.get BIST_CMD_CODE ≠ 3 → exec (.burnDone stop) s = .next s) ∧
    (s.get BIST_CMD_STATUS = stBusy → s.get BIST_CMD_CODE = 3 → stop ≠ none → ∃ t, exec (.burnDone stop) s = .next t ∧
      t.get BIST_CMD_STATUS = (if s.get (cmdLate 2) = 0 then stFailed else stTooLate) ∧ t.get (cmdLate 2) = 0) ∧
    (s.get BIST_CMD_STATUS = stBusy → s.get BIST_CMD_CODE = 3 → stop = none → (burnAll (burnList s) s).1 = true → ∃ t, exec (.burnDone stop) s = .next t ∧
      t.get BIST_CMD_STATUS = (if s.get (cmdLate 2) = 0 then stDone else stTooLate) ∧ ∀ j ∈ burnList s, t.get (BIST_MAPj_FUSED j) = 1)) ∧
  (∀ s : State, (s.get BIST_CMD_CODE = 1 → bistAbort s = raiseEvent 0x00E (s.cmdEnd bistCmd stAborted)) ∧
    (s.get BIST_CMD_CODE = 2 → s.get bistSwapped = 0 → bistAbort s = ((s.set bistAborted 1).set bistRegAt s.now).set BIST_STAT_PHASE 4) ∧
    (s.get BIST_CMD_CODE = 3 ∨ (s.get BIST_CMD_CODE = 2 ∧ s.get bistSwapped ≠ 0) → bistAbort s = s.set (cmdLate 2) 1)) ∧
  (∀ (j : Nat) (s u : State), j < 64 → burnOne j s = some u → u.get (BIST_MAPj_FUSED j) = 1 ∧ ∃ i < 64, s.get (BIST_FUSEj_W i) = 0 ∧
    bitAt (u.get (BIST_FUSEj_W i)) 31 = true ∧ ∀ k < 64, k ≠ i → u.get (BIST_FUSEj_W k) = s.get (BIST_FUSEj_W k))

/-- R517, with R482 and R483: the output balls before their I/O rail is in band; at rest once the power-on reset is released; and what drives them
from then on: a command pair and a `DN` pair differential-low but for the line on and a frame on the link, a contactor's command and `SYNC_OUT` at
their level, the others at rest until their block enables them. What a ball shows is derived from the state (`ballState`, log entry 108). Readings
and choices of the model: log entry 108. -/
def Obligations.BallStatesAtStartAndEnabled : Prop :=
  (∀ (n : Fin 4) (i : Fin 6) (k j : Fin 2) (l : Fin 14) (s : State), s.get ioUp = 0 →
    ballState (.cmd n i) s = .highZ ∧ ballState (.auxCmd k) s = .highZ ∧ ballState (.dn l) s = .highZ ∧ ballState (.ctcCmd n) s = .low ∧
    ballState (.canTx n) s = .highZ ∧ ballState .bfCs s = .highZ ∧ ballState .hspiCs s = .highZ ∧ ballState (.modClk n) s = .highZ ∧
    ballState .syncOut s = .highZ ∧ ballState .trace s = .highZ ∧ ballState (.posExc n) s = .highZ ∧ ballState (.posB n) s = .receiver ∧
    ballState (.ethTrx k) s = .highZ ∧ ballState (.vsens j) s = .off ∧ ballState .tdo s = .highZ) ∧
  (∀ (n : Fin 4) (i : Fin 6) (k j : Fin 2) (l : Fin 14) (s : State), s.get offState ≠ 0 → ∃ u t, exec .powerUp s = .next u ∧
    ballState (.cmd n i) u = .highZ ∧ ballState (.dn l) u = .highZ ∧ exec (.porRelease true) u = .next t ∧
    ballState (.cmd n i) t = .diffLow ∧ ballState (.auxCmd k) t = .diffLow ∧ ballState (.dn l) t = .diffLow ∧ ballState (.ctcCmd n) t = .low ∧
    ballState (.canTx n) t = .high ∧ ballState .bfCs t = .high ∧ ballState .hspiCs t = .high ∧ ballState (.modClk n) t = .low ∧
    ballState .syncOut t = .low ∧ ballState .trace t = .low ∧ ballState (.posExc n) t = .commonMode ∧ ballState (.posB n) t = .receiver ∧
    ballState (.ethTrx k) t = .silent ∧ ballState (.vsens j) t = .off ∧ ballState .tdo t = .highZ) ∧
  (∀ (n : Fin 4) (i : Fin 6) (k j : Fin 2) (l : Fin 14) (s : State), s.get ioUp ≠ 0 →
    ballState (.cmd n i) s = (if (s.get (PWM_LINES_LINE n)).testBit i = true then .diffHigh else .diffLow) ∧
    ballState (.auxCmd k) s = (if s.get (AUX_Ak_STAT_LINE k) ≠ 0 then .diffHigh else .diffLow) ∧
    (ballState (.dn l) s = .driven ↔ s.get (reinDnAt l) ≤ s.now ∧ s.now < s.get (reinDnEnd l)) ∧
    (ballState (.dn l) s = .driven ∨ ballState (.dn l) s = .diffLow) ∧
    ballState (.ctcCmd n) s = (if (s.get CTC_STAT_OUT).testBit n = true then .high else .low) ∧
    (ballState (.canTx n) s = .high ↔ s.get (CAN_CTRL_EN n) = 0) ∧ (ballState (.modClk n) s = .low ↔ s.get (MOD_CTRL_EN n) = 0) ∧
    ballState .syncOut s = (if s.get syncOut ≠ 0 then .high else .low) ∧ (ballState (.posExc n) s = .commonMode ↔ s.get (POS_CTRL_EXC_EN n) = 0) ∧
    (ballState (.posB n) s = .receiver ↔ s.get (POS_CTRL_EN n) = 0 ∨ s.get (POS_CTRL_PRIM n) ≠ 3) ∧
    (ballState (.ethTrx k) s = .silent ↔ s.get (ETH_Pp_CTRL_EN (k + 1)) = 0) ∧
    (ballState (.vsens j) s = .driven ↔ (s.get POWER_VSENS_EN).testBit j = true ∧ (s.get POWER_VSENS_OVL).testBit j = false))

/-- R471 to R473: the debug levels while the open fuse is blown, and the scan instructions. An open part stays at level 2. Readings and choices of
the model: log entry 68. -/
def Obligations.DebugLevelsAndScan : Prop :=
  (∀ s : State, s.get BIST_DBG_CMD_STATUS ≠ stBusy → s.get BIST_DBG_CLOSED = 0 →
    exec .close s = .next (s.cmdSet dbgCmd 0x10 stDone) ∧ exec .openRead s = .next (s.cmdSet dbgCmd 0x11 stDone) ∧
      exec .openWrite s = .next (s.cmdSet dbgCmd 0x12 stDone)) ∧
  (∀ s : State, s.get BIST_DBG_CMD_STATUS ≠ stBusy → s.get BIST_DBG_CLOSED ≠ 0 →
    (s.get BIST_DBG_LEVEL = 0 → exec .close s = .next (s.cmdSet dbgCmd 0x10 stDone)) ∧
    (s.get BIST_DBG_LEVEL ≠ 0 → exec .close s = .next (raiseEvent 0x00F ((s.cmdSet dbgCmd 0x10 stDone).set BIST_DBG_LEVEL 0))) ∧
    (s.get BIST_DBG_LEVEL = 1 → exec .openRead s = .next (s.cmdSet dbgCmd 0x11 stDone)) ∧
    (s.get BIST_DBG_LEVEL ≠ 1 → exec .openRead s = .next (raiseEvent 0x00F ((s.cmdSet dbgCmd 0x11 stDone).set BIST_DBG_LEVEL 1))) ∧
    (s.get BIST_DBG_LEVEL = 2 → exec .openWrite s = .next (s.cmdSet dbgCmd 0x12 stDone)) ∧
    (s.get BIST_DBG_LEVEL ≠ 2 → exec .openWrite s = .next (raiseEvent 0x00F ((s.cmdSet dbgCmd 0x12 stDone).set BIST_DBG_LEVEL 2)))) ∧
  (∀ s : State, s.get BIST_DBG_CMD_STATUS = stBusy → exec .close s = .next s ∧ exec .openRead s = .next s ∧ exec .openWrite s = .next s ∧ exec .lockdown s = .next s) ∧
  (∀ s : State, s.get BIST_DBG_CMD_STATUS ≠ stBusy →
    exec .lockdown s = .next (((s.cmdSet dbgCmd 0x20 stDone).set dbgClosed 1).set BIST_DBG_CLOSED 1)) ∧
  (∀ s : State, (s.get BIST_DBG_LEVEL ≠ 2 → scanAllowed s = false) ∧ (∀ n < 4, s.get (pwmPinHigh n) ≠ 0 → scanAllowed s = false)) ∧
  (∀ (on : Bool) (s : State), exec (.extest on) s = .next (ctcApply true ((debugSeen .d s).setB extestOn (on && scanAllowed s)))) ∧
  (∀ (on : Bool) (s : State), on = true → scanAllowed s = true → ∃ t, exec (.extest on) s = .next t ∧ t.get extestOn = 1 ∧
    ∀ k < 4, bitAt (t.get CTC_STAT_OUT) k = false) ∧
  (∀ (clean : Bool) (s : State), (scanAllowed (debugSeen .d s) = false → exec (.intscan clean) s = .next (debugSeen .d s)) ∧
    (scanAllowed (debugSeen .d s) = true → ∃ t, exec (.intscan clean) s = .next t ∧ t.get scanOn = (if clean then 1 else 2) ∧ t.get SYS_RST_CAUSE_KIND = 7 ∧
      t.get resetHeld = 1 ∧ (∀ k < 8, t.get (keyWork k) = 0) ∧ ∀ a, 0x10000000 ≤ a → a < 0x40030000 → t.byteAt a = memDefault a))
end

