-- ==== Sys2Proof/Laws/State.lean ====
section
/-!
SUPPORT. The small laws of the state: what reading a field gives after a field or another part of the state was written, and that the
sparse tables keep their canonical form.
-/

namespace Sys2Proof.Machine

/-! ### The sparse table -/

theorem storeGet_drop_same (d k : Nat) (t : Store) : storeGet d k (storeDrop k t) = d := by
  induction t with
  | nil => rfl
  | cons e r ih => unfold storeDrop; split <;> simp_all [storeGet]

theorem storeGet_drop_ne (d : Nat) {k j : Nat} (h : j ≠ k) (t : Store) : storeGet d j (storeDrop k t) = storeGet d j t := by
  induction t with
  | nil => rfl
  | cons e r ih => unfold storeDrop; split <;> simp_all [storeGet]; omega

theorem storeGet_ins_ne (d : Nat) {k j : Nat} (v : Nat) (h : j ≠ k) (t : Store) : storeGet d j (storeIns k v t) = storeGet d j t := by
  induction t with
  | nil => simp [storeIns, storeGet]; omega
  | cons e r ih =>
    unfold storeIns; split
    · rw [storeGet]; split
      · omega
      · rfl
    · simp only [storeGet, ih]

theorem storeGet_ins_drop (d k v : Nat) (t : Store) : storeGet d k (storeIns k v (storeDrop k t)) = v := by
  induction t with
  | nil => simp [storeDrop, storeIns, storeGet]
  | cons e r ih =>
    unfold storeDrop; split
    · exact ih
    · unfold storeIns; split <;> simp_all [storeGet]

theorem storeGet_set_same (d k v : Nat) (t : Store) : storeGet d k (storeSet d k v t) = v := by
  unfold storeSet; split
  · rw [storeGet_drop_same]; omega
  · exact storeGet_ins_drop d k v t

theorem storeGet_set_ne (d e : Nat) {k j : Nat} (v : Nat) (h : j ≠ k) (t : Store) : storeGet d j (storeSet e k v t) = storeGet d j t := by
  unfold storeSet; split
  · exact storeGet_drop_ne d h t
  · rw [storeGet_ins_ne d v h, storeGet_drop_ne d h]

theorem storeSorted_iff (t : Store) : storeSorted t = true ↔ t.Pairwise (fun a b => a.1 < b.1) := by
  induction t with
  | nil => simp [storeSorted]
  | cons e r ih =>
    cases r with
    | nil => simp [storeSorted]
    | cons g r =>
      have : storeSorted (e :: g :: r) = (decide (e.1 < g.1) && storeSorted (g :: r)) := rfl
      rw [this, Bool.and_eq_true, ih, decide_eq_true_eq]
      constructor
      · rintro ⟨h1, h2⟩
        refine List.pairwise_cons.2 ⟨fun a ha => ?_, h2⟩
        rcases List.mem_cons.1 ha with rfl | ha
        · exact h1
        · exact lt_trans h1 (List.rel_of_pairwise_cons h2 ha)
      · intro h
        obtain ⟨h1, h2⟩ := List.pairwise_cons.1 h
        exact ⟨h1 g (List.mem_cons_self), h2⟩

theorem storeDrop_eq (k : Nat) (t : Store) : storeDrop k t = t.filter (fun e => e.1 != k) := by
  induction t with
  | nil => rfl
  | cons e r ih => unfold storeDrop; split <;> simp_all

theorem storeSorted_filter (p : Nat × Nat → Bool) {t : Store} (h : storeSorted t = true) : storeSorted (t.filter p) = true := by
  rw [storeSorted_iff] at *; exact h.filter p

theorem storeSorted_drop (k : Nat) {t : Store} (h : storeSorted t = true) : storeSorted (storeDrop k t) = true := by
  rw [storeDrop_eq]; exact storeSorted_filter _ h

theorem storeIns_mem {k v : Nat} {t : Store} {e : Nat × Nat} (h : e ∈ storeIns k v t) : e = (k, v) ∨ e ∈ t := by
  induction t with
  | nil => simpa [storeIns] using h
  | cons g r ih =>
    unfold storeIns at h; split at h
    · simpa using h
    · rcases List.mem_cons.1 h with rfl | h
      · simp
      · rcases ih h with h | h <;> simp [h]

theorem storeSorted_ins (k v : Nat) {t : Store} (h : storeSorted t = true) (hk : ∀ e ∈ t, e.1 ≠ k) :
    storeSorted (storeIns k v t) = true := by
  rw [storeSorted_iff] at *
  induction t with
  | nil => simp [storeIns]
  | cons e r ih =>
    obtain ⟨h1, h2⟩ := List.pairwise_cons.1 h
    unfold storeIns; split
    · rename_i hlt
      refine List.pairwise_cons.2 ⟨fun a ha => ?_, h⟩
      rcases List.mem_cons.1 ha with rfl | ha
      · exact hlt
      · exact lt_trans hlt (h1 a ha)
    · refine List.pairwise_cons.2 ⟨fun a ha => ?_, ih h2 (fun a ha => hk a (List.mem_cons_of_mem _ ha))⟩
      rcases storeIns_mem ha with rfl | ha
      · have := hk e List.mem_cons_self; simp only; omega
      · exact h1 a ha

theorem storeSorted_put (k v : Nat) {t : Store} (h : storeSorted t = true) : storeSorted (storeIns k v (storeDrop k t)) = true := by
  refine storeSorted_ins k v (storeSorted_drop k h) (fun e he => ?_)
  rw [storeDrop_eq] at he; simpa using (List.mem_filter.1 he).2

theorem storeSorted_set (d k v : Nat) {t : Store} (h : storeSorted t = true) : storeSorted (storeSet d k v t) = true := by
  unfold storeSet; split
  · exact storeSorted_drop k h
  · exact storeSorted_put k v h

/-! ### Fields -/

/-- A field reads what was last written to it, cut to its width. -/
theorem State.get_set_same (s : State) (f : Fld) (v : Nat) : (s.set f v).get f = v % 2 ^ f.width := by
  unfold State.get State.set; rw [storeGet_set_same, Nat.mod_mod]

/-- A field reads below 2 to its width. -/
theorem State.get_lt (s : State) (f : Fld) : s.get f < 2 ^ f.width := Nat.mod_lt _ (Nat.two_pow_pos _)

/-- Writing a field leaves every other field. -/
theorem State.get_set_ne (s : State) (f g : Fld) (v : Nat) (h : g.key ≠ f.key) : (s.set f v).get g = s.get g := by
  unfold State.get State.set; rw [storeGet_set_ne _ _ _ h]

@[simp] theorem State.set_tbNow (s : State) (f : Fld) (v : Nat) : (s.set f v).tbNow = s.tbNow := rfl
@[simp] theorem State.set_mem (s : State) (f : Fld) (v : Nat) : (s.set f v).mem = s.mem := rfl
@[simp] theorem State.set_held (s : State) (f : Fld) (v : Nat) : (s.set f v).held = s.held := rfl
@[simp] theorem State.set_snaps (s : State) (f : Fld) (v : Nat) : (s.set f v).snaps = s.snaps := rfl
@[simp] theorem State.set_bus (s : State) (f : Fld) (v : Nat) : (s.set f v).bus = s.bus := rfl
@[simp] theorem State.set_logStage (s : State) (f : Fld) (v : Nat) : (s.set f v).logStage = s.logStage := rfl
@[simp] theorem State.set_faultHeld (s : State) (f : Fld) (v : Nat) : (s.set f v).faultHeld = s.faultHeld := rfl
@[simp] theorem State.set_canTx (s : State) (f : Fld) (v : Nat) : (s.set f v).canTx = s.canTx := rfl
@[simp] theorem State.set_ethTx (s : State) (f : Fld) (v : Nat) : (s.set f v).ethTx = s.ethTx := rfl
@[simp] theorem State.set_ethRx (s : State) (f : Fld) (v : Nat) : (s.set f v).ethRx = s.ethRx := rfl
@[simp] theorem State.set_dn (s : State) (f : Fld) (v : Nat) : (s.set f v).dn = s.dn := rfl
@[simp] theorem State.set_yokeBuf (s : State) (f : Fld) (v : Nat) : (s.set f v).yokeBuf = s.yokeBuf := rfl
@[simp] theorem State.set_yokeOwed (s : State) (f : Fld) (v : Nat) : (s.set f v).yokeOwed = s.yokeOwed := rfl
@[simp] theorem State.set_ledSnap (s : State) (f : Fld) (v : Nat) : (s.set f v).ledSnap = s.ledSnap := rfl
@[simp] theorem State.set_entries (s : State) (f : Fld) (v : Nat) : (s.set f v).entries = s.entries := rfl
@[simp] theorem State.set_yokeFw (s : State) (f : Fld) (v : Nat) : (s.set f v).yokeFw = s.yokeFw := rfl
@[simp] theorem State.set_freeCount (s : State) (f : Fld) (v : Nat) : (s.set f v).freeCount = s.freeCount := rfl
@[simp] theorem State.set_pending (s : State) (f : Fld) (v : Nat) : (s.set f v).pending = s.pending := rfl

/-- A state with another bus response reads the same fields. -/
@[simp] theorem State.get_bus (s : State) (b : Resp) (f : Fld) : State.get { s with bus := b } f = s.get f := rfl
@[simp] theorem State.get_pending (s : State) (l : List Instr) (f : Fld) : State.get { s with pending := l } f = s.get f := rfl
@[simp] theorem State.get_tbNow (s : State) (t : BitVec 64) (f : Fld) : State.get { s with tbNow := t } f = s.get f := rfl
@[simp] theorem State.get_mem (s : State) (m : List Host.Cell) (f : Fld) : State.get { s with mem := m } f = s.get f := rfl
@[simp] theorem State.get_busOk (s : State) (f : Fld) : (busOk s).get f = s.get f := rfl
@[simp] theorem State.get_busErr (s : State) (f : Fld) : (busErr s).get f = s.get f := rfl
@[simp] theorem State.get_draw (s : State) (f : Fld) : s.draw.get f = s.get f := rfl

@[simp] theorem State.when_true (s : State) (f : State → State) : s.when true f = f s := rfl
@[simp] theorem State.when_false (s : State) (f : State → State) : s.when false f = s := rfl

end Sys2Proof.Machine
end

