-- ==== Sys2Proof/Laws/Keeps.lean ====
section
/-!
SUPPORT. `Keeps s t`: from `s` to `t` the sparse tables and memory stay in their canonical forms and the queue of commands stays as it is. This
file has the relation, its composition, and the memory operations; the files beside it show it of each shared operation and each meaning.
-/

namespace Sys2Proof.Machine

/-! ### Memory -/

theorem memGet_drop_same (a : Nat) (m : List Host.Cell) : memGet a (memDrop a m) = memDefault a := by
  induction m with
  | nil => rfl
  | cons e r ih => unfold memDrop; split <;> simp_all [memGet]

theorem memGet_drop_ne {a b : Nat} (h : b ≠ a) (m : List Host.Cell) : memGet b (memDrop a m) = memGet b m := by
  induction m with
  | nil => rfl
  | cons e r ih => unfold memDrop; split <;> simp_all [memGet]; omega

theorem memGet_ins_drop (a : Nat) (v : Byte) (m : List Host.Cell) : memGet a (memIns a v (memDrop a m)) = v := by
  induction m with
  | nil => simp [memDrop, memIns, memGet]
  | cons e r ih =>
    unfold memDrop; split
    · exact ih
    · unfold memIns; split <;> simp_all [memGet]

theorem memGet_ins_ne {a b : Nat} (v : Byte) (h : b ≠ a) (m : List Host.Cell) : memGet b (memIns a v m) = memGet b m := by
  induction m with
  | nil => simp [memIns, memGet]; omega
  | cons e r ih =>
    unfold memIns; split
    · rw [memGet]; split
      · omega
      · rfl
    · simp only [memGet, ih]

/-- Reading a byte after a write to its address gives the byte written. -/
theorem memGet_set_same (a : Nat) (v : Byte) (m : List Host.Cell) : memGet a (memSet a v m) = v := by
  unfold memSet; split
  · rename_i h; rw [memGet_drop_same, h]
  · exact memGet_ins_drop a v m

/-- A write of one byte leaves every other byte. -/
theorem memGet_set_ne {a b : Nat} (v : Byte) (h : b ≠ a) (m : List Host.Cell) : memGet b (memSet a v m) = memGet b m := by
  unfold memSet; split
  · exact memGet_drop_ne h m
  · rw [memGet_ins_ne v h, memGet_drop_ne h]

/-- Writing bytes at consecutive addresses leaves every byte outside them. -/
theorem memGet_put_out (l : List Byte) (a b : Nat) (m : List Host.Cell) (h : b < a ∨ a + l.length ≤ b) : memGet b (memPut a l m) = memGet b m := by
  induction l generalizing a m with
  | nil => rfl
  | cons v r ih =>
    rw [List.length_cons] at h
    unfold memPut
    rw [ih _ _ (by omega), memGet_set_ne _ (by omega)]

/-- Writing bytes at consecutive addresses puts each at its place. -/
theorem memGet_put_in (l : List Byte) (a i : Nat) (m : List Host.Cell) (h : i < l.length) : memGet (a + i) (memPut a l m) = l[i] := by
  induction l generalizing a i m with
  | nil => simp at h
  | cons v r ih =>
    unfold memPut
    cases i with
    | zero => rw [memGet_put_out r _ _ _ (by omega)]; exact memGet_set_same _ _ _
    | succ i =>
      rw [show a + (i + 1) = a + 1 + i by omega, ih _ _ _ (by simpa using h)]; rfl

theorem memSorted_iff (m : List Host.Cell) : memSorted m = true ↔ m.Pairwise (fun a b => a.1 < b.1) := by
  induction m with
  | nil => simp [memSorted]
  | cons e r ih =>
    cases r with
    | nil => simp [memSorted]
    | cons g r =>
      have : memSorted (e :: g :: r) = (decide (e.1 < g.1) && memSorted (g :: r)) := rfl
      rw [this, Bool.and_eq_true, ih, decide_eq_true_eq]
      constructor
      · rintro ⟨h1, h2⟩
        refine List.pairwise_cons.2 ⟨fun a ha => ?_, h2⟩
        rcases List.mem_cons.1 ha with rfl | ha
        · exact h1
        · exact lt_trans h1 (List.rel_of_pairwise_cons h2 ha)
      · intro h
        obtain ⟨h1, h2⟩ := List.pairwise_cons.1 h
        exact ⟨h1 g (List.mem_cons_self), h2⟩

theorem memDrop_eq (a : Nat) (m : List Host.Cell) : memDrop a m = m.filter (fun c => c.1 != a) := by
  induction m with
  | nil => rfl
  | cons e r ih => unfold memDrop; split <;> simp_all

/-- Taking cells out of memory keeps its canonical form. -/
theorem wf_filter (p : Host.Cell → Bool) {m : List Host.Cell} (h : Memory.wf m) : Memory.wf (m.filter p) := by
  refine ⟨?_, fun c hc => h.2 c (List.mem_filter.1 hc).1⟩
  have := (memSorted_iff m).1 h.1
  exact (memSorted_iff _).2 (this.filter p)

theorem memIns_mem {a : Nat} {v : Byte} {m : List Host.Cell} {c : Host.Cell} (h : c ∈ memIns a v m) : c = (a, v) ∨ c ∈ m := by
  induction m with
  | nil => simpa [memIns] using h
  | cons g r ih =>
    unfold memIns at h; split at h
    · simpa using h
    · rcases List.mem_cons.1 h with rfl | h
      · simp
      · rcases ih h with h | h <;> simp [h]

theorem memSorted_ins (a : Nat) (v : Byte) {m : List Host.Cell} (h : memSorted m = true) (hk : ∀ c ∈ m, c.1 ≠ a) : memSorted (memIns a v m) = true := by
  rw [memSorted_iff] at *
  induction m with
  | nil => simp [memIns]
  | cons e r ih =>
    obtain ⟨h1, h2⟩ := List.pairwise_cons.1 h
    unfold memIns; split
    · rename_i hlt
      refine List.pairwise_cons.2 ⟨fun c hc => ?_, h⟩
      rcases List.mem_cons.1 hc with rfl | hc
      · exact hlt
      · exact lt_trans hlt (h1 c hc)
    · refine List.pairwise_cons.2 ⟨fun c hc => ?_, ih h2 (fun c hc => hk c (List.mem_cons_of_mem _ hc))⟩
      rcases memIns_mem hc with rfl | hc
      · have := hk e List.mem_cons_self; simp only; omega
      · exact h1 c hc

/-- A write of one byte keeps memory's canonical form. -/
theorem wf_set (a : Nat) (v : Byte) {m : List Host.Cell} (h : Memory.wf m) : Memory.wf (memSet a v m) := by
  have hd := wf_filter (fun c => c.1 != a) h
  unfold memSet; rw [memDrop_eq]; split
  · exact hd
  · rename_i hv
    refine ⟨memSorted_ins a v hd.1 (fun c hc => by simpa using (List.mem_filter.1 hc).2), fun c hc => ?_⟩
    rcases memIns_mem hc with rfl | hc
    · exact hv
    · exact hd.2 c hc

/-- A write of several bytes keeps memory's canonical form. -/
theorem wf_put (a : Nat) (l : List Byte) {m : List Host.Cell} (h : Memory.wf m) : Memory.wf (memPut a l m) := by
  induction l generalizing a m with
  | nil => exact h
  | cons v r ih => exact ih (a + 1) (wf_set a v h)

/-- Erasing a stretch keeps memory's canonical form. -/
theorem wf_erase (a k : Nat) {m : List Host.Cell} (h : Memory.wf m) : Memory.wf (memErase a k m) := wf_filter _ h

theorem wf_foldl {α : Type} (l : List α) {f : List Host.Cell → α → List Host.Cell} (hf : ∀ m x, Memory.wf m → Memory.wf (f m x))
    {m : List Host.Cell} (h : Memory.wf m) : Memory.wf (l.foldl f m) := by
  induction l generalizing m with
  | nil => exact h
  | cons x r ih => exact ih (hf m x h)

/-- Copying a stretch keeps memory's canonical form. -/
theorem wf_copy (a b k : Nat) {m : List Host.Cell} (h : Memory.wf m) : Memory.wf (memCopy a b k m) :=
  wf_foldl _ (fun _ c h => wf_set _ c.2 h) (wf_erase b k h)

theorem storeSorted_map {f : Nat × Nat → Nat × Nat} (hf : ∀ e, (f e).1 = e.1) {t : Store} (h : storeSorted t = true) : storeSorted (t.map f) = true := by
  rw [storeSorted_iff] at *
  exact List.pairwise_map.2 (h.imp fun {a b} h => by rwa [hf a, hf b])

/-! ### The relation -/

/-- From `s` to `t` the canonical forms and the queue of commands stay. -/
structure Keeps (s t : State) : Prop where
  inv : s.Inv → t.Inv
  pending : t.pending = s.pending

/-- The same of what a command answers. -/
def KeepsOut (s : State) (o : Out) : Prop := ∀ t, o = .next t → Keeps s t

theorem Keeps.refl (s : State) : Keeps s s := ⟨id, rfl⟩

theorem Keeps.trans {s t u : State} (h : Keeps s t) (g : Keeps t u) : Keeps s u := ⟨fun i => g.1 (h.1 i), g.2.trans h.2⟩

/-- A state with other tables or memory in canonical form. -/
theorem Keeps.regs {a s : State} {v : Store} (hv : storeSorted s.regs = true → storeSorted v = true) (h : Keeps a s) : Keeps a { s with regs := v } :=
  ⟨fun i => ⟨hv (h.1 i).1, (h.1 i).2⟩, h.2⟩

theorem Keeps.held {a s : State} {v : Store} (hv : storeSorted s.held = true → storeSorted v = true) (h : Keeps a s) : Keeps a { s with held := v } :=
  ⟨fun i => ⟨(h.1 i).1, hv (h.1 i).2.1, (h.1 i).2.2⟩, h.2⟩

theorem Keeps.snaps {a s : State} {v : Store} (hv : storeSorted s.snaps = true → storeSorted v = true) (h : Keeps a s) :
    Keeps a { s with snaps := v } :=
  ⟨fun i => ⟨(h.1 i).1, (h.1 i).2.1, hv (h.1 i).2.2.1, (h.1 i).2.2.2⟩, h.2⟩

theorem Keeps.mem {a s : State} {m : List Host.Cell} (hm : Memory.wf s.mem → Memory.wf m) (h : Keeps a s) : Keeps a { s with mem := m } :=
  ⟨fun i => ⟨(h.1 i).1, (h.1 i).2.1, (h.1 i).2.2.1, hm (h.1 i).2.2.2⟩, h.2⟩

theorem Keeps.tbNow {a s : State} {v : BitVec 64} (h : Keeps a s) : Keeps a { s with tbNow := v } := ⟨h.1, h.2⟩

theorem Keeps.bus {a s : State} {v : Resp} (h : Keeps a s) : Keeps a { s with bus := v } := ⟨h.1, h.2⟩

theorem Keeps.logStage {a s : State} {v : List (List Byte)} (h : Keeps a s) : Keeps a { s with logStage := v } := ⟨h.1, h.2⟩

theorem Keeps.faultHeld {a s : State} {v : List (Nat × Nat)} (h : Keeps a s) : Keeps a { s with faultHeld := v } := ⟨h.1, h.2⟩

theorem Keeps.canTx {a s : State} {v : List CanTx} (h : Keeps a s) : Keeps a { s with canTx := v } := ⟨h.1, h.2⟩

theorem Keeps.ethTx {a s : State} {v : List EthTx} (h : Keeps a s) : Keeps a { s with ethTx := v } := ⟨h.1, h.2⟩

theorem Keeps.ethRx {a s : State} {v : List EthRx} (h : Keeps a s) : Keeps a { s with ethRx := v } := ⟨h.1, h.2⟩

theorem Keeps.dn {a s : State} {v : List DnFrame} (h : Keeps a s) : Keeps a { s with dn := v } := ⟨h.1, h.2⟩

theorem Keeps.yokeBuf {a s : State} {v : List YokeCopy} (h : Keeps a s) : Keeps a { s with yokeBuf := v } := ⟨h.1, h.2⟩

theorem Keeps.yokeOwed {a s : State} {v : List YokeCopy} (h : Keeps a s) : Keeps a { s with yokeOwed := v } := ⟨h.1, h.2⟩

theorem Keeps.ledSnap {a s : State} {v : List Nat} (h : Keeps a s) : Keeps a { s with ledSnap := v } := ⟨h.1, h.2⟩

theorem Keeps.entries {a s : State} {v : List (Nat × Nat × Nat)} (h : Keeps a s) : Keeps a { s with entries := v } := ⟨h.1, h.2⟩

theorem Keeps.yokeFw {a s : State} {v : List Byte} (h : Keeps a s) : Keeps a { s with yokeFw := v } := ⟨h.1, h.2⟩

theorem Keeps.freeCount {a s : State} {v : Nat} (h : Keeps a s) : Keeps a { s with freeCount := v } := ⟨h.1, h.2⟩

theorem Keeps.yoke {a s : State} {v w : List YokeCopy} (h : Keeps a s) : Keeps a { s with yokeBuf := v, yokeOwed := w } := ⟨h.1, h.2⟩

theorem Keeps.cond {a s t : State} {p : Prop} [Decidable p] (h1 : Keeps a s) (h2 : Keeps a t) : Keeps a (if p then s else t) := by
  split <;> assumption

theorem Keeps.foldl {α : Type} {a : State} {l : List α} {f : State → α → State} {s : State} (h : Keeps a s)
    (hf : ∀ x, Keeps a x → ∀ y, Keeps a (f x y)) : Keeps a (l.foldl f s) := by
  induction l generalizing s with
  | nil => exact h
  | cons y r ih => exact ih (hf s h y)

theorem KeepsOut.next {a s : State} (h : Keeps a s) : KeepsOut a (.next s) := fun t e => by cases e; exact h

theorem KeepsOut.cond {a : State} {o q : Out} {p : Prop} [Decidable p] (h1 : KeepsOut a o) (h2 : KeepsOut a q) : KeepsOut a (if p then o else q) := by
  split <;> assumption

theorem State_set_keeps {a s : State} {f : Fld} {v : Nat} (h : Keeps a s) : Keeps a (s.set f v) :=
  Keeps.regs (storeSorted_set _ _ _) h

theorem Keeps.getD {a s : State} {o : Option State} (h : Keeps a s) (ho : ∀ t, o = some t → Keeps a t) : Keeps a (o.getD s) := by
  cases o with
  | none => exact h
  | some t => exact ho t rfl

end Sys2Proof.Machine
end

