-- ==== Sys2Proof/Laws/KeepsUnits.lean ====
section
/-!
SUPPORT. Each operation and meaning of Machine/ keeps the canonical forms and the queue (`Keeps`, Laws/Keeps.lean): the files Ops, Record, Lines, Raise, Pwm, Mon, Sense, Ledger.
-/

namespace Sys2Proof.Machine

/-! ### Ops -/

theorem State_setB_keeps {a : State} {s0 x1 x2} (k0 : Keeps a s0) : Keeps a (State.setB s0 x1 x2) := by
  unfold State.setB
  exact State_set_keeps k0

theorem State_seti_keeps {a : State} {s0 x1 x2} (k0 : Keeps a s0) : Keeps a (State.seti s0 x1 x2) := by
  unfold State.seti
  exact State_set_keeps k0

theorem State_setF_keeps {a : State} {s0 x1 x2} (k0 : Keeps a s0) : Keeps a (State.setF s0 x1 x2) := by
  unfold State.setF
  exact State_set_keeps k0

theorem State_addSat_keeps {a : State} {s0 x1 x2} (k0 : Keeps a s0) : Keeps a (State.addSat s0 x1 x2) := by
  unfold State.addSat
  exact State_set_keeps k0

theorem State_inc_keeps {a : State} {s0 x1} (k0 : Keeps a s0) : Keeps a (State.inc s0 x1) := by
  unfold State.inc
  exact State_addSat_keeps k0

theorem State_setBit_keeps {a : State} {s0 x1 x2 x3} (k0 : Keeps a s0) : Keeps a (State.setBit s0 x1 x2 x3) := by
  unfold State.setBit
  exact State_set_keeps k0

theorem State_when_keeps {a : State} {s0 x1 x2} (k0 : Keeps a s0) (k2 : ∀ z0, Keeps a z0 → Keeps a (x2 z0)) : Keeps a (State.when s0 x1 x2) := by
  unfold State.when
  exact Keeps.cond (k2 _ k0) k0

theorem State_each_keeps {a : State} {s0 x1 x2} (k0 : Keeps a s0) (k2 : ∀ z0, ∀ z1, Keeps a z1 → Keeps a (x2 z0 z1)) : Keeps a (State.each s0 x1 x2) := by
  unfold State.each
  exact Keeps.foldl k0 (fun _ h0 => fun _ => k2 _ _ h0)

theorem State_setWide_keeps {a : State} {s0 x1 x2 x3} (k0 : Keeps a s0) : Keeps a (State.setWide s0 x1 x2 x3) := by
  unfold State.setWide
  exact State_set_keeps (State_set_keeps k0)

theorem State_draw_keeps {a : State} {s0} (k0 : Keeps a s0) : Keeps a (State.draw s0) := by
  unfold State.draw
  exact Keeps.freeCount k0

theorem State_putBytes_keeps {a s : State} {x : Nat} {l : List Byte} (h : Keeps a s) : Keeps a (s.putBytes x l) := Keeps.mem (wf_put x l) h

theorem State_putWord_keeps {a : State} {s0 x1 x2} (k0 : Keeps a s0) : Keeps a (State.putWord s0 x1 x2) := by
  unfold State.putWord
  exact State_putBytes_keeps k0

theorem State_putWords_keeps {a : State} {s0 x1 x2} (k0 : Keeps a s0) : Keeps a (State.putWords s0 x1 x2) := by
  unfold State.putWords
  exact State_putBytes_keeps k0

theorem pendLine_keeps {a : State} {x0 x1 x2 s3} (k3 : Keeps a s3) : Keeps a (pendLine x0 x1 x2 s3) := by
  unfold pendLine
  exact Keeps.cond (State_setBit_keeps k3) (State_setBit_keeps k3)

theorem irqUpdate_keeps {a : State} {s0} (k0 : Keeps a s0) : Keeps a (irqUpdate s0) := by
  unfold irqUpdate
  exact State_set_keeps k0

theorem routeEvent_keeps {a : State} {x0 s1} (k1 : Keeps a s1) : Keeps a (routeEvent x0 s1) := by
  unfold routeEvent
  exact Keeps.cond k1 (State_when_keeps ((State_when_keeps ((State_when_keeps k1 (fun _ h0 => irqUpdate_keeps (pendLine_keeps h0)))) (fun _ h1 => State_setBit_keeps h1))) (fun _ h2 => pendLine_keeps h2))

theorem State_cmdSet_keeps {a : State} {s0 x1 x2 x3} (k0 : Keeps a s0) : Keeps a (State.cmdSet s0 x1 x2 x3) := by
  unfold State.cmdSet
  exact State_set_keeps (State_set_keeps k0)

theorem State_cmdEnd_keeps {a : State} {s0 x1 x2} (k0 : Keeps a s0) : Keeps a (State.cmdEnd s0 x1 x2) := by
  unfold State.cmdEnd
  exact State_set_keeps k0

theorem State_cmdStart_keeps {a : State} {s0 x1 x2 x3 x4 x5 x6} (k0 : Keeps a s0) (k5 : ∀ z0, Keeps a z0 → Keeps a (x5 z0)) (k6 : ∀ z0, Keeps a z0 → Keeps a (x6 z0)) : Keeps a (State.cmdStart s0 x1 x2 x3 x4 x5 x6) := by
  unfold State.cmdStart
  exact Keeps.cond k0 (Keeps.cond (k5 _ (State_cmdSet_keeps k0)) (k6 _ (State_cmdSet_keeps k0)))

theorem ok_keeps {a : State} {s0} (k0 : Keeps a s0) : KeepsOut a (ok s0) := by
  unfold ok
  exact KeepsOut.next k0

theorem busErr_keeps {a : State} {s0} (k0 : Keeps a s0) : Keeps a (busErr s0) := by
  unfold busErr
  exact Keeps.bus k0

theorem busOk_keeps {a : State} {s0} (k0 : Keeps a s0) : Keeps a (busOk s0) := by
  unfold busOk
  exact Keeps.bus k0

theorem stallWrite_keeps {a : State} {x0 x1 s2} (k1 : ∀ z0, Keeps a z0 → KeepsOut a (x1 z0)) (k2 : Keeps a s2) : KeepsOut a (stallWrite x0 x1 s2) := by
  unfold stallWrite
  exact KeepsOut.cond (KeepsOut.next (busErr_keeps k2)) (k1 _ k2)

/-! ### Record -/

theorem setCaskOwner_keeps {a : State} {x0 x1 s2} (k2 : Keeps a s2) : Keeps a (setCaskOwner x0 x1 s2) := by
  unfold setCaskOwner
  exact State_set_keeps k2

theorem cellarCount_keeps {a : State} {s0} (k0 : Keeps a s0) : Keeps a (cellarCount s0) := by
  unfold cellarCount
  exact State_set_keeps k0

theorem useInc_keeps {a : State} {x0 s1} (k1 : Keeps a s1) : Keeps a (useInc x0 s1) := by
  unfold useInc
  exact State_set_keeps ((State_inc_keeps k1))

theorem useDec_keeps {a : State} {x0 s1} (k1 : Keeps a s1) : Keeps a (useDec x0 s1) := by
  unfold useDec
  exact State_set_keeps k1

theorem cellarTake_keeps {a s t : State} {u k : Nat} (h : Keeps a s) (q : cellarTake u s = some (k, t)) : Keeps a t := by
  unfold cellarTake at q
  split at q
  · split at q
    · cases q
    · cases q; exact cellarCount_keeps (useInc_keeps (setCaskOwner_keeps (State_set_keeps h)))
  · cases q

theorem cellarFree_keeps {a : State} {x0 s1} (k1 : Keeps a s1) : Keeps a (cellarFree x0 s1) := by
  unfold cellarFree
  exact cellarCount_keeps (State_setB_keeps (setCaskOwner_keeps (useDec_keeps k1)))

theorem cellarTakeN_keeps {a s t : State} {u c : Nat} {l : List Nat} (h : Keeps a s) (q : cellarTakeN u c s = some (l, t)) : Keeps a t := by
  induction c generalizing s l t with
  | zero => cases q; exact h
  | succ c ih =>
    unfold cellarTakeN at q
    split at q
    · cases q
    · split at q
      · cases q
      · cases q; exact ih (cellarTake_keeps h ‹_›) ‹_›

theorem logRoom_keeps {a s t : State} {len k : Nat} (h : Keeps a s) (q : logRoom len s = some (k, t)) : Keeps a t := by
  unfold logRoom at q
  dsimp only at q
  split at q
  · obtain ⟨-, rfl⟩ := Prod.mk.inj (Option.some.inj q); exact h
  · split at q
    · exact absurd q (by simp)
    · rename_i e
      obtain ⟨-, rfl⟩ := Prod.mk.inj (Option.some.inj q)
      exact State_set_keeps (State_set_keeps (State_set_keeps (State_set_keeps (cellarTake_keeps h e))))

theorem logPut_keeps {a s t : State} {typ len src sub at_ : Nat} {b : List Byte} (h : Keeps a s) (q : logPut typ len src sub at_ b s = some t) :
    Keeps a t := by
  unfold logPut at q
  split at q
  · exact absurd q (by simp)
  · rename_i e
    have h1 := logRoom_keeps h e
    dsimp only at q
    obtain rfl := Option.some.inj q
    exact State_set_keeps (State_set_keeps (State_when_keeps (State_inc_keeps (State_addSat_keeps
      (Keeps.logStage (State_putBytes_keeps h1)))) fun _ h => State_set_keeps (State_setWide_keeps h)))

theorem logPlace_keeps {a s t : State} {typ len src sub at_ : Nat} {b : List Byte} (h : Keeps a s) (q : logPlace typ len src sub at_ b s = some t) :
    Keeps a t := by
  unfold logPlace at q
  dsimp only at q
  split at q
  · split at q
    · exact absurd q (by simp)
    · rename_i e
      exact logPut_keeps (logPut_keeps h e) q
  · exact logPut_keeps h q

theorem logDrop_keeps {a : State} {s0} (k0 : Keeps a s0) : Keeps a (logDrop s0) := by
  unfold logDrop
  exact State_inc_keeps (State_inc_keeps k0)

theorem logRecord_keeps {a s t : State} {typ len src sub at_ : Nat} {b : List Byte} {r : Bool} (h : Keeps a s)
    (q : logRecord typ len src sub at_ b s = (r, t)) : Keeps a t := by
  unfold logRecord at q
  dsimp only at q
  split at q
  · split at q
    · cases q
      rename_i e
      obtain ⟨u, hu, hp⟩ := Option.bind_eq_some_iff.1 e
      refine logPlace_keeps ?_ hp
      split at hu
      · cases hu; exact h
      · obtain ⟨v, hv, rfl⟩ := Option.map_eq_some_iff.1 hu
        exact State_set_keeps (logPlace_keeps h hv)
    · cases q; exact logDrop_keeps h
  · cases q; exact h

theorem reportEvent_keeps {a s t : State} {e : Nat} {r : Bool} (h : Keeps a s) (q : reportEvent e s = (r, t)) : Keeps a t := by
  unfold reportEvent at q
  dsimp only at q
  split at q
  · exact logRecord_keeps (routeEvent_keeps h) q
  · cases q; exact routeEvent_keeps h

theorem trigSet_keeps {a : State} {x0 x1 s2} (k2 : Keeps a s2) : Keeps a (trigSet x0 x1 s2) := by
  unfold trigSet
  exact Keeps.cond (State_set_keeps ((State_set_keeps (State_set_keeps (State_set_keeps ((State_setWide_keeps k2))))))) (Keeps.cond (Keeps.cond (State_set_keeps (State_set_keeps k2)) (State_inc_keeps k2)) (Keeps.cond (State_inc_keeps k2) k2))

theorem ledAppend_keeps {a : State} {x0 x1 s2} (k2 : Keeps a s2) : Keeps a (ledAppend x0 x1 s2) := by
  unfold ledAppend
  exact State_set_keeps ((State_inc_keeps (State_set_keeps ((State_set_keeps ((State_set_keeps ((State_set_keeps ((State_set_keeps ((State_set_keeps k2)))))))))))))

theorem ledOpenPage_keeps {a : State} {s0} (k0 : Keeps a s0) : Keeps a (ledOpenPage s0) := by
  unfold ledOpenPage
  exact State_set_keeps (State_set_keeps (State_set_keeps (State_set_keeps ((State_each_keeps ((State_addSat_keeps k0)) (fun _ => fun _ h0 => State_set_keeps h0))))))

theorem ledRepeat_keeps {a : State} {s0} (k0 : Keeps a s0) : Keeps a (ledRepeat s0) := by
  unfold ledRepeat
  exact State_set_keeps (State_set_keeps k0)

theorem ledEnter_keeps {a : State} {x0 x1 s2} (k2 : Keeps a s2) : Keeps a (ledEnter x0 x1 s2) := by
  unfold ledEnter
  exact Keeps.cond (ledRepeat_keeps ((State_inc_keeps k2))) (Keeps.cond (ledAppend_keeps (ledOpenPage_keeps ((State_inc_keeps k2)))) (ledAppend_keeps ((State_inc_keeps k2))))

theorem faultEntry_keeps {a : State} {x0 x1 s2} (k2 : Keeps a s2) : Keeps a (faultEntry x0 x1 s2) := by
  unfold faultEntry
  exact Keeps.cond (ledEnter_keeps k2) (Keeps.cond (Keeps.faultHeld k2) (State_inc_keeps (State_inc_keeps k2)))

theorem reportFault_keeps {a s t : State} {c k : Nat} {r : Bool} (h : Keeps a s) (q : reportFault c k s = (r, t)) : Keeps a t := by
  unfold reportFault at q
  dsimp only at q
  split at q
  · exact logRecord_keeps (faultEntry_keeps h) q
  · cases q; exact faultEntry_keeps h

theorem reportOne_keeps {a s t : State} {r : Report} {m : List Report} (h : Keeps a s) (q : reportOne r s = (m, t)) : Keeps a t := by
  cases r with
  | event e => cases q; exact State_when_keeps (reportEvent_keeps h (Prod.eta _).symm) fun _ h => trigSet_keeps h
  | fault c k =>
    cases q; exact State_when_keeps (reportFault_keeps h (Prod.eta _).symm) fun _ h => trigSet_keeps h

theorem reports_keeps {a s : State} {k : Nat} {l : List Report} (h : Keeps a s) : Keeps a (reports k l s) := by
  induction k generalizing l s with
  | zero => exact h
  | succ k ih =>
    cases l with
    | nil => exact h
    | cons r l => exact ih (reportOne_keeps h (Prod.eta _).symm)

theorem raiseEvent_keeps {a : State} {x0 s1} (k1 : Keeps a s1) : Keeps a (raiseEvent x0 s1) := by
  unfold raiseEvent
  exact reports_keeps k1

theorem logTrigger_keeps {a : State} {x0 x1 s2} (k2 : Keeps a s2) : Keeps a (logTrigger x0 x1 s2) := by
  unfold logTrigger
  exact reports_keeps (trigSet_keeps k2)

theorem raiseStall_keeps {a : State} {x0 x1 s2} (k2 : Keeps a s2) : Keeps a (raiseStall x0 x1 s2) := by
  unfold raiseStall
  exact raiseEvent_keeps k2

theorem logWrite_keeps {a : State} {x0 x1 x2 x3 x4 x5 s6} (k6 : Keeps a s6) : Keeps a (logWrite x0 x1 x2 x3 x4 x5 s6) := by
  unfold logWrite
  exact (by split; exacts [reports_keeps ((logRecord_keeps k6 ‹_›))])

theorem heldEnter_keeps {a : State} {x0 x1 s2} (k2 : Keeps a s2) : Keeps a (heldEnter x0 x1 s2) := by
  unfold heldEnter
  exact State_when_keeps (ledEnter_keeps k2) (fun _ h0 => reports_keeps h0)

theorem recordFault_keeps {a : State} {x0 x1 s2} (k2 : Keeps a s2) : Keeps a (recordFault x0 x1 s2) := by
  unfold recordFault
  exact reports_keeps k2

theorem violation_keeps {a : State} {x0 x1 x2 s3} (k3 : Keeps a s3) : Keeps a (violation x0 x1 x2 s3) := by
  unfold violation
  exact raiseEvent_keeps ((State_when_keeps ((State_inc_keeps (busErr_keeps k3))) (fun _ h0 => State_set_keeps (State_setB_keeps (State_set_keeps ((State_setWide_keeps h0)))))))

theorem debugSeen_keeps {a : State} {x0 s1} (k1 : Keeps a s1) : Keeps a (debugSeen x0 s1) := by
  unfold debugSeen
  exact State_when_keeps k1 (fun _ h0 => State_set_keeps h0)

theorem debugWrite_keeps {a : State} {x0 x1 x2 s3} (k2 : ∀ z0, Keeps a z0 → Keeps a (x2 z0)) (k3 : Keeps a s3) : Keeps a (debugWrite x0 x1 x2 s3) := by
  unfold debugWrite
  exact Keeps.cond (violation_keeps ((debugSeen_keeps k3))) (k2 _ ((debugSeen_keeps k3)))

/-! ### Lines -/

theorem reinEdge_keeps {a : State} {x0 x1 x2 s3} (k3 : Keeps a s3) : Keeps a (reinEdge x0 x1 x2 s3) := by
  unfold reinEdge
  exact State_when_keeps ((State_set_keeps (State_set_keeps ((State_each_keeps ((State_when_keeps k3 (fun _ h0 => State_inc_keeps h0))) (fun _ => fun _ h1 => State_set_keeps (State_set_keeps h1))))))) (fun _ h2 => State_set_keeps (State_set_keeps h2))

theorem setLine_keeps {a : State} {x0 x1 x2 x3 s4} (k4 : Keeps a s4) : Keeps a (setLine x0 x1 x2 x3 s4) := by
  unfold setLine
  exact Keeps.cond k4 (Keeps.cond (State_set_keeps ((reinEdge_keeps (State_setBit_keeps k4)))) (State_set_keeps ((reinEdge_keeps (State_setBit_keeps k4)))))

theorem suppress_keeps {a : State} {x0 x1 s2} (k2 : Keeps a s2) : Keeps a (suppress x0 x1 s2) := by
  unfold suppress
  exact recordFault_keeps (raiseStall_keeps ((State_set_keeps ((State_setBit_keeps k2)))))

theorem turnOn_keeps {a : State} {x0 x1 x2 x3 s4} (k4 : Keeps a s4) : Keeps a (turnOn x0 x1 x2 x3 s4) := by
  unfold turnOn
  exact State_when_keeps k4 (fun _ h0 => setLine_keeps h0)

theorem turnOff_keeps {a : State} {x0 x1 x2 s3} (k3 : Keeps a s3) : Keeps a (turnOff x0 x1 x2 s3) := by
  unfold turnOff
  exact State_set_keeps (State_setBit_keeps (setLine_keeps k3))

theorem callOn_keeps {a : State} {x0 x1 x2 s3} (k3 : Keeps a s3) : Keeps a (callOn x0 x1 x2 s3) := by
  unfold callOn
  exact State_when_keeps k3 (fun _ h0 => State_set_keeps h0)

theorem shoot_keeps {a : State} {x0 x1 x2 x3 s4} (k4 : Keeps a s4) : Keeps a (shoot x0 x1 x2 x3 s4) := by
  unfold shoot
  exact Keeps.cond (suppress_keeps (suppress_keeps (setLine_keeps (setLine_keeps k4)))) (Keeps.cond (turnOn_keeps (suppress_keeps k4)) (turnOn_keeps (suppress_keeps k4)))

theorem stageHalf_keeps {a : State} {x0 x1 x2 x3 s4} (k4 : Keeps a s4) : Keeps a (stageHalf x0 x1 x2 x3 s4) := by
  unfold stageHalf
  exact Keeps.cond (shoot_keeps ((State_each_keeps k4 (fun _ => fun _ h0 => Keeps.cond (callOn_keeps h0) (turnOff_keeps h0))))) (Keeps.cond (turnOn_keeps ((State_each_keeps k4 (fun _ => fun _ h0 => Keeps.cond (callOn_keeps h0) (turnOff_keeps h0))))) (Keeps.cond (turnOn_keeps ((State_each_keeps k4 (fun _ => fun _ h0 => Keeps.cond (callOn_keeps h0) (turnOff_keeps h0))))) ((State_each_keeps k4 (fun _ => fun _ h0 => Keeps.cond (callOn_keeps h0) (turnOff_keeps h0))))))

theorem refreshLines_keeps {a : State} {x0 x1 s2} (k2 : Keeps a s2) : Keeps a (refreshLines x0 x1 s2) := by
  unfold refreshLines
  exact State_each_keeps k2 (fun _ => fun _ h0 => stageHalf_keeps h0)

theorem linesOff_keeps {a : State} {x0 s1} (k1 : Keeps a s1) : Keeps a (linesOff x0 s1) := by
  unfold linesOff
  exact State_each_keeps ((State_each_keeps (State_set_keeps (State_set_keeps ((State_set_keeps (State_set_keeps (State_set_keeps k1)))))) (fun _ => fun _ h0 => State_set_keeps (State_set_keeps h0)))) (fun _ => fun _ h1 => turnOff_keeps h1)

theorem auxLine_keeps {a : State} {x0 x1 s2} (k2 : Keeps a s2) : Keeps a (auxLine x0 x1 s2) := by
  unfold auxLine
  exact Keeps.cond k2 (Keeps.cond (State_set_keeps ((reinEdge_keeps (State_setB_keeps k2)))) (State_set_keeps ((reinEdge_keeps (State_setB_keeps k2)))))

/-! ### Raise -/

theorem govUpdate_keeps {a : State} {s0} (k0 : Keeps a s0) : Keeps a (govUpdate s0) := by
  unfold govUpdate
  exact State_each_keeps k0 (fun _ => fun _ h0 => State_setB_keeps h0)

theorem ctcUpdate_keeps {a : State} {s0} (k0 : Keeps a s0) : Keeps a (ctcUpdate s0) := by
  unfold ctcUpdate
  exact Keeps.cond (State_each_keeps (State_set_keeps ((State_each_keeps k0 (fun _ => fun _ h0 => Keeps.cond (State_when_keeps h0 (fun _ h1 => State_set_keeps h1)) (State_set_keeps h0))))) (fun _ => fun _ h2 => State_set_keeps h2)) (State_set_keeps ((State_each_keeps k0 (fun _ => fun _ h0 => Keeps.cond (State_when_keeps h0 (fun _ h1 => State_set_keeps h1)) (State_set_keeps h0)))))

theorem switchUpdate_keeps {a : State} {x0 s1} (k1 : Keeps a s1) : Keeps a (switchUpdate x0 s1) := by
  unfold switchUpdate
  exact State_set_keeps k1

theorem bandUpdate_keeps {a : State} {x0 x1 s2} (k2 : Keeps a s2) : Keeps a (bandUpdate x0 x1 s2) := by
  unfold bandUpdate
  exact (by split; exacts [State_setB_keeps k2, k2])

theorem takeRow_keeps {a : State} {x0 x1 s2} (k2 : Keeps a s2) : Keeps a (takeRow x0 x1 s2) := by
  unfold takeRow
  exact Keeps.cond k2 (refreshLines_keeps ((State_when_keeps ((State_when_keeps (State_set_keeps ((State_setB_keeps (State_setB_keeps ((State_set_keeps (State_set_keeps k2))))))) (fun _ h0 => State_set_keeps h0))) (fun _ h1 => raiseStall_keeps h1))))

theorem provisional_keeps {a : State} {x0 s1} (k1 : Keeps a s1) : Keeps a (provisional x0 s1) := by
  unfold provisional
  exact refreshLines_keeps (State_when_keeps k1 (fun _ h0 => State_set_keeps h0))

theorem reDecide_keeps {a : State} {x0 s1} (k1 : Keeps a s1) : Keeps a (reDecide x0 s1) := by
  unfold reDecide
  exact Keeps.cond ((State_each_keeps k1 (fun _ => fun _ h0 => switchUpdate_keeps h0))) (Keeps.cond (State_each_keeps ((State_each_keeps k1 (fun _ => fun _ h0 => switchUpdate_keeps h0))) (fun _ => fun _ h1 => provisional_keeps h1)) (Keeps.cond (State_when_keeps ((State_each_keeps k1 (fun _ => fun _ h0 => switchUpdate_keeps h0))) (fun _ h2 => State_each_keeps h2 (fun _ => fun _ h3 => takeRow_keeps h3))) (ctcUpdate_keeps (State_each_keeps ((State_each_keeps k1 (fun _ => fun _ h0 => switchUpdate_keeps h0))) (fun _ => fun _ h4 => takeRow_keeps (State_setB_keeps h4))))))

theorem decideBand_keeps {a : State} {x0 s1} (k1 : Keeps a s1) : Keeps a (decideBand x0 s1) := by
  unfold decideBand
  exact State_each_keeps ((bandUpdate_keeps k1)) (fun _ => fun _ h0 => reDecide_keeps h0)

theorem loopHold_keeps {a : State} {x0 s1} (k1 : Keeps a s1) : Keeps a (loopHold x0 s1) := by
  unfold loopHold
  exact State_when_keeps ((State_when_keeps k1 (fun _ h0 => State_set_keeps h0))) (fun _ h1 => Keeps.foldl h1 (fun _ h2 => fun _ => State_set_keeps h2))

theorem remountRelease_keeps {a : State} {x0 s1} (k1 : Keeps a s1) : Keeps a (remountRelease x0 s1) := by
  unfold remountRelease
  exact Keeps.cond (raiseEvent_keeps ((State_when_keeps (State_set_keeps ((State_set_keeps (State_set_keeps (State_set_keeps k1))))) (fun _ h0 => State_set_keeps (State_set_keeps h0))))) k1

theorem bemfClear_keeps {a : State} {x0 s1} (k1 : Keeps a s1) : Keeps a (bemfClear x0 s1) := by
  unfold bemfClear
  exact State_set_keeps (State_set_keeps (State_set_keeps (State_set_keeps k1)))

theorem bemfLeft_keeps {a : State} {x0 s1} (k1 : Keeps a s1) : Keeps a (bemfLeft x0 s1) := by
  unfold bemfLeft
  exact State_when_keeps (bemfClear_keeps k1) (fun _ h0 => recordFault_keeps (State_set_keeps (State_set_keeps h0)))

theorem windingFail_keeps {a : State} {x0 s1} (k1 : Keeps a s1) : Keeps a (windingFail x0 s1) := by
  unfold windingFail
  exact State_when_keeps k1 (fun _ h0 => recordFault_keeps ((State_when_keeps (State_set_keeps h0) (fun _ h1 => State_set_keeps h1))))

theorem enterOne_keeps {a : State} {x0 x1 s2} (k2 : Keeps a s2) : Keeps a (enterOne x0 x1 s2) := by
  unfold enterOne
  exact refreshLines_keeps (windingFail_keeps (State_set_keeps ((State_when_keeps ((raiseStall_keeps (loopHold_keeps (bandUpdate_keeps ((State_set_keeps (State_set_keeps (State_set_keeps ((State_setWide_keeps (State_set_keeps k2))))))))))) (fun _ h0 => remountRelease_keeps h0)))))

theorem stallSafe_keeps {a : State} {x0 x1 s2} (k2 : Keeps a s2) : Keeps a (stallSafe x0 x1 s2) := by
  unfold stallSafe
  exact reDecide_keeps (((by split; exacts [Keeps.cond (enterOne_keeps (recordFault_keeps ((Keeps.cond (enterOne_keeps k2) (State_when_keeps k2 (fun _ h0 => State_each_keeps h0 (fun _ => fun _ h1 => bandUpdate_keeps (State_set_keeps h1)))))))) ((Keeps.cond (enterOne_keeps k2) (State_when_keeps k2 (fun _ h0 => State_each_keeps h0 (fun _ => fun _ h1 => bandUpdate_keeps (State_set_keeps h1)))))), (Keeps.cond (enterOne_keeps k2) (State_when_keeps k2 (fun _ h0 => State_each_keeps h0 (fun _ => fun _ h1 => bandUpdate_keeps (State_set_keeps h1)))))])))

theorem shdCommand_keeps {a : State} {x0 x1 s2} (k2 : Keeps a s2) : Keeps a (shdCommand x0 x1 s2) := by
  unfold shdCommand
  exact Keeps.cond k2 (Keeps.cond (stallSafe_keeps (recordFault_keeps ((State_set_keeps ((State_set_keeps k2)))))) (refreshLines_keeps (reDecide_keeps ((State_set_keeps ((State_set_keeps k2)))))))

theorem shdCommands_keeps {a : State} {x0 s1} (k1 : Keeps a s1) : Keeps a (shdCommands x0 s1) := by
  unfold shdCommands
  exact Keeps.cond k1 (raiseEvent_keeps (State_each_keeps k1 (fun _ => fun _ h0 => shdCommand_keeps h0)))

theorem setDeviceSafe_keeps {a : State} {x0 s1} (k1 : Keeps a s1) : Keeps a (setDeviceSafe x0 s1) := by
  unfold setDeviceSafe
  exact Keeps.cond (State_when_keeps k1 (fun _ h0 => shdCommands_keeps (State_set_keeps h0))) (ctcUpdate_keeps (State_setB_keeps ((State_when_keeps ((State_each_keeps ((State_each_keeps ((raiseEvent_keeps ((State_setWide_keeps (State_set_keeps (State_set_keeps k1)))))) (fun _ => fun _ h1 => Keeps.cond (enterOne_keeps ((recordFault_keeps (State_set_keeps h1)))) ((recordFault_keeps (State_set_keeps h1)))))) (fun _ => fun _ h2 => reDecide_keeps h2))) (fun _ h3 => shdCommands_keeps (State_set_keeps h3))))))

theorem raiseFault_keeps {a : State} {x0 x1 s2} (k2 : Keeps a s2) : Keeps a (raiseFault x0 x1 s2) := by
  unfold raiseFault
  exact (by (try extract_lets); split; exacts [(recordFault_keeps k2), Keeps.cond (stallSafe_keeps ((recordFault_keeps k2))) ((recordFault_keeps k2)), setDeviceSafe_keeps ((recordFault_keeps k2))])

theorem raiseStallFault_keeps {a : State} {x0 x1 x2 x3 s4} (k4 : Keeps a s4) : Keeps a (raiseStallFault x0 x1 x2 x3 s4) := by
  unfold raiseStallFault
  exact raiseFault_keeps k4

theorem ageRestart_keeps {a : State} {x0 s1} (k1 : Keeps a s1) : Keeps a (ageRestart x0 s1) := by
  unfold ageRestart
  exact State_set_keeps (State_set_keeps k1)

theorem psfSet_keeps {a : State} {x0 x1 x2 x3 x4 x5 s6} (k6 : Keeps a s6) : Keeps a (psfSet x0 x1 x2 x3 x4 x5 s6) := by
  unfold psfSet
  exact stallSafe_keeps ((State_when_keeps ((State_set_keeps ((State_set_keeps ((State_set_keeps k6)))))) (fun _ h0 => raiseStall_keeps (State_set_keeps (State_set_keeps h0)))))

/-! ### Pwm -/

theorem setPeriod_keeps {a : State} {x0 x1 s2} (k2 : Keeps a s2) : Keeps a (setPeriod x0 x1 s2) := by
  unfold setPeriod
  exact State_set_keeps (State_set_keeps k2)

theorem setCmp_keeps {a : State} {x0 x1 x2 s3} (k3 : Keeps a s3) : Keeps a (setCmp x0 x1 x2 s3) := by
  unfold setCmp
  exact State_set_keeps (State_set_keeps k3)

theorem dtFloorFlag_keeps {a : State} {x0 s1} (k1 : Keeps a s1) : Keeps a (dtFloorFlag x0 s1) := by
  unfold dtFloorFlag
  exact State_setB_keeps k1

theorem dtFloorCheck_keeps {a : State} {x0 s1} (k1 : Keeps a s1) : Keeps a (dtFloorCheck x0 s1) := by
  unfold dtFloorCheck
  exact State_when_keeps (State_setB_keeps (dtFloorFlag_keeps k1)) (fun _ h0 => raiseStall_keeps h0)

theorem clampCheck_keeps {a : State} {x0 s1} (k1 : Keeps a s1) : Keeps a (clampCheck x0 s1) := by
  unfold clampCheck
  exact Keeps.cond (State_when_keeps ((State_inc_keeps (State_set_keeps k1))) (fun _ h0 => raiseStall_keeps h0)) k1

theorem loadOne_keeps {a : State} {x0 x1 x2 x3 s4} (k4 : Keeps a s4) : Keeps a (loadOne x0 x1 x2 x3 s4) := by
  unfold loadOne
  exact State_when_keeps k4 (fun _ h0 => State_set_keeps h0)

theorem loadCompares_keeps {a : State} {x0 s1} (k1 : Keeps a s1) : Keeps a (loadCompares x0 s1) := by
  unfold loadCompares
  exact dtFloorCheck_keeps (State_set_keeps ((loadOne_keeps (loadOne_keeps ((State_each_keeps k1 (fun _ => fun _ h0 => loadOne_keeps (loadOne_keeps (State_when_keeps h0 (fun _ h1 => setCmp_keeps h1))))))))))

theorem loadThresholds_keeps {a : State} {x0 s1} (k1 : Keeps a s1) : Keeps a (loadThresholds x0 s1) := by
  unfold loadThresholds
  exact State_each_keeps k1 (fun _ => fun _ h0 => State_set_keeps (State_set_keeps h0))

theorem loadPeriod_keeps {a : State} {x0 s1} (k1 : Keeps a s1) : Keeps a (loadPeriod x0 s1) := by
  unfold loadPeriod
  exact State_set_keeps (State_set_keeps ((State_set_keeps (setPeriod_keeps k1))))

theorem armDone_keeps {a : State} {x0 s1} (k1 : Keeps a s1) : Keeps a (armDone x0 s1) := by
  unfold armDone
  exact State_set_keeps (State_when_keeps k1 (fun _ h0 => State_set_keeps h0))

theorem armedLoad_keeps {a : State} {x0 x1 s2} (k2 : Keeps a s2) : Keeps a (armedLoad x0 x1 s2) := by
  unfold armedLoad
  exact raiseStall_keeps (armDone_keeps (loadThresholds_keeps (loadCompares_keeps (State_when_keeps k2 (fun _ h0 => loadPeriod_keeps h0)))))

theorem holdLine_keeps {a : State} {x0 x1 x2 s3} (k3 : Keeps a s3) : Keeps a (holdLine x0 x1 x2 s3) := by
  unfold holdLine
  exact State_set_keeps (State_setBit_keeps k3)

theorem commandOff_keeps {a : State} {x0 x1 x2 s3} (k3 : Keeps a s3) : Keeps a (commandOff x0 x1 x2 s3) := by
  unfold commandOff
  exact Keeps.cond (State_inc_keeps (State_setBit_keeps ((State_setBit_keeps (State_setBit_keeps k3))))) (Keeps.cond (holdLine_keeps ((State_setBit_keeps (State_setBit_keeps k3)))) ((State_setBit_keeps (State_setBit_keeps k3))))

theorem commandOn_keeps {a : State} {x0 x1 x2 s3} (k3 : Keeps a s3) : Keeps a (commandOn x0 x1 x2 s3) := by
  unfold commandOn
  exact Keeps.cond (State_inc_keeps (State_setBit_keeps ((State_setBit_keeps (State_setBit_keeps k3))))) (Keeps.cond (holdLine_keeps ((State_setBit_keeps (State_setBit_keeps k3)))) ((State_setBit_keeps (State_setBit_keeps k3))))

theorem refEdge_keeps {a : State} {x0 x1 x2 x3 s4} (k4 : Keeps a s4) : Keeps a (refEdge x0 x1 x2 x3 s4) := by
  unfold refEdge
  exact Keeps.cond k4 (refreshLines_keeps (State_set_keeps (State_set_keeps (commandOff_keeps ((State_set_keeps (State_setB_keeps (refreshLines_keeps k4))))))))

theorem deadEnd_keeps {a : State} {x0 x1 x2 s3} (k3 : Keeps a s3) : Keeps a (deadEnd x0 x1 x2 s3) := by
  unfold deadEnd
  exact Keeps.cond (refreshLines_keeps (commandOn_keeps (State_set_keeps (refreshLines_keeps k3)))) k3

theorem firstLevels_keeps {a : State} {x0 x1 s2} (k2 : Keeps a s2) : Keeps a (firstLevels x0 x1 s2) := by
  unfold firstLevels
  exact refreshLines_keeps (State_each_keeps k2 (fun _ => fun _ h0 => commandOn_keeps (State_setB_keeps h0)))

theorem rejudgeBridge_keeps {a : State} {x0 x1 x2 s3} (k3 : Keeps a s3) : Keeps a (rejudgeBridge x0 x1 x2 s3) := by
  unfold rejudgeBridge
  exact State_when_keeps k3 (fun _ h0 => State_setBit_keeps h0)

theorem rejudgeRemoval_keeps {a : State} {x0 x1 x2 s3} (k3 : Keeps a s3) : Keeps a (rejudgeRemoval x0 x1 x2 s3) := by
  unfold rejudgeRemoval
  exact State_when_keeps k3 (fun _ h0 => Keeps.cond ((State_setBit_keeps h0)) (holdLine_keeps ((State_setBit_keeps h0))))

theorem rejudgeAll_keeps {a : State} {x0 x1 s2} (k2 : Keeps a s2) : Keeps a (rejudgeAll x0 x1 s2) := by
  unfold rejudgeAll
  exact refreshLines_keeps (State_each_keeps ((refreshLines_keeps (State_each_keeps (refreshLines_keeps k2) (fun _ => fun _ h0 => rejudgeBridge_keeps h0)))) (fun _ => fun _ h1 => rejudgeRemoval_keeps h1))

theorem tripForce_keeps {a : State} {x0 x1 x2 s3} (k3 : Keeps a s3) : Keeps a (tripForce x0 x1 x2 s3) := by
  unfold tripForce
  exact refreshLines_keeps (raiseStall_keeps ((State_when_keeps ((State_setBit_keeps (State_setBit_keeps k3))) (fun _ h0 => State_setBit_keeps h0))))

theorem tripAnew_keeps {a : State} {x0 x1 x2 s3} (k3 : Keeps a s3) : Keeps a (tripAnew x0 x1 x2 s3) := by
  unfold tripAnew
  exact Keeps.cond k3 (Keeps.cond (State_when_keeps (State_setBit_keeps k3) (fun _ h0 => State_set_keeps h0)) (tripForce_keeps k3))

theorem tripJudge_keeps {a : State} {x0 x1 x2 s3} (k3 : Keeps a s3) : Keeps a (tripJudge x0 x1 x2 s3) := by
  unfold tripJudge
  exact Keeps.cond (Keeps.cond (tripForce_keeps ((State_setBit_keeps k3))) (raiseStall_keeps ((State_setBit_keeps k3)))) k3

theorem tripRelease_keeps {a : State} {x0 s1} (k1 : Keeps a s1) : Keeps a (tripRelease x0 s1) := by
  unfold tripRelease
  exact State_each_keeps k1 (fun _ => fun _ h0 => State_when_keeps h0 (fun _ h1 => State_setBit_keeps h1))

theorem cohFinish_keeps {a : State} {s0} (k0 : Keeps a s0) : Keeps a (cohFinish s0) := by
  unfold cohFinish
  exact Keeps.cond (raiseEvent_keeps (State_set_keeps (State_set_keeps (State_cmdEnd_keeps k0)))) k0

theorem cohAbort_keeps {a : State} {s0} (k0 : Keeps a s0) : Keeps a (cohAbort s0) := by
  unfold cohAbort
  exact Keeps.cond (State_set_keeps k0) (State_cmdEnd_keeps (State_each_keeps k0 (fun _ => fun _ h0 => State_set_keeps h0)))

theorem cohLeave_keeps {a : State} {x0 s1} (k1 : Keeps a s1) : Keeps a (cohLeave x0 s1) := by
  unfold cohLeave
  exact Keeps.cond (cohFinish_keeps (State_setBit_keeps (State_set_keeps k1))) k1

theorem cohLoaded_keeps {a : State} {x0 s1} (k1 : Keeps a s1) : Keeps a (cohLoaded x0 s1) := by
  unfold cohLoaded
  exact cohFinish_keeps (raiseStall_keeps (State_setBit_keeps (State_set_keeps (State_set_keeps (armDone_keeps k1)))))

theorem scaleCompares_keeps {a : State} {x0 x1 x2 s3} (k3 : Keeps a s3) : Keeps a (scaleCompares x0 x1 x2 s3) := by
  unfold scaleCompares
  exact State_each_keeps k3 (fun _ => fun _ h0 => setCmp_keeps h0)

theorem loadPairOfs_keeps {a : State} {x0 s1} (k1 : Keeps a s1) : Keeps a (loadPairOfs x0 s1) := by
  unfold loadPairOfs
  exact State_set_keeps k1

theorem loadOffsets_keeps {a : State} {x0 s1} (k1 : Keeps a s1) : Keeps a (loadOffsets x0 s1) := by
  unfold loadOffsets
  exact loadPairOfs_keeps (State_set_keeps k1)

theorem cohLoad_keeps {a s : State} {n : Nat} (h : Keeps a s) : Keeps a (cohLoad n s) := by
  unfold cohLoad
  extract_lets old f took s1 q
  split
  extract_lets l moved s2
  have h1 : Keeps a s1 := loadPeriod_keeps (loadThresholds_keeps (loadCompares_keeps h))
  clear_value s1
  exact cohLoaded_keeps (loadOffsets_keeps (State_when_keeps h1 fun _ h => scaleCompares_keeps (State_set_keeps (setPeriod_keeps h))))

theorem execCoherentLoad_keeps {a : State} {s0} (k0 : Keeps a s0) : KeepsOut a (execCoherentLoad s0) := by
  unfold execCoherentLoad
  exact KeepsOut.next (State_cmdStart_keeps k0 (fun _ h0 => State_each_keeps ((State_set_keeps ((State_set_keeps (State_set_keeps (State_set_keeps h0)))))) (fun _ => fun _ h1 => Keeps.cond (State_set_keeps h1) (State_setBit_keeps (State_set_keeps h1)))) (fun _ h2 => h2))

theorem execRefCarrierEnable_keeps {a : State} {s0} (k0 : Keeps a s0) : KeepsOut a (execRefCarrierEnable s0) := by
  unfold execRefCarrierEnable
  exact KeepsOut.next (busOk_keeps (Keeps.cond k0 (State_set_keeps (State_set_keeps (State_set_keeps k0)))))

theorem execRefCarrierDisable_keeps {a : State} {s0} (k0 : Keeps a s0) : KeepsOut a (execRefCarrierDisable s0) := by
  unfold execRefCarrierDisable
  exact KeepsOut.cond (KeepsOut.next (busErr_keeps k0)) (KeepsOut.next (busOk_keeps (State_set_keeps (State_set_keeps k0))))

theorem execReferenceZero_keeps {a : State} {x0 s1} (k1 : Keeps a s1) : KeepsOut a (execReferenceZero x0 s1) := by
  unfold execReferenceZero
  exact KeepsOut.next (Keeps.cond k1 (State_when_keeps ((State_set_keeps (State_set_keeps (State_when_keeps k1 (fun _ h0 => State_set_keeps h0))))) (fun _ h1 => cohFinish_keeps (State_set_keeps (State_set_keeps (State_set_keeps h1))))))

theorem brokenDrive_keeps {a : State} {s0} (k0 : Keeps a s0) : Keeps a (brokenDrive s0) := by
  unfold brokenDrive
  exact State_when_keeps k0 (fun _ h0 => raiseFault_keeps h0)

theorem startOne_keeps {a : State} {x0 s1} (k1 : Keeps a s1) : Keeps a (startOne x0 s1) := by
  unfold startOne
  exact brokenDrive_keeps (((by split; exacts [stallSafe_keeps ((State_each_keeps ((ageRestart_keeps ((State_when_keeps ((State_set_keeps (State_set_keeps (State_set_keeps k1)))) (fun _ h0 => State_set_keeps h0))))) (fun _ => fun _ h1 => State_when_keeps (State_set_keeps h1) (fun _ h2 => tripAnew_keeps h2)))), (State_each_keeps ((ageRestart_keeps ((State_when_keeps ((State_set_keeps (State_set_keeps (State_set_keeps k1)))) (fun _ h0 => State_set_keeps h0))))) (fun _ => fun _ h1 => State_when_keeps (State_set_keeps h1) (fun _ h2 => tripAnew_keeps h2)))])))

theorem execPwmStart_keeps {a : State} {x0 s1} (k1 : Keeps a s1) : KeepsOut a (execPwmStart x0 s1) := by
  unfold execPwmStart
  exact stallWrite_keeps (fun _ h0 => KeepsOut.next (State_cmdStart_keeps h0 (fun _ h1 => State_each_keeps h1 (fun _ => fun _ h2 => startOne_keeps h2)) (fun _ h3 => h3))) k1

theorem haltOne_keeps {a : State} {x0 s1} (k1 : Keeps a s1) : Keeps a (haltOne x0 s1) := by
  unfold haltOne
  exact windingFail_keeps (State_when_keeps ((cohLeave_keeps (ctcUpdate_keeps ((State_when_keeps ((State_set_keeps ((State_set_keeps (State_set_keeps (State_set_keeps (State_set_keeps ((State_set_keeps (State_set_keeps (State_set_keeps (State_set_keeps ((linesOff_keeps (State_set_keeps (State_set_keeps (State_set_keeps k1))))))))))))))))) (fun _ h0 => State_set_keeps h0)))))) (fun _ h1 => bemfLeft_keeps h1))

theorem execPwmStop_keeps {a : State} {x0 s1} (k1 : Keeps a s1) : KeepsOut a (execPwmStop x0 s1) := by
  unfold execPwmStop
  exact stallWrite_keeps (fun _ h0 => KeepsOut.next (State_cmdStart_keeps h0 (fun _ h1 => State_each_keeps h1 (fun _ => fun _ h2 => raiseStall_keeps (haltOne_keeps h2))) (fun _ h3 => h3))) k1

theorem execTripClear_keeps {a : State} {x0 x1 s2} (k2 : Keeps a s2) : KeepsOut a (execTripClear x0 x1 s2) := by
  unfold execTripClear
  exact stallWrite_keeps (fun _ h0 => KeepsOut.next (State_cmdStart_keeps h0 (fun _ h1 => State_set_keeps h1) (fun _ h2 => h2))) k2

theorem execArm_keeps {a : State} {x0 s1} (k1 : Keeps a s1) : KeepsOut a (execArm x0 s1) := by
  unfold execArm
  exact stallWrite_keeps (fun _ h0 => KeepsOut.cond (KeepsOut.next (busOk_keeps (State_set_keeps h0))) (KeepsOut.next (busErr_keeps h0))) k1

theorem execCompareEdge_keeps {a : State} {x0 x1 x2 x3 s4} (k4 : Keeps a s4) : KeepsOut a (execCompareEdge x0 x1 x2 x3 s4) := by
  unfold execCompareEdge
  exact KeepsOut.next (State_when_keeps k4 (fun _ h0 => refEdge_keeps h0))

theorem execDeadTimeEnd_keeps {a : State} {x0 x1 x2 s3} (k3 : Keeps a s3) : KeepsOut a (execDeadTimeEnd x0 x1 x2 s3) := by
  unfold execDeadTimeEnd
  exact KeepsOut.next (State_when_keeps k3 (fun _ h0 => deadEnd_keeps h0))

theorem execMinpEnd_keeps {a : State} {x0 x1 x2 s3} (k3 : Keeps a s3) : KeepsOut a (execMinpEnd x0 x1 x2 s3) := by
  unfold execMinpEnd
  exact KeepsOut.next (Keeps.cond (State_when_keeps k3 (fun _ h0 => refreshLines_keeps (State_setBit_keeps (refreshLines_keeps h0)))) (State_when_keeps k3 (fun _ h1 => refreshLines_keeps (rejudgeRemoval_keeps (refreshLines_keeps (rejudgeBridge_keeps h1))))))

theorem execTripAssert_keeps {a : State} {x0 x1 x2 s3} (k3 : Keeps a s3) : KeepsOut a (execTripAssert x0 x1 x2 s3) := by
  unfold execTripAssert
  exact KeepsOut.next (State_when_keeps k3 (fun _ h0 => tripAnew_keeps (State_set_keeps h0)))

theorem execTripJudge_keeps {a : State} {x0 x1 x2 s3} (k3 : Keeps a s3) : KeepsOut a (execTripJudge x0 x1 x2 s3) := by
  unfold execTripJudge
  exact KeepsOut.next (tripJudge_keeps k3)

theorem chooseProfile_keeps {a : State} {x0 x1 s2} (k2 : Keeps a s2) : Keeps a (chooseProfile x0 x1 s2) := by
  unfold chooseProfile
  exact Keeps.cond (State_set_keeps (State_set_keeps k2)) (State_when_keeps ((State_set_keeps (State_set_keeps k2))) (fun _ h0 => State_addSat_keeps h0))

theorem gateProfiles_keeps {a : State} {x0 s1} (k1 : Keeps a s1) : Keeps a (gateProfiles x0 s1) := by
  unfold gateProfiles
  exact State_when_keeps ((State_setB_keeps (State_each_keeps k1 (fun _ => fun _ h0 => chooseProfile_keeps h0)))) (fun _ h1 => raiseStall_keeps h1)

/-! ### Mon -/

theorem tripFollow_keeps {a : State} {x0 x1 x2 s3} (k3 : Keeps a s3) : Keeps a (tripFollow x0 x1 x2 s3) := by
  unfold tripFollow
  exact State_each_keeps k3 (fun _ => fun _ h0 => State_when_keeps ((State_setBit_keeps h0)) (fun _ h1 => State_set_keeps h1))

theorem warnFollow_keeps {a : State} {x0 s1} (k1 : Keeps a s1) : Keeps a (warnFollow x0 s1) := by
  unfold warnFollow
  exact State_when_keeps (State_setB_keeps k1) (fun _ h0 => raiseStall_keeps h0)

theorem monFollow_keeps {a : State} {x0 x1 x2 s3} (k3 : Keeps a s3) : Keeps a (monFollow x0 x1 x2 s3) := by
  unfold monFollow
  exact warnFollow_keeps (tripFollow_keeps k3)

theorem latchFollow_keeps {a : State} {x0 x1 x2 s3} (k3 : Keeps a s3) : Keeps a (latchFollow x0 x1 x2 s3) := by
  unfold latchFollow
  exact State_when_keeps k3 (fun _ h0 => State_set_keeps h0)

theorem hardLevel_keeps {a : State} {x0 x1 x2 s3} (k3 : Keeps a s3) : Keeps a (hardLevel x0 x1 x2 s3) := by
  unfold hardLevel
  exact State_setBit_keeps (State_setB_keeps k3)

theorem monStart_keeps {a : State} {x0 x1 s2} (k2 : Keeps a s2) : Keeps a (monStart x0 x1 s2) := by
  unfold monStart
  exact monFollow_keeps ((Keeps.cond (State_set_keeps ((State_setB_keeps ((hardLevel_keeps (State_set_keeps (State_set_keeps ((State_set_keeps (State_set_keeps (State_set_keeps k2))))))))))) (latchFollow_keeps (State_when_keeps ((State_setB_keeps ((hardLevel_keeps (State_set_keeps (State_set_keeps ((State_set_keeps (State_set_keeps (State_set_keeps k2)))))))))) (fun _ h0 => State_set_keeps h0)))))

theorem monAssert_keeps {a : State} {x0 x1 s2} (k2 : Keeps a s2) : Keeps a (monAssert x0 x1 s2) := by
  unfold monAssert
  exact monFollow_keeps (raiseStall_keeps ((State_when_keeps (State_inc_keeps ((State_set_keeps (State_set_keeps (State_set_keeps k2))))) (fun _ h0 => State_set_keeps h0))))

theorem monDeassert_keeps {a : State} {x0 x1 s2} (k2 : Keeps a s2) : Keeps a (monDeassert x0 x1 s2) := by
  unfold monDeassert
  exact monFollow_keeps (latchFollow_keeps ((State_set_keeps (State_set_keeps k2))))

theorem monResolve_keeps {a : State} {x0 x1 x2 s3} (k3 : Keeps a s3) : Keeps a (monResolve x0 x1 x2 s3) := by
  unfold monResolve
  exact monFollow_keeps (raiseStall_keeps ((State_when_keeps ((Keeps.cond (State_set_keeps ((State_setB_keeps ((State_set_keeps (State_set_keeps k3)))))) (latchFollow_keeps ((State_setB_keeps ((State_set_keeps (State_set_keeps k3)))))))) (fun _ h0 => State_set_keeps h0))))

theorem monHardStep_keeps {a : State} {x0 x1 x2 s3} (k3 : Keeps a s3) : Keeps a (monHardStep x0 x1 x2 s3) := by
  unfold monHardStep
  exact Keeps.cond (Keeps.cond (Keeps.cond (psfSet_keeps (recordFault_keeps ((warnFollow_keeps ((raiseStall_keeps (State_set_keeps (hardLevel_keeps ((State_set_keeps k3)))))))))) ((State_set_keeps k3))) (warnFollow_keeps (hardLevel_keeps (State_set_keeps k3)))) k3

theorem monFilterStep_keeps {a : State} {x0 x1 x2 s3} (k3 : Keeps a s3) : Keeps a (monFilterStep x0 x1 x2 s3) := by
  unfold monFilterStep
  exact Keeps.cond (monAssert_keeps ((State_set_keeps k3))) (Keeps.cond (monDeassert_keeps ((State_set_keeps k3))) (monFollow_keeps (latchFollow_keeps ((State_set_keeps k3)))))

theorem monThrLoad_keeps {a : State} {x0 x1 s2} (k2 : Keeps a s2) : Keeps a (monThrLoad x0 x1 s2) := by
  unfold monThrLoad
  exact State_set_keeps (State_set_keeps k2)

theorem monSample_keeps {a : State} {x0 x1 x2 s3} (k3 : Keeps a s3) : Keeps a (monSample x0 x1 x2 s3) := by
  unfold monSample
  exact Keeps.cond (Keeps.cond (Keeps.cond (monHardStep_keeps (monResolve_keeps ((State_set_keeps (State_set_keeps ((State_set_keeps ((State_when_keeps ((State_when_keeps k3 (fun _ h0 => monThrLoad_keeps h0))) (fun _ h1 => State_set_keeps h1)))))))))) (monFollow_keeps (latchFollow_keeps ((State_set_keeps (State_set_keeps ((State_set_keeps ((State_when_keeps ((State_when_keeps k3 (fun _ h0 => monThrLoad_keeps h0))) (fun _ h1 => State_set_keeps h1))))))))))) (monHardStep_keeps (monFilterStep_keeps ((State_when_keeps ((State_set_keeps (State_set_keeps ((State_set_keeps ((State_when_keeps ((State_when_keeps k3 (fun _ h0 => monThrLoad_keeps h0))) (fun _ h1 => State_set_keeps h1)))))))) (fun _ h2 => State_set_keeps h2)))))) k3

theorem monRun_keeps {a : State} {x0 x1 x2 s3} (k3 : Keeps a s3) : Keeps a (monRun x0 x1 x2 s3) := by
  unfold monRun
  exact Keeps.cond (State_set_keeps (Keeps.foldl k3 (fun _ h0 => fun _ => monSample_keeps h0))) k3

theorem execEvMonResolved_keeps {a : State} {x0 x1 x2 s3} (k3 : Keeps a s3) : KeepsOut a (execEvMonResolved x0 x1 x2 s3) := by
  unfold execEvMonResolved
  exact KeepsOut.next (monRun_keeps k3)

theorem execMonFilterAssert_keeps {a : State} {x0 x1 x2 s3} (k3 : Keeps a s3) : KeepsOut a (execMonFilterAssert x0 x1 x2 s3) := by
  unfold execMonFilterAssert
  exact KeepsOut.next (monRun_keeps k3)

theorem execMonFilterDeassert_keeps {a : State} {x0 x1 x2 s3} (k3 : Keeps a s3) : KeepsOut a (execMonFilterDeassert x0 x1 x2 s3) := by
  unfold execMonFilterDeassert
  exact KeepsOut.next (monRun_keeps k3)

theorem execMonHardAssert_keeps {a : State} {x0 x1 x2 s3} (k3 : Keeps a s3) : KeepsOut a (execMonHardAssert x0 x1 x2 s3) := by
  unfold execMonHardAssert
  exact KeepsOut.next (monRun_keeps k3)

theorem execMonHardDeassert_keeps {a : State} {x0 x1 x2 s3} (k3 : Keeps a s3) : KeepsOut a (execMonHardDeassert x0 x1 x2 s3) := by
  unfold execMonHardDeassert
  exact KeepsOut.next (monRun_keeps k3)

theorem execMonEnable_keeps {a : State} {x0 x1 s2} (k2 : Keeps a s2) : KeepsOut a (execMonEnable x0 x1 s2) := by
  unfold execMonEnable
  exact stallWrite_keeps (fun _ h0 => KeepsOut.next (busOk_keeps (Keeps.cond h0 (monStart_keeps (State_set_keeps h0))))) k2

theorem monStop_keeps {a : State} {x0 x1 s2} (k2 : Keeps a s2) : Keeps a (monStop x0 x1 s2) := by
  unfold monStop
  exact monFollow_keeps ((hardLevel_keeps (State_set_keeps (State_set_keeps (State_set_keeps ((State_set_keeps (State_set_keeps (State_set_keeps (State_set_keeps k2))))))))))

theorem execMonDisable_keeps {a : State} {x0 x1 s2} (k2 : Keeps a s2) : KeepsOut a (execMonDisable x0 x1 s2) := by
  unfold execMonDisable
  exact stallWrite_keeps (fun _ h0 => KeepsOut.cond (KeepsOut.next (busErr_keeps h0)) (KeepsOut.next (busOk_keeps (monStop_keeps h0)))) k2

theorem execMonThrLoad_keeps {a : State} {x0 x1 s2} (k2 : Keeps a s2) : KeepsOut a (execMonThrLoad x0 x1 s2) := by
  unfold execMonThrLoad
  exact KeepsOut.next (State_when_keeps k2 (fun _ h0 => monThrLoad_keeps h0))

theorem execMonLatchClear_keeps {a : State} {x0 x1 s2} (k2 : Keeps a s2) : KeepsOut a (execMonLatchClear x0 x1 s2) := by
  unfold execMonLatchClear
  exact stallWrite_keeps (fun _ h0 => KeepsOut.next (busOk_keeps (State_when_keeps h0 (fun _ h1 => monFollow_keeps (State_set_keeps h1))))) k2

theorem monPeriodClear_keeps {a : State} {x0 s1} (k1 : Keeps a s1) : Keeps a (monPeriodClear x0 s1) := by
  unfold monPeriodClear
  exact State_each_keeps k1 (fun _ => fun _ h0 => State_when_keeps h0 (fun _ h1 => tripFollow_keeps (State_set_keeps h1)))

theorem monInputChange_keeps {a : State} {x0 x1 s2} (k2 : Keeps a s2) : Keeps a (monInputChange x0 x1 s2) := by
  unfold monInputChange
  exact State_each_keeps k2 (fun _ => fun _ h0 => State_when_keeps h0 (fun _ h1 => monStart_keeps h1))

/-! ### Sense -/

theorem setCheckQueue_keeps {a : State} {x0 x1 s2} (k2 : Keeps a s2) : Keeps a (setCheckQueue x0 x1 s2) := by
  unfold setCheckQueue
  exact State_set_keeps k2

theorem requestCheck_keeps {a : State} {x0 x1 x2 s3} (k3 : Keeps a s3) : Keeps a (requestCheck x0 x1 x2 s3) := by
  unfold requestCheck
  exact Keeps.cond k3 (Keeps.cond ((State_set_keeps k3)) (setCheckQueue_keeps ((State_set_keeps k3))))

theorem pathRefresh_keeps {a : State} {x0 s1} (k1 : Keeps a s1) : Keeps a (pathRefresh x0 s1) := by
  unfold pathRefresh
  exact State_each_keeps k1 (fun _ => fun _ h0 => Keeps.cond h0 (Keeps.cond (State_when_keeps h0 (fun _ h1 => State_when_keeps h1 (fun _ h2 => State_set_keeps (State_set_keeps h2)))) (State_when_keeps h0 (fun _ h3 => State_set_keeps h3))))

theorem calEnd_keeps {a : State} {x0 x1 s2} (k2 : Keeps a s2) : Keeps a (calEnd x0 x1 s2) := by
  unfold calEnd
  exact raiseStall_keeps (State_set_keeps (State_cmdEnd_keeps k2))

theorem calFail_keeps {a : State} {x0 x1 s2} (k2 : Keeps a s2) : Keeps a (calFail x0 x1 s2) := by
  unfold calFail
  exact State_when_keeps k2 (fun _ h0 => calEnd_keeps (State_set_keeps h0))

theorem converterFails_keeps {a : State} {x0 x1 s2} (k2 : Keeps a s2) : Keeps a (converterFails x0 x1 s2) := by
  unfold converterFails
  exact Keeps.cond (raiseStallFault_keeps (State_set_keeps ((calFail_keeps (raiseStall_keeps ((State_set_keeps (State_set_keeps k2)))))))) (Keeps.cond (raiseStallFault_keeps ((calFail_keeps (raiseStall_keeps ((State_set_keeps (State_set_keeps k2))))))) (Keeps.cond (State_set_keeps (State_set_keeps (State_set_keeps ((calFail_keeps (raiseStall_keeps ((State_set_keeps (State_set_keeps k2))))))))) (Keeps.cond (raiseStallFault_keeps (State_set_keeps (State_set_keeps (State_set_keeps ((calFail_keeps (raiseStall_keeps ((State_set_keeps (State_set_keeps k2)))))))))) (raiseStallFault_keeps ((calFail_keeps (raiseStall_keeps ((State_set_keeps (State_set_keeps k2))))))))))

theorem pairsOut_keeps {a : State} {x0 x1 s2} (k2 : Keeps a s2) : Keeps a (pairsOut x0 x1 s2) := by
  unfold pairsOut
  exact State_set_keeps (State_set_keeps (State_set_keeps k2))

theorem execConverterCheckStart_keeps {a : State} {x0 s1} (k1 : Keeps a s1) : KeepsOut a (execConverterCheckStart x0 s1) := by
  unfold execConverterCheckStart
  exact KeepsOut.next (Keeps.cond k1 ((by split; exacts [k1, pathRefresh_keeps (State_set_keeps (State_set_keeps (State_set_keeps ((pairsOut_keeps (State_set_keeps (setCheckQueue_keeps k1)))))))])))

theorem latchForGood_keeps {a : State} {x0 x1 x2 s3} (k3 : Keeps a s3) : Keeps a (latchForGood x0 x1 x2 s3) := by
  unfold latchForGood
  exact State_each_keeps k3 (fun _ => fun _ h0 => State_when_keeps h0 (fun _ h1 => State_set_keeps h1))

theorem execConverterCheckDone_keeps {a : State} {x0 x1 x2 s3} (k3 : Keeps a s3) : KeepsOut a (execConverterCheckDone x0 x1 x2 s3) := by
  unfold execConverterCheckDone
  exact KeepsOut.next ((by split; exacts [k3, Keeps.cond k3 (Keeps.cond (State_when_keeps (State_set_keeps ((State_set_keeps (State_set_keeps k3)))) (fun _ h0 => raiseStallFault_keeps (latchForGood_keeps h0))) (converterFails_keeps ((State_set_keeps (State_set_keeps k3)))))]))

theorem execSpareCheckDone_keeps {a : State} {x0 x1 s2} (k2 : Keeps a s2) : KeepsOut a (execSpareCheckDone x0 x1 s2) := by
  unfold execSpareCheckDone
  exact KeepsOut.next (Keeps.cond k2 (Keeps.cond (State_set_keeps (State_set_keeps (State_set_keeps (State_set_keeps ((State_set_keeps k2)))))) (raiseStallFault_keeps (raiseStall_keeps (State_set_keeps ((State_set_keeps k2)))))))

theorem positionBack_keeps {a : State} {x0 x1 s2} (k2 : Keeps a s2) : Keeps a (positionBack x0 x1 s2) := by
  unfold positionBack
  exact Keeps.cond k2 (pathRefresh_keeps ((State_when_keeps ((State_set_keeps (State_set_keeps k2))) (fun _ h0 => raiseStallFault_keeps (raiseStall_keeps (State_set_keeps ((State_set_keeps (State_set_keeps h0)))))))))

theorem execSelLoad_keeps {a : State} {x0 s1} (k1 : Keeps a s1) : KeepsOut a (execSelLoad x0 s1) := by
  unfold execSelLoad
  exact KeepsOut.next (State_when_keeps k1 (fun _ h0 => State_each_keeps (State_set_keeps h0) (fun _ => fun _ h1 => State_set_keeps (State_set_keeps h1))))

theorem streamCut_keeps {a : State} {x0 x1 s2} (k2 : Keeps a s2) : Keeps a (streamCut x0 x1 s2) := by
  unfold streamCut
  exact Keeps.cond (State_set_keeps (State_set_keeps (State_set_keeps (State_set_keeps ((State_set_keeps k2)))))) (State_set_keeps ((State_set_keeps k2)))

theorem holdsClose_keeps {a : State} {x0 s1} (k1 : Keeps a s1) : Keeps a (holdsClose x0 s1) := by
  unfold holdsClose
  exact State_each_keeps ((State_set_keeps (State_setB_keeps ((State_set_keeps (State_each_keeps ((State_each_keeps k1 (fun _ => fun _ h0 => streamCut_keeps h0))) (fun _ => fun _ h1 => positionBack_keeps h1))))))) (fun _ => fun _ h2 => State_when_keeps ((State_set_keeps (State_setB_keeps h2))) (fun _ h3 => State_set_keeps h3))

theorem conversion_keeps {a : State} {x0 x1 x2 s3} (k3 : Keeps a s3) : Keeps a (conversion x0 x1 x2 s3) := by
  unfold conversion
  exact State_set_keeps (State_set_keeps (State_seti_keeps ((State_set_keeps (State_setB_keeps (State_set_keeps ((State_seti_keeps ((State_setB_keeps (State_set_keeps (State_set_keeps k3))))))))))))

theorem execConversionDone_keeps {a : State} {x0 x1 x2 s3} (k3 : Keeps a s3) : KeepsOut a (execConversionDone x0 x1 x2 s3) := by
  unfold execConversionDone
  exact KeepsOut.next (State_when_keeps k3 (fun _ h0 => conversion_keeps h0))

theorem pairMismatch_keeps {a : State} {x0 x1 s2} (k2 : Keeps a s2) : Keeps a (pairMismatch x0 x1 s2) := by
  unfold pairMismatch
  exact Keeps.cond (requestCheck_keeps (requestCheck_keeps (raiseStall_keeps ((State_setBit_keeps (State_set_keeps ((State_inc_keeps (State_inc_keeps (State_inc_keeps k2)))))))))) ((State_inc_keeps (State_inc_keeps (State_inc_keeps k2))))

theorem execCheckConversionDone_keeps {a : State} {x0 x1 x2 s3} (k3 : Keeps a s3) : KeepsOut a (execCheckConversionDone x0 x1 x2 s3) := by
  unfold execCheckConversionDone
  exact KeepsOut.next (Keeps.cond (Keeps.cond (State_set_keeps ((State_setBit_keeps k3))) (Keeps.cond (pairMismatch_keeps ((State_setBit_keeps k3))) (State_set_keeps ((State_setBit_keeps k3))))) k3)

theorem modClear_keeps {a : State} {x0 x1 s2} (k2 : Keeps a s2) : Keeps a (modClear x0 x1 s2) := by
  unfold modClear
  exact State_when_keeps (State_set_keeps ((State_set_keeps (State_setBit_keeps (State_set_keeps (State_set_keeps k2)))))) (fun _ h0 => monInputChange_keeps h0)

theorem modValid_keeps {a : State} {x0 x1 s2} (k2 : Keeps a s2) : Keeps a (modValid x0 x1 s2) := by
  unfold modValid
  exact State_when_keeps ((State_setB_keeps (State_setB_keeps k2))) (fun _ h0 => monInputChange_keeps h0)

theorem modCtrlWrite_keeps {a : State} {x0 x1 s2} (k2 : Keeps a s2) : Keeps a (modCtrlWrite x0 x1 s2) := by
  unfold modCtrlWrite
  exact Keeps.cond (busErr_keeps k2) (State_each_keeps ((State_set_keeps ((State_when_keeps ((State_when_keeps ((Keeps.cond (busErr_keeps k2) (busOk_keeps k2))) (fun _ h0 => State_when_keeps (State_setB_keeps h0) (fun _ h1 => State_set_keeps h1)))) (fun _ h2 => State_set_keeps h2))))) (fun _ => fun _ h3 => State_when_keeps h3 (fun _ h4 => modClear_keeps h4)))

theorem execModCtrlWrite_keeps {a : State} {x0 x1 s2} (k2 : Keeps a s2) : KeepsOut a (execModCtrlWrite x0 x1 s2) := by
  unfold execModCtrlWrite
  exact stallWrite_keeps (fun _ h0 => KeepsOut.next (modCtrlWrite_keeps h0)) k2

theorem execModFilterFilled_keeps {a : State} {x0 x1 x2 x3 s4} (k4 : Keeps a s4) : KeepsOut a (execModFilterFilled x0 x1 x2 x3 s4) := by
  unfold execModFilterFilled
  exact KeepsOut.next (State_when_keeps k4 (fun _ h0 => modValid_keeps (State_setBit_keeps ((State_set_keeps h0)))))

theorem execEvModClip_keeps {a : State} {x0 x1 s2} (k2 : Keeps a s2) : KeepsOut a (execEvModClip x0 x1 s2) := by
  unfold execEvModClip
  exact KeepsOut.next (State_when_keeps k2 (fun _ h0 => raiseStall_keeps (State_setBit_keeps ((State_set_keeps h0)))))

theorem execModStuck_keeps {a : State} {x0 x1 s2} (k2 : Keeps a s2) : KeepsOut a (execModStuck x0 x1 s2) := by
  unfold execModStuck
  exact KeepsOut.next (State_when_keeps k2 (fun _ h0 => calFail_keeps (raiseStallFault_keeps (raiseStall_keeps ((modValid_keeps (State_set_keeps (State_setBit_keeps (State_setBit_keeps ((State_set_keeps h0)))))))))))

theorem execModUnstuck_keeps {a : State} {x0 x1 s2} (k2 : Keeps a s2) : KeepsOut a (execModUnstuck x0 x1 s2) := by
  unfold execModUnstuck
  exact KeepsOut.next (State_when_keeps k2 (fun _ h0 => modValid_keeps (State_set_keeps (State_setBit_keeps h0))))

theorem modLatch_keeps {a : State} {x0 x1 s2} (k2 : Keeps a s2) : Keeps a (modLatch x0 x1 s2) := by
  unfold modLatch
  exact State_each_keeps k2 (fun _ => fun _ h0 => (by split; exacts [h0, State_when_keeps h0 (fun _ h1 => State_seti_keeps (State_set_keeps ((State_set_keeps h1))))]))

theorem slotUnchecked_keeps {a : State} {x0 x1 s2} (k2 : Keeps a s2) : Keeps a (slotUnchecked x0 x1 s2) := by
  unfold slotUnchecked
  exact State_set_keeps (State_set_keeps k2)

theorem slotCount_keeps {a : State} {x0 x1 x2 s3} (k3 : Keeps a s3) : Keeps a (slotCount x0 x1 x2 s3) := by
  unfold slotCount
  exact Keeps.cond (Keeps.cond (State_when_keeps ((raiseStallFault_keeps (raiseStall_keeps (State_set_keeps ((State_set_keeps (State_set_keeps ((State_when_keeps (State_set_keeps (State_set_keeps (State_inc_keeps (State_inc_keeps k3)))) (fun _ h0 => raiseStall_keeps h0)))))))))) (fun _ h1 => requestCheck_keeps h1)) ((State_when_keeps (State_set_keeps (State_set_keeps (State_inc_keeps (State_inc_keeps k3)))) (fun _ h0 => raiseStall_keeps h0)))) (State_when_keeps ((State_set_keeps (State_set_keeps k3))) (fun _ h2 => State_set_keeps h2))

theorem slotTake_keeps {a : State} {x0 x1 x2 x3 x4 s5} (k5 : Keeps a s5) : Keeps a (slotTake x0 x1 x2 x3 x4 s5) := by
  unfold slotTake
  exact State_set_keeps (State_set_keeps ((State_setB_keeps (State_set_keeps (State_setF_keeps k5)))))

theorem slotNone_keeps {a : State} {x0 x1 s2} (k2 : Keeps a s2) : Keeps a (slotNone x0 x1 s2) := by
  unfold slotNone
  exact State_set_keeps (State_set_keeps (State_set_keeps k2))

theorem slotEval_keeps {a s : State} {n q : Nat} (h : Keeps a s) : Keeps a (slotEval n q s) := by
  unfold slotEval
  dsimp only
  split
  · exact Keeps.cond (Keeps.cond (slotTake_keeps (slotUnchecked_keeps h)) (slotTake_keeps (slotUnchecked_keeps h)))
      (Keeps.cond (slotTake_keeps (slotCount_keeps h)) (Keeps.cond (slotTake_keeps (slotCount_keeps h)) (slotTake_keeps (slotCount_keeps h))))
  · exact Keeps.cond (slotNone_keeps (slotUnchecked_keeps h)) (slotTake_keeps (slotUnchecked_keeps h))
  · exact slotTake_keeps (slotUnchecked_keeps h)
  · exact slotNone_keeps (slotUnchecked_keeps h)

theorem slotLost_keeps {a : State} {x0 x1 x2 s3} (k3 : Keeps a s3) : Keeps a (slotLost x0 x1 x2 s3) := by
  unfold slotLost
  exact Keeps.cond k3 (Keeps.cond (State_when_keeps ((slotTake_keeps k3)) (fun _ h0 => raiseStallFault_keeps h0)) (State_when_keeps k3 (fun _ h1 => raiseStallFault_keeps h1)))

theorem slotsKeep_keeps {a : State} {x0 s1} (k1 : Keeps a s1) : Keeps a (slotsKeep x0 s1) := by
  unfold slotsKeep
  exact State_each_keeps ((State_set_keeps (State_set_keeps k1))) (fun _ => fun _ h0 => State_setF_keeps h0)

theorem slotsClose_keeps {a : State} {x0 s1} (k1 : Keeps a s1) : Keeps a (slotsClose x0 s1) := by
  unfold slotsClose
  exact State_when_keeps k1 (fun _ h0 => slotsKeep_keeps (State_set_keeps ((State_each_keeps h0 (fun _ => fun _ h1 => (by split; exacts [State_set_keeps (State_setF_keeps h1), h1]))))))

theorem slotsEval_keeps {a : State} {x0 s1} (k1 : Keeps a s1) : Keeps a (slotsEval x0 s1) := by
  unfold slotsEval
  exact slotsKeep_keeps (State_each_keeps ((State_when_keeps ((State_each_keeps ((State_set_keeps k1)) (fun _ => fun _ h0 => Keeps.cond h0 (slotEval_keeps h0)))) (fun _ h1 => State_setB_keeps (slotTake_keeps h1)))) (fun _ => fun _ h2 => Keeps.cond h2 (slotLost_keeps h2)))

theorem execPathReturn_keeps {a : State} {x0 x1 s2} (k2 : Keeps a s2) : KeepsOut a (execPathReturn x0 x1 s2) := by
  unfold execPathReturn
  exact KeepsOut.next (State_when_keeps k2 (fun _ h0 => raiseStall_keeps (State_set_keeps (State_set_keeps (State_set_keeps h0)))))

theorem selectsNext_keeps {a : State} {x0 s1} (k1 : Keeps a s1) : Keeps a (selectsNext x0 s1) := by
  unfold selectsNext
  exact State_each_keeps k1 (fun _ => fun _ h0 => State_set_keeps (State_set_keeps h0))

theorem calLoad_keeps {a : State} {x0 s1} (k1 : Keeps a s1) : Keeps a (calLoad x0 s1) := by
  unfold calLoad
  exact (by split; exacts [State_each_keeps ((State_set_keeps k1)) (fun _ => fun _ h0 => State_set_keeps (State_set_keeps h0)), State_each_keeps ((State_set_keeps k1)) (fun _ => fun _ h1 => State_set_keeps (State_set_keeps h1))])

theorem calWait_keeps {a : State} {x0 x1 s2} (k2 : Keeps a s2) : Keeps a (calWait x0 x1 s2) := by
  unfold calWait
  exact raiseStall_keeps (State_set_keeps (State_set_keeps k2))

theorem execCalRun_keeps {a : State} {x0 s1} (k1 : Keeps a s1) : KeepsOut a (execCalRun x0 s1) := by
  unfold execCalRun
  exact stallWrite_keeps (fun _ h0 => KeepsOut.next (State_cmdStart_keeps h0 (fun _ h1 => calWait_keeps h1) (fun _ h2 => raiseStall_keeps h2))) k1

theorem calStep_keeps {a : State} {x0 x1 s2} (k2 : Keeps a s2) : Keeps a (calStep x0 x1 s2) := by
  unfold calStep
  exact Keeps.cond (busOk_keeps (State_set_keeps (State_set_keeps (State_set_keeps k2)))) (busErr_keeps k2)

theorem execZeroApplied_keeps {a : State} {x0 s1} (k1 : Keeps a s1) : KeepsOut a (execZeroApplied x0 s1) := by
  unfold execZeroApplied
  exact stallWrite_keeps (fun _ h0 => KeepsOut.next (calStep_keeps h0)) k1

theorem execFullApplied_keeps {a : State} {x0 s1} (k1 : Keeps a s1) : KeepsOut a (execFullApplied x0 s1) := by
  unfold execFullApplied
  exact stallWrite_keeps (fun _ h0 => KeepsOut.next (calStep_keeps h0)) k1

theorem calComputeAll_keeps {a s : State} {n : Nat} {m : List (BitVec 24)} {l : List Nat} (h : Keeps a s) : Keeps a (calComputeAll n m l s) := by
  induction l generalizing s with
  | nil => exact State_set_keeps h
  | cons j r ih =>
    unfold calComputeAll
    split
    · split
      · exact calFail_keeps h
      · exact ih (State_seti_keeps (State_seti_keeps h))
    · exact ih h

theorem execCaptureDone_keeps {a : State} {x0 x1 x2 s3} (k3 : Keeps a s3) : KeepsOut a (execCaptureDone x0 x1 x2 s3) := by
  unfold execCaptureDone
  exact KeepsOut.next (Keeps.cond k3 (Keeps.cond (Keeps.cond (calFail_keeps k3) (calWait_keeps (State_each_keeps k3 (fun _ => fun _ h0 => State_set_keeps h0)))) (Keeps.cond (Keeps.cond (calFail_keeps k3) (calComputeAll_keeps (State_set_keeps k3))) k3)))

theorem execCalWaitTimeout_keeps {a : State} {x0 s1} (k1 : Keeps a s1) : KeepsOut a (execCalWaitTimeout x0 s1) := by
  unfold execCalWaitTimeout
  exact KeepsOut.next (State_when_keeps k1 (fun _ h0 => calFail_keeps h0))

theorem calCommit_keeps {a : State} {x0 x1 s2} (k2 : Keeps a s2) : Keeps a (calCommit x0 x1 s2) := by
  unfold calCommit
  exact (by split; exacts [calEnd_keeps (calLoad_keeps (State_inc_keeps (State_putWords_keeps k2)))])

theorem execCalCommitDone_keeps {a : State} {x0 x1 s2} (k2 : Keeps a s2) : KeepsOut a (execCalCommitDone x0 x1 s2) := by
  unfold execCalCommitDone
  exact KeepsOut.next (State_when_keeps k2 (fun _ h0 => Keeps.cond (calCommit_keeps h0) (calFail_keeps h0)))

theorem calAbort_keeps {a : State} {x0 s1} (k1 : Keeps a s1) : Keeps a (calAbort x0 s1) := by
  unfold calAbort
  exact Keeps.cond (calCommit_keeps (State_draw_keeps k1)) (calEnd_keeps (State_when_keeps k1 (fun _ h0 => State_draw_keeps h0)))

theorem calReset_keeps {a : State} {x0 s1} (k1 : Keeps a s1) : Keeps a (calReset x0 s1) := by
  unfold calReset
  exact Keeps.cond ((by split; exacts [(by (try extract_lets); split; exacts [State_draw_keeps k1, State_draw_keeps (State_putWords_keeps k1), State_draw_keeps (State_putWords_keeps k1)])])) k1

/-! ### Ledger -/

theorem setRfStack_keeps {a : State} {x0 x1 s2} (k2 : Keeps a s2) : Keeps a (setRfStack x0 x1 s2) := by
  unfold setRfStack
  exact State_each_keeps (State_set_keeps k2) (fun _ => fun _ h0 => State_set_keeps h0)

theorem rfCount_keeps {a : State} {x0 x1 x2 x3 s4} (k4 : Keeps a s4) : Keeps a (rfCount x0 x1 x2 x3 s4) := by
  unfold rfCount
  exact Keeps.cond k4 (State_addSat_keeps k4)

theorem rfClose_keeps {a s t : State} {k f : Nat} {l r : List Int} (h : Keeps a s) (q : rfClose k f l s = (r, t)) : Keeps a t := by
  induction f generalizing s l with
  | zero => obtain ⟨-, rfl⟩ := Prod.mk.inj q; exact h
  | succ f ih =>
    match l, q with
    | d :: c :: b :: x :: l, q =>
      rw [rfClose] at q
      split at q
      · exact ih (rfCount_keeps h) q
      · obtain ⟨-, rfl⟩ := Prod.mk.inj q; exact h
    | [], q => obtain ⟨-, rfl⟩ := Prod.mk.inj q; exact h
    | [_], q => obtain ⟨-, rfl⟩ := Prod.mk.inj q; exact h
    | [_, _], q => obtain ⟨-, rfl⟩ := Prod.mk.inj q; exact h
    | [_, _, _], q => obtain ⟨-, rfl⟩ := Prod.mk.inj q; exact h

theorem rfPush_keeps {a s : State} {k : Nat} {x : Int} (h : Keeps a s) : Keeps a (rfPush k x s) := by
  unfold rfPush
  dsimp only
  refine setRfStack_keeps (rfClose_keeps ?_ (Prod.eta _).symm)
  split
  · split
    · exact rfCount_keeps h
    · exact h
  · exact h

theorem rfHalves_keeps {a : State} {x0 x1 s2} (k2 : Keeps a s2) : Keeps a (rfHalves x0 x1 s2) := by
  unfold rfHalves
  exact Keeps.foldl k2 (fun _ h0 => fun _ => rfCount_keeps h0)

theorem rfFlush_keeps {a : State} {x0 s1} (k1 : Keeps a s1) : Keeps a (rfFlush x0 s1) := by
  unfold rfFlush
  exact State_set_keeps (setRfStack_keeps (rfHalves_keeps k1))

theorem rfReset_keeps {a : State} {s0 s1} (_ : Keeps a s0) (k1 : Keeps a s1) : Keeps a (rfReset s0 s1) := by
  unfold rfReset
  exact State_each_keeps k1 (fun _ => fun _ h0 => rfHalves_keeps h0)

theorem rfSample_keeps {a : State} {x0 x1 s2} (k2 : Keeps a s2) : Keeps a (rfSample x0 x1 s2) := by
  unfold rfSample
  exact (by (try extract_lets); split; exacts [State_seti_keeps (State_set_keeps k2), Keeps.cond (State_seti_keeps k2) (Keeps.cond (State_seti_keeps (State_set_keeps (rfPush_keeps k2))) k2), Keeps.cond (State_seti_keeps k2) (Keeps.cond (State_seti_keeps (State_set_keeps (rfPush_keeps k2))) k2), Keeps.cond (State_seti_keeps (State_set_keeps (rfPush_keeps k2))) (Keeps.cond (State_seti_keeps (State_set_keeps (rfPush_keeps k2))) k2)])

theorem execRainflowTick_keeps {a : State} {s0} (k0 : Keeps a s0) : KeepsOut a (execRainflowTick s0) := by
  unfold execRainflowTick
  exact KeepsOut.next (State_when_keeps k0 (fun _ h0 => State_each_keeps (State_set_keeps h0) (fun _ => fun _ h1 => Keeps.cond (rfSample_keeps h1) (Keeps.cond h1 (rfFlush_keeps h1)))))

theorem energyAdd_keeps {a : State} {x0 x1 x2 s3} (k3 : Keeps a s3) : Keeps a (energyAdd x0 x1 x2 s3) := by
  unfold energyAdd
  exact State_setWide_keeps (State_set_keeps k3)

theorem ledgerPeriod_keeps {a : State} {x0 s1} (k1 : Keeps a s1) : Keeps a (ledgerPeriod x0 s1) := by
  unfold ledgerPeriod
  exact Keeps.cond (State_inc_keeps (State_set_keeps ((Keeps.cond (energyAdd_keeps ((State_when_keeps k1 (fun _ h0 => State_set_keeps (State_setF_keeps h0))))) (energyAdd_keeps ((State_when_keeps k1 (fun _ h0 => State_set_keeps (State_setF_keeps h0))))))))) ((State_when_keeps k1 (fun _ h0 => State_set_keeps (State_setF_keeps h0))))

theorem switchingTime_keeps {a : State} {x0 x1 s2} (k2 : Keeps a s2) : Keeps a (switchingTime x0 x1 s2) := by
  unfold switchingTime
  exact State_addSat_keeps (State_set_keeps k2)

theorem secondBands_keeps {a : State} {x0 s1} (k1 : Keeps a s1) : Keeps a (secondBands x0 s1) := by
  unfold secondBands
  exact State_set_keeps (State_set_keeps (State_set_keeps ((Keeps.cond (State_inc_keeps ((Keeps.cond k1 (State_inc_keeps k1)))) ((Keeps.cond k1 (State_inc_keeps k1)))))))

theorem ledBody_keeps {a : State} {s0} (k0 : Keeps a s0) : Keeps a (ledBody s0) := by
  unfold ledBody
  exact State_set_keeps (State_putWords_keeps (State_putWords_keeps k0))

theorem ledStart_keeps {a : State} {x0 s1} (k1 : Keeps a s1) : Keeps a (ledStart x0 s1) := by
  unfold ledStart
  exact ledBody_keeps (Keeps.ledSnap ((State_set_keeps (State_set_keeps (State_set_keeps ((State_set_keeps (State_set_keeps (State_set_keeps ((State_set_keeps (State_set_keeps (State_set_keeps k1)))))))))))))

theorem execLedgerAutoCommit_keeps {a : State} {s0} (k0 : Keeps a s0) : KeepsOut a (execLedgerAutoCommit s0) := by
  unfold execLedgerAutoCommit
  exact KeepsOut.next (Keeps.cond k0 (Keeps.cond ((State_inc_keeps (State_each_keeps (State_set_keeps k0) (fun _ => fun _ h0 => secondBands_keeps h0)))) (Keeps.cond (State_inc_keeps ((State_inc_keeps (State_each_keeps (State_set_keeps k0) (fun _ => fun _ h0 => secondBands_keeps h0))))) (ledStart_keeps ((State_inc_keeps (State_each_keeps (State_set_keeps k0) (fun _ => fun _ h0 => secondBands_keeps h0))))))))

theorem execCommit_keeps {a : State} {s0} (k0 : Keeps a s0) : KeepsOut a (execCommit s0) := by
  unfold execCommit
  exact KeepsOut.next (State_cmdStart_keeps k0 (fun _ h0 => ledStart_keeps h0) (fun _ h1 => h1))

theorem ledEnd_keeps {a : State} {x0 s1} (k1 : Keeps a s1) : Keeps a (ledEnd x0 s1) := by
  unfold ledEnd
  exact State_when_keeps ((Keeps.ledSnap ((State_set_keeps (State_set_keeps k1))))) (fun _ h0 => State_cmdEnd_keeps h0)

theorem ledUndo_keeps {a : State} {s0} (k0 : Keeps a s0) : Keeps a (ledUndo s0) := by
  unfold ledUndo
  exact State_set_keeps (State_set_keeps k0)

theorem ledRetire_keeps {a : State} {x0 s1} (k1 : Keeps a s1) : Keeps a (ledRetire x0 s1) := by
  unfold ledRetire
  exact Keeps.cond k1 (State_when_keeps ((State_set_keeps (State_set_keeps k1))) (fun _ h0 => raiseEvent_keeps (raiseFault_keeps h0)))

theorem ledClose_keeps {a : State} {s0} (k0 : Keeps a s0) : Keeps a (ledClose s0) := by
  unfold ledClose
  exact State_putWord_keeps k0

theorem ledCommit_keeps {a : State} {x0 s1} (k1 : Keeps a s1) : Keeps a (ledCommit x0 s1) := by
  unfold ledCommit
  exact raiseEvent_keeps (ledEnd_keeps ((State_when_keeps ((State_set_keeps ((State_set_keeps (State_set_keeps (State_set_keeps ((ledClose_keeps k1)))))))) (fun _ h0 => State_set_keeps h0))))

theorem execEvLedgerCommit_keeps {a : State} {x0 s1} (k1 : Keeps a s1) : KeepsOut a (execEvLedgerCommit x0 s1) := by
  unfold execEvLedgerCommit
  exact KeepsOut.next (Keeps.cond k1 (Keeps.cond (ledCommit_keeps k1) (Keeps.cond (ledBody_keeps (State_set_keeps (State_set_keeps ((ledRetire_keeps k1))))) (raiseEvent_keeps (raiseFault_keeps ((State_inc_keeps (ledEnd_keeps (ledUndo_keeps ((ledRetire_keeps k1)))))))))))

theorem ledAbort_keeps {a : State} {s0} (k0 : Keeps a s0) : Keeps a (ledAbort s0) := by
  unfold ledAbort
  exact Keeps.cond (ledEnd_keeps (ledUndo_keeps k0)) (State_draw_keeps (Keeps.cond (ledCommit_keeps k0) (ledEnd_keeps (ledUndo_keeps k0))))

theorem ledReset_keeps {a : State} {s0} (k0 : Keeps a s0) : Keeps a (ledReset s0) := by
  unfold ledReset
  exact State_when_keeps k0 (fun _ h0 => State_draw_keeps (Keeps.cond (ledClose_keeps h0) h0))

theorem ledPowerLoss_keeps {a : State} {s0} (k0 : Keeps a s0) : Keeps a (ledPowerLoss s0) := by
  unfold ledPowerLoss
  exact Keeps.cond (ledStart_keeps k0) k0

theorem ledGain_keeps {a : State} {x0 x1 s2} (k2 : Keeps a s2) : Keeps a (ledGain x0 x1 s2) := by
  unfold ledGain
  exact State_setWide_keeps k2

theorem ledRestore_keeps {a : State} {x0 x1 s2} (k2 : Keeps a s2) : Keeps a (ledRestore x0 x1 s2) := by
  unfold ledRestore
  exact State_set_keeps (State_set_keeps ((State_set_keeps (State_set_keeps ((State_each_keeps ((State_set_keeps ((State_each_keeps ((State_each_keeps ((State_each_keeps k2 (fun _ => fun _ h0 => State_addSat_keeps h0))) (fun _ => fun _ h1 => ledGain_keeps h1))) (fun _ => fun _ h2 => State_set_keeps h2))))) (fun _ => fun _ h3 => (by split; exacts [State_each_keeps h3 (fun _ => fun _ h4 => State_set_keeps h4), h3]))))))))

theorem execLedgerLoadDone_keeps {a s : State} (h : Keeps a s) : KeepsOut a (execLedgerLoadDone s) := by
  unfold execLedgerLoadDone
  refine KeepsOut.next (Keeps.cond h ?_)
  extract_lets l s1 d s2 s3 s4 s5
  have h1 : Keeps a s1 := by
    clear_value l
    cases l
    · exact State_each_keeps (State_set_keeps h) fun _ _ h => State_set_keeps h
    · exact ledRestore_keeps h
  clear_value s1
  have h2 : Keeps a s2 := State_set_keeps (State_addSat_keeps h1)
  clear_value s2
  have h4 : Keeps a s4 := Keeps.faultHeld (State_set_keeps h2)
  clear_value s4
  have h5 : Keeps a s5 := State_each_keeps h4 fun _ _ h => State_set_keeps (State_addSat_keeps h)
  clear_value s5
  exact Keeps.foldl h5 fun _ h _ => heldEnter_keeps h

end Sys2Proof.Machine
end

