-- ==== Sys2Proof/Laws/KeepsDrives.lean ====
section
/-!
SUPPORT. Each operation and meaning of Machine/ keeps the canonical forms and the queue (`Keeps`, Laws/Keeps.lean): the files Pos, Loop, Junction, Rein, AuxUnits, Trigger, Prot, SafetyUnit.
-/

namespace Sys2Proof.Machine

/-! ### Pos -/

theorem speedEdge_keeps {a : State} {x0 x1 x2 s3} (k3 : Keeps a s3) : Keeps a (speedEdge x0 x1 x2 s3) := by
  unfold speedEdge
  exact Keeps.cond (State_set_keeps (State_set_keeps ((State_set_keeps (State_setB_keeps (State_set_keeps ((State_set_keeps k3)))))))) (State_set_keeps (State_set_keeps ((State_set_keeps (State_set_keeps (State_setF_keeps ((Keeps.cond (State_setF_keeps (State_setF_keeps ((State_set_keeps k3)))) (State_setF_keeps ((State_setF_keeps ((State_set_keeps k3)))))))))))))

theorem speedRestart_keeps {a : State} {x0 x1 s2} (k2 : Keeps a s2) : Keeps a (speedRestart x0 x1 s2) := by
  unfold speedRestart
  exact State_set_keeps (State_set_keeps ((State_set_keeps (State_set_keeps (State_set_keeps k2)))))

theorem sensorFailed_keeps {a : State} {x0 x1 s2} (k2 : Keeps a s2) : Keeps a (sensorFailed x0 x1 s2) := by
  unfold sensorFailed
  exact Keeps.cond k2 (Keeps.cond (raiseStallFault_keeps (raiseStall_keeps (State_set_keeps ((raiseStall_keeps (State_set_keeps k2)))))) (raiseStallFault_keeps (State_set_keeps (State_set_keeps ((raiseStall_keeps (State_set_keeps k2)))))))

theorem observerLost_keeps {a : State} {x0 s1} (k1 : Keeps a s1) : Keeps a (observerLost x0 s1) := by
  unfold observerLost
  exact State_when_keeps k1 (fun _ h0 => raiseStallFault_keeps (State_set_keeps (State_set_keeps h0)))

theorem setTravel_keeps {a : State} {x0 x1 s2} (k2 : Keeps a s2) : Keeps a (setTravel x0 x1 s2) := by
  unfold setTravel
  exact State_setWide_keeps k2

theorem travelMove_keeps {a : State} {x0 x1 s2} (k2 : Keeps a s2) : Keeps a (travelMove x0 x1 s2) := by
  unfold travelMove
  exact Keeps.cond k2 (State_when_keeps ((State_setB_keeps (State_setB_keeps ((setTravel_keeps ((State_seti_keeps (State_set_keeps k2)))))))) (fun _ h0 => raiseStallFault_keeps (raiseStall_keeps (State_set_keeps h0))))

theorem travelPreset_keeps {a : State} {x0 x1 s2} (k2 : Keeps a s2) : Keeps a (travelPreset x0 x1 s2) := by
  unfold travelPreset
  exact Keeps.cond (busOk_keeps (Keeps.cond (travelMove_keeps (State_set_keeps ((State_set_keeps (State_set_keeps (setTravel_keeps ((Keeps.held (storeSorted_drop _) k2)))))))) ((State_set_keeps (State_set_keeps (setTravel_keeps ((Keeps.held (storeSorted_drop _) k2)))))))) (busErr_keeps k2)

theorem execTravelPreset_keeps {a : State} {x0 x1 s2} (k2 : Keeps a s2) : KeepsOut a (execTravelPreset x0 x1 s2) := by
  unfold execTravelPreset
  exact stallWrite_keeps (fun _ h0 => KeepsOut.next (travelPreset_keeps h0)) k2

theorem posRestart_keeps {a : State} {x0 s1} (k1 : Keeps a s1) : Keeps a (posRestart x0 s1) := by
  unfold posRestart
  exact State_set_keeps (State_set_keeps (State_set_keeps (State_set_keeps (State_set_keeps ((State_set_keeps (State_set_keeps (State_set_keeps ((State_set_keeps (State_set_keeps (State_set_keeps ((State_set_keeps (State_set_keeps (State_set_keeps ((State_set_keeps (State_set_keeps (State_set_keeps ((State_set_keeps (State_set_keeps (State_set_keeps ((State_set_keeps (State_set_keeps (State_set_keeps ((State_set_keeps (State_set_keeps ((State_set_keeps (State_set_keeps (State_set_keeps ((State_set_keeps (State_set_keeps (State_set_keeps k1)))))))))))))))))))))))))))))))))))))))

theorem sentRestart_keeps {a : State} {x0 s1} (k1 : Keeps a s1) : Keeps a (sentRestart x0 s1) := by
  unfold sentRestart
  exact State_set_keeps (State_set_keeps (State_set_keeps k1))

theorem execPosEnable_keeps {a : State} {x0 s1} (k1 : Keeps a s1) : KeepsOut a (execPosEnable x0 s1) := by
  unfold execPosEnable
  exact stallWrite_keeps (fun _ h0 => KeepsOut.cond (KeepsOut.next (busOk_keeps h0)) (KeepsOut.cond (KeepsOut.next (busOk_keeps (State_set_keeps (posRestart_keeps h0)))) (KeepsOut.next (busErr_keeps (State_set_keeps h0))))) k1

theorem execPosDisable_keeps {a : State} {x0 s1} (k1 : Keeps a s1) : KeepsOut a (execPosDisable x0 s1) := by
  unfold execPosDisable
  exact stallWrite_keeps (fun _ h0 => KeepsOut.cond (KeepsOut.next (busErr_keeps h0)) (KeepsOut.next (busOk_keeps (State_when_keeps h0 (fun _ h1 => State_set_keeps (posRestart_keeps h1)))))) k1

theorem ssiStart_keeps {a : State} {x0 s1} (k1 : Keeps a s1) : Keeps a (ssiStart x0 s1) := by
  unfold ssiStart
  exact Keeps.cond (Keeps.cond (State_inc_keeps k1) (State_set_keeps (State_set_keeps k1))) k1

theorem latchFlags_keeps {a : State} {x0 s1} (k1 : Keeps a s1) : Keeps a (latchFlags x0 s1) := by
  unfold latchFlags
  exact State_seti_keeps (State_set_keeps k1)

theorem posLatch_keeps {a : State} {x0 s1} (k1 : Keeps a s1) : Keeps a (posLatch x0 s1) := by
  unfold posLatch
  exact Keeps.cond (latchFlags_keeps (Keeps.cond (observerLost_keeps ((State_setB_keeps ((State_set_keeps (State_set_keeps (State_setF_keeps ((State_set_keeps (State_set_keeps ((State_set_keeps ((State_when_keeps k1 (fun _ h0 => State_set_keeps h0))))))))))))))) ((State_setB_keeps ((State_set_keeps (State_set_keeps (State_setF_keeps ((State_set_keeps (State_set_keeps ((State_set_keeps ((State_when_keeps k1 (fun _ h0 => State_set_keeps h0)))))))))))))))) (latchFlags_keeps (State_setF_keeps ((State_set_keeps (State_set_keeps ((State_when_keeps ((State_set_keeps ((State_when_keeps k1 (fun _ h0 => State_set_keeps h0))))) (fun _ h1 => State_setB_keeps (State_setB_keeps h1)))))))))

theorem execPosInternalInstant_keeps {a : State} {x0 s1} (k1 : Keeps a s1) : KeepsOut a (execPosInternalInstant x0 s1) := by
  unfold execPosInternalInstant
  exact KeepsOut.next (State_when_keeps k1 (fun _ h0 => decideBand_keeps (ssiStart_keeps (posLatch_keeps h0))))

theorem stillFollow_keeps {a : State} {x0 s1} (k1 : Keeps a s1) : Keeps a (stillFollow x0 s1) := by
  unfold stillFollow
  exact Keeps.cond (State_when_keeps k1 (fun _ h0 => State_set_keeps h0)) (State_set_keeps (State_set_keeps k1))

theorem runStep_keeps {a : State} {x0 x1 s2} (k2 : Keeps a s2) : Keeps a (runStep x0 x1 s2) := by
  unfold runStep
  exact Keeps.cond (State_inc_keeps k2) (State_set_keeps k2)

theorem resTrack_keeps {a : State} {x0 x1 x2 x3 s4} (k4 : Keeps a s4) : Keeps a (resTrack x0 x1 x2 x3 s4) := by
  unfold resTrack
  exact State_setB_keeps ((Keeps.cond (State_set_keeps ((travelMove_keeps ((State_set_keeps (State_setF_keeps (State_set_keeps ((Keeps.cond (State_draw_keeps k4) k4))))))))) (State_set_keeps ((travelMove_keeps ((State_set_keeps (State_setF_keeps (State_set_keeps ((Keeps.cond (State_draw_keeps k4) k4)))))))))))

theorem resWindow_keeps {a : State} {x0 x1 x2 s3} (k3 : Keeps a s3) : Keeps a (resWindow x0 x1 x2 s3) := by
  unfold resWindow
  exact runStep_keeps (State_when_keeps ((runStep_keeps (State_when_keeps ((runStep_keeps (State_when_keeps k3 (fun _ h0 => State_set_keeps h0)))) (fun _ h1 => State_set_keeps h1)))) (fun _ h2 => State_set_keeps h2))

theorem resJudge_keeps {a : State} {x0 s1} (k1 : Keeps a s1) : Keeps a (resJudge x0 s1) := by
  unfold resJudge
  exact Keeps.cond (sensorFailed_keeps k1) (Keeps.cond (sensorFailed_keeps k1) k1)

theorem resUpdate_keeps {a : State} {x0 x1 x2 x3 x4 s5} (k5 : Keeps a s5) : Keeps a (resUpdate x0 x1 x2 x3 x4 s5) := by
  unfold resUpdate
  exact resJudge_keeps (stillFollow_keeps (resWindow_keeps (resTrack_keeps ((State_set_keeps (State_set_keeps k5))))))

theorem execResUpdate_keeps {a : State} {x0 x1 x2 x3 x4 s5} (k5 : Keeps a s5) : KeepsOut a (execResUpdate x0 x1 x2 x3 x4 s5) := by
  unfold execResUpdate
  exact KeepsOut.next (State_when_keeps k5 (fun _ h0 => resUpdate_keeps h0))

theorem execExcFault_keeps {a : State} {x0 s1} (k1 : Keeps a s1) : KeepsOut a (execExcFault x0 s1) := by
  unfold execExcFault
  exact KeepsOut.next (State_when_keeps k1 (fun _ h0 => State_when_keeps (State_set_keeps h0) (fun _ h1 => sensorFailed_keeps h1)))

theorem encIllegal_keeps {a : State} {x0 s1} (k1 : Keeps a s1) : Keeps a (encIllegal x0 s1) := by
  unfold encIllegal
  exact Keeps.cond (sensorFailed_keeps ((State_set_keeps (State_set_keeps (State_set_keeps ((raiseStall_keeps (State_inc_keeps k1)))))))) ((State_set_keeps (State_set_keeps (State_set_keeps ((raiseStall_keeps (State_inc_keeps k1)))))))

theorem encCount_keeps {a : State} {x0 x1 x2 s3} (k3 : Keeps a s3) : Keeps a (encCount x0 x1 x2 s3) := by
  unfold encCount
  exact speedEdge_keeps (travelMove_keeps ((State_set_keeps ((State_set_keeps k3)))))

theorem execEncoderLoss_keeps {a : State} {x0 s1} (k1 : Keeps a s1) : KeepsOut a (execEncoderLoss x0 s1) := by
  unfold execEncoderLoss
  exact KeepsOut.next (State_when_keeps k1 (fun _ h0 => sensorFailed_keeps (State_set_keeps h0)))

theorem indexJudge_keeps {a : State} {x0 s1} (k1 : Keeps a s1) : Keeps a (indexJudge x0 s1) := by
  unfold indexJudge
  exact Keeps.cond (State_set_keeps k1) (Keeps.cond (travelMove_keeps (State_set_keeps (State_inc_keeps (State_set_keeps k1)))) (State_when_keeps ((raiseStallFault_keeps (raiseStall_keeps (State_set_keeps ((State_inc_keeps (State_inc_keeps (State_seti_keeps k1)))))))) (fun _ h0 => sensorFailed_keeps h0)))

theorem indexEdge_keeps {a : State} {x0 s1} (k1 : Keeps a s1) : Keeps a (indexEdge x0 s1) := by
  unfold indexEdge
  exact Keeps.cond (indexJudge_keeps k1) (State_set_keeps (State_set_keeps (State_set_keeps k1)))

theorem indexFollow_keeps {a : State} {x0 s1} (k1 : Keeps a s1) : Keeps a (indexFollow x0 s1) := by
  unfold indexFollow
  exact State_when_keeps k1 (fun _ h0 => indexEdge_keeps (State_set_keeps h0))

theorem encoderEdge_keeps {a : State} {x0 x1 x2 s3} (k3 : Keeps a s3) : Keeps a (encoderEdge x0 x1 x2 s3) := by
  unfold encoderEdge
  exact Keeps.cond (indexFollow_keeps (Keeps.cond ((State_setB_keeps (State_setB_keeps k3))) (Keeps.cond (encIllegal_keeps ((State_setB_keeps (State_setB_keeps k3)))) (encCount_keeps ((State_setB_keeps (State_setB_keeps k3))))))) ((State_setB_keeps (State_setB_keeps k3)))

theorem execEncoderEdge_keeps {a : State} {x0 x1 x2 s3} (k3 : Keeps a s3) : KeepsOut a (execEncoderEdge x0 x1 x2 s3) := by
  unfold execEncoderEdge
  exact KeepsOut.next (encoderEdge_keeps k3)

theorem execIndex_keeps {a : State} {x0 s1} (k1 : Keeps a s1) : KeepsOut a (execIndex x0 s1) := by
  unfold execIndex
  exact KeepsOut.next (State_when_keeps k1 (fun _ h0 => Keeps.cond (State_set_keeps h0) (indexEdge_keeps h0)))

theorem crossCheck_keeps {a : State} {x0 x1 x2 s3} (k3 : Keeps a s3) : Keeps a (crossCheck x0 x1 x2 s3) := by
  unfold crossCheck
  exact Keeps.cond (State_when_keeps ((State_set_keeps ((State_seti_keeps k3)))) (fun _ h0 => raiseStallFault_keeps (raiseStall_keeps (State_set_keeps (State_set_keeps h0))))) (State_set_keeps ((State_seti_keeps k3)))

theorem hallAlign_keeps {a : State} {x0 x1 s2} (k2 : Keeps a s2) : Keeps a (hallAlign x0 x1 s2) := by
  unfold hallAlign
  exact State_set_keeps (State_set_keeps k2)

theorem hallStep_keeps {a : State} {x0 x1 x2 x3 s4} (k4 : Keeps a s4) : Keeps a (hallStep x0 x1 x2 x3 s4) := by
  unfold hallStep
  exact Keeps.cond (State_when_keeps ((State_set_keeps ((State_when_keeps ((State_when_keeps ((State_set_keeps (State_set_keeps k4))) (fun _ h0 => hallAlign_keeps h0))) (fun _ h1 => speedEdge_keeps (travelMove_keeps h1)))))) (fun _ h2 => State_when_keeps (State_set_keeps (State_set_keeps h2)) (fun _ h3 => State_set_keeps h3))) (State_when_keeps ((State_when_keeps ((State_when_keeps ((State_set_keeps (State_set_keeps k4))) (fun _ h0 => hallAlign_keeps h0))) (fun _ h1 => speedEdge_keeps (travelMove_keeps h1)))) (fun _ h4 => crossCheck_keeps h4))

theorem hallChange_keeps {a : State} {x0 x1 x2 x3 s4} (k4 : Keeps a s4) : Keeps a (hallChange x0 x1 x2 x3 s4) := by
  unfold hallChange
  exact Keeps.cond ((State_when_keeps k4 (fun _ h0 => State_set_keeps (State_set_keeps h0)))) (Keeps.cond (hallStep_keeps ((State_when_keeps k4 (fun _ h0 => State_set_keeps (State_set_keeps h0))))) (Keeps.cond (hallStep_keeps ((State_when_keeps k4 (fun _ h0 => State_set_keeps (State_set_keeps h0))))) (State_when_keeps ((State_set_keeps (State_set_keeps (State_inc_keeps ((State_when_keeps k4 (fun _ h0 => State_set_keeps (State_set_keeps h0)))))))) (fun _ h1 => speedRestart_keeps h1))))

theorem execHallEdge_keeps {a : State} {x0 x1 s2} (k2 : Keeps a s2) : KeepsOut a (execHallEdge x0 x1 s2) := by
  unfold execHallEdge
  exact KeepsOut.next (Keeps.cond ((by split; exacts [k2, (by (try extract_lets); (first | split | (dsimp +zetaDelta only; split)); exacts [(State_set_keeps (State_set_keeps (State_set_keeps k2))), hallChange_keeps ((State_set_keeps (State_set_keeps (State_set_keeps k2))))])])) k2)

theorem execEvHallIllegal_keeps {a : State} {x0 s1} (k1 : Keeps a s1) : KeepsOut a (execEvHallIllegal x0 s1) := by
  unfold execEvHallIllegal
  exact KeepsOut.next (State_when_keeps k1 (fun _ h0 => raiseStall_keeps (State_set_keeps (State_set_keeps ((State_set_keeps (State_inc_keeps (State_set_keeps h0))))))))

theorem hallIllegal_keeps {a : State} {x0 s1} (k1 : Keeps a s1) : Keeps a (hallIllegal x0 s1) := by
  unfold hallIllegal
  exact Keeps.cond (sensorFailed_keeps ((State_set_keeps k1))) (raiseStallFault_keeps (State_when_keeps ((State_set_keeps (State_set_keeps ((State_set_keeps k1))))) (fun _ h0 => State_set_keeps h0)))

theorem execHallIllegalTimeout_keeps {a : State} {x0 s1} (k1 : Keeps a s1) : KeepsOut a (execHallIllegalTimeout x0 s1) := by
  unfold execHallIllegalTimeout
  exact KeepsOut.next (State_when_keeps k1 (fun _ h0 => hallIllegal_keeps h0))

theorem ssiTrack_keeps {a : State} {x0 x1 x2 s3} (k3 : Keeps a s3) : Keeps a (ssiTrack x0 x1 x2 s3) := by
  unfold ssiTrack
  exact Keeps.cond (State_setF_keeps (State_set_keeps k3)) (State_set_keeps (State_set_keeps k3))

theorem ssiGood_keeps {a : State} {x0 x1 s2} (k2 : Keeps a s2) : Keeps a (ssiGood x0 x1 s2) := by
  unfold ssiGood
  exact stillFollow_keeps (State_set_keeps (State_set_keeps ((State_set_keeps (State_set_keeps (State_set_keeps ((State_when_keeps ((ssiTrack_keeps k2)) (fun _ h0 => travelMove_keeps h0)))))))))

theorem ssiFrame_keeps {a : State} {x0 x1 s2} (k2 : Keeps a s2) : Keeps a (ssiFrame x0 x1 s2) := by
  unfold ssiFrame
  exact Keeps.cond (State_when_keeps ((State_inc_keeps (State_inc_keeps ((State_set_keeps (State_set_keeps (State_set_keeps k2))))))) (fun _ h0 => sensorFailed_keeps h0)) (ssiGood_keeps ((State_set_keeps (State_set_keeps (State_set_keeps k2)))))

theorem execSsiFrame_keeps {a : State} {x0 x1 s2} (k2 : Keeps a s2) : KeepsOut a (execSsiFrame x0 x1 s2) := by
  unfold execSsiFrame
  exact KeepsOut.next (State_when_keeps k2 (fun _ h0 => ssiFrame_keeps h0))

theorem sentSlow_keeps {a : State} {x0 x1 s2} (k2 : Keeps a s2) : Keeps a (sentSlow x0 x1 s2) := by
  unfold sentSlow
  exact Keeps.cond (Keeps.cond (raiseStall_keeps (State_set_keeps ((State_set_keeps ((State_set_keeps (State_set_keeps ((State_when_keeps ((State_set_keeps ((State_set_keeps (State_set_keeps (State_set_keeps k2)))))) (fun _ h0 => State_inc_keeps h0)))))))))) (State_inc_keeps ((State_set_keeps ((State_set_keeps (State_set_keeps (State_set_keeps k2)))))))) ((State_set_keeps (State_set_keeps (State_set_keeps k2))))

theorem sentAccept_keeps {a : State} {x0 x1 x2 x3 s4} (k4 : Keeps a s4) : Keeps a (sentAccept x0 x1 x2 x3 s4) := by
  unfold sentAccept
  exact State_when_keeps ((State_when_keeps ((State_when_keeps (State_set_keeps (State_set_keeps ((State_setWide_keeps ((State_set_keeps (State_set_keeps (State_set_keeps k4)))))))) (fun _ h0 => State_set_keeps h0))) (fun _ h1 => sentSlow_keeps h1))) (fun _ h2 => crossCheck_keeps h2)

theorem execSentFrame_keeps {a : State} {x0 x1 x2 x3 x4 s5} (k5 : Keeps a s5) : KeepsOut a (execSentFrame x0 x1 x2 x3 x4 s5) := by
  unfold execSentFrame
  exact KeepsOut.next (Keeps.cond (Keeps.cond (State_set_keeps (State_inc_keeps ((State_set_keeps k5)))) (Keeps.cond (State_set_keeps (State_inc_keeps ((State_set_keeps k5)))) (Keeps.cond (State_set_keeps (State_inc_keeps ((State_set_keeps k5)))) (sentAccept_keeps ((State_set_keeps k5)))))) k5)

theorem execSentTimeout_keeps {a : State} {x0 s1} (k1 : Keeps a s1) : KeepsOut a (execSentTimeout x0 s1) := by
  unfold execSentTimeout
  exact KeepsOut.next (State_when_keeps k1 (fun _ h0 => raiseStallFault_keeps (raiseStall_keeps (State_when_keeps (State_set_keeps h0) (fun _ h1 => State_set_keeps h1)))))

theorem probeLatch_keeps {a : State} {x0 x1 s2} (k2 : Keeps a s2) : Keeps a (probeLatch x0 x1 s2) := by
  unfold probeLatch
  exact raiseStall_keeps (State_set_keeps ((State_setWide_keeps ((State_set_keeps (State_set_keeps ((State_setWide_keeps k2))))))))

theorem execProbeEdge_keeps {a : State} {x0 x1 s2} (k2 : Keeps a s2) : KeepsOut a (execProbeEdge x0 x1 s2) := by
  unfold execProbeEdge
  exact KeepsOut.next (State_when_keeps k2 (fun _ h0 => Keeps.cond (State_inc_keeps h0) (probeLatch_keeps h0)))

theorem execProbeRearm_keeps {a : State} {x0 s1} (k1 : Keeps a s1) : KeepsOut a (execProbeRearm x0 s1) := by
  unfold execProbeRearm
  exact stallWrite_keeps (fun _ h0 => KeepsOut.next (busOk_keeps (State_set_keeps h0))) k1

theorem execStillTimeout_keeps {a : State} {x0 s1} (k1 : Keeps a s1) : KeepsOut a (execStillTimeout x0 s1) := by
  unfold execStillTimeout
  exact KeepsOut.next (State_when_keeps k1 (fun _ h0 => State_set_keeps (State_when_keeps h0 (fun _ h1 => State_set_keeps (State_set_keeps h1)))))

theorem bemfTrack_keeps {a : State} {x0 x1 x2 x3 s4} (k4 : Keeps a s4) : Keeps a (bemfTrack x0 x1 x2 x3 s4) := by
  unfold bemfTrack
  exact Keeps.cond (State_set_keeps (State_set_keeps ((State_setF_keeps (State_set_keeps ((Keeps.cond (State_draw_keeps k4) k4))))))) (State_set_keeps (State_set_keeps ((State_setF_keeps (State_set_keeps ((Keeps.cond (State_draw_keeps k4) k4)))))))

theorem bemfPeriod_keeps {a : State} {x0 x1 x2 x3 x4 s5} (k5 : Keeps a s5) : Keeps a (bemfPeriod x0 x1 x2 x3 x4 s5) := by
  unfold bemfPeriod
  exact Keeps.cond (State_set_keeps (State_set_keeps (State_setF_keeps (State_setF_keeps ((Keeps.cond (bemfTrack_keeps k5) (State_setF_keeps (State_set_keeps k5)))))))) k5

theorem bemfCompare_keeps {a : State} {x0 s1} (k1 : Keeps a s1) : Keeps a (bemfCompare x0 s1) := by
  unfold bemfCompare
  exact Keeps.cond (Keeps.cond (State_when_keeps ((State_set_keeps ((State_seti_keeps k1)))) (fun _ h0 => raiseStallFault_keeps (raiseStall_keeps (State_set_keeps h0)))) (State_set_keeps ((State_seti_keeps k1)))) (State_set_keeps k1)

theorem bemfUnqual_keeps {a : State} {x0 s1} (k1 : Keeps a s1) : Keeps a (bemfUnqual x0 s1) := by
  unfold bemfUnqual
  exact observerLost_keeps (bemfClear_keeps k1)

theorem execBemfQualSet_keeps {a : State} {x0 s1} (k1 : Keeps a s1) : KeepsOut a (execBemfQualSet x0 s1) := by
  unfold execBemfQualSet
  exact KeepsOut.next (State_when_keeps k1 (fun _ h0 => State_set_keeps h0))

theorem execBemfQualClear_keeps {a : State} {x0 s1} (k1 : Keeps a s1) : KeepsOut a (execBemfQualClear x0 s1) := by
  unfold execBemfQualClear
  exact KeepsOut.next (State_when_keeps k1 (fun _ h0 => bemfUnqual_keeps h0))

/-! ### Loop -/

theorem keepLaw_keeps {a : State} {x0 x1 s2} (k2 : Keeps a s2) : Keeps a (keepLaw x0 x1 s2) := by
  unfold keepLaw
  exact Keeps.foldl k2 (fun _ h0 => fun _ => State_set_keeps h0)

theorem lawCommit_keeps {a : State} {x0 x1 s2} (k2 : Keeps a s2) : Keeps a (lawCommit x0 x1 s2) := by
  unfold lawCommit
  exact bemfCompare_keeps (bemfPeriod_keeps ((State_when_keeps ((State_when_keeps ((State_when_keeps ((State_set_keeps (State_set_keeps (State_setB_keeps ((State_when_keeps (State_setB_keeps ((State_when_keeps (State_setB_keeps ((selectsNext_keeps ((State_when_keeps ((State_when_keeps ((State_each_keeps (State_setF_keeps ((State_setF_keeps (State_setF_keeps (State_setF_keeps ((State_setF_keeps (State_setF_keeps (State_setF_keeps (State_setF_keeps k2)))))))))) (fun _ => fun _ h0 => State_set_keeps (State_setF_keeps h0)))) (fun _ h1 => State_each_keeps h1 (fun _ => fun _ h2 => State_setBit_keeps (State_set_keeps h2))))) (fun _ h3 => State_each_keeps h3 (fun _ => fun _ h4 => State_setBit_keeps (State_set_keeps (State_set_keeps (State_set_keeps h4)))))))))) (fun _ h5 => raiseStall_keeps h5)))) (fun _ h6 => raiseStall_keeps h6))))))) (fun _ h7 => State_inc_keeps h7))) (fun _ h8 => State_set_keeps h8))) (fun _ h9 => raiseStall_keeps h9))))

theorem slackRecord_keeps {a : State} {x0 x1 x2 s3} (k3 : Keeps a s3) : Keeps a (slackRecord x0 x1 x2 s3) := by
  unfold slackRecord
  exact State_when_keeps ((State_when_keeps ((State_set_keeps (State_set_keeps (State_seti_keeps k3)))) (fun _ h0 => State_setWide_keeps (State_seti_keeps h0)))) (fun _ h1 => raiseStall_keeps h1)

theorem lateCount_keeps {a : State} {x0 s1} (k1 : Keeps a s1) : Keeps a (lateCount x0 s1) := by
  unfold lateCount
  exact State_when_keeps ((raiseStall_keeps (State_inc_keeps (State_inc_keeps k1)))) (fun _ h0 => raiseStallFault_keeps (State_set_keeps h0))

theorem lateClear_keeps {a : State} {x0 s1} (k1 : Keeps a s1) : Keeps a (lateClear x0 s1) := by
  unfold lateClear
  exact State_set_keeps (State_set_keeps k1)

theorem periodRecord_keeps {a : State} {x0 x1 x2 s3} (k3 : Keeps a s3) : Keeps a (periodRecord x0 x1 x2 s3) := by
  unfold periodRecord
  exact State_when_keeps k3 (fun _ h0 => logWrite_keeps h0)

theorem loopEnd_keeps {a : State} {x0 s1} (k1 : Keeps a s1) : Keeps a (loopEnd x0 s1) := by
  unfold loopEnd
  exact State_when_keeps k1 (fun _ h0 => State_set_keeps (State_set_keeps h0))

theorem periodSums_keeps {a : State} {x0 s1} (k1 : Keeps a s1) : Keeps a (periodSums x0 s1) := by
  unfold periodSums
  exact bemfCompare_keeps (ledgerPeriod_keeps (slotsClose_keeps k1))

theorem loopAbandon_keeps {a : State} {x0 s1} (k1 : Keeps a s1) : Keeps a (loopAbandon x0 s1) := by
  unfold loopAbandon
  exact loopEnd_keeps (periodRecord_keeps (lateCount_keeps (periodSums_keeps ((slackRecord_keeps (State_set_keeps k1))))))

theorem periodClose_keeps {a : State} {x0 s1} (k1 : Keeps a s1) : Keeps a (periodClose x0 s1) := by
  unfold periodClose
  exact Keeps.cond (loopAbandon_keeps k1) (State_when_keeps k1 (fun _ h0 => State_set_keeps (periodRecord_keeps (periodSums_keeps h0))))

theorem loopTrigger_keeps {a : State} {x0 x1 x2 s3} (k3 : Keeps a s3) : Keeps a (loopTrigger x0 x1 x2 s3) := by
  unfold loopTrigger
  exact Keeps.cond ((State_each_keeps ((State_set_keeps (State_set_keeps ((State_set_keeps (State_set_keeps k3)))))) (fun _ => fun _ h0 => State_set_keeps h0))) (Keeps.cond (raiseStall_keeps (State_set_keeps (State_set_keeps (State_inc_keeps ((State_each_keeps ((State_set_keeps (State_set_keeps ((State_set_keeps (State_set_keeps k3)))))) (fun _ => fun _ h0 => State_set_keeps h0))))))) (State_setB_keeps (State_set_keeps (State_set_keeps (State_set_keeps ((State_each_keeps ((State_set_keeps (State_set_keeps ((State_set_keeps (State_set_keeps k3)))))) (fun _ => fun _ h0 => State_set_keeps h0))))))))

theorem remountRequest_keeps {a : State} {x0 s1} (k1 : Keeps a s1) : Keeps a (remountRequest x0 s1) := by
  unfold remountRequest
  exact State_setBit_keeps k1

theorem remountGrant_keeps {a : State} {x0 s1} (k1 : Keeps a s1) : Keeps a (remountGrant x0 s1) := by
  unfold remountGrant
  exact raiseEvent_keeps (State_inc_keeps (State_set_keeps (State_set_keeps (State_set_keeps k1))))

theorem remountArbitrate_keeps {a s : State} (h : Keeps a s) : Keeps a (remountArbitrate s) := by
  unfold remountArbitrate
  refine Keeps.cond h ?_
  extract_lets f w s1 s2
  have h2 : Keeps a s2 := State_set_keeps (State_addSat_keeps h)
  clear_value w s2
  cases w with
  | none => exact h2
  | some n => exact remountGrant_keeps h2

theorem shadowStep_keeps {a : State} {x0 x1 s2} (k2 : Keeps a s2) : Keeps a (shadowStep x0 x1 s2) := by
  unfold shadowStep
  exact Keeps.cond k2 (Keeps.cond (State_inc_keeps k2) (Keeps.cond (raiseStallFault_keeps (State_set_keeps (State_set_keeps ((State_inc_keeps (State_set_keeps k2)))))) ((State_inc_keeps (State_set_keeps k2)))))

theorem execLoopStart_keeps {a : State} {x0 s1} (k1 : Keeps a s1) : KeepsOut a (execLoopStart x0 s1) := by
  unfold execLoopStart
  exact stallWrite_keeps (fun _ h0 => KeepsOut.next (State_cmdStart_keeps h0 (fun _ h1 => State_set_keeps ((State_each_keeps (State_set_keeps (State_set_keeps (State_set_keeps ((State_each_keeps ((State_set_keeps (State_set_keeps (State_set_keeps h1)))) (fun _ => fun _ h2 => State_set_keeps (State_set_keeps h2))))))) (fun _ => fun _ h3 => State_set_keeps h3)))) (fun _ h4 => h4))) k1

theorem execLoopStop_keeps {a : State} {x0 s1} (k1 : Keeps a s1) : KeepsOut a (execLoopStop x0 s1) := by
  unfold execLoopStop
  exact stallWrite_keeps (fun _ h0 => KeepsOut.next (State_cmdStart_keeps h0 (fun _ h1 => bemfUnqual_keeps (Keeps.cond (State_set_keeps h1) (State_set_keeps h1))) (fun _ h2 => h2))) k1

theorem bankSwitch_keeps {a : State} {x0 s1} (k1 : Keeps a s1) : Keeps a (bankSwitch x0 s1) := by
  unfold bankSwitch
  exact raiseStall_keeps (State_set_keeps (State_set_keeps k1))

theorem execPset_keeps {a : State} {x0 s1} (k1 : Keeps a s1) : KeepsOut a (execPset x0 s1) := by
  unfold execPset
  exact stallWrite_keeps (fun _ h0 => KeepsOut.next (State_cmdStart_keeps h0 (fun _ h1 => Keeps.cond (bankSwitch_keeps h1) (State_set_keeps h1)) (fun _ h2 => h2))) k1

theorem execEvPset_keeps {a : State} {x0 s1} (k1 : Keeps a s1) : KeepsOut a (execEvPset x0 s1) := by
  unfold execEvPset
  exact KeepsOut.next (State_when_keeps k1 (fun _ h0 => bankSwitch_keeps h0))

theorem referenceApply_keeps {a : State} {x0 x1 s2} (k2 : Keeps a s2) : Keeps a (referenceApply x0 x1 s2) := by
  unfold referenceApply
  exact busOk_keeps (State_set_keeps ((Keeps.held (fun h => storeSorted_drop _ (storeSorted_drop _ (storeSorted_drop _ h))) ((Keeps.foldl k2 (fun _ h0 => fun _ => State_set_keeps h0))))))

theorem execReferenceApply_keeps {a : State} {x0 x1 s2} (k2 : Keeps a s2) : KeepsOut a (execReferenceApply x0 x1 s2) := by
  unfold execReferenceApply
  exact stallWrite_keeps (fun _ h0 => KeepsOut.next (referenceApply_keeps h0)) k2

theorem loopMismatch_keeps {a : State} {x0 x1 s2} (k2 : Keeps a s2) : Keeps a (loopMismatch x0 x1 s2) := by
  unfold loopMismatch
  exact Keeps.cond (State_when_keeps ((State_when_keeps ((State_set_keeps (raiseStall_keeps (State_inc_keeps ((keepLaw_keeps (State_set_keeps (State_set_keeps (State_set_keeps k2))))))))) (fun _ h0 => lateCount_keeps h0))) (fun _ h1 => State_set_keeps h1)) (remountRequest_keeps ((State_when_keeps ((State_set_keeps (raiseStall_keeps (State_inc_keeps ((keepLaw_keeps (State_set_keeps (State_set_keeps (State_set_keeps k2))))))))) (fun _ h0 => lateCount_keeps h0))))

theorem loopPass_keeps {a : State} {x0 x1 x2 s3} (k3 : Keeps a s3) : Keeps a (loopPass x0 x1 x2 s3) := by
  unfold loopPass
  exact shadowStep_keeps (periodRecord_keeps ((Keeps.cond (raiseStallFault_keeps (bemfCompare_keeps (State_when_keeps ((slackRecord_keeps (State_set_keeps k3))) (fun _ h0 => lateClear_keeps h0)))) (Keeps.cond (lateCount_keeps (bemfCompare_keeps ((slackRecord_keeps (State_set_keeps k3))))) (lawCommit_keeps (lateClear_keeps ((slackRecord_keeps (State_set_keeps k3)))))))))

theorem execLoopPeriodDone_keeps {a : State} {x0 x1 x2 s3} (k3 : Keeps a s3) : KeepsOut a (execLoopPeriodDone x0 x1 x2 s3) := by
  unfold execLoopPeriodDone
  exact KeepsOut.next (Keeps.cond k3 (Keeps.cond (periodRecord_keeps (loopMismatch_keeps ((ledgerPeriod_keeps (slotsEval_keeps k3))))) (loopEnd_keeps (loopPass_keeps ((ledgerPeriod_keeps (slotsEval_keeps k3)))))))

theorem execLatePeriod_keeps {a : State} {x0 s1} (k1 : Keeps a s1) : KeepsOut a (execLatePeriod x0 s1) := by
  unfold execLatePeriod
  exact KeepsOut.next (State_when_keeps k1 (fun _ h0 => loopAbandon_keeps h0))

theorem remountGiveUp_keeps {a : State} {x0 s1} (k1 : Keeps a s1) : Keeps a (remountGiveUp x0 s1) := by
  unfold remountGiveUp
  exact remountRelease_keeps (State_when_keeps k1 (fun _ h0 => State_set_keeps h0))

theorem rcvEngines_keeps {a : State} {x0 x1 s2} (k2 : Keeps a s2) : Keeps a (rcvEngines x0 x1 s2) := by
  unfold rcvEngines
  exact (by (try extract_lets); split; exacts [remountRelease_keeps (raiseStallFault_keeps k2), raiseStall_keeps (raiseStallFault_keeps (State_set_keeps (State_set_keeps ((State_set_keeps (State_set_keeps (State_set_keeps (State_set_keeps k2)))))))), raiseStall_keeps (raiseStallFault_keeps (State_set_keeps (State_set_keeps ((State_set_keeps (State_set_keeps (State_set_keeps (State_set_keeps k2)))))))), remountRelease_keeps (raiseEvent_keeps (raiseFault_keeps (State_set_keeps k2))), raiseStallFault_keeps k2])

theorem midLoad_keeps {a : State} {x0 s1} (k1 : Keeps a s1) : Keeps a (midLoad x0 s1) := by
  unfold midLoad
  exact State_when_keeps k1 (fun _ h0 => clampCheck_keeps (State_set_keeps ((State_set_keeps ((State_each_keeps h0 (fun _ => fun _ h1 => setCmp_keeps (State_set_keeps h1))))))))

theorem rcvLoad_keeps {a : State} {x0 s1} (k1 : Keeps a s1) : Keeps a (rcvLoad x0 s1) := by
  unfold rcvLoad
  exact State_set_keeps (State_set_keeps ((State_set_keeps (State_set_keeps ((Keeps.cond (State_when_keeps (lawCommit_keeps ((State_when_keeps k1 (fun _ h0 => slackRecord_keeps (lateClear_keeps h0))))) (fun _ h1 => midLoad_keeps h1)) (raiseStallFault_keeps (bemfCompare_keeps ((State_when_keeps k1 (fun _ h0 => slackRecord_keeps (lateClear_keeps h0))))))))))))

theorem execRecoveryDone_keeps {a : State} {x0 x1 x2 x3 s4} (k4 : Keeps a s4) : KeepsOut a (execRecoveryDone x0 x1 x2 x3 s4) := by
  unfold execRecoveryDone
  exact KeepsOut.next (Keeps.cond k4 (loopEnd_keeps ((Keeps.cond (raiseStallFault_keeps (remountGiveUp_keeps (bemfCompare_keeps ((State_set_keeps ((State_when_keeps (State_set_keeps ((remountArbitrate_keeps k4))) (fun _ h0 => State_set_keeps h0)))))))) (rcvLoad_keeps (raiseStall_keeps (rcvEngines_keeps ((State_set_keeps ((State_when_keeps (State_set_keeps ((remountArbitrate_keeps k4))) (fun _ h0 => State_set_keeps h0))))))))))))

theorem execEvEngineRejoin_keeps {a : State} {x0 s1} (k1 : Keeps a s1) : KeepsOut a (execEvEngineRejoin x0 s1) := by
  unfold execEvEngineRejoin
  exact KeepsOut.next (State_when_keeps k1 (fun _ h0 => raiseStall_keeps (remountRelease_keeps (State_set_keeps ((State_set_keeps (State_set_keeps (State_set_keeps h0))))))))

theorem execFerrTimeout_keeps {a : State} {x0 s1} (k1 : Keeps a s1) : KeepsOut a (execFerrTimeout x0 s1) := by
  unfold execFerrTimeout
  exact KeepsOut.next (State_when_keeps k1 (fun _ h0 => raiseStallFault_keeps (State_set_keeps h0)))

theorem slackMinWrite_keeps {a : State} {x0 x1 s2} (k2 : Keeps a s2) : Keeps a (slackMinWrite x0 x1 s2) := by
  unfold slackMinWrite
  exact busOk_keeps (State_when_keeps ((State_set_keeps k2)) (fun _ h0 => State_setWide_keeps (State_seti_keeps h0)))

theorem execSlackMinWrite_keeps {a : State} {x0 x1 s2} (k2 : Keeps a s2) : KeepsOut a (execSlackMinWrite x0 x1 s2) := by
  unfold execSlackMinWrite
  exact stallWrite_keeps (fun _ h0 => KeepsOut.next (slackMinWrite_keeps h0)) k2

/-! ### Junction -/

theorem ntcUpdate_keeps {a : State} {x0 x1 s2} (k2 : Keeps a s2) : Keeps a (ntcUpdate x0 x1 s2) := by
  unfold ntcUpdate
  exact State_when_keeps (State_setB_keeps ((State_when_keeps (State_setB_keeps k2) (fun _ h0 => State_seti_keeps h0)))) (fun _ h1 => raiseStallFault_keeps h1)

theorem junctionAccept_keeps {a : State} {x0 x1 x2 s3} (k3 : Keeps a s3) : Keeps a (junctionAccept x0 x1 x2 s3) := by
  unfold junctionAccept
  exact Keeps.cond (State_when_keeps (State_set_keeps ((State_when_keeps ((State_set_keeps (State_set_keeps ((State_inc_keeps (State_seti_keeps (State_setF_keeps k3))))))) (fun _ h0 => State_set_keeps h0)))) (fun _ h1 => raiseStallFault_keeps h1)) (State_set_keeps ((State_when_keeps ((State_set_keeps (State_set_keeps ((State_inc_keeps (State_seti_keeps (State_setF_keeps k3))))))) (fun _ h0 => State_set_keeps h0))))

theorem junctionSample_keeps {a : State} {x0 x1 x2 x3 s4} (k4 : Keeps a s4) : Keeps a (junctionSample x0 x1 x2 x3 s4) := by
  unfold junctionSample
  exact Keeps.cond (Keeps.cond (junctionAccept_keeps k4) (State_inc_keeps k4)) k4

theorem execTjAgeTimeout_keeps {a : State} {x0 x1 s2} (k2 : Keeps a s2) : KeepsOut a (execTjAgeTimeout x0 x1 s2) := by
  unfold execTjAgeTimeout
  exact KeepsOut.next (State_when_keeps k2 (fun _ h0 => raiseStallFault_keeps (raiseStall_keeps ((State_set_keeps (State_set_keeps (State_set_keeps h0)))))))

theorem derateShow_keeps {a : State} {x0 s1} (k1 : Keeps a s1) : Keeps a (derateShow x0 s1) := by
  unfold derateShow
  exact State_setF_keeps (State_set_keeps k1)

theorem derate_keeps {a : State} {x0 s1} (k1 : Keeps a s1) : Keeps a (derate x0 s1) := by
  unfold derate
  exact derateShow_keeps (State_setB_keeps ((State_set_keeps (State_set_keeps k1))))

theorem execDerateTick_keeps {a : State} {x0 s1} (k1 : Keeps a s1) : KeepsOut a (execDerateTick x0 s1) := by
  unfold execDerateTick
  exact KeepsOut.next (State_when_keeps k1 (fun _ h0 => derate_keeps h0))

theorem junctionEnable_keeps {a : State} {x0 s1} (k1 : Keeps a s1) : Keeps a (junctionEnable x0 s1) := by
  unfold junctionEnable
  exact State_each_keeps k1 (fun _ => fun _ h0 => State_set_keeps h0)

/-! ### Rein -/

theorem linkWrite_keeps {a : State} {x0 x1 s2} (k1 : ∀ z0, Keeps a z0 → KeepsOut a (x1 z0)) (k2 : Keeps a s2) : KeepsOut a (linkWrite x0 x1 s2) := by
  unfold linkWrite
  exact KeepsOut.cond (stallWrite_keeps (fun _ h0 => k1 _ h0) k2) (k1 _ k2)

theorem linkEvent_keeps {a : State} {x0 x1 s2} (k2 : Keeps a s2) : Keeps a (linkEvent x0 x1 s2) := by
  unfold linkEvent
  exact Keeps.cond (raiseStall_keeps k2) (raiseEvent_keeps k2)

theorem linkCause_keeps {a : State} {x0 x1 s2} (k2 : Keeps a s2) : Keeps a (linkCause x0 x1 s2) := by
  unfold linkCause
  exact Keeps.cond (Keeps.cond (psfSet_keeps (recordFault_keeps ((State_set_keeps k2)))) (raiseFault_keeps ((State_set_keeps k2)))) (raiseFault_keeps ((State_set_keeps k2)))

theorem accEnd_keeps {a : State} {x0 x1 s2} (k2 : Keeps a s2) : Keeps a (accEnd x0 x1 s2) := by
  unfold accEnd
  exact linkEvent_keeps (State_set_keeps (State_cmdEnd_keeps k2))

theorem dropRequests_keeps {a : State} {x0 s1} (k1 : Keeps a s1) : Keeps a (dropRequests x0 s1) := by
  unfold dropRequests
  exact Keeps.dn ((State_set_keeps k1))

theorem queueAccess_keeps {a : State} {x0 x1 x2 x3 s4} (k4 : Keeps a s4) : Keeps a (queueAccess x0 x1 x2 x3 s4) := by
  unfold queueAccess
  exact Keeps.dn ((State_set_keeps (State_set_keeps (State_set_keeps k4))))

theorem setLink_keeps {a : State} {x0 x1 s2} (k2 : Keeps a s2) : Keeps a (setLink x0 x1 s2) := by
  unfold setLink
  exact Keeps.cond (refreshLines_keeps (reDecide_keeps (ntcUpdate_keeps ((State_when_keeps ((State_when_keeps ((State_set_keeps k2)) (fun _ h0 => dropRequests_keeps h0))) (fun _ h1 => accEnd_keeps (State_set_keeps (State_set_keeps h1)))))))) (auxLine_keeps ((State_when_keeps ((State_when_keeps ((State_set_keeps k2)) (fun _ h0 => dropRequests_keeps h0))) (fun _ h1 => accEnd_keeps (State_set_keeps (State_set_keeps h1))))))

theorem linkFault_keeps {a : State} {x0 x1 s2} (k2 : Keeps a s2) : Keeps a (linkFault x0 x1 s2) := by
  unfold linkFault
  exact linkEvent_keeps (linkCause_keeps (setLink_keeps ((State_when_keeps ((State_when_keeps k2 (fun _ h0 => State_set_keeps (State_set_keeps h0)))) (fun _ h1 => State_set_keeps (State_set_keeps h1))))))

theorem trainCheck_keeps {a : State} {x0 s1} (k1 : Keeps a s1) : Keeps a (trainCheck x0 s1) := by
  unfold trainCheck
  exact Keeps.cond (State_set_keeps (State_cmdEnd_keeps k1)) k1

theorem trainFail_keeps {a : State} {x0 x1 s2} (k2 : Keeps a s2) : Keeps a (trainFail x0 x1 s2) := by
  unfold trainFail
  exact trainCheck_keeps (linkCause_keeps ((setLink_keeps (State_set_keeps (State_set_keeps k2)))))

theorem linkLoss_keeps {a : State} {x0 x1 s2} (k2 : Keeps a s2) : Keeps a (linkLoss x0 x1 s2) := by
  unfold linkLoss
  exact Keeps.cond (trainCheck_keeps (linkEvent_keeps (linkCause_keeps (State_set_keeps (setLink_keeps (State_set_keeps k2)))))) k2

theorem trainEntry_keeps {a : State} {x0 x1 s2} (k2 : Keeps a s2) : Keeps a (trainEntry x0 x1 s2) := by
  unfold trainEntry
  exact (by (try extract_lets); split; exacts [queueAccess_keeps (State_set_keeps (State_set_keeps ((State_set_keeps k2)))), queueAccess_keeps (State_set_keeps ((State_set_keeps k2)))])

theorem trainReply_keeps {a : State} {x0 x1 x2 s3} (k3 : Keeps a s3) : Keeps a (trainReply x0 x1 x2 s3) := by
  unfold trainReply
  exact (by (try extract_lets); split; exacts [Keeps.cond (trainEntry_keeps k3) (trainFail_keeps k3), Keeps.cond (queueAccess_keeps (State_set_keeps k3)) (trainFail_keeps k3), Keeps.cond (trainEntry_keeps k3) (trainFail_keeps k3), Keeps.cond (State_set_keeps k3) (trainFail_keeps k3), k3])

theorem trainStart_keeps {a : State} {x0 s1} (k1 : Keeps a s1) : Keeps a (trainStart x0 s1) := by
  unfold trainStart
  exact Keeps.cond k1 (State_set_keeps (State_set_keeps ((setLink_keeps (State_set_keeps (State_set_keeps (State_set_keeps (State_set_keeps k1))))))))

theorem execReinStart_keeps {a : State} {x0 s1} (k1 : Keeps a s1) : KeepsOut a (execReinStart x0 s1) := by
  unfold execReinStart
  exact linkWrite_keeps (fun _ h0 => KeepsOut.next (State_cmdStart_keeps h0 (fun _ h1 => trainCheck_keeps (State_each_keeps h1 (fun _ => fun _ h2 => trainStart_keeps h2))) (fun _ h3 => h3))) k1

theorem execReinStop_keeps {a : State} {x0 s1} (k1 : Keeps a s1) : KeepsOut a (execReinStop x0 s1) := by
  unfold execReinStop
  exact linkWrite_keeps (fun _ h0 => KeepsOut.next (State_cmdStart_keeps h0 (fun _ h1 => State_each_keeps h1 (fun _ => fun _ h2 => setLink_keeps (State_set_keeps h2))) (fun _ h3 => h3))) k1

theorem execTrainLockTimeout_keeps {a : State} {x0 x1 s2} (k2 : Keeps a s2) : KeepsOut a (execTrainLockTimeout x0 x1 s2) := by
  unfold execTrainLockTimeout
  exact KeepsOut.next (State_when_keeps k2 (fun _ h0 => trainFail_keeps h0))

theorem execTrainStepTimeout_keeps {a : State} {x0 s1} (k1 : Keeps a s1) : KeepsOut a (execTrainStepTimeout x0 s1) := by
  unfold execTrainStepTimeout
  exact KeepsOut.next (State_when_keeps k1 (fun _ h0 => trainFail_keeps h0))

theorem trainAbort_keeps {a : State} {x0 s1} (k1 : Keeps a s1) : Keeps a (trainAbort x0 s1) := by
  unfold trainAbort
  exact Keeps.cond (State_set_keeps k1) (State_cmdEnd_keeps ((State_each_keeps k1 (fun _ => fun _ h0 => Keeps.cond h0 (setLink_keeps (State_set_keeps h0))))))

theorem dnSend_keeps {a : State} {x0 x1 x2 x3 x4 x5 s6} (k6 : Keeps a s6) : Keeps a (dnSend x0 x1 x2 x3 x4 x5 s6) := by
  unfold dnSend
  exact State_set_keeps (State_set_keeps ((State_set_keeps (State_set_keeps k6))))

theorem execHeartbeat_keeps {a : State} {x0 s1} (k1 : Keeps a s1) : KeepsOut a (execHeartbeat x0 s1) := by
  unfold execHeartbeat
  exact KeepsOut.next (State_when_keeps k1 (fun _ h0 => dnSend_keeps (State_set_keeps h0)))

theorem queueClear_keeps {a : State} {x0 s1} (k1 : Keeps a s1) : Keeps a (queueClear x0 s1) := by
  unfold queueClear
  exact Keeps.dn k1

theorem accessStart_keeps {a : State} {x0 x1 s2} (k2 : Keeps a s2) : Keeps a (accessStart x0 x1 s2) := by
  unfold accessStart
  exact Keeps.cond (dnSend_keeps k2) (State_set_keeps (State_set_keeps (State_set_keeps ((dnSend_keeps k2)))))

theorem execDownlinkAccessFrame_keeps {a : State} {x0 s1} (k1 : Keeps a s1) : KeepsOut a (execDownlinkAccessFrame x0 s1) := by
  unfold execDownlinkAccessFrame
  exact KeepsOut.next (State_when_keeps k1 (fun _ h0 => (by split; exacts [h0, Keeps.cond (accessStart_keeps (Keeps.dn h0)) h0])))

theorem sendSel_keeps {a : State} {x0 x1 x2 x3 x4 x5 s6} (k6 : Keeps a s6) : Keeps a (sendSel x0 x1 x2 x3 x4 x5 s6) := by
  unfold sendSel
  exact Keeps.cond (State_when_keeps ((State_set_keeps (State_set_keeps ((dnSend_keeps (State_set_keeps k6)))))) (fun _ h0 => State_set_keeps (State_set_keeps (dnSend_keeps h0)))) k6

theorem execSend_keeps {a : State} {x0 s1} (k1 : Keeps a s1) : KeepsOut a (execSend x0 s1) := by
  unfold execSend
  exact linkWrite_keeps (fun _ h0 => KeepsOut.next (State_cmdStart_keeps h0 (fun _ h1 => queueAccess_keeps h1) (fun _ h2 => linkEvent_keeps h2))) k1

theorem execAccessTimeout_keeps {a : State} {x0 s1} (k1 : Keeps a s1) : KeepsOut a (execAccessTimeout x0 s1) := by
  unfold execAccessTimeout
  exact KeepsOut.next (State_when_keeps k1 (fun _ h0 => accEnd_keeps (linkCause_keeps ((State_set_keeps (State_set_keeps (State_set_keeps h0)))))))

theorem accAbort_keeps {a : State} {x0 s1} (k1 : Keeps a s1) : Keeps a (accAbort x0 s1) := by
  unfold accAbort
  exact Keeps.cond (accEnd_keeps (dropRequests_keeps k1)) (State_set_keeps k1)

theorem linkErrors_keeps {a : State} {x0 x1 x2 s3} (k3 : Keeps a s3) : Keeps a (linkErrors x0 x1 x2 s3) := by
  unfold linkErrors
  exact State_when_keeps (State_setB_keeps ((State_each_keeps (State_addSat_keeps k3) (fun _ => fun _ h0 => State_set_keeps (State_set_keeps h0))))) (fun _ h1 => linkEvent_keeps (linkCause_keeps h1))

theorem execUplinkFrameError_keeps {a : State} {x0 x1 s2} (k2 : Keeps a s2) : KeepsOut a (execUplinkFrameError x0 x1 s2) := by
  unfold execUplinkFrameError
  exact KeepsOut.next (State_when_keeps k2 (fun _ h0 => linkErrors_keeps ((State_when_keeps ((State_when_keeps h0 (fun _ h1 => State_set_keeps h1))) (fun _ h2 => State_set_keeps h2)))))

theorem linkSeq_keeps {a s t : State} {l n : Nat} {r : Bool} (h : Keeps a s) (q : linkSeq l n s = (r, t)) : Keeps a t := by
  unfold linkSeq at q
  dsimp only at q
  split at q
  · cases q; exact State_set_keeps h
  · cases q; exact State_when_keeps (State_set_keeps h) fun _ h => linkErrors_keeps h

theorem echoCheck_keeps {a : State} {x0 x1 x2 s3} (k3 : Keeps a s3) : Keeps a (echoCheck x0 x1 x2 s3) := by
  unfold echoCheck
  exact (by split; exacts [k3, State_set_keeps k3, State_when_keeps ((State_when_keeps ((State_set_keeps (State_inc_keeps k3))) (fun _ h0 => linkEvent_keeps h0))) (fun _ h1 => linkCause_keeps h1)])

theorem mark_keeps {a : State} {x0 x1 x2 s3} (k3 : Keeps a s3) : Keeps a (mark x0 x1 x2 s3) := by
  unfold mark
  exact Keeps.cond k3 (State_set_keeps k3)

theorem gmisMark_keeps {a : State} {x0 x1 x2 s3} (k3 : Keeps a s3) : Keeps a (gmisMark x0 x1 x2 s3) := by
  unfold gmisMark
  exact Keeps.cond k3 (mark_keeps k3)

theorem suspicions_keeps {a : State} {x0 x1 x2 s3} (k3 : Keeps a s3) : Keeps a (suspicions x0 x1 x2 s3) := by
  unfold suspicions
  exact State_set_keeps (State_when_keeps ((State_when_keeps ((State_when_keeps ((State_when_keeps k3 (fun _ h0 => mark_keeps h0))) (fun _ h1 => mark_keeps h1))) (fun _ h2 => gmisMark_keeps h2))) (fun _ h3 => gmisMark_keeps h3))

theorem statusRegs_keeps {a : State} {x0 x1 s2} (k2 : Keeps a s2) : Keeps a (statusRegs x0 x1 s2) := by
  unfold statusRegs
  exact State_when_keeps ((State_when_keeps ((State_when_keeps ((State_set_keeps ((State_set_keeps (State_set_keeps (State_set_keeps k2)))))) (fun _ h0 => State_set_keeps h0))) (fun _ h1 => State_set_keeps h1))) (fun _ h2 => State_setWide_keeps ((State_set_keeps (State_set_keeps h2))))

theorem statusState_keeps {a : State} {x0 x1 x2 s3} (k3 : Keeps a s3) : Keeps a (statusState x0 x1 x2 s3) := by
  unfold statusState
  exact Keeps.cond (linkLoss_keeps k3) (Keeps.cond (Keeps.cond (trainFail_keeps k3) (Keeps.cond (Keeps.cond (queueAccess_keeps (setLink_keeps (State_set_keeps (State_set_keeps (State_set_keeps k3))))) (State_set_keeps k3)) (Keeps.cond (trainCheck_keeps (linkEvent_keeps (setLink_keeps (State_set_keeps k3)))) k3))) (Keeps.cond (linkFault_keeps k3) (Keeps.cond (linkEvent_keeps (setLink_keeps (State_when_keeps k3 (fun _ h0 => State_set_keeps h0)))) k3)))

theorem reinRecord_keeps {a : State} {x0 x1 x2 s3} (k3 : Keeps a s3) : Keeps a (reinRecord x0 x1 x2 s3) := by
  unfold reinRecord
  exact logWrite_keeps k3

theorem statusFrame_keeps {a : State} {x0 x1 x2 s3} (k3 : Keeps a s3) : Keeps a (statusFrame x0 x1 x2 s3) := by
  unfold statusFrame
  exact (by (try extract_lets); split; exacts [State_when_keeps ((State_when_keeps ((echoCheck_keeps ((statusState_keeps ((State_when_keeps ((statusRegs_keeps ((State_when_keeps ((linkSeq_keeps k3 ‹_›)) (fun _ h0 => linkErrors_keeps (State_set_keeps h0)))))) (fun _ h1 => suspicions_keeps h1))))))) (fun _ h2 => State_when_keeps ((reDecide_keeps ((ntcUpdate_keeps (State_set_keeps (State_set_keeps h2)))))) (fun _ h3 => junctionSample_keeps h3)))) (fun _ h4 => reinRecord_keeps h4)])

theorem execStatusFrame_keeps {a : State} {x0 x1 x2 s3} (k3 : Keeps a s3) : KeepsOut a (execStatusFrame x0 x1 x2 s3) := by
  unfold execStatusFrame
  exact KeepsOut.next (State_when_keeps k3 (fun _ h0 => statusFrame_keeps (State_set_keeps h0)))

theorem replyFrame_keeps {a : State} {x0 x1 x2 s3} (k3 : Keeps a s3) : Keeps a (replyFrame x0 x1 x2 s3) := by
  unfold replyFrame
  exact Keeps.cond (Keeps.cond (accEnd_keeps (State_set_keeps (State_set_keeps ((State_set_keeps ((linkSeq_keeps k3 (Prod.eta _).symm))))))) (trainReply_keeps ((State_set_keeps ((linkSeq_keeps k3 (Prod.eta _).symm)))))) ((linkSeq_keeps k3 (Prod.eta _).symm))

theorem execReplyFrame_keeps {a : State} {x0 x1 x2 s3} (k3 : Keeps a s3) : KeepsOut a (execReplyFrame x0 x1 x2 s3) := by
  unfold execReplyFrame
  exact KeepsOut.next (State_when_keeps k3 (fun _ h0 => replyFrame_keeps (State_set_keeps h0)))

theorem execFaultPattern_keeps {a : State} {x0 s1} (k1 : Keeps a s1) : KeepsOut a (execFaultPattern x0 s1) := by
  unfold execFaultPattern
  exact KeepsOut.next (Keeps.cond (trainFail_keeps ((State_set_keeps (State_set_keeps k1)))) (State_when_keeps ((State_set_keeps (State_set_keeps k1))) (fun _ h0 => linkFault_keeps h0)))

theorem execReinPatternEnd_keeps {a : State} {x0 s1} (k1 : Keeps a s1) : KeepsOut a (execReinPatternEnd x0 s1) := by
  unfold execReinPatternEnd
  exact KeepsOut.next (State_set_keeps k1)

theorem execUplinkSilence_keeps {a : State} {x0 s1} (k1 : Keeps a s1) : KeepsOut a (execUplinkSilence x0 s1) := by
  unfold execUplinkSilence
  exact KeepsOut.next (State_when_keeps k1 (fun _ h0 => linkLoss_keeps h0))

theorem execNoFrameTimeout_keeps {a : State} {x0 s1} (k1 : Keeps a s1) : KeepsOut a (execNoFrameTimeout x0 s1) := by
  unfold execNoFrameTimeout
  exact KeepsOut.next (State_when_keeps k1 (fun _ h0 => linkLoss_keeps h0))

/-! ### AuxUnits -/

theorem auxCall_keeps {a : State} {x0 x1 x2 x3 s4} (k4 : Keeps a s4) : Keeps a (auxCall x0 x1 x2 x3 s4) := by
  unfold auxCall
  exact Keeps.cond (auxLine_keeps (State_set_keeps (State_setB_keeps k4))) (State_set_keeps (State_set_keeps k4))

theorem auxGo_keeps {a : State} {x0 x1 x2 s3} (k3 : Keeps a s3) : Keeps a (auxGo x0 x1 x2 s3) := by
  unfold auxGo
  exact auxCall_keeps k3

theorem auxDelayed_keeps {a : State} {x0 x1 s2} (k2 : Keeps a s2) : Keeps a (auxDelayed x0 x1 s2) := by
  unfold auxDelayed
  exact Keeps.cond k2 (auxCall_keeps k2)

theorem auxPeriod_keeps {a : State} {x0 x1 s2} (k2 : Keeps a s2) : Keeps a (auxPeriod x0 x1 s2) := by
  unfold auxPeriod
  exact auxGo_keeps ((State_when_keeps (State_setB_keeps ((State_set_keeps (State_set_keeps ((State_set_keeps (State_set_keeps k2))))))) (fun _ h0 => State_when_keeps (State_inc_keeps h0) (fun _ h1 => raiseEvent_keeps h1))))

theorem execAuxEnable_keeps {a : State} {x0 s1} (k1 : Keeps a s1) : KeepsOut a (execAuxEnable x0 s1) := by
  unfold execAuxEnable
  exact KeepsOut.next (busOk_keeps (Keeps.cond k1 (brokenDrive_keeps (State_set_keeps (State_set_keeps k1)))))

theorem execAuxDisable_keeps {a : State} {x0 s1} (k1 : Keeps a s1) : KeepsOut a (execAuxDisable x0 s1) := by
  unfold execAuxDisable
  exact KeepsOut.next (busOk_keeps (Keeps.cond ((State_set_keeps k1)) (auxLine_keeps (State_set_keeps (State_set_keeps (State_set_keeps ((State_set_keeps k1))))))))

theorem auxSel_keeps {a : State} {x0 x1 s2} (k2 : Keeps a s2) : Keeps a (auxSel x0 x1 s2) := by
  unfold auxSel
  exact sendSel_keeps k2

theorem execAuxZero_keeps {a : State} {x0 x1 s2} (k2 : Keeps a s2) : KeepsOut a (execAuxZero x0 x1 s2) := by
  unfold execAuxZero
  exact KeepsOut.next (State_when_keeps k2 (fun _ h0 => auxSel_keeps (auxPeriod_keeps (State_set_keeps (auxDelayed_keeps h0)))))

theorem execAuxOnTimeEnd_keeps {a : State} {x0 x1 s2} (k2 : Keeps a s2) : KeepsOut a (execAuxOnTimeEnd x0 x1 s2) := by
  unfold execAuxOnTimeEnd
  exact KeepsOut.next (State_when_keeps ((auxDelayed_keeps k2)) (fun _ h0 => auxGo_keeps h0))

theorem execEvAuxDemand_keeps {a : State} {x0 s1} (k1 : Keeps a s1) : KeepsOut a (execEvAuxDemand x0 s1) := by
  unfold execEvAuxDemand
  exact KeepsOut.next ((by split; exacts [Keeps.cond k1 (auxSel_keeps (auxPeriod_keeps (raiseEvent_keeps ((State_set_keeps (State_set_keeps (State_inc_keeps (State_set_keeps k1)))))))), k1]))

theorem execDemandEnd_keeps {a : State} {x0 s1} (k1 : Keeps a s1) : KeepsOut a (execDemandEnd x0 s1) := by
  unfold execDemandEnd
  exact KeepsOut.next (Keeps.cond k1 (Keeps.cond (Keeps.cond (auxGo_keeps ((State_set_keeps k1))) ((State_set_keeps k1))) (auxGo_keeps (State_set_keeps ((State_set_keeps k1))))))

theorem auxPin_keeps {a : State} {x0 s1} (k1 : Keeps a s1) : Keeps a (auxPin x0 s1) := by
  unfold auxPin
  exact State_each_keeps ((State_setB_keeps (State_setB_keeps k1))) (fun _ => fun _ h0 => auxLine_keeps (State_setB_keeps h0))

theorem execAuxEnFall_keeps {a : State} {s0} (k0 : Keeps a s0) : KeepsOut a (execAuxEnFall s0) := by
  unfold execAuxEnFall
  exact KeepsOut.next (auxPin_keeps k0)

theorem execAuxEnRise_keeps {a : State} {s0} (k0 : Keeps a s0) : KeepsOut a (execAuxEnRise s0) := by
  unfold execAuxEnRise
  exact KeepsOut.next (Keeps.cond k0 (State_each_keeps (auxPin_keeps k0) (fun _ => fun _ h0 => State_when_keeps h0 (fun _ h1 => queueClear_keeps h1))))

/-! ### Trigger -/

theorem loadShadows_keeps {a : State} {x0 x1 s2} (k2 : Keeps a s2) : Keeps a (loadShadows x0 x1 s2) := by
  unfold loadShadows
  exact Keeps.cond (State_when_keeps k2 (fun _ h0 => armedLoad_keeps h0)) (loadThresholds_keeps (loadCompares_keeps k2))

theorem selFrames_keeps {a : State} {x0 x1 s2} (k2 : Keeps a s2) : Keeps a (selFrames x0 x1 s2) := by
  unfold selFrames
  exact State_each_keeps k2 (fun _ => fun _ h0 => State_when_keeps ((sendSel_keeps h0)) (fun _ h1 => State_set_keeps h1))

theorem shdLatch_keeps {a : State} {x0 s1} (k1 : Keeps a s1) : Keeps a (shdLatch x0 s1) := by
  unfold shdLatch
  exact State_each_keeps k1 (fun _ => fun _ h0 => State_set_keeps h0)

theorem commonTrigger_keeps {a : State} {x0 x1 x2 x3 s4} (k4 : Keeps a s4) : Keeps a (commonTrigger x0 x1 x2 x3 s4) := by
  unfold commonTrigger
  exact loopTrigger_keeps (shdLatch_keeps (decideBand_keeps (ssiStart_keeps ((posLatch_keeps (modLatch_keeps (holdsClose_keeps ((State_set_keeps (State_set_keeps (State_set_keeps ((periodClose_keeps k4)))))))))))))

theorem loadInstant_keeps {a : State} {x0 x1 x2 x3 s4} (k4 : Keeps a s4) : Keeps a (loadInstant x0 x1 x2 x3 s4) := by
  unfold loadInstant
  exact rejudgeAll_keeps (selFrames_keeps (gateProfiles_keeps ((clampCheck_keeps (loadShadows_keeps ((commonTrigger_keeps ((State_when_keeps ((State_set_keeps k4)) (fun _ h0 => switchingTime_keeps h0))))))))))

theorem execLoadInstant_keeps {a : State} {x0 x1 x2 x3 s4} (k4 : Keeps a s4) : KeepsOut a (execLoadInstant x0 x1 x2 x3 s4) := by
  unfold execLoadInstant
  exact KeepsOut.next (State_when_keeps k4 (fun _ h0 => (by split; exacts [loadInstant_keeps h0, h0])))

theorem loadAtZero_keeps {a : State} {x0 x1 s2} (k2 : Keeps a s2) : Keeps a (loadAtZero x0 x1 s2) := by
  unfold loadAtZero
  exact Keeps.cond (cohLoad_keeps k2) (Keeps.cond (armedLoad_keeps k2) (Keeps.cond k2 (State_when_keeps (loadPeriod_keeps k2) (fun _ h0 => loadThresholds_keeps h0))))

theorem periodBegin_keeps {a : State} {x0 x1 s2} (k2 : Keeps a s2) : Keeps a (periodBegin x0 x1 s2) := by
  unfold periodBegin
  exact State_set_keeps (State_set_keeps ((State_set_keeps (State_set_keeps (State_set_keeps ((State_when_keeps k2 (fun _ h0 => State_set_keeps h0))))))))

theorem zeroAfter_keeps {a : State} {x0 x1 s2} (k2 : Keeps a s2) : Keeps a (zeroAfter x0 x1 s2) := by
  unfold zeroAfter
  exact refreshLines_keeps (tripRelease_keeps (monPeriodClear_keeps ((State_when_keeps k2 (fun _ h0 => clampCheck_keeps h0)))))

theorem execCarrierZero_keeps {a : State} {x0 x1 s2} (k2 : Keeps a s2) : KeepsOut a (execCarrierZero x0 x1 s2) := by
  unfold execCarrierZero
  exact KeepsOut.next (State_when_keeps k2 (fun _ h0 => zeroAfter_keeps (loadAtZero_keeps (periodBegin_keeps ((State_when_keeps h0 (fun _ h1 => periodClose_keeps h1)))))))

theorem firstLoads_keeps {a : State} {x0 x1 s2} (k2 : Keeps a s2) : Keeps a (firstLoads x0 x1 s2) := by
  unfold firstLoads
  exact Keeps.cond (cohLoaded_keeps (loadOffsets_keeps ((State_set_keeps (loadPairOfs_keeps (loadThresholds_keeps (loadCompares_keeps (loadPeriod_keeps ((State_set_keeps k2)))))))))) (Keeps.cond (raiseStall_keeps (armDone_keeps ((State_set_keeps (loadPairOfs_keeps (loadThresholds_keeps (loadCompares_keeps (loadPeriod_keeps ((State_set_keeps k2)))))))))) (State_set_keeps ((State_set_keeps (loadPairOfs_keeps (loadThresholds_keeps (loadCompares_keeps (loadPeriod_keeps ((State_set_keeps k2))))))))))

theorem carrierStart_keeps {a : State} {x0 x1 s2} (k2 : Keeps a s2) : Keeps a (carrierStart x0 x1 s2) := by
  unfold carrierStart
  exact zeroAfter_keeps (State_when_keeps ((firstLevels_keeps (firstLoads_keeps ((periodBegin_keeps (State_set_keeps (State_set_keeps (slotsClose_keeps k2)))))))) (fun _ h0 => raiseStall_keeps (State_set_keeps h0)))

theorem execEvPwmStart_keeps {a : State} {x0 x1 s2} (k2 : Keeps a s2) : KeepsOut a (execEvPwmStart x0 x1 s2) := by
  unfold execEvPwmStart
  exact KeepsOut.next (State_when_keeps k2 (fun _ h0 => (by split; exacts [State_when_keeps h0 (fun _ h1 => carrierStart_keeps h1), h0])))

/-! ### Prot -/

theorem execSafe_keeps {a : State} {x0 s1} (k1 : Keeps a s1) : KeepsOut a (execSafe x0 s1) := by
  unfold execSafe
  exact stallWrite_keeps (fun _ h0 => KeepsOut.next (State_cmdStart_keeps h0 (fun _ h1 => State_each_keeps h1 (fun _ => fun _ h2 => raiseStallFault_keeps h2)) (fun _ h3 => h3))) k1

theorem execDecisionWaitEnd_keeps {a : State} {x0 x1 s2} (k2 : Keeps a s2) : KeepsOut a (execDecisionWaitEnd x0 x1 s2) := by
  unfold execDecisionWaitEnd
  exact KeepsOut.next (State_when_keeps k2 (fun _ h0 => reDecide_keeps (State_set_keeps (State_set_keeps h0))))

theorem execDwellExpiry_keeps {a : State} {x0 s1} (k1 : Keeps a s1) : KeepsOut a (execDwellExpiry x0 s1) := by
  unfold execDwellExpiry
  exact KeepsOut.next (State_when_keeps k1 (fun _ h0 => reDecide_keeps h0))

theorem swOvrWrite_keeps {a : State} {x0 x1 s2} (k2 : Keeps a s2) : Keeps a (swOvrWrite x0 x1 s2) := by
  unfold swOvrWrite
  exact Keeps.cond (busErr_keeps k2) (busOk_keeps (reDecide_keeps (State_set_keeps k2)))

theorem execSwOvrWrite_keeps {a : State} {x0 x1 s2} (k2 : Keeps a s2) : KeepsOut a (execSwOvrWrite x0 x1 s2) := by
  unfold execSwOvrWrite
  exact stallWrite_keeps (fun _ h0 => KeepsOut.next (swOvrWrite_keeps h0)) k2

theorem enPin_keeps {a : State} {x0 x1 s2} (k2 : Keeps a s2) : Keeps a (enPin x0 x1 s2) := by
  unfold enPin
  exact State_setBit_keeps (State_setB_keeps (State_setB_keeps (State_setB_keeps k2)))

theorem execStallEnFall_keeps {a : State} {x0 s1} (k1 : Keeps a s1) : KeepsOut a (execStallEnFall x0 s1) := by
  unfold execStallEnFall
  exact KeepsOut.next (Keeps.cond (State_when_keeps ((refreshLines_keeps ((State_set_keeps (enPin_keeps k1))))) (fun _ h0 => raiseStallFault_keeps h0)) k1)

theorem psfClear_keeps {a : State} {x0 s1} (k1 : Keeps a s1) : Keeps a (psfClear x0 s1) := by
  unfold psfClear
  exact reDecide_keeps (raiseStall_keeps ((State_each_keeps (State_set_keeps ((State_each_keeps ((State_set_keeps (State_inc_keeps (State_set_keeps ((State_set_keeps (State_set_keeps (State_set_keeps (State_set_keeps k1))))))))) (fun _ => fun _ h0 => State_set_keeps h0)))) (fun _ => fun _ h1 => Keeps.cond (queueClear_keeps (State_set_keeps h1)) (State_set_keeps h1)))))

theorem execStallEnRise_keeps {a : State} {x0 s1} (k1 : Keeps a s1) : KeepsOut a (execStallEnRise x0 s1) := by
  unfold execStallEnRise
  exact KeepsOut.next (Keeps.cond k1 (refreshLines_keeps ((Keeps.cond ((State_set_keeps (enPin_keeps k1))) (Keeps.cond (State_set_keeps ((State_set_keeps (enPin_keeps k1)))) (Keeps.cond (State_set_keeps ((State_set_keeps (enPin_keeps k1)))) (psfClear_keeps ((State_set_keeps (enPin_keeps k1))))))))))

theorem execEvPsfClrFail_keeps {a : State} {x0 s1} (k1 : Keeps a s1) : KeepsOut a (execEvPsfClrFail x0 s1) := by
  unfold execEvPsfClrFail
  exact KeepsOut.next (State_when_keeps k1 (fun _ h0 => raiseStall_keeps (psfSet_keeps (recordFault_keeps ((State_each_keeps h0 (fun _ => fun _ h1 => State_set_keeps h1)))))))

theorem releaseWait_keeps {a : State} {x0 s1} (k1 : Keeps a s1) : Keeps a (releaseWait x0 s1) := by
  unfold releaseWait
  exact State_set_keeps (State_set_keeps k1)

theorem execProtRelease_keeps {a : State} {x0 s1} (k1 : Keeps a s1) : KeepsOut a (execProtRelease x0 s1) := by
  unfold execProtRelease
  exact stallWrite_keeps (fun _ h0 => KeepsOut.next (State_cmdStart_keeps h0 (fun _ h1 => State_each_keeps h1 (fun _ => fun _ h2 => releaseWait_keeps h2)) (fun _ h3 => State_set_keeps h3))) k1

theorem safeRelease_keeps {a : State} {x0 x1 s2} (k2 : Keeps a s2) : Keeps a (safeRelease x0 x1 s2) := by
  unfold safeRelease
  exact raiseStall_keeps (refreshLines_keeps ((State_when_keeps ((State_each_keeps ((State_each_keeps ((ctcUpdate_keeps (State_set_keeps ((State_set_keeps (State_set_keeps (State_set_keeps (State_set_keeps ((State_set_keeps (State_set_keeps k2))))))))))) (fun _ => fun _ h0 => setCmp_keeps h0))) (fun _ => fun _ h1 => refEdge_keeps h1))) (fun _ h2 => State_set_keeps h2))))

theorem execEvSafeRelease_keeps {a : State} {x0 x1 s2} (k2 : Keeps a s2) : KeepsOut a (execEvSafeRelease x0 x1 s2) := by
  unfold execEvSafeRelease
  exact KeepsOut.next (State_when_keeps k2 (fun _ h0 => safeRelease_keeps h0))

theorem eaccShow_keeps {a : State} {s0} (k0 : Keeps a s0) : Keeps a (eaccShow s0) := by
  unfold eaccShow
  exact State_each_keeps k0 (fun _ => fun _ h0 => State_when_keeps h0 (fun _ h1 => State_set_keeps h1))

theorem eaccSet_keeps {a : State} {x0 s1} (k1 : Keeps a s1) : Keeps a (eaccSet x0 s1) := by
  unfold eaccSet
  exact eaccShow_keeps (State_set_keeps (State_setF_keeps k1))

theorem dischargeStart_keeps {a : State} {x0 x1 x2 s3} (k3 : Keeps a s3) : Keeps a (dischargeStart x0 x1 x2 s3) := by
  unfold dischargeStart
  exact State_set_keeps (State_setB_keeps ((State_setB_keeps (State_set_keeps ((State_when_keeps k3 (fun _ h0 => eaccSet_keeps h0)))))))

theorem dischargeEnd_keeps {a : State} {x0 x1 s2} (k2 : Keeps a s2) : Keeps a (dischargeEnd x0 x1 s2) := by
  unfold dischargeEnd
  exact State_when_keeps ((State_set_keeps (State_set_keeps k2))) (fun _ h0 => State_cmdEnd_keeps h0)

theorem execDischargeRun_keeps {a : State} {x0 s1} (k1 : Keeps a s1) : KeepsOut a (execDischargeRun x0 s1) := by
  unfold execDischargeRun
  exact stallWrite_keeps (fun _ h0 => KeepsOut.next (State_cmdStart_keeps h0 (fun _ h1 => dischargeStart_keeps (State_set_keeps h1)) (fun _ h2 => State_set_keeps h2))) k1

theorem safetyDischarge_keeps {a : State} {s0} (k0 : Keeps a s0) : Keeps a (safetyDischarge s0) := by
  unfold safetyDischarge
  exact Keeps.cond k0 (Keeps.cond (raiseStallFault_keeps (State_set_keeps (State_set_keeps k0))) (dischargeStart_keeps (State_set_keeps k0)))

theorem execDisReq_keeps {a : State} {s0} (k0 : Keeps a s0) : KeepsOut a (execDisReq s0) := by
  unfold execDisReq
  exact KeepsOut.next (busOk_keeps (State_set_keeps (safetyDischarge_keeps k0)))

theorem execDisRepeat_keeps {a : State} {s0} (k0 : Keeps a s0) : KeepsOut a (execDisRepeat s0) := by
  unfold execDisRepeat
  exact KeepsOut.next (State_when_keeps k0 (fun _ h0 => safetyDischarge_keeps h0))

theorem execEvDisDone_keeps {a : State} {s0} (k0 : Keeps a s0) : KeepsOut a (execEvDisDone s0) := by
  unfold execEvDisDone
  exact KeepsOut.next ((by split; exacts [State_when_keeps k0 (fun _ h0 => raiseStall_keeps (dischargeEnd_keeps h0)), k0]))

theorem execDischargeTimeout_keeps {a : State} {s0} (k0 : Keeps a s0) : KeepsOut a (execDischargeTimeout s0) := by
  unfold execDischargeTimeout
  exact KeepsOut.next ((by split; exacts [State_when_keeps k0 (fun _ h0 => raiseStallFault_keeps (dischargeEnd_keeps h0)), k0]))

theorem execEnergyDecay_keeps {a : State} {s0} (k0 : Keeps a s0) : KeepsOut a (execEnergyDecay s0) := by
  unfold execEnergyDecay
  exact KeepsOut.next (State_when_keeps k0 (fun _ h0 => eaccSet_keeps (State_set_keeps h0)))

/-! ### SafetyUnit -/

theorem execShdSramUe_keeps {a : State} {s0} (k0 : Keeps a s0) : KeepsOut a (execShdSramUe s0) := by
  unfold execShdSramUe
  exact KeepsOut.next (raiseFault_keeps (State_set_keeps k0))

theorem execDsReq_keeps {a : State} {s0} (k0 : Keeps a s0) : KeepsOut a (execDsReq s0) := by
  unfold execDsReq
  exact KeepsOut.next (raiseFault_keeps (busOk_keeps (State_set_keeps k0)))

theorem execEvShdCmd_keeps {a : State} {x0 s1} (k1 : Keeps a s1) : KeepsOut a (execEvShdCmd x0 s1) := by
  unfold execEvShdCmd
  exact KeepsOut.next (Keeps.cond (busOk_keeps (shdCommands_keeps ((State_each_keeps k1 (fun _ => fun _ h0 => State_when_keeps h0 (fun _ h1 => State_set_keeps h1)))))) (busErr_keeps k1))

theorem stoApply_keeps {a : State} {s0} (k0 : Keeps a s0) : Keeps a (stoApply s0) := by
  unfold stoApply
  exact auxLine_keeps (auxLine_keeps ((State_each_keeps k0 (fun _ => fun _ h0 => refreshLines_keeps (State_setB_keeps h0)))))

theorem stoInput_keeps {a : State} {x0 x1 s2} (k2 : Keeps a s2) : Keeps a (stoInput x0 x1 s2) := by
  unfold stoInput
  exact Keeps.cond (State_when_keeps ((State_when_keeps ((Keeps.cond (State_setB_keeps k2) (State_setB_keeps k2))) (fun _ h0 => State_set_keeps h0))) (fun _ h1 => State_set_keeps h1)) (State_set_keeps ((State_when_keeps ((Keeps.cond (State_setB_keeps k2) (State_setB_keeps k2))) (fun _ h0 => State_set_keeps h0))))

theorem stoTryEnd_keeps {a : State} {s0} (k0 : Keeps a s0) : Keeps a (stoTryEnd s0) := by
  unfold stoTryEnd
  exact Keeps.cond (State_set_keeps k0) (Keeps.cond (State_set_keeps k0) (stoApply_keeps (State_set_keeps (State_set_keeps (State_set_keeps (State_set_keeps k0))))))

theorem execEvSto_keeps {a : State} {x0 s1} (k1 : Keeps a s1) : KeepsOut a (execEvSto x0 s1) := by
  unfold execEvSto
  exact KeepsOut.next (State_when_keeps k1 (fun _ h0 => State_each_keeps ((raiseEvent_keeps ((stoApply_keeps (State_set_keeps ((State_set_keeps (State_set_keeps (State_setBit_keeps ((State_set_keeps (stoInput_keeps h0)))))))))))) (fun _ => fun _ h1 => raiseStallFault_keeps h1)))

theorem execStoRise_keeps {a : State} {x0 s1} (k1 : Keeps a s1) : KeepsOut a (execStoRise x0 s1) := by
  unfold execStoRise
  exact KeepsOut.next (State_when_keeps k1 (fun _ h0 => stoTryEnd_keeps (stoInput_keeps h0)))

theorem execEvStoDisc_keeps {a : State} {s0} (k0 : Keeps a s0) : KeepsOut a (execEvStoDisc s0) := by
  unfold execEvStoDisc
  exact KeepsOut.next (State_when_keeps k0 (fun _ h0 => State_each_keeps ((raiseEvent_keeps (recordFault_keeps ((State_set_keeps (State_set_keeps h0)))))) (fun _ => fun _ h1 => stallSafe_keeps h1)))

theorem execStoAck_keeps {a : State} {s0} (k0 : Keeps a s0) : KeepsOut a (execStoAck s0) := by
  unfold execStoAck
  exact KeepsOut.next (State_cmdStart_keeps k0 (fun _ h0 => stoTryEnd_keeps (State_set_keeps h0)) (fun _ h1 => h1))

theorem ctcApply_keeps {a : State} {x0 s1} (k1 : Keeps a s1) : Keeps a (ctcApply x0 s1) := by
  unfold ctcApply
  exact State_each_keeps k1 (fun _ => fun _ h0 => Keeps.cond h0 (State_set_keeps (State_set_keeps (State_setB_keeps (State_set_keeps ((State_inc_keeps (State_inc_keeps (State_setBit_keeps h0)))))))))

theorem extestTick_keeps {a : State} {s0} (k0 : Keeps a s0) : Keeps a (extestTick s0) := by
  unfold extestTick
  exact State_when_keeps k0 (fun _ h0 => ctcApply_keeps (State_set_keeps h0))

theorem execCtcCloseWrite_keeps {a : State} {x0 s1} (k1 : Keeps a s1) : KeepsOut a (execCtcCloseWrite x0 s1) := by
  unfold execCtcCloseWrite
  exact KeepsOut.next (busOk_keeps (ctcApply_keeps ((State_each_keeps (State_set_keeps k1) (fun _ => fun _ h0 => Keeps.cond (Keeps.cond (State_set_keeps h0) (State_when_keeps h0 (fun _ h1 => State_set_keeps (State_setBit_keeps h1)))) h0)))))

theorem execCtcForceOpen_keeps {a : State} {s0} (k0 : Keeps a s0) : KeepsOut a (execCtcForceOpen s0) := by
  unfold execCtcForceOpen
  exact KeepsOut.next (State_when_keeps k0 (fun _ h0 => ctcApply_keeps (State_set_keeps h0)))

theorem disCheck_keeps {a : State} {s0} (k0 : Keeps a s0) : Keeps a (disCheck s0) := by
  unfold disCheck
  exact State_when_keeps k0 (fun _ h0 => safetyDischarge_keeps (State_set_keeps h0))

theorem ctcJudge_keeps {a : State} {x0 s1} (k1 : Keeps a s1) : Keeps a (ctcJudge x0 s1) := by
  unfold ctcJudge
  exact Keeps.cond (State_set_keeps ((State_when_keeps k1 (fun _ h0 => State_set_keeps h0)))) (Keeps.cond ((State_when_keeps k1 (fun _ h0 => State_set_keeps h0))) (raiseFault_keeps (raiseEvent_keeps (State_set_keeps ((Keeps.cond (State_setBit_keeps ((State_when_keeps k1 (fun _ h0 => State_set_keeps h0)))) (Keeps.cond (State_setBit_keeps ((State_when_keeps k1 (fun _ h0 => State_set_keeps h0)))) (State_setBit_keeps ((State_when_keeps k1 (fun _ h0 => State_set_keeps h0)))))))))))

theorem execEvCtcFault_keeps {a : State} {x0 s1} (k1 : Keeps a s1) : KeepsOut a (execEvCtcFault x0 s1) := by
  unfold execEvCtcFault
  exact KeepsOut.next (disCheck_keeps (State_each_keeps ((State_set_keeps (State_set_keeps k1))) (fun _ => fun _ h0 => ctcJudge_keeps h0)))

theorem sealLoad_keeps {a : State} {s0} (k0 : Keeps a s0) : Keeps a (sealLoad s0) := by
  unfold sealLoad
  exact State_each_keeps ((stoApply_keeps (State_set_keeps ((State_set_keeps (State_set_keeps (State_set_keeps k0))))))) (fun _ => fun _ h0 => dtFloorFlag_keeps (State_set_keeps (State_set_keeps ((State_set_keeps (State_set_keeps h0))))))

theorem sealRead_keeps {a : State} {s0} (k0 : Keeps a s0) : Keeps a (sealRead s0) := by
  unfold sealRead
  exact (by split; exacts [sealLoad_keeps (State_set_keeps (State_set_keeps (State_set_keeps k0))), State_set_keeps (State_set_keeps (State_set_keeps k0))])

theorem execSealCmd_keeps {a : State} {x0 s1} (k1 : Keeps a s1) : KeepsOut a (execSealCmd x0 s1) := by
  unfold execSealCmd
  exact KeepsOut.next (debugWrite_keeps (fun _ h0 => State_cmdStart_keeps h0 (fun _ h1 => (by (try extract_lets); split; exacts [State_cmdEnd_keeps (State_set_keeps (State_set_keeps h1)), State_putWords_keeps h1])) (fun _ h2 => State_set_keeps h2)) k1)

theorem sealWrite_keeps {a : State} {s0} (k0 : Keeps a s0) : Keeps a (sealWrite s0) := by
  unfold sealWrite
  exact State_putWord_keeps k0

theorem sealCommit_keeps {a : State} {x0 s1} (k1 : Keeps a s1) : Keeps a (sealCommit x0 s1) := by
  unfold sealCommit
  exact raiseEvent_keeps (State_cmdEnd_keeps (State_inc_keeps (sealLoad_keeps ((State_set_keeps (State_set_keeps (State_set_keeps (sealWrite_keeps k1))))))))

theorem sealFails_keeps {a : State} {x0 s1} (k1 : Keeps a s1) : Keeps a (sealFails x0 s1) := by
  unfold sealFails
  exact State_cmdEnd_keeps (State_draw_keeps (State_set_keeps (State_set_keeps k1)))

theorem execEvSealDone_keeps {a : State} {x0 s1} (k1 : Keeps a s1) : KeepsOut a (execEvSealDone x0 s1) := by
  unfold execEvSealDone
  exact KeepsOut.next (State_when_keeps k1 (fun _ h0 => Keeps.cond (sealCommit_keeps h0) (sealFails_keeps h0)))

theorem sealStraps_keeps {a : State} {s0} (k0 : Keeps a s0) : Keeps a (sealStraps s0) := by
  unfold sealStraps
  exact State_when_keeps k0 (fun _ h0 => sealFails_keeps h0)

theorem sealAbort_keeps {a : State} {s0} (k0 : Keeps a s0) : Keeps a (sealAbort s0) := by
  unfold sealAbort
  exact State_draw_keeps (Keeps.cond (sealCommit_keeps k0) (State_cmdEnd_keeps k0))

theorem sealReset_keeps {a : State} {s0} (k0 : Keeps a s0) : Keeps a (sealReset s0) := by
  unfold sealReset
  exact State_when_keeps k0 (fun _ h0 => State_draw_keeps (Keeps.cond (sealWrite_keeps h0) h0))

end Sys2Proof.Machine
end

