-- ==== Sys2Proof/Laws/KeepsYard.lean ====
section
/-!
SUPPORT. Each operation and meaning of Machine/ keeps the canonical forms and the queue (`Keeps`, Laws/Keeps.lean): the files Sheepdog, Yoke, Memory, Can, Eth, Calendar, Auth, RegWrite, Image, Reset.
-/

namespace Sys2Proof.Machine

/-! ### Sheepdog -/

theorem snapTake_keeps {a : State} {x0 s1} (k1 : Keeps a s1) : Keeps a (snapTake x0 s1) := by
  unfold snapTake
  exact State_set_keeps (State_each_keeps k1 (fun _ => fun _ h0 => State_set_keeps h0))

theorem oscCheck_keeps {a : State} {x0 s1} (k1 : Keeps a s1) : Keeps a (oscCheck x0 s1) := by
  unfold oscCheck
  exact Keeps.cond (State_when_keeps ((State_set_keeps ((State_setB_keeps (State_set_keeps k1))))) (fun _ h0 => raiseFault_keeps h0)) (State_set_keeps ((State_setB_keeps (State_set_keeps k1))))

theorem strapCheck_keeps {a : State} {x0 s1} (k1 : Keeps a s1) : Keeps a (strapCheck x0 s1) := by
  unfold strapCheck
  exact Keeps.cond (State_when_keeps ((State_set_keeps ((sealStraps_keeps (State_set_keeps k1))))) (fun _ h0 => raiseFault_keeps h0)) ((sealStraps_keeps (State_set_keeps k1)))

theorem fwCommand_keeps {a : State} {x0 x1 s2} (k2 : Keeps a s2) : Keeps a (fwCommand x0 x1 s2) := by
  unfold fwCommand
  exact shdCommands_keeps ((State_set_keeps (State_set_keeps (State_set_keeps k2))))

theorem ss1Start_keeps {a : State} {x0 s1} (k1 : Keeps a s1) : Keeps a (ss1Start x0 s1) := by
  unfold ss1Start
  exact State_each_keeps (State_set_keeps ((State_set_keeps (State_set_keeps (State_set_keeps (State_set_keeps k1)))))) (fun _ => fun _ h0 => State_set_keeps h0)

theorem ss1End_keeps {a : State} {x0 x1 s2} (k2 : Keeps a s2) : Keeps a (ss1End x0 x1 s2) := by
  unfold ss1End
  exact raiseEvent_keeps (State_when_keeps ((State_set_keeps (State_set_keeps (State_set_keeps (State_set_keeps k2))))) (fun _ h0 => State_cmdEnd_keeps h0))

theorem execSs1Run_keeps {a : State} {s0} (k0 : Keeps a s0) : KeepsOut a (execSs1Run s0) := by
  unfold execSs1Run
  exact KeepsOut.next (State_cmdStart_keeps k0 (fun _ h0 => ss1Start_keeps (State_set_keeps h0)) (fun _ h1 => State_set_keeps h1))

theorem execSs1Restart_keeps {a : State} {s0} (k0 : Keeps a s0) : KeepsOut a (execSs1Restart s0) := by
  unfold execSs1Restart
  exact KeepsOut.next (State_cmdStart_keeps k0 (fun _ h0 => h0) (fun _ h1 => h1))

theorem fwRaise_keeps {a : State} {x0 s1} (k1 : Keeps a s1) : Keeps a (fwRaise x0 s1) := by
  unfold fwRaise
  exact Keeps.cond (fwCommand_keeps ((raiseFault_keeps ((State_set_keeps (State_set_keeps k1)))))) (Keeps.cond (Keeps.cond (ss1Start_keeps ((raiseFault_keeps ((State_set_keeps (State_set_keeps k1)))))) (fwCommand_keeps ((raiseFault_keeps ((State_set_keeps (State_set_keeps k1))))))) ((raiseFault_keeps ((State_set_keeps (State_set_keeps k1))))))

theorem fwOnset_keeps {a : State} {x0 x1 x2 x3 x4 x5 s6} (k5 : ∀ z0, Keeps a z0 → Keeps a (x5 z0)) (k6 : Keeps a s6) : Keeps a (fwOnset x0 x1 x2 x3 x4 x5 s6) := by
  unfold fwOnset
  exact Keeps.cond (State_setBit_keeps k6) (Keeps.cond (State_when_keeps k6 (fun _ h0 => State_set_keeps h0)) (fwRaise_keeps (k5 _ (State_setBit_keeps k6))))

theorem execSafetyRaise_keeps {a : State} {x0 s1} (k1 : Keeps a s1) : KeepsOut a (execSafetyRaise x0 s1) := by
  unfold execSafetyRaise
  exact KeepsOut.next (Keeps.cond (busOk_keeps (fwRaise_keeps k1)) (busErr_keeps k1))

theorem ss1Judge_keeps {a s t : State} {n i : Nat} {r : Bool} (h : Keeps a s) (q : ss1Judge n i s = (r, t)) : Keeps a t := by
  cases q
  exact Keeps.cond (State_set_keeps h) (State_set_keeps h)

theorem ss1Commit_keeps {a : State} {s0} (k0 : Keeps a s0) : Keeps a (ss1Commit s0) := by
  unfold ss1Commit
  exact State_setWide_keeps (State_set_keeps (State_set_keeps ((shdCommands_keeps (State_set_keeps k0)))))

theorem ss1Due_keeps {a : State} {s0} (k0 : Keeps a s0) : Keeps a (ss1Due s0) := by
  unfold ss1Due
  exact State_draw_keeps (State_set_keeps (State_set_keeps ((State_draw_keeps k0))))

theorem ss1Tick_keeps {a : State} {s0} (k0 : Keeps a s0) : Keeps a (ss1Tick s0) := by
  unfold ss1Tick
  exact State_when_keeps ((State_when_keeps k0 (fun _ h0 => ss1Commit_keeps h0))) (fun _ h1 => ss1End_keeps h1)

theorem ss1Abort_keeps {a : State} {s0} (k0 : Keeps a s0) : Keeps a (ss1Abort s0) := by
  unfold ss1Abort
  exact Keeps.cond (State_cmdEnd_keeps k0) (Keeps.cond (ss1End_keeps k0) (ss1End_keeps k0))

theorem ss1Cycle_keeps {a s : State} (h : Keeps a s) : Keeps a (ss1Cycle s) := by
  unfold ss1Cycle
  refine Keeps.cond h ?_
  extract_lets l s1 t d s2
  have h2 : Keeps a s2 := State_set_keeps (State_set_keeps (Keeps.cond (State_each_keeps (State_set_keeps (State_set_keeps h)) fun _ _ h => State_set_keeps h) h))
  clear_value s2
  split
  rename_i bad s3 e
  have h3 : Keeps a s3 := by
    split at e
    · cases e; exact h2
    · rw [show s3 = (bad, s3).2 from rfl, ← e]
      suffices g : ∀ (l : List Nat) (p : List Nat × State), Keeps a p.2 → Keeps a (l.foldl (fun (r : List Nat × State) n =>
          let (b, s) := ss1Judge n t r.2
          (if b then r.1 ++ [n] else r.1, s)) p).2 from g l ([], s2) h2
      intro l
      induction l with
      | nil => exact fun p h => h
      | cons n l ih => exact fun p h => ih _ (ss1Judge_keeps h rfl)
  exact Keeps.cond (State_each_keeps (ss1End_keeps h3) fun _ _ h => fwRaise_keeps h) (Keeps.cond (ss1Due_keeps h3) h3)

theorem ss1RestartCycle_keeps {a : State} {s0} (k0 : Keeps a s0) : Keeps a (ss1RestartCycle s0) := by
  unfold ss1RestartCycle
  exact Keeps.cond (Keeps.cond (State_cmdEnd_keeps k0) (shdCommands_keeps (State_cmdEnd_keeps (State_set_keeps (State_set_keeps k0))))) k0

theorem execWindowApply_keeps {a : State} {x0 x1 s2} (k2 : Keeps a s2) : KeepsOut a (execWindowApply x0 x1 s2) := by
  unfold execWindowApply
  exact KeepsOut.next (busOk_keeps (ageRestart_keeps (State_set_keeps ((Keeps.held (storeSorted_drop _) ((State_set_keeps k2)))))))

theorem coverage_keeps {a : State} {x0 s1} (k1 : Keeps a s1) : Keeps a (coverage x0 s1) := by
  unfold coverage
  exact State_when_keeps ((State_setBit_keeps k1)) (fun _ h0 => fwRaise_keeps (raiseEvent_keeps h0))

theorem torqueCheck_keeps {a : State} {x0 x1 s2} (k2 : Keeps a s2) : Keeps a (torqueCheck x0 x1 s2) := by
  unfold torqueCheck
  exact Keeps.cond ((State_setF_keeps k2)) (State_when_keeps ((State_when_keeps ((State_when_keeps ((State_when_keeps ((State_set_keeps (State_set_keeps ((State_each_keeps ((State_setF_keeps k2)) (fun _ => fun _ h0 => State_setF_keeps h0)))))) (fun _ h1 => fwRaise_keeps (raiseEvent_keeps (State_set_keeps h1))))) (fun _ h2 => fwRaise_keeps h2))) (fun _ h3 => fwRaise_keeps h3))) (fun _ h4 => fwRaise_keeps h4))

theorem execFnSelWrite_keeps {a : State} {x0 x1 s2} (k2 : Keeps a s2) : KeepsOut a (execFnSelWrite x0 x1 s2) := by
  unfold execFnSelWrite
  exact KeepsOut.next (Keeps.cond (busErr_keeps k2) (busOk_keeps (State_set_keeps (State_set_keeps ((State_set_keeps (State_set_keeps k2)))))))

theorem fnActivate_keeps {a : State} {x0 s1} (k1 : Keeps a s1) : Keeps a (fnActivate x0 s1) := by
  unfold fnActivate
  exact State_when_keeps ((State_when_keeps ((State_when_keeps ((State_each_keeps ((State_set_keeps (State_set_keeps k1))) (fun _ => fun _ h0 => State_setBit_keeps h0))) (fun _ h1 => State_set_keeps (State_set_keeps h1)))) (fun _ h2 => State_seti_keeps h2))) (fun _ h3 => State_seti_keeps h3)

theorem slsJudge_keeps {a s t : State} {n : Nat} {r : Bool} (h : Keeps a s) (q : slsJudge n s = (r, t)) : Keeps a t := by
  unfold slsJudge at q
  dsimp only at q
  split at q <;> cases q <;> exact State_set_keeps h

theorem sdiJudge_keeps {a s t : State} {n : Nat} {r : Bool} (h : Keeps a s) (q : sdiJudge n s = (r, t)) : Keeps a t := by
  unfold sdiJudge at q
  dsimp only at q
  split at q
  · cases q; exact h
  · split at q <;> cases q <;> exact State_seti_keeps h

theorem fnCycle_keeps {a : State} {x0 s1} (k1 : Keeps a s1) : Keeps a (fnCycle x0 s1) := by
  unfold fnCycle
  exact (by (try extract_lets); split; exacts [(by split; exacts [State_each_keeps ((State_set_keeps ((sdiJudge_keeps ((slsJudge_keeps ((fnActivate_keeps k1)) ‹_›)) ‹_›)))) (fun _ => fun _ h0 => fwOnset_keeps (fun _ h1 => raiseEvent_keeps (State_setBit_keeps h1)) h0)])])

theorem posFault_keeps {a : State} {x0 s1} (k1 : Keeps a s1) : Keeps a (posFault x0 s1) := by
  unfold posFault
  exact fwOnset_keeps (fun _ h0 => h0) (State_setB_keeps k1)

theorem execSafetyAck_keeps {a : State} {x0 s1} (k1 : Keeps a s1) : KeepsOut a (execSafetyAck x0 s1) := by
  unfold execSafetyAck
  exact KeepsOut.next (State_cmdStart_keeps k1 (fun _ h0 => h0) (fun _ h1 => h1))

theorem ackCycle_keeps {a : State} {s0} (k0 : Keeps a s0) : Keeps a (ackCycle s0) := by
  unfold ackCycle
  exact Keeps.cond (Keeps.cond (State_cmdEnd_keeps k0) (State_cmdEnd_keeps (State_each_keeps k0 (fun _ => fun _ h0 => State_set_keeps h0)))) k0

theorem withdraw_keeps {a : State} {s0} (k0 : Keeps a s0) : Keeps a (withdraw s0) := by
  unfold withdraw
  exact State_each_keeps ((shdCommands_keeps (State_each_keeps k0 (fun _ => fun _ h0 => State_set_keeps h0)))) (fun _ => fun _ h1 => State_set_keeps h1)

theorem firmware_keeps {a : State} {x0 s1} (k1 : Keeps a s1) : Keeps a (firmware x0 s1) := by
  unfold firmware
  exact withdraw_keeps (ackCycle_keeps (ss1RestartCycle_keeps (ss1Cycle_keeps ((State_each_keeps ((State_each_keeps ((State_each_keeps k1 (fun _ => fun _ h0 => coverage_keeps h0))) (fun _ => fun _ h1 => torqueCheck_keeps h1))) (fun _ => fun _ h2 => posFault_keeps (fnCycle_keeps h2)))))))

theorem execSheepdogCycle_keeps {a : State} {x0 x1 x2 x3 s4} (k4 : Keeps a s4) : KeepsOut a (execSheepdogCycle x0 x1 x2 x3 s4) := by
  unfold execSheepdogCycle
  exact KeepsOut.next (State_when_keeps k4 (fun _ h0 => disCheck_keeps (State_when_keeps ((strapCheck_keeps (oscCheck_keeps (State_each_keeps ((State_addSat_keeps (State_set_keeps (State_set_keeps h0)))) (fun _ => fun _ h1 => snapTake_keeps h1))))) (fun _ h2 => firmware_keeps h2))))

/-! ### Yoke -/

theorem bufUpdate_keeps {a : State} {s0} (k0 : Keeps a s0) : Keeps a (bufUpdate s0) := by
  unfold bufUpdate
  exact State_set_keeps (State_set_keeps (State_set_keeps k0))

theorem coreStep_keeps {a : State} {x0 s1} (k1 : Keeps a s1) : Keeps a (coreStep x0 s1) := by
  unfold coreStep
  exact State_set_keeps k1

theorem disRecord_keeps {a : State} {x0 x1 x2 s3} (k3 : Keeps a s3) : Keeps a (disRecord x0 x1 x2 s3) := by
  unfold disRecord
  exact State_inc_keeps (State_setWide_keeps (State_set_keeps ((State_set_keeps (State_set_keeps (State_set_keeps k3))))))

theorem markCore_keeps {a : State} {x0 x1 x2 x3 s4} (k4 : Keeps a s4) : Keeps a (markCore x0 x1 x2 x3 s4) := by
  unfold markCore
  exact State_when_keeps ((raiseFault_keeps (raiseEvent_keeps ((bufUpdate_keeps (State_set_keeps (State_set_keeps ((Keeps.yoke ((disRecord_keeps k4))))))))))) (fun _ h0 => raiseFault_keeps (State_setBit_keeps h0))

theorem voteImpossible_keeps {a : State} {x0 x1 x2 s3} (k3 : Keeps a s3) : Keeps a (voteImpossible x0 x1 x2 s3) := by
  unfold voteImpossible
  exact raiseFault_keeps (State_when_keeps ((State_set_keeps (disRecord_keeps k3))) (fun _ h0 => State_cmdEnd_keeps h0))

theorem disagree_keeps {a : State} {x0 x1 x2 s3} (k3 : Keeps a s3) : Keeps a (disagree x0 x1 x2 s3) := by
  unfold disagree
  exact Keeps.cond (markCore_keeps k3) (voteImpossible_keeps k3)

theorem thirdCopy_keeps {a : State} {x0 x1 s2} (k2 : Keeps a s2) : Keeps a (thirdCopy x0 x1 s2) := by
  unfold thirdCopy
  exact (by split; exacts [Keeps.yokeOwed k2, Keeps.cond ((Keeps.yokeBuf k2)) (disagree_keeps ((Keeps.yokeBuf k2)))])

theorem vote_keeps {a s t : State} {r : Option Txn} (h : Keeps a s) (q : vote s = (r, t)) : Keeps a t := by
  unfold vote at q
  dsimp only at q
  split at q
  · cases q
    exact Keeps.foldl (Keeps.yokeBuf h) fun _ h _ => thirdCopy_keeps h
  · split at q
    · split at q
      · cases q; exact voteImpossible_keeps h
      · cases q; exact h
    · cases q; exact h

theorem present_keeps {a s t : State} {c : Nat} {x : Txn} {r : Option Txn} (h : Keeps a s) (q : present c x s = (r, t)) : Keeps a t := by
  unfold present at q
  dsimp only at q
  split at q
  · cases q; exact h
  · split at q
    · split at q
      · split at q
        · cases q; exact ⟨h.1, h.2⟩
        · cases q; exact Keeps.yokeOwed h
      · cases q; exact h
    · split at q
      · cases q; exact h
      · split at q
        · split at q
          · cases q; exact ⟨h.1, h.2⟩
          · cases q; exact bufUpdate_keeps (vote_keeps (disagree_keeps (Keeps.yokeOwed h)) (Prod.eta _).symm)
        · split at q
          · cases q; exact h
          · cases q
            exact bufUpdate_keeps (vote_keeps (Keeps.yokeBuf h) rfl)

theorem presentSig_keeps {a : State} {x0 x1 s2} (k2 : Keeps a s2) : Keeps a (presentSig x0 x1 s2) := by
  unfold presentSig
  exact (by (try extract_lets); split; exacts [(by split; exacts [State_set_keeps ((present_keeps (coreStep_keeps (State_set_keeps k2)) ‹_›)), (present_keeps (coreStep_keeps (State_set_keeps k2)) ‹_›)])])

theorem execSigReq_keeps {a : State} {x0 x1 s2} (k2 : Keeps a s2) : KeepsOut a (execSigReq x0 x1 s2) := by
  unfold execSigReq
  exact KeepsOut.next (State_when_keeps k2 (fun _ h0 => presentSig_keeps h0))

theorem ownStore_keeps {a : State} {x0 x1 x2 x3 s4} (k4 : Keeps a s4) : Keeps a (ownStore x0 x1 x2 x3 s4) := by
  unfold ownStore
  exact State_set_keeps (State_putBytes_keeps k4)

theorem execVoteTimeout_keeps {a : State} {s0} (k0 : Keeps a s0) : KeepsOut a (execVoteTimeout s0) := by
  unfold execVoteTimeout
  exact KeepsOut.next (Keeps.cond k0 ((by split; exacts [bufUpdate_keeps (vote_keeps (disagree_keeps (Keeps.yokeOwed k0)) (Prod.eta _).symm), (by split; exacts [voteImpossible_keeps k0, k0])])))

theorem execYokeSramUe_keeps {a : State} {x0 x1 s2} (k2 : Keeps a s2) : KeepsOut a (execYokeSramUe x0 x1 s2) := by
  unfold execYokeSramUe
  exact KeepsOut.next (Keeps.cond k2 (Keeps.cond (bufUpdate_keeps (vote_keeps (markCore_keeps k2) (Prod.eta _).symm)) (voteImpossible_keeps k2)))

theorem intRecord_keeps {a : State} {x0 s1} (k1 : Keeps a s1) : Keeps a (intRecord x0 s1) := by
  unfold intRecord
  exact State_set_keeps (State_set_keeps k1)

theorem execInterruptEntry_keeps {a : State} {x0 x1 s2} (k2 : Keeps a s2) : KeepsOut a (execInterruptEntry x0 x1 s2) := by
  unfold execInterruptEntry
  exact KeepsOut.next (State_when_keeps k2 (fun _ h0 => presentSig_keeps (State_set_keeps ((State_when_keeps h0 (fun _ h1 => intRecord_keeps h1))))))

theorem resyncStart_keeps {a : State} {s0} (k0 : Keeps a s0) : Keeps a (resyncStart s0) := by
  unfold resyncStart
  exact State_draw_keeps (State_set_keeps (State_set_keeps ((State_set_keeps (State_set_keeps (State_set_keeps k0))))))

theorem resyncTick_keeps {a : State} {s0} (k0 : Keeps a s0) : Keeps a (resyncTick s0) := by
  unfold resyncTick
  exact State_when_keeps k0 (fun _ h0 => State_set_keeps h0)

theorem execResync_keeps {a : State} {s0} (k0 : Keeps a s0) : KeepsOut a (execResync s0) := by
  unfold execResync
  exact KeepsOut.next (State_cmdStart_keeps k0 (fun _ h0 => resyncStart_keeps h0) (fun _ h1 => h1))

theorem execAutoResync_keeps {a : State} {s0} (k0 : Keeps a s0) : KeepsOut a (execAutoResync s0) := by
  unfold execAutoResync
  exact KeepsOut.next (State_when_keeps k0 (fun _ h0 => resyncStart_keeps h0))

theorem resyncCopy_keeps {a : State} {x0 x1 s2} (k2 : Keeps a s2) : Keeps a (resyncCopy x0 x1 s2) := by
  unfold resyncCopy
  exact State_set_keeps ((State_set_keeps (State_set_keeps ((Keeps.mem (wf_copy _ _ _) k2)))))

theorem resyncEnd_keeps {a : State} {x0 s1} (k1 : Keeps a s1) : Keeps a (resyncEnd x0 s1) := by
  unfold resyncEnd
  exact State_when_keeps k1 (fun _ h0 => State_cmdEnd_keeps h0)

theorem execEvYokeResync_keeps {a : State} {x0 x1 s2} (k2 : Keeps a s2) : KeepsOut a (execEvYokeResync x0 x1 s2) := by
  unfold execEvYokeResync
  exact KeepsOut.next (State_when_keeps k2 (fun _ h0 => Keeps.cond (raiseEvent_keeps (resyncEnd_keeps ((State_set_keeps (State_inc_keeps (State_set_keeps (State_set_keeps ((State_set_keeps ((State_set_keeps (resyncCopy_keeps h0)))))))))))) (raiseFault_keeps (resyncEnd_keeps (State_set_keeps ((State_set_keeps ((State_set_keeps (resyncCopy_keeps h0))))))))))

theorem resyncAbort_keeps {a : State} {s0} (k0 : Keeps a s0) : Keeps a (resyncAbort s0) := by
  unfold resyncAbort
  exact Keeps.cond (State_cmdEnd_keeps (State_set_keeps k0)) (State_set_keeps k0)

theorem yokeWdFault_keeps {a : State} {s0} (k0 : Keeps a s0) : Keeps a (yokeWdFault s0) := by
  unfold yokeWdFault
  exact raiseFault_keeps (raiseEvent_keeps k0)

theorem execYokeWdKick_keeps {a : State} {x0 s1} (k1 : Keeps a s1) : KeepsOut a (execYokeWdKick x0 s1) := by
  unfold execYokeWdKick
  exact KeepsOut.next (Keeps.cond k1 (Keeps.cond (State_draw_keeps (State_set_keeps (State_set_keeps (State_set_keeps ((busOk_keeps (State_set_keeps k1))))))) (yokeWdFault_keeps ((busOk_keeps (State_set_keeps k1))))))

theorem execEvYokeWd_keeps {a : State} {s0} (k0 : Keeps a s0) : KeepsOut a (execEvYokeWd s0) := by
  unfold execEvYokeWd
  exact KeepsOut.next (State_when_keeps k0 (fun _ h0 => yokeWdFault_keeps (State_set_keeps h0)))

theorem lockstepBreak_keeps {a : State} {s0} (k0 : Keeps a s0) : Keeps a (lockstepBreak s0) := by
  unfold lockstepBreak
  exact Keeps.cond (raiseFault_keeps ((raiseEvent_keeps (State_set_keeps ((State_when_keeps k0 (fun _ h0 => resyncEnd_keeps (State_set_keeps h0)))))))) (raiseFault_keeps ((raiseEvent_keeps (State_set_keeps ((State_when_keeps k0 (fun _ h0 => resyncEnd_keeps (State_set_keeps h0))))))))

theorem execVotedSramRead_keeps {a : State} {x0 s1} (k1 : Keeps a s1) : KeepsOut a (execVotedSramRead x0 s1) := by
  unfold execVotedSramRead
  exact KeepsOut.next (Keeps.cond (Keeps.bus k1) (Keeps.cond (Keeps.bus k1) (raiseEvent_keeps (busErr_keeps k1))))

/-! ### Memory -/

theorem execPorterCommit_keeps {a : State} {s0} (k0 : Keeps a s0) : KeepsOut a (execPorterCommit s0) := by
  unfold execPorterCommit
  exact KeepsOut.next (busOk_keeps (State_set_keeps k0))

theorem porterLoad_keeps {a : State} {s0} (k0 : Keeps a s0) : Keeps a (porterLoad s0) := by
  unfold porterLoad
  exact State_when_keeps k0 (fun _ h0 => State_set_keeps (State_set_keeps (State_set_keeps ((State_when_keeps h0 (fun _ h1 => State_set_keeps h1))))))

theorem rankedGrant_keeps {a : State} {x0 x1 s2} (k2 : Keeps a s2) : Keeps a (rankedGrant x0 x1 s2) := by
  unfold rankedGrant
  exact (by (try extract_lets); split; exacts [State_set_keeps (State_set_keeps k2), k2])

theorem courierGrant_keeps {a : State} {x0 s1} (k1 : Keeps a s1) : Keeps a (courierGrant x0 s1) := by
  unfold courierGrant
  exact Keeps.cond (State_setBit_keeps ((State_set_keeps k1))) (State_set_keeps ((State_set_keeps k1)))

theorem execGrantDecision_keeps {a : State} {x0 x1 s2} (k2 : Keeps a s2) : KeepsOut a (execGrantDecision x0 x1 s2) := by
  unfold execGrantDecision
  exact KeepsOut.next (Keeps.cond ((by (try extract_lets); split; exacts [courierGrant_keeps ((porterLoad_keeps ((State_set_keeps k2)))), rankedGrant_keeps ((porterLoad_keeps ((State_set_keeps k2))))])) ((by split; exacts [State_when_keeps ((State_set_keeps k2)) (fun _ h0 => courierGrant_keeps (State_set_keeps h0)), (State_set_keeps k2)])))

theorem dramEcc_keeps {a : State} {x0 x1 s2} (k2 : Keeps a s2) : Keeps a (dramEcc x0 x1 s2) := by
  unfold dramEcc
  exact (by (try extract_lets); split; exacts [(State_addSat_keeps k2), raiseFault_keeps (raiseEvent_keeps (State_set_keeps ((State_when_keeps ((State_addSat_keeps k2)) (fun _ h0 => State_setWide_keeps h0)))))])

theorem ueAnswer_keeps {a : State} {x0 s1} (k1 : Keeps a s1) : Keeps a (ueAnswer x0 s1) := by
  unfold ueAnswer
  exact Keeps.bus k1

theorem execBurstDone_keeps {a : State} {x0 x1 x2 s3} (k3 : Keeps a s3) : KeepsOut a (execBurstDone x0 x1 x2 s3) := by
  unfold execBurstDone
  exact KeepsOut.next (Keeps.cond k3 (dramEcc_keeps (((by split; exacts [State_when_keeps ((Keeps.cond (State_set_keeps ((State_set_keeps (State_addSat_keeps k3)))) (State_set_keeps (State_set_keeps ((State_set_keeps (State_addSat_keeps k3))))))) (fun _ h0 => ueAnswer_keeps h0), (Keeps.cond (State_set_keeps ((State_set_keeps (State_addSat_keeps k3)))) (State_set_keeps (State_set_keeps ((State_set_keeps (State_addSat_keeps k3))))))])))))

theorem execRefresh_keeps {a : State} {x0 x1 s2} (k2 : Keeps a s2) : KeepsOut a (execRefresh x0 x1 s2) := by
  unfold execRefresh
  exact KeepsOut.next (State_when_keeps k2 (fun _ h0 => dramEcc_keeps (State_set_keeps ((Keeps.cond (State_set_keeps (State_set_keeps ((State_set_keeps (State_set_keeps h0))))) (Keeps.cond (State_set_keeps (porterLoad_keeps ((State_set_keeps (State_set_keeps h0))))) (State_setBit_keeps ((State_set_keeps (State_set_keeps h0))))))))))

theorem dramTemp_keeps {a : State} {x0 s1} (k1 : Keeps a s1) : Keeps a (dramTemp x0 s1) := by
  unfold dramTemp
  exact (by split; exacts [State_when_keeps (State_set_keeps (State_set_keeps k1)) (fun _ h0 => raiseFault_keeps h0), Keeps.cond (State_when_keeps ((State_set_keeps k1)) (fun _ h1 => raiseEvent_keeps (State_set_keeps h1))) (Keeps.cond (State_when_keeps ((State_set_keeps k1)) (fun _ h2 => raiseEvent_keeps (State_set_keeps h2))) ((State_set_keeps k1)))])

theorem execDramTempRead_keeps {a : State} {x0 s1} (k1 : Keeps a s1) : KeepsOut a (execDramTempRead x0 s1) := by
  unfold execDramTempRead
  exact KeepsOut.next (State_when_keeps k1 (fun _ h0 => dramTemp_keeps (State_set_keeps h0)))

theorem cellarEnd_keeps {a : State} {x0 x1 x2 x3 s4} (k3 : ∀ z0, Keeps a z0 → Keeps a (x3 z0)) (k4 : Keeps a s4) : Keeps a (cellarEnd x0 x1 x2 x3 s4) := by
  unfold cellarEnd
  exact State_cmdStart_keeps k4 (fun _ h0 => k3 _ (State_set_keeps h0)) (fun _ h1 => State_set_keeps h1)

theorem cellarAlloc_keeps {a : State} {x0 s1} (k1 : Keeps a s1) : Keeps a (cellarAlloc x0 s1) := by
  unfold cellarAlloc
  exact (by (try extract_lets); split; exacts [cellarEnd_keeps (fun _ h0 => (by split; exacts [State_set_keeps ((cellarTake_keeps h0 ‹_›)), h0])) k1, cellarEnd_keeps (fun _ h1 => h1) k1])

theorem cellarFreeCmd_keeps {a : State} {x0 x1 s2} (k2 : Keeps a s2) : Keeps a (cellarFreeCmd x0 x1 s2) := by
  unfold cellarFreeCmd
  exact cellarEnd_keeps (fun _ h0 => cellarFree_keeps h0) k2

theorem cellarMove_keeps {a : State} {x0 x1 s2} (k2 : Keeps a s2) : Keeps a (cellarMove x0 x1 s2) := by
  unfold cellarMove
  exact cellarCount_keeps (useInc_keeps (setCaskOwner_keeps (useDec_keeps k2)))

theorem cellarGive_keeps {a : State} {x0 x1 x2 s3} (k3 : Keeps a s3) : Keeps a (cellarGive x0 x1 x2 s3) := by
  unfold cellarGive
  exact cellarEnd_keeps (fun _ h0 => cellarMove_keeps h0) k3

theorem cellarOp_keeps {a : State} {x0 x1 x2 s3} (k3 : Keeps a s3) : Keeps a (cellarOp x0 x1 x2 s3) := by
  unfold cellarOp
  exact Keeps.cond (cellarAlloc_keeps k3) (Keeps.cond (cellarFreeCmd_keeps k3) (cellarGive_keeps k3))

theorem cellarRest_keeps {a : State} {s0} (k0 : Keeps a s0) : Keeps a (cellarRest s0) := by
  unfold cellarRest
  exact State_each_keeps k0 (fun _ => fun _ h0 => State_when_keeps h0 (fun _ h1 => cellarOp_keeps (State_set_keeps (State_set_keeps h1))))

theorem cellarServe_keeps {a : State} {x0 x1 s2} (k2 : Keeps a s2) : Keeps a (cellarServe x0 x1 s2) := by
  unfold cellarServe
  exact Keeps.cond k2 (Keeps.cond (State_set_keeps (State_set_keeps (State_cmdSet_keeps k2))) (cellarRest_keeps (cellarOp_keeps k2)))

theorem cellarAbort_keeps {a : State} {x0 s1} (k1 : Keeps a s1) : Keeps a (cellarAbort x0 s1) := by
  unfold cellarAbort
  exact State_cmdEnd_keeps (State_set_keeps k1)

theorem execAlloc_keeps {a : State} {x0 s1} (k1 : Keeps a s1) : KeepsOut a (execAlloc x0 s1) := by
  unfold execAlloc
  exact KeepsOut.next (cellarServe_keeps k1)

theorem execFree_keeps {a : State} {x0 s1} (k1 : Keeps a s1) : KeepsOut a (execFree x0 s1) := by
  unfold execFree
  exact KeepsOut.next (cellarServe_keeps k1)

theorem execGive_keeps {a : State} {x0 s1} (k1 : Keeps a s1) : KeepsOut a (execGive x0 s1) := by
  unfold execGive
  exact KeepsOut.next (cellarServe_keeps k1)

theorem execCaskZeroed_keeps {a : State} {x0 s1} (k1 : Keeps a s1) : KeepsOut a (execCaskZeroed x0 s1) := by
  unfold execCaskZeroed
  exact KeepsOut.next (State_when_keeps k1 (fun _ h0 => cellarCount_keeps (State_set_keeps (State_set_keeps ((Keeps.mem (wf_erase _ _) h0))))))

theorem execEvCellarUe_keeps {a : State} {x0 x1 s2} (k2 : Keeps a s2) : KeepsOut a (execEvCellarUe x0 x1 s2) := by
  unfold execEvCellarUe
  exact KeepsOut.next (State_when_keeps ((State_addSat_keeps k2)) (fun _ h0 => raiseFault_keeps (raiseEvent_keeps (busErr_keeps h0))))

theorem ringWrite_keeps {a : State} {x0 s1} (k1 : Keeps a s1) : Keeps a (ringWrite x0 s1) := by
  unfold ringWrite
  exact State_setWide_keeps ((State_when_keeps ((State_putBytes_keeps ((State_when_keeps k1 (fun _ h0 => State_setWide_keeps h0))))) (fun _ h1 => State_set_keeps h1)))

theorem flushOne_keeps {a : State} {s0} (k0 : Keeps a s0) : Keeps a (flushOne s0) := by
  unfold flushOne
  exact Keeps.cond k0 (cellarFree_keeps ((State_each_keeps ((Keeps.foldl (Keeps.logStage k0) (fun _ h0 => fun _ => ringWrite_keeps h0))) (fun _ => fun _ h1 => State_set_keeps (State_set_keeps (State_set_keeps (State_set_keeps h1)))))))

theorem execStagingFlush_keeps {a : State} {s0} (k0 : Keeps a s0) : KeepsOut a (execStagingFlush s0) := by
  unfold execStagingFlush
  exact KeepsOut.next (State_when_keeps k0 (fun _ h0 => flushOne_keeps h0))

theorem execTimeRecord_keeps {a : State} {s0} (k0 : Keeps a s0) : KeepsOut a (execTimeRecord s0) := by
  unfold execTimeRecord
  exact KeepsOut.next (State_when_keeps k0 (fun _ h0 => logWrite_keeps (State_set_keeps h0)))

theorem execStreamRecordClose_keeps {a : State} {x0 x1 x2 x3 s4} (k4 : Keeps a s4) : KeepsOut a (execStreamRecordClose x0 x1 x2 x3 s4) := by
  unfold execStreamRecordClose
  exact KeepsOut.next (State_when_keeps k4 (fun _ h0 => logWrite_keeps (Keeps.cond (State_set_keeps h0) (State_set_keeps h0))))

theorem logEnable_keeps {a : State} {s0} (k0 : Keeps a s0) : Keeps a (logEnable s0) := by
  unfold logEnable
  exact Keeps.cond (State_set_keeps k0) (Keeps.cond (State_set_keeps k0) k0)

theorem execTrigger_keeps {a : State} {s0} (k0 : Keeps a s0) : KeepsOut a (execTrigger s0) := by
  unfold execTrigger
  exact KeepsOut.next (State_cmdStart_keeps k0 (fun _ h0 => logTrigger_keeps h0) (fun _ h1 => h1))

theorem stagingDrop_keeps {a : State} {s0} (k0 : Keeps a s0) : Keeps a (stagingDrop s0) := by
  unfold stagingDrop
  exact Keeps.logStage ((State_each_keeps k0 (fun _ => fun _ h0 => cellarFree_keeps (State_set_keeps (State_set_keeps (State_set_keeps h0))))))

theorem trigClose_keeps {a : State} {s0} (k0 : Keeps a s0) : Keeps a (trigClose s0) := by
  unfold trigClose
  exact State_when_keeps k0 (fun _ h0 => State_set_keeps (State_setWide_keeps h0))

theorem freeze_keeps {a : State} {s0} (k0 : Keeps a s0) : Keeps a (freeze s0) := by
  unfold freeze
  exact raiseEvent_keeps (State_set_keeps ((trigClose_keeps (State_each_keeps k0 (fun _ => fun _ h0 => flushOne_keeps h0)))))

theorem execEvLogFrozen_keeps {a : State} {s0} (k0 : Keeps a s0) : KeepsOut a (execEvLogFrozen s0) := by
  unfold execEvLogFrozen
  exact KeepsOut.next (State_when_keeps k0 (fun _ h0 => freeze_keeps h0))

theorem logReset_keeps {a : State} {s0} (k0 : Keeps a s0) : Keeps a (logReset s0) := by
  unfold logReset
  exact State_when_keeps ((State_set_keeps (stagingDrop_keeps ((logTrigger_keeps k0))))) (fun _ h0 => raiseEvent_keeps (State_set_keeps (trigClose_keeps (State_when_keeps h0 (fun _ h1 => State_set_keeps h1)))))

theorem logDeferred_keeps {a : State} {s0} (k0 : Keeps a s0) : Keeps a (logDeferred s0) := by
  unfold logDeferred
  exact Keeps.cond k0 (State_addSat_keeps (Keeps.cond (logReset_keeps ((State_set_keeps (State_set_keeps (State_set_keeps k0))))) (logTrigger_keeps ((State_set_keeps (State_set_keeps (State_set_keeps k0)))))))

theorem execLogbookArm_keeps {a : State} {s0} (k0 : Keeps a s0) : KeepsOut a (execLogbookArm s0) := by
  unfold execLogbookArm
  exact KeepsOut.next (State_cmdStart_keeps k0 (fun _ h0 => logDeferred_keeps (State_set_keeps ((State_set_keeps (State_setWide_keeps ((State_setWide_keeps (State_set_keeps h0)))))))) (fun _ h1 => h1))

/-! ### Can -/

theorem canFault_keeps {a : State} {x0 x1 s2} (k2 : Keeps a s2) : Keeps a (canFault x0 x1 s2) := by
  unfold canFault
  exact raiseFault_keeps k2

theorem canState_keeps {a : State} {x0 x1 s2} (k2 : Keeps a s2) : Keeps a (canState x0 x1 s2) := by
  unfold canState
  exact Keeps.cond k2 (Keeps.cond (canFault_keeps ((raiseEvent_keeps (State_set_keeps (State_set_keeps k2))))) (Keeps.cond (canFault_keeps (State_inc_keeps ((raiseEvent_keeps (State_set_keeps (State_set_keeps k2)))))) ((raiseEvent_keeps (State_set_keeps (State_set_keeps k2))))))

theorem setCanQueue_keeps {a : State} {x0 x1 s2} (k2 : Keeps a s2) : Keeps a (setCanQueue x0 x1 s2) := by
  unfold setCanQueue
  exact State_set_keeps (Keeps.canTx k2)

theorem canEnable_keeps {a : State} {x0 s1} (k1 : Keeps a s1) : Keeps a (canEnable x0 s1) := by
  unfold canEnable
  exact Keeps.cond (busOk_keeps k1) ((by split; exacts [busErr_keeps (State_set_keeps k1), busOk_keeps (canState_keeps (State_set_keeps ((State_set_keeps (State_set_keeps (State_set_keeps (State_set_keeps ((State_set_keeps (State_set_keeps (State_set_keeps (State_set_keeps ((State_each_keeps ((cellarTakeN_keeps k1 ‹_›)) (fun _ => fun _ h0 => State_set_keeps (State_set_keeps h0))))))))))))))))]))

theorem execCanEnable_keeps {a : State} {x0 s1} (k1 : Keeps a s1) : KeepsOut a (execCanEnable x0 s1) := by
  unfold execCanEnable
  exact KeepsOut.next (canEnable_keeps k1)

theorem canDisable_keeps {a : State} {x0 s1} (k1 : Keeps a s1) : Keeps a (canDisable x0 s1) := by
  unfold canDisable
  exact Keeps.cond (busOk_keeps k1) (busOk_keeps (canState_keeps (State_set_keeps ((State_set_keeps (State_set_keeps (State_set_keeps ((State_set_keeps (setCanQueue_keeps (State_each_keeps k1 (fun _ => fun _ h0 => cellarFree_keeps h0))))))))))))

theorem execCanDisable_keeps {a : State} {x0 s1} (k1 : Keeps a s1) : KeepsOut a (execCanDisable x0 s1) := by
  unfold execCanDisable
  exact KeepsOut.next (canDisable_keeps k1)

theorem canResult_keeps {a : State} {x0 x1 x2 x3 x4 s5} (k5 : Keeps a s5) : Keeps a (canResult x0 x1 x2 x3 x4 s5) := by
  unfold canResult
  exact Keeps.cond (State_set_keeps ((raiseEvent_keeps ((Keeps.cond (canFault_keeps (State_set_keeps ((State_set_keeps (State_set_keeps ((State_set_keeps (State_set_keeps (State_set_keeps k5))))))))) (State_inc_keeps ((State_set_keeps (State_set_keeps ((State_set_keeps (State_set_keeps (State_set_keeps k5))))))))))))) (Keeps.cond (canFault_keeps (State_set_keeps ((raiseEvent_keeps ((Keeps.cond (canFault_keeps (State_set_keeps ((State_set_keeps (State_set_keeps ((State_set_keeps (State_set_keeps (State_set_keeps k5))))))))) (State_inc_keeps ((State_set_keeps (State_set_keeps ((State_set_keeps (State_set_keeps (State_set_keeps k5)))))))))))))) (State_set_keeps ((raiseEvent_keeps ((Keeps.cond (canFault_keeps (State_set_keeps ((State_set_keeps (State_set_keeps ((State_set_keeps (State_set_keeps (State_set_keeps k5))))))))) (State_inc_keeps ((State_set_keeps (State_set_keeps ((State_set_keeps (State_set_keeps (State_set_keeps k5))))))))))))))

theorem canEndAll_keeps {a : State} {x0 x1 x2 s3} (k3 : Keeps a s3) : Keeps a (canEndAll x0 x1 x2 s3) := by
  unfold canEndAll
  exact Keeps.foldl k3 (fun _ h0 => fun _ => canResult_keeps (State_draw_keeps h0))

theorem execTxrAck_keeps {a : State} {x0 x1 s2} (k2 : Keeps a s2) : KeepsOut a (execTxrAck x0 x1 s2) := by
  unfold execTxrAck
  exact KeepsOut.next (Keeps.cond (busOk_keeps (State_set_keeps (State_set_keeps k2))) (busErr_keeps k2))

theorem canShowRec_keeps {a : State} {x0 s1} (k1 : Keeps a s1) : Keeps a (canShowRec x0 s1) := by
  unfold canShowRec
  exact State_setB_keeps (State_set_keeps k1)

theorem canBusOff_keeps {a : State} {x0 s1} (k1 : Keeps a s1) : Keeps a (canBusOff x0 s1) := by
  unfold canBusOff
  exact State_when_keeps ((canEndAll_keeps (State_set_keeps (setCanQueue_keeps (canState_keeps k1))))) (fun _ h0 => canState_keeps h0)

theorem canConfine_keeps {a : State} {x0 s1} (k1 : Keeps a s1) : Keeps a (canConfine x0 s1) := by
  unfold canConfine
  exact Keeps.cond ((canShowRec_keeps k1)) (Keeps.cond (canBusOff_keeps ((canShowRec_keeps k1))) (Keeps.cond (canState_keeps ((canShowRec_keeps k1))) (canState_keeps ((canShowRec_keeps k1)))))

theorem canLec_keeps {a : State} {x0 x1 x2 s3} (k3 : Keeps a s3) : Keeps a (canLec x0 x1 x2 s3) := by
  unfold canLec
  exact State_when_keeps (State_set_keeps k3) (fun _ h0 => State_set_keeps h0)

theorem canRxErr_keeps {a : State} {x0 x1 x2 x3 s4} (k4 : Keeps a s4) : Keeps a (canRxErr x0 x1 x2 x3 s4) := by
  unfold canRxErr
  exact State_when_keeps (canLec_keeps k4) (fun _ h0 => canConfine_keeps (State_addSat_keeps h0))

theorem execCanRxError_keeps {a : State} {x0 x1 x2 x3 s4} (k4 : Keeps a s4) : KeepsOut a (execCanRxError x0 x1 x2 x3 s4) := by
  unfold execCanRxError
  exact KeepsOut.next (State_when_keeps k4 (fun _ h0 => canRxErr_keeps h0))

theorem execCanIntegrated_keeps {a : State} {x0 s1} (k1 : Keeps a s1) : KeepsOut a (execCanIntegrated x0 s1) := by
  unfold execCanIntegrated
  exact KeepsOut.next (State_when_keeps k1 (fun _ h0 => canState_keeps h0))

theorem execRecover_keeps {a : State} {x0 s1} (k1 : Keeps a s1) : KeepsOut a (execRecover x0 s1) := by
  unfold execRecover
  exact KeepsOut.next (State_cmdStart_keeps k1 (fun _ h0 => canState_keeps h0) (fun _ h1 => h1))

theorem execCanRecovered_keeps {a : State} {x0 s1} (k1 : Keeps a s1) : KeepsOut a (execCanRecovered x0 s1) := by
  unfold execCanRecovered
  exact KeepsOut.next (State_when_keeps k1 (fun _ h0 => canState_keeps (canShowRec_keeps (State_set_keeps (State_set_keeps h0)))))

theorem execProtocolException_keeps {a : State} {x0 s1} (k1 : Keeps a s1) : KeepsOut a (execProtocolException x0 s1) := by
  unfold execProtocolException
  exact KeepsOut.next (State_when_keeps k1 (fun _ h0 => canFault_keeps (canState_keeps (State_inc_keeps h0))))

theorem execCanRxDominant_keeps {a : State} {x0 s1} (k1 : Keeps a s1) : KeepsOut a (execCanRxDominant x0 s1) := by
  unfold execCanRxDominant
  exact KeepsOut.next (State_when_keeps k1 (fun _ h0 => canFault_keeps (State_set_keeps h0)))

theorem execPush_keeps {a : State} {x0 s1} (k1 : Keeps a s1) : KeepsOut a (execPush x0 s1) := by
  unfold execPush
  exact KeepsOut.next (State_cmdStart_keeps k1 (fun _ h0 => setCanQueue_keeps h0) (fun _ h1 => h1))

theorem execFlush_keeps {a : State} {x0 x1 s2} (k2 : Keeps a s2) : KeepsOut a (execFlush x0 x1 s2) := by
  unfold execFlush
  exact KeepsOut.next (State_cmdStart_keeps k2 (fun _ h0 => canEndAll_keeps (State_setB_keeps (setCanQueue_keeps h0))) (fun _ h1 => h1))

theorem execEvCanTx_keeps {a : State} {x0 x1 x2 x3 x4 x5 s6} (k6 : Keeps a s6) : KeepsOut a (execEvCanTx x0 x1 x2 x3 x4 x5 s6) := by
  unfold execEvCanTx
  exact KeepsOut.next ((by split; exacts [k6, Keeps.cond k6 (canConfine_keeps ((canResult_keeps ((Keeps.cond (State_set_keeps (((by split; exacts [State_when_keeps ((State_set_keeps (setCanQueue_keeps k6))) (fun _ h0 => State_set_keeps h0), (State_set_keeps (setCanQueue_keeps k6))])))) (Keeps.cond (((by split; exacts [State_when_keeps ((State_set_keeps (setCanQueue_keeps k6))) (fun _ h0 => State_set_keeps h0), (State_set_keeps (setCanQueue_keeps k6))]))) (Keeps.cond ((canLec_keeps (((by split; exacts [State_when_keeps ((State_set_keeps (setCanQueue_keeps k6))) (fun _ h0 => State_set_keeps h0), (State_set_keeps (setCanQueue_keeps k6))]))))) (State_set_keeps ((canLec_keeps (((by split; exacts [State_when_keeps ((State_set_keeps (setCanQueue_keeps k6))) (fun _ h0 => State_set_keeps h0), (State_set_keeps (setCanQueue_keeps k6))])))))))))))))]))

theorem execEvCankRx_keeps {a : State} {x0 x1 x2 x3 x4 x5 s6} (k6 : Keeps a s6) : KeepsOut a (execEvCankRx x0 x1 x2 x3 x4 x5 s6) := by
  unfold execEvCankRx
  exact KeepsOut.next (Keeps.cond k6 (Keeps.cond (State_when_keeps k6 (fun _ h0 => canRxErr_keeps h0)) (State_when_keeps k6 (fun _ h1 => Keeps.cond (State_when_keeps (State_set_keeps (State_inc_keeps ((State_when_keeps h1 (fun _ h2 => canConfine_keeps (State_set_keeps h2)))))) (fun _ h3 => raiseEvent_keeps (canFault_keeps h3))) (raiseEvent_keeps (State_set_keeps ((State_set_keeps (State_set_keeps ((State_putBytes_keeps ((State_when_keeps h1 (fun _ h2 => canConfine_keeps (State_set_keeps h2)))))))))))))))

theorem execRxqAck_keeps {a : State} {x0 x1 s2} (k2 : Keeps a s2) : KeepsOut a (execRxqAck x0 x1 s2) := by
  unfold execRxqAck
  exact KeepsOut.next (Keeps.cond (busOk_keeps (State_set_keeps (State_set_keeps k2))) (busErr_keeps k2))

/-! ### Eth -/

theorem ethFault_keeps {a : State} {x0 s1} (k1 : Keeps a s1) : Keeps a (ethFault x0 s1) := by
  unfold ethFault
  exact raiseFault_keeps k1

theorem txDiscard_keeps {a : State} {s0} (k0 : Keeps a s0) : Keeps a (txDiscard s0) := by
  unfold txDiscard
  exact ethFault_keeps (State_inc_keeps k0)

theorem caskPut_keeps {a : State} {x0 x1 s2} (k2 : Keeps a s2) : Keeps a (caskPut x0 x1 s2) := by
  unfold caskPut
  exact State_putBytes_keeps k2

theorem txQueue_keeps {a : State} {x0 x1 x2 x3 s4} (k4 : Keeps a s4) : Keeps a (txQueue x0 x1 x2 x3 s4) := by
  unfold txQueue
  exact Keeps.cond (txDiscard_keeps k4) ((by split; exacts [txDiscard_keeps k4, Keeps.ethTx ((caskPut_keeps ((cellarTake_keeps k4 ‹_›))))]))

theorem txDiscardAll_keeps {a : State} {x0 s1} (k1 : Keeps a s1) : Keeps a (txDiscardAll x0 s1) := by
  unfold txDiscardAll
  exact Keeps.foldl ((Keeps.ethTx k1)) (fun _ h0 => fun _ => txDiscard_keeps (State_each_keeps h0 (fun _ => fun _ h1 => cellarFree_keeps h1)))

theorem txNext_keeps {a : State} {s0} (k0 : Keeps a s0) : Keeps a (txNext s0) := by
  unfold txNext
  exact State_set_keeps k0

theorem txStore_keeps {a s t : State} {w : Nat} {b : List Byte} {ps : List Nat} (h : Keeps a s) (q : txStore w b ps s = some t) : Keeps a t := by
  unfold txStore at q
  split at q
  · exact absurd q (by simp)
  · obtain rfl := Option.some.inj q
    exact raiseEvent_keeps (txNext_keeps (State_each_keeps h fun _ _ h => txQueue_keeps h))

theorem txTake_keeps {a s t : State} (h : Keeps a s) (q : txTake s = some t) : Keeps a t := by
  unfold txTake at q
  dsimp only at q
  split at q
  · obtain rfl := Option.some.inj q; exact State_inc_keeps (txNext_keeps h)
  · exact txStore_keeps h q

theorem txStep_keeps {a s : State} {go : State → State} (h : Keeps a s) (hg : ∀ t, Keeps a t → Keeps a (go t)) : Keeps a (txStep go s) := by
  unfold txStep
  refine Keeps.cond h ?_
  generalize e : txTake s = o
  cases o with
  | none => exact h
  | some t => exact hg t (txTake_keeps h e)

theorem txFill_keeps {a s : State} {k : Nat} (h : Keeps a s) : Keeps a (txFill k s) := by
  induction k generalizing s with
  | zero => exact h
  | succ k ih => exact txStep_keeps h fun _ h => ih h

theorem execEthTxQueue_keeps {a : State} {x0 s1} (k1 : Keeps a s1) : KeepsOut a (execEthTxQueue x0 s1) := by
  unfold execEthTxQueue
  exact KeepsOut.next (Keeps.cond (txFill_keeps (busOk_keeps (State_set_keeps k1))) (busErr_keeps k1))

theorem execEthTxAgeExpiry_keeps {a : State} {s0} (k0 : Keeps a s0) : KeepsOut a (execEthTxAgeExpiry s0) := by
  unfold execEthTxAgeExpiry
  exact KeepsOut.next (txDiscardAll_keeps k0)

theorem execEvEthLink_keeps {a : State} {x0 x1 s2} (k2 : Keeps a s2) : KeepsOut a (execEvEthLink x0 x1 s2) := by
  unfold execEvEthLink
  exact KeepsOut.next (Keeps.cond k2 (Keeps.cond ((raiseEvent_keeps (State_setB_keeps k2))) (txDiscardAll_keeps (ethFault_keeps (State_inc_keeps ((raiseEvent_keeps (State_setB_keeps k2))))))))

theorem rxQueue_keeps {a : State} {x0 x1 x2 s3} (k3 : Keeps a s3) : Keeps a (rxQueue x0 x1 x2 s3) := by
  unfold rxQueue
  exact (by split; exacts [ethFault_keeps (State_inc_keeps k3), Keeps.ethRx ((caskPut_keeps ((cellarTake_keeps k3 ‹_›))))])

theorem execEthFrameRx_keeps {a : State} {x0 x1 x2 x3 s4} (k4 : Keeps a s4) : KeepsOut a (execEthFrameRx x0 x1 x2 x3 s4) := by
  unfold execEthFrameRx
  exact KeepsOut.next (Keeps.cond k4 (Keeps.cond (State_inc_keeps k4) (State_each_keeps ((State_inc_keeps k4)) (fun _ => fun _ h0 => Keeps.cond (rxQueue_keeps h0) (txQueue_keeps h0)))))

theorem execEvEthRx_keeps {a : State} {s0} (k0 : Keeps a s0) : KeepsOut a (execEvEthRx s0) := by
  unfold execEvEthRx
  exact KeepsOut.next ((by split; exacts [k0, Keeps.cond k0 (raiseEvent_keeps (State_inc_keeps (State_set_keeps ((State_each_keeps (Keeps.ethRx ((Keeps.cond (State_putBytes_keeps k0) (violation_keeps k0)))) (fun _ => fun _ h0 => cellarFree_keeps h0))))))]))

theorem execEthRxReturn_keeps {a : State} {x0 s1} (k1 : Keeps a s1) : KeepsOut a (execEthRxReturn x0 s1) := by
  unfold execEthRxReturn
  exact KeepsOut.next (Keeps.cond (busOk_keeps (State_set_keeps (State_set_keeps k1))) (busErr_keeps k1))

theorem asSet_keeps {a : State} {x0 x1 s2} (k2 : Keeps a s2) : Keeps a (asSet x0 x1 s2) := by
  unfold asSet
  exact State_seti_keeps (State_set_keeps (State_set_keeps k2))

theorem syncSet_keeps {a : State} {x0 s1} (k1 : Keeps a s1) : Keeps a (syncSet x0 s1) := by
  unfold syncSet
  exact Keeps.cond k1 (State_when_keeps ((raiseEvent_keeps (State_setB_keeps k1))) (fun _ h0 => ethFault_keeps h0))

theorem execSyncMessage_keeps {a : State} {x0 x1 s2} (k2 : Keeps a s2) : KeepsOut a (execSyncMessage x0 x1 s2) := by
  unfold execSyncMessage
  exact KeepsOut.next (Keeps.cond k2 (Keeps.cond (syncSet_keeps ((State_set_keeps ((Keeps.cond (asSet_keeps ((State_set_keeps (State_set_keeps (State_seti_keeps k2))))) (State_draw_keeps (asSet_keeps ((State_set_keeps (State_set_keeps (State_seti_keeps k2))))))))))) (State_when_keeps ((State_set_keeps ((Keeps.cond (asSet_keeps ((State_set_keeps (State_set_keeps (State_seti_keeps k2))))) (State_draw_keeps (asSet_keeps ((State_set_keeps (State_set_keeps (State_seti_keeps k2)))))))))) (fun _ h0 => syncSet_keeps h0))))

theorem execSyncTimeout_keeps {a : State} {s0} (k0 : Keeps a s0) : KeepsOut a (execSyncTimeout s0) := by
  unfold execSyncTimeout
  exact KeepsOut.next (State_when_keeps k0 (fun _ h0 => syncSet_keeps (State_set_keeps h0)))

theorem execSyncTransmit_keeps {a : State} {s0} (k0 : Keeps a s0) : KeepsOut a (execSyncTransmit s0) := by
  unfold execSyncTransmit
  exact KeepsOut.next (State_when_keeps k0 (fun _ h0 => State_set_keeps (State_each_keeps h0 (fun _ => fun _ h1 => State_set_keeps (State_addSat_keeps h1)))))

theorem execPeerDelayMessage_keeps {a : State} {x0 x1 x2 s3} (k3 : Keeps a s3) : KeepsOut a (execPeerDelayMessage x0 x1 x2 s3) := by
  unfold execPeerDelayMessage
  exact KeepsOut.next (Keeps.cond k3 (State_setB_keeps (State_set_keeps k3)))

theorem gmStart_keeps {a : State} {s0} (k0 : Keeps a s0) : Keeps a (gmStart s0) := by
  unfold gmStart
  exact Keeps.cond k0 (syncSet_keeps (asSet_keeps (State_set_keeps k0)))

theorem execGmWrite_keeps {a : State} {s0} (k0 : Keeps a s0) : KeepsOut a (execGmWrite s0) := by
  unfold execGmWrite
  exact KeepsOut.next (gmStart_keeps (busOk_keeps (State_set_keeps k0)))

theorem execEthFrameTx_keeps {a : State} {x0 s1} (k1 : Keeps a s1) : KeepsOut a (execEthFrameTx x0 s1) := by
  unfold execEthFrameTx
  exact KeepsOut.next (Keeps.cond k1 ((by split; exacts [k1, txFill_keeps (State_inc_keeps (State_each_keeps (Keeps.ethTx ((State_set_keeps k1))) (fun _ => fun _ h0 => cellarFree_keeps h0)))])))

theorem execApply_keeps {a : State} {x0 s1} (k1 : Keeps a s1) : KeepsOut a (execApply x0 s1) := by
  unfold execApply
  exact KeepsOut.next (State_cmdStart_keeps k1 (fun _ h0 => State_set_keeps (State_set_keeps (State_set_keeps ((State_each_keeps ((State_set_keeps h0)) (fun _ => fun _ h1 => State_set_keeps h1)))))) (fun _ h2 => h2))

theorem gclRun_keeps {a : State} {x0 x1 x2 s3} (k3 : Keeps a s3) : Keeps a (gclRun x0 x1 x2 s3) := by
  unfold gclRun
  exact State_set_keeps (State_set_keeps k3)

theorem execEvGclApply_keeps {a : State} {x0 s1} (k1 : Keeps a s1) : KeepsOut a (execEvGclApply x0 s1) := by
  unfold execEvGclApply
  exact KeepsOut.next (State_when_keeps k1 (fun _ h0 => State_set_keeps (State_cmdEnd_keeps (raiseEvent_keeps ((gclRun_keeps (State_set_keeps (State_set_keeps ((State_set_keeps (State_set_keeps (State_set_keeps ((State_each_keeps h0 (fun _ => fun _ h1 => State_set_keeps h1)))))))))))))))

theorem execGateEntryEnd_keeps {a : State} {x0 s1} (k1 : Keeps a s1) : KeepsOut a (execGateEntryEnd x0 s1) := by
  unfold execGateEntryEnd
  exact KeepsOut.next (State_when_keeps k1 (fun _ h0 => Keeps.cond (gclRun_keeps (State_set_keeps h0)) (gclRun_keeps h0)))

theorem execDisable_keeps {a : State} {x0 s1} (k1 : Keeps a s1) : KeepsOut a (execDisable x0 s1) := by
  unfold execDisable
  exact KeepsOut.next (State_cmdStart_keeps k1 (fun _ h0 => State_set_keeps (State_set_keeps h0)) (fun _ h1 => h1))

theorem gclAbort_keeps {a : State} {x0 s1} (k1 : Keeps a s1) : Keeps a (gclAbort x0 s1) := by
  unfold gclAbort
  exact Keeps.cond (State_cmdEnd_keeps (State_set_keeps k1)) (State_set_keeps k1)

theorem roleFollow_keeps {a : State} {s0 s1} (_ : Keeps a s0) (k1 : Keeps a s1) : Keeps a (roleFollow s0 s1) := by
  unfold roleFollow
  exact State_when_keeps k1 (fun _ h0 => gmStart_keeps h0)

/-! ### Calendar -/

theorem clkLoad_keeps {a : State} {x0 s1} (k1 : Keeps a s1) : Keeps a (clkLoad x0 s1) := by
  unfold clkLoad
  exact State_set_keeps (State_setWide_keeps k1)

theorem clkStep_keeps {a : State} {x0 s1} (k1 : Keeps a s1) : Keeps a (clkStep x0 s1) := by
  unfold clkStep
  exact State_when_keeps (clkLoad_keeps k1) (fun _ h0 => raiseFault_keeps h0)

theorem execCalSet_keeps {a : State} {s0} (k0 : Keeps a s0) : KeepsOut a (execCalSet s0) := by
  unfold execCalSet
  exact KeepsOut.next (State_cmdStart_keeps k0 (fun _ h0 => h0) (fun _ h1 => h1))

theorem calSetLoad_keeps {a : State} {s0} (k0 : Keeps a s0) : Keeps a (calSetLoad s0) := by
  unfold calSetLoad
  exact raiseEvent_keeps (State_cmdEnd_keeps (State_set_keeps (State_set_keeps ((clkStep_keeps k0)))))

theorem calAlign_keeps {a : State} {s0} (k0 : Keeps a s0) : Keeps a (calAlign s0) := by
  unfold calAlign
  exact Keeps.cond (State_set_keeps (State_set_keeps ((clkStep_keeps ((State_seti_keeps k0)))))) (Keeps.cond (State_set_keeps (State_set_keeps ((State_seti_keeps k0)))) (State_set_keeps (State_setB_keeps (State_set_keeps (State_set_keeps ((State_seti_keeps k0)))))))

theorem execAlign_keeps {a : State} {s0} (k0 : Keeps a s0) : KeepsOut a (execAlign s0) := by
  unfold execAlign
  exact KeepsOut.next (State_cmdStart_keeps k0 (fun _ h0 => h0) (fun _ h1 => h1))

theorem execAutoAlign_keeps {a : State} {s0} (k0 : Keeps a s0) : KeepsOut a (execAutoAlign s0) := by
  unfold execAutoAlign
  exact KeepsOut.next (State_when_keeps k0 (fun _ h0 => State_set_keeps (State_set_keeps h0)))

theorem execVbakCheck_keeps {a : State} {x0 s1} (k1 : Keeps a s1) : KeepsOut a (execVbakCheck x0 s1) := by
  unfold execVbakCheck
  exact KeepsOut.next (State_when_keeps k1 (fun _ h0 => State_when_keeps (State_set_keeps h0) (fun _ h1 => raiseFault_keeps (State_set_keeps h1))))

theorem execCalendarSlewEnd_keeps {a : State} {s0} (k0 : Keeps a s0) : KeepsOut a (execCalendarSlewEnd s0) := by
  unfold execCalendarSlewEnd
  exact KeepsOut.next (State_when_keeps k0 (fun _ h0 => State_set_keeps h0))

theorem calCount_keeps {a : State} {s0} (k0 : Keeps a s0) : Keeps a (calCount s0) := by
  unfold calCount
  exact State_set_keeps (clkLoad_keeps k0)

theorem calEdge_keeps {a : State} {s0} (k0 : Keeps a s0) : Keeps a (calEdge s0) := by
  unfold calEdge
  exact State_when_keeps ((State_when_keeps ((Keeps.cond (calSetLoad_keeps k0) (calCount_keeps k0))) (fun _ h0 => calAlign_keeps (State_cmdEnd_keeps h0)))) (fun _ h1 => calAlign_keeps (State_set_keeps h1))

theorem calTick_keeps {a : State} {s0} (k0 : Keeps a s0) : Keeps a (calTick s0) := by
  unfold calTick
  exact Keeps.cond (State_set_keeps k0) (calEdge_keeps (State_set_keeps k0))

/-! ### Auth -/

theorem keyShow_keeps {a : State} {s0} (k0 : Keeps a s0) : Keeps a (keyShow s0) := by
  unfold keyShow
  exact State_each_keeps ((State_each_keeps ((State_set_keeps k0)) (fun _ => fun _ h0 => State_each_keeps h0 (fun _ => fun _ h1 => State_set_keeps h1)))) (fun _ => fun _ h2 => State_set_keeps h2)

theorem keyLoad_keeps {a : State} {s0} (k0 : Keeps a s0) : Keeps a (keyLoad s0) := by
  unfold keyLoad
  exact keyShow_keeps (State_each_keeps k0 (fun _ => fun _ h0 => State_set_keeps h0))

theorem freshLoad_keeps {a : State} {s0} (k0 : Keeps a s0) : Keeps a (freshLoad s0) := by
  unfold freshLoad
  exact (by split; exacts [State_set_keeps k0, State_set_keeps k0])

theorem freshBoot_keeps {a : State} {s0} (k0 : Keeps a s0) : Keeps a (freshBoot s0) := by
  unfold freshBoot
  exact Keeps.cond (raiseFault_keeps (State_set_keeps ((freshLoad_keeps k0)))) (State_set_keeps ((freshLoad_keeps k0)))

theorem execCheck_keeps {a : State} {s0} (k0 : Keeps a s0) : KeepsOut a (execCheck s0) := by
  unfold execCheck
  exact KeepsOut.next (State_cmdStart_keeps k0 (fun _ h0 => State_set_keeps (State_set_keeps ((State_each_keeps h0 (fun _ => fun _ h1 => State_set_keeps h1))))) (fun _ h2 => h2))

theorem authPending_keeps {a : State} {s0} (k0 : Keeps a s0) : Keeps a (authPending s0) := by
  unfold authPending
  exact State_setB_keeps k0

theorem authLapse_keeps {a : State} {s0} (k0 : Keeps a s0) : Keeps a (authLapse s0) := by
  unfold authLapse
  exact Keeps.cond k0 (raiseEvent_keeps (authPending_keeps (State_set_keeps k0)))

theorem authAccept_keeps {a : State} {s0} (k0 : Keeps a s0) : Keeps a (authAccept s0) := by
  unfold authAccept
  exact Keeps.cond (authLapse_keeps (State_set_keeps k0)) (authPending_keeps (State_set_keeps (State_set_keeps ((State_set_keeps (State_set_keeps ((State_when_keeps k0 (fun _ h0 => State_set_keeps h0)))))))))

theorem authFail_keeps {a : State} {x0 s1} (k1 : Keeps a s1) : Keeps a (authFail x0 s1) := by
  unfold authFail
  exact Keeps.cond (State_when_keeps ((State_inc_keeps ((State_cmdEnd_keeps (State_set_keeps k1))))) (fun _ h0 => raiseFault_keeps (State_set_keeps (State_set_keeps h0)))) (State_when_keeps ((State_cmdEnd_keeps (State_set_keeps k1))) (fun _ h1 => State_set_keeps h1))

theorem freshPut_keeps {a : State} {x0 s1} (k1 : Keeps a s1) : Keeps a (freshPut x0 s1) := by
  unfold freshPut
  exact (by split; exacts [State_putWords_keeps k1])

theorem authCommit_keeps {a : State} {x0 s1} (k1 : Keeps a s1) : Keeps a (authCommit x0 s1) := by
  unfold authCommit
  exact State_cmdEnd_keeps (authAccept_keeps ((State_set_keeps (State_set_keeps (State_set_keeps ((freshPut_keeps k1)))))))

theorem authResult_keeps {a : State} {x0 s1} (k1 : Keeps a s1) : Keeps a (authResult x0 s1) := by
  unfold authResult
  exact raiseEvent_keeps (Keeps.cond (authFail_keeps k1) (Keeps.cond (authCommit_keeps k1) (raiseFault_keeps (State_cmdEnd_keeps (State_set_keeps (State_set_keeps (freshPut_keeps k1)))))))

theorem execEvAuthResult_keeps {a : State} {x0 s1} (k1 : Keeps a s1) : KeepsOut a (execEvAuthResult x0 s1) := by
  unfold execEvAuthResult
  exact KeepsOut.next (State_when_keeps k1 (fun _ h0 => authResult_keeps h0))

theorem authDue_keeps {a : State} {s0} (k0 : Keeps a s0) : Keeps a (authDue s0) := by
  unfold authDue
  exact State_when_keeps k0 (fun _ h0 => authResult_keeps h0)

theorem authAbort_keeps {a : State} {s0} (k0 : Keeps a s0) : Keeps a (authAbort s0) := by
  unfold authAbort
  exact State_draw_keeps (raiseEvent_keeps (Keeps.cond (authCommit_keeps k0) (State_cmdEnd_keeps k0)))

theorem authReset_keeps {a : State} {s0} (k0 : Keeps a s0) : Keeps a (authReset s0) := by
  unfold authReset
  exact State_when_keeps k0 (fun _ h0 => State_draw_keeps (Keeps.cond h0 (freshPut_keeps h0)))

theorem execAuthLockEnd_keeps {a : State} {s0} (k0 : Keeps a s0) : KeepsOut a (execAuthLockEnd s0) := by
  unfold execAuthLockEnd
  exact KeepsOut.next (State_when_keeps k0 (fun _ h0 => State_set_keeps (State_set_keeps h0)))

theorem execAuthSecond_keeps {a : State} {s0} (k0 : Keeps a s0) : KeepsOut a (execAuthSecond s0) := by
  unfold execAuthSecond
  exact KeepsOut.next (State_when_keeps k0 (fun _ h0 => State_set_keeps (State_set_keeps h0)))

theorem execEvAuthLapse_keeps {a : State} {s0} (k0 : Keeps a s0) : KeepsOut a (execEvAuthLapse s0) := by
  unfold execEvAuthLapse
  exact KeepsOut.next (State_when_keeps k0 (fun _ h0 => authLapse_keeps h0))

theorem authTick_keeps {a : State} {s0} (k0 : Keeps a s0) : Keeps a (authTick s0) := by
  unfold authTick
  exact Keeps.cond (State_when_keeps k0 (fun _ h0 => State_set_keeps h0)) (State_set_keeps k0)

theorem execEvAuthInhibit_keeps {a : State} {s0} (k0 : Keeps a s0) : KeepsOut a (execEvAuthInhibit s0) := by
  unfold execEvAuthInhibit
  exact KeepsOut.next (State_when_keeps k0 (fun _ h0 => raiseEvent_keeps (authPending_keeps (State_set_keeps h0))))

theorem writeFields_keeps {a s t : State} {who : Req} {x v : Nat} {r : RRow} {l : List Nat} {e : Bool} (h : Keeps a s)
    (q : writeFields who x v r l s = (e, t)) : Keeps a t := by
  unfold writeFields at q
  suffices g : ∀ (fs : List RField) (p : Bool × State), Keeps a p.2 → Keeps a (fs.foldl (fun (p : Bool × State) f =>
      if !f.writable || f.acc == .cmd then (p.1, p.2)
      else
        let y := f.part r.chk v
        let cur := s.get (f.fld x)
        if !mayWrite who l f then (p.1 || y != cur, p.2)
        else if y != cur && condForbids f.cond (regStall x) (regIx x l) cur y s then (true, p.2)
        else (p.1, p.2.set (f.fld x) (f.next cur y))) p).2 by
    have := g r.fs (false, s) h
    rw [show t = (e, t).2 from rfl, ← q]
    exact this
  intro fs
  induction fs with
  | nil => exact fun p h => h
  | cons f fs ih =>
    intro p h
    refine ih _ ?_
    dsimp only
    split
    · exact h
    · split
      · exact h
      · split
        · exact h
        · exact State_set_keeps h

/-! ### RegWrite -/

theorem regStore_keeps {a : State} {x0 x1 x2 x3 x4 s5} (k5 : Keeps a s5) : Keeps a (regStore x0 x1 x2 x3 x4 s5) := by
  unfold regStore
  exact Keeps.cond (busOk_keeps k5) (Keeps.cond (busErr_keeps k5) (Keeps.cond (busErr_keeps k5) ((by split; exacts [Keeps.cond (busErr_keeps ((writeFields_keeps k5 ‹_›))) (busOk_keeps ((writeFields_keeps k5 ‹_›)))]))))

theorem Out_state_keeps {a : State} {o : Out} {s : State} (ho : KeepsOut a o) (h : Keeps a s) : Keeps a (o.state s) := by
  cases o with
  | next t => exact ho t rfl
  | _ => exact h

theorem sigWrite_keeps {a : State} {s0} (k0 : Keeps a s0) : Keeps a (sigWrite s0) := by
  unfold sigWrite
  exact State_each_keeps ((State_set_keeps (busOk_keeps k0))) (fun _ => fun _ h0 => coreStep_keeps (State_set_keeps h0))

theorem storeWrite_keeps {a s t : State} {x v : Nat} (h : Keeps a s) (q : storeWrite x v s = some t) : Keeps a t := by
  unfold storeWrite at q
  dsimp only at q
  split at q
  · split at q
    all_goals cases q
    exacts [modCtrlWrite_keeps h, slackMinWrite_keeps h, calStep_keeps h, swOvrWrite_keeps h]
  · split at q
    all_goals repeat' split at q
    all_goals cases q
    exacts [Out_state_keeps (execEvShdCmd_keeps h) h, Out_state_keeps (execSafetyRaise_keeps h) h, Out_state_keeps (execFnSelWrite_keeps h) h,
      Out_state_keeps (execFnSelWrite_keeps h) h, Out_state_keeps (execFnSelWrite_keeps h) h, Out_state_keeps (execFnSelWrite_keeps h) h,
      Out_state_keeps (execYokeWdKick_keeps h) h, sigWrite_keeps h,
      Out_state_keeps (execCtcCloseWrite_keeps h) h, Out_state_keeps (execEthRxReturn_keeps h) h, Out_state_keeps (execEthTxQueue_keeps h) h,
      Out_state_keeps (execTxrAck_keeps h) h, Out_state_keeps (execRxqAck_keeps h) h]

theorem entryFields_keeps {a : State} {x0 x1 x2 s3} (k3 : Keeps a s3) : Keeps a (entryFields x0 x1 x2 s3) := by
  unfold entryFields
  exact Keeps.foldl k3 (fun _ h0 => fun _ => Keeps.cond (State_set_keeps h0) h0)

theorem entryActive_keeps {a : State} {x0 x1 s2} (k2 : Keeps a s2) : Keeps a (entryActive x0 x1 s2) := by
  unfold entryActive
  exact State_when_keeps ((Keeps.cond (Keeps.foldl k2 (fun _ h0 => fun _ => Keeps.cond (State_set_keeps h0) h0)) k2)) (fun _ h1 => State_set_keeps h1)

theorem regEntry_keeps {a s t : State} {b z o v : Nat} (h : Keeps a s) (q : regEntry b z o v s = some t) : Keeps a t := by
  unfold regEntry at q
  split at q
  · cases q
  · split at q
    · cases q
    · dsimp only at q
      split at q
      · cases q
      · cases q; exact entryActive_keeps (entryFields_keeps h)

/-! ### Image -/

theorem slotShow_keeps {a : State} {x0 s1} (k1 : Keeps a s1) : Keeps a (slotShow x0 s1) := by
  unfold slotShow
  exact State_setB_keeps (State_setB_keeps ((State_setB_keeps (State_set_keeps ((State_set_keeps (State_set_keeps k1)))))))

theorem slotsShow_keeps {a : State} {s0} (k0 : Keeps a s0) : Keeps a (slotsShow s0) := by
  unfold slotsShow
  exact slotShow_keeps (slotShow_keeps (State_set_keeps k0))

theorem slotsTest_keeps {a : State} {s0} (k0 : Keeps a s0) : Keeps a (slotsTest s0) := by
  unfold slotsTest
  exact slotsShow_keeps (Keeps.foldl k0 (fun _ h0 => fun _ => State_setB_keeps h0))

theorem useMark_keeps {a : State} {x0 s1} (k1 : Keeps a s1) : Keeps a (useMark x0 s1) := by
  unfold useMark
  exact (by split; exacts [State_putWord_keeps k1, k1])

theorem fabLoad_keeps {a s : State} {x y : Nat} {l : List Nat} (h : Keeps a s) : Keeps a (fabLoad x y l s) := by
  unfold fabLoad
  suffices g : ∀ p : State × Nat, Keeps a p.1 →
      Keeps a (l.foldl (fun (t : State × Nat) v => (t.1.set (fabWord x y t.2) v, t.2 + 1)) p).1 from g (s, 0) h
  induction l with
  | nil => exact fun p h => h
  | cons v l ih => exact fun p h => ih _ (State_set_keeps h)

theorem entryReject_keeps {a : State} {x0 s1} (k1 : Keeps a s1) : Keeps a (entryReject x0 s1) := by
  unfold entryReject
  exact Keeps.cond (raiseFault_keeps k1) (stallSafe_keeps (raiseFault_keeps k1))

theorem applyEntries_keeps {a : State} {x0 s1} (k1 : Keeps a s1) : Keeps a (applyEntries x0 s1) := by
  unfold applyEntries
  exact Keeps.foldl k1 (fun _ h0 => fun _ => (by split; exacts [Keeps.cond h0 ((by split; exacts [(regEntry_keeps h0 ‹_›), entryReject_keeps h0]))]))

theorem releaseStall_keeps {a : State} {x0 s1} (k1 : Keeps a s1) : Keeps a (releaseStall x0 s1) := by
  unfold releaseStall
  exact eaccShow_keeps (govUpdate_keeps ((derateShow_keeps (switchUpdate_keeps (sentRestart_keeps ((State_each_keeps (State_set_keeps ((State_when_keeps ((State_each_keeps k1 (fun _ => fun _ h0 => State_when_keeps h0 (fun _ h1 => monStart_keeps h1)))) (fun _ h2 => posRestart_keeps h2)))) (fun _ => fun _ h3 => State_set_keeps h3))))))))

theorem releaseYard_keeps {a : State} {s0} (k0 : Keeps a s0) : Keeps a (releaseYard s0) := by
  unfold releaseYard
  exact irqUpdate_keeps (logEnable_keeps (cellarCount_keeps ((State_when_keeps ((State_each_keeps ((State_when_keeps ((State_each_keeps k0 (fun _ => fun _ h0 => State_when_keeps h0 (fun _ h1 => State_set_keeps h1)))) (fun _ h2 => State_set_keeps (State_set_keeps h2)))) (fun _ => fun _ h3 => State_when_keeps h3 (fun _ h4 => canEnable_keeps (State_set_keeps h4))))) (fun _ h5 => gmStart_keeps h5)))))

/-! ### Reset -/

theorem clearKeys_keeps {a s : State} {p k : Nat → Bool} (h : Keeps a s) : Keeps a (clearKeys p k s) :=
  Keeps.regs (storeSorted_filter _) h

theorem monFailedHold_keeps {a : State} {x0 x1 s2} (k2 : Keeps a s2) : Keeps a (monFailedHold x0 x1 s2) := by
  unfold monFailedHold
  exact Keeps.cond (monFollow_keeps (State_setB_keeps (State_setB_keeps k2))) k2

theorem stallClear_keeps {a : State} {x0 x1 s2} (k2 : Keeps a s2) : Keeps a (stallClear x0 x1 s2) := by
  unfold stallClear
  exact switchUpdate_keeps (govUpdate_keeps (ctcUpdate_keeps (dtFloorFlag_keeps ((State_setB_keeps ((State_setB_keeps (State_setB_keeps ((State_each_keeps ((State_when_keeps ((clearKeys_keeps ((State_when_keeps ((calReset_keeps (State_when_keeps ((Keeps.cond (raiseStall_keeps (haltOne_keeps k2)) (haltOne_keeps k2))) (fun _ h0 => remountRelease_keeps h0)))) (fun _ h1 => dischargeEnd_keeps h1))))) (fun _ h2 => Keeps.dn h2))) (fun _ => fun _ h3 => State_when_keeps ((State_setB_keeps h3)) (fun _ h4 => State_set_keeps h4))))))))))))

theorem stallEntries_keeps {a : State} {x0 s1} (k1 : Keeps a s1) : Keeps a (stallEntries x0 s1) := by
  unfold stallEntries
  exact calLoad_keeps (applyEntries_keeps k1)

theorem stallRelease_keeps {a : State} {x0 s1} (k1 : Keeps a s1) : Keeps a (stallRelease x0 s1) := by
  unfold stallRelease
  exact State_each_keeps (releaseStall_keeps k1) (fun _ => fun _ h0 => monFailedHold_keeps h0)

theorem stallLoad_keeps {a : State} {x0 s1} (k1 : Keeps a s1) : Keeps a (stallLoad x0 s1) := by
  unfold stallLoad
  exact stallRelease_keeps (stallEntries_keeps k1)

theorem yokeRoutes_keeps {a : State} {s0} (k0 : Keeps a s0) : Keeps a (yokeRoutes s0) := by
  unfold yokeRoutes
  exact Keeps.foldl ((State_each_keeps k0 (fun _ => fun _ h0 => State_set_keeps (State_set_keeps h0)))) (fun _ h1 => fun _ => (by split; exacts [State_when_keeps h1 (fun _ h2 => State_set_keeps (State_setB_keeps h2))]))

theorem yokeFirmware_keeps {a : State} {s0} (k0 : Keeps a s0) : Keeps a (yokeFirmware s0) := by
  unfold yokeFirmware
  exact State_each_keeps k0 (fun _ => fun _ h0 => Keeps.mem (fun h => wf_put _ _ (wf_erase _ _ h)) h0)

theorem yokeReset_keeps {a : State} {s0} (k0 : Keeps a s0) : Keeps a (yokeReset s0) := by
  unfold yokeReset
  exact irqUpdate_keeps (State_set_keeps (yokeRoutes_keeps (yokeFirmware_keeps (((by split; exacts [State_set_keeps (State_set_keeps (State_set_keeps ((applyEntries_keeps ((clearKeys_keeps (Keeps.yoke ((logReset_keeps k0))))))))), (applyEntries_keeps ((clearKeys_keeps (Keeps.yoke ((logReset_keeps k0))))))]))))))

theorem freeWords_keeps {a s t : State} {k v : Nat} (h : Keeps a s) (q : freeWords k s = (v, t)) : Keeps a t := by
  induction k generalizing s t v with
  | zero => cases q; exact h
  | succ k ih => cases q; exact State_draw_keeps (ih h rfl)

theorem keyInterrupt_keeps {a : State} {x0 s1} (k1 : Keeps a s1) : Keeps a (keyInterrupt x0 s1) := by
  unfold keyInterrupt
  exact Keeps.cond k1 ((by (try extract_lets); split; exacts [Keeps.cond (Keeps.cond ((by split; exacts [State_set_keeps (State_set_keeps ((freeWords_keeps ((freeWords_keeps k1 ‹_›)) ‹_›)))])) ((freeWords_keeps k1 ‹_›))) (Keeps.cond (State_set_keeps ((freeWords_keeps k1 ‹_›))) (State_when_keeps ((freeWords_keeps k1 ‹_›)) (fun _ h0 => State_set_keeps h0)))]))

theorem rollInterrupt_keeps {a : State} {x0 s1} (k1 : Keeps a s1) : Keeps a (rollInterrupt x0 s1) := by
  unfold rollInterrupt
  exact (by split; exacts [State_set_keeps ((freeWords_keeps k1 ‹_›))])

theorem burnOne_keeps {a s t : State} {j : Nat} (h : Keeps a s) (q : burnOne j s = some t) : Keeps a t := by
  unfold burnOne at q
  split at q
  · cases q
  · cases q; exact State_set_keeps (State_set_keeps h)

theorem burnAll_keeps {a s t : State} {l : List Nat} {r : Bool} (h : Keeps a s) (q : burnAll l s = (r, t)) : Keeps a t := by
  induction l generalizing s with
  | nil => cases q; exact h
  | cons j l ih =>
    unfold burnAll at q
    split at q
    · cases q; exact h
    · exact ih (burnOne_keeps h ‹_›) q

theorem burnInterrupt_keeps {a : State} {s0} (k0 : Keeps a s0) : Keeps a (burnInterrupt s0) := by
  unfold burnInterrupt
  exact (by split; exacts [burnAll_keeps ((freeWords_keeps k0 ‹_›)) (Prod.eta _).symm])

theorem cfgReset_keeps {a : State} {s0} (k0 : Keeps a s0) : Keeps a (cfgReset s0) := by
  unfold cfgReset
  exact State_when_keeps k0 (fun _ h0 => State_draw_keeps (State_when_keeps h0 (fun _ h1 => State_putWord_keeps h1)))

theorem fuseInterrupt_keeps {a : State} {s0} (k0 : Keeps a s0) : Keeps a (fuseInterrupt s0) := by
  unfold fuseInterrupt
  exact State_when_keeps ((State_when_keeps ((keyInterrupt_keeps (cfgReset_keeps (authReset_keeps (ledReset_keeps (sealReset_keeps (State_each_keeps k0 (fun _ => fun _ h0 => calReset_keeps h0)))))))) (fun _ h1 => rollInterrupt_keeps h1))) (fun _ h2 => burnInterrupt_keeps h2)

theorem dbgReset_keeps {a : State} {x0 s1} (k1 : Keeps a s1) : Keeps a (dbgReset x0 s1) := by
  unfold dbgReset
  exact State_when_keeps (State_set_keeps k1) (fun _ h0 => raiseEvent_keeps h0)

theorem deviceClear_keeps {a s : State} (h : Keeps a s) : Keeps a (deviceClear s) := by
  unfold deviceClear
  extract_lets l s1 s2 s3
  have h2 : Keeps a s2 := rfReset_keeps (fuseInterrupt_keeps (logReset_keeps h)) (clearKeys_keeps (fuseInterrupt_keeps (logReset_keeps h)))
  have h3 : Keeps a s3 := by
    clear_value s2
    exact ⟨fun i => ⟨(h2.1 i).1, rfl, rfl, (h2.1 i).2.2.2⟩, h2.2⟩
  clear_value s3
  exact dbgReset_keeps h3

theorem deviceReset_keeps {a : State} {x0 x1 s2} (k2 : Keeps a s2) : Keeps a (deviceReset x0 x1 s2) := by
  unfold deviceReset
  exact State_set_keeps (State_set_keeps (State_set_keeps (State_setWide_keeps ((State_inc_keeps (State_set_keeps (State_set_keeps ((deviceClear_keeps k2)))))))))

theorem powerOnReset_keeps {a s : State} {x : Nat} (h : Keeps a s) : Keeps a (powerOnReset x s) := by
  unfold powerOnReset
  extract_lets l s1 s2 s3 s4
  have h3 : Keeps a s3 := State_set_keeps (rfReset_keeps (fuseInterrupt_keeps h) (clearKeys_keeps (fuseInterrupt_keeps h)))
  have h4 : Keeps a s4 := by
    clear_value s3
    exact ⟨fun i => ⟨(h3.1 i).1, rfl, rfl, wf_filter _ (h3.1 i).2.2.2⟩, h3.2⟩
  clear_value s4
  exact dbgReset_keeps h4

end Sys2Proof.Machine
end

