-- ==== Sys2Proof/Laws/KeepsService.lean ====
section
/-!
SUPPORT. Each operation and meaning of Machine/ keeps the canonical forms and the queue (`Keeps`, Laws/Keeps.lean): the files ConfigBlk, Bist, Power, Boot, Timebase, Access, BusWrite, Tick.
-/

namespace Sys2Proof.Machine

/-! ### ConfigBlk -/

theorem cfgAfter_keeps {a : State} {s0} (k0 : Keeps a s0) : Keeps a (cfgAfter s0) := by
  unfold cfgAfter
  exact raiseEvent_keeps (slotsShow_keeps (State_set_keeps k0))

theorem cfgEnd_keeps {a : State} {x0 s1} (k1 : Keeps a s1) : Keeps a (cfgEnd x0 s1) := by
  unfold cfgEnd
  exact cfgAfter_keeps (State_cmdEnd_keeps k1)

theorem cfgFail_keeps {a : State} {x0 s1} (k1 : Keeps a s1) : Keeps a (cfgFail x0 s1) := by
  unfold cfgFail
  exact cfgEnd_keeps (State_set_keeps k1)

theorem cfgStart_keeps {a : State} {x0 x1 x2 x3 s4} (k3 : ∀ z0, Keeps a z0 → Keeps a (x3 z0)) (k4 : Keeps a s4) : Keeps a (cfgStart x0 x1 x2 x3 s4) := by
  unfold cfgStart
  exact State_cmdStart_keeps k4 (fun _ h0 => k3 _ h0) (fun _ h1 => cfgAfter_keeps (State_set_keeps h1))

theorem setDomainSrc_keeps {a : State} {x0 x1 s2} (k2 : Keeps a s2) : Keeps a (setDomainSrc x0 x1 s2) := by
  unfold setDomainSrc
  exact State_set_keeps k2

theorem execWrite_keeps {a : State} {s0} (k0 : Keeps a s0) : KeepsOut a (execWrite s0) := by
  unfold execWrite
  exact KeepsOut.next (cfgStart_keeps (fun _ h0 => slotsShow_keeps (State_set_keeps (State_set_keeps ((Keeps.mem (wf_erase _ _) ((State_set_keeps (State_set_keeps (State_set_keeps (State_set_keeps ((State_set_keeps (State_set_keeps (State_set_keeps h0)))))))))))))) k0)

theorem writeTime_keeps {a : State} {s0} (k0 : Keeps a s0) : Keeps a (writeTime s0) := by
  unfold writeTime
  exact State_set_keeps k0

theorem rowPut_keeps {a : State} {x0 s1} (k1 : Keeps a s1) : Keeps a (rowPut x0 s1) := by
  unfold rowPut
  exact State_set_keeps (State_set_keeps ((State_putBytes_keeps k1)))

theorem writeNext_keeps {a : State} {s0} (k0 : Keeps a s0) : Keeps a (writeNext s0) := by
  unfold writeNext
  exact (by (try extract_lets); split; exacts [State_inc_keeps (State_set_keeps (State_set_keeps k0)), State_when_keeps ((rowPut_keeps k0)) (fun _ h0 => State_set_keeps h0), Keeps.cond (State_set_keeps k0) (cfgFail_keeps (writeTime_keeps k0)), State_set_keeps (State_putWords_keeps k0), State_set_keeps (State_set_keeps (State_putWord_keeps k0)), cfgEnd_keeps (State_set_keeps (writeTime_keeps k0))])

theorem execConfirm_keeps {a : State} {s0} (k0 : Keeps a s0) : KeepsOut a (execConfirm s0) := by
  unfold execConfirm
  exact KeepsOut.next (cfgStart_keeps (fun _ h0 => cfgAfter_keeps (State_putWord_keeps h0)) k0)

theorem execAbandon_keeps {a : State} {s0} (k0 : Keeps a s0) : KeepsOut a (execAbandon s0) := by
  unfold execAbandon
  exact KeepsOut.next (cfgStart_keeps (fun _ h0 => cfgAfter_keeps (State_putWords_keeps h0)) k0)

theorem execRollfwd_keeps {a : State} {s0} (k0 : Keeps a s0) : KeepsOut a (execRollfwd s0) := by
  unfold execRollfwd
  exact KeepsOut.next (cfgStart_keeps (fun _ h0 => State_set_keeps h0) k0)

theorem execRollfwdDone_keeps {a : State} {x0 x1 s2} (k2 : Keeps a s2) : KeepsOut a (execRollfwdDone x0 x1 s2) := by
  unfold execRollfwdDone
  exact KeepsOut.next (State_when_keeps k2 (fun _ h0 => Keeps.cond (cfgEnd_keeps (State_set_keeps (State_set_keeps h0))) (cfgEnd_keeps (raiseFault_keeps (State_set_keeps ((State_set_keeps (State_set_keeps h0))))))))

theorem keyAfter_keeps {a : State} {s0} (k0 : Keeps a s0) : Keeps a (keyAfter s0) := by
  unfold keyAfter
  exact raiseEvent_keeps (slotsShow_keeps (keyShow_keeps k0))

theorem caskZero_keeps {a : State} {x0 x1 s2} (k2 : Keeps a s2) : Keeps a (caskZero x0 x1 s2) := by
  unfold caskZero
  exact State_putBytes_keeps k2

theorem execProg_keeps {a : State} {x0 s1} (k1 : Keeps a s1) : KeepsOut a (execProg x0 s1) := by
  unfold execProg
  exact KeepsOut.next (debugWrite_keeps (fun _ h0 => State_cmdStart_keeps h0 (fun _ h1 => State_set_keeps (State_set_keeps (State_set_keeps ((State_set_keeps h1))))) (fun _ h2 => keyAfter_keeps (State_set_keeps h2))) k1)

theorem execRevoke_keeps {a : State} {s0} (k0 : Keeps a s0) : KeepsOut a (execRevoke s0) := by
  unfold execRevoke
  exact KeepsOut.next (State_cmdStart_keeps k0 (fun _ h0 => State_set_keeps h0) (fun _ h1 => keyAfter_keeps (State_set_keeps h1)))

theorem keyFresh_keeps {a : State} {x0 s1} (k1 : Keeps a s1) : Keeps a (keyFresh x0 s1) := by
  unfold keyFresh
  exact State_when_keeps k1 (fun _ h0 => freshLoad_keeps (State_set_keeps h0))

theorem execEvKeyDone_keeps {a : State} {x0 s1} (k1 : Keeps a s1) : KeepsOut a (execEvKeyDone x0 s1) := by
  unfold execEvKeyDone
  exact KeepsOut.next (State_when_keeps k1 (fun _ h0 => Keeps.cond (keyAfter_keeps (State_cmdEnd_keeps (State_set_keeps ((Keeps.cond (keyFresh_keeps (keyShow_keeps (State_set_keeps (State_set_keeps (State_set_keeps ((State_when_keeps (State_set_keeps h0) (fun _ h1 => caskZero_keeps h1)))))))) (State_set_keeps ((State_when_keeps (State_set_keeps h0) (fun _ h1 => caskZero_keeps h1))))))))) (keyAfter_keeps (raiseFault_keeps (State_cmdEnd_keeps (State_set_keeps ((State_set_keeps (State_set_keeps ((keyInterrupt_keeps ((State_when_keeps (State_set_keeps h0) (fun _ h1 => caskZero_keeps h1))))))))))))))

theorem isolate_keeps {a : State} {x0 s1} (k1 : Keeps a s1) : Keeps a (isolate x0 s1) := by
  unfold isolate
  exact govUpdate_keeps (cohLeave_keeps (State_set_keeps (State_set_keeps ((State_when_keeps ((State_when_keeps (State_set_keeps k1) (fun _ h0 => remountRelease_keeps h0))) (fun _ h1 => bemfLeft_keeps h1))))))

theorem unisolate_keeps {a : State} {x0 s1} (k1 : Keeps a s1) : Keeps a (unisolate x0 s1) := by
  unfold unisolate
  exact reDecide_keeps (govUpdate_keeps (State_set_keeps k1))

theorem execReconf_keeps {a : State} {s0} (k0 : Keeps a s0) : KeepsOut a (execReconf s0) := by
  unfold execReconf
  exact KeepsOut.next (cfgStart_keeps (fun _ h0 => State_each_keeps (State_set_keeps (State_set_keeps (State_set_keeps ((State_set_keeps (State_set_keeps h0)))))) (fun _ => fun _ h1 => isolate_keeps h1)) k0)

theorem reconfBack_keeps {a : State} {s0} (k0 : Keeps a s0) : Keeps a (reconfBack s0) := by
  unfold reconfBack
  exact State_set_keeps (State_each_keeps k0 (fun _ => fun _ h0 => unisolate_keeps h0))

theorem reconfTime_keeps {a : State} {s0} (k0 : Keeps a s0) : Keeps a (reconfTime s0) := by
  unfold reconfTime
  exact State_set_keeps k0

theorem reconfPoints_keeps {a : State} {x0 x1 s2} (k2 : Keeps a s2) : Keeps a (reconfPoints x0 x1 s2) := by
  unfold reconfPoints
  exact fabLoad_keeps k2

theorem reconfSwap_keeps {a : State} {x0 s1} (k1 : Keeps a s1) : Keeps a (reconfSwap x0 s1) := by
  unfold reconfSwap
  exact State_set_keeps k1

theorem reconfEntries_keeps {a : State} {x0 x1 s2} (k2 : Keeps a s2) : Keeps a (reconfEntries x0 x1 s2) := by
  unfold reconfEntries
  exact stallEntries_keeps (State_set_keeps (stallClear_keeps ((Keeps.entries k2))))

theorem reconfFree_keeps {a : State} {x0 x1 s2} (k2 : Keeps a s2) : Keeps a (reconfFree x0 x1 s2) := by
  unfold reconfFree
  exact govUpdate_keeps (stallRelease_keeps (setDomainSrc_keeps (State_set_keeps k2)))

theorem reconfNext_keeps {a : State} {s0} (k0 : Keeps a s0) : Keeps a (reconfNext s0) := by
  unfold reconfNext
  exact (by (try extract_lets); split; exacts [State_set_keeps k0, Keeps.cond (State_set_keeps k0) (cfgFail_keeps (reconfTime_keeps (reconfBack_keeps k0))), State_set_keeps (State_each_keeps k0 (fun _ => fun _ h0 => reconfPoints_keeps h0)), State_set_keeps (State_each_keeps k0 (fun _ => fun _ h1 => reconfSwap_keeps h1)), State_set_keeps (State_each_keeps (logReset_keeps k0) (fun _ => fun _ h2 => reconfEntries_keeps h2)), cfgEnd_keeps (State_set_keeps ((reconfTime_keeps (State_set_keeps (State_each_keeps k0 (fun _ => fun _ h3 => reconfFree_keeps h3))))))])

theorem cfgNext_keeps {a : State} {s0} (k0 : Keeps a s0) : Keeps a (cfgNext s0) := by
  unfold cfgNext
  exact Keeps.cond (writeNext_keeps k0) (reconfNext_keeps k0)

theorem cfgTick_keeps {a : State} {s0} (k0 : Keeps a s0) : Keeps a (cfgTick s0) := by
  unfold cfgTick
  exact Keeps.cond k0 (Keeps.cond (State_draw_keeps (cfgNext_keeps (State_set_keeps k0))) (State_draw_keeps k0))

theorem cfgCatch_keeps {a s : State} {k : Nat} (h : Keeps a s) : Keeps a (cfgCatch k s) := by
  induction k generalizing s with
  | zero => exact h
  | succ k ih => exact Keeps.cond (ih (cfgNext_keeps (State_set_keeps h))) h

theorem cfgFinish_keeps {a : State} {x0 s1} (k1 : Keeps a s1) : Keeps a (cfgFinish x0 s1) := by
  unfold cfgFinish
  exact Keeps.cond k1 ((cfgCatch_keeps k1))

theorem rowFail_keeps {a : State} {x0 x1 s2} (k2 : Keeps a s2) : Keeps a (rowFail x0 x1 s2) := by
  unfold rowFail
  exact Keeps.cond (cfgFail_keeps (writeTime_keeps ((State_putBytes_keeps ((cfgCatch_keeps k2)))))) k2

theorem execEvConfigDone_keeps {a : State} {x0 s1} (k1 : Keeps a s1) : KeepsOut a (execEvConfigDone x0 s1) := by
  unfold execEvConfigDone
  exact KeepsOut.next (State_when_keeps k1 (fun _ h0 => (by split; exacts [rowFail_keeps h0, cfgFinish_keeps h0])))

theorem execReconfDone_keeps {a : State} {s0} (k0 : Keeps a s0) : KeepsOut a (execReconfDone s0) := by
  unfold execReconfDone
  exact KeepsOut.next (State_when_keeps k0 (fun _ h0 => cfgFinish_keeps h0))

theorem cfgAbort_keeps {a : State} {s0} (k0 : Keeps a s0) : Keeps a (cfgAbort s0) := by
  unfold cfgAbort
  exact (by split; exacts [cfgEnd_keeps (writeTime_keeps k0), cfgEnd_keeps (reconfTime_keeps (reconfBack_keeps k0)), State_set_keeps k0])

theorem mapAdd_keeps {a s t : State} {d g e p i : Nat} (h : Keeps a s) (q : mapAdd d g e p i s = some t) : Keeps a t := by
  obtain ⟨j, _, rfl⟩ := Option.map_eq_some_iff.1 q
  exact State_set_keeps (State_set_keeps (State_set_keeps (State_set_keeps (State_set_keeps (State_set_keeps (State_set_keeps h))))))

/-! ### Bist -/

theorem mapRenew_keeps {a : State} {x0 x1 s2} (k2 : Keeps a s2) : Keeps a (mapRenew x0 x1 s2) := by
  unfold mapRenew
  exact State_each_keeps k2 (fun _ => fun _ h0 => State_when_keeps h0 (fun _ h1 => State_set_keeps (State_set_keeps (State_set_keeps (State_set_keeps (State_set_keeps (State_set_keeps h1)))))))

theorem tileRepair_keeps {a : State} {x0 s1} (k1 : Keeps a s1) : Keeps a (tileRepair x0 s1) := by
  unfold tileRepair
  exact Keeps.cond k1 ((by split; exacts [k1, Keeps.getD k1 fun _ e => mapAdd_keeps k1 e]))

theorem setSpareMon_keeps {a : State} {x0 x1 s2} (k2 : Keeps a s2) : Keeps a (setSpareMon x0 x1 s2) := by
  unfold setSpareMon
  exact State_set_keeps k2

theorem spareMonRenew_keeps {a : State} {x0 s1} (k1 : Keeps a s1) : Keeps a (spareMonRenew x0 s1) := by
  unfold spareMonRenew
  exact State_each_keeps ((State_each_keeps k1 (fun _ => fun _ h0 => State_when_keeps h0 (fun _ h1 => setSpareMon_keeps (State_set_keeps h1))))) (fun _ => fun _ h2 => State_set_keeps h2)

theorem monFailedRaise_keeps {a : State} {x0 x1 s2} (k2 : Keeps a s2) : Keeps a (monFailedRaise x0 x1 s2) := by
  unfold monFailedRaise
  exact Keeps.cond (raiseStallFault_keeps k2) (raiseStallFault_keeps k2)

theorem monRepair_keeps {a : State} {x0 x1 x2 s3} (k3 : Keeps a s3) : Keeps a (monRepair x0 x1 x2 s3) := by
  unfold monRepair
  exact (by split; exacts [raiseStallFault_keeps (raiseStall_keeps (State_when_keeps ((Keeps.getD ((setSpareMon_keeps (State_set_keeps k3))) fun _ e => mapAdd_keeps ((setSpareMon_keeps (State_set_keeps k3))) e)) (fun _ h0 => monStart_keeps h0))), State_when_keeps ((raiseStall_keeps (monFailedHold_keeps (State_set_keeps k3)))) (fun _ h1 => monFailedRaise_keeps h1)])

theorem convRepair_keeps {a : State} {x0 x1 x2 s3} (k3 : Keeps a s3) : Keeps a (convRepair x0 x1 x2 s3) := by
  unfold convRepair
  exact Keeps.cond (raiseStallFault_keeps (State_set_keeps ((raiseStall_keeps (State_set_keeps (State_set_keeps k3)))))) (Keeps.cond (raiseStallFault_keeps ((raiseStall_keeps (State_set_keeps (State_set_keeps k3))))) (Keeps.cond (raiseStallFault_keeps (raiseStall_keeps ((Keeps.getD ((State_set_keeps (State_set_keeps ((State_set_keeps (State_set_keeps ((State_set_keeps (State_set_keeps (State_set_keeps ((raiseStall_keeps (State_set_keeps (State_set_keeps k3)))))))))))))) fun _ e => mapAdd_keeps ((State_set_keeps (State_set_keeps ((State_set_keeps (State_set_keeps ((State_set_keeps (State_set_keeps (State_set_keeps ((raiseStall_keeps (State_set_keeps (State_set_keeps k3)))))))))))))) e)))) (raiseStallFault_keeps (State_set_keeps ((raiseStall_keeps (State_set_keeps (State_set_keeps k3))))))))

theorem convPass_keeps {a : State} {x0 x1 s2} (k2 : Keeps a s2) : Keeps a (convPass x0 x1 s2) := by
  unfold convPass
  exact State_when_keeps k2 (fun _ h0 => State_set_keeps (State_set_keeps h0))

theorem engineRenew_keeps {a : State} {x0 s1} (k1 : Keeps a s1) : Keeps a (engineRenew x0 s1) := by
  unfold engineRenew
  exact State_when_keeps k1 (fun _ h0 => remountRelease_keeps (State_set_keeps h0))

theorem engineRepair_keeps {a : State} {x0 x1 s2} (k2 : Keeps a s2) : Keeps a (engineRepair x0 x1 s2) := by
  unfold engineRepair
  exact (by (try extract_lets); split; exacts [Keeps.cond ((by split; exacts [State_set_keeps (State_set_keeps (State_set_keeps (remountGrant_keeps ((mapAdd_keeps ((State_setB_keeps (State_setB_keeps ((State_setB_keeps (State_setB_keeps k2)))))) ‹_›))))), (State_setB_keeps (State_setB_keeps ((State_setB_keeps (State_setB_keeps k2)))))])) ((State_setB_keeps (State_setB_keeps ((State_setB_keeps (State_setB_keeps k2)))))), (State_setB_keeps (State_setB_keeps ((State_setB_keeps (State_setB_keeps k2)))))])

theorem failEntry_keeps {a : State} {x0 x1 x2 s3} (k3 : Keeps a s3) : Keeps a (failEntry x0 x1 x2 s3) := by
  unfold failEntry
  exact State_set_keeps (State_set_keeps (State_setB_keeps ((State_set_keeps (State_set_keeps (State_set_keeps k3))))))

theorem failClear_keeps {a : State} {s0} (k0 : Keeps a s0) : Keeps a (failClear s0) := by
  unfold failClear
  exact State_each_keeps k0 (fun _ => fun _ h0 => failEntry_keeps h0)

theorem spareResults_keeps {a : State} {x0 x1 s2} (k2 : Keeps a s2) : Keeps a (spareResults x0 x1 s2) := by
  unfold spareResults
  exact State_when_keeps ((State_when_keeps ((State_when_keeps k2 (fun _ h0 => State_set_keeps h0))) (fun _ h1 => State_setB_keeps h1))) (fun _ h2 => State_set_keeps h2)

theorem yardCauses_keeps {a : State} {x0 x1 s2} (k2 : Keeps a s2) : Keeps a (yardCauses x0 x1 s2) := by
  unfold yardCauses
  exact State_when_keeps ((State_when_keeps ((State_when_keeps ((State_each_keeps ((State_when_keeps ((State_when_keeps ((State_each_keeps ((Keeps.cond k2 ((by split; exacts [raiseFault_keeps (State_set_keeps (State_set_keeps (State_setBit_keeps k2))), raiseFault_keeps k2])))) (fun _ => fun _ h0 => State_when_keeps h0 (fun _ h1 => raiseFault_keeps h1)))) (fun _ h2 => raiseFault_keeps h2))) (fun _ h3 => raiseFault_keeps h3))) (fun _ => fun _ h4 => raiseFault_keeps h4))) (fun _ h5 => raiseFault_keeps h5))) (fun _ h6 => raiseFault_keeps h6))) (fun _ h7 => raiseFault_keeps h7)

theorem heldShow_keeps {a : State} {x0 s1} (k1 : Keeps a s1) : Keeps a (heldShow x0 s1) := by
  unfold heldShow
  exact State_setBit_keeps k1

theorem stallRenew_keeps {a : State} {x0 x1 s2} (k2 : Keeps a s2) : Keeps a (stallRenew x0 x1 s2) := by
  unfold stallRenew
  exact State_when_keeps (State_when_keeps k2 (fun _ h0 => spareMonRenew_keeps h0)) (fun _ h1 => engineRenew_keeps h1)

theorem resolverFails_keeps {a : State} {x0 s1} (k1 : Keeps a s1) : Keeps a (resolverFails x0 s1) := by
  unfold resolverFails
  exact Keeps.cond (sensorFailed_keeps ((State_set_keeps k1))) (raiseStallFault_keeps ((State_set_keeps k1)))

theorem stallResults_keeps {a : State} {x0 x1 x2 x3 x4 s5} (k5 : Keeps a s5) : Keeps a (stallResults x0 x1 x2 x3 x4 s5) := by
  unfold stallResults
  exact State_when_keeps ((heldShow_keeps ((State_each_keeps ((State_set_keeps ((State_when_keeps ((State_when_keeps ((State_when_keeps ((State_when_keeps k5 (fun _ h0 => State_each_keeps h0 (fun _ => fun _ h1 => Keeps.cond (convRepair_keeps h1) (convPass_keeps h1))))) (fun _ h2 => State_each_keeps h2 (fun _ => fun _ h3 => monRepair_keeps h3)))) (fun _ h4 => resolverFails_keeps h4))) (fun _ h5 => engineRepair_keeps h5))))) (fun _ => fun _ h6 => State_setB_keeps h6))))) (fun _ h7 => stallSafe_keeps (raiseFault_keeps h7))

theorem bistSwap_keeps {a : State} {x0 x1 x2 x3 x4 x5 s6} (k6 : Keeps a s6) : Keeps a (bistSwap x0 x1 x2 x3 x4 x5 s6) := by
  unfold bistSwap
  exact State_set_keeps (State_set_keeps ((Keeps.foldl ((failClear_keeps ((yardCauses_keeps (State_each_keeps ((State_each_keeps (spareResults_keeps ((State_when_keeps ((Keeps.foldl ((State_each_keeps ((State_each_keeps ((State_setWide_keeps (State_set_keeps k6))) (fun _ => fun _ h0 => mapRenew_keeps h0))) (fun _ => fun _ h1 => State_each_keeps h1 (fun _ => fun _ h2 => mapRenew_keeps h2)))) (fun _ h3 => fun _ => tileRepair_keeps h3))) (fun _ h4 => State_set_keeps h4)))) (fun _ => fun _ h5 => stallRenew_keeps h5))) (fun _ => fun _ h6 => stallResults_keeps h6)))))) (fun _ h7 => fun _ => failEntry_keeps h7))))

theorem bistRefuse_keeps {a : State} {x0 s1} (k1 : Keeps a s1) : Keeps a (bistRefuse x0 s1) := by
  unfold bistRefuse
  exact raiseEvent_keeps (State_set_keeps k1)

theorem execBistRun_keeps {a : State} {s0} (k0 : Keeps a s0) : KeepsOut a (execBistRun s0) := by
  unfold execBistRun
  exact KeepsOut.next (State_cmdStart_keeps k0 (fun _ h0 => (by (try extract_lets); split; exacts [State_set_keeps (State_set_keeps (State_set_keeps (State_set_keeps ((State_set_keeps h0)))))])) (fun _ h1 => bistRefuse_keeps h1))

theorem execRetest_keeps {a : State} {s0} (k0 : Keeps a s0) : KeepsOut a (execRetest s0) := by
  unfold execRetest
  exact KeepsOut.next (State_cmdStart_keeps k0 (fun _ h0 => State_each_keeps ((State_set_keeps (State_set_keeps (State_set_keeps ((State_set_keeps (State_set_keeps (State_set_keeps ((State_set_keeps h0)))))))))) (fun _ => fun _ h1 => isolate_keeps h1)) (fun _ h2 => bistRefuse_keeps h2))

theorem execEvBistDone_keeps {a : State} {x0 x1 s2} (k2 : Keeps a s2) : KeepsOut a (execEvBistDone x0 x1 s2) := by
  unfold execEvBistDone
  exact KeepsOut.next (Keeps.cond k2 (Keeps.cond (raiseEvent_keeps (State_cmdEnd_keeps ((State_when_keeps ((bistSwap_keeps k2)) (fun _ h0 => Keeps.mem (wf_erase _ _) h0))))) (Keeps.cond (State_set_keeps (State_set_keeps (State_set_keeps ((bistSwap_keeps k2))))) k2)))

theorem retestStall_keeps {a : State} {x0 x1 s2} (k2 : Keeps a s2) : Keeps a (retestStall x0 x1 s2) := by
  unfold retestStall
  exact raiseStall_keeps ((State_when_keeps ((stallLoad_keeps (stallClear_keeps k2))) (fun _ h0 => govUpdate_keeps (State_set_keeps h0))))

theorem execEvRetestDone_keeps {a : State} {s0} (k0 : Keeps a s0) : KeepsOut a (execEvRetestDone s0) := by
  unfold execEvRetestDone
  exact KeepsOut.next (State_when_keeps k0 (fun _ h0 => raiseEvent_keeps (State_cmdEnd_keeps (State_set_keeps ((State_set_keeps (State_set_keeps (State_set_keeps (State_set_keeps ((State_each_keeps (logReset_keeps h0) (fun _ => fun _ h1 => retestStall_keeps h1))))))))))))

theorem bistAbort_keeps {a : State} {s0} (k0 : Keeps a s0) : Keeps a (bistAbort s0) := by
  unfold bistAbort
  exact (by split; exacts [raiseEvent_keeps (State_cmdEnd_keeps k0), Keeps.cond (State_set_keeps k0) (State_set_keeps (State_set_keeps (State_set_keeps k0))), State_set_keeps k0])

theorem execBurn_keeps {a : State} {s0} (k0 : Keeps a s0) : KeepsOut a (execBurn s0) := by
  unfold execBurn
  exact KeepsOut.next (State_cmdStart_keeps k0 (fun _ h0 => State_set_keeps h0) (fun _ h1 => bistRefuse_keeps h1))

theorem fusedShow_keeps {a : State} {s0} (k0 : Keeps a s0) : Keeps a (fusedShow s0) := by
  unfold fusedShow
  exact State_each_keeps ((State_when_keeps k0 (fun _ h0 => State_set_keeps h0))) (fun _ => fun _ h1 => State_when_keeps h1 (fun _ h2 => setSpareMon_keeps h2))

theorem execBurnDone_keeps {a : State} {x0 s1} (k1 : Keeps a s1) : KeepsOut a (execBurnDone x0 s1) := by
  unfold execBurnDone
  exact KeepsOut.next (State_when_keeps k1 (fun _ h0 => (by (try extract_lets); split; exacts [raiseEvent_keeps (State_set_keeps ((Keeps.cond (State_cmdEnd_keeps ((fusedShow_keeps (((by split; exacts [(by split; exacts [State_set_keeps ((freeWords_keeps ((burnAll_keeps h0 ‹_›)) ‹_›))]), (burnAll_keeps h0 ‹_›)])))))) (raiseFault_keeps (State_cmdEnd_keeps ((fusedShow_keeps (((by split; exacts [(by split; exacts [State_set_keeps ((freeWords_keeps ((burnAll_keeps h0 ‹_›)) ‹_›))]), (burnAll_keeps h0 ‹_›)]))))))))))])))

theorem fuseApply_keeps {a : State} {s0} (k0 : Keeps a s0) : Keeps a (fuseApply s0) := by
  unfold fuseApply
  exact State_each_keeps k0 (fun _ => fun _ h0 => Keeps.cond h0 ((by (try extract_lets); split; exacts [State_set_keeps (State_set_keeps (State_set_keeps ((State_set_keeps (State_set_keeps (State_set_keeps (State_set_keeps h0))))))), (by split; exacts [setSpareMon_keeps (State_set_keeps h0), h0]), State_set_keeps (State_set_keeps (State_set_keeps (State_set_keeps (State_set_keeps ((State_setB_keeps (State_setB_keeps ((State_setB_keeps (State_setB_keeps h0)))))))))), h0])))

theorem bootRun_keeps {a : State} {x0 x1 s2} (k2 : Keeps a s2) : Keeps a (bootRun x0 x1 s2) := by
  unfold bootRun
  exact raiseEvent_keeps ((State_each_keeps ((bistSwap_keeps ((State_set_keeps ((fuseApply_keeps (State_set_keeps (State_set_keeps ((State_each_keeps ((State_set_keeps (State_set_keeps (State_set_keeps (State_set_keeps ((State_each_keeps k2 (fun _ => fun _ h0 => State_set_keeps (State_set_keeps h0))))))))) (fun _ => fun _ h1 => State_each_keeps h1 (fun _ => fun _ h2 => State_set_keeps h2)))))))))))) (fun _ => fun _ h3 => State_when_keeps h3 (fun _ h4 => State_set_keeps h4))))

theorem dbgLevel_keeps {a : State} {x0 s1} (k1 : Keeps a s1) : Keeps a (dbgLevel x0 s1) := by
  unfold dbgLevel
  exact Keeps.cond (raiseEvent_keeps (State_set_keeps k1)) k1

theorem execClose_keeps {a : State} {s0} (k0 : Keeps a s0) : KeepsOut a (execClose s0) := by
  unfold execClose
  exact KeepsOut.next (State_cmdStart_keeps k0 (fun _ h0 => dbgLevel_keeps h0) (fun _ h1 => h1))

theorem execOpenRead_keeps {a : State} {s0} (k0 : Keeps a s0) : KeepsOut a (execOpenRead s0) := by
  unfold execOpenRead
  exact KeepsOut.next (State_cmdStart_keeps k0 (fun _ h0 => dbgLevel_keeps h0) (fun _ h1 => h1))

theorem execOpenWrite_keeps {a : State} {s0} (k0 : Keeps a s0) : KeepsOut a (execOpenWrite s0) := by
  unfold execOpenWrite
  exact KeepsOut.next (State_cmdStart_keeps k0 (fun _ h0 => dbgLevel_keeps h0) (fun _ h1 => h1))

theorem execLockdown_keeps {a : State} {s0} (k0 : Keeps a s0) : KeepsOut a (execLockdown s0) := by
  unfold execLockdown
  exact KeepsOut.next (State_cmdStart_keeps k0 (fun _ h0 => State_set_keeps (State_set_keeps h0)) (fun _ h1 => h1))

theorem execExtest_keeps {a : State} {x0 s1} (k1 : Keeps a s1) : KeepsOut a (execExtest x0 s1) := by
  unfold execExtest
  exact KeepsOut.next (ctcApply_keeps (State_setB_keeps (debugSeen_keeps k1)))

theorem execIntscan_keeps {a : State} {x0 s1} (k1 : Keeps a s1) : KeepsOut a (execIntscan x0 s1) := by
  unfold execIntscan
  exact KeepsOut.next (State_when_keeps ((debugSeen_keeps k1)) (fun _ h0 => State_set_keeps (Keeps.mem (fun h => wf_erase _ _ (wf_erase _ _ h)) ((State_each_keeps ((deviceReset_keeps h0)) (fun _ => fun _ h1 => State_set_keeps h1))))))

/-! ### Power -/

theorem execPowerUp_keeps {a : State} {s0} (k0 : Keeps a s0) : KeepsOut a (execPowerUp s0) := by
  unfold execPowerUp
  exact KeepsOut.next (State_when_keeps k0 (fun _ h0 => State_set_keeps (State_set_keeps (State_set_keeps (powerOnReset_keeps h0)))))

theorem execPorRelease_keeps {a : State} {x0 s1} (k1 : Keeps a s1) : KeepsOut a (execPorRelease x0 s1) := by
  unfold execPorRelease
  exact KeepsOut.next (State_when_keeps k1 (fun _ h0 => State_when_keeps (State_setB_keeps h0) (fun _ h1 => State_set_keeps (State_set_keeps h1))))

theorem execPowerOnReset_keeps {a : State} {x0 s1} (k1 : Keeps a s1) : KeepsOut a (execPowerOnReset x0 s1) := by
  unfold execPowerOnReset
  exact KeepsOut.next (Keeps.cond (Keeps.cond (State_set_keeps (State_set_keeps ((State_set_keeps (powerOnReset_keeps k1))))) (State_draw_keeps (State_set_keeps ((State_set_keeps (powerOnReset_keeps k1)))))) (State_when_keeps k1 (fun _ h0 => State_set_keeps h0)))

theorem execEvVinLow_keeps {a : State} {s0} (k0 : Keeps a s0) : KeepsOut a (execEvVinLow s0) := by
  unfold execEvVinLow
  exact KeepsOut.next (State_when_keeps k0 (fun _ h0 => State_when_keeps ((raiseEvent_keeps (raiseFault_keeps ((State_set_keeps (State_set_keeps (State_set_keeps h0))))))) (fun _ h1 => ledPowerLoss_keeps h1)))

theorem execEvVinHigh_keeps {a : State} {s0} (k0 : Keeps a s0) : KeepsOut a (execEvVinHigh s0) := by
  unfold execEvVinHigh
  exact KeepsOut.next (State_when_keeps k0 (fun _ h0 => raiseEvent_keeps (raiseFault_keeps (State_set_keeps (State_set_keeps h0)))))

theorem execVinHighClear_keeps {a : State} {s0} (k0 : Keeps a s0) : KeepsOut a (execVinHighClear s0) := by
  unfold execVinHighClear
  exact KeepsOut.next (State_set_keeps k0)

theorem execVsensOverload_keeps {a : State} {x0 s1} (k1 : Keeps a s1) : KeepsOut a (execVsensOverload x0 s1) := by
  unfold execVsensOverload
  exact KeepsOut.next (State_when_keeps k1 (fun _ h0 => raiseEvent_keeps (raiseFault_keeps (State_setBit_keeps h0))))

theorem vsensWrite_keeps {a : State} {x0 x1 s2} (k2 : Keeps a s2) : Keeps a (vsensWrite x0 x1 s2) := by
  unfold vsensWrite
  exact (by split; exacts [State_set_keeps ((debugWrite_keeps (fun _ h0 => regStore_keeps h0) k2)), k2])

theorem execVsensEnable_keeps {a : State} {x0 x1 s2} (k2 : Keeps a s2) : KeepsOut a (execVsensEnable x0 x1 s2) := by
  unfold execVsensEnable
  exact KeepsOut.next (vsensWrite_keeps k2)

theorem dieJudge_keeps {a : State} {x0 s1} (k1 : Keeps a s1) : Keeps a (dieJudge x0 s1) := by
  unfold dieJudge
  exact Keeps.cond (State_when_keeps (State_set_keeps (State_set_keeps k1)) (fun _ h0 => raiseFault_keeps h0)) (State_when_keeps ((State_when_keeps ((State_set_keeps (State_set_keeps (State_seti_keeps k1)))) (fun _ h1 => raiseEvent_keeps (raiseFault_keeps h1)))) (fun _ h2 => raiseFault_keeps h2))

theorem measure_keeps {a : State} {x0 x1 x2 x3 x4 s5} (k5 : Keeps a s5) : Keeps a (measure x0 x1 x2 x3 x4 s5) := by
  unfold measure
  exact dieJudge_keeps ((State_when_keeps ((State_set_keeps (State_set_keeps ((State_set_keeps ((State_each_keeps (State_set_keeps k5) (fun _ => fun _ h0 => State_set_keeps h0)))))))) (fun _ h1 => State_set_keeps (State_set_keeps h1))))

theorem execPowerMeasure_keeps {a : State} {x0 x1 x2 x3 x4 s5} (k5 : Keeps a s5) : KeepsOut a (execPowerMeasure x0 x1 x2 x3 x4 s5) := by
  unfold execPowerMeasure
  exact KeepsOut.next (State_when_keeps k5 (fun _ h0 => measure_keeps (State_set_keeps h0)))

theorem execResetLLow_keeps {a : State} {s0} (k0 : Keeps a s0) : KeepsOut a (execResetLLow s0) := by
  unfold execResetLLow
  exact KeepsOut.next (Keeps.cond (State_set_keeps k0) (deviceReset_keeps (State_set_keeps k0)))

theorem execDeviceReset_keeps {a : State} {x0 x1 s2} (k2 : Keeps a s2) : KeepsOut a (execDeviceReset x0 x1 s2) := by
  unfold execDeviceReset
  exact KeepsOut.next (State_when_keeps k2 (fun _ h0 => deviceReset_keeps h0))

theorem execDeviceResetRelease_keeps {a : State} {x0 s1} (k1 : Keeps a s1) : KeepsOut a (execDeviceResetRelease x0 s1) := by
  unfold execDeviceResetRelease
  exact KeepsOut.next (State_when_keeps k1 (fun _ h0 => State_when_keeps ((State_setB_keeps h0)) (fun _ h1 => State_set_keeps h1)))

theorem rstStart_keeps {a : State} {x0 x1 x2 x3 x4 s5} (k4 : ∀ z0, Keeps a z0 → Keeps a (x4 z0)) (k5 : Keeps a s5) : Keeps a (rstStart x0 x1 x2 x3 x4 s5) := by
  unfold rstStart
  exact Keeps.cond (busErr_keeps k5) (debugWrite_keeps (fun _ h0 => State_cmdStart_keeps (busOk_keeps h0) (fun _ h1 => k4 _ h1) (fun _ h2 => h2)) k5)

theorem execDevice_keeps {a : State} {x0 s1} (k1 : Keeps a s1) : KeepsOut a (execDevice x0 s1) := by
  unfold execDevice
  exact KeepsOut.next (rstStart_keeps (fun _ h0 => deviceReset_keeps h0) k1)

theorem execYoke_keeps {a : State} {x0 s1} (k1 : Keeps a s1) : KeepsOut a (execYoke x0 s1) := by
  unfold execYoke
  exact KeepsOut.next (rstStart_keeps (fun _ h0 => yokeReset_keeps h0) k1)

theorem execInnkeeper_keeps {a : State} {x0 s1} (k1 : Keeps a s1) : KeepsOut a (execInnkeeper x0 s1) := by
  unfold execInnkeeper
  exact KeepsOut.next (rstStart_keeps (fun _ h0 => State_each_keeps h0 (fun _ => fun _ h1 => State_when_keeps h1 (fun _ h2 => cellarFree_keeps h2))) k1)

theorem stallMeets_keeps {a : State} {x0 s1} (k1 : Keeps a s1) : Keeps a (stallMeets x0 s1) := by
  unfold stallMeets
  exact State_when_keeps ((State_when_keeps k1 (fun _ h0 => cfgEnd_keeps (reconfTime_keeps (State_set_keeps h0))))) (fun _ h1 => raiseEvent_keeps (State_cmdEnd_keeps (State_set_keeps (State_set_keeps (State_set_keeps h1)))))

theorem execStall_keeps {a : State} {x0 x1 s2} (k2 : Keeps a s2) : KeepsOut a (execStall x0 x1 s2) := by
  unfold execStall
  exact KeepsOut.next (rstStart_keeps (fun _ h0 => State_set_keeps (stallMeets_keeps (State_each_keeps (logReset_keeps h0) (fun _ => fun _ h1 => stallClear_keeps h1)))) k2)

theorem execStallResetDone_keeps {a : State} {s0} (k0 : Keeps a s0) : KeepsOut a (execStallResetDone s0) := by
  unfold execStallResetDone
  exact KeepsOut.next (State_when_keeps k0 (fun _ h0 => State_cmdEnd_keeps (State_set_keeps (State_set_keeps ((State_each_keeps h0 (fun _ => fun _ h1 => State_when_keeps (stallLoad_keeps h1) (fun _ h2 => govUpdate_keeps (State_set_keeps h2)))))))))

theorem execDevreset_keeps {a : State} {s0} (k0 : Keeps a s0) : KeepsOut a (execDevreset s0) := by
  unfold execDevreset
  exact KeepsOut.next (State_when_keeps ((debugSeen_keeps k0)) (fun _ h0 => deviceReset_keeps h0))

theorem parkStart_keeps {a : State} {s0} (k0 : Keeps a s0) : Keeps a (parkStart s0) := by
  unfold parkStart
  exact State_when_keeps ((State_set_keeps (State_set_keeps ((State_setWide_keeps (State_setWide_keeps ((State_set_keeps (State_set_keeps ((stagingDrop_keeps (State_set_keeps k0)))))))))))) (fun _ h0 => ledStart_keeps h0)

theorem parkCmd_keeps {a : State} {x0 s1} (k1 : Keeps a s1) : Keeps a (parkCmd x0 s1) := by
  unfold parkCmd
  exact State_cmdStart_keeps k1 (fun _ h0 => parkStart_keeps h0) (fun _ h1 => State_set_keeps h1)

theorem execLantern_keeps {a : State} {s0} (k0 : Keeps a s0) : KeepsOut a (execLantern s0) := by
  unfold execLantern
  exact KeepsOut.next (parkCmd_keeps k0)

theorem execOffCmd_keeps {a : State} {s0} (k0 : Keeps a s0) : KeepsOut a (execOffCmd s0) := by
  unfold execOffCmd
  exact KeepsOut.next (parkCmd_keeps k0)

theorem wake_keeps {a : State} {x0 s1} (k1 : Keeps a s1) : Keeps a (wake x0 s1) := by
  unfold wake
  exact State_addSat_keeps (State_set_keeps ((State_set_keeps (State_set_keeps ((State_set_keeps (deviceReset_keeps k1)))))))

theorem parkAbort_keeps {a : State} {s0} (k0 : Keeps a s0) : Keeps a (parkAbort s0) := by
  unfold parkAbort
  exact State_cmdEnd_keeps (State_set_keeps (State_set_keeps k0))

theorem parked_keeps {a : State} {s0} (k0 : Keeps a s0) : Keeps a (parked s0) := by
  unfold parked
  exact State_when_keeps ((State_cmdEnd_keeps ((Keeps.mem (wf_erase _ _) ((State_set_keeps (State_set_keeps (State_set_keeps (State_set_keeps ((State_set_keeps (State_set_keeps (State_set_keeps ((State_set_keeps (State_set_keeps (State_set_keeps k0))))))))))))))))) (fun _ h0 => wake_keeps h0)

theorem switchedOff_keeps {a : State} {s0} (k0 : Keeps a s0) : Keeps a (switchedOff s0) := by
  unfold switchedOff
  exact State_set_keeps ((State_set_keeps (State_set_keeps (powerOnReset_keeps k0))))

theorem parkCommitted_keeps {a : State} {s0} (k0 : Keeps a s0) : Keeps a (parkCommitted s0) := by
  unfold parkCommitted
  exact State_when_keeps k0 (fun _ h0 => State_set_keeps (State_set_keeps h0))

theorem execLanternParked_keeps {a : State} {s0} (k0 : Keeps a s0) : KeepsOut a (execLanternParked s0) := by
  unfold execLanternParked
  exact KeepsOut.next (State_when_keeps ((parkCommitted_keeps k0)) (fun _ h0 => Keeps.cond (switchedOff_keeps h0) (State_when_keeps h0 (fun _ h1 => parked_keeps h1))))

theorem wakeBy_keeps {a : State} {x0 x1 s2} (k2 : Keeps a s2) : Keeps a (wakeBy x0 x1 s2) := by
  unfold wakeBy
  exact Keeps.cond (wake_keeps k2) (State_when_keeps k2 (fun _ h0 => State_set_keeps h0))

theorem execWake_keeps {a : State} {x0 s1} (k1 : Keeps a s1) : KeepsOut a (execWake x0 s1) := by
  unfold execWake
  exact KeepsOut.next (Keeps.cond ((State_setB_keeps k1)) (Keeps.cond (State_set_keeps ((State_setB_keeps k1))) (wakeBy_keeps ((State_setB_keeps k1)))))

theorem execCalendarAlarm_keeps {a : State} {s0} (k0 : Keeps a s0) : KeepsOut a (execCalendarAlarm s0) := by
  unfold execCalendarAlarm
  exact KeepsOut.next (wakeBy_keeps k0)

theorem execMonitorWake_keeps {a : State} {s0} (k0 : Keeps a s0) : KeepsOut a (execMonitorWake s0) := by
  unfold execMonitorWake
  exact KeepsOut.next (wakeBy_keeps k0)

/-! ### Boot -/

theorem bootStep_keeps {a : State} {s0} (k0 : Keeps a s0) : Keeps a (bootStep s0) := by
  unfold bootStep
  exact State_set_keeps k0

theorem execBootStart_keeps {a : State} {x0 s1} (k1 : Keeps a s1) : KeepsOut a (execBootStart x0 s1) := by
  unfold execBootStart
  exact KeepsOut.next (State_when_keeps k1 (fun _ h0 => State_when_keeps ((State_each_keeps (bootStep_keeps (State_set_keeps h0)) (fun _ => fun _ h1 => calLoad_keeps h1))) (fun _ h2 => raiseEvent_keeps (raiseFault_keeps ((clearKeys_keeps (clkLoad_keeps (State_set_keeps h2))))))))

theorem execXtalOk_keeps {a : State} {s0} (k0 : Keeps a s0) : KeepsOut a (execXtalOk s0) := by
  unfold execXtalOk
  exact KeepsOut.next (State_when_keeps k0 (fun _ h0 => State_set_keeps (State_set_keeps (State_set_keeps (bootStep_keeps h0)))))

theorem xtalLost_keeps {a : State} {s0} (k0 : Keeps a s0) : Keeps a (xtalLost s0) := by
  unfold xtalLost
  exact raiseFault_keeps (raiseEvent_keeps ((State_set_keeps (State_set_keeps (State_set_keeps k0)))))

theorem execXtalBootTimeout_keeps {a : State} {s0} (k0 : Keeps a s0) : KeepsOut a (execXtalBootTimeout s0) := by
  unfold execXtalBootTimeout
  exact KeepsOut.next (State_when_keeps k0 (fun _ h0 => xtalLost_keeps (bootStep_keeps h0)))

theorem safetyCheck_keeps {a : State} {x0 s1} (k1 : Keeps a s1) : Keeps a (safetyCheck x0 s1) := by
  unfold safetyCheck
  exact Keeps.cond (Keeps.cond (State_set_keeps ((State_set_keeps (State_set_keeps ((sealRead_keeps (State_set_keeps (State_set_keeps k1)))))))) (raiseFault_keeps (State_set_keeps ((State_set_keeps (State_set_keeps ((sealRead_keeps (State_set_keeps (State_set_keeps k1)))))))))) (Keeps.cond (raiseFault_keeps (State_set_keeps ((State_set_keeps (State_set_keeps ((sealRead_keeps (State_set_keeps (State_set_keeps k1))))))))) (raiseFault_keeps (State_set_keeps ((State_set_keeps (State_set_keeps ((sealRead_keeps (State_set_keeps (State_set_keeps k1))))))))))

theorem execSelfTestDone_keeps {a : State} {x0 x1 x2 s3} (k3 : Keeps a s3) : KeepsOut a (execSelfTestDone x0 x1 x2 s3) := by
  unfold execSelfTestDone
  exact KeepsOut.next (State_when_keeps k3 (fun _ h0 => State_draw_keeps (State_set_keeps ((State_set_keeps (State_set_keeps ((bootStep_keeps (keyLoad_keeps (bootRun_keeps (Keeps.mem (fun h => wf_erase _ _ (wf_erase _ _ (wf_erase _ _ h))) h0)))))))))))

theorem bootSheepdog_keeps {a : State} {s0} (k0 : Keeps a s0) : Keeps a (bootSheepdog s0) := by
  unfold bootSheepdog
  exact State_set_keeps (State_set_keeps (State_set_keeps k0))

theorem bootTick_keeps {a : State} {s0} (k0 : Keeps a s0) : Keeps a (bootTick s0) := by
  unfold bootTick
  exact Keeps.cond k0 (Keeps.cond (State_set_keeps (safetyCheck_keeps (bootStep_keeps k0))) (State_when_keeps k0 (fun _ h0 => bootSheepdog_keeps h0)))

theorem eaccBoot_keeps {a : State} {s0} (k0 : Keeps a s0) : Keeps a (eaccBoot s0) := by
  unfold eaccBoot
  exact Keeps.cond (eaccSet_keeps k0) (eaccSet_keeps k0)

theorem loadYard_keeps {a : State} {x0 x1 s2} (k2 : Keeps a s2) : Keeps a (loadYard x0 x1 s2) := by
  unfold loadYard
  exact (by split; exacts [releaseYard_keeps (applyEntries_keeps ((setDomainSrc_keeps (fabLoad_keeps (Keeps.entries k2)))))])

theorem loadStall_keeps {a : State} {x0 x1 x2 s3} (k3 : Keeps a s3) : Keeps a (loadStall x0 x1 x2 s3) := by
  unfold loadStall
  exact (by split; exacts [stallLoad_keeps (State_set_keeps ((setDomainSrc_keeps (fabLoad_keeps (Keeps.entries k3)))))])

theorem loadFirmware_keeps {a : State} {x0 s1} (k1 : Keeps a s1) : Keeps a (loadFirmware x0 s1) := by
  unfold loadFirmware
  exact State_putBytes_keeps ((State_set_keeps (State_putBytes_keeps ((yokeFirmware_keeps (Keeps.yokeFw k1))))))

theorem monFailedAll_keeps {a : State} {s0} (k0 : Keeps a s0) : Keeps a (monFailedAll s0) := by
  unfold monFailedAll
  exact State_each_keeps k0 (fun _ => fun _ h0 => State_each_keeps h0 (fun _ => fun _ h1 => State_when_keeps h1 (fun _ h2 => monFailedRaise_keeps h2)))

theorem loadImage_keeps {a : State} {x0 x1 x2 s3} (k3 : Keeps a s3) : Keeps a (loadImage x0 x1 x2 s3) := by
  unfold loadImage
  exact State_draw_keeps (State_set_keeps ((State_set_keeps (authPending_keeps (freshBoot_keeps (bootStep_keeps ((State_when_keeps (monFailedAll_keeps ((loadFirmware_keeps (State_each_keeps ((keyShow_keeps (loadYard_keeps ((State_set_keeps (State_setB_keeps (State_set_keeps k3))))))) (fun _ => fun _ h0 => loadStall_keeps h0))))) (fun _ h1 => eaccBoot_keeps h1)))))))))

theorem bootNothing_keeps {a : State} {s0} (k0 : Keeps a s0) : Keeps a (bootNothing s0) := by
  unfold bootNothing
  exact raiseFault_keeps (State_set_keeps k0)

theorem slotFails_keeps {a : State} {x0 s1} (k1 : Keeps a s1) : Keeps a (slotFails x0 s1) := by
  unfold slotFails
  exact bootStep_keeps (slotsShow_keeps (State_set_keeps k1))

theorem bootCandidate_keeps {a : State} {x0 x1 x2 s3} (k3 : Keeps a s3) : Keeps a (bootCandidate x0 x1 x2 s3) := by
  unfold bootCandidate
  exact (by split; exacts [Keeps.cond (slotFails_keeps ((slotsShow_keeps (useMark_keeps k3)))) (loadImage_keeps ((slotsShow_keeps (useMark_keeps k3)))), Keeps.cond (slotFails_keeps ((State_when_keeps k3 (fun _ h0 => raiseFault_keeps h0)))) (loadImage_keeps ((State_when_keeps k3 (fun _ h0 => raiseFault_keeps h0)))), Keeps.cond (loadImage_keeps ((State_set_keeps k3))) (bootNothing_keeps ((State_set_keeps k3)))])

theorem execImageLoaded_keeps {a : State} {x0 x1 x2 s3} (k3 : Keeps a s3) : KeepsOut a (execImageLoaded x0 x1 x2 s3) := by
  unfold execImageLoaded
  exact KeepsOut.next (State_when_keeps k3 (fun _ h0 => Keeps.cond (bootCandidate_keeps ((slotsTest_keeps h0))) h0))

theorem execEvBootDone_keeps {a : State} {s0} (k0 : Keeps a s0) : KeepsOut a (execEvBootDone s0) := by
  unfold execEvBootDone
  exact KeepsOut.next (State_when_keeps k0 (fun _ h0 => raiseEvent_keeps (State_set_keeps (State_set_keeps (State_set_keeps ((State_set_keeps (State_set_keeps ((State_when_keeps h0 (fun _ h1 => bootSheepdog_keeps h1)))))))))))

theorem execBootTimeout_keeps {a : State} {s0} (k0 : Keeps a s0) : KeepsOut a (execBootTimeout s0) := by
  unfold execBootTimeout
  exact KeepsOut.next (State_when_keeps k0 (fun _ h0 => Keeps.cond (State_set_keeps ((raiseFault_keeps (State_inc_keeps h0)))) (deviceReset_keeps ((raiseFault_keeps (State_inc_keeps h0))))))

/-! ### Timebase -/

theorem execXtalLost_keeps {a : State} {s0} (k0 : Keeps a s0) : KeepsOut a (execXtalLost s0) := by
  unfold execXtalLost
  exact KeepsOut.next (State_when_keeps k0 (fun _ h0 => xtalLost_keeps h0))

theorem execFineCoarse_keeps {a : State} {x0 x1 s2} (k2 : Keeps a s2) : KeepsOut a (execFineCoarse x0 x1 s2) := by
  unfold execFineCoarse
  exact KeepsOut.next (State_when_keeps ((State_set_keeps k2)) (fun _ h0 => State_when_keeps (State_set_keeps h0) (fun _ h1 => raiseFault_keeps (raiseEvent_keeps (State_setBit_keeps h1)))))

theorem execFineReturn_keeps {a : State} {x0 x1 s2} (k2 : Keeps a s2) : KeepsOut a (execFineReturn x0 x1 s2) := by
  unfold execFineReturn
  exact KeepsOut.next (State_when_keeps (State_set_keeps k2) (fun _ h0 => State_setBit_keeps h0))

theorem execSyncOutPulse_keeps {a : State} {s0} (k0 : Keeps a s0) : KeepsOut a (execSyncOutPulse s0) := by
  unfold execSyncOutPulse
  exact KeepsOut.next (State_when_keeps k0 (fun _ h0 => State_set_keeps h0))

theorem syncOutFall_keeps {a : State} {s0} (k0 : Keeps a s0) : Keeps a (syncOutFall s0) := by
  unfold syncOutFall
  exact Keeps.cond (State_set_keeps k0) k0

theorem syncLose_keeps {a : State} {s0} (k0 : Keeps a s0) : Keeps a (syncLose s0) := by
  unfold syncLose
  exact raiseEvent_keeps (State_set_keeps (State_set_keeps (State_set_keeps k0)))

theorem syncGain_keeps {a : State} {s0} (k0 : Keeps a s0) : Keeps a (syncGain s0) := by
  unfold syncGain
  exact raiseEvent_keeps (State_set_keeps (State_set_keeps k0))

theorem steerFree_keeps {a : State} {s0} (k0 : Keeps a s0) : Keeps a (steerFree s0) := by
  unfold steerFree
  exact State_draw_keeps (State_seti_keeps k0)

theorem syncJudge_keeps {a : State} {x0 s1} (k1 : Keeps a s1) : Keeps a (syncJudge x0 s1) := by
  unfold syncJudge
  exact Keeps.cond (Keeps.cond (State_when_keeps ((State_set_keeps k1)) (fun _ h0 => syncLose_keeps h0)) (State_set_keeps k1)) (Keeps.cond (State_when_keeps ((State_set_keeps k1)) (fun _ h1 => syncGain_keeps h1)) (State_set_keeps k1))

theorem execSyncInPulse_keeps {a : State} {x0 s1} (k1 : Keeps a s1) : KeepsOut a (execSyncInPulse x0 s1) := by
  unfold execSyncInPulse
  exact KeepsOut.next (State_when_keeps k1 (fun _ h0 => syncJudge_keeps (Keeps.cond ((State_seti_keeps h0)) (steerFree_keeps ((State_seti_keeps h0))))))

theorem execSyncLost_keeps {a : State} {x0 s1} (k1 : Keeps a s1) : KeepsOut a (execSyncLost x0 s1) := by
  unfold execSyncLost
  exact KeepsOut.next (State_when_keeps k1 (fun _ h0 => State_when_keeps (State_set_keeps h0) (fun _ h1 => syncLose_keeps h1)))

theorem execLock_keeps {a : State} {s0} (k0 : Keeps a s0) : KeepsOut a (execLock s0) := by
  unfold execLock
  exact KeepsOut.next (State_cmdStart_keeps (busOk_keeps k0) (fun _ h0 => h0) (fun _ h1 => h1))

theorem execEpochLoad_keeps {a : State} {s0} (k0 : Keeps a s0) : KeepsOut a (execEpochLoad s0) := by
  unfold execEpochLoad
  exact KeepsOut.next (State_when_keeps k0 (fun _ h0 => Keeps.cond (State_cmdEnd_keeps h0) (State_cmdEnd_keeps (Keeps.tbNow h0))))

theorem syncModeKeep_keeps {a : State} {s0} (k0 : Keeps a s0) : Keeps a (syncModeKeep s0) := by
  unfold syncModeKeep
  exact syncOutFall_keeps ((State_when_keeps k0 (fun _ h0 => State_set_keeps (State_set_keeps (State_set_keeps h0)))))

theorem execRelease_keeps {a : State} {s0} (k0 : Keeps a s0) : KeepsOut a (execRelease s0) := by
  unfold execRelease
  exact KeepsOut.next (State_cmdStart_keeps (busOk_keeps k0) (fun _ h0 => syncModeKeep_keeps (State_set_keeps h0)) (fun _ h1 => h1))

theorem shdWdFail_keeps {a : State} {s0} (k0 : Keeps a s0) : Keeps a (shdWdFail s0) := by
  unfold shdWdFail
  exact State_when_keeps ((raiseFault_keeps k0)) (fun _ h0 => deviceReset_keeps h0)

theorem execKick_keeps {a : State} {x0 x1 s2} (k2 : Keeps a s2) : KeepsOut a (execKick x0 x1 s2) := by
  unfold execKick
  exact KeepsOut.next (Keeps.cond (State_set_keeps (State_draw_keeps (State_set_keeps (State_set_keeps ((busOk_keeps (State_set_keeps k2))))))) (shdWdFail_keeps ((busOk_keeps (State_set_keeps k2)))))

theorem execWatchdogExpiry_keeps {a : State} {s0} (k0 : Keeps a s0) : KeepsOut a (execWatchdogExpiry s0) := by
  unfold execWatchdogExpiry
  exact KeepsOut.next (State_when_keeps k0 (fun _ h0 => shdWdFail_keeps (State_set_keeps h0)))

/-! ### Access -/

theorem violate_keeps {a : State} {x0 x1 x2 s3} (k3 : Keeps a s3) : Keeps a (violate x0 x1 x2 s3) := by
  unfold violate
  exact violation_keeps k3

theorem execAccessViolation_keeps {a : State} {x0 x1 x2 s3} (k3 : Keeps a s3) : KeepsOut a (execAccessViolation x0 x1 x2 s3) := by
  unfold execAccessViolation
  exact KeepsOut.next (State_when_keeps k3 (fun _ h0 => violate_keeps h0))

theorem wideSnap_keeps {a : State} {x0 x1 s2} (k2 : Keeps a s2) : Keeps a (wideSnap x0 x1 s2) := by
  unfold wideSnap
  exact Keeps.foldl k2 (fun _ h0 => fun _ => Keeps.snaps (storeSorted_put _ _) h0)

theorem regRead_keeps {a : State} {x0 x1 s2} (k2 : Keeps a s2) : Keeps a (regRead x0 x1 s2) := by
  unfold regRead
  exact Keeps.cond (busErr_keeps k2) (Keeps.bus (((by split; exacts [Keeps.cond (wideSnap_keeps k2) k2, k2]))))

theorem execWideReadSnapshot_keeps {a : State} {x0 x1 s2} (k2 : Keeps a s2) : KeepsOut a (execWideReadSnapshot x0 x1 s2) := by
  unfold execWideReadSnapshot
  exact KeepsOut.next ((by split; exacts [Keeps.cond (regRead_keeps ((debugSeen_keeps k2))) ((debugSeen_keeps k2)), (debugSeen_keeps k2)]))

theorem memRead_keeps {a : State} {x0 x1 s2} (k2 : Keeps a s2) : Keeps a (memRead x0 x1 s2) := by
  unfold memRead
  exact Keeps.cond ((by split; exacts [Keeps.bus k2, raiseEvent_keeps (busErr_keeps k2)])) (Keeps.bus k2)

theorem busRead_keeps {a : State} {x0 x1 x2 s3} (k3 : Keeps a s3) : Keeps a (busRead x0 x1 x2 s3) := by
  unfold busRead
  exact Keeps.cond (violate_keeps k3) (Keeps.cond (Keeps.cond (regRead_keeps k3) (busErr_keeps k3)) (memRead_keeps k3))

theorem nvCount_keeps {a : State} {x0 s1} (k1 : Keeps a s1) : Keeps a (nvCount x0 s1) := by
  unfold nvCount
  exact State_setWide_keeps k1

theorem memWrite_keeps {a : State} {x0 x1 s2} (k2 : Keeps a s2) : Keeps a (memWrite x0 x1 s2) := by
  unfold memWrite
  exact Keeps.cond (busOk_keeps (Keeps.foldl k2 (fun _ h0 => fun _ => ownStore_keeps h0))) (State_when_keeps (busOk_keeps (State_putBytes_keeps k2)) (fun _ h1 => nvCount_keeps h1))

theorem stallCommand_keeps {a s : State} {n : Fin 4} {b o c : Nat} {f : State → Out} (q : stallCommand n b o c = some f) (h : Keeps a s) :
    KeepsOut a (f s) := by
  unfold stallCommand at q
  dsimp only at q
  split at q
  · repeat' split at q
    all_goals cases q
    · exact execPwmStart_keeps h
    · exact execPwmStop_keeps h
    · exact execTripClear_keeps h
  · split at q <;> cases q; exact execCalRun_keeps h
  · repeat' split at q
    all_goals cases q
    · exact execLoopStart_keeps h
    · exact execLoopStop_keeps h
    · exact execPset_keeps h
  · repeat' split at q
    all_goals cases q
    · exact execSafe_keeps h
    · exact execProtRelease_keeps h
  · split at q <;> cases q; exact execDischargeRun_keeps h
  · split at q <;> cases q; exact execSend_keeps h
  · split at q <;> cases q; exact execSend_keeps h
  · split at q <;> cases q; exact execSend_keeps h
  · repeat' split at q
    all_goals cases q
    · exact execReinStart_keeps h
    · exact execReinStop_keeps h
  · cases q

theorem canCommand_keeps {a s : State} {k : Fin 4} {c : Nat} {f : State → Out} (q : canCommand k c = some f) (h : Keeps a s) : KeepsOut a (f s) := by
  unfold canCommand at q
  repeat' split at q
  all_goals cases q
  · exact execPush_keeps h
  · exact execFlush_keeps (State_draw_keeps h)
  · exact execRecover_keeps h

theorem serviceCommand_keeps {a s : State} {who : Req} {b o c : Nat} {f : State → Out} (q : serviceCommand who b o c = some f) (h : Keeps a s) :
    KeepsOut a (f s) := by
  unfold serviceCommand at q
  split at q
  all_goals cases q
  exacts [execWrite_keeps h, execReconf_keeps h, execConfirm_keeps h, execRollfwd_keeps h, execAbandon_keeps h, execProg_keeps h,
    execRevoke_keeps h, execBistRun_keeps h, execRetest_keeps h, execBurn_keeps h, execClose_keeps h, execOpenRead_keeps h,
    execOpenWrite_keeps h, execLockdown_keeps h, execLantern_keeps h, execOffCmd_keeps h, execTrigger_keeps h, execLogbookArm_keeps h,
    execCheck_keeps h]

theorem yardCommand_keeps {a s : State} {who : Req} {b o c : Nat} {f : State → Out} (q : yardCommand who b o c = some f) (h : Keeps a s) :
    KeepsOut a (f s) := by
  unfold yardCommand at q
  dsimp only at q
  split at q
  all_goals repeat' split at q
  all_goals cases q
  exacts [execDevice_keeps h, execYoke_keeps h, execInnkeeper_keeps h, execStall_keeps h, execLock_keeps h, execRelease_keeps h,
    execResync_keeps h, execSafetyAck_keeps h, execStoAck_keeps h, execSs1Run_keeps h, execSs1Restart_keeps h, execSealCmd_keeps h,
    execCoherentLoad_keeps h, execSend_keeps h, execSend_keeps h, execReinStart_keeps h, execReinStop_keeps h, execApply_keeps h,
    execDisable_keeps h, execApply_keeps h, execDisable_keeps h, execCommit_keeps h, execCalSet_keeps h, execAlign_keeps h,
    execAlloc_keeps h, execFree_keeps h, execGive_keeps h]

/-- Every command that a command register starts keeps the canonical forms and the queue. -/
theorem commandAt_keeps {a s : State} {who : Req} {x c : Nat} {f : State → Out} (q : commandAt who x c = some f) (h : Keeps a s) :
    KeepsOut a (f s) := by
  unfold commandAt at q
  dsimp only at q
  split at q
  · exact stallCommand_keeps q h
  · split at q
    · exact canCommand_keeps q h
    · split at q
      · exact serviceCommand_keeps q h
      · exact yardCommand_keeps q h

/-! ### BusWrite -/

theorem abortAt_keeps {a : State} {x0 s1} (k1 : Keeps a s1) : Keeps a (abortAt x0 s1) := by
  unfold abortAt
  exact (by split; exacts [Keeps.cond ((by split; exacts [calAbort_keeps k1, dischargeEnd_keeps k1, Keeps.cond (trainAbort_keeps k1) (accAbort_keeps k1), k1])) ((by split; exacts [State_set_keeps k1, State_cmdEnd_keeps k1, cellarAbort_keeps k1, resyncAbort_keeps k1, State_cmdEnd_keeps k1, ss1Abort_keeps k1, sealAbort_keeps k1, cohAbort_keeps k1, trainAbort_keeps k1, accAbort_keeps k1, gclAbort_keeps k1, ledAbort_keeps k1, State_cmdEnd_keeps k1, cfgAbort_keeps k1, State_set_keeps k1, bistAbort_keeps k1, parkAbort_keeps k1, authAbort_keeps k1, k1]))])

theorem cmdWrite_keeps {a s : State} {who : Req} {x c : Nat} (h : Keeps a s) : Keeps a (cmdWrite who x c s) := by
  unfold cmdWrite
  dsimp only
  refine Keeps.cond (Keeps.cond (abortAt_keeps (busOk_keeps h)) (busOk_keeps h)) (Keeps.cond (State_cmdSet_keeps (busOk_keeps h))
    (Keeps.cond (State_cmdSet_keeps (busOk_keeps h)) ?_))
  split
  · exact Out_state_keeps (commandAt_keeps ‹_› (busOk_keeps h)) (busOk_keeps h)
  · exact State_cmdSet_keeps (busOk_keeps h)

theorem holdWord_keeps {a s : State} {who : Req} {x w : Nat} {r : RRow} {l : List Nat} (h : Keeps a s) : Keeps a (holdWord who x w r l s) := by
  unfold holdWord
  refine Keeps.cond (busErr_keeps h) (busOk_keeps ⟨fun i => ⟨(h.1 i).1, storeSorted_put _ _ (h.1 i).2.1, ?_, (h.1 i).2.2.2⟩, h.2⟩)
  exact storeSorted_map (fun e => by split <;> rfl) (h.1 i).2.2.1

theorem applyHeld_keeps {a : State} {x0 s1} (k1 : Keeps a s1) : Keeps a (applyHeld x0 s1) := by
  unfold applyHeld
  exact Keeps.foldl k1 (fun _ h0 => fun _ => (by split; exacts [Keeps.foldl (Keeps.held (storeSorted_drop _) h0) (fun _ h1 => fun _ => Keeps.cond (State_set_keeps h1) h1), h0]))

theorem applyWord_keeps {a : State} {x0 x1 x2 x3 x4 x5 s6} (k6 : Keeps a s6) : Keeps a (applyWord x0 x1 x2 x3 x4 x5 s6) := by
  unfold applyWord
  exact Keeps.cond (busErr_keeps k6) ((by split; exacts [Keeps.cond (referenceApply_keeps k6) (Keeps.cond (travelPreset_keeps k6) (Keeps.cond (Out_state_keeps (execWindowApply_keeps k6) k6) (Keeps.cond ((regStore_keeps (applyHeld_keeps k6))) (busErr_keeps k6))))]))

theorem posCtrlAfter_keeps {a : State} {x0 s1 s2} (k1 : Keeps a s1) (k2 : Keeps a s2) : Keeps a (posCtrlAfter x0 s1 s2) := by
  unfold posCtrlAfter
  exact Keeps.cond (busErr_keeps (State_set_keeps k1)) (State_when_keeps ((State_when_keeps k2 (fun _ h0 => posRestart_keeps h0))) (fun _ h1 => sentRestart_keeps h1))

theorem stallAfter_keeps {a : State} {x0 x1 x2 x3 s4 s5} (k4 : Keeps a s4) (k5 : Keeps a s5) : Keeps a (stallAfter x0 x1 x2 x3 s4 s5) := by
  unfold stallAfter
  exact Keeps.cond ((by split; exacts [State_when_keeps k5 (fun _ h0 => State_setBit_keeps h0), k5])) (Keeps.cond (State_when_keeps k5 (fun _ h1 => State_set_keeps h1)) (Keeps.cond (Keeps.cond (monStart_keeps k5) (Keeps.cond (monStop_keeps k5) k5)) (Keeps.cond (tripFollow_keeps k5) (Keeps.cond (Keeps.cond (Out_state_keeps (execMonLatchClear_keeps ((State_set_keeps k5))) ((State_set_keeps k5))) ((State_set_keeps k5))) (Keeps.cond (posCtrlAfter_keeps k4 k5) (Keeps.cond (warnFollow_keeps k5) (Keeps.cond (derateShow_keeps k5) (Keeps.cond (State_when_keeps k5 (fun _ h2 => junctionEnable_keeps h2)) k5))))))))

theorem enableEdge_keeps {a : State} {x0 s1 s2 x3 x4} (_ : Keeps a s1) (k2 : Keeps a s2) (k3 : ∀ z0, Keeps a z0 → KeepsOut a (x3 z0)) (k4 : ∀ z0, Keeps a z0 → KeepsOut a (x4 z0)) : Keeps a (enableEdge x0 s1 s2 x3 x4) := by
  unfold enableEdge
  exact Keeps.cond (Out_state_keeps (k3 _ (State_set_keeps k2)) k2) (Keeps.cond (Out_state_keeps (k4 _ (State_set_keeps k2)) k2) k2)

theorem safetyCtrlAfter_keeps {a : State} {x0 s1} (k1 : Keeps a s1) : Keeps a (safetyCtrlAfter x0 s1) := by
  unfold safetyCtrlAfter
  exact Keeps.cond k1 (Keeps.cond (Out_state_keeps (execDisReq_keeps ((Keeps.cond (Out_state_keeps (execDsReq_keeps k1) k1) k1))) ((Keeps.cond (Out_state_keeps (execDsReq_keeps k1) k1) k1))) ((Keeps.cond (Out_state_keeps (execDsReq_keeps k1) k1) k1)))

theorem remountAfter_keeps {a : State} {s0 s1} (_ : Keeps a s0) (k1 : Keeps a s1) : Keeps a (remountAfter s0 s1) := by
  unfold remountAfter
  exact Keeps.cond (State_set_keeps (State_set_keeps k1)) (State_when_keeps k1 (fun _ h0 => State_set_keeps h0))

theorem yardAfter_keeps {a : State} {x0 x1 x2 s3 s4} (k3 : Keeps a s3) (k4 : Keeps a s4) : Keeps a (yardAfter x0 x1 x2 s3 s4) := by
  unfold yardAfter
  exact (by split; exacts [irqUpdate_keeps k4, irqUpdate_keeps k4, irqUpdate_keeps k4, irqUpdate_keeps k4, syncModeKeep_keeps k4, enableEdge_keeps k3 k4 (fun _ h0 => execRefCarrierEnable_keeps h0) (fun _ h1 => execRefCarrierDisable_keeps h1), enableEdge_keeps k3 k4 (fun _ h2 => execAuxEnable_keeps h2) (fun _ h3 => execAuxDisable_keeps h3), enableEdge_keeps k3 k4 (fun _ h4 => execAuxEnable_keeps h4) (fun _ h5 => execAuxDisable_keeps h5), safetyCtrlAfter_keeps k4, logEnable_keeps k4, roleFollow_keeps k3 k4, roleFollow_keeps k3 k4, State_when_keeps k4 (fun _ h6 => gmStart_keeps h6), remountAfter_keeps k3 k4, State_set_keeps k4, Keeps.cond (enableEdge_keeps k3 k4 (fun _ h7 => execCanEnable_keeps h7) (fun _ h8 => execCanDisable_keeps h8)) k4, k4])

theorem plainWrite_keeps {a : State} {x0 x1 x2 x3 x4 s5} (k5 : Keeps a s5) : Keeps a (plainWrite x0 x1 x2 x3 x4 s5) := by
  unfold plainWrite
  exact (by (try extract_lets); split; exacts [Keeps.cond (Keeps.bus ((Keeps.cond (stallAfter_keeps k5 ((regStore_keeps k5))) (yardAfter_keeps k5 ((regStore_keeps k5)))))) ((Keeps.cond (stallAfter_keeps k5 ((regStore_keeps k5))) (yardAfter_keeps k5 ((regStore_keeps k5)))))])

theorem ownWrite_keeps {a s t : State} {x v : Nat} (h : Keeps a s) (q : ownWrite x v s = some t) : Keeps a t := by
  unfold ownWrite at q
  dsimp only at q
  split at q
  · cases q; exact Out_state_keeps (execKick_keeps (State_draw_keeps h)) h
  · exact storeWrite_keeps h q

theorem regWrite_keeps {a : State} {x0 x1 x2 x3 x4 s5} (k5 : Keeps a s5) : Keeps a (regWrite x0 x1 x2 x3 x4 s5) := by
  unfold regWrite
  exact Keeps.cond (busErr_keeps k5) (Keeps.cond (Keeps.cond (cmdWrite_keeps k5) (busErr_keeps k5)) (Keeps.cond (busOk_keeps k5) (Keeps.cond (busErr_keeps k5) ((by split; exacts [Keeps.cond (holdWord_keeps k5) (applyWord_keeps k5), Keeps.getD (plainWrite_keeps k5) fun _ e => ownWrite_keeps k5 e])))))

theorem busWrite_keeps {a : State} {x0 x1 x2 s3} (k3 : Keeps a s3) : Keeps a (busWrite x0 x1 x2 s3) := by
  unfold busWrite
  exact Keeps.cond ((debugSeen_keeps k3)) (Keeps.cond (violate_keeps ((debugSeen_keeps k3))) (Keeps.cond (busErr_keeps ((debugSeen_keeps k3))) ((by split; exacts [regWrite_keeps ((debugSeen_keeps k3)), memWrite_keeps ((debugSeen_keeps k3))]))))

theorem execRegisterWrite_keeps {a : State} {x0 x1 x2 s3} (k3 : Keeps a s3) : KeepsOut a (execRegisterWrite x0 x1 x2 s3) := by
  unfold execRegisterWrite
  exact KeepsOut.next (busWrite_keeps k3)

theorem execWideWordHold_keeps {a : State} {x0 x1 x2 s3} (k3 : Keeps a s3) : KeepsOut a (execWideWordHold x0 x1 x2 s3) := by
  unfold execWideWordHold
  exact KeepsOut.next (State_when_keeps k3 (fun _ h0 => busWrite_keeps h0))

theorem execWideWordApply_keeps {a : State} {x0 x1 x2 s3} (k3 : Keeps a s3) : KeepsOut a (execWideWordApply x0 x1 x2 s3) := by
  unfold execWideWordApply
  exact KeepsOut.next (State_when_keeps k3 (fun _ h0 => busWrite_keeps h0))

theorem execAbort_keeps {a : State} {x0 x1 s2} (k2 : Keeps a s2) : KeepsOut a (execAbort x0 x1 s2) := by
  unfold execAbort
  exact KeepsOut.next (State_when_keeps k2 (fun _ h0 => busWrite_keeps h0))

theorem execCommandClear_keeps {a : State} {x0 x1 s2} (k2 : Keeps a s2) : KeepsOut a (execCommandClear x0 x1 s2) := by
  unfold execCommandClear
  exact KeepsOut.next (State_when_keeps k2 (fun _ h0 => busWrite_keeps h0))

theorem execUnlistedCommand_keeps {a : State} {x0 x1 x2 s3} (k3 : Keeps a s3) : KeepsOut a (execUnlistedCommand x0 x1 x2 s3) := by
  unfold execUnlistedCommand
  exact KeepsOut.next (State_when_keeps k3 (fun _ h0 => busWrite_keeps h0))

theorem sizedWrite_keeps {a : State} {x0 x1 x2 x3 s4} (k4 : Keeps a s4) : Keeps a (sizedWrite x0 x1 x2 x3 s4) := by
  unfold sizedWrite
  exact Keeps.cond (violate_keeps k4) (Keeps.cond (Keeps.cond (busWrite_keeps k4) (busErr_keeps k4)) (memWrite_keeps k4))

theorem issue_keeps {a : State} {x0 s1} (k1 : Keeps a s1) : Keeps a (issue x0 s1) := by
  unfold issue
  exact (by split; exacts [busRead_keeps k1, sizedWrite_keeps k1, State_set_keeps k1])

theorem issueAll_keeps {a : State} {x0 s1} (k1 : Keeps a s1) : Keeps a (issueAll x0 s1) := by
  unfold issueAll
  exact Keeps.yokeOwed ((issue_keeps k1))

theorem execEvLockstepBroken_keeps {a : State} {x0 s1} (k1 : Keeps a s1) : KeepsOut a (execEvLockstepBroken x0 s1) := by
  unfold execEvLockstepBroken
  exact KeepsOut.next (Keeps.cond ((State_setBit_keeps k1)) (Keeps.foldl ((lockstepBreak_keeps (bufUpdate_keeps (Keeps.yoke ((State_setBit_keeps k1)))))) (fun _ h0 => fun _ => issue_keeps h0)))

theorem ownAccess_keeps {a : State} {x0 x1 s2} (k2 : Keeps a s2) : Keeps a (ownAccess x0 x1 s2) := by
  unfold ownAccess
  exact (by (try extract_lets); split; exacts [busOk_keeps (ownStore_keeps (coreStep_keeps k2)), Keeps.bus k2])

theorem sramCorrected_keeps {a : State} {x0 x1 s2} (k2 : Keeps a s2) : Keeps a (sramCorrected x0 x1 s2) := by
  unfold sramCorrected
  exact State_set_keeps k2

theorem lagKeep_keeps {a : State} {x0 x1 s2} (k2 : Keeps a s2) : Keeps a (lagKeep x0 x1 s2) := by
  unfold lagKeep
  exact Keeps.cond (State_set_keeps k2) (Keeps.cond (State_set_keeps k2) k2)

theorem outerAccess_keeps {a : State} {x0 x1 s2} (k2 : Keeps a s2) : Keeps a (outerAccess x0 x1 s2) := by
  unfold outerAccess
  exact Keeps.cond (State_when_keeps k2 (fun _ h0 => presentSig_keeps h0)) ((by split; exacts [issueAll_keeps ((present_keeps (coreStep_keeps k2) ‹_›)), (present_keeps (coreStep_keeps k2) ‹_›)]))

theorem execYokeTransaction_keeps {a : State} {x0 x1 x2 x3 s4} (k4 : Keeps a s4) : KeepsOut a (execYokeTransaction x0 x1 x2 x3 s4) := by
  unfold execYokeTransaction
  exact KeepsOut.next (State_when_keeps k4 (fun _ h0 => Keeps.cond (ownAccess_keeps ((lagKeep_keeps (sramCorrected_keeps h0)))) (outerAccess_keeps ((lagKeep_keeps (sramCorrected_keeps h0))))))

/-! ### Tick -/

theorem lanternTick_keeps {a : State} {s0} (k0 : Keeps a s0) : Keeps a (lanternTick s0) := by
  unfold lanternTick
  exact calEdge_keeps (State_seti_keeps (Keeps.tbNow ((State_set_keeps k0))))

theorem ageTick_keeps {a : State} {s0} (k0 : Keeps a s0) : Keeps a (ageTick s0) := by
  unfold ageTick
  exact State_each_keeps k0 (fun _ => fun _ h0 => State_when_keeps h0 (fun _ h1 => State_inc_keeps h1))

theorem lineTick_keeps {a : State} {s0} (k0 : Keeps a s0) : Keeps a (lineTick s0) := by
  unfold lineTick
  exact State_each_keeps ((State_each_keeps k0 (fun _ => fun _ h0 => refreshLines_keeps h0))) (fun _ => fun _ h1 => auxDelayed_keeps h1)

theorem runTick_keeps {a : State} {s0} (k0 : Keeps a s0) : Keeps a (runTick s0) := by
  unfold runTick
  exact syncOutFall_keeps (authTick_keeps (authDue_keeps (txFill_keeps (disCheck_keeps (cfgTick_keeps (parkCommitted_keeps (bootTick_keeps (extestTick_keeps (logDeferred_keeps (cellarRest_keeps (resyncTick_keeps (ss1Tick_keeps (ageTick_keeps (lineTick_keeps (remountArbitrate_keeps ((calTick_keeps (Keeps.tbNow k0))))))))))))))))))

theorem tick_keeps {a : State} {s0} (k0 : Keeps a s0) : Keeps a (tick s0) := by
  unfold tick
  exact Keeps.cond (calTick_keeps k0) (Keeps.cond (lanternTick_keeps k0) (runTick_keeps k0))

end Sys2Proof.Machine
end

