-- ==== Sys2Proof/Laws/Report.lean ====
section
/-!
SUPPORT. What raising an event or recording a fault code can change: the registers that `reported` names (pending lines, the casks the
Logbook takes, the Logbook's and the Ledger's own registers) and the bytes of the Cellar; every other field and byte stays.
-/

namespace Sys2Proof.Machine
open Reg

/-- Register addresses that reporting an event or a fault code may write. -/
def reported (a : Nat) : Bool :=
  (decide (0x4000A800 ≤ a) && decide (a < 0x4000A814)) || a == 0x40048048 ||
    (decide (0x40038140 ≤ a) && decide (a < 0x40039200)) || (decide (0x40118010 ≤ a) && decide (a < 0x40118040)) ||
    a == 0x400D8014 || (decide (0x400DA000 ≤ a) && decide (a < 0x400E0000)) ||
    (decide (0x14340000000 ≤ a) && decide (a < 0x14380000000)) || (decide (0x14440000000 ≤ a) && decide (a < 0x14480000000)) ||
    (decide (0x15440000000 ≤ a) && decide (a < 0x15480000000))

/-- `t` differs from `s` at most in what a report writes. -/
structure Reports (s t : State) : Prop where
  get : ∀ g : Fld, reported (g.key / 32) = false → t.get g = s.get g
  byte : ∀ a, (a < 0x20000000 ∨ 0x21000000 ≤ a) → t.byteAt a = s.byteAt a
  now : t.tbNow = s.tbNow
  bus : t.bus = s.bus
  held : t.held = s.held
  rest : t.snaps = s.snaps ∧ t.canTx = s.canTx ∧ t.ethTx = s.ethTx ∧ t.ethRx = s.ethRx ∧ t.dn = s.dn ∧ t.yokeBuf = s.yokeBuf ∧
    t.yokeOwed = s.yokeOwed ∧ t.ledSnap = s.ledSnap ∧ t.entries = s.entries ∧ t.yokeFw = s.yokeFw ∧ t.freeCount = s.freeCount ∧
    t.pending = s.pending

namespace Reports

theorem refl (s : State) : Reports s s := ⟨fun _ _ => rfl, fun _ _ => rfl, rfl, rfl, rfl, rfl, rfl, rfl, rfl, rfl, rfl, rfl, rfl, rfl, rfl, rfl, rfl⟩

theorem set {a s : State} {f : Fld} {v : Nat} (h : Reports a s) (hf : reported (f.key / 32) = true) : Reports a (s.set f v) := by
  refine ⟨fun g hg => ?_, h.byte, h.now, h.bus, h.held, h.rest⟩
  rw [State.get_set_ne _ _ _ _ (fun e => by rw [e, hf] at hg; exact Bool.noConfusion hg)]
  exact h.get g hg

theorem cond {a s t : State} {c : Prop} [Decidable c] (h : Reports a s) (k : Reports a t) : Reports a (if c then s else t) := by
  split; exacts [h, k]

theorem when {a s : State} {c : Bool} {f : State → State} (h : Reports a s) (k : ∀ t, Reports a t → Reports a (f t)) :
    Reports a (s.when c f) := by
  unfold State.when; split; exacts [k _ h, h]

theorem each {a : State} {l : List Nat} {f : Nat → State → State} {s : State} (h : Reports a s)
    (k : ∀ i ∈ l, ∀ t, Reports a t → Reports a (f i t)) : Reports a (s.each l f) := by
  unfold State.each
  induction l generalizing s with
  | nil => exact h
  | cons i r ih => exact ih (k i (by simp) _ h) (fun j hj => k j (by simp [hj]))

theorem setWide {a s : State} {f g : Fld} {v : Nat} (h : Reports a s) (hf : reported (f.key / 32) = true) (hg : reported (g.key / 32) = true) :
    Reports a (s.setWide f g v) := set (set h hf) hg

theorem inc {a s : State} {f : Fld} (h : Reports a s) (hf : reported (f.key / 32) = true) : Reports a (s.inc f) := set h hf
theorem addSat {a s : State} {f : Fld} {k : Nat} (h : Reports a s) (hf : reported (f.key / 32) = true) : Reports a (s.addSat f k) := set h hf
theorem setBit {a s : State} {f : Fld} {i : Nat} {b : Bool} (h : Reports a s) (hf : reported (f.key / 32) = true) : Reports a (s.setBit f i b) := set h hf

theorem pendLine {a s : State} {lo hi : Fld} {i : Nat} (h : Reports a s) (hf : reported (lo.key / 32) = true) (hg : reported (hi.key / 32) = true) :
    Reports a (pendLine lo hi i s) := by
  unfold Machine.pendLine; exact cond (setBit h hf) (setBit h hg)

theorem irqUpdate {a s : State} (h : Reports a s) : Reports a (irqUpdate s) := set h rfl

theorem routeEvent {a s : State} {e : Nat} (h : Reports a s) : Reports a (routeEvent e s) := by
  unfold Machine.routeEvent
  refine cond h ?_
  exact when (when (when h fun _ h => irqUpdate (pendLine h rfl rfl)) fun _ h => setBit h rfl) fun _ h => pendLine h rfl rfl

theorem own (k : Nat) (h : k < 1024) : reported ((CELLAR_OWNj_OWN (k / 8)).key / 32) = true := by
  simp [reported, CELLAR_OWNj_OWN, Fld.key]; omega

theorem firstBelow_lt {n k : Nat} {p : Nat → Bool} (e : firstBelow n p = some k) : k < n :=
  List.mem_range.1 (List.mem_of_find?_eq_some e)

theorem cellarTake {a s t : State} {k : Nat} (h : Reports a s) (q : cellarTake 4 s = some (k, t)) : Reports a t := by
  unfold Machine.cellarTake at q
  split at q
  · split at q
    · cases q
    · rename_i e
      cases q
      have hk : k < 1024 := firstBelow_lt e
      exact set (set (inc (set (set h rfl) (own k hk)) rfl) rfl) rfl
  · cases q

theorem cask (i : Nat) (h : i ≤ 1024) : reported ((logCask i).key / 32) = true ∧ reported ((logFill i).key / 32) = true ∧
    reported ((logRecs i).key / 32) = true ∧ reported ((logCaskAt i).key / 32) = true := by
  simp [reported, logCask, logFill, logRecs, logCaskAt, ix, Fld.key]; omega

theorem casks_le (s : State) : logCasks s ≤ 1024 := by
  unfold logCasks firstBelow
  generalize hn : (1024 : Nat) = n
  cases e : (List.range n).find? (fun i => s.get (logCask i) == 0) with
  | none => exact Nat.le_refl _
  | some k => exact Nat.le_of_lt (List.mem_range.1 (List.mem_of_find?_eq_some e))

theorem logRoom {a s t : State} {len k : Nat} (h : Reports a s) (q : logRoom len s = some (k, t)) : Reports a t ∧ k ≤ 1024 := by
  have hc := casks_le s
  unfold Machine.logRoom at q
  dsimp only at q
  split at q
  · obtain ⟨rfl, rfl⟩ := Prod.mk.inj (Option.some.inj q); exact ⟨h, by omega⟩
  · split at q
    · exact absurd q (by simp)
    · rename_i e
      obtain ⟨rfl, rfl⟩ := Prod.mk.inj (Option.some.inj q)
      have := cask _ hc
      exact ⟨set (set (set (set (cellarTake h e) this.1) this.2.1) this.2.2.1) this.2.2.2, hc⟩

theorem putBytes {a s : State} {x : Nat} {l : List Byte} (h : Reports a s) (h1 : 0x20000000 ≤ x) (h2 : x + l.length ≤ 0x21000000) :
    Reports a (s.putBytes x l) := by
  refine ⟨h.get, fun b hb => ?_, h.now, h.bus, h.held, h.rest⟩
  rw [← h.byte b hb]
  exact memGet_put_out _ _ _ _ (by omega)

theorem logPut {a s t : State} {typ len src sub at_ : Nat} {b : List Byte} (h : Reports a s) (hl : len ≤ 512) (hb : b.length ≤ 4096)
    (q : logPut typ len src sub at_ b s = some t) : Reports a t := by
  unfold Machine.logPut at q
  split at q
  · exact absurd q (by simp)
  · rename_i i u e
    obtain ⟨h1, hi⟩ := logRoom h e
    dsimp only at q
    obtain rfl := Option.some.inj q
    have hc := cask i hi
    have c1 := State.get_lt u (logCask i)
    have c2 := State.get_lt u (logFill i)
    simp only [logCask, logFill, ix] at c1 c2
    have hlen : ∀ k : Nat, ∀ v : Nat, (toBytes k v).length = k := by
      intro k; induction k with
      | zero => intro v; rfl
      | succ k ih => intro v; simp [toBytes, ih]
    have hbody : (logBody typ b u).length ≤ 4096 := by
      unfold logBody; split
      · simp [hlen]
      · exact hb
    refine set (set (when (inc (addSat ?_ hc.2.1) hc.2.2.1) fun _ h => set (setWide h rfl rfl) rfl) rfl) rfl
    have := putBytes (l := logHeader u typ len src sub at_ ++ (logBody typ b u ++ List.replicate (8 * len - 8 - (logBody typ b u).length) 0))
      (x := caskBase (u.get (logCask i) - 1) + u.get (logFill i)) h1
      (by unfold caskBase; omega)
      (by simp only [List.length_append, List.length_replicate, logHeader, hlen]; unfold caskBase; unfold logCask logFill ix; omega)
    exact ⟨this.get, this.byte, this.now, this.bus, this.held, this.rest⟩

theorem logPlace {a s t : State} {typ len src sub at_ : Nat} {b : List Byte} (h : Reports a s) (hl : len ≤ 512) (hb : b.length ≤ 4096)
    (q : logPlace typ len src sub at_ b s = some t) : Reports a t := by
  unfold Machine.logPlace at q
  dsimp only at q
  split at q
  · split at q
    · exact absurd q (by simp)
    · rename_i e
      exact logPut (logPut h (by omega) (by simp) e) hl hb q
  · exact logPut h hl hb q

theorem logDrop {a s : State} (h : Reports a s) : Reports a (logDrop s) := inc (inc h rfl) rfl

theorem logRecord {a s t : State} {typ len src sub at_ : Nat} {b : List Byte} {r : Bool} (h : Reports a s) (hl : len ≤ 512) (hb : b.length ≤ 4096)
    (q : logRecord typ len src sub at_ b s = (r, t)) : Reports a t := by
  unfold Machine.logRecord at q
  dsimp only at q
  split at q
  · split at q
    · cases q
      rename_i e
      obtain ⟨u, hu, hp⟩ := Option.bind_eq_some_iff.1 e
      refine logPlace ?_ hl hb hp
      split at hu
      · cases hu; exact h
      · obtain ⟨v, hv, rfl⟩ := Option.map_eq_some_iff.1 hu
        exact set (logPlace h (by omega) (by simp [toBytes]) hv) rfl
    · cases q; exact logDrop h
  · cases q; exact h

theorem reportEvent {a s t : State} {e : Nat} {r : Bool} (h : Reports a s) (q : reportEvent e s = (r, t)) : Reports a t := by
  unfold Machine.reportEvent at q
  dsimp only at q
  split at q
  · exact logRecord (routeEvent h) (by omega) (by simp [toBytes]) q
  · cases q; exact routeEvent h

theorem trigSet {a s : State} {k c : Nat} (h : Reports a s) : Reports a (trigSet k c s) := by
  unfold Machine.trigSet
  exact cond (set (set (set (set (setWide h rfl rfl) rfl) rfl) rfl) rfl) (cond (cond (set (set h rfl) rfl) (inc h rfl)) (cond (inc h rfl) h))

theorem page (p w : Nat) (hp : p < 64) (hw : w < 64) : reported ((LEDGER_PAGE_p_W p w).key / 32) = true := by
  simp [reported, LEDGER_PAGE_p_W, Fld.key]; omega

theorem live (w : Nat) (hw : w < 2048) : reported ((LEDGER_LIVE_w_W w).key / 32) = true := by
  simp [reported, LEDGER_LIVE_w_W, Fld.key]; omega

theorem led (p : Nat) (hp : p < 64) : reported ((ledUncarried p).key / 32) = true ∧ reported ((ledDirty p).key / 32) = true := by
  simp [reported, ledUncarried, ledDirty, ix, Fld.key]; omega

theorem page_lt (s : State) : s.get LEDGER_FLT_STAT_PAGE < 64 := State.get_lt s LEDGER_FLT_STAT_PAGE

theorem ledAppend {a s : State} {code c : Nat} (h : Reports a s) : Reports a (ledAppend code c s) := by
  unfold Machine.ledAppend
  dsimp only
  have hp : (s.get LEDGER_FLT_STAT_PAGE) < 64 := page_lt s
  generalize s.get LEDGER_FLT_STAT_PAGE = p at *
  have hk : s.get LEDGER_FLT_STAT_FILL % 16 < 16 := Nat.mod_lt _ (by omega)
  generalize s.get LEDGER_FLT_STAT_FILL % 16 = k at *
  have l := led p hp
  refine set (inc (set (set (set (set (set (set h (live _ (by omega))) (page _ _ hp (by omega))) (page _ _ hp (by omega))) (page _ _ hp (by omega)))
    (page _ _ hp (by omega))) rfl) l.1) l.2

theorem ledOpenPage {a s : State} (h : Reports a s) : Reports a (ledOpenPage s) := by
  unfold Machine.ledOpenPage
  have hp : (s.get LEDGER_FLT_STAT_PAGE + 1) % 64 < 64 := Nat.mod_lt _ (by omega)
  have l := led _ hp
  exact set (set (set (set (each (addSat h rfl) fun i hi _ h => set h (page _ _ hp (List.mem_range.1 hi))) l.1) l.2) rfl) rfl

theorem ledRepeat {a s : State} (h : Reports a s) : Reports a (ledRepeat s) := by
  unfold Machine.ledRepeat
  have l := led _ (page_lt s)
  exact set (set h (page _ _ (page_lt s) (by omega))) l.2

theorem late (c : Nat) (h : c ≤ 2) : reported ((ledLateCls c).key / 32) = true := by
  simp [reported, ledLateCls, ix, Fld.key]; omega

theorem ledEnter {a s : State} {code c : Nat} (h : Reports a s) (hc : c ≤ 2) : Reports a (ledEnter code c s) := by
  unfold Machine.ledEnter
  have h1 := inc h (live (72 + c) (by omega))
  exact cond (ledRepeat h1) (cond (ledAppend (ledOpenPage h1)) (ledAppend h1))

theorem faultEntry {a s : State} {code c : Nat} (h : Reports a s) (hc : c ≤ 2) : Reports a (faultEntry code c s) := by
  unfold Machine.faultEntry
  exact cond (ledEnter h hc) (cond ⟨h.get, h.byte, h.now, h.bus, h.held, h.rest⟩ (inc (inc h rfl) (late c hc)))

theorem reportFault {a s t : State} {code c : Nat} {r : Bool} (h : Reports a s) (hc : c ≤ 2) (q : reportFault code c s = (r, t)) : Reports a t := by
  unfold Machine.reportFault at q
  dsimp only at q
  split at q
  · exact logRecord (faultEntry h hc) (by omega) (by simp [toBytes]) q
  · cases q; exact faultEntry h hc

/-- A report names an event, or a code of one of the three classes. -/
def legal (r : Report) : Prop := match r with
  | .event _ => True
  | .fault _ c => c ≤ 2

theorem drops_legal (b : Bool) : ∀ r ∈ dropReports b, legal r := by cases b <;> simp [dropReports, legal]
theorem trigs_legal (b : Bool) : ∀ r ∈ trigReports b, legal r := by cases b <;> simp [trigReports, legal]

/-- One report changes at most what a report writes, and raises legal ones. -/
theorem reportOne {a s t : State} {r : Report} {m : List Report} (h : Reports a s) (hr : legal r) (q : reportOne r s = (m, t)) :
    Reports a t ∧ ∀ x ∈ m, legal x := by
  cases r with
  | event e =>
    cases q
    refine ⟨when (reportEvent h (Prod.eta _).symm) fun _ h => trigSet h, fun x hx => ?_⟩
    exact (List.mem_append.1 hx).elim (drops_legal _ x) (trigs_legal _ x)
  | fault c k =>
    cases q
    refine ⟨when (reportFault h hr (Prod.eta _).symm) fun _ h => trigSet h, fun x hx => ?_⟩
    refine (List.mem_append.1 hx).elim (fun h => ?_) fun h => (List.mem_append.1 h).elim (drops_legal _ x) (trigs_legal _ x)
    split at h
    · rw [List.mem_singleton.1 h]; exact Nat.zero_le 2
    · exact absurd h (by simp)

/-- Reports, and those that they raise, change at most what a report writes. -/
theorem reports {a s : State} {k : Nat} {l : List Report} (h : Reports a s) (hl : ∀ r ∈ l, legal r) : Reports a (reports k l s) := by
  induction k generalizing l s with
  | zero => exact h
  | succ k ih =>
    cases l with
    | nil => exact h
    | cons r l =>
      have o := reportOne h (hl r (by simp)) (Prod.eta _).symm
      exact ih o.1 fun x hx => (List.mem_append.1 hx).elim (o.2 x) fun h => hl x (by simp [h])

end Reports

/-- Raising an event changes at most what a report writes. -/
theorem raiseEvent_reports (e : Nat) (s : State) : Reports s (raiseEvent e s) :=
  Reports.reports (Reports.refl s) (by simp [Reports.legal])

theorem raiseStall_reports (n i : Nat) (s : State) : Reports s (raiseStall n i s) := raiseEvent_reports _ s

/-- A Logbook trigger changes at most what a report writes. -/
theorem logTrigger_reports (kind code : Nat) (s : State) : Reports s (logTrigger kind code s) :=
  Reports.reports (Reports.trigSet (Reports.refl s)) (Reports.trigs_legal _)

/-- Recording a fault code changes at most what a report writes. -/
theorem recordFault_reports (code : Nat) (c : Cls) (s : State) : Reports s (recordFault code c s) :=
  Reports.reports (Reports.refl s) (by cases c <;> simp [Reports.legal, clsNum])

/-- A fault code of class `RIDE` is recorded and does nothing else. -/
theorem raiseFault_ride_reports (code : Nat) (s : State) : Reports s (raiseFault code .ride s) := recordFault_reports code .ride s

theorem raiseStallFault_ride_reports (n blk cause : Nat) (s : State) : Reports s (raiseStallFault n blk cause .ride s) :=
  recordFault_reports _ .ride s

end Sys2Proof.Machine
end

