-- ==== Sys2Proof/WellFormed.lean ====
section
/-!
DEFINITION. Well-formed commands: what the rules say of the operands that come from outside the block, such as how many words a frame has.
The model's own check; exec runs on any operands.
-/

namespace Sys2Proof

/-- A transaction of a Yoke core: 1, 2 or 4 bytes, aligned to its size (R350). -/
def txnWf (t : Txn) : Bool :=
  (t.size == 1 || t.size == 2 || t.size == 4) && decide (t.addr.toNat % t.size.toNat = 0)

/-- Whether a command's operands have the form its rule gives them. -/
def Instr.wf (i : Instr) : Bool :=
  match i with
  | .registerWrite _ a _ => decide (a.toNat % 4 = 0)
  | .accessViolation .. => true
  | .votedSramRead .. => true
  | .wideWordHold _ a _ => decide (a.toNat % 4 = 0)
  | .wideWordApply _ a _ => decide (a.toNat % 4 = 0)
  | .wideReadSnapshot _ a => decide (a.toNat % 4 = 0)
  | .abort _ a => decide (a.toNat % 4 = 0)
  | .commandClear _ a => decide (a.toNat % 4 = 0)
  | .unlistedCommand _ a _ => decide (a.toNat % 4 = 0)
  | .xtalLost => true
  | .fineCoarse .. => true
  | .fineReturn .. => true
  | .syncOutPulse => true
  | .syncInPulse .. => true
  | .syncLost .. => true
  | .lock => true
  | .epochLoad => true
  | .release => true
  | .slackMinWrite .. => true
  | .selLoad .. => true
  | .loadInstant _ _ _ bits => decide (bits.length = 6)
  | .carrierZero .. => true
  | .conversionDone .. => true
  | .checkConversionDone .. => true
  | .modCtrlWrite .. => true
  | .modFilterFilled .. => true
  | .evModClip .. => true
  | .modStuck .. => true
  | .modUnstuck .. => true
  | .converterCheckStart .. => true
  | .converterCheckDone _ devs spreads => decide (devs.length = 5) && decide (spreads.length = 5)
  | .spareCheckDone devs spreads => decide (devs.length = 5) && decide (spreads.length = 5)
  | .pathReturn .. => true
  | .calRun .. => true
  | .zeroApplied .. => true
  | .fullApplied .. => true
  | .captureDone _ means spreads => decide (means.length = 22) && decide (spreads.length = 22)
  | .calWaitTimeout .. => true
  | .calCommitDone .. => true
  | .monEnable .. => true
  | .monDisable .. => true
  | .monThrLoad .. => true
  | .evMonResolved _ _ samples => !samples.isEmpty
  | .monFilterAssert _ _ samples => !samples.isEmpty
  | .monFilterDeassert _ _ samples => !samples.isEmpty
  | .monLatchClear .. => true
  | .monHardAssert _ _ samples => !samples.isEmpty
  | .monHardDeassert _ _ samples => !samples.isEmpty
  | .posEnable .. => true
  | .posDisable .. => true
  | .posInternalInstant .. => true
  | .resUpdate .. => true
  | .excFault .. => true
  | .encoderEdge .. => true
  | .encoderLoss .. => true
  | .index .. => true
  | .hallEdge .. => true
  | .evHallIllegal .. => true
  | .hallIllegalTimeout .. => true
  | .ssiFrame .. => true
  | .sentFrame .. => true
  | .sentTimeout .. => true
  | .travelPreset .. => true
  | .probeEdge .. => true
  | .probeRearm .. => true
  | .stillTimeout .. => true
  | .bemfQualSet .. => true
  | .bemfQualClear .. => true
  | .loopStart .. => true
  | .loopStop .. => true
  | .pset .. => true
  | .evPset .. => true
  | .referenceApply .. => true
  | .loopPeriodDone .. => true
  | .latePeriod .. => true
  | .recoveryDone .. => true
  | .evEngineRejoin .. => true
  | .ferrTimeout .. => true
  | .pwmStart .. => true
  | .evPwmStart .. => true
  | .pwmStop .. => true
  | .tripClear _ mask => mask != 0
  | .arm .. => true
  | .compareEdge .. => true
  | .deadTimeEnd .. => true
  | .minpEnd .. => true
  | .tripAssert .. => true
  | .tripJudge .. => true
  | .coherentLoad => true
  | .refCarrierEnable => true
  | .refCarrierDisable => true
  | .referenceZero .. => true
  | .auxEnable .. => true
  | .auxDisable .. => true
  | .auxZero .. => true
  | .auxOnTimeEnd .. => true
  | .evAuxDemand .. => true
  | .demandEnd .. => true
  | .auxEnFall => true
  | .auxEnRise => true
  | .heartbeat .. => true
  | .downlinkAccessFrame .. => true
  | .statusFrame .. => true
  | .replyFrame .. => true
  | .uplinkFrameError .. => true
  | .faultPattern .. => true
  | .uplinkSilence .. => true
  | .noFrameTimeout .. => true
  | .reinStart .. => true
  | .trainLockTimeout .. => true
  | .reinStop .. => true
  | .send .. => true
  | .accessTimeout .. => true
  | .safe .. => true
  | .decisionWaitEnd .. => true
  | .dwellExpiry .. => true
  | .swOvrWrite .. => true
  | .stallEnFall .. => true
  | .stallEnRise .. => true
  | .evPsfClrFail .. => true
  | .protRelease .. => true
  | .evSafeRelease .. => true
  | .dischargeRun .. => true
  | .disReq => true
  | .evDisDone => true
  | .dischargeTimeout => true
  | .energyDecay => true
  | .tjAgeTimeout .. => true
  | .derateTick .. => true
  | .sheepdogCycle _ _ _ dev => decide (dev.length = 4)
  | .kick .. => true
  | .watchdogExpiry => true
  | .shdSramUe => true
  | .dsReq => true
  | .evShdCmd .. => true
  | .safetyRaise .. => true
  | .safetyAck mask => mask != 0
  | .windowApply .. => true
  | .evSto .. => true
  | .stoRise .. => true
  | .evStoDisc => true
  | .stoAck => true
  | .ss1Run => true
  | .ss1Restart => true
  | .fnSelWrite .. => true
  | .ctcCloseWrite .. => true
  | .ctcForceOpen => true
  | .evCtcFault .. => true
  | .disRepeat => true
  | .sealCmd .. => true
  | .evSealDone .. => true
  | .yokeTransaction _ t _ _ => txnWf t
  | .voteTimeout => true
  | .yokeSramUe .. => true
  | .sigReq .. => true
  | .interruptEntry .. => true
  | .resync => true
  | .autoResync => true
  | .evYokeResync .. => true
  | .yokeWdKick .. => true
  | .evYokeWd => true
  | .evLockstepBroken .. => true
  | .grantDecision _ ages => decide (ages.length = 6)
  | .burstDone .. => true
  | .refresh .. => true
  | .dramTempRead .. => true
  | .porterCommit => true
  | .alloc .. => true
  | .free .. => true
  | .give .. => true
  | .caskZeroed .. => true
  | .evCellarUe .. => true
  | .stagingFlush => true
  | .timeRecord => true
  | .streamRecordClose _ _ samples _ => decide (samples.length ≤ 121)
  | .trigger => true
  | .evLogFrozen => true
  | .logbookArm => true
  | .rainflowTick => true
  | .ledgerAutoCommit => true
  | .commit => true
  | .evLedgerCommit .. => true
  | .ledgerLoadDone => true
  | .calSet => true
  | .align => true
  | .autoAlign => true
  | .vbakCheck .. => true
  | .canEnable .. => true
  | .canDisable .. => true
  | .canIntegrated .. => true
  | .push .. => true
  | .flush .. => true
  | .recover .. => true
  | .canRecovered .. => true
  | .evCanTx .. => true
  | .evCankRx _ _ flags _ data _ => decide (data.length ≤ 64) && decide (flags.toNat < 64)
  | .protocolException .. => true
  | .canRxDominant .. => true
  | .rxqAck .. => true
  | .txrAck .. => true
  | .ethFrameRx _ bytes _ _ => decide (14 ≤ bytes.length)
  | .evEthRx => true
  | .ethRxReturn .. => true
  | .ethTxQueue .. => true
  | .ethFrameTx .. => true
  | .ethTxAgeExpiry => true
  | .evEthLink .. => true
  | .syncMessage .. => true
  | .syncTransmit => true
  | .peerDelayMessage .. => true
  | .syncTimeout => true
  | .gmWrite => true
  | .apply .. => true
  | .evGclApply .. => true
  | .gateEntryEnd .. => true
  | .disable .. => true
  | .check => true
  | .evAuthResult .. => true
  | .authLockEnd => true
  | .evAuthLapse => true
  | .authSecond => true
  | .evAuthInhibit => true
  | .write => true
  | .evConfigDone .. => true
  | .reconf => true
  | .reconfDone => true
  | .confirm => true
  | .abandon => true
  | .rollfwd => true
  | .prog .. => true
  | .revoke => true
  | .evKeyDone .. => true
  | .bistRun => true
  | .retest => true
  | .evBistDone .. => true
  | .evRetestDone => true
  | .burn => true
  | .close => true
  | .openRead => true
  | .openWrite => true
  | .lockdown => true
  | .extest .. => true
  | .intscan .. => true
  | .devreset => true
  | .powerUp => true
  | .porRelease .. => true
  | .powerOnReset .. => true
  | .evVinLow => true
  | .evVinHigh => true
  | .vinHighClear => true
  | .resetLLow => true
  | .deviceReset kind _ => decide (1 ≤ kind.toNat) && decide (kind.toNat ≤ 7)
  | .deviceResetRelease .. => true
  | .device .. => true
  | .yoke .. => true
  | .innkeeper .. => true
  | .stall .. => true
  | .stallResetDone => true
  | .bootStart .. => true
  | .xtalOk => true
  | .xtalBootTimeout => true
  | .selfTestDone .. => true
  | .imageLoaded .. => true
  | .evBootDone => true
  | .bootTimeout => true
  | .lantern => true
  | .offCmd => true
  | .lanternParked => true
  | .wake .. => true
  | .calendarAlarm => true
  | .monitorWake => true
  | .vsensOverload .. => true
  | .vsensEnable .. => true
  | .powerMeasure _ rails _ _ _ => decide (rails.length = 6)
  | .trainStepTimeout .. => true
  | .rollfwdDone .. => true
  | .burnDone .. => true
  | .calendarSlewEnd => true
  | .canRxError .. => true
  | .reinPatternEnd .. => true

end Sys2Proof
end

