-- ==== Sys2Proof/Tests/Slice0.lean ====
section
/-!
SUPPORT. Tests: the well-formedness smoke test, states that meet the hypotheses of the statements, and small checks of single steps against
values computed by hand from the rules.
-/

namespace Sys2Proof.Tests
open Sys2Proof Sys2Proof.Machine Sys2Proof.Machine.Reg
set_option Elab.async false

/-- The reset state with some fields set. -/
def st (l : List (Fld × Nat)) : State := l.foldl (fun s e => s.set e.1 e.2) State.reset

/-- The state after one command. -/
def after (c : Instr) (s : State) : State := Out.state (exec c s) s

/-- A content of a sealed block that meets every rule of its layout: limits of 1.0, travel windows from 0 to 1. -/
def sealPlain : List Nat :=
  [0x5AFEB10C, 8, 0x1000000, 0x10000, 0x10000] ++ (List.range 187).map (fun j =>
    let i := j + 5
    if 11 ≤ i ∧ i < 15 then 0x3F800000 else if i = 22 then 0x10000
    else if 32 ≤ i ∧ i < 64 ∧ i % 8 = 5 then 0x10100 else if 64 ≤ i ∧ i % 8 = 5 then 1 else 0)

/-- A state in which the Yoke may write `SAFETY_SEAL_CMD` and its casks 0 to 7 hold that content. -/
def sealReady : State := (st [(SAFETY_STAT_STRAP, 10), (CELLAR_OWNj_OWN 0, 0x11111111)]).putWords 0x20000000 sealPlain
theorem firstBelow_none (p : Nat → Bool) (n : Nat) (h : ∀ i < n, p i = false) : firstBelow n p = none := by
  simp only [firstBelow, List.find?_eq_none, List.mem_range, Bool.not_eq_true]; exact h
theorem memGet_unlisted (a : Nat) : ∀ m : List Host.Cell, (∀ c ∈ m, c.1 ≠ a) → memGet a m = memDefault a := by
  intro m; induction m with
  | nil => intro _; rfl
  | cons c r ih => intro h; obtain ⟨b, v⟩ := c; have := h (b, v) (by simp); simp at this; simp [memGet, this]; exact ih (fun c hc => h c (by simp [hc]))
theorem sealReady_low : (sealReady.mem.all (fun c => decide (c.1 < 0x20000300))) = true := by decide +kernel
theorem sealReady_zero (i : Nat) (h : 192 ≤ i) (h' : i < 8190) : sealReady.wordAt (0x20000000 + 4 * i) = 0 := by
  have z : ∀ a, 0x20000300 ≤ a → a < 0x20008000 → memGet a sealReady.mem = 0 := by
    intro a h1 h2
    rw [memGet_unlisted]
    · rw [memDefault, if_neg (by omega), if_neg (by omega)]
    · intro c hc; have := List.all_eq_true.mp sealReady_low c hc; simp at this; omega
  have bytes : ∀ k < 4, memGet (0x20000000 + 4 * i + k) sealReady.mem = 0 := fun k hk => z _ (by omega) (by omega)
  have first := bytes 0 (by decide)
  rw [Nat.add_zero] at first
  simp only [State.wordAt, memTake, Nat.add_assoc, Nat.reduceAdd]
  simp only [Nat.add_assoc] at bytes first
  rw [first, bytes 1 (by decide), bytes 2 (by decide), bytes 3 (by decide)]
  rfl
theorem sealReady_words : ∀ i : Nat, i < 192 → sealWordOk (fun i => sealReady.wordAt (0x20000000 + 4 * i)) i = true := by decide +kernel
theorem sealReady_ok : sealBad (fun i => sealReady.wordAt (caskBase (sealReady.get SAFETY_SEAL_SRC_CASK) + 4 * i)) = none := by
  have e : caskBase (sealReady.get SAFETY_SEAL_SRC_CASK) = 0x20000000 := by decide +kernel
  rw [e]
  apply firstBelow_none
  intro i hi1
  by_cases h : i < 192
  · simp [sealReady_words i h]
  · have := sealReady_zero i (by omega) hi1
    have low : ∀ n ≤ 192, ¬ i < n := fun n hn => by omega
    have one : ∀ n < 192, i ≠ n := fun n hn => by omega
    by_cases h256 : i < 256
    · simp [sealWordOk, this, low, one, h256]
    · by_cases h2304 : i < 2304
      · simp [sealWordOk, this, low, one, h256, h2304]; rfl
      · simp [sealWordOk, this, low, one, h256, h2304]

/-! ### The queue and the step -/

theorem test_step_runs_front : (step { State.reset with pending := [.vinHighClear, .porterCommit] } = exec .vinHighClear
    { State.reset with pending := [.porterCommit] }) := rfl

/-- States for the three kinds of an idle step. -/
theorem test_wit_idle : ((st [(offState, 1)]).get offState ≠ 0 ∧ (st [(resetHeld, 2)]).get resetHeld = 2) ∧
    ((st [(lanternOn, 1)]).get offState = 0 ∧ (st [(lanternOn, 1)]).get resetHeld ≠ 2 ∧ (st [(lanternOn, 1)]).get lanternOn ≠ 0) ∧
    (State.reset.get offState = 0 ∧ State.reset.get resetHeld ≠ 2 ∧ State.reset.get lanternOn = 0) := by decide +kernel

/-- R56: a tick in operation. R408: 32,768 of 200,000,000 a tick. -/
theorem test_tick : (Out.state (step State.reset) State.reset).tbNow = 1#64 ∧ (Out.state (step State.reset) State.reset).get calAcc = 32768 := by
  decide +kernel

/-- R408: the calendar alone runs in the power-on reset. -/
theorem test_tick_off : (Out.state (step (st [(resetHeld, 2)])) State.reset).get calAcc = 32768 ∧
    (Out.state (step (st [(resetHeld, 2)])) State.reset).tbNow = 0#64 := by decide +kernel

theorem test_no_bits : decodeTableWord 32 0xFFFFFFFF = none := rfl

/-! ### The register bus -/

/-- Whether some register at `a` meets the hypotheses of a plain write by `who`. -/
def plainAt (who : Req) (a v : Nat) : Bool :=
  match regAt a with
  | some (r, l) => decide ((r.fs.map RField.lsb).Nodup) && !r.fs.isEmpty &&
      r.fs.all (fun f => f.acc == .rw && mayWrite who l f && decide (f.cond = .none) && decide (f.lsb < 32)) && !writeBad a v r l State.reset
  | none => false

/-- Whether the register at `a` lets a write by `who` reach its fields (`named`) or names another writer, read-only ones apart. -/
def reachedAt (who : Req) (a : Nat) (named writable cmd : Bool) (s : State) : Bool :=
  match regAt a with
  | some (r, l) => a % 4 == 0 && mayAccess who a true s && !windowShut a true s && r.isCmd == cmd && r.fs.any RField.writable == writable &&
      r.fs.any (fun f => f.writable && mayWrite who l f) == named && (ownWrite a 1 s).isNone
  | none => false

theorem test_wit_plain : plainAt .i 0x40020000 1 = true := by decide +kernel
theorem test_wit_write : reachedAt .i 0x400C8000 true true false State.reset = true ∧ reachedAt .y 0x400C8000 false true false State.reset = true ∧
    reachedAt .y 0x40008000 false false false State.reset = true ∧ (wideFind 0x400C8000).isNone = true ∧ State.reset.get YOKE_STAT_MODE ≠ 3 ∧
    (st [(YOKE_STAT_MODE, 3)]).get YOKE_STAT_MODE = 3 ∧ reachedAt .d 0x400C8000 true true false (debugSeen .d State.reset) = true := by decide +kernel
/-- R353: a voter that has stopped writes nothing. R474: a debugger's write shows it. -/
theorem test_stopped : (after (.registerWrite .y 0x00400C8000#40 0x00000001#32) (st [(YOKE_STAT_MODE, 3)])).regs = (st [(YOKE_STAT_MODE, 3)]).regs ∧
    (after (.registerWrite .d 0x00400C8000#40 0x00000000#32) State.reset).get BIST_DBG_CONN = 1 := by decide +kernel
/-- R489: the window of a Stall under a Stall reset. -/
theorem test_wit_shut : windowShut 0x41008000 true (st [(stallRst, 1)]) = true ∧ mayAccess .y 0x41008000 true (st [(stallRst, 1)]) = true := by
    decide +kernel
theorem test_write : ((after (.registerWrite .i 0x00400C8000#40 0x00000000#32) State.reset).bus.err = false) ∧
    (after (.registerWrite .y 0x00400C8000#40 0x00000001#32) State.reset).bus.err = true := by decide +kernel

/-- R23: a reserved address, and a partition without right. -/
theorem test_wit_violation : mayAccess .i 0x40150000 true State.reset = false ∧ regionOf 0x40150000 State.reset = none ∧
    mayAccess .i 0x10000000 true State.reset = false ∧ mayAccess .i 0x40150000 false State.reset = false ∧
    State.reset.get SYS_VIOL_INFO_VALID = 0 ∧ (st [(SYS_VIOL_INFO_VALID, 1)]).get SYS_VIOL_INFO_VALID ≠ 0 := by decide +kernel
theorem test_violation : (after (.accessViolation .i 0x0040150000#40 true) State.reset).get SYS_VIOL_ADDR_LO_ADDR = 0x40150000 ∧
    (after (.accessViolation .i 0x0040150000#40 true) State.reset).get SYS_VIOL_COUNT_COUNT = 1 := by decide +kernel

/-- R24: core copies of one word, two equal and all different. -/
def cores (a b c : Nat) : State := ((State.reset.putWord (coreBase 0) a).putWord (coreBase 1) b).putWord (coreBase 2) c
theorem test_wit_voted : (cores 5 7 5).wordAt (coreBase 0) = 5 ∧ (cores 5 7 5).wordAt (coreBase 2) = 5 ∧
    (cores 5 6 7).wordAt (coreBase 0) ≠ (cores 5 6 7).wordAt (coreBase 1) ∧ (cores 5 6 7).wordAt (coreBase 0) ≠ (cores 5 6 7).wordAt (coreBase 2) ∧
    (cores 5 6 7).wordAt (coreBase 1) ≠ (cores 5 6 7).wordAt (coreBase 2) := by decide +kernel
theorem test_voted : (after (.votedSramRead 0#18) (cores 5 7 5)).bus.data = 5#64 ∧ (after (.votedSramRead 0#18) (cores 5 6 7)).bus.err = true := by
    decide +kernel

/-- Whether the word at `a` is a lower (`low`) or the highest word of a held value that `who` writes with `v`, and whether R528 discards `v`. -/
def wideAt (who : Req) (a v : Nat) (low bad : Bool) (s : State) : Bool :=
  match regAt a, wideFind a with
  | some (r, l), some (true, ws) => a % 4 == 0 && mayAccess who a true s && !windowShut a true s && !r.isCmd &&
      r.fs.any (fun f => f.writable && mayWrite who l f) && decide (a + 4 ≤ ws.foldl max 0) == low && writeBad a v r l s == bad
  | _, _ => false

/-- R47: a lower and the highest word of a gate list's base time, a low word that R528 discards, a loop's references, a travel preset, a torque
window, two held words of which one is held, and a snapshot. -/
theorem test_wit_wide : wideAt .i 0x400C8024 5 true false State.reset = true ∧ wideAt .i 0x400E8008 0xFFFFFFFF true true State.reset = true ∧
    wideAt .i 0x400C802C 0 false false State.reset = true ∧ regBlock 0x400C802C = (4, 12) ∧
    wideAt .y 0x4104000C 0 false false State.reset = true ∧ regBlock 0x4104000C = (0, 4) ∧
    wideAt .y 0x41038034 0 false false State.reset = true ∧ regBlock 0x41038034 = (0, 3) ∧
    wideAt .y 0x40068034 0 false false State.reset = true ∧ regBlock 0x40068034 = (4, 6) ∧
    (∀ w ∈ [0x400C8024, 0x400C8028], (match regAt w with
      | some (r, _) => decide ((r.fs.map RField.lsb).Nodup) && r.fs.all (fun f => decide (f.lsb < 32)) | none => false) = true) ∧
    [0x400C8024, 0x400C8028].Nodup ∧ [(0x400C8024, 5)].find? (fun e : Nat × Nat => e.1 == 0x400C8024) = some (0x400C8024, 5) ∧
    (match wideFind 0x400C8024 with | some (h, ws) => h && ws == [0x400C8024, 0x400C8028, 0x400C802C] | none => false) = true ∧
    mayAccess .i 0x400C8024 false State.reset = true ∧ windowShut 0x400C8024 false State.reset = false := by decide +kernel
theorem test_wide_hold : (after (.wideWordHold .i 0x00400C8024#40 5#32) State.reset).get (ETH_Pp_GCL_BASE_NS_NS 1) = 0 ∧
    (after (.wideWordApply .i 0x00400C802C#40 0#32) (after (.wideWordHold .i 0x00400C8024#40 5#32) State.reset)).get (ETH_Pp_GCL_BASE_NS_NS 1) = 5
        := by
  decide +kernel

/-- R9, R10, R527 at `LOGBOOK_CMD` and at a running `BIST_CMD`. -/
def cmdAt (who : Req) (a : Nat) (s : State) (busy : Bool) : Bool :=
  match regAt a with
  | some (r, _) => r.isCmd && mayCommand who r [] && a % 4 == 0 && mayAccess who a true s && !windowShut a true s &&
      (s.get (cmdRegAt a).status == stBusy) == busy
  | none => false
theorem test_wit_command : cmdAt .y 0x40118000 State.reset false = true ∨ cmdAt .i 0x400F8000 State.reset false = true := by decide +kernel
/-- R487: a reset code that is not for the writer. -/
theorem test_wit_unnamed : cmdAt .y 0x40008004 State.reset false = true ∧ rstNamed .y 2 = false := by decide +kernel
theorem test_wit_busy : cmdAt .i 0x400F8000 (st [(BIST_CMD_STATUS, 1), (BIST_CMD_CODE, 1)]) true = true := by decide +kernel
theorem test_unlisted : commandAt .i 0x400F8000 0x55 = none ∧ (after (.unlistedCommand .i 0x00400F8000#40 0x55#8) State.reset).get BIST_CMD_STATUS =
    stRefused ∧
    (after (.unlistedCommand .i 0x00400F8000#40 0x55#8) State.reset).get BIST_CMD_CODE = 0x55 := by decide +kernel
theorem test_clear : (after (.commandClear .i 0x00400F8000#40) (st [(BIST_CMD_STATUS, 3), (BIST_CMD_CODE, 9)])).get BIST_CMD_CODE = 0 := by
    decide +kernel
theorem test_abort : (after (.abort .i 0x00400F8000#40) (st [(BIST_CMD_STATUS, 1), (BIST_CMD_CODE, 1)])).get BIST_CMD_STATUS = stAborted := by
    decide +kernel

/-! ### Timebase and calendar -/

/-- R71: an eighth good pulse in a row locks; an error beyond 10 ticks does not. -/
theorem test_sync_lock : (syncJudge 12 (st [(tbGood, 7)])).get TB_STATUS_SYNC_LOCK = 1 ∧ (syncJudge 13 (st [(tbGood, 7)])).get TB_STATUS_SYNC_LOCK =
    0 := by
  decide +kernel
/-- R59: 64 cycles are exactly 390,625 ticks. -/
theorem test_lantern : ((List.range 64).foldl (fun s _ => lanternTick s) State.reset).tbNow = 390625#64 := by decide +kernel

theorem test_vbak : (after (.vbakCheck 1999#16) State.reset).get LEDGER_CAL_STAT_VBAK_LOW = 1 := by decide +kernel
theorem test_calendar_carry : (calCount (st [(LEDGER_CAL_SUB_SUB, 32767)])).get LEDGER_CAL_SEC_LO_SEC = 1 := by decide +kernel

/-! ### Power, resets and boot -/

theorem test_supply : (after .evVinLow (st [(vinArmed, 1)])).get POWER_STAT_LOW_SEEN = 1 ∧ (after .evVinHigh State.reset).get POWER_STAT_HIGH_SEEN =
    1 := by
  decide +kernel
/-- R480: a 5.0 V rail at 5 V and at 0 V. -/
theorem test_measure : (after (.powerMeasure 2400#16 [5000#16, 0#16, 0#16, 0#16, 0#16, 0#16] 250#16 0#16 0#16) State.reset).get POWER_VIN_V = 2400 ∧
    (after (.powerMeasure 3101#16 [0#16, 0#16, 0#16, 0#16, 0#16, 0#16] 250#16 0#16 0#16) State.reset).get vinArmed = 1 := by decide +kernel

theorem test_reset_cause : (after (.device .y) State.reset).get SYS_RST_CAUSE_KIND = 2 ∧ (after (.stall .y 1) State.reset).get stallRst = 2 := by
  decide +kernel

/-- A device at a boot stage that began at tick 0, at a time. -/
def booting (stage : Nat) (at_ : BitVec 64) : State := { st [(SYS_BOOT_STAGE, stage), (bootStepAt, 1)] with tbNow := at_ }
theorem test_boot : (after .evBootDone (booting 5 100000)).get SYS_BOOT_TIME_US = 500 ∧ (after .xtalOk (booting 1 100000)).get SYS_BOOT_STAGE = 2 ∧
    (after .xtalOk (booting 1 99999)).get SYS_BOOT_STAGE = 1 ∧
    (after .bootTimeout (booting 4 600000000)).get SYS_RST_CAUSE_KIND = 6 := by decide +kernel

/-- A device that enters Lantern mode (1) or off (2). -/
def parking (code : Nat) : State := { st [(POWER_CMD_CODE, code), (POWER_CMD_STATUS, stBusy), (POWER_STAT_PHASE, 2)] with tbNow := 20000#64 }
theorem test_parked : (after .lanternParked (parking 1)).get lanternOn = 1 ∧ (after .lanternParked (parking 2)).get offState = 1 ∧
    (after (.wake true) (st [(lanternOn, 1), (POWER_WAKE_CFG_PIN_EN, 1)])).get POWER_WAKE_STAT_SRC = 1 := by decide +kernel

/-! ### States that meet the hypotheses of the statements, one for each clause -/

theorem test_wit_clock_and_placers :
    (∃ (s : State), s.get TB_STATUS_XTAL_OK ≠ 0 ∧ s.get TB_STATUS_XTAL_LOST = 0) ∧
    (∃ (e : BitVec 8), e.toInt.natAbs ≤ 16) ∧
    (∃ (k : Fin 5) (e : BitVec 8) (s : State), 16 < e.toInt.natAbs ∧ bitAt (s.get TB_STATUS_FINE_COARSE) k = false) ∧
    (∃ (k : Fin 5) (e : BitVec 8) (s : State), 16 < e.toInt.natAbs ∧ bitAt (s.get TB_STATUS_FINE_COARSE) k = true) ∧
    (∃ (k : Fin 5) (e : BitVec 8) (s : State), e.toInt.natAbs ≤ 8 ∧ s.get (tbCoarseAt k) + 200000 ≤ s.now) ∧
    (∃ (k : Fin 5) (e : BitVec 8) (s : State), (8 < e.toInt.natAbs ∨ s.now < s.get (tbCoarseAt k) + 200000)) :=
  ⟨⟨st [(TB_STATUS_XTAL_OK, 1)], by decide +kernel⟩,
   ⟨0, by decide +kernel⟩,
   ⟨1, 17, State.reset, by decide +kernel⟩,
   ⟨1, 17, st [(TB_STATUS_FINE_COARSE, 2 ^ 1)], by decide +kernel⟩,
   ⟨1, 0, { State.reset with tbNow := 20000000000#64 }, by decide +kernel⟩,
   ⟨1, 0, State.reset, by decide +kernel⟩⟩

theorem test_wit_synchronisation :
    (∃ (s : State), s.get TB_SYNC_CTRL_MODE = 1 ∧ s.now % 65536 = 0) ∧
    (∃ (f : Fin 64) (s : State), s.get TB_SYNC_CTRL_MODE = 2 ∧ (s.get TB_STATUS_SYNC_LOCK = 0 ∨ (sext 22 ((s.fineNow f + 2 ^ 22 - s.get
        TB_SYNC_CTRL_DLY) % 2 ^ 22)).natAbs ≤ 1280)) ∧
    (∃ (f : Fin 64) (s : State), s.get TB_SYNC_CTRL_MODE = 2 ∧ s.get TB_STATUS_SYNC_LOCK ≠ 0 ∧ 1280 < (sext 22 ((s.fineNow f + 2 ^ 22 - s.get
        TB_SYNC_CTRL_DLY) % 2 ^ 22)).natAbs) ∧
    (∃ (e : Int) (s : State), s.get TB_STATUS_SYNC_LOCK = 0 ∧ e.natAbs ≤ 12 ∧ s.get tbGood < 7) ∧
    (∃ (e : Int) (s : State), s.get TB_STATUS_SYNC_LOCK = 0 ∧ e.natAbs ≤ 12 ∧ s.get tbGood = 7) ∧
    (∃ (e : Int) (s : State), s.get TB_STATUS_SYNC_LOCK = 0 ∧ 12 < e.natAbs) ∧
    (∃ (e : Int) (s : State), s.get TB_STATUS_SYNC_LOCK ≠ 0 ∧ e.natAbs ≤ 1280) ∧
    (∃ (e : Int) (s : State), s.get TB_STATUS_SYNC_LOCK ≠ 0 ∧ 1280 < e.natAbs ∧ s.get tbBad < 2) ∧
    (∃ (e : Int) (s : State), s.get TB_STATUS_SYNC_LOCK ≠ 0 ∧ 1280 < e.natAbs ∧ s.get tbBad = 2) ∧
    (∃ (m : BitVec 2) (s : State), s.get TB_SYNC_CTRL_MODE = 2 ∧ s.get TB_STATUS_SYNC_LOCK ≠ 0 ∧ s.get tbBad + m.toNat < 3) ∧
    (∃ (m : BitVec 2) (s : State), s.get TB_SYNC_CTRL_MODE = 2 ∧ s.get TB_STATUS_SYNC_LOCK ≠ 0 ∧ 3 ≤ s.get tbBad + m.toNat) ∧
    (∃ (s : State), s.busy tbCmd = false ∧ anySwitching s = false ∧ s.get TB_SYNC_CTRL_MODE = 2 ∧ s.now / 65536 ≤ epochTicks s / 65536) ∧
    (∃ (s : State), s.busy tbCmd = false ∧ (anySwitching s = true ∨ s.get TB_SYNC_CTRL_MODE ≠ 2 ∨ epochTicks s / 65536 < s.now / 65536)) ∧
    (∃ (s : State), s.busy tbCmd = true ∧ s.now ≤ epochTicks s) ∧
    (∃ (s : State), s.busy tbCmd = true ∧ epochTicks s < s.now) ∧
    (∃ (s : State), s.busy tbCmd = false) :=
  ⟨⟨st [(TB_SYNC_CTRL_MODE, 1)], by decide +kernel⟩,
   ⟨1, st [(TB_SYNC_CTRL_MODE, 2)], by decide +kernel⟩,
   ⟨1, st [(TB_SYNC_CTRL_MODE, 2), (TB_STATUS_SYNC_LOCK, 1), (TB_SYNC_CTRL_DLY, 3000)], by decide +kernel⟩,
   ⟨0, State.reset, by decide +kernel⟩,
   ⟨0, st [(tbGood, 7)], by decide +kernel⟩,
   ⟨-13, State.reset, by decide +kernel⟩,
   ⟨0, st [(TB_STATUS_SYNC_LOCK, 1)], by decide +kernel⟩,
   ⟨1281, st [(TB_STATUS_SYNC_LOCK, 1)], by decide +kernel⟩,
   ⟨-1281, st [(TB_STATUS_SYNC_LOCK, 1), (tbBad, 2)], by decide +kernel⟩,
   ⟨0, st [(TB_SYNC_CTRL_MODE, 2), (TB_STATUS_SYNC_LOCK, 1)], by decide +kernel⟩,
   ⟨3, st [(TB_SYNC_CTRL_MODE, 2), (TB_STATUS_SYNC_LOCK, 1)], by decide +kernel⟩,
   ⟨st [(TB_SYNC_CTRL_MODE, 2)], by decide +kernel⟩,
   ⟨{ State.reset with tbNow := 20000000000#64 }, by decide +kernel⟩,
   ⟨st [(tbCmd.status, stBusy)], by decide +kernel⟩,
   ⟨{ st [(tbCmd.status, stBusy)] with tbNow := 20000000000#64 }, by decide +kernel⟩,
   ⟨State.reset, by decide +kernel⟩⟩

theorem test_wit_lantern_cycle :
    ∃ (s : State), -31 ≤ s.geti lanternAcc ∧ s.geti lanternAcc ≤ 32 :=
  ⟨State.reset, by decide +kernel⟩

theorem test_wit_calendar_commands :
    (∃ (s : State), s.busy clkCmd = false) ∧
    (∃ (s : State), s.busy clkCmd = false ∧ s.get ETH_AS_STAT_SYNCED ≠ 0) ∧
    (∃ (s : State), s.busy clkCmd = false ∧ s.get ETH_AS_STAT_SYNCED = 0) ∧
    (∃ (s : State), s.busy clkCmd = true ∧ s.get LEDGER_CAL_CMD_CODE = 1 ∧ s.get calAlignDue = 0) ∧
    (∃ (s : State), s.busy clkCmd = true ∧ s.get LEDGER_CAL_CMD_CODE = 2 ∧ s.get calAlignDue = 0) ∧
    (∃ (c : Nat), c < 2 ^ 48 * 32768) ∧
    (∃ (s : State), s.get LEDGER_CAL_CFG_AUTO ≠ 0 ∧ s.get ETH_AS_STAT_SYNCED ≠ 0 ∧ (s.get calAlignAt = 0 ∨ s.get calAlignAt - 1 + 2000000000 ≤
        s.now)) ∧
    (∃ (mv : BitVec 16) (s : State), (s.get vbakAt = 0 ∨ s.get vbakAt - 1 + 200000000 ≤ s.now) ∧ mv.toNat < 2000) ∧
    (∃ (mv : BitVec 16) (s : State), (s.get vbakAt = 0 ∨ s.get vbakAt - 1 + 200000000 ≤ s.now) ∧ 2000 ≤ mv.toNat) ∧
    (∃ (s : State), s.get LEDGER_CAL_STAT_SLEW ≠ 0 ∧ (calDiff (s.get calAcc) s).natAbs < calUnit) :=
  ⟨⟨State.reset, by decide +kernel⟩,
   ⟨st [(ETH_AS_STAT_SYNCED, 1)], by decide +kernel⟩,
   ⟨State.reset, by decide +kernel⟩,
   ⟨st [(clkCmd.status, stBusy), (LEDGER_CAL_CMD_CODE, 1)], by decide +kernel⟩,
   ⟨st [(clkCmd.status, stBusy), (LEDGER_CAL_CMD_CODE, 2)], by decide +kernel⟩,
   ⟨1, by decide +kernel⟩,
   ⟨{ st [(LEDGER_CAL_CFG_AUTO, 1), (ETH_AS_STAT_SYNCED, 1)] with tbNow := 20000000000#64 }, by decide +kernel⟩,
   ⟨0, { State.reset with tbNow := 20000000000#64 }, by decide +kernel⟩,
   ⟨2000, { State.reset with tbNow := 20000000000#64 }, by decide +kernel⟩,
   ⟨st [(LEDGER_CAL_STAT_SLEW, 1)], by decide +kernel⟩⟩

theorem test_wit_calendar_runs :
    (∃ (s : State), s.get calAcc + 32768 < 200000000) ∧
    (∃ (s : State), 200000000 ≤ s.get calAcc + 32768) ∧
    (∃ (s : State), s.busy clkCmd = false ∧ s.get calAlignDue = 0) ∧
    (∃ (s : State), s.get LEDGER_CAL_STAT_SLEW = 0 ∧ s.get LEDGER_CAL_SUB_SUB < 32768 ∧ calCounts s + 1 < 2 ^ 48 * 32768) :=
  ⟨⟨State.reset, by decide +kernel⟩,
   ⟨st [(calAcc, 199999999)], by decide +kernel⟩,
   ⟨State.reset, by decide +kernel⟩,
   ⟨State.reset, by decide +kernel⟩⟩

theorem test_wit_supply :
    (∃ (s : State), s.get offState ≠ 0) ∧
    (∃ (s : State), s.get resetHeld = 2 ∧ s.get offState = 0) ∧
    (∃ (s : State), s.get offState = 0) ∧
    (∃ (src n : Nat), src < 2 ∧ n < 4) ∧
    (∃ (s : State), s.get vinArmed ≠ 0) ∧
    (∃ (s : State), s.get POWER_STAT_VIN_HIGH = 0) ∧
    (∃ (j : Fin 2) (s : State), bitAt (s.get POWER_VSENS_EN) j = true ∧ bitAt (s.get POWER_VSENS_OVL) j = false) ∧
    (∃ (v : BitVec 32), v.toNat < 4) :=
  ⟨⟨st [(offState, 1)], by decide +kernel⟩,
   ⟨st [(resetHeld, 2)], by decide +kernel⟩,
   ⟨State.reset, by decide +kernel⟩,
   ⟨1, 1, by decide +kernel⟩,
   ⟨st [(vinArmed, 1)], by decide +kernel⟩,
   ⟨State.reset, by decide +kernel⟩,
   ⟨1, st [(POWER_VSENS_EN, 2 ^ 1)], by decide +kernel⟩,
   ⟨0, by decide +kernel⟩⟩

theorem test_wit_ball_states :
    (∃ (s : State), s.get ioUp = 0) ∧
    (∃ (s : State), s.get offState ≠ 0) ∧
    (∃ (s : State), s.get ioUp ≠ 0) :=
  ⟨⟨st [(ioUp, 0)], by decide +kernel⟩,
   ⟨st [(offState, 1)], by decide +kernel⟩,
   ⟨st [(ioUp, 1)], by decide +kernel⟩⟩

theorem test_wit_power_measure :
    (∃ (s : State), (s.get measAt = 0 ∨ s.get measAt - 1 + 20000 ≤ s.now)) ∧
    (∃ (d : Int) (s : State), (d < -880 ∨ 3200 < d) ∧ s.get dieBad = 0) ∧
    (∃ (d : Int), -880 ≤ d ∧ d < 2400) ∧
    (∃ (d : Int) (s : State), 2400 ≤ d ∧ d < 2640 ∧ (s.get POWER_DIE_T_VALID = 0 ∨ s.geti POWER_DIE_T_T < 2400)) :=
  ⟨⟨{ State.reset with tbNow := 20000000000#64 }, by decide +kernel⟩,
   ⟨3201, State.reset, by decide +kernel⟩,
   ⟨0, by decide +kernel⟩,
   ⟨2400, State.reset, by decide +kernel⟩⟩

theorem test_wit_device_resets :
    (∃ (s : State), s.get offState = 0 ∧ s.get resetHeld ≠ 2) ∧
    (∃ (k : BitVec 4), 1 ≤ k.toNat ∧ k.toNat ≤ 7) ∧
    (∃ (s : State), s.get resetHeld = 1 ∧ s.getWide SYS_RST_TB_LO_TB SYS_RST_TB_HI_TB + 2000 ≤ s.now ∧ s.get scanOn = 0) ∧
    (∃ (who : Req) (s : State), who ≠ .s ∧ (who = .d → s.get BIST_DBG_LEVEL = 2) ∧ s.busy rstCmd = false) ∧
    (∃ (s : State), s.get BIST_DBG_LEVEL = 2) ∧
    (∃ (kind req n : Nat), kind < 16 ∧ req < 4 ∧ n < 4) ∧
    (∃ (kind req n : Nat), kind < 16 ∧ req < 4 ∧ n < 4 ∧ kind = 2) :=
  ⟨⟨State.reset, by decide +kernel⟩,
   ⟨7, by decide +kernel⟩,
   ⟨{ st [(resetHeld, 1)] with tbNow := 20000000000#64 }, by decide +kernel⟩,
   ⟨.y, State.reset, by decide +kernel⟩,
   ⟨st [(BIST_DBG_LEVEL, 2)], by decide +kernel⟩,
   ⟨1, 1, 1, by decide +kernel⟩,
   ⟨2, 1, 1, by decide +kernel⟩⟩

theorem test_wit_part_resets :
    (∃ (who : Req) (s : State), who ≠ .s ∧ (who = .d → s.get BIST_DBG_LEVEL = 2) ∧ s.busy rstCmd = false ∧ who ≠ .y ∧ stageIdle (busOk (debugSeen
        who s)) = true ∧ s.get SAFETY_STAT_DS = 0) ∧
    (∃ (who : Req) (s : State), who ≠ .s ∧ (who = .d → s.get BIST_DBG_LEVEL = 2) ∧ s.busy rstCmd = false ∧ (who = .y ∨ stageIdle (busOk (debugSeen
        who s)) = false ∨ s.get SAFETY_STAT_DS ≠ 0)) ∧
    (∃ (who : Req) (s : State), who ≠ .s ∧ (who = .d → s.get BIST_DBG_LEVEL = 2) ∧ s.busy rstCmd = false ∧ who ≠ .i) ∧
    (∃ (who : Req) (s : State), who ≠ .s ∧ (who = .d → s.get BIST_DBG_LEVEL = 2) ∧ s.busy rstCmd = false ∧ who = .i) ∧
    (∃ (s : State), s.get BIST_DBG_LEVEL ≠ 2) ∧
    (∃ (n : Nat), n < 4) ∧
    (∃ (s : State), s.busy rstCmd = true ∧ s.get stallRst ≠ 0) :=
  ⟨⟨.i, State.reset, by decide +kernel⟩,
   ⟨.y, State.reset, by decide +kernel⟩,
   ⟨.y, State.reset, by decide +kernel⟩,
   ⟨.i, State.reset, by decide +kernel⟩,
   ⟨st [(BIST_DBG_LEVEL, 0)], by decide +kernel⟩,
   ⟨1, by decide +kernel⟩,
   ⟨st [(rstCmd.status, stBusy), (stallRst, 1)], by decide +kernel⟩⟩

theorem test_wit_boot_steps :
    (∃ (s : State), s.get resetHeld = 0 ∧ s.get offState = 0 ∧ s.get SYS_BOOT_STAGE = 1 ∧ s.get bootStepAt = 0) ∧
    (∃ (s : State), s.get SYS_BOOT_STAGE = 1 ∧ s.get TB_STATUS_XTAL_LOST = 0 ∧ s.get bootStepAt ≠ 0 ∧ s.get bootStepAt - 1 + 100000 ≤ s.now) ∧
    (∃ (s : State), s.get SYS_BOOT_STAGE = 1 ∧ s.get TB_STATUS_XTAL_LOST = 0 ∧ s.get bootStepAt ≠ 0 ∧ s.get bootStepAt - 1 + 2000000 ≤ s.now) ∧
    (∃ (s : State), (s.get SYS_BOOT_STAGE = 2 ∨ s.get SYS_BOOT_STAGE = 1 ∧ s.get TB_STATUS_XTAL_LOST ≠ 0) ∧ s.get bootStepAt ≠ 0 ∧ s.get bootStepAt
        - 1 + 1600000 ≤ s.now) ∧
    (∃ (s : State), passedSince bootStepAt (s.get bootWait) s = true ∧ s.get SYS_BOOT_STAGE = 3) ∧
    (∃ (s : State), passedSince bootStepAt (s.get bootWait) s = true ∧ s.get SYS_BOOT_STAGE = 5) ∧
    (∃ (straps : Nat), straps < 16 ∧ straps ≠ 5 ∧ straps ≠ 10) ∧
    (∃ (flash : Option (List Byte)) (s : State), s.get SYS_BOOT_STAGE = 4 ∧ passedSince bootStepAt (loadTicks flash (slotsTest s)) (slotsTest s) =
        true) ∧
    (∃ (s : State), bootPick s = .flash) ∧
    (∃ (s : State), s.get SYS_BOOT_STAGE = 6 ∧ s.now - s.get bootAt < 2 ^ 32 * 200) ∧
    (∃ (s : State), s.get SYS_BOOT_STAGE = 5 ∧ s.get bootStepAt ≠ 0 ∧ s.get bootStepAt - 1 + 100000 ≤ s.now ∧ s.now - s.get bootAt < 2 ^ 32 * 200) ∧
    (∃ (s : State), s.get SYS_BOOT_STAGE ≠ 7 ∧ s.get SYS_BOOT_STAGE ≠ 15 ∧ s.get resetHeld = 0 ∧ s.get bootStepAt ≠ 0 ∧ s.get bootAt + 600000000 ≤
        s.now) :=
  ⟨⟨st [(SYS_BOOT_STAGE, 1)], by decide +kernel⟩,
   ⟨{ st [(SYS_BOOT_STAGE, 1), (bootStepAt, 1)] with tbNow := 20000000000#64 }, by decide +kernel⟩,
   ⟨{ st [(SYS_BOOT_STAGE, 1), (bootStepAt, 1)] with tbNow := 20000000000#64 }, by decide +kernel⟩,
   ⟨{ st [(SYS_BOOT_STAGE, 2), (bootStepAt, 1)] with tbNow := 20000000000#64 }, by decide +kernel⟩,
   ⟨st [(SYS_BOOT_STAGE, 3), (bootStepAt, 1), (bootWait, 0)], by decide +kernel⟩,
   ⟨st [(SYS_BOOT_STAGE, 5), (bootStepAt, 1), (bootWait, 0)], by decide +kernel⟩,
   ⟨1, by decide +kernel⟩,
   ⟨none, st [(SYS_BOOT_STAGE, 4), (bootStepAt, 1)], by decide +kernel⟩,
   ⟨State.reset, by decide +kernel⟩,
   ⟨st [(SYS_BOOT_STAGE, 6)], by decide +kernel⟩,
   ⟨{ st [(SYS_BOOT_STAGE, 5), (bootStepAt, 1)] with tbNow := 20000000000#64 }, by decide +kernel⟩,
   ⟨{ st [(bootStepAt, 1)] with tbNow := 20000000000#64 }, by decide +kernel⟩⟩

theorem test_wit_lantern_mode :
    (∃ (s : State), s.busy powerCmd = false ∧ parkReason 1 s = 0) ∧
    (∃ (s : State), s.busy powerCmd = false ∧ parkReason 1 s ≠ 0) ∧
    (∃ (s : State), s.busy powerCmd = false ∧ parkReason 2 s = 0) ∧
    (∃ (s : State), s.busy powerCmd = false ∧ parkReason 2 s ≠ 0) ∧
    (∃ (s : State), s.get LEDGER_STAT_LOADED ≠ 0) ∧
    (∃ (s : State), s.busy powerCmd = true ∧ s.get POWER_STAT_PHASE = 2 ∧ s.get POWER_CMD_CODE = 1 ∧ s.get wakePend = 0 ∧ s.get parkAt + 20000 ≤
        s.now) ∧
    (∃ (s : State), s.busy powerCmd = true ∧ s.get POWER_STAT_PHASE = 2 ∧ s.get POWER_CMD_CODE = 2 ∧ s.get wakePend = 0) ∧
    (∃ (s : State), s.get offState = 1) ∧
    (∃ (s : State), s.get offState ≠ 1 ∧ s.get lanternOn ≠ 0 ∧ s.get POWER_WAKE_CFG_PIN_EN ≠ 0) ∧
    (∃ (s : State), s.get lanternOn ≠ 0 ∧ s.get POWER_WAKE_CFG_ALARM_EN ≠ 0 ∧ s.getWide POWER_ALARM_LO_SEC POWER_ALARM_HI_SEC ≤ s.getWide
        LEDGER_CAL_SEC_LO_SEC LEDGER_CAL_SEC_HI_SEC) ∧
    (∃ (n m : Nat) (s : State), s.get lanternOn ≠ 0 ∧ s.get POWER_WAKE_CFG_MON_EN ≠ 0 ∧ n < 4 ∧ m < 12 ∧ s.get (MON_Mm_STAT_WAKE n m) ≠ 0) ∧
    (∃ (src : Nat), src < 4) :=
  ⟨⟨State.reset, by decide +kernel⟩,
   ⟨st [(PWM_STAT_STATE 1, 2)], by decide +kernel⟩,
   ⟨State.reset, by decide +kernel⟩,
   ⟨st [(PWM_STAT_STATE 1, 2)], by decide +kernel⟩,
   ⟨st [(LEDGER_STAT_LOADED, 1)], by decide +kernel⟩,
   ⟨{ st [(powerCmd.status, stBusy), (POWER_STAT_PHASE, 2), (POWER_CMD_CODE, 1)] with tbNow := 20000000000#64 }, by decide +kernel⟩,
   ⟨st [(powerCmd.status, stBusy), (POWER_STAT_PHASE, 2), (POWER_CMD_CODE, 2)], by decide +kernel⟩,
   ⟨st [(offState, 1)], by decide +kernel⟩,
   ⟨st [(lanternOn, 1), (POWER_WAKE_CFG_PIN_EN, 1)], by decide +kernel⟩,
   ⟨st [(lanternOn, 1), (POWER_WAKE_CFG_ALARM_EN, 1)], by decide +kernel⟩,
   ⟨1, 1, st [(lanternOn, 1), (POWER_WAKE_CFG_MON_EN, 1), (MON_Mm_STAT_WAKE 1 1, 1)], by decide +kernel⟩,
   ⟨1, by decide +kernel⟩⟩

theorem test_wit_carrier_instants :
    (∃ (n : Fin 4) (s : State), s.get (senSelDone n) = 0 ∧ (nextTrigger n s).any (fun t => decide (t ≤ s.now * 64 + 63 + 1280)) = true) ∧
    (∃ (n : Fin 4) (peak : Bool) (f : Fin 64) (s : State) (t : Nat), carrierOn n s = true ∧ sampledAt n peak s = true ∧ loadDue n peak (s.fineNow f)
        s = some t) ∧
    (∃ (n : Fin 4) (peak : Bool) (f : Fin 64) (s : State), (carrierOn n s = false ∨ sampledAt n peak s = false ∨ loadDue n peak (s.fineNow f) s =
        none)) ∧
    (∃ (n : Nat) (s : State), n < 4 ∧ s.get (pwmZeroDone n) = 0) ∧
    (∃ (n : Nat) (s : State) (t : Nat), n < 4 ∧ s.get (pwmPeakDone n) = 0 ∧ s.get (pwmZeroAt n) + period n s / 2 ≤ t) ∧
    (∃ (n : Nat) (s : State) (t : Nat), n < 4 ∧ t < s.get (pwmZeroAt n) + period n s / 2) ∧
    (∃ (n : Fin 4) (f : Fin 64) (s : State), carrierOn n s = true ∧ (s.get (pwmZeroAt n) + period n s) ≤ s.fineNow f) ∧
    (∃ (n : Fin 4) (f : Fin 64) (s : State), s.fineNow f < (s.get (pwmZeroAt n) + period n s)) ∧
    (∃ (n z : Nat), n < 4 ∧ z < 2 ^ 72) ∧
    (∃ (n : Nat) (s : State), n < 4 ∧ s.flag (SENSE_CTRL_EN n) = true) :=
  ⟨⟨1, { st [(PWM_STAT_STATE 1, 2), (PWM_CTRL_SAMP 1, 1)] with tbNow := 20000000000#64 }, by decide +kernel⟩,
   ⟨1, false, 1, st [(PWM_STAT_STATE 1, 2), (PWM_CTRL_SAMP 1, 3), (PWM_PER_PER 1, 20000), (PWM_PER_PER_ACT 1, 20000)], 0, by decide +kernel⟩,
   ⟨1, true, 1, State.reset, by decide +kernel⟩,
   ⟨1, State.reset, by decide +kernel⟩,
   ⟨1, State.reset, 2000000000000, by decide +kernel⟩,
   ⟨1, State.reset, 1, by decide +kernel⟩,
   ⟨1, 1, { st [(PWM_STAT_STATE 1, 2), (PWM_CTRL_SAMP 1, 3), (PWM_PER_PER 1, 20000), (PWM_PER_PER_ACT 1, 20000)] with tbNow := 20000000000#64 }, by
       decide +kernel⟩,
   ⟨1, 1, State.reset, by decide +kernel⟩,
   ⟨1, 1, by decide +kernel⟩,
   ⟨1, st [(SENSE_CTRL_EN 1, 1)], by decide +kernel⟩⟩

theorem test_wit_conversion :
    (∃ (n c : Fin 4) (s : State), s.get (senCh n c) < 16 ∧ s.get (senHeld n c) ≠ 0 ∧ s.get (senTrigAt n) + 6 ≤ s.now) ∧
    (∃ (n c : Fin 4) (s : State), s.get (senCh n c) < 16 ∧ (s.get (senHeld n c) = 0 ∨ s.now < s.get (senTrigAt n) + 6)) :=
  ⟨⟨1, 1, { st [(senHeld 1 1, 1)] with tbNow := 20000000000#64 }, by decide +kernel⟩,
   ⟨1, 1, State.reset, by decide +kernel⟩⟩

theorem test_wit_cross_check :
    (∃ (n c : Fin 4) (raw : BitVec 16) (s : State), bitAt (s.get (senXdue n)) c = true ∧ s.get (senTrigAt n) + 20 ≤ s.now ∧ s.get (SENSE_Cc_STAT_OUT
        n c) = 0 ∧ s.get (SENSE_Cc_STAT_OUT n ((c.val + 1) % 4)) = 0 ∧ s.get (senPrimOk n ((c.val + 1) % 4)) ≠ 0 ∧ ((converterValue n c raw.toNat s
            - s.geti (senPrim n ((c.val + 1) % 4))).natAbs) ≤ s.get (SENSE_XCHK_CFG_THR n) * 2 ^ 26) ∧
    (∃ (n c : Fin 4) (raw : BitVec 16) (s : State), bitAt (s.get (senXdue n)) c = true ∧ s.get (senTrigAt n) + 20 ≤ s.now ∧ s.get (SENSE_Cc_STAT_OUT
        n c) = 0 ∧ s.get (SENSE_Cc_STAT_OUT n ((c.val + 1) % 4)) = 0 ∧ s.get (senPrimOk n ((c.val + 1) % 4)) ≠ 0 ∧ s.get (SENSE_XCHK_CFG_THR n) * 2
            ^ 26 < ((converterValue n c raw.toNat s - s.geti (senPrim n ((c.val + 1) % 4))).natAbs)) ∧
    (∃ (n c : Fin 4) (s : State), bitAt (s.get (senXdue n)) c = true ∧ s.get (senTrigAt n) + 20 ≤ s.now ∧ (s.get (SENSE_Cc_STAT_OUT n c) ≠ 0 ∨ s.get
        (SENSE_Cc_STAT_OUT n ((c.val + 1) % 4)) ≠ 0)) ∧
    (∃ (n c : Fin 4) (s : State), (((s.inc (SENSE_Cc_STAT_XFAIL n c)).inc (SENSE_Cc_STAT_XFAIL n ((c.val + 1) % 4))).inc (senXrun n c)).get (senXrun
        n c) < (if s.get (SENSE_XCHK_CFG_N n) = 0 then 16 else s.get (SENSE_XCHK_CFG_N n))) ∧
    (∃ (n c : Fin 4) (s : State), (if s.get (SENSE_XCHK_CFG_N n) = 0 then 16 else s.get (SENSE_XCHK_CFG_N n)) ≤ (((s.inc (SENSE_Cc_STAT_XFAIL n
        c)).inc (SENSE_Cc_STAT_XFAIL n ((c.val + 1) % 4))).inc (senXrun n c)).get (senXrun n c)) :=
  ⟨⟨1, 1, 0, { st [(senXdue 1, 2 ^ 1), (senPrimOk 1 ((1 + 1) % 4), 1), (senPrimOk 1 2, 1)] with tbNow := 20000000000#64 }, by decide +kernel⟩,
   ⟨1, 1, 0xFFFF, { st [(senXdue 1, 2 ^ 1), (senPrimOk 1 ((1 + 1) % 4), 1), (senPrimOk 1 2, 1)] with tbNow := 20000000000#64 }, by decide +kernel⟩,
   ⟨1, 1, { st [(senXdue 1, 2 ^ 1), (SENSE_Cc_STAT_OUT 1 1, 1)] with tbNow := 20000000000#64 }, by decide +kernel⟩,
   ⟨1, 1, State.reset, by decide +kernel⟩,
   ⟨1, 1, st [(senXrun 1 1, 15)], by decide +kernel⟩⟩

theorem test_wit_modulator_inputs :
    (∃ (w : BitVec 32), (bits w.toNat 8 5 < 8 ∨ 20 < bits w.toNat 8 5)) ∧
    (∃ (n : Fin 4) (w : BitVec 32) (s : State), bitAt (rewritten s) n = false ∧ 8 ≤ bits w.toNat 8 5 ∧ bits w.toNat 8 5 ≤ 20 ∧ s.get (MOD_CTRL_EN n)
        = 0) ∧
    (∃ (n : Fin 4) (i : Fin 6) (s : State), modOn n i s = true ∧ 3 * s.get (MOD_INi_CFG_DEC n i) ≤ bitsSince n (s.get (modOnAt n i)) s) ∧
    (∃ (n : Fin 4) (i : Fin 6) (s : State), modOn n i s = true ∧ 2 * s.get (MOD_INi_CFG_OSR n i) ≤ bitsSince n (s.get (modOnAt n i)) s) ∧
    (∃ (n : Fin 4) (i : Fin 6) (b : BitVec 769) (s : State), s.get (MOD_INi_MAIN_VALID n i) ≠ 0 ∧ saturates (mainOut n i b.toNat s) = true ∧
        saturates (mainOut n i (b.toNat / 2) s) = false) ∧
    (∃ (n : Fin 4) (i : Fin 6) (b : BitVec 1023) (s : State), modOn n i s = true ∧ bitAt (s.get (MOD_STAT_STUCK n)) i = false ∧ (b.toNat % 2 ^
        (s.get (MOD_INi_CFG_STUCK_N n i)) = 0 ∨ b.toNat % 2 ^ (s.get (MOD_INi_CFG_STUCK_N n i)) = 2 ^ (s.get (MOD_INi_CFG_STUCK_N n i)) - 1) ∧
            (s.get (MOD_INi_CFG_STUCK_N n i)) ≤ bitsSince n (s.get (modOnAt n i)) s) ∧
    (∃ (n : Fin 4) (i : Fin 6) (s : State), bitAt (s.get (MOD_STAT_STUCK n)) i = true ∧ 4 * s.get (MOD_INi_CFG_DEC n i) ≤ bitsSince n (s.get
        (modStuckAt n i)) s) :=
  ⟨⟨0, by decide +kernel⟩,
   ⟨1, 0x1400, State.reset, by decide +kernel⟩,
   ⟨1, 1,
       { st [(MOD_CTRL_EN 1, 1), (MOD_CTRL_IN_EN 1, 2), (MOD_CTRL_CLK_DIV 1, 10), (MOD_INi_CFG_DEC 1 1, 16), (MOD_INi_CFG_OSR 1 1, 16), (MOD_INi_CFG_STUCK_N 1 1, 64)] with tbNow := 20000000000#64 },
           by decide +kernel⟩,
   ⟨1, 1,
       { st [(MOD_CTRL_EN 1, 1), (MOD_CTRL_IN_EN 1, 2), (MOD_CTRL_CLK_DIV 1, 10), (MOD_INi_CFG_DEC 1 1, 16), (MOD_INi_CFG_OSR 1 1, 16), (MOD_INi_CFG_STUCK_N 1 1, 64)] with tbNow := 20000000000#64 },
           by decide +kernel⟩,
   ⟨1, 1, 0x3FFFFFFFFFFF, st [(MOD_INi_MAIN_VALID 1 1, 1), (MOD_CTRL_EN 1, 1), (MOD_CTRL_IN_EN 1, 2), (MOD_CTRL_CLK_DIV 1, 10), (MOD_INi_CFG_DEC 1
       1, 16), (MOD_INi_CFG_OSR 1 1, 16), (MOD_INi_CFG_STUCK_N 1 1, 64)], by decide +kernel⟩,
   ⟨1, 1, 0,
       { st [(MOD_CTRL_EN 1, 1), (MOD_CTRL_IN_EN 1, 2), (MOD_CTRL_CLK_DIV 1, 10), (MOD_INi_CFG_DEC 1 1, 16), (MOD_INi_CFG_OSR 1 1, 16), (MOD_INi_CFG_STUCK_N 1 1, 64)] with tbNow := 20000000000#64 },
           by decide +kernel⟩,
   ⟨1, 1,
       { st [(MOD_STAT_STUCK 1, 2 ^ 1), (MOD_CTRL_EN 1, 1), (MOD_CTRL_IN_EN 1, 2), (MOD_CTRL_CLK_DIV 1, 10), (MOD_INi_CFG_DEC 1 1, 16), (MOD_INi_CFG_OSR 1 1, 16), (MOD_INi_CFG_STUCK_N 1 1, 64)] with tbNow := 20000000000#64 },
           by decide +kernel⟩⟩

theorem test_wit_converter_service :
    (∃ (n : Fin 4) (c : Nat) (r : List Nat) (s : State), s.get (senTrigAt n) = s.now ∧ (∀ d < 4, s.get (SENSE_Cc_STAT_CHECK n d) = 0) ∧ checkQueue n
        s = c :: r ∧ c < 4) ∧
    (∃ (n : Fin 4) (c : Nat) (devs spreads : List (BitVec 20)) (s : State), c < 4 ∧ s.get (SENSE_Cc_STAT_CHECK n c) ≠ 0 ∧ (∀ d < c, s.get
        (SENSE_Cc_STAT_CHECK n d) = 0) ∧ s.get (senCkAt n) + 3200 ≤ s.now ∧ (∀ d ∈ devs, d.toInt.natAbs ≤ 128) ∧ (∀ d ∈ spreads, d.toNat ≤ 16) ∧
            s.get (senCkLatch n c) = 0) ∧
    (∃ (n : Fin 4) (c : Nat) (devs spreads : List (BitVec 20)) (s : State), c < 4 ∧ s.get (SENSE_Cc_STAT_CHECK n c) ≠ 0 ∧ (∀ d < c, s.get
        (SENSE_Cc_STAT_CHECK n d) = 0) ∧ s.get (senCkAt n) + 3200 ≤ s.now ∧ (∀ d ∈ devs, d.toInt.natAbs ≤ 128) ∧ (∀ d ∈ spreads, d.toNat ≤ 16) ∧
            s.get (senCkLatch n c) ≠ 0) ∧
    (∃ (n : Fin 4) (c : Nat) (devs spreads : List (BitVec 20)) (s : State), c < 4 ∧ s.get (SENSE_Cc_STAT_CHECK n c) ≠ 0 ∧ (∀ d < c, s.get
        (SENSE_Cc_STAT_CHECK n d) = 0) ∧ s.get (senCkAt n) + 3200 ≤ s.now ∧ ((∃ d ∈ devs, 128 < d.toInt.natAbs) ∨ ∃ d ∈ spreads, 16 < d.toNat)) ∧
    (∃ (n c : Nat) (s : State), n < 4 ∧ c < 4 ∧ (calFail n 6 (raiseEvent (0x64 + 0x40 * n) ((s.set (SENSE_Cc_STAT_FAILED n c) 1).set
        (SENSE_Cc_STAT_OUT n c) 1))).get (SENSE_Cc_STAT_SPARE n c) ≠ 0) ∧
    (∃ (n c : Nat) (s : State), n < 4 ∧ c < 4 ∧ (calFail n 6 (raiseEvent (0x64 + 0x40 * n) ((s.set (SENSE_Cc_STAT_FAILED n c) 1).set
        (SENSE_Cc_STAT_OUT n c) 1))).get (SENSE_Cc_STAT_SPARE n c) = 0 ∧ ((calFail n 6 (raiseEvent (0x64 + 0x40 * n) ((s.set (SENSE_Cc_STAT_FAILED n
            c) 1).set (SENSE_Cc_STAT_OUT n c) 1))).get BIST_SPARE_CONV_VALID ≠ 0 ∨ (calFail n 6 (raiseEvent (0x64 + 0x40 * n) ((s.set
                (SENSE_Cc_STAT_FAILED n c) 1).set (SENSE_Cc_STAT_OUT n c) 1))).get BIST_SPARE_STAT_CONV_FAIL ≠ 0)) ∧
    (∃ (n c : Nat) (s : State), n < 4 ∧ c < 4 ∧ (calFail n 6 (raiseEvent (0x64 + 0x40 * n) ((s.set (SENSE_Cc_STAT_FAILED n c) 1).set
        (SENSE_Cc_STAT_OUT n c) 1))).get (SENSE_Cc_STAT_SPARE n c) = 0 ∧ (calFail n 6 (raiseEvent (0x64 + 0x40 * n) ((s.set (SENSE_Cc_STAT_FAILED n
            c) 1).set (SENSE_Cc_STAT_OUT n c) 1))).get BIST_SPARE_CONV_VALID = 0 ∧ (calFail n 6 (raiseEvent (0x64 + 0x40 * n) ((s.set
                (SENSE_Cc_STAT_FAILED n c) 1).set (SENSE_Cc_STAT_OUT n c) 1))).get BIST_SPARE_STAT_CONV_FAIL = 0 ∧ (calFail n 6 (raiseEvent (0x64 +
                0x40 * n) ((s.set (SENSE_Cc_STAT_FAILED n c) 1).set (SENSE_Cc_STAT_OUT n c) 1))).get spareReq = 0) ∧
    (∃ (n c : Nat) (devs spreads : List (BitVec 20)) (s : State), n < 4 ∧ c < 4 ∧ s.get spareReq = n + 1 ∧ s.get spareReqC = c ∧ s.get spareReqAt +
        3200 ≤ s.now ∧ checkPasses devs spreads = true) ∧
    (∃ (n c : Nat) (devs spreads : List (BitVec 20)) (s : State), n < 4 ∧ c < 4 ∧ s.get spareReq = n + 1 ∧ s.get spareReqC = c ∧ s.get spareReqAt +
        3200 ≤ s.now ∧ checkPasses devs spreads = false) ∧
    (∃ (n c : Nat) (s : State), n < 4 ∧ c < 4 ∧ s.get (senBack n c) = 1) ∧
    (∃ (n c : Nat) (s : State), n < 4 ∧ c < 4 ∧ s.get (senBack n c) = 2) ∧
    (∃ (n : Fin 4) (q : Fin 8) (c : Nat) (s : State), s.get (senLatched n q) ≠ 0 ∧ s.get (senPassed n q) = 0 ∧ s.get (SENSE_CTRL_AUTO_RETURN n) ≠ 0
        ∧ s.get (senRet n q) = 1024 ∧ s.get (senLconv n q) = c + 1 ∧ s.get (SENSE_Cc_STAT_SPARE n c) ≠ 0 ∧ s.get (SENSE_Cc_STAT_OUT n c) = 0) :=
  ⟨⟨1, 1, [], st [(senQueue 1, 2)], by decide +kernel⟩,
   ⟨1, 3, [128], [16], { st [(SENSE_Cc_STAT_CHECK 1 3, 1)] with tbNow := 20000000000#64 }, by refine ⟨by decide +kernel, by decide +kernel, by
       decide +kernel, by decide +kernel, ?_, ?_, by decide +kernel⟩ <;> simp⟩,
   ⟨1, 3, [128], [16], { st [(SENSE_Cc_STAT_CHECK 1 3, 1), (senCkLatch 1 3, 1)] with tbNow := 20000000000#64 }, by refine ⟨by decide +kernel, by
       decide +kernel, by decide +kernel, by decide +kernel, ?_, ?_, by decide +kernel⟩ <;> simp⟩,
   ⟨1, 0, [129], [], { st [(SENSE_Cc_STAT_CHECK 1 0, 1)] with tbNow := 20000000000#64 }, by refine ⟨by decide +kernel, by decide +kernel, by
       decide +kernel, by decide +kernel, Or.inl ⟨129, by simp, by decide +kernel⟩⟩⟩,
   ⟨1, 1, st [(SENSE_Cc_STAT_SPARE 1 1, 1)], by decide +kernel⟩,
   ⟨1, 1, st [(BIST_SPARE_CONV_VALID, 1)], by decide +kernel⟩,
   ⟨1, 1, State.reset, by decide +kernel⟩,
   ⟨1, 1, [], [], { st [(spareReq, 1 + 1), (spareReqC, 1)] with tbNow := 20000000000#64 }, by decide +kernel⟩,
   ⟨1, 1, [129], [], { st [(spareReq, 1 + 1), (spareReqC, 1)] with tbNow := 20000000000#64 }, by decide +kernel⟩,
   ⟨1, 1, st [(senBack 1 1, 1)], by decide +kernel⟩,
   ⟨1, 1, st [(senBack 1 1, 2)], by decide +kernel⟩,
   ⟨1, 1, 0, st [(senLatched 1 1, 1), (SENSE_CTRL_AUTO_RETURN 1, 1), (senRet 1 1, 1024), (senLconv 1 1, 0 + 1), (SENSE_Cc_STAT_SPARE 1 0, 1)], by
       decide +kernel⟩⟩

theorem test_wit_calibration :
    (∃ (n : Fin 4) (s : State), bitAt (rewritten s) n = false ∧ s.get (SENSE_CAL_CMD_STATUS n) ≠ stBusy ∧ calAllowed n s = true) ∧
    (∃ (n : Fin 4) (s : State), bitAt (rewritten s) n = false ∧ s.get (SENSE_CAL_CMD_STATUS n) ≠ stBusy ∧ calAllowed n s = false) ∧
    (∃ (n : Fin 4) (s : State), bitAt (rewritten s) n = false ∧ s.get (SENSE_CAL_STAT_PHASE n) = 1) ∧
    (∃ (n : Fin 4) (s : State), bitAt (rewritten s) n = false ∧ s.get (SENSE_CAL_STAT_PHASE n) ≠ 1) ∧
    (∃ (n : Fin 4) (s : State), bitAt (rewritten s) n = false ∧ s.get (SENSE_CAL_STAT_PHASE n) = 3) ∧
    (∃ (n : Fin 4) (s : State), bitAt (rewritten s) n = false ∧ s.get (SENSE_CAL_STAT_PHASE n) ≠ 3) ∧
    (∃ (n : Fin 4) (spreads : List (BitVec 20)) (s : State), s.get (calWaitAt n) + captureTicks n s ≤ s.now ∧ s.get (SENSE_CAL_STAT_PHASE n) = 2 ∧
        (¬ (∃ j < 22, calMasked n j s = true ∧ 2048 < (spreads.getD j 0).toNat))) ∧
    (∃ (n : Fin 4) (spreads : List (BitVec 20)) (s : State), s.get (calWaitAt n) + captureTicks n s ≤ s.now ∧ s.get (SENSE_CAL_STAT_PHASE n) = 4 ∧
        (¬ (∃ j < 22, calMasked n j s = true ∧ 2048 < (spreads.getD j 0).toNat))) ∧
    (∃ (n : Fin 4) (spreads : List (BitVec 20)) (s : State), s.get (calWaitAt n) + captureTicks n s ≤ s.now ∧ (s.get (SENSE_CAL_STAT_PHASE n) = 2 ∨
        s.get (SENSE_CAL_STAT_PHASE n) = 4) ∧ (∃ j < 22, calMasked n j s = true ∧ 2048 < (spreads.getD j 0).toNat)) ∧
    (∃ (n : Fin 4) (s : State), (s.get (SENSE_CAL_STAT_PHASE n) = 1 ∨ s.get (SENSE_CAL_STAT_PHASE n) = 3) ∧ s.get (calWaitAt n) + 12000000000 <
        s.now ∧ s.get (SENSE_CAL_CMD_STATUS n) = stBusy) ∧
    (∃ (n : Fin 4) (k : Nat) (s : State), s.get (SENSE_CAL_STAT_PHASE n) = 6 ∧ s.get (SENSE_CAL_CMD_STATUS n) = stBusy ∧ calNewest n s = some k) :=
  ⟨⟨1, st [(SENSE_CTRL_EN 1, 1), (SENSE_CAL_CFG_MASK 1, 1), (SENSE_CAL_CFG_AVG 1, 4), (SENSE_CHk_SCALE_SCALE 1 0, 0x3F800000), (SENSE_CAL_FULLj_FULL 1 0, 0x3F800000)], by decide +kernel⟩,
   ⟨1, State.reset, by decide +kernel⟩,
   ⟨1, st [(SENSE_CAL_STAT_PHASE 1, 1)], by decide +kernel⟩,
   ⟨1, State.reset, by decide +kernel⟩,
   ⟨1, st [(SENSE_CAL_STAT_PHASE 1, 3)], by decide +kernel⟩,
   ⟨1, State.reset, by decide +kernel⟩,
   ⟨1, [], { st [(SENSE_CAL_STAT_PHASE 1, 2)] with tbNow := 20000000000#64 }, by decide +kernel⟩,
   ⟨1, [], { st [(SENSE_CAL_STAT_PHASE 1, 4)] with tbNow := 20000000000#64 }, by decide +kernel⟩,
   ⟨1, [2049], { st [(SENSE_CAL_STAT_PHASE 1, 2), (SENSE_CAL_CFG_MASK 1, 1)] with tbNow := 20000000000#64 }, by decide +kernel⟩,
   ⟨1, { st [(SENSE_CAL_STAT_PHASE 1, 1), (SENSE_CAL_CMD_STATUS 1, stBusy)] with tbNow := 20000000000#64 }, by decide +kernel⟩,
   ⟨1, 0, (st [(SENSE_CAL_STAT_PHASE 1, 6), (SENSE_CAL_CMD_STATUS 1, stBusy)]).putWords (calAddr 1 0) (calRecord 1 1 State.reset), by decide +kernel⟩⟩

theorem test_wit_correction_range :
    (∃ (raw : Nat), raw < 65536) ∧
    (∃ (v w : Int), v ≤ w) :=
  ⟨⟨1, by decide +kernel⟩,
   ⟨0, 0, by decide +kernel⟩⟩

theorem test_wit_monitor_commands :
    (∃ (n : Fin 4) (m : Fin 12) (s : State), bitAt (rewritten s) n = false ∧ s.get (MON_Mm_CFG_EN n m) = 0) ∧
    (∃ (n : Fin 4) (m : Fin 12) (s : State), bitAt (rewritten s) n = false ∧ s.get (MON_Mm_CFG_EN n m) ≠ 0) ∧
    (∃ (n : Fin 4) (m : Fin 12) (s : State), bitAt (rewritten s) n = false ∧ s.get (MON_Mm_CFG_EN n m) ≠ 0 ∧ s.get (MON_Mm_CFG_PROT n m) ≠ 0 ∧
        switching n s = true) ∧
    (∃ (n : Fin 4) (m : Fin 12) (s : State), bitAt (rewritten s) n = false ∧ s.get (MON_Mm_CFG_EN n m) ≠ 0 ∧ (s.get (MON_Mm_CFG_PROT n m) = 0 ∨
        switching n s = false)) ∧
    (∃ (n : Fin 4) (m : Fin 12) (s : State), (s.get (PWM_STAT_STATE n) = 0 ∨ s.get (PWM_STAT_STATE n) = 4) ∧ monSamples n m s = true ∧ monPeriods n
        m 1 s = true) ∧
    (∃ (n : Fin 4) (m : Fin 12) (s : State), bitAt (rewritten s) n = false ∧ s.get (MON_Mm_STAT_OUT n m) ≠ 0) ∧
    (∃ (n : Fin 4) (m : Fin 12) (s : State), bitAt (rewritten s) n = false ∧ s.get (MON_Mm_STAT_OUT n m) = 0) ∧
    (∃ (n : Fin 4) (s : State), bitAt (rewritten s) n = true) :=
  ⟨⟨1, 1, State.reset, by decide +kernel⟩,
   ⟨1, 1, st [(MON_Mm_CFG_EN 1 1, 1)], by decide +kernel⟩,
   ⟨1, 1, st [(MON_Mm_CFG_EN 1 1, 1), (MON_Mm_CFG_PROT 1 1, 1), (PWM_STAT_STATE 1, 2)], by decide +kernel⟩,
   ⟨1, 1, st [(MON_Mm_CFG_EN 1 1, 1)], by decide +kernel⟩,
   ⟨1, 1,
       { st [(MON_Mm_CFG_EN 1 1, 1), (MON_Mm_FILT_M 1 1, 4), (MON_Mm_FILT_N 1 1, 1), (MON_Mm_THR_HI_ACT 1 1, 100)] with tbNow := 20000000000#64 },
           by decide +kernel⟩,
   ⟨1, 1, st [(MON_Mm_STAT_OUT 1 1, 1)], by decide +kernel⟩,
   ⟨1, 1, State.reset, by decide +kernel⟩,
   ⟨1, st [(stallRst, 2)], by decide +kernel⟩⟩

theorem test_wit_monitor_samples :
    (∃ (n : Fin 4) (m : Fin 12) (l : List (BitVec 64)) (s : State), monPeriods n m l.length s = true) ∧
    (∃ (n m : Nat) (s : State), monSamples n m s = false) ∧
    (∃ (n : Fin 4) (m : Fin 12) (x : BitVec 64) (s : State), monSamples n m s = true ∧ monPeriods n m 1 s = true ∧ carrierStopped n s = false ∧
        s.get (MON_Mm_CFG_SRC n m) = 0 ∧ s.get (MON_Mm_HARD_HEN n m) = 0 ∧ s.get (MON_Mm_STAT_STATE n m) = 0 ∧ (monClass n m (x.toNat % 65536) s) ≠
            0 ∧ (monClass n m (x.toNat % 65536) s) = s.get (monRunCls n m) ∧ s.get (MON_Mm_FILT_M n m) ≤ min 16 (s.get (monRunLen n m) + 1)) ∧
    (∃ (n : Fin 4) (m : Fin 12) (x : BitVec 64) (s : State), monSamples n m s = true ∧ monPeriods n m 1 s = true ∧ carrierStopped n s = false ∧
        s.get (MON_Mm_CFG_SRC n m) = 0 ∧ s.get (MON_Mm_HARD_HEN n m) = 0 ∧ s.get (MON_Mm_STAT_STATE n m) ≠ 0 ∧ s.get (MON_Mm_STAT_OUT n m) = 0 ∧
            s.get (MON_Mm_FILT_N n m) ≤ (popCount (s.get (MON_Mm_FILT_M n m)) ((s.get (monWin n m) * 2 + (monOutside (monClass n m (x.toNat % 65536)
                s) (s.flag (MON_Mm_STAT_OUT n m))).toNat) % 65536))) ∧
    (∃ (n : Fin 4) (m : Fin 12) (x : BitVec 64) (s : State), monSamples n m s = true ∧ monPeriods n m 1 s = true ∧ carrierStopped n s = false ∧
        s.get (MON_Mm_CFG_SRC n m) = 0 ∧ s.get (MON_Mm_HARD_HEN n m) = 0 ∧ s.get (MON_Mm_STAT_STATE n m) ≠ 0 ∧ s.get (MON_Mm_STAT_OUT n m) ≠ 0 ∧
            s.get (MON_Mm_FILT_N n m) ≤ s.get (MON_Mm_FILT_M n m) - (popCount (s.get (MON_Mm_FILT_M n m)) ((s.get (monWin n m) * 2 + (monOutside
                (monClass n m (x.toNat % 65536) s) (s.flag (MON_Mm_STAT_OUT n m))).toNat) % 65536))) ∧
    (∃ (n m x : Nat) (s : State), n < 4 ∧ m < 12 ∧ s.get (MON_Mm_CFG_PROT n m) ≠ 0 ∧ s.get (MON_Mm_HARD_HEN n m) ≠ 0 ∧ s.get (MON_Mm_STAT_STATE n m)
        ≠ 0 ∧ monBeyond n m x s = false) ∧
    (∃ (n m x : Nat) (s : State), n < 4 ∧ m < 12 ∧ s.get (MON_Mm_CFG_PROT n m) ≠ 0 ∧ s.get (MON_Mm_HARD_HEN n m) ≠ 0 ∧ s.get (MON_Mm_STAT_STATE n m)
        ≠ 0 ∧ monBeyond n m x s = true ∧ ((min 4 (s.get (monHardRun n m) + 1)) ≤ s.get (MON_Mm_HARD_HN n m) ∨ s.get (MON_Mm_STAT_HARD n m) ≠ 0)) ∧
    (∃ (n m x : Nat) (s : State), n < 4 ∧ m < 12 ∧ s.get (MON_Mm_CFG_PROT n m) ≠ 0 ∧ s.get (MON_Mm_HARD_HEN n m) ≠ 0 ∧ s.get (MON_Mm_STAT_STATE n m)
        ≠ 0 ∧ monBeyond n m x s = true ∧ s.get (MON_Mm_HARD_HN n m) < (min 4 (s.get (monHardRun n m) + 1)) ∧ s.get (MON_Mm_STAT_HARD n m) = 0) ∧
    (∃ (n m : Nat), n < 4 ∧ m < 12) :=
  ⟨⟨1, 1, [], State.reset, by decide +kernel⟩,
   ⟨0, 0, State.reset, by decide +kernel⟩,
   ⟨1, 1, 0xFFFF,
       { st [(MON_Mm_CFG_EN 1 1, 1), (MON_Mm_FILT_M 1 1, 4), (MON_Mm_FILT_N 1 1, 1), (MON_Mm_THR_HI_ACT 1 1, 100), (PWM_STAT_STATE 1, 2), (monRunCls 1 1, 2), (monRunLen 1 1, 3)] with tbNow := 20000000000#64 },
           by decide +kernel⟩,
   ⟨1, 1, 0xFFFF,
       { st [(MON_Mm_STAT_STATE 1 1, 1), (MON_Mm_CFG_EN 1 1, 1), (MON_Mm_FILT_M 1 1, 4), (MON_Mm_FILT_N 1 1, 1), (MON_Mm_THR_HI_ACT 1 1, 100), (PWM_STAT_STATE 1, 2), (monRunCls 1 1, 2), (monRunLen 1 1, 3)] with tbNow := 20000000000#64 },
           by decide +kernel⟩,
   ⟨1, 1, 0x40,
       { st [(MON_Mm_STAT_STATE 1 1, 1), (MON_Mm_STAT_OUT 1 1, 1), (MON_Mm_CFG_EN 1 1, 1), (MON_Mm_FILT_M 1 1, 4), (MON_Mm_FILT_N 1 1, 1), (MON_Mm_THR_HI_ACT 1 1, 100), (PWM_STAT_STATE 1, 2), (monRunCls 1 1, 2), (monRunLen 1 1, 3)] with tbNow := 20000000000#64 },
           by decide +kernel⟩,
   ⟨1, 1, 0, st [(MON_Mm_CFG_PROT 1 1, 1), (MON_Mm_HARD_HEN 1 1, 1), (MON_Mm_STAT_STATE 1 1, 1)], by decide +kernel⟩,
   ⟨1, 1, 0xFFFF, st [(MON_Mm_CFG_PROT 1 1, 1), (MON_Mm_HARD_HEN 1 1, 1), (MON_Mm_STAT_STATE 1 1, 1), (MON_Mm_HARD_HHI 1 1, 1), (MON_Mm_HARD_HN 1 1,
       3)], by decide +kernel⟩,
   ⟨1, 1, 0xFFFF, st [(MON_Mm_CFG_PROT 1 1, 1), (MON_Mm_HARD_HEN 1 1, 1), (MON_Mm_STAT_STATE 1 1, 1), (MON_Mm_HARD_HHI 1 1, 1)], by decide +kernel⟩,
   ⟨1, 1, by decide +kernel⟩⟩

theorem test_wit_monitor_classes :
    ∃ (n m : Nat) (s : State), monCode n m (s.get (MON_Mm_THR_LO_ACT n m)) s ≤ monCode n m (s.get (MON_Mm_THR_HI_ACT n m)) s :=
  ⟨0, 0, State.reset, by decide +kernel⟩

theorem test_wit_position_port :
    (∃ (n : Fin 4) (s : State), bitAt (rewritten s) n = false ∧ s.get (POS_CTRL_EN n) = 0 ∧ posConfigOk n s = true) ∧
    (∃ (n : Fin 4) (s : State), bitAt (rewritten s) n = false ∧ s.get (POS_CTRL_EN n) = 0 ∧ posConfigOk n s = false) ∧
    (∃ (n : Fin 4) (s : State), bitAt (rewritten s) n = false ∧ s.get (POS_CTRL_EN n) = 0) ∧
    (∃ (n : Fin 4) (s : State), bitAt (rewritten s) n = false ∧ s.get (POS_CTRL_EN n) ≠ 0) ∧
    (∃ (n : Fin 4) (s : State), bitAt (rewritten s) n = false ∧ s.get (POS_CTRL_EN n) ≠ 0 ∧ s.get (LOOP_STAT_STATE n) ≠ 0) ∧
    (∃ (n : Fin 4) (s : State), bitAt (rewritten s) n = false ∧ s.get (POS_CTRL_EN n) ≠ 0 ∧ s.get (LOOP_STAT_STATE n) = 0) ∧
    (∃ (n : Fin 4) (s : State), bitAt (rewritten s) n = true) ∧
    (∃ (n : Fin 4) (s : State), (s.get (PWM_STAT_STATE n) = 0 ∨ s.get (PWM_STAT_STATE n) = 4) ∧ s.now % 2000 = 0) ∧
    (∃ (n : Nat) (s : State), n < 4 ∧ s.get (POS_STAT_SRC n) = 0 ∧ s.get (POS_CTRL_PRIM n) = 2) ∧
    (∃ (n : Nat) (s : State), n < 4 ∧ s.get (POS_STAT_SRC n) = 2) :=
  ⟨⟨1, State.reset, by decide +kernel⟩,
   ⟨1, st [(POS_ENC_CFG_CPR 1, 4), (POS_ENC_IDXPOS_POS 1, 4)], by decide +kernel⟩,
   ⟨1, State.reset, by decide +kernel⟩,
   ⟨1, st [(POS_CTRL_EN 1, 1)], by decide +kernel⟩,
   ⟨1, st [(POS_CTRL_EN 1, 1), (LOOP_STAT_STATE 1, 1)], by decide +kernel⟩,
   ⟨1, st [(POS_CTRL_EN 1, 1)], by decide +kernel⟩,
   ⟨1, st [(stallRst, 2)], by decide +kernel⟩,
   ⟨1, State.reset, by decide +kernel⟩,
   ⟨1, st [(POS_CTRL_PRIM 1, 2)], by decide +kernel⟩,
   ⟨1, st [(POS_STAT_SRC 1, 2)], by decide +kernel⟩⟩

theorem test_wit_resolver :
    (∃ (n : Fin 4) (s : State), s.get (POS_CTRL_EN n) ≠ 0 ∧ s.get (POS_CTRL_PRIM n) = 1 ∧ resDue n s = true) ∧
    (∃ (n : Nat), n < 4) ∧
    (∃ (n : Nat) (amp : F32) (s : State), n < 4 ∧ F32.lt amp (F32.ofInt (s.get (POS_RES_AMP_LO n))) = true) ∧
    (∃ (n : Nat) (amp : F32) (s : State), n < 4 ∧ F32.lt amp (F32.ofInt (s.get (POS_RES_AMP_LO n))) = false) ∧
    (∃ (n : Nat) (amp : F32) (s : State), n < 4 ∧ F32.lt (F32.ofInt (s.get (POS_RES_AMP_HI n))) amp = true) ∧
    (∃ (n : Nat) (s : State), (s.get (POS_RES_FN_LOSS_N n) ≤ s.get (posLowRun n) ∨ s.get (POS_RES_FN_LOSS_N n) ≤ s.get (posClipRun n))) ∧
    (∃ (n : Nat) (s : State), s.get (posLowRun n) < s.get (POS_RES_FN_LOSS_N n) ∧ s.get (posClipRun n) < s.get (POS_RES_FN_LOSS_N n) ∧ s.get
        (POS_RES_FN_LOSS_N n) ≤ s.get (posHighRun n)) ∧
    (∃ (n : Nat) (s : State), s.get (posLowRun n) < s.get (POS_RES_FN_LOSS_N n) ∧ s.get (posClipRun n) < s.get (POS_RES_FN_LOSS_N n) ∧ s.get
        (posHighRun n) < s.get (POS_RES_FN_LOSS_N n)) ∧
    (∃ (n : Fin 4) (s : State), s.get (POS_CTRL_EXC_EN n) ≠ 0 ∧ s.get (POS_CTRL_EN n) ≠ 0 ∧ s.get (POS_CTRL_PRIM n) = 1) ∧
    (∃ (n : Fin 4) (s : State), s.get (POS_CTRL_EXC_EN n) ≠ 0 ∧ (s.get (POS_CTRL_EN n) = 0 ∨ s.get (POS_CTRL_PRIM n) ≠ 1)) :=
  ⟨⟨1, { st [(POS_CTRL_EN 1, 1), (POS_CTRL_PRIM 1, 1)] with tbNow := 20000000000#64 }, by decide +kernel⟩,
   ⟨1, by decide +kernel⟩,
   ⟨1, 0, st [(POS_RES_AMP_LO 1, 1)], by decide +kernel⟩,
   ⟨1, default, State.reset, by decide +kernel⟩,
   ⟨1, 0x40000000, st [(POS_RES_AMP_HI 1, 1)], by decide +kernel⟩,
   ⟨0, st [(POS_RES_FN_LOSS_N 0, 1), (posLowRun 0, 1)], by decide +kernel⟩,
   ⟨0, st [(POS_RES_FN_LOSS_N 0, 1), (posHighRun 0, 1)], by decide +kernel⟩,
   ⟨0, State.reset, by decide +kernel⟩,
   ⟨1, st [(POS_CTRL_EXC_EN 1, 1), (POS_CTRL_EN 1, 1), (POS_CTRL_PRIM 1, 1)], by decide +kernel⟩,
   ⟨1, st [(POS_CTRL_EXC_EN 1, 1)], by decide +kernel⟩⟩

theorem test_wit_sensor_failure :
    (∃ (n : Nat) (s : State), s.get (POS_STAT_SFAIL n) ≠ 0) ∧
    (∃ (n : Nat) (s : State), n < 4 ∧ s.get (POS_STAT_SFAIL n) = 0 ∧ s.get (POS_BEMF_STAT_QUAL n) ≠ 0) ∧
    (∃ (n : Nat) (s : State), n < 4 ∧ s.get (POS_STAT_SFAIL n) = 0 ∧ s.get (POS_BEMF_STAT_QUAL n) = 0) :=
  ⟨⟨0, st [(POS_STAT_SFAIL 0, 1)], by decide +kernel⟩,
   ⟨1, st [(POS_BEMF_STAT_QUAL 1, 1)], by decide +kernel⟩,
   ⟨1, State.reset, by decide +kernel⟩⟩

theorem test_wit_encoder_count :
    (∃ (n : Fin 4) (a b : Bool) (s : State), s.get (POS_CTRL_EN n) ≠ 0 ∧ s.get (POS_CTRL_PRIM n) = 2 ∧ s.get (POS_ENC_COUNT_COUNT n) < s.get
        (POS_ENC_CFG_CPR n) ∧ s.get (posIdxPend n) = 0 ∧ quad a b = ((quad (s.get (posA n) != 0) (s.get (posB n) != 0)) + 1) % 4) ∧
    (∃ (n : Fin 4) (a b : Bool) (s : State), s.get (POS_CTRL_EN n) ≠ 0 ∧ s.get (POS_CTRL_PRIM n) = 2 ∧ s.get (POS_ENC_COUNT_COUNT n) < s.get
        (POS_ENC_CFG_CPR n) ∧ s.get (posIdxPend n) = 0 ∧ quad a b = ((quad (s.get (posA n) != 0) (s.get (posB n) != 0)) + 3) % 4) ∧
    (∃ (n : Fin 4) (a b : Bool) (s : State), s.get (POS_CTRL_EN n) ≠ 0 ∧ s.get (POS_CTRL_PRIM n) = 2 ∧ s.get (POS_ENC_COUNT_COUNT n) < s.get
        (POS_ENC_CFG_CPR n) ∧ s.get (posIdxPend n) = 0 ∧ quad a b = ((quad (s.get (posA n) != 0) (s.get (posB n) != 0)) + 2) % 4) ∧
    (∃ (n : Fin 4) (a b : Bool) (s : State), s.get (POS_CTRL_EN n) ≠ 0 ∧ s.get (POS_CTRL_PRIM n) = 2 ∧ s.get (POS_ENC_COUNT_COUNT n) < s.get
        (POS_ENC_CFG_CPR n) ∧ s.get (posIdxPend n) = 0 ∧ quad a b = (quad (s.get (posA n) != 0) (s.get (posB n) != 0))) ∧
    (∃ (n : Nat) (s : State), n < 4 ∧ s.get (posIllN n) < s.get (POS_ENC_ILL_LIMIT n)) ∧
    (∃ (n : Fin 4) (s : State), s.get (POS_CTRL_EN n) ≠ 0 ∧ s.get (POS_CTRL_PRIM n) = 2) ∧
    (∃ (n : Fin 4) (s : State), s.get (POS_CTRL_EN n) ≠ 0 ∧ s.get (POS_CTRL_PRIM n) = 2 ∧ (s.get (POS_ENC_CFG_ZGATE n) = 0 ∨ (s.get (posA n) ≠ 0 ∧
        s.get (posB n) ≠ 0)) ∧ encoderEdgeWaits n s = true) ∧
    (∃ (n : Fin 4) (s : State), s.get (POS_CTRL_EN n) ≠ 0 ∧ s.get (POS_CTRL_PRIM n) = 2 ∧ (s.get (POS_ENC_CFG_ZGATE n) = 0 ∨ (s.get (posA n) ≠ 0 ∧
        s.get (posB n) ≠ 0)) ∧ encoderEdgeWaits n s = false ∧ s.get (POS_STAT_HOMED n) = 0) ∧
    (∃ (n : Fin 4) (s : State), s.get (POS_CTRL_EN n) ≠ 0 ∧ s.get (POS_CTRL_PRIM n) = 2 ∧ (s.get (POS_ENC_CFG_ZGATE n) = 0 ∨ (s.get (posA n) ≠ 0 ∧
        s.get (posB n) ≠ 0)) ∧ encoderEdgeWaits n s = false ∧ s.get (POS_STAT_HOMED n) ≠ 0) ∧
    (∃ (n : Nat) (s : State), n < 4 ∧ (((s.get (POS_ENC_COUNT_COUNT n) : Int) - s.get (POS_ENC_IDXPOS_POS n) + s.get (POS_ENC_CFG_CPR n) / 2) %
        s.get (POS_ENC_CFG_CPR n) - s.get (POS_ENC_CFG_CPR n) / 2) = 0) ∧
    (∃ (n : Nat) (s : State), n < 4 ∧ (((s.get (POS_ENC_COUNT_COUNT n) : Int) - s.get (POS_ENC_IDXPOS_POS n) + s.get (POS_ENC_CFG_CPR n) / 2) %
        s.get (POS_ENC_CFG_CPR n) - s.get (POS_ENC_CFG_CPR n) / 2) ≠ 0 ∧ (((s.get (POS_ENC_COUNT_COUNT n) : Int) - s.get (POS_ENC_IDXPOS_POS n) +
            s.get (POS_ENC_CFG_CPR n) / 2) % s.get (POS_ENC_CFG_CPR n) - s.get (POS_ENC_CFG_CPR n) / 2).natAbs ≤ s.get (POS_ENC_IDX_IDX_TOL n)) ∧
    (∃ (n : Nat) (s : State), n < 4 ∧ (((s.get (POS_ENC_COUNT_COUNT n) : Int) - s.get (POS_ENC_IDXPOS_POS n) + s.get (POS_ENC_CFG_CPR n) / 2) %
        s.get (POS_ENC_CFG_CPR n) - s.get (POS_ENC_CFG_CPR n) / 2) ≠ 0 ∧ s.get (POS_ENC_IDX_IDX_TOL n) < (((s.get (POS_ENC_COUNT_COUNT n) : Int) -
            s.get (POS_ENC_IDXPOS_POS n) + s.get (POS_ENC_CFG_CPR n) / 2) % s.get (POS_ENC_CFG_CPR n) - s.get (POS_ENC_CFG_CPR n) / 2).natAbs ∧
                s.get (posMismRun n) < 2) :=
  ⟨⟨1, true, false, st [(POS_CTRL_EN 1, 1), (POS_CTRL_PRIM 1, 2), (POS_ENC_CFG_CPR 1, 4)], by decide +kernel⟩,
   ⟨1, false, true, st [(POS_CTRL_EN 1, 1), (POS_CTRL_PRIM 1, 2), (POS_ENC_CFG_CPR 1, 4)], by decide +kernel⟩,
   ⟨1, true, true, st [(POS_CTRL_EN 1, 1), (POS_CTRL_PRIM 1, 2), (POS_ENC_CFG_CPR 1, 4)], by decide +kernel⟩,
   ⟨1, false, false, st [(POS_CTRL_EN 1, 1), (POS_CTRL_PRIM 1, 2), (POS_ENC_CFG_CPR 1, 4)], by decide +kernel⟩,
   ⟨1, st [(POS_ENC_CFG_CPR 1, 4)], by decide +kernel⟩,
   ⟨1, st [(POS_CTRL_EN 1, 1), (POS_CTRL_PRIM 1, 2), (POS_ENC_CFG_CPR 1, 4)], by decide +kernel⟩,
   ⟨1, { st [(POS_CTRL_EN 1, 1), (POS_CTRL_PRIM 1, 2), (POS_ENC_CFG_CPR 1, 4)] with pending := [.encoderEdge 1 true true] }, by decide +kernel⟩,
   ⟨1, st [(POS_CTRL_EN 1, 1), (POS_CTRL_PRIM 1, 2), (POS_ENC_CFG_CPR 1, 4)], by decide +kernel⟩,
   ⟨1, st [(POS_CTRL_EN 1, 1), (POS_CTRL_PRIM 1, 2), (POS_STAT_HOMED 1, 1), (POS_ENC_CFG_CPR 1, 4)], by decide +kernel⟩,
   ⟨1, st [(POS_ENC_CFG_CPR 1, 4)], by decide +kernel⟩,
   ⟨1, st [(POS_ENC_CFG_CPR 1, 4), (POS_ENC_COUNT_COUNT 1, 1), (POS_ENC_IDX_IDX_TOL 1, 1)], by decide +kernel⟩,
   ⟨1, st [(POS_ENC_CFG_CPR 1, 4), (POS_ENC_COUNT_COUNT 1, 1), (POS_ENC_IDX_IDX_TOL 1, 0)], by decide +kernel⟩⟩

theorem test_wit_hall_edges :
    (∃ (n : Fin 4) (code : BitVec 3) (j k : Nat) (s : State), hallsRun n s = true ∧ hallSector code.toNat = some k ∧ hallSector (s.get
        (POS_HALL_STAT_CODE n)) = some j ∧ k = j) ∧
    (∃ (n : Fin 4) (code : BitVec 3) (j k : Nat) (s : State), hallsRun n s = true ∧ hallSector code.toNat = some k ∧ hallSector (s.get
        (POS_HALL_STAT_CODE n)) = some j ∧ k = (j + 1) % 6) ∧
    (∃ (n : Fin 4) (code : BitVec 3) (j k : Nat) (s : State), hallsRun n s = true ∧ hallSector code.toNat = some k ∧ hallSector (s.get
        (POS_HALL_STAT_CODE n)) = some j ∧ j = (k + 1) % 6) ∧
    (∃ (n : Fin 4) (code : BitVec 3) (j k : Nat) (s : State), hallsRun n s = true ∧ hallSector code.toNat = some k ∧ hallSector (s.get
        (POS_HALL_STAT_CODE n)) = some j ∧ k ≠ j ∧ k ≠ (j + 1) % 6 ∧ j ≠ (k + 1) % 6) ∧
    (∃ (n : Fin 4) (code : BitVec 3) (s : State), hallsRun n s = true ∧ hallSector code.toNat ≠ none ∧ hallSector (s.get (POS_HALL_STAT_CODE n)) =
        none) ∧
    (∃ (n a : Nat) (s : State), n < 4 ∧ a < 65536 ∧ s.get (POS_CTRL_PRIM n) = 4 ∧ s.get (posHallOut n) = 0) ∧
    (∃ (n : Fin 4) (s : State), hallsRun n s = true ∧ s.get (POS_HALL_STAT_ILLNOW n) = 0) ∧
    (∃ (n : Fin 4) (s : State), hallsRun n s = true ∧ s.get (POS_HALL_STAT_ILLNOW n) ≠ 0 ∧ s.get (posIllDone n) = 0 ∧ s.get (posHallIllAt n) + 2000
        * s.get (POS_HALL_CFG_ILL_TO n) ≤ s.now ∧ s.get (POS_CTRL_PRIM n) = 4) ∧
    (∃ (n : Fin 4) (s : State), hallsRun n s = true ∧ s.get (POS_HALL_STAT_ILLNOW n) ≠ 0 ∧ s.get (posIllDone n) = 0 ∧ s.get (posHallIllAt n) + 2000
        * s.get (POS_HALL_CFG_ILL_TO n) ≤ s.now ∧ s.get (POS_CTRL_PRIM n) ≠ 4 ∧ s.get (POS_XCHK_SRC n) = 1) ∧
    (∃ (n : Fin 4) (s : State), hallsRun n s = true ∧ s.get (POS_HALL_STAT_ILLNOW n) ≠ 0 ∧ s.get (posIllDone n) = 0 ∧ s.get (posHallIllAt n) + 2000
        * s.get (POS_HALL_CFG_ILL_TO n) ≤ s.now ∧ s.get (POS_CTRL_PRIM n) ≠ 4 ∧ s.get (POS_XCHK_SRC n) ≠ 1) :=
  ⟨⟨1, 5, 0, 0, st [(POS_CTRL_EN 1, 1), (POS_CTRL_HALL_EN 1, 1), (POS_HALL_STAT_CODE 1, 5)], by decide +kernel⟩,
   ⟨1, 1, 0, 1, st [(POS_CTRL_EN 1, 1), (POS_CTRL_HALL_EN 1, 1), (POS_HALL_STAT_CODE 1, 5)], by decide +kernel⟩,
   ⟨1, 4, 0, 5, st [(POS_CTRL_EN 1, 1), (POS_CTRL_HALL_EN 1, 1), (POS_HALL_STAT_CODE 1, 5)], by decide +kernel⟩,
   ⟨1, 2, 0, 3, st [(POS_CTRL_EN 1, 1), (POS_CTRL_HALL_EN 1, 1), (POS_HALL_STAT_CODE 1, 5)], by decide +kernel⟩,
   ⟨1, 5, st [(POS_CTRL_EN 1, 1), (POS_CTRL_HALL_EN 1, 1), (POS_HALL_STAT_CODE 1, 0)], by decide +kernel⟩,
   ⟨1, 1, st [(POS_CTRL_PRIM 1, 4), (POS_CTRL_EN 1, 1), (POS_CTRL_HALL_EN 1, 1), (POS_HALL_STAT_CODE 1, 5)], by decide +kernel⟩,
   ⟨1, st [(POS_CTRL_EN 1, 1), (POS_CTRL_HALL_EN 1, 1), (POS_HALL_STAT_CODE 1, 5)], by decide +kernel⟩,
   ⟨1, { st [(POS_HALL_STAT_ILLNOW 1, 1), (POS_CTRL_PRIM 1, 4), (POS_CTRL_EN 1, 1), (POS_CTRL_HALL_EN 1, 1), (POS_HALL_STAT_CODE 1, 5)] with tbNow := 20000000000#64 },
       by decide +kernel⟩,
   ⟨1, { st [(POS_HALL_STAT_ILLNOW 1, 1), (POS_XCHK_SRC 1, 1), (POS_CTRL_EN 1, 1), (POS_CTRL_HALL_EN 1, 1), (POS_HALL_STAT_CODE 1, 5)] with tbNow := 20000000000#64 },
       by decide +kernel⟩,
   ⟨1, { st [(POS_HALL_STAT_ILLNOW 1, 1), (POS_CTRL_EN 1, 1), (POS_CTRL_HALL_EN 1, 1), (POS_HALL_STAT_CODE 1, 5)] with tbNow := 20000000000#64 }, by
       decide +kernel⟩⟩

theorem test_wit_serial_sensors :
    (∃ (n : Fin 4) (raw : BitVec 32) (s : State), s.get (POS_CTRL_EN n) ≠ 0 ∧ s.get (posSsiBusy n) ≠ 0 ∧ ssiLastEdge n s + s.get (POS_SSI_TIM_DLY n)
        ≤ s.now ∧ ssiBad n (raw.toNat % 2 ^ s.get (POS_SSI_CFG_BITS n)) (ssiField n (raw.toNat % 2 ^ s.get (POS_SSI_CFG_BITS n)) s) (((s.set
            (posSsiBusy n) 0).set (posSsiEnd n) (ssiLastEdge n s + 1)).set (POS_SSI_RAW_RAW n) (raw.toNat % 2 ^ s.get (POS_SSI_CFG_BITS n))) =
                false) ∧
    (∃ (n : Fin 4) (raw : BitVec 32) (s : State), s.get (POS_CTRL_EN n) ≠ 0 ∧ s.get (posSsiBusy n) ≠ 0 ∧ ssiLastEdge n s + s.get (POS_SSI_TIM_DLY n)
        ≤ s.now ∧ ssiBad n (raw.toNat % 2 ^ s.get (POS_SSI_CFG_BITS n)) (ssiField n (raw.toNat % 2 ^ s.get (POS_SSI_CFG_BITS n)) s) (((s.set
            (posSsiBusy n) 0).set (posSsiEnd n) (ssiLastEdge n s + 1)).set (POS_SSI_RAW_RAW n) (raw.toNat % 2 ^ s.get (POS_SSI_CFG_BITS n))) = true
                ∧ (((((s.set (posSsiBusy n) 0).set (posSsiEnd n) (ssiLastEdge n s + 1)).set (POS_SSI_RAW_RAW n) (raw.toNat % 2 ^ s.get
                (POS_SSI_CFG_BITS n))).inc (POS_SSI_STAT_ERRS n)).inc (posSsiErrRun n)).get (posSsiErrRun n) < s.get (POS_SSI_TIM_ERR_N n)) ∧
    (∃ (n : Fin 4) (raw : BitVec 32) (s : State), s.get (POS_CTRL_EN n) ≠ 0 ∧ s.get (posSsiBusy n) ≠ 0 ∧ ssiLastEdge n s + s.get (POS_SSI_TIM_DLY n)
        ≤ s.now ∧ ssiBad n (raw.toNat % 2 ^ s.get (POS_SSI_CFG_BITS n)) (ssiField n (raw.toNat % 2 ^ s.get (POS_SSI_CFG_BITS n)) s) (((s.set
            (posSsiBusy n) 0).set (posSsiEnd n) (ssiLastEdge n s + 1)).set (POS_SSI_RAW_RAW n) (raw.toNat % 2 ^ s.get (POS_SSI_CFG_BITS n))) = true
                ∧ s.get (POS_SSI_TIM_ERR_N n) ≤ (((((s.set (posSsiBusy n) 0).set (posSsiEnd n) (ssiLastEdge n s + 1)).set (POS_SSI_RAW_RAW n)
                (raw.toNat % 2 ^ s.get (POS_SSI_CFG_BITS n))).inc (POS_SSI_STAT_ERRS n)).inc (posSsiErrRun n)).get (posSsiErrRun n)) ∧
    (∃ (n : Nat) (s : State), 1 ≤ s.get (POS_SSI_CFG_ST n)) ∧
    (∃ (n : Nat), n < 4) ∧
    (∃ (n : Nat) (s : State), n < 4 ∧ s.get (posSsiGood n) = 0) ∧
    (∃ (n v : Nat) (s : State), n < 4 ∧ (s.get (posSsiPrev n) = 0 ∨ (sext (s.get (POS_SSI_CFG_BITS n) - s.get (POS_SSI_CFG_ERRB n) - s.get
        (POS_SSI_CFG_PAR n)) (wrap (s.get (POS_SSI_CFG_BITS n) - s.get (POS_SSI_CFG_ERRB n) - s.get (POS_SSI_CFG_PAR n)) ((v : Int) - (s.get
            (posSsiPrev n) - 1 : Nat)))) = 0)) ∧
    (∃ (n v : Nat) (s : State), n < 4 ∧ s.get (posSsiPrev n) ≠ 0 ∧ (sext (s.get (POS_SSI_CFG_BITS n) - s.get (POS_SSI_CFG_ERRB n) - s.get
        (POS_SSI_CFG_PAR n)) (wrap (s.get (POS_SSI_CFG_BITS n) - s.get (POS_SSI_CFG_ERRB n) - s.get (POS_SSI_CFG_PAR n)) ((v : Int) - (s.get
            (posSsiPrev n) - 1 : Nat)))) ≠ 0 ∧ travelMin n s ≤ travelMax n s) ∧
    (∃ (n : Fin 4) (y : BitVec 24) (s : State), s.get (POS_CTRL_SENT_EN n) ≠ 0 ∧ (¬ (5 * ((y.toNat : Int) - (1120 * s.get (SENT_TICK_TICK
        n))).natAbs ≤ (1120 * s.get (SENT_TICK_TICK n)) ∧ ((s.get (posSentSync n)) = 0 ∨ 64 * ((y.toNat : Int) - (s.get (posSentSync n))).natAbs ≤
            (s.get (posSentSync n)))))) ∧
    (∃ (n : Fin 4) (y : BitVec 24) (w : List (BitVec 16)) (p : Option (BitVec 16)) (s : State), s.get (POS_CTRL_SENT_EN n) ≠ 0 ∧ (5 * ((y.toNat :
        Int) - (1120 * s.get (SENT_TICK_TICK n))).natAbs ≤ (1120 * s.get (SENT_TICK_TICK n)) ∧ ((s.get (posSentSync n)) = 0 ∨ 64 * ((y.toNat : Int)
            - (s.get (posSentSync n))).natAbs ≤ (s.get (posSentSync n)))) ∧ (¬ (w.length = (s.get (SENT_CFG_DN n)) + 2 ∧ (∀ x ∈ w, 12 ≤ x.toNat ∧
                x.toNat ≤ 27) ∧ (p.toList.all (fun z => s.get (SENT_CFG_PAUSE n) != 0 && decide (12 ≤ z.toNat ∧ z.toNat ≤ 768))) = true))) :=
  ⟨⟨1, 0, { st [(POS_CTRL_EN 1, 1), (posSsiBusy 1, 1)] with tbNow := 20000000000#64 }, by decide +kernel⟩,
   ⟨1, 0,
       { st [(POS_CTRL_EN 1, 1), (posSsiBusy 1, 1), (posSsiPrev 1, 101), (POS_SSI_CFG_ST 1, 8), (POS_SSI_TIM_ERR_N 1, 3), (POS_SSI_TIM_JUMP 1, 1)] with tbNow := 20000000000#64 },
           by decide +kernel⟩,
   ⟨1, 0,
       { st [(POS_CTRL_EN 1, 1), (posSsiBusy 1, 1), (posSsiPrev 1, 101), (POS_SSI_CFG_ST 1, 8), (POS_SSI_TIM_ERR_N 1, 1), (POS_SSI_TIM_JUMP 1, 1)] with tbNow := 20000000000#64 },
           by decide +kernel⟩,
   ⟨0, st [(POS_SSI_CFG_ST 0, 1)], by decide +kernel⟩,
   ⟨1, by decide +kernel⟩,
   ⟨1, State.reset, by decide +kernel⟩,
   ⟨1, 0, State.reset, by decide +kernel⟩,
   ⟨1, 5, st [(posSsiPrev 1, 1), (POS_SSI_CFG_BITS 1, 8)], by decide +kernel⟩,
   ⟨1, 0, st [(POS_CTRL_SENT_EN 1, 1)], by decide +kernel⟩,
   ⟨1, 1120, [], none, st [(POS_CTRL_SENT_EN 1, 1), (SENT_TICK_TICK 1, 1), (SENT_CFG_DN 1, 1)], by decide +kernel⟩⟩

theorem test_wit_serial_sensors_2 :
    (∃ (n : Fin 4) (y : BitVec 24) (w : List (BitVec 16)) (p : Option (BitVec 16)) (s : State), s.get (POS_CTRL_SENT_EN n) ≠ 0 ∧ (5 * ((y.toNat :
        Int) - (1120 * s.get (SENT_TICK_TICK n))).natAbs ≤ (1120 * s.get (SENT_TICK_TICK n)) ∧ ((s.get (posSentSync n)) = 0 ∨ 64 * ((y.toNat : Int)
            - (s.get (posSentSync n))).natAbs ≤ (s.get (posSentSync n)))) ∧ (w.length = (s.get (SENT_CFG_DN n)) + 2 ∧ (∀ x ∈ w, 12 ≤ x.toNat ∧
                x.toNat ≤ 27) ∧ (p.toList.all (fun z => s.get (SENT_CFG_PAUSE n) != 0 && decide (12 ≤ z.toNat ∧ z.toNat ≤ 768))) = true) ∧ (w.map
                (fun x => x.toNat - 12)).getD ((s.get (SENT_CFG_DN n)) + 1) 16 ≠ sentCrc (s.flag (SENT_CFG_CRCM n)) (((w.map (fun x => x.toNat -
                12)).drop 1).take (s.get (SENT_CFG_DN n)))) ∧
    (∃ (n : Fin 4) (y : BitVec 24) (w : List (BitVec 16)) (p : Option (BitVec 16)) (s : State), s.get (POS_CTRL_SENT_EN n) ≠ 0 ∧ (5 * ((y.toNat :
        Int) - (1120 * s.get (SENT_TICK_TICK n))).natAbs ≤ (1120 * s.get (SENT_TICK_TICK n)) ∧ ((s.get (posSentSync n)) = 0 ∨ 64 * ((y.toNat : Int)
            - (s.get (posSentSync n))).natAbs ≤ (s.get (posSentSync n)))) ∧ (w.length = (s.get (SENT_CFG_DN n)) + 2 ∧ (∀ x ∈ w, 12 ≤ x.toNat ∧
                x.toNat ≤ 27) ∧ (p.toList.all (fun z => s.get (SENT_CFG_PAUSE n) != 0 && decide (12 ≤ z.toNat ∧ z.toNat ≤ 768))) = true) ∧ (w.map
                (fun x => x.toNat - 12)).getD ((s.get (SENT_CFG_DN n)) + 1) 16 = sentCrc (s.flag (SENT_CFG_CRCM n)) (((w.map (fun x => x.toNat -
                12)).drop 1).take (s.get (SENT_CFG_DN n)))) ∧
    (∃ (n : Nat) (s : State), n < 4 ∧ (s.get (POS_XCHK_SRC n) ≠ 2 ∨ s.get (SENT_ANG_RATIO n) = 0 ∨ s.get (POS_CTRL_EN n) = 0)) ∧
    (∃ (n : Nat) (s : State), n < 4 ∧ s.get (POS_XCHK_SRC n) = 2 ∧ s.get (SENT_ANG_RATIO n) ≠ 0 ∧ s.get (POS_CTRL_EN n) ≠ 0) ∧
    (∃ (n nib : Nat) (s : State), n < 4 ∧ (¬ (17 ≤ s.get (posSlowN n) ∧ ((s.get (posSlow3 n) * 2 + (nib.testBit 3).toNat) % 2 ^ 18) / 2 ^ 11 =
        0b1111110 ∧ ((s.get (posSlow3 n) * 2 + (nib.testBit 3).toNat) % 2 ^ 18).testBit 5 = false ∧ ((s.get (posSlow3 n) * 2 + (nib.testBit
            3).toNat) % 2 ^ 18).testBit 0 = false))) ∧
    (∃ (n nib : Nat) (s : State), n < 4 ∧ (17 ≤ s.get (posSlowN n) ∧ ((s.get (posSlow3 n) * 2 + (nib.testBit 3).toNat) % 2 ^ 18) / 2 ^ 11 =
        0b1111110 ∧ ((s.get (posSlow3 n) * 2 + (nib.testBit 3).toNat) % 2 ^ 18).testBit 5 = false ∧ ((s.get (posSlow3 n) * 2 + (nib.testBit
            3).toNat) % 2 ^ 18).testBit 0 = false) ∧ ((s.get (posSlow2 n) * 2 + (nib.testBit 2).toNat) % 2 ^ 18) / 2 ^ 12 ≠ sentCrc6 ((s.get
                (posSlow2 n) * 2 + (nib.testBit 2).toNat) % 2 ^ 18) ((s.get (posSlow3 n) * 2 + (nib.testBit 3).toNat) % 2 ^ 18)) ∧
    (∃ (n nib : Nat) (s : State), n < 4 ∧ (17 ≤ s.get (posSlowN n) ∧ ((s.get (posSlow3 n) * 2 + (nib.testBit 3).toNat) % 2 ^ 18) / 2 ^ 11 =
        0b1111110 ∧ ((s.get (posSlow3 n) * 2 + (nib.testBit 3).toNat) % 2 ^ 18).testBit 5 = false ∧ ((s.get (posSlow3 n) * 2 + (nib.testBit
            3).toNat) % 2 ^ 18).testBit 0 = false) ∧ ((s.get (posSlow2 n) * 2 + (nib.testBit 2).toNat) % 2 ^ 18) / 2 ^ 12 = sentCrc6 ((s.get
                (posSlow2 n) * 2 + (nib.testBit 2).toNat) % 2 ^ 18) ((s.get (posSlow3 n) * 2 + (nib.testBit 3).toNat) % 2 ^ 18) ∧ ((s.get (posSlow3
                n) * 2 + (nib.testBit 3).toNat) % 2 ^ 18).testBit 10 = false) :=
  ⟨⟨1, 1120, [12, 13, 14], none, st [(POS_CTRL_SENT_EN 1, 1), (SENT_TICK_TICK 1, 1), (SENT_CFG_DN 1, 1)], by refine ⟨by decide +kernel, ⟨by decide +kernel, Or.inl (by decide +kernel)⟩, ⟨by decide +kernel, by simp, rfl⟩, by decide +kernel⟩⟩,
   ⟨1, 1120, [12, 12, 22], none, st [(POS_CTRL_SENT_EN 1, 1), (SENT_TICK_TICK 1, 1), (SENT_CFG_DN 1, 1)], by refine ⟨by decide +kernel, ⟨by
       decide +kernel, Or.inl (by decide +kernel)⟩, ⟨by decide +kernel, by simp, rfl⟩, by decide +kernel⟩⟩,
   ⟨1, State.reset, by decide +kernel⟩,
   ⟨1, st [(POS_XCHK_SRC 1, 2), (SENT_ANG_RATIO 1, 1), (POS_CTRL_EN 1, 1)], by decide +kernel⟩,
   ⟨1, 0, State.reset, by decide +kernel⟩,
   ⟨1, 0, st [(posSlowN 1, 17), (posSlow2 1, 14675), (posSlow3 1, 129187)], by decide +kernel⟩,
   ⟨1, 0, st [(posSlowN 1, 17), (posSlow2 1, 12627), (posSlow3 1, 129187)], by decide +kernel⟩⟩

theorem test_wit_serial_sensors_3 :
    (∃ (n nib : Nat) (s : State), n < 4 ∧ (17 ≤ s.get (posSlowN n) ∧ ((s.get (posSlow3 n) * 2 + (nib.testBit 3).toNat) % 2 ^ 18) / 2 ^ 11 =
        0b1111110 ∧ ((s.get (posSlow3 n) * 2 + (nib.testBit 3).toNat) % 2 ^ 18).testBit 5 = false ∧ ((s.get (posSlow3 n) * 2 + (nib.testBit
            3).toNat) % 2 ^ 18).testBit 0 = false) ∧ ((s.get (posSlow2 n) * 2 + (nib.testBit 2).toNat) % 2 ^ 18) / 2 ^ 12 = sentCrc6 ((s.get
                (posSlow2 n) * 2 + (nib.testBit 2).toNat) % 2 ^ 18) ((s.get (posSlow3 n) * 2 + (nib.testBit 3).toNat) % 2 ^ 18) ∧ ((s.get (posSlow3
                n) * 2 + (nib.testBit 3).toNat) % 2 ^ 18).testBit 10 = true) ∧
    (∃ (n : Fin 4) (s : State), s.get (POS_CTRL_SENT_EN n) ≠ 0 ∧ s.get (SENT_STAT_LOST n) = 0 ∧ s.get (posSentAt n) + 200 * s.get (SENT_TO_TO n) ≤
        s.now ∧ s.get (POS_XCHK_SRC n) ≠ 2) ∧
    (∃ (n : Fin 4) (s : State), s.get (POS_CTRL_SENT_EN n) ≠ 0 ∧ s.get (SENT_STAT_LOST n) = 0 ∧ s.get (posSentAt n) + 200 * s.get (SENT_TO_TO n) ≤
        s.now ∧ s.get (POS_XCHK_SRC n) = 2) ∧
    (∃ (k v : Nat), k ≤ 5 ∧ v < 2 ^ 2 ^ k) :=
  ⟨⟨1, 0, st [(posSlowN 1, 17), (posSlow2 1, 127315), (posSlow3 1, 129699)], by decide +kernel⟩,
   ⟨1, { st [(POS_CTRL_SENT_EN 1, 1)] with tbNow := 20000000000#64 }, by decide +kernel⟩,
   ⟨1, { st [(POS_CTRL_SENT_EN 1, 1), (POS_XCHK_SRC 1, 2)] with tbNow := 20000000000#64 }, by decide +kernel⟩,
   ⟨0, 1, by decide +kernel⟩⟩

theorem test_wit_travel :
    (∃ (n : Nat) (d : Int) (s : State), n < 4 ∧ d ≠ 0 ∧ travelMin n s ≤ travelMax n s) ∧
    (∃ (n : Fin 4) (hi : BitVec 32) (s : State), bitAt (rewritten s) n = false ∧ travelMin n s ≤ (sext 48 (heldOr s (POS_TRAVEL_LO_TRAVEL n).addr
        (s.get (POS_TRAVEL_LO_TRAVEL n)) + 2 ^ 32 * (hi.toNat % 65536))) ∧ (sext 48 (heldOr s (POS_TRAVEL_LO_TRAVEL n).addr (s.get
            (POS_TRAVEL_LO_TRAVEL n)) + 2 ^ 32 * (hi.toNat % 65536))) ≤ travelMax n s ∧ s.get (posMvAt n) ≠ s.now + 1) ∧
    (∃ (n : Fin 4) (hi : BitVec 32) (s : State), bitAt (rewritten s) n = false ∧ travelMin n s ≤ (sext 48 (heldOr s (POS_TRAVEL_LO_TRAVEL n).addr
        (s.get (POS_TRAVEL_LO_TRAVEL n)) + 2 ^ 32 * (hi.toNat % 65536))) ∧ (sext 48 (heldOr s (POS_TRAVEL_LO_TRAVEL n).addr (s.get
            (POS_TRAVEL_LO_TRAVEL n)) + 2 ^ 32 * (hi.toNat % 65536))) ≤ travelMax n s ∧ s.get (posMvAt n) = s.now + 1) ∧
    (∃ (n : Fin 4) (hi : BitVec 32) (s : State), bitAt (rewritten s) n = false ∧ ((sext 48 (heldOr s (POS_TRAVEL_LO_TRAVEL n).addr (s.get
        (POS_TRAVEL_LO_TRAVEL n)) + 2 ^ 32 * (hi.toNat % 65536))) < travelMin n s ∨ travelMax n s < (sext 48 (heldOr s (POS_TRAVEL_LO_TRAVEL n).addr
            (s.get (POS_TRAVEL_LO_TRAVEL n)) + 2 ^ 32 * (hi.toNat % 65536))))) :=
  ⟨⟨1, -1, State.reset, by decide +kernel⟩,
   ⟨1, 0, State.reset, by decide +kernel⟩,
   ⟨1, 0, st [(posMvAt 1, 1)], by decide +kernel⟩,
   ⟨1, 0, st [(POS_TRAVEL_MIN_LO_MIN 1, 1), (POS_TRAVEL_MIN_HI_MIN 1, 0)], by decide +kernel⟩⟩

theorem test_wit_probe_and_still :
    (∃ (n : Fin 4) (r : Bool) (s : State), s.get (POS_CTRL_PRB_EN n) ≠ 0 ∧ (s.get (POS_PRB_CFG_EDGE n) = 2 ∨ (s.get (POS_PRB_CFG_EDGE n) = 0 ∧ r =
        true) ∨ (s.get (POS_PRB_CFG_EDGE n) = 1 ∧ r = false)) ∧ s.get (POS_PRB_STAT_FULL n) ≠ 0) ∧
    (∃ (n : Fin 4) (r : Bool) (s : State), s.get (POS_CTRL_PRB_EN n) ≠ 0 ∧ (s.get (POS_PRB_CFG_EDGE n) = 2 ∨ (s.get (POS_PRB_CFG_EDGE n) = 0 ∧ r =
        true) ∨ (s.get (POS_PRB_CFG_EDGE n) = 1 ∧ r = false)) ∧ s.get (POS_PRB_STAT_FULL n) = 0) ∧
    (∃ (n : Fin 4) (s : State), bitAt (rewritten s) n = false) ∧
    (∃ (n : Nat), n < 4) ∧
    (∃ (n : Nat) (dir : Bool) (s : State), n < 4 ∧ (s.get (POS_SPD_STAT_MODE n) = 0 ∨ s.flag (POS_SPD_STAT_DIR n) ≠ dir)) ∧
    (∃ (n : Nat) (dir : Bool) (s : State), n < 4 ∧ s.get (POS_SPD_STAT_MODE n) ≠ 0 ∧ s.flag (POS_SPD_STAT_DIR n) = dir) ∧
    (∃ (n : Fin 4) (s : State), s.get (POS_CTRL_EN n) ≠ 0 ∧ s.get (POS_CTRL_PRIM n) = 2 ∧ encoderEdgeWaits n s = false ∧ s.get (POS_SPD_STAT_MODE n)
        ≠ 0 ∧ s.get (posEdgeAt n) - 1 + 20000 * s.get (POS_SPD_CFG_STILL_TO n) ≤ s.now) ∧
    (∃ (n : Fin 4) (s : State), s.get (POS_CTRL_EN n) ≠ 0 ∧ s.get (POS_CTRL_PRIM n) = 4 ∧ hallEdgeWaits n s = false ∧ s.get (POS_SPD_STAT_MODE n) ≠
        0 ∧ s.get (posEdgeAt n) - 1 + 20000 * s.get (POS_SPD_CFG_STILL_TO n) ≤ s.now) ∧
    (∃ (n : Fin 4) (s : State), s.get (POS_CTRL_EN n) ≠ 0 ∧ s.get (POS_CTRL_PRIM n) = 2 ∧ encoderEdgeWaits n s = true) ∧
    (∃ (n : Fin 4) (s : State), s.get (POS_CTRL_EN n) ≠ 0 ∧ (s.get (POS_CTRL_PRIM n) = 1 ∨ s.get (POS_CTRL_PRIM n) = 3) ∧ s.get (posLowAt n) ≠ 0 ∧
        s.get (posLowAt n) - 1 + 20000 * s.get (POS_SPD_CFG_STILL_TO n) ≤ s.now) ∧
    (∃ (n : Fin 4) (s : State), s.get (bemfGood n) = 256 ∧ s.get (LOOP_STAT_STATE n) ≠ 0) ∧
    (∃ (n : Fin 4) (s : State), s.get (bemfBad n) = 16 ∧ s.get (POS_BEMF_STAT_QUAL n) ≠ 0 ∧ s.get (POS_STAT_SRC n) ≠ 1) ∧
    (∃ (n : Fin 4) (s : State), s.get (bemfBad n) = 16 ∧ s.get (POS_BEMF_STAT_QUAL n) ≠ 0 ∧ s.get (POS_STAT_SRC n) = 1) :=
  ⟨⟨1, true, st [(POS_CTRL_PRB_EN 1, 1), (POS_PRB_CFG_EDGE 1, 2), (POS_PRB_STAT_FULL 1, 1)], by decide +kernel⟩,
   ⟨1, true, st [(POS_CTRL_PRB_EN 1, 1), (POS_PRB_CFG_EDGE 1, 2)], by decide +kernel⟩,
   ⟨1, State.reset, by decide +kernel⟩,
   ⟨1, by decide +kernel⟩,
   ⟨1, true, State.reset, by decide +kernel⟩,
   ⟨1, true, st [(POS_SPD_STAT_MODE 1, 1), (POS_SPD_STAT_DIR 1, 1)], by decide +kernel⟩,
   ⟨1, { st [(POS_CTRL_EN 1, 1), (POS_CTRL_PRIM 1, 2), (POS_SPD_STAT_MODE 1, 1)] with tbNow := 20000000000#64 }, by decide +kernel⟩,
   ⟨1, { st [(POS_CTRL_EN 1, 1), (POS_CTRL_PRIM 1, 4), (POS_SPD_STAT_MODE 1, 1)] with tbNow := 20000000000#64 }, by decide +kernel⟩,
   ⟨1, { st [(POS_CTRL_EN 1, 1), (POS_CTRL_PRIM 1, 2)] with pending := [.encoderEdge 1 true true] }, by decide +kernel⟩,
   ⟨1, { st [(POS_CTRL_EN 1, 1), (POS_CTRL_PRIM 1, 1), (posLowAt 1, 1)] with tbNow := 20000000000#64 }, by decide +kernel⟩,
   ⟨1, st [(bemfGood 1, 256), (LOOP_STAT_STATE 1, 1)], by decide +kernel⟩,
   ⟨1, st [(bemfBad 1, 16), (POS_BEMF_STAT_QUAL 1, 1)], by decide +kernel⟩,
   ⟨1, st [(bemfBad 1, 16), (POS_BEMF_STAT_QUAL 1, 1), (POS_STAT_SRC 1, 1)], by decide +kernel⟩⟩

theorem test_wit_loop_commands :
    (∃ (n : Fin 4) (s : State), bitAt (rewritten s) n = false ∧ s.get (LOOP_CMD_STATUS n) ≠ stBusy ∧ s.get (LOOP_STAT_STATE n) ≠ 0) ∧
    (∃ (n : Fin 4) (s : State), bitAt (rewritten s) n = false ∧ s.get (LOOP_CMD_STATUS n) ≠ stBusy ∧ s.get (LOOP_STAT_STATE n) = 0 ∧ slotsReady n s
        = true ∧ s.get (SENSE_CTRL_EN n) ≠ 0 ∧ s.get (SENSE_CAL_STAT_VALID n) ≠ 0 ∧ s.get (POS_ANG_QUAL (leadOf n s)) ≠ 0 ∧ bankOk n (s.get
            (LOOP_STAT_PSET n)) s = true ∧ (s.get (LOOP_STAT_A_FAILED n) = 0 ∨ s.get (LOOP_STAT_B_FAILED n) = 0) ∧ s.get (PWM_STAT_STATE n) ≠ 4) ∧
    (∃ (n : Fin 4) (s : State), bitAt (rewritten s) n = false ∧ s.get (LOOP_CMD_STATUS n) ≠ stBusy ∧ switching n s = true) ∧
    (∃ (n : Fin 4) (s : State), bitAt (rewritten s) n = false ∧ s.get (LOOP_CMD_STATUS n) ≠ stBusy ∧ switching n s = false ∧ s.get (loopBusy n) = 0
        ∧ s.get (LOOP_STAT_STATE n) ≠ 3) ∧
    (∃ (n : Fin 4) (s : State), bitAt (rewritten s) n = false ∧ s.get (LOOP_CMD_STATUS n) ≠ stBusy ∧ switching n s = false ∧ (s.get (loopBusy n) ≠ 0
        ∨ s.get (LOOP_STAT_STATE n) = 3)) ∧
    (∃ (n : Fin 4) (s : State), bitAt (rewritten s) n = false ∧ s.get (LOOP_CMD_STATUS n) ≠ stBusy ∧ s.get (loopPset n) = 0 ∧ bankOk n (1 - s.get
        (LOOP_STAT_PSET n)) s = true ∧ s.get (LOOP_STAT_STATE n) ≠ 0) ∧
    (∃ (n : Fin 4) (s : State), bitAt (rewritten s) n = false ∧ s.get (LOOP_CMD_STATUS n) ≠ stBusy ∧ s.get (loopPset n) = 0 ∧ bankOk n (1 - s.get
        (LOOP_STAT_PSET n)) s = true ∧ s.get (LOOP_STAT_STATE n) = 0) ∧
    (∃ (n : Fin 4) (s : State), bitAt (rewritten s) n = false ∧ s.get (LOOP_CMD_STATUS n) ≠ stBusy ∧ (s.get (loopPset n) ≠ 0 ∨ bankOk n (1 - s.get
        (LOOP_STAT_PSET n)) s = false)) ∧
    (∃ (n : Fin 4) (s : State), s.get (loopPset n) ≠ 0 ∧ (s.get (LOOP_STAT_STATE n) = 0 ∨ s.get (senTrigAt n) = s.now)) ∧
    (∃ (n : Fin 4) (s : State), bitAt (rewritten s) n = false) ∧
    (∃ (n : Fin 4) (s : State), bitAt (rewritten s) n = false ∧ s.get (loopSlackAt n) ≠ s.now + 1) ∧
    (∃ (n : Fin 4) (s : State), bitAt (rewritten s) n = true) :=
  ⟨⟨1, st [(LOOP_STAT_STATE 1, 1)], by decide +kernel⟩,
   ⟨1, st [(SENSE_CTRL_EN 1, 1), (SENSE_CAL_STAT_VALID 1, 1), (POS_ANG_QUAL 1, 1)], by decide +kernel⟩,
   ⟨1, st [(PWM_STAT_STATE 1, 2)], by decide +kernel⟩,
   ⟨1, State.reset, by decide +kernel⟩,
   ⟨1, st [(loopBusy 1, 1)], by decide +kernel⟩,
   ⟨1, st [(LOOP_STAT_STATE 1, 1)], by decide +kernel⟩,
   ⟨1, State.reset, by decide +kernel⟩,
   ⟨1, st [(loopPset 1, 1)], by decide +kernel⟩,
   ⟨1, st [(loopPset 1, 1)], by decide +kernel⟩,
   ⟨1, State.reset, by decide +kernel⟩,
   ⟨1, State.reset, by decide +kernel⟩,
   ⟨1, st [(stallRst, 2)], by decide +kernel⟩⟩

theorem test_wit_loop_periods :
    (∃ (n : Fin 4) (s : State), s.get (loopBusy n) = 0) ∧
    (∃ (n : Fin 4) (m : Bool) (s : State), s.get (loopBusy n) ≠ 0 ∧ m = true ∧ 2 ≤ enginesIn n (ledgerPeriod n (slotsEval n s))) ∧
    (∃ (n : Fin 4) (m : Bool) (s : State), s.get (loopBusy n) ≠ 0 ∧ (m = false ∨ enginesIn n (ledgerPeriod n (slotsEval n s)) < 2)) ∧
    (∃ (n : Nat) (s : State), n < 4 ∧ s.now * 64 ≤ deadline n s ∧ s.get (LOOP_STAT_ENG_R n) = 0) ∧
    (∃ (n : Fin 4) (s : State), s.get (loopBusy n) ≠ 0 ∧ deadline n s ≤ s.now * 64) ∧
    (∃ (n : Nat) (s : State), n < 4 ∧ ((raiseStall n 0x10 ((s.inc (LOOP_LATE_COUNT_COUNT n)).inc (LOOP_LATE_RUN_RUN n))).get (LOOP_LATE_RUN_RUN n) <
        (if s.get (LOOP_LATE_CFG_LIMIT n) = 0 then 16 else s.get (LOOP_LATE_CFG_LIMIT n)) ∨ s.get (loopLateSeen n) ≠ 0)) ∧
    (∃ (n : Nat) (s : State), n < 4 ∧ (if s.get (LOOP_LATE_CFG_LIMIT n) = 0 then 16 else s.get (LOOP_LATE_CFG_LIMIT n)) ≤ (raiseStall n 0x10 ((s.inc
        (LOOP_LATE_COUNT_COUNT n)).inc (LOOP_LATE_RUN_RUN n))).get (LOOP_LATE_RUN_RUN n) ∧ s.get (loopLateSeen n) = 0) ∧
    (∃ (n : Fin 4) (s : State), s.get (LOOP_Pb_CFG_FERR_T n (s.get (LOOP_STAT_PSET n))) ≠ 0 ∧ s.get (LOOP_Pb_CFG_FERR_T n (s.get (LOOP_STAT_PSET
        n))) * 25600 ≤ s.get (loopFerr n) ∧ s.get (loopFerrDone n) = 0) :=
  ⟨⟨1, State.reset, by decide +kernel⟩,
   ⟨1, true, st [(loopBusy 1, 1)], by decide +kernel⟩,
   ⟨1, false, st [(loopBusy 1, 1)], by decide +kernel⟩,
   ⟨1, State.reset, by decide +kernel⟩,
   ⟨1, { st [(loopBusy 1, 1)] with tbNow := 20000000000#64 }, by decide +kernel⟩,
   ⟨1, State.reset, by decide +kernel⟩,
   ⟨1, st [(LOOP_LATE_CFG_LIMIT 1, 1)], by decide +kernel⟩,
   ⟨1, st [(LOOP_Pb_CFG_FERR_T 1 0, 1), (loopFerr 1, 25600)], by decide +kernel⟩⟩

theorem test_wit_recovery :
    (∃ (n : Fin 4) (s : State), s.get (LOOP_STAT_STATE n) ≠ 3) ∧
    (∃ (n : Fin 4) (s : State), s.get (LOOP_STAT_ENG_R n) = 0 ∧ holdsRemount n s = true) ∧
    (∃ (n : Fin 4) (ab ar br : Bool) (s : State), s.get (LOOP_STAT_STATE n) = 3 ∧ s.get REMOUNT_REQ_REQ = 0 ∧ (rcvOutcome n ab ar br s) = 6) ∧
    (∃ (n : Fin 4) (ab ar br : Bool) (s : State), s.get (LOOP_STAT_STATE n) = 3 ∧ s.get REMOUNT_REQ_REQ = 0 ∧ (rcvOutcome n ab ar br s) ≠ 6) ∧
    (∃ (s : State), s.get REMOUNT_REQ_REQ = 0) ∧
    (∃ (n : Nat) (s : State), n < 4 ∧ bitAt (s.get REMOUNT_REQ_REQ) n = true ∧ (∀ m < n, bitAt (s.get REMOUNT_REQ_REQ) m = false) ∧ s.get
        (PWM_STAT_STATE n) < 3 ∧ s.get REMOUNT_CTRL_EN ≠ 0 ∧ s.get REMOUNT_STAT_FAILED = 0 ∧ s.get REMOUNT_STAT_HELD = 0) ∧
    (∃ (s : State), s.get REMOUNT_REQ_REQ ≠ 0 ∧ (s.get REMOUNT_CTRL_EN = 0 ∨ s.get REMOUNT_STAT_FAILED ≠ 0 ∨ s.get REMOUNT_STAT_HELD ≠ 0)) ∧
    (∃ (n : Nat) (s : State), holdsRemount n s = true) ∧
    (∃ (n : Fin 4) (s : State), s.get (LOOP_STAT_SHADOW n) ≠ 0 ∧ s.get (LOOP_REJOIN_N n) ≤ s.get (loopAgree n)) :=
  ⟨⟨1, State.reset, by decide +kernel⟩,
   ⟨1, st [(REMOUNT_STAT_HELD, 1), (REMOUNT_STAT_STALL, 1)], by decide +kernel⟩,
   ⟨1, false, true, true, st [(LOOP_STAT_STATE 1, 3)], by decide +kernel⟩,
   ⟨1, true, true, true, st [(LOOP_STAT_STATE 1, 3)], by decide +kernel⟩,
   ⟨State.reset, by decide +kernel⟩,
   ⟨1, st [(REMOUNT_REQ_REQ, 2 ^ 1), (REMOUNT_CTRL_EN, 1)], by decide +kernel⟩,
   ⟨st [(REMOUNT_REQ_REQ, 1), (REMOUNT_STAT_HELD, 1)], by decide +kernel⟩,
   ⟨1, st [(REMOUNT_STAT_HELD, 1), (REMOUNT_STAT_STALL, 1)], by decide +kernel⟩,
   ⟨1, st [(LOOP_STAT_SHADOW 1, 1), (LOOP_REJOIN_N 1, 16), (loopAgree 1, 16)], by decide +kernel⟩⟩

theorem test_wit_pwm_commands :
    (∃ (n : Fin 4) (s : State), bitAt (rewritten s) n = false ∧ s.get (PWM_CMD_STATUS n) ≠ stBusy ∧ s.get (PWM_CTRL_PAIR n) ≠ 2 ∧ (∀ p ∈ pairList n
        s, startBlocked p s = false)) ∧
    (∃ (n : Fin 4) (s : State), bitAt (rewritten s) n = false ∧ s.get (PWM_CMD_STATUS n) ≠ stBusy ∧ (s.get (PWM_CTRL_PAIR n) = 2 ∨ (∃ p ∈ pairList n
        s, startBlocked p s = true))) ∧
    (∃ (n : Fin 4) (s : State), bitAt (rewritten s) n = false ∧ s.get (PWM_CMD_STATUS n) ≠ stBusy ∧ s.get (PWM_CTRL_PAIR n) = 0 ∧ startBlocked n s =
        false ∧ standingCause n s = none ∧ s.get YOKE_STAT_LOCKSTEP_BROKEN = 0) ∧
    (∃ (n : Fin 4) (s : State), bitAt (rewritten s) n = false ∧ s.get (PWM_CMD_STATUS n) ≠ stBusy ∧ s.get (PWM_CTRL_PAIR n) = 0 ∧ startBlocked n s =
        false ∧ standingCause n s ≠ none) ∧
    (∃ (n : Fin 4) (f : Fin 64) (z : Nat) (s : State), s.get (pwmAwait n) ≠ 0 ∧ (s.get (PWM_STAT_STATE n) = 1 ∨ s.get (PWM_STAT_STATE n) = 3) ∧
        firstZero n s = some z ∧ z ≤ s.fineNow f) ∧
    (∃ (n : Fin 4) (f : Fin 64) (z : Nat) (s : State), s.get (pwmAwait n) ≠ 0 ∧ (s.get (PWM_STAT_STATE n) = 1 ∨ s.get (PWM_STAT_STATE n) = 3) ∧
        firstZero n s = some z ∧ s.fineNow f < z) ∧
    (∃ (n : Nat) (s : State), n < 4 ∧ s.get (PWM_CTRL_PAIR n) ≠ 2 ∧ s.get (PWM_CTRL_LOCK n) = 0) ∧
    (∃ (n : Nat) (s : State), n < 4 ∧ s.get (PWM_CTRL_PAIR n) ≠ 2 ∧ s.get (PWM_CTRL_LOCK n) ≠ 0 ∧ s.get refRun ≠ 0 ∧ s.get (pwmDue n) * 64 ≤ s.get
        refZeroAt + s.get (PWM_OFFSET_OFS_ACT n)) ∧
    (∃ (n z : Nat) (s : State), n < 4 ∧ cohDueAt n z s = false ∧ s.get (PWM_CTRL_COH n) = 0) ∧
    (∃ (n z : Nat) (s : State), n < 4 ∧ cohDueAt n z s = false ∧ s.get (PWM_CTRL_COH n) ≠ 0 ∧ s.get (PWM_LOAD_ARM_ARM n) ≠ 0 ∧ bitAt (s.get
        (pwmPendSet n)) 0 = true) ∧
    (∃ (q : Nat), 0 < q) ∧
    (∃ (n : Fin 4) (s : State), bitAt (rewritten s) n = false ∧ s.get (PWM_CMD_STATUS n) ≠ stBusy ∧ switching n s = true) ∧
    (∃ (n : Fin 4) (s : State), bitAt (rewritten s) n = false ∧ s.get (PWM_CMD_STATUS n) ≠ stBusy ∧ switching n s = false) ∧
    (∃ (n : Nat), n < 4) ∧
    (∃ (n : Fin 4) (mask : BitVec 4) (s : State), bitAt (rewritten s) n = false ∧ s.get (PWM_CMD_STATUS n) ≠ stBusy ∧ mask ≠ 0 ∧ (mask.toNat &&&
        s.get (PWM_TRIP_STAT_LATCH n)) &&& s.get (PWM_TRIP_STAT_IN n) = 0) ∧
    (∃ (n : Fin 4) (mask : BitVec 4) (s : State), bitAt (rewritten s) n = false ∧ s.get (PWM_CMD_STATUS n) ≠ stBusy ∧ (mask = 0 ∨ (mask.toNat &&&
        s.get (PWM_TRIP_STAT_LATCH n)) &&& s.get (PWM_TRIP_STAT_IN n) ≠ 0)) :=
  ⟨⟨1, st [(pwmPinHigh 1, 1), (REIN_Lh_STAT_STATE 3, 3), (REIN_Lh_STAT_STATE 4, 3), (REIN_Lh_STAT_STATE 5, 3)], by decide +kernel⟩,
   ⟨1, st [(PWM_CTRL_PAIR 1, 2)], by decide +kernel⟩,
   ⟨1, st [(pwmPinHigh 1, 1), (REIN_Lh_STAT_STATE 3, 3), (REIN_Lh_STAT_STATE 4, 3), (REIN_Lh_STAT_STATE 5, 3)], by decide +kernel⟩,
   ⟨1, st [(pwmPinHigh 1, 1), (REIN_Lh_STAT_STATE 3, 3), (REIN_Lh_STAT_STATE 4, 3), (REIN_Lh_STAT_STATE 5, 3), (PROT_STAT_STO 1, 1)], by
       decide +kernel⟩,
   ⟨1, 1, 0, st [(pwmAwait 1, 1), (PWM_STAT_STATE 1, 1), (pwmDue 1, 0)], by decide +kernel⟩,
   ⟨1, 1, 64, st [(pwmAwait 1, 1), (PWM_STAT_STATE 1, 1), (pwmDue 1, 1)], by decide +kernel⟩,
   ⟨1, State.reset, by decide +kernel⟩,
   ⟨1, st [(PWM_CTRL_LOCK 1, 1), (refRun, 1)], by decide +kernel⟩,
   ⟨1, 0, State.reset, by decide +kernel⟩,
   ⟨1, 0, st [(PWM_CTRL_COH 1, 1), (PWM_LOAD_ARM_ARM 1, 1), (pwmPendSet 1, 2 ^ 0)], by decide +kernel⟩,
   ⟨1, by decide +kernel⟩,
   ⟨1, st [(PWM_STAT_STATE 1, 2)], by decide +kernel⟩,
   ⟨1, State.reset, by decide +kernel⟩,
   ⟨1, by decide +kernel⟩,
   ⟨1, 1, State.reset, by decide +kernel⟩,
   ⟨1, 0, State.reset, by decide +kernel⟩⟩

theorem test_wit_pwm_commands_2 :
    (∃ (n : Fin 4) (s : State), bitAt (rewritten s) n = false ∧ s.get (PWM_CTRL_COH n) ≠ 0) ∧
    (∃ (n : Fin 4) (s : State), bitAt (rewritten s) n = false ∧ s.get (PWM_CTRL_COH n) = 0) ∧
    (∃ (n : Fin 4) (s : State), bitAt (rewritten s) n = true) :=
  ⟨⟨1, st [(PWM_CTRL_COH 1, 1)], by decide +kernel⟩,
   ⟨1, State.reset, by decide +kernel⟩,
   ⟨1, st [(stallRst, 2)], by decide +kernel⟩⟩

theorem test_wit_pwm_edges :
    (∃ (n : Fin 4) (h : Fin 3) (on : Bool) (f : Fin 64) (s : State), (carrierOn n s = false ∨ edgeDue n h on (s.fineNow (s.fineOf n f)) s = false ∨
        s.flag (pwmRef n h) = on)) ∧
    (∃ (n : Fin 4) (h : Fin 3) (on : Bool) (f : Fin 64) (s : State), carrierOn n s = true ∧ edgeDue n h on (s.fineNow (s.fineOf n f)) s = true ∧
        s.flag (pwmRef n h) = !on) ∧
    (∃ (n h t : Nat) (s : State), (cmpAt n h t s) = 0) ∧
    (∃ (n h t : Nat) (s : State), 0 < (cmpAt n h t s) ∧ period n s ≤ (cmpAt n h t s)) ∧
    (∃ (n h t : Nat) (s : State), 0 < (cmpAt n h t s) ∧ (cmpAt n h t s) < period n s) ∧
    (∃ (n : Fin 4) (h : Fin 3) (f : Fin 64) (s : State), carrierOn n s = true ∧ s.get (pwmDtPend n h) ≠ 0 ∧ s.get (pwmDtAt n h) ≤ (s.fineNow
        (s.fineOf n f))) ∧
    (∃ (n : Fin 4) (h : Fin 3) (f : Fin 64) (s : State), (carrierOn n s = false ∨ s.get (pwmDtPend n h) = 0 ∨ (s.fineNow (s.fineOf n f)) < s.get
        (pwmDtAt n h))) ∧
    (∃ (n i t : Nat) (s : State), n < 4 ∧ i < 6 ∧ bitAt (s.get (PWM_LINES_LINE n)) i = false ∧ shortPulse n (untilEdge n (i / 2) t ((s.setBit
        (PWM_LINES_CMD n) i true).setBit (pwmBridged n) i false)) ((s.setBit (PWM_LINES_CMD n) i true).setBit (pwmBridged n) i false) = true) ∧
    (∃ (n i t : Nat) (s : State), n < 4 ∧ i < 6 ∧ bitAt (s.get (PWM_LINES_LINE n)) i = false ∧ shortPulse n (untilEdge n (i / 2) t ((s.setBit
        (PWM_LINES_CMD n) i true).setBit (pwmBridged n) i false)) ((s.setBit (PWM_LINES_CMD n) i true).setBit (pwmBridged n) i false) = false ∧
            s.get (pwmOffAt n i) ≠ 0 ∧ t < s.get (pwmOffAt n i) - 1 + s.get (PWM_MINP_MINP n)) ∧
    (∃ (n i t : Nat) (s : State), n < 4 ∧ i < 6 ∧ bitAt (s.get (PWM_LINES_LINE n)) i = false ∧ shortPulse n (untilEdge n (i / 2) t ((s.setBit
        (PWM_LINES_CMD n) i true).setBit (pwmBridged n) i false)) ((s.setBit (PWM_LINES_CMD n) i true).setBit (pwmBridged n) i false) = false ∧
            (s.get (pwmOffAt n i) = 0 ∨ s.get (pwmOffAt n i) - 1 + s.get (PWM_MINP_MINP n) ≤ t)) ∧
    (∃ (n : Fin 4) (i : Fin 6) (f : Fin 64) (s : State), bitAt (s.get (pwmHold n)) i = true ∧ s.get (pwmHoldAt n i) ≤ (s.fineNow (s.fineOf n f))) ∧
    (∃ (n : Fin 4) (i : Fin 6) (f : Fin 64) (s : State), bitAt (s.get (pwmHold n)) i = true ∧ (s.fineNow (s.fineOf n f)) < s.get (pwmHoldAt n i)) ∧
    (∃ (n : Fin 4) (i : Fin 6) (f : Fin 64) (s : State), bitAt (s.get (pwmHold n)) i = false ∧ carrierOn n s = true ∧ s.get (pwmGuardAt n) ≠ 0 ∧
        s.get (pwmGuardAt n) ≤ (s.fineNow (s.fineOf n f)) + 1) ∧
    (∃ (n : Fin 4) (i : Fin 6) (f : Fin 64) (s : State), bitAt (s.get (pwmHold n)) i = false ∧ (carrierOn n s = false ∨ s.get (pwmGuardAt n) = 0 ∨
        (s.fineNow (s.fineOf n f)) + 1 < s.get (pwmGuardAt n))) ∧
    (∃ (n j : Fin 4) (s : State), s.get (pwmTripNew n j) = 0) ∧
    (∃ (n j : Fin 4) (s : State), s.get (pwmTripNew n j) ≠ 0 ∧ (switching n s = false ∨ tripAct n j s = 0)) :=
  ⟨⟨1, 1, true, 1, State.reset, by decide +kernel⟩,
   ⟨1, 1, true, 1, st [(PWM_STAT_STATE 1, 2), (PWM_CMPh_CMP_ACT 1 1, 5), (pwmZeroAt 1, 1)], by decide +kernel⟩,
   ⟨0, 0, 0, State.reset, by decide +kernel⟩,
   ⟨0, 0, 0, st [(PWM_CMPh_CMP_ACT 0 0, 200000)], by decide +kernel⟩,
   ⟨0, 0, 0, st [(PWM_CMPh_CMP_ACT 0 0, 2000)], by decide +kernel⟩,
   ⟨1, 1, 1, st [(pwmDtPend 1 1, 1), (PWM_STAT_STATE 1, 2)], by decide +kernel⟩,
   ⟨1, 1, 1, State.reset, by decide +kernel⟩,
   ⟨1, 1, 63500, st [(PWM_CTRL_ALIGN 1, 1), (PWM_CMPh_CMP_ACT 1 0, 5), (PWM_MINP_MINP 1, 1000)], by decide +kernel⟩,
   ⟨1, 1, 1, st [(pwmOffAt 1 1, 6)], by decide +kernel⟩,
   ⟨1, 1, 0, State.reset, by decide +kernel⟩,
   ⟨1, 1, 1, st [(pwmHold 1, 2 ^ 1)], by decide +kernel⟩,
   ⟨1, 1, 1, st [(pwmHold 1, 2 ^ 1), (pwmHoldAt 1 1, 100)], by decide +kernel⟩,
   ⟨1, 1, 1, st [(pwmGuardAt 1, 1), (PWM_STAT_STATE 1, 2)], by decide +kernel⟩,
   ⟨1, 1, 1, st [(PWM_STAT_STATE 1, 2)], by decide +kernel⟩,
   ⟨1, 1, State.reset, by decide +kernel⟩,
   ⟨1, 1, st [(pwmTripNew 1 1, 1)], by decide +kernel⟩⟩

theorem test_wit_pwm_edges_2 :
    (∃ (n j : Fin 4) (f : Fin 64) (s : State), s.get (pwmTripNew n j) ≠ 0 ∧ switching n s = true ∧ tripAct n j s ≠ 0 ∧ (bitAt (s.get
        (PWM_TRIP_CFG_TRIP n)) (8 * j + 4) = false ∨ blanking n (s.fineNow f) s = false)) ∧
    (∃ (n j : Fin 4) (f : Fin 64) (s : State), s.get (pwmTripNew n j) ≠ 0 ∧ switching n s = true ∧ tripAct n j s ≠ 0 ∧ bitAt (s.get
        (PWM_TRIP_CFG_TRIP n)) (8 * j + 4) = true ∧ blanking n (s.fineNow f) s = true) ∧
    (∃ (n j : Nat), n < 4 ∧ j < 4) ∧
    (∃ (n j : Nat) (s : State), n < 4 ∧ j < 4 ∧ tripAct n j s = 2) ∧
    (∃ (n j : Nat) (s : State), n < 4 ∧ j < 4 ∧ tripAct n j s ≠ 2) ∧
    (∃ (n j : Fin 4) (f : Fin 64) (s : State), (bitAt (s.get (PWM_TRIP_STAT_PEND n)) j = false ∨ (blanking n (s.fineNow f) s = true ∧ s.now < s.get
        (pwmTripAt n j) + 4000))) ∧
    (∃ (n j : Fin 4) (f : Fin 64) (s : State), bitAt (s.get (PWM_TRIP_STAT_PEND n)) j = true ∧ (blanking n (s.fineNow f) s = false ∨ s.get
        (pwmTripAt n j) + 4000 ≤ s.now) ∧ routedOut n j s = true) ∧
    (∃ (n j : Fin 4) (f : Fin 64) (s : State), bitAt (s.get (PWM_TRIP_STAT_PEND n)) j = true ∧ (blanking n (s.fineNow f) s = false ∨ s.get
        (pwmTripAt n j) + 4000 ≤ s.now) ∧ routedOut n j s = false) :=
  ⟨⟨1, 1, 1, st [(pwmTripNew 1 1, 1), (PWM_STAT_STATE 1, 2), (PWM_TRIP_CFG_TRIP 1, 0x100)], by decide +kernel⟩,
   ⟨1, 1, 1, st [(pwmTripNew 1 1, 1), (PWM_STAT_STATE 1, 2), (PWM_TRIP_CFG_TRIP 1, 0x1100), (PWM_BLK_CFG_MODE 1, 1), (PWM_BLK_CFG_LEN 1, 64),
       (PWM_BLK_CFG_ON_SRC 1, 1), (pwmOnAt 1 0, 1)], by decide +kernel⟩,
   ⟨1, 1, by decide +kernel⟩,
   ⟨1, 1, st [(PWM_TRIP_CFG_TRIP 1, 0x200)], by decide +kernel⟩,
   ⟨1, 1, State.reset, by decide +kernel⟩,
   ⟨1, 1, 1, State.reset, by decide +kernel⟩,
   ⟨1, 1, 1, { st [(PWM_TRIP_STAT_PEND 1, 2 ^ 1), (MON_Mm_STAT_OUT 1 0, 1), (MON_Mm_ROUTE_TRIP 1 0, 2)] with tbNow := 20000000000#64 }, by
       decide +kernel⟩,
   ⟨1, 1, 1, { st [(PWM_TRIP_STAT_PEND 1, 2 ^ 1)] with tbNow := 20000000000#64 }, by decide +kernel⟩⟩

theorem test_wit_interlock :
    (∃ (n t : Nat) (s : State), n < 4 ∧ t < 2 ^ 72 ∧ (∀ h < 3, ¬ (bitAt (s.get (PWM_LINES_LINE n)) (2 * h) = true ∧ bitAt (s.get (PWM_LINES_LINE n))
        (2 * h + 1) = true))) ∧
    (∃ (n t : Nat), n < 4 ∧ t < 2 ^ 72) :=
  ⟨⟨1, 1, State.reset, by decide +kernel⟩,
   ⟨1, 1, by decide +kernel⟩⟩

theorem test_wit_line_ranks :
    (∃ (n : Nat) (s : State), (s.get (pwmPinHigh n) = 0 ∨ s.get (PROT_STAT_STO n) ≠ 0 ∨ s.get (PROT_STAT_SHD n) = 2 ∨ s.get (PWM_STAT_STATE n) = 0 ∨
        s.get (PWM_STAT_STATE n) = 4 ∨ (s.get (PWM_STAT_STATE n) = 3 ∧ (s.get (PROT_STAT_PROV n) ≠ 0 ∨ s.get (PROT_STAT_SAFE n) = 1)))) ∧
    (∃ (n h : Nat) (s : State), n < 4 ∧ h < 3 ∧ s.get (REIN_Lh_STAT_STATE (3 * n + h)) ≠ 3) ∧
    (∃ (n i : Nat) (s : State), n < 4 ∧ i < 6 ∧ bitAt (wantedLines n s) i = false) :=
  ⟨⟨0, State.reset, by decide +kernel⟩,
   ⟨1, 1, State.reset, by decide +kernel⟩,
   ⟨1, 1, State.reset, by decide +kernel⟩⟩

theorem test_wit_reference_carrier :
    (∃ (s : State), s.get AUX_REF_CTRL_EN = 0) ∧
    (∃ (s : State), s.get AUX_REF_CTRL_EN ≠ 0) ∧
    (∃ (s : State), s.get AUX_REF_CTRL_EN ≠ 0 ∧ (∃ n < 4, lockOf n s = true ∧ switching n s = true)) ∧
    (∃ (s : State), s.get AUX_REF_CTRL_EN ≠ 0 ∧ (∀ n < 4, lockOf n s = false ∨ switching n s = false)) ∧
    (∃ (s : State), s.get refRun = 0) ∧
    (∃ (s : State), s.get refRun ≠ 0) ∧
    (∃ (f : Fin 64) (s : State), (s.get AUX_REF_CTRL_EN = 0 ∨ s.fineNow f < refNext s)) ∧
    (∃ (f : Fin 64) (s : State), s.get AUX_REF_CTRL_EN ≠ 0 ∧ refNext s ≤ s.fineNow f ∧ (s.get AUX_COH_CMD_STATUS ≠ stBusy ∨ s.get cohOpen ≠ 0 ∨
        refNext s < s.get cohDue * 64)) ∧
    (∃ (f : Fin 64) (s : State), s.get AUX_REF_CTRL_EN ≠ 0 ∧ refNext s ≤ s.fineNow f ∧ s.get AUX_COH_CMD_STATUS = stBusy ∧ s.get cohOpen = 0 ∧ s.get
        cohDue * 64 ≤ refNext s) ∧
    (∃ (s : State), s.get AUX_COH_CMD_STATUS ≠ stBusy ∧ s.get AUX_REF_CTRL_EN = 0) ∧
    (∃ (s : State), s.get AUX_COH_CMD_STATUS ≠ stBusy ∧ s.get AUX_REF_CTRL_EN ≠ 0) :=
  ⟨⟨State.reset, by decide +kernel⟩,
   ⟨st [(AUX_REF_CTRL_EN, 1)], by decide +kernel⟩,
   ⟨st [(AUX_REF_CTRL_EN, 1), (PWM_CTRL_LOCK 0, 1), (PWM_STAT_STATE 0, 2)], by decide +kernel⟩,
   ⟨st [(AUX_REF_CTRL_EN, 1)], by decide +kernel⟩,
   ⟨State.reset, by decide +kernel⟩,
   ⟨st [(refRun, 1)], by decide +kernel⟩,
   ⟨1, State.reset, by decide +kernel⟩,
   ⟨1, st [(AUX_REF_CTRL_EN, 1)], by decide +kernel⟩,
   ⟨1, st [(AUX_REF_CTRL_EN, 1), (AUX_COH_CMD_STATUS, stBusy)], by decide +kernel⟩,
   ⟨State.reset, by decide +kernel⟩,
   ⟨st [(AUX_REF_CTRL_EN, 1)], by decide +kernel⟩⟩

theorem test_wit_aux_units :
    (∃ (k : Fin 2) (s : State), s.get (AUX_Ak_CTRL_EN k) = 0 ∧ s.get YOKE_STAT_LOCKSTEP_BROKEN = 0) ∧
    (∃ (k : Fin 2) (s : State), s.get (AUX_Ak_CTRL_EN k) = 0 ∧ s.get YOKE_STAT_LOCKSTEP_BROKEN ≠ 0) ∧
    (∃ (k : Fin 2) (s : State), s.get (AUX_Ak_CTRL_EN k) ≠ 0) ∧
    (∃ (k : Fin 2) (s : State), (s.get (AUX_Ak_CTRL_EN k) = 0 ∨ s.get (AUX_Ak_STAT_DEMAND k) ≠ 0)) ∧
    (∃ (k : Fin 2) (s : State), s.get (AUX_Ak_CTRL_EN k) ≠ 0 ∧ s.get (AUX_Ak_STAT_DEMAND k) = 0) ∧
    (∃ (k : Fin 2) (f : Fin 64) (s : State), ((s.get (AUX_Ak_STAT_DEMAND k) = 0 ∧ s.get (AUX_Ak_CTRL_EN k) = 0) ∨ s.fineNow f < auxNext k s)) ∧
    (∃ (k : Fin 2) (f : Fin 64) (s : State), (s.get (AUX_Ak_STAT_DEMAND k) ≠ 0 ∨ s.get (AUX_Ak_CTRL_EN k) ≠ 0) ∧ auxNext k s ≤ s.fineNow f) ∧
    (∃ (k : Nat) (s : State), k < 2 ∧ s.get (auxRun k) = 0) ∧
    (∃ (k : Nat) (s : State), k < 2 ∧ s.get (auxRun k) ≠ 0) ∧
    (∃ (k due t : Nat), k < 2 ∧ due ≤ t) ∧
    (∃ (k due t : Nat), k < 2 ∧ t < due ∧ due < 2 ^ 72) ∧
    (∃ (k : Fin 2) (f : Fin 64) (s : State), (auxDelayed k (s.fineNow f) s).get (auxRun k) ≠ 0 ∧ (auxDelayed k (s.fineNow f) s).get (auxWant k) ≠ 0
        ∧ (auxDelayed k (s.fineNow f) s).placeAt 4 (auxStart k (auxDelayed k (s.fineNow f) s) + auxOnTime k (auxDelayed k (s.fineNow f) s)) ≤
            (s.fineNow f) ∧ auxGap k (auxStart k (auxDelayed k (s.fineNow f) s) + auxOnTime k (auxDelayed k (s.fineNow f) s)) (auxDelayed k
                (s.fineNow f) s) = true) ∧
    (∃ (k : Fin 2) (f : Fin 64) (s : State), ((auxDelayed k (s.fineNow f) s).get (auxRun k) = 0 ∨ (auxDelayed k (s.fineNow f) s).get (auxWant k) = 0
        ∨ (s.fineNow f) < (auxDelayed k (s.fineNow f) s).placeAt 4 (auxStart k (auxDelayed k (s.fineNow f) s) + auxOnTime k (auxDelayed k (s.fineNow
            f) s)) ∨ auxGap k (auxStart k (auxDelayed k (s.fineNow f) s) + auxOnTime k (auxDelayed k (s.fineNow f) s)) (auxDelayed k (s.fineNow f)
                s) = false)) ∧
    (∃ (k : Fin 2) (s : State), (auxDemand k s = none ∨ s.get (AUX_Ak_STAT_DEMAND k) ≠ 0)) ∧
    (∃ (k : Fin 2) (s : State), auxDemand k s ≠ none ∧ s.get (AUX_Ak_STAT_DEMAND k) = 0) ∧
    (∃ (k : Fin 2) (s : State), (s.get (AUX_Ak_STAT_DEMAND k) = 0 ∨ auxDemand k s ≠ none)) :=
  ⟨⟨1, State.reset, by decide +kernel⟩,
   ⟨1, st [(YOKE_STAT_LOCKSTEP_BROKEN, 1)], by decide +kernel⟩,
   ⟨1, st [(AUX_Ak_CTRL_EN 1, 1)], by decide +kernel⟩,
   ⟨1, State.reset, by decide +kernel⟩,
   ⟨1, st [(AUX_Ak_CTRL_EN 1, 1)], by decide +kernel⟩,
   ⟨1, 1, State.reset, by decide +kernel⟩,
   ⟨1, 1, st [(AUX_Ak_STAT_DEMAND 1, 1)], by decide +kernel⟩,
   ⟨1, State.reset, by decide +kernel⟩,
   ⟨1, st [(auxRun 1, 1)], by decide +kernel⟩,
   ⟨1, 0, 0, by decide +kernel⟩,
   ⟨1, 2, 1, by decide +kernel⟩,
   ⟨1, 1, st [(auxRun 1, 1), (auxWant 1, 1), (AUX_Ak_PER_PER_ACT 1, 1000)], by decide +kernel⟩,
   ⟨1, 1, State.reset, by decide +kernel⟩,
   ⟨1, State.reset, by decide +kernel⟩,
   ⟨1, st [(auxDisRun, 1)], by decide +kernel⟩,
   ⟨1, State.reset, by decide +kernel⟩⟩

theorem test_wit_aux_units_2 :
    (∃ (k : Fin 2) (s : State), s.get (AUX_Ak_STAT_DEMAND k) ≠ 0 ∧ auxDemand k s = none ∧ s.get (AUX_Ak_CTRL_EN k) = 0) ∧
    (∃ (k : Fin 2) (s : State), s.get (AUX_Ak_STAT_DEMAND k) ≠ 0 ∧ auxDemand k s = none ∧ s.get (AUX_Ak_CTRL_EN k) ≠ 0 ∧ auxStart k (s.set
        (AUX_Ak_STAT_DEMAND k) 0) + s.get (AUX_Ak_CMP_CMP_ACT k) ≤ s.now * 64 ∧ auxGap k (s.now * 64) (s.set (AUX_Ak_STAT_DEMAND k) 0) = true) ∧
    (∃ (k : Fin 2) (s : State), s.get (AUX_Ak_STAT_DEMAND k) ≠ 0 ∧ auxDemand k s = none ∧ s.get (AUX_Ak_CTRL_EN k) ≠ 0 ∧ (s.now * 64 < auxStart k
        (s.set (AUX_Ak_STAT_DEMAND k) 0) + s.get (AUX_Ak_CMP_CMP_ACT k) ∨ auxGap k (s.now * 64) (s.set (AUX_Ak_STAT_DEMAND k) 0) = false)) ∧
    (∃ (s : State), s.get safAuxPin ≠ 0) ∧
    (∃ (s : State), s.get safAuxPin = 0) :=
  ⟨⟨1, st [(AUX_Ak_STAT_DEMAND 1, 1)], by decide +kernel⟩,
   ⟨1, { st [(AUX_Ak_STAT_DEMAND 1, 1), (AUX_Ak_CTRL_EN 1, 1), (auxZeroAt 1, 1280000000000), (AUX_Ak_PER_PER_ACT 1, 8000)] with tbNow := 20000000000#64 },
       by decide +kernel⟩,
   ⟨1, st [(AUX_Ak_STAT_DEMAND 1, 1), (AUX_Ak_CTRL_EN 1, 1), (AUX_Ak_CMP_CMP_ACT 1, 5)], by decide +kernel⟩,
   ⟨st [(safAuxPin, 1)], by decide +kernel⟩,
   ⟨State.reset, by decide +kernel⟩⟩

theorem test_wit_rein_commands :
    (∃ (g : Fin 5) (s : State), (g.val = 4 ∨ bitAt (rewritten s) g = false) ∧ s.get (REIN_CMD_STATUS g) ≠ stBusy ∧ (if g.val < 4 then s.get
        (PWM_STAT_STATE g) == 0 else [0, 1].all (fun k => s.get (AUX_Ak_CTRL_EN k) == 0 && s.get (AUX_Ak_STAT_DEMAND k) == 0)) = true ∧ (∀ l ∈
            groupLinks g, s.get (REIN_Lh_STAT_STATE l) ≠ 3)) ∧
    (∃ (g : Fin 5) (s : State), (g.val = 4 ∨ bitAt (rewritten s) g = false) ∧ s.get (REIN_CMD_STATUS g) ≠ stBusy ∧ (if g.val < 4 then s.get
        (PWM_STAT_STATE g) == 0 else [0, 1].all (fun k => s.get (AUX_Ak_CTRL_EN k) == 0 && s.get (AUX_Ak_STAT_DEMAND k) == 0)) = true ∧ (∀ l ∈
            groupLinks g, s.get (REIN_Lh_STAT_STATE l) = 3 ∧ s.get (reinStep l) = 0) ∧ s.get (reinTrainLate g) = 0) ∧
    (∃ (g : Fin 5) (s : State), (g.val = 4 ∨ bitAt (rewritten s) g = false) ∧ s.get (REIN_CMD_STATUS g) ≠ stBusy ∧ (if g.val < 4 then s.get
        (PWM_STAT_STATE g) == 0 else [0, 1].all (fun k => s.get (AUX_Ak_CTRL_EN k) == 0 && s.get (AUX_Ak_STAT_DEMAND k) == 0)) = true) ∧
    (∃ (g : Fin 5) (s : State), (g.val = 4 ∨ bitAt (rewritten s) g = false) ∧ s.get (REIN_CMD_STATUS g) ≠ stBusy ∧ (if g.val < 4 then s.get
        (PWM_STAT_STATE g) == 0 else [0, 1].all (fun k => s.get (AUX_Ak_CTRL_EN k) == 0 && s.get (AUX_Ak_STAT_DEMAND k) == 0)) = false) ∧
    (∃ (g : Fin 5) (s : State), g.val < 4 ∧ bitAt (rewritten s) g = true) ∧
    (∃ (l : Fin 14) (s : State), (12 ≤ l.val ∨ bitAt (rewritten s) (l / 3) = false) ∧ s.get (REIN_Lh_ACC_CMD_STATUS l) ≠ stBusy ∧ sendRefused l s =
        true) ∧
    (∃ (l : Fin 14) (s : State), (12 ≤ l.val ∨ bitAt (rewritten s) (l / 3) = false) ∧ s.get (REIN_Lh_ACC_CMD_STATUS l) ≠ stBusy ∧ sendRefused l s =
        false) ∧
    (∃ (l : Fin 14) (s : State), l.val < 12 ∧ bitAt (rewritten s) (l / 3) = true) ∧
    (∃ (l : Fin 14) (s : State), s.get (REIN_Lh_STAT_STATE l) ≠ 0 ∧ s.get (reinDnAt l) + 4000 ≤ (dnBoundary s.now) ∧ dnMay l 8 (dnBoundary s.now) s
        = true) ∧
    (∃ (l : Fin 14) (s : State), (s.get (REIN_Lh_STAT_STATE l) = 0 ∨ (dnBoundary s.now) < s.get (reinDnAt l) + 4000 ∨ dnMay l 8 (dnBoundary s.now) s
        = false)) ∧
    (∃ (l x : Nat) (s : State), x < s.get (reinDnEnd l) + 8) ∧
    (∃ (l k x : Nat) (s : State) (z : Nat), linkLoad l s = some z ∧ z < (x + 4 * (18 + k)) * 64 + 512) ∧
    (∃ (l x : Nat) (s : State), s.get (reinDnEnd l) + 8 ≤ x ∧ linkLoad l s = none) ∧
    (∃ (l : Fin 14) (f : DnFrame) (r : List DnFrame) (s : State), 2 ≤ s.get (REIN_Lh_STAT_STATE l) ∧ dnPop l s.dn = some (f, r) ∧ (f.typ = 2 ∨ f.typ
        = 3 ∨ f.typ = 5) ∧ dnMay l (dnLen f.typ) (dnBoundary s.now) s = true) ∧
    (∃ (l : Fin 14) (f : DnFrame) (r : List DnFrame) (s : State), 2 ≤ s.get (REIN_Lh_STAT_STATE l) ∧ dnPop l s.dn = some (f, r) ∧ (f.typ = 2 ∨ f.typ
        = 3 ∨ f.typ = 5) ∧ dnMay l (dnLen f.typ) (dnBoundary s.now) s = false) ∧
    (∃ (l : Fin 14) (s : State), (s.get (REIN_Lh_STAT_STATE l) < 2 ∨ dnPop l s.dn = none)) :=
  ⟨⟨1, State.reset, by decide +kernel⟩,
   ⟨1, st [(REIN_Lh_STAT_STATE 3, 3), (REIN_Lh_STAT_STATE 4, 3), (REIN_Lh_STAT_STATE 5, 3)], by decide +kernel⟩,
   ⟨1, State.reset, by decide +kernel⟩,
   ⟨1, st [(PWM_STAT_STATE 1, 2)], by decide +kernel⟩,
   ⟨1, st [(stallRst, 2)], by decide +kernel⟩,
   ⟨1, State.reset, by decide +kernel⟩,
   ⟨1, st [(REIN_Lh_STAT_STATE 1, 3)], by decide +kernel⟩,
   ⟨3, st [(stallRst, 2)], by decide +kernel⟩,
   ⟨1, { st [(REIN_Lh_STAT_STATE 1, 1)] with tbNow := 20000000000#64 }, by decide +kernel⟩,
   ⟨1, State.reset, by decide +kernel⟩,
   ⟨0, 1, State.reset, by decide +kernel⟩,
   ⟨0, 0, 0, st [(pwmAwait 0, 1), (PWM_CTRL_SAMP 0, 1)], 0, by decide +kernel⟩,
   ⟨0, 8, State.reset, by decide +kernel⟩,
   ⟨1, ⟨1, 2, 3⟩, [⟨0, 1, 1⟩], { st [(REIN_Lh_STAT_STATE 1, 2)] with tbNow := 800#64, dn := [⟨0, 1, 1⟩, ⟨1, 2, 3⟩] }, by decide +kernel⟩,
   ⟨1, ⟨1, 2, 3⟩, [⟨0, 1, 1⟩], { st [(REIN_Lh_STAT_STATE 1, 2)] with dn := [⟨0, 1, 1⟩, ⟨1, 2, 3⟩] }, by decide +kernel⟩,
   ⟨1, State.reset, by decide +kernel⟩⟩

theorem test_wit_rein_commands_2 :
    (∃ (l : Fin 14) (s : State), s.get (reinReq l) = 2 ∧ s.get (REIN_Lh_ACC_CMD_STATUS l) = stBusy ∧ s.get (reinReqEnd l) + 2000 ≤ s.now) ∧
    (∃ (l : Fin 14) (s : State), (s.get (reinReq l) ≠ 2 ∨ s.get (REIN_Lh_ACC_CMD_STATUS l) ≠ stBusy ∨ s.now < s.get (reinReqEnd l) + 2000)) ∧
    (∃ (l c : Nat), l < 14 ∧ c < 8) ∧
    (∃ (l : Fin 14) (s : State), s.get (reinStep l) = 1 ∧ s.get (reinTrainAt l) + 40000 ≤ s.now) ∧
    (∃ (l : Fin 14) (s : State), (s.get (reinStep l) ≠ 1 ∨ s.now < s.get (reinTrainAt l) + 40000)) ∧
    (∃ (l : Fin 14) (s : State), s.get (reinStep l) = 2 ∧ s.get (reinStepAt l) + 2000 ≤ s.now) ∧
    (∃ (l : Fin 14) (s : State), (s.get (reinStep l) = 3 ∨ s.get (reinStep l) = 4) ∧ s.get (reinStepAt l) + 4000 ≤ s.now) ∧
    (∃ (l : Fin 14) (s : State), (s.get (reinStep l) = 5 ∨ s.get (reinStep l) = 6) ∧ s.get (reinStepAt l) + 2400 ≤ s.now) ∧
    (∃ (l : Fin 14) (s : State), (s.get (reinStep l) < 2 ∨ s.now < s.get (reinStepAt l) + trainBound (s.get (reinStep l)))) ∧
    (∃ (l load t side d : Nat) (s : State), l < 14 ∧ load < 256 ∧ t < 2 ^ 70 ∧ side < 2 ∧ d < 128 ∧ 3 ≤ s.get (REIN_Lh_STAT_STATE l)) ∧
    (∃ (l load t side d : Nat) (vs : Bool) (s : State), l < 14 ∧ load < 256 ∧ t < 2 ^ 70 ∧ side < 2 ∧ d < 128 ∧ 3 ≤ s.get (REIN_Lh_STAT_STATE l) ∧
        vs = true) ∧
    (∃ (l load t side d : Nat) (s : State), l < 14 ∧ load < 256 ∧ t < 2 ^ 70 ∧ side < 2 ∧ d < 128 ∧ s.get (REIN_Lh_STAT_STATE l) < 3) :=
  ⟨⟨1, { st [(reinReq 1, 2), (REIN_Lh_ACC_CMD_STATUS 1, stBusy)] with tbNow := 20000000000#64 }, by decide +kernel⟩,
   ⟨1, State.reset, by decide +kernel⟩,
   ⟨1, 1, by decide +kernel⟩,
   ⟨1, { st [(reinStep 1, 1)] with tbNow := 20000000000#64 }, by decide +kernel⟩,
   ⟨1, State.reset, by decide +kernel⟩,
   ⟨1, { st [(reinStep 1, 2)] with tbNow := 20000000000#64 }, by decide +kernel⟩,
   ⟨1, { st [(reinStep 1, 3)] with tbNow := 20000000000#64 }, by decide +kernel⟩,
   ⟨1, { st [(reinStep 1, 5)] with tbNow := 20000000000#64 }, by decide +kernel⟩,
   ⟨1, State.reset, by decide +kernel⟩,
   ⟨1, 1, 1, 1, 1, st [(REIN_Lh_STAT_STATE 1, 3)], by decide +kernel⟩,
   ⟨1, 1, 1, 1, 1, true, st [(REIN_Lh_STAT_STATE 1, 3)], by decide +kernel⟩,
   ⟨1, 1, 1, 1, 1, State.reset, by decide +kernel⟩⟩

theorem test_wit_rein_uplink :
    (∃ (l : Fin 14) (s : State), s.get (REIN_Lh_STAT_STATE l) = 0) ∧
    (∃ (l : Fin 14) (x : BitVec 192) (s : State), s.get (REIN_Lh_STAT_STATE l) ≠ 0 ∧ (upFormat x = true ∨ upCrcOk (upBits x) = false)) ∧
    (∃ (l : Fin 14) (x : BitVec 192) (s : State), s.get (REIN_Lh_STAT_STATE l) ≠ 0 ∧ upFormat x = false ∧ upCrcOk (upBits x) = true) ∧
    (∃ (l : Fin 14) (h : BitVec 8) (w : BitVec 88) (s : State), s.get (REIN_Lh_STAT_STATE l) ≠ 0 ∧ upType (h ++ w) = 1 ∧ upCrcOk (h ++ w) = true) ∧
    (∃ (l : Fin 14) (h : BitVec 8) (w : BitVec 88) (s : State), s.get (REIN_Lh_STAT_STATE l) ≠ 0 ∧ (upType (h ++ w) ≠ 1 ∨ upCrcOk (h ++ w) = false)) ∧
    (∃ (l fl : Nat) (s : State), l < 14 ∧ 2 ≤ s.get (REIN_Lh_STAT_STATE l) ∧ s.get (REIN_Lh_STAT_STATE l) ≤ 4 ∧ bitAt fl 2 = true) ∧
    (∃ (l fl : Nat) (s : State), l < 14 ∧ bitAt fl 2 = false ∧ s.get (reinStep l) = 0 ∧ s.get (REIN_Lh_STAT_STATE l) = 3 ∧ bitAt fl 15 = true) ∧
    (∃ (l fl : Nat) (s : State), l < 14 ∧ bitAt fl 2 = false ∧ s.get (reinStep l) = 0 ∧ s.get (REIN_Lh_STAT_STATE l) = 4 ∧ bitAt fl 15 = false ∧
        bitAt fl 14 = true) ∧
    (∃ (l fl : Nat) (fo : Bool) (s : State), l < 14 ∧ s.get (REIN_Lh_STAT_STATE l) = 1 ∧ s.get (reinStep l) = 1 ∧ bitAt fl 15 = false ∧ fo = true ∧
        s.get (reinLock l) = 7) ∧
    (∃ (l fl : Nat) (fo : Bool) (s : State), l < 14 ∧ s.get (REIN_Lh_STAT_STATE l) = 1 ∧ s.get (reinStep l) = 1 ∧ bitAt fl 15 = false ∧ (fo = false
        ∨ s.get (reinLock l) = 0)) ∧
    (∃ (l fl : Nat) (s : State), l < 14 ∧ s.get (REIN_Lh_STAT_STATE l) = 2 ∧ s.get (reinStep l) = 6 ∧ bitAt fl 15 = false ∧ bitAt fl 2 = false ∧
        bitAt fl 14 = true) ∧
    (∃ (l : Fin 14) (h : BitVec 8) (w : BitVec 88) (s : State), s.get (REIN_Lh_STAT_STATE l) ≠ 0 ∧ (upType (h ++ w) ≠ 2 ∨ upCrcOk (h ++ w) = false)) ∧
    (∃ (l : Fin 14) (h : BitVec 8) (w : BitVec 88) (s : State), s.get (REIN_Lh_STAT_STATE l) ≠ 0 ∧ upType (h ++ w) = 2 ∧ upCrcOk (h ++ w) = true ∧
        s.get (reinReq l) = 2 ∧ s.get (reinReqTag l) = bits (upWord (h ++ w) 1) 12 4 ∧ s.get (REIN_Lh_ACC_CMD_STATUS l) = stBusy) ∧
    (∃ (l : Fin 14) (h : BitVec 8) (w : BitVec 88) (s : State), s.get (REIN_Lh_STAT_STATE l) ≠ 0 ∧ upType (h ++ w) = 2 ∧ upCrcOk (h ++ w) = true ∧
        s.get (reinReq l) = 2 ∧ s.get (reinReqTag l) = bits (upWord (h ++ w) 1) 12 4 ∧ s.get (REIN_Lh_ACC_CMD_STATUS l) ≠ stBusy) ∧
    (∃ (l : Fin 14) (h : BitVec 8) (w : BitVec 88) (s : State), s.get (REIN_Lh_STAT_STATE l) ≠ 0 ∧ upType (h ++ w) = 2 ∧ upCrcOk (h ++ w) = true ∧
        (s.get (reinReq l) ≠ 2 ∨ s.get (reinReqTag l) ≠ bits (upWord (h ++ w) 1) 12 4)) ∧
    (∃ (l sq : Nat), l < 14 ∧ sq < 16) :=
  ⟨⟨1, State.reset, by decide +kernel⟩,
   ⟨1, 0, st [(REIN_Lh_STAT_STATE 1, 1)], by decide +kernel⟩,
   ⟨1, 0xa9aaaaaaaaaaaaaaaaaaaaaaaaaaaaaaaaaaaaaaaaaa9a69#192, st [(REIN_Lh_STAT_STATE 1, 1)], by decide +kernel⟩,
   ⟨1, 0x10#8, 0x49#88, st [(REIN_Lh_STAT_STATE 1, 1)], by decide +kernel⟩,
   ⟨1, 0, 0, st [(REIN_Lh_STAT_STATE 1, 1)], by decide +kernel⟩,
   ⟨1, 4, st [(REIN_Lh_STAT_STATE 1, 2)], by decide +kernel⟩,
   ⟨1, 0x8000, st [(REIN_Lh_STAT_STATE 1, 3)], by decide +kernel⟩,
   ⟨1, 0x4000, st [(REIN_Lh_STAT_STATE 1, 4)], by decide +kernel⟩,
   ⟨1, 0, true, st [(REIN_Lh_STAT_STATE 1, 1), (reinStep 1, 1), (reinLock 1, 7)], by decide +kernel⟩,
   ⟨1, 0, true, st [(REIN_Lh_STAT_STATE 1, 1), (reinStep 1, 1)], by decide +kernel⟩,
   ⟨1, 0x4000, st [(REIN_Lh_STAT_STATE 1, 2), (reinStep 1, 6)], by decide +kernel⟩,
   ⟨1, 0, 0, st [(REIN_Lh_STAT_STATE 1, 1)], by decide +kernel⟩,
   ⟨1, 0x20#8, 0xb#88, st [(REIN_Lh_STAT_STATE 1, 1), (reinReq 1, 2), (reinReqTag 1, bits (upWord (0x20#8 ++ 0xb#88) 1) 12 4),
       (REIN_Lh_ACC_CMD_STATUS 1, stBusy)], by decide +kernel⟩,
   ⟨1, 0x20#8, 0xb#88, st [(REIN_Lh_STAT_STATE 1, 1), (reinReq 1, 2), (reinReqTag 1, bits (upWord (0x20#8 ++ 0xb#88) 1) 12 4)], by decide +kernel⟩,
   ⟨1, 0x20#8, 0xb#88, st [(REIN_Lh_STAT_STATE 1, 1)], by decide +kernel⟩,
   ⟨1, 1, by decide +kernel⟩⟩

theorem test_wit_rein_uplink_2 :
    (∃ (l sq : Nat) (s : State), l < 14 ∧ sq < 16 ∧ s.get (reinSeq l) ≠ 0 ∧ s.get (reinSeq l) ≤ 16) ∧
    (∃ (l : Fin 14) (s : State), s.get (reinStep l) ≠ 0) ∧
    (∃ (l : Fin 14) (s : State), s.get (reinStep l) = 0 ∧ (s.get (REIN_Lh_STAT_STATE l) = 3 ∨ s.get (REIN_Lh_STAT_STATE l) = 4)) ∧
    (∃ (l : Fin 14) (s : State), s.get (reinStep l) = 0 ∧ s.get (REIN_Lh_STAT_STATE l) ≠ 3 ∧ s.get (REIN_Lh_STAT_STATE l) ≠ 4) ∧
    (∃ (l z : Nat), l < 14 ∧ z < 2 ^ 72) ∧
    (∃ (l z : Nat), l < 14 ∧ z < 2 ^ 72 ∧ l < 12) ∧
    (∃ (l z : Nat), l < 14 ∧ z < 2 ^ 72 ∧ l < 12 ∧ z ≠ 0) ∧
    (∃ (l : Fin 14) (s : State), s.get (reinFrameAt l) + 200 ≤ s.now) ∧
    (∃ (l : Fin 14) (s : State), s.now < s.get (reinFrameAt l) + 200) ∧
    (∃ (l : Fin 14) (s : State), s.get (reinFrameAt l) + 1200 ≤ s.now) ∧
    (∃ (l : Fin 14) (s : State), s.now < s.get (reinFrameAt l) + 1200) ∧
    (∃ (l c : Nat) (s : State), l < 14 ∧ c < 4 ∧ 2 ≤ s.get (REIN_Lh_STAT_STATE l) ∧ s.get (REIN_Lh_STAT_STATE l) ≤ 4) ∧
    (∃ (l c : Nat) (s : State), l < 14 ∧ c < 4 ∧ (s.get (REIN_Lh_STAT_STATE l) < 2 ∨ 4 < s.get (REIN_Lh_STAT_STATE l))) :=
  ⟨⟨1, 1, st [(reinSeq 1, 1)], by decide +kernel⟩,
   ⟨1, st [(reinStep 1, 1)], by decide +kernel⟩,
   ⟨1, st [(REIN_Lh_STAT_STATE 1, 3)], by decide +kernel⟩,
   ⟨1, State.reset, by decide +kernel⟩,
   ⟨1, 1, by decide +kernel⟩,
   ⟨1, 1, by decide +kernel⟩,
   ⟨1, 1, by decide +kernel⟩,
   ⟨1, { State.reset with tbNow := 20000000000#64 }, by decide +kernel⟩,
   ⟨1, State.reset, by decide +kernel⟩,
   ⟨1, { State.reset with tbNow := 20000000000#64 }, by decide +kernel⟩,
   ⟨1, State.reset, by decide +kernel⟩,
   ⟨1, 1, st [(REIN_Lh_STAT_STATE 1, 2)], by decide +kernel⟩,
   ⟨1, 1, State.reset, by decide +kernel⟩⟩

theorem test_wit_safe_state_entry :
    (∃ (n code : Nat) (s : State), n < 4 ∧ code < 2 ^ 16 ∧ s.get (PWM_CTRL_PAIR n) = 0 ∧ (s.get (PWM_STAT_STATE n) = 1 ∨ s.get (PWM_STAT_STATE n) =
        2)) ∧
    (∃ (n : Nat) (s : State), n < 4 ∧ s.get (PWM_CTRL_PAIR n) = 0 ∧ (s.get (PWM_STAT_STATE n) = 0 ∨ s.get (PWM_STAT_STATE n) = 4)) :=
  ⟨⟨1, 1, st [(PWM_STAT_STATE 1, 1)], by decide +kernel⟩,
   ⟨1, State.reset, by decide +kernel⟩⟩

theorem test_wit_decision_table :
    (∃ (n : Nat) (s : State), s.get (PWM_CTRL_PAIR n) = 0 ∧ s.get (PROT_STAT_SHD n) = 2) ∧
    (∃ (n : Nat) (high : Bool) (s : State), s.get (PWM_CTRL_PAIR n) = 0 ∧ s.get (PROT_STAT_SHD n) ≠ 2 ∧ (∀ w < 6, swOf n w s = 0) ∧ high = false) ∧
    (∃ (n : Nat) (high : Bool) (s : State), s.get (PWM_CTRL_PAIR n) = 0 ∧ s.get (PROT_STAT_SHD n) ≠ 2 ∧ (∀ w < 6, swOf n w s = 0) ∧ high = true) ∧
    (∃ (n : Nat) (s : State), s.get (PWM_CTRL_PAIR n) = 0 ∧ s.get (PROT_STAT_SHD n) ≠ 2 ∧ (∃ h < 3, swOf n (2 * h) s = 1) ∧ (∃ h < 3, swOf n (2 * h
        + 1) s = 1)) ∧
    (∃ (row : Nat), 1 ≤ row ∧ row ≤ 10) :=
  ⟨⟨0, st [(PROT_STAT_SHD 0, 2)], by decide +kernel⟩,
   ⟨0, false, State.reset, by decide +kernel⟩,
   ⟨0, true, State.reset, by decide +kernel⟩,
   ⟨0, st [(PROT_SW_STAT_SW 0, 0x41)], by decide +kernel⟩,
   ⟨10, by decide +kernel⟩⟩

theorem test_wit_protection_decisions :
    (∃ (n : Fin 4) (s : State), bitAt (rewritten s) n = false ∧ s.get (PROT_CMD_STATUS n) ≠ stBusy ∧ s.get (PWM_CTRL_PAIR n) ≠ 1) ∧
    (∃ (n : Fin 4) (s : State), bitAt (rewritten s) n = false ∧ s.get (PROT_CMD_STATUS n) ≠ stBusy ∧ s.get (PWM_CTRL_PAIR n) = 1) ∧
    (∃ (n : Fin 4) (s : State), bitAt (rewritten s) n = false ∧ s.get (PROT_CMD_STATUS n) ≠ stBusy ∧ s.get (PWM_CTRL_PAIR n) = 0 ∧ (s.get
        (PWM_STAT_STATE n) = 1 ∨ s.get (PWM_STAT_STATE n) = 2)) ∧
    (∃ (n : Fin 4) (s : State), bitAt (rewritten s) n = false ∧ s.get (PROT_CMD_STATUS n) ≠ stBusy ∧ s.get (PWM_CTRL_PAIR n) = 0 ∧ (s.get
        (PWM_STAT_STATE n) = 0 ∨ s.get (PWM_STAT_STATE n) = 4)) ∧
    (∃ (n : Fin 4) (h : Fin 3) (s : State), s.get (protWait n h) ≠ 0 ∧ s.get (protWaitEnd n h) ≤ s.now) ∧
    (∃ (n : Fin 4) (h : Fin 3) (s : State), (s.get (protWait n h) = 0 ∨ s.now < s.get (protWaitEnd n h))) ∧
    (∃ (n : Fin 4) (s : State), s.get (protRowAt n) + s.get (PROT_POL_DWELL n) * 200000 ≤ s.now) ∧
    (∃ (n : Fin 4) (s : State), s.now < s.get (protRowAt n) + s.get (PROT_POL_DWELL n) * 200000) ∧
    (∃ (n : Nat) (s : State), n < 4 ∧ s.get (PWM_CTRL_PAIR n) = 0 ∧ s.get (PWM_STAT_STATE n) ≠ 3) ∧
    (∃ (n : Nat) (s : State), n < 4 ∧ s.get (PWM_CTRL_PAIR n) = 0 ∧ s.get (PWM_STAT_STATE n) = 3 ∧ waiting n s = true ∧ s.get (PROT_STAT_SHD n) ≠ 2) ∧
    (∃ (n : Nat) (s : State), n < 4 ∧ s.get (PWM_CTRL_PAIR n) = 0 ∧ s.get (PWM_STAT_STATE n) = 3 ∧ (waiting n s = false ∨ s.get (PROT_STAT_SHD n) =
        2) ∧ (s.get (PROT_STAT_ROW n) = 0 ∨ dwellOver n s = true)) ∧
    (∃ (n : Fin 4) (v : BitVec 12) (s : State), bitAt (rewritten s) n = false ∧ (∃ w < 6, bits v.toNat (2 * w) 2 = 3)) ∧
    (∃ (n : Fin 4) (v : BitVec 12) (s : State), bitAt (rewritten s) n = false ∧ (∀ w < 6, bits v.toNat (2 * w) 2 ≠ 3)) ∧
    (∃ (n : Fin 4) (s : State), bitAt (rewritten s) n = true) :=
  ⟨⟨1, State.reset, by decide +kernel⟩,
   ⟨1, st [(PWM_CTRL_PAIR 1, 1)], by decide +kernel⟩,
   ⟨1, st [(PWM_STAT_STATE 1, 1)], by decide +kernel⟩,
   ⟨1, State.reset, by decide +kernel⟩,
   ⟨1, 1, { st [(protWait 1 1, 1)] with tbNow := 20000000000#64 }, by decide +kernel⟩,
   ⟨1, 1, State.reset, by decide +kernel⟩,
   ⟨1, { State.reset with tbNow := 20000000000#64 }, by decide +kernel⟩,
   ⟨1, st [(PROT_POL_DWELL 1, 1)], by decide +kernel⟩,
   ⟨1, State.reset, by decide +kernel⟩,
   ⟨1, st [(PWM_STAT_STATE 1, 3), (protWait 1 1, 1)], by decide +kernel⟩,
   ⟨1, st [(PWM_STAT_STATE 1, 3)], by decide +kernel⟩,
   ⟨1, 0xC00, State.reset, by decide +kernel⟩,
   ⟨1, 0, State.reset, by decide +kernel⟩,
   ⟨1, st [(stallRst, 2)], by decide +kernel⟩⟩

theorem test_wit_enable_pin :
    (∃ (n : Fin 4) (s : State), s.get (pwmPinHigh n) = 0) ∧
    (∃ (n : Fin 4) (s : State), s.get (pwmPinHigh n) ≠ 0 ∧ switching n s = false) ∧
    (∃ (n : Fin 4) (s : State), s.get (pwmPinHigh n) ≠ 0 ∧ switching n s = true) ∧
    (∃ (n : Nat), n < 4) ∧
    (∃ (n : Fin 4) (s : State), s.get (pwmPinHigh n) ≠ 0) ∧
    (∃ (n : Fin 4) (s : State), s.get (pwmPinHigh n) = 0 ∧ s.get (PROT_STAT_PSF n) = 0) ∧
    (∃ (n : Fin 4) (s : State), s.get (pwmPinHigh n) = 0 ∧ s.get (PROT_STAT_PSF n) ≠ 0 ∧ (s.now - s.get (protEnFallAt n)) < 2000) ∧
    (∃ (n : Fin 4) (s : State), s.get (pwmPinHigh n) = 0 ∧ s.get (PROT_STAT_PSF n) ≠ 0 ∧ 2000 ≤ (s.now - s.get (protEnFallAt n)) ∧ psfPresent n s =
        true) ∧
    (∃ (n : Fin 4) (s : State), s.get (pwmPinHigh n) = 0 ∧ s.get (PROT_STAT_PSF n) ≠ 0 ∧ 2000 ≤ (s.now - s.get (protEnFallAt n)) ∧ psfPresent n s =
        false) ∧
    (∃ (n : Fin 4) (s : State), (∃ h < 3, s.get (protClr n h) ≠ 0 ∧ s.get (REIN_Lh_STAT_STATE (3 * n + h)) ≠ 3) ∧ s.get (protClrAt n) + 4000 ≤
        s.now) ∧
    (∃ (n : Fin 4) (s : State), ((∀ h < 3, s.get (protClr n h) = 0 ∨ s.get (REIN_Lh_STAT_STATE (3 * n + h)) = 3) ∨ s.now < s.get (protClrAt n) +
        4000)) :=
  ⟨⟨1, State.reset, by decide +kernel⟩,
   ⟨1, st [(pwmPinHigh 1, 1)], by decide +kernel⟩,
   ⟨1, st [(pwmPinHigh 1, 1), (PWM_STAT_STATE 1, 2)], by decide +kernel⟩,
   ⟨1, by decide +kernel⟩,
   ⟨1, st [(pwmPinHigh 1, 1)], by decide +kernel⟩,
   ⟨1, State.reset, by decide +kernel⟩,
   ⟨1, st [(PROT_STAT_PSF 1, 1)], by decide +kernel⟩,
   ⟨1, { st [(PROT_STAT_PSF 1, 1), (protHard 1, 1)] with tbNow := 4000#64 }, by decide +kernel⟩,
   ⟨1, { st [(PROT_STAT_PSF 1, 1)] with tbNow := 4000#64 }, by decide +kernel⟩,
   ⟨1, { st [(protClr 1 1, 1)] with tbNow := 20000000000#64 }, by decide +kernel⟩,
   ⟨1, State.reset, by decide +kernel⟩⟩

theorem test_wit_release :
    (∃ (n : Fin 4) (s : State), bitAt (rewritten s) n = false ∧ s.get (PROT_CMD_STATUS n) ≠ stBusy ∧ releaseOf n s = 0) ∧
    (∃ (n : Fin 4) (s : State), bitAt (rewritten s) n = false ∧ s.get (PROT_CMD_STATUS n) ≠ stBusy ∧ releaseOf n s ≠ 0) ∧
    (∃ (n : Fin 4) (s : State), bitAt (rewritten s) n = true) ∧
    (∃ (n : Nat) (s : State), releaseReason n s = 0) ∧
    (∃ (n : Fin 4) (f : Fin 64) (s : State), s.get (protRelPend n) ≠ 0 ∧ s.get (PWM_STAT_STATE n) = 3 ∧ s.get (pwmAwait n) = 0 ∧ s.get (protRelZ n)
        ≠ s.get (pwmZeroAt n) + 1 ∧ s.get (pwmZeroAt n) ≤ s.fineNow f) ∧
    (∃ (n : Fin 4) (f : Fin 64) (s : State), (s.get (protRelPend n) = 0 ∨ s.get (PWM_STAT_STATE n) ≠ 3 ∨ s.get (pwmAwait n) ≠ 0 ∨ s.get (protRelZ n)
        = s.get (pwmZeroAt n) + 1 ∨ s.fineNow f < s.get (pwmZeroAt n))) :=
  ⟨⟨1, st [(PWM_STAT_STATE 1, 3), (pwmPinHigh 1, 1), (POS_ANG_QUAL 1, 1), (LOOP_STAT_STATE 1, 2)], by decide +kernel⟩,
   ⟨1, State.reset, by decide +kernel⟩,
   ⟨1, st [(stallRst, 2)], by decide +kernel⟩,
   ⟨1, st [(PWM_STAT_STATE 1, 3), (pwmPinHigh 1, 1), (POS_ANG_QUAL 1, 1), (LOOP_STAT_STATE 1, 2)], by decide +kernel⟩,
   ⟨1, 1, st [(protRelPend 1, 1), (PWM_STAT_STATE 1, 3)], by decide +kernel⟩,
   ⟨1, 1, State.reset, by decide +kernel⟩⟩

theorem test_wit_discharge :
    (∃ (n : Fin 4) (s : State), bitAt (rewritten s) n = false ∧ s.get (PROT_DIS_CMD_STATUS n) ≠ stBusy ∧ dischargeReason n s ≠ 0) ∧
    (∃ (n : Fin 4) (s : State), bitAt (rewritten s) n = false ∧ s.get (PROT_DIS_CMD_STATUS n) ≠ stBusy ∧ dischargeReason n s = 0) ∧
    (∃ (n : Fin 4) (s : State), bitAt (rewritten s) n = true) ∧
    (∃ (n : Nat) (s : State), dischargeReason n s = 0) ∧
    (∃ (s : State), s.get SAFETY_STAT_DS ≠ 0 ∧ s.get safDisRpt ≠ 0 ∧ s.get safDisRptAt + 200000000 ≤ s.now) ∧
    (∃ (s : State), (s.get SAFETY_STAT_DS = 0 ∨ s.get safDisRpt = 0 ∨ s.now < s.get safDisRptAt + 200000000)) ∧
    (∃ (s : State), disRuns s = true) ∧
    (∃ (s : State), disRuns s = false ∧ governing s = none) ∧
    (∃ (s : State) (g : Nat), disRuns s = false ∧ governing s = some g ∧ dischargePath g true s = 0) ∧
    (∃ (s : State) (g : Nat), disRuns s = false ∧ governing s = some g ∧ dischargePath g true s ≠ 0) ∧
    (∃ (g : Nat) (s : State), g < 4 ∧ (∀ k < g, s.get (PROT_DIS_STAT_PATH k) = 0) ∧ s.get (PROT_DIS_STAT_PATH g) ≠ 0 ∧ (s.get (MON_Mm_STAT_STATE g
        (s.get (PROT_DIS_CFG_MON g))) == 3) = true) ∧
    (∃ (g : Nat) (s : State), g < 4 ∧ (∀ k < g, s.get (PROT_DIS_STAT_PATH k) = 0) ∧ s.get (PROT_DIS_STAT_PATH g) ≠ 0 ∧ (s.get (MON_Mm_STAT_STATE g
        (s.get (PROT_DIS_CFG_MON g))) == 3) = false) ∧
    (∃ (g : Nat) (s : State), g < 4 ∧ (∀ k < g, s.get (PROT_DIS_STAT_PATH k) = 0) ∧ s.get (PROT_DIS_STAT_PATH g) ≠ 0 ∧ s.get (protDisAt g) + s.get
        (PROT_DIS_CFG_TMAX g) * 2000000 ≤ s.now) ∧
    (∃ (g : Nat) (s : State), g < 4 ∧ (∀ k < g, s.get (PROT_DIS_STAT_PATH k) = 0) ∧ s.get (PROT_DIS_STAT_PATH g) ≠ 0 ∧ s.now < s.get (protDisAt g) +
        s.get (PROT_DIS_CFG_TMAX g) * 2000000) ∧
    (∃ (s : State), (∀ k < 4, s.get (PROT_DIS_STAT_PATH k) = 0)) ∧
    (∃ (g st : Nat), g < 4 ∧ st < 8) :=
  ⟨⟨1, State.reset, by decide +kernel⟩,
   ⟨1, st [(PROT_LINK_CFG_MEMBER 1, 1), (REIN_Lh_STAT_STATE 13, 3), (safAuxPin, 1)], by decide +kernel⟩,
   ⟨1, st [(stallRst, 2)], by decide +kernel⟩,
   ⟨1, st [(PROT_LINK_CFG_MEMBER 1, 1), (REIN_Lh_STAT_STATE 13, 3), (safAuxPin, 1)], by decide +kernel⟩,
   ⟨{ st [(SAFETY_STAT_DS, 1), (safDisRpt, 1)] with tbNow := 20000000000#64 }, by decide +kernel⟩,
   ⟨State.reset, by decide +kernel⟩,
   ⟨st [(PROT_DIS_STAT_PATH 1, 1)], by decide +kernel⟩,
   ⟨State.reset, by decide +kernel⟩,
   ⟨st [(PROT_LINK_CFG_MEMBER 1, 1)], 1, by decide +kernel⟩,
   ⟨st [(PROT_LINK_CFG_MEMBER 1, 1), (REIN_Lh_STAT_STATE 13, 3), (safAuxPin, 1)], 1, by decide +kernel⟩,
   ⟨1, st [(PROT_DIS_STAT_PATH 1, 1), (MON_Mm_STAT_STATE 1 0, 3)], by decide +kernel⟩,
   ⟨1, st [(PROT_DIS_STAT_PATH 1, 1)], by decide +kernel⟩,
   ⟨1, { st [(PROT_DIS_STAT_PATH 1, 1)] with tbNow := 20000000000#64 }, by decide +kernel⟩,
   ⟨1, st [(PROT_DIS_STAT_PATH 1, 1)], by decide +kernel⟩,
   ⟨State.reset, by decide +kernel⟩,
   ⟨1, 1, by decide +kernel⟩⟩

theorem test_wit_discharge_2 :
    (∃ (g st : Nat) (s : State), g < 4 ∧ st < 8 ∧ s.get (PROT_DIS_CMD_STATUS g) = stBusy) ∧
    (∃ (s : State), s.get disDecAt + 200000 ≤ s.now) ∧
    (∃ (s : State), s.now < s.get disDecAt + 200000) :=
  ⟨⟨1, 1, st [(PROT_DIS_CMD_STATUS 1, stBusy)], by decide +kernel⟩,
   ⟨{ State.reset with tbNow := 20000000000#64 }, by decide +kernel⟩,
   ⟨State.reset, by decide +kernel⟩⟩

theorem test_wit_junction_and_derating :
    (∃ (n : Fin 4) (w : Fin 6) (s : State), s.get (PROT_TJ_s_VALID n w) ≠ 0 ∧ s.get (protTjAt n w) + s.get (PROT_TJ_CFG_AGE n) * 200000 ≤ s.now) ∧
    (∃ (n : Fin 4) (w : Fin 6) (s : State), (s.get (PROT_TJ_s_VALID n w) = 0 ∨ s.now < s.get (protTjAt n w) + s.get (PROT_TJ_CFG_AGE n) * 200000)) ∧
    (∃ (n : Fin 4) (s : State), s.get (protDerAt n) + 200000 ≤ s.now) ∧
    (∃ (n : Fin 4) (s : State), s.now < s.get (protDerAt n) + 200000) ∧
    (∃ (n : Nat) (s : State), tempCode (s.get (PROT_DR_CFG_T0 n)) < tempCode (s.get (PROT_DR_CFG_T1 n)) ∧ s.get (PROT_DR_CFG_FMIN n) ≤ 256) ∧
    (∃ (n : Nat) (t : Int) (s : State), tempCode (s.get (PROT_DR_CFG_T0 n)) < tempCode (s.get (PROT_DR_CFG_T1 n)) ∧ s.get (PROT_DR_CFG_FMIN n) ≤ 256
        ∧ t ≤ tempCode (s.get (PROT_DR_CFG_T0 n))) ∧
    (∃ (n : Nat) (t : Int) (s : State), tempCode (s.get (PROT_DR_CFG_T0 n)) < tempCode (s.get (PROT_DR_CFG_T1 n)) ∧ s.get (PROT_DR_CFG_FMIN n) ≤ 256
        ∧ tempCode (s.get (PROT_DR_CFG_T1 n)) ≤ t) :=
  ⟨⟨1, 1, { st [(PROT_TJ_s_VALID 1 1, 1)] with tbNow := 20000000000#64 }, by decide +kernel⟩,
   ⟨1, 1, State.reset, by decide +kernel⟩,
   ⟨1, { State.reset with tbNow := 20000000000#64 }, by decide +kernel⟩,
   ⟨1, State.reset, by decide +kernel⟩,
   ⟨0, State.reset, by decide +kernel⟩,
   ⟨0, 0, State.reset, by decide +kernel⟩,
   ⟨0, 1000000, State.reset, by decide +kernel⟩⟩

theorem test_wit_sheepdog_cycle :
    (∃ (s : State), s.now % 20000 = 0 ∧ s.get shdCycAt ≠ s.now + 1 ∧ s.get SHD_STAT_RUN = 0) ∧
    (∃ (s : State), (s.now % 20000 ≠ 0 ∨ s.get shdCycAt = s.now + 1)) ∧
    (∃ (s : State), s.now % 20000 = 0 ∧ s.get shdCycAt ≠ s.now + 1) ∧
    (∃ (osc : Nat), 720 ≤ osc ∧ osc ≤ 880) ∧
    (∃ (osc : Nat) (s : State), (osc < 720 ∨ 880 < osc) ∧ s.get oscRun = 0) ∧
    (∃ (osc : Nat) (s : State), (osc < 720 ∨ 880 < osc) ∧ s.get oscRun = 1) ∧
    (∃ (osc : Nat) (s : State), (osc < 720 ∨ 880 < osc) ∧ 2 ≤ s.get oscRun) ∧
    (∃ (k : Nat) (s : State), k < 16 ∧ (s.get SAFETY_SEAL_CMD_STATUS ≠ stBusy ∨ k = 10)) ∧
    (∃ (k : Nat) (s : State), k < 16 ∧ s.get SAFETY_SEAL_CMD_STATUS = stBusy ∧ k ≠ 10) ∧
    (∃ (k : Nat) (s : State), k < 16 ∧ (s.get safBooted = 0 ∨ s.get safStrapRep = k)) ∧
    (∃ (k : Nat) (s : State), k < 16 ∧ s.get safBooted ≠ 0 ∧ s.get safStrapRep ≠ k ∧ k ≠ s.get SAFETY_STAT_STRAP_BOOT) ∧
    (∃ (k : Nat) (s : State), k < 16 ∧ s.get safBooted ≠ 0 ∧ s.get safStrapRep ≠ k ∧ k = s.get SAFETY_STAT_STRAP_BOOT) :=
  ⟨⟨State.reset, by decide +kernel⟩,
   ⟨{ State.reset with tbNow := 1#64 }, by decide +kernel⟩,
   ⟨State.reset, by decide +kernel⟩,
   ⟨720, by decide +kernel⟩,
   ⟨1, State.reset, by decide +kernel⟩,
   ⟨1, st [(oscRun, 1)], by decide +kernel⟩,
   ⟨881, st [(oscRun, 2)], by decide +kernel⟩,
   ⟨1, State.reset, by decide +kernel⟩,
   ⟨1, st [(SAFETY_SEAL_CMD_STATUS, stBusy)], by decide +kernel⟩,
   ⟨1, st [(safStrapRep, 2), (SAFETY_STAT_STRAP_BOOT, 1)], by decide +kernel⟩,
   ⟨1, st [(safBooted, 1)], by decide +kernel⟩,
   ⟨0, st [(safBooted, 1), (safStrapRep, 1)], by decide +kernel⟩⟩

theorem test_wit_sheepdog_watchdog :
    (∃ (us v : BitVec 16) (s : State), v.toNat + s.get SAFETY_WD_KICK_TOKEN = 65535 ∧ bits (sealed 4 s) 0 16 ≤ us.toNat ∧ us.toNat ≤ bits (sealed 4
        s) 16 16) ∧
    (∃ (us v : BitVec 16) (s : State), (v.toNat + s.get SAFETY_WD_KICK_TOKEN ≠ 65535 ∨ us.toNat < bits (sealed 4 s) 0 16 ∨ bits (sealed 4 s) 16 16 <
        us.toNat)) ∧
    (∃ (s : State), s.get SHD_STAT_RUN ≠ 0 ∧ s.get shdKickAt ≠ 0) ∧
    (∃ (s : State), (s.get SHD_STAT_RUN = 0 ∨ s.get shdKickAt = 0)) ∧
    (∃ (s : State), bitAt (sealed 5 (raiseFault 0x0601 .deviceSafe s)) 0 = false) ∧
    (∃ (s : State), bitAt (sealed 5 (raiseFault 0x0601 .deviceSafe s)) 0 = true) :=
  ⟨⟨0, 0xFFFF, st [(SAFETY_WD_KICK_TOKEN, 0)], by decide +kernel⟩,
   ⟨0, 0, State.reset, by decide +kernel⟩,
   ⟨{ st [(SHD_STAT_RUN, 1), (shdKickAt, 1)] with tbNow := 5#64 }, by decide +kernel⟩,
   ⟨State.reset, by decide +kernel⟩,
   ⟨State.reset, by decide +kernel⟩,
   ⟨(st [(SAFETY_STAT_VALID, 1)]).putWords (sealBase 0 + 20) [1], by decide +kernel⟩⟩

theorem test_wit_device_safe :
    (∃ (code : Nat) (s : State), code < 2 ^ 16 ∧ s.get SAFETY_STAT_DS = 0) ∧
    (∃ (code : Nat) (s : State), s.get SAFETY_STAT_DS ≠ 0 ∧ code ≠ 0x0605 ∧ code ≠ 0x0606) ∧
    (∃ (v : BitVec 8), (∃ n < 4, bits v.toNat (2 * n) 2 = 3)) ∧
    (∃ (v : BitVec 8) (s : State), s.get SAFETY_STAT_DS ≠ 0 ∧ (∃ n < 4, bits v.toNat (2 * n) 2 < bits (s.get safDsFloor) (2 * n) 2)) ∧
    (∃ (v : BitVec 8) (s : State), (∀ n < 4, bits v.toNat (2 * n) 2 ≠ 3) ∧ (s.get SAFETY_STAT_DS = 0 ∨ ∀ n < 4, bits (s.get safDsFloor) (2 * n) 2 ≤
        bits v.toNat (2 * n) 2)) ∧
    (∃ (v : Nat) (s : State), v < 256 ∧ (∀ n < 4, s.get (PROT_STAT_SHD n) = bits (s.get SAFETY_STALL_CMD_KIND) (2 * n) 2)) ∧
    (∃ (c : BitVec 16), 0x10 ≤ c.toNat ∧ c.toNat ≤ 0x37) ∧
    (∃ (c : BitVec 16), (c.toNat < 0x10 ∨ 0x37 < c.toNat)) ∧
    (∃ (c : Nat), 0x10 ≤ c ∧ c ≤ 0x37) ∧
    (∃ (c : Nat) (s : State), 0x10 ≤ c ∧ c ≤ 0x37 ∧ (fwReaction c s = 1 ∨ fwReaction c s = 2)) :=
  ⟨⟨1, State.reset, by decide +kernel⟩,
   ⟨0, st [(SAFETY_STAT_DS, 1)], by decide +kernel⟩,
   ⟨0xC0, by decide +kernel⟩,
   ⟨0, st [(SAFETY_STAT_DS, 1), (safDsFloor, 2)], by decide +kernel⟩,
   ⟨0, State.reset, by decide +kernel⟩,
   ⟨1, State.reset, by decide +kernel⟩,
   ⟨0x37, by decide +kernel⟩,
   ⟨0, by decide +kernel⟩,
   ⟨0x37, by decide +kernel⟩,
   ⟨0x10, State.reset, by decide +kernel⟩⟩

theorem test_wit_safe_torque_off :
    (∃ (i : Fin 2) (s : State), stoActive i s = true) ∧
    (∃ (i : Fin 2) (s : State), stoActive i s = false) ∧
    (∃ (n i : Nat) (s : State), n < 4 ∧ i < 2 ∧ bitAt (s.get safStoMap) (8 * i + n) = true ∧ bitAt (s.get safStoHeld) i = true) ∧
    (∃ (i : Nat), i < 2) ∧
    (∃ (s : State), (s.get safStoHeld = 0 ∨ stoActive 0 s = true ∨ stoActive 1 s = true ∨ s.get SAFETY_STO_STAT_DISC ≠ 0)) ∧
    (∃ (s : State), s.get safStoHeld ≠ 0 ∧ stoActive 0 s = false ∧ stoActive 1 s = false ∧ s.get SAFETY_STO_STAT_DISC = 0 ∧ (stoRestart s = true ∨
        s.get safDiscAck ≠ 0) ∧ s.get safAckDone = 0) ∧
    (∃ (s : State), s.get safStoHeld ≠ 0 ∧ stoActive 0 s = false ∧ stoActive 1 s = false ∧ s.get SAFETY_STO_STAT_DISC = 0 ∧ ((stoRestart s = false ∧
        s.get safDiscAck = 0) ∨ s.get safAckDone ≠ 0)) ∧
    (∃ (s : State), s.get safOneAt ≠ 0 ∧ s.get safOneAt - 1 + stoDisc s * 200000 ≤ s.now ∧ s.get SAFETY_STO_STAT_DISC = 0) ∧
    (∃ (s : State), (s.get safOneAt = 0 ∨ s.now < s.get safOneAt - 1 + stoDisc s * 200000 ∨ s.get SAFETY_STO_STAT_DISC ≠ 0)) ∧
    (∃ (s : State), s.get SAFETY_STO_CMD_STATUS ≠ stBusy ∧ stoActive 0 s = false ∧ stoActive 1 s = false ∧ s.get SAFETY_STO_STAT_DISC = 0) ∧
    (∃ (s : State), s.get SAFETY_STO_CMD_STATUS ≠ stBusy ∧ (stoActive 0 s = true ∨ stoActive 1 s = true ∨ s.get SAFETY_STO_STAT_DISC ≠ 0)) :=
  ⟨⟨1, st [(SAFETY_STO_STAT_B, 1)], by decide +kernel⟩,
   ⟨1, State.reset, by decide +kernel⟩,
   ⟨1, 1, st [(safStoHeld, 2 ^ 1), (safStoMap, 0x200)], by decide +kernel⟩,
   ⟨1, by decide +kernel⟩,
   ⟨State.reset, by decide +kernel⟩,
   ⟨st [(safStoHeld, 1), (safDiscAck, 1)], by decide +kernel⟩,
   ⟨st [(safStoHeld, 1)], by decide +kernel⟩,
   ⟨{ st [(safOneAt, 1)] with tbNow := 20000000000#64 }, by decide +kernel⟩,
   ⟨State.reset, by decide +kernel⟩,
   ⟨State.reset, by decide +kernel⟩,
   ⟨st [(SAFETY_STO_STAT_DISC, 1)], by decide +kernel⟩⟩

theorem test_wit_safety_requests :
    (∃ (s : State), s.get SAFETY_SS1_CMD_STATUS ≠ stBusy ∧ (ss1Reason (s.get SAFETY_SS1_CFG_MASK) s) ≠ 0) ∧
    (∃ (s : State), s.get SAFETY_SS1_CMD_STATUS ≠ stBusy ∧ (ss1Reason (s.get SAFETY_SS1_CFG_MASK) s) = 0) ∧
    (∃ (s : State), s.get SAFETY_SS1_CMD_STATUS ≠ stBusy) ∧
    (∃ (m : Nat) (s : State), ss1Reason m s = 0) ∧
    (∃ (s : State), (∀ n < 4, s.get (PROT_STAT_SHD n) = bits (s.get SAFETY_STALL_CMD_KIND) (2 * n) 2)) ∧
    (∃ (s : State), s.get SAFETY_SS1_CMD_STATUS = stBusy ∧ s.get SAFETY_SS1_CMD_CODE = 2 ∧ (ss1Runs s = true ∨ s.get SAFETY_SS1_STAT_HELD = 0 ∨
        s.get SAFETY_STAT_DS ≠ 0)) ∧
    (∃ (s : State), s.get SAFETY_SS1_CMD_STATUS = stBusy ∧ s.get SAFETY_SS1_CMD_CODE = 2 ∧ ss1Runs s = false ∧ s.get SAFETY_SS1_STAT_HELD ≠ 0 ∧
        s.get SAFETY_STAT_DS = 0 ∧ (∀ n < 4, s.get (safCmdKind n) = 0) ∧ (∀ n < 4, s.get (PROT_STAT_SHD n) = bits (s.get SAFETY_STALL_CMD_KIND) (2 *
            n) 2)) ∧
    (∃ (mask : BitVec 4) (s : State), s.get SAFETY_ACK_CMD_STATUS ≠ stBusy ∧ mask ≠ 0) ∧
    (∃ (mask : BitVec 4) (s : State), s.get SAFETY_ACK_CMD_STATUS ≠ stBusy ∧ mask = 0) ∧
    (∃ (s : State), s.get SAFETY_ACK_CMD_STATUS = stBusy ∧ (∃ n < 4, bitAt (s.get SAFETY_ACK_CMD_CODE) n = true ∧ s.get (safCause n) ≠ 0)) ∧
    (∃ (s : State), s.get SAFETY_ACK_CMD_STATUS = stBusy ∧ (∀ n < 4, bitAt (s.get SAFETY_ACK_CMD_CODE) n = true → s.get (safCause n) = 0)) ∧
    (∃ (n : Fin 4) (v : BitVec 32) (s : State), bits v.toNat 4 3 ≠ 0 ∧ (s.get (PWM_CTRL_PAIR n) = 2 ∨ s.get (POS_CTRL_SAFETY n) = 0)) ∧
    (∃ (n : Fin 4) (v : BitVec 32) (s : State), (bits v.toNat 4 3 = 0 ∨ (s.get (PWM_CTRL_PAIR n) ≠ 2 ∧ s.get (POS_CTRL_SAFETY n) ≠ 0))) :=
  ⟨⟨State.reset, by decide +kernel⟩,
   ⟨st [(SAFETY_SS1_CFG_MASK, 1), (PWM_STAT_STATE 0, 2), (POS_CTRL_SAFETY 0, 1), (POS_SPD_STAT_VALID 0, 1)], by decide +kernel⟩,
   ⟨State.reset, by decide +kernel⟩,
   ⟨1, st [(SAFETY_SS1_CFG_MASK, 1), (PWM_STAT_STATE 0, 2), (POS_CTRL_SAFETY 0, 1), (POS_SPD_STAT_VALID 0, 1)], by decide +kernel⟩,
   ⟨State.reset, by decide +kernel⟩,
   ⟨st [(SAFETY_SS1_CMD_STATUS, stBusy), (SAFETY_SS1_CMD_CODE, 2)], by decide +kernel⟩,
   ⟨st [(SAFETY_SS1_CMD_STATUS, stBusy), (SAFETY_SS1_CMD_CODE, 2), (SAFETY_SS1_STAT_HELD, 1)], by decide +kernel⟩,
   ⟨15, State.reset, by decide +kernel⟩,
   ⟨0, State.reset, by decide +kernel⟩,
   ⟨st [(SAFETY_ACK_CMD_STATUS, stBusy), (SAFETY_ACK_CMD_CODE, 8), (safCause 3, 1)], by decide +kernel⟩,
   ⟨st [(SAFETY_ACK_CMD_STATUS, stBusy)], by decide +kernel⟩,
   ⟨1, 0x10, st [(PWM_CTRL_PAIR 1, 2)], by decide +kernel⟩,
   ⟨1, 0, State.reset, by decide +kernel⟩⟩

theorem test_wit_firmware_judgements :
    (∃ (n i j : Nat) (s : State), i < j ∧ j < 3 ∧ (∀ c, c = i ∨ c = j → s.wordAt (0x10100000 + c * 0x100000 + sealed 6 s % 2 ^ 20 + 8 * n) = s.get
        (SAFETY_TQ_LO_n_LO n) ∧ s.wordAt (0x10100000 + c * 0x100000 + sealed 6 s % 2 ^ 20 + 8 * n + 4) = s.get (SAFETY_TQ_HI_n_HI n))) ∧
    (∃ (n : Nat) (s : State), fnActive n 2 s = true ∧ bitAt (sealed (fnSet n s + 7) s) 8 = false) ∧
    (∃ (n : Nat) (s : State), fnActive n 2 s = true ∧ bitAt (sealed (fnSet n s + 7) s) 8 = true) ∧
    (∃ (n : Nat) (s : State), fnActive n 2 s = false) ∧
    (∃ (n : Nat) (s : State), (fnActive n 1 s = false ∨ (sealed (fnSet n s + 2) s) % 4 = 0)) ∧
    (∃ (n : Nat) (s : State), fnActive n 1 s = true ∧ (sealed (fnSet n s + 2) s) % 4 = 2) ∧
    (∃ (n : Nat) (s : State), fnActive n 1 s = true ∧ (sealed (fnSet n s + 2) s) % 4 = 1) ∧
    (∃ (n : Nat) (s : State), fnActive n 0 s = false) ∧
    (∃ (n : Nat) (s : State), (slsJudge n s).1 = true) ∧
    (∃ (n f : Nat) (s : State), f < 3 ∧ fnActive n f s = true ∧ fnReaction n f s = 2) ∧
    (∃ (n f : Nat) (s : State), f < 3 ∧ fnActive n f s = true ∧ fnReaction n f s = 1 ∧ (∀ g < 3, fnActive n g s = true → fnReaction n g s ≠ 2)) ∧
    (∃ (n f : Nat) (s : State), f < 3 ∧ fnActive n f s = true ∧ fnReaction n f s = 3 ∧ (∀ g < 3, fnActive n g s = true → fnReaction n g s = 0 ∨
        fnReaction n g s = 3)) :=
  ⟨⟨0, 1, 2, State.reset, by refine ⟨by decide +kernel, by decide +kernel, ?_⟩; rintro c (rfl | rfl) <;> decide +kernel⟩,
   ⟨0, (st [(SAFETY_STAT_VALID, 1), (fnCur 0, 0x70)]).putWords (sealBase 0 + 4 * 71) [0], by decide +kernel⟩,
   ⟨0, (st [(SAFETY_STAT_VALID, 1), (fnCur 0, 0x70)]).putWords (sealBase 0 + 4 * 71) [0x100], by decide +kernel⟩,
   ⟨0, State.reset, by decide +kernel⟩,
   ⟨0, State.reset, by decide +kernel⟩,
   ⟨0, (st [(SAFETY_STAT_VALID, 1), (fnCur 0, 0x70)]).putWords (sealBase 0 + 4 * 66) [2], by decide +kernel⟩,
   ⟨0, (st [(SAFETY_STAT_VALID, 1), (fnCur 0, 0x70)]).putWords (sealBase 0 + 4 * 66) [1], by decide +kernel⟩,
   ⟨0, State.reset, by decide +kernel⟩,
   ⟨0, (st [(SAFETY_STAT_VALID, 1), (fnCur 0, 0x10), (fnSlsRun 0, 1), (SHD_SNAP_n_w_W 0 5, 0x40000000)]).putWords (sealBase 0 + 4 * 64) [0x3F800000,
       0], by decide +kernel⟩,
   ⟨0, 1, (st [(SAFETY_STAT_VALID, 1), (fnCur 0, 0x70)]).putWords (sealBase 0 + 4 * 71) [8], by decide +kernel⟩,
   ⟨0, 1, (st [(SAFETY_STAT_VALID, 1), (fnCur 0, 0x70)]).putWords (sealBase 0 + 4 * 71) [5], by decide +kernel⟩,
   ⟨0, 2, (st [(SAFETY_STAT_VALID, 1), (fnCur 0, 0x70)]).putWords (sealBase 0 + 4 * 71) [0x3F], by decide +kernel⟩⟩

theorem test_wit_contactors :
    (∃ (s : State), (∀ i < 5, s.get (ctcReqAt i) = 0 ∨ s.now < s.get (ctcReqAt i) - 1 + openDly s * 200000)) ∧
    (∃ (i : Nat) (s : State), i < 5 ∧ s.get (ctcReqAt i) ≠ 0 ∧ s.get (ctcReqAt i) - 1 + openDly s * 200000 ≤ s.now) ∧
    (∃ (k : Nat) (s : State), k < 4 ∧ bitAt (s.get CTC_STAT_OUT) k = bitAt (s.get CTC_STAT_MAIN) k) ∧
    (∃ (k : Nat) (s : State), k < 4 ∧ bitAt (s.get CTC_STAT_OUT) k = false ∧ bitAt (s.get CTC_STAT_MAIN) k = true ∧ s.get (ctcBad k) = 0 ∧ s.get
        (ctcCmdAt k) + ctcTfb s * 200000 ≤ s.now) ∧
    (∃ (k : Nat) (s : State), k < 4 ∧ bitAt (s.get CTC_STAT_OUT) k = true ∧ bitAt (s.get CTC_STAT_MAIN) k = false ∧ s.get (ctcBad k) = 0 ∧ s.get
        (ctcCmdAt k) + ctcTfb s * 200000 ≤ s.now ∧ s.get (ctcWas k) = 0) ∧
    (∃ (k : Nat) (s : State), k < 4 ∧ bitAt (s.get CTC_STAT_OUT) k = true ∧ bitAt (s.get CTC_STAT_MAIN) k = false ∧ s.get (ctcBad k) = 0 ∧ s.get
        (ctcCmdAt k) + ctcTfb s * 200000 ≤ s.now ∧ s.get (ctcWas k) ≠ 0) ∧
    (∃ (k : Nat) (s : State), k < 4 ∧ bitAt (s.get CTC_STAT_OUT) k ≠ bitAt (s.get CTC_STAT_MAIN) k ∧ (s.get (ctcBad k) ≠ 0 ∨ s.now < s.get (ctcCmdAt
        k) + ctcTfb s * 200000)) :=
  ⟨⟨State.reset, by decide +kernel⟩,
   ⟨1, { st [(ctcReqAt 1, 1)] with tbNow := 20000000000#64 }, by decide +kernel⟩,
   ⟨1, State.reset, by decide +kernel⟩,
   ⟨1, { st [(CTC_STAT_MAIN, 2 ^ 1)] with tbNow := 20000000000#64 }, by decide +kernel⟩,
   ⟨1, { st [(CTC_STAT_OUT, 2 ^ 1)] with tbNow := 20000000000#64 }, by decide +kernel⟩,
   ⟨1, { st [(CTC_STAT_OUT, 2 ^ 1), (ctcWas 1, 1)] with tbNow := 20000000000#64 }, by decide +kernel⟩,
   ⟨1, st [(ctcBad 1, 1), (CTC_STAT_MAIN, 2)], by decide +kernel⟩⟩

theorem test_wit_sealed_block :
    (∃ (who : Req) (s : State), (who = .d → s.get BIST_DBG_LEVEL = 2) ∧ s.get SAFETY_SEAL_CMD_STATUS ≠ stBusy ∧ sealReason who s ≠ 0) ∧
    (∃ (s : State), s.get SAFETY_STAT_STRAP ≠ 10) ∧
    (∃ (s : State), s.get SAFETY_STAT_STRAP = 10 ∧ stageIdle s = false) ∧
    (∃ (who : Req) (s : State), s.get SAFETY_STAT_STRAP = 10 ∧ stageIdle s = true ∧ (∃ k < 8, caskOwner s (s.get SAFETY_SEAL_SRC_CASK + k) ≠ reqUser
        who)) ∧
    (∃ (who : Req) (s : State), who ≠ .d ∧ s.get SAFETY_SEAL_CMD_STATUS ≠ stBusy ∧ sealReason who s = 0) ∧
    (∃ (who : Req) (s : State), who ≠ .d ∧ s.get SAFETY_SEAL_CMD_STATUS ≠ stBusy ∧ sealReason who s = 0 ∧ sealBad (fun i => s.wordAt ((caskBase
        (s.get SAFETY_SEAL_SRC_CASK)) + 4 * i)) = none) ∧
    (∃ (s : State), s.get SAFETY_SEAL_CMD_STATUS = stBusy) ∧
    (∃ (s : State), s.get SAFETY_SEAL_CMD_STATUS ≠ stBusy) ∧
    (∃ (c : Nat) (s : State), sealValid c s = false) ∧
    (∃ (s : State), s.get BIST_DBG_LEVEL ≠ 2) :=
  ⟨⟨.y, State.reset, by decide +kernel⟩,
   ⟨State.reset, by decide +kernel⟩,
   ⟨st [(SAFETY_STAT_STRAP, 10), (PWM_STAT_STATE 0, 1)], by decide +kernel⟩,
   ⟨.y, st [(SAFETY_STAT_STRAP, 10)], by decide +kernel⟩,
   ⟨.y, st [(SAFETY_STAT_STRAP, 10), (CELLAR_OWNj_OWN 0, 0x11111111)], by decide +kernel⟩,
   ⟨.y, sealReady, by exact ⟨by decide +kernel, by decide +kernel, by decide +kernel, sealReady_ok⟩⟩,
   ⟨st [(SAFETY_SEAL_CMD_STATUS, stBusy)], by decide +kernel⟩,
   ⟨State.reset, by decide +kernel⟩,
   ⟨0, State.reset, by decide +kernel⟩,
   ⟨st [(BIST_DBG_LEVEL, 0)], by decide +kernel⟩⟩

theorem test_wit_voting :
    (∃ (c : Fin 3) (t : Txn) (lag : BitVec 16) (s : State), s.get YOKE_STAT_MODE = 0 ∧ s.get YOKE_STAT_LOCKSTEP_BROKEN = 0 ∧ (t.addr.toNat <
        0x10000000 ∨ 0x10100000 ≤ t.addr.toNat) ∧ (t.kind = .write → t.addr.toNat ≠ 0x40048028) ∧ coreMay c s = true ∧ lagOk c lag.toNat s = true ∧
            s.yokeOwed = [] ∧ s.yokeBuf = []) ∧
    (∃ (c : Fin 3) (t : Txn) (lag : BitVec 16) (s : State) (a at_ : Nat), s.get YOKE_STAT_MODE = 0 ∧ s.get YOKE_STAT_LOCKSTEP_BROKEN = 0 ∧
        (t.addr.toNat < 0x10000000 ∨ 0x10100000 ≤ t.addr.toNat) ∧ (t.kind = .write → t.addr.toNat ≠ 0x40048028) ∧ coreMay c s = true ∧ lagOk c
            lag.toNat s = true ∧ s.yokeOwed = [] ∧ a < 3 ∧ a ≠ c ∧ s.yokeBuf = [⟨a, (comparedTxn t), at_, none⟩]) ∧
    (∃ (c : Fin 3) (t o : Txn) (lag : BitVec 16) (s : State) (at_ : Nat), (s.get YOKE_STAT_MODE = 1 ∨ s.get YOKE_STAT_MODE = 2) ∧ s.get
        YOKE_STAT_LOCKSTEP_BROKEN = 0 ∧ s.get YOKE_STAT_MARKED < 3 ∧ s.get YOKE_STAT_MARKED ≠ c ∧ (t.addr.toNat < 0x10000000 ∨ 0x10100000 ≤
            t.addr.toNat) ∧ (t.kind = .write → t.addr.toNat ≠ 0x40048028) ∧ coreMay c s = true ∧ lagOk c lag.toNat s = true ∧ s.yokeOwed = [] ∧
                s.yokeBuf = [⟨3 - s.get YOKE_STAT_MARKED - c, o, at_, none⟩] ∧ o = (comparedTxn t)) ∧
    (∃ (c : Fin 3) (t o : Txn) (lag : BitVec 16) (s : State) (at_ : Nat), (s.get YOKE_STAT_MODE = 1 ∨ s.get YOKE_STAT_MODE = 2) ∧ s.get
        YOKE_STAT_LOCKSTEP_BROKEN = 0 ∧ s.get YOKE_STAT_MARKED < 3 ∧ s.get YOKE_STAT_MARKED ≠ c ∧ (t.addr.toNat < 0x10000000 ∨ 0x10100000 ≤
            t.addr.toNat) ∧ (t.kind = .write → t.addr.toNat ≠ 0x40048028) ∧ coreMay c s = true ∧ lagOk c lag.toNat s = true ∧ s.yokeOwed = [] ∧
                s.yokeBuf = [⟨3 - s.get YOKE_STAT_MARKED - c, o, at_, none⟩] ∧ o ≠ (comparedTxn t)) ∧
    (∃ (c : Fin 3) (t o : Txn) (at_ : Nat) (r : Option Resp) (s : State), s.get YOKE_STAT_MODE ≠ 3 ∧ (inService s).contains c.val = true ∧ s.get
        YOKE_STAT_LOCKSTEP_BROKEN = 0 ∧ s.yokeOwed = [⟨c, o, at_, r⟩] ∧ o = comparedTxn t) ∧
    (∃ (c : Fin 3) (t o : Txn) (at_ : Nat) (r : Option Resp) (s : State), s.get YOKE_STAT_MODE ≠ 3 ∧ (inService s).contains c.val = true ∧ s.get
        YOKE_STAT_LOCKSTEP_BROKEN = 0 ∧ s.yokeOwed = [⟨c, o, at_, r⟩] ∧ o ≠ comparedTxn t) ∧
    (∃ (t : Txn), t.kind = .read) ∧
    (∃ (t : Txn), t.kind ≠ .read) ∧
    (∃ (c : Fin 3) (t : Txn) (lag : BitVec 16) (s : State), 0x10000000 ≤ t.addr.toNat ∧ t.addr.toNat < 0x10100000 ∧ t.kind = .read ∧ coreMay c s =
        true ∧ lagOk c lag.toNat s = true) ∧
    (∃ (c : Fin 3) (t : Txn) (lag : BitVec 16) (s : State), 0x10000000 ≤ t.addr.toNat ∧ t.addr.toNat < 0x10100000 ∧ t.kind = .write ∧ coreMay c s =
        true ∧ lagOk c lag.toNat s = true) ∧
    (∃ (c : Fin 3) (lag : BitVec 16) (s : State), (coreMay c s = false ∨ lagOk c lag.toNat s = false)) ∧
    (∃ (c : Nat) (s : State), c < 3 ∧ (s.get YOKE_STAT_MODE = 3 ∨ (s.get YOKE_STAT_LOCKSTEP_BROKEN ≠ 0 ∧ c ≠ 0) ∨ (s.get YOKE_STAT_MODE = 2 ∧ s.get
        YOKE_STAT_MARKED = c) ∨ 16 ≤ bufCount c s)) ∧
    (∃ (c : Nat) (s : State), c < 3 ∧ s.get YOKE_STAT_MODE = 0 ∧ s.get YOKE_STAT_LOCKSTEP_BROKEN = 0 ∧ bufCount c s < 16 ∧ s.get yokeIntN ≤ s.get
        (yokeInts c)) ∧
    (∃ (c : Nat) (s : State), c < 3 ∧ s.get YOKE_STAT_MODE = 0 ∧ s.get YOKE_STAT_LOCKSTEP_BROKEN = 0) ∧
    (∃ (c : Fin 3) (t : Txn) (lag : BitVec 16) (s : State), (t.addr.toNat < 0x10000000 ∨ 0x10100000 ≤ t.addr.toNat) ∧ (t.kind = .write →
        t.addr.toNat ≠ 0x40048028) ∧ coreMay c s = true ∧ lagOk c lag.toNat s = true ∧ s.get YOKE_STAT_MODE = 1 ∧ s.get YOKE_STAT_MARKED = c ∧ s.get
            YOKE_STAT_LOCKSTEP_BROKEN = 0) ∧
    (∃ (t : Txn) (s : State), (t.addr.toNat < 0x10000000 ∨ 0x10100000 ≤ t.addr.toNat) ∧ (t.kind = .write → t.addr.toNat ≠ 0x40048028) ∧ coreMay 0 s
        = true ∧ s.get YOKE_STAT_LOCKSTEP_BROKEN = 1 ∧ (∀ e ∈ s.yokeOwed, e.core ≠ 0)) :=
  ⟨⟨1, ⟨.write, 0x20000000, 4, 7⟩, 0xFFFF, State.reset, by decide +kernel⟩,
   ⟨1, ⟨.write, 0x20000000, 4, 7⟩, 0xFFFF, { State.reset with yokeBuf := [⟨0, ⟨.write, 0x20000000, 4, 7⟩, 5, none⟩] }, 0, 5, by decide +kernel⟩,
   ⟨1, ⟨.write, 0x20000000, 4, 7⟩, ⟨.write, 0x20000000, 4, 7⟩, 0xFFFF,
       { st [(YOKE_STAT_MODE, 1), (YOKE_STAT_MARKED, 2)] with yokeBuf := [⟨0, ⟨.write, 0x20000000, 4, 7⟩, 5, none⟩] }, 5, by decide +kernel⟩,
   ⟨1, ⟨.write, 0x20000000, 4, 7⟩, ⟨.write, 0x20000000, 4, 8⟩, 0xFFFF,
       { st [(YOKE_STAT_MODE, 1), (YOKE_STAT_MARKED, 2)] with yokeBuf := [⟨0, ⟨.write, 0x20000000, 4, 8⟩, 5, none⟩] }, 5, by decide +kernel⟩,
   ⟨1, ⟨.write, 0x20000000, 4, 7⟩, ⟨.write, 0x20000000, 4, 7⟩, 5, none, { State.reset with yokeOwed := [⟨1, ⟨.write, 0x20000000, 4, 7⟩, 5, none⟩] },
       by decide +kernel⟩,
   ⟨1, ⟨.write, 0x20000000, 4, 7⟩, ⟨.write, 0x20000000, 4, 8⟩, 5, none, { State.reset with yokeOwed := [⟨1, ⟨.write, 0x20000000, 4, 8⟩, 5, none⟩] },
       by decide +kernel⟩,
   ⟨⟨.read, 0, 4, 9⟩, by decide +kernel⟩,
   ⟨⟨.write, 0x20000000, 4, 7⟩, by decide +kernel⟩,
   ⟨1, ⟨.read, 0x10000000, 4, 0⟩, 0xFFFF, State.reset, by decide +kernel⟩,
   ⟨1, ⟨.write, 0x100FFFFC, 4, 1⟩, 0xFFFF, State.reset, by decide +kernel⟩,
   ⟨1, 0, st [(YOKE_STAT_MODE, 3)], by decide +kernel⟩,
   ⟨1, st [(YOKE_STAT_MODE, 3)], by decide +kernel⟩,
   ⟨1, State.reset, by decide +kernel⟩,
   ⟨1, State.reset, by decide +kernel⟩,
   ⟨2, ⟨.write, 0x20000000, 4, 7⟩, 0xFFFF, st [(YOKE_STAT_MODE, 1), (YOKE_STAT_MARKED, 2)], by decide +kernel⟩,
   ⟨⟨.write, 0x20000000, 4, 7⟩, st [(YOKE_STAT_LOCKSTEP_BROKEN, 1)], by decide +kernel⟩⟩

theorem test_wit_voting_2 :
    (∃ (c : Fin 3) (t : Txn) (lag : BitVec 16) (s : State), t.kind = .write ∧ t.addr.toNat = 0x40048028 ∧ coreMay c s = true ∧ lagOk c lag.toNat s =
        true ∧ (runningCores s).contains c.val = true) ∧
    (∃ (c : Fin 3) (t : Txn) (lag : BitVec 16) (s : State), t.kind = .write ∧ t.addr.toNat = 0x40048028 ∧ coreMay c s = true ∧ lagOk c lag.toNat s =
        true ∧ (runningCores s).contains c.val = false) ∧
    (∃ (t : Txn), t.kind = .write) ∧
    (∃ (t : Txn), t.kind = .sig) ∧
    (∃ (e f : YokeCopy) (s : State), s.get YOKE_STAT_MODE = 1 ∧ s.yokeBuf = [e, f] ∧ s.get YOKE_STAT_MARKED < 3 ∧ e.core < f.core ∧ f.core < 3 ∧
        e.core ≠ s.get YOKE_STAT_MARKED ∧ f.core ≠ s.get YOKE_STAT_MARKED ∧ e.txn = f.txn) ∧
    (∃ (e f : YokeCopy) (s : State), s.get YOKE_STAT_MODE = 1 ∧ s.yokeBuf = [e, f] ∧ s.get YOKE_STAT_MARKED < 3 ∧ e.core < f.core ∧ f.core < 3 ∧
        e.core ≠ s.get YOKE_STAT_MARKED ∧ f.core ≠ s.get YOKE_STAT_MARKED ∧ e.txn ≠ f.txn) ∧
    (∃ (s : State), s.yokeBuf.length ≤ 1) ∧
    (∃ (c : Nat), c < 3) ∧
    (∃ (c kind : Nat), c < 4 ∧ kind < 8) ∧
    (∃ (s : State), s.get YOKE_STAT_MODE = 0) ∧
    (∃ (s : State), s.get YOKE_STAT_MODE ≠ 0) ∧
    (∃ (c kind cause addr : Nat) (s : State), ((raiseFault (0x0400 + cause) .ride (raiseEvent 0x018 (bufUpdate
        ((({ (disRecord c kind addr s) with yokeBuf := (disRecord c kind addr s).yokeBuf.filter (fun e => e.core != c), yokeOwed := (disRecord c kind addr s).yokeOwed.filter (fun e => e.core != c) }
            : State).set YOKE_STAT_MODE 1).set YOKE_STAT_MARKED c)))).get (yokeResyncAt c) = 0 ∨ (raiseFault (0x0400 + cause) .ride (raiseEvent
                0x018 (bufUpdate
                ((({ (disRecord c kind addr s) with yokeBuf := (disRecord c kind addr s).yokeBuf.filter (fun e => e.core != c), yokeOwed := (disRecord c kind addr s).yokeOwed.filter (fun e => e.core != c) }
                : State).set YOKE_STAT_MODE 1).set YOKE_STAT_MARKED c)))).get (yokeResyncAt c) - 1 + (raiseFault (0x0400 + cause) .ride (raiseEvent
                0x018 (bufUpdate
                ((({ (disRecord c kind addr s) with yokeBuf := (disRecord c kind addr s).yokeBuf.filter (fun e => e.core != c), yokeOwed := (disRecord c kind addr s).yokeOwed.filter (fun e => e.core != c) }
                : State).set YOKE_STAT_MODE 1).set YOKE_STAT_MARKED c)))).get YOKE_CTRL_REMARK * 20000000 ≤ (raiseFault (0x0400 + cause) .ride
                (raiseEvent 0x018 (bufUpdate
                ((({ (disRecord c kind addr s) with yokeBuf := (disRecord c kind addr s).yokeBuf.filter (fun e => e.core != c), yokeOwed := (disRecord c kind addr s).yokeOwed.filter (fun e => e.core != c) }
                : State).set YOKE_STAT_MODE 1).set YOKE_STAT_MARKED c)))).now)) :=
  ⟨⟨1, ⟨.write, 0x40048028, 4, 1⟩, 0xFFFF, State.reset, by decide +kernel⟩,
   ⟨2, ⟨.write, 0x40048028, 4, 1⟩, 0xFFFF, st [(YOKE_STAT_MODE, 1), (YOKE_STAT_MARKED, 2)], by decide +kernel⟩,
   ⟨⟨.write, 0, 4, 0⟩, by decide +kernel⟩,
   ⟨⟨.sig, 0, 4, 0⟩, by decide +kernel⟩,
   ⟨⟨0, ⟨.write, 0x20000000, 4, 7⟩, 5, none⟩, ⟨1, ⟨.write, 0x20000000, 4, 7⟩, 6, none⟩,
       { st [(YOKE_STAT_MODE, 1), (YOKE_STAT_MARKED, 2)] with yokeBuf := [⟨0, ⟨.write, 0x20000000, 4, 7⟩, 5, none⟩, ⟨1, ⟨.write, 0x20000000, 4, 7⟩, 6, none⟩] },
           by decide +kernel⟩,
   ⟨⟨0, ⟨.write, 0x20000000, 4, 7⟩, 5, none⟩, ⟨1, ⟨.write, 0x20000000, 4, 8⟩, 6, none⟩,
       { st [(YOKE_STAT_MODE, 1), (YOKE_STAT_MARKED, 2)] with yokeBuf := [⟨0, ⟨.write, 0x20000000, 4, 7⟩, 5, none⟩, ⟨1, ⟨.write, 0x20000000, 4, 8⟩, 6, none⟩] },
           by decide +kernel⟩,
   ⟨State.reset, by decide +kernel⟩,
   ⟨1, by decide +kernel⟩,
   ⟨1, 1, by decide +kernel⟩,
   ⟨State.reset, by decide +kernel⟩,
   ⟨st [(YOKE_STAT_MODE, 1)], by decide +kernel⟩,
   ⟨0, 0, 0, 0, State.reset, by decide +kernel⟩⟩

theorem test_wit_voting_3 :
    ∃ (c kind cause addr : Nat) (s : State), (raiseFault (0x0400 + cause) .ride (raiseEvent 0x018 (bufUpdate
        ((({ (disRecord c kind addr s) with yokeBuf := (disRecord c kind addr s).yokeBuf.filter (fun e => e.core != c), yokeOwed := (disRecord c kind addr s).yokeOwed.filter (fun e => e.core != c) }
            : State).set YOKE_STAT_MODE 1).set YOKE_STAT_MARKED c)))).get (yokeResyncAt c) ≠ 0 ∧ (raiseFault (0x0400 + cause) .ride (raiseEvent
                0x018 (bufUpdate
                ((({ (disRecord c kind addr s) with yokeBuf := (disRecord c kind addr s).yokeBuf.filter (fun e => e.core != c), yokeOwed := (disRecord c kind addr s).yokeOwed.filter (fun e => e.core != c) }
                : State).set YOKE_STAT_MODE 1).set YOKE_STAT_MARKED c)))).now < (raiseFault (0x0400 + cause) .ride (raiseEvent 0x018 (bufUpdate
                ((({ (disRecord c kind addr s) with yokeBuf := (disRecord c kind addr s).yokeBuf.filter (fun e => e.core != c), yokeOwed := (disRecord c kind addr s).yokeOwed.filter (fun e => e.core != c) }
                : State).set YOKE_STAT_MODE 1).set YOKE_STAT_MARKED c)))).get (yokeResyncAt c) - 1 + (raiseFault (0x0400 + cause) .ride (raiseEvent
                0x018 (bufUpdate
                ((({ (disRecord c kind addr s) with yokeBuf := (disRecord c kind addr s).yokeBuf.filter (fun e => e.core != c), yokeOwed := (disRecord c kind addr s).yokeOwed.filter (fun e => e.core != c) }
                : State).set YOKE_STAT_MODE 1).set YOKE_STAT_MARKED c)))).get YOKE_CTRL_REMARK * 20000000 :=
  ⟨1, 0, 0, 0, { st [(yokeResyncAt 1, 10)] with tbNow := 5#64 }, by decide +kernel⟩

theorem test_wit_yoke_checks :
    (∃ (e : YokeCopy) (s : State), s.get YOKE_STAT_MODE ≠ 3 ∧ s.get YOKE_STAT_LOCKSTEP_BROKEN = 0 ∧ s.yokeOwed = [e] ∧ e.since + s.get YOKE_TMO_TMO
        ≤ s.now) ∧
    (∃ (e : YokeCopy) (s : State), s.get YOKE_STAT_MODE ≠ 3 ∧ s.get YOKE_STAT_LOCKSTEP_BROKEN = 0 ∧ s.yokeOwed = [] ∧ s.yokeBuf = [e] ∧ e.since +
        s.get YOKE_TMO_TMO ≤ s.now) ∧
    (∃ (s : State), (s.get YOKE_STAT_MODE = 3 ∨ s.get YOKE_STAT_LOCKSTEP_BROKEN ≠ 0 ∨ ((∀ e ∈ s.yokeOwed, s.now < e.since + s.get YOKE_TMO_TMO) ∧ ∀
        e ∈ s.yokeBuf, s.now < e.since + s.get YOKE_TMO_TMO))) ∧
    (∃ (s : State), s.get YOKE_STAT_MODE = 0) ∧
    (∃ (c : Fin 3) (s : State), (s.get YOKE_STAT_MODE = 1 ∨ s.get YOKE_STAT_MODE = 2) ∧ s.get YOKE_STAT_MARKED ≠ c) ∧
    (∃ (c : Fin 3) (s : State), (s.get YOKE_STAT_MODE = 3 ∨ (s.get YOKE_STAT_MODE ≠ 0 ∧ s.get YOKE_STAT_MARKED = c))) ∧
    (∃ (c : Fin 3) (s : State), maySign c s = true) ∧
    (∃ (c : Fin 3) (s : State), maySign c s = false) ∧
    (∃ (c : Fin 3) (s : State), maySign c s = true ∧ s.get YOKE_STAT_MODE = 0 ∧ s.get YOKE_STAT_LOCKSTEP_BROKEN = 0 ∧ s.yokeOwed = [] ∧ s.yokeBuf =
        []) ∧
    (∃ (c : Fin 3) (d : BitVec 32) (s : State) (a at_ : Nat), maySign c s = true ∧ s.get YOKE_STAT_MODE = 0 ∧ s.get YOKE_STAT_LOCKSTEP_BROKEN = 0 ∧
        s.yokeOwed = [] ∧ a < 3 ∧ a ≠ c ∧ s.yokeBuf = [⟨a, (⟨.sig, 0x0040048028#40, 4, Config.signature (BitVec.ofNat 32 (s.get (yokeCrc c))) d⟩ :
            Txn), at_, none⟩]) ∧
    (∃ (c : Fin 3) (s : State), (runningCores s).contains c.val = true ∧ coreStops c s = false ∧ s.get yokeIntN ≤ (s.get (yokeInts c)) ∧ c.val =
        (runningCores s).headD 0 ∧ irqPending s = true) ∧
    (∃ (c : Fin 3) (s : State), (runningCores s).contains c.val = true ∧ coreStops c s = false ∧ (s.get (yokeInts c)) < s.get yokeIntN ∧ s.get
        (yokeSeq c) = s.get (yokeIntK ((s.get (yokeInts c)) % 2 ^ 18))) ∧
    (∃ (c : Fin 3) (s : State), (runningCores s).contains c.val = true ∧ coreStops c s = false ∧ s.get yokeIntN ≤ (s.get (yokeInts c)) ∧ (c.val ≠
        (runningCores s).headD 0 ∨ irqPending s = false)) ∧
    (∃ (c : Fin 3) (s : State), (runningCores s).contains c.val = true ∧ coreStops c s = false ∧ (s.get (yokeInts c)) < s.get yokeIntN ∧ s.get
        (yokeSeq c) ≠ s.get (yokeIntK ((s.get (yokeInts c)) % 2 ^ 18))) ∧
    (∃ (c : Fin 3) (s : State), ((runningCores s).contains c.val = false ∨ coreStops c s = true)) ∧
    (∃ (c : Nat) (s : State), s.get YOKE_STAT_MODE = 2 ∧ s.get yokeRsDur ≤ s.now - s.get yokeRsAt ∧ coreBehind c s = false) :=
  ⟨⟨⟨2, ⟨.write, 0x20000000, 4, 7⟩, 0, none⟩, { State.reset with tbNow := 65536#64, yokeOwed := [⟨2, ⟨.write, 0x20000000, 4, 7⟩, 0, none⟩] }, by decide +kernel⟩,
   ⟨⟨0, ⟨.write, 0x20000000, 4, 7⟩, 0, none⟩, { State.reset with tbNow := 65536#64, yokeBuf := [⟨0, ⟨.write, 0x20000000, 4, 7⟩, 0, none⟩] }, by
       decide +kernel⟩,
   ⟨st [(YOKE_STAT_MODE, 3)], by decide +kernel⟩,
   ⟨State.reset, by decide +kernel⟩,
   ⟨1, st [(YOKE_STAT_MODE, 1)], by decide +kernel⟩,
   ⟨1, st [(YOKE_STAT_MODE, 3)], by decide +kernel⟩,
   ⟨1, State.reset, by decide +kernel⟩,
   ⟨1, st [(YOKE_STAT_MODE, 3)], by decide +kernel⟩,
   ⟨1, State.reset, by decide +kernel⟩,
   ⟨1, 5,
       { State.reset with yokeBuf := [⟨0, ⟨.sig, 0x0040048028#40, 4, Config.signature (BitVec.ofNat 32 (State.reset.get (yokeCrc 1))) 5⟩, 5, none⟩] },
           0, 5, by refine ⟨by decide +kernel, by decide +kernel, by decide +kernel, rfl, by decide +kernel, by decide +kernel, rfl⟩⟩,
   ⟨0, st [(YOKE_IRQ_ID_ID, 63)], by decide +kernel⟩,
   ⟨1, st [(yokeIntN, 1)], by decide +kernel⟩,
   ⟨1, State.reset, by decide +kernel⟩,
   ⟨1, st [(yokeIntN, 1), (yokeIntK 0, 5)], by decide +kernel⟩,
   ⟨1, st [(YOKE_STAT_MODE, 3)], by decide +kernel⟩,
   ⟨1, { st [(YOKE_STAT_MODE, 2), (YOKE_STAT_MARKED, 2)] with tbNow := 20000000000#64 }, by decide +kernel⟩⟩

theorem test_wit_yoke_service :
    (∃ (s : State), s.get YOKE_CMD_STATUS ≠ stBusy ∧ resyncOk s = true) ∧
    (∃ (s : State), s.get YOKE_CMD_STATUS ≠ stBusy ∧ resyncOk s = false) ∧
    (∃ (s : State), s.get YOKE_CTRL_AUTO ≠ 0 ∧ resyncOk s = true ∧ s.getWide YOKE_DIS_TB_LO_TB YOKE_DIS_TB_HI_TB + 200000 ≤ s.now) ∧
    (∃ (s : State), (s.get YOKE_CTRL_AUTO = 0 ∨ resyncOk s = false ∨ s.now < s.getWide YOKE_DIS_TB_LO_TB YOKE_DIS_TB_HI_TB + 200000)) ∧
    (∃ (s : State), (s.get YOKE_STAT_MODE ≠ 2 ∨ resyncAge s < s.get yokeRsDur + 70 ∨ resyncDrained s = false)) ∧
    (∃ (s : State), s.get YOKE_STAT_MODE = 2 ∧ s.get yokeRsDur + 70 ≤ resyncAge s ∧ resyncDrained s = true) ∧
    (∃ (s : State), s.Inv ∧ s.get YOKE_STAT_MODE = 2 ∧ s.get yokeRsDur + 70 ≤ resyncAge s ∧ resyncDrained s = true ∧ s.get YOKE_STAT_MARKED < 3) ∧
    (∃ (s : State), s.get YOKE_STAT_MODE ≠ 2) ∧
    (∃ (s : State), s.get YOKE_STAT_MODE = 2) ∧
    (∃ (s : State), resyncAge s < s.get yokeRsDur) ∧
    (∃ (s : State), s.get yokeRsDur ≤ resyncAge s) ∧
    (∃ (v : BitVec 16) (s : State), s.get YOKE_STAT_MODE ≠ 3 ∧ v.toNat + s.get YOKE_WD_KICK_TOKEN = 65535 ∧ s.get YOKE_WD_CFG_MIN * 200 ≤ (s.now -
        s.get yokeWdAt) ∧ (s.now - s.get yokeWdAt) ≤ s.get YOKE_WD_CFG_MAX * 200) ∧
    (∃ (s : State), s.get YOKE_STAT_MODE = 3) ∧
    (∃ (v : BitVec 16) (s : State), s.get YOKE_STAT_MODE ≠ 3 ∧ (v.toNat + s.get YOKE_WD_KICK_TOKEN ≠ 65535 ∨ (s.now - s.get yokeWdAt) < s.get
        YOKE_WD_CFG_MIN * 200 ∨ s.get YOKE_WD_CFG_MAX * 200 < (s.now - s.get yokeWdAt))) ∧
    (∃ (s : State), s.get SYS_BOOT_STAGE = 7 ∧ s.get yokeWdLate = 0 ∧ s.get yokeWdAt + s.get YOKE_WD_CFG_MAX * 200 < s.now) ∧
    (∃ (s : State), (s.get SYS_BOOT_STAGE ≠ 7 ∨ s.get yokeWdLate ≠ 0 ∨ s.now ≤ s.get yokeWdAt + s.get YOKE_WD_CFG_MAX * 200)) :=
  ⟨⟨st [(YOKE_STAT_MODE, 1), (YOKE_STAT_MARKED, 2)], by decide +kernel⟩,
   ⟨State.reset, by decide +kernel⟩,
   ⟨{ st [(YOKE_CTRL_AUTO, 1), (YOKE_STAT_MODE, 1), (YOKE_STAT_MARKED, 2)] with tbNow := 20000000000#64 }, by decide +kernel⟩,
   ⟨State.reset, by decide +kernel⟩,
   ⟨State.reset, by decide +kernel⟩,
   ⟨{ st [(YOKE_STAT_MODE, 2), (yokeRsDur, 140000), (YOKE_STAT_MARKED, 2)] with tbNow := 20000000000#64 }, by decide +kernel⟩,
   ⟨{ st [(YOKE_STAT_MODE, 2), (yokeRsDur, 140000), (YOKE_STAT_MARKED, 2)] with tbNow := 20000000000#64 }, by refine ⟨⟨by decide +kernel, by
       decide +kernel, by decide +kernel, by decide +kernel, nofun⟩, by decide +kernel, by decide +kernel, by decide +kernel, by decide +kernel⟩⟩,
   ⟨State.reset, by decide +kernel⟩,
   ⟨st [(YOKE_STAT_MODE, 2)], by decide +kernel⟩,
   ⟨st [(yokeRsDur, 140000)], by decide +kernel⟩,
   ⟨State.reset, by decide +kernel⟩,
   ⟨0xFFFF, { st [(YOKE_WD_KICK_TOKEN, 0), (yokeWdAt, 0), (YOKE_WD_CFG_MIN, 0), (YOKE_WD_CFG_MAX, 9)] with tbNow := 200#64 }, by decide +kernel⟩,
   ⟨st [(YOKE_STAT_MODE, 3)], by decide +kernel⟩,
   ⟨0, State.reset, by decide +kernel⟩,
   ⟨{ st [(SYS_BOOT_STAGE, 7)] with tbNow := 20000000000#64 }, by decide +kernel⟩,
   ⟨State.reset, by decide +kernel⟩⟩

theorem test_wit_yoke_service_2 :
    (∃ (s : State), s.get YOKE_STAT_LOCKSTEP_BROKEN ≠ 0) ∧
    (∃ (s : State), s.get YOKE_STAT_LOCKSTEP_BROKEN = 0) ∧
    (∃ (s : State), s.get YOKE_STAT_MODE ≠ 2 ∧ ((∃ n < 4, switching n s = true) ∨ (∃ k < 2, s.get (AUX_Ak_CTRL_EN k) ≠ 0 ∨ s.get (AUX_Ak_STAT_DEMAND
        k) ≠ 0))) ∧
    (∃ (s : State), s.get YOKE_STAT_MODE ≠ 2 ∧ (∀ n < 4, switching n s = false) ∧ (∀ k < 2, s.get (AUX_Ak_CTRL_EN k) = 0 ∧ s.get (AUX_Ak_STAT_DEMAND
        k) = 0)) :=
  ⟨⟨st [(YOKE_STAT_LOCKSTEP_BROKEN, 1)], by decide +kernel⟩,
   ⟨State.reset, by decide +kernel⟩,
   ⟨st [(PWM_STAT_STATE 1, 2)], by decide +kernel⟩,
   ⟨State.reset, by decide +kernel⟩⟩

theorem test_wit_porter :
    (∃ (req : BitVec 8) (s : State), s.get PORTER_STAT_HOLDER = 15 ∧ bitAt (req.toNat ||| (s.get PORTER_REQ_REQ &&& 64)) 6 = true) ∧
    (∃ (req : BitVec 8) (s : State), s.get PORTER_STAT_HOLDER = 15 ∧ bitAt (req.toNat ||| (s.get PORTER_REQ_REQ &&& 64)) 6 = false ∧ (bitAt
        (req.toNat ||| (s.get PORTER_REQ_REQ &&& 64)) 7 && dueAfter porterDbgAt 100 s) = true) ∧
    (∃ (req : BitVec 8) (s : State), s.get PORTER_STAT_HOLDER = 15 ∧ bitAt (req.toNat ||| (s.get PORTER_REQ_REQ &&& 64)) 6 = false ∧ (bitAt
        (req.toNat ||| (s.get PORTER_REQ_REQ &&& 64)) 7 && dueAfter porterDbgAt 100 s) = false) ∧
    (∃ (req : BitVec 8) (s : State), s.get PORTER_STAT_HOLDER < 6 ∧ bitAt (req.toNat ||| (s.get PORTER_REQ_REQ &&& 64)) 6 = true) ∧
    (∃ (req : BitVec 8) (s : State), s.get PORTER_STAT_HOLDER < 6 ∧ bitAt (req.toNat ||| (s.get PORTER_REQ_REQ &&& 64)) 6 = false ∧ (bitAt
        (req.toNat ||| (s.get PORTER_REQ_REQ &&& 64)) 7 && dueAfter porterDbgAt 100 s) = true) ∧
    (∃ (req : BitVec 8) (s : State), s.get PORTER_STAT_HOLDER ≠ 15 ∧ (6 ≤ s.get PORTER_STAT_HOLDER ∨ (bitAt (req.toNat ||| (s.get PORTER_REQ_REQ &&&
        64)) 6 = false ∧ (bitAt (req.toNat ||| (s.get PORTER_REQ_REQ &&& 64)) 7 && dueAfter porterDbgAt 100 s) = false))) ∧
    (∃ (s : State), s.get PORTER_COMMIT_PEND = 0) ∧
    (∃ (s : State), s.get PORTER_COMMIT_PEND ≠ 0) ∧
    (∃ (l : List Nat) (s : State) (r : Nat), s.get porterNum % s.get PORTER_FAIR_N_N_ACT ≠ 0 ∧ topRanked l s = some r ∧ r < 6) ∧
    (∃ (l : List Nat) (ages : List (BitVec 32)) (s : State) (r : Nat), s.get porterNum % s.get PORTER_FAIR_N_N_ACT = 0 ∧ longestWait l ages s = some
        r ∧ r < 6) ∧
    (∃ (l : List Nat), l ≠ []) ∧
    (∃ (s : State), s.get PORTER_STAT_HOLDER = 15) ∧
    (∃ (s : State), s.get PORTER_STAT_HOLDER < 6) ∧
    (∃ (s : State), (s.get PORTER_STAT_HOLDER = 6 ∨ s.get PORTER_STAT_HOLDER = 7)) :=
  ⟨⟨0x40, st [(PORTER_STAT_HOLDER, 15)], by decide +kernel⟩,
   ⟨0x80, st [(PORTER_STAT_HOLDER, 15), (PORTER_REQ_REQ, 0), (porterDbgAt, 0)], by decide +kernel⟩,
   ⟨0, st [(PORTER_STAT_HOLDER, 15)], by decide +kernel⟩,
   ⟨0x40, st [(PORTER_STAT_HOLDER, 3)], by decide +kernel⟩,
   ⟨0x80, st [(PORTER_STAT_HOLDER, 3), (PORTER_REQ_REQ, 0), (porterDbgAt, 0)], by decide +kernel⟩,
   ⟨0, st [(PORTER_STAT_HOLDER, 6)], by decide +kernel⟩,
   ⟨State.reset, by decide +kernel⟩,
   ⟨st [(PORTER_COMMIT_PEND, 1)], by decide +kernel⟩,
   ⟨[5], st [(porterNum, 1), (PORTER_FAIR_N_N_ACT, 4)], 5, by decide +kernel⟩,
   ⟨[5], [], st [(porterNum, 4), (PORTER_FAIR_N_N_ACT, 4)], 5, by decide +kernel⟩,
   ⟨[3], by decide +kernel⟩,
   ⟨st [(PORTER_STAT_HOLDER, 15)], by decide +kernel⟩,
   ⟨st [(PORTER_STAT_HOLDER, 3)], by decide +kernel⟩,
   ⟨st [(PORTER_STAT_HOLDER, 6)], by decide +kernel⟩⟩

theorem test_wit_dram_care :
    (∃ (s : State), refreshDue s = true) ∧
    (∃ (s : State), refreshDue s = false) ∧
    (∃ (t : BitVec 16) (s : State), (s.get porterTempAt = 0 ∨ s.get porterTempAt - 1 + 200000 ≤ s.now) ∧ 1680 < t.toInt ∧ s.get PORTER_STAT_HOT = 0) ∧
    (∃ (t : BitVec 16) (s : State), (s.get porterTempAt = 0 ∨ s.get porterTempAt - 1 + 200000 ≤ s.now) ∧ t.toInt < 1600 ∧ s.get PORTER_STAT_HOT ≠ 0) ∧
    (∃ (t : BitVec 16) (s : State), (s.get porterTempAt = 0 ∨ s.get porterTempAt - 1 + 200000 ≤ s.now) ∧ (1600 ≤ t.toInt ∨ s.get PORTER_STAT_HOT =
        0) ∧ (t.toInt ≤ 1680 ∨ s.get PORTER_STAT_HOT ≠ 0)) ∧
    (∃ (s : State), (s.get porterTempAt = 0 ∨ s.get porterTempAt - 1 + 200000 ≤ s.now) ∧ s.get porterTempBad = 0) ∧
    (∃ (s : State), (s.get porterTempAt = 0 ∨ s.get porterTempAt - 1 + 200000 ≤ s.now) ∧ s.get porterTempBad ≠ 0) ∧
    (∃ (s : State), s.get porterTempAt ≠ 0 ∧ s.now < s.get porterTempAt - 1 + 200000) ∧
    (∃ (s : State), s.get PORTER_ECC_UE_VALID ≠ 0) ∧
    (∃ (s : State), s.get PORTER_ECC_UE_VALID = 0) :=
  ⟨⟨State.reset, by decide +kernel⟩,
   ⟨st [(porterRefAt, 20000000000)], by decide +kernel⟩,
   ⟨1681, { State.reset with tbNow := 20000000000#64 }, by decide +kernel⟩,
   ⟨5, { st [(PORTER_STAT_HOT, 1)] with tbNow := 20000000000#64 }, by decide +kernel⟩,
   ⟨0, { State.reset with tbNow := 20000000000#64 }, by decide +kernel⟩,
   ⟨{ State.reset with tbNow := 20000000000#64 }, by decide +kernel⟩,
   ⟨{ st [(porterTempBad, 1)] with tbNow := 20000000000#64 }, by decide +kernel⟩,
   ⟨st [(porterTempAt, 20000000000)], by decide +kernel⟩,
   ⟨st [(PORTER_ECC_UE_VALID, 1)], by decide +kernel⟩,
   ⟨State.reset, by decide +kernel⟩⟩

theorem test_wit_cellar :
    (∃ (p : Fin 3) (k : Nat) (u s : State), s.get (CELLAR_p_CMD_STATUS p) ≠ stBusy ∧ cellarAhead p s = false ∧ (∀ q < 3, s.get (cellarWait q) = 0) ∧
        cellarTake (p + 1) s = some (k, u)) ∧
    (∃ (u k : Nat) (t s : State), cellarTake u s = some (k, t)) ∧
    (∃ (p : Fin 3) (s : State), s.get (CELLAR_p_CMD_STATUS p) ≠ stBusy ∧ cellarAhead p s = false ∧ (∀ q < 3, s.get (cellarWait q) = 0) ∧ cellarTake
        (p + 1) s = none) ∧
    (∃ (p : Fin 3) (s : State), s.get (CELLAR_p_CMD_STATUS p) ≠ stBusy ∧ cellarAhead p s = false ∧ (∀ q < 3, s.get (cellarWait q) = 0) ∧ caskOwner s
        (s.get (CELLAR_p_ARG_CASK p)) ≠ p + 1) ∧
    (∃ (p : Fin 3) (s : State), s.get (CELLAR_p_CMD_STATUS p) ≠ stBusy ∧ cellarAhead p s = false ∧ (∀ q < 3, s.get (cellarWait q) = 0) ∧ caskOwner s
        (s.get (CELLAR_p_ARG_CASK p)) = p + 1) ∧
    (∃ (p : Fin 3) (s : State), s.get (CELLAR_p_CMD_STATUS p) ≠ stBusy ∧ cellarAhead p s = false ∧ (∀ q < 3, s.get (cellarWait q) = 0) ∧ caskOwner s
        (s.get (CELLAR_p_ARG_CASK p)) = p + 1 ∧ (s.get (CELLAR_p_ARG_TO p)) ∉ [1, 2, 3, 5, 11]) ∧
    (∃ (p : Fin 3) (s : State), s.get (CELLAR_p_CMD_STATUS p) ≠ stBusy ∧ cellarAhead p s = false ∧ (∀ q < 3, s.get (cellarWait q) = 0) ∧ caskOwner s
        (s.get (CELLAR_p_ARG_CASK p)) = p + 1 ∧ (s.get (CELLAR_p_ARG_TO p)) ∈ [1, 2, 3, 5, 11] ∧ (s.get (CELLAR_p_ARG_TO p)) ≠ p + 1 ∧ s.get
            (CELLAR_QUOTA_u_MAX (s.get (CELLAR_p_ARG_TO p))) ≤ s.get (CELLAR_USE_u_COUNT (s.get (CELLAR_p_ARG_TO p)))) ∧
    (∃ (p : Fin 3) (s : State), s.get (CELLAR_p_CMD_STATUS p) ≠ stBusy ∧ cellarAhead p s = false ∧ (∀ q < 3, s.get (cellarWait q) = 0) ∧ caskOwner s
        (s.get (CELLAR_p_ARG_CASK p)) = p + 1 ∧ (s.get (CELLAR_p_ARG_TO p)) ∈ [1, 2, 3, 5, 11] ∧ ((s.get (CELLAR_p_ARG_TO p)) = p + 1 ∨ s.get
            (CELLAR_USE_u_COUNT (s.get (CELLAR_p_ARG_TO p))) < s.get (CELLAR_QUOTA_u_MAX (s.get (CELLAR_p_ARG_TO p))))) ∧
    (∃ (p : Fin 3) (s : State), s.get (CELLAR_p_CMD_STATUS p) = stBusy) ∧
    (∃ (p : Fin 3) (s : State), s.get (CELLAR_p_CMD_STATUS p) ≠ stBusy ∧ cellarAhead p s = true) ∧
    (∃ (p : Fin 3) (s : State), s.get (CELLAR_p_CMD_STATUS p) ≠ stBusy ∧ cellarAhead p s = false) ∧
    (∃ (p : Nat) (s : State), p < 3 ∧ s.get (cellarWait p) ≠ 0 ∧ (∀ q < 3, q ≠ p → s.get (cellarWait q) = 0) ∧ cellarAhead p s = true) ∧
    (∃ (p : Nat) (s : State), p < 3 ∧ s.get (cellarWait p) ≠ 0 ∧ (∀ q < 3, q ≠ p → s.get (cellarWait q) = 0) ∧ cellarAhead p s = false) ∧
    (∃ (s : State), s.pending = []) ∧
    (∃ (s : State) (q : Fin 3), s.pending = [.alloc q]) ∧
    (∃ (k : Nat), k < 1024) :=
  ⟨⟨1, 0, ((cellarTake 2 (st [(CELLAR_QUOTA_u_MIN 2, 1)])).getD (0, State.reset)).2, st [(cellarWait 0, 0), (cellarWait 1, 0), (cellarWait 2, 0), (CELLAR_QUOTA_u_MIN 2, 1)], by decide +kernel⟩,
   ⟨2, 0, ((cellarTake 2 (st [(CELLAR_QUOTA_u_MIN 2, 1)])).getD (0, State.reset)).2, st [(CELLAR_QUOTA_u_MIN 2, 1)], by decide +kernel⟩,
   ⟨1, st [(cellarWait 0, 0), (cellarWait 1, 0), (cellarWait 2, 0)], by decide +kernel⟩,
   ⟨1, st [(cellarWait 0, 0), (cellarWait 1, 0), (cellarWait 2, 0)], by decide +kernel⟩,
   ⟨1, st [(cellarWait 0, 0), (cellarWait 1, 0), (cellarWait 2, 0), (CELLAR_OWNj_OWN 0, 2), (CELLAR_p_ARG_CASK 1, 0)], by decide +kernel⟩,
   ⟨1, st [(cellarWait 0, 0), (cellarWait 1, 0), (cellarWait 2, 0), (CELLAR_OWNj_OWN 0, 2), (CELLAR_p_ARG_CASK 1, 0), (CELLAR_p_ARG_TO 1, 4)], by
       decide +kernel⟩,
   ⟨1, st [(cellarWait 0, 0), (cellarWait 1, 0), (cellarWait 2, 0), (CELLAR_OWNj_OWN 0, 2), (CELLAR_p_ARG_CASK 1, 0), (CELLAR_p_ARG_TO 1, 3),
       (CELLAR_QUOTA_u_MAX 3, 0)], by decide +kernel⟩,
   ⟨1, st [(cellarWait 0, 0), (cellarWait 1, 0), (cellarWait 2, 0), (CELLAR_OWNj_OWN 0, 2), (CELLAR_p_ARG_CASK 1, 0), (CELLAR_p_ARG_TO 1, 3),
       (CELLAR_QUOTA_u_MAX 3, 5), (CELLAR_USE_u_COUNT 3, 1)], by decide +kernel⟩,
   ⟨1, st [(CELLAR_p_CMD_STATUS 1, stBusy)], by decide +kernel⟩,
   ⟨2, { State.reset with pending := [.alloc 1] }, by decide +kernel⟩,
   ⟨2, { State.reset with pending := [] }, by decide +kernel⟩,
   ⟨2, { st [(cellarWait 2, 1), (cellarWait 0, 0), (cellarWait 1, 0)] with pending := [.alloc 1] }, by decide +kernel⟩,
   ⟨2, st [(cellarWait 2, 1), (cellarWait 0, 0), (cellarWait 1, 0)], by decide +kernel⟩,
   ⟨State.reset, by decide +kernel⟩,
   ⟨{ State.reset with pending := [.alloc 1] }, 1, by decide +kernel⟩,
   ⟨1, by decide +kernel⟩⟩

theorem test_wit_cellar_2 :
    (∃ (k v : Nat) (s : State), k < 1024 ∧ v < 16 ∧ v ≠ caskOwner s k) ∧
    (∃ (k : Fin 1024) (s : State), s.get (cellarZeroing k) = 0) ∧
    (∃ (k : Fin 1024) (s : State), s.get (cellarZeroing k) ≠ 0) :=
  ⟨⟨1, 1, State.reset, by decide +kernel⟩,
   ⟨1, State.reset, by decide +kernel⟩,
   ⟨1, st [(cellarZeroing 1, 1)], by decide +kernel⟩⟩

theorem test_wit_logbook :
    (∃ (r : List Byte) (s : State), (s.getWide LOGBOOK_WR_PTR_LO_OFS LOGBOOK_WR_PTR_HI_OFS) + r.length < 2 ^ 33) ∧
    (∃ (r : List Byte) (s : State), (s.getWide LOGBOOK_WR_PTR_LO_OFS LOGBOOK_WR_PTR_HI_OFS) + r.length = ringSize s) ∧
    (∃ (s : State), (flushDue s = false ∨ s.get (logCask 0) = 0)) ∧
    (∃ (s : State), flushDue s = true ∧ s.get (logCask 0) ≠ 0) ∧
    (∃ (s : State), (s.get logTimeAt = 0 ∨ s.get logTimeAt - 1 + 200000 ≤ s.now)) ∧
    (∃ (s : State), s.get logTimeAt ≠ 0 ∧ s.now < s.get logTimeAt - 1 + 200000) ∧
    (∃ (s : State), s.get LOGBOOK_CTRL_EN = 0) ∧
    (∃ (n c : Fin 4) (x : List (BitVec 16)) (s : State), bitAt (s.get LOGBOOK_CTRL_STREAM) (4 * n.val + c.val) = true ∧ s.get (strTrig (4 * n.val +
        c.val)) ≠ 0 ∧ (x.length + 1) ≤ 122) ∧
    (∃ (n c : Fin 4) (x : List (BitVec 16)) (s : State), bitAt (s.get LOGBOOK_CTRL_STREAM) (4 * n.val + c.val) = true ∧ s.get (strTrig (4 * n.val +
        c.val)) = 0 ∧ (x.length + 1) = 122 ∧ s.get (SENSE_Cc_STAT_OUT n c) = 0 ∧ s.get (SENSE_CTRL_EN n) ≠ 0) ∧
    (∃ (n c : Fin 4) (x : List (BitVec 16)) (s : State), (bitAt (s.get LOGBOOK_CTRL_STREAM) (4 * n.val + c.val) = false ∨ 122 < (x.length + 1) ∨
        (s.get (strTrig (4 * n.val + c.val)) = 0 ∧ ((x.length + 1) ≠ 122 ∨ s.get (SENSE_Cc_STAT_OUT n c) ≠ 0 ∨ s.get (SENSE_CTRL_EN n) = 0)))) ∧
    (∃ (n c t : Nat) (s : State), (s.get (senTrigAt n)) ≤ t + 20 ∧ t ≤ (s.get (senTrigAt n)) + 18 ∧ s.get (senHeld n c) = 0) ∧
    (∃ (n c t : Nat) (s : State), (s.get (senTrigAt n)) ≤ t + 20 ∧ t ≤ (s.get (senTrigAt n)) + 18 ∧ s.get (senHeld n c) ≠ 0) ∧
    (∃ (n t : Nat) (s : State), (t + 20 < (s.get (senTrigAt n)) ∨ (s.get (senTrigAt n)) + 18 < t) ∧ (s.get (senTrigPrev n)) ≤ t + 20 ∧ t ≤ (s.get
        (senTrigPrev n)) + 18) ∧
    (∃ (n t : Nat) (s : State), (t + 20 < (s.get (senTrigAt n)) ∨ (s.get (senTrigAt n)) + 18 < t) ∧ (t + 20 < (s.get (senTrigPrev n)) ∨ (s.get
        (senTrigPrev n)) + 18 < t)) ∧
    (∃ (s : State), s.get LOGBOOK_CMD_STATUS ≠ stBusy ∧ s.get LOGBOOK_STAT_STATE = 1) ∧
    (∃ (s : State), s.get LOGBOOK_CMD_STATUS ≠ stBusy ∧ s.get LOGBOOK_STAT_STATE ≠ 1) :=
  ⟨⟨[], State.reset, by decide +kernel⟩,
   ⟨[], State.reset, by decide +kernel⟩,
   ⟨State.reset, by decide +kernel⟩,
   ⟨st [(logCask 0, 1), (logFill 0, 4096)], by decide +kernel⟩,
   ⟨{ State.reset with tbNow := 20000000000#64 }, by decide +kernel⟩,
   ⟨st [(logTimeAt, 1)], by decide +kernel⟩,
   ⟨State.reset, by decide +kernel⟩,
   ⟨1, 1, [7], st [(strTrig (4 * 1 + 1), 1), (LOGBOOK_CTRL_STREAM, 32), (strTrig 5, 1)], by decide +kernel⟩,
   ⟨1, 1, List.replicate 121 7, st [(SENSE_CTRL_EN 1, 1), (LOGBOOK_CTRL_STREAM, 32)], by decide +kernel⟩,
   ⟨1, 1, [], State.reset, by decide +kernel⟩,
   ⟨0, 0, 10, State.reset, by decide +kernel⟩,
   ⟨1, 1, 100, st [(senHeld 1 1, 1), (senTrigAt 1, 100)], by decide +kernel⟩,
   ⟨1, 100, st [(senTrigPrev 1, 100), (senTrigAt 1, 500)], by decide +kernel⟩,
   ⟨0, 100, State.reset, by decide +kernel⟩,
   ⟨st [(LOGBOOK_STAT_STATE, 1)], by decide +kernel⟩,
   ⟨State.reset, by decide +kernel⟩⟩

theorem test_wit_logbook_2 :
    (∃ (s : State), s.get LOGBOOK_CMD_STATUS ≠ stBusy ∧ s.get LOGBOOK_STAT_STATE ≠ 3) ∧
    (∃ (s : State), s.get LOGBOOK_CMD_STATUS ≠ stBusy ∧ s.get LOGBOOK_STAT_STATE = 3) ∧
    (∃ (s : State), s.get logDefKind = 0) ∧
    (∃ (s : State), s.get logDefKind ≠ 0) ∧
    (∃ (s : State), (s.get LOGBOOK_STAT_STATE = 1 ∨ s.get LOGBOOK_STAT_STATE = 2)) ∧
    (∃ (s : State), s.get LOGBOOK_STAT_STATE = 0) ∧
    (∃ (s : State), s.get logTrigPend = 0) ∧
    (∃ (s : State), s.get logTrigPend ≠ 0) ∧
    (∃ (kind code : Nat) (s : State), 0 < kind ∧ kind < 5 ∧ code < 65536 ∧ s.get LOGBOOK_STAT_STATE = 1) ∧
    (∃ (kind code : Nat) (s : State), 0 < kind ∧ kind < 5 ∧ code < 65536 ∧ (s.get LOGBOOK_STAT_STATE = 2 ∨ (s.get LOGBOOK_STAT_STATE = 3 ∧ armWaits
        s = false))) ∧
    (∃ (kind code : Nat) (s : State), 0 < kind ∧ kind < 5 ∧ code < 65536 ∧ s.get LOGBOOK_STAT_STATE = 3 ∧ armWaits s = true ∧ s.get logDefKind = 0) ∧
    (∃ (kind code : Nat) (s : State), 0 < kind ∧ kind < 5 ∧ code < 65536 ∧ s.get LOGBOOK_STAT_STATE = 3 ∧ armWaits s = true ∧ s.get logDefKind ≠ 0) ∧
    (∃ (kind code : Nat) (s : State), 0 < kind ∧ kind < 5 ∧ code < 65536 ∧ s.get LOGBOOK_STAT_STATE = 0) ∧
    (∃ (s : State), s.get LOGBOOK_STAT_STATE = 2 ∧ (s.getWide LOGBOOK_TRIG_TB_LO_TB LOGBOOK_TRIG_TB_HI_TB + s.get LOGBOOK_POST_MS * 200000) ≤ s.now) ∧
    (∃ (s : State), (s.get LOGBOOK_STAT_STATE ≠ 2 ∨ s.now < (s.getWide LOGBOOK_TRIG_TB_LO_TB LOGBOOK_TRIG_TB_HI_TB + s.get LOGBOOK_POST_MS *
        200000))) :=
  ⟨⟨State.reset, by decide +kernel⟩,
   ⟨st [(LOGBOOK_STAT_STATE, 3)], by decide +kernel⟩,
   ⟨State.reset, by decide +kernel⟩,
   ⟨st [(logDefKind, 1)], by decide +kernel⟩,
   ⟨st [(LOGBOOK_STAT_STATE, 1)], by decide +kernel⟩,
   ⟨State.reset, by decide +kernel⟩,
   ⟨State.reset, by decide +kernel⟩,
   ⟨st [(logTrigPend, 1)], by decide +kernel⟩,
   ⟨2, 1, { st [(LOGBOOK_STAT_STATE, 1)] with pending := [.logbookArm] }, by decide +kernel⟩,
   ⟨2, 1, { st [(LOGBOOK_STAT_STATE, 2)] with pending := [.logbookArm] }, by decide +kernel⟩,
   ⟨2, 1, { st [(LOGBOOK_STAT_STATE, 3)] with pending := [.logbookArm] }, by decide +kernel⟩,
   ⟨2, 1, { st [(LOGBOOK_STAT_STATE, 3), (logDefKind, 1)] with pending := [.logbookArm] }, by decide +kernel⟩,
   ⟨2, 1, { State.reset with pending := [.logbookArm] }, by decide +kernel⟩,
   ⟨{ st [(LOGBOOK_STAT_STATE, 2)] with tbNow := 20000000000#64 }, by decide +kernel⟩,
   ⟨{ State.reset with tbNow := 20000000000#64 }, by decide +kernel⟩⟩

theorem test_wit_ledger_counting :
    (∃ (k : Nat) (l : List Int), k < 24 ∧ l.length ≤ 16 ∧ (∀ x ∈ l, -32768 ≤ x ∧ x < 32768)) ∧
    (∃ (a b : Int), (a - b).natAbs < 32) ∧
    (∃ (a b : Int), 32 ≤ (a - b).natAbs) ∧
    (∃ (a b c d : Int), (b - c).natAbs ≤ (a - b).natAbs ∧ (b - c).natAbs ≤ (c - d).natAbs) ∧
    (∃ (n d e : Nat) (s : State), n < 4 ∧ d < 2 ∧ s.get (ledEFrac n d) < 2 ^ 40 ∧ (fun s : State => s.getWide (LEDGER_LIVE_w_W (14 + 2 * d + 4 * n))
        (LEDGER_LIVE_w_W (15 + 2 * d + 4 * n)) * 2 ^ 40 + s.get (ledEFrac n d)) s + e < 2 ^ 104) ∧
    (∃ (s : State), (s.get rfAt = 0 ∨ s.get rfAt - 1 + 200000 ≤ s.now)) ∧
    (∃ (s : State), s.get rfAt ≠ 0 ∧ s.now < s.get rfAt - 1 + 200000) ∧
    (∃ (k : Nat) (s : State), s.get (rfDir k) = 0) ∧
    (∃ (k : Nat) (x : Int) (s : State), s.get (rfDir k) = 1 ∧ (s.geti (rfExt k)) < x) ∧
    (∃ (k : Nat) (x : Int) (s : State), s.get (rfDir k) = 2 ∧ x < (s.geti (rfExt k))) ∧
    (∃ (k : Nat) (x : Int) (s : State), (s.get (rfDir k) = 1 ∨ s.get (rfDir k) = 3) ∧ x + 16 ≤ (s.geti (rfExt k))) ∧
    (∃ (k : Nat) (x : Int) (s : State), (s.get (rfDir k) = 2 ∨ s.get (rfDir k) = 3) ∧ (s.geti (rfExt k)) + 16 ≤ x) ∧
    (∃ (k : Nat) (x : Int) (s : State), s.get (rfDir k) = 1 ∧ x ≤ (s.geti (rfExt k)) ∧ (s.geti (rfExt k)) < x + 16) ∧
    (∃ (k : Nat) (x : Int) (s : State), s.get (rfDir k) = 2 ∧ (s.geti (rfExt k)) ≤ x ∧ x < (s.geti (rfExt k)) + 16) ∧
    (∃ (k : Nat) (x : Int) (s : State), s.get (rfDir k) = 3 ∧ x < (s.geti (rfExt k)) + 16 ∧ (s.geti (rfExt k)) < x + 16) :=
  ⟨⟨1, [], by decide +kernel⟩,
   ⟨0, 0, by decide +kernel⟩,
   ⟨40, 0, by decide +kernel⟩,
   ⟨0, 0, 0, 0, by decide +kernel⟩,
   ⟨1, 1, 0, State.reset, by decide +kernel⟩,
   ⟨{ State.reset with tbNow := 20000000000#64 }, by decide +kernel⟩,
   ⟨st [(rfAt, 1)], by decide +kernel⟩,
   ⟨0, State.reset, by decide +kernel⟩,
   ⟨0, 1, st [(rfDir 0, 1)], by decide +kernel⟩,
   ⟨0, -1, st [(rfDir 0, 2)], by decide +kernel⟩,
   ⟨0, -16, st [(rfDir 0, 1)], by decide +kernel⟩,
   ⟨0, 16, st [(rfDir 0, 2)], by decide +kernel⟩,
   ⟨0, 0, st [(rfDir 0, 1)], by decide +kernel⟩,
   ⟨0, 0, st [(rfDir 0, 2)], by decide +kernel⟩,
   ⟨0, 0, st [(rfDir 0, 3)], by decide +kernel⟩⟩

theorem test_wit_ledger_commits :
    (∃ (s : State), (s.get TB_STATUS_LANTERN ≠ 0 ∨ s.get resetHeld ≠ 0 ∨ s.now % 200000000 ≠ 0 ∨ s.get ledSecAt = s.now + 1)) ∧
    (∃ (s : State), s.get TB_STATUS_LANTERN = 0 ∧ s.get resetHeld = 0 ∧ s.now % 200000000 = 0 ∧ s.get ledSecAt ≠ s.now + 1 ∧ s.get
        LEDGER_STAT_LOADED = 0) ∧
    (∃ (s : State), s.get TB_STATUS_LANTERN = 0 ∧ s.get resetHeld = 0 ∧ s.now % 200000000 = 0 ∧ s.get ledSecAt ≠ s.now + 1 ∧ s.get
        LEDGER_STAT_LOADED ≠ 0 ∧ s.get ledKind ≠ 0) ∧
    (∃ (s : State), s.get TB_STATUS_LANTERN = 0 ∧ s.get resetHeld = 0 ∧ s.now % 200000000 = 0 ∧ s.get ledSecAt ≠ s.now + 1 ∧ s.get
        LEDGER_STAT_LOADED ≠ 0 ∧ s.get ledKind = 0) ∧
    (∃ (s : State), s.get LEDGER_CMD_STATUS ≠ stBusy ∧ s.get ledKind = 0 ∧ s.get LEDGER_STAT_LOADED ≠ 0) ∧
    (∃ (s : State), s.get LEDGER_CMD_STATUS ≠ stBusy ∧ (s.get ledKind ≠ 0 ∨ s.get LEDGER_STAT_LOADED = 0)) ∧
    (∃ (s : State), s.get LEDGER_CMD_STATUS = stBusy) ∧
    (∃ (kind : Nat), kind < 5) ∧
    (∃ (s : State), s.ledSnap.length = 1024) ∧
    (∃ (s : State), s.get ledKind ≠ 0 ∧ s.get ledAt + 220200 ≤ s.now) ∧
    (∃ (good : Bool) (s : State), (s.get ledKind = 0 ∨ s.now < s.get ledAt + (if good then 220200 else 220000))) ∧
    (∃ (s : State), s.get ledKind ≠ 0 ∧ s.get ledAt + 220000 ≤ s.now ∧ s.get ledTry = 0 ∧ s.get ledKind ≠ 3) ∧
    (∃ (s : State), s.get ledKind ≠ 0 ∧ s.get ledAt + 220000 ≤ s.now ∧ (s.get ledTry ≠ 0 ∨ s.get ledKind = 3)) ∧
    (∃ (s : State), s.get LEDGER_STAT_LOADED ≠ 0) ∧
    (∃ (s : State), s.get LEDGER_STAT_LOADED = 0) ∧
    (∃ (s : State) (l : List Nat) (k : Nat), k ∈ ledNewest s 64 l) :=
  ⟨⟨st [(TB_STATUS_LANTERN, 1)], by decide +kernel⟩,
   ⟨State.reset, by decide +kernel⟩,
   ⟨st [(LEDGER_STAT_LOADED, 1), (ledKind, 1)], by decide +kernel⟩,
   ⟨st [(LEDGER_STAT_LOADED, 1)], by decide +kernel⟩,
   ⟨st [(LEDGER_STAT_LOADED, 1)], by decide +kernel⟩,
   ⟨st [(ledKind, 1)], by decide +kernel⟩,
   ⟨st [(LEDGER_CMD_STATUS, stBusy)], by decide +kernel⟩,
   ⟨1, by decide +kernel⟩,
   ⟨{ State.reset with ledSnap := List.replicate 1024 0 }, by decide +kernel⟩,
   ⟨{ st [(ledKind, 1)] with tbNow := 20000000000#64 }, by decide +kernel⟩,
   ⟨true, State.reset, by decide +kernel⟩,
   ⟨{ st [(ledKind, 1)] with tbNow := 20000000000#64 }, by decide +kernel⟩,
   ⟨{ st [(ledKind, 1), (ledTry, 1)] with tbNow := 20000000000#64 }, by decide +kernel⟩,
   ⟨st [(LEDGER_STAT_LOADED, 1)], by decide +kernel⟩,
   ⟨State.reset, by decide +kernel⟩,
   ⟨State.reset, [0], 0, by decide +kernel⟩⟩

theorem test_wit_can_control :
    (∃ (k : Fin 4) (s : State), s.get (CAN_CTRL_EN k) ≠ 0) ∧
    (∃ (k : Fin 4) (s : State), s.get (CAN_CTRL_EN k) = 0 ∧ cellarTakeN (7 + k) (s.get (CAN_RXQ_CFG_CASKS k)) s = none) ∧
    (∃ (k : Fin 4) (s : State) (l : List Nat) (u : State), s.get (CAN_CTRL_EN k) = 0 ∧ cellarTakeN (7 + k) (s.get (CAN_RXQ_CFG_CASKS k)) s = some
        (l, u)) ∧
    (∃ (k : Fin 4) (s : State), s.get (CAN_CTRL_EN k) = 0) ∧
    (∃ (k : Fin 4) (s : State), s.get (CAN_STAT_STATE k) ≠ 2 ∧ s.get (CAN_STAT_STATE k) ≠ 3) ∧
    (∃ (k : Fin 4) (s : State), (s.get (CAN_STAT_STATE k) = 2 ∨ s.get (CAN_STAT_STATE k) = 3) ∧ s.get (CAN_CTRL_LISTEN k) ≠ 0) ∧
    (∃ (k : Fin 4) (s : State), (s.get (CAN_STAT_STATE k) = 2 ∨ s.get (CAN_STAT_STATE k) = 3) ∧ s.get (CAN_CTRL_LISTEN k) = 0) ∧
    (∃ (k : Fin 4) (s : State), (s.get (CAN_STAT_STATE k) ≠ 1 ∨ canBitsPassed k 11 s = false)) ∧
    (∃ (k : Fin 4) (s : State), s.get (CAN_STAT_STATE k) = 1 ∧ canBitsPassed k 11 s = true) ∧
    (∃ (k v : Nat) (s : State), s.get (CAN_STAT_STATE k) = v) ∧
    (∃ (k v : Nat) (s : State), s.get (CAN_STAT_STATE k) ≠ v ∧ v = 3) ∧
    (∃ (k v : Nat) (s : State), s.get (CAN_STAT_STATE k) ≠ v ∧ v = 4) ∧
    (∃ (k v : Nat) (s : State), s.get (CAN_STAT_STATE k) ≠ v ∧ v ≠ 3 ∧ v ≠ 4) ∧
    (∃ (k : Fin 4) (s : State), s.get (CAN_CMD_STATUS k) ≠ stBusy ∧ s.get (CAN_STAT_STATE k) ≠ 4) ∧
    (∃ (k : Fin 4) (s : State), s.get (CAN_CMD_STATUS k) ≠ stBusy ∧ s.get (CAN_STAT_STATE k) = 4) ∧
    (∃ (k : Fin 4) (s : State), (s.get (CAN_STAT_STATE k) ≠ 5 ∨ canBitsPassed k 1408 s = false)) :=
  ⟨⟨1, st [(CAN_CTRL_EN 1, 1)], by decide +kernel⟩,
   ⟨1, State.reset, by decide +kernel⟩,
   ⟨1, st [(CAN_RXQ_CFG_CASKS 1, 1), (CELLAR_QUOTA_u_MIN 8, 1)], ((cellarTakeN 8 1 (st [(CAN_RXQ_CFG_CASKS 1, 1), (CELLAR_QUOTA_u_MIN 8, 1)])).getD
       ([], State.reset)).1, ((cellarTakeN 8 1 (st [(CAN_RXQ_CFG_CASKS 1, 1), (CELLAR_QUOTA_u_MIN 8, 1)])).getD ([], State.reset)).2, by
           decide +kernel⟩,
   ⟨1, State.reset, by decide +kernel⟩,
   ⟨1, State.reset, by decide +kernel⟩,
   ⟨1, st [(CAN_STAT_STATE 1, 2), (CAN_CTRL_LISTEN 1, 1)], by decide +kernel⟩,
   ⟨1, st [(CAN_STAT_STATE 1, 2)], by decide +kernel⟩,
   ⟨1, State.reset, by decide +kernel⟩,
   ⟨1, { st [(CAN_STAT_STATE 1, 1)] with tbNow := 20000000000#64 }, by decide +kernel⟩,
   ⟨0, 0, State.reset, by decide +kernel⟩,
   ⟨0, 3, State.reset, by decide +kernel⟩,
   ⟨0, 4, State.reset, by decide +kernel⟩,
   ⟨0, 1, State.reset, by decide +kernel⟩,
   ⟨1, State.reset, by decide +kernel⟩,
   ⟨1, st [(CAN_STAT_STATE 1, 4)], by decide +kernel⟩,
   ⟨1, State.reset, by decide +kernel⟩⟩

theorem test_wit_can_control_2 :
    (∃ (k : Fin 4) (s : State), s.get (CAN_STAT_STATE k) = 5 ∧ canBitsPassed k 1408 s = true) ∧
    (∃ (k : Fin 4) (s : State), (s.get (CAN_CTRL_FD_EN k) = 0 ∨ (s.get (CAN_STAT_STATE k) ≠ 2 ∧ s.get (CAN_STAT_STATE k) ≠ 3))) ∧
    (∃ (k : Fin 4) (s : State), s.get (CAN_CTRL_FD_EN k) ≠ 0 ∧ (s.get (CAN_STAT_STATE k) = 2 ∨ s.get (CAN_STAT_STATE k) = 3)) ∧
    (∃ (k : Fin 4) (s : State), s.get (CAN_CTRL_EN k) ≠ 0 ∧ (s.get (canDomAt k) = 0 ∨ s.get (canDomAt k) - 1 + 200000 ≤ s.now)) ∧
    (∃ (k : Fin 4) (s : State), (s.get (CAN_CTRL_EN k) = 0 ∨ (s.get (canDomAt k) ≠ 0 ∧ s.now < s.get (canDomAt k) - 1 + 200000))) ∧
    (∃ (k : Fin 4) (s : State), s.get (CAN_CMD_STATUS k) = stBusy) :=
  ⟨⟨1, { st [(CAN_STAT_STATE 1, 5)] with tbNow := 20000000000#64 }, by decide +kernel⟩,
   ⟨1, State.reset, by decide +kernel⟩,
   ⟨1, st [(CAN_CTRL_FD_EN 1, 1), (CAN_STAT_STATE 1, 2)], by decide +kernel⟩,
   ⟨1, { st [(CAN_CTRL_EN 1, 1)] with tbNow := 20000000000#64 }, by decide +kernel⟩,
   ⟨1, State.reset, by decide +kernel⟩,
   ⟨1, st [(CAN_CMD_STATUS 1, stBusy)], by decide +kernel⟩⟩

theorem test_wit_can_frames :
    (∃ (k : Fin 4) (s : State), s.get (CAN_CMD_STATUS k) ≠ stBusy ∧ pushOk k s = false) ∧
    (∃ (k : Fin 4) (s : State), s.get (CAN_CMD_STATUS k) ≠ stBusy ∧ pushOk k s = true) ∧
    (∃ (k : Fin 4) (s : State), s.get (CAN_CMD_STATUS k) ≠ stBusy) ∧
    (∃ (k : Fin 4) (s : State), s.get (CAN_CMD_STATUS k) = stBusy) ∧
    (∃ (k : Fin 4) (s : State), (canQueue k s = [] ∨ (s.get (CAN_STAT_STATE k) ≠ 2 ∧ s.get (CAN_STAT_STATE k) ≠ 3))) ∧
    (∃ (k : Fin 4) (s : State) (f : CanTx) (r : List CanTx), canQueue k s = f :: r ∧ (s.get (CAN_STAT_STATE k) = 2 ∨ s.get (CAN_STAT_STATE k) = 3)) ∧
    (∃ (k : Fin 4) (flags : BitVec 8) (data : List Byte) (s : State), data.length ≤ 64 ∧ (¬ ((s.get (CAN_STAT_STATE k) = 2 ∨ s.get (CAN_STAT_STATE
        k) = 3) ∧ ¬ (bitAt flags.toNat 3 = true ∧ s.get (CAN_CTRL_FD_EN k) = 0) ∧ (bitAt flags.toNat 2 = true → s.get (CAN_CTRL_SELF_RX k) ≠ 0))) ∧
            ((s.get (CAN_STAT_STATE k) = 2 ∨ s.get (CAN_STAT_STATE k) = 3) → (bitAt flags.toNat 3 = true ∧ s.get (CAN_CTRL_FD_EN k) = 0) → bitAt
                flags.toNat 2 = true)) ∧
    (∃ (k : Fin 4) (flags : BitVec 8) (data : List Byte) (s : State), data.length ≤ 64 ∧ (s.get (CAN_STAT_STATE k) = 2 ∨ s.get (CAN_STAT_STATE k) =
        3) ∧ (bitAt flags.toNat 3 = true ∧ s.get (CAN_CTRL_FD_EN k) = 0) ∧ bitAt flags.toNat 2 = false) ∧
    (∃ (k : Fin 4) (flags : BitVec 8) (data : List Byte) (s : State), data.length ≤ 64 ∧ ((s.get (CAN_STAT_STATE k) = 2 ∨ s.get (CAN_STAT_STATE k) =
        3) ∧ ¬ (bitAt flags.toNat 3 = true ∧ s.get (CAN_CTRL_FD_EN k) = 0) ∧ (bitAt flags.toNat 2 = true → s.get (CAN_CTRL_SELF_RX k) ≠ 0)) ∧ (32 *
            s.get (CAN_RXQ_CFG_CASKS k)) ≤ s.get (CAN_RXQ_FILL_FILL k)) ∧
    (∃ (k : Fin 4) (flags : BitVec 8) (data : List Byte) (s : State), data.length ≤ 64 ∧ ((s.get (CAN_STAT_STATE k) = 2 ∨ s.get (CAN_STAT_STATE k) =
        3) ∧ ¬ (bitAt flags.toNat 3 = true ∧ s.get (CAN_CTRL_FD_EN k) = 0) ∧ (bitAt flags.toNat 2 = true → s.get (CAN_CTRL_SELF_RX k) ≠ 0)) ∧ s.get
            (CAN_RXQ_FILL_FILL k) < (32 * s.get (CAN_RXQ_CFG_CASKS k)) ∧ (32 * s.get (CAN_RXQ_CFG_CASKS k)) ≤ 1024) ∧
    (∃ (k : Fin 4) (v : BitVec 10) (s : State), v.toNat < (32 * s.get (CAN_RXQ_CFG_CASKS k)) ∧ ((v.toNat + (32 * s.get (CAN_RXQ_CFG_CASKS k)) -
        s.get (CAN_RXQ_TAIL_TAIL k)) % (32 * s.get (CAN_RXQ_CFG_CASKS k))) ≤ s.get (CAN_RXQ_FILL_FILL k)) ∧
    (∃ (k : Fin 4) (v : BitVec 10) (s : State), ((32 * s.get (CAN_RXQ_CFG_CASKS k)) ≤ v.toNat ∨ s.get (CAN_RXQ_FILL_FILL k) < ((v.toNat + (32 *
        s.get (CAN_RXQ_CFG_CASKS k)) - s.get (CAN_RXQ_TAIL_TAIL k)) % (32 * s.get (CAN_RXQ_CFG_CASKS k))))) ∧
    (∃ (k : Fin 4) (v : BitVec 4) (s : State), ((v.toNat + 16 - s.get (CAN_TXR_TAIL_TAIL k)) % 16) ≤ s.get (canTxrN k)) ∧
    (∃ (k : Fin 4) (v : BitVec 4) (s : State), s.get (canTxrN k) < ((v.toNat + 16 - s.get (CAN_TXR_TAIL_TAIL k)) % 16)) :=
  ⟨⟨1, State.reset, by decide +kernel⟩,
   ⟨1, st [(CAN_STAT_STATE 1, 3), (CAN_CTRL_EN 1, 1)], by decide +kernel⟩,
   ⟨1, State.reset, by decide +kernel⟩,
   ⟨1, st [(CAN_CMD_STATUS 1, stBusy)], by decide +kernel⟩,
   ⟨1, State.reset, by decide +kernel⟩,
   ⟨1, { st [(CAN_STAT_STATE 1, 2)] with canTx := [⟨0, 1, 0, []⟩, ⟨1, 5, 0, [1, 2]⟩] }, ⟨1, 5, 0, [1, 2]⟩, [], by decide +kernel⟩,
   ⟨1, 0, [], State.reset, by decide +kernel⟩,
   ⟨1, 8, [], st [(CAN_STAT_STATE 1, 2)], by decide +kernel⟩,
   ⟨1, 0, [], st [(CAN_STAT_STATE 1, 2), (CAN_RXQ_FILL_FILL 1, 500)], by decide +kernel⟩,
   ⟨1, 0, [], st [(CAN_STAT_STATE 1, 2), (CAN_RXQ_CFG_CASKS 1, 1)], by decide +kernel⟩,
   ⟨1, 1, st [(CAN_RXQ_CFG_CASKS 1, 1), (CAN_RXQ_FILL_FILL 1, 2)], by decide +kernel⟩,
   ⟨1, 900, State.reset, by decide +kernel⟩,
   ⟨1, 1, st [(canTxrN 1, 3)], by decide +kernel⟩,
   ⟨1, 5, State.reset, by decide +kernel⟩⟩

theorem test_wit_eth_frames :
    (∃ (p : Fin 2) (s : State), (s.get (ETH_Pp_CTRL_EN (p.val + 1)) = 0 ∨ s.get (ETH_Pp_STAT_LINK (p.val + 1)) = 0)) ∧
    (∃ (p : Fin 2) (b : List Byte) (fcs : BitVec 32) (s : State), s.get (ETH_Pp_CTRL_EN (p.val + 1)) ≠ 0 ∧ s.get (ETH_Pp_STAT_LINK (p.val + 1)) ≠ 0
        ∧ (macPasses b fcs.toNat = false ∨ etherType b = 0x8808)) ∧
    (∃ (p : Fin 2) (b : List Byte) (fcs : BitVec 32) (s : State), s.get (ETH_Pp_CTRL_EN (p.val + 1)) ≠ 0 ∧ s.get (ETH_Pp_STAT_LINK (p.val + 1)) ≠ 0
        ∧ macPasses b fcs.toNat = true ∧ etherType b = 0x88F7) ∧
    (∃ (p : Fin 2) (b : List Byte) (fcs : BitVec 32) (s : State), s.get (ETH_Pp_CTRL_EN (p.val + 1)) ≠ 0 ∧ s.get (ETH_Pp_STAT_LINK (p.val + 1)) ≠ 0
        ∧ macPasses b fcs.toNat = true ∧ etherType b ≠ 0x8808 ∧ etherType b ≠ 0x88F7) ∧
    (∃ (p : Nat) (s : State), (s.get (ETH_Pp_STAT_LINK p) = 0 ∨ cellarTake 5 s = none)) ∧
    (∃ (p : Nat) (s : State) (k : Nat) (u : State), s.get (ETH_Pp_STAT_LINK p) ≠ 0 ∧ cellarTake 5 s = some (k, u)) ∧
    (∃ (b : List Byte), etherType b = 0x88F7) ∧
    (∃ (b : List Byte) (q : Nat) (s : State), (q = 1 ∨ q = 2) ∧ etherType b ≠ 0x88F7 ∧ fdbPorts b q s = none) ∧
    (∃ (s : State), (s.ethRx = [] ∨ s.get ETH_RXR_CFG_N ≤ s.get ethRxFill)) ∧
    (∃ (s : State) (f : EthRx) (r : List EthRx), s.ethRx = f :: r ∧ s.get ethRxFill < s.get ETH_RXR_CFG_N ∧ s.get ETH_RXR_CFG_N ≤ 4096) ∧
    (∃ (v : BitVec 12) (s : State), v.toNat < (s.get ETH_RXR_CFG_N) ∧ ((v.toNat + (s.get ETH_RXR_CFG_N) - s.get ETH_RXR_TAIL_TAIL) % (s.get
        ETH_RXR_CFG_N)) ≤ s.get ethRxFill) ∧
    (∃ (v : BitVec 12) (s : State), ((s.get ETH_RXR_CFG_N) ≤ v.toNat ∨ s.get ethRxFill < ((v.toNat + (s.get ETH_RXR_CFG_N) - s.get
        ETH_RXR_TAIL_TAIL) % (s.get ETH_RXR_CFG_N)))) ∧
    (∃ (v : BitVec 12) (s : State), s.get ETH_TXR_CFG_N ≤ v.toNat) ∧
    (∃ (v : BitVec 12) (s : State), v.toNat < s.get ETH_TXR_CFG_N) ∧
    (∃ (ps : List Nat) (s : State), cellarTakeN 5 ((ps.filter (fun p => s.get (ETH_Pp_STAT_LINK p) ≠ 0)).length) s = none) ∧
    (∃ (s : State), ((ofBytes (txRead (txBuffer (s.get ETH_TXR_HEAD_HEAD) s) 4 s)) % 2048 < 60 ∨ 1518 < (ofBytes (txRead (txBuffer (s.get
        ETH_TXR_HEAD_HEAD) s) 4 s)) % 2048)) :=
  ⟨⟨1, State.reset, by decide +kernel⟩,
   ⟨1, [], 0, st [(ETH_Pp_CTRL_EN (1 + 1), 1), (ETH_Pp_STAT_LINK (1 + 1), 1), (ETH_Pp_CTRL_EN 2, 1), (ETH_Pp_STAT_LINK 2, 1)], by decide +kernel⟩,
   ⟨1, (List.replicate 12 0 ++ [0x88, 0xF7] ++ List.replicate 46 0 : List Byte), BitVec.ofNat 32 (crc32 (List.replicate 12 0 ++ [0x88, 0xF7] ++
       List.replicate 46 0 : List Byte)), st [(ETH_Pp_CTRL_EN (1 + 1), 1), (ETH_Pp_STAT_LINK (1 + 1), 1), (ETH_Pp_CTRL_EN 2, 1), (ETH_Pp_STAT_LINK
           2, 1)], by decide +kernel⟩,
   ⟨1, (List.replicate 12 0 ++ [0x08, 0] ++ List.replicate 46 0 : List Byte), BitVec.ofNat 32 (crc32 (List.replicate 12 0 ++ [0x08, 0] ++
       List.replicate 46 0 : List Byte)), st [(ETH_Pp_CTRL_EN (1 + 1), 1), (ETH_Pp_STAT_LINK (1 + 1), 1), (ETH_Pp_CTRL_EN 2, 1), (ETH_Pp_STAT_LINK
           2, 1)], by decide +kernel⟩,
   ⟨0, State.reset, by decide +kernel⟩,
   ⟨1, st [(ETH_Pp_STAT_LINK 1, 1), (CELLAR_QUOTA_u_MIN 5, 1)], 0, ((cellarTake 5 (st [(ETH_Pp_STAT_LINK 1, 1), (CELLAR_QUOTA_u_MIN 5, 1)])).getD
       (0, State.reset)).2, by decide +kernel⟩,
   ⟨(List.replicate 12 0 ++ [0x88, 0xF7] ++ List.replicate 46 0 : List Byte), by decide +kernel⟩,
   ⟨[], 2, State.reset, by decide +kernel⟩,
   ⟨State.reset, by decide +kernel⟩,
   ⟨{ st [(ETH_RXR_CFG_N, 1)] with ethRx := [⟨1, [3], [7], 5⟩] }, ⟨1, [3], [7], 5⟩, [], by decide +kernel⟩,
   ⟨1, st [(ETH_RXR_CFG_N, 2), (ethRxFill, 1)], by decide +kernel⟩,
   ⟨4000, State.reset, by decide +kernel⟩,
   ⟨4000, State.reset, by decide +kernel⟩,
   ⟨8, st [(ETH_TXR_CFG_N, 16)], by decide +kernel⟩,
   ⟨[1], st [(ETH_Pp_STAT_LINK 1, 1)], by decide +kernel⟩,
   ⟨State.reset, by decide +kernel⟩⟩

theorem test_wit_eth_frames_2 :
    (∃ (s : State), 60 ≤ (ofBytes (txRead (txBuffer (s.get ETH_TXR_HEAD_HEAD) s) 4 s)) % 2048 ∧ (ofBytes (txRead (txBuffer (s.get ETH_TXR_HEAD_HEAD)
        s) 4 s)) % 2048 ≤ 1518) ∧
    (∃ (p : Fin 2) (s : State), (s.get (ETH_Pp_CTRL_EN (p.val + 1)) = 0 ∨ s.get (ETH_Pp_STAT_LINK (p.val + 1)) = 0 ∨ s.now < s.get (ethTxEnd (p.val
        + 1)) ∨ txPick (p.val + 1) s = none)) ∧
    (∃ (p : Fin 2) (s : State) (f : EthTx), s.get (ETH_Pp_CTRL_EN (p.val + 1)) ≠ 0 ∧ s.get (ETH_Pp_STAT_LINK (p.val + 1)) ≠ 0 ∧ s.get (ethTxEnd
        (p.val + 1)) ≤ s.now ∧ txPick (p.val + 1) s = some f) ∧
    (∃ (p : Fin 2) (s : State) (f : EthTx), txPick (p.val + 1) s = some f) ∧
    (∃ (p : Fin 2) (s : State) (f : EthTx) (c : Nat) (g : EthTx), txPick (p.val + 1) s = some f ∧ f.cls < c ∧ c < 8 ∧ classHead (p.val + 1) c s =
        some g) ∧
    (∃ (p : Fin 2) (up : Bool) (s : State), s.get (ETH_Pp_STAT_LINK (p.val + 1)) = up.toNat) ∧
    (∃ (p : Fin 2) (up : Bool) (s : State), up = true ∧ s.get (ETH_Pp_STAT_LINK (p.val + 1)) = 0) ∧
    (∃ (p : Fin 2) (up : Bool) (s : State), up = false ∧ s.get (ETH_Pp_STAT_LINK (p.val + 1)) ≠ 0) :=
  ⟨⟨(st [(PORTER_PART_LOG, 0), (PORTER_PART_YWIN, 0), (ETH_TXR_BASE_HI_ADDR, 1)]).putWords 0x100000000 [64], by decide +kernel⟩,
   ⟨1, State.reset, by decide +kernel⟩,
   ⟨1, { st [(ETH_Pp_CTRL_EN (1 + 1), 1), (ETH_Pp_STAT_LINK (1 + 1), 1), (ETH_Pp_CTRL_EN 2, 1), (ETH_Pp_STAT_LINK 2, 1)] with ethTx := [⟨1, 7, 0, [8], [2], 0⟩, ⟨2, 3, 0, [9], [1], 0⟩] },
       ⟨2, 3, 0, [9], [1], 0⟩, by decide +kernel⟩,
   ⟨1, { st [(ETH_Pp_CTRL_EN 2, 1), (ETH_Pp_STAT_LINK 2, 1)] with ethTx := [⟨1, 7, 0, [8], [2], 0⟩, ⟨2, 3, 0, [9], [1], 0⟩] }, ⟨2, 3, 0, [9], [1],
       0⟩, by decide +kernel⟩,
   ⟨1, { st [(ETH_Pp_CTRL_EN 2, 1), (ETH_Pp_STAT_LINK 2, 1), (ETH_Pp_GCL_STAT_OPER 2, 1), (ETH_Pp_GCLOP_j_E 2 0, 0x8000000)] with ethTx := [⟨2, 7, 0, [8], [2], 0⟩, ⟨2, 3, 0, [9], [1], 0⟩] },
       ⟨2, 3, 0, [9], [1], 0⟩, 7, ⟨2, 7, 0, [8], [2], 0⟩, by decide +kernel⟩,
   ⟨1, true, st [(ETH_Pp_STAT_LINK (1 + 1), true.toNat)], by decide +kernel⟩,
   ⟨1, true, State.reset, by decide +kernel⟩,
   ⟨1, false, st [(ETH_Pp_STAT_LINK (1 + 1), 1), (ETH_Pp_STAT_LINK 2, 1)], by decide +kernel⟩⟩

theorem test_wit_eth_time_and_gates :
    (∃ (p : Fin 2) (s : State), (asSlave s ≠ some (p.val + 1) ∨ portUp (p.val + 1) s = false)) ∧
    (∃ (p : Fin 2) (s : State), asSlave s = some (p.val + 1) ∧ portUp (p.val + 1) s = true ∧ asTime s < 2 ^ 96) ∧
    (∃ (s : State), ((asSlave s = none ∧ s.get ETH_AS_STAT_SYNCED = 0) ∨ s.now < s.get asSyncAt + 3 * syncTicks s)) ∧
    (∃ (s : State), (asSlave s ≠ none ∨ s.get ETH_AS_STAT_SYNCED ≠ 0) ∧ s.get asSyncAt + 3 * syncTicks s ≤ s.now) ∧
    (∃ (s : State), s.get asTxAt ≠ 0 ∧ s.now < s.get asTxAt - 1 + syncTicks s) ∧
    (∃ (s : State), (s.get asTxAt = 0 ∨ s.get asTxAt - 1 + syncTicks s ≤ s.now)) ∧
    (∃ (s : State), asSlave s = none) ∧
    (∃ (s : State), asSlave s ≠ none) ∧
    (∃ (b : Bool) (s : State), s.flag ETH_AS_STAT_SYNCED = b) ∧
    (∃ (b : Bool) (s : State), s.flag ETH_AS_STAT_SYNCED ≠ b ∧ b = true) ∧
    (∃ (b : Bool) (s : State), s.flag ETH_AS_STAT_SYNCED ≠ b ∧ b = false) ∧
    (∃ (p : Fin 2) (s : State), (s.get (ETH_Pp_CTRL_AS_ROLE (p.val + 1)) = 0 ∨ portUp (p.val + 1) s = false)) ∧
    (∃ (p : Fin 2) (s : State), s.get (ETH_Pp_CTRL_AS_ROLE (p.val + 1)) ≠ 0 ∧ portUp (p.val + 1) s = true) ∧
    (∃ (s : State), asSlave s = none ∧ calNs s < 2 ^ 96) ∧
    (∃ (p : Fin 2) (s : State), s.get (ETH_Pp_GCL_CMD_STATUS (p.val + 1)) ≠ stBusy ∧ (¬ ((s.get ETH_AS_STAT_SYNCED ≠ 0 ∨ s.get ETH_AS_CFG_GM ≠ 0) ∧
        s.get (ETH_Pp_GCL_STAT_PEND (p.val + 1)) = 0))) ∧
    (∃ (p : Fin 2) (s : State), s.get (ETH_Pp_GCL_CMD_STATUS (p.val + 1)) ≠ stBusy ∧ ((s.get ETH_AS_STAT_SYNCED ≠ 0 ∨ s.get ETH_AS_CFG_GM ≠ 0) ∧
        s.get (ETH_Pp_GCL_STAT_PEND (p.val + 1)) = 0)) :=
  ⟨⟨1, State.reset, by decide +kernel⟩,
   ⟨1, st [(ETH_Pp_CTRL_AS_ROLE 2, 2), (ETH_Pp_CTRL_EN 2, 1), (ETH_Pp_STAT_LINK 2, 1)], by decide +kernel⟩,
   ⟨State.reset, by decide +kernel⟩,
   ⟨{ st [(ETH_Pp_CTRL_AS_ROLE 1, 2)] with tbNow := 20000000000#64 }, by decide +kernel⟩,
   ⟨st [(asTxAt, 20000000000)], by decide +kernel⟩,
   ⟨{ State.reset with tbNow := 20000000000#64 }, by decide +kernel⟩,
   ⟨State.reset, by decide +kernel⟩,
   ⟨st [(ETH_Pp_CTRL_AS_ROLE 1, 2)], by decide +kernel⟩,
   ⟨false, State.reset, by decide +kernel⟩,
   ⟨true, State.reset, by decide +kernel⟩,
   ⟨false, st [(ETH_AS_STAT_SYNCED, 1)], by decide +kernel⟩,
   ⟨1, State.reset, by decide +kernel⟩,
   ⟨1, st [(ETH_Pp_CTRL_AS_ROLE (1 + 1), 1), (ETH_Pp_CTRL_AS_ROLE 2, 1), (ETH_Pp_CTRL_EN 2, 1), (ETH_Pp_STAT_LINK 2, 1)], by decide +kernel⟩,
   ⟨State.reset, by decide +kernel⟩,
   ⟨1, State.reset, by decide +kernel⟩,
   ⟨1, st [(ETH_AS_CFG_GM, 1)], by decide +kernel⟩⟩

theorem test_wit_eth_time_and_gates_2 :
    (∃ (q : Nat) (s : State), asTime s < (gclBase q s)) ∧
    (∃ (q : Nat) (s : State), (gclBase q s) ≤ asTime s ∧ 0 < (s.get (ETH_Pp_GCL_CYCLE_NS q))) ∧
    (∃ (p : Fin 2) (s : State), (¬ (s.get (ETH_Pp_GCL_STAT_PEND (p.val + 1)) ≠ 0 ∧ s.get (gclAt (p.val + 1)) ≤ asTime s))) ∧
    (∃ (p : Fin 2) (s : State), (s.get (ETH_Pp_GCL_STAT_PEND (p.val + 1)) ≠ 0 ∧ s.get (gclAt (p.val + 1)) ≤ asTime s)) ∧
    (∃ (p : Fin 2) (s : State), (s.get (ETH_Pp_GCL_STAT_OPER (p.val + 1)) ≠ 0 ∧ s.get (gclEnd (p.val + 1)) ≤ asTime s) ∧ s.get (gclCycle (p.val +
        1)) ≤ (s.get (gclEnd (p.val + 1)) - s.get (gclCycleAt (p.val + 1)))) ∧
    (∃ (p : Fin 2) (s : State), (s.get (ETH_Pp_GCL_STAT_OPER (p.val + 1)) ≠ 0 ∧ s.get (gclEnd (p.val + 1)) ≤ asTime s) ∧ (s.get (gclEnd (p.val + 1))
        - s.get (gclCycleAt (p.val + 1))) < s.get (gclCycle (p.val + 1))) ∧
    (∃ (p : Fin 2) (s : State), s.get (ETH_Pp_GCL_CMD_STATUS (p.val + 1)) ≠ stBusy) ∧
    (∃ (p : Fin 2) (s : State), s.get (ETH_Pp_GCL_CMD_STATUS (p.val + 1)) = stBusy) ∧
    (∃ (p : Nat) (s : State), s.get (ETH_Pp_GCL_STAT_OPER p) = 0) ∧
    (∃ (p : Nat) (s : State), s.get (ETH_Pp_GCL_STAT_OPER p) ≠ 0) ∧
    (∃ (p : Nat) (s : State), asTime s < s.get (gclAt p)) ∧
    (∃ (p : Nat) (s : State), s.get (gclAt p) ≤ asTime s) :=
  ⟨⟨1, st [(ETH_Pp_GCL_BASE_NS_NS 1, 1)], by decide +kernel⟩,
   ⟨0, State.reset, by decide +kernel⟩,
   ⟨1, State.reset, by decide +kernel⟩,
   ⟨1, { st [(ETH_Pp_GCL_STAT_PEND (1 + 1), 1), (ETH_Pp_GCL_STAT_PEND 2, 1), (gclAt 2, 5)] with tbNow := 20000000000#64 }, by decide +kernel⟩,
   ⟨1, { st [(ETH_Pp_GCL_STAT_OPER (1 + 1), 1), (ETH_Pp_GCL_STAT_OPER 2, 1), (gclEnd 2, 5)] with tbNow := 20000000000#64 }, by decide +kernel⟩,
   ⟨1, { st [(ETH_Pp_GCL_STAT_OPER (1 + 1), 1), (ETH_Pp_GCL_STAT_OPER 2, 1), (gclEnd 2, 5), (gclCycle 2, 100)] with tbNow := 20000000000#64 }, by
       decide +kernel⟩,
   ⟨1, State.reset, by decide +kernel⟩,
   ⟨1, st [(ETH_Pp_GCL_CMD_STATUS (1 + 1), stBusy)], by decide +kernel⟩,
   ⟨0, State.reset, by decide +kernel⟩,
   ⟨0, st [(ETH_Pp_GCL_STAT_OPER 0, 1)], by decide +kernel⟩,
   ⟨0, st [(gclAt 0, 20000000000)], by decide +kernel⟩,
   ⟨0, State.reset, by decide +kernel⟩⟩

theorem test_wit_authorisation :
    (∃ (s : State), s.get AUTH_CMD_STATUS ≠ stBusy) ∧
    (∃ (s : State), s.get AUTH_CMD_STATUS = stBusy) ∧
    (∃ (s : State), s.get AUTH_STAT_LOCKED ≠ 0) ∧
    (∃ (s : State), s.get AUTH_STAT_LOCKED = 0 ∧ s.get authBad ≠ 0) ∧
    (∃ (s : State), s.get AUTH_STAT_LOCKED = 0 ∧ s.get authBad = 0 ∧ keyState (s.get AUTH_CFG_SLOT) s ≠ 1) ∧
    (∃ (s : State), s.get AUTH_STAT_LOCKED = 0 ∧ s.get authBad = 0 ∧ keyState (s.get AUTH_CFG_SLOT) s = 1 ∧ authTagOk s = false) ∧
    (∃ (s : State), s.get AUTH_STAT_LOCKED = 0 ∧ s.get authBad = 0 ∧ keyState (s.get AUTH_CFG_SLOT) s = 1 ∧ authTagOk s = true ∧ (authType s = 0 ∨ 3
        < authType s ∨ authByte1 s ≠ 0)) ∧
    (∃ (s : State), s.get AUTH_STAT_LOCKED = 0 ∧ s.get authBad = 0 ∧ keyState (s.get AUTH_CFG_SLOT) s = 1 ∧ authTagOk s = true ∧ 1 ≤ authType s ∧
        authType s ≤ 3 ∧ authByte1 s = 0 ∧ authVid s ≠ s.get AUTH_VID_VID) ∧
    (∃ (s : State), s.get AUTH_STAT_LOCKED = 0 ∧ s.get authBad = 0 ∧ keyState (s.get AUTH_CFG_SLOT) s = 1 ∧ authTagOk s = true ∧ 1 ≤ authType s ∧
        authType s ≤ 3 ∧ authByte1 s = 0 ∧ authVid s = s.get AUTH_VID_VID ∧ authFresh s ≤ s.get AUTH_FRESH_CTR) ∧
    (∃ (s : State), s.get AUTH_STAT_LOCKED = 0 ∧ s.get authBad = 0 ∧ keyState (s.get AUTH_CFG_SLOT) s = 1 ∧ authTagOk s = true ∧ 1 ≤ authType s ∧
        authType s ≤ 3 ∧ authByte1 s = 0 ∧ authVid s = s.get AUTH_VID_VID ∧ s.get AUTH_FRESH_CTR < authFresh s ∧ ((authType s = 2 ∧ (authBooking s ≠
            s.get AUTH_BOOKING_ID ∨ s.get AUTH_STAT_STATE = 0)) ∨ (authType s = 3 ∧ authBooking s ≠ 0 ∧ authBooking s ≠ s.get AUTH_BOOKING_ID))) ∧
    (∃ (s : State), s.get AUTH_STAT_LOCKED = 0 ∧ s.get authBad = 0 ∧ keyState (s.get AUTH_CFG_SLOT) s = 1 ∧ authTagOk s = true ∧ 1 ≤ authType s ∧
        authType s ≤ 3 ∧ authByte1 s = 0 ∧ authVid s = s.get AUTH_VID_VID ∧ s.get AUTH_FRESH_CTR < authFresh s ∧ (¬ ((authType s = 2 ∧ (authBooking
            s ≠ s.get AUTH_BOOKING_ID ∨ s.get AUTH_STAT_STATE = 0)) ∨ (authType s = 3 ∧ authBooking s ≠ 0 ∧ authBooking s ≠ s.get AUTH_BOOKING_ID)))
                ∧ authType s ≠ 3 ∧ authValidity s = 0) ∧
    (∃ (s : State), s.get AUTH_STAT_LOCKED = 0 ∧ s.get authBad = 0 ∧ keyState (s.get AUTH_CFG_SLOT) s = 1 ∧ authTagOk s = true ∧ 1 ≤ authType s ∧
        authType s ≤ 3 ∧ authByte1 s = 0 ∧ authVid s = s.get AUTH_VID_VID ∧ s.get AUTH_FRESH_CTR < authFresh s ∧ (¬ ((authType s = 2 ∧ (authBooking
            s ≠ s.get AUTH_BOOKING_ID ∨ s.get AUTH_STAT_STATE = 0)) ∨ (authType s = 3 ∧ authBooking s ≠ 0 ∧ authBooking s ≠ s.get AUTH_BOOKING_ID)))
                ∧ (authType s = 3 ∨ authValidity s ≠ 0)) ∧
    (∃ (s : State), s.get AUTH_CMD_STATUS = stBusy ∧ s.get authReason = 0) ∧
    (∃ (s : State), s.get AUTH_CMD_STATUS = stBusy ∧ s.get authReason ≠ 0) ∧
    (∃ (s : State), s.get AUTH_STAT_LOCKED ≠ 0 ∧ s.get authLockAt + 200000000 ≤ s.now) ∧
    (∃ (s : State), (s.get AUTH_STAT_LOCKED = 0 ∨ s.now < s.get authLockAt + 200000000)) :=
  ⟨⟨State.reset, by decide +kernel⟩,
   ⟨st [(AUTH_CMD_STATUS, stBusy)], by decide +kernel⟩,
   ⟨st [(AUTH_STAT_LOCKED, 1)], by decide +kernel⟩,
   ⟨st [(authBad, 1)], by decide +kernel⟩,
   ⟨State.reset, by decide +kernel⟩,
   ⟨(((((((st [(AUTH_STAT_LOCKED, 0), (authBad, 0), (keyType 0, 1), (AUTH_CFG_SLOT, 0)]).set (authSnap 0) 1).set (authSnap 1) 0).set (authSnap 2)
       0).set (authSnap 3) 0).set (authSnap 4) (ofBytesBE ((aesCmac (List.replicate 16 0) ([1, 0, 0, 0].flatMap (toBytesBE 4))).take 4))).set
           (authSnap 5) (ofBytesBE (((aesCmac (List.replicate 16 0) ([1, 0, 0, 0].flatMap (toBytesBE 4))).drop 4).take 4))).set (authSnap 0) 2, by
               decide +kernel⟩,
   ⟨((((((st [(AUTH_STAT_LOCKED, 0), (authBad, 0), (keyType 0, 1), (AUTH_CFG_SLOT, 0)]).set (authSnap 0) 0).set (authSnap 1) 0).set (authSnap 2)
       0).set (authSnap 3) 0).set (authSnap 4) (ofBytesBE ((aesCmac (List.replicate 16 0) ([0, 0, 0, 0].flatMap (toBytesBE 4))).take 4))).set
           (authSnap 5) (ofBytesBE (((aesCmac (List.replicate 16 0) ([0, 0, 0, 0].flatMap (toBytesBE 4))).drop 4).take 4)), by decide +kernel⟩,
   ⟨((((((st [(AUTH_STAT_LOCKED, 0), (authBad, 0), (keyType 0, 1), (AUTH_CFG_SLOT, 0), (AUTH_VID_VID, 5)]).set (authSnap 0) 0x01000000).set
       (authSnap 1) 0x50000).set (authSnap 2) 5).set (authSnap 3) 4).set (authSnap 4) (ofBytesBE ((aesCmac (List.replicate 16 0) ([0x01000000,
           0x50000, 5, 4].flatMap (toBytesBE 4))).take 4))).set (authSnap 5) (ofBytesBE (((aesCmac (List.replicate 16 0) ([0x01000000, 0x50000, 5,
               4].flatMap (toBytesBE 4))).drop 4).take 4)), by decide +kernel⟩,
   ⟨((((((st [(AUTH_STAT_LOCKED, 0), (authBad, 0), (keyType 0, 1), (AUTH_CFG_SLOT, 0), (AUTH_VID_VID, 4), (AUTH_FRESH_CTR, 9)]).set (authSnap 0)
       0x01000000).set (authSnap 1) 0x50000).set (authSnap 2) 5).set (authSnap 3) 4).set (authSnap 4) (ofBytesBE ((aesCmac (List.replicate 16 0)
           ([0x01000000, 0x50000, 5, 4].flatMap (toBytesBE 4))).take 4))).set (authSnap 5) (ofBytesBE (((aesCmac (List.replicate 16 0) ([0x01000000,
               0x50000, 5, 4].flatMap (toBytesBE 4))).drop 4).take 4)), by decide +kernel⟩,
   ⟨((((((st [(AUTH_STAT_LOCKED, 0), (authBad, 0), (keyType 0, 1), (AUTH_CFG_SLOT, 0), (AUTH_VID_VID, 4), (AUTH_BOOKING_ID, 7)]).set (authSnap 0)
       0x02000000).set (authSnap 1) 0x50000).set (authSnap 2) 5).set (authSnap 3) 4).set (authSnap 4) (ofBytesBE ((aesCmac (List.replicate 16 0)
           ([0x02000000, 0x50000, 5, 4].flatMap (toBytesBE 4))).take 4))).set (authSnap 5) (ofBytesBE (((aesCmac (List.replicate 16 0) ([0x02000000,
               0x50000, 5, 4].flatMap (toBytesBE 4))).drop 4).take 4)), by decide +kernel⟩,
   ⟨((((((st [(AUTH_STAT_LOCKED, 0), (authBad, 0), (keyType 0, 1), (AUTH_CFG_SLOT, 0), (AUTH_VID_VID, 4)]).set (authSnap 0) 0x01000000).set
       (authSnap 1) 0x50000).set (authSnap 2) 0).set (authSnap 3) 4).set (authSnap 4) (ofBytesBE ((aesCmac (List.replicate 16 0) ([0x01000000,
           0x50000, 0, 4].flatMap (toBytesBE 4))).take 4))).set (authSnap 5) (ofBytesBE (((aesCmac (List.replicate 16 0) ([0x01000000, 0x50000, 0,
               4].flatMap (toBytesBE 4))).drop 4).take 4)), by decide +kernel⟩,
   ⟨((((((st [(AUTH_STAT_LOCKED, 0), (authBad, 0), (keyType 0, 1), (AUTH_CFG_SLOT, 0), (AUTH_VID_VID, 4)]).set (authSnap 0) 0x01000000).set
       (authSnap 1) 0x50000).set (authSnap 2) 5).set (authSnap 3) 4).set (authSnap 4) (ofBytesBE ((aesCmac (List.replicate 16 0) ([0x01000000,
           0x50000, 5, 4].flatMap (toBytesBE 4))).take 4))).set (authSnap 5) (ofBytesBE (((aesCmac (List.replicate 16 0) ([0x01000000, 0x50000, 5,
               4].flatMap (toBytesBE 4))).drop 4).take 4)), by decide +kernel⟩,
   ⟨st [(AUTH_CMD_STATUS, stBusy)], by decide +kernel⟩,
   ⟨st [(AUTH_CMD_STATUS, stBusy), (authReason, 1)], by decide +kernel⟩,
   ⟨{ st [(AUTH_STAT_LOCKED, 1)] with tbNow := 20000000000#64 }, by decide +kernel⟩,
   ⟨State.reset, by decide +kernel⟩⟩

theorem test_wit_authorisation_2 :
    (∃ (s : State), s.get AUTH_STAT_STATE = 1 ∧ 0 < s.get AUTH_REMAIN_S ∧ s.get authSecAt + 200000000 ≤ s.now) ∧
    (∃ (s : State), (s.get AUTH_STAT_STATE ≠ 1 ∨ s.get AUTH_REMAIN_S = 0 ∨ s.now < s.get authSecAt + 200000000)) ∧
    (∃ (s : State), (s.get AUTH_STAT_STATE ≠ 1 ∨ s.get AUTH_REMAIN_S ≠ 0)) ∧
    (∃ (s : State), s.get AUTH_STAT_STATE = 1 ∧ s.get AUTH_REMAIN_S = 0) ∧
    (∃ (s : State), (authEngages s = false ∨ acceptWaits s = true)) ∧
    (∃ (s : State), authEngages s = true ∧ acceptWaits s = false) ∧
    (∃ (s : State), s.get AUTH_CMD_STATUS = stBusy ∧ s.get authAt + 4000 ≤ s.now) ∧
    (∃ (s : State), (s.get AUTH_CMD_STATUS ≠ stBusy ∨ s.now < s.get authAt + 4000)) :=
  ⟨⟨{ st [(AUTH_STAT_STATE, 1), (AUTH_REMAIN_S, 1)] with tbNow := 20000000000#64 }, by decide +kernel⟩,
   ⟨State.reset, by decide +kernel⟩,
   ⟨State.reset, by decide +kernel⟩,
   ⟨st [(AUTH_STAT_STATE, 1)], by decide +kernel⟩,
   ⟨st [(AUTH_STAT_STATE, 1)], by decide +kernel⟩,
   ⟨st [(AUTH_STAT_STATE, 0), (AUTH_STAT_INHIBIT, 0), (AUTH_CFG_MASK, 0)], by decide +kernel⟩,
   ⟨{ st [(AUTH_CMD_STATUS, stBusy)] with tbNow := 20000000000#64 }, by decide +kernel⟩,
   ⟨State.reset, by decide +kernel⟩⟩

theorem test_wit_image_writes :
    (∃ (s : State), s.get CONFIG_CMD_STATUS ≠ stBusy ∧ writeReason s ≠ 0) ∧
    (∃ (s : State), s.get CONFIG_CMD_STATUS ≠ stBusy ∧ writeReason s = 0) ∧
    (∃ (s : State), s.get CONFIG_CMD_STATUS = stBusy) ∧
    (∃ (s : State), s.get CONFIG_STAT_RUN_SLOT = s.get CONFIG_ARG_TARGET) ∧
    (∃ (s : State), writeReason s = 0) ∧
    (∃ (s : State), (s.get CONFIG_CMD_STATUS ≠ stBusy ∨ s.get CONFIG_CMD_CODE ≠ 1)) ∧
    (∃ (row : Option (BitVec 28 × Byte)) (s : State), s.get CONFIG_CMD_STATUS = stBusy ∧ s.get CONFIG_CMD_CODE = 1 ∧ row = none) ∧
    (∃ (row : Option (BitVec 28 × Byte)) (s : State) (o : BitVec 28) (b : Byte), s.get CONFIG_CMD_STATUS = stBusy ∧ s.get CONFIG_CMD_CODE = 1 ∧ row
        = some (o, b)) ∧
    (∃ (k : Nat) (s : State), (cfgCatch k s).get CONFIG_CMD_STATUS = stBusy) ∧
    (∃ (k : Nat) (s : State), (cfgCatch k s).get CONFIG_CMD_STATUS ≠ stBusy) ∧
    (∃ (s : State), s.get CONFIG_CMD_STATUS = stBusy ∧ s.get CONFIG_CMD_CODE = 1 ∧ (s.get cfgStepAt + (cfgBounds s).1) ≤ s.now) ∧
    (∃ (s : State), s.get CONFIG_CMD_STATUS = stBusy ∧ s.get CONFIG_CMD_CODE = 2 ∧ (s.get cfgStepAt + (cfgBounds s).1) ≤ s.now) ∧
    (∃ (s : State), (s.now < (s.get cfgStepAt + (cfgBounds s).1) ∨ cfgRuns s = false)) ∧
    (∃ (s : State), s.get CONFIG_CMD_CODE = 1 ∧ s.get CONFIG_STAT_PHASE = 1) ∧
    (∃ (s : State), s.get CONFIG_CMD_CODE = 1 ∧ s.get CONFIG_STAT_PHASE = 2) ∧
    (∃ (s : State), s.get CONFIG_CMD_CODE = 1 ∧ s.get CONFIG_STAT_PHASE = 3) :=
  ⟨⟨State.reset, by decide +kernel⟩,
   ⟨st [(CONFIG_STAT_RUN_SLOT, 1), (CONFIG_ARG_TARGET, 0), (CONFIG_LEN_LEN, 8192), (CONFIG_SRC_HI_ADDR, 2), (CONFIG_DOMAIN_SRC, 0x155)], by
       decide +kernel⟩,
   ⟨st [(CONFIG_CMD_STATUS, stBusy)], by decide +kernel⟩,
   ⟨st [(CONFIG_STAT_RUN_SLOT, 1), (CONFIG_ARG_TARGET, 1)], by decide +kernel⟩,
   ⟨st [(CONFIG_STAT_RUN_SLOT, 1), (CONFIG_ARG_TARGET, 0), (CONFIG_LEN_LEN, 8192), (CONFIG_SRC_HI_ADDR, 2), (CONFIG_DOMAIN_SRC, 0x155)], by
       decide +kernel⟩,
   ⟨State.reset, by decide +kernel⟩,
   ⟨none, st [(CONFIG_CMD_STATUS, stBusy), (CONFIG_CMD_CODE, 1)], by decide +kernel⟩,
   ⟨some (5, 7), st [(CONFIG_CMD_STATUS, stBusy), (CONFIG_CMD_CODE, 1)], 5, 7, by decide +kernel⟩,
   ⟨2, st [(CONFIG_CMD_STATUS, stBusy)], by decide +kernel⟩,
   ⟨0, State.reset, by decide +kernel⟩,
   ⟨{ st [(CONFIG_CMD_STATUS, stBusy), (CONFIG_CMD_CODE, 1)] with tbNow := 20000000000#64 }, by decide +kernel⟩,
   ⟨{ st [(CONFIG_CMD_STATUS, stBusy), (CONFIG_CMD_CODE, 2)] with tbNow := 20000000000#64 }, by decide +kernel⟩,
   ⟨State.reset, by decide +kernel⟩,
   ⟨st [(CONFIG_CMD_CODE, 1), (CONFIG_STAT_PHASE, 1)], by decide +kernel⟩,
   ⟨st [(CONFIG_CMD_CODE, 1), (CONFIG_STAT_PHASE, 2)], by decide +kernel⟩,
   ⟨st [(CONFIG_CMD_CODE, 1), (CONFIG_STAT_PHASE, 3)], by decide +kernel⟩⟩

theorem test_wit_image_writes_2 :
    (∃ (s : State), s.get CONFIG_CMD_CODE = 1 ∧ s.get CONFIG_STAT_PHASE = 4) ∧
    (∃ (s : State), s.get CONFIG_CMD_CODE = 1 ∧ s.get CONFIG_STAT_PHASE = 5) ∧
    (∃ (s : State), s.get CONFIG_CMD_CODE = 1 ∧ s.get CONFIG_STAT_PHASE = 6) ∧
    (∃ (s : State), s.get CONFIG_STAT_PHASE = 1) ∧
    (∃ (s : State), s.get CONFIG_STAT_PHASE = 2 ∧ (rowPut (s.get cfgRow) s).get cfgLen ≤ 4096 * (rowPut (s.get cfgRow) s).get cfgRow) ∧
    (∃ (s : State), s.get CONFIG_STAT_PHASE = 2 ∧ 4096 * (rowPut (s.get cfgRow) s).get cfgRow < (rowPut (s.get cfgRow) s).get cfgLen) ∧
    (∃ (s : State), s.get CONFIG_STAT_PHASE = 3) ∧
    (∃ (s : State), s.get CONFIG_STAT_PHASE = 4) ∧
    (∃ (s : State), s.get CONFIG_STAT_PHASE = 5) ∧
    (∃ (s : State), s.get CONFIG_STAT_PHASE = 6) ∧
    (∃ (s : State), s.get CONFIG_CMD_STATUS = stBusy ∧ s.get CONFIG_CMD_CODE = 1 ∧ s.get CONFIG_STAT_PHASE = 5 ∧ s.get cfgStepAt + 200 ≤ s.now) ∧
    (∃ (s : State), s.get CONFIG_CMD_STATUS = stBusy ∧ s.get CONFIG_CMD_CODE = 1 ∧ s.get CONFIG_STAT_PHASE = 3 ∧ s.get cfgStepAt + s.get cfgLen / 2
        ≤ s.now ∧ (writeErr (s.set cfgStepAt (s.get cfgStepAt + s.get cfgLen / 2))) ≠ 0 ∧ (writeErr (s.set cfgStepAt (s.get cfgStepAt + s.get cfgLen
            / 2))) < 64) ∧
    (∃ (o : Nat) (s : State), ((cfgCatch (if s.get CONFIG_STAT_PHASE = 1 then o / 4096 + 1 else o / 4096 - s.get cfgRow) s).get CONFIG_STAT_PHASE ≠
        2 ∨ (cfgCatch (if s.get CONFIG_STAT_PHASE = 1 then o / 4096 + 1 else o / 4096 - s.get cfgRow) s).get cfgRow ≠ o / 4096 ∨ (cfgCatch (if s.get
            CONFIG_STAT_PHASE = 1 then o / 4096 + 1 else o / 4096 - s.get cfgRow) s).get cfgLen ≤ o)) ∧
    (∃ (o : Nat) (s : State), (cfgCatch (if s.get CONFIG_STAT_PHASE = 1 then o / 4096 + 1 else o / 4096 - s.get cfgRow) s).get CONFIG_STAT_PHASE = 2
        ∧ (cfgCatch (if s.get CONFIG_STAT_PHASE = 1 then o / 4096 + 1 else o / 4096 - s.get cfgRow) s).get cfgRow = o / 4096 ∧ o < (cfgCatch (if
            s.get CONFIG_STAT_PHASE = 1 then o / 4096 + 1 else o / 4096 - s.get cfgRow) s).get cfgLen) ∧
    (∃ (o : BitVec 28) (s : State), s.get CONFIG_CMD_STATUS = stBusy ∧ s.get CONFIG_CMD_CODE = 1 ∧ s.get CONFIG_STAT_PHASE = 2 ∧ s.get cfgRow =
        o.toNat / 4096 ∧ o.toNat < s.get cfgLen) ∧
    (∃ (j : Nat) (s : State), j < 2 ∧ slotSealed j s = true) :=
  ⟨⟨st [(CONFIG_CMD_CODE, 1), (CONFIG_STAT_PHASE, 4)], by decide +kernel⟩,
   ⟨st [(CONFIG_CMD_CODE, 1), (CONFIG_STAT_PHASE, 5)], by decide +kernel⟩,
   ⟨st [(CONFIG_CMD_CODE, 1), (CONFIG_STAT_PHASE, 6)], by decide +kernel⟩,
   ⟨st [(CONFIG_STAT_PHASE, 1)], by decide +kernel⟩,
   ⟨st [(CONFIG_STAT_PHASE, 2), (cfgLen, 4096)], by decide +kernel⟩,
   ⟨st [(CONFIG_STAT_PHASE, 2), (cfgLen, 8192)], by decide +kernel⟩,
   ⟨st [(CONFIG_STAT_PHASE, 3)], by decide +kernel⟩,
   ⟨st [(CONFIG_STAT_PHASE, 4)], by decide +kernel⟩,
   ⟨st [(CONFIG_STAT_PHASE, 5)], by decide +kernel⟩,
   ⟨st [(CONFIG_STAT_PHASE, 6)], by decide +kernel⟩,
   ⟨{ st [(CONFIG_CMD_STATUS, stBusy), (CONFIG_CMD_CODE, 1), (CONFIG_STAT_PHASE, 5)] with tbNow := 20000000000#64 }, by decide +kernel⟩,
   ⟨{ st [(CONFIG_CMD_STATUS, stBusy), (CONFIG_CMD_CODE, 1), (CONFIG_STAT_PHASE, 3), (cfgLen, 8192)] with tbNow := 20000000000#64 }, by
       decide +kernel⟩,
   ⟨5, State.reset, by decide +kernel⟩,
   ⟨5, st [(cfgLen, 4096), (cfgRow, 0), (CONFIG_STAT_PHASE, 2)], by decide +kernel⟩,
   ⟨0x1005, st [(CONFIG_CMD_STATUS, stBusy), (CONFIG_CMD_CODE, 1), (CONFIG_STAT_PHASE, 2), (cfgRow, 1), (cfgLen, 8192)], by decide +kernel⟩,
   ⟨0, (State.reset).putWords 0xCFFFF000 ([0x5EA10A00, 1] ++ List.replicate 10 0 ++ [crc32Words ([0x5EA10A00, 1] ++ List.replicate 10 0), 1]), by
       decide +kernel⟩⟩

theorem test_wit_image_writes_3 :
    (∃ (s : State), (cfgRuns s = false ∨ s.now < s.get cfgStepAt + (cfgBounds s).1)) ∧
    (∃ (s : State), cfgRuns s = true ∧ s.get cfgStepAt + (cfgBounds s).1 ≤ s.now) ∧
    (∃ (s : State), s.get CONFIG_CMD_CODE = 1 ∧ s.get CONFIG_STAT_PHASE < 6) ∧
    (∃ (s : State), s.get CONFIG_CMD_CODE = 2 ∧ s.get CONFIG_STAT_PHASE < 5) ∧
    (∃ (s : State), ((s.get CONFIG_CMD_CODE = 1 ∧ 6 ≤ s.get CONFIG_STAT_PHASE) ∨ (s.get CONFIG_CMD_CODE = 2 ∧ 5 ≤ s.get CONFIG_STAT_PHASE) ∨ s.get
        CONFIG_CMD_CODE = 4)) ∧
    (∃ (s : State), s.get CONFIG_CMD_STATUS ≠ stBusy ∧ s.get CONFIG_STAT_TRIAL = 0) ∧
    (∃ (s : State), s.get CONFIG_CMD_STATUS ≠ stBusy ∧ s.get CONFIG_STAT_TRIAL ≠ 0) ∧
    (∃ (s : State), s.get CONFIG_CMD_STATUS ≠ stBusy ∧ runConfirmed s = false) ∧
    (∃ (s : State), s.get CONFIG_CMD_STATUS ≠ stBusy ∧ runConfirmed s = true) ∧
    (∃ (s : State), (s.get CONFIG_CMD_STATUS ≠ stBusy ∨ s.get CONFIG_CMD_CODE ≠ 4)) ∧
    (∃ (s : State), s.get CONFIG_CMD_STATUS = stBusy ∧ s.get CONFIG_CMD_CODE = 4) :=
  ⟨⟨State.reset, by decide +kernel⟩,
   ⟨{ st [(CONFIG_CMD_STATUS, stBusy), (CONFIG_CMD_CODE, 1), (CONFIG_STAT_PHASE, 6)] with tbNow := 20000000000#64 }, by decide +kernel⟩,
   ⟨st [(CONFIG_CMD_CODE, 1)], by decide +kernel⟩,
   ⟨st [(CONFIG_CMD_CODE, 2)], by decide +kernel⟩,
   ⟨st [(CONFIG_CMD_CODE, 4)], by decide +kernel⟩,
   ⟨State.reset, by decide +kernel⟩,
   ⟨st [(CONFIG_STAT_TRIAL, 1)], by decide +kernel⟩,
   ⟨State.reset, by decide +kernel⟩,
   ⟨((st [(CONFIG_STAT_RUN_SLOT, 0)]).putWords 0xCFFFF000 ([0x5EA10A00, 1] ++ List.replicate 10 0 ++ [crc32Words ([0x5EA10A00, 1] ++ List.replicate
       10 0), 1])).putWords 0xCFFFF100 [0], by decide +kernel⟩,
   ⟨State.reset, by decide +kernel⟩,
   ⟨st [(CONFIG_CMD_STATUS, stBusy), (CONFIG_CMD_CODE, 4)], by decide +kernel⟩⟩

theorem test_wit_keys :
    (∃ (who : Req) (s : State), s.get CONFIG_KEY_CMD_STATUS ≠ stBusy ∧ who ≠ .d ∧ progReason who s ≠ 0) ∧
    (∃ (who : Req) (s : State), s.get CONFIG_KEY_CMD_STATUS ≠ stBusy ∧ progReason who s = 0) ∧
    (∃ (who : Req) (s : State), who ≠ .d ∧ s.get CONFIG_KEY_CMD_STATUS = stBusy) ∧
    (∃ (s : State), keyState (s.get CONFIG_KEY_ARG_SLOT) s ≠ 0) ∧
    (∃ (s : State), keyState (s.get CONFIG_KEY_ARG_SLOT) s = 0 ∧ ((s.get CONFIG_KEY_ARG_TYPE) = 0 ∨ 3 < (s.get CONFIG_KEY_ARG_TYPE))) ∧
    (∃ (who : Req) (s : State), keyState (s.get CONFIG_KEY_ARG_SLOT) s = 0 ∧ 1 ≤ (s.get CONFIG_KEY_ARG_TYPE) ∧ (s.get CONFIG_KEY_ARG_TYPE) ≤ 3 ∧
        ((caskOwner s (s.get CONFIG_KEY_ARG_CASK)) ≠ reqUser who ∨ reqUser who = 0)) ∧
    (∃ (who : Req) (s : State), keyState (s.get CONFIG_KEY_ARG_SLOT) s = 0 ∧ 1 ≤ (s.get CONFIG_KEY_ARG_TYPE) ∧ (s.get CONFIG_KEY_ARG_TYPE) ≤ 3 ∧
        (caskOwner s (s.get CONFIG_KEY_ARG_CASK)) = reqUser who ∧ reqUser who ≠ 0) ∧
    (∃ (k : Nat) (s : State), s.get (keyRevoked k) ≠ 0) ∧
    (∃ (k : Nat) (s : State), s.get (keyRevoked k) = 0 ∧ s.get (keyDamaged k) ≠ 0) ∧
    (∃ (k : Nat) (s : State), s.get (keyRevoked k) = 0 ∧ s.get (keyDamaged k) = 0) ∧
    (∃ (s : State), s.get CONFIG_KEY_CMD_STATUS ≠ stBusy ∧ (keyState (s.get CONFIG_KEY_ARG_SLOT) s = 0 ∨ s.get verKey = s.get CONFIG_KEY_ARG_SLOT +
        1)) ∧
    (∃ (s : State), s.get CONFIG_KEY_CMD_STATUS ≠ stBusy ∧ keyState (s.get CONFIG_KEY_ARG_SLOT) s ≠ 0 ∧ s.get verKey ≠ s.get CONFIG_KEY_ARG_SLOT +
        1) ∧
    (∃ (s : State), s.get CONFIG_KEY_CMD_STATUS ≠ stBusy) ∧
    (∃ (good : Bool) (s : State), s.get CONFIG_KEY_CMD_STATUS = stBusy ∧ s.get CONFIG_KEY_CMD_CODE = 1 ∧ good = true) ∧
    (∃ (good : Bool) (s : State), s.get CONFIG_KEY_CMD_STATUS = stBusy ∧ s.get CONFIG_KEY_CMD_CODE ≠ 1 ∧ good = true) ∧
    (∃ (good : Bool) (s : State), s.get CONFIG_KEY_CMD_STATUS = stBusy ∧ good = false) :=
  ⟨⟨.y, State.reset, by decide +kernel⟩,
   ⟨.y, st [(CONFIG_KEY_ARG_TYPE, 3), (CELLAR_OWNj_OWN 0, 1), (CONFIG_KEY_ARG_CASK, 0), (CONFIG_KEY_ARG_SLOT, 0)], by decide +kernel⟩,
   ⟨.y, st [(CONFIG_KEY_CMD_STATUS, stBusy)], by decide +kernel⟩,
   ⟨st [(keyType 0, 1), (CONFIG_KEY_ARG_SLOT, 0)], by decide +kernel⟩,
   ⟨State.reset, by decide +kernel⟩,
   ⟨.y, st [(CONFIG_KEY_ARG_TYPE, 2)], by decide +kernel⟩,
   ⟨.y, st [(CONFIG_KEY_ARG_TYPE, 3), (CELLAR_OWNj_OWN 0, 1), (CONFIG_KEY_ARG_CASK, 0), (CONFIG_KEY_ARG_SLOT, 0)], by decide +kernel⟩,
   ⟨0, st [(keyRevoked 0, 1)], by decide +kernel⟩,
   ⟨0, st [(keyDamaged 0, 1)], by decide +kernel⟩,
   ⟨0, State.reset, by decide +kernel⟩,
   ⟨State.reset, by decide +kernel⟩,
   ⟨st [(keyType 0, 1), (CONFIG_KEY_ARG_SLOT, 0)], by decide +kernel⟩,
   ⟨State.reset, by decide +kernel⟩,
   ⟨true, st [(CONFIG_KEY_CMD_STATUS, stBusy), (CONFIG_KEY_CMD_CODE, 1)], by decide +kernel⟩,
   ⟨true, st [(CONFIG_KEY_CMD_STATUS, stBusy)], by decide +kernel⟩,
   ⟨false, st [(CONFIG_KEY_CMD_STATUS, stBusy)], by decide +kernel⟩⟩

theorem test_wit_keys_2 :
    (∃ (k : Nat) (s : State), keyState k s = 0) ∧
    (∃ (s : State), s.get BIST_DBG_LEVEL = 2 ∧ s.get CONFIG_KEY_CMD_STATUS ≠ stBusy) ∧
    (∃ (s : State), s.get BIST_DBG_LEVEL ≠ 2) :=
  ⟨⟨0, State.reset, by decide +kernel⟩,
   ⟨st [(BIST_DBG_LEVEL, 2)], by decide +kernel⟩,
   ⟨st [(BIST_DBG_LEVEL, 0)], by decide +kernel⟩⟩

theorem test_wit_reconfiguration :
    (∃ (s : State), s.get CONFIG_CMD_STATUS ≠ stBusy ∧ reconfReason s ≠ 0) ∧
    (∃ (s : State), s.get CONFIG_CMD_STATUS ≠ stBusy ∧ reconfReason s = 0) ∧
    (∃ (s : State), s.get (PWM_CTRL_PAIR (s.get CONFIG_ARG_STALL)) = 2) ∧
    (∃ (s : State), reconfReason s = 0) ∧
    (∃ (s : State), s.get CONFIG_CMD_STATUS = stBusy) ∧
    (∃ (s : State), (s.get CONFIG_CMD_STATUS ≠ stBusy ∨ s.get CONFIG_CMD_CODE ≠ 2)) ∧
    (∃ (s : State), s.get CONFIG_CMD_STATUS = stBusy ∧ s.get CONFIG_CMD_CODE = 2) ∧
    (∃ (s : State), s.get CONFIG_CMD_CODE = 2 ∧ s.get CONFIG_STAT_PHASE = 1) ∧
    (∃ (s : State), s.get CONFIG_CMD_CODE = 2 ∧ s.get CONFIG_STAT_PHASE = 2) ∧
    (∃ (s : State), s.get CONFIG_CMD_CODE = 2 ∧ s.get CONFIG_STAT_PHASE = 3) ∧
    (∃ (s : State), s.get CONFIG_CMD_CODE = 2 ∧ s.get CONFIG_STAT_PHASE = 4) ∧
    (∃ (s : State), s.get CONFIG_CMD_CODE = 2 ∧ s.get CONFIG_STAT_PHASE = 5) ∧
    (∃ (s : State), s.get CONFIG_CMD_CODE = 2 ∧ s.get CONFIG_STAT_PHASE = 6) ∧
    (∃ (s : State), s.get CONFIG_STAT_PHASE = 1) ∧
    (∃ (s : State), s.get CONFIG_STAT_PHASE = 2 ∧ (∀ n ∈ (cfgStalls s), sectionMatches n (s.get cfgFrom) s = true)) ∧
    (∃ (s : State), s.get CONFIG_STAT_PHASE = 2 ∧ (∃ n ∈ (cfgStalls s), sectionMatches n (s.get cfgFrom) s = false)) :=
  ⟨⟨State.reset, by decide +kernel⟩,
   ⟨((st [(CONFIG_STAT_RUN_SLOT, 0), (CONFIG_SLOT_s_VALID 0, 1), (CONFIG_ARG_STALL, 0), (PWM_CTRL_PAIR 0, 0), (CONFIG_ARG_RSRC, 0)]).putWords
       0xC0000018 [1]).putWords 0xC00000A0 [0x10], by decide +kernel⟩,
   ⟨st [(PWM_CTRL_PAIR 0, 2), (CONFIG_ARG_STALL, 0)], by decide +kernel⟩,
   ⟨((st [(CONFIG_STAT_RUN_SLOT, 0), (CONFIG_SLOT_s_VALID 0, 1), (CONFIG_ARG_STALL, 0), (PWM_CTRL_PAIR 0, 0), (CONFIG_ARG_RSRC, 0)]).putWords
       0xC0000018 [1]).putWords 0xC00000A0 [0x10], by decide +kernel⟩,
   ⟨st [(CONFIG_CMD_STATUS, stBusy)], by decide +kernel⟩,
   ⟨State.reset, by decide +kernel⟩,
   ⟨st [(CONFIG_CMD_STATUS, stBusy), (CONFIG_CMD_CODE, 2)], by decide +kernel⟩,
   ⟨st [(CONFIG_CMD_CODE, 2), (CONFIG_STAT_PHASE, 1)], by decide +kernel⟩,
   ⟨st [(CONFIG_CMD_CODE, 2), (CONFIG_STAT_PHASE, 2)], by decide +kernel⟩,
   ⟨st [(CONFIG_CMD_CODE, 2), (CONFIG_STAT_PHASE, 3)], by decide +kernel⟩,
   ⟨st [(CONFIG_CMD_CODE, 2), (CONFIG_STAT_PHASE, 4)], by decide +kernel⟩,
   ⟨st [(CONFIG_CMD_CODE, 2), (CONFIG_STAT_PHASE, 5)], by decide +kernel⟩,
   ⟨st [(CONFIG_CMD_CODE, 2), (CONFIG_STAT_PHASE, 6)], by decide +kernel⟩,
   ⟨st [(CONFIG_STAT_PHASE, 1)], by decide +kernel⟩,
   ⟨st [(CONFIG_STAT_PHASE, 2), (cfgMask, 0)], by decide +kernel⟩,
   ⟨st [(CONFIG_STAT_PHASE, 2), (cfgMask, 1)], by decide +kernel⟩⟩

theorem test_wit_reconfiguration_2 :
    (∃ (s : State), s.get CONFIG_STAT_PHASE = 3) ∧
    (∃ (s : State), s.get CONFIG_STAT_PHASE = 4) ∧
    (∃ (s : State), s.get CONFIG_STAT_PHASE = 5) ∧
    (∃ (s : State), s.get CONFIG_CMD_STATUS = stBusy ∧ s.get CONFIG_CMD_CODE = 2 ∧ s.get CONFIG_STAT_PHASE = 6 ∧ s.get cfgStepAt ≤ s.now) ∧
    (∃ (s : State), s.get CONFIG_CMD_STATUS = stBusy ∧ s.get CONFIG_CMD_CODE = 2 ∧ s.get CONFIG_STAT_PHASE = 2 ∧ s.get cfgStepAt + (reconfBytes s +
        1) / 2 ≤ s.now ∧ (∃ n < 4, bitAt (s.get cfgMask) n = true ∧ sectionMatches n (s.get cfgFrom) s = false)) ∧
    (∃ (n : Nat), n < 4) ∧
    (∃ (w : Nat) (l : List Nat), w < l.length) :=
  ⟨⟨st [(CONFIG_STAT_PHASE, 3)], by decide +kernel⟩,
   ⟨st [(CONFIG_STAT_PHASE, 4)], by decide +kernel⟩,
   ⟨st [(CONFIG_STAT_PHASE, 5)], by decide +kernel⟩,
   ⟨{ st [(CONFIG_CMD_STATUS, stBusy), (CONFIG_CMD_CODE, 2), (CONFIG_STAT_PHASE, 6), (cfgMask, 1)] with tbNow := 20000000000#64 }, by decide +kernel⟩,
   ⟨{ st [(CONFIG_CMD_STATUS, stBusy), (CONFIG_CMD_CODE, 2), (CONFIG_STAT_PHASE, 2), (cfgMask, 1)] with tbNow := 20000000000#64 }, by decide +kernel⟩,
   ⟨1, by decide +kernel⟩,
   ⟨1, [4, 5], by decide +kernel⟩⟩

theorem test_wit_self_test :
    (∃ (s : State), s.get BIST_CMD_STATUS ≠ stBusy ∧ runReason s ≠ 0) ∧
    (∃ (s : State), s.get BIST_CMD_STATUS ≠ stBusy ∧ runReason s = 0) ∧
    (∃ (s : State), s.get BIST_CMD_STATUS = stBusy) ∧
    (∃ (s : State), ((s.get BIST_CFG_YGRP) % 16 ≠ 0 ∨ (s.get BIST_CFG_YGRP) = 0)) ∧
    (∃ (s : State), (s.get BIST_CFG_YGRP) = 16 ∧ s.get REMOUNT_STAT_HELD ≠ 0) ∧
    (∃ (s : State), (s.get BIST_CFG_YGRP) = 128 ∧ (∃ k < 2, s.get (AUX_Ak_CTRL_EN k) ≠ 0)) ∧
    (∃ (s : State), (s.get BIST_CFG_YGRP) = 256 ∧ dramRangeOk s = false) ∧
    (∃ (s : State), (s.get BIST_CFG_YGRP) = 16 ∧ s.get REMOUNT_STAT_HELD = 0 ∧ s.get BIST_PWR_BUDGET < 3) ∧
    (∃ (s : State), (s.get BIST_CFG_YGRP) = 16 ∧ s.get REMOUNT_STAT_HELD = 0 ∧ 3 ≤ s.get BIST_PWR_BUDGET) ∧
    (∃ (budget : Nat) (l : List (Nat × Nat)), (∀ g ∈ l, g.1 ≤ budget)) ∧
    (∃ (s : State), s.get BIST_CMD_STATUS ≠ stBusy ∧ retestReason s ≠ 0) ∧
    (∃ (s : State), s.get BIST_CMD_STATUS ≠ stBusy ∧ retestReason s = 0) ∧
    (∃ (s : State), (s.get BIST_CMD_STATUS ≠ stBusy ∨ (s.get BIST_CMD_CODE ≠ 1 ∧ s.get BIST_CMD_CODE ≠ 2))) ∧
    (∃ (s : State), s.get BIST_CMD_STATUS = stBusy ∧ s.get BIST_CMD_CODE = 1) ∧
    (∃ (fails : List BistFail) (s : State), s.get BIST_CMD_STATUS = stBusy ∧ s.get BIST_CMD_CODE = 1 ∧ s.get bistGrp ≠ 0 ∧ fails = []) ∧
    (∃ (s : State), s.get BIST_CMD_STATUS = stBusy ∧ s.get BIST_CMD_CODE = 2 ∧ s.get bistAborted = 0 ∧ s.get bistSwapped = 0 ∧ s.get bistAt + 20020
        ≤ s.now) :=
  ⟨⟨st [(BIST_CFG_YGRP, 1)], by decide +kernel⟩,
   ⟨st [(BIST_CFG_YGRP, 16), (REMOUNT_STAT_HELD, 0), (BIST_PWR_BUDGET, 5)], by decide +kernel⟩,
   ⟨st [(BIST_CMD_STATUS, stBusy)], by decide +kernel⟩,
   ⟨st [(BIST_CFG_YGRP, 1)], by decide +kernel⟩,
   ⟨st [(REMOUNT_STAT_HELD, 1), (BIST_CFG_YGRP, 16)], by decide +kernel⟩,
   ⟨st [(BIST_CFG_YGRP, 128), (AUX_Ak_CTRL_EN 1, 1)], by decide +kernel⟩,
   ⟨st [(BIST_CFG_YGRP, 256), (BIST_DRAM_BASE_LO_ADDR, 1)], by decide +kernel⟩,
   ⟨st [(BIST_CFG_YGRP, 16), (BIST_PWR_BUDGET, 2)], by decide +kernel⟩,
   ⟨st [(BIST_PWR_BUDGET, 5), (BIST_CFG_YGRP, 16)], by decide +kernel⟩,
   ⟨0, [], by decide +kernel⟩,
   ⟨st [(PWM_STAT_STATE 0, 2), (BIST_CFG_RSTALL, 0)], by decide +kernel⟩,
   ⟨State.reset, by decide +kernel⟩,
   ⟨State.reset, by decide +kernel⟩,
   ⟨st [(BIST_CMD_STATUS, stBusy), (BIST_CMD_CODE, 1)], by decide +kernel⟩,
   ⟨[], st [(BIST_CMD_STATUS, stBusy), (BIST_CMD_CODE, 1), (bistGrp, 1), (BIST_CFG_YGRP, 32)], by decide +kernel⟩,
   ⟨{ st [(BIST_CMD_STATUS, stBusy), (BIST_CMD_CODE, 2)] with tbNow := 20000000000#64 }, by decide +kernel⟩⟩

theorem test_wit_self_test_2 :
    (∃ (s : State), s.get BIST_CMD_STATUS = stBusy ∧ s.get BIST_CMD_CODE = 2 ∧ (s.get bistAborted ≠ 0 ∨ s.get bistSwapped ≠ 0 ∨ s.now < s.get bistAt
        + 20020)) ∧
    (∃ (s : State), (¬ (s.get BIST_CMD_STATUS = stBusy ∧ s.get BIST_CMD_CODE = 2 ∧ (s.get bistSwapped ≠ 0 ∨ s.get bistAborted ≠ 0) ∧ s.get bistRegAt
        + 40000 ≤ s.now))) ∧
    (∃ (s : State), (s.get BIST_CMD_STATUS = stBusy ∧ s.get BIST_CMD_CODE = 2 ∧ (s.get bistSwapped ≠ 0 ∨ s.get bistAborted ≠ 0) ∧ s.get bistRegAt +
        40000 ≤ s.now)) ∧
    (∃ (s : State), s.get BIST_CMD_STATUS ≠ stBusy ∧ ([0, 1, 2, 3].any (fun n => switching n s) || [0, 1].any (fun k => s.flag (AUX_Ak_CTRL_EN k)))
        = true) ∧
    (∃ (s : State), s.get BIST_CMD_STATUS ≠ stBusy ∧ ([0, 1, 2, 3].any (fun n => switching n s) || [0, 1].any (fun k => s.flag (AUX_Ak_CTRL_EN k)))
        = false) ∧
    (∃ (s : State), (s.get BIST_CMD_STATUS ≠ stBusy ∨ s.get BIST_CMD_CODE ≠ 3)) ∧
    (∃ (stop : Option (BitVec 7)) (s : State), s.get BIST_CMD_STATUS = stBusy ∧ s.get BIST_CMD_CODE = 3 ∧ stop ≠ none) ∧
    (∃ (stop : Option (BitVec 7)) (s : State), s.get BIST_CMD_STATUS = stBusy ∧ s.get BIST_CMD_CODE = 3 ∧ stop = none ∧ (burnAll (burnList s) s).1 =
        true) ∧
    (∃ (s : State), s.get BIST_CMD_CODE = 1) ∧
    (∃ (s : State), s.get BIST_CMD_CODE = 2 ∧ s.get bistSwapped = 0) ∧
    (∃ (s : State), (s.get BIST_CMD_CODE = 3 ∨ (s.get BIST_CMD_CODE = 2 ∧ s.get bistSwapped ≠ 0))) ∧
    (∃ (j : Nat) (s u : State), j < 64 ∧ burnOne j s = some u) :=
  ⟨⟨st [(BIST_CMD_STATUS, stBusy), (BIST_CMD_CODE, 2), (bistAborted, 1)], by decide +kernel⟩,
   ⟨{ State.reset with tbNow := 20000000000#64 }, by decide +kernel⟩,
   ⟨{ st [(BIST_CMD_STATUS, stBusy), (BIST_CMD_CODE, 2), (bistSwapped, 1)] with tbNow := 20000000000#64 }, by decide +kernel⟩,
   ⟨st [(AUX_Ak_CTRL_EN 1, 1)], by decide +kernel⟩,
   ⟨State.reset, by decide +kernel⟩,
   ⟨State.reset, by decide +kernel⟩,
   ⟨some 0, st [(BIST_CMD_STATUS, stBusy), (BIST_CMD_CODE, 3)], by decide +kernel⟩,
   ⟨none, st [(BIST_CMD_STATUS, stBusy), (BIST_CMD_CODE, 3)], by decide +kernel⟩,
   ⟨st [(BIST_CMD_CODE, 1)], by decide +kernel⟩,
   ⟨st [(BIST_CMD_CODE, 2)], by decide +kernel⟩,
   ⟨st [(BIST_CMD_CODE, 3)], by decide +kernel⟩,
   ⟨1, State.reset, ((burnOne 1 State.reset).getD State.reset), by decide +kernel⟩⟩

theorem test_wit_debug_port :
    (∃ (s : State), s.get BIST_DBG_CMD_STATUS ≠ stBusy ∧ s.get BIST_DBG_CLOSED = 0) ∧
    (∃ (s : State), s.get BIST_DBG_CMD_STATUS ≠ stBusy ∧ s.get BIST_DBG_CLOSED ≠ 0 ∧ s.get BIST_DBG_LEVEL = 0) ∧
    (∃ (s : State), s.get BIST_DBG_CMD_STATUS ≠ stBusy ∧ s.get BIST_DBG_CLOSED ≠ 0 ∧ s.get BIST_DBG_LEVEL ≠ 0) ∧
    (∃ (s : State), s.get BIST_DBG_CMD_STATUS ≠ stBusy ∧ s.get BIST_DBG_CLOSED ≠ 0 ∧ s.get BIST_DBG_LEVEL = 1) ∧
    (∃ (s : State), s.get BIST_DBG_CMD_STATUS ≠ stBusy ∧ s.get BIST_DBG_CLOSED ≠ 0 ∧ s.get BIST_DBG_LEVEL ≠ 1) ∧
    (∃ (s : State), s.get BIST_DBG_CMD_STATUS ≠ stBusy ∧ s.get BIST_DBG_CLOSED ≠ 0 ∧ s.get BIST_DBG_LEVEL = 2) ∧
    (∃ (s : State), s.get BIST_DBG_CMD_STATUS ≠ stBusy ∧ s.get BIST_DBG_CLOSED ≠ 0 ∧ s.get BIST_DBG_LEVEL ≠ 2) ∧
    (∃ (s : State), s.get BIST_DBG_CMD_STATUS = stBusy) ∧
    (∃ (s : State), s.get BIST_DBG_CMD_STATUS ≠ stBusy) ∧
    (∃ (s : State), s.get BIST_DBG_LEVEL ≠ 2) ∧
    (∃ (on : Bool) (s : State), on = true ∧ scanAllowed s = true) ∧
    (∃ (s : State), scanAllowed (debugSeen .d s) = false) ∧
    (∃ (s : State), scanAllowed (debugSeen .d s) = true) :=
  ⟨⟨State.reset, by decide +kernel⟩,
   ⟨st [(BIST_DBG_CLOSED, 1), (BIST_DBG_LEVEL, 0)], by decide +kernel⟩,
   ⟨st [(BIST_DBG_CLOSED, 1), (BIST_DBG_LEVEL, 1)], by decide +kernel⟩,
   ⟨st [(BIST_DBG_CLOSED, 1), (BIST_DBG_LEVEL, 1)], by decide +kernel⟩,
   ⟨st [(BIST_DBG_CLOSED, 1)], by decide +kernel⟩,
   ⟨st [(BIST_DBG_CLOSED, 1), (BIST_DBG_LEVEL, 2)], by decide +kernel⟩,
   ⟨st [(BIST_DBG_CLOSED, 1), (BIST_DBG_LEVEL, 1)], by decide +kernel⟩,
   ⟨st [(BIST_DBG_CMD_STATUS, stBusy)], by decide +kernel⟩,
   ⟨State.reset, by decide +kernel⟩,
   ⟨st [(BIST_DBG_LEVEL, 1)], by decide +kernel⟩,
   ⟨true, State.reset, by decide +kernel⟩,
   ⟨st [(BIST_DBG_LEVEL, 1)], by decide +kernel⟩,
   ⟨State.reset, by decide +kernel⟩⟩

/-! ### Ill-formed operands are refused by the check -/

theorem test_wf_addresses : (Instr.registerWrite .y 0x40000001#40 0).wf = false ∧ (Instr.wideWordHold .y 0x40000002#40 0).wf = false ∧
    (Instr.wideWordApply .y 0x40000003#40 0).wf = false ∧ (Instr.wideReadSnapshot .y 0x40000001#40).wf = false ∧
    (Instr.abort .y 0x40000001#40).wf = false ∧ (Instr.commandClear .y 0x40000001#40).wf = false ∧
    (Instr.unlistedCommand .y 0x40000001#40 0x55).wf = false ∧ (Instr.registerWrite .y 0x40000004#40 0).wf = true := by decide +kernel
theorem test_wf_lists : (Instr.loadInstant 0 true 0 [0, 0, 0, 0, 0]).wf = false ∧ (Instr.converterCheckDone 0 [0] [0, 0, 0, 0, 0]).wf = false ∧
    (Instr.converterCheckDone 0 [0, 0, 0, 0, 0] [0]).wf = false ∧ (Instr.spareCheckDone [] [0, 0, 0, 0, 0]).wf = false ∧
    (Instr.spareCheckDone [0, 0, 0, 0, 0] []).wf = false ∧ (Instr.captureDone 0 (List.replicate 21 0) (List.replicate 22 0)).wf = false ∧
    (Instr.captureDone 0 (List.replicate 22 0) (List.replicate 23 0)).wf = false ∧
    (Instr.captureDone 0 (List.replicate 22 0) (List.replicate 22 0)).wf = true ∧ (Instr.grantDecision 1 [0, 0, 0, 0, 0]).wf = false ∧
    (Instr.sheepdogCycle 0 0 0 [0, 0, 0]).wf = false ∧ (Instr.powerMeasure 0 [0, 0, 0, 0, 0] 0 0 0).wf = false := by decide +kernel
theorem test_wf_samples : (Instr.evMonResolved 0 0 []).wf = false ∧ (Instr.monFilterAssert 0 0 []).wf = false ∧
    (Instr.monFilterDeassert 0 0 []).wf = false ∧ (Instr.monHardAssert 0 0 []).wf = false ∧ (Instr.monHardDeassert 0 0 []).wf = false ∧
    (Instr.streamRecordClose 0 0 (List.replicate 122 0) 0).wf = false ∧ (Instr.streamRecordClose 0 0 (List.replicate 121 0) 0).wf = true := by
        decide +kernel
theorem test_wf_masks : (Instr.tripClear 0 0).wf = false ∧ (Instr.tripClear 0 1).wf = true ∧ (Instr.safetyAck 0).wf = false ∧
    (Instr.deviceReset 0 0).wf = false ∧ (Instr.deviceReset 8 0).wf = false ∧ (Instr.deviceReset 7 0).wf = true := by decide +kernel
theorem test_wf_frames :
    (Instr.yokeTransaction 0 ⟨.write, 0x20000002, 4, 7⟩ 0 0).wf = false ∧ (Instr.yokeTransaction 0 ⟨.write, 0x20000000, 3, 7⟩ 0 0).wf = false ∧
    (Instr.evCankRx 0 1 0 0 (List.replicate 65 0) 0).wf = false ∧ (Instr.evCankRx 0 1 64 0 [] 0).wf = false ∧
    (Instr.ethFrameRx 0 (List.replicate 13 0) 0 0).wf = false ∧ (Instr.ethFrameRx 0 (List.replicate 14 0) 0 0).wf = true := by decide +kernel

/-! ### Values from published vectors and from the rules by hand -/

/-- The check value of CRC-32. -/
theorem test_crc32 : crc32 [0x31, 0x32, 0x33, 0x34, 0x35, 0x36, 0x37, 0x38, 0x39] = 0xCBF43926 := by decide +kernel
/-- FIPS 180-4, the message "abc". -/
theorem test_sha256 : sha256 [0x61, 0x62, 0x63] = [0xBA, 0x78, 0x16, 0xBF, 0x8F, 0x01, 0xCF, 0xEA, 0x41, 0x41, 0x40, 0xDE, 0x5D, 0xAE, 0x22, 0x23,
    0xB0, 0x03, 0x61, 0xA3, 0x96, 0x17, 0x7A, 0x9C, 0xB4, 0x10, 0xFF, 0x61, 0xF2, 0x00, 0x15, 0xAD] := by decide +kernel
/-- RFC 4493, example 2. -/
theorem test_cmac : aesCmac [0x2B, 0x7E, 0x15, 0x16, 0x28, 0xAE, 0xD2, 0xA6, 0xAB, 0xF7, 0x15, 0x88, 0x09, 0xCF, 0x4F, 0x3C]
    [0x6B, 0xC1, 0xBE, 0xE2, 0x2E, 0x40, 0x9F, 0x96, 0xE9, 0x3D, 0x7E, 0x11, 0x73, 0x93, 0x17, 0x2A] =
    [0x07, 0x0A, 0x16, 0xB4, 0x6B, 0x4D, 0x41, 0x44, 0xF7, 0x9B, 0xDD, 0x9D, 0xD0, 0x4A, 0x28, 0x7C] := by decide +kernel
/-- R153: with the SAE seed 5, one data nibble 0 and the augmented form, the CRC is 10. -/
theorem test_sent_crc : sentCrc true [0] = 10 ∧ sentCrc false [0] = 3 := by decide +kernel

/-- R139, R140: a forward edge past the last count wraps to 0; a backward one steps down. -/
theorem test_encoder : (after (.encoderEdge 1 true false) (st [(POS_CTRL_EN 1, 1), (POS_CTRL_PRIM 1, 2), (POS_ENC_CFG_CPR 1, 4),
      (POS_ENC_COUNT_COUNT 1, 3)])).get (POS_ENC_COUNT_COUNT 1) = 0 ∧
    (after (.encoderEdge 1 false true) (st [(POS_CTRL_EN 1, 1), (POS_CTRL_PRIM 1, 2), (POS_ENC_CFG_CPR 1, 4),
      (POS_ENC_COUNT_COUNT 1, 3)])).get (POS_ENC_COUNT_COUNT 1) = 2 := by decide +kernel
theorem test_trip_clear : (after (.tripClear 1 8) (st [(PWM_TRIP_STAT_LATCH 1, 9)])).get (PWM_TRIP_STAT_LATCH 1) = 1 ∧
    (after (.tripClear 1 9) (st [(PWM_TRIP_STAT_LATCH 1, 9), (PWM_TRIP_STAT_IN 1, 8)])).get (PWM_CMD_STATUS 1) = stRefused := by decide +kernel
theorem test_grant : (after (.grantDecision 0x60 [0, 0, 0, 0, 0, 0]) (st [(PORTER_STAT_HOLDER, 15)])).get PORTER_STAT_HOLDER = 6 := by decide +kernel
theorem test_free : caskOwner (after (.free 1) (st [(CELLAR_OWNj_OWN 0, 0x52), (CELLAR_USE_u_COUNT 2, 1)])) 0 = 0 ∧
    caskOwner (after (.free 1) (st [(CELLAR_OWNj_OWN 0, 0x52), (CELLAR_USE_u_COUNT 2, 1)])) 1 = 5 := by decide +kernel
theorem test_lockdown : (after .lockdown State.reset).get BIST_DBG_CLOSED = 1 ∧ (after .openWrite (st [(BIST_DBG_CLOSED, 1)])).get BIST_DBG_LEVEL =
    2 := by
  decide +kernel
theorem test_sto_ack : (after .stoAck (st [(SAFETY_STO_STAT_DISC, 1)])).get SAFETY_STO_CMD_STATUS = stRefused ∧
    (after .stoAck State.reset).get SAFETY_STO_CMD_STATUS = stDone := by decide +kernel

/-- The Record of an image whose seal holds, as the nested premise of the obligation on image writes asks. -/
theorem test_wit_sealed_record : ∃ (j : Nat) (u : State), slotSealed j u = true :=
  ⟨0, (State.reset.putWords 0xCFFFF000 ([0x5EA10A00, 1] ++ List.replicate 10 0 ++
    [crc32Words ([0x5EA10A00, 1] ++ List.replicate 10 0), 1])).putWords 0xCFFFF100 [0], by decide +kernel⟩

end Sys2Proof.Tests
end

section
/-!
SUPPORT. Every command answers a next state: its meaning ends in `ok`, or chooses between answers that do.
-/

namespace Sys2Proof.Machine

theorem exists_next_of_answers {o : Out} (h : answers o = true) : ∃ t, o = .next t := by
  cases o with
  | next t => exact ⟨t, rfl⟩
  | fault f => cases f
  | refused r => cases h

/-- A choice answers where both its sides do; `stallWrite` and `linkWrite` are such choices (R30). -/
theorem answers_ite {p : Prop} [Decidable p] {o q : Out} (ho : answers o = true) (hq : answers q = true) :
    answers (if p then o else q) = true := by
  split <;> assumption

theorem answers_exec (c : Instr) (s : State) : answers (exec c s) = true := by
  cases c
  -- a choice of two answers: whether the Stall is being rewritten (R30), or a locked Stall is switching (R218)
  case slackMinWrite | modCtrlWrite | calRun | zeroApplied | fullApplied | monEnable | monLatchClear | travelPreset | probeRearm | loopStart |
      loopStop | pset | referenceApply | pwmStart | pwmStop | tripClear | safe | swOvrWrite | protRelease | dischargeRun | refCarrierDisable =>
    apply answers_ite <;> rfl
  -- the same, and a second choice where the Stall is not being rewritten
  case posDisable | monDisable | arm =>
    apply answers_ite
    · rfl
    · apply answers_ite <;> rfl
  case posEnable =>
    apply answers_ite
    · rfl
    · apply answers_ite
      · rfl
      · apply answers_ite <;> rfl
  -- links 0 to 11 stand in Stalls, links 12 and 13 do not
  case reinStart | reinStop | send =>
    apply answers_ite
    · apply answers_ite <;> rfl
    · rfl
  all_goals rfl

/-- Settles O3: the outcome of each command, read off its meaning. -/
theorem everyCommandAnswers : Obligations.EveryCommandAnswers :=
  fun c s => exists_next_of_answers (answers_exec c s)

/-- What a command answers is the state that `Out.state` takes from it. -/
theorem next_state_exec (c : Instr) (s d : State) : .next (Out.state (exec c s) d) = exec c s := by
  obtain ⟨t, ht⟩ := everyCommandAnswers c s
  rw [ht]
  rfl

end Sys2Proof.Machine
end

section
/-!
SUPPORT. What a write on the register bus comes to (R4, R7 to R10, R47, R527), one equation for each way `busWrite`, `regWrite` and `cmdWrite`
can go.
-/

namespace Sys2Proof.Machine
open Reg

/-! ### The commands of the register bus -/

theorem exec_registerWrite (who : Req) (a : BitVec 40) (v : BitVec 32) (s : State) :
    exec (.registerWrite who a v) s = .next (busWrite who a.toNat v.toNat s) := rfl

theorem exec_wideWordHold (who : Req) (a : BitVec 40) (v : BitVec 32) (s : State) :
    exec (.wideWordHold who a v) s = .next (s.when (heldPlace a.toNat == some true) (busWrite who a.toNat v.toNat)) := rfl

theorem exec_wideWordApply (who : Req) (a : BitVec 40) (v : BitVec 32) (s : State) :
    exec (.wideWordApply who a v) s = .next (s.when (heldPlace a.toNat == some false) (busWrite who a.toNat v.toNat)) := rfl

theorem exec_abort (who : Req) (a : BitVec 40) (s : State) :
    exec (.abort who a) s = .next (s.when (isCommand a.toNat) (busWrite who a.toNat 0xFF)) := rfl

theorem exec_commandClear (who : Req) (a : BitVec 40) (s : State) :
    exec (.commandClear who a) s = .next (s.when (isCommand a.toNat) (busWrite who a.toNat 0)) := rfl

theorem exec_unlistedCommand (who : Req) (a : BitVec 40) (code : BitVec 8) (s : State) :
    exec (.unlistedCommand who a code) s = .next (s.when
      (isCommand a.toNat && unlisted who a.toNat code.toNat && code != 0 && code != 0xFF) (busWrite who a.toNat code.toNat)) := rfl

/-! ### The requester (R353, R474) -/

@[simp] theorem debugSeen_d (s : State) : debugSeen .d s = s.set BIST_DBG_CONN 1 := rfl

theorem debugSeen_of_ne {who : Req} (h : who ≠ .d) (s : State) : debugSeen who s = s := by
  cases who with
  | d => exact absurd rfl h
  | _ => rfl

@[simp] theorem debugSeen_held (who : Req) (s : State) : (debugSeen who s).held = s.held := by
  cases who <;> rfl

@[simp] theorem debugSeen_snaps (who : Req) (s : State) : (debugSeen who s).snaps = s.snaps := by
  cases who <;> rfl

theorem yokeStopped_debugSeen (who : Req) (s : State) :
    (who = .y ∧ (debugSeen who s).get YOKE_STAT_MODE = 3) ↔ (who = .y ∧ s.get YOKE_STAT_MODE = 3) := by
  refine and_congr_right (fun hy => ?_)
  rw [debugSeen_of_ne (by simp [hy])]

/-! ### A write that reaches a register (R4) -/

/-- The voter of a stopped Yoke issues nothing. -/
theorem busWrite_stopped {s : State} (h : s.get YOKE_STAT_MODE = 3) (a v : Nat) : busWrite .y a v s = s := by
  simp [busWrite, debugSeen_of_ne, h]

/-- `who` may write the register `r` (indices `l`) that stands at `a`. -/
structure Reaches (who : Req) (a : Nat) (r : RRow) (l : List Nat) (s : State) : Prop where
  row : regAt a = some (r, l)
  aligned : a % 4 = 0
  issued : who = .y → s.get YOKE_STAT_MODE ≠ 3
  rights : mayAccess who a true (debugSeen who s) = true

variable {who : Req} {a v : Nat} {r : RRow} {l : List Nat} {s : State}

theorem Reaches.busWrite_eq (h : Reaches who a r l s) (v : Nat) : busWrite who a v s = regWrite who a v r l (debugSeen who s) := by
  have issued : ¬(who = .y ∧ (debugSeen who s).get YOKE_STAT_MODE = 3) := by
    rw [yokeStopped_debugSeen]; exact fun ⟨hy, hm⟩ => h.issued hy hm
  simp only [busWrite, if_neg issued, h.rights, h.aligned, h.row, Bool.not_true, Bool.false_eq_true, if_false, ne_eq, not_true_eq_false]

theorem Reaches.isCommand_eq (h : Reaches who a r l s) : isCommand a = r.isCmd := by
  simp only [isCommand, h.row]

/-! ### The register's own judgement -/

theorem writable_of_named (h : r.fs.any (fun f => f.writable && mayWrite who l f) = true) : r.fs.any RField.writable = true := by
  obtain ⟨f, hf, hw⟩ := List.any_eq_true.1 h
  exact List.any_eq_true.2 ⟨f, hf, (Bool.and_eq_true _ _ ▸ hw).1⟩

theorem regWrite_shut (h : windowShut a true s = true) : regWrite who a v r l s = busErr s := by
  simp only [regWrite, h, if_true]

theorem regWrite_command (hs : windowShut a true s = false) (hc : r.isCmd = true) (hm : mayCommand who r l = true) :
    regWrite who a v r l s = cmdWrite who a (v % 256) s := by
  simp only [regWrite, hs, hc, hm, Bool.false_eq_true, if_false, if_true]

theorem regWrite_readOnly (hs : windowShut a true s = false) (hc : r.isCmd = false) (hw : r.fs.any RField.writable = false) :
    regWrite who a v r l s = busOk s := by
  simp only [regWrite, hs, hc, hw, Bool.false_eq_true, if_false, Bool.not_false, if_true]

theorem regWrite_unnamed (hs : windowShut a true s = false) (hc : r.isCmd = false) (hw : r.fs.any RField.writable = true)
    (hn : r.fs.any (fun f => f.writable && mayWrite who l f) = false) : regWrite who a v r l s = busErr s := by
  simp only [regWrite, hs, hc, hw, hn, Bool.false_eq_true, if_false, Bool.not_true, Bool.not_false, if_true]

section Named
variable (hs : windowShut a true s = false) (hc : r.isCmd = false) (hn : r.fs.any (fun f => f.writable && mayWrite who l f) = true)
include hs hc hn

theorem regWrite_plain (hwide : wideFind a = none) (hown : ownWrite a v s = none) : regWrite who a v r l s = plainWrite who a v r l s := by
  simp only [regWrite, hs, hc, writable_of_named hn, hn, hwide, hown, Bool.false_eq_true, if_false, Bool.not_true, Option.getD_none]

theorem regWrite_hold {ws : List Nat} (hwide : wideFind a = some (true, ws)) (hlow : a + 4 ≤ ws.foldl max 0) :
    regWrite who a v r l s = holdWord who a v r l s := by
  simp only [regWrite, hs, hc, writable_of_named hn, hn, hwide, hlow, Bool.false_eq_true, if_false, Bool.not_true, if_true]

theorem regWrite_apply {ws : List Nat} (hwide : wideFind a = some (true, ws)) (hhigh : ¬a + 4 ≤ ws.foldl max 0) :
    regWrite who a v r l s = applyWord who a v (ws.filter (fun w => w < a)) r l s := by
  simp only [regWrite, hs, hc, writable_of_named hn, hn, hwide, hhigh, Bool.false_eq_true, if_false, Bool.not_true]

end Named

/-! ### Command registers (R9, R10, R527) -/

theorem busy_eq_false {c : CmdReg} (h : s.get c.status ≠ stBusy) : s.busy c = false := by
  simpa [State.busy] using h

theorem busy_eq_true {c : CmdReg} (h : s.get c.status = stBusy) : s.busy c = true := by
  simpa [State.busy] using h

@[simp] theorem busy_busOk (s : State) (c : CmdReg) : (busOk s).busy c = s.busy c := rfl

theorem cmdWrite_abort_busy (h : s.busy (cmdRegAt a) = true) : cmdWrite who a 0xFF s = abortAt a (busOk s) := by
  simp only [cmdWrite, busy_busOk, h, if_true]

theorem cmdWrite_busy {code : Nat} (h : s.busy (cmdRegAt a) = true) (hc : code ≠ 0xFF) : cmdWrite who a code s = busOk s := by
  simp only [cmdWrite, busy_busOk, h, if_true, if_neg hc]

theorem cmdWrite_abort_idle (h : s.busy (cmdRegAt a) = false) :
    cmdWrite who a 0xFF s = (busOk s).cmdSet (cmdRegAt a) 0xFF stRefused := by
  simp only [cmdWrite, busy_busOk, h, Bool.false_eq_true, if_false, if_true]

theorem cmdWrite_clear (h : s.busy (cmdRegAt a) = false) : cmdWrite who a 0 s = (busOk s).cmdSet (cmdRegAt a) 0 stIdle := by
  simp [cmdWrite, h]

theorem cmdWrite_unlisted {code : Nat} (h : s.busy (cmdRegAt a) = false) (h0 : code ≠ 0) (hF : code ≠ 0xFF)
    (hl : commandAt who a code = none) : cmdWrite who a code s = (busOk s).cmdSet (cmdRegAt a) code stRefused := by
  simp only [cmdWrite, busy_busOk, h, Bool.false_eq_true, if_false, if_neg h0, if_neg hF, hl]

theorem cmdWrite_listed {code : Nat} {f : State → Out} (h : s.busy (cmdRegAt a) = false) (h0 : code ≠ 0) (hF : code ≠ 0xFF)
    (hl : commandAt who a code = some f) : cmdWrite who a code s = Out.state (f (busOk s)) (busOk s) := by
  simp only [cmdWrite, busy_busOk, h, Bool.false_eq_true, if_false, if_neg h0, if_neg hF, hl]

/-- A command register's two fields, written together, read back: the code. -/
theorem cmdSet_code (s : State) (a code status : Nat) (hc : code < 256) : (s.cmdSet (cmdRegAt a) code status).get (cmdRegAt a).code = code := by
  have apart : (cmdRegAt a).code.key ≠ (cmdRegAt a).status.key := by simp [cmdRegAt, Fld.key]
  rw [State.cmdSet, State.get_set_ne _ _ _ _ apart, State.get_set_same]
  exact Nat.mod_eq_of_lt hc

/-- A command register's two fields, written together, read back: the status. -/
theorem cmdSet_status (s : State) (a code status : Nat) (hs : status < 8) :
    (s.cmdSet (cmdRegAt a) code status).get (cmdRegAt a).status = status := by
  rw [State.cmdSet, State.get_set_same]
  exact Nat.mod_eq_of_lt hs

/-- A code written to a command register that its writer reaches is judged by `cmdWrite`. -/
theorem Reaches.busWrite_command (h : Reaches who a r l s) (hs : windowShut a true (debugSeen who s) = false) (hc : r.isCmd = true)
    (hm : mayCommand who r l = true) {code : Nat} (hlt : code < 256) : busWrite who a code s = cmdWrite who a code (debugSeen who s) := by
  rw [h.busWrite_eq, regWrite_command hs hc hm, Nat.mod_eq_of_lt hlt]

/-! ### `SYS_RST_CMD` (R487) -/

theorem rstNamed_eq_false_iff (who : Req) (code : Nat) :
    rstNamed who code = false ↔ (code = 2 ∧ who = .y) ∨ (code ≠ 2 ∧ (code = 3 ∨ 0x10 ≤ code) ∧ who = .i) := by
  unfold rstNamed
  split
  · simp [*]
  · split <;> simp [*]

/-- A reset that is not allowed starts nothing and reads back REFUSED; Y and I issue it. -/
theorem rstStart_refused {code status : Nat} {run : State → State} (hs : who ≠ .s) (hd : who ≠ .d) (hb : s.busy rstCmd = false) :
    rstStart who code false status run s = (busOk s).cmdSet rstCmd code stRefused := by
  simp only [rstStart, if_neg hs, debugWrite, debugSeen_of_ne hd, hd, false_and, if_false, State.cmdStart, busy_busOk, hb,
    Bool.false_eq_true, id_eq]

/-- A reset code that R487 does not name for the writer is listed, and refused by its own meaning. -/
theorem cmdWrite_unnamed_reset {code : Nat} (hn : rstNamed who code = false) (hl : code ≤ 3 ∨ (0x10 ≤ code ∧ code ≤ 0x13))
    (hb : s.busy rstCmd = false) : cmdWrite who 0x40008004 code s = (busOk s).cmdSet rstCmd code stRefused := by
  have refused : ∀ c st run, who ≠ .s → who ≠ .d → rstStart who c false st run (busOk s) = (busOk s).cmdSet rstCmd c stRefused :=
    fun c st run h1 h2 => rstStart_refused h1 h2 hb
  obtain ⟨rfl, rfl⟩ | ⟨h2, h3 | h16, rfl⟩ := (rstNamed_eq_false_iff who code).1 hn
  · rw [cmdWrite_listed (f := execYoke .y) hb (by decide) (by decide) rfl]
    exact refused 2 _ _ (by decide) (by decide)
  · subst h3
    rw [cmdWrite_listed (f := execInnkeeper .i) hb (by decide) (by decide) rfl]
    exact refused 3 _ _ (by decide) (by decide)
  · have listed : commandAt .i 0x40008004 code = some (execStall .i (Fin.ofNat 4 code)) := by
      have h : code ≠ 1 ∧ code ≠ 2 ∧ code ≠ 3 ∧ 16 ≤ code ∧ code ≤ 19 := by omega
      simp [commandAt, regBlock, yardCommand, h]
    have number : 0x10 + (Fin.ofNat 4 code : Nat) = code := by simp; omega
    rw [cmdWrite_listed hb (by omega) (by omega) listed]
    exact (refused (0x10 + (Fin.ofNat 4 code : Nat)) _ _ (by decide) (by decide)).trans (by rw [number])

end Sys2Proof.Machine
end

section
/-!
The writes to command registers: O11 and O12.
-/

namespace Sys2Proof.Machine

/-- Settles O11: a code of 0 reaches `cmdWrite`, which shows it with status IDLE. -/
theorem zeroCodeClearsIdleCommand : Obligations.ZeroCodeClearsIdleCommand := by
  intro who a r l s u hrow hc hm hal hy hmay hshut hidle
  have hr : Reaches who a.toNat r l s := ⟨hrow, hal, hy, hmay⟩
  refine ⟨_, ?_, rfl, cmdSet_code _ _ _ _ (by decide), cmdSet_status _ _ _ _ (by decide)⟩
  rw [exec_commandClear, hr.isCommand_eq, hc, State.when_true, hr.busWrite_command hshut hc hm (by decide), cmdWrite_clear (busy_eq_false hidle)]

/-- Settles O12, by the register's status: idle, every code but a listed one for its writer reads back REFUSED; busy, only an abort acts. -/
theorem unlistedCodesReadRefused : Obligations.UnlistedCodesReadRefused := by
  intro who a code r l s u hrow hc hm hal hy hmay hshut
  have hr : Reaches who a.toNat r l s := ⟨hrow, hal, hy, hmay⟩
  have judged : ∀ {c : Nat}, c < 256 → busWrite who a.toNat c s = cmdWrite who a.toNat c u := hr.busWrite_command hshut hc hm
  have abort : exec (.abort who a) s = .next (cmdWrite who a.toNat 0xFF u) := by
    rw [exec_abort, hr.isCommand_eq, hc, State.when_true, judged (by decide)]
  have unlistedRow : unlisted who a.toNat code.toNat = true → code ≠ 0 → code ≠ 0xFF →
      exec (.unlistedCommand who a code) s = .next (cmdWrite who a.toNat code.toNat u) := by
    intro hu h0 hF
    rw [exec_unlistedCommand, hr.isCommand_eq, hc, hu, bne_iff_ne.2 h0, bne_iff_ne.2 hF, ← judged code.isLt]
    rfl
  refine ⟨fun hidle => ⟨fun h0 hF hnone => ?_, fun ha hn hl => ?_, ?_⟩, fun hbusy => ⟨?_, fun hF => ?_⟩⟩
  · have hu : unlisted who a.toNat code.toNat = true := by simp [unlisted, hnone]
    rw [unlistedRow hu h0 hF, cmdWrite_unlisted (busy_eq_false hidle) (by simpa [BitVec.toNat_eq] using h0) (by simpa [BitVec.toNat_eq] using hF) hnone]
  · subst ha
    have hu : unlisted who (0x40008004#40).toNat code.toNat = true := by simp [unlisted, hn]
    have hnz : code ≠ 0 ∧ code ≠ 0xFF := by
      have := (rstNamed_eq_false_iff who code.toNat).1 hn
      constructor <;> rintro rfl <;> simp at this hl
    rw [unlistedRow hu hnz.1 hnz.2]
    exact congrArg _ (cmdWrite_unnamed_reset hn hl (busy_eq_false hidle))
  · rw [abort, cmdWrite_abort_idle (busy_eq_false hidle)]
  · rw [abort, cmdWrite_abort_busy (busy_eq_true hbusy)]
  · have hv : (code.setWidth 32).toNat = code.toNat := by simp [BitVec.toNat_setWidth]; omega
    rw [exec_registerWrite, hv, judged code.isLt, cmdWrite_busy (busy_eq_true hbusy) (by simpa [BitVec.toNat_eq] using hF)]

end Sys2Proof.Machine
end

section
/-!
SUPPORT. A stored write (R4, R44): the fields of a register set one after the other.
-/

namespace Sys2Proof.Machine

/-- The fields `fs` of the register at `a`, each set to its value `x`. -/
def setFields (a : Nat) (x : RField → Nat) (fs : List RField) (s : State) : State := fs.foldl (fun t f => t.set (f.fld a) (x f)) s

variable {a : Nat} {x : RField → Nat}

@[simp] theorem setFields_nil (s : State) : setFields a x [] s = s := rfl

@[simp] theorem setFields_cons (f : RField) (fs : List RField) (s : State) :
    setFields a x (f :: fs) s = setFields a x fs (s.set (f.fld a) (x f)) := rfl

@[simp] theorem setFields_mem (fs : List RField) (s : State) : (setFields a x fs s).mem = s.mem := by
  induction fs generalizing s with
  | nil => rfl
  | cons f fs ih => rw [setFields_cons, ih, State.set_mem]

@[simp] theorem setFields_held (fs : List RField) (s : State) : (setFields a x fs s).held = s.held := by
  induction fs generalizing s with
  | nil => rfl
  | cons f fs ih => rw [setFields_cons, ih, State.set_held]

@[simp] theorem setFields_snaps (fs : List RField) (s : State) : (setFields a x fs s).snaps = s.snaps := by
  induction fs generalizing s with
  | nil => rfl
  | cons f fs ih => rw [setFields_cons, ih, State.set_snaps]

theorem setFields_get_ne {fs : List RField} {g : Fld} (h : ∀ f ∈ fs, g.key ≠ (f.fld a).key) (s : State) :
    (setFields a x fs s).get g = s.get g := by
  induction fs generalizing s with
  | nil => rfl
  | cons f fs ih =>
    rw [setFields_cons, ih (fun f' hf' => h f' (List.mem_cons_of_mem _ hf')), State.get_set_ne _ _ _ _ (h f List.mem_cons_self)]

/-- Fields of one register with different lowest bits do not share a key. -/
theorem fld_key_ne {f g : RField} (h : f.lsb ≠ g.lsb) : (f.fld a).key ≠ (g.fld a).key := by
  simpa [RField.fld, Fld.key] using h

/-- Fields of different registers do not share a key. -/
theorem fld_key_ne_of_addr {b : Nat} {f g : RField} (hf : f.lsb < 32) (hg : g.lsb < 32) (h : a ≠ b) : (f.fld a).key ≠ (g.fld b).key := by
  simp only [RField.fld, Fld.key]; omega

theorem setFields_get_mem {fs : List RField} (hnd : (fs.map RField.lsb).Nodup) {f : RField} (hf : f ∈ fs) (s : State) :
    (setFields a x fs s).get (f.fld a) = x f % 2 ^ f.w := by
  induction fs generalizing s with
  | nil => cases hf
  | cons f' fs ih =>
    obtain ⟨hfresh, hnd'⟩ := List.nodup_cons.1 hnd
    rw [setFields_cons]
    rcases List.mem_cons.1 hf with rfl | hf'
    · have others : ∀ g ∈ fs, (f.fld a).key ≠ (g.fld a).key :=
        fun g hg => fld_key_ne (fun e => hfresh (e ▸ List.mem_map_of_mem hg))
      rw [setFields_get_ne others, State.get_set_same]
      rfl
    · exact ih hnd' hf' _

/-! ### A write all of whose fields are stored -/

variable {who : Req} {v : Nat} {r : RRow} {l : List Nat}

/-- Plain fields named for the writer all take their parts, and none is discarded. -/
theorem writeFields_eq_setFields (h : ∀ f ∈ r.fs, f.acc = .rw ∧ mayWrite who l f = true ∧ f.cond = .none) (s : State) :
    writeFields who a v r l s = (false, setFields a (fun f => f.part r.chk v) r.fs s) := by
  unfold writeFields
  generalize hfs : r.fs = fs at h
  clear hfs
  suffices hall : ∀ t, fs.foldl _ (false, t) = (false, setFields a (fun f => f.part r.chk v) fs t) from hall s
  induction fs with
  | nil => exact fun t => rfl
  | cons f fs ih =>
    intro t
    obtain ⟨hacc, hmay, hcond⟩ := h f List.mem_cons_self
    rw [List.foldl_cons, setFields_cons, ← ih (fun f' hf' => h f' (List.mem_cons_of_mem _ hf'))]
    simp [RField.writable, hacc, hmay, hcond, condForbids, RField.next]

theorem regStore_eq_setFields (hne : r.fs ≠ []) (h : ∀ f ∈ r.fs, f.acc = .rw ∧ mayWrite who l f = true ∧ f.cond = .none)
    {s : State} (hbad : writeBad a v r l s = false) :
    regStore who a v r l s = busOk (setFields a (fun f => f.part r.chk v) r.fs s) := by
  have named : r.fs.any (fun f => f.writable && mayWrite who l f) = true := by
    obtain ⟨f, hf⟩ := List.exists_mem_of_ne_nil _ hne
    obtain ⟨hacc, hmay, -⟩ := h f hf
    exact List.any_eq_true.2 ⟨f, hf, by simp [RField.writable, hacc, hmay]⟩
  simp [regStore, writable_of_named named, named, hbad, writeFields_eq_setFields h]

/-- What a write brings with it does not turn an error response of the store into none. -/
theorem plainWrite_err {s : State} (h : (regStore who a v r l s).bus.err = true) : (plainWrite who a v r l s).bus.err = true := by
  simp only [plainWrite, h, if_true]

end Sys2Proof.Machine
end

section
/-!
O7: what a write to a register stores and what it leaves.
-/

namespace Sys2Proof.Machine
open Reg

/-- Settles O7: a store of plain named fields is a row of `State.set`; every other case is one branch of the register's write. -/
theorem writesStoreNamedFieldsOnly : Obligations.WritesStoreNamedFieldsOnly := by
  refine ⟨?_, ?_, ?_⟩
  · intro who a v r l s hnd hne hfs hbad
    rw [regStore_eq_setFields hne (fun f hf => let ⟨hacc, hmay, hcond, _⟩ := hfs f hf; ⟨hacc, hmay, hcond⟩) hbad]
    refine ⟨fun f hf => ?_, fun g hg => ?_, rfl, ?_, ?_⟩
    · exact setFields_get_mem hnd hf s
    · exact setFields_get_ne hg s
    · exact setFields_mem r.fs s
    · exact setFields_held r.fs s
  · intro who a v r l s u hrow hal hy hmay hshut hc
    have hr : Reaches who a.toNat r l s := ⟨hrow, hal, hy, hmay⟩
    refine ⟨fun hw hn => ?_, fun hw => ?_, fun hstop => ?_, fun hd => debugSeen_of_ne hd s, rfl⟩
    · rw [exec_registerWrite, hr.busWrite_eq, regWrite_unnamed hshut hc hw hn]
    · rw [exec_registerWrite, hr.busWrite_eq, regWrite_readOnly hshut hc hw]
    · rw [exec_registerWrite, busWrite_stopped hstop]
  · intro who a v r l s u hrow hal hy hmay hc hwide hn hown
    have hr : Reaches who a.toNat r l s := ⟨hrow, hal, hy, hmay⟩
    rw [exec_registerWrite, hr.busWrite_eq]
    refine ⟨fun hshut => ?_, fun hshut => ?_, fun hok => ?_⟩
    · rw [regWrite_plain hshut hc hn hwide hown]
    · rw [regWrite_shut hshut]
    · exact Bool.eq_false_iff.2 (fun herr => Bool.eq_false_iff.1 hok (plainWrite_err herr))

end Sys2Proof.Machine
end

section
/-!
SUPPORT. Wide values (R47): words held, held words applied, and snapshots.
-/

namespace Sys2Proof.Machine

/-! ### The tables of held words and snapshots -/

theorem storeGet_put_same (d k v : Nat) (t : Store) : storeGet d k (storePut k v t) = v := storeGet_ins_drop d k v t

theorem storeGet_put_ne (d : Nat) {k j : Nat} (v : Nat) (h : j ≠ k) (t : Store) : storeGet d j (storePut k v t) = storeGet d j t := by
  rw [storePut, storeGet_ins_ne d v h, storeGet_drop_ne d h]

theorem find?_storeDrop_ne {w k : Nat} (h : w ≠ k) (t : Store) :
    (storeDrop k t).find? (fun e => e.1 == w) = t.find? (fun e => e.1 == w) := by
  rw [storeDrop_eq, List.find?_filter]
  refine congrArg (List.find? · t) (funext fun e => ?_)
  by_cases he : e.1 = w
  · simp [he, h]
  · simp [he]

theorem mem_of_mem_storeDrop {k : Nat} {e : Nat × Nat} {t : Store} (h : e ∈ storeDrop k t) : e ∈ t :=
  List.mem_of_mem_filter (storeDrop_eq k t ▸ h)

theorem storeDrop_of_find?_none {k : Nat} {t : Store} (h : t.find? (fun e => e.1 == k) = none) : storeDrop k t = t := by
  rw [storeDrop_eq, List.filter_eq_self]
  exact fun e he => by simpa using List.find?_eq_none.1 h e he

/-! ### A word held -/

variable {who : Req} {a v : Nat} {r : RRow} {l : List Nat} {s : State}

/-- A word of a wide value whose lower words are held: a lower one, or the highest. -/
theorem heldPlace_eq {ws : List Nat} (h : wideFind a = some (true, ws)) : heldPlace a = some (decide (a + 4 ≤ ws.foldl max 0)) := by
  simp only [heldPlace, h]

/-- The word that a written word is held as: read-only fields hold nothing. -/
def RRow.holdOf (r : RRow) (v : Nat) : Nat := (r.fs.map (fun f => if f.acc == .ro then 0 else f.part r.chk v * 2 ^ f.lsb)).sum

theorem holdWord_bad (hbad : writeBad a v r l s = true) : holdWord who a v r l s = busErr s := by
  simp only [holdWord, hbad, Bool.or_true, if_true]

section Named
variable (hn : r.fs.any (fun f => f.writable && mayWrite who l f) = true)
include hn

theorem holdWord_good (hgood : writeBad a v r l s = false) : holdWord who a v r l s =
    busOk { s with
      held := storePut a (r.holdOf v) s.held
      snaps := s.snaps.map (fun e => if e.1 % 2 ^ 40 = a then (e.1, r.holdOf v) else e) } := by
  simp only [holdWord, hn, hgood, Bool.not_true, Bool.or_self, Bool.false_eq_true, if_false, RRow.holdOf]

/-! ### The highest word -/

variable {lower : List Nat} (hgood : writeBad a v r l s = false)
include hgood

theorem applyWord_reference (hstall : (regBlock a).1 < 4) (hblock : (regBlock a).2 = 4) :
    applyWord who a v lower r l s = referenceApply (regBlock a).1 v s := by
  simp only [applyWord, hn, hgood, Bool.not_true, Bool.or_self, Bool.false_eq_true, if_false, hstall, hblock, and_self, if_true]

theorem applyWord_travelPreset (hstall : (regBlock a).1 < 4) (hblock : (regBlock a).2 = 3) (hoff : a % 0x10000 = 0x8034) :
    applyWord who a v lower r l s = travelPreset (regBlock a).1 v s := by
  simp [applyWord, hn, hgood, hstall, hblock, hoff]

theorem applyWord_window (hyard : (regBlock a).1 = 4) (hblock : (regBlock a).2 = 6) : applyWord who a v lower r l s =
    Out.state (execWindowApply (Fin.ofNat 4 ((a % 0x10000 - 0x8034) / 8)) (BitVec.ofNat 32 v) s) s := by
  simp [applyWord, hn, hgood, hyard, hblock]

theorem applyWord_fields (hstall : (regBlock a).1 < 4 → (regBlock a).2 ≠ 4 ∧ ((regBlock a).2 = 3 → a % 0x10000 ≠ 0x8034))
    (hyard : (regBlock a).1 = 4 → (regBlock a).2 ≠ 6) : applyWord who a v lower r l s =
    (let t := regStore who a v r l (applyHeld lower s)
    if travelLimitsOk a t then t else busErr s) := by
  have href : ¬((regBlock a).1 < 4 ∧ (regBlock a).2 = 4) := fun ⟨h1, h2⟩ => (hstall h1).1 h2
  have hpre : ¬((regBlock a).1 < 4 ∧ (regBlock a).2 = 3 ∧ a % 0x10000 = 0x8034) := fun ⟨h1, h2, h3⟩ => (hstall h1).2 h2 h3
  have hwin : ¬((regBlock a).1 = 4 ∧ (regBlock a).2 = 6) := fun ⟨h1, h2⟩ => hyard h1 h2
  simp only [applyWord, hn, hgood, Bool.not_true, Bool.or_self, Bool.false_eq_true, if_false, href, hpre, hwin]

end Named

/-! ### Held words applied -/

theorem applyHeld_cons (ws : List Nat) (s : State) : applyHeld (a :: ws) s = applyHeld ws (applyHeld [a] s) := rfl

theorem applyHeld_one_none (h : s.held.find? (fun e => e.1 == a) = none) : applyHeld [a] s = s := by
  simp only [applyHeld, List.foldl_cons, List.foldl_nil, h]
  cases regAt a <;> rfl

/-- A held word is held no more, and its read-write fields take their parts of it. -/
theorem applyHeld_one_some (hrow : regAt a = some (r, l)) {e : Nat × Nat} (h : s.held.find? (fun e => e.1 == a) = some e) :
    applyHeld [a] s = setFields a (fun f => f.part r.chk e.2) (r.fs.filter (fun f => f.acc == .rw)) { s with held := storeDrop a s.held } := by
  simp only [applyHeld, List.foldl_cons, List.foldl_nil, hrow, h, setFields, List.foldl_filter]

theorem applyHeld_one_held (hrow : regAt a = some (r, l)) (s : State) : (applyHeld [a] s).held = storeDrop a s.held := by
  cases h : s.held.find? (fun e => e.1 == a) with
  | none => rw [applyHeld_one_none h, storeDrop_of_find?_none h]
  | some e => rw [applyHeld_one_some hrow h, setFields_held]

theorem applyHeld_one_mem (hrow : regAt a = some (r, l)) (s : State) : (applyHeld [a] s).mem = s.mem := by
  cases h : s.held.find? (fun e => e.1 == a) with
  | none => rw [applyHeld_one_none h]
  | some e => rw [applyHeld_one_some hrow h, setFields_mem]

theorem applyHeld_one_snaps (hrow : regAt a = some (r, l)) (s : State) : (applyHeld [a] s).snaps = s.snaps := by
  cases h : s.held.find? (fun e => e.1 == a) with
  | none => rw [applyHeld_one_none h]
  | some e => rw [applyHeld_one_some hrow h, setFields_snaps]

/-- A field that is no read-write field of the held word keeps its value. -/
theorem applyHeld_one_get_ne (hrow : regAt a = some (r, l)) {g : Fld}
    (hg : ∀ d, (a, d) ∈ s.held → ∀ f ∈ r.fs, f.acc = .rw → g.key ≠ (f.fld a).key) : (applyHeld [a] s).get g = s.get g := by
  cases h : s.held.find? (fun e => e.1 == a) with
  | none => rw [applyHeld_one_none h]
  | some e =>
    have hkey : e.1 = a := by simpa using List.find?_some h
    have hmem : (a, e.2) ∈ s.held := hkey ▸ List.mem_of_find?_eq_some h
    rw [applyHeld_one_some hrow h, setFields_get_ne (fun f hf => ?_)]
    · rfl
    · obtain ⟨hf, hacc⟩ := List.mem_filter.1 hf
      exact hg e.2 hmem f hf (by simpa using hacc)

/-- A register stands at `w`, and its fields lie apart in its word. -/
def RowApart (w : Nat) : Prop := ∃ r l, regAt w = some (r, l) ∧ (r.fs.map RField.lsb).Nodup ∧ ∀ f ∈ r.fs, f.lsb < 32

theorem RowApart.of_regAt {w : Nat} (h : RowApart w) (hrow : regAt w = some (r, l)) :
    (r.fs.map RField.lsb).Nodup ∧ ∀ f ∈ r.fs, f.lsb < 32 := by
  obtain ⟨r', l', hrow', hapart⟩ := h
  obtain ⟨rfl, rfl⟩ : r' = r ∧ l' = l := by simpa [hrow] using hrow'.symm
  exact hapart

theorem applyHeld_mem {ws : List Nat} (hws : ∀ w ∈ ws, RowApart w) (s : State) : (applyHeld ws s).mem = s.mem := by
  induction ws generalizing s with
  | nil => rfl
  | cons a ws ih =>
    obtain ⟨⟨r, l, hrow, -⟩, hws'⟩ := List.forall_mem_cons.1 hws
    rw [applyHeld_cons, ih hws', applyHeld_one_mem hrow]

theorem applyHeld_snaps {ws : List Nat} (hws : ∀ w ∈ ws, RowApart w) (s : State) : (applyHeld ws s).snaps = s.snaps := by
  induction ws generalizing s with
  | nil => rfl
  | cons a ws ih =>
    obtain ⟨⟨r, l, hrow, -⟩, hws'⟩ := List.forall_mem_cons.1 hws
    rw [applyHeld_cons, ih hws', applyHeld_one_snaps hrow]

/-- The words applied are held no more; every other word stays as it was. -/
theorem heldOr_applyHeld {ws : List Nat} (hws : ∀ w ∈ ws, RowApart w) (s : State) (w d : Nat) :
    heldOr (applyHeld ws s) w d = if w ∈ ws then d else heldOr s w d := by
  induction ws generalizing s with
  | nil => rfl
  | cons a ws ih =>
    obtain ⟨⟨r, l, hrow, -⟩, hws'⟩ := List.forall_mem_cons.1 hws
    have one : heldOr (applyHeld [a] s) w d = if w = a then d else heldOr s w d := by
      rw [heldOr, applyHeld_one_held hrow]
      split
      case isTrue h => rw [h, storeGet_drop_same]
      case isFalse h => exact storeGet_drop_ne d h s.held
    rw [applyHeld_cons, ih hws', one]
    by_cases hw : w ∈ ws <;> simp [hw]

/-- A field that is no read-write field of a held word keeps its value. -/
theorem applyHeld_get_ne {ws : List Nat} (hws : ∀ w ∈ ws, RowApart w) {g : Fld} {s : State}
    (hg : ∀ w d r l, w ∈ ws → regAt w = some (r, l) → (w, d) ∈ s.held → ∀ f ∈ r.fs, f.acc = .rw → g.key ≠ (f.fld w).key) :
    (applyHeld ws s).get g = s.get g := by
  induction ws generalizing s with
  | nil => rfl
  | cons a ws ih =>
    obtain ⟨⟨r, l, hrow, -⟩, hws'⟩ := List.forall_mem_cons.1 hws
    rw [applyHeld_cons, ih hws', applyHeld_one_get_ne hrow]
    · exact fun d hd => hg a d r l List.mem_cons_self hrow hd
    · intro w d r' l' hw hrow' hd
      exact hg w d r' l' (List.mem_cons_of_mem _ hw) hrow' (mem_of_mem_storeDrop (applyHeld_one_held hrow s ▸ hd))

/-- Every read-write field of a held word takes its part of that word. -/
theorem applyHeld_get_mem {ws : List Nat} (hnd : ws.Nodup) (hws : ∀ w ∈ ws, RowApart w) {s : State} {w d : Nat} (hw : w ∈ ws)
    (hrow : regAt w = some (r, l)) (hheld : s.held.find? (fun e => e.1 == w) = some (w, d)) {f : RField} (hf : f ∈ r.fs) (hacc : f.acc = .rw) :
    (applyHeld ws s).get (f.fld w) = f.part r.chk d % 2 ^ f.w := by
  induction ws generalizing s with
  | nil => cases hw
  | cons a ws ih =>
    obtain ⟨hfresh, hnd'⟩ := List.nodup_cons.1 hnd
    obtain ⟨⟨ra, la, hrowa, -⟩, hws'⟩ := List.forall_mem_cons.1 hws
    rw [applyHeld_cons]
    by_cases hwa : w = a
    · subst hwa
      obtain ⟨hlsb, hbound⟩ := (hws w List.mem_cons_self).of_regAt hrow
      rw [applyHeld_get_ne hws']
      · rw [applyHeld_one_some hrow hheld]
        exact setFields_get_mem (hlsb.sublist (List.filter_sublist.map _)) (List.mem_filter.2 ⟨hf, by simp [hacc]⟩) _
      · intro w' d' r' l' hw' hrow' _ f' hf' _
        exact fld_key_ne_of_addr (hbound f hf) (((hws' w' hw').of_regAt hrow').2 f' hf') (fun e => hfresh (e ▸ hw'))
    · refine ih hnd' hws' ((List.mem_cons.1 hw).resolve_left hwa) ?_
      rw [applyHeld_one_held hrowa, find?_storeDrop_ne hwa, hheld]

/-! ### Snapshots -/

theorem snapKey_inj {b c : Nat} : snapKey who b = snapKey who c ↔ b = c := by
  simp [snapKey]

/-- What a word reads as does not depend on the snapshots taken. -/
@[simp] theorem heldWord_snaps (b : Nat) (t : Store) (s : State) : heldWord b { s with snaps := t } = heldWord b s := rfl

/-- The snapshots `t` with the words `ws` of `s` snapshot for `who`. -/
def wideSnaps (who : Req) (s : State) (ws : List Nat) (t : Store) : Store :=
  ws.foldl (fun t b => storePut (snapKey who b) (heldWord b s) t) t

theorem wideSnap_eq (ws : List Nat) (s : State) : wideSnap who ws s = { s with snaps := wideSnaps who s ws s.snaps } := by
  induction ws generalizing s with
  | nil => rfl
  | cons b ws ih => exact ih { s with snaps := storePut (snapKey who b) (heldWord b s) s.snaps }

theorem wideSnaps_get_ne {ws : List Nat} {k : Nat} (h : ∀ b ∈ ws, k ≠ snapKey who b) (d : Nat) (t : Store) :
    storeGet d k (wideSnaps who s ws t) = storeGet d k t := by
  induction ws generalizing t with
  | nil => rfl
  | cons b ws ih =>
    obtain ⟨hb, hws⟩ := List.forall_mem_cons.1 h
    exact (ih hws _).trans (storeGet_put_ne d _ hb t)

theorem wideSnaps_get_mem {ws : List Nat} {b : Nat} (h : b ∈ ws) (d : Nat) (t : Store) :
    storeGet d (snapKey who b) (wideSnaps who s ws t) = heldWord b s := by
  induction ws generalizing t with
  | nil => cases h
  | cons c ws ih =>
    by_cases hb : b ∈ ws
    · exact ih hb _
    · obtain rfl : b = c := (List.mem_cons.1 h).resolve_right hb
      have others : ∀ c ∈ ws, snapKey who b ≠ snapKey who c := fun c hc e => hb (snapKey_inj.1 e ▸ hc)
      exact (wideSnaps_get_ne others d _).trans (storeGet_put_same d _ _ t)

/-- The words of a wide value are different registers. -/
theorem wideFind_nodup {h : Bool} {ws : List Nat} (hw : wideFind a = some (h, ws)) : ws.Nodup := by
  have offsets : ∀ r ∈ wideRows, r.offs.Nodup := by decide
  obtain ⟨row, hrow, hfind⟩ := List.exists_of_findSome?_eq_some hw
  obtain ⟨o, -, hplace⟩ := List.exists_of_findSome?_eq_some hfind
  split at hplace
  · obtain ⟨_, -, hval⟩ := Option.map_eq_some_iff.1 hplace
    obtain ⟨-, rfl⟩ := Prod.mk.inj hval
    exact (offsets row hrow).map (fun p q hpq => by simpa using hpq)
  · cases hplace

theorem readWord_wideSnaps {ws : List Nat} (ha : a ∉ ws) (s : State) :
    readWord who a { s with snaps := wideSnaps who s ws s.snaps } = readWord who a s := by
  have others : ∀ b ∈ ws, snapKey who a ≠ snapKey who b := fun b hb e => ha (snapKey_inj.1 e ▸ hb)
  exact wideSnaps_get_ne others _ _

/-- A read of the lowest word answers it, and snapshots the others. -/
theorem regRead_lowest {h : Bool} {ws : List Nat} (hw : wideFind a = some (h, a :: ws)) (hs : windowShut a false s = false) :
    regRead who a s =
      { s with snaps := wideSnaps who s ws s.snaps, bus := ⟨false, BitVec.ofNat 64 (readWord who a s)⟩ } := by
  have ha : a ∉ ws := (List.nodup_cons.1 (wideFind_nodup hw)).1
  simp only [regRead, hs, hw, Bool.false_eq_true, if_false, if_true, wideSnap_eq, readWord_wideSnaps ha]

theorem exec_wideReadSnapshot {a : BitVec 40} {h : Bool} {ws : List Nat} (hw : wideFind a.toNat = some (h, a.toNat :: ws))
    (hmay : mayAccess who a.toNat false (debugSeen who s) = true) :
    exec (.wideReadSnapshot who a) s = .next (regRead who a.toNat (debugSeen who s)) := by
  change execWideReadSnapshot who a s = _
  simp only [execWideReadSnapshot, hw, hmay, and_self, if_true, ok]

end Sys2Proof.Machine
end

section
/-!
O10: wide values.
-/

namespace Sys2Proof.Machine

/-- Settles O10: the held words by the table's lookup laws, their application by induction on the words, the snapshots likewise. -/
theorem wideWordsHeldAndSnapshot : Obligations.WideWordsHeldAndSnapshot := by
  refine ⟨?_, ?_, ?_⟩
  · intro who a v r l ws s u hrow hal hy hmay hshut hc hwide hn
    have hr : Reaches who a.toNat r l s := ⟨hrow, hal, hy, hmay⟩
    have hold : a.toNat + 4 ≤ ws.foldl max 0 → exec (.wideWordHold who a v) s = .next (holdWord who a.toNat v.toNat r l u) := by
      intro hlow
      rw [exec_wideWordHold, heldPlace_eq hwide, decide_eq_true hlow, beq_self_eq_true, State.when_true, hr.busWrite_eq,
        regWrite_hold hshut hc hn hwide hlow]
    have applied : ¬a.toNat + 4 ≤ ws.foldl max 0 →
        exec (.wideWordApply who a v) s = .next (applyWord who a.toNat v.toNat (ws.filter (fun w => w < a.toNat)) r l u) := by
      intro hhigh
      rw [exec_wideWordApply, heldPlace_eq hwide, decide_eq_false hhigh, beq_self_eq_true, State.when_true, hr.busWrite_eq,
        regWrite_apply hshut hc hn hwide hhigh]
    refine ⟨fun hlow hgood => ?_, fun hlow hbad => ?_,
      fun hhigh hgood => ⟨fun hst hbl => ?_, fun hst hbl hoff => ?_, fun hyard hbl => ?_, fun hst hyard => ?_⟩⟩
    · rw [hold hlow, holdWord_good hn hgood]
      refine ⟨_, rfl, rfl, rfl, rfl, storeGet_put_same 0 _ _ _, fun b d hb => ?_, ?_⟩
      · exact (storeGet_put_ne d _ hb _).trans (congrArg _ (debugSeen_held who s))
      · simp only [heldOr, busOk, storeGet_put_same, u, debugSeen_snaps]
    · rw [hold hlow, holdWord_bad hbad]
    · rw [applied hhigh, applyWord_reference hn hgood hst hbl]
    · rw [applied hhigh, applyWord_travelPreset hn hgood hst hbl hoff]
    · rw [applied hhigh, applyWord_window hn hgood hyard hbl, BitVec.ofNat_toNat, BitVec.setWidth_eq]
      exact next_state_exec (.windowApply (Fin.ofNat 4 ((a.toNat % 0x10000 - 0x8034) / 8)) v) u u
    · rw [applied hhigh, applyWord_fields hn hgood hst hyard]
  · intro ws s hnd hws
    exact ⟨fun w d r l hw hrow hheld f hf hacc => applyHeld_get_mem hnd hws hw hrow hheld hf hacc, fun g hg => applyHeld_get_ne hws hg,
      heldOr_applyHeld hws s, applyHeld_mem hws s, applyHeld_snaps hws s⟩
  · intro who a h ws s u hwide hmay hshut
    rw [exec_wideReadSnapshot hwide hmay, regRead_lowest hwide hshut]
    exact ⟨_, rfl, rfl, rfl, rfl, rfl, fun b hb => wideSnaps_get_mem hb 0 _, fun k hk => wideSnaps_get_ne hk 0 _⟩

end Sys2Proof.Machine
end

section
/-!
O6: every step keeps the canonical forms.
-/

namespace Sys2Proof.Machine

/-- Every command keeps the canonical forms and the queue: one lemma of `Laws/Keeps*.lean` for each, in the dispatcher's order. -/
theorem exec_keeps (c : Instr) (s : State) : KeepsOut s (exec c s) := by
  have h := Keeps.refl s
  cases c
  exacts [
    execRegisterWrite_keeps h, execAccessViolation_keeps h, execVotedSramRead_keeps h, execWideWordHold_keeps h, execWideWordApply_keeps h,
    execWideReadSnapshot_keeps h, execAbort_keeps h, execCommandClear_keeps h, execUnlistedCommand_keeps h, execXtalLost_keeps h,
    execFineCoarse_keeps h, execFineReturn_keeps h, execSyncOutPulse_keeps h, execSyncInPulse_keeps h, execSyncLost_keeps h, execLock_keeps h,
    execEpochLoad_keeps h, execRelease_keeps h, execSlackMinWrite_keeps h, execSelLoad_keeps h, execLoadInstant_keeps h, execCarrierZero_keeps h,
    execConversionDone_keeps h, execCheckConversionDone_keeps h, execModCtrlWrite_keeps h, execModFilterFilled_keeps h, execEvModClip_keeps h,
    execModStuck_keeps h, execModUnstuck_keeps h, execConverterCheckStart_keeps h, execConverterCheckDone_keeps h, execSpareCheckDone_keeps h,
    execPathReturn_keeps h, execCalRun_keeps h, execZeroApplied_keeps h, execFullApplied_keeps h, execCaptureDone_keeps h,
    execCalWaitTimeout_keeps h, execCalCommitDone_keeps h, execMonEnable_keeps h, execMonDisable_keeps h, execMonThrLoad_keeps h,
    execEvMonResolved_keeps h, execMonFilterAssert_keeps h, execMonFilterDeassert_keeps h, execMonLatchClear_keeps h, execMonHardAssert_keeps h,
    execMonHardDeassert_keeps h, execPosEnable_keeps h, execPosDisable_keeps h, execPosInternalInstant_keeps h, execResUpdate_keeps h,
    execExcFault_keeps h, execEncoderEdge_keeps h, execEncoderLoss_keeps h, execIndex_keeps h, execHallEdge_keeps h, execEvHallIllegal_keeps h,
    execHallIllegalTimeout_keeps h, execSsiFrame_keeps h, execSentFrame_keeps h, execSentTimeout_keeps h, execTravelPreset_keeps h,
    execProbeEdge_keeps h, execProbeRearm_keeps h, execStillTimeout_keeps h, execBemfQualSet_keeps h, execBemfQualClear_keeps h,
    execLoopStart_keeps h, execLoopStop_keeps h, execPset_keeps h, execEvPset_keeps h, execReferenceApply_keeps h, execLoopPeriodDone_keeps h,
    execLatePeriod_keeps h, execRecoveryDone_keeps h, execEvEngineRejoin_keeps h, execFerrTimeout_keeps h, execPwmStart_keeps h,
    execEvPwmStart_keeps h, execPwmStop_keeps h, execTripClear_keeps h, execArm_keeps h, execCompareEdge_keeps h, execDeadTimeEnd_keeps h,
    execMinpEnd_keeps h, execTripAssert_keeps h, execTripJudge_keeps h, execCoherentLoad_keeps h, execRefCarrierEnable_keeps h,
    execRefCarrierDisable_keeps h, execReferenceZero_keeps h, execAuxEnable_keeps h, execAuxDisable_keeps h, execAuxZero_keeps h,
    execAuxOnTimeEnd_keeps h, execEvAuxDemand_keeps h, execDemandEnd_keeps h, execAuxEnFall_keeps h, execAuxEnRise_keeps h, execHeartbeat_keeps h,
    execDownlinkAccessFrame_keeps h, execStatusFrame_keeps h, execReplyFrame_keeps h, execUplinkFrameError_keeps h, execFaultPattern_keeps h,
    execUplinkSilence_keeps h, execNoFrameTimeout_keeps h, execReinStart_keeps h, execTrainLockTimeout_keeps h, execReinStop_keeps h,
    execSend_keeps h, execAccessTimeout_keeps h, execSafe_keeps h, execDecisionWaitEnd_keeps h, execDwellExpiry_keeps h, execSwOvrWrite_keeps h,
    execStallEnFall_keeps h, execStallEnRise_keeps h, execEvPsfClrFail_keeps h, execProtRelease_keeps h, execEvSafeRelease_keeps h,
    execDischargeRun_keeps h, execDisReq_keeps h, execEvDisDone_keeps h, execDischargeTimeout_keeps h, execEnergyDecay_keeps h,
    execTjAgeTimeout_keeps h, execDerateTick_keeps h, execSheepdogCycle_keeps h, execKick_keeps h, execWatchdogExpiry_keeps h,
    execShdSramUe_keeps h, execDsReq_keeps h, execEvShdCmd_keeps h, execSafetyRaise_keeps h, execSafetyAck_keeps h, execWindowApply_keeps h,
    execEvSto_keeps h, execStoRise_keeps h, execEvStoDisc_keeps h, execStoAck_keeps h, execSs1Run_keeps h, execSs1Restart_keeps h,
    execFnSelWrite_keeps h, execCtcCloseWrite_keeps h, execCtcForceOpen_keeps h, execEvCtcFault_keeps h, execDisRepeat_keeps h, execSealCmd_keeps h,
    execEvSealDone_keeps h, execYokeTransaction_keeps h, execVoteTimeout_keeps h, execYokeSramUe_keeps h, execSigReq_keeps h,
    execInterruptEntry_keeps h, execResync_keeps h, execAutoResync_keeps h, execEvYokeResync_keeps h, execYokeWdKick_keeps h, execEvYokeWd_keeps h,
    execEvLockstepBroken_keeps h, execGrantDecision_keeps h, execBurstDone_keeps h, execRefresh_keeps h, execDramTempRead_keeps h,
    execPorterCommit_keeps h, execAlloc_keeps h, execFree_keeps h, execGive_keeps h, execCaskZeroed_keeps h, execEvCellarUe_keeps h,
    execStagingFlush_keeps h, execTimeRecord_keeps h, execStreamRecordClose_keeps h, execTrigger_keeps h, execEvLogFrozen_keeps h,
    execLogbookArm_keeps h, execRainflowTick_keeps h, execLedgerAutoCommit_keeps h, execCommit_keeps h, execEvLedgerCommit_keeps h,
    execLedgerLoadDone_keeps h, execCalSet_keeps h, execAlign_keeps h, execAutoAlign_keeps h, execVbakCheck_keeps h, execCanEnable_keeps h,
    execCanDisable_keeps h, execCanIntegrated_keeps h, execPush_keeps h, execFlush_keeps h, execRecover_keeps h, execCanRecovered_keeps h,
    execEvCanTx_keeps h, execEvCankRx_keeps h, execProtocolException_keeps h, execCanRxDominant_keeps h, execRxqAck_keeps h, execTxrAck_keeps h,
    execEthFrameRx_keeps h, execEvEthRx_keeps h, execEthRxReturn_keeps h, execEthTxQueue_keeps h, execEthFrameTx_keeps h,
    execEthTxAgeExpiry_keeps h, execEvEthLink_keeps h, execSyncMessage_keeps h, execSyncTransmit_keeps h, execPeerDelayMessage_keeps h,
    execSyncTimeout_keeps h, execGmWrite_keeps h, execApply_keeps h, execEvGclApply_keeps h, execGateEntryEnd_keeps h, execDisable_keeps h,
    execCheck_keeps h, execEvAuthResult_keeps h, execAuthLockEnd_keeps h, execEvAuthLapse_keeps h, execAuthSecond_keeps h,
    execEvAuthInhibit_keeps h, execWrite_keeps h, execEvConfigDone_keeps h, execReconf_keeps h, execReconfDone_keeps h, execConfirm_keeps h,
    execAbandon_keeps h, execRollfwd_keeps h, execProg_keeps h, execRevoke_keeps h, execEvKeyDone_keeps h, execBistRun_keeps h, execRetest_keeps h,
    execEvBistDone_keeps h, execEvRetestDone_keeps h, execBurn_keeps h, execClose_keeps h, execOpenRead_keeps h, execOpenWrite_keeps h,
    execLockdown_keeps h, execExtest_keeps h, execIntscan_keeps h, execDevreset_keeps h, execPowerUp_keeps h, execPorRelease_keeps h,
    execPowerOnReset_keeps h, execEvVinLow_keeps h, execEvVinHigh_keeps h, execVinHighClear_keeps h, execResetLLow_keeps h, execDeviceReset_keeps h,
    execDeviceResetRelease_keeps h, execDevice_keeps h, execYoke_keeps h, execInnkeeper_keeps h, execStall_keeps h, execStallResetDone_keeps h,
    execBootStart_keeps h, execXtalOk_keeps h, execXtalBootTimeout_keeps h, execSelfTestDone_keeps h, execImageLoaded_keeps h,
    execEvBootDone_keeps h, execBootTimeout_keeps h, execLantern_keeps h, execOffCmd_keeps h, execLanternParked_keeps h, execWake_keeps h,
    execCalendarAlarm_keeps h, execMonitorWake_keeps h, execVsensOverload_keeps h, execVsensEnable_keeps h, execPowerMeasure_keeps h,
    execTrainStepTimeout_keeps h, execRollfwdDone_keeps h, execBurnDone_keeps h, execCalendarSlewEnd_keeps h, execCanRxError_keeps h,
    execReinPatternEnd_keeps h]

/-- The tick and every command keep the canonical forms; taking a command off the queue touches none of them. -/
theorem step_keeps_inv {s t : State} (hs : s.Inv) (h : step s = .next t) : t.Inv := by
  unfold step at h
  split at h
  · obtain rfl := Host.Outcome.next.inj h
    exact (tick_keeps (Keeps.refl s)).inv hs
  · exact (exec_keeps _ _ t h).inv hs

/-- Settles O6: the case split of `step_keeps_inv`. -/
theorem stepKeepsCanonical : Obligations.StepKeepsCanonical := fun _ _ => step_keeps_inv

end Sys2Proof.Machine
end

section
/-!
O8: an access without the right to it.
-/

namespace Sys2Proof.Machine
open Reg

/-- No requester has a right to a reserved address. -/
theorem mayAccess_reserved {a : Nat} {s : State} (h : regionOf a s = none) (who : Req) (w : Bool) : mayAccess who a w s = false := by
  simp only [mayAccess, h]

theorem exec_accessViolation (who : Req) (a : BitVec 40) (w : Bool) (s : State) :
    exec (.accessViolation who a w) s = .next (s.when (!mayAccess who a.toNat w s) (violation (reqCode who) a.toNat w)) := rfl

/-- A write without the right to it stores nothing: the whole access is the violation. -/
theorem busWrite_violation {who : Req} {a : Nat} {s : State} (issued : who = .y → s.get YOKE_STAT_MODE ≠ 3)
    (h : mayAccess who a true (debugSeen who s) = false) (v : Nat) :
    busWrite who a v s = violation (reqCode who) a true (debugSeen who s) := by
  have running : ¬(who = .y ∧ (debugSeen who s).get YOKE_STAT_MODE = 3) := by
    rw [yokeStopped_debugSeen]; exact fun ⟨hy, hm⟩ => issued hy hm
  simp only [busWrite, if_neg running, h, Bool.not_false, if_true, violate]

theorem busRead_violation {who : Req} {a : Nat} {s : State} (h : mayAccess who a false s = false) (size : Nat) :
    busRead who a size s = violation (reqCode who) a false s := by
  simp only [busRead, h, Bool.not_false, if_true, violate]

@[simp] theorem flag_eq_false_iff (s : State) (f : Fld) : s.flag f = false ↔ s.get f = 0 := by
  simp [State.flag]

@[simp] theorem flag_eq_true_iff (s : State) (f : Fld) : s.flag f = true ↔ s.get f ≠ 0 := by
  simp [State.flag]

/-- What `VALID` holds does not depend on the violation count. -/
theorem violationValid_counted (s : State) :
    ((busErr s).inc SYS_VIOL_COUNT_COUNT).get SYS_VIOL_INFO_VALID = s.get SYS_VIOL_INFO_VALID :=
  State.get_set_ne (busErr s) _ _ _ (by decide)

/-- While a captured violation stands, a further one is only counted. -/
theorem violation_counted {s : State} (h : s.get SYS_VIOL_INFO_VALID ≠ 0) (q a : Nat) (w : Bool) :
    violation q a w s = raiseEvent 0 ((busErr s).inc SYS_VIOL_COUNT_COUNT) := by
  have held := (flag_eq_true_iff _ _).2 (violationValid_counted s ▸ h)
  simp only [violation, held, Bool.not_true, State.when_false]

theorem violation_captured {s : State} (h : s.get SYS_VIOL_INFO_VALID = 0) (q a : Nat) (w : Bool) :
    violation q a w s = raiseEvent 0 ((((((busErr s).inc SYS_VIOL_COUNT_COUNT).setWide SYS_VIOL_ADDR_LO_ADDR SYS_VIOL_ADDR_HI_ADDR a).set
      SYS_VIOL_INFO_REQ q).setB SYS_VIOL_INFO_WRITE w).set SYS_VIOL_INFO_VALID 1) := by
  have free := (flag_eq_false_iff _ _).2 ((violationValid_counted s).trans h)
  simp only [violation, free, Bool.not_false, State.when_true]

/-- Settles O8, by the way the access takes (a command row, a write, a read) and by whether a violation is captured already. -/
theorem violationsEndInError : Obligations.ViolationsEndInError := by
  refine ⟨fun who a w s h => mayAccess_reserved h who w, fun who a w s h => ?_, fun who a v s hy h => ?_,
    fun who a size s h => busRead_violation h size, fun q a w s h => violation_counted h q a w,
    fun q a w s h => violation_captured h q a w, fun s => rfl⟩
  · rw [exec_accessViolation, h, Bool.not_false, State.when_true]
  · rw [exec_registerWrite, busWrite_violation hy h]

end Sys2Proof.Machine
end

section
/-!
O9: voted reads of the Yoke SRAM (R24).
-/

namespace Sys2Proof.Machine

/-- The word of core `c`'s copy at word `a`. -/
def coreWord (c : Nat) (a : BitVec 18) (s : State) : Nat := s.wordAt (coreBase c + 4 * a.toNat)

theorem exec_votedSramRead (a : BitVec 18) (s : State) : exec (.votedSramRead a) s = .next
    (if coreWord 0 a s = coreWord 1 a s ∨ coreWord 0 a s = coreWord 2 a s then { s with bus := ⟨false, BitVec.ofNat 64 (coreWord 0 a s)⟩ }
    else if coreWord 1 a s = coreWord 2 a s then { s with bus := ⟨false, BitVec.ofNat 64 (coreWord 1 a s)⟩ }
    else raiseEvent 0 (busErr s)) := rfl

/-- Two equal copies out of three: the first with one of the others, or the other two. -/
theorem two_of_three {x : Nat → Nat} {w i j : Nat} (hi : i < 3) (hj : j < 3) (hij : i ≠ j) (hxi : x i = w) (hxj : x j = w) :
    (x 0 = w ∧ (x 0 = x 1 ∨ x 0 = x 2)) ∨ (x 1 = w ∧ x 1 = x 2) := by
  obtain ⟨rfl, h⟩ | ⟨rfl, h⟩ | h : (i = 0 ∧ (j = 1 ∨ j = 2)) ∨ (j = 0 ∧ (i = 1 ∨ i = 2)) ∨ ((i = 1 ∧ j = 2) ∨ (i = 2 ∧ j = 1)) := by omega
  · left; rcases h with rfl | rfl <;> simp [*]
  · left; rcases h with rfl | rfl <;> simp [*]
  · right; rcases h with ⟨rfl, rfl⟩ | ⟨rfl, rfl⟩ <;> simp [*]

/-- The word that two copies hold is the answer, whichever two they are. -/
theorem votedSramRead_agreed {a : BitVec 18} {s : State} {w i j : Nat} (hi : i < 3) (hj : j < 3) (hij : i ≠ j)
    (hwi : coreWord i a s = w) (hwj : coreWord j a s = w) :
    exec (.votedSramRead a) s = .next { s with bus := ⟨false, BitVec.ofNat 64 w⟩ } := by
  rw [exec_votedSramRead]
  obtain ⟨hw, h⟩ | ⟨hw, h⟩ := two_of_three (x := fun c => coreWord c a s) hi hj hij hwi hwj
  · rw [if_pos h, hw]
  · split
    case isTrue h0 =>
      have : coreWord 0 a s = w := h0.elim (fun e => e.trans hw) (fun e => (e.trans h.symm).trans hw)
      rw [this]
    case isFalse => rw [hw]

/-- With three different copies the read answers 0 with an error response. -/
theorem votedSramRead_split {a : BitVec 18} {s : State} (h01 : coreWord 0 a s ≠ coreWord 1 a s) (h02 : coreWord 0 a s ≠ coreWord 2 a s)
    (h12 : coreWord 1 a s ≠ coreWord 2 a s) : exec (.votedSramRead a) s = .next (raiseEvent 0 (busErr s)) := by
  rw [exec_votedSramRead, if_neg (not_or.2 ⟨h01, h02⟩), if_neg h12]

/-- A core's copy at its own addresses lies above the Yoke's view of the SRAM, so it is read without a vote. -/
theorem memRead_coreCopy (c o size : Nat) (s : State) : memRead (coreBase c + o) size s =
    { s with bus := ⟨false, BitVec.ofNat 64 (ofBytes (memTake s.mem (coreBase c + o) size))⟩ } := by
  have above : within 0x10000000 0x100000 (coreBase c + o) = false := by
    have : ¬coreBase c + o < 0x10000000 + 0x100000 := by unfold coreBase; omega
    rw [within, decide_eq_false this, Bool.and_false]
  simp only [memRead, above, Bool.false_eq_true, if_false]

/-- Settles O9, by which two of the three copies agree. -/
theorem votedReadNeedsTwoCopies : Obligations.VotedReadNeedsTwoCopies := by
  refine ⟨fun a s w i j hi hj hij hwi hwj => votedSramRead_agreed hi hj hij hwi hwj, fun a s h01 h02 h12 => ?_,
    fun c o size s _ _ => memRead_coreCopy c o size s⟩
  exact votedSramRead_split h01 h02 h12

end Sys2Proof.Machine
end

section
/-!
O30: the Remount's arbitration while a fused repair owns the Remount (R469).
-/

namespace Sys2Proof.Machine
open Reg

/-- A Remount that a fused repair has given away for good is granted to nobody: every request is denied (R469 over R29). -/
theorem remountArbitrate_fused {s : State} (hreq : s.get REMOUNT_REQ_REQ ≠ 0) (hfused : remountFused s = true) :
    remountArbitrate s = (s.addSat REMOUNT_COUNT_DENIED (popCount 4 (s.get REMOUNT_REQ_REQ))).set REMOUNT_REQ_REQ 0 := by
  simp [remountArbitrate, hreq, hfused]

/-- Denied requests leave the Remount's holder. -/
theorem holdsRemount_denied (n k : Nat) (s : State) :
    holdsRemount n ((s.addSat REMOUNT_COUNT_DENIED k).set REMOUNT_REQ_REQ 0) = holdsRemount n s := by
  have kept : ∀ f : Fld, f.key ≠ REMOUNT_COUNT_DENIED.key → f.key ≠ REMOUNT_REQ_REQ.key →
      ((s.addSat REMOUNT_COUNT_DENIED k).set REMOUNT_REQ_REQ 0).get f = s.get f :=
    fun f hd hr => (State.get_set_ne _ _ _ _ hr).trans (State.get_set_ne _ _ _ _ hd)
  simp only [holdsRemount, State.flag, kept REMOUNT_STAT_HELD (by decide) (by decide), kept REMOUNT_STAT_STALL (by decide) (by decide)]

/-- Stall 0 requests an enabled Remount that nobody holds, and entry 0 of the repair map is fused: the Remount (group 6) is Stall 0's
(domain 1) for good. -/
def fusedRemountRequested : State :=
  (((((State.reset.set REMOUNT_CTRL_EN 1).set REMOUNT_REQ_REQ 1).set (BIST_MAPj_VALID 0) 1).set (BIST_MAPj_FUSED 0) 1).set
    (BIST_MAPj_DOMAIN 0) 1).set (BIST_MAPj_GROUP 0) 6

theorem remountFused_requested : remountFused fusedRemountRequested = true := by
  decide +kernel

/-- Refutes O30: the clause on a granted request leaves out a Remount that a fused repair owns, which is never free for R29 (R469). In
`fusedRemountRequested` it promises Stall 0 the grant, and the arbitration denies the request. -/
theorem not_recoveryOutcomesAndRemount : ¬ Obligations.RecoveryOutcomesAndRemount := by
  rintro ⟨-, -, -, -, granted, -, -, -⟩
  obtain ⟨held, -, -⟩ := granted 0 fusedRemountRequested (by decide) (by decide +kernel) (by simp) (by decide +kernel) (by decide +kernel)
    (by decide +kernel) (by decide +kernel)
  have denied : holdsRemount 0 fusedRemountRequested = false := by decide +kernel
  rw [remountArbitrate_fused (by decide +kernel) remountFused_requested, holdsRemount_denied, denied] at held
  exact Bool.false_ne_true held

end Sys2Proof.Machine
end

section
/-!
SUPPORT. Bytes and words of memory: what they read as after a write, a copy or an erasure, and numbers as bytes.
-/

namespace Sys2Proof.Machine

/-! ### Numbers as bytes -/

@[simp] theorem toBytes_length (k v : Nat) : (toBytes k v).length = k := by
  induction k generalizing v with
  | zero => rfl
  | succ k ih => rw [toBytes, List.length_cons, ih]

theorem ofBytes_toBytes (k v : Nat) : ofBytes (toBytes k v) = v % 256 ^ k := by
  induction k generalizing v with
  | zero => exact (Nat.mod_one v).symm
  | succ k ih => rw [toBytes, ofBytes, ih, BitVec.toNat_ofNat, Nat.pow_succ' (m := 256)]; exact Nat.mod_mul.symm

theorem ofBytes_lt (l : List Byte) : ofBytes l < 256 ^ l.length := by
  induction l with
  | nil => exact Nat.one_pos
  | cons b r ih =>
    rw [ofBytes, List.length_cons, Nat.pow_succ]
    have := b.isLt
    omega

theorem ofBytesBE_lt (l : List Byte) : ofBytesBE l < 256 ^ l.length := by
  induction l using List.reverseRecOn with
  | nil => exact Nat.one_pos
  | append_singleton r b ih =>
    have last : ofBytesBE (r ++ [b]) = ofBytesBE r * 256 + b.toNat := by simp [ofBytesBE, List.foldl_append]
    rw [last, List.length_append, List.length_singleton, Nat.pow_succ]
    have := b.isLt
    omega

/-! ### Consecutive bytes -/

@[simp] theorem memTake_length (m : List Host.Cell) (a n : Nat) : (memTake m a n).length = n := by
  induction n generalizing a with
  | zero => rfl
  | succ n ih => rw [memTake, List.length_cons, ih]

theorem memTake_getElem (m : List Host.Cell) (a n i : Nat) (h : i < (memTake m a n).length) : (memTake m a n)[i] = memGet (a + i) m := by
  induction n generalizing a i with
  | zero => simp at h
  | succ n ih =>
    cases i with
    | zero => rfl
    | succ i =>
      rw [show a + (i + 1) = a + 1 + i by omega]
      exact ih (a + 1) i (by simpa using h)

/-- Equal bytes at two stretches are read as equal lists. -/
theorem memTake_congr {m m' : List Host.Cell} {a b n : Nat} (h : ∀ i < n, memGet (a + i) m = memGet (b + i) m') :
    memTake m a n = memTake m' b n := by
  refine List.ext_getElem (by simp) (fun i hi hj => ?_)
  rw [memTake_getElem, memTake_getElem]
  exact h i (by simpa using hi)

/-- What was written is read back. -/
theorem memTake_put_same (l : List Byte) (a : Nat) (m : List Host.Cell) : memTake (memPut a l m) a l.length = l := by
  refine List.ext_getElem (by simp) (fun i hi hj => ?_)
  rw [memTake_getElem]
  exact memGet_put_in l a i m hj

/-- An erased stretch reads as nothing was ever written there; every other byte stays. -/
theorem memGet_erase (a k b : Nat) (m : List Host.Cell) :
    memGet b (memErase a k m) = if a ≤ b ∧ b < a + k then memDefault b else memGet b m := by
  induction m with
  | nil => simp [memErase, memGet]
  | cons c r ih =>
    by_cases hc : a ≤ c.1 ∧ c.1 < a + k
    · have dropped : memErase a k (c :: r) = memErase a k r := by
        simp [memErase, hc]
      rw [dropped, ih]
      by_cases hb : a ≤ b ∧ b < a + k
      · rw [if_pos hb, if_pos hb]
      · have other : c.1 ≠ b := fun e => hb (e ▸ hc)
        rw [if_neg hb, if_neg hb, memGet, if_neg other]
    · have kept : memErase a k (c :: r) = c :: memErase a k r := by
        simp only [memErase, List.filter_cons]
        rw [if_pos (by simp; omega)]
      rw [kept, memGet, memGet, ih]
      by_cases hb : c.1 = b
      · rw [if_pos hb, if_pos hb, if_neg (hb ▸ hc)]
      · rw [if_neg hb, if_neg hb]

/-! ### Bytes and words of a state -/

theorem State.byteAt_putBytes_in (s : State) (a : Nat) {l : List Byte} {i : Nat} (h : i < l.length) : (s.putBytes a l).byteAt (a + i) = l[i] :=
  memGet_put_in l a i s.mem h

theorem State.byteAt_putBytes_out (s : State) {a b : Nat} {l : List Byte} (h : b < a ∨ a + l.length ≤ b) :
    (s.putBytes a l).byteAt b = s.byteAt b := memGet_put_out l a b s.mem h

@[simp] theorem State.get_putBytes (s : State) (a : Nat) (l : List Byte) (f : Fld) : (s.putBytes a l).get f = s.get f := rfl
@[simp] theorem State.get_putWord (s : State) (a v : Nat) (f : Fld) : (s.putWord a v).get f = s.get f := rfl

theorem State.wordAt_congr {s t : State} {a b : Nat} (h : ∀ i < 4, t.byteAt (a + i) = s.byteAt (b + i)) : t.wordAt a = s.wordAt b :=
  congrArg ofBytes (memTake_congr h)

theorem State.wordAt_zero {s : State} {a : Nat} (h : ∀ i < 4, s.byteAt (a + i) = 0) : s.wordAt a = 0 := by
  have zeros : memTake s.mem a 4 = List.replicate 4 0 :=
    List.ext_getElem (by simp) (fun i hi _ => by rw [memTake_getElem, List.getElem_replicate]; exact h i (by simpa using hi))
  rw [State.wordAt, zeros]
  rfl

theorem State.wordAt_lt (s : State) (a : Nat) : s.wordAt a < 2 ^ 32 := by
  have := ofBytes_lt (memTake s.mem a 4)
  rwa [memTake_length] at this

theorem State.wordAt_putWord (s : State) (a v : Nat) : (s.putWord a v).wordAt a = v % 2 ^ 32 := by
  have back : memTake (s.putWord a v).mem a 4 = toBytes 4 v := toBytes_length 4 v ▸ memTake_put_same (toBytes 4 v) a s.mem
  rw [State.wordAt, back, ofBytes_toBytes]
  rfl

/-! ### Fields -/

/-- A field reads a written value that fits it. -/
theorem State.get_set_of_lt {f : Fld} {v : Nat} (h : v < 2 ^ f.width) (s : State) : (s.set f v).get f = v := by
  rw [State.get_set_same, Nat.mod_eq_of_lt h]

/-- A field takes the value of a field that is no wider. -/
theorem State.get_set_get {f g : Fld} (h : g.width ≤ f.width) (s t : State) : (t.set f (s.get g)).get f = s.get g :=
  State.get_set_of_lt (lt_of_lt_of_le (State.get_lt s g) (Nat.pow_le_pow_right (by omega) h)) t

theorem State.now_lt (s : State) : s.now < 2 ^ 64 := s.tbNow.isLt

@[simp] theorem State.set_now (s : State) (f : Fld) (v : Nat) : (s.set f v).now = s.now := rfl
@[simp] theorem State.putWord_now (s : State) (a v : Nat) : (s.putWord a v).now = s.now := rfl
@[simp] theorem State.wordAt_set (s : State) (f : Fld) (v a : Nat) : (s.set f v).wordAt a = s.wordAt a := rfl

end Sys2Proof.Machine
end

section
/-!
SUPPORT. What the end of a `CONFIG_CMD` or a `CONFIG_KEY_CMD` command changes besides its registers (R446): the fields that show the slots and the
keys, and what its event reports.
-/

namespace Sys2Proof.Machine
open Reg

/-! ### States that differ in the registers of some addresses only -/

/-- From `s` to `t` only fields of registers that `p` names change, and memory stays. -/
structure ChangesOnly (p : Nat → Bool) (s t : State) : Prop where
  get : ∀ g : Fld, p (g.key / 32) = false → t.get g = s.get g
  mem : t.mem = s.mem

namespace ChangesOnly

variable {p : Nat → Bool} {a s : State}

theorem refl (p : Nat → Bool) (s : State) : ChangesOnly p s s := ⟨fun _ _ => rfl, rfl⟩

theorem set {f : Fld} (h : ChangesOnly p a s) (hf : p (f.key / 32) = true) (v : Nat) : ChangesOnly p a (s.set f v) := by
  refine ⟨fun g hg => ?_, h.mem⟩
  have apart : g.key ≠ f.key := fun e => by rw [e, hf] at hg; exact Bool.noConfusion hg
  rw [State.get_set_ne _ _ _ _ apart]
  exact h.get g hg

theorem each {l : List Nat} {f : Nat → State → State} (h : ChangesOnly p a s)
    (k : ∀ i ∈ l, ∀ t, ChangesOnly p a t → ChangesOnly p a (f i t)) : ChangesOnly p a (s.each l f) := by
  unfold State.each
  induction l generalizing s with
  | nil => exact h
  | cons i r ih => exact ih (k i List.mem_cons_self s h) (fun j hj => k j (List.mem_cons_of_mem _ hj))

end ChangesOnly

/-! ### The slots as shown -/

/-- The registers that show the slots: `CONFIG_SLOT_s` and `CONFIG_FUSE`. -/
def slotShown (a : Nat) : Bool := decide (0x400E8018 ≤ a) && decide (a < 0x400E8024)

theorem slotShow_changes {a s : State} {k : Nat} (hk : k < 2) (h : ChangesOnly slotShown a s) : ChangesOnly slotShown a (slotShow k s) := by
  have shown : ∀ f : Fld, f.addr = 0x400E8018 + 0x4 * k → f.lsb < 32 → slotShown (f.key / 32) = true := by
    intro f ha hl
    have place : f.key / 32 = 0x400E8018 + 0x4 * k := by unfold Fld.key; omega
    simp only [slotShown, place, Bool.and_eq_true, decide_eq_true_eq]
    omega
  unfold slotShow State.setB
  iterate 6 refine ChangesOnly.set ?_ (shown _ rfl (of_decide_eq_true rfl)) _
  exact h

theorem slotsShow_changes (s : State) : ChangesOnly slotShown s (slotsShow s) :=
  slotShow_changes (by decide) (slotShow_changes (by decide) ((ChangesOnly.refl _ s).set (by decide) _))

/-- A slot whose last full test has not passed shows as invalid. -/
theorem slotShow_valid_zero {k : Nat} {s : State} (h : s.get (slotFull k) = 0) : (slotShow k s).get (CONFIG_SLOT_s_VALID k) = 0 := by
  have off : s.flag (slotFull k) = false := (flag_eq_false_iff _ _).2 h
  simp only [slotShow, State.setB, off, Bool.false_and, Bool.toNat_false, State.get_set_same, Nat.zero_mod]

theorem slotsShow_valid_zero {k : Nat} {s : State} (hk : k < 2) (h : s.get (slotFull k) = 0) :
    (slotsShow s).get (CONFIG_SLOT_s_VALID k) = 0 := by
  have fused : (s.set CONFIG_FUSE_COUNT (s.get rollCount)).get (slotFull k) = 0 :=
    (State.get_set_ne _ _ _ _ (by simp [Fld.key, slotFull, ix, CONFIG_FUSE_COUNT]; omega)).trans h
  obtain rfl | rfl : k = 0 ∨ k = 1 := by omega
  · have other : ∀ t : State, (slotShow 1 t).get (CONFIG_SLOT_s_VALID 0) = t.get (CONFIG_SLOT_s_VALID 0) := by
      intro t; simp (disch := decide) only [slotShow, State.setB, State.get_set_ne]
    exact (other _).trans (slotShow_valid_zero fused)
  · refine slotShow_valid_zero (((slotShow_changes (by decide) (ChangesOnly.refl slotShown _)).get _ (by decide)).trans fused)

/-- The shown rollback count is the blown one. -/
theorem slotsShow_fuseCount (s : State) : (slotsShow s).get CONFIG_FUSE_COUNT = s.get rollCount := by
  have kept : ∀ (k : Nat) (t : State), k < 2 → (slotShow k t).get CONFIG_FUSE_COUNT = t.get CONFIG_FUSE_COUNT := by
    intro k t hk
    obtain rfl | rfl : k = 0 ∨ k = 1 := by omega
    all_goals simp (disch := decide) only [slotShow, State.setB, State.get_set_ne]
  rw [slotsShow, kept 1 _ (by decide), kept 0 _ (by decide)]
  exact State.get_set_get (by decide) _ _

/-! ### The keys as shown -/

/-- The registers that show the keys: `CONFIG_KEY_STAT`, the fingerprints, and `AUTH_KEY_FPw`. -/
def keyShown (a : Nat) : Bool :=
  a == 0x400E8038 || (decide (0x400E8040 ≤ a) && decide (a < 0x400E8140)) || (decide (0x40148040 ≤ a) && decide (a < 0x40148060))

theorem keyShow_changes (s : State) : ChangesOnly keyShown s (keyShow s) := by
  have print : ∀ k < 8, ∀ w < 8, keyShown ((CONFIG_KEY_FPk_w_FP k w).key / 32) = true := by decide
  have authPrint : ∀ w < 8, keyShown ((AUTH_KEY_FPw_FP w).key / 32) = true := by decide
  unfold keyShow
  refine ChangesOnly.each (ChangesOnly.each ((ChangesOnly.refl _ s).set (by decide) _) fun k hk t ht => ?_) fun w hw t ht => ?_
  · exact ht.each fun w hw t ht => ht.set (print k (List.mem_range.1 hk) w (List.mem_range.1 hw)) _
  · exact ht.set (authPrint w (List.mem_range.1 hw)) _

/-! ### The end of a `CONFIG_CMD` command (R446) -/

/-- What the end of a `CONFIG_CMD` command may write besides its own registers. -/
def cfgReported (a : Nat) : Bool := reported a || slotShown a

theorem cfgAfter_get {g : Fld} (hp : g.key ≠ CONFIG_STAT_PHASE.key) (hg : cfgReported (g.key / 32) = false) (s : State) :
    (cfgAfter s).get g = s.get g := by
  obtain ⟨hr, hs⟩ := Bool.or_eq_false_iff.1 hg
  rw [cfgAfter, (raiseEvent_reports _ _).get g hr, (slotsShow_changes _).get g hs, State.get_set_ne _ _ _ _ hp]

theorem cfgAfter_phase (s : State) : (cfgAfter s).get CONFIG_STAT_PHASE = 0 := by
  rw [cfgAfter, (raiseEvent_reports _ _).get _ (by decide), (slotsShow_changes _).get _ (by decide), State.get_set_same]
  rfl

theorem cfgAfter_fuseCount (s : State) : (cfgAfter s).get CONFIG_FUSE_COUNT = s.get rollCount := by
  rw [cfgAfter, (raiseEvent_reports _ _).get _ (by decide), slotsShow_fuseCount, State.get_set_ne _ _ _ _ (by decide)]

/-- Outside the Cellar the end of a command leaves memory. -/
theorem cfgAfter_byte {a : Nat} (h : a < 0x20000000 ∨ 0x21000000 ≤ a) (s : State) : (cfgAfter s).byteAt a = s.byteAt a := by
  rw [cfgAfter, (raiseEvent_reports _ _).byte a h, State.byteAt, (slotsShow_changes _).mem]
  rfl

theorem cfgEnd_get {g : Fld} (hst : g.key ≠ CONFIG_CMD_STATUS.key) (hp : g.key ≠ CONFIG_STAT_PHASE.key) (hg : cfgReported (g.key / 32) = false)
    (st : Nat) (s : State) : (cfgEnd st s).get g = s.get g :=
  (cfgAfter_get hp hg _).trans (State.get_set_ne s _ g st hst)

theorem cfgEnd_status {st : Nat} (h : st < 8) (s : State) : (cfgEnd st s).get CONFIG_CMD_STATUS = st :=
  (cfgAfter_get (by decide) (by decide) _).trans (State.get_set_of_lt h s)

theorem cfgEnd_phase (st : Nat) (s : State) : (cfgEnd st s).get CONFIG_STAT_PHASE = 0 := cfgAfter_phase _

theorem cfgEnd_fuseCount (st : Nat) (s : State) : (cfgEnd st s).get CONFIG_FUSE_COUNT = s.get rollCount :=
  (cfgAfter_fuseCount _).trans (State.get_set_ne s CONFIG_CMD_STATUS rollCount st (by decide))

theorem cfgEnd_byte {a : Nat} (h : a < 0x20000000 ∨ 0x21000000 ≤ a) (st : Nat) (s : State) : (cfgEnd st s).byteAt a = s.byteAt a :=
  cfgAfter_byte h _

theorem cfgFail_status (e : Nat) (s : State) : (cfgFail e s).get CONFIG_CMD_STATUS = stFailed := cfgEnd_status (by decide) _

theorem cfgFail_err {e : Nat} (h : e < 256) (s : State) : (cfgFail e s).get CONFIG_STAT_ERR = e :=
  (cfgEnd_get (by decide) (by decide) (by decide) _ _).trans (State.get_set_of_lt h s)

theorem cfgFail_phase (e : Nat) (s : State) : (cfgFail e s).get CONFIG_STAT_PHASE = 0 := cfgEnd_phase _ _

theorem cfgFail_byte {a : Nat} (h : a < 0x20000000 ∨ 0x21000000 ≤ a) (e : Nat) (s : State) : (cfgFail e s).byteAt a = s.byteAt a :=
  cfgEnd_byte h _ _

/-! ### The end of a `CONFIG_KEY_CMD` command -/

/-- The state at the end of a key command, before its event is raised. -/
def keyShownState (s : State) : State := slotsShow (keyShow s)

theorem keyAfter_eq (s : State) : keyAfter s = raiseEvent 0x002 (keyShownState s) := rfl

theorem keyShownState_get {g : Fld} (hg : (slotShown (g.key / 32) || keyShown (g.key / 32)) = false) (s : State) :
    (keyShownState s).get g = s.get g := by
  obtain ⟨hs, hk⟩ := Bool.or_eq_false_iff.1 hg
  rw [keyShownState, (slotsShow_changes _).get g hs, (keyShow_changes s).get g hk]

theorem keyAfter_get {g : Fld} (hr : reported (g.key / 32) = false) (hg : (slotShown (g.key / 32) || keyShown (g.key / 32)) = false) (s : State) :
    (keyAfter s).get g = s.get g := by
  rw [keyAfter_eq, (raiseEvent_reports _ _).get g hr, keyShownState_get hg]

/-! ### Command registers (R9, R527) -/

section Start
variable {r : CmdReg} {code status : Nat} {ok : Bool} {run refuse : State → State} {s : State}

theorem cmdStart_busy (h : s.get r.status = stBusy) : s.cmdStart r code ok status run refuse = s := by
  simp only [State.cmdStart, busy_eq_true h, if_true]

theorem cmdStart_run (h : s.get r.status ≠ stBusy) : s.cmdStart r code true status run refuse = run (s.cmdSet r code status) := by
  simp only [State.cmdStart, busy_eq_false h, Bool.false_eq_true, if_false, if_true]

theorem cmdStart_refused (h : s.get r.status ≠ stBusy) : s.cmdStart r code false status run refuse = refuse (s.cmdSet r code stRefused) := by
  simp only [State.cmdStart, busy_eq_false h, Bool.false_eq_true, if_false]

end Start

section CfgStart
variable {code reason status : Nat} {run : State → State} {s : State}

theorem cfgStart_busy (h : s.get CONFIG_CMD_STATUS = stBusy) : cfgStart code reason status run s = s := cmdStart_busy h

theorem cfgStart_run (h : s.get CONFIG_CMD_STATUS ≠ stBusy) (hr : reason = 0) :
    cfgStart code reason status run s = run (s.cmdSet cfgCmd code status) := by
  subst hr; exact cmdStart_run h

theorem cfgStart_refused (h : s.get CONFIG_CMD_STATUS ≠ stBusy) (hr : reason ≠ 0) :
    cfgStart code reason status run s = cfgAfter ((s.cmdSet cfgCmd code stRefused).set CONFIG_STAT_ERR reason) := by
  rw [cfgStart, beq_false_of_ne hr]; exact cmdStart_refused h

end CfgStart

/-- A command register's two fields, written together, read back; every other field stays. -/
theorem cmdSet_get_code {r : CmdReg} {code : Nat} (apart : r.code.key ≠ r.status.key) (h : code < 2 ^ r.code.width) (status : Nat) (s : State) :
    (s.cmdSet r code status).get r.code = code :=
  (State.get_set_ne _ _ _ _ apart).trans (State.get_set_of_lt h s)

theorem cmdSet_get_status {r : CmdReg} {status : Nat} (h : status < 2 ^ r.status.width) (code : Nat) (s : State) :
    (s.cmdSet r code status).get r.status = status := State.get_set_of_lt h _

@[simp] theorem cmdSet_mem (r : CmdReg) (code status : Nat) (s : State) : (s.cmdSet r code status).mem = s.mem := rfl

theorem cmdSet_get_ne {r : CmdReg} {g : Fld} (hc : g.key ≠ r.code.key) (hs : g.key ≠ r.status.key) (code status : Nat) (s : State) :
    (s.cmdSet r code status).get g = s.get g :=
  (State.get_set_ne _ _ _ _ hs).trans (State.get_set_ne _ _ _ _ hc)

end Sys2Proof.Machine
end

section
/-!
SUPPORT. Image writes (R449 to R451): what starts one, what each step does, and what the steps in time come to.
-/

namespace Sys2Proof.Machine
open Reg

/-! ### The start (R449) -/

/-- The operands and instants that an accepted `WRITE` into slot `t` latches. -/
def writeLatched (t : Nat) (s : State) : State :=
  let s := ((s.set cfgSrc (srcAddr s)).set cfgLen (s.get CONFIG_LEN_LEN)).set cfgTgt t
  (((s.set cfgAt s.now).set cfgStepAt s.now).set CONFIG_STAT_PHASE 1).set CONFIG_STAT_MIB 0

/-- The accepted `WRITE` into slot `t`: its operands latched, the slot erased. -/
def writeBegun (t : Nat) (s : State) : State :=
  let s := writeLatched t s
  let s := { s with mem := memErase (slotBase t) 0x10000000 s.mem }
  slotsShow ((s.set (slotFull t) 0).set (slotBad t) 0)

theorem exec_write (s : State) :
    exec .write s = .next (cfgStart 1 (writeReason s) stBusy (fun s => writeBegun (s.get CONFIG_ARG_TARGET) s) s) := rfl

theorem srcAddr_lt (s : State) : srcAddr s < 2 ^ 40 := by
  have lo : s.get CONFIG_SRC_LO_ADDR < 2 ^ 32 := State.get_lt s _
  have hi : s.get CONFIG_SRC_HI_ADDR < 2 ^ 8 := State.get_lt s _
  simp only [srcAddr, State.getWide]
  omega

/-- A byte of a slot reads as erased where nothing is listed. -/
theorem memDefault_slot {t a : Nat} (ht : t < 2) (h : slotBase t ≤ a ∧ a < slotBase t + 0x10000000) : memDefault a = 0xFF := by
  unfold slotBase at h
  rw [memDefault, if_neg (by omega), if_pos (by omega)]

/-- No field that is neither stands between the flags of the slots. -/
theorem slotFlags_key_ne {t : Nat} (ht : t < 2) {g : Fld} (h : g.key < (slotFull 0).key ∨ (slotBad 1).key < g.key) :
    g.key ≠ (slotFull t).key ∧ g.key ≠ (slotBad t).key := by
  simp only [Fld.key, slotFull, slotBad, ix] at h ⊢
  omega

section Begun
variable {t : Nat} (ht : t < 2)
include ht

theorem writeBegun_byte (a : Nat) (s : State) : (writeBegun t s).byteAt a =
    if slotBase t ≤ a ∧ a < slotBase t + 0x10000000 then 0xFF else s.byteAt a := by
  rw [writeBegun, State.byteAt, (slotsShow_changes _).mem]
  refine (memGet_erase _ _ _ _).trans ?_
  split
  · exact memDefault_slot ht ‹_›
  · rfl

theorem writeBegun_valid (s : State) : (writeBegun t s).get (CONFIG_SLOT_s_VALID t) = 0 := by
  have apart : (slotFull t).key ≠ (slotBad t).key := by simp [Fld.key, slotFull, slotBad, ix]
  exact slotsShow_valid_zero ht ((State.get_set_ne _ _ _ _ apart).trans (State.get_set_of_lt (Nat.two_pow_pos _) _))

/-- Fields that the start of a `WRITE` does not clear or show hold what it latches. -/
theorem writeBegun_get {g : Fld} (hs : slotShown (g.key / 32) = false) (hg : g.key < (slotFull 0).key ∨ (slotBad 1).key < g.key) (s : State) :
    (writeBegun t s).get g = (writeLatched t s).get g := by
  obtain ⟨hfull, hbad⟩ := slotFlags_key_ne ht hg
  rw [writeBegun, (slotsShow_changes _).get g hs, State.get_set_ne _ _ _ _ hbad, State.get_set_ne _ _ _ _ hfull, State.get_mem]

/-- The command register stands below all that the start of a `WRITE` writes. -/
theorem writeBegun_get_below {g : Fld} (hg : g.key < CONFIG_STAT_PHASE.key) (hs : slotShown (g.key / 32) = false) (s : State) :
    (writeBegun t s).get g = s.get g := by
  have above : ∀ f ∈ [cfgSrc, cfgLen, cfgTgt, cfgAt, cfgStepAt, CONFIG_STAT_PHASE, CONFIG_STAT_MIB, slotFull 0],
      CONFIG_STAT_PHASE.key ≤ f.key := by decide
  have apart : ∀ f ∈ [cfgSrc, cfgLen, cfgTgt, cfgAt, cfgStepAt, CONFIG_STAT_PHASE, CONFIG_STAT_MIB, slotFull 0], g.key ≠ f.key :=
    fun f hf => Nat.ne_of_lt (lt_of_lt_of_le hg (above f hf))
  simp only [List.forall_mem_cons] at apart
  obtain ⟨src, len, tgt, begun, stepAt, phase, mib, -⟩ := apart
  rw [writeBegun_get ht hs (.inl (lt_of_lt_of_le hg (above _ (by simp)))), writeLatched, State.get_set_ne _ _ _ _ mib,
    State.get_set_ne _ _ _ _ phase, State.get_set_ne _ _ _ _ stepAt, State.get_set_ne _ _ _ _ begun, State.get_set_ne _ _ _ _ tgt,
    State.get_set_ne _ _ _ _ len, State.get_set_ne _ _ _ _ src]

theorem writeBegun_latched (s : State) : (writeBegun t s).get CONFIG_STAT_PHASE = 1 ∧ (writeBegun t s).get CONFIG_STAT_MIB = 0 ∧
    (writeBegun t s).get cfgTgt = t ∧ (writeBegun t s).get cfgSrc = srcAddr s ∧ (writeBegun t s).get cfgLen = s.get CONFIG_LEN_LEN ∧
    (writeBegun t s).get cfgStepAt = s.now ∧ (writeBegun t s).get cfgAt = s.now := by
  have now : s.now < 2 ^ 72 := lt_trans s.now_lt (by decide)
  have src : srcAddr s < 2 ^ cfgSrc.width := srcAddr_lt s
  have tgt : t < 2 ^ cfgTgt.width := ht
  refine ⟨?_, ?_, ?_, ?_, ?_, ?_, ?_⟩ <;> rw [writeBegun_get ht (by decide) (by decide)] <;>
    simp (disch := decide) only [writeLatched, State.get_set_ne, State.set_now]
  · exact State.get_set_of_lt (by decide) _
  · exact State.get_set_of_lt (by decide) _
  · exact State.get_set_of_lt tgt _
  · exact State.get_set_of_lt src _
  · exact State.get_set_get (by decide) _ _
  · exact State.get_set_of_lt now _
  · exact State.get_set_of_lt now _

end Begun

theorem exec_write_refused {s : State} (h : s.get CONFIG_CMD_STATUS ≠ stBusy) (hr : writeReason s ≠ 0) :
    exec .write s = .next (cfgAfter ((s.cmdSet cfgCmd 1 stRefused).set CONFIG_STAT_ERR (writeReason s))) := by
  rw [exec_write, cfgStart_refused h hr]

theorem exec_write_run {s : State} (h : s.get CONFIG_CMD_STATUS ≠ stBusy) (hr : writeReason s = 0) :
    exec .write s = .next (writeBegun (s.get CONFIG_ARG_TARGET) (s.cmdSet cfgCmd 1 stBusy)) := by
  rw [exec_write, cfgStart_run h hr, cmdSet_get_ne (by decide) (by decide)]

theorem writeReason_running {s : State} (h : s.get CONFIG_STAT_RUN_SLOT = s.get CONFIG_ARG_TARGET) : writeReason s = 1 := by
  simp only [writeReason, h, if_true]

/-- A `WRITE` for which R449 has no reason. -/
theorem writeReason_none {s : State} (h : writeReason s = 0) : s.get CONFIG_STAT_RUN_SLOT ≠ s.get CONFIG_ARG_TARGET ∧
    imgLenOk (s.get CONFIG_LEN_LEN) = true ∧ inInn (srcAddr s) (s.get CONFIG_LEN_LEN) s = true ∧ s.get CONFIG_STAT_TRIAL = 0 ∧
    ∀ d < 5, domainSrc d s ≠ s.get CONFIG_ARG_TARGET := by
  unfold writeReason at h
  dsimp only at h
  split_ifs at h with running len inn trial domain
  refine ⟨running, ?_, ?_, ?_, fun d hd e => domain ?_⟩
  · simpa using len
  · simpa using inn
  · simpa using trial
  · exact List.any_eq_true.2 ⟨d, List.mem_range.2 hd, by simpa using e⟩

/-! ### The steps (R450) -/

section Steps
variable {s : State}

theorem writeNext_erased (h : s.get CONFIG_STAT_PHASE = 1) :
    writeNext s = ((s.set CONFIG_STAT_PHASE 2).set cfgRow 0).inc (LEDGER_LIVE_w_W (66 + s.get cfgTgt)) := by
  simp only [writeNext, h]

theorem writeNext_row (h : s.get CONFIG_STAT_PHASE = 2) : writeNext s = (rowPut (s.get cfgRow) s).when
    (decide ((rowPut (s.get cfgRow) s).get cfgLen ≤ 4096 * (rowPut (s.get cfgRow) s).get cfgRow)) (fun s => s.set CONFIG_STAT_PHASE 3) := by
  simp only [writeNext, h]

theorem writeNext_checked (h : s.get CONFIG_STAT_PHASE = 3) :
    writeNext s = if writeErr s = 0 then s.set CONFIG_STAT_PHASE 4 else cfgFail (writeErr s) (writeTime s) := by
  simp only [writeNext, h]

theorem writeNext_sealed (h : s.get CONFIG_STAT_PHASE = 4) :
    writeNext s = (s.putWords (slotBase (s.get cfgTgt) + 0x0FFFF000) (sealWords (s.get cfgTgt) s)).set CONFIG_STAT_PHASE 5 := by
  simp only [writeNext, h]

/-- The closing word of slot `k`'s seal record is programmed. -/
def slotClosed (k : Nat) (s : State) : State :=
  ((s.putWord (slotBase k + 0x0FFFF000 + 52) (s.wordAt (slotBase k + 0x0FFFF000 + 4))).set (slotFull k) 1).set CONFIG_STAT_PHASE 6

theorem writeNext_closed (h : s.get CONFIG_STAT_PHASE = 5) : writeNext s = slotClosed (s.get cfgTgt) s := by
  simp only [writeNext, h, slotClosed]

/-- The end of a `WRITE` that is not aborted before its commit point. -/
def writeDone (s : State) : State := cfgEnd (cfgFin s) ((writeTime s).set (cmdLate 0) 0)

theorem writeNext_done (h : s.get CONFIG_STAT_PHASE = 6) : writeNext s = writeDone s := by
  simp only [writeNext, h, writeDone]

theorem cfgFin_eq (s : State) : cfgFin s = if s.get (cmdLate 0) = 0 then stDone else stTooLate := by
  by_cases h : s.get (cmdLate 0) = 0 <;> simp [cfgFin, State.flag, h]

end Steps

/-! ### The steps in time -/

section Time
variable {s : State}

theorem cfgRuns_iff (s : State) : cfgRuns s = true ↔ s.get CONFIG_CMD_STATUS = stBusy ∧ (s.get CONFIG_CMD_CODE = 1 ∨ s.get CONFIG_CMD_CODE = 2) := by
  simp [cfgRuns, State.busy, cfgCmd]

theorem cfgCatch_next (hr : cfgRuns s = true) (ha : s.get cfgStepAt + (cfgBounds s).1 ≤ s.now) (k : Nat) :
    cfgCatch (k + 1) s = cfgCatch k (cfgNext (s.set cfgStepAt (s.get cfgStepAt + (cfgBounds s).1))) := by
  simp only [cfgCatch, hr, decide_eq_true ha, Bool.and_self, if_true]

theorem cfgCatch_still (h : s.now < s.get cfgStepAt + (cfgBounds s).1 ∨ cfgRuns s = false) (k : Nat) : cfgCatch k s = s := by
  cases k with
  | zero => rfl
  | succ k =>
    have still : (cfgRuns s && decide (s.get cfgStepAt + (cfgBounds s).1 ≤ s.now)) = false := by
      rcases h with h | h
      · rw [decide_eq_false (Nat.not_le.2 h), Bool.and_false]
      · rw [h, Bool.false_and]
    simp only [cfgCatch, still, Bool.false_eq_true, if_false]

theorem cfgNext_write (h : s.get CONFIG_CMD_CODE = 1) : cfgNext s = writeNext s := by
  simp only [cfgNext, h, if_true]

theorem cfgNext_reconf (h : s.get CONFIG_CMD_CODE = 2) : cfgNext s = reconfNext s := by
  simp [cfgNext, h]

theorem cfgCatch_write (hb : s.get CONFIG_CMD_STATUS = stBusy) (hc : s.get CONFIG_CMD_CODE = 1)
    (ha : s.get cfgStepAt + (cfgBounds s).1 ≤ s.now) (k : Nat) :
    cfgCatch (k + 1) s = cfgCatch k (writeNext (s.set cfgStepAt (s.get cfgStepAt + (cfgBounds s).1))) := by
  rw [cfgCatch_next ((cfgRuns_iff s).2 ⟨hb, .inl hc⟩) ha, cfgNext_write ((State.get_set_ne _ _ _ _ (by decide)).trans hc)]

theorem cfgCatch_reconf (hb : s.get CONFIG_CMD_STATUS = stBusy) (hc : s.get CONFIG_CMD_CODE = 2)
    (ha : s.get cfgStepAt + (cfgBounds s).1 ≤ s.now) (k : Nat) :
    cfgCatch (k + 1) s = cfgCatch k (reconfNext (s.set cfgStepAt (s.get cfgStepAt + (cfgBounds s).1))) := by
  rw [cfgCatch_next ((cfgRuns_iff s).2 ⟨hb, .inr hc⟩) ha, cfgNext_reconf ((State.get_set_ne _ _ _ _ (by decide)).trans hc)]

theorem cfgFinish_busy {k : Nat} (h : (cfgCatch k s).get CONFIG_CMD_STATUS = stBusy) : cfgFinish k s = s := by
  simp only [cfgFinish, busy_eq_true (c := cfgCmd) h, if_true]

theorem cfgFinish_ended {k : Nat} (h : (cfgCatch k s).get CONFIG_CMD_STATUS ≠ stBusy) : cfgFinish k s = cfgCatch k s := by
  simp only [cfgFinish, busy_eq_false (c := cfgCmd) h, Bool.false_eq_true, if_false]

/-- The durations of the steps of a `WRITE` (R450). -/
theorem cfgBounds_write (hc : s.get CONFIG_CMD_CODE = 1) :
    (s.get CONFIG_STAT_PHASE = 1 → cfgBounds s = (100000000, 400000000)) ∧ (s.get CONFIG_STAT_PHASE = 2 → cfgBounds s = (40960, 109226)) ∧
    (s.get CONFIG_STAT_PHASE = 3 → cfgBounds s = (s.get cfgLen / 2, s.get cfgLen + 2000000)) ∧
    (s.get CONFIG_STAT_PHASE = 4 → cfgBounds s = (4000, 200000)) ∧ (s.get CONFIG_STAT_PHASE = 5 → cfgBounds s = (200, 800)) ∧
    (s.get CONFIG_STAT_PHASE = 6 → cfgBounds s = (0, 10)) := by
  refine ⟨fun h => ?_, fun h => ?_, fun h => ?_, fun h => ?_, fun h => ?_, fun h => ?_⟩ <;> simp only [cfgBounds, hc, h, if_true]

theorem cfgTick_waits (h : cfgRuns s = false ∨ s.now < s.get cfgStepAt + (cfgBounds s).1) : cfgTick s = s := by
  rcases h with h | h <;> simp [cfgTick, h]

theorem cfgTick_ends (hr : cfgRuns s = true) (ha : s.get cfgStepAt + (cfgBounds s).1 ≤ s.now) :
    cfgTick s = if s.get cfgStepAt + (cfgBounds s).2 ≤ s.now ∨ bitAt (Config.fresh s.freeCount).toNat 0 = true then
      (cfgNext (s.set cfgStepAt s.now)).draw else s.draw := by
  simp only [cfgTick, hr, Nat.not_lt.2 ha, Bool.not_true, Bool.false_or, decide_false, Bool.false_eq_true, if_false]

end Time

end Sys2Proof.Machine
end

section
/-!
SUPPORT. The ends of an image write (R450, R451): the row programmed, the new seal record, and how the command ends.
-/

namespace Sys2Proof.Machine
open Reg

/-! ### A row (R450 step 2) -/

theorem rowPut_row (q : Nat) (s : State) : (rowPut q s).get cfgRow = (q + 1) % 2 ^ cfgRow.width := by
  rw [rowPut, State.get_set_ne _ _ _ _ (by decide), State.get_set_same]

theorem rowPut_mem (q : Nat) (s : State) :
    (rowPut q s).mem = (s.putBytes (slotBase (s.get cfgTgt) + 4096 * q) (memTake s.mem (s.get cfgSrc + 4096 * q) 4096)).mem := by
  simp only [rowPut, State.set_mem]

/-! ### The new seal record (R450 step 4) -/

@[simp] theorem wordsOf_length (k : Nat) (b : List Byte) : (wordsOf k b).length = k := by
  induction k generalizing b with
  | zero => rfl
  | succ k ih => rw [wordsOf, List.length_cons, ih]

theorem sealWords_length (k : Nat) (s : State) : (sealWords k s).length = 13 := by
  simp [sealWords]

theorem writeErr_zero_iff (s : State) :
    writeErr s = 0 ↔ imgWord (slotImg (s.get cfgTgt) s) 2 = s.get cfgLen ∧ imgErr (slotImg (s.get cfgTgt) s) s = 0 := by
  unfold writeErr
  dsimp only
  split
  · simp [*]
  · simp [*]

theorem le_foldl_max (l : List Nat) (b : Nat) : b ≤ l.foldl max b ∧ ∀ x ∈ l, x ≤ l.foldl max b := by
  induction l generalizing b with
  | nil => simp
  | cons y r ih =>
    obtain ⟨start, rest⟩ := ih (max b y)
    exact ⟨le_trans (le_max_left b y) start, List.forall_mem_cons.2 ⟨le_trans (le_max_right b y) start, rest⟩⟩

/-- A new seal record's generation is above that of every valid one. -/
theorem sealRec_lt_newGeneration {j : Nat} {s : State} (hj : j < 2) (h : slotSealed j s = true) : sealRec j 1 s < newGeneration s := by
  have listed : sealRec j 1 s ∈ ([0, 1].filter (fun k => slotSealed k s)).map (fun k => sealRec k 1 s) :=
    List.mem_map_of_mem (List.mem_filter.2 ⟨by simp; omega, h⟩)
  have := (le_foldl_max _ 0).2 _ listed
  unfold newGeneration
  omega

/-! ### The end -/

section Done
variable {s : State}

theorem writeTime_get {g : Fld} (h : g.key ≠ CONFIG_TIME_WRITE.key) (s : State) : (writeTime s).get g = s.get g :=
  State.get_set_ne _ _ _ _ h

theorem writeDone_status (s : State) : (writeDone s).get CONFIG_CMD_STATUS = if s.get (cmdLate 0) = 0 then stDone else stTooLate := by
  rw [writeDone, cfgFin_eq]
  split <;> exact cfgEnd_status (by decide) _

theorem writeDone_phase (s : State) : (writeDone s).get CONFIG_STAT_PHASE = 0 := cfgEnd_phase _ _

theorem writeDone_get {g : Fld} (hst : g.key ≠ CONFIG_CMD_STATUS.key) (hp : g.key ≠ CONFIG_STAT_PHASE.key) (hg : cfgReported (g.key / 32) = false)
    (hw : g.key ≠ CONFIG_TIME_WRITE.key) (hl : g.key ≠ (cmdLate 0).key) (s : State) : (writeDone s).get g = s.get g := by
  rw [writeDone, cfgEnd_get hst hp hg, State.get_set_ne _ _ _ _ hl, writeTime_get hw]

theorem writeDone_byte {a : Nat} (h : a < 0x20000000 ∨ 0x21000000 ≤ a) (s : State) : (writeDone s).byteAt a = s.byteAt a :=
  cfgEnd_byte h _ _

theorem writeDone_ended (s : State) : (writeDone s).get CONFIG_CMD_STATUS ≠ stBusy := by
  rw [writeDone_status]; split <;> decide

/-- A command that has ended runs no further step. -/
theorem cfgRuns_ended (h : s.get CONFIG_CMD_STATUS ≠ stBusy) : cfgRuns s = false :=
  Bool.eq_false_iff.2 fun hr => h ((cfgRuns_iff s).1 hr).1

end Done

section Closed
variable {k : Nat} (hk : k < 2)
include hk

theorem slotClosed_get {g : Fld} (hp : g.key ≠ CONFIG_STAT_PHASE.key) (hg : g.key < (slotFull 0).key ∨ (slotBad 1).key < g.key) (s : State) :
    (slotClosed k s).get g = s.get g := by
  rw [slotClosed, State.get_set_ne _ _ _ _ hp, State.get_set_ne _ _ _ _ (slotFlags_key_ne hk hg).1, State.get_putWord]

theorem slotFull_not_reported : cfgReported ((slotFull k).key / 32) = false ∧ (slotFull k).key ≠ CONFIG_STAT_PHASE.key ∧
    (slotFull k).key ≠ CONFIG_CMD_STATUS.key ∧ (slotFull k).key ≠ CONFIG_TIME_WRITE.key ∧ (slotFull k).key ≠ (cmdLate 0).key ∧
    (slotFull k).key ≠ cfgStepAt.key := by
  obtain rfl | rfl : k = 0 ∨ k = 1 := by omega
  all_goals decide

theorem slotClosed_full (s : State) : (slotClosed k s).get (slotFull k) = 1 := by
  obtain ⟨-, hphase, -⟩ := slotFull_not_reported hk
  exact (State.get_set_ne _ _ _ _ hphase).trans (State.get_set_of_lt (by decide : 1 < 2 ^ 1) _)

end Closed

theorem slotClosed_phase (k : Nat) (s : State) : (slotClosed k s).get CONFIG_STAT_PHASE = 6 := State.get_set_of_lt (by decide) _

@[simp] theorem slotClosed_now (k : Nat) (s : State) : (slotClosed k s).now = s.now := by
  rw [slotClosed, State.set_now, State.set_now, State.putWord_now]

/-- The closing word repeats the generation, word 1 of the record. -/
theorem slotClosed_word (k : Nat) (s : State) :
    (slotClosed k s).wordAt (slotBase k + 0x0FFFF000 + 52) = s.wordAt (slotBase k + 0x0FFFF000 + 4) := by
  rw [slotClosed, State.wordAt_set, State.wordAt_set, State.wordAt_putWord, Nat.mod_eq_of_lt (s.wordAt_lt _)]

end Sys2Proof.Machine
end

section
/-!
SUPPORT. What ends an image write: its last step, a check that fails, a row that does not verify, an abort (R450, R451).
-/

namespace Sys2Proof.Machine
open Reg

variable {s : State}

/-! ### `EV_CONFIG_DONE` -/

theorem exec_evConfigDone_other (h : s.get CONFIG_CMD_STATUS ≠ stBusy ∨ s.get CONFIG_CMD_CODE ≠ 1) (row : Option (BitVec 28 × Byte)) :
    exec (.evConfigDone row) s = .next s := by
  have idle : (s.busy cfgCmd && s.get CONFIG_CMD_CODE == 1) = false := by
    rcases h with h | h
    · rw [busy_eq_false (c := cfgCmd) h, Bool.false_and]
    · rw [beq_false_of_ne h, Bool.and_false]
  change execEvConfigDone row s = _
  rw [execEvConfigDone, idle, State.when_false, ok]

section Runs
variable (hb : s.get CONFIG_CMD_STATUS = stBusy) (hc : s.get CONFIG_CMD_CODE = 1)
include hb hc

theorem writeRuns : (s.busy cfgCmd && s.get CONFIG_CMD_CODE == 1) = true := by
  rw [busy_eq_true (c := cfgCmd) hb, hc]; rfl

theorem exec_evConfigDone_steps : exec (.evConfigDone none) s = .next (cfgFinish (s.get cfgLen / 4096 + 6) s) := by
  change execEvConfigDone none s = _
  rw [execEvConfigDone, writeRuns hb hc, State.when_true, ok]

theorem exec_evConfigDone_row (o : BitVec 28) (b : Byte) : exec (.evConfigDone (some (o, b))) s = .next (rowFail o.toNat b s) := by
  change execEvConfigDone (some (o, b)) s = _
  rw [execEvConfigDone, writeRuns hb hc, State.when_true, ok]

/-! ### The last step -/

/-- From the closing word on, the remaining steps are the closing word and the end. -/
theorem cfgCatch_closing (hp : s.get CONFIG_STAT_PHASE = 5) (hd : s.get cfgStepAt + 200 ≤ s.now) (n : Nat) :
    cfgCatch (n + 2) s = writeDone ((slotClosed (s.get cfgTgt) (s.set cfgStepAt (s.get cfgStepAt + 200))).set cfgStepAt (s.get cfgStepAt + 200)) := by
  have tgt : s.get cfgTgt < 2 := State.get_lt s cfgTgt
  obtain ⟨-, -, -, -, bounds5, -⟩ := cfgBounds_write hc
  generalize hu : s.set cfgStepAt (s.get cfgStepAt + 200) = u
  have kept : ∀ g : Fld, g.key ≠ cfgStepAt.key → u.get g = s.get g := fun g hg => hu ▸ State.get_set_ne _ _ _ _ hg
  have first : cfgCatch (n + 2) s = cfgCatch (n + 1) (slotClosed (s.get cfgTgt) u) := by
    rw [cfgCatch_write hb hc (by rw [bounds5 hp]; exact hd), bounds5 hp, hu,
      writeNext_closed ((kept _ (by decide)).trans hp), kept _ (by decide)]
  generalize hv : slotClosed (s.get cfgTgt) u = v at first ⊢
  have closed : ∀ g : Fld, g.key ≠ CONFIG_STAT_PHASE.key → (g.key < (slotFull 0).key ∨ (slotBad 1).key < g.key) → v.get g = u.get g :=
    fun g hg hf => hv ▸ slotClosed_get tgt hg hf u
  have phase : v.get CONFIG_STAT_PHASE = 6 := hv ▸ slotClosed_phase _ _
  have busy : v.get CONFIG_CMD_STATUS = stBusy := (closed _ (by decide) (by decide)).trans ((kept _ (by decide)).trans hb)
  have code : v.get CONFIG_CMD_CODE = 1 := (closed _ (by decide) (by decide)).trans ((kept _ (by decide)).trans hc)
  have stepAt : v.get cfgStepAt = s.get cfgStepAt + 200 := by
    rw [closed _ (by decide) (by decide), ← hu]
    exact State.get_set_of_lt (lt_of_le_of_lt hd (lt_trans s.now_lt (by decide))) s
  have now : v.now = s.now := by rw [← hv, ← hu, slotClosed_now, State.set_now]
  obtain ⟨-, -, -, -, -, bounds6⟩ := cfgBounds_write code
  rw [first, cfgCatch_write busy code (by rw [bounds6 phase, stepAt, now]; exact le_trans (by simp) hd), bounds6 phase, stepAt,
    writeNext_done ((State.get_set_ne _ _ _ _ (by decide)).trans phase),
    cfgCatch_still (.inr (cfgRuns_ended (writeDone_ended _)))]
  rfl

/-- R450 step 5: the closing word makes the slot valid, and the command ends. -/
theorem exec_evConfigDone_closing (hp : s.get CONFIG_STAT_PHASE = 5) (hd : s.get cfgStepAt + 200 ≤ s.now) :
    ∃ t, exec (.evConfigDone none) s = .next t ∧ t.get CONFIG_CMD_STATUS = (if s.get (cmdLate 0) = 0 then stDone else stTooLate) ∧
      t.get CONFIG_STAT_PHASE = 0 ∧ t.get (slotFull (s.get cfgTgt)) = 1 ∧
      t.wordAt (slotBase (s.get cfgTgt) + 0x0FFFF000 + 52) = s.wordAt (slotBase (s.get cfgTgt) + 0x0FFFF000 + 4) := by
  have tgt : s.get cfgTgt < 2 := State.get_lt s cfgTgt
  have steps := cfgCatch_closing hb hc hp hd (s.get cfgLen / 4096 + 4)
  generalize hv : (slotClosed (s.get cfgTgt) (s.set cfgStepAt (s.get cfgStepAt + 200))).set cfgStepAt (s.get cfgStepAt + 200) = v at steps
  have late : v.get (cmdLate 0) = s.get (cmdLate 0) := by
    rw [← hv, State.get_set_ne _ _ _ _ (by decide), slotClosed_get tgt (by decide) (by decide), State.get_set_ne _ _ _ _ (by decide)]
  obtain ⟨hr, h1, h2, h3, h4, h5⟩ := slotFull_not_reported tgt
  refine ⟨writeDone v, ?_, ?_, writeDone_phase v, ?_, ?_⟩
  · rw [exec_evConfigDone_steps hb hc, cfgFinish_ended (by rw [steps]; exact writeDone_ended v), steps]
  · rw [writeDone_status, late]
  · rw [writeDone_get h2 h1 hr h3 h4, ← hv, State.get_set_ne _ _ _ _ h5, slotClosed_full tgt]
  · have same : (writeDone v).wordAt (slotBase (s.get cfgTgt) + 0x0FFFF000 + 52) = v.wordAt (slotBase (s.get cfgTgt) + 0x0FFFF000 + 52) :=
      State.wordAt_congr fun i _ => writeDone_byte (by unfold slotBase; omega) v
    rw [same, ← hv, State.wordAt_set, slotClosed_word, State.wordAt_set]

/-! ### A check that fails (R450 step 3) -/

theorem exec_evConfigDone_unchecked (hp : s.get CONFIG_STAT_PHASE = 3) (hd : s.get cfgStepAt + s.get cfgLen / 2 ≤ s.now)
    (he : writeErr (s.set cfgStepAt (s.get cfgStepAt + s.get cfgLen / 2)) ≠ 0)
    (hlt : writeErr (s.set cfgStepAt (s.get cfgStepAt + s.get cfgLen / 2)) < 64) :
    ∃ t, exec (.evConfigDone none) s = .next t ∧ t.get CONFIG_CMD_STATUS = stFailed ∧
      t.get CONFIG_STAT_ERR = writeErr (s.set cfgStepAt (s.get cfgStepAt + s.get cfgLen / 2)) ∧ t.get CONFIG_STAT_PHASE = 0 := by
  obtain ⟨-, -, bounds3, -⟩ := cfgBounds_write hc
  generalize hu : s.set cfgStepAt (s.get cfgStepAt + s.get cfgLen / 2) = u at he hlt
  have phase : u.get CONFIG_STAT_PHASE = 3 := by rw [← hu, State.get_set_ne _ _ _ _ (by decide), hp]
  have failed := cfgFail_status (writeErr u) (writeTime u)
  have steps : ∀ n, cfgCatch (n + 1) s = cfgFail (writeErr u) (writeTime u) := by
    intro n
    rw [cfgCatch_write hb hc (by rw [bounds3 hp]; exact hd), bounds3 hp, hu, writeNext_checked phase, if_neg he,
      cfgCatch_still (.inr (cfgRuns_ended (by rw [failed]; decide)))]
  refine ⟨_, ?_, failed, cfgFail_err (by omega) _, cfgFail_phase _ _⟩
  rw [exec_evConfigDone_steps hb hc, cfgFinish_ended (by rw [steps, failed]; decide), steps]

end Runs

/-! ### A row that does not verify (R450 step 2) -/

section RowFail
variable {o : Nat} {b : Byte} {u : State}

theorem rowFail_none (hu : cfgCatch (rowsLeft (o / 4096) s) s = u)
    (h : u.get CONFIG_STAT_PHASE ≠ 2 ∨ u.get cfgRow ≠ o / 4096 ∨ u.get cfgLen ≤ o) : rowFail o b s = s := by
  rw [rowFail, hu]
  exact if_neg fun ⟨h1, h2, h3⟩ => h.elim (· h1) fun h => h.elim (· h2) (Nat.not_le.2 h3)

/-- The row's bytes up to the one that does not verify, and what that one reads. -/
def rowRead (o : Nat) (b : Byte) (u : State) : List Byte := memTake u.mem (u.get cfgSrc + 4096 * (o / 4096)) (o % 4096) ++ [b]

theorem rowFail_some (hu : cfgCatch (rowsLeft (o / 4096) s) s = u) (hp : u.get CONFIG_STAT_PHASE = 2) (hr : u.get cfgRow = o / 4096)
    (hl : o < u.get cfgLen) :
    rowFail o b s = cfgFail 0x15 (writeTime (u.putBytes (slotBase (u.get cfgTgt) + 4096 * (o / 4096)) (rowRead o b u))) := by
  rw [rowFail, hu]
  exact if_pos ⟨hp, hr, hl⟩

theorem rowRead_length (o : Nat) (b : Byte) (u : State) : (rowRead o b u).length = o % 4096 + 1 := by
  simp [rowRead]

theorem rowRead_last (o : Nat) (b : Byte) (u : State) (h : o % 4096 < (rowRead o b u).length) : (rowRead o b u)[o % 4096] = b := by
  simp [rowRead]

theorem rowRead_before {i : Nat} (hi : i < o % 4096) (h : i < (rowRead o b u).length) :
    (rowRead o b u)[i] = u.byteAt (u.get cfgSrc + 4096 * (o / 4096) + i) := by
  have taken : i < (memTake u.mem (u.get cfgSrc + 4096 * (o / 4096)) (o % 4096)).length := by rwa [memTake_length]
  exact (List.getElem_append_left taken).trans (memTake_getElem _ _ _ i taken)

theorem exec_evConfigDone_rowFail {o : BitVec 28} (hb : s.get CONFIG_CMD_STATUS = stBusy) (hc : s.get CONFIG_CMD_CODE = 1)
    (hp : s.get CONFIG_STAT_PHASE = 2) (hr : s.get cfgRow = o.toNat / 4096) (hl : o.toNat < s.get cfgLen) :
    ∃ t, exec (.evConfigDone (some (o, b))) s = .next t ∧ t.get CONFIG_CMD_STATUS = stFailed ∧ t.get CONFIG_STAT_ERR = 0x15 ∧
      t.get CONFIG_STAT_PHASE = 0 ∧ t.byteAt (slotBase (s.get cfgTgt) + o.toNat) = b ∧
      ∀ i < o.toNat % 4096, t.byteAt (slotBase (s.get cfgTgt) + o.toNat / 4096 * 4096 + i) =
        s.byteAt (s.get cfgSrc + o.toNat / 4096 * 4096 + i) := by
  have present : cfgCatch (rowsLeft (o.toNat / 4096) s) s = s := by
    simp only [rowsLeft, hp, hr, Nat.sub_self, OfNat.ofNat_ne_one, if_false, cfgCatch]
  have fail := rowFail_some (b := b) present hp hr hl
  have written : ∀ i, (hi : i < (rowRead o.toNat b s).length) → (rowFail o.toNat b s).byteAt
      (slotBase (s.get cfgTgt) + 4096 * (o.toNat / 4096) + i) = (rowRead o.toNat b s)[i] := by
    intro i hi
    rw [fail, cfgFail_byte (by unfold slotBase; omega)]
    exact State.byteAt_putBytes_in s _ hi
  have len := rowRead_length o.toNat b s
  refine ⟨rowFail o.toNat b s, exec_evConfigDone_row hb hc o b, ?_, ?_, ?_, ?_, fun i hi => ?_⟩
  · rw [fail, cfgFail_status]
  · rw [fail, cfgFail_err (by decide)]
  · rw [fail, cfgFail_phase]
  · have last := written (o.toNat % 4096) (by omega)
    rw [rowRead_last, Nat.add_assoc, Nat.div_add_mod] at last
    exact last
  · have before := written i (by omega)
    rw [rowRead_before hi] at before
    simpa only [Nat.mul_comm] using before

end RowFail

/-! ### Aborts (R451, R455) -/

theorem cfgAbort_write (hc : s.get CONFIG_CMD_CODE = 1) (hp : s.get CONFIG_STAT_PHASE < 6) : cfgAbort s = cfgEnd stAborted (writeTime s) := by
  simp only [cfgAbort, hc, hp, decide_true]

theorem cfgAbort_reconf (hc : s.get CONFIG_CMD_CODE = 2) (hp : s.get CONFIG_STAT_PHASE < 5) :
    cfgAbort s = cfgEnd stAborted (reconfTime (reconfBack s)) := by
  simp only [cfgAbort, hc, hp, decide_true]

/-- At or after the commit point, and while fuses are being blown, an abort comes too late (R9, R50). -/
theorem cfgAbort_late (h : (s.get CONFIG_CMD_CODE = 1 ∧ 6 ≤ s.get CONFIG_STAT_PHASE) ∨ (s.get CONFIG_CMD_CODE = 2 ∧ 5 ≤ s.get CONFIG_STAT_PHASE) ∨
    s.get CONFIG_CMD_CODE = 4) : cfgAbort s = s.set (cmdLate 0) 1 := by
  rcases h with ⟨hc, hp⟩ | ⟨hc, hp⟩ | hc
  · simp only [cfgAbort, hc, decide_eq_false (Nat.not_lt.2 hp)]
  · simp only [cfgAbort, hc, decide_eq_false (Nat.not_lt.2 hp)]
  · simp only [cfgAbort, hc]

end Sys2Proof.Machine
end

section
/-!
SUPPORT. Confirm, abandon and the rollback counter (R448, R452).
-/

namespace Sys2Proof.Machine
open Reg

variable {s : State}

/-! ### Confirm and abandon -/

/-- After a command that writes zeros `n` bytes long at `a`, which is no address of the Cellar: the words there. -/
theorem cfgAfter_zeroed_word {a n i : Nat} (ha : 0x21000000 ≤ a) (hi : 4 * i + 4 ≤ n) (s : State) :
    (cfgAfter (s.putBytes a (List.replicate n 0))).wordAt (a + 4 * i) = 0 := by
  refine State.wordAt_zero fun j hj => ?_
  have inside : 4 * i + j < (List.replicate n (0 : Byte)).length := by rw [List.length_replicate]; omega
  rw [cfgAfter_byte (by omega), Nat.add_assoc, State.byteAt_putBytes_in s a inside, List.getElem_replicate]

/-- The bytes elsewhere, the Cellar apart, stay. -/
theorem cfgAfter_zeroed_byte {a n b : Nat} (hb : b < 0x20000000 ∨ 0x21000000 ≤ b) (h : b < a ∨ a + n ≤ b) (s : State) :
    (cfgAfter (s.putBytes a (List.replicate n 0))).byteAt b = s.byteAt b := by
  rw [cfgAfter_byte hb, State.byteAt_putBytes_out s (by rwa [List.length_replicate])]

/-- Where the seal record of the running slot stands. -/
def runSeal (s : State) : Nat := slotBase (s.get CONFIG_STAT_RUN_SLOT) + 0x0FFFF000

theorem exec_confirm (s : State) : exec .confirm s = .next (cfgStart 3 (if s.flag CONFIG_STAT_TRIAL then 0 else 0x30) stDone
    (fun s => cfgAfter (s.putBytes (runSeal s + 256) (List.replicate 4 0))) s) := rfl

theorem exec_abandon (s : State) : exec .abandon s = .next (cfgStart 5 (if s.flag CONFIG_STAT_TRIAL then 0 else 0x30) stDone
    (fun s => cfgAfter (s.putBytes (runSeal s + 512) (List.replicate 12 0))) s) := rfl

/-- A command that zeroes `n` bytes at offset `o` of the running slot's seal record, and has ended `DONE`. -/
theorem sealZeroed_run (code o n : Nat) (h : code < 256) (s : State) :
    let t := cfgAfter ((s.cmdSet cfgCmd code stDone).putBytes (runSeal (s.cmdSet cfgCmd code stDone) + o) (List.replicate n 0))
    t.get CONFIG_CMD_CODE = code ∧ t.get CONFIG_CMD_STATUS = stDone ∧ (∀ i, 4 * i + 4 ≤ n → t.wordAt (runSeal s + o + 4 * i) = 0) ∧
      ∀ a, (a < 0x20000000 ∨ 0x21000000 ≤ a) → (a < runSeal s + o ∨ runSeal s + o + n ≤ a) → t.byteAt a = s.byteAt a := by
  have place : runSeal (s.cmdSet cfgCmd code stDone) = runSeal s := by
    rw [runSeal, cmdSet_get_ne (by decide) (by decide), runSeal]
  have high : 0x21000000 ≤ runSeal s + o := by unfold runSeal slotBase; omega
  rw [place]
  refine ⟨?_, ?_, fun i hi => cfgAfter_zeroed_word high hi _, fun a ha h => cfgAfter_zeroed_byte ha h _⟩
  · rw [cfgAfter_get (by decide) (by decide), State.get_putBytes]
    exact cmdSet_get_code (r := cfgCmd) (by decide) h _ _
  · rw [cfgAfter_get (by decide) (by decide), State.get_putBytes]
    exact cmdSet_get_status (r := cfgCmd) (by decide) _ _

section Trial
variable (hb : s.get CONFIG_CMD_STATUS ≠ stBusy)
include hb

theorem exec_confirm_refused (h : s.get CONFIG_STAT_TRIAL = 0) :
    exec .confirm s = .next (cfgAfter ((s.cmdSet cfgCmd 3 stRefused).set CONFIG_STAT_ERR 0x30)) := by
  rw [exec_confirm, (flag_eq_false_iff _ _).2 h]
  exact congrArg _ (cfgStart_refused hb (by decide))

theorem exec_abandon_refused (h : s.get CONFIG_STAT_TRIAL = 0) :
    exec .abandon s = .next (cfgAfter ((s.cmdSet cfgCmd 5 stRefused).set CONFIG_STAT_ERR 0x30)) := by
  rw [exec_abandon, (flag_eq_false_iff _ _).2 h]
  exact congrArg _ (cfgStart_refused hb (by decide))

/-- R448: `CONFIRM` programs the confirm word. -/
theorem exec_confirm_trial (h : s.get CONFIG_STAT_TRIAL ≠ 0) : ∃ t, exec .confirm s = .next t ∧ t.get CONFIG_CMD_CODE = 3 ∧
    t.get CONFIG_CMD_STATUS = stDone ∧ t.wordAt (runSeal s + 256) = 0 ∧
    ∀ a, (a < 0x20000000 ∨ 0x21000000 ≤ a) → (a < runSeal s + 256 ∨ runSeal s + 260 ≤ a) → t.byteAt a = s.byteAt a := by
  obtain ⟨code, status, words, bytes⟩ := sealZeroed_run 3 256 4 (by decide) s
  refine ⟨_, ?_, code, status, words 0 (by decide), bytes⟩
  rw [exec_confirm, (flag_eq_true_iff _ _).2 h]
  exact congrArg _ (cfgStart_run hb rfl)

/-- R448: `ABANDON` uses every trial mark. -/
theorem exec_abandon_trial (h : s.get CONFIG_STAT_TRIAL ≠ 0) : ∃ t, exec .abandon s = .next t ∧ t.get CONFIG_CMD_CODE = 5 ∧
    t.get CONFIG_CMD_STATUS = stDone ∧ (∀ i < 3, t.wordAt (runSeal s + 512 + 4 * i) = 0) ∧
    ∀ a, (a < 0x20000000 ∨ 0x21000000 ≤ a) → (a < runSeal s + 512 ∨ runSeal s + 524 ≤ a) → t.byteAt a = s.byteAt a := by
  obtain ⟨code, status, words, bytes⟩ := sealZeroed_run 5 512 12 (by decide) s
  refine ⟨_, ?_, code, status, fun i hi => words i (by omega), bytes⟩
  rw [exec_abandon, (flag_eq_true_iff _ _).2 h]
  exact congrArg _ (cfgStart_run hb rfl)

end Trial

/-! ### The rollback counter (R452) -/

theorem exec_rollfwd (s : State) :
    exec .rollfwd s = .next (cfgStart 4 (if runConfirmed s then 0 else 0x31) stBusy (fun s => s.set cfgAt s.now) s) := rfl

theorem exec_rollfwdDone (good : Bool) (blown : BitVec 6) (s : State) : exec (.rollfwdDone good blown) s =
    .next (s.when (s.busy cfgCmd && s.get CONFIG_CMD_CODE == 4) (fun s =>
      if good then cfgEnd (cfgFin s) ((s.set rollCount (max (s.get rollCount) (runSecver s))).set (cmdLate 0) 0)
      else cfgEnd (if s.flag (cmdLate 0) then stTooLate else stFailed) (raiseFault (yardCode 11 0x30) .ride
        (((s.set rollCount (min (max (s.get rollCount) (runSecver s)) (s.get rollCount + blown.toNat))).set (cmdLate 0) 0).set
          CONFIG_STAT_ERR 0x32)))) := rfl

theorem rollTarget_lt (s : State) : max (s.get rollCount) (runSecver s) < 2 ^ rollCount.width :=
  max_lt (State.get_lt s rollCount) (Nat.mod_lt _ (by decide))

theorem exec_rollfwdDone_other (h : s.get CONFIG_CMD_STATUS ≠ stBusy ∨ s.get CONFIG_CMD_CODE ≠ 4) (good : Bool) (blown : BitVec 6) :
    exec (.rollfwdDone good blown) s = .next s := by
  have idle : (s.busy cfgCmd && s.get CONFIG_CMD_CODE == 4) = false := by
    rcases h with h | h
    · rw [busy_eq_false (c := cfgCmd) h, Bool.false_and]
    · rw [beq_false_of_ne h, Bool.and_false]
  rw [exec_rollfwdDone, idle, State.when_false]

section Fuses
variable (hb : s.get CONFIG_CMD_STATUS = stBusy) (hc : s.get CONFIG_CMD_CODE = 4)
include hb hc

theorem rollRuns : (s.busy cfgCmd && s.get CONFIG_CMD_CODE == 4) = true := by
  rw [busy_eq_true (c := cfgCmd) hb, hc]; rfl

/-- Every fuse verified. -/
theorem exec_rollfwdDone_good (blown : BitVec 6) : ∃ t, exec (.rollfwdDone true blown) s = .next t ∧
    t.get rollCount = max (s.get rollCount) (runSecver s) ∧
    t.get CONFIG_CMD_STATUS = (if s.get (cmdLate 0) = 0 then stDone else stTooLate) ∧ t.get (cmdLate 0) = 0 ∧
    t.get CONFIG_FUSE_COUNT = t.get rollCount := by
  rw [exec_rollfwdDone, rollRuns hb hc, State.when_true, if_pos rfl]
  have count : ∀ st u, (cfgEnd st u).get rollCount = u.get rollCount := cfgEnd_get (by decide) (by decide) (by decide)
  refine ⟨_, rfl, ?_, ?_, ?_, ?_⟩
  · rw [count, State.get_set_ne _ _ _ _ (by decide), State.get_set_of_lt (rollTarget_lt s)]
  · rw [cfgFin_eq]
    split <;> exact cfgEnd_status (by decide) _
  · rw [cfgEnd_get (by decide) (by decide) (by decide)]
    exact State.get_set_of_lt (by decide) _
  · rw [cfgEnd_fuseCount, count]

/-- A fuse that does not verify: those before it are blown. -/
theorem exec_rollfwdDone_bad (blown : BitVec 6) : ∃ t, exec (.rollfwdDone false blown) s = .next t ∧
    t.get rollCount = min (max (s.get rollCount) (runSecver s)) (s.get rollCount + blown.toNat) ∧
    t.get CONFIG_CMD_STATUS = (if s.get (cmdLate 0) = 0 then stFailed else stTooLate) ∧ t.get CONFIG_STAT_ERR = 0x32 ∧ t.get (cmdLate 0) = 0 ∧
    t.get CONFIG_FUSE_COUNT = t.get rollCount := by
  have counted : min (max (s.get rollCount) (runSecver s)) (s.get rollCount + blown.toNat) < 2 ^ rollCount.width :=
    lt_of_le_of_lt (min_le_left _ _) (rollTarget_lt s)
  rw [exec_rollfwdDone, rollRuns hb hc, State.when_true, if_neg Bool.false_ne_true]
  have fault : ∀ {g : Fld} u, reported (g.key / 32) = false → (raiseFault (yardCode 11 0x30) .ride u).get g = u.get g :=
    fun u hg => (raiseFault_ride_reports _ u).get _ hg
  have count : ∀ st u, (cfgEnd st (raiseFault (yardCode 11 0x30) .ride u)).get rollCount = u.get rollCount := fun st u =>
    (cfgEnd_get (by decide) (by decide) (by decide) st _).trans (fault u (by decide))
  refine ⟨_, rfl, ?_, ?_, ?_, ?_, ?_⟩
  · rw [count, State.get_set_ne _ _ _ _ (by decide), State.get_set_ne _ _ _ _ (by decide), State.get_set_of_lt counted]
  · rw [cfgEnd_status (by split <;> decide)]
    by_cases h : s.get (cmdLate 0) = 0 <;> simp [State.flag, h]
  · rw [cfgEnd_get (by decide) (by decide) (by decide), fault _ (by decide)]
    exact State.get_set_of_lt (by decide) _
  · rw [cfgEnd_get (by decide) (by decide) (by decide), fault _ (by decide), State.get_set_ne _ _ _ _ (by decide)]
    exact State.get_set_of_lt (by decide) _
  · rw [cfgEnd_fuseCount, fault _ (by decide), count]

end Fuses

end Sys2Proof.Machine
end

section
/-!
SUPPORT. The key commands (R442, R443) and what the fuses hold after them (R48).
-/

namespace Sys2Proof.Machine
open Reg

variable {who : Req} {s : State}

/-! ### `PROG` and `REVOKE` start -/

/-- The accepted `PROG`: the key taken from the cask, and its slot and type. -/
def progBegun (s : State) : State :=
  let t := s.get CONFIG_KEY_ARG_TYPE
  let c := s.get CONFIG_KEY_ARG_CASK
  let key := memTake s.mem (caskBase c) (keyLen t)
  let s := s.set keyPend (ofBytesBE (key ++ List.replicate (32 - keyLen t) 0))
  ((s.set keyPendSlot (s.get CONFIG_KEY_ARG_SLOT)).set keyPendType t).set keyPendCask c

theorem exec_prog (who : Req) (s : State) : exec (.prog who) s = .next (debugWrite who CONFIG_KEY_CMD_CODE.addr
    (fun u => u.cmdStart keyCmd 1 (progReason who s == 0) stBusy progBegun (fun u => keyAfter (u.set CONFIG_KEY_ERR_ERR (progReason who s)))) s) :=
  rfl

theorem debugWrite_of_ne (h : who ≠ .d) (a : Nat) (run : State → State) (s : State) : debugWrite who a run s = run s := by
  simp only [debugWrite, h, false_and, if_false, debugSeen_of_ne h]

theorem debugSeen_level (s : State) : (debugSeen .d s).get BIST_DBG_LEVEL = s.get BIST_DBG_LEVEL :=
  State.get_set_ne _ _ _ _ (by decide)

theorem debugWrite_level2 (h : s.get BIST_DBG_LEVEL = 2) (a : Nat) (run : State → State) : debugWrite .d a run s = run (debugSeen .d s) := by
  simp only [debugWrite, debugSeen_level, h, ne_eq, not_true_eq_false, and_false, if_false]

theorem debugWrite_below (h : s.get BIST_DBG_LEVEL ≠ 2) (a : Nat) (run : State → State) :
    debugWrite .d a run s = violation 3 a true (debugSeen .d s) := by
  simp only [debugWrite, debugSeen_level, h, ne_eq, not_false_eq_true, and_self, if_true, reqCode]

section Reason

theorem progReason_used (h : keyState (s.get CONFIG_KEY_ARG_SLOT) s ≠ 0) : progReason who s = 1 := by
  rw [progReason, if_pos h]

variable (hk : keyState (s.get CONFIG_KEY_ARG_SLOT) s = 0)
include hk

theorem progReason_type (h : s.get CONFIG_KEY_ARG_TYPE = 0 ∨ 3 < s.get CONFIG_KEY_ARG_TYPE) : progReason who s = 2 := by
  rw [progReason, if_neg (not_not.2 hk), if_pos (by omega)]

theorem progReason_cask (h1 : 1 ≤ s.get CONFIG_KEY_ARG_TYPE) (h3 : s.get CONFIG_KEY_ARG_TYPE ≤ 3) : progReason who s =
    if caskOwner s (s.get CONFIG_KEY_ARG_CASK) ≠ reqUser who ∨ reqUser who = 0 then 3 else 0 := by
  rw [progReason, if_neg (not_not.2 hk), if_neg (by omega)]

end Reason

/-- The types that a `PROG` without a reason takes. -/
theorem progReason_none (h : progReason who s = 0) :
    1 ≤ s.get CONFIG_KEY_ARG_TYPE ∧ s.get CONFIG_KEY_ARG_TYPE ≤ 3 ∧ reqUser who ≠ 0 := by
  unfold progReason at h
  split_ifs at h with used type cask
  exact ⟨by omega, by omega, fun e => cask (.inr e)⟩

/-- The debug port owns no cask, so none of its `PROG`s is accepted. -/
theorem progReason_d (s : State) : progReason .d s ≠ 0 := fun h => (progReason_none h).2.2 rfl

theorem keyLen_le (t : Nat) : keyLen t ≤ 32 := by unfold keyLen; split <;> omega

/-- What the accepted `PROG` latches; the fuses and working copies stay. -/
theorem progBegun_latched (h3 : s.get CONFIG_KEY_ARG_TYPE ≤ 3) :
    (progBegun s).get keyPendSlot = s.get CONFIG_KEY_ARG_SLOT ∧ (progBegun s).get keyPendType = s.get CONFIG_KEY_ARG_TYPE ∧
    (progBegun s).get keyPendCask = s.get CONFIG_KEY_ARG_CASK ∧
    (progBegun s).get keyPend = ofBytesBE (memTake s.mem (caskBase (s.get CONFIG_KEY_ARG_CASK)) (keyLen (s.get CONFIG_KEY_ARG_TYPE)) ++
      List.replicate (32 - keyLen (s.get CONFIG_KEY_ARG_TYPE)) 0) := by
  have bytes := ofBytesBE_lt (memTake s.mem (caskBase (s.get CONFIG_KEY_ARG_CASK)) (keyLen (s.get CONFIG_KEY_ARG_TYPE)) ++
    List.replicate (32 - keyLen (s.get CONFIG_KEY_ARG_TYPE)) 0)
  rw [List.length_append, memTake_length, List.length_replicate, Nat.add_sub_cancel' (keyLen_le _)] at bytes
  have type : s.get CONFIG_KEY_ARG_TYPE < 2 ^ keyPendType.width := lt_of_le_of_lt h3 (by decide)
  refine ⟨?_, ?_, ?_, ?_⟩ <;> simp (disch := decide) only [progBegun, State.get_set_ne]
  · exact State.get_set_get (by decide) _ _
  · exact State.get_set_of_lt type _
  · exact State.get_set_get (by decide) _ _
  · exact State.get_set_of_lt (f := keyPend) bytes _

@[simp] theorem progBegun_mem (s : State) : (progBegun s).mem = s.mem := by
  simp only [progBegun, State.set_mem]

theorem progBegun_get {g : Fld} (h1 : g.key ≠ keyPend.key) (h2 : g.key ≠ keyPendSlot.key) (h3 : g.key ≠ keyPendType.key)
    (h4 : g.key ≠ keyPendCask.key) (s : State) : (progBegun s).get g = s.get g := by
  rw [progBegun, State.get_set_ne _ _ _ _ h4, State.get_set_ne _ _ _ _ h3, State.get_set_ne _ _ _ _ h2, State.get_set_ne _ _ _ _ h1]

theorem exec_prog_refused (hd : who ≠ .d) (hb : s.get CONFIG_KEY_CMD_STATUS ≠ stBusy) (hr : progReason who s ≠ 0) : exec (.prog who) s =
    .next (keyAfter ((s.cmdSet keyCmd 1 stRefused).set CONFIG_KEY_ERR_ERR (progReason who s))) := by
  rw [exec_prog, debugWrite_of_ne hd, beq_false_of_ne hr, cmdStart_refused (r := keyCmd) hb]

theorem exec_prog_run (hb : s.get CONFIG_KEY_CMD_STATUS ≠ stBusy) (hr : progReason who s = 0) :
    exec (.prog who) s = .next (progBegun (s.cmdSet keyCmd 1 stBusy)) := by
  have hd : who ≠ .d := fun e => progReason_d s (e ▸ hr)
  rw [exec_prog, debugWrite_of_ne hd, hr]
  exact congrArg _ (cmdStart_run (r := keyCmd) hb)

theorem exec_prog_busy (hd : who ≠ .d) (hb : s.get CONFIG_KEY_CMD_STATUS = stBusy) : exec (.prog who) s = .next s := by
  rw [exec_prog, debugWrite_of_ne hd, cmdStart_busy (r := keyCmd) hb]

/-- At level 2 the debug port's `PROG` is judged, and refused. -/
theorem exec_prog_debug (hl : s.get BIST_DBG_LEVEL = 2) (hb : s.get CONFIG_KEY_CMD_STATUS ≠ stBusy) : exec (.prog .d) s =
    .next (keyAfter (((debugSeen .d s).cmdSet keyCmd 1 stRefused).set CONFIG_KEY_ERR_ERR (progReason .d s))) := by
  have idle : (debugSeen .d s).get CONFIG_KEY_CMD_STATUS ≠ stBusy := by
    rwa [debugSeen_d, State.get_set_ne _ _ _ _ (by decide)]
  rw [exec_prog, debugWrite_level2 hl, beq_false_of_ne (progReason_d s), cmdStart_refused (r := keyCmd) idle]

theorem exec_prog_below (hl : s.get BIST_DBG_LEVEL ≠ 2) :
    exec (.prog .d) s = .next (violation 3 CONFIG_KEY_CMD_CODE.addr true (debugSeen .d s)) := by
  rw [exec_prog, debugWrite_below hl]

theorem exec_revoke (s : State) : exec .revoke s = .next (s.cmdStart keyCmd 2
    (!(keyState (s.get CONFIG_KEY_ARG_SLOT) s == 0 || s.get verKey == s.get CONFIG_KEY_ARG_SLOT + 1)) stBusy
    (fun u => u.set keyPendSlot (s.get CONFIG_KEY_ARG_SLOT)) (fun u => keyAfter (u.set CONFIG_KEY_ERR_ERR 4))) := rfl

theorem exec_revoke_busy (hb : s.get CONFIG_KEY_CMD_STATUS = stBusy) : exec .revoke s = .next s := by
  rw [exec_revoke, cmdStart_busy (r := keyCmd) hb]

theorem exec_revoke_refused (hb : s.get CONFIG_KEY_CMD_STATUS ≠ stBusy)
    (h : keyState (s.get CONFIG_KEY_ARG_SLOT) s = 0 ∨ s.get verKey = s.get CONFIG_KEY_ARG_SLOT + 1) :
    exec .revoke s = .next (keyAfter ((s.cmdSet keyCmd 2 stRefused).set CONFIG_KEY_ERR_ERR 4)) := by
  have bad : (keyState (s.get CONFIG_KEY_ARG_SLOT) s == 0 || s.get verKey == s.get CONFIG_KEY_ARG_SLOT + 1) = true := by simpa using h
  rw [exec_revoke, bad, Bool.not_true, cmdStart_refused (r := keyCmd) hb]

theorem exec_revoke_run (hb : s.get CONFIG_KEY_CMD_STATUS ≠ stBusy) (hk : keyState (s.get CONFIG_KEY_ARG_SLOT) s ≠ 0)
    (hv : s.get verKey ≠ s.get CONFIG_KEY_ARG_SLOT + 1) :
    exec .revoke s = .next ((s.cmdSet keyCmd 2 stBusy).set keyPendSlot (s.get CONFIG_KEY_ARG_SLOT)) := by
  rw [exec_revoke, beq_false_of_ne hk, beq_false_of_ne hv, Bool.or_self, Bool.not_false, cmdStart_run (r := keyCmd) hb]

/-! ### `EV_KEY_DONE` -/

/-- The registers that the end of a key command may keep: the slots and keys as shown, and the freshness record's. -/
def keyFollowed (a : Nat) : Bool := slotShown a || keyShown a || a == AUTH_FRESH_CTR.addr || a == authBad.addr

theorem ChangesOnly.mono {p q : Nat → Bool} {s t : State} (h : ChangesOnly p s t) (hpq : ∀ a, p a = true → q a = true) : ChangesOnly q s t :=
  ⟨fun g hg => h.get g (Bool.eq_false_iff.2 fun hp => Bool.eq_false_iff.1 hg (hpq _ hp)), h.mem⟩

theorem ChangesOnly.trans {p : Nat → Bool} {s t u : State} (h : ChangesOnly p s t) (k : ChangesOnly p t u) : ChangesOnly p s u :=
  ⟨fun g hg => (k.get g hg).trans (h.get g hg), k.mem.trans h.mem⟩

theorem keyShow_follows (s : State) : ChangesOnly keyFollowed s (keyShow s) :=
  (keyShow_changes s).mono fun a h => by simp [keyFollowed, h]

theorem keyShownState_follows (s : State) : ChangesOnly keyFollowed s (keyShownState s) :=
  (keyShow_follows s).trans ((slotsShow_changes _).mono fun a h => by simp [keyFollowed, h])

theorem freshLoad_follows (s : State) : ChangesOnly keyFollowed s (freshLoad s) := by
  unfold freshLoad
  split <;> exact (ChangesOnly.refl _ s).set (by decide) _

theorem keyFresh_follows (k : Nat) (s : State) : ChangesOnly keyFollowed s (keyFresh k s) := by
  unfold keyFresh State.when
  split
  · exact ((ChangesOnly.refl _ s).set (by decide) _).trans (freshLoad_follows _)
  · exact ChangesOnly.refl _ s

/-- The state in which the fuses are judged: of a `PROG`, the cask's key bytes are gone (R443). -/
def keyTaken (s : State) : State :=
  (s.set (cmdLate 1) 0).when (s.get CONFIG_KEY_CMD_CODE == 1) (caskZero (s.get keyPendCask) (keyLen (s.get keyPendType)))

@[simp] theorem caskZero_get (c k : Nat) (s : State) (g : Fld) : (caskZero c k s).get g = s.get g := rfl

theorem keyTaken_get {g : Fld} (h : g.key ≠ (cmdLate 1).key) (s : State) : (keyTaken s).get g = s.get g := by
  unfold keyTaken State.when
  split
  · rw [caskZero_get, State.get_set_ne _ _ _ _ h]
  · exact State.get_set_ne _ _ _ _ h

/-- Slot `k` with the pending key blown and in its working copy. -/
def keyBlown (k : Nat) (s : State) : State :=
  ((s.set (keyFuse k) (s.get keyPend)).set (keyType k) (s.get keyPendType)).set (keyWork k) (s.get keyPend)

@[simp] theorem keyBlown_mem (k : Nat) (s : State) : (keyBlown k s).mem = s.mem := by
  simp only [keyBlown, State.set_mem]

/-- Where a key command whose fuses all verified ends. -/
def keyFin (s : State) : Nat := if s.flag (cmdLate 1) then stTooLate else stDone

theorem keyFin_eq (s : State) : keyFin s = if s.get (cmdLate 1) = 0 then stDone else stTooLate := by
  by_cases h : s.get (cmdLate 1) = 0 <;> simp [keyFin, State.flag, h]

/-- The state at the end of a key command, before its event is raised: the pending key is gone and the status stands. -/
def keyEnded (st : Nat) (s : State) : State := keyShownState ((s.set keyPend 0).cmdEnd keyCmd st)

theorem keyEnded_follows (st : Nat) (s : State) : ChangesOnly keyFollowed ((s.set keyPend 0).cmdEnd keyCmd st) (keyEnded st s) :=
  keyShownState_follows _

theorem keyEnded_status {st : Nat} (h : st < 8) (s : State) : (keyEnded st s).get CONFIG_KEY_CMD_STATUS = st :=
  ((keyEnded_follows st s).get _ (by decide)).trans (State.get_set_of_lt h _)

theorem keyEnded_pend (st : Nat) (s : State) : (keyEnded st s).get keyPend = 0 := by
  rw [(keyEnded_follows st s).get _ (by decide), State.cmdEnd, State.get_set_ne _ _ _ _ (by decide)]
  exact State.get_set_of_lt (Nat.two_pow_pos _) _

theorem keyEnded_get {g : Fld} (hg : keyFollowed (g.key / 32) = false) (hp : g.key ≠ keyPend.key) (hs : g.key ≠ CONFIG_KEY_CMD_STATUS.key)
    (st : Nat) (s : State) : (keyEnded st s).get g = s.get g := by
  rw [(keyEnded_follows st s).get g hg, State.cmdEnd]
  exact (State.get_set_ne _ _ _ _ hs).trans (State.get_set_ne _ _ _ _ hp)

theorem keyEnded_mem (st : Nat) (s : State) : (keyEnded st s).mem = s.mem := (keyEnded_follows st s).mem

/-- A failed fuse: the slot is damaged, and its working copy takes what the fuses hold. -/
def keyFailed (s : State) : State :=
  let k := s.get keyPendSlot
  let t := keyInterrupt true (keyTaken s)
  (t.set (keyWork k) (t.get (keyFuse k))).set keyPend 0

/-- Where a key command ends of which a fuse did not verify. -/
def keyFailFin (s : State) : Nat := if keyFin s = stTooLate then stTooLate else stFailed

theorem exec_evKeyDone_idle (hb : s.get CONFIG_KEY_CMD_STATUS ≠ stBusy) (good : Bool) : exec (.evKeyDone good) s = .next s := by
  change execEvKeyDone good s = _
  rw [execEvKeyDone, busy_eq_false (c := keyCmd) hb, State.when_false, ok]

section Done
variable (hb : s.get CONFIG_KEY_CMD_STATUS = stBusy)
include hb

theorem exec_evKeyDone_prog (hc : s.get CONFIG_KEY_CMD_CODE = 1) : exec (.evKeyDone true) s = .next (raiseEvent 0x002 (keyEnded (keyFin s)
    (keyFresh (s.get keyPendSlot) (keyShow (keyBlown (s.get keyPendSlot) (keyTaken s)))))) := by
  change execEvKeyDone true s = _
  rw [execEvKeyDone, busy_eq_true (c := keyCmd) hb, State.when_true]
  simp only [hc, beq_self_eq_true, if_true, keyTaken, keyBlown, keyFin, keyEnded, keyAfter_eq, ok]

theorem exec_evKeyDone_revoke (hc : s.get CONFIG_KEY_CMD_CODE ≠ 1) : exec (.evKeyDone true) s = .next (raiseEvent 0x002 (keyEnded (keyFin s)
    ((keyTaken s).set (keyRevoked (s.get keyPendSlot)) 1))) := by
  change execEvKeyDone true s = _
  rw [execEvKeyDone, busy_eq_true (c := keyCmd) hb, State.when_true]
  simp only [beq_false_of_ne hc, Bool.false_eq_true, if_true, if_false, keyTaken, keyFin, keyEnded, keyAfter_eq, ok]

theorem exec_evKeyDone_failed : exec (.evKeyDone false) s = .next (keyAfter (raiseFault (yardCode 11 0x31) .ride
    (((keyFailed s).set CONFIG_KEY_ERR_ERR 5).cmdEnd keyCmd (keyFailFin s)))) := by
  change execEvKeyDone false s = _
  rw [execEvKeyDone, busy_eq_true (c := keyCmd) hb, State.when_true]
  simp only [Bool.false_eq_true, if_false, keyTaken, keyFin, keyFailFin, keyFailed, ok]
  rfl

end Done

/-! ### What the fuses and registers hold then -/

/-- What stands for slot `k`: its fuses, their damage, and its working copy. -/
def keySlotFields (k : Nat) : List Fld := [keyFuse k, keyType k, keyWork k, keyRevoked k, keyDamaged k]

/-- They stand apart from each other, from the key commands' registers, and from what the end of a key command keeps and reports. -/
theorem keySlotFields_apart : ∀ k < 8, ((keySlotFields k).map Fld.key).Nodup ∧ ∀ f ∈ keySlotFields k,
    keyFollowed (f.key / 32) = false ∧ reported (f.key / 32) = false ∧
    ∀ g ∈ [keyPend, keyPendSlot, keyPendType, keyPendCask, cmdLate 1, CONFIG_KEY_CMD_CODE, CONFIG_KEY_CMD_STATUS, CONFIG_KEY_ERR_ERR],
      f.key ≠ g.key := by
  decide

section Slot
variable {k : Nat} (hk : k < 8)
include hk

/-- A field of slot `k` over the registers of the key commands. -/
theorem keySlot_set_ne {f g : Fld} (hf : f ∈ keySlotFields k) (hg : g ∈ [keyPend, keyPendSlot, keyPendType, keyPendCask, cmdLate 1,
    CONFIG_KEY_CMD_CODE, CONFIG_KEY_CMD_STATUS, CONFIG_KEY_ERR_ERR]) (v : Nat) (s : State) : (s.set g v).get f = s.get f :=
  State.get_set_ne _ _ _ _ (((keySlotFields_apart k hk).2 f hf).2.2 g hg)

theorem keyEnded_slot {f : Fld} (hf : f ∈ keySlotFields k) (st : Nat) (s : State) : (keyEnded st s).get f = s.get f := by
  obtain ⟨followed, -, apart⟩ := (keySlotFields_apart k hk).2 f hf
  exact keyEnded_get followed (apart _ (by simp)) (apart _ (by simp)) st s

theorem keyBlown_get (s : State) : (keyBlown k s).get (keyFuse k) = s.get keyPend ∧ (keyBlown k s).get (keyType k) = s.get keyPendType ∧
    (keyBlown k s).get (keyWork k) = s.get keyPend := by
  have apart := (keySlotFields_apart k hk).1
  simp only [keySlotFields, List.map_cons, List.nodup_cons, List.mem_cons, not_or] at apart
  obtain ⟨⟨fuseType, fuseWork, -⟩, ⟨typeWork, -⟩, -⟩ := apart
  refine ⟨?_, ?_, ?_⟩
  · rw [keyBlown, State.get_set_ne _ _ _ _ fuseWork, State.get_set_ne _ _ _ _ fuseType]
    exact State.get_set_get (le_refl 256) _ _
  · rw [keyBlown, State.get_set_ne _ _ _ _ typeWork]
    exact State.get_set_get (le_refl 2) _ _
  · exact State.get_set_get (le_refl 256) _ _

end Slot

/-- The bytes that a `PROG` took read as zero in the cask. -/
theorem keyTaken_byte (hc : s.get CONFIG_KEY_CMD_CODE = 1) {i : Nat} (hi : i < keyLen (s.get keyPendType)) :
    (keyTaken s).byteAt (caskBase (s.get keyPendCask) + i) = 0 := by
  have inside : i < (List.replicate (keyLen (s.get keyPendType)) (0 : Byte)).length := by rwa [List.length_replicate]
  rw [keyTaken, hc, beq_self_eq_true, State.when_true, caskZero, State.byteAt_putBytes_in _ _ inside, List.getElem_replicate]

theorem keyTaken_mem (hc : s.get CONFIG_KEY_CMD_CODE ≠ 1) : (keyTaken s).mem = s.mem := by
  rw [keyTaken, beq_false_of_ne hc, State.when_false, State.set_mem]

/-- A slot whose revoke fuse is blown is revoked (R442). -/
theorem keyState_revoked {k : Nat} {u : State} (h : u.get (keyRevoked k) ≠ 0) : keyState k u = 15 := by
  rw [keyState, if_pos ((flag_eq_true_iff _ _).2 h)]

theorem keyPendSlot_lt (s : State) : s.get keyPendSlot < 8 := State.get_lt s keyPendSlot

theorem keyFin_lt (s : State) : keyFin s < 8 := by unfold keyFin; split <;> decide

section Done
variable (hb : s.get CONFIG_KEY_CMD_STATUS = stBusy)
include hb

/-- R443, `PROG`: the fuses and the working copy hold the key, and it stands nowhere else. -/
theorem evKeyDone_programs (hc : s.get CONFIG_KEY_CMD_CODE = 1) : ∃ u, exec (.evKeyDone true) s = .next (raiseEvent 0x002 u) ∧
    u.get (keyFuse (s.get keyPendSlot)) = s.get keyPend ∧ u.get (keyType (s.get keyPendSlot)) = s.get keyPendType ∧
    u.get (keyWork (s.get keyPendSlot)) = s.get keyPend ∧ u.get keyPend = 0 ∧ u.get CONFIG_KEY_CMD_STATUS = keyFin s ∧
    ∀ i < keyLen (s.get keyPendType), u.byteAt (caskBase (s.get keyPendCask) + i) = 0 := by
  have hk := keyPendSlot_lt s
  have taken : ∀ g : Fld, g.key ≠ (cmdLate 1).key → (keyTaken s).get g = s.get g := fun g hg => keyTaken_get hg s
  obtain ⟨fuse, type, work⟩ := keyBlown_get hk (keyTaken s)
  rw [taken _ (by decide)] at fuse type work
  generalize hv : keyBlown (s.get keyPendSlot) (keyTaken s) = v at fuse type work
  have follows : ChangesOnly keyFollowed v (keyFresh (s.get keyPendSlot) (keyShow v)) :=
    (keyShow_follows v).trans (keyFresh_follows _ _)
  have slot : ∀ f ∈ keySlotFields (s.get keyPendSlot),
      (keyEnded (keyFin s) (keyFresh (s.get keyPendSlot) (keyShow v))).get f = v.get f := fun f hf =>
    (keyEnded_slot hk hf _ _).trans (follows.get f ((keySlotFields_apart _ hk).2 f hf).1)
  have mem : (keyEnded (keyFin s) (keyFresh (s.get keyPendSlot) (keyShow v))).mem = (keyTaken s).mem := by
    rw [keyEnded_mem, follows.mem, ← hv, keyBlown_mem]
  refine ⟨_, exec_evKeyDone_prog hb hc, ?_⟩
  rw [hv]
  refine ⟨?_, ?_, ?_, keyEnded_pend _ _, keyEnded_status (keyFin_lt s) _, fun i hi => ?_⟩
  · rw [slot _ (by simp [keySlotFields]), fuse]
  · rw [slot _ (by simp [keySlotFields]), type]
  · rw [slot _ (by simp [keySlotFields]), work]
  · rw [State.byteAt, mem]
    exact keyTaken_byte hc hi

/-- R443, `REVOKE`. -/
theorem evKeyDone_revokes (hc : s.get CONFIG_KEY_CMD_CODE ≠ 1) : ∃ u, exec (.evKeyDone true) s = .next (raiseEvent 0x002 u) ∧
    u.get (keyRevoked (s.get keyPendSlot)) = 1 ∧ keyState (s.get keyPendSlot) u = 15 ∧ u.get CONFIG_KEY_CMD_STATUS = keyFin s ∧
    u.mem = s.mem := by
  have revoked : (keyEnded (keyFin s) ((keyTaken s).set (keyRevoked (s.get keyPendSlot)) 1)).get (keyRevoked (s.get keyPendSlot)) = 1 := by
    rw [keyEnded_slot (keyPendSlot_lt s) (by simp [keySlotFields])]
    exact State.get_set_of_lt (by decide : 1 < 2 ^ 1) _
  refine ⟨_, exec_evKeyDone_revoke hb hc, revoked, keyState_revoked (by rw [revoked]; decide), keyEnded_status (keyFin_lt s) _, ?_⟩
  rw [keyEnded_mem, State.set_mem, keyTaken_mem hc]

end Done

/-! ### A fuse that does not verify -/

theorem freeWords_get (n : Nat) (s : State) (g : Fld) : (freeWords n s).2.get g = s.get g := by
  induction n generalizing s with
  | zero => rfl
  | succ n ih => exact ih s

/-- The pending slot is damaged; of the other fields only its key bits may change. -/
theorem keyInterrupt_failed (hb : s.get CONFIG_KEY_CMD_STATUS = stBusy) : (keyInterrupt true s).get (keyDamaged (s.get keyPendSlot)) = 1 ∧
    ∀ g : Fld, g.key ≠ (keyDamaged (s.get keyPendSlot)).key → g.key ≠ (keyFuse (s.get keyPendSlot)).key → (keyInterrupt true s).get g = s.get g := by
  have hk := keyPendSlot_lt s
  have apart := (keySlotFields_apart _ hk).1
  simp only [keySlotFields, List.map_cons, List.nodup_cons, List.mem_cons, not_or] at apart
  obtain ⟨⟨-, -, -, fuseDamaged, -⟩, -⟩ := apart
  unfold keyInterrupt
  rw [if_neg (not_not.2 hb)]
  dsimp only
  rw [freeWords_get]
  split
  · rw [if_pos (Bool.true_or _)]
    refine ⟨?_, fun g hd hf => ?_⟩
    · rw [State.get_set_ne _ _ _ _ (Ne.symm fuseDamaged)]
      exact State.get_set_of_lt (by decide : 1 < 2 ^ 1) _
    · rw [State.get_set_ne _ _ _ _ hf, State.get_set_ne _ _ _ _ hd, freeWords_get, freeWords_get]
  · rw [if_pos rfl]
    refine ⟨State.get_set_of_lt (by decide : 1 < 2 ^ 1) _, fun g hd _ => ?_⟩
    rw [State.get_set_ne _ _ _ _ hd, freeWords_get]

theorem keyFailFin_eq (s : State) : keyFailFin s = if s.get (cmdLate 1) = 0 then stFailed else stTooLate := by
  rw [keyFailFin, keyFin_eq]
  split <;> rfl

theorem keyTaken_late (s : State) : (keyTaken s).get (cmdLate 1) = 0 := by
  have cleared : (s.set (cmdLate 1) 0).get (cmdLate 1) = 0 := State.get_set_of_lt (by decide) s
  unfold keyTaken State.when
  split
  · rw [caskZero_get, cleared]
  · exact cleared

/-- What a failed key command leaves: the slot damaged, no pending key, no abort noted. -/
theorem keyFailed_get (hb : s.get CONFIG_KEY_CMD_STATUS = stBusy) : (keyFailed s).get (keyDamaged (s.get keyPendSlot)) = 1 ∧
    (keyFailed s).get (cmdLate 1) = 0 ∧ (keyFailed s).get keyPend = 0 := by
  obtain ⟨nodup, apart⟩ := keySlotFields_apart _ (keyPendSlot_lt s)
  have late : ∀ f ∈ keySlotFields (s.get keyPendSlot), (cmdLate 1).key ≠ f.key := fun f hf => ((apart f hf).2.2 _ (by simp)).symm
  simp only [keySlotFields, List.map_cons, List.nodup_cons, List.mem_cons, not_or] at nodup
  obtain ⟨-, -, ⟨-, workDamaged, -⟩, -⟩ := nodup
  have taken : ∀ g : Fld, g.key ≠ (cmdLate 1).key → (keyTaken s).get g = s.get g := fun g hg => keyTaken_get hg s
  obtain ⟨damaged, others⟩ := keyInterrupt_failed ((taken _ (by decide)).trans hb)
  rw [taken keyPendSlot (by decide)] at damaged others
  refine ⟨?_, ?_, State.get_set_of_lt (Nat.two_pow_pos _) _⟩
  · rw [keyFailed, keySlot_set_ne (keyPendSlot_lt s) (by simp [keySlotFields]) (by simp), State.get_set_ne _ _ _ _ (Ne.symm workDamaged), damaged]
  · rw [keyFailed, State.get_set_ne _ _ _ _ (by decide), State.get_set_ne _ _ _ _ (late _ (by simp [keySlotFields])),
      others _ (late _ (by simp [keySlotFields])) (late _ (by simp [keySlotFields])), keyTaken_late]

/-- R443: a fuse that does not verify ends the command `FAILED` or `TOO_LATE`, and leaves the slot damaged. -/
theorem evKeyDone_fails (hb : s.get CONFIG_KEY_CMD_STATUS = stBusy) : ∃ t, exec (.evKeyDone false) s = .next t ∧
    t.get CONFIG_KEY_CMD_STATUS = (if s.get (cmdLate 1) = 0 then stFailed else stTooLate) ∧ t.get (cmdLate 1) = 0 ∧
    t.get CONFIG_KEY_ERR_ERR = 5 ∧ t.get (keyDamaged (s.get keyPendSlot)) = 1 ∧ t.get keyPend = 0 := by
  obtain ⟨damaged, late, pend⟩ := keyFailed_get hb
  have hmem : keyDamaged (s.get keyPendSlot) ∈ keySlotFields (s.get keyPendSlot) := by simp [keySlotFields]
  obtain ⟨followed, unreported, apart⟩ := (keySlotFields_apart _ (keyPendSlot_lt s)).2 _ hmem
  have after : ∀ {g : Fld} w, reported (g.key / 32) = false → keyFollowed (g.key / 32) = false →
      (keyAfter (raiseFault (yardCode 11 0x31) .ride w)).get g = w.get g := by
    intro g w hr hf
    obtain ⟨shown, -⟩ := Bool.or_eq_false_iff.1 (Bool.or_eq_false_iff.1 hf).1
    rw [keyAfter_get hr shown, (raiseFault_ride_reports _ w).get g hr]
  have ended : ∀ {g : Fld}, reported (g.key / 32) = false → keyFollowed (g.key / 32) = false → g.key ≠ CONFIG_KEY_CMD_STATUS.key →
      g.key ≠ CONFIG_KEY_ERR_ERR.key → (keyAfter (raiseFault (yardCode 11 0x31) .ride
        (((keyFailed s).set CONFIG_KEY_ERR_ERR 5).cmdEnd keyCmd (keyFailFin s)))).get g = (keyFailed s).get g :=
    fun hr hf hs he => (after _ hr hf).trans ((State.get_set_ne _ _ _ _ hs).trans (State.get_set_ne _ _ _ _ he))
  refine ⟨_, exec_evKeyDone_failed hb, ?_, ?_, ?_, ?_, ?_⟩
  · have fits : keyFailFin s < 2 ^ CONFIG_KEY_CMD_STATUS.width := by unfold keyFailFin; split <;> decide
    rw [after _ (by decide) (by decide), ← keyFailFin_eq]
    exact State.get_set_of_lt fits _
  · rw [ended (by decide) (by decide) (by decide) (by decide), late]
  · rw [after _ (by decide) (by decide)]
    exact (State.get_set_ne _ _ _ _ (by decide)).trans (State.get_set_of_lt (by decide) _)
  · rw [ended unreported followed (apart _ (by simp)) (apart _ (by simp)), damaged]
  · rw [ended (by decide) (by decide) (by decide) (by decide), pend]

end Sys2Proof.Machine
end

section
/-!
O55: image writes, the rollback counter and the key slots.
-/

namespace Sys2Proof.Machine
open Reg

variable {s : State}

/-- R449, R450 step 1: an accepted `WRITE` runs with its operands latched, the target slot erased and invalid. -/
theorem exec_write_starts (hb : s.get CONFIG_CMD_STATUS ≠ stBusy) (hr : writeReason s = 0) : ∃ t, exec .write s = .next t ∧
    t.get CONFIG_CMD_CODE = 1 ∧ t.get CONFIG_CMD_STATUS = stBusy ∧ t.get CONFIG_STAT_PHASE = 1 ∧ t.get CONFIG_STAT_MIB = 0 ∧
    t.get (CONFIG_SLOT_s_VALID (s.get CONFIG_ARG_TARGET)) = 0 ∧ t.get cfgTgt = s.get CONFIG_ARG_TARGET ∧ t.get cfgSrc = srcAddr s ∧
    t.get cfgLen = s.get CONFIG_LEN_LEN ∧ t.get cfgStepAt = s.now ∧ t.get cfgAt = s.now ∧
    ∀ a, t.byteAt a = if slotBase (s.get CONFIG_ARG_TARGET) ≤ a ∧ a < slotBase (s.get CONFIG_ARG_TARGET) + 0x10000000 then 0xFF else s.byteAt a := by
  have tgt : s.get CONFIG_ARG_TARGET < 2 := State.get_lt s _
  have kept : ∀ g : Fld, g.key ≠ CONFIG_CMD_CODE.key → g.key ≠ CONFIG_CMD_STATUS.key → (s.cmdSet cfgCmd 1 stBusy).get g = s.get g :=
    fun g hc hs => cmdSet_get_ne hc hs _ _ s
  have source : srcAddr (s.cmdSet cfgCmd 1 stBusy) = srcAddr s := by
    simp only [srcAddr, State.getWide, kept CONFIG_SRC_LO_ADDR (by decide) (by decide), kept CONFIG_SRC_HI_ADDR (by decide) (by decide)]
  obtain ⟨phase, mib, target, src, len, stepAt, begun⟩ := writeBegun_latched tgt (s.cmdSet cfgCmd 1 stBusy)
  refine ⟨_, exec_write_run hb hr, ?_, ?_, phase, mib, writeBegun_valid tgt _, target, src.trans source, ?_, stepAt, begun, fun a => ?_⟩
  · rw [writeBegun_get_below tgt (by decide) (by decide)]
    exact cmdSet_get_code (r := cfgCmd) (by decide) (by decide) _ _
  · rw [writeBegun_get_below tgt (by decide) (by decide)]
    exact cmdSet_get_status (r := cfgCmd) (by decide) _ _
  · rw [len, kept _ (by decide) (by decide)]
  · exact writeBegun_byte tgt a _

/-- R443: an accepted `PROG` runs with the key taken from the cask; the fuses stay until it ends. -/
theorem exec_prog_starts {who : Req} (hb : s.get CONFIG_KEY_CMD_STATUS ≠ stBusy) (hr : progReason who s = 0) : ∃ t,
    exec (.prog who) s = .next t ∧ t.get CONFIG_KEY_CMD_CODE = 1 ∧ t.get CONFIG_KEY_CMD_STATUS = stBusy ∧
    t.get keyPendSlot = s.get CONFIG_KEY_ARG_SLOT ∧ t.get keyPendType = s.get CONFIG_KEY_ARG_TYPE ∧ t.get keyPendCask = s.get CONFIG_KEY_ARG_CASK ∧
    t.get keyPend = ofBytesBE (memTake s.mem (caskBase (s.get CONFIG_KEY_ARG_CASK)) (keyLen (s.get CONFIG_KEY_ARG_TYPE)) ++
      List.replicate (32 - keyLen (s.get CONFIG_KEY_ARG_TYPE)) 0) ∧ t.mem = s.mem ∧
    ∀ k < 8, t.get (keyFuse k) = s.get (keyFuse k) ∧ t.get (keyWork k) = s.get (keyWork k) := by
  have kept : ∀ g : Fld, g.key ≠ CONFIG_KEY_CMD_CODE.key → g.key ≠ CONFIG_KEY_CMD_STATUS.key → (s.cmdSet keyCmd 1 stBusy).get g = s.get g :=
    fun g hc hs => cmdSet_get_ne hc hs _ _ s
  have type := kept CONFIG_KEY_ARG_TYPE (by decide) (by decide)
  have latched := progBegun_latched (s := s.cmdSet keyCmd 1 stBusy) (type ▸ (progReason_none hr).2.1)
  rw [type, kept CONFIG_KEY_ARG_SLOT (by decide) (by decide), kept CONFIG_KEY_ARG_CASK (by decide) (by decide)] at latched
  obtain ⟨slot, pendType, cask, key⟩ := latched
  refine ⟨_, exec_prog_run hb hr, ?_, ?_, slot, pendType, cask, key, ?_, fun k hk => ?_⟩
  · rw [progBegun_get (by decide) (by decide) (by decide) (by decide)]
    exact cmdSet_get_code (r := keyCmd) (by decide) (by decide) _ _
  · rw [progBegun_get (by decide) (by decide) (by decide) (by decide)]
    exact cmdSet_get_status (r := keyCmd) (by decide) _ _
  · rw [progBegun_mem, cmdSet_mem]
  · have same : ∀ f ∈ keySlotFields k, (progBegun (s.cmdSet keyCmd 1 stBusy)).get f = s.get f := by
      intro f hf
      obtain ⟨-, -, apart⟩ := (keySlotFields_apart k hk).2 f hf
      rw [progBegun_get (apart _ (by simp)) (apart _ (by simp)) (apart _ (by simp)) (apart _ (by simp)),
        kept _ (apart _ (by simp)) (apart _ (by simp))]
    exact ⟨same _ (by simp [keySlotFields]), same _ (by simp [keySlotFields])⟩

/-- Settles O55, command by command: the starts by what R449, R448, R452 and R443 refuse, the ends by the step or the fuses that end them. -/
theorem imageWritesAndKeyFuses : Obligations.ImageWritesAndKeyFuses := by
  refine ⟨?_, ?_, ?_, ?_, ?_, ?_, ?_, ?_, ?_, ?_, ?_, ?_, ?_, ?_, ?_, ?_, ?_, ?_, ?_, ?_, ?_, ?_, ?_, ?_, ?_, ?_, ?_, ?_⟩
  -- the start of an image write (R449), and a command that runs
  · exact fun s hb => ⟨exec_write_refused hb, exec_write_starts hb⟩
  · intro s hb
    rw [exec_write, exec_confirm, exec_abandon, exec_rollfwd]
    simp only [cfgStart_busy hb, and_self]
  · exact fun s => ⟨writeReason_running, writeReason_none⟩
  -- its steps and their instants (R450)
  · exact fun row s h => exec_evConfigDone_other h row
  · refine fun row s hb hc => ⟨?_, ?_⟩
    · rintro rfl
      exact exec_evConfigDone_steps hb hc
    · rintro o b rfl
      exact exec_evConfigDone_row hb hc o b
  · exact fun k s => ⟨cfgFinish_busy, cfgFinish_ended⟩
  · exact fun k s => ⟨rfl, fun hb hc ha => cfgCatch_write hb hc ha k, fun hb hc ha => cfgCatch_reconf hb hc ha k,
      fun h => cfgCatch_still h (k + 1)⟩
  · exact fun s hc => cfgBounds_write hc
  · refine fun s => ⟨writeNext_erased, fun hp => ⟨fun hl => ?_, fun hl => ?_⟩, writeNext_checked, writeNext_sealed, writeNext_closed,
      writeNext_done⟩
    · rw [writeNext_row hp, decide_eq_true hl, State.when_true]
    · rw [writeNext_row hp, decide_eq_false (Nat.not_le.2 hl), State.when_false]
  · exact fun q s => ⟨rowPut_row q s, rowPut_mem q s, sealWords_length _ s, rfl, rfl, rfl, rfl, writeErr_zero_iff s⟩
  -- its ends
  · exact fun s hb hc hp hd => exec_evConfigDone_closing hb hc hp hd
  · exact fun s hb hc hp hd he hlt => exec_evConfigDone_unchecked hb hc hp hd he hlt
  · exact fun o b s => ⟨rowFail_none rfl, rowFail_some rfl⟩
  · exact fun o b s hb hc hp hr hl => exec_evConfigDone_rowFail hb hc hp hr hl
  · exact fun j s hj h => sealRec_lt_newGeneration hj h
  · exact fun s => ⟨cfgTick_waits, cfgTick_ends⟩
  · exact fun s => ⟨cfgAbort_write, cfgAbort_reconf, cfgAbort_late⟩
  -- confirm, abandon and the rollback counter (R448, R452)
  · exact fun s hb => ⟨fun h => ⟨exec_confirm_refused hb h, exec_abandon_refused hb h⟩, exec_confirm_trial hb, exec_abandon_trial hb⟩
  · refine fun s hb => ⟨fun h => ?_, fun h => ?_⟩
    · rw [exec_rollfwd, h]
      exact congrArg _ (cfgStart_refused hb (by decide))
    · rw [exec_rollfwd, h]
      exact congrArg _ (cfgStart_run hb rfl)
  · refine fun good blown s => ⟨fun h => exec_rollfwdDone_other h good blown, fun hb hc => ?_⟩
    cases good with
    | true =>
      obtain ⟨t, run, count, status, late, shown⟩ := exec_rollfwdDone_good hb hc blown
      exact ⟨t, run, fun _ => ⟨count, status⟩, nofun, late, shown⟩
    | false =>
      obtain ⟨t, run, count, status, err, late, shown⟩ := exec_rollfwdDone_bad hb hc blown
      exact ⟨t, run, nofun, fun _ => ⟨count, status, err⟩, late, shown⟩
  -- the key commands (R443), the slots' states (R442) and fingerprints (R48)
  · exact fun who s hb => ⟨fun hd hr => exec_prog_refused hd hb hr, exec_prog_starts hb⟩
  · exact fun who s hd hb => ⟨exec_prog_busy hd hb, exec_revoke_busy hb⟩
  · refine fun who s => ⟨progReason_used, progReason_type, fun hk h1 h3 => ⟨fun h => ?_, fun h h0 => ?_⟩, progReason_d s⟩
    · rw [progReason_cask hk h1 h3, if_pos h]
    · rw [progReason_cask hk h1 h3, if_neg (not_or.2 ⟨not_not.2 h, h0⟩)]
  · refine fun k s => ⟨keyState_revoked, fun hr hd => ?_, fun hr hd => ?_⟩
    · simp [keyState, hr, hd]
    · simp [keyState, hr, hd]
  · exact fun s hb => ⟨exec_revoke_refused hb, exec_revoke_run hb⟩
  · refine fun good s => ⟨fun hb => exec_evKeyDone_idle hb good, fun hb hc hg => ?_, fun hb hc hg => ?_, fun hb hg => ?_⟩
    · obtain ⟨u, run, facts⟩ := evKeyDone_programs hb hc
      exact ⟨u, hg ▸ run, keyFin_eq s ▸ facts⟩
    · obtain ⟨u, run, facts⟩ := evKeyDone_revokes hb hc
      exact ⟨u, hg ▸ run, keyFin_eq s ▸ facts⟩
    · exact hg ▸ evKeyDone_fails hb
  · intro k w s h
    rw [keyPrint, if_pos h]
  · exact fun s => ⟨exec_prog_debug, exec_prog_below⟩

end Sys2Proof.Machine
end

section
/-!
SUPPORT. The timebase's events and commands (R58, R62, R69 to R72): what each comes to in each of its cases.
-/

namespace Sys2Proof.Machine
open Reg

/-! ### Crystal and edge placers (R58, R62) -/

/-- A checked crystal is lost once. -/
theorem exec_xtalLost {s : State} (hok : s.get TB_STATUS_XTAL_OK ≠ 0) (hlost : s.get TB_STATUS_XTAL_LOST = 0) :
    exec .xtalLost s = .next (xtalLost s) := by
  have checked : (s.flag TB_STATUS_XTAL_OK && !s.flag TB_STATUS_XTAL_LOST) = true := by simp [State.flag, hok, hlost]
  change Host.Outcome.next (s.when _ xtalLost) = _
  rw [checked, State.when_true]

section Placer
variable {k : Fin 5} {e : BitVec 8} {s : State}

/-- Measuring a delay line leaves the placers' modes. -/
theorem fineErr_fineCoarse (k : Fin 5) (v : Nat) (s : State) :
    (s.set (TB_FINE_ERRk_ERR k) v).get TB_STATUS_FINE_COARSE = s.get TB_STATUS_FINE_COARSE :=
  State.get_set_ne _ _ _ _ (by simp only [Fld.key, TB_STATUS_FINE_COARSE, TB_FINE_ERRk_ERR]; omega)

theorem exec_fineCoarse_near (h : e.toInt.natAbs ≤ 16) : exec (.fineCoarse k e) s = .next (s.set (TB_FINE_ERRk_ERR k) e.toNat) := by
  change Host.Outcome.next (State.when _ (decide (16 < e.toInt.natAbs)) _) = _
  rw [decide_eq_false (Nat.not_lt.2 h), State.when_false]

/-- Beyond one fine step the time of it is kept, and a placer that was fine leaves fine placement. -/
theorem exec_fineCoarse_far (h : 16 < e.toInt.natAbs) : exec (.fineCoarse k e) s =
    .next (((s.set (TB_FINE_ERRk_ERR k) e.toNat).set (tbCoarseAt k) s.now).when (!bitAt (s.get TB_STATUS_FINE_COARSE) k) (fun s =>
      raiseFault 0x0102 .ride (raiseEvent 0x007 (s.setBit TB_STATUS_FINE_COARSE k true)))) := by
  rw [← fineErr_fineCoarse k e.toNat s]
  change Host.Outcome.next (State.when _ (decide (16 < e.toInt.natAbs)) _) = _
  rw [decide_eq_true h, State.when_true]
  rfl

theorem exec_fineReturn (k : Fin 5) (e : BitVec 8) (s : State) : exec (.fineReturn k e) s =
    .next ((s.set (TB_FINE_ERRk_ERR k) e.toNat).when (decide (e.toInt.natAbs ≤ 8) && decide (s.get (tbCoarseAt k) + 200000 ≤ s.now))
      (fun s => s.setBit TB_STATUS_FINE_COARSE k false)) := rfl

theorem exec_fineReturn_fine (h : e.toInt.natAbs ≤ 8) (ht : s.get (tbCoarseAt k) + 200000 ≤ s.now) :
    exec (.fineReturn k e) s = .next ((s.set (TB_FINE_ERRk_ERR k) e.toNat).setBit TB_STATUS_FINE_COARSE k false) := by
  rw [exec_fineReturn, decide_eq_true h, decide_eq_true ht, Bool.and_self, State.when_true]

theorem exec_fineReturn_coarse (h : 8 < e.toInt.natAbs ∨ s.now < s.get (tbCoarseAt k) + 200000) :
    exec (.fineReturn k e) s = .next (s.set (TB_FINE_ERRk_ERR k) e.toNat) := by
  have stays : (decide (e.toInt.natAbs ≤ 8) && decide (s.get (tbCoarseAt k) + 200000 ≤ s.now)) = false := by
    rw [← Bool.decide_and, decide_eq_false_iff_not]; omega
  rw [exec_fineReturn, stays, State.when_false]

end Placer

/-! ### Pulses (R69 to R71) -/

section Pulse
variable {e : Int} {s : State}

theorem exec_syncOutPulse (hm : s.get TB_SYNC_CTRL_MODE = 1) (ht : s.now % 65536 = 0) : exec .syncOutPulse s = .next (s.set syncOut 1) := by
  have leads : (s.get TB_SYNC_CTRL_MODE == 1 && s.now % 65536 == 0) = true := by rw [hm, ht]; rfl
  change Host.Outcome.next (s.when _ _) = _
  rw [leads, State.when_true]

/-- A follower's pulse: its error is shown and judged; it steers but where it is out of the window of a follower in lock. -/
theorem exec_syncInPulse (f : Fin 64) (hm : s.get TB_SYNC_CTRL_MODE = 2) :
    let e := sext 22 ((s.fineNow f + 2 ^ 22 - s.get TB_SYNC_CTRL_DLY) % 2 ^ 22)
    let t := s.seti TB_SYNC_ERR_ERR e
    exec (.syncInPulse f) s = .next (syncJudge e (if s.get TB_STATUS_SYNC_LOCK ≠ 0 ∧ 1280 < e.natAbs then t else steerFree t)) := by
  intro e t
  have kept : t.get TB_STATUS_SYNC_LOCK = s.get TB_STATUS_SYNC_LOCK := State.get_set_ne _ _ _ _ (by decide)
  have follows : (s.get TB_SYNC_CTRL_MODE == 2) = true := by rw [hm]; rfl
  change Host.Outcome.next (s.when _ _) = _
  rw [follows, State.when_true]
  rw [← kept]
  simp only [← flag_eq_true_iff]
  rfl

/-- A good pulse of a follower not in lock: the eighth in a row declares lock (R70). -/
theorem syncJudge_near (hl : s.get TB_STATUS_SYNC_LOCK = 0) (he : e.natAbs ≤ 12) (hg : s.get tbGood ≤ 7) :
    syncJudge e s = (s.set tbGood (s.get tbGood + 1)).when (decide (s.get tbGood = 7)) syncGain := by
  have count : (s.set tbGood (s.get tbGood + 1)).get tbGood = s.get tbGood + 1 :=
    State.get_set_of_lt (by change _ < 16; omega) s
  have eighth : (8 ≤ s.get tbGood + 1) = (s.get tbGood = 7) := propext (by omega)
  simp only [syncJudge, (flag_eq_false_iff s _).2 hl, decide_eq_true he, Bool.false_eq_true, if_false, if_true, count, eighth]

theorem syncJudge_notNear (hl : s.get TB_STATUS_SYNC_LOCK = 0) (he : 12 < e.natAbs) : syncJudge e s = s.set tbGood 0 := by
  simp only [syncJudge, (flag_eq_false_iff s _).2 hl, decide_eq_false (Nat.not_le.2 he), Bool.false_eq_true, if_false]

theorem syncJudge_inWindow (hl : s.get TB_STATUS_SYNC_LOCK ≠ 0) (he : e.natAbs ≤ 1280) : syncJudge e s = s.set tbBad 0 := by
  simp only [syncJudge, (flag_eq_true_iff s _).2 hl, decide_eq_false (Nat.not_lt.2 he), Bool.false_eq_true, if_false, if_true]

/-- A bad pulse of a follower in lock: the third in a row ends the lock (R71). -/
theorem syncJudge_outOfWindow (hl : s.get TB_STATUS_SYNC_LOCK ≠ 0) (he : 1280 < e.natAbs) (hb : s.get tbBad ≤ 2) :
    syncJudge e s = (s.set tbBad (s.get tbBad + 1)).when (decide (s.get tbBad = 2)) syncLose := by
  have count : (s.set tbBad (s.get tbBad + 1)).get tbBad = s.get tbBad + 1 :=
    State.get_set_of_lt (by change _ < 4; omega) s
  have third : (3 ≤ s.get tbBad + 1) = (s.get tbBad = 2) := propext (by omega)
  simp only [syncJudge, (flag_eq_true_iff s _).2 hl, decide_eq_true he, if_true, count, third]

/-- Missing pulses count as bad ones (R71). -/
theorem exec_syncLost (m : BitVec 2) (hm : s.get TB_SYNC_CTRL_MODE = 2) (hl : s.get TB_STATUS_SYNC_LOCK ≠ 0) :
    exec (.syncLost m) s = .next ((s.set tbBad (min 3 (s.get tbBad + m.toNat))).when (min 3 (s.get tbBad + m.toNat) == 3) syncLose) := by
  have follows : (s.get TB_SYNC_CTRL_MODE == 2 && s.flag TB_STATUS_SYNC_LOCK) = true := by rw [hm, (flag_eq_true_iff s _).2 hl]; rfl
  change Host.Outcome.next (s.when _ _) = _
  rw [follows, State.when_true]

theorem exec_syncLost_few {m : BitVec 2} (hm : s.get TB_SYNC_CTRL_MODE = 2) (hl : s.get TB_STATUS_SYNC_LOCK ≠ 0)
    (h : s.get tbBad + m.toNat < 3) : exec (.syncLost m) s = .next (s.set tbBad (s.get tbBad + m.toNat)) := by
  rw [exec_syncLost m hm hl, Nat.min_eq_right (Nat.le_of_lt h), beq_false_of_ne (Nat.ne_of_lt h), State.when_false]

theorem exec_syncLost_third {m : BitVec 2} (hm : s.get TB_SYNC_CTRL_MODE = 2) (hl : s.get TB_STATUS_SYNC_LOCK ≠ 0)
    (h : 3 ≤ s.get tbBad + m.toNat) : exec (.syncLost m) s = .next (syncLose (s.set tbBad 3)) := by
  rw [exec_syncLost m hm hl, Nat.min_eq_left h, beq_self_eq_true, State.when_true]

end Pulse

/-! ### `TB_SYNC_CMD` (R72) -/

section Command
variable {s : State}

theorem exec_lock (s : State) : exec .lock s = .next ((busOk s).cmdStart tbCmd 1
    (!anySwitching s && s.get TB_SYNC_CTRL_MODE == 2 && decide (s.now / 65536 ≤ epochTicks s / 65536)) stBusy id id) := rfl

theorem lockAllowed_iff (s : State) :
    (!anySwitching s && s.get TB_SYNC_CTRL_MODE == 2 && decide (s.now / 65536 ≤ epochTicks s / 65536)) = true ↔
      anySwitching s = false ∧ s.get TB_SYNC_CTRL_MODE = 2 ∧ s.now / 65536 ≤ epochTicks s / 65536 := by
  simp only [Bool.and_eq_true, Bool.not_eq_true', beq_iff_eq, decide_eq_true_eq, and_assoc]

theorem tbCmd_idle (h : s.busy tbCmd = false) : (busOk s).get tbCmd.status ≠ stBusy := by
  simpa [State.busy] using h

theorem exec_lock_starts (hb : s.busy tbCmd = false) (hs : anySwitching s = false) (hm : s.get TB_SYNC_CTRL_MODE = 2)
    (he : s.now / 65536 ≤ epochTicks s / 65536) : exec .lock s = .next ((busOk s).cmdSet tbCmd 1 stBusy) := by
  rw [exec_lock, (lockAllowed_iff s).2 ⟨hs, hm, he⟩, cmdStart_run (tbCmd_idle hb), id]

theorem exec_lock_refused (hb : s.busy tbCmd = false)
    (h : anySwitching s = true ∨ s.get TB_SYNC_CTRL_MODE ≠ 2 ∨ epochTicks s / 65536 < s.now / 65536) :
    exec .lock s = .next ((busOk s).cmdSet tbCmd 1 stRefused) := by
  have refused := Bool.eq_false_iff.2 fun allowed => by
    obtain ⟨hs, hm, he⟩ := (lockAllowed_iff s).1 allowed
    obtain h | h | h := h
    · exact Bool.false_ne_true (hs.symm.trans h)
    · exact h hm
    · exact Nat.not_le.2 h he
  rw [exec_lock, refused, cmdStart_refused (tbCmd_idle hb), id]

/-- The epoch a locking follower loads is never before `TB_NOW`. -/
theorem exec_epochLoad (hb : s.busy tbCmd = true) : exec .epochLoad s = .next (if epochTicks s < s.now then s.set TB_SYNC_CMD_STATUS stFailed
    else { s with tbNow := BitVec.ofNat 64 (epochTicks s) }.set TB_SYNC_CMD_STATUS stDone) := by
  change Host.Outcome.next (s.when (s.busy tbCmd) _) = _
  rw [hb, State.when_true]
  rfl

theorem exec_epochLoad_loads (hb : s.busy tbCmd = true) (h : s.now ≤ epochTicks s) : ∃ t, exec .epochLoad s = .next t ∧
    t.now = epochTicks s % 2 ^ 64 ∧ t.get TB_SYNC_CMD_STATUS = stDone ∧ ∀ g : Fld, g.key ≠ TB_SYNC_CMD_STATUS.key → t.get g = s.get g := by
  refine ⟨{ s with tbNow := BitVec.ofNat 64 (epochTicks s) }.set TB_SYNC_CMD_STATUS stDone, ?_, ?_, State.get_set_of_lt (by decide) _,
    fun g hg => State.get_set_ne _ _ _ _ hg⟩
  · rw [exec_epochLoad hb, if_neg (Nat.not_lt.2 h)]
  · exact BitVec.toNat_ofNat _ _

/-- What `RELEASE` leaves: synchronising off, no pulse driven, the pulse counts at 0. -/
theorem exec_release (hb : s.busy tbCmd = false) :
    exec .release s = .next (syncModeKeep (((busOk s).cmdSet tbCmd 2 stDone).set TB_SYNC_CTRL_MODE 0)) := by
  change Host.Outcome.next ((busOk s).cmdStart tbCmd 2 true stDone _ id) = _
  rw [cmdStart_run (tbCmd_idle hb)]

/-- Off mode 2 the lock and the pulse counts end; with synchronising off `SYNC_OUT` is low too. -/
theorem syncModeKeep_off (h : s.get TB_SYNC_CTRL_MODE = 0) :
    syncModeKeep s = (((s.set TB_STATUS_SYNC_LOCK 0).set tbGood 0).set tbBad 0).set syncOut 0 := by
  have off : ((((s.set TB_STATUS_SYNC_LOCK 0).set tbGood 0).set tbBad 0).get TB_SYNC_CTRL_MODE) = 0 := by
    simp (disch := decide) only [State.get_set_ne, h]
  have leaves : (s.get TB_SYNC_CTRL_MODE != 2) = true := by rw [h]; rfl
  rw [syncModeKeep, leaves, State.when_true, syncOutFall, if_pos (Or.inl (by rw [off]; decide))]

theorem exec_release_ends (hb : s.busy tbCmd = false) : ∃ t, exec .release s = .next t ∧ t.get TB_SYNC_CTRL_MODE = 0 ∧
    t.get TB_STATUS_SYNC_LOCK = 0 ∧ t.get TB_SYNC_STEER_PPB = s.get TB_SYNC_STEER_PPB ∧ t.tbNow = s.tbNow ∧ t.get TB_SYNC_CMD_CODE = 2 ∧
    t.get TB_SYNC_CMD_STATUS = stDone := by
  refine ⟨_, exec_release hb, ?_⟩
  rw [syncModeKeep_off (State.get_set_of_lt (by decide) _)]
  simp (disch := decide) [State.cmdSet, tbCmd, State.get_set_ne, State.get_set_of_lt]
  rfl

end Command

/-- Settles O13, event by event and command by command. -/
theorem timebaseCommandsAndLock : Obligations.TimebaseCommandsAndLock := by
  refine ⟨fun s hok hl => exec_xtalLost hok hl, fun k e s => ⟨fun h => exec_fineCoarse_near h, fun h hb => ?_, fun h hb => ?_⟩,
    fun k e s => ⟨fun h ht => exec_fineReturn_fine h ht, fun h => exec_fineReturn_coarse h⟩, fun s hm ht => exec_syncOutPulse hm ht,
    fun f s hm => ⟨fun h => ?_, fun hl he => ?_⟩, fun e s hl => ⟨fun he hg => ?_, fun he hg => ?_, fun he => syncJudge_notNear hl he⟩,
    fun e s hl => ⟨fun he => syncJudge_inWindow hl he, fun he hb => ?_, fun he hb => ?_⟩,
    fun m s hm hl => ⟨fun h => exec_syncLost_few hm hl h, fun h => exec_syncLost_third hm hl h⟩,
    fun s hb => ⟨fun hs hm he => exec_lock_starts hb hs hm he, fun h => exec_lock_refused hb h⟩,
    fun s hb h => exec_epochLoad_loads hb h, fun s hb h => ?_, fun s hb => exec_release_ends hb⟩
  -- a placer beyond one fine step
  · rw [exec_fineCoarse_far h, hb, Bool.not_false, State.when_true]
  · rw [exec_fineCoarse_far h, hb, Bool.not_true, State.when_false]
  -- a follower's pulse
  · rw [exec_syncInPulse f hm, if_neg (fun ⟨hl, he⟩ => h.elim hl (Nat.not_le.2 he))]
  · rw [exec_syncInPulse f hm, if_pos ⟨hl, he⟩]
  -- good pulses before the eighth, and the eighth
  · rw [syncJudge_near hl he (by omega), decide_eq_false (by omega), State.when_false]
  · rw [syncJudge_near hl he (by omega), decide_eq_true hg, State.when_true, hg]
    rfl
  -- bad pulses before the third, and the third
  · rw [syncJudge_outOfWindow hl he (by omega), decide_eq_false (by omega), State.when_false]
  · rw [syncJudge_outOfWindow hl he (by omega), decide_eq_true hb, State.when_true, hb]
    rfl
  -- an epoch in the past
  · rw [exec_epochLoad hb, if_pos h]

end Sys2Proof.Machine
end

section
/-!
SUPPORT. The tick (log entry 1): which of its three forms runs (R56, R59, R408, R499), and what an edge of the calendar's oscillator leaves.
-/

namespace Sys2Proof.Machine
open Reg

/-! ### The forms of a tick -/

section Idle
variable {s : State}

theorem step_idle (h : s.pending = []) : step s = .next (tick s) := by
  rw [step, h]

theorem tick_held (h : s.get offState ≠ 0 ∨ s.get resetHeld = 2) : tick s = calTick s := if_pos h

theorem tick_on (ho : s.get offState = 0) (hr : s.get resetHeld ≠ 2) : tick s = if s.flag lanternOn then lanternTick s else runTick s :=
  if_neg (not_or.2 ⟨not_not.2 ho, hr⟩)

theorem tick_lantern (ho : s.get offState = 0) (hr : s.get resetHeld ≠ 2) (hl : s.get lanternOn ≠ 0) : tick s = lanternTick s := by
  rw [tick_on ho hr, if_pos ((flag_eq_true_iff s _).2 hl)]

theorem tick_run (ho : s.get offState = 0) (hr : s.get resetHeld ≠ 2) (hl : s.get lanternOn = 0) : tick s = runTick s := by
  rw [tick_on ho hr, (flag_eq_false_iff s _).2 hl, if_neg Bool.false_ne_true]

end Idle

/-- Settles O2: an empty queue is a tick, and a tick has three forms. -/
theorem idleStepTicks : Obligations.IdleStepTicks := by
  intro s hq
  rw [step_idle hq]
  exact ⟨fun h => congrArg _ (tick_held h), fun ho hr hl => congrArg _ (tick_lantern ho hr hl), fun ho hr hl => congrArg _ (tick_run ho hr hl)⟩

/-! ### What an edge of the calendar's oscillator writes (R408 to R410) -/

/-- From `s` to `t` only fields of registers that `p` names change, and `TB_NOW` stays; memory may change, as a report stages records in it. -/
structure WritesOnly (p : Nat → Bool) (s t : State) : Prop where
  get : ∀ g : Fld, p (g.key / 32) = false → t.get g = s.get g
  tbNow : t.tbNow = s.tbNow

namespace WritesOnly

variable {p : Nat → Bool} {a s t : State} {f : Fld}

theorem refl (p : Nat → Bool) (s : State) : WritesOnly p s s := ⟨fun _ _ => rfl, rfl⟩

theorem set (h : WritesOnly p a s) (hf : p (f.key / 32) = true) (v : Nat) : WritesOnly p a (s.set f v) := by
  refine ⟨fun g hg => ?_, h.tbNow⟩
  have apart : g.key ≠ f.key := fun e => by rw [e, hf] at hg; exact Bool.noConfusion hg
  rw [State.get_set_ne _ _ _ _ apart]
  exact h.get g hg

theorem reports (h : WritesOnly p a s) (hp : ∀ x, reported x = true → p x = true) (hr : Reports s t) : WritesOnly p a t := by
  refine ⟨fun g hg => ?_, hr.now.trans h.tbNow⟩
  have silent : reported (g.key / 32) = false := Bool.eq_false_iff.2 fun e => by rw [hp _ e] at hg; exact Bool.noConfusion hg
  exact (hr.get g silent).trans (h.get g hg)

theorem when {c : Bool} {f : State → State} (h : WritesOnly p a s) (k : WritesOnly p a s → WritesOnly p a (f s)) :
    WritesOnly p a (s.when c f) := by
  cases c with
  | true => exact k h
  | false => exact h

theorem cond {c : Prop} [Decidable c] (hs : WritesOnly p a s) (ht : WritesOnly p a t) : WritesOnly p a (if c then s else t) := by
  split <;> assumption

end WritesOnly

/-- The calendar's registers and its slew counters, and what a report writes. -/
def calWritten (a : Nat) : Bool :=
  reported a || (decide (0x400D8040 ≤ a) && decide (a < 0x400D8070)) || a == calSlewN.addr || a == calSlewUp.addr

theorem calWritten_of_reported (a : Nat) (h : reported a = true) : calWritten a = true := by simp [calWritten, h]

section Edge
variable {a s : State}

theorem clkLoad_writes (h : WritesOnly calWritten a s) (c : Nat) : WritesOnly calWritten a (clkLoad c s) :=
  ((h.set (by decide) _).set (by decide) _).set (by decide) _

theorem clkStep_writes (h : WritesOnly calWritten a s) (c : Nat) : WritesOnly calWritten a (clkStep c s) :=
  (clkLoad_writes h c).when fun h => h.reports calWritten_of_reported (raiseFault_ride_reports _ _)

theorem calSetLoad_writes (h : WritesOnly calWritten a s) : WritesOnly calWritten a (calSetLoad s) :=
  ((((clkStep_writes h _).set (by decide) 1).set (by decide) 0).set (f := LEDGER_CAL_CMD_STATUS) (by decide) stDone).reports
    calWritten_of_reported (raiseEvent_reports _ _)

theorem calAlign_writes (h : WritesOnly calWritten a s) : WritesOnly calWritten a (calAlign s) := by
  have error : ∀ v, WritesOnly calWritten a (s.set LEDGER_CAL_ERR_ERR v) := h.set (by decide)
  unfold calAlign
  refine WritesOnly.cond ?stepped (WritesOnly.cond ?near ?slews)
  case stepped => exact ((clkStep_writes (error _) _).set (by decide) 0).set (by decide) 1
  case near => exact ((error _).set (by decide) 0).set (by decide) 1
  case slews => exact ((((error _).set (by decide) 1).set (by decide) 0).set (by decide) _).set (by decide) 0

theorem calCount_writes (h : WritesOnly calWritten a s) : WritesOnly calWritten a (calCount s) :=
  (clkLoad_writes h _).set (by decide) _

theorem calEdge_writes (s : State) : WritesOnly calWritten s (calEdge s) := by
  have h := WritesOnly.refl calWritten s
  unfold calEdge
  refine WritesOnly.when (WritesOnly.when (WritesOnly.cond (calSetLoad_writes h) (calCount_writes h)) fun h => ?_) fun h => ?_
  · exact calAlign_writes (h.set (f := LEDGER_CAL_CMD_STATUS) (by decide) stDone)
  · exact calAlign_writes (h.set (by decide) 0)

end Edge

/-! ### Two's complement -/

/-- An integer in the range of a word is read back as it was written. -/
theorem sext_wrap {w : Nat} {x : Int} (hl : -2 ^ w ≤ x) (hh : x < 2 ^ w) : sext (w + 1) (wrap (w + 1) x) = x := by
  have half : (2 : Int) ^ w = ((2 ^ w : Nat) : Int) := by norm_num
  have whole : 2 ^ (w + 1) = 2 * 2 ^ w := by ring
  rw [half] at hl hh
  simp only [sext, wrap, Nat.add_sub_cancel, whole]
  generalize 2 ^ w = p at *
  obtain hx | hx := le_or_gt 0 x
  · have word : x % ((2 * p : Nat) : Int) = x := Int.emod_eq_of_lt hx (by omega)
    rw [word, Nat.mod_eq_of_lt (by omega), if_pos (by omega)]
    omega
  · have word : x % ((2 * p : Nat) : Int) = x + (2 * p : Nat) := by
      rw [← Int.add_emod_right, Int.emod_eq_of_lt (by omega) (by omega)]
    rw [word, Nat.mod_eq_of_lt (by omega), if_neg (by omega)]
    omega

theorem State.geti_seti {f : Fld} {w : Nat} {x : Int} (hw : f.width = w + 1) (hl : -2 ^ w ≤ x) (hh : x < 2 ^ w) (s : State) :
    (s.seti f x).geti f = x := by
  have fits : wrap f.width x < 2 ^ f.width := by
    have := Int.emod_lt_of_pos x (b := ((2 ^ f.width : Nat) : Int)) (by positivity)
    unfold wrap; omega
  rw [State.geti, State.seti, State.get_set_of_lt fits, hw, sext_wrap hl hh]

/-! ### Lantern mode (R59) -/

/-- The ticks of one calendar cycle in Lantern mode: 6,104 where 6,103 would leave more than half a tick of shortfall. -/
def lanternStep (s : State) : Nat := if s.geti lanternAcc + 33 ≤ 32 then 6103 else 6104

theorem lanternStep_cases (s : State) :
    lanternStep s = 6103 ∧ s.geti lanternAcc ≤ -1 ∨ lanternStep s = 6104 ∧ 0 ≤ s.geti lanternAcc := by
  unfold lanternStep; split <;> omega

/-- A cycle advances `TB_NOW` by its ticks and keeps what the exact cycle of 390,625 sixty-fourths has beyond them. -/
theorem lanternTick_eq (s : State) : lanternTick s = calEdge ({ s.set syncOut 0 with tbNow := s.tbNow + BitVec.ofNat 64 (lanternStep s) }.seti
    lanternAcc (s.geti lanternAcc + 33 - 64 * ((lanternStep s : Int) - 6103))) := rfl

/-- An edge of the calendar's oscillator leaves the total of Lantern mode. -/
theorem lanternAcc_not_calWritten : calWritten (lanternAcc.key / 32) = false := by decide

theorem lanternTick_tbNow (s : State) : (lanternTick s).tbNow = s.tbNow + BitVec.ofNat 64 (lanternStep s) := by
  rw [lanternTick_eq, (calEdge_writes _).tbNow]
  rfl

theorem lanternTick_acc {s : State} (hl : -31 ≤ s.geti lanternAcc) (hh : s.geti lanternAcc ≤ 32) :
    (lanternTick s).geti lanternAcc = s.geti lanternAcc + 390625 - 64 * lanternStep s := by
  have step := lanternStep_cases s
  rw [lanternTick_eq, State.geti, (calEdge_writes _).get _ lanternAcc_not_calWritten]
  refine (State.geti_seti (w := 6) rfl ?_ ?_ _).trans ?_ <;> omega

/-- Settles O14: the cycle's ticks leave at most half a tick, and the calendar's edge leaves the total. -/
theorem lanternCycleTracksTotal : Obligations.LanternCycleTracksTotal := by
  intro s hl hh
  have step := lanternStep_cases s
  refine ⟨lanternStep s, step.imp And.left And.left, lanternTick_tbNow s, lanternTick_acc hl hh, ?_, ?_⟩
  all_goals rw [lanternTick_acc hl hh]; omega

end Sys2Proof.Machine
end

section
/-!
O29: the Logbook record of a period whose mismatch is found after its deadline (R67, R383).
-/

namespace Sys2Proof.Machine
open Reg

/-- A mismatch between two engines ends the period with a record that says whether the deadline has passed (R194, R383). -/
theorem exec_loopPeriodDone_mismatch {n : Fin 4} {s u : State} (hb : s.get (loopBusy n) ≠ 0) (hu : u = ledgerPeriod n (slotsEval n s))
    (he : 2 ≤ enginesIn n u) (sh : Bool) : exec (.loopPeriodDone n true sh) s =
      .next (periodRecord n (decide (deadline n u < u.now * 64)) true (loopMismatch n (law n u) u)) := by
  have busy : s.flag (loopBusy n) = true := (flag_eq_true_iff s _).2 hb
  change execLoopPeriodDone n true sh s = _
  simp only [execLoopPeriodDone, busy, ← hu, decide_eq_true he, Bool.not_true, Bool.and_self, Bool.false_eq_true, if_false, if_true, ok]

/-- Stall 0 ends a computation one tick after its deadline, and a capturing Logbook with one staging cask records its periods. -/
def latePeriod : State :=
  { ((((((State.reset.set (LOOP_STAT_STATE 0) 1).set (loopBusy 0) 1).set LOGBOOK_CTRL_EN 1).set LOGBOOK_CTRL_PERIOD 1).set
      LOGBOOK_STAT_STATE 1).set PORTER_PART_LOG 1).set (logCask 0) 1 with tbNow := 2001 }

/-- The same at the compare of the two engines' results. -/
def lateCompared : State := ledgerPeriod (0 : Fin 4) (slotsEval (0 : Fin 4) latePeriod)

/-- `late` of the newest staged record: bit 20 of word 4 of a `PERIOD` record, which is bit 4 of its byte 18 (R383). -/
def newestLate (s : State) : Bool := bitAt ((s.logStage.getLastD []).getD 18 0).toNat 4

theorem lateCompared_late : deadline (0 : Fin 4) lateCompared < lateCompared.now * 64 := by
  decide +kernel

theorem newestLate_record (late : Bool) :
    newestLate (periodRecord (0 : Fin 4) late true (loopMismatch (0 : Fin 4) (law (0 : Fin 4) lateCompared) lateCompared)) = late := by
  cases late with
  | true => decide +kernel
  | false => decide +kernel

/-- Refutes O29: the clause on a mismatch says that the record of its period is not marked late, whatever the time. In `latePeriod` the deadline
passed a tick ago, and the record says so (R67, R383). -/
theorem not_loopPeriodsComputeAndEnd : ¬ Obligations.LoopPeriodsComputeAndEnd := by
  rintro ⟨-, -, -, -, -, -, -, -, -, period, -⟩
  have busy : latePeriod.get (loopBusy (0 : Fin 4)) ≠ 0 := by decide +kernel
  have engines : 2 ≤ enginesIn (0 : Fin 4) lateCompared := by decide +kernel
  have claimed := (period 0 true true latePeriod busy).1 rfl engines
  rw [exec_loopPeriodDone_mismatch (u := lateCompared) busy rfl engines true] at claimed
  have marks := congrArg newestLate (Host.Outcome.next.inj claimed)
  rw [decide_eq_true lateCompared_late, newestLate_record true] at marks
  exact Bool.noConfusion (marks.trans (newestLate_record false))

end Sys2Proof.Machine
end

section
/-!
SUPPORT. The correction of R87: rounding once, saturation, and the range of a factory value.
-/

namespace Sys2Proof.Machine

/-- A rounded quotient is the quotient below or the one above. -/
theorem divRound_bounds (a : Int) {b : Nat} (hb : b ≠ 0) : a / b ≤ divRound a b ∧ divRound a b ≤ a / b + 1 := by
  simp only [divRound, if_neg hb]
  split_ifs <;> omega

theorem divRound_mono {a c : Int} (b : Nat) (h : a ≤ c) : divRound a b ≤ divRound c b := by
  by_cases hb : b = 0
  · simp [divRound, hb]
  have hpos : (0 : Int) < b := by omega
  obtain hlt | heq := (Int.ediv_le_ediv hpos h).lt_or_eq
  · have below := (divRound_bounds a hb).2
    have above := (divRound_bounds c hb).1
    omega
  · have rest : a % b ≤ c % b := by
      have ha := Int.mul_ediv_add_emod a b
      have hc := Int.mul_ediv_add_emod c b
      rw [heq] at ha
      omega
    simp only [divRound, if_neg hb, heq]
    split_ifs <;> omega

theorem divRound_mul_self (k : Int) {b : Nat} (hb : b ≠ 0) : divRound (b * k) b = k := by
  have hne : (b : Int) ≠ 0 := by omega
  simp only [divRound, if_neg hb, Int.mul_ediv_cancel_left k hne, Int.mul_emod_right]
  rw [if_pos (by omega)]

theorem clampS_mono {a c : Int} (w : Nat) (h : a ≤ c) : clampS w a ≤ clampS w c := by
  unfold clampS; omega

theorem clampS_range (w : Nat) (x : Int) : -(2 ^ w) ≤ clampS (w + 1) x ∧ clampS (w + 1) x < 2 ^ w := by
  have hpos : 0 < 2 ^ w := Nat.two_pow_pos w
  have hcast : ((2 ^ w : Nat) : Int) = 2 ^ w := by simp
  rw [clampS, Nat.add_sub_cancel, ← hcast]
  omega

theorem clampS_of_range {w : Nat} {x : Int} (hl : -(2 ^ w) ≤ x) (hh : x < 2 ^ w) : clampS (w + 1) x = x := by
  have hcast : ((2 ^ w : Nat) : Int) = 2 ^ w := by simp
  rw [clampS, Nat.add_sub_cancel]
  omega

/-- A corrected value saturates at 24 bits (R87). -/
theorem correct_range (ug : Nat) (uo v : Int) : -(2 ^ 23) ≤ correct ug uo v ∧ correct ug uo v < 2 ^ 23 := clampS_range 23 _

theorem correct_mono (ug : Nat) (uo : Int) {v w : Int} (h : v ≤ w) : correct ug uo v ≤ correct ug uo w := by
  have scaled : (ug : Int) * v ≤ ug * w := Int.mul_le_mul_of_nonneg_left h (Int.natCast_nonneg ug)
  exact clampS_mono 24 (divRound_mono _ (by omega))

/-- Unit gains and no offsets correct a code to itself, 16 times its LSB. -/
theorem correct_unit {raw : Nat} (h : raw < 65536) : correct 0x400000 0 (factoryValue 0x400000 0 raw) = 16 * raw := by
  have scaled : ((0x400000 : Nat) : Int) * factoryValue 0x400000 0 raw + 0 * 2 ^ 44 = ((2 ^ 44 : Nat) : Int) * (16 * raw) := by
    simp only [factoryValue]; omega
  rw [correct, scaled, divRound_mul_self _ (by decide)]
  exact clampS_of_range (by omega) (by omega)

end Sys2Proof.Machine
end

section
/-!
SUPPORT. Primary conversions (R76, R79, R87) and the cross-check (R93, R94): what the two commands write.
-/

namespace Sys2Proof.Machine
open Reg

/-- The state's own fields stand above the register addresses: writing one leaves every register. -/
theorem State.get_set_ix {g : Fld} (hg : g.key < 2 ^ 45) (s : State) (dom blk id i w r v : Nat) :
    (s.set (ix dom blk id i w r) v).get g = s.get g :=
  State.get_set_ne _ _ _ _ (by simp only [Fld.key, ix]; simp only [Fld.key] at hg; omega)

/-- Writing one field of a register leaves its other fields. -/
theorem State.get_set_beside {f g : Fld} (s : State) (v : Nat) (ha : g.addr = f.addr) (hl : g.lsb ≠ f.lsb) : (s.set f v).get g = s.get g :=
  State.get_set_ne _ _ _ _ (by unfold Fld.key; omega)

section Conversion
variable {n c raw : Nat} {s : State}

/-! ### A primary conversion (R76, R79, R87) -/

/-- The register of converter `c`'s newest code. -/
def rawFields (n c : Nat) : List Fld := [SENSE_Cc_RAW_RAW n c, SENSE_Cc_RAW_CH n c, SENSE_Cc_RAW_CLIP n c]

/-- The calibration of channel `k` and its corrected value. -/
def channelFields (n k : Nat) : List Fld := [SENSE_CHk_UG_UG n k, SENSE_CHk_UO_UO n k, SENSE_CHk_COR_COR n k]

theorem channel_key_ne_raw {f g : Fld} {k : Nat} (hc : c < 4) (hf : f ∈ rawFields n c) (hg : g ∈ channelFields n k) : g.key ≠ f.key := by
  simp only [rawFields, channelFields, List.mem_cons, List.not_mem_nil, or_false] at hf hg
  have hf : 0x41018140 + 0x100000 * n + 0x4 * c = f.addr ∧ f.lsb < 32 := by
    obtain rfl | rfl | rfl := hf <;> exact ⟨rfl, of_decide_eq_true rfl⟩
  have hg : 0x41018200 + 0x100000 * n ≤ g.addr := by
    obtain rfl | rfl | rfl := hg <;> simp only [SENSE_CHk_UG_UG, SENSE_CHk_UO_UO, SENSE_CHk_COR_COR] <;> omega
  unfold Fld.key; omega

theorem rawFields_register (hn : n < 4) (hc : c < 4) {f : Fld} (hf : f ∈ rawFields n c) : f.key < 2 ^ 45 := by
  simp only [rawFields, List.mem_cons, List.not_mem_nil, or_false] at hf
  obtain rfl | rfl | rfl := hf <;> simp only [Fld.key, SENSE_Cc_RAW_RAW, SENSE_Cc_RAW_CH, SENSE_Cc_RAW_CLIP] <;> omega

theorem cor_register {k : Nat} (hn : n < 4) (hk : k < 16) : (SENSE_CHk_COR_COR n k).key < 2 ^ 45 := by
  simp only [Fld.key, SENSE_CHk_COR_COR]; omega

/-- Converter `c`'s register takes the code `raw` with its channel and the clip flag. -/
def rawWritten (n c raw : Nat) (s : State) : State :=
  ((s.set (SENSE_Cc_RAW_RAW n c) raw).set (SENSE_Cc_RAW_CH n c) (s.get (senCh n c))).setB (SENSE_Cc_RAW_CLIP n c) (raw == 0 || raw == 65535)

/-- The corrected value of a conversion of code `raw` by converter `c` (R87). -/
def corrected (n c raw : Nat) (s : State) : Int :=
  correct (s.get (SENSE_CHk_UG_UG n (s.get (senCh n c)))) (s.geti (SENSE_CHk_UO_UO n (s.get (senCh n c)))) (converterValue n c raw s)

theorem rawWritten_get_channel (hc : c < 4) (k : Nat) {g : Fld} (hg : g ∈ channelFields n k) : (rawWritten n c raw s).get g = s.get g := by
  have apart := fun {f : Fld} (hf : f ∈ rawFields n c) => channel_key_ne_raw hc hf hg
  rw [rawWritten, State.setB, State.get_set_ne _ _ _ _ (apart (by simp [rawFields])), State.get_set_ne _ _ _ _ (apart (by simp [rawFields])),
    State.get_set_ne _ _ _ _ (apart (by simp [rawFields]))]

theorem rawWritten_get_raw (hr : raw < 65536) : (rawWritten n c raw s).get (SENSE_Cc_RAW_RAW n c) = raw ∧
    (rawWritten n c raw s).get (SENSE_Cc_RAW_CH n c) = s.get (senCh n c) ∧
    (rawWritten n c raw s).get (SENSE_Cc_RAW_CLIP n c) = (raw == 0 || raw == 65535).toNat := by
  have clip := fun (g : Fld) (t : State) (v : Nat) => State.get_set_beside (f := SENSE_Cc_RAW_CLIP n c) (g := g) t v
  have channel := State.get_set_beside (f := SENSE_Cc_RAW_CH n c) (g := SENSE_Cc_RAW_RAW n c) (s.set (SENSE_Cc_RAW_RAW n c) raw)
  refine ⟨?_, ?_, State.get_set_of_lt (Bool.toNat_lt _) _⟩
  · rw [rawWritten, State.setB, clip (SENSE_Cc_RAW_RAW n c) _ _ rfl (of_decide_eq_true rfl), channel _ rfl (of_decide_eq_true rfl),
      State.get_set_of_lt hr]
  · rw [rawWritten, State.setB, clip (SENSE_Cc_RAW_CH n c) _ _ rfl (of_decide_eq_true rfl)]
    exact State.get_set_get (f := SENSE_Cc_RAW_CH n c) (g := senCh n c) (Nat.le_refl 4) _ _

theorem conversion_mem : (conversion n c raw s).mem = s.mem := by
  simp only [conversion, State.setB, State.seti, State.set_mem]

theorem conversion_held : (conversion n c raw s).get (senHeld n c) = 0 := by
  simp only [conversion, State.get_set_same, Nat.zero_mod]

/-- Of the registers a conversion writes the raw code's and the corrected value's; the rest of what it keeps is in the state's own fields. -/
theorem conversion_get_register (hc : c < 4) {g : Fld} (hg : g.key < 2 ^ 45) : (conversion n c raw s).get g =
    ((rawWritten n c raw s).seti (SENSE_CHk_COR_COR n (s.get (senCh n c))) (corrected n c raw s)).get g := by
  have gain : (rawWritten n c raw s).get (SENSE_CHk_UG_UG n (s.get (senCh n c))) = s.get (SENSE_CHk_UG_UG n (s.get (senCh n c))) :=
    rawWritten_get_channel hc (s.get (senCh n c)) (by simp [channelFields])
  have offset : (rawWritten n c raw s).geti (SENSE_CHk_UO_UO n (s.get (senCh n c))) = s.geti (SENSE_CHk_UO_UO n (s.get (senCh n c))) :=
    congrArg (sext 24) (rawWritten_get_channel hc (s.get (senCh n c)) (by simp [channelFields]))
  rw [corrected, ← gain, ← offset]
  simp only [conversion, State.seti, State.setB, senPrim, senPrimOk, senHeld, senConvOf, senClip, senConvAt, State.get_set_ix hg]
  rfl

theorem conversion_get_raw (hn : n < 4) (hc : c < 4) {f : Fld} (hf : f ∈ rawFields n c) :
    (conversion n c raw s).get f = (rawWritten n c raw s).get f := by
  rw [conversion_get_register hc (rawFields_register hn hc hf)]
  exact State.get_set_ne _ _ _ _ (channel_key_ne_raw (k := s.get (senCh n c)) hc hf (by simp [channelFields])).symm

theorem conversion_cor (hn : n < 4) (hc : c < 4) :
    (conversion n c raw s).geti (SENSE_CHk_COR_COR n (s.get (senCh n c))) = corrected n c raw s := by
  rw [State.geti, conversion_get_register hc (cor_register hn (State.get_lt s (senCh n c)))]
  exact State.geti_seti rfl (correct_range _ _ _).1 (correct_range _ _ _).2 _

/-- Another channel keeps its corrected value. -/
theorem conversion_cor_ne (hn : n < 4) (hc : c < 4) {k : Nat} (hk : k < 16) (hne : k ≠ s.get (senCh n c)) :
    (conversion n c raw s).get (SENSE_CHk_COR_COR n k) = s.get (SENSE_CHk_COR_COR n k) := by
  have apart : (SENSE_CHk_COR_COR n k).key ≠ (SENSE_CHk_COR_COR n (s.get (senCh n c))).key := by
    simp only [Fld.key, SENSE_CHk_COR_COR]; omega
  rw [conversion_get_register hc (cor_register hn hk), State.seti, State.get_set_ne _ _ _ _ apart,
    rawWritten_get_channel hc k (by simp [channelFields])]

end Conversion

section Commands
variable {n c : Fin 4} {raw : BitVec 16} {s : State}

theorem exec_conversionDone (h : s.get (senHeld n c) ≠ 0) (ht : s.get (senTrigAt n) + 6 ≤ s.now) :
    exec (.conversionDone n c raw) s = .next (conversion n c raw.toNat s) := by
  have held : s.flag (senHeld n c) = true := (flag_eq_true_iff _ _).2 h
  change execConversionDone n c raw s = _
  simp only [execConversionDone, held, decide_eq_true ht, Bool.and_self, State.when_true, ok]

theorem exec_conversionDone_idle (h : s.get (senHeld n c) = 0 ∨ s.now < s.get (senTrigAt n) + 6) :
    exec (.conversionDone n c raw) s = .next s := by
  have idle : (s.flag (senHeld n c) && decide (s.get (senTrigAt n) + 6 ≤ s.now)) = false := by
    rw [Bool.and_eq_false_iff, flag_eq_false_iff, decide_eq_false_iff_not, Nat.not_le]
    exact h
  change execConversionDone n c raw s = _
  simp only [execConversionDone, idle, State.when_false, ok]

/-! ### The cross-check (R93, R94) -/

/-- What a check conversion of pair `c` that is due comes to. -/
def crossChecked (n c raw : Nat) (s : State) : State :=
  let u := s.setBit (senXdue n) c false
  if u.flag (SENSE_Cc_STAT_OUT n c) || u.flag (SENSE_Cc_STAT_OUT n ((c + 1) % 4)) || !u.flag (senPrimOk n ((c + 1) % 4)) then
    u.set (senXrun n c) 0
  else if u.get (SENSE_XCHK_CFG_THR n) * 2 ^ 26 < (converterValue n c raw u - u.geti (senPrim n ((c + 1) % 4))).natAbs then pairMismatch n c u
  else u.set (senXrun n c) 0

theorem exec_checkConversionDone (h : bitAt (s.get (senXdue n)) c = true) (ht : s.get (senTrigAt n) + 20 ≤ s.now) :
    exec (.checkConversionDone n c raw) s = .next (crossChecked n c raw.toNat s) := by
  change execCheckConversionDone n c raw s = _
  simp only [execCheckConversionDone, h, decide_eq_true ht, Bool.and_self, if_true, ok]
  rfl

end Commands

section Check
variable {n c raw : Nat} {s : State}

/-- Marking a cross-check as done leaves the registers. -/
theorem xdue_get_register {g : Fld} (hg : g.key < 2 ^ 45) (b : Bool) : (s.setBit (senXdue n) c b).get g = s.get g :=
  State.get_set_ix hg _ _ _ _ _ _ _ _

/-- It leaves the converters' values. -/
theorem xdue_get_prim (d : Nat) (hd : d < 4) (b : Bool) : (s.setBit (senXdue n) c b).get (senPrim n d) = s.get (senPrim n d) ∧
    (s.setBit (senXdue n) c b).get (senPrimOk n d) = s.get (senPrimOk n d) := by
  constructor <;> refine State.get_set_ne _ _ _ _ ?_ <;> simp only [Fld.key, senXdue, senPrim, senPrimOk, ix] <;> omega

theorem converter_registers (hn : n < 4) (hc : c < 4) : (SENSE_Cc_STAT_OUT n c).key < 2 ^ 45 ∧ (SENSE_Cc_FG_FG n c).key < 2 ^ 45 ∧
    (SENSE_Cc_FO_FO n c).key < 2 ^ 45 ∧ (SENSE_XCHK_CFG_THR n).key < 2 ^ 45 := by
  simp only [Fld.key, SENSE_Cc_STAT_OUT, SENSE_Cc_FG_FG, SENSE_Cc_FO_FO, SENSE_XCHK_CFG_THR]; omega

theorem crossChecked_out (hn : n < 4) (hc : c < 4) (h : s.get (SENSE_Cc_STAT_OUT n c) ≠ 0 ∨ s.get (SENSE_Cc_STAT_OUT n ((c + 1) % 4)) ≠ 0) :
    crossChecked n c raw s = (s.setBit (senXdue n) c false).set (senXrun n c) 0 := by
  have kept : ∀ d < 4, (s.setBit (senXdue n) c false).get (SENSE_Cc_STAT_OUT n d) = s.get (SENSE_Cc_STAT_OUT n d) :=
    fun d hd => xdue_get_register (converter_registers hn hd).1 false
  rw [← kept c hc, ← kept ((c + 1) % 4) (Nat.mod_lt _ (by decide)), ← flag_eq_true_iff, ← flag_eq_true_iff, ← Bool.or_eq_true] at h
  simp only [crossChecked, h, Bool.true_or, if_true]

/-- A pair in service with a value to compare with is judged against `THR`. -/
theorem crossChecked_judged (hn : n < 4) (hc : c < 4) (h1 : s.get (SENSE_Cc_STAT_OUT n c) = 0)
    (h2 : s.get (SENSE_Cc_STAT_OUT n ((c + 1) % 4)) = 0)
    (h3 : s.get (senPrimOk n ((c + 1) % 4)) ≠ 0) : crossChecked n c raw s =
      if s.get (SENSE_XCHK_CFG_THR n) * 2 ^ 26 < (converterValue n c raw s - s.geti (senPrim n ((c + 1) % 4))).natAbs then
        pairMismatch n c (s.setBit (senXdue n) c false)
      else (s.setBit (senXdue n) c false).set (senXrun n c) 0 := by
  have hd : (c + 1) % 4 < 4 := Nat.mod_lt _ (by decide)
  obtain ⟨out, gain, offset, threshold⟩ := converter_registers hn hc
  obtain ⟨prim, primOk⟩ := xdue_get_prim (s := s) (n := n) (c := c) _ hd false
  have hc1 : (s.setBit (senXdue n) c false).flag (SENSE_Cc_STAT_OUT n c) = false := by
    rw [flag_eq_false_iff, xdue_get_register out, h1]
  have hd1 : (s.setBit (senXdue n) c false).flag (SENSE_Cc_STAT_OUT n ((c + 1) % 4)) = false := by
    rw [flag_eq_false_iff, xdue_get_register (converter_registers hn hd).1, h2]
  have ready : (s.setBit (senXdue n) c false).flag (senPrimOk n ((c + 1) % 4)) = true := by
    rw [flag_eq_true_iff, primOk]; exact h3
  have value : converterValue n c raw (s.setBit (senXdue n) c false) = converterValue n c raw s := by
    simp only [converterValue, State.geti, xdue_get_register gain, xdue_get_register offset]
  have other : (s.setBit (senXdue n) c false).geti (senPrim n ((c + 1) % 4)) = s.geti (senPrim n ((c + 1) % 4)) := congrArg (sext 64) prim
  simp only [crossChecked, hc1, hd1, ready, Bool.not_true, Bool.or_self, Bool.false_eq_true, if_false, value, other,
    xdue_get_register threshold]

/-- The counts of a mismatch of pair `c` (R93). -/
def mismatchCounted (n c : Nat) (s : State) : State :=
  ((s.inc (SENSE_Cc_STAT_XFAIL n c)).inc (SENSE_Cc_STAT_XFAIL n ((c + 1) % 4))).inc (senXrun n c)

/-- Mismatches in a row that are reported: `N`, 16 for 0 (R93). -/
def mismatchLimit (n : Nat) (s : State) : Nat := if s.get (SENSE_XCHK_CFG_N n) = 0 then 16 else s.get (SENSE_XCHK_CFG_N n)

theorem mismatchLimit_counted (hc : c < 4) : mismatchLimit n (mismatchCounted n c s) = mismatchLimit n s := by
  have kept : (mismatchCounted n c s).get (SENSE_XCHK_CFG_N n) = s.get (SENSE_XCHK_CFG_N n) := by
    have apart : ∀ d < 4, (SENSE_XCHK_CFG_N n).key ≠ (SENSE_Cc_STAT_XFAIL n d).key := by
      intro d hd; simp only [Fld.key, SENSE_XCHK_CFG_N, SENSE_Cc_STAT_XFAIL]; omega
    have run : (SENSE_XCHK_CFG_N n).key ≠ (senXrun n c).key := by
      simp only [Fld.key, SENSE_XCHK_CFG_N, senXrun, ix]; omega
    simp only [mismatchCounted, State.inc, State.addSat]
    rw [State.get_set_ne _ _ _ _ run, State.get_set_ne _ _ _ _ (apart _ (Nat.mod_lt _ (by decide))), State.get_set_ne _ _ _ _ (apart c hc)]
  simp only [mismatchLimit, kept]

theorem pairMismatch_counts (hc : c < 4) (h : (mismatchCounted n c s).get (senXrun n c) < mismatchLimit n s) :
    pairMismatch n c s = mismatchCounted n c s := by
  rw [← mismatchLimit_counted hc] at h
  exact if_neg (Nat.not_le.2 h)

theorem pairMismatch_reports (hc : c < 4) (h : mismatchLimit n s ≤ (mismatchCounted n c s).get (senXrun n c)) :
    pairMismatch n c s = requestCheck n ((c + 1) % 4) 0 (requestCheck n c 0 (raiseEvent (0x63 + 0x40 * n)
      (((mismatchCounted n c s).set (senXrun n c) 0).setBit (SENSE_XCHK_STAT_MISMATCH n) c true))) := by
  rw [← mismatchLimit_counted hc] at h
  rw [show 0x63 + 0x40 * n = 0x40 + 0x40 * n + 0x23 by omega]
  exact if_pos h

end Check

end Sys2Proof.Machine
end

section
/-!
O20: conversions, their correction, and the cross-check of converters.
-/

namespace Sys2Proof.Machine
open Reg

/-- Settles O20: what a conversion writes, how a check conversion is judged, and the correction's rounding. -/
theorem conversionsCorrectAndSaturate : Obligations.ConversionsCorrectAndSaturate := by
  refine ⟨fun n c raw s _ => ⟨fun held ended => ?_, exec_conversionDone_idle⟩, ?_, correct_range, fun raw hr => correct_unit hr,
    fun ug uo v w h => correct_mono ug uo h⟩
  · obtain ⟨code, channel, clip⟩ := rawWritten_get_raw (n := n) (c := c) (s := s) raw.isLt
    have register := fun {f : Fld} (hf : f ∈ rawFields n c) => conversion_get_raw (raw := raw.toNat) (s := s) n.isLt c.isLt hf
    have code_eq : ∀ v : BitVec 16, (raw == v) = (raw.toNat == v.toNat) := fun v => by
      rw [Bool.eq_iff_iff, beq_iff_eq, beq_iff_eq, BitVec.toNat_inj]
    have clipped : (raw == 0 || raw == 0xFFFF) = (raw.toNat == 0 || raw.toNat == 65535) := congrArg₂ or (code_eq _) (code_eq _)
    exact ⟨_, exec_conversionDone held ended, (register (by simp [rawFields])).trans code, (register (by simp [rawFields])).trans channel,
      clipped ▸ (register (by simp [rawFields])).trans clip, conversion_cor n.isLt c.isLt, conversion_held, conversion_mem,
      fun k hk hne => conversion_cor_ne n.isLt c.isLt hk hne⟩
  · intro n c raw s
    refine ⟨fun due ended h1 h2 h3 => ⟨fun within => ?_, fun beyond => ?_⟩, fun due ended out => ?_, pairMismatch_counts c.isLt,
      pairMismatch_reports c.isLt⟩
    · rw [exec_checkConversionDone due ended, crossChecked_judged n.isLt c.isLt h1 h2 h3]
      exact congrArg Host.Outcome.next (if_neg (Nat.not_lt.2 within))
    · rw [exec_checkConversionDone due ended, crossChecked_judged n.isLt c.isLt h1 h2 h3]
      exact congrArg Host.Outcome.next (if_pos beyond)
    · rw [exec_checkConversionDone due ended, crossChecked_out n.isLt c.isLt out]

end Sys2Proof.Machine
end

section
/-!
SUPPORT. The converter check, the spare and the return of a converter (R95 to R99): what each command comes to.
-/

namespace Sys2Proof.Machine
open Reg

/-! ### Reads after writes -/

/-- Writing a register leaves the state's own fields. -/
theorem State.get_ix_set {f : Fld} (hf : f.key < 2 ^ 45) (s : State) (dom blk id i w r v : Nat) :
    (s.set f v).get (ix dom blk id i w r) = s.get (ix dom blk id i w r) :=
  State.get_set_ne _ _ _ _ (by simp only [Fld.key, ix]; simp only [Fld.key] at hf; omega)

@[simp] theorem State.get_set_zero (s : State) (f : Fld) : (s.set f 0).get f = 0 := by
  rw [State.get_set_same, Nat.zero_mod]

theorem State.get_set_one {f : Fld} (hw : f.width = 1) (s : State) : (s.set f 1).get f = 1 :=
  State.get_set_of_lt (by rw [hw]; decide) s

theorem ChangesOnly.when {p : Nat → Bool} {a s : State} {b : Bool} {f : State → State} (h : ChangesOnly p a s)
    (k : ∀ t, ChangesOnly p a t → ChangesOnly p a (f t)) : ChangesOnly p a (s.when b f) := by
  unfold State.when; split
  · exact k s h
  · exact h

theorem ChangesOnly.cond {p : Nat → Bool} {a s t : State} {c : Prop} [Decidable c] (h : ChangesOnly p a s) (k : ChangesOnly p a t) :
    ChangesOnly p a (if c then s else t) := by
  split
  · exact h
  · exact k

/-- The registers of the quantity slots of Stall `n`. -/
def slotRegisters (n a : Nat) : Bool := decide (0x41018300 + 0x100000 * n ≤ a) && decide (a < 0x41018320 + 0x100000 * n)

theorem slotRegisters_iff (n a : Nat) : slotRegisters n a = true ↔ 0x41018300 + 0x100000 * n ≤ a ∧ a < 0x41018320 + 0x100000 * n := by
  rw [slotRegisters, Bool.and_eq_true, decide_eq_true_iff, decide_eq_true_iff]

/-- Keeping the paths of the slots changes the slots' registers only. -/
theorem pathRefresh_changes (n : Nat) (s : State) : ChangesOnly (slotRegisters n) s (pathRefresh n s) := by
  have slot : ∀ q ∈ List.range 8, slotRegisters n ((SENSE_Qq_CFG_PATH n q).key / 32) = true ∧
      slotRegisters n ((SENSE_Qq_CFG_SUBST n q).key / 32) = true := by
    intro q hq
    have := List.mem_range.1 hq
    rw [slotRegisters_iff, slotRegisters_iff]
    simp only [Fld.key, SENSE_Qq_CFG_PATH, SENSE_Qq_CFG_SUBST]
    omega
  refine (ChangesOnly.refl _ s).each fun q hq t ht => ht.cond (.cond ?_ ?_)
  · exact ht.when fun _ h => h.when fun _ h => (h.set (slot q hq).1 _).set (slot q hq).2 _
  · exact ht.when fun _ h => h.set (slot q hq).1 _

/-- The fields of a converter's service: its state, its check, its return, and its mismatch run. -/
def serviceFields (n c : Nat) : List Fld := [SENSE_Cc_STAT_CHECK n c, SENSE_Cc_STAT_OUT n c, senCkAt n, senXrun n c]

theorem serviceFields_not_slot {n c : Nat} (hc : c < 4) {f : Fld} (hf : f ∈ serviceFields n c) :
    slotRegisters n (f.key / 32) = false := by
  rw [← Bool.not_eq_true, slotRegisters_iff]
  simp only [serviceFields, List.mem_cons, List.not_mem_nil, or_false] at hf
  obtain rfl | rfl | rfl | rfl := hf <;> simp only [Fld.key, SENSE_Cc_STAT_CHECK, SENSE_Cc_STAT_OUT, senCkAt, senXrun, ix] <;> omega

/-! ### The start of a check (R95) -/

section Start
variable {n c : Nat} {r : List Nat} {s : State}

/-- Converter `c` leaves service for its check; the converters of `r` wait for theirs. -/
def checkStarted (n c : Nat) (r : List Nat) (s : State) : State :=
  (((pairsOut n c ((setCheckQueue n r s).set (senCkAt n) s.now)).set (SENSE_Cc_STAT_CHECK n c) 1).set (SENSE_Cc_STAT_OUT n c) 1).set (senBack n c) 0

theorem exec_converterCheckStart {n : Fin 4} (ht : s.get (senTrigAt n) = s.now) (idle : ∀ d < 4, s.get (SENSE_Cc_STAT_CHECK n d) = 0)
    (hq : checkQueue n s = c :: r) : exec (.converterCheckStart n) s = .next (pathRefresh n (checkStarted n c r s)) := by
  have none : [0, 1, 2, 3].any (fun d => s.flag (SENSE_Cc_STAT_CHECK n d)) = false := by
    rw [List.any_eq_false]
    intro d hd
    have small : d < 4 := by simp at hd; omega
    simp [idle d small]
  change execConverterCheckStart n s = _
  simp only [execConverterCheckStart, ht, none, hq, ne_eq, not_true_eq_false, decide_false, Bool.or_self, Bool.false_eq_true, if_false, ok]
  rfl

theorem service_key_lt (hn : n < 4) (hc : c < 4) : (SENSE_Cc_STAT_CHECK n c).key < 2 ^ 45 ∧ (SENSE_Cc_STAT_OUT n c).key < 2 ^ 45 ∧
    (SENSE_Cc_STAT_SPARE n c).key < 2 ^ 45 ∧ (SENSE_Cc_STAT_FAILED n c).key < 2 ^ 45 := by
  simp only [Fld.key, SENSE_Cc_STAT_CHECK, SENSE_Cc_STAT_OUT, SENSE_Cc_STAT_SPARE, SENSE_Cc_STAT_FAILED]; omega

theorem checkStarted_get (hn : n < 4) (hc : c < 4) : (checkStarted n c r s).get (SENSE_Cc_STAT_CHECK n c) = 1 ∧
    (checkStarted n c r s).get (SENSE_Cc_STAT_OUT n c) = 1 ∧ (checkStarted n c r s).get (senCkAt n) = s.now ∧
    (checkStarted n c r s).get (senXrun n c) = 0 := by
  obtain ⟨check, out, -, -⟩ := service_key_lt hn hc
  have now_lt : s.now < 2 ^ 72 := lt_trans s.now_lt (by decide)
  refine ⟨?_, ?_, ?_, ?_⟩
  · rw [checkStarted, senBack, State.get_set_ix check,
      State.get_set_beside (f := SENSE_Cc_STAT_OUT n c) (g := SENSE_Cc_STAT_CHECK n c) _ _ rfl (of_decide_eq_true rfl), State.get_set_one rfl]
  · rw [checkStarted, senBack, State.get_set_ix out, State.get_set_one rfl]
  · have stream : (senCkAt n).key ≠ (strOpen (4 * n + c)).key := by simp only [Fld.key, senCkAt, strOpen, ix]; omega
    have runs : ∀ d < 4, (senCkAt n).key ≠ (senXrun n d).key := by intro d hd; simp only [Fld.key, senCkAt, senXrun, ix]; omega
    rw [checkStarted, State.get_set_ne _ _ _ _ (by simp only [Fld.key, senCkAt, senBack, ix]; omega), senCkAt, State.get_ix_set out,
      State.get_ix_set check, ← senCkAt, pairsOut, State.get_set_ne _ _ _ _ stream, State.get_set_ne _ _ _ _ (runs _ (Nat.mod_lt _ (by decide))),
      State.get_set_ne _ _ _ _ (runs c hc), State.get_set_of_lt now_lt]
  · have stream : (senXrun n c).key ≠ (strOpen (4 * n + c)).key := by simp only [Fld.key, senXrun, strOpen, ix]; omega
    have partner : (senXrun n c).key ≠ (senXrun n ((c + 3) % 4)).key := by simp only [Fld.key, senXrun, ix]; omega
    rw [checkStarted, State.get_set_ne _ _ _ _ (by simp only [Fld.key, senXrun, senBack, ix]; omega), senXrun, State.get_ix_set out,
      State.get_ix_set check, ← senXrun, pairsOut, State.get_set_ne _ _ _ _ stream, State.get_set_ne _ _ _ _ partner, State.get_set_zero]

/-- R95: a check takes its converter out of service, and its mismatch run starts again. -/
theorem converterCheckStart_starts {n : Fin 4} (ht : s.get (senTrigAt n) = s.now) (idle : ∀ d < 4, s.get (SENSE_Cc_STAT_CHECK n d) = 0)
    (hq : checkQueue n s = c :: r) (hc : c < 4) : ∃ t, exec (.converterCheckStart n) s = .next t ∧ t.get (SENSE_Cc_STAT_CHECK n c) = 1 ∧
      t.get (SENSE_Cc_STAT_OUT n c) = 1 ∧ t.get (senCkAt n) = s.now ∧ t.get (senXrun n c) = 0 ∧ t.mem = s.mem := by
  have paths := pathRefresh_changes n (checkStarted n c r s)
  have kept : ∀ f ∈ serviceFields n c, (pathRefresh n (checkStarted n c r s)).get f = (checkStarted n c r s).get f :=
    fun f hf => paths.get f (serviceFields_not_slot hc hf)
  obtain ⟨check, out, start, run⟩ := checkStarted_get (s := s) (r := r) n.isLt hc
  exact ⟨_, exec_converterCheckStart ht idle hq, (kept _ (by simp [serviceFields])).trans check, (kept _ (by simp [serviceFields])).trans out,
    (kept _ (by simp [serviceFields])).trans start, (kept _ (by simp [serviceFields])).trans run, paths.mem⟩

end Start

/-! ### The end of a check (R95 to R97) -/

section Done
variable {n : Fin 4} {c : Nat} {devs spreads : List (BitVec 20)} {s : State}

theorem sext_toNat {w : Nat} (x : BitVec (w + 1)) : sext (w + 1) x.toNat = x.toInt := by
  rw [sext, Nat.mod_eq_of_lt x.isLt, BitVec.toInt_eq_toNat_cond, Nat.add_sub_cancel]
  have := Nat.pow_succ' (n := 2) (m := w)
  split_ifs <;> omega

theorem checkPasses_iff : checkPasses devs spreads = true ↔ (∀ d ∈ devs, d.toInt.natAbs ≤ 128) ∧ ∀ d ∈ spreads, d.toNat ≤ 16 := by
  simp [checkPasses, sext_toNat]

theorem firstBelow_eq_some {k i : Nat} {p : Nat → Bool} (hi : i < k) (hp : p i = true) (low : ∀ j < i, p j = false) : firstBelow k p = some i :=
  List.find?_range_eq_some.2 ⟨hp, List.mem_range.2 hi, fun j hj => by simp [low j hj]⟩

/-- What a check of converter `c` that is done leaves when its outcome is judged. -/
def checkEnded (n c : Nat) (s : State) : State := (s.set (SENSE_Cc_STAT_CHECK n c) 0).set (senCkLatch n c) 0

theorem exec_converterCheckDone (hc : c < 4) (running : s.get (SENSE_Cc_STAT_CHECK n c) ≠ 0) (first : ∀ d < c, s.get (SENSE_Cc_STAT_CHECK n d) = 0)
    (ended : s.get (senCkAt n) + 3200 ≤ s.now) : exec (.converterCheckDone n devs spreads) s = .next
      (if checkPasses devs spreads then ((checkEnded n c s).set (senBack n c) 1).when (s.get (senCkLatch n c) != 0)
        (fun t => raiseStallFault n 1 4 .ride (latchForGood n c (s.get (senCkLatch n c)) t))
      else converterFails n c (checkEnded n c s)) := by
  have found : firstBelow 4 (fun d => s.flag (SENSE_Cc_STAT_CHECK n d)) = some c :=
    firstBelow_eq_some hc ((flag_eq_true_iff _ _).2 running) fun d hd => (flag_eq_false_iff _ _).2 (first d hd)
  change execConverterCheckDone n devs spreads s = _
  simp only [execConverterCheckDone, found, if_neg (Nat.not_lt.2 ended), ok]
  rfl

theorem converterCheckDone_passes (hc : c < 4) (running : s.get (SENSE_Cc_STAT_CHECK n c) ≠ 0) (first : ∀ d < c, s.get (SENSE_Cc_STAT_CHECK n d) = 0)
    (ended : s.get (senCkAt n) + 3200 ≤ s.now) (means : ∀ d ∈ devs, d.toInt.natAbs ≤ 128) (noise : ∀ d ∈ spreads, d.toNat ≤ 16) :
    (s.get (senCkLatch n c) = 0 → exec (.converterCheckDone n devs spreads) s = .next ((checkEnded n c s).set (senBack n c) 1)) ∧
    (s.get (senCkLatch n c) ≠ 0 → exec (.converterCheckDone n devs spreads) s =
      .next (raiseStallFault n 1 4 .ride (latchForGood n c (s.get (senCkLatch n c)) ((checkEnded n c s).set (senBack n c) 1)))) := by
  have passes : checkPasses devs spreads = true := checkPasses_iff.2 ⟨means, noise⟩
  rw [exec_converterCheckDone hc running first ended, if_pos passes]
  refine ⟨fun h => ?_, fun h => ?_⟩
  · rw [bne_eq_false_iff_eq.2 h, State.when_false]
  · rw [bne_iff_ne.2 h, State.when_true]

theorem converterCheckDone_fails (hc : c < 4) (running : s.get (SENSE_Cc_STAT_CHECK n c) ≠ 0) (first : ∀ d < c, s.get (SENSE_Cc_STAT_CHECK n d) = 0)
    (ended : s.get (senCkAt n) + 3200 ≤ s.now) (h : (∃ d ∈ devs, 128 < d.toInt.natAbs) ∨ ∃ d ∈ spreads, 16 < d.toNat) :
    exec (.converterCheckDone n devs spreads) s = .next (converterFails n c (checkEnded n c s)) := by
  have fails : ¬checkPasses devs spreads = true := by
    rw [checkPasses_iff]
    rintro ⟨means, noise⟩
    obtain ⟨d, hd, hlt⟩ | ⟨d, hd, hlt⟩ := h
    · exact Nat.not_le.2 hlt (means d hd)
    · exact Nat.not_le.2 hlt (noise d hd)
  rw [exec_converterCheckDone hc running first ended, if_neg fails]

end Done

/-! ### A failed converter and the spare (R97, R98) -/

section Fails
variable {n c : Nat} {s : State}

/-- A failed converter is out of service; a running calibration fails with it (R97, R107). -/
def converterOut (n c : Nat) (s : State) : State :=
  calFail n 6 (raiseEvent (0x64 + 0x40 * n) ((s.set (SENSE_Cc_STAT_FAILED n c) 1).set (SENSE_Cc_STAT_OUT n c) 1))

theorem raiseEvent_stall (n i : Nat) (s : State) : raiseEvent (0x40 + i + 0x40 * n) s = raiseStall n i s := by
  rw [raiseStall, show 0x40 + i + 0x40 * n = 0x40 + 0x40 * n + i by omega]

theorem converterOut_eq : converterOut n c s = calFail n 6 (raiseStall n 0x24 ((s.set (SENSE_Cc_STAT_FAILED n c) 1).set (SENSE_Cc_STAT_OUT n c) 1)) :=
  congrArg (calFail n 6) (raiseEvent_stall n 0x24 _)

/-- The spare itself fails in the place it had taken. -/
theorem converterFails_spare (h : (converterOut n c s).get (SENSE_Cc_STAT_SPARE n c) ≠ 0) :
    converterFails n c s = raiseStallFault n 1 3 .ride ((converterOut n c s).set BIST_SPARE_STAT_CONV_FAIL 1) := by
  rw [← flag_eq_true_iff] at h
  simp only [converterFails, ← converterOut_eq, h, if_true]

/-- The spare is taken, or has failed. -/
theorem converterFails_none (h : (converterOut n c s).get (SENSE_Cc_STAT_SPARE n c) = 0)
    (taken : (converterOut n c s).get BIST_SPARE_CONV_VALID ≠ 0 ∨ (converterOut n c s).get BIST_SPARE_STAT_CONV_FAIL ≠ 0) :
    converterFails n c s = raiseStallFault n 1 3 .ride (converterOut n c s) := by
  rw [← flag_eq_false_iff] at h
  rw [← flag_eq_true_iff, ← flag_eq_true_iff, ← Bool.or_eq_true] at taken
  simp only [converterFails, ← converterOut_eq, h, taken, Bool.false_eq_true, if_false, if_true]

/-- The spare is asked for. -/
theorem converterFails_asks (h : (converterOut n c s).get (SENSE_Cc_STAT_SPARE n c) = 0) (free : (converterOut n c s).get BIST_SPARE_CONV_VALID = 0)
    (good : (converterOut n c s).get BIST_SPARE_STAT_CONV_FAIL = 0) (idle : (converterOut n c s).get spareReq = 0) : converterFails n c s =
      (((converterOut n c s).set spareReq (n + 1)).set spareReqC c).set spareReqAt (converterOut n c s).now := by
  rw [← flag_eq_false_iff] at h free good
  simp only [converterFails, ← converterOut_eq, h, free, good, idle, Bool.or_self, Bool.false_eq_true, if_false, if_true]

end Fails

section Spare
variable {n c : Nat} {devs spreads : List (BitVec 20)} {s : State}

theorem exec_spareCheckDone (hr : s.get spareReq = n + 1) (hc : s.get spareReqC = c) (ended : s.get spareReqAt + 3200 ≤ s.now) :
    exec (.spareCheckDone devs spreads) s = .next (if checkPasses devs spreads then
      ((((s.set spareReq 0).set BIST_SPARE_CONV_VALID 1).set BIST_SPARE_CONV_STALL n).set BIST_SPARE_CONV_C c).set (senBack n c) 2
    else raiseStallFault n 1 3 .ride (raiseEvent (0x64 + 0x40 * n) ((s.set spareReq 0).set BIST_SPARE_STAT_CONV_FAIL 1))) := by
  have due : ¬(n + 1 = 0 ∨ s.now < s.get spareReqAt + 3200) := by omega
  change execSpareCheckDone devs spreads s = _
  rw [show raiseEvent (0x64 + 0x40 * n) = raiseStall n 0x24 from funext (raiseEvent_stall n 0x24)]
  simp only [execSpareCheckDone, hr, hc, if_neg due, Nat.add_sub_cancel, ok]

/-! ### A converter's return (R96 to R99) -/

/-- A position whose converter passed returns to service. -/
theorem positionBack_passed (h : s.get (senBack n c) = 1) :
    positionBack n c s = pathRefresh n ((s.set (senBack n c) 0).set (SENSE_Cc_STAT_OUT n c) 0) := by
  simp only [positionBack, h, one_ne_zero, if_false, State.when]
  rfl

/-- The spare takes its place with its own factory constants. -/
theorem positionBack_spare (hn : n < 4) (hc : c < 4) (h : s.get (senBack n c) = 2) : positionBack n c s =
    pathRefresh n (raiseStallFault n 1 2 .ride (raiseEvent (0x65 + 0x40 * n)
      (((((s.set (senBack n c) 0).set (SENSE_Cc_STAT_OUT n c) 0).set (SENSE_Cc_STAT_SPARE n c) 1).set (SENSE_Cc_FG_FG n c) (s.get spareFg)).set
        (SENSE_Cc_FO_FO n c) (s.get spareFo)))) := by
  obtain ⟨-, out, spare, -⟩ := service_key_lt hn hc
  obtain ⟨-, gain, -, -⟩ := converter_registers hn hc
  have fg : ((s.set (senBack n c) 0).set (SENSE_Cc_STAT_OUT n c) 0).get spareFg = s.get spareFg := by
    rw [spareFg, State.get_ix_set out, State.get_set_ne _ _ _ _ (by simp only [Fld.key, senBack, ix]; omega)]
  have fo : ((((s.set (senBack n c) 0).set (SENSE_Cc_STAT_OUT n c) 0).set (SENSE_Cc_STAT_SPARE n c) 1).set (SENSE_Cc_FG_FG n c) (s.get spareFg)).get
      spareFo = s.get spareFo := by
    rw [spareFo, State.get_ix_set gain, State.get_ix_set spare, State.get_ix_set out,
      State.get_set_ne _ _ _ _ (by simp only [Fld.key, senBack, ix]; omega)]
  rw [show raiseEvent (0x65 + 0x40 * n) = raiseStall n 0x25 from funext (raiseEvent_stall n 0x25)]
  simp only [positionBack, h, OfNat.ofNat_ne_zero, if_false, beq_self_eq_true, State.when_true, fg, fo]

theorem exec_pathReturn {n : Fin 4} {q : Fin 8} (latched : s.get (senLatched n q) ≠ 0) (unpassed : s.get (senPassed n q) = 0)
    (auto : s.get (SENSE_CTRL_AUTO_RETURN n) ≠ 0) (run : s.get (senRet n q) = 1024) (conv : s.get (senLconv n q) = c + 1)
    (spare : s.get (SENSE_Cc_STAT_SPARE n c) ≠ 0) (serving : s.get (SENSE_Cc_STAT_OUT n c) = 0) : exec (.pathReturn n q) s =
      .next (raiseEvent (0x62 + 0x40 * n) (((s.set (senLatched n q) 0).set (senRet n q) 0).set (SENSE_Qq_CFG_PATH n q) 0)) := by
  rw [← flag_eq_true_iff] at latched auto spare
  rw [← flag_eq_false_iff] at unpassed serving
  have replaced : (c + 1 != 0) = true := rfl
  change execPathReturn n q s = _
  rw [show raiseEvent (0x62 + 0x40 * n) = raiseStall n 0x22 from funext (raiseEvent_stall n 0x22)]
  simp only [execPathReturn, conv, Nat.add_sub_cancel, latched, unpassed, auto, run, spare, serving, replaced, beq_self_eq_true, Bool.not_false,
    Bool.and_self, State.when_true, ok]

end Spare
end Sys2Proof.Machine
end

section
/-!
O21: the converter check, a failed converter and the spare.
-/

namespace Sys2Proof.Machine
open Reg

/-- Settles O21, command by command. -/
theorem failedConverterTakesSpare : Obligations.FailedConverterTakesSpare := by
  refine ⟨fun n c r s trigger idle queue hc => converterCheckStart_starts trigger idle queue hc,
    fun n c devs spreads s hc running first ended => ⟨converterCheckDone_passes hc running first ended,
      converterCheckDone_fails hc running first ended⟩,
    fun n c s _ _ => ⟨converterFails_spare, converterFails_none, converterFails_asks⟩,
    fun n c devs spreads s _ _ request position ended => ?_,
    fun n c s hn hc => ⟨positionBack_passed, positionBack_spare hn hc⟩,
    fun n q c s => exec_pathReturn⟩
  rw [exec_spareCheckDone request position ended]
  exact ⟨fun passes => by rw [if_pos passes], fun fails => by rw [if_neg (Bool.not_eq_true _ ▸ fails)]⟩

end Sys2Proof.Machine
end

section
/-!
SUPPORT. The system calibration (R104 to R108): its steps, its captures, and its ends.
-/

namespace Sys2Proof.Machine
open Reg

/-- Fields of different keys written in turn, the `i`-th with `v i`, read as they were written. -/
theorem State.get_each_set {f : Nat → Fld} (apart : ∀ i j, i ≠ j → (f i).key ≠ (f j).key) (v : Nat → Nat) {k i : Nat} (hi : i < k) (s : State) :
    (s.each (List.range k) fun j t => t.set (f j) (v j)).get (f i) = v i % 2 ^ (f i).width := by
  induction k with
  | zero => exact absurd hi (Nat.not_lt_zero i)
  | succ k ih =>
    have last : (s.each (List.range (k + 1)) fun j t => t.set (f j) (v j)) = (s.each (List.range k) fun j t => t.set (f j) (v j)).set (f k) (v k) := by
      simp only [State.each, List.range_succ, List.foldl_append, List.foldl_cons, List.foldl_nil]
    rw [last]
    obtain rfl | hlt := Nat.eq_or_lt_of_le (Nat.le_of_lt_succ hi)
    · exact State.get_set_same _ _ _
    · rw [State.get_set_ne _ _ _ _ (apart _ _ (Nat.ne_of_lt hlt)), ih hlt]

/-! ### Steps and ends -/

section Steps
variable {n : Nat} {s : State}

/-- Entering a wait phase raises `EV_CAL_STEP`. -/
theorem calWait_eq (phase : Nat) : calWait n phase s =
    raiseEvent (0x67 + 0x40 * n) ((s.set (SENSE_CAL_STAT_PHASE n) phase).set (calWaitAt n) s.now) :=
  (raiseEvent_stall n 0x27 _).symm

/-- Every end raises `EV_CAL_DONE` (R108). -/
theorem calEnd_eq (st : Nat) : calEnd n st s =
    raiseEvent (0x66 + 0x40 * n) ((s.set (SENSE_CAL_CMD_STATUS n) st).set (SENSE_CAL_STAT_PHASE n) 0) :=
  (raiseEvent_stall n 0x26 _).symm

theorem calFail_running (h : s.get (SENSE_CAL_CMD_STATUS n) = stBusy) (err : Nat) :
    calFail n err s = calEnd n stFailed (s.set (SENSE_CAL_STAT_ERR n) err) := by
  rw [calFail, busy_eq_true (c := calCmd n) h, State.when_true]

end Steps

section Waits
variable {n : Fin 4} {s : State}

theorem stallWrite_open (h : bitAt (rewritten s) n = false) (f : State → Out) : stallWrite n f s = f s := by
  rw [stallWrite, h]; rfl

theorem exec_calRun (h : bitAt (rewritten s) n = false) : exec (.calRun n) s =
    .next (s.cmdStart (calCmd n) 1 (calAllowed n s) stBusy (calWait n 1) (raiseStall n 0x26)) :=
  stallWrite_open h fun t => ok (t.cmdStart (calCmd n) 1 (calAllowed n t) stBusy (calWait n 1) (raiseStall n 0x26))

theorem exec_zeroApplied (h : bitAt (rewritten s) n = false) : exec (.zeroApplied n) s = .next (calStep n 1 s) :=
  stallWrite_open h fun t => ok (calStep n 1 t)

theorem exec_fullApplied (h : bitAt (rewritten s) n = false) : exec (.fullApplied n) s = .next (calStep n 2 s) :=
  stallWrite_open h fun t => ok (calStep n 2 t)

theorem calRun_starts (h : bitAt (rewritten s) n = false) (idle : s.get (SENSE_CAL_CMD_STATUS n) ≠ stBusy) (allowed : calAllowed n s = true) :
    exec (.calRun n) s = .next (raiseEvent (0x67 + 0x40 * n)
      (((s.cmdSet (calCmd n) 1 stBusy).set (SENSE_CAL_STAT_PHASE n) 1).set (calWaitAt n) s.now)) := by
  rw [exec_calRun h, allowed, cmdStart_run (r := calCmd n) idle, calWait_eq]
  rfl

theorem calRun_refused (h : bitAt (rewritten s) n = false) (idle : s.get (SENSE_CAL_CMD_STATUS n) ≠ stBusy) (allowed : calAllowed n s = false) :
    exec (.calRun n) s = .next (raiseEvent (0x66 + 0x40 * n) (s.cmdSet (calCmd n) 1 stRefused)) := by
  rw [exec_calRun h, allowed, cmdStart_refused (r := calCmd n) idle]
  exact congrArg Host.Outcome.next (raiseEvent_stall n 0x26 _).symm

theorem calStep_taken {v ph : Nat} (hp : s.get (SENSE_CAL_STAT_PHASE n) = ph) (h : v = 1 ∧ ph = 1 ∨ v = 2 ∧ ph = 3) : calStep n v s =
    busOk (((s.set (SENSE_CAL_STEP_STEP n) v).set (SENSE_CAL_STAT_PHASE n) (ph + 1)).set (calWaitAt n) s.now) := by
  subst hp; exact if_pos h

theorem calStep_refused {v : Nat} (h : ¬(v = 1 ∧ s.get (SENSE_CAL_STAT_PHASE n) = 1 ∨ v = 2 ∧ s.get (SENSE_CAL_STAT_PHASE n) = 3)) :
    calStep n v s = busErr s := if_neg h

theorem exec_calWaitTimeout (waits : s.get (SENSE_CAL_STAT_PHASE n) = 1 ∨ s.get (SENSE_CAL_STAT_PHASE n) = 3)
    (late : s.get (calWaitAt n) + 12000000000 < s.now) : exec (.calWaitTimeout n) s = .next (calFail n 1 s) := by
  have due : ((s.get (SENSE_CAL_STAT_PHASE n) == 1 || s.get (SENSE_CAL_STAT_PHASE n) == 3) &&
      decide (s.get (calWaitAt n) + 12000000000 < s.now)) = true := by
    rw [decide_eq_true late, Bool.and_true, Bool.or_eq_true, beq_iff_eq, beq_iff_eq]
    exact waits
  change execCalWaitTimeout n s = _
  simp only [execCalWaitTimeout, due, State.when_true, ok]

end Waits

/-! ### Captures (R105, R107) -/

section Capture
variable {n : Fin 4} {means : List (BitVec 24)} {spreads : List (BitVec 20)} {s : State}

/-- Some channel of the run had a spread above 2,048 LSB (R107). -/
def captureWide (n : Nat) (spreads : List (BitVec 20)) (s : State) : Bool :=
  (List.range 22).any fun j => calMasked n j s && decide (2048 < (spreads.getD j 0).toNat)

theorem captureWide_iff : captureWide n spreads s = true ↔ ∃ j < 22, calMasked n j s = true ∧ 2048 < (spreads.getD j 0).toNat := by
  simp only [captureWide, List.any_eq_true, List.mem_range, Bool.and_eq_true, decide_eq_true_iff]

/-- The means of the first capture are kept. -/
def zeroCaptured (n : Nat) (means : List (BitVec 24)) (s : State) : State :=
  s.each (List.range 22) fun j t => t.set (calA0 n j) (means.getD j 0).toNat

theorem exec_captureDone (ended : s.get (calWaitAt n) + captureTicks n s ≤ s.now) : exec (.captureDone n means spreads) s = .next
    (if s.get (SENSE_CAL_STAT_PHASE n) = 2 then (if captureWide n spreads s then calFail n 2 s else calWait n 3 (zeroCaptured n means s))
     else if s.get (SENSE_CAL_STAT_PHASE n) = 4 then
      (if captureWide n spreads s then calFail n 2 s else calComputeAll n means (List.range 22) (s.set (SENSE_CAL_STAT_PHASE n) 5))
     else s) :=
  congrArg Host.Outcome.next (if_neg (Nat.not_lt.2 ended))

theorem captureDone_zero (ended : s.get (calWaitAt n) + captureTicks n s ≤ s.now) (hp : s.get (SENSE_CAL_STAT_PHASE n) = 2)
    (narrow : ¬captureWide n spreads s = true) : exec (.captureDone n means spreads) s = .next (calWait n 3 (zeroCaptured n means s)) := by
  rw [exec_captureDone ended, if_pos hp, if_neg narrow]

theorem captureDone_full (ended : s.get (calWaitAt n) + captureTicks n s ≤ s.now) (hp : s.get (SENSE_CAL_STAT_PHASE n) = 4)
    (narrow : ¬captureWide n spreads s = true) : exec (.captureDone n means spreads) s =
      .next (calComputeAll n means (List.range 22) (s.set (SENSE_CAL_STAT_PHASE n) 5)) := by
  rw [exec_captureDone ended, hp, if_neg (by decide), if_pos rfl, if_neg narrow]

theorem captureDone_wide (ended : s.get (calWaitAt n) + captureTicks n s ≤ s.now)
    (hp : s.get (SENSE_CAL_STAT_PHASE n) = 2 ∨ s.get (SENSE_CAL_STAT_PHASE n) = 4) (wide : captureWide n spreads s = true) :
    exec (.captureDone n means spreads) s = .next (calFail n 2 s) := by
  rw [exec_captureDone ended, if_pos wide, if_pos wide]
  obtain hp | hp := hp
  · rw [if_pos hp]
  · rw [hp, if_neg (by decide), if_pos rfl]

theorem calWait_phase {phase : Nat} (h : phase < 8) : (calWait n phase s).get (SENSE_CAL_STAT_PHASE n) = phase := by
  have silent : ∀ n < 4, reported ((SENSE_CAL_STAT_PHASE n).key / 32) = false := by decide
  rw [calWait_eq, (raiseEvent_reports _ _).get _ (silent n n.isLt), calWaitAt,
    State.get_set_ix (by simp only [Fld.key, SENSE_CAL_STAT_PHASE]; omega), State.get_set_of_lt h]

theorem calWait_captured {j : Nat} (hj : j < 22) (phase : Nat) :
    (calWait n phase (zeroCaptured n means s)).get (calA0 n j) = (means.getD j 0).toNat := by
  have silent : ∀ n < 4, ∀ j < 22, reported ((calA0 n j).key / 32) = false := by decide
  have apart : ∀ i j, i ≠ j → (calA0 n i).key ≠ (calA0 n j).key := by intro i j h; simp only [Fld.key, calA0, ix]; omega
  have wait : (calA0 n j).key ≠ (calWaitAt n).key := by simp only [Fld.key, calA0, calWaitAt, ix]; omega
  have phaseApart : (calA0 n j).key ≠ (SENSE_CAL_STAT_PHASE n).key := by simp only [Fld.key, calA0, SENSE_CAL_STAT_PHASE, ix]; omega
  rw [calWait_eq, (raiseEvent_reports _ _).get _ (silent n n.isLt j hj), State.get_set_ne _ _ _ _ wait, State.get_set_ne _ _ _ _ phaseApart,
    zeroCaptured, State.get_each_set apart (fun j => (means.getD j 0).toNat) hj]
  exact Nat.mod_eq_of_lt (means.getD j 0).isLt

end Capture

/-! ### The commit (R107, R108) -/

section Commit
variable {n : Fin 4} {k : Nat} {s : State}

theorem exec_calCommitDone (hp : s.get (SENSE_CAL_STAT_PHASE n) = 6) (busy : s.get (SENSE_CAL_CMD_STATUS n) = stBusy) (good : Bool) :
    exec (.calCommitDone n good) s = .next (if good then calCommit n stDone s else calFail n 7 s) := by
  have due : (s.get (SENSE_CAL_STAT_PHASE n) == 6 && s.busy (calCmd n)) = true := by
    rw [hp, busy_eq_true (c := calCmd n) busy]; rfl
  change execCalCommitDone n good s = _
  simp only [execCalCommitDone, due, State.when_true, ok]

/-- The new record is written over the older copy. -/
theorem calCommit_over (h : calNewest n s = some k) (st : Nat) : calCommit n st s = calEnd n st (calLoad n ((s.putWords (calAddr n (1 - k))
    (calRecord n ((s.wordAt (calAddr n k + 4) + 1) % 2 ^ 32) s)).inc (LEDGER_LIVE_w_W 68))) := by
  simp only [calCommit, calTarget, h]

/-- A failed run shows its cause; of memory only the Cellar, for the event's record, may change. -/
theorem calFail_ends (busy : s.get (SENSE_CAL_CMD_STATUS n) = stBusy) {err : Nat} (he : err < 256) :
    (calFail n err s).get (SENSE_CAL_CMD_STATUS n) = stFailed ∧ (calFail n err s).get (SENSE_CAL_STAT_ERR n) = err ∧
    ∀ a, a < 0x20000000 ∨ 0x21000000 ≤ a → (calFail n err s).byteAt a = s.byteAt a := by
  have silent : ∀ n < 4, reported ((SENSE_CAL_CMD_STATUS n).key / 32) = false ∧ reported ((SENSE_CAL_STAT_ERR n).key / 32) = false := by decide
  have status : (SENSE_CAL_CMD_STATUS n).key ≠ (SENSE_CAL_STAT_PHASE n).key := by
    simp only [Fld.key, SENSE_CAL_CMD_STATUS, SENSE_CAL_STAT_PHASE]; omega
  have cause : (SENSE_CAL_STAT_ERR n).key ≠ (SENSE_CAL_CMD_STATUS n).key := by
    simp only [Fld.key, SENSE_CAL_CMD_STATUS, SENSE_CAL_STAT_ERR]; omega
  have report := raiseEvent_reports (0x66 + 0x40 * n)
    (((s.set (SENSE_CAL_STAT_ERR n) err).set (SENSE_CAL_CMD_STATUS n) stFailed).set (SENSE_CAL_STAT_PHASE n) 0)
  rw [calFail_running busy, calEnd_eq]
  refine ⟨?_, ?_, fun a ha => report.byte a ha⟩
  · rw [report.get _ (silent n n.isLt).1, State.get_set_ne _ _ _ _ status]
    exact State.get_set_of_lt (f := SENSE_CAL_CMD_STATUS n) (show stFailed < 2 ^ 3 by decide) _
  · rw [report.get _ (silent n n.isLt).2, State.get_set_beside (f := SENSE_CAL_STAT_PHASE n) (g := SENSE_CAL_STAT_ERR n) _ _ rfl (of_decide_eq_true rfl),
      State.get_set_ne _ _ _ _ cause]
    exact State.get_set_of_lt (f := SENSE_CAL_STAT_ERR n) he s

end Commit
end Sys2Proof.Machine
end

section
/-!
O22: the calibration sequence and its record.
-/

namespace Sys2Proof.Machine
open Reg

/-- Settles O22, phase by phase. -/
theorem calibrationRunsAndCommits : Obligations.CalibrationRunsAndCommits := by
  refine ⟨fun n s h idle => ⟨calRun_starts h idle, calRun_refused h idle⟩, fun n s h => ?_, fun n means spreads s ended => ?_,
    fun n s waits late busy => ?_, fun n k s hp busy newest => ?_⟩
  · rw [exec_zeroApplied h, exec_fullApplied h]
    refine ⟨fun hp => ?_, fun hp => ?_, fun hp => ?_, fun hp => ?_⟩
    · rw [calStep_taken hp (by decide)]
    · rw [calStep_refused (by omega)]
    · rw [calStep_taken hp (by decide)]
    · rw [calStep_refused (by omega)]
  · rw [← captureWide_iff]
    exact ⟨fun hp narrow => ⟨_, captureDone_zero ended hp narrow, rfl, fun j hj => calWait_captured hj 3, calWait_phase (by decide)⟩,
      captureDone_full ended, captureDone_wide ended⟩
  · rw [exec_calWaitTimeout waits late, calFail_running busy, calEnd_eq]
  · refine ⟨?_, _, exec_calCommitDone hp busy false, ?_⟩
    · rw [exec_calCommitDone hp busy true, if_pos rfl, calCommit_over newest]
    · obtain ⟨status, cause, memory⟩ := calFail_ends busy (err := 7) (by decide)
      exact ⟨status, cause, fun a hl _ => memory a (.inr (by omega))⟩

end Sys2Proof.Machine
end

section
/-!
O19: a zero of the carrier that ends an open control period (R67, R205).
-/

namespace Sys2Proof.Machine
open Reg

/-- A zero that is a sampling instant ends the control period before it, and then begins a carrier period. -/
theorem exec_carrierZero_sampled {n : Fin 4} {f : Fin 64} {z : Nat} {s : State} (on : carrierOn n s = true) (hz : z = s.get (pwmZeroAt n) + period n s)
    (due : z ≤ s.fineNow f) (sampled : sampledAt n false s = true) :
    exec (.carrierZero n f) s = .next (zeroAfter n z (loadAtZero n z (periodBegin n z (periodClose n s)))) := by
  change execCarrierZero n f s = _
  simp only [execCarrierZero, ← hz, on, decide_eq_true due, sampled, Bool.and_self, State.when_true, ok]

/-- Stall 0 switches with the zeros as its sampling instants; a trigger has opened a control period, and the next zero is due: the period in
force is 128,000 fine steps, 2,000 ticks. -/
def openPeriod : State := { ((State.reset.set (PWM_STAT_STATE 0) 2).set (PWM_CTRL_SAMP 0) 1).set (senOpen 0) 1 with tbNow := 2000 }

theorem openPeriod_zero_due : carrierOn (0 : Fin 4) openPeriod = true ∧ sampledAt (0 : Fin 4) false openPeriod = true ∧
    128000 = openPeriod.get (pwmZeroAt (0 : Fin 4)) + period (0 : Fin 4) openPeriod ∧ 128000 ≤ openPeriod.fineNow (0 : Fin 64) := by
  decide +kernel

/-- What begins at the zero of `s` without the end of the control period before it. -/
def zeroLoads (s : State) : State := zeroAfter (0 : Fin 4) 128000 (loadAtZero (0 : Fin 4) 128000 (periodBegin (0 : Fin 4) 128000 s))

theorem zeroLoads_open : (zeroLoads openPeriod).get (senOpen 0) = 1 := by
  decide +kernel

theorem zeroLoads_closed : (zeroLoads (periodClose (0 : Fin 4) openPeriod)).get (senOpen 0) = 0 := by
  decide +kernel

/-- Refutes O19: the clause on a zero of the carrier leaves out that a zero which is a sampling instant first ends the control period before it.
In `openPeriod` the period is open; the clause leaves it open, and the zero closes it (R67, R205). -/
theorem not_samplingInstantsAndFilters : ¬ Obligations.SamplingInstantsAndFilters := by
  rintro ⟨-, -, -, zero, -⟩
  obtain ⟨on, sampled, hz, due⟩ := openPeriod_zero_due
  have claimed := (zero 0 0 openPeriod).1 on (hz ▸ due)
  rw [exec_carrierZero_sampled on hz due sampled, ← hz] at claimed
  have states : zeroLoads (periodClose (0 : Fin 4) openPeriod) = zeroLoads openPeriod := Host.Outcome.next.inj claimed
  have opens := congrArg (State.get · (senOpen 0)) states
  rw [zeroLoads_open, zeroLoads_closed] at opens
  exact Nat.zero_ne_one opens

end Sys2Proof.Machine
end

section
/-!
SUPPORT. The outputs of a window monitor (R114 to R117): what each change of them writes, and what follows it in the trip inputs and the DC
warning (R119, R289).
-/

namespace Sys2Proof.Machine
open Reg

/-! ### Frames -/

namespace WritesOnly

variable {p q : Nat → Bool} {a s t : State}

theorem each {l : List Nat} {f : Nat → State → State} (h : WritesOnly p a s)
    (k : ∀ i ∈ l, ∀ t, WritesOnly p a t → WritesOnly p a (f i t)) : WritesOnly p a (s.each l f) := by
  unfold State.each
  induction l generalizing s with
  | nil => exact h
  | cons i r ih => exact ih (k i List.mem_cons_self s h) fun j hj => k j (List.mem_cons_of_mem _ hj)

theorem trans (h : WritesOnly p a s) (k : WritesOnly p s t) : WritesOnly p a t :=
  ⟨fun g hg => (k.get g hg).trans (h.get g hg), k.tbNow.trans h.tbNow⟩

theorem mono (h : WritesOnly p a s) (hpq : ∀ x, p x = true → q x = true) : WritesOnly q a s := by
  refine ⟨fun g hg => h.get g (Bool.eq_false_iff.2 fun e => ?_), h.tbNow⟩
  rw [hpq _ e] at hg
  exact Bool.noConfusion hg

end WritesOnly

/-- A field set under a condition leaves every other field. -/
theorem State.get_when_set_ne {f g : Fld} (h : g.key ≠ f.key) (s : State) (b : Bool) (v : Nat) :
    (s.when b fun s => s.set f v).get g = s.get g := by
  cases b with
  | true => exact State.get_set_ne _ _ _ _ h
  | false => rfl

/-- Two fields of one register stand apart. -/
theorem Fld.key_ne_beside {f g : Fld} (ha : g.addr = f.addr) (hl : g.lsb ≠ f.lsb) : g.key ≠ f.key := by
  unfold Fld.key; omega

/-- Addresses outside the window monitors of Stall `n`: neither their registers nor the state's own fields of them. -/
def besideMonitors (n a : Nat) : Bool :=
  !(decide (0x41020000 + 0x100000 * n ≤ a) && decide (a < 0x41030000 + 0x100000 * n)) &&
    !(decide (0x10080000000 + 0x1000000000 * n ≤ a) && decide (a < 0x100C0000000 + 0x1000000000 * n))

theorem besideMonitors_iff (n a : Nat) : besideMonitors n a = true ↔
    (a < 0x41020000 + 0x100000 * n ∨ 0x41030000 + 0x100000 * n ≤ a) ∧
      (a < 0x10080000000 + 0x1000000000 * n ∨ 0x100C0000000 + 0x1000000000 * n ≤ a) := by
  simp only [besideMonitors, Bool.and_eq_true, Bool.not_eq_true', Bool.and_eq_false_iff, decide_eq_false_iff_not, not_le, not_lt]

/-- The register fields of monitor `m` that a sample reads or writes, but for its thresholds. -/
def monitorFields (n m : Nat) : List Fld :=
  [MON_Mm_STAT_STATE n m, MON_Mm_STAT_OUT n m, MON_Mm_STAT_LATCHED n m, MON_Mm_STAT_RISE n m, MON_Mm_STAT_FALL n m, MON_Mm_STAT_HARD n m,
    MON_Mm_STAT_TRIPS n m, MON_Mm_FILT_M n m, MON_Mm_FILT_N n m, MON_Mm_HARD_HEN n m, MON_Mm_HARD_HN n m, MON_Mm_HIST_HIST n m]

section Monitor
variable {n m : Nat} {s : State}

theorem monitorFields_window (hm : m < 12) {f : Fld} (hf : f ∈ monitorFields n m) :
    f.lsb < 32 ∧ 0x41020000 + 0x100000 * n ≤ f.addr ∧ f.addr < 0x41030000 + 0x100000 * n := by
  simp only [monitorFields, List.mem_cons, List.not_mem_nil, or_false] at hf
  obtain rfl | rfl | rfl | rfl | rfl | rfl | rfl | rfl | rfl | rfl | rfl | rfl := hf <;>
    simp only [MON_Mm_STAT_STATE, MON_Mm_STAT_OUT, MON_Mm_STAT_LATCHED, MON_Mm_STAT_RISE, MON_Mm_STAT_FALL, MON_Mm_STAT_HARD,
      MON_Mm_STAT_TRIPS, MON_Mm_FILT_M, MON_Mm_FILT_N, MON_Mm_HARD_HEN, MON_Mm_HARD_HN, MON_Mm_HIST_HIST] <;> omega

theorem monitorFields_key_lt (hn : n < 4) (hm : m < 12) {f : Fld} (hf : f ∈ monitorFields n m) : f.key < 2 ^ 45 := by
  have := monitorFields_window hm hf
  unfold Fld.key; omega

theorem monitorFields_not_beside (hm : m < 12) {f : Fld} (hf : f ∈ monitorFields n m) : besideMonitors n (f.key / 32) = false := by
  obtain ⟨hl, lo, hi⟩ := monitorFields_window hm hf
  rw [← Bool.not_eq_true, besideMonitors_iff]
  unfold Fld.key; omega

theorem besideMonitors_of_reported (hn : n < 4) (a : Nat) (h : reported a = true) : besideMonitors n a = true := by
  simp only [reported, Bool.or_eq_true, Bool.and_eq_true, decide_eq_true_eq, beq_iff_eq] at h
  rw [besideMonitors_iff]
  omega

/-! ### What follows a change of a monitor's outputs (R119, R289) -/

theorem tripFollow_writes (rose : Bool) (s : State) : WritesOnly (besideMonitors n) s (tripFollow n m rose s) := by
  have level : besideMonitors n ((PWM_TRIP_STAT_IN n).key / 32) = true := by
    rw [besideMonitors_iff]; simp only [Fld.key, PWM_TRIP_STAT_IN]; omega
  have anew : ∀ j ∈ [0, 1, 2, 3], besideMonitors n ((pwmTripNew n j).key / 32) = true := by
    intro j hj
    have small : j < 4 := by simp at hj; omega
    rw [besideMonitors_iff]; simp only [Fld.key, pwmTripNew, ix]; omega
  exact (WritesOnly.refl _ s).each fun j hj t ht => (ht.set level _).when fun h => h.set (anew j hj) 1

theorem warnFollow_writes (hn : n < 4) (s : State) : WritesOnly (besideMonitors n) s (warnFollow n s) := by
  have warn : besideMonitors n ((protWarn n).key / 32) = true := by
    rw [besideMonitors_iff]; simp only [Fld.key, protWarn, ix]; omega
  exact ((WritesOnly.refl _ s).set warn _).when fun h => h.reports (besideMonitors_of_reported hn) (raiseStall_reports _ _ _)

theorem monFollow_writes (hn : n < 4) (rose : Bool) (s : State) : WritesOnly (besideMonitors n) s (monFollow n m rose s) :=
  (tripFollow_writes rose s).trans (warnFollow_writes hn _)

theorem monFollow_raiseStall_writes (hn : n < 4) (rose : Bool) (i : Nat) (s : State) :
    WritesOnly (besideMonitors n) s (monFollow n m rose (raiseStall n i s)) :=
  ((WritesOnly.refl _ s).reports (besideMonitors_of_reported hn) (raiseStall_reports n i s)).trans (monFollow_writes hn rose _)

theorem monFollow_raiseStall_get (hn : n < 4) (hm : m < 12) {f : Fld} (hf : f ∈ monitorFields n m) (rose : Bool) (i : Nat) (s : State) :
    (monFollow n m rose (raiseStall n i s)).get f = s.get f :=
  (monFollow_raiseStall_writes hn rose i s).get f (monitorFields_not_beside hm hf)

theorem latchFollow_get {f : Fld} (h : f.key ≠ (MON_Mm_STAT_LATCHED n m).key) (sample : Bool) (s : State) :
    (latchFollow n m sample s).get f = s.get f :=
  State.get_when_set_ne h s _ 0

/-! ### The outputs of the filter (R115 to R117) -/

/-- What the filter's outputs write: the monitor's status register, its window, and what follows them beside the monitors. -/
def outputWritten (n m a : Nat) : Bool := besideMonitors n a || a == (MON_Mm_STAT_OUT n m).addr || a == (monWin n m).addr

theorem outputWritten_of_beside (a : Nat) (h : besideMonitors n a = true) : outputWritten n m a = true := by
  simp only [outputWritten, h, Bool.true_or]

theorem WritesOnly.setStatus {a : State} (h : WritesOnly (outputWritten n m) a s) (f : Fld) (v : Nat)
    (ha : f.addr = (MON_Mm_STAT_OUT n m).addr := by rfl) (hl : f.lsb < 32 := by exact of_decide_eq_true rfl) :
    WritesOnly (outputWritten n m) a (s.set f v) := by
  have register : f.key / 32 = (MON_Mm_STAT_OUT n m).addr := by unfold Fld.key; omega
  exact h.set (by simp only [outputWritten, register, beq_self_eq_true, Bool.or_true, Bool.true_or]) v

theorem WritesOnly.setWindow {a : State} (h : WritesOnly (outputWritten n m) a s) (v : Nat) :
    WritesOnly (outputWritten n m) a (s.set (monWin n m) v) := by
  have register : (monWin n m).key / 32 = (monWin n m).addr := by simp only [Fld.key, monWin, ix]; omega
  exact h.set (by simp only [outputWritten, register, beq_self_eq_true, Bool.or_true]) v

theorem hen_not_outputWritten (hm : m < 12) : outputWritten n m ((MON_Mm_HARD_HEN n m).key / 32) = false := by
  rw [outputWritten, monitorFields_not_beside hm (by simp [monitorFields]), Bool.false_or, Bool.or_eq_false_iff, beq_eq_false_iff_ne,
    beq_eq_false_iff_ne]
  simp only [Fld.key, MON_Mm_HARD_HEN, MON_Mm_STAT_OUT, monWin, ix]
  omega

theorem latchFollow_writes {a : State} (h : WritesOnly (outputWritten n m) a s) (sample : Bool) :
    WritesOnly (outputWritten n m) a (latchFollow n m sample s) := by
  unfold latchFollow
  exact h.when fun h => h.setStatus (MON_Mm_STAT_LATCHED n m) 0

theorem monAssert_writes (hn : n < 4) (s : State) : WritesOnly (outputWritten n m) s (monAssert n m s) := by
  refine WritesOnly.trans ?written ((monFollow_raiseStall_writes hn true 0x30 _).mono outputWritten_of_beside)
  have outputs := (((WritesOnly.refl _ s).setStatus (MON_Mm_STAT_OUT n m) 1).setStatus (MON_Mm_STAT_LATCHED n m) 1).setStatus
    (MON_Mm_STAT_RISE n m) 1
  exact (outputs.setStatus (MON_Mm_STAT_TRIPS n m) _).when fun h => h.setStatus (MON_Mm_STAT_WAKE n m) 1

theorem monDeassert_writes (hn : n < 4) (s : State) : WritesOnly (outputWritten n m) s (monDeassert n m s) := by
  refine WritesOnly.trans ?written ((monFollow_writes hn false _).mono outputWritten_of_beside)
  exact latchFollow_writes (((WritesOnly.refl _ s).setStatus (MON_Mm_STAT_OUT n m) 0).setStatus (MON_Mm_STAT_FALL n m) 1) true

theorem monResolve_writes (hn : n < 4) (c : Nat) (s : State) : WritesOnly (outputWritten n m) s (monResolve n m c s) := by
  refine WritesOnly.trans ?written ((monFollow_raiseStall_writes hn _ 0x32 _).mono outputWritten_of_beside)
  have output := (((WritesOnly.refl _ s).setStatus (MON_Mm_STAT_STATE n m) c).setWindow (if c != 1 then 0xFFFF else 0)).setStatus
    (MON_Mm_STAT_OUT n m) (c != 1).toNat
  exact (WritesOnly.cond (output.setStatus (MON_Mm_STAT_LATCHED n m) 1) (latchFollow_writes output true)).when fun h =>
    h.setStatus (MON_Mm_STAT_WAKE n m) 1

theorem monAssert_get (hn : n < 4) (hm : m < 12) (s : State) : (monAssert n m s).get (MON_Mm_STAT_OUT n m) = 1 ∧
    (monAssert n m s).get (MON_Mm_STAT_LATCHED n m) = 1 ∧ (monAssert n m s).get (MON_Mm_STAT_RISE n m) = 1 ∧
    (monAssert n m s).get (MON_Mm_STAT_TRIPS n m) = clampU (MON_Mm_STAT_TRIPS n m).width (s.get (MON_Mm_STAT_TRIPS n m) + 1) := by
  have fits : clampU (MON_Mm_STAT_TRIPS n m).width (s.get (MON_Mm_STAT_TRIPS n m) + 1) < 2 ^ (MON_Mm_STAT_TRIPS n m).width :=
    lt_of_le_of_lt (Nat.min_le_right _ _) (Nat.sub_lt (Nat.two_pow_pos _) Nat.one_pos)
  simp only [monAssert, State.inc, State.addSat]
  refine ⟨?_, ?_, ?_, ?_⟩ <;> rw [monFollow_raiseStall_get hn hm (by simp [monitorFields])] <;>
    simp (disch := exact Fld.key_ne_beside rfl (of_decide_eq_true rfl)) only [State.get_when_set_ne, State.get_set_ne]
  · exact State.get_set_one rfl _
  · exact State.get_set_one rfl _
  · exact State.get_set_one rfl _
  · exact State.get_set_of_lt fits _

theorem monDeassert_get (hn : n < 4) (hm : m < 12) (s : State) : (monDeassert n m s).get (MON_Mm_STAT_OUT n m) = 0 ∧
    (monDeassert n m s).get (MON_Mm_STAT_FALL n m) = 1 := by
  have kept : ∀ f ∈ monitorFields n m, ∀ t, (monFollow n m false t).get f = t.get f := fun f hf t =>
    (monFollow_writes hn false t).get f (monitorFields_not_beside hm hf)
  simp only [monDeassert, kept (MON_Mm_STAT_OUT n m) (by simp [monitorFields]), kept (MON_Mm_STAT_FALL n m) (by simp [monitorFields])]
  simp (disch := exact Fld.key_ne_beside rfl (of_decide_eq_true rfl)) only [latchFollow_get, State.get_set_ne]
  exact ⟨State.get_set_zero s _, State.get_set_one rfl _⟩

/-- `LATCHED` and `WAKE` leave every other field of the status register. -/
theorem monResolve_get_output {f : Fld} (hn : n < 4) (hm : m < 12) (c : Nat) (hf : f ∈ [MON_Mm_STAT_STATE n m, MON_Mm_STAT_OUT n m]) (s : State) :
    (monResolve n m c s).get f =
      (((s.set (MON_Mm_STAT_STATE n m) c).set (monWin n m) (if c != 1 then 0xFFFF else 0)).setB (MON_Mm_STAT_OUT n m) (c != 1)).get f := by
  have apart : f ∈ monitorFields n m ∧ f.key ≠ (MON_Mm_STAT_LATCHED n m).key ∧ f.key ≠ (MON_Mm_STAT_WAKE n m).key := by
    simp only [List.mem_cons, List.not_mem_nil, or_false] at hf
    obtain rfl | rfl := hf
    · exact ⟨by simp [monitorFields], Fld.key_ne_beside rfl (of_decide_eq_true rfl), Fld.key_ne_beside rfl (of_decide_eq_true rfl)⟩
    · exact ⟨by simp [monitorFields], Fld.key_ne_beside rfl (of_decide_eq_true rfl), Fld.key_ne_beside rfl (of_decide_eq_true rfl)⟩
  obtain ⟨monitor, latched, wake⟩ := apart
  rw [monResolve, monFollow_raiseStall_get hn hm monitor, State.get_when_set_ne wake]
  split
  · exact State.get_set_ne _ _ _ _ latched
  · exact latchFollow_get latched true _

theorem monResolve_get (hn : n < 4) (hm : m < 12) {c : Nat} (hc : c < 4) (s : State) : (monResolve n m c s).get (MON_Mm_STAT_STATE n m) = c ∧
    ((monResolve n m c s).get (MON_Mm_STAT_OUT n m) = 1 ↔ c ≠ 1) := by
  constructor
  · rw [monResolve_get_output hn hm c (by simp), State.setB,
      State.get_set_beside (f := MON_Mm_STAT_OUT n m) (g := MON_Mm_STAT_STATE n m) _ _ rfl (of_decide_eq_true rfl), monWin,
      State.get_set_ix (monitorFields_key_lt hn hm (by simp [monitorFields])), State.get_set_of_lt hc]
  · rw [monResolve_get_output hn hm c (by simp), State.setB, State.get_set_of_lt (Bool.toNat_lt _), Bool.toNat_eq_one, bne_iff_ne]

end Monitor
end Sys2Proof.Machine
end

section
/-!
SUPPORT. One sample of a window monitor (R111, R113 to R118): its class, the majority filter, the hard output, and what the sample comes to.
-/

namespace Sys2Proof.Machine
open Reg

section Monitor
variable {n m : Nat} {s : State}

/-! ### The majority filter (R114) -/

/-- The last 16 samples with a new one, `outside` or not. -/
def monWindow (n m : Nat) (outside : Bool) (s : State) : Nat := (s.get (monWin n m) * 2 + outside.toNat) % 65536

theorem monFilterStep_asserts (hn : n < 4) (hm : m < 12) {outside : Bool} (low : s.get (MON_Mm_STAT_OUT n m) = 0)
    (enough : s.get (MON_Mm_FILT_N n m) ≤ popCount (s.get (MON_Mm_FILT_M n m)) (monWindow n m outside s)) :
    monFilterStep n m outside s = monAssert n m (s.set (monWin n m) (monWindow n m outside s)) := by
  have output : (s.set (monWin n m) (monWindow n m outside s)).flag (MON_Mm_STAT_OUT n m) = false :=
    (flag_eq_false_iff _ _).2 ((State.get_set_ix (monitorFields_key_lt hn hm (by simp [monitorFields])) s _ _ _ _ _ _ _).trans low)
  refine if_pos ?_
  rw [← monWindow, output, decide_eq_true enough]
  rfl

theorem monFilterStep_deasserts (hn : n < 4) (hm : m < 12) {outside : Bool} (high : s.get (MON_Mm_STAT_OUT n m) ≠ 0)
    (enough : s.get (MON_Mm_FILT_N n m) ≤ s.get (MON_Mm_FILT_M n m) - popCount (s.get (MON_Mm_FILT_M n m)) (monWindow n m outside s)) :
    monFilterStep n m outside s = monDeassert n m (s.set (monWin n m) (monWindow n m outside s)) := by
  have output : (s.set (monWin n m) (monWindow n m outside s)).flag (MON_Mm_STAT_OUT n m) = true :=
    (flag_eq_true_iff _ _).2 ((State.get_set_ix (monitorFields_key_lt hn hm (by simp [monitorFields])) s _ _ _ _ _ _ _).trans_ne high)
  have falls : ((s.set (monWin n m) (monWindow n m outside s)).flag (MON_Mm_STAT_OUT n m) && decide (s.get (MON_Mm_FILT_N n m) ≤
      s.get (MON_Mm_FILT_M n m) - popCount (s.get (MON_Mm_FILT_M n m)) (monWindow n m outside s))) = true := by
    rw [output, decide_eq_true enough]
    rfl
  refine (if_neg ?_).trans (if_pos falls)
  rw [← monWindow, output]
  exact Bool.false_ne_true

theorem monFilterStep_writes (hn : n < 4) (outside : Bool) (s : State) : WritesOnly (outputWritten n m) s (monFilterStep n m outside s) := by
  have window := (WritesOnly.refl (outputWritten n m) s).setWindow (monWindow n m outside s)
  unfold monFilterStep
  refine WritesOnly.cond ?asserts (WritesOnly.cond ?deasserts ?stays)
  case asserts => exact window.trans (monAssert_writes hn _)
  case deasserts => exact window.trans (monDeassert_writes hn _)
  case stays => exact (latchFollow_writes window true).trans ((monFollow_writes hn false _).mono outputWritten_of_beside)

/-! ### The hard output (R118) -/

theorem monHardStep_disabled (h : s.get (MON_Mm_HARD_HEN n m) = 0) (x : Nat) : monHardStep n m x s = s := by
  simp only [monHardStep, (flag_eq_false_iff s _).2 h, Bool.and_false, Bool.false_and, Bool.false_eq_true, if_false]

/-- The run of samples beyond the hard thresholds with one more, up to 4. -/
def hardRun (n m : Nat) (s : State) : Nat := min 4 (s.get (monHardRun n m) + 1)

/-- The fields that judge a sample beyond the hard thresholds, once it counts. -/
theorem hardRun_counted (hn : n < 4) (hm : m < 12) : (s.set (monHardRun n m) (hardRun n m s)).get (monHardRun n m) = hardRun n m s ∧
    (s.set (monHardRun n m) (hardRun n m s)).get (MON_Mm_HARD_HN n m) = s.get (MON_Mm_HARD_HN n m) ∧
    (s.set (monHardRun n m) (hardRun n m s)).get (MON_Mm_STAT_HARD n m) = s.get (MON_Mm_STAT_HARD n m) :=
  ⟨State.get_set_of_lt (lt_of_le_of_lt (Nat.min_le_left 4 _) (of_decide_eq_true rfl)) s,
    State.get_set_ix (monitorFields_key_lt hn hm (by simp [monitorFields])) s _ _ _ _ _ _ _,
    State.get_set_ix (monitorFields_key_lt hn hm (by simp [monitorFields])) s _ _ _ _ _ _ _⟩

section Enabled
variable (hp : s.get (MON_Mm_CFG_PROT n m) ≠ 0) (he : s.get (MON_Mm_HARD_HEN n m) ≠ 0) (hs : s.get (MON_Mm_STAT_STATE n m) ≠ 0)
include hp he hs

theorem hard_judged : (s.flag (MON_Mm_CFG_PROT n m) && s.flag (MON_Mm_HARD_HEN n m) && s.get (MON_Mm_STAT_STATE n m) != 0) = true := by
  rw [(flag_eq_true_iff s _).2 hp, (flag_eq_true_iff s _).2 he, bne_iff_ne.2 hs]
  rfl

theorem monHardStep_within {x : Nat} (within : monBeyond n m x s = false) :
    monHardStep n m x s = warnFollow n (hardLevel n m false (s.set (monHardRun n m) 0)) := by
  rw [monHardStep, if_pos (hard_judged hp he hs), within, if_neg Bool.false_ne_true]

theorem monHardStep_counts (hn : n < 4) (hm : m < 12) {x : Nat} (beyond : monBeyond n m x s = true)
    (h : hardRun n m s ≤ s.get (MON_Mm_HARD_HN n m) ∨ s.get (MON_Mm_STAT_HARD n m) ≠ 0) :
    monHardStep n m x s = s.set (monHardRun n m) (hardRun n m s) := by
  obtain ⟨run, need, level⟩ := hardRun_counted (s := s) hn hm
  rw [monHardStep, if_pos (hard_judged hp he hs), if_pos beyond, ← hardRun]
  refine if_neg ?_
  rw [run, need, Bool.not_eq_true', flag_eq_false_iff, level]
  omega

theorem monHardStep_trips (hn : n < 4) (hm : m < 12) {x : Nat} (beyond : monBeyond n m x s = true)
    (many : s.get (MON_Mm_HARD_HN n m) < hardRun n m s) (low : s.get (MON_Mm_STAT_HARD n m) = 0) :
    monHardStep n m x s = psfSet n (0x10 + m) (2 ^ m) 0 0 (stallCode n 5 (0x10 + m)) (recordFault (stallCode n 5 (0x10 + m)) .stallSafe
      (warnFollow n (raiseStall n 0x31
        ((hardLevel n m true (s.set (monHardRun n m) (hardRun n m s))).set (MON_Mm_STAT_HARD_SEEN n m) 1)))) := by
  obtain ⟨run, need, level⟩ := hardRun_counted (s := s) hn hm
  rw [monHardStep, if_pos (hard_judged hp he hs), if_pos beyond, ← hardRun]
  refine if_pos ?_
  rw [run, need, Bool.not_eq_true', flag_eq_false_iff, level]
  exact ⟨many, low⟩

end Enabled

theorem monHard_lowered_get (hn : n < 4) (hm : m < 12) (s : State) :
    (warnFollow n (hardLevel n m false (s.set (monHardRun n m) 0))).get (MON_Mm_STAT_HARD n m) = 0 ∧
    (warnFollow n (hardLevel n m false (s.set (monHardRun n m) 0))).get (monHardRun n m) = 0 := by
  have hard : MON_Mm_STAT_HARD n m ∈ monitorFields n m := by simp [monitorFields]
  have run : besideMonitors n ((monHardRun n m).key / 32) = false := by
    rw [← Bool.not_eq_true, besideMonitors_iff]; simp only [Fld.key, monHardRun, ix]; omega
  have apart : (monHardRun n m).key ≠ (protHard n).key := by simp only [Fld.key, monHardRun, protHard, ix]; omega
  have follow := (warnFollow_writes hn (hardLevel n m false (s.set (monHardRun n m) 0))).get
  constructor
  · rw [follow _ (monitorFields_not_beside hm hard), hardLevel, State.setBit, protHard, State.get_set_ix (monitorFields_key_lt hn hm hard)]
    exact State.get_set_zero _ _
  · rw [follow _ run, hardLevel, State.setBit, State.get_set_ne _ _ _ _ apart, State.setB, monHardRun,
      State.get_ix_set (monitorFields_key_lt hn hm hard)]
    exact State.get_set_zero _ _

/-! ### One sample (R111, R113 to R115) -/

/-- The length of the run of samples of one clear class, with a new one of class `c`. -/
def runLength (n m c : Nat) (s : State) : Nat :=
  if c = 0 then 0 else if c = s.get (monRunCls n m) then min 16 (s.get (monRunLen n m) + 1) else 1

/-- What a sample of class `c` notes before the filter takes it: `HIST` and the run of its class. -/
def sampleNoted (n m c : Nat) (s : State) : State :=
  ((s.set (MON_Mm_HIST_HIST n m) ((s.get (MON_Mm_HIST_HIST n m) * 2 + (monOutside c (s.flag (MON_Mm_STAT_OUT n m))).toNat) % 65536)).set
    (monRunCls n m) c).set (monRunLen n m) (runLength n m c s)

/-- The fields by which the filter judges a noted sample. -/
def filterFields (n m : Nat) : List Fld :=
  [MON_Mm_STAT_OUT n m, MON_Mm_FILT_M n m, MON_Mm_FILT_N n m, MON_Mm_HARD_HEN n m, monWin n m]

theorem filterFields_apart (hm : m < 12) {f : Fld} (hf : f ∈ filterFields n m) : f.key ≠ (MON_Mm_HIST_HIST n m).key ∧
    f.key ≠ (monRunCls n m).key ∧ f.key ≠ (monRunLen n m).key ∧ f.key ≠ (MON_Mm_STAT_STATE n m).key := by
  simp only [filterFields, List.mem_cons, List.not_mem_nil, or_false] at hf
  obtain rfl | rfl | rfl | rfl | rfl := hf <;>
    simp only [Fld.key, MON_Mm_STAT_STATE, MON_Mm_STAT_OUT, MON_Mm_FILT_M, MON_Mm_FILT_N, MON_Mm_HARD_HEN, monWin, monRunCls, monRunLen,
      MON_Mm_HIST_HIST, ix] <;> omega

theorem sampleNoted_get (hm : m < 12) {f : Fld} (hf : f ∈ filterFields n m) (c : Nat) : (sampleNoted n m c s).get f = s.get f := by
  obtain ⟨hist, cls, len, -⟩ := filterFields_apart hm hf
  rw [sampleNoted, State.get_set_ne _ _ _ _ len, State.get_set_ne _ _ _ _ cls, State.get_set_ne _ _ _ _ hist]

theorem sampleNoted_state (hn : n < 4) (hm : m < 12) (c : Nat) :
    (sampleNoted n m c s).get (MON_Mm_STAT_STATE n m) = s.get (MON_Mm_STAT_STATE n m) := by
  have register := monitorFields_key_lt (f := MON_Mm_STAT_STATE n m) hn hm (by simp [monitorFields])
  have apart : (MON_Mm_STAT_STATE n m).key ≠ (MON_Mm_HIST_HIST n m).key := by simp only [Fld.key, MON_Mm_STAT_STATE, MON_Mm_HIST_HIST]; omega
  rw [sampleNoted, monRunLen, State.get_set_ix register, monRunCls, State.get_set_ix register, State.get_set_ne _ _ _ _ apart]

theorem monSample_idle (h : monSamples n m s = false) (x : Nat) : monSample n m x s = s := by
  rw [monSample, h, if_neg Bool.false_ne_true]

/-- The state in which the filter of a resolved monitor takes a sample of class `c`: a clear one is the side that `STATE` reads. -/
def sampleJudged (n m c : Nat) (s : State) : State := (sampleNoted n m c s).when (c != 0) fun t => t.set (MON_Mm_STAT_STATE n m) c

theorem sampleJudged_get (hm : m < 12) {f : Fld} (hf : f ∈ filterFields n m) (c : Nat) : (sampleJudged n m c s).get f = s.get f := by
  obtain ⟨-, -, -, state⟩ := filterFields_apart hm hf
  rw [sampleJudged, State.get_when_set_ne state, sampleNoted_get hm hf]

theorem sampleJudged_window (hm : m < 12) (c : Nat) (outside : Bool) :
    monWindow n m outside (sampleJudged n m c s) = monWindow n m outside s := by
  rw [monWindow, monWindow, sampleJudged_get hm (by simp [filterFields])]

section Sampled
variable {x c : Nat} (hn : n < 4) (hm : m < 12) (hc : monClass n m (x % 65536) s = c) (samples : monSamples n m s = true)
  (runs : carrierStopped n s = false) (analog : s.get (MON_Mm_CFG_SRC n m) = 0)
include hn hm hc samples runs analog

/-- A sample of an analog monitor while the carrier runs: it is noted, and then resolves the monitor or goes through the filter. -/
theorem monSample_eq : monSample n m x s =
    if s.get (MON_Mm_STAT_STATE n m) = 0 then
      (if c ≠ 0 ∧ s.get (MON_Mm_FILT_M n m) ≤ runLength n m c s then monHardStep n m (x % 65536) (monResolve n m c (sampleNoted n m c s))
      else monFollow n m false (latchFollow n m true (sampleNoted n m c s)))
    else monHardStep n m (x % 65536) (monFilterStep n m (monOutside c (s.flag (MON_Mm_STAT_OUT n m))) (sampleJudged n m c s)) := by
  have hist := monitorFields_key_lt (f := MON_Mm_HIST_HIST n m) hn hm (by simp [monitorFields])
  have cls := fun v => State.get_ix_set hist s n 2 3 m 2 0 v
  have len := fun v => State.get_ix_set hist s n 2 4 m 5 0 v
  have analog := (flag_eq_false_iff s _).2 analog
  rw [← sampleNoted_state hn hm c, ← sampleNoted_get (n := n) (f := MON_Mm_FILT_M n m) hm (by simp [filterFields]) c]
  simp only [monSample, samples, if_true, monCodeOf, analog, runs, State.when_false, Bool.false_eq_true, if_false, hc, monRunCls, monRunLen,
    cls, len, sampleNoted, runLength, sampleJudged]
  rfl

variable (soft : s.get (MON_Mm_HARD_HEN n m) = 0)
include soft

theorem monSample_resolves (unresolved : s.get (MON_Mm_STAT_STATE n m) = 0) (clear : c ≠ 0)
    (run : s.get (MON_Mm_FILT_M n m) ≤ runLength n m c s) : monSample n m x s = monResolve n m c (sampleNoted n m c s) := by
  rw [monSample_eq hn hm hc samples runs analog, if_pos unresolved, if_pos ⟨clear, run⟩]
  refine monHardStep_disabled ?_ _
  rw [(monResolve_writes hn _ _).get _ (hen_not_outputWritten hm), sampleNoted_get hm (by simp [filterFields]), soft]

theorem monSample_filters (resolved : s.get (MON_Mm_STAT_STATE n m) ≠ 0) :
    monSample n m x s = monFilterStep n m (monOutside c (s.flag (MON_Mm_STAT_OUT n m))) (sampleJudged n m c s) := by
  rw [monSample_eq hn hm hc samples runs analog, if_neg resolved]
  refine monHardStep_disabled ?_ _
  rw [(monFilterStep_writes hn _ _).get _ (hen_not_outputWritten hm), sampleJudged_get hm (by simp [filterFields]), soft]

theorem monSample_asserts (resolved : s.get (MON_Mm_STAT_STATE n m) ≠ 0) (low : s.get (MON_Mm_STAT_OUT n m) = 0)
    (enough : s.get (MON_Mm_FILT_N n m) ≤
      popCount (s.get (MON_Mm_FILT_M n m)) (monWindow n m (monOutside c (s.flag (MON_Mm_STAT_OUT n m))) s)) :
    ∃ u, monSample n m x s = monAssert n m u := by
  rw [monSample_filters hn hm hc samples runs analog soft resolved]
  refine ⟨_, monFilterStep_asserts hn hm ?low ?enough⟩
  · rw [sampleJudged_get hm (by simp [filterFields]), low]
  · rw [sampleJudged_get hm (by simp [filterFields]), sampleJudged_get hm (by simp [filterFields]), sampleJudged_window hm]
    exact enough

theorem monSample_deasserts (resolved : s.get (MON_Mm_STAT_STATE n m) ≠ 0) (high : s.get (MON_Mm_STAT_OUT n m) ≠ 0)
    (enough : s.get (MON_Mm_FILT_N n m) ≤ s.get (MON_Mm_FILT_M n m) -
      popCount (s.get (MON_Mm_FILT_M n m)) (monWindow n m (monOutside c (s.flag (MON_Mm_STAT_OUT n m))) s)) :
    ∃ u, monSample n m x s = monDeassert n m u := by
  rw [monSample_filters hn hm hc samples runs analog soft resolved]
  refine ⟨_, monFilterStep_deasserts hn hm ?high ?enough⟩
  · rw [sampleJudged_get hm (by simp [filterFields])]
    exact high
  · rw [sampleJudged_get hm (by simp [filterFields]), sampleJudged_get hm (by simp [filterFields]), sampleJudged_window hm]
    exact enough

end Sampled

theorem monRun_due {l : List (BitVec 64)} (due : monPeriods n m l.length s = true) :
    monRun n m l s = (l.foldl (fun s x => monSample n m x.toNat s) s).set (monLastAt n m) s.now := if_pos due

/-- The instant of the last sample stands apart from the registers. -/
theorem monLastAt_get (hn : n < 4) (hm : m < 12) {f : Fld} (hf : f ∈ monitorFields n m) (v : Nat) :
    (s.set (monLastAt n m) v).get f = s.get f :=
  State.get_set_ix (monitorFields_key_lt hn hm hf) s _ _ _ _ _ _ _

/-! ### The classes of a sample (R111) -/

/-- The class of a sample `v` in a window from `lo` to `hi` with hysteresis `h`. -/
def windowClass (hi lo h v : Int) : Nat := if hi < v then 2 else if v < lo then 3 else if lo + h ≤ v ∧ v ≤ hi - h then 1 else 0

theorem monClass_eq (x : Nat) : monClass n m x s = windowClass (monCode n m (s.get (MON_Mm_THR_HI_ACT n m)) s)
    (monCode n m (s.get (MON_Mm_THR_LO_ACT n m)) s) (s.get (MON_Mm_CFG_HYS n m)) (monCode n m (x / 16) s) := rfl

theorem monClass_lt (x : Nat) : monClass n m x s < 4 := by
  rw [monClass_eq, windowClass]
  split_ifs <;> decide

/-- The four classes are the four parts of the line, in a window that is not empty. -/
theorem windowClass_iff {hi lo h v : Int} (window : lo ≤ hi) (hysteresis : 0 ≤ h) :
    (windowClass hi lo h v = 2 ↔ hi < v) ∧ (windowClass hi lo h v = 3 ↔ v < lo) ∧ (windowClass hi lo h v = 1 ↔ lo + h ≤ v ∧ v ≤ hi - h) ∧
    (windowClass hi lo h v = 0 ↔ lo ≤ v ∧ v ≤ hi ∧ (v < lo + h ∨ hi - h < v)) := by
  unfold windowClass
  split_ifs with above below inside
  · exact ⟨iff_of_true rfl above, iff_of_false (by decide) (by omega), iff_of_false (by decide) (by omega), iff_of_false (by decide) (by omega)⟩
  · exact ⟨iff_of_false (by decide) above, iff_of_true rfl below, iff_of_false (by decide) (by omega), iff_of_false (by decide) (by omega)⟩
  · exact ⟨iff_of_false (by decide) above, iff_of_false (by decide) below, iff_of_true rfl inside, iff_of_false (by decide) (by omega)⟩
  · exact ⟨iff_of_false (by decide) above, iff_of_false (by decide) below, iff_of_false (by decide) inside, iff_of_true rfl (by omega)⟩

end Monitor
end Sys2Proof.Machine
end

section
/-!
O24: what a sample of a window monitor does, and its class.
-/

namespace Sys2Proof.Machine
open Reg

section Commands
variable {n : Fin 4} {m : Fin 12} {s : State}

/-- The five run commands are one run of samples (R113). -/
theorem exec_monRuns (l : List (BitVec 64)) : exec (.evMonResolved n m l) s = .next (monRun n m l s) ∧
    exec (.monFilterAssert n m l) s = .next (monRun n m l s) ∧ exec (.monFilterDeassert n m l) s = .next (monRun n m l s) ∧
    exec (.monHardAssert n m l) s = .next (monRun n m l s) ∧ exec (.monHardDeassert n m l) s = .next (monRun n m l s) :=
  ⟨rfl, rfl, rfl, rfl, rfl⟩

theorem monRun_one {x : BitVec 64} (due : monPeriods n m 1 s = true) :
    monRun n m [x] s = (monSample n m x.toNat s).set (monLastAt n m) s.now := monRun_due (l := [x]) due

section Sampled
variable {x : BitVec 64} {c : Nat} (hc : monClass n m (x.toNat % 65536) s = c) (samples : monSamples n m s = true)
  (due : monPeriods n m 1 s = true) (runs : carrierStopped n s = false) (analog : s.get (MON_Mm_CFG_SRC n m) = 0)
  (soft : s.get (MON_Mm_HARD_HEN n m) = 0)
include hc samples due runs analog soft

theorem evMonResolved_resolves (unresolved : s.get (MON_Mm_STAT_STATE n m) = 0) (clear : c ≠ 0) (same : c = s.get (monRunCls n m))
    (run : s.get (MON_Mm_FILT_M n m) ≤ min 16 (s.get (monRunLen n m) + 1)) :
    ∃ t, exec (.evMonResolved n m [x]) s = .next t ∧ t.get (MON_Mm_STAT_STATE n m) = c ∧ (t.get (MON_Mm_STAT_OUT n m) = 1 ↔ c ≠ 1) := by
  have long : s.get (MON_Mm_FILT_M n m) ≤ runLength n m c s := by
    rw [runLength, if_neg clear, if_pos same]; exact run
  have resolves := monSample_resolves n.isLt m.isLt hc samples runs analog soft unresolved clear long
  refine ⟨_, (exec_monRuns [x]).1, ?_⟩
  rw [monRun_one due, monLastAt_get n.isLt m.isLt (by simp [monitorFields]), monLastAt_get n.isLt m.isLt (by simp [monitorFields]), resolves]
  exact monResolve_get n.isLt m.isLt (hc ▸ monClass_lt _) _

theorem monFilterAssert_asserts (resolved : s.get (MON_Mm_STAT_STATE n m) ≠ 0) (low : s.get (MON_Mm_STAT_OUT n m) = 0)
    (enough : s.get (MON_Mm_FILT_N n m) ≤
      popCount (s.get (MON_Mm_FILT_M n m)) (monWindow n m (monOutside c (s.flag (MON_Mm_STAT_OUT n m))) s)) :
    ∃ t, exec (.monFilterAssert n m [x]) s = .next t ∧ t.get (MON_Mm_STAT_OUT n m) = 1 ∧ t.get (MON_Mm_STAT_LATCHED n m) = 1 ∧
      t.get (MON_Mm_STAT_RISE n m) = 1 := by
  obtain ⟨u, asserts⟩ := monSample_asserts n.isLt m.isLt hc samples runs analog soft resolved low enough
  obtain ⟨out, latched, rise, -⟩ := monAssert_get n.isLt m.isLt u
  have kept := fun {f : Fld} (hf : f ∈ monitorFields n m) => monLastAt_get (s := monAssert n m u) n.isLt m.isLt hf s.now
  refine ⟨_, (exec_monRuns [x]).2.1, ?_⟩
  rw [monRun_one due, asserts, kept (by simp [monitorFields]), kept (by simp [monitorFields]), kept (by simp [monitorFields])]
  exact ⟨out, latched, rise⟩

theorem monFilterDeassert_deasserts (resolved : s.get (MON_Mm_STAT_STATE n m) ≠ 0) (high : s.get (MON_Mm_STAT_OUT n m) ≠ 0)
    (enough : s.get (MON_Mm_FILT_N n m) ≤ s.get (MON_Mm_FILT_M n m) -
      popCount (s.get (MON_Mm_FILT_M n m)) (monWindow n m (monOutside c (s.flag (MON_Mm_STAT_OUT n m))) s)) :
    ∃ t, exec (.monFilterDeassert n m [x]) s = .next t ∧ t.get (MON_Mm_STAT_OUT n m) = 0 ∧ t.get (MON_Mm_STAT_FALL n m) = 1 := by
  obtain ⟨u, deasserts⟩ := monSample_deasserts n.isLt m.isLt hc samples runs analog soft resolved high enough
  have kept := fun {f : Fld} (hf : f ∈ monitorFields n m) => monLastAt_get (s := monDeassert n m u) n.isLt m.isLt hf s.now
  refine ⟨_, (exec_monRuns [x]).2.2.1, ?_⟩
  rw [monRun_one due, deasserts, kept (by simp [monitorFields]), kept (by simp [monitorFields])]
  exact monDeassert_get n.isLt m.isLt u

end Sampled
end Commands

/-- Settles O24: the run commands by their one meaning, a sample by the state of the monitor, the hard output by the run of samples beyond, the
classes by the window's four parts. -/
theorem monitorSamplesClassified : Obligations.MonitorSamplesClassified := by
  refine ⟨?runs, ?idle, ?sample, ?hard, ?outputs, ?classes⟩
  case runs =>
    intro n m l s due
    rw [← monRun_due due]
    exact exec_monRuns l
  case idle => exact fun n m x s h => monSample_idle h x
  case sample =>
    intro n m x s samples due runs analog soft
    exact ⟨evMonResolved_resolves rfl samples due runs analog soft, monFilterAssert_asserts rfl samples due runs analog soft,
      monFilterDeassert_deasserts rfl samples due runs analog soft⟩
  case hard =>
    intro n m x s hn hm hp he hs
    refine ⟨fun within => ⟨_, monHardStep_within hp he hs within, monHard_lowered_get hn hm s⟩, monHardStep_counts hp he hs hn hm,
      fun beyond many low => ?_⟩
    rw [monHardStep_trips hp he hs hn hm beyond many low, ← raiseEvent_stall]
    rfl
  case outputs =>
    intro n m s hn hm
    obtain ⟨out, latched, rise, trips⟩ := monAssert_get hn hm s
    exact ⟨out, latched, rise, trips, monDeassert_get hn hm s⟩
  case classes =>
    intro n m x s window
    have parts := windowClass_iff (v := monCode n m (x / 16) s) window (Int.natCast_nonneg (s.get (MON_Mm_CFG_HYS n m)))
    rw [← monClass_eq] at parts
    obtain ⟨above, below, inside, band⟩ := parts
    exact ⟨above, below, inside, band, fun out => ⟨rfl, rfl, rfl, rfl⟩⟩

end Sys2Proof.Machine
end

section
/-!
O23: the commands of the window monitors, and a DC warning that enabling one raises (R115, R289).
-/

namespace Sys2Proof.Machine
open Reg

theorem exec_monEnable {n : Fin 4} {m : Fin 12} {s : State} (h : bitAt (rewritten s) n = false) (disabled : s.get (MON_Mm_CFG_EN n m) = 0) :
    exec (.monEnable n m) s = .next (busOk (monStart n m (s.set (MON_Mm_CFG_EN n m) 1))) := by
  have starts : execMonEnable n m s = ok (busOk (if s.flag (MON_Mm_CFG_EN n m) then s else monStart n m (s.set (MON_Mm_CFG_EN n m) 1))) :=
    stallWrite_open h _
  rw [(flag_eq_false_iff s _).2 disabled, if_neg Bool.false_ne_true] at starts
  exact starts

/-- Protection monitor 0 of Stall 0 is the `WARN_MON` of a member of the DC link, and disabled; the Logbook records events and may take a
cask to stage them. -/
def warnMonitorDisabled : State :=
  ((((((((State.reset.set (MON_Mm_CFG_PROT 0 0) 1).set (PROT_LINK_CFG_MEMBER 0) 1).set (PROT_LINK_CFG_WARN_EN 0) 1).set LOGBOOK_CTRL_EN 1).set
    LOGBOOK_CTRL_EVENT 1).set PORTER_PART_LOG 1).set LOGBOOK_STAT_STATE 1).set (CELLAR_QUOTA_u_MIN 4) 1)

theorem monStart_stages_warning : (busOk (monStart (0 : Fin 4) (0 : Fin 12)
    (warnMonitorDisabled.set (MON_Mm_CFG_EN (0 : Fin 4) (0 : Fin 12)) 1))).mem ≠ warnMonitorDisabled.mem := by
  decide +kernel

/-- Refutes O23: the clause on enabling says that memory stays. In `warnMonitorDisabled` the enabled monitor holds its output asserted (R115), that
raises `EV_DC_WARN` (R289), and the Logbook stages the record in a cask (R381). -/
theorem not_monitorCommandsStartAndClear : ¬ Obligations.MonitorCommandsStartAndClear := by
  rintro ⟨enable, -⟩
  have free : bitAt (rewritten warnMonitorDisabled) (0 : Fin 4) = false := by decide +kernel
  have disabled : warnMonitorDisabled.get (MON_Mm_CFG_EN (0 : Fin 4) (0 : Fin 12)) = 0 := by decide +kernel
  obtain ⟨t, runs, -, -, -, -, -, mem⟩ := (enable 0 0 warnMonitorDisabled free).1 disabled
  have started := Host.Outcome.next.inj ((exec_monEnable free disabled).symm.trans runs)
  rw [← started] at mem
  exact monStart_stages_warning mem

end Sys2Proof.Machine
end

section
/-!
SUPPORT. The fields of a position port: what reading one gives after another was written, or after an event or a fault was reported.
-/

namespace Sys2Proof.Machine
open Reg

/-- What holds of each of the four ports holds of port `n`: a closed fact about the addresses of its fields is checked four times. -/
theorem atPort {P : Nat → Prop} (n : Nat) (hn : n < 4) (h : ∀ k < 4, P k) : P n := h n hn

section Reads
variable {f g : Fld} {s : State}

theorem raiseStall_get (h : reported (f.key / 32) = false) (n i : Nat) (s : State) : (raiseStall n i s).get f = s.get f :=
  (raiseStall_reports n i s).get f h

theorem raiseRide_get (h : reported (f.key / 32) = false) (n blk cause : Nat) (s : State) :
    (raiseStallFault n blk cause .ride s).get f = s.get f :=
  (raiseStallFault_ride_reports n blk cause s).get f h

/-- A conditional change that leaves a field where it happens leaves it. -/
theorem State.get_when {F : State → State} (h : (F s).get f = s.get f) (c : Bool) : (s.when c F).get f = s.get f := by
  cases c with
  | true => exact h
  | false => rfl

theorem clampU_lt (w x : Nat) : clampU w x < 2 ^ w :=
  lt_of_le_of_lt (Nat.min_le_right _ _) (Nat.sub_lt (Nat.two_pow_pos _) Nat.one_pos)

theorem State.get_inc_same (s : State) (f : Fld) : (s.inc f).get f = clampU f.width (s.get f + 1) :=
  State.get_set_of_lt (clampU_lt _ _) s

theorem State.get_inc_ne (h : g.key ≠ f.key) (s : State) : (s.inc f).get g = s.get g :=
  State.get_set_ne _ _ _ _ h

theorem State.get_setB_same (h : f.width = 1) (s : State) (b : Bool) : (s.setB f b).get f = b.toNat :=
  State.get_set_of_lt (by rw [h]; exact Bool.toNat_lt b) s

theorem State.get_setB_ne (h : g.key ≠ f.key) (s : State) (b : Bool) : (s.setB f b).get g = s.get g :=
  State.get_set_ne _ _ _ _ h

theorem State.get_seti_ne (h : g.key ≠ f.key) (s : State) (x : Int) : (s.seti f x).get g = s.get g :=
  State.get_set_ne _ _ _ _ h

theorem State.get_setF_ne (h : g.key ≠ f.key) (s : State) (x : F32) : (s.setF f x).get g = s.get g :=
  State.get_set_ne _ _ _ _ h

theorem State.get_setWide_ne {lo hi : Fld} (hl : g.key ≠ lo.key) (hh : g.key ≠ hi.key) (s : State) (v : Nat) :
    (s.setWide lo hi v).get g = s.get g :=
  (State.get_set_ne _ _ _ _ hh).trans (State.get_set_ne _ _ _ _ hl)

/-- A pair of words reads what was last written to it, cut to its width. -/
theorem State.getWide_setWide {lo hi : Fld} (apart : lo.key ≠ hi.key) (hw : lo.width = 32) (s : State) (v : Nat) :
    (s.setWide lo hi v).getWide lo hi = v % 2 ^ (32 + hi.width) := by
  rw [State.getWide, State.setWide, State.get_set_ne _ _ _ _ apart, State.get_set_same, State.get_set_same, hw, pow_add, Nat.mod_mul]

end Reads
end Sys2Proof.Machine
end

section
/-!
SUPPORT. The travel counter and the speed states (R156 to R161): what a movement and an edge write.
-/

namespace Sys2Proof.Machine
open Reg

section Port
variable {n : Nat} {s : State}

/-! ### The travel counter (R156 to R158) -/

/-- The registers of the travel counter and its movement in the present tick, and what a report writes. -/
def travelWritten (n a : Nat) : Bool :=
  reported a || [POS_TRAVEL_LO_TRAVEL n, POS_TRAVEL_HI_TRAVEL n, POS_TRAVEL_STAT_AT_MAX n, posMvAt n, posMvD n].any fun f => a == f.addr

theorem travelWritten_of_reported (a : Nat) (h : reported a = true) : travelWritten n a = true := by simp only [travelWritten, h, Bool.true_or]

theorem travelMove_writes (hn : n < 4) (d : Int) (s : State) : WritesOnly (travelWritten n) s (travelMove n d s) := by
  have at_ : travelWritten n ((posMvAt n).key / 32) = true := by apply atPort n hn; decide
  have by_ : travelWritten n ((posMvD n).key / 32) = true := by apply atPort n hn; decide
  have lo : travelWritten n ((POS_TRAVEL_LO_TRAVEL n).key / 32) = true := by apply atPort n hn; decide
  have hi : travelWritten n ((POS_TRAVEL_HI_TRAVEL n).key / 32) = true := by apply atPort n hn; decide
  have atMax : travelWritten n ((POS_TRAVEL_STAT_AT_MAX n).key / 32) = true := by apply atPort n hn; decide
  have atMin : travelWritten n ((POS_TRAVEL_STAT_AT_MIN n).key / 32) = true := by apply atPort n hn; decide
  have seen : travelWritten n ((POS_TRAVEL_STAT_SAT_SEEN n).key / 32) = true := by apply atPort n hn; decide
  have h := WritesOnly.refl (travelWritten n) s
  unfold travelMove
  refine WritesOnly.cond h (WritesOnly.when ?moved fun h => ?limit)
  case moved => exact (((((h.set at_ _).set by_ _).set lo _).set hi _).set atMax _).set atMin _
  case limit =>
    exact ((h.set seen 1).reports travelWritten_of_reported (raiseStall_reports _ _ _)).reports travelWritten_of_reported
      (raiseStallFault_ride_reports _ _ _ _)

theorem travelMove_get (hn : n < 4) {f : Fld} (h : travelWritten n (f.key / 32) = false) (d : Int) (s : State) :
    (travelMove n d s).get f = s.get f :=
  (travelMove_writes hn d s).get f h

theorem travelMove_zero (n : Nat) (s : State) : travelMove n 0 s = s := if_pos rfl

theorem sext_range (w v : Nat) : -2 ^ w ≤ sext (w + 1) v ∧ sext (w + 1) v < 2 ^ w := by
  have whole : 2 ^ (w + 1) = 2 * 2 ^ w := by ring
  have word : v % 2 ^ (w + 1) < 2 ^ (w + 1) := Nat.mod_lt _ (Nat.two_pow_pos _)
  have half : (2 : Int) ^ w = ((2 ^ w : Nat) : Int) := by norm_num
  rw [sext, half, Nat.add_sub_cancel]
  split <;> omega

theorem travel_setTravel (hn : n < 4) {x : Int} (hl : -2 ^ 47 ≤ x) (hh : x < 2 ^ 47) (s : State) : travel n (setTravel n x s) = x := by
  have apart : (POS_TRAVEL_LO_TRAVEL n).key ≠ (POS_TRAVEL_HI_TRAVEL n).key := by apply atPort n hn; decide
  have fits : wrap 48 x < 2 ^ 48 := by
    have := Int.emod_lt_of_pos x (b := ((2 ^ 48 : Nat) : Int)) (by norm_num)
    unfold wrap; omega
  have word : (setTravel n x s).getWide (POS_TRAVEL_LO_TRAVEL n) (POS_TRAVEL_HI_TRAVEL n) = wrap 48 x :=
    (State.getWide_setWide apart rfl s _).trans (Nat.mod_eq_of_lt fits)
  rw [travel, word]
  exact sext_wrap hl hh

/-- The counter after a movement by `d`, held at the limit it meets (R157). -/
def travelAfter (n : Nat) (d : Int) (s : State) : Int :=
  if travelMax n s < travel n s + d then travelMax n s else if travel n s + d < travelMin n s then travelMin n s else travel n s + d

theorem travelAfter_range (d : Int) (s : State) : -2 ^ 47 ≤ travelAfter n d s ∧ travelAfter n d s < 2 ^ 47 := by
  obtain ⟨maxLo, maxHi⟩ : -2 ^ 47 ≤ travelMax n s ∧ travelMax n s < 2 ^ 47 := sext_range 47 _
  obtain ⟨minLo, minHi⟩ : -2 ^ 47 ≤ travelMin n s ∧ travelMin n s < 2 ^ 47 := sext_range 47 _
  unfold travelAfter
  split
  · exact ⟨maxLo, maxHi⟩
  · split
    · exact ⟨minLo, minHi⟩
    · constructor <;> omega

/-- The state after a movement, before the limit it meets is reported. -/
def travelMoved (n : Nat) (d : Int) (s : State) : State :=
  let before := if s.get (posMvAt n) = s.now + 1 then s.geti (posMvD n) else 0
  ((setTravel n (travelAfter n d s) ((s.set (posMvAt n) (s.now + 1)).seti (posMvD n) (before + d))).setB (POS_TRAVEL_STAT_AT_MAX n)
    (decide (travelMax n s < travel n s + d))).setB (POS_TRAVEL_STAT_AT_MIN n) (decide (travel n s + d < travelMin n s))

/-- What reports that the counter met a limit (R157). -/
def limitReported (n : Nat) (s : State) : State :=
  raiseStallFault n 3 0x0C .ride (raiseStall n 0x3E (s.set (POS_TRAVEL_STAT_SAT_SEEN n) 1))

/-- Whether a movement meets a limit at which the counter did not stand. -/
def limitMet (n : Nat) (d : Int) (s : State) : Bool :=
  (decide (travelMax n s < travel n s + d) && !s.flag (POS_TRAVEL_STAT_AT_MAX n)) ||
    (decide (travel n s + d < travelMin n s) && !s.flag (POS_TRAVEL_STAT_AT_MIN n))

theorem travelMove_eq (hn : n < 4) {d : Int} (hd : d ≠ 0) (s : State) :
    travelMove n d s = (travelMoved n d s).when (limitMet n d s) (limitReported n) := by
  rw [travelMove, if_neg hd]
  simp (disch := (apply atPort n hn; decide)) only [travel, travelMin, travelMax, State.getWide, State.flag, State.get_seti_ne, State.get_set_ne]
  simp only [travelMoved, travelAfter, limitMet, travel, travelMin, travelMax, State.getWide, State.flag, decide_eq_true_eq]
  rfl

theorem limitReported_get {f : Fld} (h : reported (f.key / 32) = false) (hf : f.key ≠ (POS_TRAVEL_STAT_SAT_SEEN n).key) (s : State) :
    (limitReported n s).get f = s.get f := by
  rw [limitReported, raiseRide_get h, raiseStall_get h, State.get_set_ne _ _ _ _ hf]

theorem travelMove_get_moved (hn : n < 4) {d : Int} (hd : d ≠ 0) {f : Fld} (h : reported (f.key / 32) = false)
    (hf : f.key ≠ (POS_TRAVEL_STAT_SAT_SEEN n).key) (s : State) : (travelMove n d s).get f = (travelMoved n d s).get f := by
  rw [travelMove_eq hn hd, State.get_when (limitReported_get h hf _)]

theorem travel_travelMove (hn : n < 4) {d : Int} (hd : d ≠ 0) (s : State) : travel n (travelMove n d s) = travelAfter n d s := by
  obtain ⟨lo, hi⟩ := travelAfter_range (n := n) d s
  simp (disch := (apply atPort n hn; decide)) only [travel, State.getWide, travelMove_get_moved hn hd, travelMoved, State.get_setB_ne]
  exact travel_setTravel hn lo hi _

theorem travelMove_limits (hn : n < 4) {d : Int} (hd : d ≠ 0) (s : State) :
    (travelMove n d s).get (POS_TRAVEL_STAT_AT_MAX n) = (decide (travelMax n s < travel n s + d)).toNat ∧
    (travelMove n d s).get (POS_TRAVEL_STAT_AT_MIN n) = (decide (travel n s + d < travelMin n s)).toNat := by
  simp (disch := (apply atPort n hn; decide)) only [travelMove_get_moved hn hd, travelMoved, State.get_setB_ne, State.get_setB_same, and_self]

theorem travelAfter_clamped {d : Int} (limits : travelMin n s ≤ travelMax n s) :
    travelAfter n d s = max (travelMin n s) (min (travelMax n s) (travel n s + d)) := by
  unfold travelAfter
  split
  · omega
  · split <;> omega

end Port
end Sys2Proof.Machine
end

section
/-!
SUPPORT. The preset of the travel counter, the speed of an edge sensor, the probe and the standstill (R158 to R162).
-/

namespace Sys2Proof.Machine
open Reg

section Port
variable {n : Nat} {s : State}

/-! ### The preset (R158) -/

/-- The value that a write of `hi` presets: with the low word held for it, or the present one (R47). -/
def presetValue (n hi : Nat) (s : State) : Int :=
  sext 48 (heldOr s (POS_TRAVEL_LO_TRAVEL n).addr (s.get (POS_TRAVEL_LO_TRAVEL n)) + 2 ^ 32 * (hi % 65536))

/-- The counter preset: its held word dropped, and at no limit. -/
def travelLoaded (n : Nat) (x : Int) (s : State) : State :=
  ((setTravel n x { s with held := storeDrop (POS_TRAVEL_LO_TRAVEL n).addr s.held }).set (POS_TRAVEL_STAT_AT_MAX n) 0).set
    (POS_TRAVEL_STAT_AT_MIN n) 0

theorem travelLoaded_get {f : Fld} (hlo : f.key ≠ (POS_TRAVEL_LO_TRAVEL n).key) (hhi : f.key ≠ (POS_TRAVEL_HI_TRAVEL n).key)
    (hmax : f.key ≠ (POS_TRAVEL_STAT_AT_MAX n).key) (hmin : f.key ≠ (POS_TRAVEL_STAT_AT_MIN n).key) (x : Int) (s : State) :
    (travelLoaded n x s).get f = s.get f := by
  rw [travelLoaded, State.get_set_ne _ _ _ _ hmin, State.get_set_ne _ _ _ _ hmax]
  exact State.get_setWide_ne hlo hhi _ _

theorem travel_travelLoaded (hn : n < 4) (hi : Nat) (s : State) : travel n (travelLoaded n (presetValue n hi s) s) = presetValue n hi s := by
  simp (disch := (apply atPort n hn; decide)) only [travel, State.getWide, travelLoaded, State.get_set_ne]
  exact travel_setTravel hn (sext_range 47 _).1 (sext_range 47 _).2 _

theorem travelPreset_within (hn : n < 4) {hi : Nat} (h : travelMin n s ≤ presetValue n hi s ∧ presetValue n hi s ≤ travelMax n s) :
    travelPreset n hi s = busOk (if s.get (posMvAt n) = s.now + 1 then
      travelMove n (s.geti (posMvD n)) ((travelLoaded n (presetValue n hi s) s).set (posMvAt n) 0)
      else travelLoaded n (presetValue n hi s) s) := by
  have at_ : (travelLoaded n (presetValue n hi s) s).get (posMvAt n) = s.get (posMvAt n) := by
    simp (disch := (apply atPort n hn; decide)) only [travelLoaded_get]
  have by_ : (travelLoaded n (presetValue n hi s) s).geti (posMvD n) = s.geti (posMvD n) := by
    simp (disch := (apply atPort n hn; decide)) only [State.geti, travelLoaded_get]
  rw [← at_, ← by_]
  exact if_pos h

theorem travelPreset_outside {hi : Nat} (h : presetValue n hi s < travelMin n s ∨ travelMax n s < presetValue n hi s) :
    travelPreset n hi s = busErr s :=
  if_neg fun k => h.elim (not_lt.2 k.1) (not_lt.2 k.2)

/-! ### The edges of a speed (R160) -/

/-- The first edge, or the first one in another direction, leaves the speed not valid. -/
theorem speedEdge_starts (hn : n < 4) {dir : Bool} (h : s.get (POS_SPD_STAT_MODE n) = 0 ∨ s.flag (POS_SPD_STAT_DIR n) ≠ dir) (t : Nat) :
    speedEdge n t dir s = (((((s.set (POS_SPD_STAT_STILL n) 0).set (POS_SPD_STAT_MODE n) 1).setB (POS_SPD_STAT_DIR n) dir).set
      (POS_SPD_STAT_VALID n) 0).set (posEdgeN n) 0).set (posEdgeAt n) (t + 1) := by
  rw [speedEdge, if_pos]
  simpa (disch := (apply atPort n hn; decide)) only [State.flag, State.get_set_ne] using h

/-- The speed state after `k` edges: the interval's speed, or the observer's from `OBS_N` edges on (R160). -/
def edgeMode (n k : Nat) (s : State) : Nat := if s.get (POS_SPD_CFG_OBS_N n) ≤ k then 3 else 2

theorem edgeMode_lt (k : Nat) : edgeMode n k s < 4 := by
  unfold edgeMode; split <;> decide

/-- A further edge in the same direction makes the speed valid. -/
theorem speedEdge_counts (hn : n < 4) {dir : Bool} (moves : s.get (POS_SPD_STAT_MODE n) ≠ 0) (same : s.flag (POS_SPD_STAT_DIR n) = dir) (t : Nat) :
    (speedEdge n t dir s).get (POS_SPD_STAT_STILL n) = 0 ∧ (speedEdge n t dir s).get (POS_SPD_STAT_VALID n) = 1 ∧
    (speedEdge n t dir s).get (POS_SPD_STAT_MODE n) = edgeMode n (min 16 (s.get (posEdgeN n) + 1)) s := by
  have later : ¬(s.get (POS_SPD_STAT_MODE n) = 0 ∨ (s.set (POS_SPD_STAT_STILL n) 0).flag (POS_SPD_STAT_DIR n) ≠ dir) := by
    simp (disch := (apply atPort n hn; decide)) only [State.flag, State.get_set_ne]
    exact not_or.2 ⟨moves, not_not.2 same⟩
  rw [speedEdge, if_neg later]
  split <;>
  · simp (disch := (apply atPort n hn; decide)) only [State.get_setF_ne, State.get_set_ne, State.get_set_zero, State.get_set_one, true_and]
    exact State.get_set_of_lt (edgeMode_lt _) _

/-- The registers of the speed of an edge sensor, and the state's own fields of it. -/
def speedWritten (n a : Nat) : Bool :=
  [POS_SPD_STAT_MODE n, posEdgeAt n, posEdgeN n, posIntW n, posObsW n, posObsD n].any fun f => a == f.addr

theorem speedEdge_writes (hn : n < 4) (t : Nat) (dir : Bool) (s : State) : WritesOnly (speedWritten n) s (speedEdge n t dir s) := by
  have still : speedWritten n ((POS_SPD_STAT_STILL n).key / 32) = true := by apply atPort n hn; decide
  have mode : speedWritten n ((POS_SPD_STAT_MODE n).key / 32) = true := by apply atPort n hn; decide
  have dir_ : speedWritten n ((POS_SPD_STAT_DIR n).key / 32) = true := by apply atPort n hn; decide
  have valid : speedWritten n ((POS_SPD_STAT_VALID n).key / 32) = true := by apply atPort n hn; decide
  have edge : speedWritten n ((posEdgeAt n).key / 32) = true := by apply atPort n hn; decide
  have edges : speedWritten n ((posEdgeN n).key / 32) = true := by apply atPort n hn; decide
  have interval : speedWritten n ((posIntW n).key / 32) = true := by apply atPort n hn; decide
  have observed : speedWritten n ((posObsW n).key / 32) = true := by apply atPort n hn; decide
  have ahead : speedWritten n ((posObsD n).key / 32) = true := by apply atPort n hn; decide
  have h := (WritesOnly.refl (speedWritten n) s).set still 0
  unfold speedEdge
  refine WritesOnly.cond ?starts ?counts
  case starts => exact ((((h.set mode _).set dir_ _).set valid _).set edges _).set edge _
  case counts =>
    refine ((((WritesOnly.set (WritesOnly.cond ?first ?later) interval _).set edges _).set edge _).set mode _).set valid _
    case first => exact (h.set observed _).set ahead _
    case later => exact (h.set ahead _).set observed _

theorem speedEdge_get (hn : n < 4) {f : Fld} (h : speedWritten n (f.key / 32) = false) (t : Nat) (dir : Bool) (s : State) :
    (speedEdge n t dir s).get f = s.get f :=
  (speedEdge_writes hn t dir s).get f h

/-! ### What an angle and a speed are read from (R131, R160) -/

/-- The fields that the angle at an instant and the speed at an instant are read from. -/
def sensorFields (n : Nat) : List Fld :=
  [POS_CTRL_EN n, POS_CTRL_PRIM n, POS_CTRL_HALL_EN n, POS_SCALE_RATIO n, POS_OFFSET_OFS n, POS_STAT_SRC n, POS_STAT_HOMED n, posAligned n,
    POS_ENC_CFG_CPR n, POS_ENC_COUNT_COUNT n, POS_HALL_CFG_OFS n, POS_HALL_STAT_CODE n, posHallPrev n, posHallAt n, posHallAng n, posHallHas n,
    POS_SPD_STAT_MODE n, POS_SPD_STAT_DIR n, POS_SPD_STAT_STILL n, POS_SPD_STAT_VALID n, posEdgeAt n, posIntW n, posObsW n, posOmega n,
    posTheta n, posUpdAt n, POS_RES_EXC_PER n, POS_RES_STAT_LOCK n, posSsiGood n, POS_BEMF_SPD_SPD n, bemfTheta n, bemfAt n]

section Sensor
variable {t : State} (hn : n < 4) (agree : ∀ f ∈ sensorFields n, t.get f = s.get f)
include agree

theorem flag_congr {f : Fld} (h : f ∈ sensorFields n) : t.flag f = s.flag f := by
  rw [State.flag, State.flag, agree f h]

theorem getF_congr {f : Fld} (h : f ∈ sensorFields n) : t.getF f = s.getF f := by
  rw [State.getF, State.getF, agree f h]

include hn

theorem posPrim_congr : posPrim n t = posPrim n s := by
  simp (disch := (apply atPort n hn; decide)) only [posPrim, agree]

theorem countAngle_congr : countAngle n t = countAngle n s := by
  simp (disch := (apply atPort n hn; decide)) only [countAngle, posPrim_congr hn agree, agree]

theorem sinceEdge_congr (x : Nat) : sinceEdge n x t = sinceEdge n x s := by
  simp (disch := (apply atPort n hn; decide)) only [sinceEdge, agree]

theorem edgeSpeed_congr (x : Nat) : edgeSpeed n x t = edgeSpeed n x s := by
  have speed : ∀ f ∈ [posIntW n, posObsW n], t.getF f = s.getF f := fun f hf =>
    getF_congr agree (by simp [sensorFields] at hf ⊢; tauto)
  have chosen : (if s.get (POS_SPD_STAT_MODE n) = 2 then posIntW n else posObsW n) ∈ [posIntW n, posObsW n] := by split <;> simp
  simp (disch := (apply atPort n hn; decide)) only [edgeSpeed, sinceEdge_congr hn agree, countAngle_congr hn agree, agree, speed _ chosen]

theorem edgeSensor_congr : edgeSensor n t = edgeSensor n s := by
  simp only [edgeSensor, posPrim_congr hn agree]

theorem speedAt_congr (x : Nat) : speedAt n x t = speedAt n x s := by
  simp (disch := (apply atPort n hn; decide)) only [speedAt, edgeSensor_congr hn agree, flag_congr agree, edgeSpeed_congr hn agree, getF_congr agree, agree]

theorem countAt_congr (x : Nat) (interp : Bool) : countAt n x interp t = countAt n x interp s := by
  simp (disch := (apply atPort n hn; decide)) only [countAt, flag_congr agree, edgeSpeed_congr hn agree, sinceEdge_congr hn agree,
    countAngle_congr hn agree, agree]

theorem hallCentre_congr (x : Nat) : hallCentre n x t = hallCentre n x s := by
  simp (disch := (apply atPort n hn; decide)) only [hallCentre, sectorAt, agree]

theorem hallAt_congr (x : Nat) : hallAt n x t = hallAt n x s := by
  simp (disch := (apply atPort n hn; decide)) only [hallAt, flag_congr agree, hallCentre_congr hn agree, edgeSpeed_congr hn agree,
    sinceEdge_congr hn agree, agree]

theorem thetaS_congr (x : Nat) (interp : Bool) : thetaS n x interp t = thetaS n x interp s := by
  simp (disch := (apply atPort n hn; decide)) only [thetaS, resAge, getF_congr agree, posPrim_congr hn agree, countAt_congr hn agree,
    hallAt_congr hn agree, agree]

theorem hallCoarse_congr : hallCoarse n t = hallCoarse n s := by
  simp (disch := (apply atPort n hn; decide)) only [hallCoarse, posPrim_congr hn agree, flag_congr agree]

theorem thetaE_congr (x : Nat) (interp : Bool) : thetaE n x interp t = thetaE n x interp s := by
  simp (disch := (apply atPort n hn; decide)) only [thetaE, hallCoarse_congr hn agree, posPrim_congr hn agree, hallCentre_congr hn agree,
    thetaS_congr hn agree, agree]

theorem thetaNow_congr (x : Nat) (interp : Bool) : thetaNow n x interp t = thetaNow n x interp s := by
  simp (disch := (apply atPort n hn; decide)) only [thetaNow, bemfAngleAt, getF_congr agree, thetaE_congr hn agree, agree]

theorem posOn_congr : posOn n t = posOn n s := by
  simp (disch := (apply atPort n hn; decide)) only [posOn, flag_congr agree]

theorem posGrade_congr : posGrade n t = posGrade n s := by
  simp (disch := (apply atPort n hn; decide)) only [posGrade, posOn_congr hn agree, flag_congr agree, posPrim_congr hn agree, agree]

end Sensor
end Port
end Sys2Proof.Machine
end

section
/-!
O28: the travel counter and its preset, the probe, the edges and the standstill of a speed, and the qualification of the back-EMF observer.
-/

namespace Sys2Proof.Machine
open Reg

section Port
variable {n : Fin 4} {s : State}

/-! ### The probe (R159) -/

theorem exec_probeEdge {r : Bool} (on : s.get (POS_CTRL_PRB_EN n) ≠ 0) (edge : s.get (POS_PRB_CFG_EDGE n) = 2 ∨
    (s.get (POS_PRB_CFG_EDGE n) = 0 ∧ r = true) ∨ (s.get (POS_PRB_CFG_EDGE n) = 1 ∧ r = false)) : exec (.probeEdge n r) s =
      .next (if s.flag (POS_PRB_STAT_FULL n) then s.inc (POS_PRB_STAT_MISS n) else probeLatch n (s.now - s.get (POS_PRB_CFG_FILT n)) s) := by
  have accepted : (s.flag (POS_CTRL_PRB_EN n) && (s.get (POS_PRB_CFG_EDGE n) == 2 || (s.get (POS_PRB_CFG_EDGE n) == 0) == r)) = true := by
    rw [(flag_eq_true_iff s _).2 on]
    obtain both | ⟨rising, rfl⟩ | ⟨falling, rfl⟩ := edge
    · rw [both]; rfl
    · rw [rising]; rfl
    · rw [falling]; rfl
  exact congrArg Host.Outcome.next (if_pos accepted)

theorem probeLatch_get {n : Nat} (hn : n < 4) (t : Nat) (s : State) : (probeLatch n t s).get (POS_PRB_STAT_FULL n) = 1 ∧
    (probeLatch n t s).getWide (POS_PRB_TB_LO_TB n) (POS_PRB_TB_HI_TB n) = t % 2 ^ 64 ∧
    (probeLatch n t s).get (POS_PRB_ANG_ANGLE n) = thetaNow n t true s % 65536 := by
  have stamped : ∀ f ∈ sensorFields n, (s.setWide (POS_PRB_TB_LO_TB n) (POS_PRB_TB_HI_TB n) t).get f = s.get f := by
    have apart : ∀ f ∈ sensorFields n, f.key ≠ (POS_PRB_TB_LO_TB n).key ∧ f.key ≠ (POS_PRB_TB_HI_TB n).key := by apply atPort n hn; decide
    exact fun f hf => State.get_setWide_ne (apart f hf).1 (apart f hf).2 s t
  have apart : (POS_PRB_TB_LO_TB n).key ≠ (POS_PRB_TB_HI_TB n).key := by apply atPort n hn; decide
  simp (disch := (apply atPort n hn; decide)) only [probeLatch, State.getWide, raiseStall_get, State.get_setWide_ne, State.get_set_ne,
    State.get_set_one, true_and]
  exact ⟨State.getWide_setWide apart rfl s t, (State.get_set_same _ _ _).trans (by rw [thetaNow_congr hn stamped]; rfl)⟩

theorem exec_probeRearm (h : bitAt (rewritten s) n = false) : exec (.probeRearm n) s = .next (busOk (s.set (POS_PRB_STAT_FULL n) 0)) :=
  stallWrite_open h fun s => ok (busOk (s.set (POS_PRB_STAT_FULL n) 0))

/-! ### The standstill (R160, R162) -/

theorem exec_stillTimeout (on : s.get (POS_CTRL_EN n) ≠ 0) : exec (.stillTimeout n) s = .next (s.when (stillOver n s) fun s =>
    (s.when (edgeSensor n s) fun s => (s.set (POS_SPD_STAT_MODE n) 0).set (POS_SPD_STAT_VALID n) 1).set (POS_SPD_STAT_STILL n) 1) := by
  have enabled : (posOn n s && stillOver n s) = stillOver n s := by
    rw [posOn, (flag_eq_true_iff s _).2 on, Bool.true_and]
  exact congrArg (fun c => Host.Outcome.next (s.when c _)) enabled

/-- The edge sensor's standstill: no edge for the timeout, and none in this tick. -/
theorem stillTimeout_stops (on : s.get (POS_CTRL_EN n) ≠ 0) (sensor : edgeSensor n s = true)
    (wait : (if posPrim n s = 4 then hallEdgeWaits n s else encoderEdgeWaits n s) = false) (moves : s.get (POS_SPD_STAT_MODE n) ≠ 0)
    (late : s.get (posEdgeAt n) - 1 + 20000 * s.get (POS_SPD_CFG_STILL_TO n) ≤ s.now) : exec (.stillTimeout n) s =
      .next (((s.set (POS_SPD_STAT_MODE n) 0).set (POS_SPD_STAT_VALID n) 1).set (POS_SPD_STAT_STILL n) 1) := by
  have ends : stillOver n s = true := by
    simp only [stillOver, sensor, if_true, wait, Bool.not_false, Bool.and_true, Bool.and_eq_true, bne_iff_ne, ne_eq, moves, not_false_eq_true,
      decide_eq_true_eq, late, and_self]
  rw [exec_stillTimeout on, ends, State.when_true, sensor, State.when_true]

theorem encoder_still (on : s.get (POS_CTRL_EN n) ≠ 0) (prim : s.get (POS_CTRL_PRIM n) = 2) (wait : encoderEdgeWaits n s = false)
    (moves : s.get (POS_SPD_STAT_MODE n) ≠ 0) (late : s.get (posEdgeAt n) - 1 + 20000 * s.get (POS_SPD_CFG_STILL_TO n) ≤ s.now) :
    exec (.stillTimeout n) s = .next (((s.set (POS_SPD_STAT_MODE n) 0).set (POS_SPD_STAT_VALID n) 1).set (POS_SPD_STAT_STILL n) 1) := by
  refine stillTimeout_stops on ?_ ?_ moves late
  · rw [edgeSensor, posPrim, prim]; rfl
  · rw [posPrim, prim]; exact wait

theorem hall_still (on : s.get (POS_CTRL_EN n) ≠ 0) (prim : s.get (POS_CTRL_PRIM n) = 4) (wait : hallEdgeWaits n s = false)
    (moves : s.get (POS_SPD_STAT_MODE n) ≠ 0) (late : s.get (posEdgeAt n) - 1 + 20000 * s.get (POS_SPD_CFG_STILL_TO n) ≤ s.now) :
    exec (.stillTimeout n) s = .next (((s.set (POS_SPD_STAT_MODE n) 0).set (POS_SPD_STAT_VALID n) 1).set (POS_SPD_STAT_STILL n) 1) := by
  refine stillTimeout_stops on ?_ ?_ moves late
  · rw [edgeSensor, posPrim, prim]; rfl
  · rw [posPrim, prim]; exact wait

/-- An encoder's edge of this tick counts instead of the timeout. -/
theorem encoder_moves (on : s.get (POS_CTRL_EN n) ≠ 0) (prim : s.get (POS_CTRL_PRIM n) = 2) (wait : encoderEdgeWaits n s = true) :
    exec (.stillTimeout n) s = .next s := by
  have sensor : edgeSensor n s = true := by rw [edgeSensor, posPrim, prim]; rfl
  have other : ¬posPrim n s = 4 := by rw [posPrim, prim]; decide
  have moves : stillOver n s = false := by
    simp only [stillOver, sensor, if_true, other, if_false, wait, Bool.not_true, Bool.and_false]
  rw [exec_stillTimeout on, moves, State.when_false]

/-- A resolver or SSI sensor stands still after the timeout below the threshold. -/
theorem tracked_still (on : s.get (POS_CTRL_EN n) ≠ 0) (prim : s.get (POS_CTRL_PRIM n) = 1 ∨ s.get (POS_CTRL_PRIM n) = 3)
    (low : s.get (posLowAt n) ≠ 0) (late : s.get (posLowAt n) - 1 + 20000 * s.get (POS_SPD_CFG_STILL_TO n) ≤ s.now) :
    exec (.stillTimeout n) s = .next (s.set (POS_SPD_STAT_STILL n) 1) := by
  have sensor : edgeSensor n s = false := by
    obtain prim | prim := prim <;> rw [edgeSensor, posPrim, prim] <;> rfl
  have ends : stillOver n s = true := by
    simp only [stillOver, sensor, Bool.false_eq_true, if_false, Bool.and_eq_true, bne_iff_ne, ne_eq, low, not_false_eq_true,
      decide_eq_true_eq, late, and_self]
  rw [exec_stillTimeout on, ends, State.when_true, sensor, State.when_false]

/-! ### The back-EMF observer (R164, R166) -/

theorem exec_bemfQualSet (good : s.get (bemfGood n) = 256) (runs : s.get (LOOP_STAT_STATE n) ≠ 0) :
    exec (.bemfQualSet n) s = .next (s.set (POS_BEMF_STAT_QUAL n) 1) := by
  have qualifies : (s.get (bemfGood n) == 256 && loopRuns n s) = true := by
    rw [good, loopRuns, (bne_iff_ne).2 runs]; rfl
  exact congrArg Host.Outcome.next (if_pos qualifies)

theorem bemfClear_get_src (s : State) : (bemfClear n s).get (POS_STAT_SRC n) = s.get (POS_STAT_SRC n) := by
  have hn := n.isLt
  generalize n.val = n at hn
  simp (disch := (apply atPort n hn; decide)) only [bemfClear, State.get_set_ne]

theorem exec_bemfQualClear (bad : s.get (bemfBad n) = 16) (qual : s.get (POS_BEMF_STAT_QUAL n) ≠ 0) :
    exec (.bemfQualClear n) s = .next ((bemfClear n s).when (s.get (POS_STAT_SRC n) == 1) fun s =>
      raiseStallFault n 3 0x0B .stallSafe ((s.set (POS_STAT_SRC n) 2).set (POS_ANG_QUAL n) 0)) := by
  have unqualifies : (s.get (bemfBad n) == 16 && s.flag (POS_BEMF_STAT_QUAL n)) = true := by
    rw [bad, (flag_eq_true_iff s _).2 qual]; rfl
  rw [← bemfClear_get_src]
  exact congrArg Host.Outcome.next (if_pos unqualifies)

/-! ### The preset (R158) -/

theorem exec_travelPreset {hi : BitVec 32} (h : bitAt (rewritten s) n = false) :
    exec (.travelPreset n hi) s = .next (travelPreset n hi.toNat s) :=
  stallWrite_open h fun s => ok (travelPreset n hi.toNat s)

end Port

/-- Settles O28: a movement of the counter, its preset, the probe, the edges of a speed, the standstill, and the observer's qualification. -/
theorem travelStopsAtLimits : Obligations.TravelStopsAtLimits := by
  refine ⟨?moves, ?preset, ?probe, fun n s => exec_probeRearm, ?edges, ?still, fun n s => exec_bemfQualSet, ?qualClear⟩
  case moves =>
    intro n d s hn hd limits
    obtain ⟨atMax, atMin⟩ := travelMove_limits hn hd s
    refine ⟨(travel_travelMove hn hd s).trans (travelAfter_clamped limits), ?_, ?_⟩
    · rw [atMax, Bool.toNat_eq_one, decide_eq_true_iff]
    · rw [atMin, Bool.toNat_eq_one, decide_eq_true_iff]
  case preset =>
    intro n hi s h
    refine ⟨fun lo le still => ⟨?_, travel_travelLoaded n.isLt hi.toNat s⟩, fun lo le moved => ?_, fun outside => ?_⟩
    · rw [exec_travelPreset h, travelPreset_within n.isLt ⟨lo, le⟩, if_neg still]
      rfl
    · rw [exec_travelPreset h, travelPreset_within n.isLt ⟨lo, le⟩, if_pos moved]
      rfl
    · rw [exec_travelPreset h, travelPreset_outside outside]
  case probe =>
    intro n r s on edge
    rw [exec_probeEdge on edge]
    refine ⟨fun full => ?_, fun empty => ?_⟩
    · rw [if_pos ((flag_eq_true_iff s _).2 full)]
    · rw [(flag_eq_false_iff s _).2 empty, if_neg Bool.false_ne_true]
      obtain ⟨full, stamp, angle⟩ := probeLatch_get n.isLt (s.now - s.get (POS_PRB_CFG_FILT n)) s
      exact ⟨_, rfl, full, stamp.trans (Nat.mod_eq_of_lt (lt_of_le_of_lt (Nat.sub_le _ _) s.now_lt)), angle⟩
  case edges =>
    intro n t dir s hn
    refine ⟨?_, fun starts => ?_, fun moves same => ?_⟩
    · by_cases h : s.get (POS_SPD_STAT_MODE n) = 0 ∨ s.flag (POS_SPD_STAT_DIR n) ≠ dir
      · rw [speedEdge_starts hn h]
        simp (disch := (apply atPort n hn; decide)) only [State.get_setB_ne, State.get_set_ne, State.get_set_zero]
      · obtain ⟨moves, same⟩ := not_or.1 h
        exact (speedEdge_counts hn moves (not_not.1 same) t).1
    · rw [speedEdge_starts hn starts]
      simp (disch := (apply atPort n hn; decide)) only [State.flag, State.get_setB_ne, State.get_setB_same, State.get_set_ne,
        State.get_set_same]
      exact ⟨rfl, by cases dir <;> rfl, rfl⟩
    · obtain ⟨-, valid, mode⟩ := speedEdge_counts hn moves same t
      exact ⟨valid, mode⟩
  case still => exact fun n s on => ⟨encoder_still on, hall_still on, encoder_moves on, tracked_still on⟩
  case qualClear =>
    intro n s bad qual
    rw [exec_bemfQualClear bad qual]
    refine ⟨fun unused => ?_, fun used => ?_⟩
    · rw [beq_eq_false_iff_ne.2 unused]; rfl
    · rw [used, beq_self_eq_true, State.when_true]; rfl

end Sys2Proof.Machine
end

section
/-!
SUPPORT. A Stall's entry into its safe state (R274) leaves the own fields of the position ports: no part of it writes one of them.
-/

namespace Sys2Proof.Machine
open Reg

/-- Addresses outside the own fields of the position ports. -/
def besidePort (a : Nat) : Bool := decide (a < 2 ^ 40) || decide (a / 2 ^ 30 % 64 ≠ 3)

theorem besidePort_iff (a : Nat) : besidePort a = true ↔ a < 2 ^ 40 ∨ a / 2 ^ 30 % 64 ≠ 3 := by
  rw [besidePort, Bool.or_eq_true, decide_eq_true_iff, decide_eq_true_iff]

theorem besidePort_of_reported (a : Nat) (h : reported a = true) : besidePort a = true := by
  simp only [reported, Bool.or_eq_true, Bool.and_eq_true, decide_eq_true_eq, beq_iff_eq] at h
  rw [besidePort_iff]
  omega

/-- The own fields of every other block stand beside those of the ports. -/
theorem besidePort_ix {blk id i : Nat} (other : blk < 64 ∧ blk ≠ 3) (hid : id < 4096) (hi : i < 0x40000) (dom w r : Nat) :
    besidePort ((ix dom blk id i w r).key / 32) = true := by
  obtain ⟨small, other⟩ := other
  rw [besidePort_iff]
  simp only [Fld.key, ix]
  omega

/-- What holds of the four Stalls and of the number after them, a partner's number at most, holds of Stall `n`. -/
theorem atStall {P : Nat → Prop} (n : Nat) (hn : n < 5) (h : ∀ k < 5, P k) : P n := h n hn

section Kept
variable {a s : State} {n i : Nat}

theorem WritesOnly.event (h : WritesOnly besidePort a s) (n e : Nat) : WritesOnly besidePort a (raiseStall n e s) :=
  h.reports besidePort_of_reported (raiseStall_reports n e s)

theorem WritesOnly.recorded (h : WritesOnly besidePort a s) (code : Nat) (c : Cls) : WritesOnly besidePort a (recordFault code c s) :=
  h.reports besidePort_of_reported (recordFault_reports code c s)

/-! ### The output stage -/

theorem linkBlk_other (l : Nat) : linkBlk l < 64 ∧ linkBlk l ≠ 3 := by
  unfold linkBlk; split <;> decide

theorem reinEdge_keepsPort (h : WritesOnly besidePort a s) {l kind : Nat} (hl : l < 15) (hk : kind < 4) (t : Nat) :
    WritesOnly besidePort a (reinEdge l kind t s) := by
  have early : ∀ m < 5, besidePort ((PWM_GP_STAT_PREV m).key / 32) = true := by decide
  have at_ : ∀ j < 4, besidePort ((reinEAt l (4 * kind + j)).key / 32) = true := fun j hj =>
    besidePort_ix (linkBlk_other l) (by decide) (by omega) _ _ _
  have info : ∀ j < 4, besidePort ((reinEInfo l (4 * kind + j)).key / 32) = true := fun j hj =>
    besidePort_ix (linkBlk_other l) (by decide) (by omega) _ _ _
  have stamp : besidePort ((reinVonStamp l (kind / 2)).key / 32) = true := besidePort_ix (linkBlk_other l) (by decide) (by omega) _ _ _
  have sample : besidePort ((reinVsEnd l (kind / 2)).key / 32) = true := besidePort_ix (linkBlk_other l) (by decide) (by omega) _ _ _
  unfold reinEdge
  refine WritesOnly.when (((WritesOnly.each (h.when fun h => h.set (early _ (by omega)) _) fun j hj t ht => ?_).set (at_ 0 (by decide)) _).set
    (info 0 (by decide)) _) fun h => (h.set stamp _).set sample _
  have small : j < 4 := by simp at hj; omega
  exact (ht.set (at_ j small) _).set (info j small) _

theorem callOn_keepsPort (h : WritesOnly besidePort a s) (hi : i < 6) (t : Nat) : WritesOnly besidePort a (callOn n i t s) :=
  h.when fun h => h.set (besidePort_ix (by decide) (by decide) (by omega) _ _ _) _

section Line
variable (hn : n < 5)
include hn

theorem setLine_keepsPort (h : WritesOnly besidePort a s) (hi : i < 6) (t : Nat) (on : Bool) : WritesOnly besidePort a (setLine n i t on s) := by
  have line : besidePort ((PWM_LINES_LINE n).key / 32) = true := by apply atStall n hn; decide
  have edge : 2 * (i % 2) + (!on).toNat < 4 := by have := Bool.toNat_lt (!on); omega
  have moved := reinEdge_keepsPort (h.set line (putBit (s.get (PWM_LINES_LINE n)) i on)) (l := 3 * n + i / 2) (by omega) edge t
  unfold setLine
  refine WritesOnly.cond h (WritesOnly.cond ?_ ?_)
  · exact moved.set (besidePort_ix (by decide) (by decide) (by omega) _ _ _) _
  · exact moved.set (besidePort_ix (by decide) (by decide) (by omega) _ _ _) _

theorem suppress_keepsPort (h : WritesOnly besidePort a s) (i : Nat) : WritesOnly besidePort a (suppress n i s) := by
  have count : besidePort ((PWM_SHOOT_STAT_COUNT n).key / 32) = true := by apply atStall n hn; decide
  have sup : besidePort ((pwmSup n).key / 32) = true := by apply atStall n hn; decide
  exact (((h.set sup _).set count _).event n 3).recorded _ _

theorem turnOn_keepsPort (h : WritesOnly besidePort a s) (hi : i < 6) (p t : Nat) : WritesOnly besidePort a (turnOn n i p t s) :=
  h.when fun h => setLine_keepsPort hn h hi _ _

theorem turnOff_keepsPort (h : WritesOnly besidePort a s) (hi : i < 6) (t : Nat) : WritesOnly besidePort a (turnOff n i t s) := by
  have sup : besidePort ((pwmSup n).key / 32) = true := by apply atStall n hn; decide
  exact ((setLine_keepsPort hn h hi t false).set sup _).set (besidePort_ix (by decide) (by decide) (by omega) _ _ _) 0

theorem shoot_keepsPort (h : WritesOnly besidePort a s) {b c : Nat} (hb : b < 6) (hc : c < 6) (t : Nat) :
    WritesOnly besidePort a (shoot n b c t s) := by
  unfold shoot
  refine WritesOnly.cond ?_ (WritesOnly.cond ?_ ?_)
  · exact suppress_keepsPort hn (suppress_keepsPort hn (setLine_keepsPort hn (setLine_keepsPort hn h hb t false) hc t false) b) c
  · exact turnOn_keepsPort hn (suppress_keepsPort hn h b) hc b t
  · exact turnOn_keepsPort hn (suppress_keepsPort hn h c) hb c t

theorem stageHalf_keepsPort (h : WritesOnly besidePort a s) {k : Nat} (hk : k < 3) (t want : Nat) :
    WritesOnly besidePort a (stageHalf n t want k s) := by
  have called := h.each (l := [2 * k, 2 * k + 1]) (f := fun i s => if bitAt want i then callOn n i t s else turnOff n i t s) fun i hi u hu => by
    have line : i < 6 := by simp at hi; omega
    exact WritesOnly.cond (callOn_keepsPort hu line t) (turnOff_keepsPort hn hu line t)
  unfold stageHalf
  refine WritesOnly.cond ?_ (WritesOnly.cond ?_ (WritesOnly.cond ?_ called))
  · exact shoot_keepsPort hn called (by omega) (by omega) t
  · exact turnOn_keepsPort hn called (by omega) _ t
  · exact turnOn_keepsPort hn called (by omega) _ t

theorem refreshLines_keepsPort (h : WritesOnly besidePort a s) (t : Nat) : WritesOnly besidePort a (refreshLines n t s) :=
  h.each fun k hk u hu => stageHalf_keepsPort hn hu (by simp at hk; omega) t _

/-! ### The decision table -/

theorem switchUpdate_keepsPort (h : WritesOnly besidePort a s) : WritesOnly besidePort a (switchUpdate n s) := by
  have switches : besidePort ((PROT_SW_STAT_SW n).key / 32) = true := by apply atStall n hn; decide
  exact h.set switches _

theorem bandUpdate_keepsPort (h : WritesOnly besidePort a s) (entry : Bool) : WritesOnly besidePort a (bandUpdate n entry s) := by
  have band : besidePort ((PROT_STAT_SPD_HIGH n).key / 32) = true := by apply atStall n hn; decide
  unfold bandUpdate
  split
  · exact h.set band _
  · exact h

theorem takeRow_keepsPort (h : WritesOnly besidePort a s) (row : Nat) : WritesOnly besidePort a (takeRow row n s) := by
  have status : ∀ f ∈ [PROT_STAT_ROW n, PROT_STAT_SAFE n, PROT_STAT_CHOP n, PROT_STAT_CTC_REQ n, PROT_STAT_PROV n, protRowAt n],
      besidePort (f.key / 32) = true := by apply atStall n hn; decide
  simp only [List.forall_mem_cons] at status
  obtain ⟨rowSet, safe, chop, opens, prov, since, -⟩ := status
  unfold takeRow
  refine WritesOnly.cond h (refreshLines_keepsPort hn (WritesOnly.when (WritesOnly.when ?taken fun h => h.set since _) fun h => h.event n _) _)
  exact ((((h.set rowSet _).set safe _).set chop _).set opens _).set prov _

theorem provisional_keepsPort (h : WritesOnly besidePort a s) : WritesOnly besidePort a (provisional n s) := by
  have prov : besidePort ((PROT_STAT_PROV n).key / 32) = true := by apply atStall n hn; decide
  exact refreshLines_keepsPort hn (h.when fun h => h.set prov _) _

theorem loopHold_keepsPort (h : WritesOnly besidePort a s) : WritesOnly besidePort a (loopHold n s) := by
  have state : besidePort ((LOOP_STAT_STATE n).key / 32) = true := by apply atStall n hn; decide
  have integrators : ∀ f ∈ [LOOP_INT_D_I n, LOOP_INT_Q_I n, LOOP_INT_W_I n, loopRes n 4, loopRes n 5, loopRes n 6],
      besidePort (f.key / 32) = true := by apply atStall n hn; decide
  simp only [List.forall_mem_cons] at integrators
  obtain ⟨d, q, w, d', q', w', -⟩ := integrators
  unfold loopHold
  exact WritesOnly.when (h.when fun h => h.set state _) fun h => (((((h.set d 0).set q 0).set w 0).set d' 0).set q' 0).set w' 0

theorem remountRelease_keepsPort (h : WritesOnly besidePort a s) : WritesOnly besidePort a (remountRelease n s) := by
  have engine : besidePort ((LOOP_STAT_ENG_R n).key / 32) = true := by apply atStall n hn; decide
  unfold remountRelease
  refine WritesOnly.cond (WritesOnly.reports (WritesOnly.when ?held fun h => ?ends) besidePort_of_reported (raiseEvent_reports _ _)) h
  case held => exact (((h.set (f := REMOUNT_STAT_HELD) (by decide) 0).set (f := REMOUNT_STAT_PAIRED) (by decide) 0).set
    (f := REMOUNT_STAT_BUSY) (by decide) 0).set engine 0
  case ends => exact (h.set (f := REMOUNT_CTRL_EN) (by decide) 0).set (f := remEnPend) (by decide) 0

theorem windingFail_keepsPort (h : WritesOnly besidePort a s) : WritesOnly besidePort a (windingFail n s) := by
  have path : besidePort ((PROT_DIS_STAT_PATH n).key / 32) = true := by apply atStall n hn; decide
  have status : besidePort ((PROT_DIS_CMD_STATUS n).key / 32) = true := by apply atStall n hn; decide
  exact h.when fun h => ((h.set path 0).when fun h => h.set status _).recorded _ _

theorem enterOne_keepsPort (h : WritesOnly besidePort a s) (code : Nat) : WritesOnly besidePort a (enterOne n code s) := by
  have record : ∀ f ∈ [PROT_SAFE_CAUSE_CODE n, PROT_SAFE_TB_LO_TB n, PROT_SAFE_TB_HI_TB n, PWM_STAT_STATE n, PROT_STAT_PROV n, PROT_STAT_ROW n,
      protRelPend n], besidePort (f.key / 32) = true := by apply atStall n hn; decide
  simp only [List.forall_mem_cons] at record
  obtain ⟨cause, lo, hi, state, prov, row, pend, -⟩ := record
  have entered := (((((h.set cause code).set lo s.now).set hi (s.now / 2 ^ 32)).set state 3).set prov 1).set row 0
  have held := (loopHold_keepsPort hn (bandUpdate_keepsPort hn entered true)).event n 0x1A
  exact refreshLines_keepsPort hn (windingFail_keepsPort hn ((held.when fun h => remountRelease_keepsPort hn h).set pend 0)) _

end Line

theorem ctcUpdate_keepsPort (h : WritesOnly besidePort a s) : WritesOnly besidePort a (ctcUpdate s) := by
  have source : ∀ i ∈ [0, 1, 2, 3, 4], besidePort ((ctcReqAt i).key / 32) = true := by decide
  have zero : ∀ k ∈ [0, 1, 2, 3], besidePort ((ctcZero k).key / 32) = true := by decide
  have asked : ∀ t v, WritesOnly besidePort a t → WritesOnly besidePort a (t.set CTC_STAT_REQ v) := fun t v ht => ht.set (by decide) v
  have sources := h.each (l := [0, 1, 2, 3, 4]) (f := fun i s => if ctcSource i s then s.when (s.get (ctcReqAt i) == 0) fun s =>
      s.set (ctcReqAt i) (s.now + 1) else s.set (ctcReqAt i) 0) fun i hi t ht =>
    WritesOnly.cond (ht.when fun h => h.set (source i hi) _) (ht.set (source i hi) 0)
  unfold ctcUpdate
  exact WritesOnly.cond ((asked _ _ sources).each fun k hk t ht => ht.set (zero k hk) 0) (asked _ _ sources)

theorem pairList_lt (hn : n < 4) {p : Nat} (hp : p ∈ pairList n s) : p < 5 := by
  unfold pairList at hp
  split at hp
  · simp at hp; omega
  · split at hp <;> simp at hp <;> omega

theorem reDecide_keepsPort (hn : n < 4) (h : WritesOnly besidePort a s) : WritesOnly besidePort a (reDecide n s) := by
  have switched := h.each (l := pairList n s) fun p hp t ht => switchUpdate_keepsPort (pairList_lt hn hp) ht
  have band : ∀ p < 5, besidePort ((protBandRow p).key / 32) = true := by decide
  unfold reDecide
  refine WritesOnly.cond switched (WritesOnly.cond ?waits (WritesOnly.cond (switched.when fun h => ?resumes) (ctcUpdate_keepsPort ?takes)))
  case waits => exact switched.each fun p hp t ht => provisional_keepsPort (pairList_lt hn hp) ht
  case resumes => exact h.each fun p hp t ht => takeRow_keepsPort (pairList_lt hn hp) ht _
  case takes => exact switched.each fun p hp t ht => takeRow_keepsPort (pairList_lt hn hp) (ht.set (band p (pairList_lt hn hp)) _) _

theorem partner_lt (hn : n < 4) {p : Nat} (hp : partner n s = some p) : p < 5 := by
  unfold partner at hp
  split at hp
  · cases hp; omega
  · split at hp <;> cases hp; omega

theorem stallSafe_keepsPort (hn : n < 4) (h : WritesOnly besidePort a s) (code : Nat) : WritesOnly besidePort a (stallSafe n code s) := by
  have pend : ∀ p < 5, besidePort ((protRelPend p).key / 32) = true := by decide
  unfold stallSafe
  extract_lets live entered paired
  have enters : WritesOnly besidePort a entered := by
    refine WritesOnly.cond (enterOne_keepsPort (by omega) h code) (h.when fun h => h.each fun p hp t ht => ?_)
    exact bandUpdate_keepsPort (pairList_lt hn hp) (ht.set (pend p (pairList_lt hn hp)) 0) false
  have pairs : WritesOnly besidePort a paired := by
    unfold paired
    split
    · rename_i p hp
      exact WritesOnly.cond (enterOne_keepsPort (partner_lt hn hp) (enters.recorded _ _) _) enters
    · exact enters
  exact reDecide_keepsPort hn pairs

theorem raiseStallSafe_keepsPort (hn : n < 4) (h : WritesOnly besidePort a s) {blk cause : Nat} (hb : blk < 16) (hc : cause < 256) :
    WritesOnly besidePort a (raiseStallFault n blk cause .stallSafe s) := by
  have stall : stallCode n blk cause / 0x1000 - 1 = n := by unfold stallCode; omega
  unfold raiseStallFault raiseFault
  refine WritesOnly.cond ?_ (h.recorded _ _)
  rw [stall]
  exact stallSafe_keepsPort hn (h.recorded _ _) _

/-! ### A failed sensor (R165) -/

theorem sensorFailed_keepsPort (hn : n < 4) (h : WritesOnly besidePort a s) {cause : Nat} (hc : cause < 256) :
    WritesOnly besidePort a (sensorFailed n cause s) := by
  have register : ∀ f ∈ [POS_STAT_SFAIL n, POS_STAT_SRC n, POS_ANG_QUAL n], besidePort (f.key / 32) = true := by apply atPort n hn; decide
  simp only [List.forall_mem_cons] at register
  obtain ⟨failed, source, grade, -⟩ := register
  have raised := (h.set failed 1).event n 0x38
  unfold sensorFailed
  refine WritesOnly.cond h (WritesOnly.cond ?rides ?stops)
  case rides => exact ((raised.set source 1).event n 0x3D).reports besidePort_of_reported (raiseStallFault_ride_reports _ _ _ _)
  case stops => exact raiseStallSafe_keepsPort hn ((raised.set source 2).set grade 0) (by decide) hc

end Kept
end Sys2Proof.Machine
end

section
/-!
SUPPORT. Encoder edges and the index (R139 to R144): how an edge counts, what an illegal transition leaves, and how an index is judged.
-/

namespace Sys2Proof.Machine
open Reg

section Encoder
variable {n : Nat} {s : State}

/-! ### Counts and illegal transitions (R139, R140) -/

/-- The count after one quadrature step, modulo `CPR` (R139). -/
def countAfter (n : Nat) (up : Bool) (s : State) : Nat :=
  if up then (s.get (POS_ENC_COUNT_COUNT n) + 1) % s.get (POS_ENC_CFG_CPR n)
  else (s.get (POS_ENC_COUNT_COUNT n) + s.get (POS_ENC_CFG_CPR n) - 1) % s.get (POS_ENC_CFG_CPR n)

theorem countAfter_lt (h : s.get (POS_ENC_COUNT_COUNT n) < s.get (POS_ENC_CFG_CPR n)) (up : Bool) : countAfter n up s < 2 ^ 20 := by
  have turn : s.get (POS_ENC_CFG_CPR n) < 2 ^ 20 := State.get_lt s (POS_ENC_CFG_CPR n)
  have inTurn : ∀ x, x % s.get (POS_ENC_CFG_CPR n) < 2 ^ 20 := fun x => lt_trans (Nat.mod_lt x (by omega)) turn
  unfold countAfter
  split <;> exact inTurn _

/-- The step of a count leaves what neither the travel counter nor the speed is. -/
theorem encCount_get (hn : n < 4) {f : Fld} (hs : speedWritten n (f.key / 32) = false) (ht : travelWritten n (f.key / 32) = false) (t : Nat)
    (up : Bool) (s : State) : (encCount n t up s).get f =
      ((s.set (posEdges n) (s.get (posEdges n) + 1)).set (POS_ENC_COUNT_COUNT n) (countAfter n up s)).get f :=
  (speedEdge_get hn hs _ _ _).trans (travelMove_get hn ht _ _)

theorem encCount_count (hn : n < 4) (h : s.get (POS_ENC_COUNT_COUNT n) < s.get (POS_ENC_CFG_CPR n)) (t : Nat) (up : Bool) :
    (encCount n t up s).get (POS_ENC_COUNT_COUNT n) = countAfter n up s := by
  rw [encCount_get hn (by apply atPort n hn; decide) (by apply atPort n hn; decide)]
  exact State.get_set_of_lt (countAfter_lt h up) _

theorem encCount_pend (hn : n < 4) (t : Nat) (up : Bool) (s : State) : (encCount n t up s).get (posIdxPend n) = s.get (posIdxPend n) := by
  rw [encCount_get hn (by apply atPort n hn; decide) (by apply atPort n hn; decide)]
  simp (disch := (apply atPort n hn; decide)) only [State.get_set_ne]

/-- An illegal transition counted: its number and place among the accepted edges (R140). -/
def illegalNoted (n : Nat) (s : State) : State :=
  let s := raiseStall n 0x3A (s.inc (POS_ENC_ILL_ILLEGAL n))
  ((s.set (posEdges n) (s.get (posEdges n) + 2)).set (posIllAt n (s.get (posIllN n) % 1024)) (s.get (posEdges n) + 2 + 1)).set (posIllN n)
    (s.get (posIllN n) + 1)



theorem encIllegal_below (hn : n < 4) (h : s.get (posIllN n) < s.get (POS_ENC_ILL_LIMIT n)) : encIllegal n s = illegalNoted n s := by
  refine if_neg fun k => absurd k.1 (Nat.not_le.2 ?_)
  simpa (disch := (apply atPort n hn; decide)) only [raiseStall_get, State.get_inc_ne] using h

theorem illegalNoted_get (hn : n < 4) (s : State) :
    (illegalNoted n s).get (POS_ENC_ILL_ILLEGAL n) = clampU (POS_ENC_ILL_ILLEGAL n).width (s.get (POS_ENC_ILL_ILLEGAL n) + 1) ∧
    (illegalNoted n s).get (POS_ENC_COUNT_COUNT n) = s.get (POS_ENC_COUNT_COUNT n) ∧
    (illegalNoted n s).get (POS_STAT_SFAIL n) = s.get (POS_STAT_SFAIL n) := by
  have ring : ∀ f ∈ [POS_ENC_ILL_ILLEGAL n, POS_ENC_COUNT_COUNT n, POS_STAT_SFAIL n], f.key < 2 ^ 45 := by apply atPort n hn; decide
  simp only [List.forall_mem_cons] at ring
  obtain ⟨illegal, count, failed, -⟩ := ring
  simp (disch := (apply atPort n hn; decide)) only [illegalNoted, State.get_set_ne _ (posIllN n), posIllAt, State.get_set_ix illegal,
    State.get_set_ix count, State.get_set_ix failed, State.get_set_ne _ (posEdges n), raiseStall_get, State.get_inc_ne, State.get_inc_same, and_self]

/-- An illegal transition, one that fails the sensor too, leaves the index that waits. -/
theorem encIllegal_pend (hn : n < 4) (s : State) : (encIllegal n s).get (posIdxPend n) = s.get (posIdxPend n) := by
  have own : besidePort ((posIdxPend n).key / 32) = false := by apply atPort n hn; decide
  have noted : (illegalNoted n s).get (posIdxPend n) = s.get (posIdxPend n) := by
    have ring : ∀ k, (posIdxPend n).key ≠ (posIllAt n (k % 1024)).key := fun k => by simp only [Fld.key, posIdxPend, posIllAt, ix]; omega
    simp (disch := (apply atPort n hn; decide)) only [illegalNoted, State.get_set_ne _ (posIllN n), State.get_set_ne _ (posEdges n),
      State.get_set_ne _ _ _ _ (ring _), raiseStall_get, State.get_inc_ne]
  have judged : ∀ c : Prop, [Decidable c] → (if c then sensorFailed n 4 (illegalNoted n s) else illegalNoted n s).get (posIdxPend n) =
      (illegalNoted n s).get (posIdxPend n) := fun c _ => by
    split
    · exact (sensorFailed_keepsPort hn (WritesOnly.refl _ _) (by decide)).get _ own
    · rfl
  exact (judged _).trans noted

/-! ### An edge of A or B (R139, R140) -/

theorem quad_lt (a b : Bool) : quad a b < 4 := by
  cases a <;> cases b <;> decide

/-- The accepted levels of A and B. -/
def levelsTaken (n : Nat) (a b : Bool) (s : State) : State := (s.setB (posA n) a).setB (posB n) b

theorem levelsTaken_get {f : Fld} (ha : f.key ≠ (posA n).key) (hb : f.key ≠ (posB n).key) (a b : Bool) (s : State) :
    (levelsTaken n a b s).get f = s.get f :=
  (State.get_setB_ne hb _ _).trans (State.get_setB_ne ha _ _)

theorem indexFollow_idle (h : s.get (posIdxPend n) = 0) : indexFollow n s = s := by
  rw [indexFollow, (flag_eq_false_iff s _).2 h, Bool.false_and, State.when_false]

/-- Steps of the counting sequence from the accepted levels to the new ones. -/
def quadSteps (n : Nat) (a b : Bool) (s : State) : Nat := (quad a b + 4 - quad (s.flag (posA n)) (s.flag (posB n))) % 4

theorem quadSteps_iff (a b : Bool) {k : Nat} (hk : k < 4) :
    quadSteps n a b s = k ↔ quad a b = (quad (s.flag (posA n)) (s.flag (posB n)) + k) % 4 := by
  have := quad_lt a b
  have := quad_lt (s.flag (posA n)) (s.flag (posB n))
  unfold quadSteps
  omega

/-- What an edge of an encoder in use comes to, before an index of its tick. -/
theorem encoderEdge_eq (hn : n < 4) (on : s.get (POS_CTRL_EN n) ≠ 0) (prim : s.get (POS_CTRL_PRIM n) = 2) (a b : Bool) :
    encoderEdge n a b s = indexFollow n (if quadSteps n a b s = 0 then levelsTaken n a b s
      else if quadSteps n a b s = 2 then encIllegal n (levelsTaken n a b s)
      else encCount n (s.now - s.get (POS_ENC_CFG_FILT n)) ((quadSteps n a b s == 1) != s.flag (POS_ENC_CFG_INV n)) (levelsTaken n a b s)) := by
  have kept : ∀ f ∈ [POS_CTRL_EN n, POS_CTRL_PRIM n, POS_ENC_CFG_FILT n, POS_ENC_CFG_INV n],
      (levelsTaken n a b s).get f = s.get f := by
    have apart : ∀ f ∈ [POS_CTRL_EN n, POS_CTRL_PRIM n, POS_ENC_CFG_FILT n, POS_ENC_CFG_INV n],
      f.key ≠ (posA n).key ∧ f.key ≠ (posB n).key := by apply atPort n hn; decide
    exact fun f hf => levelsTaken_get (apart f hf).1 (apart f hf).2 a b s
  simp only [List.forall_mem_cons] at kept
  obtain ⟨keptOn, keptPrim, filter, inv, -⟩ := kept
  have used : (posOn n (levelsTaken n a b s) && posPrim n (levelsTaken n a b s) == 2) = true := by
    rw [posOn, State.flag, keptOn, posPrim, keptPrim, prim, bne_iff_ne.2 on]; rfl
  rw [← filter, State.flag, ← inv]
  exact if_pos used

theorem levelsTaken_count (hn : n < 4) (a b up : Bool) (s : State) : countAfter n up (levelsTaken n a b s) = countAfter n up s := by
  simp (disch := (apply atPort n hn; decide)) only [countAfter, levelsTaken_get]

/-- One step of the sequence counts in its direction, turned round by `INV`. -/
theorem encoderEdge_counts (hn : n < 4) (on : s.get (POS_CTRL_EN n) ≠ 0) (prim : s.get (POS_CTRL_PRIM n) = 2)
    (turn : s.get (POS_ENC_COUNT_COUNT n) < s.get (POS_ENC_CFG_CPR n)) (idle : s.get (posIdxPend n) = 0) {a b : Bool}
    (step : quadSteps n a b s = 1 ∨ quadSteps n a b s = 3) :
    (encoderEdge n a b s).get (POS_ENC_COUNT_COUNT n) = countAfter n ((quadSteps n a b s == 1) != s.flag (POS_ENC_CFG_INV n)) s := by
  have turned : (levelsTaken n a b s).get (POS_ENC_COUNT_COUNT n) < (levelsTaken n a b s).get (POS_ENC_CFG_CPR n) := by
    simpa (disch := (apply atPort n hn; decide)) only [levelsTaken_get] using turn
  rw [encoderEdge_eq hn on prim, if_neg (by omega), if_neg (by omega), indexFollow_idle, encCount_count hn turned, levelsTaken_count hn]
  rw [encCount_pend hn]
  simpa (disch := (apply atPort n hn; decide)) only [levelsTaken_get] using idle

theorem encoderEdge_illegal (hn : n < 4) (on : s.get (POS_CTRL_EN n) ≠ 0) (prim : s.get (POS_CTRL_PRIM n) = 2) (idle : s.get (posIdxPend n) = 0)
    {a b : Bool} (step : quadSteps n a b s = 2) : encoderEdge n a b s = encIllegal n (levelsTaken n a b s) := by
  rw [encoderEdge_eq hn on prim, if_neg (by omega), if_pos step, indexFollow_idle]
  rw [encIllegal_pend hn]
  simpa (disch := (apply atPort n hn; decide)) only [levelsTaken_get] using idle

theorem encoderEdge_none (hn : n < 4) (on : s.get (POS_CTRL_EN n) ≠ 0) (prim : s.get (POS_CTRL_PRIM n) = 2) (idle : s.get (posIdxPend n) = 0)
    {a b : Bool} (step : quadSteps n a b s = 0) : encoderEdge n a b s = levelsTaken n a b s := by
  rw [encoderEdge_eq hn on prim, if_pos step, indexFollow_idle]
  simpa (disch := (apply atPort n hn; decide)) only [levelsTaken_get] using idle

/-! ### The index (R142 to R144) -/

theorem exec_index {n : Fin 4} (on : s.get (POS_CTRL_EN n) ≠ 0) (prim : s.get (POS_CTRL_PRIM n) = 2)
    (gate : s.get (POS_ENC_CFG_ZGATE n) = 0 ∨ (s.get (posA n) ≠ 0 ∧ s.get (posB n) ≠ 0)) :
    exec (.index n) s = .next (if encoderEdgeWaits n s then s.set (posIdxPend n) 1 else indexEdge n s) := by
  have accepted : (posOn n s && posPrim n s == 2 && (!s.flag (POS_ENC_CFG_ZGATE n) || (s.flag (posA n) && s.flag (posB n)))) = true := by
    rw [posOn, (flag_eq_true_iff s _).2 on, posPrim, prim]
    obtain open_ | ⟨a, b⟩ := gate
    · rw [(flag_eq_false_iff s _).2 open_]; rfl
    · rw [(flag_eq_true_iff s _).2 a, (flag_eq_true_iff s _).2 b, Bool.and_self, Bool.or_true]; rfl
  exact congrArg Host.Outcome.next (if_pos accepted)

/-- How far an index finds the count from `IDXPOS` (R143). -/
def indexDeviation (n : Nat) (s : State) : Int :=
  ((s.get (POS_ENC_COUNT_COUNT n) : Int) - s.get (POS_ENC_IDXPOS_POS n) + s.get (POS_ENC_CFG_CPR n) / 2) % s.get (POS_ENC_CFG_CPR n) -
    s.get (POS_ENC_CFG_CPR n) / 2

theorem indexJudge_matches (h : indexDeviation n s = 0) : indexJudge n s = s.set (posMismRun n) 0 :=
  if_pos h

theorem indexJudge_corrects (h : indexDeviation n s ≠ 0) (near : (indexDeviation n s).natAbs ≤ s.get (POS_ENC_IDX_IDX_TOL n)) :
    indexJudge n s = travelMove n (-indexDeviation n s)
      (((s.set (POS_ENC_COUNT_COUNT n) (s.get (POS_ENC_IDXPOS_POS n))).inc (POS_IDX_STAT_CORR n)).set (posMismRun n) 0) :=
  (if_neg h).trans (if_pos near)

/-- A mismatch noted and reported (R143). -/
def mismatchNoted (n : Nat) (s : State) : State :=
  raiseStallFault n 3 5 .ride (raiseStall n 0x39
    ((((s.seti (POS_IDX_DEV_DEV n) (indexDeviation n s)).inc (POS_IDX_STAT_MISM n)).inc (posMismRun n)).set (posMismSeen n) 1))

theorem mismatchNoted_run (hn : n < 4) (s : State) : (mismatchNoted n s).get (posMismRun n) = min (s.get (posMismRun n) + 1) 3 := by
  simp (disch := (apply atPort n hn; decide)) only [mismatchNoted, raiseRide_get, raiseStall_get, State.get_set_ne, State.get_inc_same,
    State.get_inc_ne, State.get_seti_ne]
  rfl

/-- The first two mismatches in a row ride. -/
theorem indexJudge_mismatches (hn : n < 4) (h : indexDeviation n s ≠ 0) (beyond : s.get (POS_ENC_IDX_IDX_TOL n) < (indexDeviation n s).natAbs)
    (few : s.get (posMismRun n) < 2) : indexJudge n s = mismatchNoted n s := by
  have third : decide (3 ≤ (mismatchNoted n s).get (posMismRun n)) = false := by
    rw [mismatchNoted_run hn, decide_eq_false_iff_not]; omega
  have judged : indexJudge n s = (mismatchNoted n s).when (decide (3 ≤ (mismatchNoted n s).get (posMismRun n))) (sensorFailed n 6) :=
    (if_neg h).trans (if_neg (Nat.not_le.2 beyond))
  rw [judged, third, State.when_false]

end Encoder
end Sys2Proof.Machine
end

section
/-!
SUPPORT. Hall edges and illegal Hall codes (R146 to R148).
-/

namespace Sys2Proof.Machine
open Reg

section Hall
variable {n : Nat} {s : State}

theorem hallSector_lt {code k : Nat} (h : hallSector code = some k) : k < 6 := by
  unfold hallSector at h
  split at h <;> cases h <;> decide

/-- A valid code taken. -/
def hallTaken (n code : Nat) (s : State) : State :=
  ((s.set (POS_HALL_STAT_CODE n) code).set (POS_HALL_STAT_ILLNOW n) 0).set (posIllDone n) 0

/-- The sector before a change, and the change's instant. -/
def sectorLeft (n j t : Nat) (s : State) : State := (s.set (posHallPrev n) (j + 1)).set (posHallAt n) (t + 1)

theorem exec_hallEdge_first {n : Fin 4} {code : BitVec 3} (runs : hallsRun n s = true) (valid : hallSector code.toNat ≠ none)
    (none_ : hallSector (s.get (POS_HALL_STAT_CODE n)) = none) : exec (.hallEdge n code) s = .next (hallTaken n code.toNat s) := by
  obtain ⟨k, hk⟩ := Option.ne_none_iff_exists'.1 valid
  refine congrArg Host.Outcome.next ((if_pos runs).trans ?_)
  rw [hk, none_]
  rfl

theorem exec_hallEdge_change {n : Fin 4} {code : BitVec 3} {j k : Nat} (runs : hallsRun n s = true) (hk : hallSector code.toNat = some k)
    (hj : hallSector (s.get (POS_HALL_STAT_CODE n)) = some j) :
    exec (.hallEdge n code) s = .next (hallChange n (s.now - 20 * s.get (POS_HALL_CFG_FILT n)) j k (hallTaken n code.toNat s)) := by
  have filter : (hallTaken n code.toNat s).get (POS_HALL_CFG_FILT n) = s.get (POS_HALL_CFG_FILT n) := by
    have hn := n.isLt
    generalize n.val = m at hn
    simp (disch := (apply atPort m hn; decide)) only [hallTaken, State.get_set_ne]
  refine congrArg Host.Outcome.next ((if_pos runs).trans ?_)
  rw [hk, hj, ← filter]
  rfl

section Change
variable {t j k : Nat}

theorem hallChange_same : hallChange n t j j s = s := by
  rw [hallChange, bne_self_eq_false, State.when_false, if_pos rfl]

theorem hallChange_moved (h : k ≠ j) : hallChange n t j k s = if k = (j + 1) % 6 then
      hallStep n t ((hallEdgeAngle k + (sectorLeft n j t s).get (POS_HALL_CFG_OFS n)) % 65536) true (sectorLeft n j t s)
    else if j = (k + 1) % 6 then
      hallStep n t ((hallEdgeAngle j + (sectorLeft n j t s).get (POS_HALL_CFG_OFS n)) % 65536) false (sectorLeft n j t s)
    else ((((sectorLeft n j t s).inc (POS_HALL_STAT_SKIP n)).set (posHallSeq n) 0).set (posHallHas n) 0).when
      (posPrim n ((((sectorLeft n j t s).inc (POS_HALL_STAT_SKIP n)).set (posHallSeq n) 0).set (posHallHas n) 0) == 4) (speedRestart n t) := by
  rw [hallChange, bne_iff_ne.2 h, State.when_true, if_neg h]
  rfl

theorem sectorLeft_get {f : Fld} (hp : f.key ≠ (posHallPrev n).key) (ha : f.key ≠ (posHallAt n).key) (j t : Nat) (s : State) :
    (sectorLeft n j t s).get f = s.get f :=
  (State.get_set_ne _ _ _ _ ha).trans (State.get_set_ne _ _ _ _ hp)

theorem speedRestart_get (hn : n < 4) {f : Fld} (h : speedWritten n (f.key / 32) = false) (t : Nat) (s : State) :
    (speedRestart n t s).get f = s.get f := by
  have apart : ∀ g ∈ [POS_SPD_STAT_MODE n, POS_SPD_STAT_VALID n, POS_SPD_STAT_STILL n, posEdgeN n, posEdgeAt n], f.key ≠ g.key := by
    have written : ∀ g ∈ [POS_SPD_STAT_MODE n, POS_SPD_STAT_VALID n, POS_SPD_STAT_STILL n, posEdgeN n, posEdgeAt n],
      speedWritten n (g.key / 32) = true := by apply atPort n hn; decide
    exact fun g hg e => Bool.false_ne_true (h.symm.trans (e ▸ written g hg))
  simp only [List.forall_mem_cons] at apart
  obtain ⟨mode, valid, still, edges, edge, -⟩ := apart
  rw [speedRestart, State.get_set_ne _ _ _ _ edge, State.get_set_ne _ _ _ _ edges, State.get_set_ne _ _ _ _ still,
    State.get_set_ne _ _ _ _ valid, State.get_set_ne _ _ _ _ mode]

/-- A change that skips a sector is counted, and moves nothing (R148). -/
theorem hallChange_skips (hn : n < 4) (h : k ≠ j) (up : k ≠ (j + 1) % 6) (down : j ≠ (k + 1) % 6) :
    (hallChange n t j k s).get (POS_HALL_STAT_SKIP n) = clampU (POS_HALL_STAT_SKIP n).width (s.get (POS_HALL_STAT_SKIP n) + 1) ∧
    (hallChange n t j k s).get (POS_TRAVEL_LO_TRAVEL n) = s.get (POS_TRAVEL_LO_TRAVEL n) := by
  rw [hallChange_moved h, if_neg up, if_neg down]
  constructor <;> rw [State.get_when (speedRestart_get hn (by apply atPort n hn; decide) _ _)] <;>
    simp (disch := (apply atPort n hn; decide)) only [State.get_set_ne, State.get_inc_same, State.get_inc_ne, sectorLeft_get]

end Change

theorem hallTaken_get {f : Fld} (hc : f.key ≠ (POS_HALL_STAT_CODE n).key) (hi : f.key ≠ (POS_HALL_STAT_ILLNOW n).key)
    (hd : f.key ≠ (posIllDone n).key) (code : Nat) (s : State) : (hallTaken n code s).get f = s.get f :=
  (State.get_set_ne _ _ _ _ hd).trans ((State.get_set_ne _ _ _ _ hi).trans (State.get_set_ne _ _ _ _ hc))

/-- A step of Halls that are the primary sensor, and have not left the cross-check, moves the travel and the speed. -/
theorem hallStep_primary (hn : n < 4) (prim : s.get (POS_CTRL_PRIM n) = 4) (in_ : s.get (posHallOut n) = 0) (t a : Nat) (up : Bool) :
    hallStep n t a up s = speedEdge n t (!up) (travelMove n (if up then 1 else -1) ((s.set (posHallAng n) a).set (posHallHas n) 1)) := by
  have prim1 : posPrim n ((s.set (posHallAng n) a).set (posHallHas n) 1) = 4 := by
    simpa (disch := (apply atPort n hn; decide)) only [posPrim, State.get_set_ne] using prim
  have fine : hallCoarse n ((s.set (posHallAng n) a).set (posHallHas n) 1) = false := by
    rw [hallCoarse, prim1]; rfl
  have prim2 : posPrim n (speedEdge n t (!up) (travelMove n (if up then 1 else -1) ((s.set (posHallAng n) a).set (posHallHas n) 1))) = 4 := by
    simpa (disch := (apply atPort n hn; decide)) only [posPrim, speedEdge_get hn, travelMove_get hn, State.get_set_ne] using prim
  have in2 : (speedEdge n t (!up) (travelMove n (if up then 1 else -1) ((s.set (posHallAng n) a).set (posHallHas n) 1))).flag (posHallOut n) =
      false := by
    rw [flag_eq_false_iff]
    simpa (disch := (apply atPort n hn; decide)) only [speedEdge_get hn, travelMove_get hn, State.get_set_ne] using in_
  rw [hallStep, fine, State.when_false]
  simp only [prim1, beq_self_eq_true, State.when_true, in2, Bool.false_eq_true, if_false, prim2, bne_self_eq_false, Bool.and_false,
    State.when_false]

/-! ### Illegal codes (R148) -/

theorem exec_evHallIllegal {n : Fin 4} (runs : hallsRun n s = true) (valid : s.get (POS_HALL_STAT_ILLNOW n) = 0) :
    exec (.evHallIllegal n) s = .next (raiseStall n 0x3B (((((s.set (POS_HALL_STAT_ILLNOW n) 1).inc (POS_HALL_STAT_ILL n)).set
      (posHallSeq n) 0).set (posHallIllAt n) s.now).set (posIllDone n) 0)) := by
  have appears : (hallsRun n s && !s.flag (POS_HALL_STAT_ILLNOW n)) = true := by
    rw [runs, (flag_eq_false_iff s _).2 valid]; rfl
  exact congrArg Host.Outcome.next (if_pos appears)

theorem exec_hallIllegalTimeout {n : Fin 4} (runs : hallsRun n s = true) (illegal : s.get (POS_HALL_STAT_ILLNOW n) ≠ 0)
    (once : s.get (posIllDone n) = 0) (late : s.get (posHallIllAt n) + 2000 * s.get (POS_HALL_CFG_ILL_TO n) ≤ s.now) :
    exec (.hallIllegalTimeout n) s = .next (hallIllegal n s) := by
  have outlasts : (hallsRun n s && s.flag (POS_HALL_STAT_ILLNOW n) && !s.flag (posIllDone n) &&
      decide (s.get (posHallIllAt n) + 2000 * s.get (POS_HALL_CFG_ILL_TO n) ≤ s.now)) = true := by
    rw [runs, (flag_eq_true_iff s _).2 illegal, (flag_eq_false_iff s _).2 once, decide_eq_true late]; rfl
  exact congrArg Host.Outcome.next (if_pos outlasts)

theorem hallIllegal_primary (hn : n < 4) (prim : s.get (POS_CTRL_PRIM n) = 4) : hallIllegal n s = sensorFailed n 7 (s.set (posIllDone n) 1) := by
  refine if_pos ?_
  simpa (disch := (apply atPort n hn; decide)) only [posPrim, State.get_set_ne] using prim

/-- Halls beside another primary sensor leave the cross-check. -/
theorem hallIllegal_second (hn : n < 4) (prim : s.get (POS_CTRL_PRIM n) ≠ 4) : hallIllegal n s = raiseStallFault n 3 7 .ride
    ((((s.set (posIllDone n) 1).set (posHallOut n) 1).set (posHallSeq n) 0).when (s.get (POS_XCHK_SRC n) == 1) fun s => s.set (posXRun n) 0) := by
  have source : (((s.set (posIllDone n) 1).set (posHallOut n) 1).set (posHallSeq n) 0).get (POS_XCHK_SRC n) = s.get (POS_XCHK_SRC n) := by
    simp (disch := (apply atPort n hn; decide)) only [State.get_set_ne]
  rw [← source]
  refine if_neg ?_
  simpa (disch := (apply atPort n hn; decide)) only [posPrim, State.get_set_ne] using prim

end Hall
end Sys2Proof.Machine
end

section
/-!
O26: edges of an encoder and its index, and edges of Halls.
-/

namespace Sys2Proof.Machine
open Reg

/-- Settles O26: how an edge counts and an index is judged, and what a Hall edge and an illegal code come to. -/
theorem encoderAndHallEdgesCount : Obligations.EncoderAndHallEdgesCount := by
  refine ⟨?edges, ?illegal, ?loss, ?index, ?judge, ?halls, fun n code s => exec_hallEdge_first, ?step, ?illegalCode, ?timeout⟩
  case edges =>
    intro n a b s on prim turn idle
    have steps := fun k hk => quadSteps_iff (n := n) (s := s) a b (k := k) hk
    refine ⟨fun h => ⟨_, rfl, ?_⟩, fun h => ⟨_, rfl, ?_⟩, fun h => congrArg Host.Outcome.next ?_, fun h => congrArg Host.Outcome.next ?_⟩
    · have one := (steps 1 (by decide)).2 h
      refine (encoderEdge_counts n.isLt on prim turn idle (.inl one)).trans ?_
      rw [one, countAfter, State.flag]
      cases s.get (POS_ENC_CFG_INV n) <;> rfl
    · have three := (steps 3 (by decide)).2 h
      refine (encoderEdge_counts n.isLt on prim turn idle (.inr three)).trans ?_
      rw [three, countAfter, State.flag]
      cases s.get (POS_ENC_CFG_INV n) <;> rfl
    · exact encoderEdge_illegal n.isLt on prim idle ((steps 2 (by decide)).2 h)
    · refine encoderEdge_none n.isLt on prim idle ((steps 0 (by decide)).2 (h.trans ?_))
      exact (Nat.mod_eq_of_lt (quad_lt _ _)).symm
  case illegal =>
    intro n s hn below
    exact ⟨_, encIllegal_below hn below, illegalNoted_get hn s⟩
  case loss =>
    intro n s on prim
    have used : (posOn n s && posPrim n s == 2) = true := by
      rw [posOn, (flag_eq_true_iff s _).2 on, posPrim, prim]; rfl
    exact congrArg Host.Outcome.next (if_pos used)
  case index =>
    intro n s on prim gate
    rw [exec_index on prim gate]
    refine ⟨fun waits => ?_, fun free unhomed => ?_, fun free homed => ?_⟩
    · rw [if_pos waits]
    · rw [free, if_neg Bool.false_ne_true, indexEdge, (flag_eq_false_iff s _).2 unhomed, if_neg Bool.false_ne_true]
    · rw [free, if_neg Bool.false_ne_true, indexEdge, if_pos ((flag_eq_true_iff s _).2 homed)]
  case judge => exact fun n s hn => ⟨indexJudge_matches, indexJudge_corrects, indexJudge_mismatches hn⟩
  case halls =>
    intro n code j k s runs hk hj
    have below := hallSector_lt hj
    have offset : (sectorLeft n j (s.now - 20 * s.get (POS_HALL_CFG_FILT n)) (hallTaken n code.toNat s)).get (POS_HALL_CFG_OFS n) =
        s.get (POS_HALL_CFG_OFS n) := by
      have hn := n.isLt
      generalize n.val = m at hn
      simp (disch := (apply atPort m hn; decide)) only [sectorLeft_get, hallTaken_get]
    rw [exec_hallEdge_change runs hk hj]
    refine ⟨fun same => ?_, fun up => ?_, fun down => ?_, fun skips up down => ⟨_, rfl, ?_⟩⟩
    · rw [same, hallChange_same]; rfl
    · rw [hallChange_moved (by omega), if_pos up, offset]; rfl
    · rw [hallChange_moved (by omega), if_neg (by have := hallSector_lt hk; omega), if_pos down, offset]; rfl
    · obtain ⟨skip, stays⟩ := hallChange_skips (t := s.now - 20 * s.get (POS_HALL_CFG_FILT n)) (s := hallTaken n code.toNat s) n.isLt skips up down
      have hn := n.isLt
      rw [skip, stays]
      generalize n.val = m at hn
      simp (disch := (apply atPort m hn; decide)) only [hallTaken_get, and_self]
  case step => exact fun n t a up s hn _ prim in_ => hallStep_primary hn prim in_ t a up
  case illegalCode =>
    intro n s runs valid
    refine ⟨_, exec_evHallIllegal runs valid, ?_⟩
    have hn := n.isLt
    generalize n.val = m at hn
    simp (disch := (apply atPort m hn; decide)) only [raiseStall_get, State.get_set_ne, State.get_inc_ne, State.get_inc_same, State.get_set_one,
      and_self]
  case timeout =>
    intro n s runs illegal once late
    rw [exec_hallIllegalTimeout runs illegal once late]
    refine ⟨fun prim => ?_, fun prim src => ?_, fun prim src => ?_⟩
    · rw [hallIllegal_primary n.isLt prim]
    · rw [hallIllegal_second n.isLt prim, src, beq_self_eq_true, State.when_true]
    · rw [hallIllegal_second n.isLt prim, beq_eq_false_iff_ne.2 src, State.when_false]

end Sys2Proof.Machine
end

section
/-!
SUPPORT. The position port's commands, what it latches, the resolver's checks, and a failed sensor (R130 to R138, R165, R166).
-/

namespace Sys2Proof.Machine
open Reg

section Port
variable {n : Nat} {s : State}

/-! ### Enabling (R130) -/

/-- While a Stall is rewritten its port is neither enabled nor disabled (R30). -/
theorem posCommands_shut {n : Fin 4} (h : bitAt (rewritten s) n = true) :
    exec (.posEnable n) s = .next (busErr s) ∧ exec (.posDisable n) s = .next (busErr s) :=
  ⟨if_pos h, if_pos h⟩

theorem exec_posEnable {n : Fin 4} (h : bitAt (rewritten s) n = false) : exec (.posEnable n) s =
    if posOn n s then .next (busOk s)
    else if posConfigOk n s then .next (busOk ((posRestart n s).set (POS_CTRL_EN n) 1))
    else .next (busErr (s.set (POS_STAT_CFG_ERR n) 1)) :=
  stallWrite_open h fun s => if posOn n s then ok (busOk s)
    else if posConfigOk n s then ok (busOk ((posRestart n s).set (POS_CTRL_EN n) 1))
    else ok (busErr (s.set (POS_STAT_CFG_ERR n) 1))

theorem exec_posDisable {n : Fin 4} (h : bitAt (rewritten s) n = false) : exec (.posDisable n) s =
    if posOn n s && loopRuns n s then .next (busErr s)
    else .next (busOk (s.when (posOn n s) fun s => (posRestart n s).set (POS_CTRL_EN n) 0)) :=
  stallWrite_open h fun s => if posOn n s && loopRuns n s then ok (busErr s)
    else ok (busOk (s.when (posOn n s) fun s => (posRestart n s).set (POS_CTRL_EN n) 0))

theorem posOn_eq_true (h : s.get (POS_CTRL_EN n) ≠ 0) : posOn n s = true := (flag_eq_true_iff s _).2 h
theorem posOn_eq_false (h : s.get (POS_CTRL_EN n) = 0) : posOn n s = false := (flag_eq_false_iff s _).2 h

theorem enabled_get (hn : n < 4) (s : State) : ((posRestart n s).set (POS_CTRL_EN n) 1).get (POS_CTRL_EN n) = 1 ∧
    ((posRestart n s).set (POS_CTRL_EN n) 1).get (POS_STAT_HOMED n) = 0 ∧ ((posRestart n s).set (POS_CTRL_EN n) 1).get (POS_RES_STAT_LOCK n) = 0 ∧
    ((posRestart n s).set (POS_CTRL_EN n) 1).get (POS_SPD_STAT_MODE n) = 0 ∧
    ((posRestart n s).set (POS_CTRL_EN n) 1).get (POS_ENC_COUNT_COUNT n) = s.get (POS_ENC_COUNT_COUNT n) := by
  simp (disch := (apply atPort n hn; decide)) only [posRestart, State.get_set_ne, State.get_set_zero, State.get_set_one, and_self]

/-! ### Delivery (R132) -/

/-- The values of `posLatch` before those of the source in use: the observer's angle, where it runs, and the sensor's. -/
def sensorLatched (n : Nat) (s : State) : State :=
  let t := s.when (s.flag (POS_BEMF_CFG_EN n) && loopRuns n s) fun t => t.set (POS_BEMF_STAT_ANGLE n) (bemfAngleAt n s.now t)
  t.set (POS_SANG_ANGLE n) (thetaS n s.now (s.flag (POS_CTRL_INTERP n)) t / 256)

theorem sensorLatched_get {f : Fld} (hb : f.key ≠ (POS_BEMF_STAT_ANGLE n).key) (hs : f.key ≠ (POS_SANG_ANGLE n).key) (s : State) :
    (sensorLatched n s).get f = s.get f :=
  (State.get_set_ne _ _ _ _ hs).trans (State.get_when (State.get_set_ne _ _ _ _ hb) _)

theorem sensorLatched_agree (hn : n < 4) (s : State) : ∀ f ∈ sensorFields n, (sensorLatched n s).get f = s.get f := by
  have apart : ∀ f ∈ sensorFields n, f.key ≠ (POS_BEMF_STAT_ANGLE n).key ∧ f.key ≠ (POS_SANG_ANGLE n).key := by apply atPort n hn; decide
  exact fun f hf => sensorLatched_get (apart f hf).1 (apart f hf).2 s

theorem sensorLatched_angle (hn : n < 4) (s : State) :
    (sensorLatched n s).get (POS_SANG_ANGLE n) = thetaS n s.now (s.flag (POS_CTRL_INTERP n)) s / 256 % 65536 := by
  have observed : ∀ f ∈ sensorFields n, (s.when (s.flag (POS_BEMF_CFG_EN n) && loopRuns n s) fun t =>
      t.set (POS_BEMF_STAT_ANGLE n) (bemfAngleAt n s.now t)).get f = s.get f := by
    have apart : ∀ f ∈ sensorFields n, f.key ≠ (POS_BEMF_STAT_ANGLE n).key := by apply atPort n hn; decide
    exact fun f hf => State.get_when (State.get_set_ne _ _ _ _ (apart f hf)) _
  rw [sensorLatched, State.get_set_same, thetaS_congr hn observed]
  rfl

/-- A resolver's or SSI sensor's speed is valid while its angle is of grade 2 (R162). -/
def speedFlagged (n g : Nat) (s : State) : State :=
  s.when (!edgeSensor n s && decide (posPrim n s ≠ 0)) fun s =>
    (s.setB (POS_SPD_STAT_VALID n) (g == 2)).setB (POS_SPD_STAT_DIR n) (F32.neg? (s.getF (posOmega n)))

/-- The angle, its grade `g` and the speed that a latch at instant `t` writes. -/
def anglesLatched (n t : Nat) (interp : Bool) (g : Nat) (s : State) : State :=
  let u := (s.set (POS_ANG_ANGLE n) (thetaE n t interp s)).set (POS_ANG_QUAL n) g
  latchFlags n (u.setF (POS_SPD_SPD n) (speedAt n t u))

/-- The grade of the sensor in use; a sensor without a source has none (R133, R165). -/
def latchedGrade (n : Nat) (s : State) : Nat := if s.get (POS_STAT_SRC n) = 0 then posGrade n s else 0

theorem posLatch_sensor (hn : n < 4) (h : s.get (POS_STAT_SRC n) ≠ 1) : posLatch n s =
    anglesLatched n s.now (s.flag (POS_CTRL_INTERP n)) (latchedGrade n (sensorLatched n s))
      (speedFlagged n (latchedGrade n (sensorLatched n s)) (sensorLatched n s)) := by
  refine if_neg ?_
  rw [← sensorLatched_agree hn s (POS_STAT_SRC n) (by simp [sensorFields])] at h
  exact h

theorem anglesLatched_get {f : Fld} (hn : n < 4) (hf : f.key ≠ (posLatFlags n).key ∧ f.key ≠ (posLatTrav n).key) (t g : Nat) (interp : Bool)
    (s : State) : (anglesLatched n t interp g s).get f = (((s.set (POS_ANG_ANGLE n) (thetaE n t interp s)).set (POS_ANG_QUAL n) g).setF
      (POS_SPD_SPD n) (speedAt n t s)).get f := by
  have written : ∀ f ∈ sensorFields n, ((s.set (POS_ANG_ANGLE n) (thetaE n t interp s)).set (POS_ANG_QUAL n) g).get f = s.get f := by
    have apart : ∀ f ∈ sensorFields n, f.key ≠ (POS_ANG_ANGLE n).key ∧ f.key ≠ (POS_ANG_QUAL n).key := by apply atPort n hn; decide
    exact fun f hf => (State.get_set_ne _ _ _ _ (apart f hf).2).trans (State.get_set_ne _ _ _ _ (apart f hf).1)
  rw [anglesLatched, latchFlags, State.get_seti_ne hf.2, State.get_set_ne _ _ _ _ hf.1, speedAt_congr hn written]

theorem posGrade_lt (s : State) : posGrade n s < 4 := by
  have small : ∀ (b : Bool) (x y : Nat), x < 4 → y < 4 → (if b then x else y) < 4 := fun b x y hx hy => by cases b <;> assumption
  unfold posGrade
  refine small _ _ _ (by decide) ?_
  split
  · exact small _ _ _ (by decide) (by decide)
  · exact small _ _ _ (by decide) (small _ _ _ (by decide) (by decide))
  · exact small _ _ _ (by decide) (by decide)
  · exact small _ _ _ (by decide) (small _ _ _ (by decide) (by decide))
  · decide

/-- What a latch of an encoder in use writes (R132). -/
theorem posLatch_encoder (hn : n < 4) (src : s.get (POS_STAT_SRC n) = 0) (prim : s.get (POS_CTRL_PRIM n) = 2) :
    (posLatch n s).get (POS_SANG_ANGLE n) = thetaS n s.now (s.flag (POS_CTRL_INTERP n)) s / 256 % 65536 ∧
    (posLatch n s).get (POS_ANG_ANGLE n) = thetaE n s.now (s.flag (POS_CTRL_INTERP n)) s % 65536 ∧
    (posLatch n s).get (POS_ANG_QUAL n) = posGrade n s ∧ (posLatch n s).get (POS_SPD_SPD n) = (speedAt n s.now s).toNat := by
  have agree := sensorLatched_agree hn s
  have grade : latchedGrade n (sensorLatched n s) = posGrade n s := by
    rw [latchedGrade, agree _ (by simp [sensorFields]), src, if_pos rfl, posGrade_congr hn agree]
  have edges : speedFlagged n (posGrade n s) (sensorLatched n s) = sensorLatched n s := by
    rw [speedFlagged, edgeSensor_congr hn agree, edgeSensor, posPrim, prim]; rfl
  rw [posLatch_sensor hn (by rw [src]; decide), grade, edges]
  refine ⟨?_, ?_, ?_, ?_⟩ <;> rw [anglesLatched_get hn (by apply atPort n hn; decide)]
  · simp (disch := (apply atPort n hn; decide)) only [State.get_setF_ne, State.get_set_ne]
    exact sensorLatched_angle hn s
  · simp (disch := (apply atPort n hn; decide)) only [State.get_setF_ne, State.get_set_ne]
    rw [State.get_set_same, thetaE_congr hn agree]; rfl
  · rw [State.get_setF_ne (by apply atPort n hn; decide)]
    exact State.get_set_of_lt (posGrade_lt s) _
  · rw [speedAt_congr hn agree]
    exact State.get_set_of_lt (speedAt n s.now s).isLt _

theorem posLatch_none (hn : n < 4) (src : s.get (POS_STAT_SRC n) = 2) : (posLatch n s).get (POS_ANG_QUAL n) = 0 := by
  have grade : latchedGrade n (sensorLatched n s) = 0 := by
    rw [latchedGrade, sensorLatched_agree hn s _ (by simp [sensorFields]), src, if_neg (by decide)]
  rw [posLatch_sensor hn (by rw [src]; decide), grade, anglesLatched_get hn (by apply atPort n hn; decide)]
  simp (disch := (apply atPort n hn; decide)) only [State.get_setF_ne, State.get_set_zero]

/-! ### The resolver (R134 to R138) -/

theorem exec_resUpdate {n : Fin 4} (on : s.get (POS_CTRL_EN n) ≠ 0) (prim : s.get (POS_CTRL_PRIM n) = 1) (due : resDue n s = true)
    (a b : BitVec 1024) (clip : Bool) (ph : BitVec 16) : exec (.resUpdate n a b clip ph) s = .next (resUpdate n a b clip ph.toNat s) := by
  have used : (posOn n s && posPrim n s == 1 && resDue n s) = true := by
    rw [posOn_eq_true on, posPrim, prim, due]; rfl
  exact congrArg Host.Outcome.next (if_pos used)

theorem runStep_true (f : Fld) (s : State) : runStep f true s = s.inc f := rfl
theorem runStep_false (f : Fld) (s : State) : runStep f false s = s.set f 0 := rfl

theorem runStep_get_ne {f g : Fld} (h : g.key ≠ f.key) (b : Bool) (s : State) : (runStep f b s).get g = s.get g := by
  cases b
  · exact State.get_set_ne _ _ _ _ h
  · exact State.get_inc_ne h s

/-- What the checks of one update note: the run of low, of high and of clipped updates, and that there was one (R138). -/
def checksNoted (n : Nat) (low high clip : Bool) (s : State) : State :=
  let s := runStep (posLowRun n) low (s.when low fun s => s.set (POS_RES_STAT_LOW_SEEN n) 1)
  let s := runStep (posHighRun n) high (s.when high fun s => s.set (POS_RES_STAT_HIGH_SEEN n) 1)
  runStep (posClipRun n) clip (s.when clip fun s => s.set (POS_RES_STAT_CLIP_SEEN n) 1)

theorem resWindow_eq (n : Nat) (amp : F32) (clip : Bool) (s : State) : resWindow n amp clip s =
    checksNoted n (F32.lt amp (F32.ofInt (s.get (POS_RES_AMP_LO n)))) (F32.lt (F32.ofInt (s.get (POS_RES_AMP_HI n))) amp) clip s := rfl

theorem checksNoted_unclipped (low high : Bool) (s : State) : (checksNoted n low high false s).get (posClipRun n) = 0 :=
  State.get_set_zero _ _

section Checks
variable (hn : n < 4) (low high clip : Bool) (s : State)
include hn

theorem checksNoted_clip : (checksNoted n low high true s).get (POS_RES_STAT_CLIP_SEEN n) = 1 ∧
    (checksNoted n low high true s).get (posClipRun n) = clampU (posClipRun n).width (s.get (posClipRun n) + 1) := by
  simp (disch := (apply atPort n hn; decide)) only [checksNoted, runStep_true, State.when_true, State.get_inc_ne, State.get_inc_same,
    State.get_set_ne, State.get_set_one, runStep_get_ne, State.get_when_set_ne, and_self]

theorem checksNoted_low : (checksNoted n true high clip s).get (POS_RES_STAT_LOW_SEEN n) = 1 ∧
    (checksNoted n true high clip s).get (posLowRun n) = clampU (posLowRun n).width (s.get (posLowRun n) + 1) := by
  simp (disch := (apply atPort n hn; decide)) only [checksNoted, runStep_true, State.when_true, State.get_inc_ne, State.get_inc_same,
    State.get_set_ne, State.get_set_one, runStep_get_ne, State.get_when_set_ne, and_self]

theorem checksNoted_notLow : (checksNoted n false high clip s).get (posLowRun n) = 0 := by
  simp (disch := (apply atPort n hn; decide)) only [checksNoted, runStep_false, State.when_false, State.get_set_zero, runStep_get_ne,
    State.get_when_set_ne]

theorem checksNoted_high : (checksNoted n low true clip s).get (POS_RES_STAT_HIGH_SEEN n) = 1 := by
  simp (disch := (apply atPort n hn; decide)) only [checksNoted, runStep_true, State.when_true, State.get_inc_ne, State.get_set_one,
    runStep_get_ne, State.get_when_set_ne]

end Checks

theorem exec_excFault {n : Fin 4} (on : s.get (POS_CTRL_EXC_EN n) ≠ 0) : exec (.excFault n) s =
    .next ((s.set (POS_STAT_EXC_FAULT n) 1).when (posOn n s && posPrim n s == 1) (sensorFailed n 3)) :=
  congrArg Host.Outcome.next (if_pos ((flag_eq_true_iff s _).2 on))

/-! ### A failed sensor (R165, R166) -/

theorem sensorFailed_again (h : s.get (POS_STAT_SFAIL n) ≠ 0) (cause : Nat) : sensorFailed n cause s = s :=
  if_pos ((flag_eq_true_iff s _).2 h)

/-- The first failure raises its event; what follows turns on the back-EMF observer. -/
theorem sensorFailed_first (hn : n < 4) (h : s.get (POS_STAT_SFAIL n) = 0) (cause : Nat) : sensorFailed n cause s =
    if s.flag (POS_BEMF_STAT_QUAL n) then
      raiseStallFault n 3 cause .ride (raiseStall n 0x3D ((raiseStall n 0x38 (s.set (POS_STAT_SFAIL n) 1)).set (POS_STAT_SRC n) 1))
    else raiseStallFault n 3 cause .stallSafe (((raiseStall n 0x38 (s.set (POS_STAT_SFAIL n) 1)).set (POS_STAT_SRC n) 2).set (POS_ANG_QUAL n) 0) := by
  have observer : (raiseStall n 0x38 (s.set (POS_STAT_SFAIL n) 1)).flag (POS_BEMF_STAT_QUAL n) = s.flag (POS_BEMF_STAT_QUAL n) := by
    simp (disch := (apply atPort n hn; decide)) only [State.flag, raiseStall_get, State.get_set_ne]
  rw [sensorFailed, (flag_eq_false_iff s _).2 h, if_neg Bool.false_ne_true]
  dsimp only
  rw [observer]

end Port
end Sys2Proof.Machine
end

section
/-!
O25: the position port's commands, the resolver and a failed sensor.
-/

namespace Sys2Proof.Machine
open Reg

/-- Settles O25: enabling and disabling, what a latch writes, a resolver's update and its checks, and what a failed sensor comes to. -/
theorem positionPortAndSensorFailure : Obligations.PositionPortAndSensorFailure := by
  refine ⟨?disabled, ?enabled, fun n s => posCommands_shut, ?instant, fun n s => posLatch_encoder,
    fun n s => posLatch_none, ?update, ?checks, ?judge, ?excitation, fun n cause s h => sensorFailed_again h cause, ?rides, ?stops⟩
  case disabled =>
    intro n s h off
    rw [exec_posEnable h, exec_posDisable h, posOn_eq_false off, if_neg Bool.false_ne_true, Bool.false_and, if_neg Bool.false_ne_true,
      State.when_false]
    refine ⟨fun fits => ?_, fun unfit => ?_, rfl⟩
    · refine ⟨_, if_pos fits, rfl, ?_⟩
      rw [State.get_busOk, State.get_busOk, State.get_busOk, State.get_busOk, State.get_busOk]
      exact enabled_get n.isLt s
    · rw [unfit, if_neg Bool.false_ne_true]
  case enabled =>
    intro n s h on
    rw [exec_posEnable h, exec_posDisable h, posOn_eq_true on, if_pos rfl, Bool.true_and]
    refine ⟨rfl, fun runs => ?_, fun idle => ?_⟩
    · rw [loopRuns, bne_iff_ne.2 runs, if_pos rfl]
    · rw [loopRuns, idle]; rfl
  case instant =>
    intro n s stopped due
    have now : ((s.get (PWM_STAT_STATE n) == 0 || s.get (PWM_STAT_STATE n) == 4) && s.now % 2000 == 0) = true := by
      rw [due]
      obtain stopped | stopped := stopped <;> rw [stopped] <;> rfl
    exact congrArg Host.Outcome.next (if_pos now)
  case update =>
    intro n a b clip ph s on prim due
    have phase : (if s.flag (POS_RES_PHASE_AUTOPH n) then ph.toNat else s.get (POS_RES_PHASE_PHASE n)) =
        if s.get (POS_RES_PHASE_AUTOPH n) = 0 then s.get (POS_RES_PHASE_PHASE n) else ph.toNat := by
      by_cases fixed : s.get (POS_RES_PHASE_AUTOPH n) = 0
      · rw [(flag_eq_false_iff s _).2 fixed, if_pos fixed, if_neg Bool.false_ne_true]
      · rw [(flag_eq_true_iff s _).2 fixed, if_neg fixed, if_pos rfl]
    rw [exec_resUpdate on prim due, resUpdate, phase]
  case checks =>
    intro n amp s hn
    simp only [resWindow_eq]
    refine ⟨checksNoted_clip hn _ _ s, checksNoted_unclipped _ _ s, fun low => ?_, fun low => ?_, fun high => ?_⟩
    · rw [low]; exact checksNoted_low hn _ false s
    · rw [low]; exact checksNoted_notLow hn _ false s
    · rw [high]; exact checksNoted_high hn _ false s
  case judge =>
    refine fun n s => ⟨fun lost => if_pos lost, fun low clip => ?_⟩
    have kept : ¬(s.get (POS_RES_FN_LOSS_N n) ≤ s.get (posLowRun n) ∨ s.get (POS_RES_FN_LOSS_N n) ≤ s.get (posClipRun n)) :=
      not_or.2 ⟨Nat.not_le.2 low, Nat.not_le.2 clip⟩
    exact ⟨fun high => (if_neg kept).trans (if_pos high), fun high => (if_neg kept).trans (if_neg (Nat.not_le.2 high))⟩
  case excitation =>
    intro n s driven
    rw [exec_excFault driven]
    refine ⟨fun on prim => ?_, fun unused => ?_⟩
    · rw [posOn_eq_true on, posPrim, prim]; rfl
    · obtain off | prim := unused
      · rw [posOn_eq_false off, Bool.false_and, State.when_false]
      · rw [posPrim, beq_eq_false_iff_ne.2 prim, Bool.and_false, State.when_false]
  case rides =>
    intro n cause s hn first qual
    rw [sensorFailed_first hn first, if_pos ((flag_eq_true_iff s _).2 qual)]
  case stops =>
    intro n cause s hn first qual
    rw [sensorFailed_first hn first, (flag_eq_false_iff s _).2 qual, if_neg Bool.false_ne_true]

end Sys2Proof.Machine
end

section
/-!
SUPPORT. Serial sensors (R149 to R155): when an SSI frame is in error and what a good one gives, how a SENT frame is judged and taken, its slow
channel, its CRC-6 and the Gray code.
-/

namespace Sys2Proof.Machine
open Reg

/-! ### The Gray code (R150) -/

/-- Undoing the Gray code's step by one bit leaves the word with its step by as many bits as the decoder spans. -/
theorem grayDecode_encode (k v : Nat) : grayDecode k (v ^^^ v / 2) = v ^^^ v / 2 ^ 2 ^ k := by
  induction k generalizing v with
  | zero => simp [grayDecode]
  | succ k ih =>
    have spread : ∀ x y m : Nat, (x ^^^ y) / 2 ^ m = x / 2 ^ m ^^^ y / 2 ^ m := fun x y m => by
      rw [← Nat.shiftRight_eq_div_pow, ← Nat.shiftRight_eq_div_pow, ← Nat.shiftRight_eq_div_pow, Nat.shiftRight_xor_distrib]
    have halves : (v ^^^ v / 2 ^ 2 ^ k) / 2 = v / 2 ^^^ v / 2 / 2 ^ 2 ^ k := by
      rw [← pow_one 2, spread, Nat.div_div_eq_div_mul, Nat.div_div_eq_div_mul, Nat.mul_comm]
    calc grayDecode (k + 1) (v ^^^ v / 2)
        = grayDecode k ((v ^^^ v / 2) ^^^ (v ^^^ v / 2) / 2 ^ 2 ^ k) := rfl
      _ = grayDecode k ((v ^^^ v / 2 ^ 2 ^ k) ^^^ (v ^^^ v / 2 ^ 2 ^ k) / 2) := by
          rw [halves, spread]
          congr 1
          ac_rfl
      _ = (v ^^^ v / 2 ^ 2 ^ k) ^^^ (v ^^^ v / 2 ^ 2 ^ k) / 2 ^ 2 ^ k := ih _
      _ = v ^^^ v / 2 ^ 2 ^ (k + 1) := by
          rw [spread, Nat.div_div_eq_div_mul, ← pow_add, ← two_mul, ← pow_succ', Nat.xor_assoc, ← Nat.xor_assoc (v / 2 ^ 2 ^ k),
            Nat.xor_self, Nat.zero_xor]

/-! ### Bits -/

theorem bitAt_eq_testBit (v i : Nat) : bitAt v i = v.testBit i := by
  rw [bitAt, Nat.testBit_eq_decide_div_mod_eq]
  rfl

/-! ### SSI frames (R149 to R151) -/

/-- The distance of two positions of `w` bits, either way round the turn. -/
theorem natAbs_sext_wrap {w : Nat} (hw : 1 ≤ w) (a b : Nat) : (sext w (wrap w ((a : Int) - b))).natAbs =
    min (((a % 2 ^ w : Nat) : Int) - (b % 2 ^ w : Nat)).natAbs (2 ^ w - (((a % 2 ^ w : Nat) : Int) - (b % 2 ^ w : Nat)).natAbs) := by
  obtain ⟨k, rfl⟩ : ∃ k, w = k + 1 := ⟨w - 1, by omega⟩
  have turn : 2 ^ (k + 1) = 2 * 2 ^ k := by ring
  have reduced : ((a : Int) - b) % (2 ^ (k + 1) : Nat) = (((a % 2 ^ (k + 1) : Nat) : Int) - (b % 2 ^ (k + 1) : Nat)) % (2 ^ (k + 1) : Nat) := by
    rw [Int.sub_emod, Int.natCast_mod, Int.natCast_mod]
  have inA : a % 2 ^ (k + 1) < 2 ^ (k + 1) := Nat.mod_lt _ (Nat.two_pow_pos _)
  have inB : b % 2 ^ (k + 1) < 2 ^ (k + 1) := Nat.mod_lt _ (Nat.two_pow_pos _)
  rw [sext, wrap, reduced, Nat.add_sub_cancel]
  generalize a % 2 ^ (k + 1) = x at *
  generalize b % 2 ^ (k + 1) = y at *
  rw [turn] at *
  generalize 2 ^ k = p at *
  obtain up | down := le_or_gt y x
  · have word : ((x : Int) - y) % (2 * p : Nat) = (x : Int) - y := Int.emod_eq_of_lt (by omega) (by omega)
    rw [word, Nat.mod_eq_of_lt (by omega)]
    split <;> omega
  · have word : ((x : Int) - y) % (2 * p : Nat) = (x : Int) - y + (2 * p : Nat) := by
      rw [← Int.add_emod_right, Int.emod_eq_of_lt (by omega) (by omega)]
    rw [word, Nat.mod_eq_of_lt (by omega)]
    split <;> omega

section Ssi
variable {n : Nat} {s : State}

theorem ssiBad_iff (r v : Nat) (hst : 1 ≤ s.get (POS_SSI_CFG_ST n)) : ssiBad n r v s = true ↔
    (s.get (POS_SSI_CFG_ERRB n) ≠ 0 ∧ r.testBit (s.get (POS_SSI_CFG_PAR n)) = true) ∨
    (s.get (POS_SSI_CFG_PAR n) = 1 ∧ popCount 32 r % 2 = 1) ∨
    (s.get (posSsiPrev n) ≠ 0 ∧ s.get (POS_SSI_TIM_JUMP n) <
      min (((v % 2 ^ s.get (POS_SSI_CFG_ST n) : Nat) : Int) - ((s.get (posSsiPrev n) - 1) % 2 ^ s.get (POS_SSI_CFG_ST n) : Nat)).natAbs
        (2 ^ s.get (POS_SSI_CFG_ST n) -
          (((v % 2 ^ s.get (POS_SSI_CFG_ST n) : Nat) : Int) - ((s.get (posSsiPrev n) - 1) % 2 ^ s.get (POS_SSI_CFG_ST n) : Nat)).natAbs)) := by
  simp only [ssiBad, natAbs_sext_wrap hst, bitAt_eq_testBit, Bool.or_eq_true, Bool.and_eq_true, flag_eq_true_iff, beq_iff_eq, bne_iff_ne,
    decide_eq_true_eq, or_assoc]

/-- A frame taken: its bits, and the end of its clock (R149, R150). -/
def frameTaken (n r : Nat) (s : State) : State :=
  ((s.set (posSsiBusy n) 0).set (posSsiEnd n) (ssiLastEdge n s + 1)).set (POS_SSI_RAW_RAW n) r

/-- A discarded frame counted (R151). -/
def frameDiscarded (n : Nat) (s : State) : State := (s.inc (POS_SSI_STAT_ERRS n)).inc (posSsiErrRun n)

theorem exec_ssiFrame {n : Fin 4} {raw : BitVec 32} (on : s.get (POS_CTRL_EN n) ≠ 0) (busy : s.get (posSsiBusy n) ≠ 0)
    (due : ssiLastEdge n s + s.get (POS_SSI_TIM_DLY n) ≤ s.now) :
    exec (.ssiFrame n raw) s = .next (ssiFrame n (raw.toNat % 2 ^ s.get (POS_SSI_CFG_BITS n)) s) := by
  have clocked : (posOn n s && s.flag (posSsiBusy n) && decide (ssiLastEdge n s + s.get (POS_SSI_TIM_DLY n) ≤ s.now)) = true := by
    rw [posOn_eq_true on, (flag_eq_true_iff s _).2 busy, decide_eq_true due]; rfl
  exact congrArg Host.Outcome.next (if_pos clocked)

theorem ssiFrame_good {r : Nat} (good : ssiBad n r (ssiField n r s) (frameTaken n r s) = false) :
    ssiFrame n r s = ssiGood n (ssiField n r s) (frameTaken n r s) := by
  rw [frameTaken] at good
  rw [ssiFrame, good, if_neg Bool.false_ne_true, frameTaken]

theorem ssiFrame_bad (hn : n < 4) {r : Nat} (bad : ssiBad n r (ssiField n r s) (frameTaken n r s) = true) : ssiFrame n r s =
    (frameDiscarded n (frameTaken n r s)).when
      (decide (s.get (POS_SSI_TIM_ERR_N n) ≤ (frameDiscarded n (frameTaken n r s)).get (posSsiErrRun n))) (sensorFailed n 8) := by
  have limit : (frameDiscarded n (frameTaken n r s)).get (POS_SSI_TIM_ERR_N n) = s.get (POS_SSI_TIM_ERR_N n) := by
    simp (disch := (apply atPort n hn; decide)) only [frameDiscarded, frameTaken, State.get_inc_ne, State.get_set_ne]
  rw [← limit]
  exact if_pos bad

/-! ### A good frame (R151, R156, R162) -/

theorem stillFollow_get {f : Fld} (hl : f.key ≠ (posLowAt n).key) (hs : f.key ≠ (POS_SPD_STAT_STILL n).key) (s : State) :
    (stillFollow n s).get f = s.get f := by
  rw [stillFollow]
  split
  · exact State.get_when_set_ne hl _ _ _
  · exact (State.get_set_ne _ _ _ _ hs).trans (State.get_set_ne _ _ _ _ hl)

theorem ssiTrack_get {f : Fld} (ht : f.key ≠ (posTrk n).key) (ho : f.key ≠ (posOmega n).key) (th at_ : Nat) (s : State) :
    (ssiTrack n th at_ s).get f = s.get f := by
  rw [ssiTrack]
  split
  · exact (State.get_setF_ne ho _ _).trans (State.get_set_ne _ _ _ _ ht)
  · exact (State.get_set_ne _ _ _ _ ho).trans (State.get_set_ne _ _ _ _ ht)

/-- The first good frame seeds the observer. -/
theorem ssiTrack_seeds (h : s.get (posSsiGood n) = 0) (th at_ : Nat) : ssiTrack n th at_ s = (s.set (posTrk n) th).set (posOmega n) 0 := by
  rw [ssiTrack, (flag_eq_false_iff s _).2 h, if_neg Bool.false_ne_true]

/-- The sensor angle of position `v`, in 1/256 LSB. -/
def ssiTheta (n v : Nat) (s : State) : Nat := v % 2 ^ s.get (POS_SSI_CFG_ST n) * 2 ^ 24 / 2 ^ s.get (POS_SSI_CFG_ST n)

/-- The change of position since the frame before. -/
def ssiStep (n v : Nat) (s : State) : Int :=
  let p := s.get (POS_SSI_CFG_BITS n) - s.get (POS_SSI_CFG_ERRB n) - s.get (POS_SSI_CFG_PAR n)
  sext p (wrap p ((v : Int) - (s.get (posSsiPrev n) - 1 : Nat)))

/-- The observer and the travel after a good frame. -/
def ssiMoved (n v : Nat) (s : State) : State :=
  (ssiTrack n (ssiTheta n v s) (s.get (posSsiAt n)) s).when (s.get (posSsiPrev n) != 0) (travelMove n (ssiStep n v s))

theorem ssiGood_eq (v : Nat) : ssiGood n v s = stillFollow n ((((((ssiMoved n v s).set (posTheta n) (ssiTheta n v s)).set (posUpdAt n)
    (s.get (posSsiAt n))).set (posSsiPrev n) (v + 1)).set (posSsiGood n) 1).set (posSsiErrRun n) 0) := rfl

theorem ssiMoved_get (hn : n < 4) {f : Fld} (ht : travelWritten n (f.key / 32) = false) (v : Nat) :
    (ssiMoved n v s).get f = (ssiTrack n (ssiTheta n v s) (s.get (posSsiAt n)) s).get f :=
  State.get_when (travelMove_get hn ht _ _) _

theorem ssiGood_get (hn : n < 4) (v : Nat) : (ssiGood n v s).get (posSsiGood n) = 1 ∧ (ssiGood n v s).get (posSsiErrRun n) = 0 ∧
    (ssiGood n v s).get (posTheta n) = ssiTheta n v s % 2 ^ 24 ∧ (ssiGood n v s).get (posSsiPrev n) = (v + 1) % 2 ^ 33 ∧
    (ssiGood n v s).get (posUpdAt n) = s.get (posSsiAt n) := by
  simp (disch := (apply atPort n hn; decide)) only [ssiGood_eq, stillFollow_get, State.get_set_ne, State.get_set_zero, State.get_set_one,
    State.get_set_get, true_and, and_true]
  exact ⟨State.get_set_same _ _ _, State.get_set_same _ _ _⟩

theorem ssiGood_seeds (hn : n < 4) (first : s.get (posSsiGood n) = 0) (v : Nat) :
    (ssiGood n v s).get (posTrk n) = (ssiGood n v s).get (posTheta n) ∧ (ssiGood n v s).get (posOmega n) = 0 := by
  simp (disch := (apply atPort n hn; decide)) only [ssiGood_eq, stillFollow_get, State.get_set_ne, ssiMoved_get hn, ssiTrack_seeds first,
    State.get_set_zero, and_true]
  rw [State.get_set_same, State.get_set_same]
  rfl

theorem travel_ssiGood (hn : n < 4) (v : Nat) : travel n (ssiGood n v s) = travel n (ssiMoved n v s) := by
  simp (disch := (apply atPort n hn; decide)) only [ssiGood_eq, travel, State.getWide, stillFollow_get, State.get_set_ne]

theorem ssiTrack_travel (hn : n < 4) (th at_ : Nat) (s : State) : travel n (ssiTrack n th at_ s) = travel n s ∧
    travelMin n (ssiTrack n th at_ s) = travelMin n s ∧ travelMax n (ssiTrack n th at_ s) = travelMax n s := by
  simp (disch := (apply atPort n hn; decide)) only [travel, travelMin, travelMax, State.getWide, ssiTrack_get, and_self]

theorem travel_ssiGood_stays (hn : n < 4) {v : Nat} (h : s.get (posSsiPrev n) = 0 ∨ ssiStep n v s = 0) :
    travel n (ssiGood n v s) = travel n s := by
  have stays : ssiMoved n v s = ssiTrack n (ssiTheta n v s) (s.get (posSsiAt n)) s := by
    obtain none_ | zero := h
    · rw [ssiMoved, none_]; rfl
    · rw [ssiMoved, zero]
      cases s.get (posSsiPrev n) != 0
      · rfl
      · exact travelMove_zero n _
  rw [travel_ssiGood hn, stays, (ssiTrack_travel hn _ _ s).1]

theorem travel_ssiGood_moves (hn : n < 4) {v : Nat} (before : s.get (posSsiPrev n) ≠ 0) (step : ssiStep n v s ≠ 0)
    (limits : travelMin n s ≤ travelMax n s) :
    travel n (ssiGood n v s) = max (travelMin n s) (min (travelMax n s) (travel n s + ssiStep n v s)) := by
  obtain ⟨at_, lo, hi⟩ := ssiTrack_travel hn (ssiTheta n v s) (s.get (posSsiAt n)) s
  rw [travel_ssiGood hn, ssiMoved, bne_iff_ne.2 before, State.when_true, travel_travelMove hn step, travelAfter_clamped (by rw [lo, hi]; exact limits),
    at_, lo, hi]

end Ssi
end Sys2Proof.Machine
end

section
/-!
SUPPORT. SENT frames and their slow channel (R152 to R155): how a frame is judged, what an accepted one stores, and when a slow message is
whole.
-/

namespace Sys2Proof.Machine
open Reg

section Sent
variable {n : Nat} {s : State}

/-! ### The judgement of a frame (R153) -/

/-- Whether a sync pulse of `y` ticks is near its nominal length and near the pulse before it. -/
def syncFits (n y : Nat) (s : State) : Bool :=
  decide (5 * ((y : Int) - (1120 * s.get (SENT_TICK_TICK n) : Nat)).natAbs ≤ 1120 * s.get (SENT_TICK_TICK n)) &&
    (s.get (posSentSync n) == 0 || decide (64 * ((y : Int) - s.get (posSentSync n)).natAbs ≤ s.get (posSentSync n)))

theorem syncFits_iff (y : Nat) : syncFits n y s = true ↔
    5 * ((y : Int) - (1120 * s.get (SENT_TICK_TICK n) : Nat)).natAbs ≤ 1120 * s.get (SENT_TICK_TICK n) ∧
      (s.get (posSentSync n) = 0 ∨ 64 * ((y : Int) - s.get (posSentSync n)).natAbs ≤ s.get (posSentSync n)) := by
  simp only [syncFits, Bool.and_eq_true, Bool.or_eq_true, beq_iff_eq, decide_eq_true_eq]

/-- Whether the pulses are a status nibble, the data and a CRC, and a pause allowed. -/
def nibblesFit (n : Nat) (w : List (BitVec 16)) (p : Option (BitVec 16)) (s : State) : Bool :=
  w.length == s.get (SENT_CFG_DN n) + 2 && w.all (fun x => decide (12 ≤ x.toNat) && decide (x.toNat ≤ 27)) &&
    p.all fun z => s.flag (SENT_CFG_PAUSE n) && decide (12 ≤ z.toNat) && decide (z.toNat ≤ 768)

theorem nibblesFit_iff (w : List (BitVec 16)) (p : Option (BitVec 16)) : nibblesFit n w p s = true ↔
    w.length = s.get (SENT_CFG_DN n) + 2 ∧ (∀ x ∈ w, 12 ≤ x.toNat ∧ x.toNat ≤ 27) ∧
      p.toList.all (fun z => s.get (SENT_CFG_PAUSE n) != 0 && decide (12 ≤ z.toNat ∧ z.toNat ≤ 768)) = true := by
  cases p <;> simp [nibblesFit, State.flag, and_assoc]

/-- The nibbles of the pulses. -/
def nibblesOf (w : List (BitVec 16)) : List Nat := w.map fun x => x.toNat - 12

/-- The data nibbles among them. -/
def dataOf (n : Nat) (w : List (BitVec 16)) (s : State) : List Nat := ((nibblesOf w).drop 1).take (s.get (SENT_CFG_DN n))

/-- Whether the last nibble is the CRC of the data. -/
def crcFits (n : Nat) (w : List (BitVec 16)) (s : State) : Bool :=
  (nibblesOf w).getD (s.get (SENT_CFG_DN n) + 1) 16 == sentCrc (s.flag (SENT_CFG_CRCM n)) (dataOf n w s)

theorem crcFits_iff (w : List (BitVec 16)) : crcFits n w s = true ↔
    (nibblesOf w).getD (s.get (SENT_CFG_DN n) + 1) 16 = sentCrc (s.flag (SENT_CFG_CRCM n)) (dataOf n w s) :=
  beq_iff_eq

/-- A SENT frame is judged sync first, then nibbles, then its CRC. -/
theorem exec_sentFrame {n : Fin 4} (on : s.get (POS_CTRL_SENT_EN n) ≠ 0) (y : BitVec 24) (w : List (BitVec 16)) (p : Option (BitVec 16))
    (age : BitVec 32) : exec (.sentFrame n y w p age) s = .next (
      if !syncFits n y.toNat s then ((s.set (posSentSync n) y.toNat).inc (SENT_ERR_SYNC n)).set (posSlowN n) 0
      else if !nibblesFit n w p s then ((s.set (posSentSync n) y.toNat).inc (SENT_ERR_NIB n)).set (posSlowN n) 0
      else if !crcFits n w s then ((s.set (posSentSync n) y.toNat).inc (SENT_ERR_CRC n)).set (posSlowN n) 0
      else sentAccept n (s.now - age.toNat) ((nibblesOf w).getD 0 0) ((dataOf n w s).foldl (fun a d => a * 16 + d) 0)
        (s.set (posSentSync n) y.toNat)) := by
  refine congrArg Host.Outcome.next ((if_pos ((flag_eq_true_iff s _).2 on)).trans ?_)
  cases p <;> rfl

/-! ### The slow channel (R154) -/

/-- The registers of the slow channel and the state's own fields of it, and what a report writes. -/
def slowWritten (n a : Nat) : Bool :=
  reported a || [posSlow2 n, posSlow3 n, posSlowN n, SENT_SLOW_C n, SENT_STAT_OVR n, SENT_ERR_SCRC n].any fun f => a == f.addr

theorem slowWritten_of_reported (a : Nat) (h : reported a = true) : slowWritten n a = true := by simp only [slowWritten, h, Bool.true_or]

/-- The last 18 status nibbles' bits 2 and 3 with those of `nib`. -/
def slowBits2 (n nib : Nat) (s : State) : Nat := (s.get (posSlow2 n) * 2 + (nib.testBit 2).toNat) % 2 ^ 18
def slowBits3 (n nib : Nat) (s : State) : Nat := (s.get (posSlow3 n) * 2 + (nib.testBit 3).toNat) % 2 ^ 18

/-- A status nibble taken. -/
def slowTaken (n nib : Nat) (s : State) : State :=
  ((s.set (posSlow2 n) (slowBits2 n nib s)).set (posSlow3 n) (slowBits3 n nib s)).set (posSlowN n) (min 18 (s.get (posSlowN n) + 1))

/-- Whether the last 18 status nibbles are a whole message: its pattern in bit 3 (log entry 31). -/
def slowWhole (n nib : Nat) (s : State) : Prop :=
  17 ≤ s.get (posSlowN n) ∧ slowBits3 n nib s / 2 ^ 11 = 0b1111110 ∧ (slowBits3 n nib s).testBit 5 = false ∧ (slowBits3 n nib s).testBit 0 = false

/-- A message stored in the register's fields, and reported. -/
def slowStored (n c id data : Nat) (s : State) : State :=
  raiseStall n 0x37 ((((s.set (SENT_SLOW_C n) c).set (SENT_SLOW_ID n) id).set (SENT_SLOW_DATA n) data).set (SENT_STAT_NEW_SLOW n) 1)

/-- What a whole message with a valid CRC-6 comes to: `OVR` counts one that was not taken. -/
def slowAccepted (n b2 b3 : Nat) (s : State) : State :=
  slowStored n (b3.testBit 10).toNat (if b3.testBit 10 then b3 / 64 % 16 else b3 / 64 % 16 * 16 + b3 / 2 % 16)
    (if b3.testBit 10 then b3 / 2 % 16 * 4096 + b2 % 4096 else b2 % 4096)
    (s.when (s.flag (SENT_STAT_NEW_SLOW n)) fun s => s.inc (SENT_STAT_OVR n))

theorem slowBits2_lt (n nib : Nat) (s : State) : slowBits2 n nib s < 2 ^ 18 := Nat.mod_lt _ (by decide)
theorem slowBits3_lt (n nib : Nat) (s : State) : slowBits3 n nib s < 2 ^ 18 := Nat.mod_lt _ (by decide)

/-- The upper bits of a word of `lo + w` bits are all that is left above bit `lo`. -/
theorem bits_top {v lo w : Nat} (h : v < 2 ^ (lo + w)) : bits v lo w = v / 2 ^ lo :=
  Nat.mod_eq_of_lt (Nat.div_lt_of_lt_mul (by rwa [← pow_add]))

theorem sentSlow_eq (n nib : Nat) (s : State) : sentSlow n nib s =
    if min 18 (s.get (posSlowN n) + 1) = 18 ∧ bits (slowBits3 n nib s) 11 7 = 0b1111110 ∧ !bitAt (slowBits3 n nib s) 5 ∧
        !bitAt (slowBits3 n nib s) 0 then
      if bits (slowBits2 n nib s) 12 6 = sentCrc6 (slowBits2 n nib s) (slowBits3 n nib s) then
        slowAccepted n (slowBits2 n nib s) (slowBits3 n nib s) ((slowTaken n nib s).set (posSlowN n) 0)
      else ((slowTaken n nib s).set (posSlowN n) 0).inc (SENT_ERR_SCRC n)
    else slowTaken n nib s := by
  have carried : ∀ (b : Bool) (x y : Nat), (if b.toNat = 1 then x else y) = if b then x else y := fun b x y => by cases b <;> rfl
  have low : ∀ v w, bits v 0 w = v % 2 ^ w := fun v w => by rw [bits, pow_zero, Nat.div_one]
  simp only [sentSlow, slowAccepted, slowStored, slowTaken, slowBits2, slowBits3, bitAt_eq_testBit, carried, low]
  rfl

theorem slowWhole_iff (n nib : Nat) (s : State) : slowWhole n nib s ↔
    min 18 (s.get (posSlowN n) + 1) = 18 ∧ bits (slowBits3 n nib s) 11 7 = 0b1111110 ∧ !bitAt (slowBits3 n nib s) 5 ∧
      !bitAt (slowBits3 n nib s) 0 := by
  have full : min 18 (s.get (posSlowN n) + 1) = 18 ↔ 17 ≤ s.get (posSlowN n) := by omega
  simp only [slowWhole, full, bits_top (lo := 11) (w := 7) (slowBits3_lt n nib s), bitAt_eq_testBit, Bool.not_eq_true']

theorem sentSlow_partial {nib : Nat} (h : ¬slowWhole n nib s) : sentSlow n nib s = slowTaken n nib s := by
  rw [sentSlow_eq, if_neg (mt (slowWhole_iff n nib s).2 h)]

theorem sentSlow_whole {nib : Nat} (h : slowWhole n nib s) : sentSlow n nib s =
    if slowBits2 n nib s / 2 ^ 12 = sentCrc6 (slowBits2 n nib s) (slowBits3 n nib s) then
      slowAccepted n (slowBits2 n nib s) (slowBits3 n nib s) ((slowTaken n nib s).set (posSlowN n) 0)
    else ((slowTaken n nib s).set (posSlowN n) 0).inc (SENT_ERR_SCRC n) := by
  rw [sentSlow_eq, if_pos ((slowWhole_iff n nib s).1 h), bits_top (lo := 12) (w := 6) (slowBits2_lt n nib s)]

theorem sentSlow_writes (hn : n < 4) (nib : Nat) (s : State) : WritesOnly (slowWritten n) s (sentSlow n nib s) := by
  have bit2 : slowWritten n ((posSlow2 n).key / 32) = true := by apply atPort n hn; decide
  have bit3 : slowWritten n ((posSlow3 n).key / 32) = true := by apply atPort n hn; decide
  have count : slowWritten n ((posSlowN n).key / 32) = true := by apply atPort n hn; decide
  have crc : slowWritten n ((SENT_ERR_SCRC n).key / 32) = true := by apply atPort n hn; decide
  have missed : slowWritten n ((SENT_STAT_OVR n).key / 32) = true := by apply atPort n hn; decide
  have conf : slowWritten n ((SENT_SLOW_C n).key / 32) = true := by apply atPort n hn; decide
  have id_ : slowWritten n ((SENT_SLOW_ID n).key / 32) = true := by apply atPort n hn; decide
  have data : slowWritten n ((SENT_SLOW_DATA n).key / 32) = true := by apply atPort n hn; decide
  have new : slowWritten n ((SENT_STAT_NEW_SLOW n).key / 32) = true := by apply atPort n hn; decide
  have taken : WritesOnly (slowWritten n) s (slowTaken n nib s) := (((WritesOnly.refl _ s).set bit2 _).set bit3 _).set count _
  rw [sentSlow_eq]
  refine WritesOnly.cond (WritesOnly.cond ?_ ((taken.set count _).set crc _)) taken
  have counted : WritesOnly (slowWritten n) s (((slowTaken n nib s).set (posSlowN n) 0).when
      (((slowTaken n nib s).set (posSlowN n) 0).flag (SENT_STAT_NEW_SLOW n)) fun s => s.inc (SENT_STAT_OVR n)) :=
    (taken.set count _).when fun h => h.set missed _
  exact ((((counted.set conf _).set id_ _).set data _).set new _).reports slowWritten_of_reported (raiseStall_reports _ _ _)

theorem sentSlow_get (hn : n < 4) {f : Fld} (h : slowWritten n (f.key / 32) = false) (nib : Nat) (s : State) :
    (sentSlow n nib s).get f = s.get f :=
  (sentSlow_writes hn nib s).get f h

/-! ### An accepted frame (R154, R155, R168) -/

theorem State.when_eq_ite {c : Bool} {p : Prop} [Decidable p] (h : c = true ↔ p) {F : State → State} {s : State} :
    s.when c F = if p then F s else s :=
  ite_congr (propext h) (fun _ => rfl) fun _ => rfl

/-- The frame's status nibble, data and time stamp stored. -/
def fastData (n t nib data : Nat) (s : State) : State :=
  (((s.set (SENT_FAST_STATUS n) nib).set (SENT_FAST_DATA n) data).set (SENT_STAT_NEW_FAST n) 1).setWide (SENT_FAST_TB_LO_TB n)
    (SENT_FAST_TB_HI_TB n) t

/-- `LOST` ended, and the timeout begun anew. -/
def fastStored (n t nib data : Nat) (s : State) : State :=
  ((fastData n t nib data s).set (SENT_STAT_LOST n) 0).set (posSentAt n) s.now

/-- What storing the frame writes. -/
def fastWritten (n a : Nat) : Bool :=
  [SENT_FAST_STATUS n, SENT_STAT_NEW_FAST n, SENT_FAST_TB_LO_TB n, SENT_FAST_TB_HI_TB n, posSentAt n].any fun f => a == f.addr

theorem fastStored_get (hn : n < 4) {f : Fld} (h : fastWritten n (f.key / 32) = false) (t nib data : Nat) (s : State) :
    (fastStored n t nib data s).get f = s.get f := by
  have status : fastWritten n ((SENT_FAST_STATUS n).key / 32) = true := by apply atPort n hn; decide
  have word : fastWritten n ((SENT_FAST_DATA n).key / 32) = true := by apply atPort n hn; decide
  have new : fastWritten n ((SENT_STAT_NEW_FAST n).key / 32) = true := by apply atPort n hn; decide
  have lo : fastWritten n ((SENT_FAST_TB_LO_TB n).key / 32) = true := by apply atPort n hn; decide
  have hi : fastWritten n ((SENT_FAST_TB_HI_TB n).key / 32) = true := by apply atPort n hn; decide
  have lost : fastWritten n ((SENT_STAT_LOST n).key / 32) = true := by apply atPort n hn; decide
  have at_ : fastWritten n ((posSentAt n).key / 32) = true := by apply atPort n hn; decide
  have stored : WritesOnly (fastWritten n) s (fastStored n t nib data s) :=
    ((((((WritesOnly.refl _ s).set status _).set word _).set new _).set lo _).set hi _).set lost _ |>.set at_ _
  exact stored.get f h

/-- The cross-check's run starts anew when its source comes back. -/
def sourceBack (n t nib data : Nat) (s : State) : State :=
  if s.get (SENT_STAT_LOST n) ≠ 0 ∧ s.get (POS_XCHK_SRC n) = 2 then (fastStored n t nib data s).set (posXRun n) 0 else fastStored n t nib data s

/-- The status nibble fed to the slow channel. -/
def slowFed (n t nib data : Nat) (s : State) : State :=
  if s.get (SENT_CFG_SLOW_EN n) ≠ 0 then sentSlow n nib (sourceBack n t nib data s) else sourceBack n t nib data s

theorem fastStored_fields (hn : n < 4) (t nib data : Nat) (s : State) :
    (fastStored n t nib data s).get (SENT_FAST_STATUS n) = nib % 16 ∧ (fastStored n t nib data s).get (SENT_FAST_DATA n) = data % 2 ^ 24 ∧
    (fastStored n t nib data s).get (SENT_STAT_NEW_FAST n) = 1 ∧
    (fastStored n t nib data s).getWide (SENT_FAST_TB_LO_TB n) (SENT_FAST_TB_HI_TB n) = t % 2 ^ 64 := by
  have apart : (SENT_FAST_TB_LO_TB n).key ≠ (SENT_FAST_TB_HI_TB n).key := by apply atPort n hn; decide
  refine ⟨?_, ?_, ?_, ?_⟩
  · simp (disch := (apply atPort n hn; decide)) only [fastStored, fastData, State.get_setWide_ne, State.get_set_ne]
    exact State.get_set_same _ _ _
  · simp (disch := (apply atPort n hn; decide)) only [fastStored, fastData, State.get_setWide_ne, State.get_set_ne]
    exact State.get_set_same _ _ _
  · simp (disch := (apply atPort n hn; decide)) only [fastStored, fastData, State.get_setWide_ne, State.get_set_ne, State.get_set_one]
  · refine Eq.trans ?_ (State.getWide_setWide apart rfl (((s.set (SENT_FAST_STATUS n) nib).set (SENT_FAST_DATA n) data).set (SENT_STAT_NEW_FAST n) 1) t)
    simp (disch := (apply atPort n hn; decide)) only [fastStored, fastData, State.getWide, State.get_set_ne]

theorem sourceBack_get {f : Fld} (h : f.key ≠ (posXRun n).key) (t nib data : Nat) (s : State) :
    (sourceBack n t nib data s).get f = (fastStored n t nib data s).get f := by
  rw [sourceBack]
  split
  · exact State.get_set_ne _ _ _ _ h
  · rfl

theorem slowFed_get (hn : n < 4) {f : Fld} (hs : slowWritten n (f.key / 32) = false) (h : f.key ≠ (posXRun n).key) (t nib data : Nat)
    (s : State) : (slowFed n t nib data s).get f = (fastStored n t nib data s).get f := by
  rw [slowFed]
  split
  · exact (sentSlow_get hn hs _ _).trans (sourceBack_get h _ _ _ _)
  · exact sourceBack_get h _ _ _ _

theorem sentAngle_slowFed (hn : n < 4) (t nib data : Nat) (s : State) :
    sentAngle n (slowFed n t nib data s) = sentAngle n (fastStored n t nib data s) := by
  simp (disch := (apply atPort n hn; decide)) only [sentAngle, slowFed_get hn]

theorem sentAccept_eq (hn : n < 4) (t nib data : Nat) (s : State) : sentAccept n t nib data s =
    (slowFed n t nib data s).when (s.get (POS_XCHK_SRC n) == 2 && s.get (SENT_ANG_RATIO n) != 0 && posOn n s)
      (crossCheck n (sentAngle n (fastStored n t nib data s)) (t - 200 * s.get (SENT_ANG_LAT n))) := by
  have back : (fastStored n t nib data s).when ((fastData n t nib data s).flag (SENT_STAT_LOST n) &&
      (fastData n t nib data s).get (POS_XCHK_SRC n) == 2) (fun s => s.set (posXRun n) 0) = sourceBack n t nib data s := by
    simp (disch := (apply atPort n hn; decide)) only [fastData, State.flag, State.get_setWide_ne, State.get_set_ne]
    exact State.when_eq_ite (by simp only [Bool.and_eq_true, bne_iff_ne, beq_iff_eq])
  have fed : (sourceBack n t nib data s).when ((sourceBack n t nib data s).flag (SENT_CFG_SLOW_EN n)) (sentSlow n nib) =
      slowFed n t nib data s := by
    simp (disch := (apply atPort n hn; decide)) only [State.flag, sourceBack_get, fastStored_get hn]
    exact State.when_eq_ite bne_iff_ne
  calc sentAccept n t nib data s
      = let u := (fastStored n t nib data s).when ((fastData n t nib data s).flag (SENT_STAT_LOST n) &&
            (fastData n t nib data s).get (POS_XCHK_SRC n) == 2) (fun s => s.set (posXRun n) 0)
        let x := u.when (u.flag (SENT_CFG_SLOW_EN n)) (sentSlow n nib)
        x.when (x.get (POS_XCHK_SRC n) == 2 && x.get (SENT_ANG_RATIO n) != 0 && posOn n x)
          (crossCheck n (sentAngle n x) (t - 200 * x.get (SENT_ANG_LAT n))) := rfl
    _ = _ := by
        simp only [back, fed]
        simp (disch := (apply atPort n hn; decide)) only [posOn, State.flag, slowFed_get hn, fastStored_get hn, sentAngle_slowFed hn]

end Sent
end Sys2Proof.Machine
end

section
/-!
SUPPORT. SENT's CRC-6 leaves no remainder (log entry 31), and a channel with no frame in time is lost (R155).
-/

namespace Sys2Proof.Machine
open Reg

/-! ### The CRC-6 of the slow channel's message -/

/-- One bit into the CRC-6 register of the enhanced serial message. -/
def crc6Step (c : Nat) (b : Bool) : Nat := crcBits 6 0x19 1 c ^^^ b.toNat

/-- The 24 bits that the CRC-6 covers, bits 2 and 3 of frames 7 to 18 in turn. -/
def messageBits (b2 b3 : Nat) : List Bool := (List.range 12).flatMap fun i => [b2.testBit (11 - i), b3.testBit (11 - i)]

theorem crc6Step_lt (c : Nat) (hc : c < 64) (b : Bool) : crc6Step c b < 64 := by
  have all : ∀ k < 64, ∀ b : Bool, crc6Step k b < 64 := by decide
  exact all c hc b

theorem foldl_crc6Step_lt (l : List Bool) (c : Nat) (hc : c < 64) : l.foldl crc6Step c < 64 := by
  induction l generalizing c with
  | nil => exact hc
  | cons b l ih => exact ih _ (crc6Step_lt c hc b)

/-- Six bits of augmentation give the remainder, and sent after the data they leave none. -/
theorem crc6_remainder (c : Nat) (hc : c < 64) :
    crcBits 6 0x19 6 c < 64 ∧ ((List.range 6).map fun i => (crcBits 6 0x19 6 c).testBit (5 - i)).foldl crc6Step c = 0 := by
  have all : ∀ k < 64, crcBits 6 0x19 6 k < 64 ∧ ((List.range 6).map fun i => (crcBits 6 0x19 6 k).testBit (5 - i)).foldl crc6Step k = 0 := by
    decide
  exact all c hc

theorem sentCrc6_eq (b2 b3 : Nat) : sentCrc6 b2 b3 = crcBits 6 0x19 6 ((messageBits b2 b3).foldl crc6Step 0b010101) := by
  simp only [sentCrc6, bitAt_eq_testBit]
  rfl

theorem sentCrc6_checks (b2 b3 : Nat) : sentCrc6 b2 b3 < 64 ∧
    (messageBits b2 b3 ++ (List.range 6).map fun i => (sentCrc6 b2 b3).testBit (5 - i)).foldl crc6Step 0b010101 = 0 := by
  rw [sentCrc6_eq, List.foldl_append]
  exact crc6_remainder _ (foldl_crc6Step_lt _ _ (by decide))

/-! ### The timeout (R155) -/

theorem exec_sentTimeout {n : Fin 4} {s : State} (on : s.get (POS_CTRL_SENT_EN n) ≠ 0) (had : s.get (SENT_STAT_LOST n) = 0)
    (due : s.get (posSentAt n) + 200 * s.get (SENT_TO_TO n) ≤ s.now) : exec (.sentTimeout n) s = .next (raiseStallFault n 3 0x10 .ride
      (raiseStall n 0x36 ((s.set (SENT_STAT_LOST n) 1).when (s.get (POS_XCHK_SRC n) == 2) fun s => s.set (posXRun n) 0))) := by
  have lost : (s.flag (POS_CTRL_SENT_EN n) && !s.flag (SENT_STAT_LOST n) &&
      decide (s.get (posSentAt n) + 200 * s.get (SENT_TO_TO n) ≤ s.now)) = true := by
    rw [(flag_eq_true_iff s _).2 on, (flag_eq_false_iff s _).2 had, decide_eq_true due]; rfl
  exact congrArg Host.Outcome.next (if_pos lost)

end Sys2Proof.Machine
end

section
/-!
O27, SerialFramesJudged.
-/

namespace Sys2Proof.Machine
open Reg

section Parts
variable {s : State}

/-- Clause by clause, an SSI frame taken is delivered, discarded, or the last that its sensor may lose (R149 to R151). -/
theorem exec_ssiFrame_judged {n : Fin 4} {raw : BitVec 32} {r : Nat} (taken : exec (.ssiFrame n raw) s = .next (ssiFrame n r s)) :
    (ssiBad n r (ssiField n r s) (frameTaken n r s) = false →
      exec (.ssiFrame n raw) s = .next (ssiGood n (ssiField n r s) (frameTaken n r s))) ∧
    (ssiBad n r (ssiField n r s) (frameTaken n r s) = true →
      (frameDiscarded n (frameTaken n r s)).get (posSsiErrRun n) < s.get (POS_SSI_TIM_ERR_N n) →
      exec (.ssiFrame n raw) s = .next (frameDiscarded n (frameTaken n r s))) ∧
    (ssiBad n r (ssiField n r s) (frameTaken n r s) = true →
      s.get (POS_SSI_TIM_ERR_N n) ≤ (frameDiscarded n (frameTaken n r s)).get (posSsiErrRun n) →
      exec (.ssiFrame n raw) s = .next (sensorFailed n 8 (frameDiscarded n (frameTaken n r s)))) := by
  refine ⟨fun good => ?_, fun bad few => ?_, fun bad many => ?_⟩
  · rw [taken, ssiFrame_good good]
  · rw [taken, ssiFrame_bad n.isLt bad, decide_eq_false (not_le.2 few), State.when_false]
  · rw [taken, ssiFrame_bad n.isLt bad, decide_eq_true many, State.when_true]

theorem sentAccept_unchecked {n : Nat} (hn : n < 4) {t nib data : Nat}
    (off : s.get (POS_XCHK_SRC n) ≠ 2 ∨ s.get (SENT_ANG_RATIO n) = 0 ∨ s.get (POS_CTRL_EN n) = 0) :
    sentAccept n t nib data s = slowFed n t nib data s := by
  have unchecked : (s.get (POS_XCHK_SRC n) == 2 && s.get (SENT_ANG_RATIO n) != 0 && posOn n s) = false := by
    rw [Bool.and_eq_false_iff, Bool.and_eq_false_iff, beq_eq_false_iff_ne, bne_eq_false_iff_eq, posOn, flag_eq_false_iff, or_assoc]
    exact off
  rw [sentAccept_eq hn, unchecked, State.when_false]

theorem sentAccept_checked {n : Nat} (hn : n < 4) {t nib data : Nat} (src : s.get (POS_XCHK_SRC n) = 2) (ratio : s.get (SENT_ANG_RATIO n) ≠ 0)
    (on : s.get (POS_CTRL_EN n) ≠ 0) : sentAccept n t nib data s =
      crossCheck n (sentAngle n (fastStored n t nib data s)) (t - 200 * s.get (SENT_ANG_LAT n)) (slowFed n t nib data s) := by
  rw [sentAccept_eq hn, beq_iff_eq.2 src, bne_iff_ne.2 ratio, posOn_eq_true on, Bool.and_self, Bool.and_self, State.when_true]

/-- A slow message that was not taken counts in `OVR`. -/
def slowMissed (n nib : Nat) (s : State) : State :=
  if s.get (SENT_STAT_NEW_SLOW n) ≠ 0 then ((slowTaken n nib s).set (posSlowN n) 0).inc (SENT_STAT_OVR n) else (slowTaken n nib s).set (posSlowN n) 0

theorem when_slowMissed {n : Nat} (hn : n < 4) (nib : Nat) (s : State) :
    (((slowTaken n nib s).set (posSlowN n) 0).when (((slowTaken n nib s).set (posSlowN n) 0).flag (SENT_STAT_NEW_SLOW n))
      fun s => s.inc (SENT_STAT_OVR n)) = slowMissed n nib s := by
  have new : ((slowTaken n nib s).set (posSlowN n) 0).get (SENT_STAT_NEW_SLOW n) = s.get (SENT_STAT_NEW_SLOW n) := by
    simp (disch := (apply atPort n hn; decide)) only [slowTaken, State.get_set_ne]
  exact State.when_eq_ite (by rw [flag_eq_true_iff, new])

section Whole
variable {n nib : Nat} (whole : slowWhole n nib s)
include whole

theorem sentSlow_badCrc (crc : slowBits2 n nib s / 2 ^ 12 ≠ sentCrc6 (slowBits2 n nib s) (slowBits3 n nib s)) :
    sentSlow n nib s = ((slowTaken n nib s).set (posSlowN n) 0).inc (SENT_ERR_SCRC n) := by
  rw [sentSlow_whole whole, if_neg crc]

theorem sentSlow_accepted (hn : n < 4) (crc : slowBits2 n nib s / 2 ^ 12 = sentCrc6 (slowBits2 n nib s) (slowBits3 n nib s))
    {long : Bool} (format : (slowBits3 n nib s).testBit 10 = long) : sentSlow n nib s =
      slowStored n long.toNat (if long then slowBits3 n nib s / 64 % 16 else slowBits3 n nib s / 64 % 16 * 16 + slowBits3 n nib s / 2 % 16)
        (if long then slowBits3 n nib s / 2 % 16 * 4096 + slowBits2 n nib s % 4096 else slowBits2 n nib s % 4096) (slowMissed n nib s) := by
  rw [sentSlow_whole whole, if_pos crc, slowAccepted, when_slowMissed hn, format]

theorem sentSlow_short (hn : n < 4) (crc : slowBits2 n nib s / 2 ^ 12 = sentCrc6 (slowBits2 n nib s) (slowBits3 n nib s))
    (short : (slowBits3 n nib s).testBit 10 = false) : sentSlow n nib s =
      slowStored n 0 (slowBits3 n nib s / 64 % 16 * 16 + slowBits3 n nib s / 2 % 16) (slowBits2 n nib s % 4096) (slowMissed n nib s) := by
  simp only [sentSlow_accepted whole hn crc short, Bool.toNat_false, Bool.false_eq_true, if_false]

theorem sentSlow_long (hn : n < 4) (crc : slowBits2 n nib s / 2 ^ 12 = sentCrc6 (slowBits2 n nib s) (slowBits3 n nib s))
    (long : (slowBits3 n nib s).testBit 10 = true) : sentSlow n nib s =
      slowStored n 1 (slowBits3 n nib s / 64 % 16) (slowBits3 n nib s / 2 % 16 * 4096 + slowBits2 n nib s % 4096) (slowMissed n nib s) := by
  simp only [sentSlow_accepted whole hn crc long, Bool.toNat_true, if_true]

end Whole

end Parts

/-- Settles O27: the judgement of a frame picks the clause, and what an accepted frame stores is read through the frames of the slow channel. -/
theorem serialFramesJudged : Obligations.SerialFramesJudged := by
  refine ⟨fun n raw s on busy due => exec_ssiFrame_judged (exec_ssiFrame on busy due), fun n r v s hst => ssiBad_iff r v hst, fun n v s hn => ?good,
    fun n y w p age s on => ?frame, fun n t nib data s hn => ?accept, fun n nib s hn => ?slow, sentCrc6_checks, fun n s on had due => ?lost,
    fun k v _ hv => ?gray⟩
  case good =>
    obtain ⟨grade, run, theta, prev, upd⟩ := ssiGood_get hn v
    exact ⟨grade, run, theta, prev, upd, fun first => ssiGood_seeds hn first v, travel_ssiGood_stays hn, travel_ssiGood_moves hn⟩
  case frame =>
    rw [exec_sentFrame on]
    refine ⟨fun sync => ?_, fun sync nibs => ?_, fun sync nibs crc => ?_, fun sync nibs crc => ?_⟩
    · rw [Bool.eq_false_iff.2 (mt (syncFits_iff _).1 sync)]; rfl
    · rw [(syncFits_iff _).2 sync, Bool.eq_false_iff.2 (mt (nibblesFit_iff w p).1 nibs)]; rfl
    · rw [(syncFits_iff _).2 sync, (nibblesFit_iff w p).2 nibs, Bool.eq_false_iff.2 (mt (crcFits_iff w).1 crc)]; rfl
    · rw [(syncFits_iff _).2 sync, (nibblesFit_iff w p).2 nibs, (crcFits_iff w).2 crc]; rfl
  case accept => exact ⟨sentAccept_unchecked hn, sentAccept_checked hn, fastStored_fields hn t nib data s⟩
  case slow =>
    exact ⟨sentSlow_partial, sentSlow_badCrc, fun whole => sentSlow_short whole hn, fun whole => sentSlow_long whole hn⟩
  case lost =>
    rw [exec_sentTimeout on had due]
    exact ⟨fun other => by rw [beq_eq_false_iff_ne.2 other, State.when_false], fun source => by rw [beq_iff_eq.2 source, State.when_true]⟩
  case gray => rw [grayDecode_encode, Nat.div_eq_of_lt hv, Nat.xor_zero]

end Sys2Proof.Machine
end

section
/-!
SUPPORT. What the output stage (R228 to R232, R275), the contactor requests (R332) and a Stall's entry into its safe state (R274 to R286) write, by
the keys of the fields. Registers that hold fields of several writers, `PROT_STAT` first, ask for keys where `WritesOnly` has addresses.
-/

namespace Sys2Proof.Machine
open Reg

/-! ### Frames by keys -/

/-- From `s` to `t` only fields whose keys `w` names change, and the downlink frames that wait stay. -/
structure WritesKeys (w : Nat → Bool) (s t : State) : Prop where
  get : ∀ g : Fld, w g.key = false → t.get g = s.get g
  dn : t.dn = s.dn

namespace WritesKeys

variable {w v : Nat → Bool} {a s t : State} {f : Fld}

theorem refl (w : Nat → Bool) (s : State) : WritesKeys w s s := ⟨fun _ _ => rfl, rfl⟩

theorem trans (h : WritesKeys w a s) (k : WritesKeys w s t) : WritesKeys w a t :=
  ⟨fun g hg => (k.get g hg).trans (h.get g hg), k.dn.trans h.dn⟩

theorem mono (h : WritesKeys v a s) (hvw : ∀ k, v k = true → w k = true) : WritesKeys w a s :=
  ⟨fun g hg => h.get g (Bool.eq_false_iff.2 (mt (hvw _) (Bool.eq_false_iff.1 hg))), h.dn⟩

theorem set (h : WritesKeys w a s) (hf : w f.key = true) (x : Nat) : WritesKeys w a (s.set f x) := by
  refine ⟨fun g hg => ?_, h.dn⟩
  have apart : g.key ≠ f.key := fun e => Bool.false_ne_true (hg.symm.trans (e ▸ hf))
  exact (State.get_set_ne _ _ _ _ apart).trans (h.get g hg)

/-- One rule for each field of a list of named fields. -/
theorem sets {l : List Fld} (hl : ∀ f ∈ l, w f.key = true) :
    ∀ f ∈ l, ∀ (x : Nat) (t : State), WritesKeys w a t → WritesKeys w a (t.set f x) :=
  fun f hf x _ h => h.set (hl f hf) x

theorem when {c : Bool} {F : State → State} (h : WritesKeys w a s) (k : WritesKeys w a s → WritesKeys w a (F s)) :
    WritesKeys w a (s.when c F) := by
  cases c with
  | true => exact k h
  | false => exact h

theorem cond {c : Prop} [Decidable c] (hs : WritesKeys w a s) (ht : WritesKeys w a t) : WritesKeys w a (if c then s else t) := by
  split <;> assumption

theorem each {l : List Nat} {F : Nat → State → State} (h : WritesKeys w a s)
    (k : ∀ i ∈ l, ∀ t, WritesKeys w a t → WritesKeys w a (F i t)) : WritesKeys w a (s.each l F) := by
  unfold State.each
  induction l generalizing s with
  | nil => exact h
  | cons i r ih => exact ih (k i List.mem_cons_self s h) fun j hj => k j (List.mem_cons_of_mem _ hj)

theorem reports (h : WritesKeys w a s) (hw : ∀ k, reported (k / 32) = true → w k = true) (hr : Reports s t) : WritesKeys w a t := by
  obtain ⟨-, -, -, -, sameDn, -⟩ := hr.rest
  refine ⟨fun g hg => ?_, sameDn.trans h.dn⟩
  have silent : reported (g.key / 32) = false := Bool.eq_false_iff.2 (mt (hw _) (Bool.eq_false_iff.1 hg))
  exact (hr.get g silent).trans (h.get g hg)

end WritesKeys

/-! ### The output stage -/

/-- Keys that the output stage writes: what a report writes, the own fields of the PWM and of the Rein links, and the registers of the lines and of
their counts. -/
def lineKey (k : Nat) : Bool :=
  let a := k / 32
  reported a || (decide (2 ^ 40 ≤ a) && [0, 6, 56].contains (a / 2 ^ 30 % 64)) ||
    (List.range 5).any fun n => [0x41008134, 0x41008144, 0x41008154, 0x41008158].contains (a - 0x100000 * n)

theorem lineKey_of_reported (k : Nat) (h : reported (k / 32) = true) : lineKey k = true := by simp [lineKey, h]

/-- The own fields of the PWM and the Rein links. -/
theorem lineKey_ix {blk id i : Nat} (own : blk ∈ [0, 6, 56]) (hid : id < 4096) (hi : i < 0x40000) (dom x r : Nat) :
    lineKey (ix dom blk id i x r).key = true := by
  have small : blk < 64 := by simp at own; omega
  have high : 2 ^ 40 ≤ (ix dom blk id i x r).key / 32 := by simp only [Fld.key, ix]; omega
  have block : (ix dom blk id i x r).key / 32 / 2 ^ 30 % 64 = blk := by simp only [Fld.key, ix]; omega
  simp only [lineKey, block, high, decide_true, Bool.true_and, List.contains_iff_mem.2 own, Bool.or_true, Bool.true_or]

theorem linkBlk_own (l : Nat) : linkBlk l ∈ [0, 6, 56] := by
  unfold linkBlk; split <;> decide

section Stage
variable {a s t : State} {n i : Nat}

theorem reinEdge_keys (h : WritesKeys lineKey a s) {l kind : Nat} (hl : l < 15) (hk : kind < 4) (t : Nat) :
    WritesKeys lineKey a (reinEdge l kind t s) := by
  have early : ∀ m < 5, lineKey (PWM_GP_STAT_PREV m).key = true := by decide
  have at_ : ∀ j < 4, lineKey (reinEAt l (4 * kind + j)).key = true := fun j hj => lineKey_ix (linkBlk_own l) (by decide) (by omega) _ _ _
  have info : ∀ j < 4, lineKey (reinEInfo l (4 * kind + j)).key = true := fun j hj => lineKey_ix (linkBlk_own l) (by decide) (by omega) _ _ _
  have stamp : lineKey (reinVonStamp l (kind / 2)).key = true := lineKey_ix (linkBlk_own l) (by decide) (by omega) _ _ _
  have sample : lineKey (reinVsEnd l (kind / 2)).key = true := lineKey_ix (linkBlk_own l) (by decide) (by omega) _ _ _
  unfold reinEdge
  refine WritesKeys.when (((WritesKeys.each (h.when fun h => h.set (early _ (by omega)) _) fun j hj t ht => ?_).set (at_ 0 (by decide)) _).set
    (info 0 (by decide)) _) fun h => (h.set stamp _).set sample _
  have small : j < 4 := by simp at hj; omega
  exact (ht.set (at_ j small) _).set (info j small) _

theorem callOn_keys (h : WritesKeys lineKey a s) (hi : i < 6) (t : Nat) : WritesKeys lineKey a (callOn n i t s) :=
  h.when fun h => h.set (lineKey_ix (by decide) (by decide) (by omega) _ _ _) _

section Line
variable (hn : n < 5)
include hn

theorem setLine_keys (h : WritesKeys lineKey a s) (hi : i < 6) (t : Nat) (on : Bool) : WritesKeys lineKey a (setLine n i t on s) := by
  have line : lineKey (PWM_LINES_LINE n).key = true := by apply atStall n hn; decide
  have edge : 2 * (i % 2) + (!on).toNat < 4 := by have := Bool.toNat_lt (!on); omega
  have moved := reinEdge_keys (h.set line (putBit (s.get (PWM_LINES_LINE n)) i on)) (l := 3 * n + i / 2) (by omega) edge t
  unfold setLine
  refine WritesKeys.cond h (WritesKeys.cond ?on ?off)
  case on => exact moved.set (lineKey_ix (by decide) (by decide) (by omega) _ _ _) _
  case off => exact moved.set (lineKey_ix (by decide) (by decide) (by omega) _ _ _) _

theorem suppress_keys (h : WritesKeys lineKey a s) (i : Nat) : WritesKeys lineKey a (suppress n i s) := by
  have count : lineKey (PWM_SHOOT_STAT_COUNT n).key = true := by apply atStall n hn; decide
  have held : lineKey (pwmSup n).key = true := lineKey_ix (by decide) (by decide) (by decide) _ _ _
  exact (((h.set held _).set count _).reports lineKey_of_reported (raiseStall_reports n 3 _)).reports lineKey_of_reported (recordFault_reports _ _ _)

theorem turnOn_keys (h : WritesKeys lineKey a s) (hi : i < 6) (p t : Nat) : WritesKeys lineKey a (turnOn n i p t s) :=
  h.when fun h => setLine_keys hn h hi _ _

theorem turnOff_keys (h : WritesKeys lineKey a s) (hi : i < 6) (t : Nat) : WritesKeys lineKey a (turnOff n i t s) := by
  have held : lineKey (pwmSup n).key = true := lineKey_ix (by decide) (by decide) (by decide) _ _ _
  exact ((setLine_keys hn h hi t false).set held _).set (lineKey_ix (by decide) (by decide) (by omega) _ _ _) 0

theorem shoot_keys (h : WritesKeys lineKey a s) {b c : Nat} (hb : b < 6) (hc : c < 6) (t : Nat) : WritesKeys lineKey a (shoot n b c t s) := by
  unfold shoot
  refine WritesKeys.cond ?both (WritesKeys.cond ?later ?earlier)
  case both => exact suppress_keys hn (suppress_keys hn (setLine_keys hn (setLine_keys hn h hb t false) hc t false) b) c
  case later => exact turnOn_keys hn (suppress_keys hn h b) hc b t
  case earlier => exact turnOn_keys hn (suppress_keys hn h c) hb c t

theorem stageHalf_keys (h : WritesKeys lineKey a s) {k : Nat} (hk : k < 3) (t want : Nat) : WritesKeys lineKey a (stageHalf n t want k s) := by
  have called := h.each (l := [2 * k, 2 * k + 1]) (F := fun i s => if bitAt want i then callOn n i t s else turnOff n i t s) fun i hi u hu => by
    have line : i < 6 := by simp at hi; omega
    exact WritesKeys.cond (callOn_keys hu line t) (turnOff_keys hn hu line t)
  unfold stageHalf
  refine WritesKeys.cond ?both (WritesKeys.cond ?high (WritesKeys.cond ?low called))
  case both => exact shoot_keys hn called (by omega) (by omega) t
  case high => exact turnOn_keys hn called (by omega) _ t
  case low => exact turnOn_keys hn called (by omega) _ t

/-- The output stage of a Stall writes its own fields and what a report writes. -/
theorem refreshLines_keys (t : Nat) (s : State) : WritesKeys lineKey s (refreshLines n t s) :=
  (WritesKeys.refl _ s).each fun k hk _ hu => stageHalf_keys hn hu (by simp at hk; omega) t _

theorem WritesKeys.lines {w : Nat → Bool} (hw : ∀ k, lineKey k = true → w k = true) (h : WritesKeys w a s) (t : Nat) :
    WritesKeys w a (refreshLines n t s) :=
  h.trans ((refreshLines_keys hn t s).mono hw)

/-! ### Edges of the reference signal (R206, R208, R210) -/

theorem commandOff_keys (h : WritesKeys lineKey a s) (hi : i < 6) (t : Nat) : WritesKeys lineKey a (commandOff n i t s) := by
  have command : lineKey (PWM_LINES_CMD n).key = true := by apply atStall n hn; decide
  have count : lineKey (PWM_CNT_MINP_BRIDGED n).key = true := by apply atStall n hn; decide
  have own : ∀ id j x r, id < 4096 → j < 6 → lineKey (ix n 0 id j x r).key = true := fun id j x r hid hj =>
    lineKey_ix (by decide) hid (by omega) _ _ _
  have commanded := (h.set command (putBit (s.get (PWM_LINES_CMD n)) i false)).set (f := pwmRemoved n) (own _ _ _ _ (by decide) (by decide))
  unfold commandOff
  refine WritesKeys.cond ?bridged (WritesKeys.cond ?held (commanded _))
  case bridged => exact ((commanded _).set (f := pwmBridged n) (own _ _ _ _ (by decide) (by decide)) _).set count _
  case held =>
    exact ((commanded _).set (f := pwmHold n) (own _ _ _ _ (by decide) (by decide)) _).set (f := pwmHoldAt n i) (own _ _ _ _ (by decide) hi) _

theorem refEdge_keys (h : WritesKeys lineKey a s) {k : Nat} (hk : k < 3) (on : Bool) (t : Nat) : WritesKeys lineKey a (refEdge n k on t s) := by
  have own : ∀ id x, id < 4096 → lineKey (ix n 0 id k x 0).key = true := fun id x hid => lineKey_ix (by decide) hid (by omega) _ _ _
  have line : ∀ b u, lineFor n k b u < 6 := fun b u => by unfold lineFor; split <;> omega
  have here := h.lines hn (fun _ e => e) t
  unfold refEdge
  refine WritesKeys.cond h (WritesKeys.lines hn (fun _ e => e) ?_ _)
  refine ((commandOff_keys hn ?_ (line _ _) _).set (f := pwmDtPend n k) (own _ _ (by decide)) 1).set (f := pwmDtAt n k) (own _ _ (by decide)) _
  exact (here.set (f := pwmRef n k) (own _ _ (by decide)) _).set (f := pwmEdge n k) (own _ _ (by decide)) _

end Line
end Stage

/-! ### Contactor requests (R332) -/

/-- The fields of the contactor requests. -/
def ctcFields : List Fld :=
  [CTC_STAT_REQ, ctcReqAt 0, ctcReqAt 1, ctcReqAt 2, ctcReqAt 3, ctcReqAt 4, ctcZero 0, ctcZero 1, ctcZero 2, ctcZero 3]

/-- Keys that the contactor requests write. -/
def ctcKey (k : Nat) : Bool := ctcFields.any fun f => f.key == k

theorem ctcUpdate_keys (s : State) : WritesKeys ctcKey s (ctcUpdate s) := by
  have source : ∀ i ∈ [0, 1, 2, 3, 4], ctcKey (ctcReqAt i).key = true := by decide
  have zero : ∀ k ∈ [0, 1, 2, 3], ctcKey (ctcZero k).key = true := by decide
  have asked : ∀ t x, WritesKeys ctcKey s t → WritesKeys ctcKey s (t.set CTC_STAT_REQ x) := fun t x ht => ht.set (by decide) x
  have sources := (WritesKeys.refl ctcKey s).each (l := [0, 1, 2, 3, 4]) (F := fun i s => if ctcSource i s then
      s.when (s.get (ctcReqAt i) == 0) fun s => s.set (ctcReqAt i) (s.now + 1) else s.set (ctcReqAt i) 0) fun i hi t ht =>
    WritesKeys.cond (ht.when fun h => h.set (source i hi) _) (ht.set (source i hi) 0)
  unfold ctcUpdate
  exact WritesKeys.cond ((asked _ _ sources).each fun k hk t ht => ht.set (zero k hk) 0) (asked _ _ sources)

end Sys2Proof.Machine
end

section
/-!
SUPPORT. What a Stall's entry into its safe state and the decision table write (R274 to R286).
-/

namespace Sys2Proof.Machine
open Reg

/-! ### Entry and decision -/

/-- The fields of Stall `n` that the decision table writes beside its lines. -/
def rowFields (n : Nat) : List Fld :=
  [PROT_SW_STAT_SW n, PROT_STAT_ROW n, PROT_STAT_SAFE n, PROT_STAT_PROV n, PROT_STAT_CHOP n, PROT_STAT_CTC_REQ n, protRowAt n, protBandRow n]

/-- The fields of Stall `n` that its entry into the safe state writes beside those of the decision table. -/
def safeEntryFields (n : Nat) : List Fld :=
  [PROT_STAT_SPD_HIGH n, PROT_SAFE_CAUSE_CODE n, PROT_SAFE_TB_LO_TB n, PROT_SAFE_TB_HI_TB n, PWM_STAT_STATE n, LOOP_STAT_STATE n, LOOP_STAT_ENG_R n,
    LOOP_INT_D_I n, LOOP_INT_Q_I n, LOOP_INT_W_I n, loopRes n 4, loopRes n 5, loopRes n 6, protRelPend n, PROT_DIS_STAT_PATH n,
    PROT_DIS_CMD_STATUS n]

/-- The Remount's fields that its release writes (R197). -/
def remountFields : List Fld := [REMOUNT_STAT_HELD, REMOUNT_STAT_PAIRED, REMOUNT_STAT_BUSY, REMOUNT_CTRL_EN, remEnPend]

/-- Whether `k` is the key of a field that `fields` names for a Stall, or for the number after the last, a partner's number at most. -/
def stallFieldKey (fields : Nat → List Fld) (k : Nat) : Bool := (List.range 5).any fun n => (fields n).any fun f => f.key == k

/-- Keys that the decision table writes: those of the lines and of the contactor requests among them. -/
def rowKey (k : Nat) : Bool := lineKey k || ctcKey k || stallFieldKey rowFields k

/-- Keys that a Stall's entry into its safe state writes. -/
def entryKey (k : Nat) : Bool := rowKey k || stallFieldKey safeEntryFields k || remountFields.any fun f => f.key == k

theorem rowKey_of_line (k : Nat) (h : lineKey k = true) : rowKey k = true := by simp [rowKey, h]

theorem rowKey_of_ctc (k : Nat) (h : ctcKey k = true) : rowKey k = true := by simp [rowKey, h]

theorem entryKey_of_row (k : Nat) (h : rowKey k = true) : entryKey k = true := by simp [entryKey, h]

theorem entryKey_of_reported (k : Nat) (h : reported (k / 32) = true) : entryKey k = true :=
  entryKey_of_row k (rowKey_of_line k (lineKey_of_reported k h))

section Entry
variable {a s t : State} {n : Nat} {f : Fld}

theorem stallFieldKey_of_mem {fields : Nat → List Fld} (hn : n < 5) (hf : f ∈ fields n) : stallFieldKey fields f.key = true :=
  List.any_eq_true.2 ⟨n, List.mem_range.2 hn, List.any_eq_true.2 ⟨f, hf, beq_self_eq_true _⟩⟩

theorem rowKey_of_field (hn : n < 5) (hf : f ∈ rowFields n) : rowKey f.key = true := by
  rw [rowKey, stallFieldKey_of_mem hn hf, Bool.or_true]

theorem entryKey_of_field (hn : n < 5) (hf : f ∈ safeEntryFields n) : entryKey f.key = true := by
  rw [entryKey, stallFieldKey_of_mem hn hf, Bool.or_true, Bool.true_or]

theorem entryKey_of_remount (hf : f ∈ remountFields) : entryKey f.key = true := by
  have named : (remountFields.any fun g => g.key == f.key) = true := List.any_eq_true.2 ⟨f, hf, beq_self_eq_true _⟩
  rw [entryKey, named, Bool.or_true]

theorem WritesKeys.row (h : WritesKeys rowKey a s) (hn : n < 5) (hf : f ∈ rowFields n) (x : Nat) : WritesKeys rowKey a (s.set f x) :=
  h.set (rowKey_of_field hn hf) x

theorem takeRow_keys (hn : n < 5) (h : WritesKeys rowKey a s) (row : Nat) : WritesKeys rowKey a (takeRow row n s) := by
  have event : ∀ {t}, WritesKeys rowKey a t → WritesKeys rowKey a (raiseStall n 0x1B t) := fun h =>
    h.reports (fun k hk => rowKey_of_line k (lineKey_of_reported k hk)) (raiseStall_reports _ _ _)
  have written := WritesKeys.sets (a := a) (l := rowFields n) fun _ => rowKey_of_field hn
  simp only [rowFields, List.forall_mem_cons] at written
  obtain ⟨-, rowSet, safe, prov, chop, opens, since, -⟩ := written
  unfold takeRow
  refine WritesKeys.cond h (WritesKeys.lines hn rowKey_of_line (WritesKeys.when (WritesKeys.when ?taken (since _ _)) event) _)
  exact prov _ _ (opens _ _ (chop _ _ (safe _ _ (rowSet _ _ h))))

theorem provisional_keys (hn : n < 5) (h : WritesKeys rowKey a s) : WritesKeys rowKey a (provisional n s) :=
  WritesKeys.lines hn rowKey_of_line (h.when fun h => h.row hn (f := PROT_STAT_PROV n) (by simp [rowFields]) 1) _

/-- The decision table writes its Stalls' rows and lines and the contactor requests. -/
theorem reDecide_keys (hn : n < 4) (s : State) : WritesKeys rowKey s (reDecide n s) := by
  have switched := (WritesKeys.refl rowKey s).each (l := pairList n s) (F := switchUpdate) fun p hp t ht =>
    ht.row (pairList_lt hn hp) (f := PROT_SW_STAT_SW p) (by simp [rowFields]) _
  unfold reDecide
  refine WritesKeys.cond switched (WritesKeys.cond ?waits (WritesKeys.cond (switched.when fun h => ?resumes)
    (WritesKeys.trans ?takes ((ctcUpdate_keys _).mono rowKey_of_ctc))))
  case waits => exact switched.each fun p hp t ht => provisional_keys (pairList_lt hn hp) ht
  case resumes => exact h.each fun p hp t ht => takeRow_keys (pairList_lt hn hp) ht _
  case takes =>
    refine switched.each fun p hp t ht => takeRow_keys (pairList_lt hn hp) ?_ _
    exact ht.row (pairList_lt hn hp) (f := protBandRow p) (by simp [rowFields]) _

theorem WritesKeys.entry (h : WritesKeys entryKey a s) (hn : n < 5) (hf : f ∈ safeEntryFields n) (x : Nat) : WritesKeys entryKey a (s.set f x) :=
  h.set (entryKey_of_field hn hf) x

theorem WritesKeys.report (h : WritesKeys entryKey a s) (hr : Reports s t) : WritesKeys entryKey a t := h.reports entryKey_of_reported hr

theorem bandUpdate_keys (hn : n < 5) (h : WritesKeys entryKey a s) (entry : Bool) : WritesKeys entryKey a (bandUpdate n entry s) := by
  unfold bandUpdate
  split
  · exact h.entry hn (f := PROT_STAT_SPD_HIGH n) (by simp [safeEntryFields]) _
  · exact h

theorem loopHold_keys (hn : n < 5) (h : WritesKeys entryKey a s) : WritesKeys entryKey a (loopHold n s) := by
  have written := WritesKeys.sets (a := a) (l := safeEntryFields n) fun _ => entryKey_of_field hn
  simp only [safeEntryFields, List.forall_mem_cons] at written
  obtain ⟨-, -, -, -, -, state, -, d, q, w, d', q', w', -⟩ := written
  unfold loopHold
  exact WritesKeys.when (h.when (state _ _)) fun h => w' 0 _ (q' 0 _ (d' 0 _ (w 0 _ (q 0 _ (d 0 _ h)))))

theorem remountRelease_keys (hn : n < 5) (h : WritesKeys entryKey a s) : WritesKeys entryKey a (remountRelease n s) := by
  have written := WritesKeys.sets (a := a) (l := remountFields) fun _ => entryKey_of_remount
  simp only [remountFields, List.forall_mem_cons] at written
  obtain ⟨held, paired, busy, enabled, waits, -⟩ := written
  unfold remountRelease
  refine WritesKeys.cond (WritesKeys.report (WritesKeys.when ?released fun h => waits 0 _ (enabled 0 _ h)) (raiseEvent_reports _ _)) h
  exact (busy 0 _ (paired 0 _ (held 0 _ h))).entry hn (f := LOOP_STAT_ENG_R n) (by simp [safeEntryFields]) 0

theorem windingFail_keys (hn : n < 5) (h : WritesKeys entryKey a s) : WritesKeys entryKey a (windingFail n s) := by
  refine h.when fun h => WritesKeys.report (WritesKeys.when ?path fun h => ?status) (recordFault_reports _ _ _)
  case path => exact h.entry hn (f := PROT_DIS_STAT_PATH n) (by simp [safeEntryFields]) 0
  case status => exact h.entry hn (f := PROT_DIS_CMD_STATUS n) (by simp [safeEntryFields]) _

theorem enterOne_keys (hn : n < 5) (h : WritesKeys entryKey a s) (code : Nat) : WritesKeys entryKey a (enterOne n code s) := by
  have written := WritesKeys.sets (a := a) (l := safeEntryFields n) fun _ => entryKey_of_field hn
  simp only [safeEntryFields, List.forall_mem_cons] at written
  obtain ⟨-, cause, lo, hi, state, -, -, -, -, -, -, -, -, pend, -⟩ := written
  have rowField : ∀ f ∈ rowFields n, entryKey f.key = true := fun f hf => entryKey_of_row _ (rowKey_of_field hn hf)
  have recorded := state 3 _ (hi (s.now / 2 ^ 32) _ (lo s.now _ (cause code _ h)))
  have cleared := (recorded.set (rowField (PROT_STAT_PROV n) (by simp [rowFields])) 1).set (rowField (PROT_STAT_ROW n) (by simp [rowFields])) 0
  have held := (loopHold_keys hn (bandUpdate_keys hn cleared true)).report (raiseStall_reports n 0x1A _)
  exact WritesKeys.lines hn (fun k hk => entryKey_of_row k (rowKey_of_line k hk))
    (windingFail_keys hn (pend 0 _ (held.when fun h => remountRelease_keys hn h))) _

/-- A `STALL_SAFE` cause writes what the entries of a Stall and of its partner and the decision table write. -/
theorem stallSafe_keys (hn : n < 4) (code : Nat) (s : State) : WritesKeys entryKey s (stallSafe n code s) := by
  have start := WritesKeys.refl entryKey s
  unfold stallSafe
  extract_lets live entered paired
  have enters : WritesKeys entryKey s entered := by
    refine WritesKeys.cond (enterOne_keys (by omega) start code) (start.when fun h => h.each fun p hp t ht => ?_)
    exact bandUpdate_keys (pairList_lt hn hp) (ht.entry (pairList_lt hn hp) (f := protRelPend p) (by simp [safeEntryFields]) 0) false
  have pairs : WritesKeys entryKey s paired := by
    unfold paired
    split
    · rename_i p hp
      exact WritesKeys.cond (enterOne_keys (partner_lt hn hp) (enters.report (recordFault_reports _ _ _)) _) enters
    · exact enters
  exact pairs.trans ((reDecide_keys hn _).mono entryKey_of_row)

end Entry
end Sys2Proof.Machine
end

section
/-!
SUPPORT. The enable pin (R275, R278): what its level writes, and what its two edges come to.
-/

namespace Sys2Proof.Machine
open Reg

theorem bitAt_putBit (v i : Nat) (b : Bool) : bitAt (putBit v i b) i = b := by
  have pos : 0 < 2 ^ i := Nat.two_pow_pos i
  have bit : b.toNat < 2 := Bool.toNat_lt b
  have split : v - v / 2 ^ i % 2 * 2 ^ i + b.toNat * 2 ^ i = v % 2 ^ i + 2 ^ i * (2 * (v / 2 ^ i / 2) + b.toNat) := by
    have low : v % 2 ^ i + 2 ^ i * (v / 2 ^ i) = v := Nat.mod_add_div v _
    have high : v / 2 ^ i % 2 + 2 * (v / 2 ^ i / 2) = v / 2 ^ i := Nat.mod_add_div _ 2
    have whole : v = v % 2 ^ i + 2 ^ i * (2 * (v / 2 ^ i / 2)) + v / 2 ^ i % 2 * 2 ^ i := by
      calc v = v % 2 ^ i + 2 ^ i * (v / 2 ^ i % 2 + 2 * (v / 2 ^ i / 2)) := by rw [high, low]
        _ = _ := by ring
    calc v - v / 2 ^ i % 2 * 2 ^ i + b.toNat * 2 ^ i = v % 2 ^ i + 2 ^ i * (2 * (v / 2 ^ i / 2)) + b.toNat * 2 ^ i := by
          rw [Nat.sub_eq_of_eq_add whole]
      _ = _ := by ring
  have read : bitAt (putBit v i b) i = (b.toNat % 2 == 1) := by
    simp only [bitAt, putBit, putBits, bits, pow_one, Nat.mod_eq_of_lt bit, split, Nat.add_mul_div_left _ _ pos,
      Nat.div_eq_of_lt (Nat.mod_lt v pos), Nat.zero_add, Nat.mul_add_mod]
  rw [read]
  cases b <;> rfl

/-! ### The level at the pin -/

/-- The fields that show the level of `STALLn_EN`. -/
def levelFields (n : Nat) : List Fld := [pwmPinHigh n, PWM_STAT_EN_PIN n, PROT_STAT_EN_PIN n, SYS_PINS_STALL_EN]

/-- The Stall's registers once its pin has risen: the level, and how long it was low (R278). -/
def enRisen (n : Nat) (s : State) : State :=
  (enPin n true s).set (PROT_EN_STAT_LOW_US n) (clampU 16 ((s.now - s.get (protEnFallAt n)) / 200))

section Pin
variable {n : Nat} {f : Fld} {s : State}

theorem enPin_get (apart : ∀ g ∈ levelFields n, f.key ≠ g.key) (b : Bool) (s : State) : (enPin n b s).get f = s.get f := by
  simp only [levelFields, List.forall_mem_cons] at apart
  obtain ⟨ball, pwm, prot, pins, -⟩ := apart
  rw [enPin, State.setBit, State.get_set_ne _ _ _ _ pins, State.get_setB_ne prot, State.get_setB_ne pwm, State.get_setB_ne ball]

/-- Each register that reads the pin shows its level. -/
theorem enPin_shows (hn : n < 4) (b : Bool) (s : State) : (enPin n b s).flag (PWM_STAT_EN_PIN n) = b ∧
    (enPin n b s).flag (PROT_STAT_EN_PIN n) = b ∧ bitAt ((enPin n b s).get SYS_PINS_STALL_EN) n = b ∧ (enPin n b s).flag (pwmPinHigh n) = b := by
  have level : ∀ (t : State) (f : Fld), t.get f = b.toNat → t.flag f = b := fun t f h => by rw [State.flag, h]; cases b <;> rfl
  have shown : (enPin n b s).get SYS_PINS_STALL_EN = putBit
      ((((s.setB (pwmPinHigh n) b).setB (PWM_STAT_EN_PIN n) b).setB (PROT_STAT_EN_PIN n) b).get SYS_PINS_STALL_EN) n b % 2 ^ 4 :=
    State.get_set_same _ _ _
  refine ⟨level _ _ ?pwm, level _ _ ?prot, ?pins, level _ _ ?ball⟩
  case pins => rw [shown, bitAt_eq_testBit, Nat.testBit_mod_two_pow, decide_eq_true hn, Bool.true_and, ← bitAt_eq_testBit, bitAt_putBit]
  case pwm | prot | ball =>
    interval_cases n <;> simp (disch := decide) only [enPin, State.setBit, State.get_setB_same, State.get_setB_ne, State.get_set_ne]

/-! ### The falling edge (R275, R278) -/

theorem exec_stallEnFall_low {n : Fin 4} (h : s.get (pwmPinHigh n) = 0) : exec (.stallEnFall n) s = .next s :=
  congrArg Host.Outcome.next (if_neg (by simp [h]))

/-- The lines once the pin has fallen: rank 1 holds them off. -/
def enFallen (n : Nat) (s : State) : State := refreshLines n (s.now * 64) ((enPin n false s).set (protEnFallAt n) s.now)

theorem exec_stallEnFall_high {n : Fin 4} (h : s.get (pwmPinHigh n) ≠ 0) : exec (.stallEnFall n) s =
    .next ((enFallen n s).when (switching n (enFallen n s)) (raiseStallFault n 5 1 .stallSafe)) :=
  congrArg Host.Outcome.next (if_pos (by simp [h]))

theorem enFallen_switching (hn : n < 4) (s : State) : switching n (enFallen n s) = switching n s := by
  have stage : lineKey (PWM_STAT_STATE n).key = false := by revert n; decide
  have apart : ∀ g ∈ levelFields n, (PWM_STAT_STATE n).key ≠ g.key := by revert n; decide
  have state : (enFallen n s).get (PWM_STAT_STATE n) = s.get (PWM_STAT_STATE n) := by
    rw [enFallen, (refreshLines_keys (by omega) _ _).get _ stage, protEnFallAt, State.get_set_ix (by simp only [PWM_STAT_STATE, Fld.key]; omega),
      enPin_get apart]
  simp only [switching, state]

/-! ### The rising edge (R278) -/

theorem exec_stallEnRise_high {n : Fin 4} (h : s.get (pwmPinHigh n) ≠ 0) : exec (.stallEnRise n) s = .next s :=
  congrArg Host.Outcome.next (if_pos (by simp [h]))

theorem enRisen_get (apart : ∀ g ∈ PROT_EN_STAT_LOW_US n :: levelFields n, f.key ≠ g.key) (s : State) : (enRisen n s).get f = s.get f := by
  obtain ⟨low, pin⟩ := List.forall_mem_cons.1 apart
  rw [enRisen, State.get_set_ne _ _ _ _ low, enPin_get pin]

theorem enRisen_dn (s : State) : (enRisen n s).dn = s.dn := rfl

theorem enRisen_linkState (hn : n < 4) {h : Nat} (hh : h < 3) (s : State) : linkState (3 * n + h) (enRisen n s) = linkState (3 * n + h) s := by
  refine enRisen_get ?_ s
  revert h n; decide

theorem psfPresent_enRisen (hn : n < 4) (s : State) : psfPresent n (enRisen n s) = psfPresent n s := by
  have hard : (enRisen n s).get (protHard n) = s.get (protHard n) := enRisen_get (by revert n; decide) s
  have apart : ∀ k < 5, ∀ h < 3, ∀ g ∈ PROT_EN_STAT_LOW_US k :: levelFields k, (REIN_Lh_STAT_PAT (3 * k + h)).key ≠ g.key := by decide
  have pat : ∀ h < 3, (enRisen n s).get (REIN_Lh_STAT_PAT (3 * n + h)) = s.get (REIN_Lh_STAT_PAT (3 * n + h)) := fun h hh =>
    enRisen_get (apart n (by omega) h hh) s
  simp only [psfPresent, State.flag, hard, List.any_cons, List.any_nil, pat 0 (by decide), pat 1 (by decide), pat 2 (by decide),
    enRisen_linkState hn (h := 0) (by decide), enRisen_linkState hn (h := 1) (by decide), enRisen_linkState hn (h := 2) (by decide)]

/-- The latch judged at the rising edge: kept with a reason, or cleared (R278). -/
def enJudged (n : Nat) (s : State) : State :=
  if s.get (PROT_STAT_PSF n) = 0 then enRisen n s
  else if s.now - s.get (protEnFallAt n) < 2000 then (enRisen n s).set (PROT_EN_STAT_LAST n) 2
  else if psfPresent n s = true then (enRisen n s).set (PROT_EN_STAT_LAST n) 3
  else psfClear n (enRisen n s)

theorem exec_stallEnRise_low {n : Fin 4} (h : s.get (pwmPinHigh n) = 0) : exec (.stallEnRise n) s =
    .next (refreshLines n ((enJudged n s).now * 64) (enJudged n s)) := by
  have apart : ∀ k : Fin 4, ∀ g ∈ PROT_EN_STAT_LOW_US k :: levelFields k, (PROT_STAT_PSF k).key ≠ g.key := by decide
  have latch : (enRisen n s).flag (PROT_STAT_PSF n) = (s.get (PROT_STAT_PSF n) != 0) := congrArg (· != 0) (enRisen_get (apart n) s)
  have judged : enJudged n s = (if !(enRisen n s).flag (PROT_STAT_PSF n) then enRisen n s
      else if s.now - s.get (protEnFallAt n) < 2000 then (enRisen n s).set (PROT_EN_STAT_LAST n) 2
      else if psfPresent n (enRisen n s) then (enRisen n s).set (PROT_EN_STAT_LAST n) 3
      else psfClear n (enRisen n s)) := by
    rw [latch, psfPresent_enRisen n.isLt, enJudged]
    exact ite_congr (by simp) (fun _ => rfl) fun _ => rfl
  rw [judged]
  exact congrArg Host.Outcome.next (if_neg (by simp [h]))

end Pin
end Sys2Proof.Machine
end

section
/-!
SUPPORT. The power-stage fault latch (R277 to R279): what clearing it leaves, and what a link that does not confirm `CLEAR` comes to.
-/

namespace Sys2Proof.Machine
open Reg

/-! ### The latch's own fields -/

/-- The fields that the latch shows of itself. -/
def latchFields (n : Nat) : List Fld :=
  [PROT_STAT_PSF n, PROT_PSF_SRC n, PROT_PSF_MON n, PROT_PSF_LINK n, PROT_PSF_CLRFAIL n, PROT_EN_STAT_LAST n, PROT_EN_STAT_CLEARS n]

/-- What the latch keeps of each switch and of each link. -/
def latchOwnFields (n : Nat) : List Fld := (List.range 6).map (protSus n) ++ [protClr n 0, protClr n 1, protClr n 2]

section Latch
variable {n h : Nat} {f : Fld} {s : State}

/-- Neither a report nor an entry into the safe state writes the latch. -/
theorem latch_apart (hn : n < 4) : ∀ f ∈ latchFields n ++ latchOwnFields n, entryKey f.key = false := by
  have apart : ∀ k < 4, ((latchFields k ++ latchOwnFields k).all fun f => !entryKey f.key) = true := by decide +kernel
  exact fun f hf => (Bool.not_eq_true' _).mp (List.all_eq_true.1 (apart n hn) f hf)

theorem reported_false_of_entryKey_false {k : Nat} (h : entryKey k = false) : reported (k / 32) = false :=
  Bool.eq_false_iff.2 (mt (entryKey_of_reported k) (Bool.eq_false_iff.1 h))

theorem rowKey_false_of_entryKey_false {k : Nat} (h : entryKey k = false) : rowKey k = false :=
  Bool.eq_false_iff.2 (mt (entryKey_of_row k) (Bool.eq_false_iff.1 h))

theorem lineKey_false_of_entryKey_false {k : Nat} (h : entryKey k = false) : lineKey k = false :=
  Bool.eq_false_iff.2 (mt (rowKey_of_line k) (Bool.eq_false_iff.1 (rowKey_false_of_entryKey_false h)))

/-! ### The latch clears (R278, R281, R259) -/

/-- The latch's registers cleared, the clear counted with reason 1. -/
def latchZeroed (n : Nat) (s : State) : State :=
  let s := (((s.set (PROT_STAT_PSF n) 0).set (PROT_PSF_MON n) 0).set (PROT_PSF_LINK n) 0).set (PROT_PSF_CLRFAIL n) 0
  ((s.set (PROT_PSF_SRC n) 0).inc (PROT_EN_STAT_CLEARS n)).set (PROT_EN_STAT_LAST n) 1

/-- Link `h` is sent `CLEAR` where it is in `FAULT`. -/
def clearLink (n h : Nat) (s : State) : State :=
  if linkState (3 * n + h) s = 4 then queueClear (3 * n + h) (s.set (protClr n h) 1) else s.set (protClr n h) 0

/-- The suspicions of the switches end. -/
def suspicionsEnded (n : Nat) (s : State) : State := s.each (List.range 6) fun w s => s.set (protSus n w) 0

/-- The clearing edge is noted, and `CLEAR` sent. -/
def clearsSent (n : Nat) (s : State) : State := (s.set (protClrAt n) s.now).each [0, 1, 2] (clearLink n)

theorem psfClear_eq (n : Nat) (s : State) :
    psfClear n s = reDecide n (raiseStall n 0x1E (clearsSent n (suspicionsEnded n (latchZeroed n s)))) := rfl

theorem queueClear_get (l : Nat) (s : State) : (queueClear l s).get f = s.get f := rfl

theorem clearLink_get (apart : f.key ≠ (protClr n h).key) (s : State) : (clearLink n h s).get f = s.get f := by
  unfold clearLink
  split
  · rw [queueClear_get, State.get_set_ne _ _ _ _ apart]
  · exact State.get_set_ne _ _ _ _ apart

theorem clearLinks_get (apart : ∀ h < 3, f.key ≠ (protClr n h).key) (s : State) : (s.each [0, 1, 2] (clearLink n)).get f = s.get f := by
  simp only [State.each, List.foldl_cons, List.foldl_nil, clearLink_get (apart 0 (by decide)), clearLink_get (apart 1 (by decide)),
    clearLink_get (apart 2 (by decide))]

theorem linkState_low : ∀ n < 4, ∀ h < 3, (REIN_Lh_STAT_STATE (3 * n + h)).key < 2 ^ 45 := by decide

/-- Writing what the latch keeps of a link leaves the state of every link. -/
theorem clearLink_linkState (hn : n < 4) {k : Nat} (hk : k < 3) (s : State) : linkState (3 * n + k) (clearLink n h s) = linkState (3 * n + k) s := by
  refine clearLink_get (fun e => ?_) s
  have own : 2 ^ 45 ≤ (protClr n h).key := by simp only [protClr, ix, Fld.key]; omega
  exact absurd (linkState_low n hn k hk) (by rw [e]; omega)

/-- Each link in `FAULT` has a `CLEAR` frame queued, in the links' order. -/
theorem clearLinks_dn (hn : n < 4) {l : List Nat} (hl : ∀ h ∈ l, h < 3) (s : State) : (s.each l (clearLink n)).dn =
    s.dn ++ (l.filter fun h => linkState (3 * n + h) s == 4).map fun h => ⟨3 * n + h, 5, 0xA5⟩ := by
  induction l generalizing s with
  | nil => exact (List.append_nil _).symm
  | cons h r ih =>
    obtain ⟨hh, hr⟩ := List.forall_mem_cons.1 hl
    have kept : (r.filter fun k => linkState (3 * n + k) (clearLink n h s) == 4) = r.filter fun k => linkState (3 * n + k) s == 4 :=
      List.filter_congr fun k hk => by rw [clearLink_linkState hn (hr k hk)]
    have sent : (clearLink n h s).dn = s.dn ++ if linkState (3 * n + h) s = 4 then [⟨3 * n + h, 5, 0xA5⟩] else [] := by
      unfold clearLink; split
      · rfl
      · exact (List.append_nil _).symm
    have here : (s.each (h :: r) (clearLink n)).dn = ((clearLink n h s).each r (clearLink n)).dn := rfl
    rw [here, ih hr, kept, sent]
    by_cases fault : linkState (3 * n + h) s = 4
    · simp [fault]
    · simp [fault]

theorem latchZeroed_reads (hn : n < 4) (s : State) : (latchZeroed n s).get (PROT_STAT_PSF n) = 0 ∧ (latchZeroed n s).get (PROT_PSF_SRC n) = 0 ∧
    (latchZeroed n s).get (PROT_PSF_MON n) = 0 ∧ (latchZeroed n s).get (PROT_PSF_LINK n) = 0 ∧ (latchZeroed n s).get (PROT_EN_STAT_LAST n) = 1 ∧
    (latchZeroed n s).get (PROT_EN_STAT_CLEARS n) = clampU (PROT_EN_STAT_CLEARS n).width (s.get (PROT_EN_STAT_CLEARS n) + 1) := by
  interval_cases n <;> simp (disch := decide) only [latchZeroed, State.get_set_ne, State.get_inc_ne, State.get_set_of_lt,
    State.get_inc_same, and_self]

theorem latchZeroed_linkState (hn : n < 4) {k : Nat} (hk : k < 3) (s : State) :
    linkState (3 * n + k) (latchZeroed n s) = linkState (3 * n + k) s := by
  have apart : ∀ n < 4, ∀ k < 3, ∀ f ∈ latchFields n, (REIN_Lh_STAT_STATE (3 * n + k)).key ≠ f.key := by decide
  have others := apart n hn k hk
  simp only [latchFields, List.forall_mem_cons] at others
  obtain ⟨psf, src, mon, link, clrfail, last, clears, -⟩ := others
  simp only [linkState, latchZeroed, State.get_set_ne _ _ _ _ psf, State.get_set_ne _ _ _ _ src, State.get_set_ne _ _ _ _ mon,
    State.get_set_ne _ _ _ _ link, State.get_set_ne _ _ _ _ clrfail, State.get_set_ne _ _ _ _ last, State.get_inc_ne clears]

theorem latchZeroed_dn (s : State) : (latchZeroed n s).dn = s.dn := rfl

/-- The suspicions are fields of the state's own. -/
theorem suspicionsEnded_keys (s : State) : WritesKeys (fun k => decide (2 ^ 45 ≤ k)) s (suspicionsEnded n s) := by
  refine (WritesKeys.refl _ s).each fun w _ t ht => ht.set (decide_eq_true ?_) 0
  simp only [protSus, ix, Fld.key]; omega

theorem suspicionsEnded_get (low : f.key < 2 ^ 45) (s : State) : (suspicionsEnded n s).get f = s.get f :=
  (suspicionsEnded_keys s).get f (decide_eq_false (Nat.not_le.2 low))

theorem suspicionsEnded_protSus {w : Nat} (hw : w < 6) (s : State) : (suspicionsEnded n s).get (protSus n w) = 0 :=
  (State.get_each_set (f := protSus n) (fun i j h => by simp only [protSus, ix, Fld.key]; omega) (fun _ => 0) hw s).trans (Nat.zero_mod _)

theorem clearsSent_get (edge : f.key ≠ (protClrAt n).key) (links : ∀ h < 3, f.key ≠ (protClr n h).key) (s : State) :
    (clearsSent n s).get f = s.get f :=
  (clearLinks_get links _).trans (State.get_set_ne _ _ _ _ edge)

/-- The decision that follows a clear leaves the latch. -/
theorem psfClear_get (hn : n < 4) (hf : f ∈ latchFields n ++ latchOwnFields n) (s : State) :
    (psfClear n s).get f = (clearsSent n (suspicionsEnded n (latchZeroed n s))).get f := by
  have kept := latch_apart hn f hf
  rw [psfClear_eq, (reDecide_keys hn _).get f (rowKey_false_of_entryKey_false kept), raiseStall_get (reported_false_of_entryKey_false kept)]

theorem psfClear_latch (hn : n < 4) (hf : f ∈ latchFields n) (s : State) : (psfClear n s).get f = (latchZeroed n s).get f := by
  have registers : ∀ n < 4, ∀ f ∈ latchFields n, f.key < 2 ^ 45 := by decide
  have low := registers n hn f hf
  have own : ∀ id i x, f.key ≠ (ix n 5 id i x 0).key := fun id i x e => absurd low (by rw [e]; simp only [ix, Fld.key]; omega)
  rw [psfClear_get hn (List.mem_append_left _ hf), clearsSent_get (own _ _ _) (fun _ _ => own _ _ _), suspicionsEnded_get low]

theorem protSus_latch {w : Nat} (hw : w < 6) : protSus n w ∈ latchFields n ++ latchOwnFields n :=
  List.mem_append_right _ (List.mem_append_left _ (List.mem_map_of_mem (List.mem_range.2 hw)))

theorem psfClear_protSus (hn : n < 4) {w : Nat} (hw : w < 6) (s : State) : (psfClear n s).get (protSus n w) = 0 := by
  have mine := protSus_latch (n := n) hw
  rw [psfClear_get hn mine, clearsSent_get ?edge ?links, suspicionsEnded_protSus hw]
  case edge => simp only [protSus, protClrAt, ix, Fld.key]; omega
  case links => intro h hh; simp only [protSus, protClr, ix, Fld.key]; omega

/-- The `CLEAR` frames of a clearing edge, one for each link in `FAULT`. -/
def clearFrames (n : Nat) (s : State) : List DnFrame :=
  (([0, 1, 2] : List Nat).filter fun h => linkState (3 * n + h) s == 4).map fun h => ⟨3 * n + h, 5, 0xA5⟩

theorem clearFrames_congr {t : State} (h : ∀ k < 3, linkState (3 * n + k) t = linkState (3 * n + k) s) : clearFrames n t = clearFrames n s := by
  simp only [clearFrames, List.filter_cons, List.filter_nil, h 0 (by decide), h 1 (by decide), h 2 (by decide)]

theorem clearsSent_dn (hn : n < 4) (s : State) : (clearsSent n s).dn = s.dn ++ clearFrames n s := by
  have frames : clearFrames n (s.set (protClrAt n) s.now) = clearFrames n s :=
    clearFrames_congr fun k hk => State.get_set_ix (linkState_low n hn k hk) _ _ _ _ _ _ _ _
  rw [← frames]
  exact clearLinks_dn hn (by decide) _

theorem psfClear_dn (hn : n < 4) (s : State) : (psfClear n s).dn = s.dn ++ clearFrames n s := by
  have frames : clearFrames n (suspicionsEnded n (latchZeroed n s)) = clearFrames n s := clearFrames_congr fun k hk =>
    (suspicionsEnded_get (linkState_low n hn k hk) _).trans (latchZeroed_linkState hn hk s)
  obtain ⟨-, -, -, -, reported, -⟩ := (raiseStall_reports n 0x1E (clearsSent n (suspicionsEnded n (latchZeroed n s)))).rest
  rw [psfClear_eq, (reDecide_keys hn _).dn, reported, clearsSent_dn hn, frames, (suspicionsEnded_keys _).dn, latchZeroed_dn]

/-- A cleared latch, read after the lines have followed the pin (R278). -/
theorem clearedRise_reads (hn : n < 4) (t : Nat) (s : State) :
    let u := refreshLines n t (psfClear n (enRisen n s))
    u.get (PROT_STAT_PSF n) = 0 ∧ u.get (PROT_PSF_SRC n) = 0 ∧ u.get (PROT_PSF_MON n) = 0 ∧ u.get (PROT_PSF_LINK n) = 0 ∧
      u.get (PROT_EN_STAT_LAST n) = 1 ∧
      u.get (PROT_EN_STAT_CLEARS n) = clampU (PROT_EN_STAT_CLEARS n).width (s.get (PROT_EN_STAT_CLEARS n) + 1) ∧
      (∀ w < 6, u.get (protSus n w) = 0) ∧ u.dn = s.dn ++ clearFrames n s := by
  intro u
  have follows := refreshLines_keys (n := n) (by omega) t (psfClear n (enRisen n s))
  have latch : ∀ f ∈ latchFields n, u.get f = (latchZeroed n (enRisen n s)).get f := fun f hf =>
    (follows.get f (lineKey_false_of_entryKey_false (latch_apart hn f (List.mem_append_left _ hf)))).trans (psfClear_latch hn hf _)
  have suspicion : ∀ w < 6, u.get (protSus n w) = 0 := fun w hw => by
    have mine := protSus_latch (n := n) hw
    exact (follows.get _ (lineKey_false_of_entryKey_false (latch_apart hn _ mine))).trans (psfClear_protSus hn hw _)
  have frames : u.dn = s.dn ++ clearFrames n s := by
    rw [follows.dn, psfClear_dn hn, enRisen_dn, clearFrames_congr fun k hk => enRisen_linkState hn hk s]
  have apart : ∀ n < 4, ∀ g ∈ PROT_EN_STAT_LOW_US n :: levelFields n, (PROT_EN_STAT_CLEARS n).key ≠ g.key := by decide
  have counted : (enRisen n s).get (PROT_EN_STAT_CLEARS n) = s.get (PROT_EN_STAT_CLEARS n) := enRisen_get (apart n hn) s
  obtain ⟨psf, src, mon, link, last, clears⟩ := latchZeroed_reads hn (enRisen n s)
  simp only [latchFields, List.forall_mem_cons] at latch
  obtain ⟨psf', src', mon', link', -, last', clears', -⟩ := latch
  exact ⟨psf'.trans psf, src'.trans src, mon'.trans mon, link'.trans link, last'.trans last, by rw [clears', clears, counted], suspicion, frames⟩

/-! ### A link that does not confirm (R279) -/

/-- Link `h` was sent `CLEAR` and is not `READY`. -/
def clearLate (n : Nat) (s : State) (h : Nat) : Bool := s.flag (protClr n h) && linkState (3 * n + h) s != 3

theorem clearLate_iff (n h : Nat) (s : State) :
    clearLate n s h = true ↔ s.get (protClr n h) ≠ 0 ∧ s.get (REIN_Lh_STAT_STATE (3 * n + h)) ≠ 3 := by
  rw [clearLate, Bool.and_eq_true, flag_eq_true_iff, bne_iff_ne, linkState]

/-! ### A source noted -/

/-- What a source adds to the latch's register (R277). -/
def psfSources (n mon link clr : Nat) (s : State) : State :=
  let s := s.set (PROT_PSF_MON n) (s.get (PROT_PSF_MON n) ||| mon)
  let s := s.set (PROT_PSF_LINK n) (s.get (PROT_PSF_LINK n) ||| link)
  s.set (PROT_PSF_CLRFAIL n) (s.get (PROT_PSF_CLRFAIL n) ||| clr)

/-- A source noted: the first one sets the latch (R277). -/
def psfNoted (n src mon link clr : Nat) (s : State) : State :=
  (psfSources n mon link clr s).when (!s.flag (PROT_STAT_PSF n)) fun s => raiseStall n 0x1D ((s.set (PROT_STAT_PSF n) 1).set (PROT_PSF_SRC n) src)

theorem psfSet_eq (n src mon link clr code : Nat) (s : State) :
    psfSet n src mon link clr code s = stallSafe n code (psfNoted n src mon link clr s) := rfl

theorem psfSet_get (hn : n < 4) (hf : f ∈ latchFields n ++ latchOwnFields n) (src mon link clr code : Nat) (s : State) :
    (psfSet n src mon link clr code s).get f = (psfNoted n src mon link clr s).get f := by
  rw [psfSet_eq, (stallSafe_keys hn code _).get f (latch_apart hn f hf)]

section Noted
variable (src mon link clr : Nat) (s : State)

theorem psfSources_reads (hn : n < 4) : (psfSources n mon link clr s).get (PROT_STAT_PSF n) = s.get (PROT_STAT_PSF n) ∧
    (psfSources n mon link clr s).get (PROT_PSF_CLRFAIL n) = (s.get (PROT_PSF_CLRFAIL n) ||| clr) % 2 ^ 1 ∧
    (psfSources n mon link clr s).get (PROT_PSF_LINK n) = (s.get (PROT_PSF_LINK n) ||| link) % 2 ^ 3 := by
  refine ⟨?psf, ?clrfail, ?links⟩
  case psf => interval_cases n <;> simp (disch := decide) only [psfSources, State.get_set_ne]
  case clrfail | links => interval_cases n <;> simp (disch := decide) only [psfSources, State.get_set_ne, State.get_set_same] <;> rfl

theorem psfSources_protClr (hn : n < 4) (k : Nat) : (psfSources n mon link clr s).get (protClr n k) = s.get (protClr n k) := by
  have low : ∀ n < 4, (PROT_PSF_MON n).key < 2 ^ 45 ∧ (PROT_PSF_LINK n).key < 2 ^ 45 ∧ (PROT_PSF_CLRFAIL n).key < 2 ^ 45 := by decide
  obtain ⟨monitor, links, clears⟩ := low n hn
  rw [psfSources, protClr, State.get_ix_set clears, State.get_ix_set links, State.get_ix_set monitor]

theorem psfNoted_get (hr : reported (f.key / 32) = false) (latch : f.key ≠ (PROT_STAT_PSF n).key) (source : f.key ≠ (PROT_PSF_SRC n).key) :
    (psfNoted n src mon link clr s).get f = (psfSources n mon link clr s).get f :=
  State.get_when (by rw [raiseStall_get hr, State.get_set_ne _ _ _ _ source, State.get_set_ne _ _ _ _ latch]) _

/-- A source leaves the latch set, whether it was the first. -/
theorem psfNoted_latched (hn : n < 4) : (psfNoted n src mon link clr s).get (PROT_STAT_PSF n) = 1 := by
  obtain ⟨kept, -, -⟩ := psfSources_reads mon link clr s hn
  cases fresh : s.flag (PROT_STAT_PSF n) with
  | true =>
    have bit := State.get_lt s (PROT_STAT_PSF n)
    have on := (flag_eq_true_iff _ _).1 fresh
    rw [psfNoted, fresh, Bool.not_true, State.when_false, kept]
    simp only [PROT_STAT_PSF] at bit on ⊢
    omega
  | false =>
    have silent : ∀ n < 4, reported ((PROT_STAT_PSF n).key / 32) = false ∧ (PROT_STAT_PSF n).key ≠ (PROT_PSF_SRC n).key := by decide
    obtain ⟨silent, apart⟩ := silent n hn
    rw [psfNoted, fresh, Bool.not_false, State.when_true, raiseStall_get silent, State.get_set_ne _ _ _ _ apart, State.get_set_one rfl]

end Noted

/-! ### The failed links -/

/-- The links' waits for a confirmation end. -/
def clearsEnded (n : Nat) (s : State) : State := s.each [0, 1, 2] fun h s => s.set (protClr n h) 0

theorem clearsEnded_protClr {k : Nat} (hk : k < 3) (s : State) : (clearsEnded n s).get (protClr n k) = 0 :=
  (State.get_each_set (f := protClr n) (fun i j h => by simp only [protClr, ix, Fld.key]; omega) (fun _ => 0) hk s).trans (Nat.zero_mod _)

theorem clearsEnded_get (low : f.key < 2 ^ 45) (s : State) : (clearsEnded n s).get f = s.get f := by
  simp only [clearsEnded, State.each, List.foldl_cons, List.foldl_nil, protClr, State.get_set_ix low]

/-- The bits of the failed links. -/
def lateBits (n : Nat) (s : State) : Nat := (([0, 1, 2].filter (clearLate n s)).map fun h => 2 ^ h).sum

theorem lateBits_testBit {k : Nat} (hk : k < 3) (s : State) : (lateBits n s).testBit k = clearLate n s k := by
  unfold lateBits
  generalize clearLate n s = p
  interval_cases k <;> cases h0 : p 0 <;> cases h1 : p 1 <;> cases h2 : p 2 <;> simp [h0, h1, h2] <;> decide

/-- The failure recorded, and no link waits for its confirmation any more. -/
def failRecorded (n : Nat) (s : State) : State := recordFault (stallCode n 5 0x38) .stallSafe (clearsEnded n s)

theorem failRecorded_get (hr : reported (f.key / 32) = false) (s : State) : (failRecorded n s).get f = (clearsEnded n s).get f :=
  (recordFault_reports _ _ _).get f hr

/-- The failed links' bits join the latch, and the Stall enters its safe state. -/
def clearFailed (n : Nat) (s : State) : State :=
  raiseStall n 0x2D (psfSet n 0x38 0 (lateBits n s) 1 (stallCode n 5 0x38) (failRecorded n s))

/-- The latch after the failure is the latch with the source noted. -/
theorem clearFailed_get (hn : n < 4) (hf : f ∈ latchFields n ++ latchOwnFields n) (s : State) :
    (clearFailed n s).get f = (psfNoted n 0x38 0 (lateBits n s) 1 (failRecorded n s)).get f := by
  rw [clearFailed, raiseStall_get (reported_false_of_entryKey_false (latch_apart hn f hf)), psfSet_get hn hf]

/-- The fields that a further source changes, and those of the links, whether the latch was set before or not. -/
theorem clearFailed_sources (hn : n < 4) (hf : f ∈ [PROT_PSF_CLRFAIL n, PROT_PSF_LINK n] ++ latchOwnFields n) (s : State) :
    (clearFailed n s).get f = (psfSources n 0 (lateBits n s) 1 (failRecorded n s)).get f := by
  have among : f ∈ latchFields n ++ latchOwnFields n := by
    obtain reg | own := List.mem_append.1 hf
    · simp only [List.mem_cons, List.not_mem_nil, or_false] at reg
      obtain rfl | rfl := reg <;> simp [latchFields]
    · exact List.mem_append_right _ own
  have apart : ∀ n < 4, ∀ f ∈ [PROT_PSF_CLRFAIL n, PROT_PSF_LINK n] ++ latchOwnFields n,
      f.key ≠ (PROT_STAT_PSF n).key ∧ f.key ≠ (PROT_PSF_SRC n).key := by decide
  obtain ⟨latch, source⟩ := apart n hn f hf
  rw [clearFailed_get hn among, psfNoted_get _ _ _ _ _ (reported_false_of_entryKey_false (latch_apart hn f among)) latch source]

theorem clearFailed_psf (hn : n < 4) (s : State) : (clearFailed n s).get (PROT_STAT_PSF n) = 1 := by
  rw [clearFailed_get hn (by simp [latchFields]), psfNoted_latched _ _ _ _ _ hn]

theorem clearFailed_clrfail (hn : n < 4) (s : State) : (clearFailed n s).get (PROT_PSF_CLRFAIL n) = 1 := by
  obtain ⟨-, adds, -⟩ := psfSources_reads 0 (lateBits n s) 1 (failRecorded n s) hn
  rw [clearFailed_sources hn (by simp), adds]
  have bit := State.get_lt (failRecorded n s) (PROT_PSF_CLRFAIL n)
  simp only [PROT_PSF_CLRFAIL] at bit ⊢
  generalize State.get _ _ = x at bit ⊢
  interval_cases x <;> rfl

theorem clearFailed_protClr (hn : n < 4) {k : Nat} (hk : k < 3) (s : State) : (clearFailed n s).get (protClr n k) = 0 := by
  have own : protClr n k ∈ latchOwnFields n := by interval_cases k <;> simp [latchOwnFields]
  have silent := reported_false_of_entryKey_false (latch_apart hn _ (List.mem_append_right _ own))
  rw [clearFailed_sources hn (List.mem_append_right _ own), psfSources_protClr _ _ _ _ hn, failRecorded_get silent, clearsEnded_protClr hk]

/-- A failed link's bit joins those that stand. -/
theorem clearFailed_link (hn : n < 4) {k : Nat} (hk : k < 3) (s : State) :
    bitAt ((clearFailed n s).get (PROT_PSF_LINK n)) k = (bitAt (s.get (PROT_PSF_LINK n)) k || clearLate n s k) := by
  have field : PROT_PSF_LINK n ∈ latchFields n ++ latchOwnFields n := by simp [latchFields]
  have low : ∀ n < 4, (PROT_PSF_LINK n).key < 2 ^ 45 := by decide
  obtain ⟨-, -, adds⟩ := psfSources_reads 0 (lateBits n s) 1 (failRecorded n s) hn
  rw [clearFailed_sources hn (by simp), adds, failRecorded_get (reported_false_of_entryKey_false (latch_apart hn _ field)), clearsEnded_get (low n hn),
    bitAt_eq_testBit, bitAt_eq_testBit, Nat.testBit_mod_two_pow, Nat.testBit_or, lateBits_testBit hk, decide_eq_true hk, Bool.true_and]

theorem exec_evPsfClrFail (n : Fin 4) (s : State) : exec (.evPsfClrFail n) s =
    .next (if (!([0, 1, 2].filter (clearLate n s)).isEmpty && decide (s.get (protClrAt n) + 4000 ≤ s.now)) = true then clearFailed n s
      else s) := rfl

theorem exec_evPsfClrFail_late {n : Fin 4} (late : ∃ h < 3, clearLate n s h = true) (due : s.get (protClrAt n) + 4000 ≤ s.now) :
    exec (.evPsfClrFail n) s = .next (clearFailed n s) := by
  obtain ⟨h, hh, fails⟩ := late
  have nonempty : ([0, 1, 2].filter (clearLate n s)) ≠ [] := by
    refine List.ne_nil_of_mem (List.mem_filter.2 ⟨?_, fails⟩)
    simp only [List.mem_cons, List.not_mem_nil, or_false]; omega
  rw [exec_evPsfClrFail, if_pos (by simp [nonempty, due])]

theorem exec_evPsfClrFail_none {n : Fin 4} (h : (∀ h < 3, clearLate n s h = false) ∨ s.now < s.get (protClrAt n) + 4000) :
    exec (.evPsfClrFail n) s = .next s := by
  rw [exec_evPsfClrFail, if_neg]
  obtain prompt | early := h
  · simp [prompt 0, prompt 1, prompt 2]
  · simp [Nat.not_le.2 early]

end Latch
end Sys2Proof.Machine
end

section
/-!
SUPPORT. The release (R299, R174): a release written, its wait for the carrier's zero, and the return to state 2.
-/

namespace Sys2Proof.Machine
open Reg

section Release
variable {n p : Nat} {f : Fld} {s : State}

/-! ### A release written -/

/-- The conditions of a release are those of R299 in turn. -/
theorem releaseReason_zero (h : releaseReason n s = 0) : s.get (PWM_STAT_STATE n) = 3 ∧ s.get (PROT_STAT_PSF n) = 0 ∧ s.get (pwmPinHigh n) ≠ 0 ∧
    s.get (PROT_STAT_STO n) = 0 ∧ s.get (PROT_STAT_SHD n) = 0 ∧ s.get (PROT_STAT_DEV_SAFE n) = 0 ∧ s.get (LOOP_STAT_STATE n) = 2 := by
  unfold releaseReason at h
  split_ifs at h with state latch pin sto command sense angle loop
  simp_all

theorem releaseWait_get (pend : f.key ≠ (protRelPend p).key) (zero : f.key ≠ (protRelZ p).key) (s : State) : (releaseWait p s).get f = s.get f := by
  rw [releaseWait, State.get_set_ne _ _ _ _ zero, State.get_set_ne _ _ _ _ pend]

theorem releaseWaits_get (pend : ∀ p, f.key ≠ (protRelPend p).key) (zero : ∀ p, f.key ≠ (protRelZ p).key) (l : List Nat) (s : State) :
    (s.each l releaseWait).get f = s.get f := by
  unfold State.each
  induction l generalizing s with
  | nil => rfl
  | cons p r ih => exact (ih _).trans (releaseWait_get (pend p) (zero p) s)

/-- Stall `p` waits for a zero of its carrier after the one at `z`. -/
def Waits (p z : Nat) (s : State) : Prop := s.get (pwmZeroAt p) = z ∧ s.get (protRelPend p) = 1 ∧ s.get (protRelZ p) = z + 1

theorem releaseWait_zeroAt (p q : Nat) (s : State) : (releaseWait q s).get (pwmZeroAt p) = s.get (pwmZeroAt p) :=
  releaseWait_get (by simp only [pwmZeroAt, protRelPend, ix, Fld.key]; omega) (by simp only [pwmZeroAt, protRelZ, ix, Fld.key]; omega) s

theorem releaseWait_waits (p : Nat) (s : State) : Waits p (s.get (pwmZeroAt p)) (releaseWait p s) := by
  have apart : (protRelPend p).key ≠ (protRelZ p).key := by simp only [protRelPend, protRelZ, ix, Fld.key]; omega
  have small : s.get (pwmZeroAt p) + 1 < 2 ^ (protRelZ p).width := by
    have := State.get_lt s (pwmZeroAt p)
    simp only [pwmZeroAt, protRelZ, ix] at this ⊢
    omega
  refine ⟨releaseWait_zeroAt p p s, ?_, State.get_set_of_lt small _⟩
  rw [releaseWait, State.get_set_ne _ _ _ _ apart, State.get_set_one rfl]

/-- A Stall that waits goes on waiting when a release, its own even, is noted. -/
theorem Waits.releaseWait {p z : Nat} {s : State} (h : Waits p z s) (q : Nat) : Waits p z (releaseWait q s) := by
  obtain ⟨zero, pend, after⟩ := h
  obtain rfl | other := eq_or_ne p q
  · exact zero ▸ releaseWait_waits p s
  · refine ⟨(releaseWait_zeroAt p q s).trans zero, (releaseWait_get ?_ ?_ s).trans pend, (releaseWait_get ?_ ?_ s).trans after⟩ <;>
      simp only [protRelPend, protRelZ, ix, Fld.key] <;> omega

/-- Each Stall of a release waits for its carrier's zero after the one it has. -/
theorem releaseWaits_waits {l : List Nat} (hp : p ∈ l) (s : State) : Waits p (s.get (pwmZeroAt p)) (s.each l releaseWait) := by
  have goOn : ∀ (l : List Nat) (z : Nat) (s : State), Waits p z s → Waits p z (s.each l releaseWait) := by
    intro l z
    induction l with
    | nil => exact fun _ h => h
    | cons q r ih => exact fun s h => ih _ (h.releaseWait q)
  induction l generalizing s with
  | nil => exact absurd hp List.not_mem_nil
  | cons q r ih =>
    obtain rfl | later := List.mem_cons.1 hp
    · exact goOn r _ _ (releaseWait_waits p s)
    · have := ih later (releaseWait q s)
      rwa [releaseWait_zeroAt] at this

theorem exec_protRelease {n : Fin 4} (shut : bitAt (rewritten s) n = false) : exec (.protRelease n) s =
    .next (s.cmdStart (protCmd n) 2 (releaseOf n s == 0) stDone (fun s => s.each (pairList n s) releaseWait)
      fun t => t.set (PROT_STAT_RREASON n) (releaseOf n s)) :=
  stallWrite_open shut fun t => ok (t.cmdStart (protCmd n) 2 (releaseOf n s == 0) stDone (fun u => u.each (pairList n u) releaseWait)
    fun u => u.set (PROT_STAT_RREASON n) (releaseOf n s))

theorem exec_protRelease_refused {n : Fin 4} (shut : bitAt (rewritten s) n = false) (idle : s.get (PROT_CMD_STATUS n) ≠ stBusy)
    (h : releaseOf n s ≠ 0) : exec (.protRelease n) s =
      .next ((s.cmdSet (protCmd n) 2 stRefused).set (PROT_STAT_RREASON n) (releaseOf n s)) := by
  rw [exec_protRelease shut, beq_eq_false_iff_ne.2 h, cmdStart_refused idle]

/-- The Stall shows the command as done; its release is then noted in its pair. -/
def releaseDone (n : Nat) (s : State) : State := s.cmdSet (protCmd n) 2 stDone

theorem releaseDone_get (hn : n < 4) (apart : f.key / 32 ≠ (PROT_CMD_CODE n).key / 32) (s : State) : (releaseDone n s).get f = s.get f := by
  have beside : ∀ n < 4, (PROT_CMD_STATUS n).key / 32 = (PROT_CMD_CODE n).key / 32 := by decide
  have status : f.key ≠ (PROT_CMD_STATUS n).key := fun e => apart (by rw [e, beside n hn])
  have code : f.key ≠ (PROT_CMD_CODE n).key := fun e => apart (by rw [e])
  exact cmdSet_get_ne (r := protCmd n) code status 2 stDone s

theorem releaseDone_status (s : State) : (releaseDone n s).get (PROT_CMD_STATUS n) = stDone :=
  cmdSet_get_status (r := protCmd n) (by simp [protCmd, PROT_CMD_STATUS, stDone]) 2 s

theorem releaseDone_pairList (hn : n < 4) (s : State) : pairList n (releaseDone n s) = pairList n s := by
  have pair : (releaseDone n s).get (PWM_CTRL_PAIR n) = s.get (PWM_CTRL_PAIR n) := releaseDone_get hn (by revert n; decide) s
  simp only [pairList, pair]

theorem releaseDone_zeroAt (hn : n < 4) (p : Nat) (s : State) : (releaseDone n s).get (pwmZeroAt p) = s.get (pwmZeroAt p) :=
  releaseDone_get hn (by simp only [pwmZeroAt, PROT_CMD_CODE, ix, Fld.key]; omega) s

/-- A release leaves the registers, and of the state's own fields all but the waits. -/
theorem releaseWaits_register (low : f.key < 2 ^ 45) (l : List Nat) (s : State) : (s.each l releaseWait).get f = s.get f :=
  releaseWaits_get (fun p e => absurd low (by rw [e]; simp only [protRelPend, ix, Fld.key]; omega))
    (fun p e => absurd low (by rw [e]; simp only [protRelZ, ix, Fld.key]; omega)) l s

theorem exec_protRelease_waits {n : Fin 4} (shut : bitAt (rewritten s) n = false) (idle : s.get (PROT_CMD_STATUS n) ≠ stBusy)
    (h : releaseOf n s = 0) : exec (.protRelease n) s = .next ((releaseDone n s).each (pairList n s) releaseWait) := by
  rw [exec_protRelease shut, beq_iff_eq.2 h, cmdStart_run idle, ← releaseDone, releaseDone_pairList n.isLt]

/-! ### The return to state 2 -/

/-- The registers of a Stall that leaves its safe state. -/
def safeLeft (n : Nat) (s : State) : State :=
  let s := (s.set (protRelPend n) 0).set (PWM_STAT_STATE n) 2
  let s := (((s.set (PROT_STAT_ROW n) 0).set (PROT_STAT_SAFE n) 0).set (PROT_STAT_PROV n) 0).set (PROT_STAT_CHOP n) 0
  s.set (PROT_STAT_CTC_REQ n) 0

/-- The active compares at half the period. -/
def comparesHalf (n : Nat) (s : State) : State := s.each [0, 1, 2] fun h s => setCmp n h (period n s / 2) s

/-- Each reference signal takes its level at the zero `z`, placed at `t`. -/
def edgesTaken (n z t : Nat) (s : State) : State := s.each [0, 1, 2] fun h s => refEdge n h (refLevel n h z s) t s

/-- The loop engines that held go on. -/
def loopResumed (n : Nat) (s : State) : State := s.when (s.get (LOOP_STAT_STATE n) == 2) fun s => s.set (LOOP_STAT_STATE n) 1

/-- The Stall's registers before its lines follow. -/
def safeEnded (n : Nat) (s : State) : State := comparesHalf n (ctcUpdate (safeLeft n s))

theorem safeRelease_eq (n z : Nat) (s : State) : safeRelease n z s = raiseStall n 0x1C (refreshLines n ((safeEnded n s).placeAt n z)
    (loopResumed n (edgesTaken n z ((safeEnded n s).placeAt n z) (safeEnded n s)))) := rfl

theorem edgesTaken_keys (hn : n < 5) (z t : Nat) (s : State) : WritesKeys lineKey s (edgesTaken n z t s) :=
  (WritesKeys.refl _ s).each fun _ hk _ hu => refEdge_keys hn hu (by simp at hk; omega) _ _

/-- What the lines' part of a release leaves reads as before it. -/
theorem safeRelease_get (hn : n < 4) (stage : lineKey f.key = false) (loop : f.key ≠ (LOOP_STAT_STATE n).key) (z : Nat) (s : State) :
    (safeRelease n z s).get f = (safeEnded n s).get f := by
  have silent : reported (f.key / 32) = false :=
    Bool.eq_false_iff.2 (mt (lineKey_of_reported _) (Bool.eq_false_iff.1 stage))
  rw [safeRelease_eq, raiseStall_get silent, (refreshLines_keys (by omega) _ _).get f stage, loopResumed, State.get_when_set_ne loop,
    (edgesTaken_keys (by omega) _ _ _).get f stage]

theorem safeRelease_loop (hn : n < 4) (z : Nat) (s : State) : (safeRelease n z s).get (LOOP_STAT_STATE n) =
    if (safeEnded n s).get (LOOP_STAT_STATE n) = 2 then 1 else (safeEnded n s).get (LOOP_STAT_STATE n) := by
  have stage : ∀ n < 4, lineKey (LOOP_STAT_STATE n).key = false ∧ reported ((LOOP_STAT_STATE n).key / 32) = false := by decide
  obtain ⟨stage, silent⟩ := stage n hn
  rw [safeRelease_eq, raiseStall_get silent, (refreshLines_keys (by omega) _ _).get _ stage, loopResumed,
    (edgesTaken_keys (by omega) _ _ _).get _ stage, State.when_eq_ite beq_iff_eq]
  split
  · exact State.get_set_of_lt (by simp [LOOP_STAT_STATE]) _
  · exact (edgesTaken_keys (by omega) _ _ _).get _ stage

/-! ### The compares (R174) -/

/-- Half a period fits the active compare (R221). -/
theorem half_period_lt (n : Nat) (s : State) : period n s / 2 < 2 ^ 23 := by
  have low := State.get_lt s (PWM_PER_PER_ACT n)
  have high := State.get_lt s (pwmPerHi n)
  simp only [PWM_PER_PER_ACT, pwmPerHi, ix] at low high
  unfold period pwmPerHi PWM_PER_PER_ACT ix
  omega

theorem setCmp_get {h : Nat} (act : f.key ≠ (PWM_CMPh_CMP_ACT n h).key) (top : f.key ≠ (pwmCmpHi n h).key) (c : Nat) (s : State) :
    (setCmp n h c s).get f = s.get f := by
  rw [setCmp, State.get_set_ne _ _ _ _ top, State.get_set_ne _ _ _ _ act]

/-- The compares of a Stall's half-bridges. -/
def compareFields (n : Nat) : List Fld := [0, 1, 2].flatMap fun h => [PWM_CMPh_CMP_ACT n h, pwmCmpHi n h]

theorem comparesHalf_get (apart : ∀ g ∈ compareFields n, f.key ≠ g.key) (s : State) : (comparesHalf n s).get f = s.get f := by
  simp only [compareFields, List.flatMap_cons, List.flatMap_nil, List.cons_append, List.nil_append, List.forall_mem_cons] at apart
  obtain ⟨act0, top0, act1, top1, act2, top2, -⟩ := apart
  simp only [comparesHalf, State.each, List.foldl_cons, List.foldl_nil, setCmp_get act0 top0, setCmp_get act1 top1, setCmp_get act2 top2]

/-- Setting a compare leaves the period. -/
theorem setCmp_period (hn : n < 4) {h : Nat} (hh : h < 3) (c : Nat) (s : State) : period n (setCmp n h c s) = period n s := by
  have apart : ∀ n < 4, ∀ h < 3, ∀ f ∈ [PWM_PER_PER_ACT n, pwmPerHi n],
      f.key ≠ (PWM_CMPh_CMP_ACT n h).key ∧ f.key ≠ (pwmCmpHi n h).key := by decide
  obtain ⟨⟨act, top⟩, ⟨act', top'⟩, -⟩ := List.forall_mem_cons.1 (apart n hn h hh) |>.imp_right List.forall_mem_cons.1
  simp only [period, setCmp_get act top, setCmp_get act' top']

theorem setCmp_compare (hn : n < 4) {h k c : Nat} (hh : h < 3) (hc : c < 2 ^ 23) (s : State) :
    (setCmp n k c s).get (PWM_CMPh_CMP_ACT n h) = if h = k then c else s.get (PWM_CMPh_CMP_ACT n h) := by
  have top : ∀ n < 4, ∀ h < 3, (PWM_CMPh_CMP_ACT n h).key < 2 ^ 45 := by decide
  rw [setCmp, pwmCmpHi, State.get_set_ix (top n hn h hh)]
  split
  · subst h; exact State.get_set_of_lt hc s
  · exact State.get_set_ne _ _ _ _ (by simp only [PWM_CMPh_CMP_ACT, Fld.key]; omega)

theorem comparesHalf_compare (hn : n < 4) {h : Nat} (hh : h < 3) (s : State) :
    (comparesHalf n s).get (PWM_CMPh_CMP_ACT n h) = period n s / 2 := by
  have halves : comparesHalf n s = setCmp n 2 (period n s / 2) (setCmp n 1 (period n s / 2) (setCmp n 0 (period n s / 2) s)) := by
    simp only [comparesHalf, State.each, List.foldl_cons, List.foldl_nil, setCmp_period hn (h := 0) (by decide), setCmp_period hn (h := 1) (by decide)]
  have fits := half_period_lt n s
  rw [halves, setCmp_compare hn hh fits, setCmp_compare hn hh fits, setCmp_compare hn hh fits]
  interval_cases h <;> rfl

theorem safeLeft_reads (hn : n < 4) (s : State) : (safeLeft n s).get (PWM_STAT_STATE n) = 2 ∧ (safeLeft n s).get (protRelPend n) = 0 ∧
    (safeLeft n s).get (PROT_STAT_ROW n) = 0 ∧ (safeLeft n s).get (PROT_STAT_SAFE n) = 0 ∧
    (safeLeft n s).get (LOOP_STAT_STATE n) = s.get (LOOP_STAT_STATE n) ∧ period n (safeLeft n s) = period n s := by
  interval_cases n <;> simp (disch := decide) only [safeLeft, period, State.get_set_ne, State.get_set_of_lt, and_self]

/-! ### What the registers show after the return -/

theorem safeEnded_get (hn : n < 4) (hf : f ∈ [PWM_STAT_STATE n, protRelPend n, PROT_STAT_ROW n, PROT_STAT_SAFE n, LOOP_STAT_STATE n]) (s : State) :
    (safeEnded n s).get f = (safeLeft n s).get f := by
  have apart : ∀ n < 4, ∀ f ∈ [PWM_STAT_STATE n, protRelPend n, PROT_STAT_ROW n, PROT_STAT_SAFE n, LOOP_STAT_STATE n],
      (∀ g ∈ compareFields n, f.key ≠ g.key) ∧ ctcKey f.key = false := by decide
  obtain ⟨compares, contactors⟩ := apart n hn f hf
  rw [safeEnded, comparesHalf_get compares, (ctcUpdate_keys _).get f contactors]

theorem safeEnded_compare (hn : n < 4) {h : Nat} (hh : h < 3) (s : State) : (safeEnded n s).get (PWM_CMPh_CMP_ACT n h) = period n s / 2 := by
  have contactors : ∀ n < 4, ctcKey (PWM_PER_PER_ACT n).key = false ∧ ctcKey (pwmPerHi n).key = false := by decide
  obtain ⟨act, top⟩ := contactors n hn
  obtain ⟨-, -, -, -, -, same⟩ := safeLeft_reads hn s
  rw [safeEnded, comparesHalf_compare hn hh, ← same]
  simp only [period, (ctcUpdate_keys _).get _ act, (ctcUpdate_keys _).get _ top]

/-- The Stall is back in state 2, and its active compares stand at half its period. -/
theorem safeRelease_reads (hn : n < 4) (z : Nat) (s : State) : (safeRelease n z s).get (PWM_STAT_STATE n) = 2 ∧
    (safeRelease n z s).get (protRelPend n) = 0 ∧ (safeRelease n z s).get (PROT_STAT_ROW n) = 0 ∧ (safeRelease n z s).get (PROT_STAT_SAFE n) = 0 ∧
    (safeRelease n z s).get (LOOP_STAT_STATE n) = (if s.get (LOOP_STAT_STATE n) = 2 then 1 else s.get (LOOP_STAT_STATE n)) ∧
    ∀ h < 3, (safeRelease n z s).get (PWM_CMPh_CMP_ACT n h) = period n s / 2 := by
  obtain ⟨state, pend, row, safe, loop, -⟩ := safeLeft_reads hn s
  have beside : ∀ n < 4, ∀ f ∈ [PWM_STAT_STATE n, protRelPend n, PROT_STAT_ROW n, PROT_STAT_SAFE n] ++
      [PWM_CMPh_CMP_ACT n 0, PWM_CMPh_CMP_ACT n 1, PWM_CMPh_CMP_ACT n 2], lineKey f.key = false ∧ f.key ≠ (LOOP_STAT_STATE n).key := by decide
  have kept : ∀ f ∈ [PWM_STAT_STATE n, protRelPend n, PROT_STAT_ROW n, PROT_STAT_SAFE n], (safeRelease n z s).get f = (safeLeft n s).get f := by
    intro f hf
    obtain ⟨stage, apart⟩ := beside n hn f (List.mem_append_left _ hf)
    rw [safeRelease_get hn stage apart, safeEnded_get hn (List.mem_append_left [LOOP_STAT_STATE n] hf)]
  refine ⟨?state, ?pend, ?row, ?safe, ?loop, fun h hh => ?compare⟩
  case state => rw [kept _ (by simp), state]
  case pend => rw [kept _ (by simp), pend]
  case row => rw [kept _ (by simp), row]
  case safe => rw [kept _ (by simp), safe]
  case loop => rw [safeRelease_loop hn, safeEnded_get hn (by simp), loop]
  case compare =>
    obtain ⟨stage, apart⟩ := beside n hn (PWM_CMPh_CMP_ACT n h) (List.mem_append_right _ (by interval_cases h <;> simp))
    rw [safeRelease_get hn stage apart, safeEnded_compare hn hh]

/-! ### The first zero after the release -/

theorem exec_evSafeRelease (n : Fin 4) (f : Fin 64) (s : State) : exec (.evSafeRelease n f) s =
    .next (s.when (s.flag (protRelPend n) && s.get (PWM_STAT_STATE n) == 3 && !s.flag (pwmAwait n) &&
      s.get (protRelZ n) != s.get (pwmZeroAt n) + 1 && decide (s.get (pwmZeroAt n) ≤ s.fineNow f)) (safeRelease n (s.get (pwmZeroAt n)))) := rfl

theorem exec_evSafeRelease_due {n : Fin 4} {f : Fin 64} (pend : s.get (protRelPend n) ≠ 0) (state : s.get (PWM_STAT_STATE n) = 3)
    (runs : s.get (pwmAwait n) = 0) (later : s.get (protRelZ n) ≠ s.get (pwmZeroAt n) + 1) (due : s.get (pwmZeroAt n) ≤ s.fineNow f) :
    exec (.evSafeRelease n f) s = .next (safeRelease n (s.get (pwmZeroAt n)) s) := by
  rw [exec_evSafeRelease, (flag_eq_true_iff _ _).2 pend, (flag_eq_false_iff _ _).2 runs, beq_iff_eq.2 state, bne_iff_ne.2 later,
    decide_eq_true due]
  rfl

theorem exec_evSafeRelease_waits {n : Fin 4} {f : Fin 64}
    (h : s.get (protRelPend n) = 0 ∨ s.get (PWM_STAT_STATE n) ≠ 3 ∨ s.get (pwmAwait n) ≠ 0 ∨
      s.get (protRelZ n) = s.get (pwmZeroAt n) + 1 ∨ s.fineNow f < s.get (pwmZeroAt n)) :
    exec (.evSafeRelease n f) s = .next s := by
  have waits : (s.flag (protRelPend n) && s.get (PWM_STAT_STATE n) == 3 && !s.flag (pwmAwait n) &&
      s.get (protRelZ n) != s.get (pwmZeroAt n) + 1 && decide (s.get (pwmZeroAt n) ≤ s.fineNow f)) = false := by
    obtain none | state | awaits | same | early := h
    · rw [(flag_eq_false_iff _ _).2 none]; rfl
    · rw [beq_eq_false_iff_ne.2 state, Bool.and_false]; rfl
    · rw [(flag_eq_true_iff _ _).2 awaits, Bool.not_true, Bool.and_false]; rfl
    · rw [bne_eq_false_iff_eq.2 same, Bool.and_false]; rfl
    · rw [decide_eq_false (Nat.not_le.2 early), Bool.and_false]
  rw [exec_evSafeRelease, waits, State.when_false]

end Release
end Sys2Proof.Machine
end

section
namespace Sys2Proof.Machine
open Reg

/-- Settles O39: the pin's edges by the level they find and what the latch's judgement says, a late link by the registers it reports, and the
release by the first condition that fails and by the carrier's zero it waits for. -/
theorem enablePinJudgesLatch : Obligations.EnablePinJudgesLatch := by
  refine ⟨fun n s => exec_stallEnFall_low, fun n s high => ?falls, fun n b s hn => enPin_shows hn b s, fun n s => exec_stallEnRise_high,
    fun n s low => ?rises, fun n s => ?links, fun n s shut idle => ?released, fun n s shut => if_pos shut, fun n s => releaseReason_zero,
    fun n f s => ?zero⟩
  case falls =>
    have runs : switching n (enFallen n s) = switching n s := enFallen_switching n.isLt s
    refine ⟨fun off => ?_, fun on => ?_⟩
    · rw [exec_stallEnFall_high high, runs, off, State.when_false, enFallen]
    · rw [exec_stallEnFall_high high, runs, on, State.when_true, enFallen]
  case rises =>
    refine ⟨fun clear => ?clear, fun latched short => ?short, fun latched long cause => ?kept, fun latched long gone => ?cleared⟩
    all_goals rw [exec_stallEnRise_low low, enJudged]
    case clear => rw [if_pos clear]; rfl
    case short => rw [if_neg latched, if_pos short]; rfl
    case kept => rw [if_neg latched, if_neg (Nat.not_lt.2 long), if_pos cause]; rfl
    case cleared =>
      rw [if_neg latched, if_neg (Nat.not_lt.2 long), if_neg (by simp [gone])]
      exact ⟨_, rfl, clearedRise_reads n.isLt _ s⟩
  case links =>
    refine ⟨fun ⟨h, hh, late⟩ due => ?_, fun prompt => exec_evPsfClrFail_none ?_⟩
    · refine ⟨_, exec_evPsfClrFail_late ⟨h, hh, (clearLate_iff n h s).2 late⟩ due, clearFailed_psf n.isLt s, clearFailed_clrfail n.isLt s,
        fun k hk => clearFailed_protClr n.isLt hk s, fun k hk => clearFailed_link n.isLt hk s⟩
    · refine prompt.imp_left fun all h hh => Bool.eq_false_iff.2 fun late => ?_
      obtain ⟨sent, state⟩ := (clearLate_iff n h s).1 late
      exact (all h hh).elim sent state
  case released =>
    refine ⟨fun granted => ?_, exec_protRelease_refused shut idle⟩
    have low : ∀ n < 4, (PROT_CMD_STATUS n).key < 2 ^ 45 ∧ (PWM_STAT_STATE n).key < 2 ^ 45 ∧
        (PWM_STAT_STATE n).key / 32 ≠ (PROT_CMD_CODE n).key / 32 := by decide
    obtain ⟨status, state, apart⟩ := low n n.isLt
    refine ⟨_, exec_protRelease_waits shut idle granted, ?_, fun p hp => ?_, ?_⟩
    · rw [releaseWaits_register status, releaseDone_status]
    · obtain ⟨-, pend, zero⟩ := releaseWaits_waits hp (releaseDone n s)
      exact ⟨pend, by rw [zero, releaseDone_zeroAt n.isLt]⟩
    · rw [releaseWaits_register state, releaseDone_get n.isLt apart]
  case zero =>
    refine ⟨fun pend state runs later due => ?_, exec_evSafeRelease_waits⟩
    exact ⟨_, exec_evSafeRelease_due pend state runs later due, safeRelease_reads n.isLt _ s⟩

end Sys2Proof.Machine
end

section
/-!
The interlock and the commands of the PWM: O32 and O31.
-/

namespace Sys2Proof.Machine
open Reg

/-! ### The interlock (R231, R232) -/

/-- Stall 0 switches and commands both lines of half-bridge 0 on. Its low-side line 1 is on, and marked as one whose turn-on the interlock
suppressed. -/
def suppressedLineOn : State :=
  (((((State.reset.set (PWM_STAT_STATE 0) 2).set (pwmPinHigh 0) 1).set (REIN_Lh_STAT_STATE 0) 3).set (PWM_LINES_CMD 0) 3).set
    (PWM_LINES_LINE 0) 2).set (pwmSup 0) 2

theorem suppressedLineOn_lines : suppressedLineOn.get (PWM_LINES_LINE 0) = 2 := by
  decide +kernel

/-- The output stage leaves a suppressed line as it is and lets its partner turn on, whatever the suppressed line's level. -/
theorem refreshLines_suppressedLineOn : (refreshLines 0 0 suppressedLineOn).get (PWM_LINES_LINE 0) = 3 := by
  decide +kernel

/-- Refutes O32: the clause on both lines of a half-bridge leaves out that a line marked suppressed must be off. From `suppressedLineOn`, which has
one line of each half-bridge on at most, the output stage turns line 0 on beside line 1. -/
theorem not_interlockKeepsDeadTime : ¬ Obligations.InterlockKeepsDeadTime := by
  intro keeps
  obtain ⟨apart, -⟩ := keeps 0 0 suppressedLineOn (by decide) (by decide)
  rw [suppressedLineOn_lines, refreshLines_suppressedLineOn] at apart
  exact apart (by decide) 0 (by decide) (by decide)

/-! ### The end of a dead time (R60, R208) -/

theorem exec_deadTimeEnd {n : Fin 4} {s : State} (on : carrierOn n s = true) (h : Fin 3) (f : Fin 64) :
    exec (.deadTimeEnd n h f) s = .next (deadEnd n h (s.fineNow (s.fineOf n f)) s) :=
  congrArg (fun c => ok (s.when c (deadEnd n h (s.fineNow (s.fineOf n f))))) on

/-- In Stall 0, which switches, the dead time before the low-side line 1 of half-bridge 0 turns on ran out at the start of the present tick, fine
step 512. -/
def deadTimeOver : State :=
  { ((((State.reset.set (PWM_STAT_STATE 0) 2).set (pwmPinHigh 0) 1).set (REIN_Lh_STAT_STATE 0) 3).set (pwmDtPend 0 0) 1).set (pwmDtAt 0 0) 512 with
    tbNow := 8 }

theorem deadTimeOver_due : carrierOn (0 : Fin 4) deadTimeOver = true ∧ deadTimeOver.get (pwmDtPend (0 : Fin 4) (0 : Fin 3)) ≠ 0 ∧
    deadTimeOver.get (pwmDtAt (0 : Fin 4) (0 : Fin 3)) ≤ deadTimeOver.fineNow (deadTimeOver.fineOf (0 : Fin 4) (1 : Fin 64)) := by
  decide +kernel

/-- The edge is placed at the instant at which the dead time ran out, one fine step before the command. -/
theorem deadEnd_deadTimeOver : (deadEnd (0 : Fin 4) (0 : Fin 3) (deadTimeOver.fineNow (deadTimeOver.fineOf (0 : Fin 4) (1 : Fin 64)))
    deadTimeOver).get (pwmOnAt 0 1) = 512 := by
  decide +kernel

/-- The half-bridge's incoming line, commanded on at instant `x` of the command itself. -/
def deadEndAt (n h x : Nat) (s : State) : State :=
  refreshLines n x (commandOn n (lineFor n h (s.flag (pwmRef n h)) s) x ((refreshLines n x s).set (pwmDtPend n h) 0))

theorem deadEndAt_deadTimeOver : (deadEndAt (0 : Fin 4) (0 : Fin 3) (deadTimeOver.fineNow (deadTimeOver.fineOf (0 : Fin 4) (1 : Fin 64)))
    deadTimeOver).get (pwmOnAt 0 1) = 513 := by
  decide +kernel

/-- Refutes O31: the clause on the end of a dead time places the edge at the instant of the command, and R60 at the one at which the dead time ran
out. From `deadTimeOver` line 1 turns on at fine step 512, and the clause has it turn on at 513. -/
theorem not_pwmCommandsAndEdgesAct : ¬ Obligations.PwmCommandsAndEdgesAct := by
  rintro ⟨-, -, -, -, -, -, -, -, -, -, -, -, ends, -⟩
  obtain ⟨on, pending, due⟩ := deadTimeOver_due
  obtain ⟨placed, -⟩ := ends 0 0 1 deadTimeOver
  obtain ⟨t, next, late, -⟩ := placed on pending due
  rw [exec_deadTimeEnd on] at next
  have same : deadEnd (0 : Fin 4) (0 : Fin 3) (deadTimeOver.fineNow (deadTimeOver.fineOf (0 : Fin 4) (1 : Fin 64))) deadTimeOver =
      deadEndAt (0 : Fin 4) (0 : Fin 3) (deadTimeOver.fineNow (deadTimeOver.fineOf (0 : Fin 4) (1 : Fin 64))) deadTimeOver :=
    (Host.Outcome.next.inj next).trans late
  have instants := deadEnd_deadTimeOver
  rw [same, deadEndAt_deadTimeOver] at instants
  exact absurd instants (by decide)

end Sys2Proof.Machine
end

section
/-!
SUPPORT. The reference carrier and the cross-Stall coherent load (R218 to R220): what each of their commands comes to.
-/

namespace Sys2Proof.Machine
open Reg

theorem any_stalls_iff (p : Nat → Bool) : [0, 1, 2, 3].any p = true ↔ ∃ n < 4, p n = true := by
  simp only [show [0, 1, 2, 3] = List.range 4 from rfl, List.any_eq_true, List.mem_range]

theorem all_stalls_iff (p : Nat → Bool) : [0, 1, 2, 3].all p = true ↔ ∀ n < 4, p n = true := by
  simp only [show [0, 1, 2, 3] = List.range 4 from rfl, List.all_eq_true, List.mem_range]

section Reference
variable {s : State}

/-! ### Enabling and disabling (R218) -/

theorem exec_refCarrierEnable (s : State) : exec .refCarrierEnable s = .next (busOk
    (if s.flag AUX_REF_CTRL_EN then s else ((s.set AUX_REF_CTRL_EN 1).set refRun 0).set refDue (s.now + 64))) := rfl

/-- Whether a locked Stall is switching, which keeps the reference carrier on. -/
def lockedSwitching (s : State) : Bool := [0, 1, 2, 3].any fun n => lockOf n s && switching n s

theorem lockedSwitching_iff : lockedSwitching s = true ↔ ∃ n < 4, lockOf n s = true ∧ switching n s = true := by
  simp only [lockedSwitching, any_stalls_iff, Bool.and_eq_true]

theorem exec_refCarrierDisable (s : State) : exec .refCarrierDisable s = if s.flag AUX_REF_CTRL_EN && lockedSwitching s then .next (busErr s)
    else .next (busOk ((s.set AUX_REF_CTRL_EN 0).set refRun 0)) := rfl

theorem exec_refCarrierDisable_held (on : s.get AUX_REF_CTRL_EN ≠ 0) (held : lockedSwitching s = true) :
    exec .refCarrierDisable s = .next (busErr s) := by
  rw [exec_refCarrierDisable, (flag_eq_true_iff s _).2 on, held]; rfl

theorem exec_refCarrierDisable_free (free : s.get AUX_REF_CTRL_EN = 0 ∨ lockedSwitching s = false) :
    exec .refCarrierDisable s = .next (busOk ((s.set AUX_REF_CTRL_EN 0).set refRun 0)) := by
  have none : (s.flag AUX_REF_CTRL_EN && lockedSwitching s) = false := by
    rcases free with off | free
    · rw [(flag_eq_false_iff s _).2 off, Bool.false_and]
    · rw [free, Bool.and_false]
  rw [exec_refCarrierDisable, none]; rfl

/-! ### Its zeros (R218 to R220) -/

theorem refNext_first (h : s.get refRun = 0) : refNext s = s.get refDue * 64 := by simp [refNext, h]

theorem refNext_later (h : s.get refRun ≠ 0) : refNext s = s.get refZeroAt + s.get AUX_REF_PER_PER_ACT := by simp [refNext, h]

/-- The state after a reference zero: the first one loads the period, and each keeps its own instant. -/
def refZeroPassed (s : State) : State :=
  ((s.when (!s.flag refRun) fun s => s.set AUX_REF_PER_PER_ACT (s.get AUX_REF_PER_PER)).set refRun 1).set refZeroAt (refNext s)

/-- Whether the zero is the common boundary of a waiting cross-Stall load. -/
def cohBoundary (z : Nat) (s : State) : Bool := s.busy cohCmd && !s.flag cohOpen && decide (s.get cohDue * 64 ≤ z)

/-- The state at the common boundary at instant `z`, before the command is judged. -/
def cohReached (z : Nat) (s : State) : State :=
  ((s.set AUX_REF_PER_PER_ACT (s.get AUX_REF_PER_PER)).set cohOpen 1).set cohAt z

theorem exec_referenceZero (f : Fin 64) (s : State) : exec (.referenceZero f) s = .next
    (if !s.flag AUX_REF_CTRL_EN || decide (s.fineNow f < refNext s) then s
      else (refZeroPassed s).when (cohBoundary (refNext s) (refZeroPassed s)) fun s' => cohFinish (cohReached (refNext s) s')) := rfl

theorem exec_referenceZero_waits {f : Fin 64} (h : s.get AUX_REF_CTRL_EN = 0 ∨ s.fineNow f < refNext s) :
    exec (.referenceZero f) s = .next s := by
  rw [exec_referenceZero, if_pos (by simpa using h)]

theorem exec_referenceZero_due {f : Fin 64} (on : s.get AUX_REF_CTRL_EN ≠ 0) (due : refNext s ≤ s.fineNow f) : exec (.referenceZero f) s =
    .next ((refZeroPassed s).when (cohBoundary (refNext s) (refZeroPassed s)) fun s' => cohFinish (cohReached (refNext s) s')) := by
  rw [exec_referenceZero, if_neg (by simpa using ⟨on, due⟩)]

theorem refZeroPassed_get {g : Fld} (h : ∀ f ∈ [AUX_REF_PER_PER_ACT, refRun, refZeroAt], g.key ≠ f.key) (s : State) :
    (refZeroPassed s).get g = s.get g := by
  rw [refZeroPassed, State.get_set_ne _ _ _ _ (h refZeroAt (by simp)), State.get_set_ne _ _ _ _ (h refRun (by simp)),
    State.get_when (State.get_set_ne _ _ _ _ (h AUX_REF_PER_PER_ACT (by simp)))]

theorem State.when_mem {F : State → State} (h : (F s).mem = s.mem) (c : Bool) : (s.when c F).mem = s.mem := by
  cases c with
  | true => exact h
  | false => rfl

theorem refZeroPassed_mem (s : State) : (refZeroPassed s).mem = s.mem := State.when_mem rfl _

/-- A reference zero that has come lies in the range of the instants. -/
theorem fineNow_lt (f : Fin 64) (s : State) : s.fineNow f < 2 ^ 72 := by
  have := s.now_lt
  have := f.isLt
  unfold State.fineNow
  omega

theorem refZeroPassed_reads (fits : refNext s < 2 ^ 72) : (refZeroPassed s).get refRun = 1 ∧ (refZeroPassed s).get refZeroAt = refNext s ∧
    (refZeroPassed s).get AUX_REF_PER_PER_ACT = s.get (if s.get refRun = 0 then AUX_REF_PER_PER else AUX_REF_PER_PER_ACT) := by
  refine ⟨?_, State.get_set_of_lt fits _, ?_⟩
  · rw [refZeroPassed, State.get_set_ne _ _ _ _ (by decide), State.get_set_one rfl]
  · rw [refZeroPassed, State.get_set_ne _ _ _ _ (by decide), State.get_set_ne _ _ _ _ (by decide)]
    by_cases first : s.get refRun = 0
    · rw [(flag_eq_false_iff s _).2 first, if_pos first]; exact State.get_set_get (by decide) s s
    · rw [(flag_eq_true_iff s _).2 first, if_neg first]; rfl

/-- What tells the common boundary is left by the zero itself. -/
theorem cohBoundary_refZeroPassed (z : Nat) (s : State) : cohBoundary z (refZeroPassed s) = cohBoundary z s := by
  simp only [cohBoundary, State.busy, State.flag, cohCmd, refZeroPassed_get (g := AUX_COH_CMD_STATUS) (by decide),
    refZeroPassed_get (g := cohOpen) (by decide), refZeroPassed_get (g := cohDue) (by decide)]

/-! ### The common boundary of a cross-Stall load (R220) -/

theorem cohBoundary_iff {z : Nat} : cohBoundary z s = true ↔ s.get AUX_COH_CMD_STATUS = stBusy ∧ s.get cohOpen = 0 ∧ s.get cohDue * 64 ≤ z := by
  simp [cohBoundary, State.busy, cohCmd, and_assoc]

theorem cohReached_get {g : Fld} (h : ∀ f ∈ [AUX_REF_PER_PER_ACT, cohOpen, cohAt], g.key ≠ f.key) (z : Nat) (s : State) :
    (cohReached z s).get g = s.get g := by
  rw [cohReached, State.get_set_ne _ _ _ _ (h cohAt (by simp)), State.get_set_ne _ _ _ _ (h cohOpen (by simp)),
    State.get_set_ne _ _ _ _ (h AUX_REF_PER_PER_ACT (by simp))]

theorem cohReached_reads {z : Nat} (fits : z < 2 ^ 72) : (cohReached z s).get AUX_REF_PER_PER_ACT = s.get AUX_REF_PER_PER ∧
    (cohReached z s).get cohOpen = 1 ∧ (cohReached z s).get cohAt = z := by
  refine ⟨?_, ?_, State.get_set_of_lt fits _⟩
  · rw [cohReached, State.get_set_ne _ _ _ _ (by decide), State.get_set_ne _ _ _ _ (by decide)]
    exact State.get_set_get (by decide) s s
  · rw [cohReached, State.get_set_ne _ _ _ _ (by decide), State.get_set_one rfl]

/-- The fields that the end of a cross-Stall load writes. -/
def cohEndFields : List Fld := [AUX_COH_CMD_STATUS, cohOpen, cmdLate 4]

theorem cohFinish_get {g : Fld} (silent : reported (g.key / 32) = false) (h : ∀ f ∈ cohEndFields, g.key ≠ f.key) (s : State) :
    (cohFinish s).get g = s.get g := by
  unfold cohFinish
  split
  · rw [(raiseEvent_reports _ _).get g silent, State.get_set_ne _ _ _ _ (h (cmdLate 4) (by simp [cohEndFields])),
      State.get_set_ne _ _ _ _ (h cohOpen (by simp [cohEndFields]))]
    exact State.get_set_ne _ _ _ _ (h AUX_COH_CMD_STATUS (by simp [cohEndFields]))
  · rfl

/-- While a Stall has still to load, the command goes on. -/
theorem cohFinish_parts (left : ∃ n < 4, s.get (pwmCohPart n) ≠ 0) : cohFinish s = s := by
  obtain ⟨n, hn, part⟩ := left
  refine if_neg fun h => ?_
  have none := (all_stalls_iff _).1 (Bool.and_eq_true _ _ ▸ h).2 n hn
  exact absurd ((flag_eq_false_iff s _).1 (by simpa using none)) part

/-- With no Stall left to load, the command ends. -/
theorem cohFinish_ends (busy : s.get AUX_COH_CMD_STATUS = stBusy) (opened : s.get cohOpen ≠ 0) (none : ∀ n < 4, s.get (pwmCohPart n) = 0)
    (prompt : s.get (cmdLate 4) = 0) : (cohFinish s).get cohOpen = 0 ∧ (cohFinish s).get AUX_COH_CMD_STATUS = stDone := by
  have all : [0, 1, 2, 3].all (fun n => !s.flag (pwmCohPart n)) = true :=
    (all_stalls_iff _).2 fun n hn => by simpa using none n hn
  have ended : cohFinish s = raiseEvent 0x012 (((s.set AUX_COH_CMD_STATUS stDone).set cohOpen 0).set (cmdLate 4) 0) := by
    have judged : (s.busy cohCmd && s.flag cohOpen && [0, 1, 2, 3].all fun n => !s.flag (pwmCohPart n)) = true := by
      rw [busy_eq_true (c := cohCmd) busy, (flag_eq_true_iff s _).2 opened, all]; rfl
    rw [cohFinish, if_pos judged, (flag_eq_false_iff s _).2 prompt, if_neg Bool.false_ne_true, State.cmdEnd, cohCmd]
  rw [ended]
  refine ⟨?_, ?_⟩
  · rw [(raiseEvent_reports 0x012 _).get cohOpen (by decide), State.get_set_ne _ _ _ _ (by decide), State.get_set_zero]
  · rw [(raiseEvent_reports 0x012 _).get AUX_COH_CMD_STATUS (by decide), State.get_set_ne _ _ _ _ (by decide), State.get_set_ne _ _ _ _ (by decide)]
    exact State.get_set_of_lt (by decide) s

/-- A reference zero that is no common boundary. -/
theorem referenceZero_plain {f : Fin 64} (on : s.get AUX_REF_CTRL_EN ≠ 0) (due : refNext s ≤ s.fineNow f)
    (no : s.get AUX_COH_CMD_STATUS ≠ stBusy ∨ s.get cohOpen ≠ 0 ∨ refNext s < s.get cohDue * 64) :
    exec (.referenceZero f) s = .next (refZeroPassed s) := by
  have plain : cohBoundary (refNext s) s = false := Bool.eq_false_iff.2 fun yes => by
    obtain ⟨busy, shut, reached⟩ := cohBoundary_iff.1 yes
    exact no.elim (· busy) fun h => h.elim (· shut) fun early => absurd reached (Nat.not_le.2 early)
  rw [exec_referenceZero_due on due, cohBoundary_refZeroPassed, plain, State.when_false]

/-- The fields that a reference zero writes at a common boundary, before the command is judged. -/
def cohZero (s : State) : State := cohReached (refNext s) (refZeroPassed s)

theorem referenceZero_boundary {f : Fin 64} (on : s.get AUX_REF_CTRL_EN ≠ 0) (due : refNext s ≤ s.fineNow f)
    (busy : s.get AUX_COH_CMD_STATUS = stBusy) (shut : s.get cohOpen = 0) (reached : s.get cohDue * 64 ≤ refNext s) :
    exec (.referenceZero f) s = .next (cohFinish (cohZero s)) := by
  rw [exec_referenceZero_due on due, cohBoundary_refZeroPassed, cohBoundary_iff.2 ⟨busy, shut, reached⟩]; rfl

theorem cohZero_get {g : Fld} (zero : ∀ f ∈ [AUX_REF_PER_PER_ACT, refRun, refZeroAt], g.key ≠ f.key)
    (load : ∀ f ∈ [AUX_REF_PER_PER_ACT, cohOpen, cohAt], g.key ≠ f.key) (s : State) : (cohZero s).get g = s.get g := by
  rw [cohZero, cohReached_get load, refZeroPassed_get zero]

theorem cohZero_reads (fits : refNext s < 2 ^ 72) : (cohZero s).get refRun = 1 ∧ (cohZero s).get refZeroAt = refNext s ∧
    (cohZero s).get AUX_REF_PER_PER_ACT = s.get AUX_REF_PER_PER ∧ (cohZero s).get cohAt = refNext s ∧ (cohZero s).get cohOpen = 1 := by
  obtain ⟨runs, zero, -⟩ := refZeroPassed_reads fits
  obtain ⟨period, opened, instant⟩ := cohReached_reads (s := refZeroPassed s) fits
  refine ⟨?_, ?_, period.trans (refZeroPassed_get (by decide) s), instant, opened⟩
  · rw [cohZero, cohReached_get (by decide), runs]
  · rw [cohZero, cohReached_get (by decide), zero]

theorem cohZero_part {n : Nat} (hn : n < 4) (s : State) : (cohZero s).get (pwmCohPart n) = s.get (pwmCohPart n) := by
  have apart : ∀ n < 4, (∀ f ∈ [AUX_REF_PER_PER_ACT, refRun, refZeroAt], (pwmCohPart n).key ≠ f.key) ∧
    ∀ f ∈ [AUX_REF_PER_PER_ACT, cohOpen, cohAt], (pwmCohPart n).key ≠ f.key := by decide
  obtain ⟨zero, load⟩ := apart n hn
  exact cohZero_get zero load s

end Reference

/-! ### The cross-Stall load itself (R220, R223) -/

/-- Whether the load's mask names Stall `n`, itself or through its lead. -/
def cohNamed (s : State) (n : Nat) : Bool :=
  bitAt (s.get AUX_COH_MASK_MASK) n || (s.get (PWM_CTRL_PAIR n) == 2 && bitAt (s.get AUX_COH_MASK_MASK) (n - 1))

/-- Stall `n` takes part in the load, or is named skipped. -/
def cohJoin (named : Nat → Bool) (n : Nat) (s : State) : State :=
  if named n && switching n s then s.set (pwmCohPart n) 1 else (s.set (pwmCohPart n) 0).setBit AUX_COH_STAT_SKIPPED n (named n)

/-- The load waits for its boundary, with no Stall named yet. -/
def cohWaits (s : State) : State :=
  (((s.set AUX_COH_STAT_SKIPPED 0).set AUX_COH_STAT_LOADED 0).set cohOpen 0).set cohDue (s.now + 64)

theorem exec_coherentLoad (s : State) : exec .coherentLoad s = .next (s.cmdStart cohCmd 1 (s.flag AUX_REF_CTRL_EN) stBusy
    (fun s => (cohWaits s).each [0, 1, 2, 3] (cohJoin (cohNamed s))) id) := rfl

section Load
variable {s : State} {n m : Nat} {named : Nat → Bool}

theorem coherentLoad_refused (idle : s.get AUX_COH_CMD_STATUS ≠ stBusy) (off : s.get AUX_REF_CTRL_EN = 0) :
    exec .coherentLoad s = .next (s.cmdSet cohCmd 1 stRefused) := by
  rw [exec_coherentLoad, (flag_eq_false_iff s _).2 off, cmdStart_refused idle]; rfl

/-- The accepted load, before its Stalls are named. -/
def cohAccepted (s : State) : State := cohWaits (s.cmdSet cohCmd 1 stBusy)

theorem coherentLoad_runs (idle : s.get AUX_COH_CMD_STATUS ≠ stBusy) (on : s.get AUX_REF_CTRL_EN ≠ 0) :
    exec .coherentLoad s = .next ((cohAccepted s).each [0, 1, 2, 3] (cohJoin (cohNamed (s.cmdSet cohCmd 1 stBusy)))) := by
  rw [exec_coherentLoad, (flag_eq_true_iff s _).2 on, cmdStart_run idle]; rfl

theorem cohNamed_cmdSet (hn : n < 4) (s : State) : cohNamed (s.cmdSet cohCmd 1 stBusy) n = cohNamed s n := by
  have apart : ∀ n < 4, (PWM_CTRL_PAIR n).key ≠ AUX_COH_CMD_CODE.key ∧ (PWM_CTRL_PAIR n).key ≠ AUX_COH_CMD_STATUS.key := by decide
  obtain ⟨code, status⟩ := apart n hn
  rw [cohNamed, cmdSet_get_ne (r := cohCmd) (g := AUX_COH_MASK_MASK) (by decide) (by decide), cmdSet_get_ne (r := cohCmd) code status]; rfl

/-- Keys of the fields that naming a Stall writes. -/
def cohJoinKey (k : Nat) : Bool := (AUX_COH_STAT_SKIPPED :: (List.range 4).map pwmCohPart).any fun f => f.key == k

theorem cohJoin_keys (hn : n < 4) (s : State) : WritesKeys cohJoinKey s (cohJoin named n s) := by
  have part : ∀ n < 4, cohJoinKey (pwmCohPart n).key = true := by decide
  exact ((WritesKeys.refl _ s).set (part n hn) 1).cond (((WritesKeys.refl _ s).set (part n hn) 0).set (by decide) _)

theorem cohJoins_keys {l : List Nat} (hl : ∀ n ∈ l, n < 4) (s : State) : WritesKeys cohJoinKey s (s.each l (cohJoin named)) :=
  (WritesKeys.refl _ s).each fun n hn _ h => h.trans (cohJoin_keys (hl n hn) _)

theorem cohJoin_switching (hn : n < 4) (hm : m < 4) (s : State) : switching m (cohJoin named n s) = switching m s := by
  have apart : ∀ m < 4, cohJoinKey (PWM_STAT_STATE m).key = false := by decide
  simp only [switching, (cohJoin_keys hn s).get _ (apart m hm)]

/-- A bit of `AUX_COH_STAT.SKIPPED` set leaves the others. -/
theorem bitAt_setBit_skipped (hn : n < 4) (hm : m < 4) (b : Bool) (s : State) :
    bitAt ((s.setBit AUX_COH_STAT_SKIPPED n b).get AUX_COH_STAT_SKIPPED) m = if m = n then b else bitAt (s.get AUX_COH_STAT_SKIPPED) m := by
  have four : ∀ v < 16, ∀ n < 4, ∀ m < 4, ∀ b, bitAt (putBit v n b % 16) m = if m = n then b else bitAt v m := by decide
  rw [State.setBit, State.get_set_same]
  exact four _ (State.get_lt s AUX_COH_STAT_SKIPPED) n hn m hm b

theorem part_ne_skipped (hn : n < 4) : (pwmCohPart n).key ≠ AUX_COH_STAT_SKIPPED.key := by
  revert n; decide

theorem part_key_ne (h : n ≠ m) : (pwmCohPart n).key ≠ (pwmCohPart m).key := by
  simp only [pwmCohPart, ix, Fld.key]; omega

theorem cohJoin_same (hn : n < 4) (clear : bitAt (s.get AUX_COH_STAT_SKIPPED) n = false) :
    (cohJoin named n s).get (pwmCohPart n) = (named n && switching n s).toNat ∧
      bitAt ((cohJoin named n s).get AUX_COH_STAT_SKIPPED) n = (named n && !switching n s) := by
  have skip := (part_ne_skipped hn).symm
  by_cases joins : (named n && switching n s) = true
  · rw [cohJoin, if_pos joins, joins, State.get_set_one rfl, State.get_set_ne _ _ _ _ skip, clear]
    obtain ⟨-, runs⟩ := Bool.and_eq_true _ _ ▸ joins
    exact ⟨rfl, by simp [runs]⟩
  · rw [cohJoin, if_neg joins, bitAt_setBit_skipped hn hn, if_pos rfl, State.setBit, State.get_set_ne _ _ _ _ skip.symm, State.get_set_zero,
      Bool.eq_false_iff.2 joins]
    refine ⟨rfl, ?_⟩
    cases named_n : named n with
    | false => rfl
    | true => simpa [named_n] using joins

theorem cohJoin_other (hn : n < 4) (hm : m < 4) (h : n ≠ m) : (cohJoin named m s).get (pwmCohPart n) = s.get (pwmCohPart n) ∧
    bitAt ((cohJoin named m s).get AUX_COH_STAT_SKIPPED) n = bitAt (s.get AUX_COH_STAT_SKIPPED) n := by
  have part := part_key_ne h
  have skip := (part_ne_skipped hm).symm
  unfold cohJoin
  split
  · rw [State.get_set_ne _ _ _ _ part, State.get_set_ne _ _ _ _ skip]; exact ⟨rfl, rfl⟩
  · rw [bitAt_setBit_skipped hm hn, if_neg h, State.get_set_ne _ _ _ _ skip, State.setBit, State.get_set_ne _ _ _ _ (part_ne_skipped hn),
      State.get_set_ne _ _ _ _ part]
    exact ⟨rfl, rfl⟩

theorem cohJoins_other (hn : n < 4) {l : List Nat} (hl : ∀ m ∈ l, m < 4) (out : n ∉ l) (s : State) :
    (s.each l (cohJoin named)).get (pwmCohPart n) = s.get (pwmCohPart n) ∧
      bitAt ((s.each l (cohJoin named)).get AUX_COH_STAT_SKIPPED) n = bitAt (s.get AUX_COH_STAT_SKIPPED) n := by
  induction l generalizing s with
  | nil => exact ⟨rfl, rfl⟩
  | cons m r ih =>
    obtain ⟨hm, hr⟩ := List.forall_mem_cons.1 hl
    obtain ⟨here, rest⟩ := not_or.1 (mt List.mem_cons.2 out)
    obtain ⟨part, bit⟩ := ih hr rest (cohJoin named m s)
    obtain ⟨part', bit'⟩ := cohJoin_other (s := s) (named := named) hn hm here
    exact ⟨part.trans part', bit.trans bit'⟩

/-- Each Stall of the list takes part where it is named and switching, and is named skipped where it is named and does not switch. -/
theorem cohJoins_mem {l : List Nat} (hl : ∀ m ∈ l, m < 4) (once : l.Nodup) (hn : n ∈ l) {s : State}
    (clear : bitAt (s.get AUX_COH_STAT_SKIPPED) n = false) :
    (s.each l (cohJoin named)).get (pwmCohPart n) = (named n && switching n s).toNat ∧
      bitAt ((s.each l (cohJoin named)).get AUX_COH_STAT_SKIPPED) n = (named n && !switching n s) := by
  have small := hl n hn
  induction l generalizing s with
  | nil => exact absurd hn List.not_mem_nil
  | cons m r ih =>
    obtain ⟨hm, hr⟩ := List.forall_mem_cons.1 hl
    obtain ⟨apart, once⟩ := List.nodup_cons.1 once
    by_cases here : n = m
    · subst here
      obtain ⟨part, bit⟩ := cohJoins_other (named := named) small hr apart (cohJoin named n s)
      obtain ⟨part', bit'⟩ := cohJoin_same (named := named) small clear
      exact ⟨part.trans part', bit.trans bit'⟩
    · obtain ⟨-, bit⟩ := cohJoin_other (s := s) (named := named) small hm here
      have rest := ih hr once ((List.mem_cons.1 hn).resolve_left here) (s := cohJoin named m s) (bit.trans clear)
      rwa [cohJoin_switching hm small] at rest

theorem cohAccepted_reads (s : State) : (cohAccepted s).get AUX_COH_CMD_STATUS = stBusy ∧ (cohAccepted s).get cohDue = s.now + 64 ∧
    (cohAccepted s).get AUX_COH_STAT_SKIPPED = 0 := by
  have fits : s.now + 64 < 2 ^ cohDue.width := by
    have := s.now_lt
    rw [show cohDue.width = 72 from rfl]; omega
  have due : (cohAccepted s).get cohDue = s.now + 64 := State.get_set_of_lt fits _
  refine ⟨?_, due, ?_⟩
  · rw [cohAccepted, cohWaits, State.get_set_ne _ _ _ _ (by decide), State.get_set_ne _ _ _ _ (by decide), State.get_set_ne _ _ _ _ (by decide),
      State.get_set_ne _ _ _ _ (by decide)]
    exact cmdSet_get_status (r := cohCmd) (by decide) 1 s
  · rw [cohAccepted, cohWaits, State.get_set_ne _ _ _ _ (by decide), State.get_set_ne _ _ _ _ (by decide), State.get_set_ne _ _ _ _ (by decide),
      State.get_set_zero]

theorem cohAccepted_switching (hn : n < 4) (s : State) : switching n (cohAccepted s) = switching n s := by
  have apart : ∀ n < 4, ∀ f ∈ [AUX_COH_CMD_CODE, AUX_COH_CMD_STATUS, AUX_COH_STAT_SKIPPED, AUX_COH_STAT_LOADED, cohOpen, cohDue],
    (PWM_STAT_STATE n).key ≠ f.key := by decide
  have clear := apart n hn
  simp only [List.forall_mem_cons] at clear
  obtain ⟨code, status, skipped, loaded, opened, due, -⟩ := clear
  have state : (cohAccepted s).get (PWM_STAT_STATE n) = s.get (PWM_STAT_STATE n) := by
    rw [cohAccepted, cohWaits, State.get_set_ne _ _ _ _ due, State.get_set_ne _ _ _ _ opened, State.get_set_ne _ _ _ _ loaded,
      State.get_set_ne _ _ _ _ skipped, cmdSet_get_ne (r := cohCmd) code status]
  simp only [switching, state]

/-- An accepted cross-Stall load: its command runs, and each Stall takes part or is named skipped. -/
theorem coherentLoad_joins (idle : s.get AUX_COH_CMD_STATUS ≠ stBusy) (on : s.get AUX_REF_CTRL_EN ≠ 0) : ∃ t, exec .coherentLoad s = .next t ∧
    t.get AUX_COH_CMD_STATUS = stBusy ∧ t.get cohDue = s.now + 64 ∧ ∀ n < 4, t.get (pwmCohPart n) = (cohNamed s n && switching n s).toNat ∧
      bitAt (t.get AUX_COH_STAT_SKIPPED) n = (cohNamed s n && !switching n s) := by
  obtain ⟨busy, due, clear⟩ := cohAccepted_reads s
  have frame := cohJoins_keys (named := cohNamed (s.cmdSet cohCmd 1 stBusy)) (l := [0, 1, 2, 3]) (by decide) (cohAccepted s)
  refine ⟨_, coherentLoad_runs idle on, (frame.get _ (by decide)).trans busy, (frame.get _ (by decide)).trans due, fun n hn => ?_⟩
  have joined := cohJoins_mem (named := cohNamed (s.cmdSet cohCmd 1 stBusy)) (l := [0, 1, 2, 3]) (n := n) (s := cohAccepted s) (by decide) (by decide)
    (by simp; omega) (by rw [clear]; simp [bitAt])
  rwa [cohNamed_cmdSet hn, cohAccepted_switching hn] at joined

end Load

end Sys2Proof.Machine
end

section
/-!
SUPPORT. The lines and the carriers of the AUX units (R236, R237, R249): what a call, a period, a selection and the pin write, and what the fields
read after them.
-/

namespace Sys2Proof.Machine
open Reg

/-! ### The links of the AUX units -/

/-- Keys of the own fields of Rein links 12 and 13. -/
def auxLinkKey (x : Nat) : Bool := decide (2 ^ 40 ≤ x / 32) && x / 32 / 2 ^ 30 % 64 == 56

theorem auxLinkKey_own {l id i : Nat} (hl : 12 ≤ l) (hid : id < 4096) (hi : i < 0x40000) (dom w r : Nat) :
    auxLinkKey (ix dom (linkBlk l) id i w r).key = true := by
  have high : 2 ^ 40 ≤ (ix dom 56 id i w r).key / 32 := by simp only [Fld.key, ix]; omega
  have block : (ix dom 56 id i w r).key / 32 / 2 ^ 30 % 64 = 56 := by simp only [Fld.key, ix]; omega
  rw [linkBlk, if_neg (Nat.not_lt.2 hl), auxLinkKey, block, decide_eq_true high]; rfl

section Unit
variable {a s : State} {k : Nat}

/-- A link of the AUX units has no early selections to count: an edge of it writes the link's own fields only. -/
theorem reinEdge_auxKeys (hk : k < 2) {kind : Nat} (hkind : kind < 4) (t : Nat) (s : State) :
    WritesKeys auxLinkKey s (reinEdge (12 + k) kind t s) := by
  have own : ∀ {id i : Nat}, id < 4096 → i < 0x40000 → ∀ dom w r, auxLinkKey (ix dom (linkBlk (12 + k)) id i w r).key = true :=
    fun hid hi => auxLinkKey_own (Nat.le_add_right 12 k) hid hi
  have at_ : ∀ j < 4, auxLinkKey (reinEAt (12 + k) (4 * kind + j)).key = true := fun j hj => own (by decide) (by omega) _ _ _
  have info : ∀ j < 4, auxLinkKey (reinEInfo (12 + k) (4 * kind + j)).key = true := fun j hj => own (by decide) (by omega) _ _ _
  have stamp : auxLinkKey (reinVonStamp (12 + k) (kind / 2)).key = true := own (by decide) (by omega) _ _ _
  have sample : auxLinkKey (reinVsEnd (12 + k) (kind / 2)).key = true := own (by decide) (by omega) _ _ _
  have uncounted : decide (12 + k < 12) = false := decide_eq_false (by omega)
  unfold reinEdge
  simp only [uncounted, Bool.false_and, State.when_false]
  refine WritesKeys.when ((((WritesKeys.refl _ s).each fun j hj u hu => ?_).set (at_ 0 (by decide)) _).set (info 0 (by decide)) _)
    fun h => (h.set stamp _).set sample _
  have small : j < 4 := by simp at hj; omega
  exact (hu.set (at_ j small) _).set (info j small) _

/-- Keys that sending a selection to unit `k`'s driver writes. -/
def auxSelKey (k x : Nat) : Bool := auxLinkKey x || (REIN_Lh_ECHO_EXP (12 + k)).key == x

theorem dnSend_auxKeys (h : WritesKeys (auxSelKey k) a s) (hk : k < 2) {typ : Nat} (ht : typ < 16) (tag len pay t : Nat) :
    WritesKeys (auxSelKey k) a (dnSend (12 + k) typ tag len pay t s) := by
  have own : ∀ {id i : Nat}, id < 4096 → i < 0x40000 → ∀ dom w r, auxSelKey k (ix dom (linkBlk (12 + k)) id i w r).key = true :=
    fun hid hi dom w r => by rw [auxSelKey, auxLinkKey_own (Nat.le_add_right 12 k) hid hi, Bool.true_or]
  exact (((h.set (own (by decide) (by omega) _ _ _) _).set (own (by decide) (by omega) _ _ _) _).set (own (by decide) (by omega) _ _ _) _).set
    (own (by decide) (by omega) _ _ _) _

theorem auxSel_keys (hk : k < 2) (t : Nat) (s : State) : WritesKeys (auxSelKey k) s (auxSel k t s) := by
  have own : ∀ {id i : Nat}, id < 4096 → i < 0x40000 → ∀ dom w r, auxSelKey k (ix dom (linkBlk (12 + k)) id i w r).key = true :=
    fun hid hi dom w r => by rw [auxSelKey, auxLinkKey_own (Nat.le_add_right 12 k) hid hi, Bool.true_or]
  have tag : auxSelKey k (REIN_Lh_ECHO_EXP (12 + k)).key = true := by simp [auxSelKey]
  unfold auxSel sendSel
  refine WritesKeys.cond (WritesKeys.when ?_ fun h => ?_) (WritesKeys.refl _ s)
  · exact ((dnSend_auxKeys ((WritesKeys.refl _ s).set tag _) hk (by decide) _ _ _ _).set (own (by decide) (by omega) _ _ _) _).set
      (own (by decide) (by omega) _ _ _) _
  · exact ((dnSend_auxKeys h hk (by decide) _ _ _ _).set (own (by decide) (by omega) _ _ _) _).set (own (by decide) (by omega) _ _ _) _

/-! ### The line (R236, R237, R244) -/

/-- What the line of unit `k` follows: its call, where the pin, the STO inputs and the link let it. -/
def auxLit (k : Nat) (s : State) : Bool :=
  s.flag (auxWant k) && s.flag safAuxPin && !stoMapped (4 + k) s && s.get (REIN_Lh_STAT_STATE (12 + k)) == 3

/-- The line of unit `k` has changed to level `on` at instant `t`. -/
def auxSwitched (k t : Nat) (on : Bool) (s : State) : State := reinEdge (12 + k) (!on).toNat t (s.setB (AUX_Ak_STAT_LINE k) on)

theorem auxLine_eq (k t : Nat) (s : State) : auxLine k t s = if s.flag (AUX_Ak_STAT_LINE k) = auxLit k s then s
    else if auxLit k s then (auxSwitched k t (auxLit k s) s).set (auxOnAt k) t else (auxSwitched k t (auxLit k s) s).set (auxOffAt k) (t + 1) := rfl

/-- Keys that the line of unit `k` writes. -/
def auxLineKey (k x : Nat) : Bool := auxLinkKey x || [AUX_Ak_STAT_LINE k, auxOnAt k, auxOffAt k].any fun f => f.key == x

theorem auxLineKey_of_link (k x : Nat) (h : auxLinkKey x = true) : auxLineKey k x = true := by rw [auxLineKey, h, Bool.true_or]

theorem auxSwitched_keys (hk : k < 2) (t : Nat) (on : Bool) (s : State) : WritesKeys (auxLineKey k) s (auxSwitched k t on s) :=
  ((WritesKeys.refl _ s).set (by simp [auxLineKey]) _).trans
    ((reinEdge_auxKeys hk (by have := Bool.toNat_lt (!on); omega) t _).mono (auxLineKey_of_link k))

theorem auxLine_keys (hk : k < 2) (t : Nat) (s : State) : WritesKeys (auxLineKey k) s (auxLine k t s) := by
  rw [auxLine_eq]
  refine WritesKeys.cond (WritesKeys.refl _ s) (WritesKeys.cond ?_ ?_)
  · exact (auxSwitched_keys hk t _ s).set (by simp [auxLineKey]) _
  · exact (auxSwitched_keys hk t _ s).set (by simp [auxLineKey]) _

theorem State.flag_setB {f : Fld} (h : f.width = 1) (s : State) (b : Bool) : (s.setB f b).flag f = b := by
  rw [State.flag, State.get_setB_same h]; cases b <;> rfl

theorem State.flag_congr {f : Fld} {s t : State} (h : t.get f = s.get f) : t.flag f = s.flag f := congrArg (· != 0) h

theorem auxSwitched_line (hk : k < 2) (t : Nat) (on : Bool) (s : State) : (auxSwitched k t on s).flag (AUX_Ak_STAT_LINE k) = on := by
  have apart : ∀ k < 2, auxLinkKey (AUX_Ak_STAT_LINE k).key = false := by decide
  have kept := (reinEdge_auxKeys hk (kind := (!on).toNat) (by have := Bool.toNat_lt (!on); omega) t (s.setB (AUX_Ak_STAT_LINE k) on)).get _
    (apart k hk)
  exact (State.flag_congr kept).trans (State.flag_setB rfl s on)

theorem auxLine_line (hk : k < 2) (t : Nat) (s : State) : (auxLine k t s).flag (AUX_Ak_STAT_LINE k) = auxLit k s := by
  have apart : ∀ k < 2, (AUX_Ak_STAT_LINE k).key ≠ (auxOnAt k).key ∧ (AUX_Ak_STAT_LINE k).key ≠ (auxOffAt k).key := by decide
  obtain ⟨onAt, offAt⟩ := apart k hk
  rw [auxLine_eq]
  split
  · assumption
  · split
    · exact (State.flag_congr (State.get_set_ne _ _ _ _ onAt)).trans (auxSwitched_line hk t _ s)
    · exact (State.flag_congr (State.get_set_ne _ _ _ _ offAt)).trans (auxSwitched_line hk t _ s)

/-- What the line follows besides its call. -/
def auxLitFields (k : Nat) : List Fld := [safAuxPin, safStoMap, safStoHeld, REIN_Lh_STAT_STATE (12 + k)]

/-! ### A call (R210, R236) -/

/-- Unit `k` calls for a level that takes effect. -/
def auxCalled (k : Nat) (on : Bool) (s : State) : State := (s.setB (auxWant k) on).set (auxWait k) 0

theorem auxCall_due {due t : Nat} (h : due ≤ t) (on : Bool) (s : State) : auxCall k due t on s = auxLine k (s.placeAt 4 due) (auxCalled k on s) :=
  if_pos h

theorem auxCall_later {due t : Nat} (h : t < due) (on : Bool) (s : State) :
    auxCall k due t on s = (s.set (auxWait k) (if on then 1 else 2)).set (auxWaitAt k) due := if_neg (Nat.not_le.2 h)

/-- Keys that a call of unit `k` writes. -/
def auxCallKey (k x : Nat) : Bool := auxLineKey k x || [auxWant k, auxWait k, auxWaitAt k].any fun f => f.key == x

theorem auxCallKey_of_line (k x : Nat) (h : auxLineKey k x = true) : auxCallKey k x = true := by rw [auxCallKey, h, Bool.true_or]

theorem auxCall_keys (hk : k < 2) (due t : Nat) (on : Bool) (s : State) : WritesKeys (auxCallKey k) s (auxCall k due t on s) := by
  have field : ∀ f ∈ [auxWant k, auxWait k, auxWaitAt k], auxCallKey k f.key = true := fun f hf => by
    rw [auxCallKey, Bool.or_eq_true, List.any_eq_true]; exact Or.inr ⟨f, hf, beq_self_eq_true _⟩
  unfold auxCall
  refine WritesKeys.cond ?_ (((WritesKeys.refl _ s).set (field _ (by simp)) _).set (field _ (by simp)) _)
  exact (((WritesKeys.refl _ s).set (field _ (by simp)) _).set (field _ (by simp)) _).trans
    ((auxLine_keys hk _ _).mono (auxCallKey_of_line k))

theorem auxDelayed_keys (hk : k < 2) (t : Nat) (s : State) : WritesKeys (auxCallKey k) s (auxDelayed k t s) :=
  WritesKeys.cond (WritesKeys.refl _ s) (auxCall_keys hk _ t _ s)

theorem auxCall_due_reads (hk : k < 2) {due t : Nat} (h : due ≤ t) (on : Bool) (s : State) : (auxCall k due t on s).flag (auxWant k) = on ∧
    (auxCall k due t on s).get (auxWait k) = 0 ∧ (auxCall k due t on s).flag (AUX_Ak_STAT_LINE k) =
      (on && s.flag safAuxPin && !stoMapped (4 + k) s && s.get (REIN_Lh_STAT_STATE (12 + k)) == 3) := by
  have apart : ∀ k < 2, auxLineKey k (auxWant k).key = false ∧ auxLineKey k (auxWait k).key = false ∧ (auxWant k).key ≠ (auxWait k).key ∧
    ∀ f ∈ auxLitFields k, f.key ≠ (auxWant k).key ∧ f.key ≠ (auxWait k).key := by decide
  obtain ⟨want, wait, beside, lit⟩ := apart k hk
  have frame := auxLine_keys hk (s.placeAt 4 due) (auxCalled k on s)
  have kept : ∀ f ∈ auxLitFields k, (auxCalled k on s).get f = s.get f := fun f hf =>
    (State.get_set_ne _ _ _ _ (lit f hf).2).trans (State.get_setB_ne (lit f hf).1 s on)
  have called : (auxCalled k on s).flag (auxWant k) = on := (State.flag_congr (State.get_set_ne _ _ _ _ beside)).trans (State.flag_setB rfl s on)
  rw [auxCall_due h]
  refine ⟨(State.flag_congr (frame.get _ want)).trans called, (frame.get _ wait).trans (State.get_set_zero _ _), ?_⟩
  rw [auxLine_line hk, auxLit, called, stoMapped, stoMapped, State.flag, State.flag, kept safAuxPin (by simp [auxLitFields]),
    kept safStoMap (by simp [auxLitFields]), kept safStoHeld (by simp [auxLitFields]), kept _ (by simp [auxLitFields])]

theorem auxCall_later_reads (hk : k < 2) {due t : Nat} (h : t < due) (fits : due < 2 ^ 72) (on : Bool) (s : State) :
    (auxCall k due t on s).get (auxWaitAt k) = due ∧ (auxCall k due t on s).get (auxWait k) = (if on then 1 else 2) ∧
      (auxCall k due t on s).get (AUX_Ak_STAT_LINE k) = s.get (AUX_Ak_STAT_LINE k) := by
  have apart : ∀ k < 2, (auxWait k).key ≠ (auxWaitAt k).key ∧ (AUX_Ak_STAT_LINE k).key ≠ (auxWaitAt k).key ∧
    (AUX_Ak_STAT_LINE k).key ≠ (auxWait k).key := by decide
  obtain ⟨wait, lineAt, line⟩ := apart k hk
  have two : (if on then 1 else 2) < 2 ^ (auxWait k).width := by
    rw [show (auxWait k).width = 2 from rfl]; split <;> decide
  rw [auxCall_later h]
  refine ⟨State.get_set_of_lt fits _, ?_, ?_⟩
  · rw [State.get_set_ne _ _ _ _ wait, State.get_set_of_lt two]
  · rw [State.get_set_ne _ _ _ _ lineAt, State.get_set_ne _ _ _ _ line]

/-! ### A period (R236, R237) -/

/-- A period of unit `k` begins at instant `t`, its shadows loaded. -/
def auxLoaded (k t : Nat) (s : State) : State :=
  (((s.set (AUX_Ak_PER_PER_ACT k) (s.get (AUX_Ak_PER_PER k))).set (AUX_Ak_CMP_CMP_ACT k) (s.get (AUX_Ak_CMP_CMP k))).set (auxZeroAt k) t).set
    (auxRun k) 1

/-- Whether the compare in force lies above the period in force, with no demand to overrule it. -/
def auxOver (k : Nat) (s : State) : Bool :=
  !s.flag (AUX_Ak_STAT_DEMAND k) && decide (s.get (AUX_Ak_PER_PER_ACT k) < s.get (AUX_Ak_CMP_CMP_ACT k))

/-- A clamped compare is counted, and reported after a period without one. -/
def auxClamped (k : Nat) (s : State) : State :=
  (s.setB (auxClampSeen k) (auxOver k s)).when (auxOver k s) fun t =>
    (t.inc (AUX_Ak_CLAMP_COUNT k)).when (!s.flag (auxClampSeen k)) (raiseEvent 0x011)

/-- The level that the new period calls for. -/
def auxBegins (k : Nat) (ton : Nat) (s : State) : Bool :=
  ton != 0 && (s.flag (AUX_Ak_STAT_LINE k) || decide (s.get (AUX_Ak_CTRL_MINP k) ≤ ton))

theorem auxPeriod_eq (k t : Nat) (s : State) : auxPeriod k t s = auxGo k t (auxBegins k (auxOnTime k (auxLoaded k t s))
    (auxClamped k (auxLoaded k t s))) (auxClamped k (auxLoaded k t s)) := rfl

theorem auxPeriod_get (hk : k < 2) {f : Fld} (h : auxCallKey k f.key = false) (t : Nat) (s : State) :
    (auxPeriod k t s).get f = (auxClamped k (auxLoaded k t s)).get f := by
  rw [auxPeriod_eq]; exact (auxCall_keys hk _ _ _ _).get f h

theorem auxClamped_get {f : Fld} (silent : reported (f.key / 32) = false) (seen : f.key ≠ (auxClampSeen k).key)
    (count : f.key ≠ (AUX_Ak_CLAMP_COUNT k).key) (s : State) : (auxClamped k s).get f = s.get f := by
  rw [auxClamped, State.get_when, State.get_setB_ne seen]
  rw [State.get_when ((raiseEvent_reports 0x011 _).get f silent), State.get_inc_ne count]

theorem auxClamped_count (hk : k < 2) (s : State) : (auxClamped k s).get (AUX_Ak_CLAMP_COUNT k) =
    clampU (AUX_Ak_CLAMP_COUNT k).width (s.get (AUX_Ak_CLAMP_COUNT k) + (auxOver k s).toNat) := by
  have apart : ∀ k < 2, reported ((AUX_Ak_CLAMP_COUNT k).key / 32) = false ∧ (AUX_Ak_CLAMP_COUNT k).key ≠ (auxClampSeen k).key := by decide
  obtain ⟨silent, seen⟩ := apart k hk
  unfold auxClamped
  cases auxOver k s with
  | true =>
    rw [State.when_true, State.get_when ((raiseEvent_reports 0x011 _).get _ silent), State.get_inc_same, State.get_setB_ne seen]; rfl
  | false =>
    have room : s.get (AUX_Ak_CLAMP_COUNT k) ≤ 2 ^ (AUX_Ak_CLAMP_COUNT k).width - 1 := Nat.le_sub_one_of_lt (State.get_lt s _)
    rw [State.when_false, State.get_setB_ne seen]
    exact (Nat.min_eq_left room).symm

/-- The fields that the start of a period writes, before the clamp and the call. -/
def auxLoadFields (k : Nat) : List Fld := [AUX_Ak_PER_PER_ACT k, AUX_Ak_CMP_CMP_ACT k, auxZeroAt k, auxRun k]

theorem auxLoaded_get {f : Fld} (h : ∀ g ∈ auxLoadFields k, f.key ≠ g.key) (t : Nat) (s : State) : (auxLoaded k t s).get f = s.get f := by
  rw [auxLoaded, State.get_set_ne _ _ _ _ (h (auxRun k) (by simp [auxLoadFields])),
    State.get_set_ne _ _ _ _ (h (auxZeroAt k) (by simp [auxLoadFields])),
    State.get_set_ne _ _ _ _ (h (AUX_Ak_CMP_CMP_ACT k) (by simp [auxLoadFields])),
    State.get_set_ne _ _ _ _ (h (AUX_Ak_PER_PER_ACT k) (by simp [auxLoadFields]))]

theorem auxLoaded_reads (hk : k < 2) {t : Nat} (fits : t < 2 ^ 72) (s : State) : (auxLoaded k t s).get (auxZeroAt k) = t ∧
    (auxLoaded k t s).get (auxRun k) = 1 ∧ (auxLoaded k t s).get (AUX_Ak_PER_PER_ACT k) = s.get (AUX_Ak_PER_PER k) ∧
    (auxLoaded k t s).get (AUX_Ak_CMP_CMP_ACT k) = s.get (AUX_Ak_CMP_CMP k) := by
  have apart : ∀ k < 2, (auxZeroAt k).key ≠ (auxRun k).key ∧ (AUX_Ak_PER_PER_ACT k).key ≠ (auxRun k).key ∧
    (AUX_Ak_PER_PER_ACT k).key ≠ (auxZeroAt k).key ∧ (AUX_Ak_PER_PER_ACT k).key ≠ (AUX_Ak_CMP_CMP_ACT k).key ∧
    (AUX_Ak_CMP_CMP_ACT k).key ≠ (auxRun k).key ∧ (AUX_Ak_CMP_CMP_ACT k).key ≠ (auxZeroAt k).key := by decide
  obtain ⟨zeroRun, perRun, perZero, perCmp, cmpRun, cmpZero⟩ := apart k hk
  refine ⟨?_, State.get_set_one rfl _, ?_, ?_⟩
  · rw [auxLoaded, State.get_set_ne _ _ _ _ zeroRun]; exact State.get_set_of_lt fits _
  · rw [auxLoaded, State.get_set_ne _ _ _ _ perRun, State.get_set_ne _ _ _ _ perZero, State.get_set_ne _ _ _ _ perCmp]
    exact State.get_set_get (f := AUX_Ak_PER_PER_ACT k) (g := AUX_Ak_PER_PER k) (Nat.le_refl _) s s
  · rw [auxLoaded, State.get_set_ne _ _ _ _ cmpRun, State.get_set_ne _ _ _ _ cmpZero]
    exact State.get_set_get (f := AUX_Ak_CMP_CMP_ACT k) (g := AUX_Ak_CMP_CMP k) (Nat.le_refl _) s _

/-- Neither the clamp nor the call touches what the start of a period loads. -/
theorem auxPeriod_reads (hk : k < 2) {t : Nat} (fits : t < 2 ^ 72) (s : State) : (auxPeriod k t s).get (auxZeroAt k) = t ∧
    (auxPeriod k t s).get (auxRun k) = 1 ∧ (auxPeriod k t s).get (AUX_Ak_PER_PER_ACT k) = s.get (AUX_Ak_PER_PER k) ∧
    (auxPeriod k t s).get (AUX_Ak_CMP_CMP_ACT k) = s.get (AUX_Ak_CMP_CMP k) := by
  have apart : ∀ k < 2, ∀ f ∈ auxLoadFields k, auxCallKey k f.key = false ∧ reported (f.key / 32) = false ∧ f.key ≠ (auxClampSeen k).key ∧
    f.key ≠ (AUX_Ak_CLAMP_COUNT k).key := by decide
  have kept : ∀ f ∈ auxLoadFields k, (auxPeriod k t s).get f = (auxLoaded k t s).get f := fun f hf => by
    obtain ⟨call, silent, seen, count⟩ := apart k hk f hf
    rw [auxPeriod_get hk call, auxClamped_get silent seen count]
  obtain ⟨zero, run, period, compare⟩ := auxLoaded_reads hk fits s
  exact ⟨(kept _ (by simp [auxLoadFields])).trans zero, (kept _ (by simp [auxLoadFields])).trans run,
    (kept _ (by simp [auxLoadFields])).trans period, (kept _ (by simp [auxLoadFields])).trans compare⟩

/-- The fields of unit `k` that a period leaves. -/
def auxKeptFields (k : Nat) : List Fld := [AUX_Ak_STAT_DEMAND k, AUX_Ak_STAT_DEMANDS k, auxFirst k]

theorem auxPeriod_kept (hk : k < 2) {f : Fld} (hf : f ∈ auxKeptFields k) (t : Nat) (s : State) : (auxPeriod k t s).get f = s.get f := by
  have apart : ∀ k < 2, ∀ f ∈ auxKeptFields k, auxCallKey k f.key = false ∧ reported (f.key / 32) = false ∧ f.key ≠ (auxClampSeen k).key ∧
    f.key ≠ (AUX_Ak_CLAMP_COUNT k).key ∧ ∀ g ∈ auxLoadFields k, f.key ≠ g.key := by decide
  obtain ⟨call, silent, seen, count, load⟩ := apart k hk f hf
  rw [auxPeriod_get hk call, auxClamped_get silent seen count, auxLoaded_get load]

theorem auxPeriod_count (hk : k < 2) {t : Nat} (fits : t < 2 ^ 72) (s : State) : (auxPeriod k t s).get (AUX_Ak_CLAMP_COUNT k) =
    clampU (AUX_Ak_CLAMP_COUNT k).width (s.get (AUX_Ak_CLAMP_COUNT k) +
      (if s.get (AUX_Ak_STAT_DEMAND k) = 0 ∧ s.get (AUX_Ak_PER_PER k) < s.get (AUX_Ak_CMP_CMP k) then 1 else 0)) := by
  have apart : ∀ k < 2, auxCallKey k (AUX_Ak_CLAMP_COUNT k).key = false ∧ (∀ g ∈ auxLoadFields k, (AUX_Ak_CLAMP_COUNT k).key ≠ g.key) ∧
    ∀ g ∈ auxLoadFields k, (AUX_Ak_STAT_DEMAND k).key ≠ g.key := by decide
  obtain ⟨call, count, demand⟩ := apart k hk
  obtain ⟨-, -, period, compare⟩ := auxLoaded_reads hk fits s
  have clamps : (auxOver k (auxLoaded k t s)).toNat =
      if s.get (AUX_Ak_STAT_DEMAND k) = 0 ∧ s.get (AUX_Ak_PER_PER k) < s.get (AUX_Ak_CMP_CMP k) then 1 else 0 := by
    rw [auxOver, period, compare, State.flag_congr (auxLoaded_get demand t s)]
    by_cases demanded : s.get (AUX_Ak_STAT_DEMAND k) = 0
    · by_cases less : s.get (AUX_Ak_PER_PER k) < s.get (AUX_Ak_CMP_CMP k) <;> simp [demanded, less]
    · simp [demanded]
  rw [auxPeriod_get hk call, auxClamped_count hk, auxLoaded_get count, clamps]

end Unit

end Sys2Proof.Machine
end

section
/-!
SUPPORT. The commands of the AUX units and the `AUX_EN` pin (R236, R237, R259, R364): what each comes to.
-/

namespace Sys2Proof.Machine
open Reg

section Commands
variable {k : Fin 2} {s : State}

/-! ### Enabling and disabling (R236, R364) -/

/-- Unit `k` is enabled, and its first zero is to come. -/
def auxEnabled (k : Nat) (s : State) : State := (s.set (AUX_Ak_CTRL_EN k) 1).set (auxDue k) (s.now + 64)

theorem exec_auxEnable (k : Fin 2) (s : State) : exec (.auxEnable k) s =
    .next (busOk (if s.flag (AUX_Ak_CTRL_EN k) then s else brokenDrive (auxEnabled k s))) := rfl

theorem exec_auxEnable_on (h : s.get (AUX_Ak_CTRL_EN k) ≠ 0) : exec (.auxEnable k) s = .next (busOk s) := by
  rw [exec_auxEnable, if_pos ((flag_eq_true_iff s _).2 h)]

theorem exec_auxEnable_off (h : s.get (AUX_Ak_CTRL_EN k) = 0) : exec (.auxEnable k) s = .next (busOk (brokenDrive (auxEnabled k s))) := by
  rw [exec_auxEnable, if_neg (by simp [h])]

theorem auxEnabled_lockstep (k : Fin 2) (s : State) : (auxEnabled k s).get YOKE_STAT_LOCKSTEP_BROKEN = s.get YOKE_STAT_LOCKSTEP_BROKEN := by
  have apart : ∀ k < 2, YOKE_STAT_LOCKSTEP_BROKEN.key ≠ (auxDue k).key ∧ YOKE_STAT_LOCKSTEP_BROKEN.key ≠ (AUX_Ak_CTRL_EN k).key := by decide
  obtain ⟨due, en⟩ := apart k k.isLt
  rw [auxEnabled, State.get_set_ne _ _ _ _ due, State.get_set_ne _ _ _ _ en]

theorem brokenDrive_whole (h : s.get YOKE_STAT_LOCKSTEP_BROKEN = 0) : brokenDrive s = s := by
  rw [brokenDrive, (flag_eq_false_iff s _).2 h, State.when_false]

theorem brokenDrive_broken (h : s.get YOKE_STAT_LOCKSTEP_BROKEN ≠ 0) : brokenDrive s = raiseFault (yardCode 4 0x10) .deviceSafe s := by
  rw [brokenDrive, (flag_eq_true_iff s _).2 h, State.when_true]

/-- Unit `k` without its `EN`, its carrier stopped and its line no longer called on. -/
def auxStopped (k : Nat) (s : State) : State :=
  (((s.set (AUX_Ak_CTRL_EN k) 0).set (auxWant k) 0).set (auxWait k) 0).set (auxRun k) 0

theorem exec_auxDisable (k : Fin 2) (s : State) : exec (.auxDisable k) s = .next (busOk
    (if !s.flag (AUX_Ak_CTRL_EN k) || s.flag (AUX_Ak_STAT_DEMAND k) then s.set (AUX_Ak_CTRL_EN k) 0
      else auxLine k (s.now * 64) (auxStopped k s))) := rfl

theorem exec_auxDisable_kept (h : s.get (AUX_Ak_CTRL_EN k) = 0 ∨ s.get (AUX_Ak_STAT_DEMAND k) ≠ 0) :
    exec (.auxDisable k) s = .next (busOk (s.set (AUX_Ak_CTRL_EN k) 0)) := by
  rw [exec_auxDisable, if_pos (by simpa using h)]

theorem exec_auxDisable_off (on : s.get (AUX_Ak_CTRL_EN k) ≠ 0) (free : s.get (AUX_Ak_STAT_DEMAND k) = 0) :
    exec (.auxDisable k) s = .next (busOk (auxLine k (s.now * 64) (auxStopped k s))) := by
  rw [exec_auxDisable, if_neg (by simpa using ⟨on, free⟩)]

/-- A unit that does not call for its line has it off. -/
theorem auxLine_off {k : Nat} (hk : k < 2) {t : Nat} (h : auxLit k s = false) : (auxLine k t s).get (AUX_Ak_STAT_LINE k) = 0 :=
  (flag_eq_false_iff _ _).1 ((auxLine_line hk t s).trans h)

theorem auxStopped_reads (k : Fin 2) (s : State) : (auxLine k (s.now * 64) (auxStopped k s)).get (AUX_Ak_CTRL_EN k) = 0 ∧
    (auxLine k (s.now * 64) (auxStopped k s)).get (AUX_Ak_STAT_LINE k) = 0 ∧ (auxLine k (s.now * 64) (auxStopped k s)).get (auxRun k) = 0 := by
  have apart : ∀ k < 2, auxLineKey k (AUX_Ak_CTRL_EN k).key = false ∧ auxLineKey k (auxRun k).key = false ∧
    (∀ g ∈ [auxWant k, auxWait k, auxRun k], (AUX_Ak_CTRL_EN k).key ≠ g.key) ∧ ∀ g ∈ [auxWait k, auxRun k], (auxWant k).key ≠ g.key := by decide
  obtain ⟨en, run, enApart, wantApart⟩ := apart k k.isLt
  have frame := auxLine_keys k.isLt (s.now * 64) (auxStopped k s)
  have calls : (auxStopped k s).get (auxWant k) = 0 := by
    rw [auxStopped, State.get_set_ne _ _ _ _ (wantApart (auxRun k) (by simp)), State.get_set_ne _ _ _ _ (wantApart (auxWait k) (by simp)),
      State.get_set_zero]
  refine ⟨(frame.get _ en).trans ?_, auxLine_off k.isLt ?_, (frame.get _ run).trans (State.get_set_zero _ _)⟩
  · rw [auxStopped, State.get_set_ne _ _ _ _ (enApart (auxRun k) (by simp)), State.get_set_ne _ _ _ _ (enApart (auxWait k) (by simp)),
      State.get_set_ne _ _ _ _ (enApart (auxWant k) (by simp)), State.get_set_zero]
  · rw [auxLit, (flag_eq_false_iff _ _).2 calls]; simp only [Bool.false_and]

/-! ### Zeros (R236) -/

theorem auxNext_first {k : Nat} (h : s.get (auxRun k) = 0) : auxNext k s = s.get (auxDue k) * 64 := by simp [auxNext, h]

theorem auxNext_later {k : Nat} (h : s.get (auxRun k) ≠ 0) : auxNext k s = s.get (auxZeroAt k) + s.get (AUX_Ak_PER_PER_ACT k) := by
  simp [auxNext, h]

/-- Unit `k` before a zero at instant `t`: what waited for `MINP` has taken effect, and a demand's first period is over. -/
def auxBefore (k t : Nat) (s : State) : State := (auxDelayed k t s).set (auxFirst k) 0

theorem exec_auxZero (k : Fin 2) (f : Fin 64) (s : State) : exec (.auxZero k f) s = .next (s.when
    ((s.flag (AUX_Ak_STAT_DEMAND k) || s.flag (AUX_Ak_CTRL_EN k)) && decide (auxNext k s ≤ s.fineNow f))
    (fun t => auxSel k (auxNext k s) (auxPeriod k (auxNext k s) (auxBefore k (auxNext k s) t)))) := rfl

theorem exec_auxZero_waits {f : Fin 64} (h : (s.get (AUX_Ak_STAT_DEMAND k) = 0 ∧ s.get (AUX_Ak_CTRL_EN k) = 0) ∨ s.fineNow f < auxNext k s) :
    exec (.auxZero k f) s = .next s := by
  have still : ((s.flag (AUX_Ak_STAT_DEMAND k) || s.flag (AUX_Ak_CTRL_EN k)) && decide (auxNext k s ≤ s.fineNow f)) = false := by
    rcases h with ⟨demand, en⟩ | early
    · rw [(flag_eq_false_iff s _).2 demand, (flag_eq_false_iff s _).2 en]; rfl
    · rw [decide_eq_false (Nat.not_le.2 early), Bool.and_false]
  rw [exec_auxZero, still, State.when_false]

theorem exec_auxZero_due {f : Fin 64} (on : s.get (AUX_Ak_STAT_DEMAND k) ≠ 0 ∨ s.get (AUX_Ak_CTRL_EN k) ≠ 0) (due : auxNext k s ≤ s.fineNow f) :
    exec (.auxZero k f) s = .next (auxSel k (auxNext k s) (auxPeriod k (auxNext k s) (auxBefore k (auxNext k s) s))) := by
  have runs : ((s.flag (AUX_Ak_STAT_DEMAND k) || s.flag (AUX_Ak_CTRL_EN k)) && decide (auxNext k s ≤ s.fineNow f)) = true := by
    rw [decide_eq_true due, Bool.and_true]; simpa using on
  rw [exec_auxZero, runs, State.when_true]

theorem auxBefore_get {k : Nat} (hk : k < 2) {f : Fld}
    (hf : f ∈ [AUX_Ak_PER_PER k, AUX_Ak_CMP_CMP k, AUX_Ak_CLAMP_COUNT k, AUX_Ak_STAT_DEMAND k]) (t : Nat) (s : State) :
    (auxBefore k t s).get f = s.get f := by
  have apart : ∀ k < 2, ∀ f ∈ [AUX_Ak_PER_PER k, AUX_Ak_CMP_CMP k, AUX_Ak_CLAMP_COUNT k, AUX_Ak_STAT_DEMAND k],
    auxCallKey k f.key = false ∧ f.key ≠ (auxFirst k).key := by decide
  obtain ⟨call, first⟩ := apart k hk f hf
  rw [auxBefore, State.get_set_ne _ _ _ _ first, (auxDelayed_keys hk t s).get _ call]

/-- The fields of unit `k` that the clauses on a zero and on a demand read. -/
def auxReadFields (k : Nat) : List Fld := AUX_Ak_CLAMP_COUNT k :: (auxLoadFields k ++ auxKeptFields k)

/-- The selection that follows a load instant leaves the unit's own fields. -/
theorem auxSel_get {k : Nat} (hk : k < 2) {f : Fld} (hf : f ∈ auxReadFields k) (t : Nat) (s : State) : (auxSel k t s).get f = s.get f := by
  have apart : ∀ k < 2, ∀ f ∈ auxReadFields k, auxSelKey k f.key = false := by decide
  exact (auxSel_keys hk t s).get f (apart k hk f hf)

theorem auxZero_reads {k : Nat} (hk : k < 2) {t : Nat} (fits : t < 2 ^ 72) {u : State} (hu : u = auxSel k t (auxPeriod k t (auxBefore k t s))) :
    u.get (auxZeroAt k) = t ∧ u.get (auxRun k) = 1 ∧ u.get (auxFirst k) = 0 ∧ u.get (AUX_Ak_PER_PER_ACT k) = s.get (AUX_Ak_PER_PER k) ∧
      u.get (AUX_Ak_CMP_CMP_ACT k) = s.get (AUX_Ak_CMP_CMP k) ∧
      u.get (AUX_Ak_CLAMP_COUNT k) = clampU (AUX_Ak_CLAMP_COUNT k).width (s.get (AUX_Ak_CLAMP_COUNT k) +
        (if s.get (AUX_Ak_STAT_DEMAND k) = 0 ∧ s.get (AUX_Ak_PER_PER k) < s.get (AUX_Ak_CMP_CMP k) then 1 else 0)) := by
  subst hu
  have sel : ∀ f ∈ auxReadFields k, (auxSel k t (auxPeriod k t (auxBefore k t s))).get f = (auxPeriod k t (auxBefore k t s)).get f :=
    fun f hf => auxSel_get hk hf t _
  obtain ⟨zero, run, period, compare⟩ := auxPeriod_reads hk fits (auxBefore k t s)
  have count := auxPeriod_count hk fits (auxBefore k t s)
  have first := (auxPeriod_kept hk (f := auxFirst k) (by simp [auxKeptFields]) t (auxBefore k t s)).trans (State.get_set_zero _ _)
  rw [auxBefore_get hk (by simp)] at period compare
  rw [auxBefore_get hk (by simp), auxBefore_get hk (by simp), auxBefore_get hk (by simp), auxBefore_get hk (by simp)] at count
  exact ⟨(sel _ (by simp [auxReadFields, auxLoadFields])).trans zero, (sel _ (by simp [auxReadFields, auxLoadFields])).trans run,
    (sel _ (by simp [auxReadFields, auxKeptFields])).trans first, (sel _ (by simp [auxReadFields, auxLoadFields])).trans period,
    (sel _ (by simp [auxReadFields, auxLoadFields])).trans compare, (sel _ (by simp [auxReadFields])).trans count⟩

/-! ### On-times and demands (R237) -/

theorem auxGap_iff (k t : Nat) (s : State) : auxGap k t s = true ↔ t < s.get (auxZeroAt k) + s.get (AUX_Ak_PER_PER_ACT k) ∧
    t + s.get (AUX_Ak_CTRL_MINP k) ≤ s.get (auxZeroAt k) + s.get (AUX_Ak_PER_PER_ACT k) := by
  simp only [auxGap, Bool.and_eq_true, decide_eq_true_eq]

theorem exec_auxOnTimeEnd {f : Fin 64} {u : State} {due : Nat} (hu : u = auxDelayed k (s.fineNow f) s) (hdue : due = auxStart k u + auxOnTime k u) :
    exec (.auxOnTimeEnd k f) s = .next (u.when
      (u.flag (auxRun k) && u.flag (auxWant k) && decide (u.placeAt 4 due ≤ s.fineNow f) && auxGap k due u) (auxGo k due false)) := by
  subst hdue hu; rfl

/-- A demand of on-time `ton` has come upon unit `k`: it is counted, and its first period is to begin. -/
def auxDemanded (k ton : Nat) (s : State) : State :=
  (((s.set (AUX_Ak_STAT_DEMAND k) 1).inc (AUX_Ak_STAT_DEMANDS k)).set (auxTon k) ton).set (auxFirst k) 1

/-- What a demand of on-time `ton` makes of unit `k`. -/
def auxOnset (k ton : Nat) (s : State) : State :=
  if s.flag (AUX_Ak_STAT_DEMAND k) then s else auxSel k (s.now * 64) (auxPeriod k (s.now * 64) (raiseEvent 0x010 (auxDemanded k ton s)))

theorem exec_evAuxDemand (k : Fin 2) (s : State) : exec (.evAuxDemand k) s =
    .next ((auxDemand k s).elim s fun ton => auxOnset k ton s) := by
  rw [show exec (.evAuxDemand k) s = execEvAuxDemand k s from rfl, execEvAuxDemand]
  cases auxDemand k s <;> rfl

theorem exec_evAuxDemand_still (h : auxDemand k s = none ∨ s.get (AUX_Ak_STAT_DEMAND k) ≠ 0) : exec (.evAuxDemand k) s = .next s := by
  rw [exec_evAuxDemand]
  rcases h with none | held
  · rw [none, Option.elim_none]
  · cases auxDemand k s with
    | none => rfl
    | some ton => rw [Option.elim_some, auxOnset, if_pos ((flag_eq_true_iff s _).2 held)]

theorem exec_evAuxDemand_new {ton : Nat} (h : auxDemand k s = some ton) (free : s.get (AUX_Ak_STAT_DEMAND k) = 0) : exec (.evAuxDemand k) s =
    .next (auxSel k (s.now * 64) (auxPeriod k (s.now * 64) (raiseEvent 0x010 (auxDemanded k ton s)))) := by
  rw [exec_evAuxDemand, h]; exact congrArg Host.Outcome.next (if_neg (by simp [free]))

theorem auxDemanded_reads {k : Nat} (hk : k < 2) (ton : Nat) (s : State) : (auxDemanded k ton s).get (AUX_Ak_STAT_DEMAND k) = 1 ∧
    (auxDemanded k ton s).get (AUX_Ak_STAT_DEMANDS k) = clampU (AUX_Ak_STAT_DEMANDS k).width (s.get (AUX_Ak_STAT_DEMANDS k) + 1) ∧
    (auxDemanded k ton s).get (auxFirst k) = 1 ∧ (auxDemanded k ton s).get (AUX_Ak_PER_PER k) = s.get (AUX_Ak_PER_PER k) := by
  have apart : ∀ k < 2, (∀ g ∈ [auxFirst k, auxTon k, AUX_Ak_STAT_DEMANDS k], (AUX_Ak_STAT_DEMAND k).key ≠ g.key) ∧
    (∀ g ∈ [auxFirst k, auxTon k, AUX_Ak_STAT_DEMAND k], (AUX_Ak_STAT_DEMANDS k).key ≠ g.key) ∧
    ∀ g ∈ [auxFirst k, auxTon k, AUX_Ak_STAT_DEMANDS k, AUX_Ak_STAT_DEMAND k], (AUX_Ak_PER_PER k).key ≠ g.key := by decide
  obtain ⟨demand, demands, period⟩ := apart k hk
  refine ⟨?_, ?_, State.get_set_one rfl _, ?_⟩
  · rw [auxDemanded, State.get_set_ne _ _ _ _ (demand (auxFirst k) (by simp)), State.get_set_ne _ _ _ _ (demand (auxTon k) (by simp)),
      State.get_inc_ne (demand (AUX_Ak_STAT_DEMANDS k) (by simp)), State.get_set_one rfl]
  · rw [auxDemanded, State.get_set_ne _ _ _ _ (demands (auxFirst k) (by simp)), State.get_set_ne _ _ _ _ (demands (auxTon k) (by simp)),
      State.get_inc_same, State.get_set_ne _ _ _ _ (demands (AUX_Ak_STAT_DEMAND k) (by simp))]
  · rw [auxDemanded, State.get_set_ne _ _ _ _ (period (auxFirst k) (by simp)), State.get_set_ne _ _ _ _ (period (auxTon k) (by simp)),
      State.get_inc_ne (period (AUX_Ak_STAT_DEMANDS k) (by simp)), State.get_set_ne _ _ _ _ (period (AUX_Ak_STAT_DEMAND k) (by simp))]

theorem evAuxDemand_reads {k : Nat} (hk : k < 2) (ton : Nat) {t : Nat} (fits : t < 2 ^ 72) {u : State}
    (hu : u = auxSel k t (auxPeriod k t (raiseEvent 0x010 (auxDemanded k ton s)))) : u.get (AUX_Ak_STAT_DEMAND k) = 1 ∧
    u.get (AUX_Ak_STAT_DEMANDS k) = clampU (AUX_Ak_STAT_DEMANDS k).width (s.get (AUX_Ak_STAT_DEMANDS k) + 1) ∧ u.get (auxFirst k) = 1 ∧
    u.get (auxRun k) = 1 ∧ u.get (auxZeroAt k) = t ∧ u.get (AUX_Ak_PER_PER_ACT k) = s.get (AUX_Ak_PER_PER k) := by
  subst hu
  have silent : ∀ k < 2, ∀ f ∈ AUX_Ak_PER_PER k :: auxKeptFields k, reported (f.key / 32) = false := by decide
  have raised : ∀ f ∈ AUX_Ak_PER_PER k :: auxKeptFields k, (raiseEvent 0x010 (auxDemanded k ton s)).get f = (auxDemanded k ton s).get f :=
    fun f hf => (raiseEvent_reports 0x010 _).get f (silent k hk f hf)
  have kept : ∀ f ∈ auxKeptFields k, (auxSel k t (auxPeriod k t (raiseEvent 0x010 (auxDemanded k ton s)))).get f = (auxDemanded k ton s).get f :=
    fun f hf => ((auxSel_get hk (by simp [auxReadFields, hf]) t _).trans (auxPeriod_kept hk hf t _)).trans (raised f (List.mem_cons_of_mem _ hf))
  have sel : ∀ f ∈ auxLoadFields k, (auxSel k t (auxPeriod k t (raiseEvent 0x010 (auxDemanded k ton s)))).get f =
      (auxPeriod k t (raiseEvent 0x010 (auxDemanded k ton s))).get f := fun f hf => auxSel_get hk (by simp [auxReadFields, hf]) t _
  obtain ⟨demand, demands, first, shadow⟩ := auxDemanded_reads hk ton s
  obtain ⟨zero, run, period, -⟩ := auxPeriod_reads hk fits (raiseEvent 0x010 (auxDemanded k ton s))
  exact ⟨(kept _ (by simp [auxKeptFields])).trans demand, (kept _ (by simp [auxKeptFields])).trans demands,
    (kept _ (by simp [auxKeptFields])).trans first, (sel _ (by simp [auxLoadFields])).trans run, (sel _ (by simp [auxLoadFields])).trans zero,
    (sel _ (by simp [auxLoadFields])).trans (period.trans ((raised _ (by simp)).trans shadow))⟩

/-- What the end of a demand makes of unit `k`, whose demand is already gone. -/
def auxReleased (k t : Nat) (u : State) : State :=
  if u.flag (AUX_Ak_CTRL_EN k) then
    (if auxStart k u + u.get (AUX_Ak_CMP_CMP_ACT k) ≤ t ∧ auxGap k t u then auxGo k t false u else u)
  else auxGo k t false (u.set (auxRun k) 0)

theorem exec_demandEnd (k : Fin 2) (s : State) : exec (.demandEnd k) s = .next
    (if !s.flag (AUX_Ak_STAT_DEMAND k) || (auxDemand k s).isSome then s else auxReleased k (s.now * 64) (s.set (AUX_Ak_STAT_DEMAND k) 0)) := rfl

theorem exec_demandEnd_goesOn (h : s.get (AUX_Ak_STAT_DEMAND k) = 0 ∨ auxDemand k s ≠ none) : exec (.demandEnd k) s = .next s := by
  rw [exec_demandEnd, if_pos (by simpa [Option.isSome_iff_ne_none] using h)]

theorem exec_demandEnd_over (held : s.get (AUX_Ak_STAT_DEMAND k) ≠ 0) (gone : auxDemand k s = none) : exec (.demandEnd k) s =
    .next (auxReleased k (s.now * 64) (s.set (AUX_Ak_STAT_DEMAND k) 0)) := by
  rw [exec_demandEnd, if_neg (by simp [held, gone])]

/-- Ending the demand leaves `EN` and the compare in force. -/
theorem demandOver_get {k : Nat} (hk : k < 2) (s : State) :
    (s.set (AUX_Ak_STAT_DEMAND k) 0).get (AUX_Ak_CTRL_EN k) = s.get (AUX_Ak_CTRL_EN k) ∧
      (s.set (AUX_Ak_STAT_DEMAND k) 0).get (AUX_Ak_CMP_CMP_ACT k) = s.get (AUX_Ak_CMP_CMP_ACT k) := by
  have apart : ∀ k < 2, (AUX_Ak_CTRL_EN k).key ≠ (AUX_Ak_STAT_DEMAND k).key ∧ (AUX_Ak_CMP_CMP_ACT k).key ≠ (AUX_Ak_STAT_DEMAND k).key := by decide
  obtain ⟨en, compare⟩ := apart k hk
  exact ⟨State.get_set_ne _ _ _ _ en, State.get_set_ne _ _ _ _ compare⟩

end Commands

/-! ### The pin (R237, R259) -/

/-- The level of `AUX_EN` as the two fields of the pin show it. -/
def auxPinTaken (b : Bool) (s : State) : State := (s.setB safAuxPin b).setB SYS_PINS_AUX_EN b

/-- Unit `k` follows the pin. -/
def auxFollow (b : Bool) (k : Nat) (s : State) : State := auxLine k (s.now * 64) (s.setB (AUX_Ak_STAT_PIN k) b)

theorem auxPin_eq (b : Bool) (s : State) : auxPin b s = auxFollow b 1 (auxFollow b 0 (auxPinTaken b s)) := rfl

/-- Keys that a unit writes when it follows the pin. -/
def auxFollowKey (k x : Nat) : Bool := auxLineKey k x || (AUX_Ak_STAT_PIN k).key == x

theorem auxFollow_keys {k : Nat} (hk : k < 2) (b : Bool) (s : State) : WritesKeys (auxFollowKey k) s (auxFollow b k s) :=
  ((WritesKeys.refl _ s).set (by simp [auxFollowKey]) _).trans
    ((auxLine_keys hk _ _).mono fun x h => by rw [auxFollowKey, h, Bool.true_or])

/-- A unit that follows a pin at its low level has its line off. -/
theorem auxFollow_low {k : Nat} (hk : k < 2) {s : State} (low : s.get safAuxPin = 0) (b : Bool) :
    (auxFollow b k s).get (AUX_Ak_STAT_LINE k) = 0 := by
  have apart : ∀ k < 2, safAuxPin.key ≠ (AUX_Ak_STAT_PIN k).key := by decide
  have still : (s.setB (AUX_Ak_STAT_PIN k) b).flag safAuxPin = false :=
    (flag_eq_false_iff _ _).2 ((State.get_setB_ne (apart k hk) s b).trans low)
  refine auxLine_off hk ?_
  rw [auxLit, still, Bool.and_false]; rfl

/-- The two fields of the pin, which neither unit writes. -/
theorem auxPin_level (b : Bool) (s : State) : (auxPin b s).get SYS_PINS_AUX_EN = b.toNat ∧ (auxPin b s).get safAuxPin = b.toNat := by
  rw [auxPin_eq]
  refine ⟨?_, ?_⟩
  · rw [(auxFollow_keys (by decide) b _).get _ (by decide), (auxFollow_keys (by decide) b _).get _ (by decide), auxPinTaken, State.get_setB_same rfl]
  · rw [(auxFollow_keys (by decide) b _).get _ (by decide), (auxFollow_keys (by decide) b _).get _ (by decide), auxPinTaken,
      State.get_setB_ne (by decide), State.get_setB_same rfl]

theorem auxPin_dn (b : Bool) (s : State) : (auxPin b s).dn = s.dn :=
  ((auxFollow_keys (by decide) b _).dn.trans (auxFollow_keys (by decide) b _).dn).trans rfl

theorem auxPin_linkState (b : Bool) (s : State) : ∀ l ∈ [12, 13], linkState l (auxPin b s) = linkState l s := by
  have apart : ∀ l ∈ [12, 13], auxFollowKey 0 (REIN_Lh_STAT_STATE l).key = false ∧ auxFollowKey 1 (REIN_Lh_STAT_STATE l).key = false ∧
    (REIN_Lh_STAT_STATE l).key ≠ SYS_PINS_AUX_EN.key ∧ (REIN_Lh_STAT_STATE l).key ≠ safAuxPin.key := by decide
  intro l hl
  obtain ⟨first, second, pin, level⟩ := apart l hl
  rw [linkState, auxPin_eq, (auxFollow_keys (by decide) b _).get _ second, (auxFollow_keys (by decide) b _).get _ first, auxPinTaken,
    State.get_setB_ne pin, State.get_setB_ne level]; rfl

/-- A falling pin holds both lines off. -/
theorem auxPin_low_lines (s : State) : (auxPin false s).get (AUX_Ak_STAT_LINE 0) = 0 ∧ (auxPin false s).get (AUX_Ak_STAT_LINE 1) = 0 := by
  have low : (auxPinTaken false s).get safAuxPin = 0 := by
    rw [auxPinTaken, State.get_setB_ne (by decide), State.get_setB_same rfl]; rfl
  rw [auxPin_eq]
  refine ⟨?_, auxFollow_low (by decide) ?_ false⟩
  · rw [(auxFollow_keys (by decide) false _).get _ (by decide)]; exact auxFollow_low (by decide) low false
  · rw [(auxFollow_keys (by decide) false _).get _ (by decide), low]

/-- A link in `FAULT` has a `CLEAR` frame queued. -/
def clearAuxLink (l : Nat) (s : State) : State := s.when (linkState l s == 4) (queueClear l)

theorem clearAuxLink_get (l : Nat) (s : State) (f : Fld) : (clearAuxLink l s).get f = s.get f := State.get_when (queueClear_get l s) _

theorem clearAuxLinks_get (ls : List Nat) (s : State) (f : Fld) : (s.each ls clearAuxLink).get f = s.get f := by
  induction ls generalizing s with
  | nil => rfl
  | cons l r ih => exact (ih (clearAuxLink l s)).trans (clearAuxLink_get l s f)

theorem clearAuxLinks_dn (ls : List Nat) (s : State) : (s.each ls clearAuxLink).dn =
    s.dn ++ (ls.filter fun l => linkState l s == 4).map fun l => ⟨l, 5, 0xA5⟩ := by
  induction ls generalizing s with
  | nil => exact (List.append_nil _).symm
  | cons l r ih =>
    have kept : (r.filter fun m => linkState m (clearAuxLink l s) == 4) = r.filter fun m => linkState m s == 4 :=
      List.filter_congr fun m _ => by rw [linkState, clearAuxLink_get]; rfl
    have here : (s.each (l :: r) clearAuxLink).dn = ((clearAuxLink l s).each r clearAuxLink).dn := rfl
    rw [here, ih, kept]
    by_cases fault : linkState l s = 4
    · simp [clearAuxLink, fault, queueClear]
    · simp [clearAuxLink, fault, beq_false_of_ne]

theorem exec_auxEnFall (s : State) : exec .auxEnFall s = .next (auxPin false s) := rfl

theorem exec_auxEnRise (s : State) : exec .auxEnRise s =
    .next (if s.flag safAuxPin then s else (auxPin true s).each [12, 13] clearAuxLink) := rfl

theorem exec_auxEnRise_high {s : State} (h : s.get safAuxPin ≠ 0) : exec .auxEnRise s = .next s := by
  rw [exec_auxEnRise, if_pos ((flag_eq_true_iff s _).2 h)]

theorem exec_auxEnRise_low {s : State} (h : s.get safAuxPin = 0) : exec .auxEnRise s = .next ((auxPin true s).each [12, 13] clearAuxLink) := by
  rw [exec_auxEnRise, if_neg (by simp [h])]

theorem risenPin_reads (s : State) : ((auxPin true s).each [12, 13] clearAuxLink).get SYS_PINS_AUX_EN = 1 ∧
    ((auxPin true s).each [12, 13] clearAuxLink).get safAuxPin = 1 ∧ ((auxPin true s).each [12, 13] clearAuxLink).dn =
      s.dn ++ (([12, 13] : List Nat).filter fun l => linkState l s == 4).map fun l => ⟨l, 5, 0xA5⟩ := by
  obtain ⟨pin, level⟩ := auxPin_level true s
  refine ⟨(clearAuxLinks_get _ _ _).trans pin, (clearAuxLinks_get _ _ _).trans level, ?_⟩
  have faults : ([12, 13].filter fun l => linkState l (auxPin true s) == 4) = [12, 13].filter fun l => linkState l s == 4 :=
    List.filter_congr fun l hl => by rw [auxPin_linkState true s l hl]
  rw [clearAuxLinks_dn, auxPin_dn, faults]

end Sys2Proof.Machine
end

section
/-!
The reference carrier and the AUX units: O34.
-/

namespace Sys2Proof.Machine
open Reg

/-- Settles O34, command by command: those of the reference carrier and the cross-Stall load, those of an AUX unit, and the edges of the pin. -/
theorem referenceCarrierAndAuxUnits : Obligations.ReferenceCarrierAndAuxUnits := by
  refine ⟨?refEnable, ?refDisable, ?refDisabled, fun s => ⟨refNext_first, refNext_later⟩, fun f s => exec_referenceZero_waits, ?refZero,
    ?load, ?enable, ?disable, ?zero, fun k s _ => ⟨auxNext_first, auxNext_later⟩, ?call, fun k t s => auxGap_iff k t s, ?onTime, ?demand,
    ?released, ?fall, ?rise⟩
  case refEnable =>
    refine fun s => ⟨fun off => ?_, fun on => ?_⟩
    · rw [exec_refCarrierEnable, if_neg (by simp [off])]
    · rw [exec_refCarrierEnable, if_pos ((flag_eq_true_iff s _).2 on)]
  case refDisable =>
    refine fun s on => ⟨fun held => exec_refCarrierDisable_held on (lockedSwitching_iff.2 held), fun free => ?_⟩
    refine exec_refCarrierDisable_free (Or.inr (Bool.eq_false_iff.2 fun held => ?_))
    obtain ⟨n, hn, locked, runs⟩ := lockedSwitching_iff.1 held
    rcases free n hn with unlocked | stopped
    · exact Bool.false_ne_true (unlocked.symm.trans locked)
    · exact Bool.false_ne_true (stopped.symm.trans runs)
  case refDisabled => exact fun s off => exec_refCarrierDisable_free (Or.inl off)
  case refZero =>
    refine fun f s on due => ⟨fun no => ?_, fun busy shut reached => ?_⟩
    · obtain ⟨runs, zero, period⟩ := refZeroPassed_reads (lt_of_le_of_lt due (fineNow_lt f s))
      exact ⟨_, referenceZero_plain on due no, runs, zero, period, refZeroPassed_mem s⟩
    · obtain ⟨runs, zero, period, instant, opened⟩ := cohZero_reads (lt_of_le_of_lt due (fineNow_lt f s))
      refine ⟨_, referenceZero_boundary on due busy shut reached, ?_, ?_, ?_, ?_, fun ⟨n, hn, part⟩ => ?_, fun none prompt => ?_⟩
      · rw [cohFinish_get (by decide) (by decide), runs]
      · rw [cohFinish_get (by decide) (by decide), zero]
      · rw [cohFinish_get (by decide) (by decide), period]
      · rw [cohFinish_get (by decide) (by decide), instant]
      · rw [cohFinish_parts ⟨n, hn, by rwa [cohZero_part hn]⟩]
        exact ⟨opened, (cohZero_get (by decide) (by decide) s).trans busy⟩
      · refine cohFinish_ends ((cohZero_get (by decide) (by decide) s).trans busy) (by rw [opened]; decide) (fun n hn => ?_)
          ((cohZero_get (by decide) (by decide) s).trans prompt)
        rw [cohZero_part hn, none n hn]
  case load => exact fun s idle => ⟨coherentLoad_refused idle, coherentLoad_joins idle⟩
  case enable =>
    refine fun k s => ⟨fun off whole => ?_, fun off broken => ?_, exec_auxEnable_on⟩
    · rw [exec_auxEnable_off off, brokenDrive_whole ((auxEnabled_lockstep k s).trans whole)]; rfl
    · rw [exec_auxEnable_off off, brokenDrive_broken (by rwa [auxEnabled_lockstep])]; rfl
  case disable =>
    refine fun k s => ⟨exec_auxDisable_kept, fun on free => ?_⟩
    obtain ⟨en, line, run⟩ := auxStopped_reads k s
    exact ⟨_, exec_auxDisable_off on free, en, line, run, rfl⟩
  case zero =>
    exact fun k f s => ⟨exec_auxZero_waits, fun on due =>
      ⟨_, exec_auxZero_due on due, auxZero_reads k.isLt (lt_of_le_of_lt due (fineNow_lt f s)) rfl⟩⟩
  case call =>
    exact fun k due t on s hk => ⟨fun h => auxCall_due_reads hk h on s, fun h fits => auxCall_later_reads hk h fits on s⟩
  case onTime =>
    intro k f s x u due
    have judged := exec_auxOnTimeEnd (k := k) (f := f) (s := s) (u := u) (due := due) rfl rfl
    refine ⟨fun run want come gap => ?_, fun h => ?_⟩
    · rw [judged, (flag_eq_true_iff u _).2 run, (flag_eq_true_iff u _).2 want, decide_eq_true come, gap]; rfl
    · have still : (u.flag (auxRun k) && u.flag (auxWant k) && decide (u.placeAt 4 due ≤ s.fineNow f) && auxGap k due u) = false := by
        rcases h with stopped | uncalled | early | bridged
        · rw [(flag_eq_false_iff u _).2 stopped]; rfl
        · rw [(flag_eq_false_iff u _).2 uncalled, Bool.and_false]; rfl
        · rw [decide_eq_false (Nat.not_le.2 early), Bool.and_false]; rfl
        · rw [bridged, Bool.and_false]
      rw [judged, still, State.when_false]
  case demand =>
    refine fun k s => ⟨exec_evAuxDemand_still, fun demanded free => ?_⟩
    obtain ⟨ton, new⟩ := Option.ne_none_iff_exists'.1 demanded
    have fits : s.now * 64 < 2 ^ 72 := by have := s.now_lt; omega
    exact ⟨_, exec_evAuxDemand_new new free, evAuxDemand_reads k.isLt ton fits rfl⟩
  case released =>
    intro k s u
    obtain ⟨en, compare⟩ := demandOver_get k.isLt s
    refine ⟨exec_demandEnd_goesOn, fun held gone => ?_⟩
    rw [exec_demandEnd_over held gone]
    refine ⟨fun off => ?_, fun on ended gap => ?_, fun on waits => ?_⟩
    · rw [auxReleased, if_neg (by simp [en, off])]; rfl
    · rw [auxReleased, if_pos (by simp [en, on]), compare, if_pos ⟨ended, gap⟩]; rfl
    · have stays : ¬(auxStart k u + s.get (AUX_Ak_CMP_CMP_ACT k) ≤ s.now * 64 ∧ auxGap k (s.now * 64) u = true) := fun ⟨ended, gap⟩ =>
        waits.elim (Nat.not_lt.2 ended) fun bridged => Bool.false_ne_true (bridged.symm.trans gap)
      rw [auxReleased, if_pos (by simp [en, on]), compare, if_neg stays]
  case fall =>
    intro s
    obtain ⟨pin, level⟩ := auxPin_level false s
    obtain ⟨line0, line1⟩ := auxPin_low_lines s
    exact ⟨_, exec_auxEnFall s, pin, level, line0, line1⟩
  case rise => exact fun s => ⟨exec_auxEnRise_high, fun low => ⟨_, exec_auxEnRise_low low, risenPin_reads s⟩⟩

end Sys2Proof.Machine
end

section
/-!
O35 and O36: the bit boundaries of a downlink (R245), and a receiver that hunts for idle bits after a frame of a wrong format (R246).
-/

namespace Sys2Proof.Machine
open Reg

/-! ### Between two bit boundaries of the downlink (R245) -/

/-- No waiting frame starts between two bit boundaries. -/
theorem exec_downlinkAccessFrame_offBoundary {s : State} (off : s.now % 4 ≠ 0) (l : Fin 14) : exec (.downlinkAccessFrame l) s = .next s := by
  change execDownlinkAccessFrame l s = _
  rw [execDownlinkAccessFrame, beq_false_of_ne off, Bool.and_false, State.when_false, ok]

/-- Link 0 is `LOCKED`, its Stall does not switch, and a `CLEAR` frame waits for its downlink, at one tick past a bit boundary. -/
def clearWaits : State := { State.reset.set (REIN_Lh_STAT_STATE 0) 2 with tbNow := 9, dn := [⟨0, 5, 0xA5⟩] }

/-- The line is free for the frame from the next bit boundary on. -/
theorem clearWaits_mayStart : dnMay (0 : Fin 14) (dnLen 5) (dnBoundary clearWaits.now) clearWaits = true := by
  decide +kernel

/-- Refutes O35: the clause on a waiting frame has it start at the next bit boundary, at whatever tick the command comes. At tick 9 `clearWaits` is
between two boundaries: the frame that the clause takes off the queue goes on waiting (R245). -/
theorem not_reinCommandsQueueFrames : ¬ Obligations.ReinCommandsQueueFrames := by
  rintro ⟨-, -, -, -, -, -, starts, -⟩
  have locked : 2 ≤ clearWaits.get (REIN_Lh_STAT_STATE (0 : Fin 14)) := by decide +kernel
  obtain ⟨t, next, sent, -⟩ := (starts 0 ⟨0, 5, 0xA5⟩ [] clearWaits locked rfl (.inr (.inr rfl))).1 clearWaits_mayStart
  rw [exec_downlinkAccessFrame_offBoundary (by decide)] at next
  rw [← Host.Outcome.next.inj next] at sent
  exact List.cons_ne_nil _ _ sent

/-! ### A receiver that hunts for idle bits (R246) -/

/-- A receiver that is off, or hunts for the two idle bits after a frame of a wrong format, takes no frame. -/
theorem exec_statusFrame_shut {l : Fin 14} {s : State} (shut : upOpen l s = false) (h : BitVec 8) (w : BitVec 88) :
    exec (.statusFrame l h w) s = .next s := by
  change execStatusFrame l h w s = _
  rw [execStatusFrame, shut, Bool.false_and, State.when_false, ok]

/-- Link 0 trains at tick 400. A frame of a wrong format was found at tick 200, and no start bit counts before tick 208. -/
def huntingLink : State :=
  { (State.reset.set (REIN_Lh_STAT_STATE 0) 1).set (reinHunt 0) 208 with tbNow := 400 }

/-- A frame whose stop bit ends at tick 400 started at tick 8, before the hunt had ended. -/
theorem huntingLink_shut : upOpen (0 : Fin 14) huntingLink = false := by
  decide +kernel

/-- A `STATUS` frame with `SEQ` 0 and a payload of zeros, and its CRC. -/
def zeroStatus : BitVec 96 := 0x10#8 ++ 0x49#88

theorem zeroStatus_valid : upType zeroStatus = 1 ∧ upCrcOk zeroStatus = true := by
  decide +kernel

/-- Refutes O36: the clause on a `STATUS` frame leaves out that its receiver may still hunt for idle bits. In `huntingLink` the clause has link 0 take
the `SEQ` of `zeroStatus`, and the frame began within the hunt: nothing is taken in (R246). -/
theorem not_uplinkFramesJudged : ¬ Obligations.UplinkFramesJudged := by
  rintro ⟨-, -, status, -⟩
  have used : huntingLink.get (REIN_Lh_STAT_STATE (0 : Fin 14)) ≠ 0 := by decide +kernel
  obtain ⟨statusType, crc⟩ := zeroStatus_valid
  obtain ⟨t, next, -, -, -, -, seq, -⟩ := (status 0 _ _ huntingLink used).1 statusType crc
  rw [exec_statusFrame_shut huntingLink_shut] at next
  have fresh : huntingLink.get (reinSeq (0 : Fin 14)) = 0 := by decide +kernel
  rw [← Host.Outcome.next.inj next, fresh] at seq
  exact Nat.succ_ne_zero _ seq.symm

end Sys2Proof.Machine
end

section
/-!
SUPPORT. The lines of a Stall (R228, R275): what each part of the output stage does to their levels.
-/

namespace Sys2Proof.Machine
open Reg

section Lines
variable {n i j k t want : Nat} {s : State}

/-! ### Bits of a mask -/

/-- A mask in three parts: the bits below bit `i`, bit `i`, and those above. -/
theorem mask_split (v i : Nat) : v = 2 ^ i * (2 * (v / 2 ^ i / 2) + v / 2 ^ i % 2) + v % 2 ^ i := by
  rw [Nat.div_add_mod (v / 2 ^ i) 2, Nat.div_add_mod v (2 ^ i)]

theorem putBit_split (v i : Nat) (b : Bool) : putBit v i b = 2 ^ i * (2 * (v / 2 ^ i / 2) + b.toNat) + v % 2 ^ i := by
  have bit : b.toNat % 2 = b.toNat := Nat.mod_eq_of_lt (Bool.toNat_lt b)
  have whole := mask_split v i
  rw [putBit, putBits, bits, pow_one, bit, mul_comm (v / 2 ^ i % 2), mul_comm b.toNat]
  rw [Nat.mul_add] at whole ⊢
  omega

/-- Writing a bit leaves every other bit. -/
theorem bitAt_putBit_ne (h : j ≠ i) (v : Nat) (b : Bool) : bitAt (putBit v i b) j = bitAt v j := by
  have below : v % 2 ^ i < 2 ^ i := Nat.mod_lt _ (Nat.two_pow_pos i)
  rw [bitAt_eq_testBit, bitAt_eq_testBit, putBit_split]
  conv_rhs => rw [mask_split v i]
  rw [Nat.testBit_two_pow_mul_add _ below, Nat.testBit_two_pow_mul_add _ below]
  obtain low | high := Nat.lt_or_gt_of_ne h
  · rw [if_pos low, if_pos low]
  · obtain ⟨d, hd⟩ : ∃ d, j - i = d + 1 := ⟨j - i - 1, by omega⟩
    have same : ∀ x < 2, (2 * (v / 2 ^ i / 2) + x).testBit (d + 1) = (v / 2 ^ i / 2).testBit d := fun x hx => by
      rw [Nat.testBit_succ, show (2 * (v / 2 ^ i / 2) + x) / 2 = v / 2 ^ i / 2 by omega]
    rw [if_neg (Nat.lt_asymm high), if_neg (Nat.lt_asymm high), hd, same _ (Bool.toNat_lt b), same _ (Nat.mod_lt _ (by decide))]

/-! ### One line -/

/-- Line `i` of Stall `n` is off. -/
def LineOff (n i : Nat) (s : State) : Prop := bitAt (s.get (PWM_LINES_LINE n)) i = false

/-- Keys beside the levels of Stall `n`'s lines. -/
def besideLines (n k : Nat) : Bool := k != (PWM_LINES_LINE n).key

theorem besideLines_ix (hn : n < 4) (dom blk id i w r : Nat) : besideLines n (ix dom blk id i w r).key = true := by
  simp only [besideLines, bne_iff_ne, ix, PWM_LINES_LINE, Fld.key]; omega

/-- An edge on a Rein link leaves the lines as they are. -/
theorem reinEdge_lines (hn : n < 4) (l kind x : Nat) (s : State) : (reinEdge l kind x s).get (PWM_LINES_LINE n) = s.get (PWM_LINES_LINE n) := by
  have early : ∀ m, besideLines n (PWM_GP_STAT_PREV m).key = true := fun m => by
    simp only [besideLines, bne_iff_ne, PWM_GP_STAT_PREV, PWM_LINES_LINE, Fld.key]; omega
  have at_ : ∀ j, besideLines n (reinEAt l j).key = true := fun j => besideLines_ix hn _ _ _ _ _ _
  have info : ∀ j, besideLines n (reinEInfo l j).key = true := fun j => besideLines_ix hn _ _ _ _ _ _
  have stamp : besideLines n (reinVonStamp l (kind / 2)).key = true := besideLines_ix hn _ _ _ _ _ _
  have sample : besideLines n (reinVsEnd l (kind / 2)).key = true := besideLines_ix hn _ _ _ _ _ _
  refine WritesKeys.get (w := besideLines n) ?_ _ (bne_self_eq_false _)
  unfold reinEdge
  refine WritesKeys.when (((WritesKeys.each ((WritesKeys.refl _ s).when fun h => h.set (early _) _) fun j _ t ht => ?shift).set (at_ _) _).set
    (info _) _) fun h => (h.set stamp _).set sample _
  case shift => exact (ht.set (at_ _) _).set (info _) _

theorem lines_low : ∀ n < 4, (PWM_LINES_LINE n).key < 2 ^ 45 := by decide

/-- A line takes the level it is given, and the others keep theirs. -/
theorem setLine_line (hn : n < 4) (hi : i < 6) (t : Nat) (on : Bool) (s : State) :
    bitAt ((setLine n j t on s).get (PWM_LINES_LINE n)) i = if i = j then on else bitAt (s.get (PWM_LINES_LINE n)) i := by
  have written : ∀ v, bitAt (putBit v j on % 2 ^ 6) i = if i = j then on else bitAt v i := fun v => by
    rw [bitAt_eq_testBit, Nat.testBit_mod_two_pow, decide_eq_true hi, Bool.true_and, ← bitAt_eq_testBit]
    split
    · subst i; exact bitAt_putBit _ _ _
    · exact bitAt_putBit_ne ‹_› _ _
  unfold setLine
  split
  case isTrue same => split <;> simp_all
  case isFalse =>
    have edge : ∀ x, bitAt ((reinEdge (3 * n + j / 2) x t (s.setBit (PWM_LINES_LINE n) j on)).get (PWM_LINES_LINE n)) i =
        if i = j then on else bitAt (s.get (PWM_LINES_LINE n)) i := fun x => by
      rw [reinEdge_lines hn, State.setBit, State.get_set_same]; exact written _
    split <;> rw [← edge]
    · rw [pwmOnAt, State.get_set_ix (lines_low n hn)]
    · rw [pwmOffAt, State.get_set_ix (lines_low n hn)]

/-- Switching a line off leaves none of the others on that was off. -/
theorem LineOff.setLine_off (h : LineOff n i s) (hn : n < 4) (hi : i < 6) (j t : Nat) : LineOff n i (setLine n j t false s) := by
  rw [LineOff, setLine_line hn hi]; split
  · rfl
  · exact h

theorem LineOff.setLine_other (h : LineOff n i s) (hn : n < 4) (hi : i < 6) (other : i ≠ j) (t : Nat) (on : Bool) :
    LineOff n i (setLine n j t on s) := by
  rwa [LineOff, setLine_line hn hi, if_neg other]

theorem LineOff.suppress (h : LineOff n i s) (hn : n < 4) (j : Nat) : LineOff n i (suppress n j s) := by
  have apart : ∀ n < 4, (PWM_LINES_LINE n).key ≠ (PWM_SHOOT_STAT_COUNT n).key ∧ reported ((PWM_LINES_LINE n).key / 32) = false := by decide
  obtain ⟨count, silent⟩ := apart n hn
  rw [LineOff, Machine.suppress, (recordFault_reports _ _ _).get _ silent, raiseStall_get silent, State.get_set_ne _ _ _ _ count, State.setBit,
    pwmSup, State.get_set_ix (lines_low n hn)]
  exact h

theorem LineOff.turnOn (h : LineOff n i s) (hn : n < 4) (hi : i < 6) (other : i ≠ j) (p t : Nat) : LineOff n i (turnOn n j p t s) := by
  unfold Machine.turnOn State.when
  dsimp only
  split
  · exact h.setLine_other hn hi other _ _
  · exact h

theorem LineOff.callOn (h : LineOff n i s) (hn : n < 4) (j t : Nat) : LineOff n i (callOn n j t s) := by
  rw [LineOff, Machine.callOn, State.get_when (by rw [pwmReqAt, State.get_set_ix (lines_low n hn)])]
  exact h

/-- A line no longer called on is off; the others keep their levels. -/
theorem turnOff_line (hn : n < 4) (hi : i < 6) (j t : Nat) (s : State) :
    bitAt ((turnOff n j t s).get (PWM_LINES_LINE n)) i = if i = j then false else bitAt (s.get (PWM_LINES_LINE n)) i := by
  rw [turnOff, pwmReqAt, State.get_set_ix (lines_low n hn), State.setBit, pwmSup, State.get_set_ix (lines_low n hn), setLine_line hn hi]

/-! ### A half-bridge -/

/-- Of two lines called on, the interlock turns on no other (R231). -/
theorem LineOff.shoot {a b : Nat} (h : LineOff n i s) (hn : n < 4) (hi : i < 6) (ha : i ≠ a) (hb : i ≠ b) (t : Nat) :
    LineOff n i (shoot n a b t s) := by
  unfold Machine.shoot
  dsimp only
  split
  case isTrue => exact (((h.setLine_off hn hi a t).setLine_off hn hi b t).suppress hn a).suppress hn b
  case isFalse =>
    split
    · exact (h.suppress hn a).turnOn hn hi hb a t
    · exact (h.suppress hn b).turnOn hn hi ha b t

/-- The two lines of half-bridge `k` called on or off, as `want` has them. -/
def stageCalled (n t want k : Nat) (s : State) : State :=
  s.each [2 * k, 2 * k + 1] fun i s => if bitAt want i then callOn n i t s else turnOff n i t s

/-- A line that is not called on is off once its half-bridge is called, and stays off where it was. -/
theorem stageCalled_off (hn : n < 4) (hi : i < 6) (idle : bitAt want i = false) (h : i / 2 = k ∨ LineOff n i s) :
    LineOff n i (stageCalled n t want k s) := by
  have own : ∀ s, LineOff n i (turnOff n i t s) := fun s => by rw [LineOff, turnOff_line hn hi, if_pos rfl]
  have stays : ∀ j s, LineOff n i s → LineOff n i (if bitAt want j then callOn n j t s else turnOff n j t s) := by
    intro j s h
    split
    · exact h.callOn hn j t
    · rw [LineOff, turnOff_line hn hi]; split
      · rfl
      · exact h
  have called : stageCalled n t want k s = (fun s => if bitAt want (2 * k + 1) then callOn n (2 * k + 1) t s else turnOff n (2 * k + 1) t s)
      (if bitAt want (2 * k) then callOn n (2 * k) t s else turnOff n (2 * k) t s) := rfl
  rw [called]
  by_cases low : i = 2 * k + 1
  · subst low; dsimp only; rw [idle]; exact own _
  refine stays _ _ ?_
  by_cases high : i = 2 * k
  · subst high; rw [idle]; exact own _
  exact stays _ _ (h.resolve_left (by omega))

/-- What a half-bridge's stage leaves off: a line that is not called on is off at its end. -/
theorem stageHalf_off (hn : n < 4) (hi : i < 6) (idle : bitAt want i = false) (h : i / 2 = k ∨ LineOff n i s) :
    LineOff n i (stageHalf n t want k s) := by
  have off := stageCalled_off (t := t) hn hi idle h
  have other : ∀ {j u}, (bitAt want j && !bitAt (State.get u (pwmSup n)) j) = true → i ≠ j := fun live e => by simp [← e, idle] at live
  unfold stageHalf
  dsimp only
  split
  case isTrue both => exact off.shoot hn hi (other (Bool.and_eq_true_iff.1 both).1) (other (Bool.and_eq_true_iff.1 both).2) t
  case isFalse =>
    split
    case isTrue live => exact off.turnOn hn hi (other live) _ t
    case isFalse =>
      split
      case isTrue live => exact off.turnOn hn hi (other live) _ t
      case isFalse => exact off

/-! ### The output stage -/

/-- A line that no source calls for is off after the output stage has acted (R275). -/
theorem refreshLines_off (hn : n < 4) (hi : i < 6) (idle : bitAt (wantedLines n s) i = false) (t : Nat) : LineOff n i (refreshLines n t s) := by
  have stage : ∀ k u, i / 2 = k ∨ LineOff n i u → LineOff n i (stageHalf n t (wantedLines n s) k u) := fun k u => stageHalf_off hn hi idle
  have half : i / 2 = 0 ∨ i / 2 = 1 ∨ i / 2 = 2 := by omega
  change LineOff n i (stageHalf n t (wantedLines n s) 2 (stageHalf n t (wantedLines n s) 1 (stageHalf n t (wantedLines n s) 0 s)))
  obtain first | second | third := half
  · exact stage _ _ (.inr (stage _ _ (.inr (stage _ _ (.inl first)))))
  · exact stage _ _ (.inr (stage _ _ (.inl second)))
  · exact stage _ _ (.inl third)

/-! ### The ranks -/

/-- The lines let through, from whether each link is `READY`. -/
def readyLines (r0 r1 r2 : Bool) : Nat := r0.toNat * 3 + r1.toNat * 12 + r2.toNat * 48

theorem readyLines_bits : ∀ r0 r1 r2 : Bool, ∀ j < 3, bitAt (readyLines r0 r1 r2) (2 * j) = [r0, r1, r2].getD j false ∧
    bitAt (readyLines r0 r1 r2) (2 * j + 1) = [r0, r1, r2].getD j false := by
  decide

theorem readyMask_eq (n : Nat) (s : State) : readyMask n s = readyLines (s.get (REIN_Lh_STAT_STATE (3 * n)) == 3)
    (s.get (REIN_Lh_STAT_STATE (3 * n + 1)) == 3) (s.get (REIN_Lh_STAT_STATE (3 * n + 2)) == 3) := by
  have part : ∀ x m : Nat, (if x = 3 then m else 0) = (x == 3).toNat * m := fun x m => by by_cases h : x = 3 <;> simp [h]
  simp only [readyMask, readyLines, List.range_succ, List.range_zero, List.nil_append, List.cons_append, List.map_cons, List.map_nil, List.sum_cons,
    List.sum_nil, part, Nat.add_zero]
  ring

/-- The lines of a half-bridge whose link is not `READY` are held off (R244). -/
theorem readyMask_off (hj : j < 3) (h : s.get (REIN_Lh_STAT_STATE (3 * n + j)) ≠ 3) :
    bitAt (readyMask n s) (2 * j) = false ∧ bitAt (readyMask n s) (2 * j + 1) = false := by
  have shut : [s.get (REIN_Lh_STAT_STATE (3 * n)) == 3, s.get (REIN_Lh_STAT_STATE (3 * n + 1)) == 3,
      s.get (REIN_Lh_STAT_STATE (3 * n + 2)) == 3].getD j false = false := by
    interval_cases j <;> exact beq_eq_false_iff_ne.2 h
  rw [readyMask_eq, ← shut]
  exact readyLines_bits _ _ _ j hj

/-- What the highest ranked source calls for, before the links' masks (R275). -/
def rankedLines (n : Nat) (s : State) : Nat :=
  let st := s.get (PWM_STAT_STATE n)
  if !s.flag (pwmPinHigh n) then 0
  else if s.flag (PROT_STAT_STO n) then 0
  else if s.get (PROT_STAT_SHD n) = 2 then 0
  else if st = 3 then (if s.flag (PROT_STAT_PROV n) then 0 else safeLines (s.get (PROT_STAT_SAFE n)))
  else if st = 1 ∨ st = 2 then
    (if s.flag (PWM_TRIP_STAT_FORCE n) then levelLines (forcedLevel n s) else pwmLines n s)
  else 0

theorem wantedLines_eq (n : Nat) (s : State) : wantedLines n s = rankedLines n s &&& readyMask n s := rfl

/-- The sources that hold every line off. -/
theorem rankedLines_zero (h : s.get (pwmPinHigh n) = 0 ∨ s.get (PROT_STAT_STO n) ≠ 0 ∨ s.get (PROT_STAT_SHD n) = 2 ∨
    s.get (PWM_STAT_STATE n) = 0 ∨ s.get (PWM_STAT_STATE n) = 4 ∨
    (s.get (PWM_STAT_STATE n) = 3 ∧ (s.get (PROT_STAT_PROV n) ≠ 0 ∨ s.get (PROT_STAT_SAFE n) = 1))) :
    rankedLines n s = 0 := by
  obtain pin | sto | command | off | isolated | ⟨safe, provisional | torqueOff⟩ := h
  · simp [rankedLines, State.flag, pin]
  · simp [rankedLines, State.flag, sto]
  · simp [rankedLines, command]
  · simp [rankedLines, off]
  · simp [rankedLines, isolated]
  · simp [rankedLines, State.flag, safe, provisional]
  · simp [rankedLines, safe, torqueOff, safeLines]

end Lines
end Sys2Proof.Machine
end

section
/-!
The ranks of the sources: O33.
-/

namespace Sys2Proof.Machine
open Reg

/-- Settles O33: a rank that calls for no line holds off those below it, a link's mask its half-bridge, and the output stage turns off what is
not called on. -/
theorem higherRankHoldsLinesOff : Obligations.HigherRankHoldsLinesOff := by
  refine ⟨fun n s holds => ?ranks, fun n h s hn hh link => ?links, fun n i t s hn hi idle => refreshLines_off hn hi idle t⟩
  case ranks => rw [wantedLines_eq, rankedLines_zero holds, Nat.zero_and]
  case links =>
    obtain ⟨high, low⟩ := readyMask_off hh link
    rw [bitAt_eq_testBit] at high low
    rw [bitAt_eq_testBit, bitAt_eq_testBit, wantedLines_eq, Nat.testBit_and, Nat.testBit_and, high, low]
    exact ⟨Bool.and_false _, Bool.and_false _⟩

end Sys2Proof.Machine
end

section
/-!
SUPPORT. A Stall without a partner and a cause of class `STALL_SAFE` (R274, R308): what its entry records, and what the decision leaves of it.
-/

namespace Sys2Proof.Machine
open Reg

section Entry
variable {n code : Nat} {f : Fld} {s t a : State}

/-! ### The record of an entry -/

/-- What an entry into the safe state records: the Stall's state, and its first cause with its time. -/
def entryRecord (n : Nat) : List Fld := [PWM_STAT_STATE n, PROT_SAFE_CAUSE_CODE n, PROT_SAFE_TB_LO_TB n, PROT_SAFE_TB_HI_TB n]

/-- Keys beside the record. -/
def besideRecord (n k : Nat) : Bool := !(entryRecord n).any fun f => f.key == k

/-- The fields of Stall `n` and of the Remount that its entry writes beside the record. -/
def afterRecord (n : Nat) : List Fld :=
  [PROT_STAT_PROV n, PROT_STAT_ROW n, PROT_STAT_SPD_HIGH n, protRelPend n, LOOP_STAT_STATE n, LOOP_STAT_ENG_R n, PROT_DIS_STAT_PATH n,
    PROT_DIS_CMD_STATUS n, LOOP_INT_D_I n, LOOP_INT_Q_I n, LOOP_INT_W_I n, loopRes n 4, loopRes n 5, loopRes n 6] ++ remountFields

theorem afterRecord_beside (hn : n < 4) (hf : f ∈ afterRecord n) : besideRecord n f.key = true := by
  have beside : ∀ n < 4, ∀ f ∈ afterRecord n, besideRecord n f.key = true := by decide
  exact beside n hn f hf

/-- The decision table and the lines leave the record. -/
theorem entryRecord_row (hn : n < 4) (hf : f ∈ entryRecord n) : rowKey f.key = false := by
  have apart : ∀ n < 4, ((entryRecord n).all fun f => !rowKey f.key) = true := by decide +kernel
  exact (Bool.not_eq_true' _).mp (List.all_eq_true.1 (apart n hn) f hf)

theorem besideRecord_of_line (hn : n < 4) (k : Nat) (h : lineKey k = true) : besideRecord n k = true := by
  rw [besideRecord, Bool.not_eq_true', List.any_eq_false]
  intro f hf e
  have row := rowKey_of_line k h
  rw [← beq_iff_eq.1 e, entryRecord_row hn hf] at row
  exact Bool.false_ne_true row

theorem besideRecord_self (hf : f ∈ entryRecord n) : besideRecord n f.key = false := by
  rw [besideRecord, Bool.not_eq_false', List.any_eq_true]
  exact ⟨f, hf, beq_self_eq_true _⟩

section After
variable (hn : n < 4)
include hn

theorem WritesKeys.after (h : WritesKeys (besideRecord n) a s) (hf : f ∈ afterRecord n) (x : Nat) : WritesKeys (besideRecord n) a (s.set f x) :=
  h.set (afterRecord_beside hn hf) x

theorem WritesKeys.reported (h : WritesKeys (besideRecord n) a s) (hr : Reports s t) : WritesKeys (besideRecord n) a t :=
  h.reports (fun k hk => besideRecord_of_line hn k (lineKey_of_reported k hk)) hr

theorem bandUpdate_beside (h : WritesKeys (besideRecord n) a s) (entry : Bool) : WritesKeys (besideRecord n) a (bandUpdate n entry s) := by
  unfold bandUpdate
  split
  · exact h.after hn (f := PROT_STAT_SPD_HIGH n) (by simp [afterRecord]) _
  · exact h

theorem loopHold_beside (h : WritesKeys (besideRecord n) a s) : WritesKeys (besideRecord n) a (loopHold n s) := by
  have integrators : ∀ l : List Fld, (∀ f ∈ l, f ∈ afterRecord n) → ∀ s, WritesKeys (besideRecord n) a s →
      WritesKeys (besideRecord n) a (l.foldl (fun s f => s.set f 0) s) := by
    intro l
    induction l with
    | nil => exact fun _ s h => h
    | cons f r ih =>
      intro hl s h
      obtain ⟨hf, hr⟩ := List.forall_mem_cons.1 hl
      exact ih hr _ (h.after hn hf 0)
  unfold loopHold
  refine WritesKeys.when (h.when fun h => h.after hn (f := LOOP_STAT_STATE n) (by simp [afterRecord]) _) (integrators _ ?_ _)
  simp [afterRecord]

theorem remountRelease_beside (h : WritesKeys (besideRecord n) a s) : WritesKeys (besideRecord n) a (remountRelease n s) := by
  have written := WritesKeys.sets (a := a) (l := remountFields) fun f hf => afterRecord_beside hn (List.mem_append_right _ hf)
  simp only [remountFields, List.forall_mem_cons] at written
  obtain ⟨held, paired, busy, enabled, waits, -⟩ := written
  unfold remountRelease
  refine WritesKeys.cond (WritesKeys.reported hn (WritesKeys.when ?released fun h => waits 0 _ (enabled 0 _ h)) (raiseEvent_reports _ _)) h
  exact (busy 0 _ (paired 0 _ (held 0 _ h))).after hn (f := LOOP_STAT_ENG_R n) (by simp [afterRecord]) 0

theorem windingFail_beside (h : WritesKeys (besideRecord n) a s) : WritesKeys (besideRecord n) a (windingFail n s) := by
  refine h.when fun h => WritesKeys.reported hn (WritesKeys.when ?path fun h => ?status) (recordFault_reports _ _ _)
  case path => exact h.after hn (f := PROT_DIS_STAT_PATH n) (by simp [afterRecord]) 0
  case status => exact h.after hn (f := PROT_DIS_CMD_STATUS n) (by simp [afterRecord]) _

end After

/-- The record of an entry with first cause `code`. -/
def entryRecorded (n code : Nat) (s : State) : State :=
  ((s.set (PROT_SAFE_CAUSE_CODE n) code).setWide (PROT_SAFE_TB_LO_TB n) (PROT_SAFE_TB_HI_TB n) s.now).set (PWM_STAT_STATE n) 3

/-- All of an entry but its record leaves the record. -/
theorem enterOne_record (hn : n < 4) (hf : f ∈ entryRecord n) (code : Nat) (s : State) :
    (enterOne n code s).get f = (entryRecorded n code s).get f := by
  have start := WritesKeys.refl (besideRecord n) (entryRecorded n code s)
  have cleared := (start.after hn (f := PROT_STAT_PROV n) (by simp [afterRecord]) 1).after hn (f := PROT_STAT_ROW n) (by simp [afterRecord]) 0
  have held := (loopHold_beside hn (bandUpdate_beside hn cleared true)).reported hn (raiseStall_reports n 0x1A _)
  have entered : WritesKeys (besideRecord n) (entryRecorded n code s) (enterOne n code s) :=
    WritesKeys.lines (by omega) (besideRecord_of_line hn)
      (windingFail_beside hn ((held.when fun h => remountRelease_beside hn h).after hn (f := protRelPend n) (by simp [afterRecord]) 0)) _
  exact entered.get f (besideRecord_self hf)

theorem entryRecorded_reads (hn : n < 4) (hc : code < 2 ^ 16) (s : State) : (entryRecorded n code s).get (PWM_STAT_STATE n) = 3 ∧
    (entryRecorded n code s).get (PROT_SAFE_CAUSE_CODE n) = code ∧
    (entryRecorded n code s).getWide (PROT_SAFE_TB_LO_TB n) (PROT_SAFE_TB_HI_TB n) = s.now := by
  have apart : ∀ n < 4, (PROT_SAFE_TB_LO_TB n).key ≠ (PROT_SAFE_TB_HI_TB n).key ∧
      (∀ f ∈ [PROT_SAFE_CAUSE_CODE n, PROT_SAFE_TB_LO_TB n, PROT_SAFE_TB_HI_TB n], f.key ≠ (PWM_STAT_STATE n).key) ∧
      (PROT_SAFE_CAUSE_CODE n).key ≠ (PROT_SAFE_TB_LO_TB n).key ∧ (PROT_SAFE_CAUSE_CODE n).key ≠ (PROT_SAFE_TB_HI_TB n).key := by decide
  obtain ⟨words, state, low, high⟩ := apart n hn
  simp only [List.forall_mem_cons] at state
  obtain ⟨cause, lo, hi, -⟩ := state
  refine ⟨State.get_set_of_lt (by simp [PWM_STAT_STATE]) _, ?cause, ?time⟩
  case cause => rw [entryRecorded, State.get_set_ne _ _ _ _ cause, State.get_setWide_ne low high, State.get_set_of_lt hc]
  case time =>
    rw [entryRecorded, State.getWide, State.get_set_ne _ _ _ _ lo, State.get_set_ne _ _ _ _ hi, ← State.getWide, State.getWide_setWide words rfl]
    exact Nat.mod_eq_of_lt (State.now_lt s)

/-! ### A Stall without a partner -/

theorem partner_alone (alone : s.get (PWM_CTRL_PAIR n) = 0) : partner n s = none := by
  simp [partner, alone]

/-- A switching Stall enters its safe state, and the decision follows. -/
theorem stallSafe_enters (hn : n < 4) (alone : s.get (PWM_CTRL_PAIR n) = 0) (live : s.get (PWM_STAT_STATE n) = 1 ∨ s.get (PWM_STAT_STATE n) = 2)
    (code : Nat) : stallSafe n code s = reDecide n (enterOne n code s) := by
  have apart : ∀ n < 4, entryKey (PWM_CTRL_PAIR n).key = false := by decide +kernel
  have still : (enterOne n code s).get (PWM_CTRL_PAIR n) = 0 :=
    ((enterOne_keys (by omega) (WritesKeys.refl _ s) code).get _ (apart n hn)).trans alone
  have runs : (s.get (PWM_STAT_STATE n) == 1 || s.get (PWM_STAT_STATE n) == 2) = true := by simpa using live
  simp only [stallSafe, runs, if_true, partner_alone still]

/-- A Stall that does not switch is only decided anew. -/
theorem stallSafe_off (alone : s.get (PWM_CTRL_PAIR n) = 0) (off : s.get (PWM_STAT_STATE n) = 0 ∨ s.get (PWM_STAT_STATE n) = 4) (code : Nat) :
    stallSafe n code s = reDecide n s := by
  have rests : (s.get (PWM_STAT_STATE n) == 1 || s.get (PWM_STAT_STATE n) == 2) = false ∧ (s.get (PWM_STAT_STATE n) == 3) = false := by
    obtain h | h := off <;> rw [h] <;> exact ⟨rfl, rfl⟩
  simp only [stallSafe, rests.1, rests.2, Bool.false_eq_true, if_false, State.when_false, partner_alone alone]

theorem stallSafe_record (hn : n < 4) (alone : s.get (PWM_CTRL_PAIR n) = 0)
    (live : s.get (PWM_STAT_STATE n) = 1 ∨ s.get (PWM_STAT_STATE n) = 2) (hf : f ∈ entryRecord n) (code : Nat) :
    (stallSafe n code s).get f = (entryRecorded n code s).get f := by
  rw [stallSafe_enters hn alone live, (reDecide_keys hn _).get f (entryRecord_row hn hf), enterOne_record hn hf]

/-- A cause that finds the Stall off leaves its record. -/
theorem stallSafe_off_record (hn : n < 4) (alone : s.get (PWM_CTRL_PAIR n) = 0)
    (off : s.get (PWM_STAT_STATE n) = 0 ∨ s.get (PWM_STAT_STATE n) = 4) (hf : f ∈ entryRecord n) (code : Nat) :
    (stallSafe n code s).get f = s.get f := by
  rw [stallSafe_off alone off, (reDecide_keys hn _).get f (entryRecord_row hn hf)]

end Entry
end Sys2Proof.Machine
end

section
/-!
A cause of class `STALL_SAFE`: O37.
-/

namespace Sys2Proof.Machine
open Reg

/-- Settles O37, by whether the Stall switches: its entry's record outlasts the decision that follows, and a Stall that does not switch is only
decided anew. -/
theorem stallSafeCauseEntersState3 : Obligations.StallSafeCauseEntersState3 := by
  refine ⟨fun n code s hn hc alone live => ?enters, fun n code s hn alone off => ?rests⟩
  case enters =>
    have kept : ∀ f ∈ entryRecord n, (stallSafe n code s).get f = (entryRecorded n code s).get f := fun f hf =>
      stallSafe_record hn alone live hf code
    simp only [entryRecord, List.forall_mem_cons] at kept
    obtain ⟨state, cause, lo, hi, -⟩ := kept
    rw [State.getWide, state, cause, lo, hi, ← State.getWide]
    exact entryRecorded_reads hn hc s
  case rests =>
    exact ⟨stallSafe_off_record hn alone off (by simp [entryRecord]) code, stallSafe_off_record hn alone off (by simp [entryRecord]) code⟩

end Sys2Proof.Machine
end

section
/-!
SUPPORT. The decision table (R282, R286): the row it gives and what a row asks for.
-/

namespace Sys2Proof.Machine
open Reg

section Table
variable {n : Nat} {high : Bool} {s : State}

/-! ### The row -/

theorem decideRow_bounds (n : Nat) (high : Bool) (s : State) : 1 ≤ decideRow n high s ∧ decideRow n high s ≤ 10 := by
  unfold decideRow
  extract_lets ps kind short full pref prefSide
  split_ifs <;> decide

/-- A switch on a side of Stall `n` is suspected shorted: side 0 the high side, 1 the low side. -/
def sideShort (n side : Nat) (s : State) : Bool := [0, 1, 2].any fun h => swOf n (2 * h + side) s == 1

/-- Each switch on a side of Stall `n` can be turned on. -/
def sideFull (n side : Nat) (s : State) : Bool := [0, 1, 2].all fun h => decide (swOf n (2 * h + side) s ≤ 1)

/-- The side that the policy prefers. -/
def preferredSide (n : Nat) (s : State) : Nat := if s.get (PROT_POL_PREF n) = 1 then 0 else 1

theorem leadOf_alone (alone : s.get (PWM_CTRL_PAIR n) = 0) : leadOf n s = n := by
  simp [leadOf, alone]

theorem pairList_alone (alone : s.get (PWM_CTRL_PAIR n) = 0) : pairList n s = [n] := by
  simp [pairList, alone]

/-- The decision table of a Stall without a partner. -/
theorem decideRow_alone (alone : s.get (PWM_CTRL_PAIR n) = 0) (high : Bool) : decideRow n high s =
    if s.get (PROT_STAT_SHD n) = 2 then 1
    else if sideShort n 0 s && sideShort n 1 s then 2
    else if sideShort n 1 s then (if sideFull n 1 s then 3 else 4)
    else if sideShort n 0 s then (if sideFull n 0 s then 5 else 6)
    else if !high then 7
    else if sideFull n (preferredSide n s) s then 8
    else if sideFull n (1 - preferredSide n s) s then 9
    else 10 := by
  simp only [decideRow, pairList_alone alone, leadOf_alone alone, List.map_cons, List.map_nil, List.foldl_cons, List.foldl_nil, Nat.zero_max,
    List.any_cons (a := n), List.any_nil, List.all_cons (a := n), List.all_nil, Bool.or_false, Bool.and_true, sideShort, sideFull, preferredSide]
  rfl

/-- The row of torque off by command. -/
theorem decideRow_commanded (alone : s.get (PWM_CTRL_PAIR n) = 0) (command : s.get (PROT_STAT_SHD n) = 2) (high : Bool) :
    decideRow n high s = 1 := by
  rw [decideRow_alone alone, if_pos command]

theorem sideShort_available (available : ∀ w < 6, swOf n w s = 0) {side : Nat} (hs : side < 2) : sideShort n side s = false := by
  refine List.any_eq_false.2 fun h hh => ?_
  have leg : h < 3 := by simp at hh; omega
  rw [available _ (by omega)]; decide

theorem sideFull_available (available : ∀ w < 6, swOf n w s = 0) {side : Nat} (hs : side < 2) : sideFull n side s = true := by
  refine List.all_eq_true.2 fun h hh => ?_
  have leg : h < 3 := by simp at hh; omega
  rw [available _ (by omega)]; decide

/-- With every switch available the speed band chooses. -/
theorem decideRow_available (alone : s.get (PWM_CTRL_PAIR n) = 0) (free : s.get (PROT_STAT_SHD n) ≠ 2) (available : ∀ w < 6, swOf n w s = 0)
    (high : Bool) : decideRow n high s = if high then 8 else 7 := by
  have preferred : preferredSide n s < 2 := by unfold preferredSide; split <;> decide
  rw [decideRow_alone alone, if_neg free, sideShort_available available (by decide), sideShort_available available (by decide),
    sideFull_available available preferred]
  cases high <;> rfl

theorem sideShort_of_switch {h side : Nat} (hh : h < 3) (short : swOf n (2 * h + side) s = 1) : sideShort n side s = true := by
  refine List.any_eq_true.2 ⟨h, ?_, beq_iff_eq.2 short⟩
  interval_cases h <;> decide

/-- Shorts on both sides (row 2). -/
theorem decideRow_bothShort (alone : s.get (PWM_CTRL_PAIR n) = 0) (free : s.get (PROT_STAT_SHD n) ≠ 2) (above : sideShort n 0 s = true)
    (below : sideShort n 1 s = true) (high : Bool) : decideRow n high s = 2 := by
  rw [decideRow_alone alone, if_neg free, above, below]; rfl

/-! ### What a row asks for -/

/-- Torque off is what all rows but those that short the motor ask for; the contactors and AUX0 follow the row. -/
theorem row_columns (pref : Nat) {row : Nat} (lo : 1 ≤ row) (hi : row ≤ 10) : (rowSafe row pref = 1 ↔ row ∈ [1, 2, 4, 6, 7, 10]) ∧
    rowSafe 3 pref = 2 ∧ rowSafe 5 pref = 3 ∧ rowSafe 8 pref ≠ rowSafe 9 pref ∧ (rowOpens row = true ↔ row ∈ [2, 4, 6, 10]) ∧
    (rowChop row false = true ↔ row ∈ [2, 4, 6, 10]) ∧ (rowChop row true = true ↔ row ∈ [1, 2, 4, 6, 10]) := by
  have safe : (rowSafe row pref = 1 ↔ row ∈ [1, 2, 4, 6, 7, 10]) ∧ rowSafe 8 pref ≠ rowSafe 9 pref := by
    by_cases high : pref = 1 <;> interval_cases row <;> simp [rowSafe, high]
  refine ⟨safe.1, rfl, rfl, safe.2, ?_⟩
  interval_cases row <;> decide

end Table
end Sys2Proof.Machine
end

section
/-!
SUPPORT. The decisions of the protection (R274, R281, R284, R285): what a Stall without a partner comes to when its table is
evaluated.
-/

namespace Sys2Proof.Machine
open Reg

section Decision
variable {n row : Nat} {f : Fld} {s : State}

/-! ### The inputs of a decision -/

/-- What a decision of Stall `n` reads beside the switches. -/
def decisionInputs (n : Nat) : List Fld :=
  [PWM_STAT_STATE n, PWM_CTRL_PAIR n, PROT_STAT_SHD n, PROT_STAT_SPD_HIGH n, PROT_STAT_ROW n, PROT_POL_DWELL n, PROT_POL_PREF n, protRowAt n,
    protWait n 0, protWait n 1, protWait n 2]

/-- Judging the switches leaves the other inputs. -/
theorem switchUpdate_get (hn : n < 4) (hf : f ∈ decisionInputs n) (s : State) : (switchUpdate n s).get f = s.get f := by
  have apart : ∀ n < 4, ∀ f ∈ decisionInputs n, f.key ≠ (PROT_SW_STAT_SW n).key := by decide
  exact State.get_set_ne _ _ _ _ (apart n hn f hf)

theorem waiting_alone (alone : s.get (PWM_CTRL_PAIR n) = 0) : waiting n s = [0, 1, 2].any fun h => s.flag (protWait n h) := by
  simp only [waiting, pairList_alone alone, List.any_cons (a := n), List.any_nil, Bool.or_false]

theorem waiting_switchUpdate (hn : n < 4) (alone : s.get (PWM_CTRL_PAIR n) = 0) : waiting n (switchUpdate n s) = waiting n s := by
  have kept : ∀ f ∈ decisionInputs n, (switchUpdate n s).get f = s.get f := fun f hf => switchUpdate_get hn hf s
  simp only [decisionInputs, List.forall_mem_cons] at kept
  obtain ⟨-, pair, -, -, -, -, -, -, wait0, wait1, wait2, -⟩ := kept
  rw [waiting_alone alone, waiting_alone (pair.trans alone)]
  simp only [List.any_cons, List.any_nil, State.flag_congr wait0, State.flag_congr wait1, State.flag_congr wait2]

theorem dwellOver_switchUpdate (hn : n < 4) (s : State) : dwellOver n (switchUpdate n s) = dwellOver n s := by
  rw [dwellOver, dwellOver, switchUpdate_get hn (f := protRowAt n) (by simp [decisionInputs]),
    switchUpdate_get hn (f := PROT_POL_DWELL n) (by simp [decisionInputs])]
  rfl

/-! ### The evaluation -/

/-- The table's row taken in the present speed band. -/
def rowTaken (n : Nat) (s : State) : State :=
  takeRow (decideRow n (s.flag (PROT_STAT_SPD_HIGH n)) s) n (s.setB (protBandRow n) (s.flag (PROT_STAT_SPD_HIGH n)))

/-- What a Stall without a partner does once its switches are judged: it holds its lines off for a decision that waits (R284), keeps a row that only
the speed band would change until the dwell is over (R285), or takes the table's row. -/
def decided (n : Nat) (s : State) : State :=
  let row := decideRow n (s.flag (PROT_STAT_SPD_HIGH n)) s
  let old := s.get (PROT_STAT_ROW n)
  if s.get (PWM_STAT_STATE n) ≠ 3 then s
  else if waiting n s && s.get (PROT_STAT_SHD n) != 2 then provisional n s
  else if old ≠ 0 ∧ row ≠ old ∧ decideRow n (s.flag (protBandRow n)) s = old ∧ !dwellOver n s then
    s.when (s.flag (PROT_STAT_PROV n)) (takeRow old n)
  else ctcUpdate (rowTaken n s)

theorem reDecide_alone (hn : n < 4) (alone : s.get (PWM_CTRL_PAIR n) = 0) : reDecide n s = decided n (switchUpdate n s) := by
  have still : (switchUpdate n s).get (PWM_CTRL_PAIR n) = 0 := (switchUpdate_get hn (by simp [decisionInputs]) s).trans alone
  simp only [reDecide, decided, rowTaken, State.each, pairList_alone alone, pairList_alone still, leadOf_alone still, List.foldl_cons, List.foldl_nil,
    List.all_cons, List.all_nil, Bool.and_true, State.when]

/-! ### A row taken -/

/-- The fields of `PROT_STAT` that show the row in force. -/
def shownRow (n : Nat) : List Fld := [PROT_STAT_ROW n, PROT_STAT_SAFE n, PROT_STAT_PROV n, PROT_STAT_CTC_REQ n, PROT_STAT_CHOP n]

theorem shownRow_apart (hn : n < 4) (hf : f ∈ shownRow n) : lineKey f.key = false ∧ ctcKey f.key = false ∧ reported (f.key / 32) = false ∧
    f.key < 2 ^ 45 := by
  have apart : ∀ n < 4, ∀ f ∈ shownRow n, lineKey f.key = false ∧ ctcKey f.key = false ∧ reported (f.key / 32) = false ∧
      f.key < 2 ^ 45 := by decide
  exact apart n hn f hf

/-- A Stall without a partner shows the row that it takes. -/
def rowShown (row n : Nat) (s : State) : State :=
  let t := (s.set (PROT_STAT_ROW n) row).set (PROT_STAT_SAFE n) (rowSafe row (s.get (PROT_POL_PREF n)))
  let t := (t.setB (PROT_STAT_CHOP n) (rowChop row (s.flag (PROT_STAT_SPD_HIGH n)))).setB (PROT_STAT_CTC_REQ n) (rowOpens row)
  t.set (PROT_STAT_PROV n) 0

/-- What follows in taking a row leaves what the registers show of it. -/
theorem takeRow_get (hn : n < 4) (alone : s.get (PWM_CTRL_PAIR n) = 0) (safe : s.get (PWM_STAT_STATE n) = 3) (hf : f ∈ shownRow n) (row : Nat) :
    (takeRow row n s).get f = (rowShown row n s).get f := by
  obtain ⟨stage, -, silent, low⟩ := shownRow_apart hn hf
  rw [takeRow, if_neg (not_not.2 safe)]
  dsimp only
  rw [(refreshLines_keys (by omega) _ _).get f stage, State.get_when (raiseStall_get silent _ _ _),
    State.get_when (State.get_set_ix low _ _ _ _ _ _ _ _), leadOf_alone alone, rowShown]

theorem rowShown_reads (hn : n < 4) (hr : row < 16) (s : State) : (rowShown row n s).get (PROT_STAT_ROW n) = row ∧
    (rowShown row n s).get (PROT_STAT_SAFE n) = rowSafe row (s.get (PROT_POL_PREF n)) ∧ (rowShown row n s).get (PROT_STAT_PROV n) = 0 ∧
    (rowShown row n s).flag (PROT_STAT_CTC_REQ n) = rowOpens row ∧
    (rowShown row n s).flag (PROT_STAT_CHOP n) = rowChop row (s.flag (PROT_STAT_SPD_HIGH n)) := by
  have narrow : rowSafe row (s.get (PROT_POL_PREF n)) < 2 ^ 2 := by unfold rowSafe; split_ifs <;> decide
  have written : (rowShown row n s).get (PROT_STAT_ROW n) = row % 2 ^ 4 ∧
      (rowShown row n s).get (PROT_STAT_SAFE n) = rowSafe row (s.get (PROT_POL_PREF n)) % 2 ^ 2 ∧
      (rowShown row n s).get (PROT_STAT_CTC_REQ n) = (rowOpens row).toNat ∧
      (rowShown row n s).get (PROT_STAT_CHOP n) = (rowChop row (s.flag (PROT_STAT_SPD_HIGH n))).toNat := by
    interval_cases n <;> simp (disch := decide) only [rowShown, State.get_set_ne, State.get_setB_ne, State.get_setB_same,
      State.get_set_same, and_true] <;> exact ⟨rfl, rfl⟩
  obtain ⟨shown, state, opens, chop⟩ := written
  have level : ∀ {f b}, (rowShown row n s).get f = Bool.toNat b → (rowShown row n s).flag f = b := fun {f b} h => by
    rw [State.flag, h]; cases b <;> rfl
  exact ⟨shown.trans (Nat.mod_eq_of_lt hr), state.trans (Nat.mod_eq_of_lt narrow), State.get_set_zero _ _, level opens, level chop⟩

/-- The table's row, as the registers show it once it is taken. -/
theorem rowTaken_reads (hn : n < 4) (alone : s.get (PWM_CTRL_PAIR n) = 0) (safe : s.get (PWM_STAT_STATE n) = 3) :
    let row := decideRow n (s.flag (PROT_STAT_SPD_HIGH n)) s
    let t := ctcUpdate (rowTaken n s)
    t.get (PROT_STAT_ROW n) = row ∧ t.get (PROT_STAT_SAFE n) = rowSafe row (s.get (PROT_POL_PREF n)) ∧ t.get (PROT_STAT_PROV n) = 0 ∧
      t.flag (PROT_STAT_CTC_REQ n) = rowOpens row ∧ t.flag (PROT_STAT_CHOP n) = rowChop row (s.flag (PROT_STAT_SPD_HIGH n)) := by
  intro row t
  have lows : ∀ n < 4, ∀ f ∈ [PWM_CTRL_PAIR n, PWM_STAT_STATE n, PROT_POL_PREF n, PROT_STAT_SPD_HIGH n], f.key < 2 ^ 45 := by decide
  have banded : ∀ f ∈ [PWM_CTRL_PAIR n, PWM_STAT_STATE n, PROT_POL_PREF n, PROT_STAT_SPD_HIGH n],
      (s.setB (protBandRow n) (s.flag (PROT_STAT_SPD_HIGH n))).get f = s.get f := fun f hf => State.get_set_ix (lows n hn f hf) _ _ _ _ _ _ _ _
  simp only [List.forall_mem_cons] at banded
  obtain ⟨pair, state, pref, band, -⟩ := banded
  have taken : ∀ f ∈ shownRow n, t.get f = (rowShown row n (s.setB (protBandRow n) (s.flag (PROT_STAT_SPD_HIGH n)))).get f := fun f hf =>
    ((ctcUpdate_keys _).get f (shownRow_apart hn hf).2.1).trans (takeRow_get hn (pair.trans alone) (state.trans safe) hf row)
  have shown := rowShown_reads hn (row := row) (by have := (decideRow_bounds n (s.flag (PROT_STAT_SPD_HIGH n)) s).2; omega)
    (s.setB (protBandRow n) (s.flag (PROT_STAT_SPD_HIGH n)))
  rw [pref, State.flag_congr band] at shown
  simp only [shownRow, List.forall_mem_cons] at taken
  obtain ⟨row', safe', prov', opens', chop', -⟩ := taken
  rwa [row', safe', prov', State.flag_congr opens', State.flag_congr chop']

section Safe
variable (hn : n < 4) (alone : s.get (PWM_CTRL_PAIR n) = 0)
include hn alone

/-- Outside its safe state a Stall keeps its row: only its switches are judged. -/
theorem reDecide_switching (other : s.get (PWM_STAT_STATE n) ≠ 3) : reDecide n s = switchUpdate n s := by
  have state : (switchUpdate n s).get (PWM_STAT_STATE n) ≠ 3 := by rwa [switchUpdate_get hn (by simp [decisionInputs])]
  rw [reDecide_alone hn alone, decided, if_pos state]

variable (safe : s.get (PWM_STAT_STATE n) = 3)
include safe

/-- A decision that waits for its inputs holds the lines off and leaves the row (R284). -/
theorem reDecide_waits (waits : waiting n s = true) (free : s.get (PROT_STAT_SHD n) ≠ 2) :
    (reDecide n s).get (PROT_STAT_PROV n) = 1 ∧ (reDecide n s).get (PROT_STAT_ROW n) = s.get (PROT_STAT_ROW n) := by
  have state : (switchUpdate n s).get (PWM_STAT_STATE n) = 3 := (switchUpdate_get hn (by simp [decisionInputs]) s).trans safe
  have held : (waiting n (switchUpdate n s) && (switchUpdate n s).get (PROT_STAT_SHD n) != 2) = true := by
    rw [waiting_switchUpdate hn alone, switchUpdate_get hn (by simp [decisionInputs]), waits, bne_iff_ne.2 free]; rfl
  have decision : reDecide n s = provisional n (switchUpdate n s) := by
    rw [reDecide_alone hn alone, decided, if_neg (not_not.2 state), if_pos held]
  have apart : ∀ n < 4, (PROT_STAT_ROW n).key ≠ (PROT_STAT_PROV n).key := by decide
  have lines : ∀ f ∈ shownRow n, (provisional n (switchUpdate n s)).get f = ((switchUpdate n s).set (PROT_STAT_PROV n) 1).get f := fun f hf => by
    rw [provisional, (refreshLines_keys (by omega) _ _).get f (shownRow_apart hn hf).1, beq_iff_eq.2 state, State.when_true]
  rw [decision, lines _ (by simp [shownRow]), lines _ (by simp [shownRow]), State.get_set_one rfl, State.get_set_ne _ _ _ _ (apart n hn),
    switchUpdate_get hn (by simp [decisionInputs])]
  exact ⟨rfl, rfl⟩

/-- A decision that has its inputs, of a Stall without a row or past its dwell, takes the table's row (R284, R285). -/
theorem reDecide_takes (ready : waiting n s = false ∨ s.get (PROT_STAT_SHD n) = 2) (free : s.get (PROT_STAT_ROW n) = 0 ∨ dwellOver n s = true) :
    reDecide n s = ctcUpdate (rowTaken n (switchUpdate n s)) := by
  have state : (switchUpdate n s).get (PWM_STAT_STATE n) = 3 := (switchUpdate_get hn (by simp [decisionInputs]) s).trans safe
  have goesOn : ¬(waiting n (switchUpdate n s) && (switchUpdate n s).get (PROT_STAT_SHD n) != 2) = true := by
    rw [waiting_switchUpdate hn alone, switchUpdate_get hn (by simp [decisionInputs])]
    obtain inputs | command := ready
    · rw [inputs]; exact Bool.false_ne_true
    · rw [command, bne_self_eq_false, Bool.and_false]; exact Bool.false_ne_true
  rw [reDecide_alone hn alone, decided, if_neg (not_not.2 state), if_neg goesOn, if_neg]
  rintro ⟨row, -, -, dwells⟩
  rw [switchUpdate_get hn (by simp [decisionInputs])] at row
  rw [dwellOver_switchUpdate hn, Bool.not_eq_true'] at dwells
  exact free.elim row fun past => Bool.false_ne_true (dwells.symm.trans past)

end Safe
end Decision
end Sys2Proof.Machine
end

section
/-!
SUPPORT. The commands that have the decision table evaluated (R274, R281, R284, R285).
-/

namespace Sys2Proof.Machine
open Reg

/-! ### SAFE (R274) -/

/-- A `STALL_SAFE` code of a Stall's own is recorded, and takes that Stall into its safe state (R308). -/
theorem raiseStallSafe_eq (n : Nat) {blk cause : Nat} (hb : blk < 16) (hc : cause < 256) (s : State) :
    raiseStallFault n blk cause .stallSafe s = stallSafe n (stallCode n blk cause) (recordFault (stallCode n blk cause) .stallSafe s) := by
  have stall : stallCode n blk cause / 0x1000 - 1 = n := by unfold stallCode; omega
  have own : 0x1000 ≤ stallCode n blk cause := by unfold stallCode; omega
  rw [raiseStallFault, raiseFault, if_pos own, stall]

section Safe
variable {n : Fin 4} {f : Fld} {s : State}

/-- SAFE done, in each Stall of `l`. -/
def safeRaised (n : Nat) (l : List Nat) (s : State) : State :=
  (s.cmdSet (protCmd n) 1 stDone).each l fun p => raiseStallFault p 5 2 .stallSafe

theorem exec_safe (shut : bitAt (rewritten s) n = false) (idle : s.get (PROT_CMD_STATUS n) ≠ stBusy) :
    exec (.safe n) s = .next (safeRaised n (if s.get (PWM_CTRL_PAIR n) = 1 then pairList n s else [n.val]) s) := by
  have start : exec (.safe n) s = .next (s.cmdStart (protCmd n) 1 true stDone (fun t =>
      t.each (if s.get (PWM_CTRL_PAIR n) = 1 then pairList n s else [n.val]) fun p => raiseStallFault p 5 2 .stallSafe) id) :=
    stallWrite_open shut fun u => ok (u.cmdStart (protCmd n) 1 true stDone (fun t =>
      t.each (if s.get (PWM_CTRL_PAIR n) = 1 then pairList n s else [n.val]) fun p => raiseStallFault p 5 2 .stallSafe) id)
  rw [start, cmdStart_run (r := protCmd n) idle, safeRaised]

/-- SAFE of a Stall that leads no pair acts on it alone. -/
theorem exec_safe_one (shut : bitAt (rewritten s) n = false) (idle : s.get (PROT_CMD_STATUS n) ≠ stBusy) (single : s.get (PWM_CTRL_PAIR n) ≠ 1) :
    exec (.safe n) s = .next (raiseStallFault n 5 2 .stallSafe (s.cmdSet (protCmd n) 1 stDone)) := by
  rw [exec_safe shut idle, if_neg single, safeRaised, State.each, List.foldl_cons, List.foldl_nil]

/-- SAFE of a lead acts on its pair (R299). -/
theorem exec_safe_pair (shut : bitAt (rewritten s) n = false) (idle : s.get (PROT_CMD_STATUS n) ≠ stBusy) (lead : s.get (PWM_CTRL_PAIR n) = 1) :
    exec (.safe n) s =
      .next (raiseStallFault (n + 1 : Nat) 5 2 .stallSafe (raiseStallFault n 5 2 .stallSafe (s.cmdSet (protCmd n) 1 stDone))) := by
  have pair : pairList n s = [n.val, n.val + 1] := if_pos lead
  rw [exec_safe shut idle, if_pos lead, pair, safeRaised, State.each, List.foldl_cons, List.foldl_cons, List.foldl_nil]

/-- The Stall with the command shown done and its cause recorded, before it enters its safe state. -/
def safeRecorded (n : Nat) (s : State) : State := recordFault (stallCode n 5 2) .stallSafe (s.cmdSet (protCmd n) 1 stDone)

theorem safeRecorded_get (hn : n.val < 4) (hf : f ∈ PWM_CTRL_PAIR n :: entryRecord n) (s : State) : (safeRecorded n s).get f = s.get f := by
  have apart : ∀ n < 4, ∀ f ∈ PWM_CTRL_PAIR n :: entryRecord n, reported (f.key / 32) = false ∧ f.key ≠ (PROT_CMD_CODE n).key ∧
      f.key ≠ (PROT_CMD_STATUS n).key := by decide
  obtain ⟨silent, code, status⟩ := apart n hn f hf
  rw [safeRecorded, (recordFault_reports _ _ _).get f silent, cmdSet_get_ne (r := protCmd n) code status]

/-- The command reads done once the cause has acted. -/
theorem safe_status (n : Fin 4) (s : State) : (stallSafe n (stallCode n 5 2) (safeRecorded n s)).get (PROT_CMD_STATUS n) = stDone := by
  have apart : ∀ n < 4, entryKey (PROT_CMD_STATUS n).key = false := by decide +kernel
  have kept := apart n n.isLt
  rw [(stallSafe_keys n.isLt _ _).get _ kept, safeRecorded, (recordFault_reports _ _ _).get _ (reported_false_of_entryKey_false kept)]
  exact cmdSet_get_status (r := protCmd n) (by simp [protCmd, PROT_CMD_STATUS, stDone]) 1 s

theorem exec_safe_alone (shut : bitAt (rewritten s) n = false) (idle : s.get (PROT_CMD_STATUS n) ≠ stBusy) (alone : s.get (PWM_CTRL_PAIR n) = 0) :
    exec (.safe n) s = .next (stallSafe n (stallCode n 5 2) (safeRecorded n s)) := by
  rw [exec_safe_one shut idle (by rw [alone]; decide), raiseStallSafe_eq n (by decide) (by decide), safeRecorded]

/-- SAFE takes a switching Stall without a partner into its safe state, with its own code as the first cause. -/
theorem exec_safe_enters (shut : bitAt (rewritten s) n = false) (idle : s.get (PROT_CMD_STATUS n) ≠ stBusy) (alone : s.get (PWM_CTRL_PAIR n) = 0)
    (live : s.get (PWM_STAT_STATE n) = 1 ∨ s.get (PWM_STAT_STATE n) = 2) : ∃ t, exec (.safe n) s = .next t ∧
      t.get (PROT_CMD_STATUS n) = stDone ∧ t.get (PWM_STAT_STATE n) = 3 ∧ t.get (PROT_SAFE_CAUSE_CODE n) = stallCode n 5 2 := by
  have before : ∀ f ∈ PWM_CTRL_PAIR n :: entryRecord n, (safeRecorded n s).get f = s.get f := fun f hf => safeRecorded_get n.isLt hf s
  have code : stallCode n 5 2 < 2 ^ 16 := by unfold stallCode; omega
  obtain ⟨state, cause, -⟩ := entryRecorded_reads n.isLt code (safeRecorded n s)
  have record : ∀ f ∈ entryRecord n, (stallSafe n (stallCode n 5 2) (safeRecorded n s)).get f =
      (entryRecorded n (stallCode n 5 2) (safeRecorded n s)).get f := fun f hf =>
    stallSafe_record n.isLt ((before _ (by simp)).trans alone) (by rwa [before _ (by simp [entryRecord])]) hf _
  exact ⟨_, exec_safe_alone shut idle alone, safe_status n s, (record _ (by simp [entryRecord])).trans state,
    (record _ (by simp [entryRecord])).trans cause⟩

/-- SAFE leaves a Stall that does not switch as it is. -/
theorem exec_safe_rests (shut : bitAt (rewritten s) n = false) (idle : s.get (PROT_CMD_STATUS n) ≠ stBusy) (alone : s.get (PWM_CTRL_PAIR n) = 0)
    (off : s.get (PWM_STAT_STATE n) = 0 ∨ s.get (PWM_STAT_STATE n) = 4) : ∃ t, exec (.safe n) s = .next t ∧
      t.get (PROT_CMD_STATUS n) = stDone ∧ t.get (PWM_STAT_STATE n) = s.get (PWM_STAT_STATE n) ∧
      t.get (PROT_SAFE_CAUSE_CODE n) = s.get (PROT_SAFE_CAUSE_CODE n) := by
  have before : ∀ f ∈ PWM_CTRL_PAIR n :: entryRecord n, (safeRecorded n s).get f = s.get f := fun f hf => safeRecorded_get n.isLt hf s
  have record : ∀ f ∈ entryRecord n, (stallSafe n (stallCode n 5 2) (safeRecorded n s)).get f = s.get f := fun f hf =>
    (stallSafe_off_record n.isLt ((before _ (by simp)).trans alone) (by rwa [before _ (by simp [entryRecord])]) hf _).trans
      (before f (List.mem_cons_of_mem _ hf))
  exact ⟨_, exec_safe_alone shut idle alone, safe_status n s, record _ (by simp [entryRecord]), record _ (by simp [entryRecord])⟩

end Safe

/-! ### The end of a decision wait (R284) -/

section Wait
variable {n : Fin 4} {h : Fin 3} {s : State}

/-- The wait of a link has run out: its switches are unknown. -/
def waitEnded (n h : Nat) (s : State) : State := (s.set (protWait n h) 0).set (protUnk n h) 1

theorem exec_decisionWaitEnd (n : Fin 4) (h : Fin 3) (s : State) : exec (.decisionWaitEnd n h) s =
    .next (s.when (s.flag (protWait n h) && decide (s.get (protWaitEnd n h) ≤ s.now)) fun s => reDecide n (waitEnded n h s)) := rfl

theorem exec_decisionWaitEnd_due (waits : s.get (protWait n h) ≠ 0) (due : s.get (protWaitEnd n h) ≤ s.now) :
    exec (.decisionWaitEnd n h) s = .next (reDecide n (waitEnded n h s)) := by
  rw [exec_decisionWaitEnd, (flag_eq_true_iff _ _).2 waits, decide_eq_true due]; rfl

theorem exec_decisionWaitEnd_none (none : s.get (protWait n h) = 0 ∨ s.now < s.get (protWaitEnd n h)) :
    exec (.decisionWaitEnd n h) s = .next s := by
  rw [exec_decisionWaitEnd]
  obtain ends | early := none
  · rw [(flag_eq_false_iff _ _).2 ends]; rfl
  · rw [decide_eq_false (Nat.not_le.2 early), Bool.and_false]; rfl

/-- The decision leaves what is noted of the wait. -/
theorem waitEnded_reads (n : Fin 4) (h : Fin 3) (s : State) : (reDecide n (waitEnded n h s)).get (protWait n h) = 0 ∧
    (reDecide n (waitEnded n h s)).get (protUnk n h) = 1 := by
  have apart : ∀ n < 4, ∀ h < 3, rowKey (protWait n h).key = false ∧ rowKey (protUnk n h).key = false ∧
      (protWait n h).key ≠ (protUnk n h).key := by decide +kernel
  obtain ⟨wait, unknown, other⟩ := apart n n.isLt h h.isLt
  rw [(reDecide_keys n.isLt _).get _ wait, (reDecide_keys n.isLt _).get _ unknown, waitEnded, State.get_set_ne _ _ _ _ other]
  exact ⟨State.get_set_zero _ _, State.get_set_one rfl _⟩

end Wait

/-! ### The dwell and the override (R281, R285) -/

section Override
variable {n : Fin 4} {v : BitVec 12} {s : State}

theorem exec_dwellExpiry (n : Fin 4) (s : State) : exec (.dwellExpiry n) s = .next (s.when (dwellOver n s) (reDecide n)) := rfl

theorem exec_swOvrWrite (shut : bitAt (rewritten s) n = false) (v : BitVec 12) : exec (.swOvrWrite n v) s = .next (swOvrWrite n v.toNat s) :=
  stallWrite_open shut fun s => ok (swOvrWrite n v.toNat s)

/-- A field of 3 discards the write. -/
theorem swOvrWrite_bad (bad : ∃ w < 6, bits v.toNat (2 * w) 2 = 3) : swOvrWrite n v.toNat s = busErr s := by
  obtain ⟨w, hw, three⟩ := bad
  have discarded : ((List.range 6).any fun w => bits v.toNat (2 * w) 2 == 3) = true :=
    List.any_eq_true.2 ⟨w, List.mem_range.2 hw, beq_iff_eq.2 three⟩
  exact if_pos discarded

theorem swOvrWrite_good (good : ∀ w < 6, bits v.toNat (2 * w) 2 ≠ 3) :
    swOvrWrite n v.toNat s = busOk (reDecide n (s.set (PROT_SW_OVR_OVR n) v.toNat)) := by
  refine if_neg fun bad => ?_
  obtain ⟨w, hw, three⟩ := List.any_eq_true.1 bad
  exact good w (List.mem_range.1 hw) (beq_iff_eq.1 three)

/-- The override written outlasts the decision that follows. -/
theorem swOvr_kept (n : Fin 4) (v : BitVec 12) (s : State) :
    (busOk (reDecide n (s.set (PROT_SW_OVR_OVR n) v.toNat))).get (PROT_SW_OVR_OVR n) = v.toNat := by
  have apart : ∀ n < 4, rowKey (PROT_SW_OVR_OVR n).key = false := by decide +kernel
  rw [State.get_busOk, (reDecide_keys n.isLt _).get _ (apart n n.isLt), State.get_set_of_lt (by exact v.isLt)]

end Override
end Sys2Proof.Machine
end

section
/-!
The decision table and the decisions: O38.
-/

namespace Sys2Proof.Machine
open Reg

/-- Settles O38: the table by its rows, each command by what it has evaluated, and an evaluation by the Stall's state, its waits and its dwell. -/
theorem decisionRowsAndDwell : Obligations.DecisionRowsAndDwell := by
  refine ⟨decideRow_bounds, fun n high s alone => ⟨?commanded, ?available, ?shorts⟩, fun row pref lo hi => row_columns pref lo hi,
    fun n s shut idle => ⟨exec_safe_one shut idle, exec_safe_pair shut idle, exec_safe_enters shut idle, exec_safe_rests shut idle⟩,
    fun n h s => ⟨fun waits due => ?ends, exec_decisionWaitEnd_none⟩, fun n s => ⟨fun past => ?dwell, fun early => ?early⟩,
    fun n s hn alone => ?evaluated, fun n v s shut => ⟨fun bad => ?bad, fun good => ?good⟩, fun n v s shut => ⟨if_pos shut, if_pos shut⟩⟩
  case commanded => exact fun command => decideRow_commanded alone command high
  case available =>
    refine fun free available => ⟨fun low => ?_, fun fast => ?_⟩
    · rw [decideRow_available alone free available, low]; rfl
    · rw [decideRow_available alone free available, fast]; rfl
  case shorts =>
    rintro free ⟨a, ha, above⟩ ⟨b, hb, below⟩
    exact decideRow_bothShort alone free (sideShort_of_switch ha above) (sideShort_of_switch hb below) high
  case ends => exact ⟨_, exec_decisionWaitEnd_due waits due, rfl, waitEnded_reads n h s⟩
  case dwell => rw [exec_dwellExpiry, dwellOver, decide_eq_true past, State.when_true]
  case early => rw [exec_dwellExpiry, dwellOver, decide_eq_false (Nat.not_le.2 early), State.when_false]
  case evaluated =>
    refine ⟨reDecide_switching hn alone, reDecide_waits hn alone, fun safe ready free => ?_⟩
    have kept : ∀ f ∈ decisionInputs n, (switchUpdate n s).get f = s.get f := fun f hf => switchUpdate_get hn hf s
    simp only [decisionInputs, List.forall_mem_cons] at kept
    obtain ⟨state, pair, -, band, -, -, pref, -⟩ := kept
    have reads := rowTaken_reads hn (pair.trans alone) (state.trans safe)
    rw [pref, State.flag_congr band] at reads
    rw [reDecide_takes hn alone safe ready free]
    exact reads
  case bad => rw [exec_swOvrWrite shut, swOvrWrite_bad bad]
  case good => exact ⟨_, exec_swOvrWrite shut v, swOvrWrite_good good, by rw [swOvrWrite_good good, swOvr_kept]⟩

end Sys2Proof.Machine
end

section
/-!
The discharge and the derating: O40.
-/

namespace Sys2Proof.Machine
open Reg

/-- A request bit that stands is cleared, whether the request is accepted or refused (R290, `SAFETY_CTRL.DIS_REQ`). -/
theorem exec_disReq_clears (s : State) : ∃ t, exec .disReq s = .next t ∧ t.get SAFETY_CTRL_DIS_REQ = 0 :=
  ⟨_, rfl, State.get_set_zero _ _⟩

theorem safetyDischarge_runs {s : State} (runs : disRuns s = true) : safetyDischarge s = s := if_pos runs

/-- Stall 0 discharges the link through the resistor, and the Sheepdog has just written 1 to `SAFETY_CTRL.DIS_REQ`. -/
def requestWhileRunning : State := (State.reset.set (PROT_DIS_STAT_PATH 0) 1).set SAFETY_CTRL_DIS_REQ 1

theorem requestWhileRunning_runs : disRuns requestWhileRunning = true := by
  decide +kernel

theorem requestWhileRunning_asks : requestWhileRunning.get SAFETY_CTRL_DIS_REQ = 1 := State.get_set_one rfl _

/-- Refutes O40: the clause on `DIS_REQ` has the command answer the discharge request's own effect and nothing more, and the request bit clears too.
In `requestWhileRunning` the discharge that runs refuses the request: the clause leaves the bit at 1. -/
theorem not_dischargeAndDeratingBounded : ¬ Obligations.DischargeAndDeratingBounded := by
  rintro ⟨-, -, -, request, -⟩
  obtain ⟨answer, -⟩ := request requestWhileRunning
  obtain ⟨t, next, cleared⟩ := exec_disReq_clears requestWhileRunning
  rw [answer, safetyDischarge_runs requestWhileRunning_runs] at next
  rw [← Host.Outcome.next.inj next, State.get_busOk, requestWhileRunning_asks] at cleared
  exact Nat.one_ne_zero cleared

end Sys2Proof.Machine
end

section
/-!
SUPPORT. Contactors (R331 to R333): what commanding one writes, and when each command holds.
-/

namespace Sys2Proof.Machine
open Reg

section Contactor
variable {j k : Nat} {forced : Bool} {f : Fld} {s : State}

/-! ### Bits of a field of four contactors -/

/-- A bit of a field of four contactors, after another contactor's bit or the same was written. -/
theorem bitAt_get_setBit_four (hf : f.width = 4) (hj : j < 4) (b : Bool) (s : State) :
    bitAt ((s.setBit f k b).get f) j = if j = k then b else bitAt (s.get f) j := by
  rw [State.setBit, State.get_set_same, hf, bitAt_eq_testBit, Nat.testBit_mod_two_pow, decide_eq_true hj, Bool.true_and, ← bitAt_eq_testBit]
  split
  · subst j; exact bitAt_putBit _ _ _
  · exact bitAt_putBit_ne ‹_› _ _

/-! ### The command of a contactor (R331) -/

/-- Whether contactor `k` is to be commanded closed: `CLOSE` asks for it, nothing forces it open, and the scan does not drive the pins. -/
def ctcWant (k : Nat) (s : State) : Bool := bitAt (s.get CTC_CTRL_CLOSE) k && !bitAt (s.get CTC_STAT_FORCED) k && !s.flag extestOn

/-- What the commands follow. -/
def ctcWantFields : List Fld := [CTC_CTRL_CLOSE, CTC_STAT_FORCED, extestOn]

/-- Contactor `k` takes the command it is to have; a change is counted and dated. -/
def ctcFollow (forced : Bool) (k : Nat) (s : State) : State :=
  if bitAt (s.get CTC_STAT_OUT) k = ctcWant k s then s
  else
    let s := ((s.setBit CTC_STAT_OUT k (ctcWant k s)).inc (CTC_COUNT_k_OPS k)).inc (LEDGER_LIVE_w_W (62 + k))
    (((s.set (ctcCmdAt k) s.now).setB (ctcByForce k) forced).set (ctcWas k) 0).set (ctcBad k) 0

theorem ctcApply_eq (forced : Bool) (s : State) : ctcApply forced s = s.each [0, 1, 2, 3] (ctcFollow forced) := rfl

/-- The fields that commanding contactor `k` writes. -/
def ctcFollowFields (k : Nat) : List Fld :=
  [CTC_STAT_OUT, CTC_COUNT_k_OPS k, LEDGER_LIVE_w_W (62 + k), ctcCmdAt k, ctcByForce k, ctcWas k, ctcBad k]

theorem ctcFollow_get (apart : ∀ g ∈ ctcFollowFields k, f.key ≠ g.key) (forced : Bool) (s : State) : (ctcFollow forced k s).get f = s.get f := by
  simp only [ctcFollowFields, List.forall_mem_cons] at apart
  obtain ⟨out, ops, live, at_, byForce, was, bad, -⟩ := apart
  unfold ctcFollow
  split
  · rfl
  · rw [State.get_set_ne _ _ _ _ bad, State.get_set_ne _ _ _ _ was, State.get_setB_ne byForce, State.get_set_ne _ _ _ _ at_,
      State.get_inc_ne live, State.get_inc_ne ops, State.setBit, State.get_set_ne _ _ _ _ out]

theorem ctcFollow_mem (forced : Bool) (k : Nat) (s : State) : (ctcFollow forced k s).mem = s.mem := by
  unfold ctcFollow
  split
  · rfl
  · simp only [State.inc, State.addSat, State.setB, State.setBit, State.set_mem]

theorem ctcFollow_want (hk : k < 4) (forced : Bool) (j : Nat) (s : State) : ctcWant j (ctcFollow forced k s) = ctcWant j s := by
  have apart : ∀ k < 4, ∀ f ∈ ctcWantFields, ∀ g ∈ ctcFollowFields k, f.key ≠ g.key := by decide
  have kept : ∀ f ∈ ctcWantFields, (ctcFollow forced k s).get f = s.get f := fun f hf => ctcFollow_get (apart k hk f hf) forced s
  simp only [ctcWantFields, List.forall_mem_cons] at kept
  obtain ⟨close, force, scan, -⟩ := kept
  rw [ctcWant, close, force, State.flag_congr scan, ctcWant]

theorem ctcFollow_out (hk : k < 4) (hj : j < 4) (forced : Bool) (s : State) :
    bitAt ((ctcFollow forced k s).get CTC_STAT_OUT) j = if j = k then ctcWant k s else bitAt (s.get CTC_STAT_OUT) j := by
  have apart : ∀ k < 4, ∀ f ∈ (ctcFollowFields k).tail, CTC_STAT_OUT.key ≠ f.key := by decide
  have others := apart k hk
  simp only [ctcFollowFields, List.tail_cons, List.forall_mem_cons] at others
  obtain ⟨ops, live, at_, byForce, was, bad, -⟩ := others
  unfold ctcFollow
  split
  case isTrue same => split <;> simp_all
  case isFalse =>
    rw [State.get_set_ne _ _ _ _ bad, State.get_set_ne _ _ _ _ was, State.get_setB_ne byForce, State.get_set_ne _ _ _ _ at_,
      State.get_inc_ne live, State.get_inc_ne ops]
    exact bitAt_get_setBit_four rfl hj _ s

/-- Commanding the contactors leaves what they follow, and every other field. -/
theorem ctcApply_get (apart : ∀ k < 4, ∀ g ∈ ctcFollowFields k, f.key ≠ g.key) (forced : Bool) (s : State) :
    (ctcApply forced s).get f = s.get f := by
  simp only [ctcApply_eq, State.each, List.foldl_cons, List.foldl_nil, ctcFollow_get (apart 0 (by decide)), ctcFollow_get (apart 1 (by decide)),
    ctcFollow_get (apart 2 (by decide)), ctcFollow_get (apart 3 (by decide))]

theorem ctcApply_mem (forced : Bool) (s : State) : (ctcApply forced s).mem = s.mem := by
  simp only [ctcApply_eq, State.each, List.foldl_cons, List.foldl_nil, ctcFollow_mem]

/-- Each contactor is commanded as it is to be. -/
theorem ctcApply_out (hj : j < 4) (forced : Bool) (s : State) : bitAt ((ctcApply forced s).get CTC_STAT_OUT) j = ctcWant j s := by
  simp only [ctcApply_eq, State.each, List.foldl_cons, List.foldl_nil]
  interval_cases j <;> simp (disch := decide) [ctcFollow_out, ctcFollow_want]

/-! ### CTC_CLOSE_WRITE (R331, R332) -/

/-- With every request ended (`free`), a 0 of `v` readies forced contactor `k`, and a 1 after it releases it. -/
def ctcReclose (v : Nat) (free : Bool) (k : Nat) (s : State) : State :=
  if bitAt (s.get CTC_STAT_FORCED) k ∧ free then
    (if !bitAt v k then s.set (ctcZero k) 1
     else s.when (s.flag (ctcZero k)) (fun s => (s.setBit CTC_STAT_FORCED k false).set (ctcZero k) 0))
  else s

/-- `CLOSE` written as `v`, before the commands follow it. -/
def ctcClosing (v : Nat) (s : State) : State := (s.set CTC_CTRL_CLOSE v).each [0, 1, 2, 3] (ctcReclose v (!ctcRequested s))

theorem exec_ctcCloseWrite (v : BitVec 4) (s : State) : exec (.ctcCloseWrite v) s = .next (busOk (ctcApply false (ctcClosing v.toNat s))) := rfl

theorem ctcReclose_get {v : Nat} {free : Bool} (force : f.key ≠ CTC_STAT_FORCED.key) (zero : f.key ≠ (ctcZero k).key) (s : State) :
    (ctcReclose v free k s).get f = s.get f := by
  unfold ctcReclose
  split
  · split
    · exact State.get_set_ne _ _ _ _ zero
    · exact State.get_when ((State.get_set_ne _ _ _ _ zero).trans (State.get_set_ne _ _ _ _ force)) _
  · rfl

theorem ctcReclose_mem {v : Nat} {free : Bool} (k : Nat) (s : State) : (ctcReclose v free k s).mem = s.mem := by
  unfold ctcReclose
  split
  · split
    · rfl
    · exact State.when_mem rfl _
  · rfl

/-- While a request stands, no contactor is released. -/
theorem ctcReclose_requested (v k : Nat) (s : State) : ctcReclose v false k s = s := if_neg fun h => Bool.false_ne_true h.2

theorem ctcClosing_get {v : Nat} (apart : ∀ g ∈ [CTC_CTRL_CLOSE, CTC_STAT_FORCED, ctcZero 0, ctcZero 1, ctcZero 2, ctcZero 3], f.key ≠ g.key)
    (s : State) : (ctcClosing v s).get f = s.get f := by
  simp only [List.forall_mem_cons] at apart
  obtain ⟨close, force, zero0, zero1, zero2, zero3, -⟩ := apart
  simp only [ctcClosing, State.each, List.foldl_cons, List.foldl_nil, ctcReclose_get force zero0, ctcReclose_get force zero1,
    ctcReclose_get force zero2, ctcReclose_get force zero3, State.get_set_ne _ _ _ _ close]

theorem ctcClosing_close (v : BitVec 4) (s : State) : (ctcClosing v.toNat s).get CTC_CTRL_CLOSE = v.toNat := by
  simp (disch := decide) only [ctcClosing, State.each, List.foldl_cons, List.foldl_nil, ctcReclose_get]
  exact State.get_set_of_lt v.isLt s

theorem ctcClosing_mem (v : Nat) (s : State) : (ctcClosing v s).mem = s.mem := by
  simp only [ctcClosing, State.each, List.foldl_cons, List.foldl_nil, ctcReclose_mem, State.set_mem]

theorem ctcClosing_requested (h : ctcRequested s = true) (v : Nat) : (ctcClosing v s).get CTC_STAT_FORCED = s.get CTC_STAT_FORCED := by
  simp only [ctcClosing, h, Bool.not_true, State.each, List.foldl_cons, List.foldl_nil, ctcReclose_requested]
  exact State.get_set_ne _ _ _ _ (by decide)

/-- The fields that the commands of the contactors leave. -/
theorem ctcApply_want_get (hf : f ∈ ctcWantFields) (forced : Bool) (s : State) : (ctcApply forced s).get f = s.get f :=
  ctcApply_get (fun k hk => (by decide : ∀ k < 4, ∀ f ∈ ctcWantFields, ∀ g ∈ ctcFollowFields k, f.key ≠ g.key) k hk f hf) forced s

/-! ### CTC_FORCE_OPEN (R332) -/

/-- Whether a request has lasted `OPEN_DLY` ms. -/
def openDue (s : State) : Bool := [0, 1, 2, 3, 4].any fun i => passedSince (ctcReqAt i) (openDly s * 200000) s

/-- The contactors of `OPEN_MASK` forced open. -/
def ctcForced (s : State) : State := ctcApply true (s.set CTC_STAT_FORCED (s.get CTC_STAT_FORCED ||| openMask s))

theorem exec_ctcForceOpen (s : State) : exec .ctcForceOpen s = .next (s.when (openDue s) ctcForced) := rfl

theorem openDue_iff : openDue s = true ↔ ∃ i < 5, s.get (ctcReqAt i) ≠ 0 ∧ s.get (ctcReqAt i) - 1 + openDly s * 200000 ≤ s.now := by
  have five : ∀ i, i ∈ [0, 1, 2, 3, 4] ↔ i < 5 := fun i => by simp; omega
  simp only [openDue, List.any_eq_true, passedSince, five, Bool.and_eq_true, bne_iff_ne, decide_eq_true_eq]

theorem exec_ctcForceOpen_due (h : openDue s = true) : exec .ctcForceOpen s = .next (ctcForced s) := by
  rw [exec_ctcForceOpen, h, State.when_true]

theorem exec_ctcForceOpen_early (h : openDue s = false) : exec .ctcForceOpen s = .next s := by
  rw [exec_ctcForceOpen, h, State.when_false]

theorem ctcForced_mem (s : State) : (ctcForced s).mem = s.mem := ctcApply_mem _ _

/-- A contactor of `OPEN_MASK` reads forced, and is commanded open. -/
theorem ctcForced_open (hk : k < 4) (masked : bitAt (openMask s) k = true) :
    bitAt ((ctcForced s).get CTC_STAT_OUT) k = false ∧ bitAt ((ctcForced s).get CTC_STAT_FORCED) k = true := by
  have force : bitAt ((s.set CTC_STAT_FORCED (s.get CTC_STAT_FORCED ||| openMask s)).get CTC_STAT_FORCED) k = true := by
    rw [bitAt_eq_testBit] at masked ⊢
    rw [State.get_set_same, Nat.testBit_mod_two_pow, Nat.testBit_or, masked, Bool.or_true, Bool.and_true]
    exact decide_eq_true hk
  rw [ctcForced, ctcApply_out hk, ctcWant, ctcApply_want_get (by simp [ctcWantFields]), force, Bool.not_true, Bool.and_false, Bool.false_and]
  exact ⟨rfl, rfl⟩

/-! ### The feedback (R333) -/

/-- The feedback agrees with the command. -/
theorem ctcJudge_agrees (hk : k < 4) (same : bitAt (s.get CTC_STAT_OUT) k = bitAt (s.get CTC_STAT_MAIN) k) :
    (ctcJudge k s).get (ctcBad k) = 0 ∧ (ctcJudge k s).get CTC_FAULT_WELD = s.get CTC_FAULT_WELD := by
  have apart : ∀ k < 4, CTC_FAULT_WELD.key ≠ (ctcBad k).key ∧ CTC_FAULT_WELD.key ≠ (ctcWas k).key := by decide
  obtain ⟨bad, was⟩ := apart k hk
  rw [ctcJudge, if_pos same]
  exact ⟨State.get_set_zero _ _, (State.get_set_ne _ _ _ _ bad).trans (State.get_when_set_ne was _ _ _)⟩

/-- A disagreement already reported, or within the time for feedback, changes nothing. -/
theorem ctcJudge_waits (differs : bitAt (s.get CTC_STAT_OUT) k ≠ bitAt (s.get CTC_STAT_MAIN) k)
    (h : s.get (ctcBad k) ≠ 0 ∨ s.now < s.get (ctcCmdAt k) + ctcTfb s * 200000) : ctcJudge k s = s := by
  have closed : (bitAt (s.get CTC_STAT_OUT) k && bitAt (s.get CTC_STAT_MAIN) k) = false := by
    cases e : bitAt (s.get CTC_STAT_OUT) k <;> simp_all
  rw [ctcJudge, closed, State.when_false, if_neg differs, if_pos (h.imp_left (flag_eq_true_iff _ _).2)]

/-- The local cause of a disagreement: 0 welded, 1 not closed, 2 opened by itself. -/
def ctcCause (k : Nat) (s : State) : Nat := if !bitAt (s.get CTC_STAT_OUT) k then 0 else if s.flag (ctcWas k) then 2 else 1

/-- The register bit of a local cause. -/
def ctcCauseField (c : Nat) : Fld := if c = 0 then CTC_FAULT_WELD else if c = 1 then CTC_FAULT_NOCLOSE else CTC_FAULT_OPENED

/-- A disagreement past its time is reported with its cause. -/
theorem ctcJudge_reports (differs : bitAt (s.get CTC_STAT_OUT) k ≠ bitAt (s.get CTC_STAT_MAIN) k) (fresh : s.get (ctcBad k) = 0)
    (late : s.get (ctcCmdAt k) + ctcTfb s * 200000 ≤ s.now) : ctcJudge k s =
      raiseFault (yardCode 6 (0x80 + 8 * k + ctcCause k s)) (if ctcCause k s = 0 && s.flag (ctcByForce k) then .deviceSafe else .ride)
        (raiseEvent 0x037 ((s.setBit (ctcCauseField (ctcCause k s)) k true).set (ctcBad k) 1)) := by
  have closed : (bitAt (s.get CTC_STAT_OUT) k && bitAt (s.get CTC_STAT_MAIN) k) = false := by
    cases e : bitAt (s.get CTC_STAT_OUT) k <;> simp_all
  have goesOn : ¬(s.flag (ctcBad k) = true ∨ s.now < s.get (ctcCmdAt k) + ctcTfb s * 200000) :=
    not_or.2 ⟨by rw [(flag_eq_false_iff _ _).2 fresh]; exact Bool.false_ne_true, Nat.not_lt.2 late⟩
  have shown : ∀ c, (if c = 0 then s.setBit CTC_FAULT_WELD k true else if c = 1 then s.setBit CTC_FAULT_NOCLOSE k true
      else s.setBit CTC_FAULT_OPENED k true) = s.setBit (ctcCauseField c) k true := fun c => by
    unfold ctcCauseField; split
    · rfl
    · split <;> rfl
  rw [ctcJudge, closed, State.when_false, if_neg differs, if_neg goesOn]
  dsimp only
  rw [shown, ← ctcCause]

end Contactor
end Sys2Proof.Machine
end

section
/-!
Contactors: O44.
-/

namespace Sys2Proof.Machine
open Reg

/-- Settles O44: the commands by what they follow, forced opening by its delay, and the feedback by what it disagrees with. -/
theorem contactorsOpenWhenForced : Obligations.ContactorsOpenWhenForced := by
  have code : ∀ k c, yardCode 6 (0x80 + 8 * k + c) = 0x680 + c + 8 * k := fun k c => by unfold yardCode; omega
  refine ⟨fun v s => ?close, fun s early => ?early, fun i s hi asked due => ?forces, fun fb s => rfl, fun k s hk same => ctcJudge_agrees hk same,
    fun k s hk opened stays fresh late => ?welded, fun k s hk closed stays fresh late => ⟨fun never => ?notClosed, fun was => ?openedItself⟩,
    fun k s hk differs => ctcJudge_waits differs⟩
  case close =>
    have kept : ∀ f ∈ ctcWantFields, (ctcApply false (ctcClosing v.toNat s)).get f = (ctcClosing v.toNat s).get f := fun f hf =>
      ctcApply_want_get hf false _
    simp only [ctcWantFields, List.forall_mem_cons] at kept
    obtain ⟨close, force, -⟩ := kept
    refine ⟨_, exec_ctcCloseWrite v s, close.trans (ctcClosing_close v s), rfl, (ctcApply_mem _ _).trans (ctcClosing_mem _ _), fun k hk => ?_,
      fun asked => force.trans (ctcClosing_requested asked _)⟩
    have scan : (ctcClosing v.toNat s).flag extestOn = s.flag extestOn := State.flag_congr (ctcClosing_get (by decide) s)
    rw [State.get_busOk, State.get_busOk, force, ctcApply_out hk, ctcWant, ctcClosing_close, scan]
  case early =>
    refine exec_ctcForceOpen_early (Bool.eq_false_iff.2 fun due => ?_)
    obtain ⟨i, hi, asked, past⟩ := openDue_iff.1 due
    exact (early i hi).elim asked (Nat.not_lt.2 past)
  case forces => exact ⟨_, exec_ctcForceOpen_due (openDue_iff.2 ⟨i, hi, asked, due⟩), fun k hk => ctcForced_open hk, ctcForced_mem s⟩
  case welded =>
    have cause : ctcCause k s = 0 := by simp [ctcCause, opened]
    rw [ctcJudge_reports (by rw [opened, stays]; exact Bool.false_ne_true) fresh late, cause, code]
    exact congrArg (fun c => raiseFault (0x0680 + 8 * k) c _) (ite_congr (by simp [State.flag]) (fun _ => rfl) fun _ => rfl)
  case notClosed =>
    have cause : ctcCause k s = 1 := by simp [ctcCause, closed, State.flag, never]
    rw [ctcJudge_reports (by rw [closed, stays]; exact Bool.noConfusion) fresh late, cause, code]
    rfl
  case openedItself =>
    have cause : ctcCause k s = 2 := by simp [ctcCause, closed, State.flag, was]
    rw [ctcJudge_reports (by rw [closed, stays]; exact Bool.noConfusion) fresh late, cause, code]
    rfl

end Sys2Proof.Machine
end

section
/-!
SUPPORT. What the output stage of a Stall leaves (R228 to R232, R275): the SAFETY block's own fields, and the lines of the other Stalls.
-/

namespace Sys2Proof.Machine
open Reg

/-! ### The output stage under a set of keys -/

/-- `w` names every key that the output stage of Stall `n` writes. -/
structure StageKeys (w : Nat → Bool) (n : Nat) : Prop where
  reported : ∀ k, Machine.reported (k / 32) = true → w k = true
  early : ∀ m < 5, w (PWM_GP_STAT_PREV m).key = true
  link : ∀ l < 15, ∀ id < 64, ∀ i < 0x40000, ∀ x r, w (ix (l / 3) (linkBlk l) id i x r).key = true
  own : ∀ id < 64, ∀ i < 64, ∀ x r, w (ix n 0 id i x r).key = true
  line : w (PWM_LINES_LINE n).key = true
  count : w (PWM_SHOOT_STAT_COUNT n).key = true

namespace StageKeys

section Stage
variable {w : Nat → Bool} {a s : State} {n i : Nat} (K : StageKeys w n) (hn : n < 5)
include K

theorem edge (h : WritesKeys w a s) {l kind : Nat} (hl : l < 15) (hk : kind < 4) (t : Nat) : WritesKeys w a (reinEdge l kind t s) := by
  have at_ : ∀ j < 4, w (reinEAt l (4 * kind + j)).key = true := fun j hj => K.link l hl _ (by decide) _ (by omega) _ _
  have info : ∀ j < 4, w (reinEInfo l (4 * kind + j)).key = true := fun j hj => K.link l hl _ (by decide) _ (by omega) _ _
  have stamp : w (reinVonStamp l (kind / 2)).key = true := K.link l hl _ (by decide) _ (by omega) _ _
  have sample : w (reinVsEnd l (kind / 2)).key = true := K.link l hl _ (by decide) _ (by omega) _ _
  unfold reinEdge
  refine WritesKeys.when (((WritesKeys.each (h.when fun h => h.set (K.early _ (by omega)) _) fun j hj t ht => ?_).set (at_ 0 (by decide)) _).set
    (info 0 (by decide)) _) fun h => (h.set stamp _).set sample _
  have small : j < 4 := by simp at hj; omega
  exact (ht.set (at_ j small) _).set (info j small) _

theorem call (h : WritesKeys w a s) (hi : i < 6) (t : Nat) : WritesKeys w a (callOn n i t s) :=
  h.when fun h => h.set (K.own _ (by decide) _ (by omega) _ _) _

theorem suppressed (h : WritesKeys w a s) (i : Nat) : WritesKeys w a (suppress n i s) :=
  (((h.set (K.own _ (by decide) _ (by decide) _ _) _).set K.count _).reports K.reported (raiseStall_reports n 3 _)).reports K.reported
    (recordFault_reports _ _ _)

include hn

theorem level (h : WritesKeys w a s) (hi : i < 6) (t : Nat) (on : Bool) : WritesKeys w a (setLine n i t on s) := by
  have moved := K.edge (h.set K.line (putBit (s.get (PWM_LINES_LINE n)) i on)) (l := 3 * n + i / 2) (kind := 2 * (i % 2) + (!on).toNat)
    (by omega) (by have := Bool.toNat_lt (!on); omega) t
  unfold setLine
  exact WritesKeys.cond h (WritesKeys.cond (moved.set (K.own _ (by decide) _ (by omega) _ _) _) (moved.set (K.own _ (by decide) _ (by omega) _ _) _))

theorem on (h : WritesKeys w a s) (hi : i < 6) (p t : Nat) : WritesKeys w a (turnOn n i p t s) := h.when fun h => K.level hn h hi _ _

theorem off (h : WritesKeys w a s) (hi : i < 6) (t : Nat) : WritesKeys w a (turnOff n i t s) :=
  ((K.level hn h hi t false).set (K.own _ (by decide) _ (by decide) _ _) _).set (K.own _ (by decide) _ (by omega) _ _) 0

theorem interlock (h : WritesKeys w a s) {b c : Nat} (hb : b < 6) (hc : c < 6) (t : Nat) : WritesKeys w a (shoot n b c t s) := by
  unfold shoot
  refine WritesKeys.cond ?both (WritesKeys.cond ?later ?earlier)
  case both => exact K.suppressed (K.suppressed (K.level hn (K.level hn h hb t false) hc t false) b) c
  case later => exact K.on hn (K.suppressed h b) hc b t
  case earlier => exact K.on hn (K.suppressed h c) hb c t

theorem half (h : WritesKeys w a s) {k : Nat} (hk : k < 3) (t want : Nat) : WritesKeys w a (stageHalf n t want k s) := by
  have called := h.each (l := [2 * k, 2 * k + 1]) (F := fun i s => if bitAt want i then callOn n i t s else turnOff n i t s) fun i hi u hu => by
    have line : i < 6 := by simp at hi; omega
    exact WritesKeys.cond (K.call hu line t) (K.off hn hu line t)
  unfold stageHalf
  refine WritesKeys.cond ?both (WritesKeys.cond ?high (WritesKeys.cond ?low called))
  case both => exact K.interlock hn called (by omega) (by omega) t
  case high => exact K.on hn called (by omega) _ t
  case low => exact K.on hn called (by omega) _ t

/-- The output stage writes what `w` names. -/
theorem stage (t : Nat) (s : State) : WritesKeys w s (refreshLines n t s) :=
  (WritesKeys.refl _ s).each fun k hk _ hu => K.half hn hu (by simp at hk; omega) t _

end Stage
end StageKeys

/-! ### The SAFETY block's own fields -/

/-- Keys beside the SAFETY block's own fields. -/
def besideSafety (k : Nat) : Bool := k / 2 ^ 35 != 1286

theorem besideSafety_reported (k : Nat) (h : reported (k / 32) = true) : besideSafety k = true := by
  simp only [reported, Bool.or_eq_true, Bool.and_eq_true, decide_eq_true_eq, beq_iff_eq] at h
  simp only [besideSafety, bne_iff_ne]
  omega

theorem stageKeys_safety {n : Nat} (hn : n < 5) : StageKeys besideSafety n where
  reported := besideSafety_reported
  early := by decide
  link l hl id hid i hi x r := by
    have place : (l / 3 < 4 ∧ linkBlk l = 6) ∨ linkBlk l = 56 := by unfold linkBlk; split <;> omega
    simp only [besideSafety, bne_iff_ne, Fld.key, ix]
    omega
  own id hid i hi x r := by simp only [besideSafety, bne_iff_ne, Fld.key, ix]; omega
  line := by apply atStall n hn; decide
  count := by apply atStall n hn; decide

/-- The output stage leaves the SAFETY block's own fields. -/
theorem refreshLines_safety {n : Nat} (hn : n < 5) {f : Fld} (hf : besideSafety f.key = false) (t : Nat) (s : State) :
    (refreshLines n t s).get f = s.get f :=
  ((stageKeys_safety hn).stage hn t s).get f hf

/-! ### The lines of the other Stalls -/

theorem stageKeys_lines {n m : Nat} (hn : n < 4) (other : m ≠ n) : StageKeys (besideLines n) m where
  reported k h := by
    have silent : ∀ n < 4, reported ((PWM_LINES_LINE n).key / 32) = false := by decide
    refine bne_iff_ne.2 fun e => ?_
    rw [e, silent n hn] at h
    exact Bool.false_ne_true h
  early k hk := by simp only [besideLines, bne_iff_ne, PWM_GP_STAT_PREV, PWM_LINES_LINE, Fld.key]; omega
  link _ _ _ _ _ _ _ _ := besideLines_ix hn _ _ _ _ _ _
  own _ _ _ _ _ _ := besideLines_ix hn _ _ _ _ _ _
  line := by simp only [besideLines, bne_iff_ne, PWM_LINES_LINE, Fld.key]; omega
  count := by simp only [besideLines, bne_iff_ne, PWM_SHOOT_STAT_COUNT, PWM_LINES_LINE, Fld.key]; omega

/-- The output stage of a Stall leaves the lines of the others. -/
theorem refreshLines_other {n m : Nat} (hn : n < 4) (hm : m < 5) (other : m ≠ n) (t : Nat) (s : State) :
    (refreshLines m t s).get (PWM_LINES_LINE n) = s.get (PWM_LINES_LINE n) :=
  ((stageKeys_lines hn other).stage hm t s).get _ (bne_self_eq_false _)

end Sys2Proof.Machine
end

section
/-!
SUPPORT. What holds through a Stall's entry into its safe state, the decision table, the Sheepdog's commands and the device-safe latch (R274, R282 to
R286, R309, R310): a property that each of their writes keeps is kept by them.
-/

namespace Sys2Proof.Machine
open Reg

section Rules
variable {P : State → Prop} {s : State}

theorem holds_when {c : Bool} {F : State → State} (h : P s) (k : P s → P (F s)) : P (s.when c F) := by
  cases c with
  | true => exact k h
  | false => exact h

theorem holds_ite {c : Prop} [Decidable c] {t : State} (hs : P s) (ht : P t) : P (if c then s else t) := by
  split <;> assumption

theorem holds_each {l : List Nat} {F : Nat → State → State} (h : P s) (k : ∀ i ∈ l, ∀ t, P t → P (F i t)) : P (s.each l F) := by
  unfold State.each
  induction l generalizing s with
  | nil => exact h
  | cons i r ih => exact ih (k i List.mem_cons_self s h) fun j hj => k j (List.mem_cons_of_mem _ hj)

/-- One number of a list turns `P` into `Q`; the others keep `P` before its turn, and `Q` after it. -/
theorem reaches_each {Q : State → Prop} {l : List Nat} {F : Nat → State → State} {n : Nat} (hn : n ∈ l) (h : P s)
    (before : ∀ i ∈ l, i ≠ n → ∀ t, P t → P (F i t)) (turn : ∀ t, P t → Q (F n t)) (after : ∀ i ∈ l, ∀ t, Q t → Q (F i t)) : Q (s.each l F) := by
  induction l generalizing s with
  | nil => cases hn
  | cons i r ih =>
    by_cases e : i = n
    · subst e
      exact holds_each (l := r) (turn s h) fun j hj => after j (List.mem_cons_of_mem _ hj)
    · refine ih (s := F i s) ((List.mem_cons.1 hn).resolve_left (Ne.symm e)) (before i List.mem_cons_self e s h)
        (fun j hj => before j (List.mem_cons_of_mem _ hj)) fun j hj => after j (List.mem_cons_of_mem _ hj)

/-- A field that `w` does not name is left by a write of one that it names. -/
theorem State.get_set_named {w : Nat → Bool} {f g : Fld} (hg : w g.key = false) (hf : w f.key = true) (s : State) (v : Nat) :
    (s.set f v).get g = s.get g :=
  State.get_set_ne _ _ _ _ fun e => by rw [e, hf] at hg; exact Bool.noConfusion hg

end Rules

/-! ### Entry and decision (R274, R282 to R286) -/

/-- The fields that the entry of Stall `n` and its decision write beside its state and its lines. -/
def entryOther (n : Nat) : List Fld :=
  rowFields n ++ afterRecord n ++ [PROT_SAFE_CAUSE_CODE n, PROT_SAFE_TB_LO_TB n, PROT_SAFE_TB_HI_TB n] ++ ctcFields

/-- Whether Stall `n` starts or runs. -/
def safeLive (n : Nat) (s : State) : Bool := s.get (PWM_STAT_STATE n) == 1 || s.get (PWM_STAT_STATE n) == 2

/-- A `STALL_SAFE` cause as Stall `n` itself takes it: it enters, or drops a release that waits. -/
def safeEnters (n code : Nat) (s : State) : State :=
  if safeLive n s then enterOne n code s
  else s.when (s.get (PWM_STAT_STATE n) == 3) fun s => s.each (pairList n s) fun p s => bandUpdate p false (s.set (protRelPend p) 0)

/-- What follows: the partner enters too, and the table is evaluated. -/
def safeFollow (n : Nat) (s : State) : State :=
  reDecide n (match partner n s with
    | some p => if s.get (PWM_STAT_STATE n) = 3 ∧ safeLive p s then
        enterOne p (stallCode p 5 6) (recordFault (stallCode p 5 6) .stallSafe s) else s
    | none => s)

theorem stallSafe_eq (n code : Nat) (s : State) : stallSafe n code s = safeFollow n (safeEnters n code s) := rfl

/-- `P` is kept by every write of an entry into the safe state and of a decision, of four Stalls and a partner's number at most. -/
structure EntryKeeps (P : State → Prop) : Prop where
  set : ∀ n < 5, ∀ f ∈ entryOther n, ∀ (v : Nat) (s : State), P s → P (s.set f v)
  state : ∀ n < 5, ∀ s : State, P s → P (s.set (PWM_STAT_STATE n) 3)
  lines : ∀ n < 5, ∀ (t : Nat) (s : State), P s → P (refreshLines n t s)
  reports : ∀ s t : State, Reports s t → P s → P t

namespace EntryKeeps

theorem and {P Q : State → Prop} (K : EntryKeeps P) (L : EntryKeeps Q) : EntryKeeps fun s => P s ∧ Q s where
  set n hn f hf v s h := h.imp (K.set n hn f hf v s) (L.set n hn f hf v s)
  state n hn s h := h.imp (K.state n hn s) (L.state n hn s)
  lines n hn t s h := h.imp (K.lines n hn t s) (L.lines n hn t s)
  reports s t r h := h.imp (K.reports s t r) (L.reports s t r)

section Chain
variable {P : State → Prop} {s : State} {n : Nat} (K : EntryKeeps P)
include K

theorem row (hn : n < 5) {f : Fld} (hf : f ∈ rowFields n) (v : Nat) (h : P s) : P (s.set f v) :=
  K.set n hn f (by simp [entryOther, hf]) v s h

theorem after (hn : n < 5) {f : Fld} (hf : f ∈ afterRecord n) (v : Nat) (h : P s) : P (s.set f v) :=
  K.set n hn f (by simp [entryOther, hf]) v s h

theorem contactors (h : P s) : P (ctcUpdate s) := by
  have field : ∀ f ∈ ctcFields, ∀ (v : Nat) (t : State), P t → P (t.set f v) := fun f hf v t ht =>
    K.set 0 (by decide) f (by simp [entryOther, hf]) v t ht
  have source : ∀ i ∈ [0, 1, 2, 3, 4], ctcReqAt i ∈ ctcFields := by decide
  have zero : ∀ k ∈ [0, 1, 2, 3], ctcZero k ∈ ctcFields := by decide
  have sources : P (s.each [0, 1, 2, 3, 4] fun i s => if ctcSource i s then
      s.when (s.get (ctcReqAt i) == 0) fun s => s.set (ctcReqAt i) (s.now + 1) else s.set (ctcReqAt i) 0) :=
    holds_each h fun i hi t ht => holds_ite (holds_when ht fun ht => field _ (source i hi) _ _ ht) (field _ (source i hi) _ _ ht)
  unfold ctcUpdate
  refine holds_ite (holds_each ?_ fun k hk t ht => field _ (zero k hk) _ _ ht) ?_
  · exact field _ (by simp [ctcFields]) _ _ sources
  · exact field _ (by simp [ctcFields]) _ _ sources

theorem band (hn : n < 5) (entry : Bool) (h : P s) : P (bandUpdate n entry s) := by
  unfold bandUpdate
  split
  · exact K.after hn (f := PROT_STAT_SPD_HIGH n) (by simp [afterRecord]) _ h
  · exact h

theorem taken (hn : n < 5) (row : Nat) (h : P s) : P (takeRow row n s) := by
  have written : ∀ f ∈ rowFields n, ∀ (v : Nat) (t : State), P t → P (t.set f v) := fun f hf v t ht => K.row hn hf v ht
  simp only [rowFields, List.forall_mem_cons] at written
  obtain ⟨-, rowSet, safe, prov, chop, opens, since, -⟩ := written
  unfold takeRow
  refine holds_ite h (K.lines n hn _ _ (holds_when (holds_when ?_ fun h => since _ _ h) fun h => K.reports _ _ (raiseStall_reports _ _ _) h))
  exact prov _ _ (opens _ _ (chop _ _ (safe _ _ (rowSet _ _ h))))

theorem held (hn : n < 5) (h : P s) : P (provisional n s) :=
  K.lines n hn _ _ (holds_when h fun h => K.row hn (f := PROT_STAT_PROV n) (by simp [rowFields]) _ h)

/-- A decision keeps it. -/
theorem decision (hn : n < 4) (h : P s) : P (reDecide n s) := by
  have switched : P (s.each (pairList n s) switchUpdate) := holds_each h fun p hp t ht =>
    K.row (pairList_lt hn hp) (f := PROT_SW_STAT_SW p) (by simp [rowFields]) _ ht
  unfold reDecide
  refine holds_ite switched (holds_ite ?waits (holds_ite (holds_when switched fun h => ?resumes) (K.contactors ?takes)))
  case waits => exact holds_each switched fun p hp t ht => K.held (pairList_lt hn hp) ht
  case resumes => exact holds_each h fun p hp t ht => K.taken (pairList_lt hn hp) _ ht
  case takes =>
    refine holds_each switched fun p hp t ht => K.taken (pairList_lt hn hp) _ ?_
    exact K.row (pairList_lt hn hp) (f := protBandRow p) (by simp [rowFields]) _ ht

theorem loops (hn : n < 5) (h : P s) : P (loopHold n s) := by
  have written : ∀ f ∈ afterRecord n, ∀ (v : Nat) (t : State), P t → P (t.set f v) := fun f hf v t ht => K.after hn hf v ht
  simp only [afterRecord, List.cons_append, List.forall_mem_cons] at written
  obtain ⟨-, -, -, -, state, -, -, -, d, q, w, d', q', w', -⟩ := written
  unfold loopHold
  exact holds_when (holds_when h fun h => state _ _ h) fun h => w' 0 _ (q' 0 _ (d' 0 _ (w 0 _ (q 0 _ (d 0 _ h)))))

theorem remount (hn : n < 5) (h : P s) : P (remountRelease n s) := by
  have written : ∀ f ∈ remountFields, ∀ (v : Nat) (t : State), P t → P (t.set f v) := fun f hf v t ht =>
    K.after hn (List.mem_append_right _ hf) v ht
  simp only [remountFields, List.forall_mem_cons] at written
  obtain ⟨held, paired, busy, enabled, waits, -⟩ := written
  unfold remountRelease
  refine holds_ite (K.reports _ _ (raiseEvent_reports _ _) (holds_when ?_ fun h => waits 0 _ (enabled 0 _ h))) h
  exact K.after hn (f := LOOP_STAT_ENG_R n) (by simp [afterRecord]) 0 (busy 0 _ (paired 0 _ (held 0 _ h)))

theorem winding (hn : n < 5) (h : P s) : P (windingFail n s) := by
  refine holds_when h fun h => K.reports _ _ (recordFault_reports _ _ _) (holds_when ?_ fun h => ?_)
  · exact K.after hn (f := PROT_DIS_STAT_PATH n) (by simp [afterRecord]) 0 h
  · exact K.after hn (f := PROT_DIS_CMD_STATUS n) (by simp [afterRecord]) _ h

/-- An entry keeps it. -/
theorem entry (hn : n < 5) (code : Nat) (h : P s) : P (enterOne n code s) := by
  have record : ∀ f ∈ [PROT_SAFE_CAUSE_CODE n, PROT_SAFE_TB_LO_TB n, PROT_SAFE_TB_HI_TB n], ∀ (v : Nat) (t : State), P t → P (t.set f v) :=
    fun f hf v t ht => K.set n hn f (by simp only [entryOther, List.mem_append]; exact .inl (.inr hf)) v t ht
  simp only [List.forall_mem_cons] at record
  obtain ⟨cause, lo, hi, -⟩ := record
  have recorded := K.state n hn _ (hi (s.now / 2 ^ 32) _ (lo s.now _ (cause code _ h)))
  have cleared := K.after hn (f := PROT_STAT_ROW n) (by simp [afterRecord]) 0 (K.after hn (f := PROT_STAT_PROV n) (by simp [afterRecord]) 1 recorded)
  have told := K.reports _ _ (raiseStall_reports n 0x1A _) (K.loops hn (K.band hn true cleared))
  exact K.lines n hn _ _ (K.winding hn (K.after hn (f := protRelPend n) (by simp [afterRecord]) 0 (holds_when told fun h => K.remount hn h)))

/-- What follows the entry keeps it: the partner's entry, and the decision. -/
theorem follows (hn : n < 4) (h : P s) : P (safeFollow n s) := by
  unfold safeFollow
  refine K.decision hn ?_
  split
  · rename_i p hp
    exact holds_ite (K.entry (partner_lt hn hp) _ (K.reports _ _ (recordFault_reports _ _ _) h)) h
  · exact h

/-- A cause of class `STALL_SAFE` keeps it. -/
theorem cause (hn : n < 4) (code : Nat) (h : P s) : P (stallSafe n code s) := by
  rw [stallSafe_eq]
  exact K.follows hn (holds_ite (K.entry (by omega) code h) (holds_when h fun h => holds_each h fun p hp t ht =>
    K.band (pairList_lt hn hp) false (K.after (pairList_lt hn hp) (f := protRelPend p) (by simp [afterRecord]) 0 ht)))

theorem fault (hn : n < 4) {blk c : Nat} (hb : blk < 16) (hc : c < 256) (h : P s) : P (raiseStallFault n blk c .stallSafe s) := by
  rw [raiseStallSafe_eq n hb hc]
  exact K.cause hn _ (K.reports _ _ (recordFault_reports _ _ _) h)

end Chain

/-! ### What an entry keeps -/

/-- A field that an entry does not write. -/
theorem field {g : Fld} (h : entryKey g.key = false) (x : Nat) : EntryKeeps fun s => s.get g = x where
  set n hn f hf v s hs := by
    have written : ∀ n < 5, ∀ f ∈ entryOther n, entryKey f.key = true := by decide +kernel
    exact (State.get_set_named h (written n hn f hf) s v).trans hs
  state n hn s hs := by
    have written : ∀ n < 5, entryKey (PWM_STAT_STATE n).key = true := by decide +kernel
    exact (State.get_set_named h (written n hn) s 3).trans hs
  lines n hn t s hs := ((refreshLines_keys hn t s).get g (lineKey_false_of_entryKey_false h)).trans hs
  reports s t r hs := (r.get g (reported_false_of_entryKey_false h)).trans hs

/-- A field of the SAFETY block's own. -/
theorem safety {g : Fld} (h : besideSafety g.key = false) (x : Nat) : EntryKeeps fun s => s.get g = x where
  set n hn f hf v s hs := by
    have beside : ∀ n < 5, ∀ f ∈ entryOther n, besideSafety f.key = true := by decide +kernel
    exact (State.get_set_named h (beside n hn f hf) s v).trans hs
  state n hn s hs := by
    have beside : ∀ n < 5, besideSafety (PWM_STAT_STATE n).key = true := by decide
    exact (State.get_set_named h (beside n hn) s 3).trans hs
  lines n hn t s hs := (refreshLines_safety hn h t s).trans hs
  reports s t r hs := (r.get g (Bool.eq_false_iff.2 (mt (besideSafety_reported _) (Bool.eq_false_iff.1 h)))).trans hs

/-- A property of a Stall's state that state 3 has. -/
theorem stallState {n : Nat} (hn : n < 4) {l : Nat → Prop} (three : l 3) : EntryKeeps fun s => l (s.get (PWM_STAT_STATE n)) where
  set m hm f hf v s hs := by
    have apart : ∀ n < 4, ∀ m < 5, ∀ f ∈ entryOther m, (PWM_STAT_STATE n).key ≠ f.key := by decide +kernel
    rwa [State.get_set_ne _ _ _ _ (apart n hn m hm f hf)]
  state m hm s hs := by
    by_cases e : n = m
    · subst e; rwa [State.get_set_of_lt (by simp [PWM_STAT_STATE])]
    · rwa [State.get_set_ne _ _ _ _ (by simp only [PWM_STAT_STATE, Fld.key]; omega)]
  lines m hm t s hs := by
    have stage : ∀ n < 4, lineKey (PWM_STAT_STATE n).key = false := by decide
    rwa [(refreshLines_keys hm t s).get _ (stage n hn)]
  reports s t r hs := by
    have silent : ∀ n < 4, reported ((PWM_STAT_STATE n).key / 32) = false := by decide
    rwa [r.get _ (silent n hn)]

/-- The hold of an STO input, with every line of the Stall off. -/
theorem stoHold {n : Nat} (hn : n < 4) : EntryKeeps fun s => s.get (PROT_STAT_STO n) = 1 ∧ ∀ i < 6, LineOff n i s := by
  have sto : EntryKeeps fun s => s.get (PROT_STAT_STO n) = 1 := field (by revert n; decide +kernel) 1
  have lines : ∀ s t : State, t.get (PWM_LINES_LINE n) = s.get (PWM_LINES_LINE n) → (∀ i < 6, LineOff n i s) → ∀ i < 6, LineOff n i t :=
    fun s t same h i hi => by rw [LineOff, same]; exact h i hi
  have silent : ∀ n < 4, reported ((PWM_LINES_LINE n).key / 32) = false := by decide
  refine ⟨fun m hm f hf v s h => h.imp (sto.set m hm f hf v s) (lines _ _ ?_), fun m hm s h => h.imp (sto.state m hm s) (lines _ _ ?_),
    fun m hm t s h => ⟨sto.lines m hm t s h.1, ?_⟩, fun s t r h => h.imp (sto.reports s t r) (lines _ _ (r.get _ (silent n hn)))⟩
  · have apart : ∀ n < 4, ∀ m < 5, ∀ f ∈ entryOther m, (PWM_LINES_LINE n).key ≠ f.key := by decide +kernel
    exact State.get_set_ne _ _ _ _ (apart n hn m hm f hf)
  · exact State.get_set_ne _ _ _ _ (by simp only [PWM_LINES_LINE, PWM_STAT_STATE, Fld.key]; omega)
  · by_cases e : m = n
    · subst e
      have idle : wantedLines m s = 0 := by
        rw [wantedLines_eq, rankedLines_zero (.inr (.inl (by rw [h.1]; decide))), Nat.zero_and]
      exact fun i hi => refreshLines_off hn hi (by rw [idle, bitAt_eq_testBit, Nat.zero_testBit]) t
    · exact lines _ _ (refreshLines_other hn hm e t s) h.2

end EntryKeeps

/-- A cause leaves a Stall that starts, runs or is safe in its safe state. -/
theorem stallSafe_three {n : Nat} (hn : n < 4) {s : State} (h : safeLive n s = true ∨ s.get (PWM_STAT_STATE n) = 3) (code : Nat) :
    (stallSafe n code s).get (PWM_STAT_STATE n) = 3 := by
  have K := EntryKeeps.stallState hn (l := (· = 3)) rfl
  by_cases safe : s.get (PWM_STAT_STATE n) = 3
  · exact K.cause hn code safe
  · have enters : safeEnters n code s = enterOne n code s := if_pos (h.resolve_right safe)
    rw [stallSafe_eq, enters]
    refine K.follows hn ?_
    rw [enterOne_record hn (by simp [entryRecord])]
    exact State.get_set_of_lt (by simp [PWM_STAT_STATE]) _

end Sys2Proof.Machine
end

section
/-!
SUPPORT. The Sheepdog's commands and the device-safe latch (R309, R310): what they keep, and what the latch writes.
-/

namespace Sys2Proof.Machine
open Reg

/-! ### What commands and the latch keep -/

/-- The registers that show the Sheepdog's commands. -/
def commandFields : List Fld := [SAFETY_STALL_CMD_KIND, PROT_STAT_SHD 0, PROT_STAT_SHD 1, PROT_STAT_SHD 2, PROT_STAT_SHD 3]

/-- What the latch writes after it is set, beside entries and decisions. -/
def dsFields : List Fld := commandFields ++ [safDsFloor, safDisWait]

/-- The numbers of the Stalls. -/
theorem mem_stalls {n : Nat} : n ∈ [0, 1, 2, 3] ↔ n < 4 := by simp; omega

theorem shd_command : ∀ n < 4, PROT_STAT_SHD n ∈ commandFields := by decide

theorem command_noted {n : Nat} (hn : n < 4) {f : Fld} (hf : f ∈ [SAFETY_STALL_CMD_KIND, PROT_STAT_SHD n]) : f ∈ commandFields := by
  obtain rfl | rfl := List.mem_pair.1 hf
  · exact List.mem_cons_self
  · exact shd_command n hn

/-- The latch set with its cause and its instant. -/
def dsLatched (code : Nat) (s : State) : State :=
  ((s.set SAFETY_STAT_DS 1).set SAFETY_DS_CAUSE_CODE code).setWide SAFETY_DS_TB_LO_TB SAFETY_DS_TB_HI_TB s.now

/-- The latch reaches Stall `n`. -/
def dsEnter (n : Nat) (s : State) : State :=
  let s := recordFault (stallCode n 5 4) .deviceSafe (s.set (PROT_STAT_DEV_SAFE n) 1)
  if s.get (PWM_STAT_STATE n) = 1 ∨ s.get (PWM_STAT_STATE n) = 2 then enterOne n (stallCode n 5 4) s else s

/-- The Stalls are decided anew; `DS_KIND` or `force` commands them all to `TORQUE_OFF`, and `DS_DIS` asks for a discharge. -/
def dsFollow (force : Bool) (s : State) : State :=
  let s := s.each [0, 1, 2, 3] reDecide
  let s := s.when (force || dsKind s) fun s => shdCommands 0xAA (s.set safDsFloor 0xAA)
  ctcUpdate (s.setB safDisWait (dsDis s))

theorem setDeviceSafe_first {s : State} (h : s.get SAFETY_STAT_DS = 0) (code : Nat) : setDeviceSafe code s =
    dsFollow (code == 0x0605 || code == 0x0606) ((raiseEvent 0x030 (dsLatched code s)).each [0, 1, 2, 3] dsEnter) := by
  exact if_neg (by rw [(flag_eq_false_iff _ _).2 h]; exact Bool.false_ne_true)

theorem setDeviceSafe_again {s : State} (h : s.get SAFETY_STAT_DS ≠ 0) (code : Nat) : setDeviceSafe code s =
    s.when (code == 0x0605 || code == 0x0606) fun s => shdCommands 0xAA (s.set safDsFloor 0xAA) := by
  exact if_pos ((flag_eq_true_iff _ _).2 h)

namespace EntryKeeps

section Chain
variable {P : State → Prop} {s : State} {n : Nat} (K : EntryKeeps P)
include K

theorem command (hn : n < 4) (set : ∀ f ∈ [SAFETY_STALL_CMD_KIND, PROT_STAT_SHD n], ∀ (v : Nat) (s : State), P s → P (s.set f v)) (kind : Nat)
    (h : P s) : P (shdCommand n kind s) := by
  simp only [List.forall_mem_cons] at set
  obtain ⟨word, field, -⟩ := set
  have written := field kind _ (word (putBits (s.get SAFETY_STALL_CMD_KIND) (2 * n) 2 kind) _ h)
  unfold shdCommand
  exact holds_ite h (holds_ite (K.cause hn _ (K.reports _ _ (recordFault_reports _ _ _) written)) (K.lines n (by omega) _ _ (K.decision hn written)))

theorem commands (set : ∀ f ∈ commandFields, ∀ (v : Nat) (s : State), P s → P (s.set f v)) (v : Nat) (h : P s) : P (shdCommands v s) := by
  unfold shdCommands
  refine holds_ite h (K.reports _ _ (raiseEvent_reports _ _) (holds_each h fun n hn t ht => ?_))
  have small := mem_stalls.1 hn
  exact K.command small (fun f hf => set f (command_noted small hf)) _ ht

theorem dsEnters (hn : n < 4) (dev : ∀ s : State, P s → P (s.set (PROT_STAT_DEV_SAFE n) 1)) (h : P s) : P (dsEnter n s) := by
  have told := K.reports _ _ (recordFault_reports (stallCode n 5 4) .deviceSafe _) (dev s h)
  unfold dsEnter
  exact holds_ite (K.entry (by omega) _ told) told

theorem dsFollows (set : ∀ f ∈ dsFields, ∀ (v : Nat) (s : State), P s → P (s.set f v)) (force : Bool) (h : P s) :
    P (dsFollow force s) := by
  have decided : P (s.each [0, 1, 2, 3] reDecide) := holds_each h fun n hn t ht => K.decision (mem_stalls.1 hn) ht
  unfold dsFollow
  refine K.contactors (set safDisWait (by simp [dsFields]) _ _ (holds_when decided fun h => ?_))
  exact K.commands (fun f hf => set f (List.mem_append_left _ hf)) _ (set safDsFloor (by simp [dsFields]) _ _ h)

end Chain
end EntryKeeps

/-! ### What the latch writes (R309) -/

section Latch
variable {g : Fld} {n code : Nat} {s : State}

/-- Every field that the latch writes once it is set, beside entries and decisions. -/
def dsWritten : List Fld := dsFields ++ [PROT_STAT_DEV_SAFE 0, PROT_STAT_DEV_SAFE 1, PROT_STAT_DEV_SAFE 2, PROT_STAT_DEV_SAFE 3]

theorem devSafe_written : ∀ n < 4, PROT_STAT_DEV_SAFE n ∈ dsWritten := by decide

/-- A field that neither entries nor the latch write keeps a value under each of their writes. -/
theorem keeps_unwritten {l : List Fld} (apart : ∀ f ∈ l, g.key ≠ f.key) (x : Nat) :
    ∀ f ∈ l, ∀ (v : Nat) (s : State), s.get g = x → (s.set f v).get g = x :=
  fun f hf _ _ h => (State.get_set_ne _ _ _ _ (apart f hf)).trans h

theorem dsEnters_get (unwritten : entryKey g.key = false) (apart : ∀ f ∈ dsWritten, g.key ≠ f.key) (s : State) :
    (s.each [0, 1, 2, 3] dsEnter).get g = s.get g := by
  refine holds_each (P := fun t => t.get g = s.get g) rfl fun n hn t ht => ?_
  have small := mem_stalls.1 hn
  exact (EntryKeeps.field unwritten _).dsEnters small (keeps_unwritten apart _ _ (devSafe_written n small) 1) ht

/-- Setting the latch leaves what it does not write itself. -/
theorem setDeviceSafe_first_get (unwritten : entryKey g.key = false) (apart : ∀ f ∈ dsWritten, g.key ≠ f.key) (h : s.get SAFETY_STAT_DS = 0)
    (code : Nat) : (setDeviceSafe code s).get g = (dsLatched code s).get g := by
  rw [setDeviceSafe_first h]
  refine (EntryKeeps.field unwritten _).dsFollows (fun f hf => keeps_unwritten apart _ f (List.mem_append_left _ hf)) _ ?_
  rw [dsEnters_get unwritten apart, (raiseEvent_reports _ _).get _ (reported_false_of_entryKey_false unwritten)]

theorem shdCommands_get (unwritten : entryKey g.key = false) (apart : ∀ f ∈ commandFields, g.key ≠ f.key) (v : Nat) (s : State) :
    (shdCommands v s).get g = s.get g :=
  (EntryKeeps.field unwritten _).commands (keeps_unwritten apart _) v rfl

/-- A device-safe fault leaves every field beside the latch, the commands and the entries. -/
theorem raiseDeviceSafe_get (unwritten : entryKey g.key = false)
    (apart : ∀ f ∈ dsWritten ++ [SAFETY_STAT_DS, SAFETY_DS_CAUSE_CODE, SAFETY_DS_TB_LO_TB, SAFETY_DS_TB_HI_TB], g.key ≠ f.key)
    (code : Nat) (s : State) : (raiseFault code .deviceSafe s).get g = s.get g := by
  obtain ⟨written, latch⟩ := List.forall_mem_append.1 apart
  simp only [List.forall_mem_cons] at latch
  obtain ⟨ds, cause, lo, hi, -⟩ := latch
  have told := (recordFault_reports code .deviceSafe s).get g (reported_false_of_entryKey_false unwritten)
  by_cases first : (recordFault code .deviceSafe s).get SAFETY_STAT_DS = 0
  · rw [raiseFault, setDeviceSafe_first_get unwritten written first, dsLatched, State.get_setWide_ne lo hi, State.get_set_ne _ _ _ _ cause,
      State.get_set_ne _ _ _ _ ds, told]
  · have commands : ∀ f ∈ commandFields, g.key ≠ f.key := fun f hf => written f (by simp [dsWritten, dsFields, hf])
    rw [raiseFault, setDeviceSafe_again first, State.get_when ?_, told]
    rw [shdCommands_get unwritten commands, State.get_set_ne _ _ _ _ (written safDsFloor (by simp [dsWritten, dsFields]))]

end Latch
end Sys2Proof.Machine
end

section
/-!
SUPPORT. The Sheepdog's command word, the firmware's causes, and the instants of the device-safe latch (R307, R309, R310, R343).
-/

namespace Sys2Proof.Machine
open Reg

section DeviceSafe
variable {g : Fld} {n code v kind : Nat} {s : State}

/-- Stall `n` starts, runs or is safe. -/
def Going (n : Nat) (s : State) : Prop := s.get (PWM_STAT_STATE n) = 1 ∨ s.get (PWM_STAT_STATE n) = 2 ∨ s.get (PWM_STAT_STATE n) = 3

theorem going_keeps (hn : n < 4) : EntryKeeps (Going n) := EntryKeeps.stallState hn (l := fun x => x = 1 ∨ x = 2 ∨ x = 3) (by decide)

theorem Going.cause (h : Going n s) (hn : n < 4) (code : Nat) : (stallSafe n code s).get (PWM_STAT_STATE n) = 3 :=
  stallSafe_three hn (by unfold safeLive; simp only [Bool.or_eq_true, beq_iff_eq]; exact or_assoc.2 h) code

/-! ### The device-safe latch (R309) -/

/-- The latch, its cause and its instant. -/
theorem setDeviceSafe_latch (first : s.get SAFETY_STAT_DS = 0) (fits : code < 2 ^ 16) : (setDeviceSafe code s).get SAFETY_STAT_DS = 1 ∧
    (setDeviceSafe code s).get SAFETY_DS_CAUSE_CODE = code ∧
    (setDeviceSafe code s).getWide SAFETY_DS_TB_LO_TB SAFETY_DS_TB_HI_TB = s.now := by
  have kept : ∀ f ∈ [SAFETY_STAT_DS, SAFETY_DS_CAUSE_CODE, SAFETY_DS_TB_LO_TB, SAFETY_DS_TB_HI_TB],
      (setDeviceSafe code s).get f = (dsLatched code s).get f := fun f hf => by
    have free : ∀ f ∈ [SAFETY_STAT_DS, SAFETY_DS_CAUSE_CODE, SAFETY_DS_TB_LO_TB, SAFETY_DS_TB_HI_TB],
        entryKey f.key = false ∧ ∀ g ∈ dsWritten, f.key ≠ g.key := by decide +kernel
    exact setDeviceSafe_first_get (free f hf).1 (free f hf).2 first code
  simp only [List.forall_mem_cons] at kept
  obtain ⟨ds, cause, lo, hi, -⟩ := kept
  refine ⟨?_, ?_, ?_⟩
  · rw [ds, dsLatched, State.get_setWide_ne (by decide) (by decide), State.get_set_ne _ _ _ _ (by decide), State.get_set_one rfl]
  · rw [cause, dsLatched, State.get_setWide_ne (by decide) (by decide), State.get_set_of_lt fits]
  · rw [State.getWide, lo, hi, ← State.getWide, dsLatched, State.getWide_setWide (by decide) rfl]
    exact Nat.mod_eq_of_lt (State.now_lt s)

/-- Each Stall shows the latch. -/
theorem setDeviceSafe_shown (hn : n < 4) (first : s.get SAFETY_STAT_DS = 0) (code : Nat) :
    (setDeviceSafe code s).get (PROT_STAT_DEV_SAFE n) = 1 := by
  have free : ∀ n < 4, entryKey (PROT_STAT_DEV_SAFE n).key = false ∧ ∀ g ∈ dsFields, (PROT_STAT_DEV_SAFE n).key ≠ g.key := by decide +kernel
  have beside : ∀ n < 4, ∀ m < 4, m ≠ n → (PROT_STAT_DEV_SAFE n).key ≠ (PROT_STAT_DEV_SAFE m).key := by decide
  obtain ⟨unwritten, apart⟩ := free n hn
  have K := EntryKeeps.field unwritten 1
  have one : ∀ t : State, (t.set (PROT_STAT_DEV_SAFE n) 1).get (PROT_STAT_DEV_SAFE n) = 1 := State.get_set_one rfl
  have shown : ∀ m < 4, ∀ t : State, t.get (PROT_STAT_DEV_SAFE n) = 1 → (t.set (PROT_STAT_DEV_SAFE m) 1).get (PROT_STAT_DEV_SAFE n) = 1 :=
    fun m hm t h => by
      by_cases e : m = n
      · rw [e]; exact one t
      · exact (State.get_set_ne _ _ _ _ (beside n hn m hm e)).trans h
  rw [setDeviceSafe_first first]
  refine K.dsFollows (keeps_unwritten apart 1) _ (reaches_each (P := fun _ => True) (Q := fun t => t.get (PROT_STAT_DEV_SAFE n) = 1)
    (mem_stalls.2 hn) trivial (fun _ _ _ _ _ => trivial)
    (fun t _ => ?_) fun m hm t h => ?_)
  · have told := K.reports _ _ (recordFault_reports (stallCode n 5 4) .deviceSafe _) (one t)
    exact holds_ite (P := fun t => t.get (PROT_STAT_DEV_SAFE n) = 1) (K.entry (by omega) _ told) told
  · have small := mem_stalls.1 hm
    exact K.dsEnters small (shown m small) h

/-- A Stall that starts or runs is taken into its safe state. -/
theorem setDeviceSafe_three (hn : n < 4) (first : s.get SAFETY_STAT_DS = 0) (live : s.get (PWM_STAT_STATE n) = 1 ∨ s.get (PWM_STAT_STATE n) = 2)
    (code : Nat) : (setDeviceSafe code s).get (PWM_STAT_STATE n) = 3 := by
  have apart : ∀ n < 4, ∀ f ∈ dsWritten ++ [SAFETY_STAT_DS, SAFETY_DS_CAUSE_CODE, SAFETY_DS_TB_LO_TB, SAFETY_DS_TB_HI_TB],
      (PWM_STAT_STATE n).key ≠ f.key := by decide +kernel
  have silent : ∀ n < 4, reported ((PWM_STAT_STATE n).key / 32) = false := by decide
  obtain ⟨written, latch⟩ := List.forall_mem_append.1 (apart n hn)
  simp only [List.forall_mem_cons] at latch
  obtain ⟨ds, cause, lo, hi, -⟩ := latch
  have K := EntryKeeps.stallState hn (l := (· = 3)) rfl
  have going := going_keeps hn
  have dev : ∀ m < 4, ∀ t : State, (t.set (PROT_STAT_DEV_SAFE m) 1).get (PWM_STAT_STATE n) = t.get (PWM_STAT_STATE n) := fun m hm t =>
    State.get_set_ne _ _ _ _ (written _ (devSafe_written m hm))
  have start : (raiseEvent 0x030 (dsLatched code s)).get (PWM_STAT_STATE n) = s.get (PWM_STAT_STATE n) := by
    rw [(raiseEvent_reports _ _).get _ (silent n hn), dsLatched, State.get_setWide_ne lo hi, State.get_set_ne _ _ _ _ cause,
      State.get_set_ne _ _ _ _ ds]
  rw [setDeviceSafe_first first]
  refine K.dsFollows (keeps_unwritten (fun f hf => written f (List.mem_append_left _ hf)) 3) _
    (reaches_each (P := Going n) (Q := fun t => t.get (PWM_STAT_STATE n) = 3) (mem_stalls.2 hn) (by rw [Going, start]; omega)
      (fun m hm _ t h => ?_) (fun t h => ?_) fun m hm t h => ?_)
  · have small := mem_stalls.1 hm
    exact going.dsEnters small (fun t h => by rwa [Going, dev m small]) h
  · have told : Going n (recordFault (stallCode n 5 4) .deviceSafe (t.set (PROT_STAT_DEV_SAFE n) 1)) :=
      going.reports _ _ (recordFault_reports _ _ _) (by rwa [Going, dev n hn])
    unfold Going at told
    unfold dsEnter
    dsimp only
    split
    · rw [enterOne_record hn (by simp [entryRecord])]
      exact State.get_set_of_lt (by simp [PWM_STAT_STATE]) _
    · omega
  · have small := mem_stalls.1 hm
    exact K.dsEnters small (fun t h => by rwa [dev m small]) h

/-! ### The Sheepdog's command word (R310) -/

/-- The command of Stall `n` noted in the word and in the Stall. -/
def commandNoted (n kind : Nat) (s : State) : State :=
  (s.set SAFETY_STALL_CMD_KIND (putBits (s.get SAFETY_STALL_CMD_KIND) (2 * n) 2 kind)).set (PROT_STAT_SHD n) kind

theorem shdCommand_first (none : s.get (PROT_STAT_SHD n) = 0) (kind0 : kind ≠ 0) : shdCommand n kind s =
    stallSafe n (stallCode n 5 3) (recordFault (stallCode n 5 3) .stallSafe (commandNoted n kind s)) := by
  have new : ¬s.get (PROT_STAT_SHD n) = kind := fun e => kind0 (e.symm.trans none)
  exact (if_neg new).trans (if_pos none)

/-- A changed command leaves what it notes, and every field that entries do not write. -/
theorem shdCommand_get (hn : n < 4) (unwritten : entryKey g.key = false) (new : s.get (PROT_STAT_SHD n) ≠ kind) :
    (shdCommand n kind s).get g = (commandNoted n kind s).get g := by
  have K := EntryKeeps.field unwritten ((commandNoted n kind s).get g)
  exact (congrArg (State.get · g) (if_neg new)).trans
    (holds_ite (P := fun t => t.get g = (commandNoted n kind s).get g) (K.cause hn _ (K.reports _ _ (recordFault_reports _ _ _) rfl))
      (K.lines n (by omega) _ _ (K.decision hn rfl)))

/-- The word and the Stalls show the same commands. -/
def CommandsAgree (s : State) : Prop := ∀ n < 4, s.get (PROT_STAT_SHD n) = bits (s.get SAFETY_STALL_CMD_KIND) (2 * n) 2

theorem bits_putBits_four {w m : Nat} (hw : w < 256) (hk : kind < 4) (hn : n < 4) (hm : m < 4) :
    bits (putBits w (2 * n) 2 kind % 2 ^ 8) (2 * m) 2 = if m = n then kind else bits w (2 * m) 2 := by
  interval_cases n <;> interval_cases m <;> simp [bits, putBits] <;> omega

theorem shd_unwritten : entryKey SAFETY_STALL_CMD_KIND.key = false ∧ ∀ n < 4, entryKey (PROT_STAT_SHD n).key = false := by decide +kernel

/-- A command shows in the Stall, and word and Stalls go on agreeing. -/
theorem shdCommand_reads (hn : n < 4) (hk : kind < 4) (agree : CommandsAgree s) : CommandsAgree (shdCommand n kind s) ∧
    ∀ m < 4, (shdCommand n kind s).get (PROT_STAT_SHD m) = if m = n then kind else s.get (PROT_STAT_SHD m) := by
  by_cases same : s.get (PROT_STAT_SHD n) = kind
  · have rests : shdCommand n kind s = s := if_pos same
    rw [rests]
    exact ⟨agree, fun m _ => by split <;> simp_all⟩
  · have apart : ∀ n < 4, SAFETY_STALL_CMD_KIND.key ≠ (PROT_STAT_SHD n).key := by decide
    have others : ∀ n < 4, ∀ m < 4, m ≠ n → (PROT_STAT_SHD m).key ≠ (PROT_STAT_SHD n).key := by decide
    obtain ⟨word, fields⟩ := shd_unwritten
    have shown : ∀ m < 4, (shdCommand n kind s).get (PROT_STAT_SHD m) = if m = n then kind else s.get (PROT_STAT_SHD m) := fun m hm => by
      rw [shdCommand_get hn (fields m hm) same, commandNoted]
      split
      · subst m; exact State.get_set_of_lt hk _
      · rw [State.get_set_ne _ _ _ _ (others n hn m hm ‹_›), State.get_set_ne _ _ _ _ (apart m hm).symm]
    refine ⟨fun m hm => ?_, shown⟩
    rw [shown m hm, shdCommand_get hn word same, commandNoted, State.get_set_ne _ _ _ _ (apart n hn), State.get_set_same, agree m hm]
    exact (bits_putBits_four (State.get_lt s SAFETY_STALL_CMD_KIND) hk hn hm).symm

theorem four_bits {w : Nat} (h : w < 256) : w = bits w 0 2 + 4 * bits w 2 2 + 16 * bits w 4 2 + 64 * bits w 6 2 := by
  simp only [bits]; omega

theorem eq_of_four_bits {a b : Nat} (ha : a < 256) (hb : b < 256) (h : ∀ n < 4, bits a (2 * n) 2 = bits b (2 * n) 2) : a = b := by
  rw [four_bits ha, four_bits hb, h 0 (by decide), h 1 (by decide), h 2 (by decide), h 3 (by decide)]

/-- The whole word takes a value, and each Stall shows its command of it. -/
theorem shdCommands_reads (hv : v < 256) (agree : CommandsAgree s) : (shdCommands v s).get SAFETY_STALL_CMD_KIND = v ∧
    ∀ n < 4, (shdCommands v s).get (PROT_STAT_SHD n) = bits v (2 * n) 2 := by
  by_cases same : s.get SAFETY_STALL_CMD_KIND = v
  · have rests : shdCommands v s = s := if_pos same
    rw [rests]
    exact ⟨same, fun n hn => same ▸ agree n hn⟩
  · have two : ∀ n, bits v (2 * n) 2 < 4 := fun n => Nat.mod_lt _ (by decide)
    have acts : shdCommands v s = raiseEvent 0x031 (s.each [0, 1, 2, 3] fun n => shdCommand n (bits v (2 * n) 2)) := if_neg same
    obtain ⟨word, fields⟩ := shd_unwritten
    have each : ∀ n < 4, CommandsAgree (s.each [0, 1, 2, 3] fun n => shdCommand n (bits v (2 * n) 2)) ∧
        (s.each [0, 1, 2, 3] fun n => shdCommand n (bits v (2 * n) 2)).get (PROT_STAT_SHD n) = bits v (2 * n) 2 := fun n hn =>
      reaches_each (P := CommandsAgree) (Q := fun t => CommandsAgree t ∧ t.get (PROT_STAT_SHD n) = bits v (2 * n) 2) (mem_stalls.2 hn) agree
        (fun m hm _ t h => (shdCommand_reads (mem_stalls.1 hm) (two m) h).1)
        (fun t h => by
          obtain ⟨still, shown⟩ := shdCommand_reads hn (two n) h
          exact ⟨still, (shown n hn).trans (if_pos rfl)⟩)
        fun m hm t h => by
          obtain ⟨still, shown⟩ := shdCommand_reads (mem_stalls.1 hm) (two m) h.1
          refine ⟨still, (shown n hn).trans ?_⟩
          split
          · subst m; rfl
          · exact h.2
    have kept : ∀ f : Fld, entryKey f.key = false → ∀ t : State, (raiseEvent 0x031 t).get f = t.get f := fun f h t =>
      (raiseEvent_reports _ _).get _ (reported_false_of_entryKey_false h)
    rw [acts]
    have shown : ∀ n < 4, (raiseEvent 0x031 (s.each [0, 1, 2, 3] fun n => shdCommand n (bits v (2 * n) 2))).get (PROT_STAT_SHD n) =
        bits v (2 * n) 2 := fun n hn => (kept _ (fields n hn) _).trans (each n hn).2
    refine ⟨?_, shown⟩
    rw [kept _ word]
    exact eq_of_four_bits (State.get_lt _ SAFETY_STALL_CMD_KIND) hv fun n hn => by rw [← (each n hn).2, (each n hn).1 n hn]

/-- A command that a Stall had none of takes it into its safe state. -/
theorem shdCommands_three (hn : n < 4) (agree : CommandsAgree s) (none : s.get (PROT_STAT_SHD n) = 0) (some : bits v (2 * n) 2 ≠ 0)
    (live : s.get (PWM_STAT_STATE n) = 1 ∨ s.get (PWM_STAT_STATE n) = 2) : (shdCommands v s).get (PWM_STAT_STATE n) = 3 := by
  have changes : ¬s.get SAFETY_STALL_CMD_KIND = v := fun e => some (by rw [← e, ← agree n hn, none])
  have acts : shdCommands v s = raiseEvent 0x031 (s.each [0, 1, 2, 3] fun n => shdCommand n (bits v (2 * n) 2)) := if_neg changes
  have apart : ∀ n < 4, ∀ f ∈ commandFields, (PWM_STAT_STATE n).key ≠ f.key := by decide
  have others : ∀ n < 4, ∀ m < 4, m ≠ n → (PROT_STAT_SHD n).key ≠ (PROT_STAT_SHD m).key := by decide
  have word : ∀ n < 4, (PROT_STAT_SHD n).key ≠ SAFETY_STALL_CMD_KIND.key := by decide
  have K := EntryKeeps.stallState hn (l := (· = 3)) rfl
  have waits := (EntryKeeps.field (shd_unwritten.2 n hn) 0).and (going_keeps hn)
  have noted : ∀ m < 4, ∀ f ∈ [SAFETY_STALL_CMD_KIND, PROT_STAT_SHD m], ∀ (x : Nat) (t : State),
      (t.set f x).get (PWM_STAT_STATE n) = t.get (PWM_STAT_STATE n) := fun m hm f hf x t =>
    State.get_set_ne _ _ _ _ (apart n hn f (command_noted hm hf))
  rw [acts]
  refine K.reports _ _ (raiseEvent_reports _ _) (reaches_each (P := fun t => t.get (PROT_STAT_SHD n) = 0 ∧ Going n t)
    (Q := fun t => t.get (PWM_STAT_STATE n) = 3) (mem_stalls.2 hn) ⟨none, by unfold Going; omega⟩ (fun m hm other t h => ?_) (fun t h => ?_)
    fun m hm t h => ?_)
  · refine waits.command (mem_stalls.1 hm) (fun f hf x t h => ⟨?_, by rw [Going, noted m (mem_stalls.1 hm) f hf]; exact h.2⟩) _ h
    obtain rfl | rfl := List.mem_pair.1 hf
    · exact (State.get_set_ne _ _ _ _ (word n hn)).trans h.1
    · exact (State.get_set_ne _ _ _ _ (others n hn m (mem_stalls.1 hm) other)).trans h.1
  · rw [shdCommand_first h.1 some]
    have told : Going n (commandNoted n (bits v (2 * n) 2) t) := by
      rw [Going, commandNoted, noted n hn _ (by simp), noted n hn _ (by simp)]; exact h.2
    exact Going.cause ((going_keeps hn).reports _ _ (recordFault_reports _ _ _) told) hn _
  · exact K.command (mem_stalls.1 hm) (fun f hf x t h => by rwa [noted m (mem_stalls.1 hm) f hf]) _ h

/-- A write of `SAFETY_STALL_CMD` that may be made (R309, R310). -/
theorem shdCmdOk_iff : shdCmdOk v s = true ↔ (∀ n < 4, bits v (2 * n) 2 ≠ 3) ∧
    (s.get SAFETY_STAT_DS = 0 ∨ ∀ n < 4, bits (s.get safDsFloor) (2 * n) 2 ≤ bits v (2 * n) 2) := by
  simp only [shdCmdOk, List.all_eq_true, mem_stalls, Bool.and_eq_true, bne_iff_ne, Bool.or_eq_true, Bool.not_eq_true', flag_eq_false_iff,
    decide_eq_true_eq]
  constructor
  · exact fun h => ⟨fun n hn => (h n hn).1, or_iff_not_imp_left.2 fun set n hn => (h n hn).2.resolve_left set⟩
  · exact fun ⟨defined, floor⟩ n hn => ⟨defined n hn, floor.imp_right fun h => h n hn⟩

theorem exec_evShdCmd (v : BitVec 8) (s : State) : exec (.evShdCmd v) s = .next (if shdCmdOk v.toNat s then
    busOk (shdCommands v.toNat (s.each [0, 1, 2, 3] fun n s => s.when (bits v.toNat (2 * n) 2 == 0) fun s => s.set (safCmdKind n) 0))
    else busErr s) := rfl

/-! ### The firmware's causes (R310, R343) -/

/-- The firmware's cause noted. -/
def fwNoted (c : Nat) (s : State) : State := (s.set SAFETY_RAISE_CODE c).set SHD_LAST_CODE (yardCode 6 c)

/-- The cause noted, and its code raised. -/
def fwTold (c : Nat) (s : State) : State := raiseFault (yardCode 6 c) (fwClass c (fwNoted c s)) (fwNoted c s)

/-- The reaction `r` of the firmware to a cause of Stall `n`. -/
def fwReact (n r : Nat) (s : State) : State :=
  if r = 1 ∨ r = 2 then fwCommand n r s
  else if r = 3 then (if ss1SnapReason (2 ^ n) s = 0 then ss1Start (2 ^ n) s else fwCommand n 1 s)
  else s

theorem fwRaise_eq (c : Nat) (s : State) : fwRaise c s = fwReact ((c - 0x10) % 4) (fwReaction c s) (fwTold c s) := rfl

/-- What a device-safe fault and the firmware's reactions write beside entries. -/
def fwWritten : List Fld := dsWritten ++ [SAFETY_STAT_DS, SAFETY_DS_CAUSE_CODE, SAFETY_DS_TB_LO_TB, SAFETY_DS_TB_HI_TB]

/-- A code of the Yard raised leaves what no reaction writes; one of class `STALL_SAFE` is recorded only. -/
theorem raiseYard_get (unwritten : entryKey g.key = false) (apart : ∀ f ∈ fwWritten, g.key ≠ f.key) (low : code < 0x1000) (cls : Cls) (s : State) :
    (raiseFault code cls s).get g = s.get g := by
  have told : ∀ cls, (recordFault code cls s).get g = s.get g := fun cls =>
    (recordFault_reports code cls s).get g (reported_false_of_entryKey_false unwritten)
  cases cls with
  | ride => exact told .ride
  | stallSafe =>
    have only : raiseFault code .stallSafe s = recordFault code .stallSafe s := if_neg (Nat.not_le.2 low)
    rw [only, told]
  | deviceSafe => exact raiseDeviceSafe_get unwritten apart code s

/-- The firmware's own fields of Stall `n`, and those of a safe stop. -/
def fwFields (n : Nat) : List Fld :=
  [safCause n, safAckd n, safCmdKind n, ss1Mask, ss1First, SAFETY_SS1_STAT_PHASE, ss1DueAt, SAFETY_SS1_STAT_T_MS, ss1Run 0, ss1Run 1, ss1Run 2, ss1Run 3]

theorem fwCommand_get (unwritten : entryKey g.key = false) (apart : ∀ f ∈ fwWritten, g.key ≠ f.key) (own : ∀ f ∈ fwFields n, g.key ≠ f.key)
    (kind : Nat) (s : State) : (fwCommand n kind s).get g = s.get g := by
  simp only [fwFields, List.forall_mem_cons] at own
  obtain ⟨cause, ackd, commanded, -⟩ := own
  have commands : ∀ f ∈ commandFields, g.key ≠ f.key := fun f hf => apart f (by simp [fwWritten, dsWritten, dsFields, hf])
  rw [fwCommand, shdCommands_get unwritten commands, State.get_set_ne _ _ _ _ commanded, State.get_set_ne _ _ _ _ ackd,
    State.get_set_ne _ _ _ _ cause]

theorem ss1Start_get (own : ∀ f ∈ fwFields n, g.key ≠ f.key) (mask : Nat) (s : State) : (ss1Start mask s).get g = s.get g := by
  simp only [fwFields, List.forall_mem_cons] at own
  obtain ⟨-, -, -, stalls, first, phase, due, time, run0, run1, run2, run3, -⟩ := own
  simp only [ss1Start, State.each, List.foldl_cons, List.foldl_nil]
  rw [State.get_set_ne _ _ _ _ run3, State.get_set_ne _ _ _ _ run2, State.get_set_ne _ _ _ _ run1, State.get_set_ne _ _ _ _ run0,
    State.get_set_ne _ _ _ _ time, State.get_set_ne _ _ _ _ due, State.get_set_ne _ _ _ _ phase, State.get_set_ne _ _ _ _ first,
    State.get_set_ne _ _ _ _ stalls]

theorem fwReact_get (unwritten : entryKey g.key = false) (apart : ∀ f ∈ fwWritten, g.key ≠ f.key) (own : ∀ f ∈ fwFields n, g.key ≠ f.key)
    (r : Nat) (s : State) : (fwReact n r s).get g = s.get g := by
  unfold fwReact
  split
  · exact fwCommand_get unwritten apart own r s
  · split
    · split
      · exact ss1Start_get own _ s
      · exact fwCommand_get unwritten apart own 1 s
    · rfl

/-- The registers that show the firmware's last cause. -/
theorem fwRaise_shown {c : Nat} (fits : c < 0x100) (s : State) : (fwRaise c s).get SAFETY_RAISE_CODE = c ∧
    (fwRaise c s).get SHD_LAST_CODE = 0x0600 + c := by
  have free : ∀ f ∈ [SAFETY_RAISE_CODE, SHD_LAST_CODE], entryKey f.key = false ∧ (∀ g ∈ fwWritten, f.key ≠ g.key) ∧
      ∀ n < 4, ∀ g ∈ fwFields n, f.key ≠ g.key := by decide +kernel
  have kept : ∀ f ∈ [SAFETY_RAISE_CODE, SHD_LAST_CODE], (fwRaise c s).get f = (fwNoted c s).get f := fun f hf => by
    obtain ⟨unwritten, apart, own⟩ := free f hf
    rw [fwRaise_eq, fwReact_get unwritten apart (own _ (Nat.mod_lt _ (by decide))), fwTold,
      raiseYard_get unwritten apart (by unfold yardCode; omega)]
  simp only [List.forall_mem_cons] at kept
  obtain ⟨raised, last, -⟩ := kept
  refine ⟨?_, ?_⟩
  · rw [raised, fwNoted, State.get_set_ne _ _ _ _ (by decide), State.get_set_of_lt (by simp [SAFETY_RAISE_CODE]; omega)]
  · rw [last, fwNoted, State.get_set_of_lt (by simp [yardCode, SHD_LAST_CODE]; omega)]
    unfold yardCode; omega

/-- A command of the firmware notes its cause as present and not acknowledged. -/
theorem fwCommand_cause (hn : n < 4) (kind : Nat) (s : State) : (fwCommand n kind s).get (safCause n) = 1 ∧
    (fwCommand n kind s).get (safAckd n) = 0 := by
  have own : ∀ n < 4, ∀ f ∈ [safCause n, safAckd n], besideSafety f.key = false ∧ (∀ g ∈ commandFields, f.key ≠ g.key) ∧
      f.key ≠ (safCmdKind n).key := by decide
  have ackd : ∀ n < 4, (safCause n).key ≠ (safAckd n).key := by decide
  have kept : ∀ f ∈ [safCause n, safAckd n], (fwCommand n kind s).get f = ((s.set (safCause n) 1).set (safAckd n) 0).get f := fun f hf => by
    obtain ⟨safety, apart, commanded⟩ := own n hn f hf
    exact ((EntryKeeps.safety safety _).commands (keeps_unwritten apart _) _ rfl).trans (State.get_set_ne _ _ _ _ commanded)
  simp only [List.forall_mem_cons] at kept
  obtain ⟨present, acknowledged, -⟩ := kept
  rw [present, acknowledged, State.get_set_ne _ _ _ _ (ackd n hn)]
  exact ⟨State.get_set_one rfl _, State.get_set_zero _ _⟩

theorem fwRaise_commands {c : Nat} (reacts : fwReaction c s = 1 ∨ fwReaction c s = 2) : (fwRaise c s).get (safCause ((c - 0x10) % 4)) = 1 ∧
    (fwRaise c s).get (safAckd ((c - 0x10) % 4)) = 0 := by
  have commanded : fwRaise c s = fwCommand ((c - 0x10) % 4) (fwReaction c s) (fwTold c s) := (fwRaise_eq c s).trans (if_pos reacts)
  rw [commanded]
  exact fwCommand_cause (Nat.mod_lt _ (by decide)) _ _

theorem exec_safetyRaise (c : BitVec 16) (s : State) : exec (.safetyRaise c) s =
    .next (if 0x10 ≤ c.toNat ∧ c.toNat ≤ 0x37 then busOk (fwRaise c.toNat s) else busErr s) := rfl

end DeviceSafe
end Sys2Proof.Machine
end

section
/-!
SUPPORT. Safe torque off (R318 to R320): what a hold writes, what an input's edge leaves, and when the holds end.
-/

namespace Sys2Proof.Machine
open Reg

section Hold
variable {g : Fld} {n i : Nat} {s : State}

/-! ### What the holds write (R275, R318) -/

/-- Stall `n` follows the holds. -/
def stoStall (n : Nat) (s : State) : State := refreshLines n (s.now * 64) (s.setB (PROT_STAT_STO n) (stoMapped n s))

/-- The Stalls follow the holds. -/
def stoStalls (s : State) : State := s.each [0, 1, 2, 3] stoStall

theorem stoApply_eq (s : State) : stoApply s = auxLine 1 ((stoStalls s).now * 64) (auxLine 0 ((stoStalls s).now * 64) (stoStalls s)) := rfl

theorem stoStall_get (sto : g.key ≠ (PROT_STAT_STO n).key) (stage : ∀ (t : Nat) (s : State), (refreshLines n t s).get g = s.get g) (s : State) :
    (stoStall n s).get g = s.get g :=
  (stage _ _).trans (State.get_setB_ne sto s _)

theorem stoStalls_get (sto : ∀ n < 4, g.key ≠ (PROT_STAT_STO n).key)
    (stage : ∀ n < 4, ∀ (t : Nat) (s : State), (refreshLines n t s).get g = s.get g) (s : State) : (stoStalls s).get g = s.get g :=
  holds_each (P := fun t => t.get g = s.get g) rfl fun n hn t h =>
    (stoStall_get (sto n (mem_stalls.1 hn)) (stage n (mem_stalls.1 hn)) t).trans h

theorem stoApply_aux_get (aux : ∀ k < 2, auxLineKey k g.key = false) (s : State) : (stoApply s).get g = (stoStalls s).get g := by
  rw [stoApply_eq, (auxLine_keys (k := 1) (by decide) _ _).get g (aux 1 (by decide)), (auxLine_keys (k := 0) (by decide) _ _).get g (aux 0 (by decide))]

/-- The SAFETY block's own fields stay. -/
theorem stoStalls_safety (h : besideSafety g.key = false) (s : State) : (stoStalls s).get g = s.get g := by
  have beside : ∀ n < 4, besideSafety (PROT_STAT_STO n).key = true := by decide
  refine stoStalls_get (fun n hn e => ?_) (fun n hn => refreshLines_safety (by omega) h) s
  rw [e, beside n hn] at h
  exact Bool.noConfusion h

/-- So does every register that neither the output stage nor an AUX line writes. -/
theorem stoApply_get (stage : lineKey g.key = false) (sto : ∀ n < 4, g.key ≠ (PROT_STAT_STO n).key) (aux : ∀ k < 2, auxLineKey k g.key = false)
    (s : State) : (stoApply s).get g = s.get g :=
  (stoApply_aux_get aux s).trans (stoStalls_get sto (fun _ hn t u => (refreshLines_keys (by omega) t u).get g stage) s)

theorem stoMapped_congr {t : State} (held : t.get safStoHeld = s.get safStoHeld) (map : t.get safStoMap = s.get safStoMap) (n : Nat) :
    stoMapped n t = stoMapped n s := by
  rw [stoMapped, stoMapped, held, map]

/-- What tells a hold: the held inputs and the sealed maps. -/
def SameHolds (s t : State) : Prop := t.get safStoHeld = s.get safStoHeld ∧ t.get safStoMap = s.get safStoMap

theorem stoStall_holds {t : State} (hn : n < 4) (h : SameHolds s t) : SameHolds s (stoStall n t) := by
  have own : ∀ n < 4, ∀ f ∈ [safStoHeld, safStoMap], besideSafety f.key = false ∧ f.key ≠ (PROT_STAT_STO n).key := by decide
  have kept : ∀ f ∈ [safStoHeld, safStoMap], (stoStall n t).get f = t.get f := fun f hf =>
    stoStall_get (own n hn f hf).2 (refreshLines_safety (by omega) (own n hn f hf).1) t
  exact ⟨(kept _ (by simp)).trans h.1, (kept _ (by simp)).trans h.2⟩

theorem stoFields_apart : ∀ n < 4, ∀ m < 4, m ≠ n → (PROT_STAT_STO n).key ≠ (PROT_STAT_STO m).key := by decide

theorem stoStall_shown {t : State} (hn : n < 4) (h : SameHolds s t) : (stoStall n t).get (PROT_STAT_STO n) = (stoMapped n s).toNat := by
  have stage : ∀ n < 4, lineKey (PROT_STAT_STO n).key = false := by decide
  rw [stoStall, (refreshLines_keys (by omega) _ _).get _ (stage n hn), State.get_setB_same rfl, stoMapped_congr h.1 h.2]

/-- Each Stall shows whether a hold acts on it. -/
theorem stoApply_shown (hn : n < 4) (s : State) : (stoApply s).get (PROT_STAT_STO n) = (stoMapped n s).toNat := by
  have aux : ∀ n < 4, ∀ k < 2, auxLineKey k (PROT_STAT_STO n).key = false := by decide
  have stage : ∀ n < 4, lineKey (PROT_STAT_STO n).key = false := by decide
  have shown : SameHolds s (stoStalls s) ∧ (stoStalls s).get (PROT_STAT_STO n) = (stoMapped n s).toNat :=
    reaches_each (P := SameHolds s) (Q := fun t => SameHolds s t ∧ t.get (PROT_STAT_STO n) = (stoMapped n s).toNat) (mem_stalls.2 hn) ⟨rfl, rfl⟩
      (fun m hm _ t h => stoStall_holds (mem_stalls.1 hm) h) (fun t h => ⟨stoStall_holds hn h, stoStall_shown hn h⟩) fun m hm t h => by
        refine ⟨stoStall_holds (mem_stalls.1 hm) h.1, ?_⟩
        by_cases e : m = n
        · subst e; exact stoStall_shown hn h.1
        · exact (stoStall_get (stoFields_apart n hn m (mem_stalls.1 hm) e)
            (fun t u => (refreshLines_keys (by have := mem_stalls.1 hm; omega) t u).get _ (stage n hn)) t).trans h.2
  exact (stoApply_aux_get (aux n hn) s).trans shown.2

/-- The lines of a Stall under a hold are called off whatever else asks for them (R275). -/
theorem wantedLines_held (h : s.get (PROT_STAT_STO n) = 1) : wantedLines n s = 0 := by
  rw [wantedLines_eq, rankedLines_zero (.inr (.inl (by rw [h]; decide))), Nat.zero_and]

theorem stoStall_off {t : State} (hn : n < 4) (h : SameHolds s t) (mapped : stoMapped n s = true) : ∀ i < 6, LineOff n i (stoStall n t) := by
  have set : (t.setB (PROT_STAT_STO n) (stoMapped n t)).get (PROT_STAT_STO n) = 1 := by
    rw [State.get_setB_same rfl, stoMapped_congr h.1 h.2, mapped]; rfl
  exact fun i hi => refreshLines_off hn hi (by rw [wantedLines_held set, bitAt_eq_testBit, Nat.zero_testBit]) _

/-- The lines of a Stall that a hold acts on are off. -/
theorem stoApply_off (hn : n < 4) (mapped : stoMapped n s = true) : ∀ i < 6, LineOff n i (stoApply s) := by
  have aux : ∀ n < 4, ∀ k < 2, auxLineKey k (PWM_LINES_LINE n).key = false := by decide
  have apart : ∀ n < 4, ∀ m < 4, (PWM_LINES_LINE n).key ≠ (PROT_STAT_STO m).key := by decide
  have off : SameHolds s (stoStalls s) ∧ ∀ i < 6, LineOff n i (stoStalls s) :=
    reaches_each (P := SameHolds s) (Q := fun t => SameHolds s t ∧ ∀ i < 6, LineOff n i t) (mem_stalls.2 hn) ⟨rfl, rfl⟩
      (fun m hm _ t h => stoStall_holds (mem_stalls.1 hm) h) (fun t h => ⟨stoStall_holds hn h, stoStall_off hn h mapped⟩) fun m hm t h => by
        refine ⟨stoStall_holds (mem_stalls.1 hm) h.1, ?_⟩
        by_cases e : m = n
        · subst e; exact stoStall_off hn h.1 mapped
        · have same : (stoStall m t).get (PWM_LINES_LINE n) = t.get (PWM_LINES_LINE n) := stoStall_get (apart n hn m (mem_stalls.1 hm))
            (refreshLines_other hn (by have := mem_stalls.1 hm; omega) e) t
          exact fun i hi => by rw [LineOff, same]; exact h.2 i hi
  exact fun i hi => by rw [LineOff, stoApply_aux_get (aux n hn)]; exact off.2 i hi

/-- Six lines off are no line on. -/
theorem lines_none (h : ∀ i < 6, LineOff n i s) : s.get (PWM_LINES_LINE n) &&& 63 = 0 := by
  refine Nat.eq_of_testBit_eq fun i => ?_
  rw [Nat.testBit_and, Nat.zero_testBit, show (63 : Nat) = 2 ^ 6 - 1 from rfl, Nat.testBit_two_pow_sub_one]
  by_cases hi : i < 6
  · rw [← bitAt_eq_testBit, h i hi, Bool.false_and]
  · rw [decide_eq_false hi, Bool.and_false]

theorem stoMapped_of_bits (hi : i < 2) (map : bitAt (s.get safStoMap) (8 * i + n) = true) (held : bitAt (s.get safStoHeld) i = true) :
    stoMapped n s = true := by
  obtain rfl | rfl : i = 0 ∨ i = 1 := by omega
  · rw [Nat.mul_zero, Nat.zero_add] at map
    rw [stoMapped, held, map]; rfl
  · rw [Nat.mul_one] at map
    rw [stoMapped, held, map, Bool.and_true, Bool.or_true]

/-! ### The inputs (R319) -/

/-- The level bits of the two inputs. -/
def stoLevel (i : Nat) : Fld := if i = 0 then SAFETY_STO_STAT_A else SAFETY_STO_STAT_B

theorem stoActive_eq (i : Nat) (s : State) : stoActive i s = s.flag (stoLevel i) := by
  unfold stoActive stoLevel; split <;> rfl

/-- An input's level written, before the discrepancy is judged. -/
def stoLevelled (i : Nat) (b : Bool) (s : State) : State := s.setB (stoLevel i) b

/-- The discrepancy latch ends where both inputs are active. -/
def stoMet (s : State) : State := s.when (stoActive 0 s && stoActive 1 s) fun s => s.set SAFETY_STO_STAT_DISC 0

theorem stoInput_eq (i : Nat) (b : Bool) (s : State) : stoInput i b s =
    if stoActive 0 (stoMet (stoLevelled i b s)) != stoActive 1 (stoMet (stoLevelled i b s)) then
      (stoMet (stoLevelled i b s)).when ((stoMet (stoLevelled i b s)).get safOneAt == 0) fun t => t.set safOneAt (t.now + 1)
    else (stoMet (stoLevelled i b s)).set safOneAt 0 := by
  unfold stoInput stoLevelled stoLevel
  split <;> rfl

/-- An input's edge writes its level, the discrepancy latch and its timer. -/
theorem stoInput_get (level : g.key ≠ (stoLevel i).key) (disc : g.key ≠ SAFETY_STO_STAT_DISC.key) (timer : g.key ≠ safOneAt.key) (b : Bool)
    (s : State) : (stoInput i b s).get g = s.get g := by
  have met : (stoMet (stoLevelled i b s)).get g = s.get g := (State.get_when_set_ne disc _ _ _).trans (State.get_setB_ne level _ _)
  rw [stoInput_eq]
  split
  · exact (State.get_when (State.get_set_ne _ _ _ _ timer) _).trans met
  · exact (State.get_set_ne _ _ _ _ timer).trans met

/-- The input takes the level, and the other keeps its own. -/
theorem stoInput_active (hi : i < 2) (b : Bool) (s : State) :
    stoActive i (stoInput i b s) = b ∧ stoActive (1 - i) (stoInput i b s) = stoActive (1 - i) s := by
  have apart : ∀ i < 2, (stoLevel i).width = 1 ∧ (stoLevel i).key ≠ SAFETY_STO_STAT_DISC.key ∧ (stoLevel i).key ≠ safOneAt.key ∧
      (stoLevel (1 - i)).key ≠ (stoLevel i).key := by decide
  obtain ⟨one, disc, timer, other⟩ := apart i hi
  obtain ⟨-, disc', timer', -⟩ := apart (1 - i) (by omega)
  rw [stoActive_eq, stoActive_eq, stoActive_eq]
  refine ⟨?_, State.flag_congr (stoInput_get other disc' timer' b s)⟩
  have met : (stoMet (stoLevelled i b s)).get (stoLevel i) = (stoLevelled i b s).get (stoLevel i) := State.get_when_set_ne disc _ _ _
  have level : (stoInput i b s).get (stoLevel i) = (stoLevelled i b s).get (stoLevel i) := by
    rw [stoInput_eq]
    split
    · exact (State.get_when (State.get_set_ne _ _ _ _ timer) _).trans met
    · exact (State.get_set_ne _ _ _ _ timer).trans met
  exact (State.flag_congr level).trans (State.flag_setB one s b)

/-! ### An input becomes active (R318) -/

/-- Input `i` noted as active and held, and the acknowledgement it ends. -/
def stoNoted (i : Nat) (s : State) : State :=
  ((((((stoInput i true s).set safAckDone 0).setBit safStoHeld i true).set SAFETY_STO_STAT_HOLD 1).set SAFETY_STO_STAT_SEEN 1).set
    SAFETY_STO_STAT_ACK_NEED 0)

/-- The hold acts at once and is reported. -/
def stoHeldOff (i : Nat) (s : State) : State := raiseEvent 0x033 (stoApply (stoNoted i s))

/-- The Stalls that input `i` takes out of switching. -/
def stoStruck (i : Nat) (s : State) : List Nat := [0, 1, 2, 3].filter fun n => bitAt (s.get safStoMap) (8 * i + n) && switching n s

/-- The edge with its hold, and the causes of the Stalls it strikes. -/
def stoEdge (i : Nat) (s : State) : State := (stoHeldOff i s).each (stoStruck i (stoHeldOff i s)) fun n => raiseStallFault n 5 5 .stallSafe

theorem exec_evSto_again {i : Fin 2} (h : stoActive i s = true) : exec (.evSto i) s = .next s :=
  congrArg Host.Outcome.next (if_neg (by rw [h]; exact Bool.false_ne_true))

theorem exec_evSto_first {i : Fin 2} (h : stoActive i s = false) : exec (.evSto i) s = .next (stoEdge i s) :=
  congrArg Host.Outcome.next (if_pos (by rw [h]; rfl))

/-- The STO registers that an edge leaves to be read. -/
def stoShown (i : Nat) : List Fld := [stoLevel i, SAFETY_STO_STAT_HOLD, SAFETY_STO_STAT_SEEN, SAFETY_STO_STAT_ACK_NEED]

theorem stoShown_free : ∀ i < 2, ∀ f ∈ stoShown i, entryKey f.key = false ∧ (∀ n < 4, f.key ≠ (PROT_STAT_STO n).key) ∧
    ∀ k < 2, auxLineKey k f.key = false := by decide +kernel

theorem stoHeldOff_get (unwritten : entryKey g.key = false) (sto : ∀ n < 4, g.key ≠ (PROT_STAT_STO n).key)
    (aux : ∀ k < 2, auxLineKey k g.key = false) (i : Nat) (s : State) : (stoHeldOff i s).get g = (stoNoted i s).get g := by
  rw [stoHeldOff, (raiseEvent_reports _ _).get g (reported_false_of_entryKey_false unwritten),
    stoApply_get (lineKey_false_of_entryKey_false unwritten) sto aux]

theorem stoHeldOff_safety (h : besideSafety g.key = false) (aux : ∀ k < 2, auxLineKey k g.key = false) (i : Nat) (s : State) :
    (stoHeldOff i s).get g = (stoNoted i s).get g := by
  have silent : reported (g.key / 32) = false := Bool.eq_false_iff.2 (mt (besideSafety_reported _) (Bool.eq_false_iff.1 h))
  rw [stoHeldOff, (raiseEvent_reports _ _).get g silent, stoApply_aux_get aux, stoStalls_safety h]

/-- What is noted reads so. -/
theorem stoNoted_reads (hi : i < 2) (s : State) : stoActive i (stoNoted i s) = true ∧ bitAt ((stoNoted i s).get safStoHeld) i = true ∧
    (stoNoted i s).get SAFETY_STO_STAT_HOLD = 1 ∧ (stoNoted i s).get SAFETY_STO_STAT_SEEN = 1 ∧
    (stoNoted i s).get SAFETY_STO_STAT_ACK_NEED = 0 ∧ (stoNoted i s).get safStoMap = s.get safStoMap := by
  have level : ∀ i < 2, ∀ f ∈ [safAckDone, safStoHeld, SAFETY_STO_STAT_HOLD, SAFETY_STO_STAT_SEEN, SAFETY_STO_STAT_ACK_NEED],
      (stoLevel i).key ≠ f.key := by decide
  have held : ∀ v i, i < 2 → bitAt (putBit v i true % 2 ^ 2) i = true := fun v i hi => by
    rw [bitAt_eq_testBit, Nat.testBit_mod_two_pow, decide_eq_true hi, Bool.true_and, ← bitAt_eq_testBit, bitAt_putBit]
  have map : ∀ i < 2, safStoMap.key ≠ (stoLevel i).key := by decide
  have own := level i hi
  simp only [List.forall_mem_cons] at own
  obtain ⟨ackDone, heldBits, hold, seen, need, -⟩ := own
  refine ⟨?_, ?_, ?_, ?_, ?_, ?_⟩
  · rw [stoActive_eq]
    refine (State.flag_congr ?_).trans ((stoActive_eq i _).symm.trans (stoInput_active hi true s).1)
    rw [stoNoted, State.get_set_ne _ _ _ _ need, State.get_set_ne _ _ _ _ seen, State.get_set_ne _ _ _ _ hold, State.setBit,
      State.get_set_ne _ _ _ _ heldBits, State.get_set_ne _ _ _ _ ackDone]
  · simp (disch := decide) only [stoNoted, State.setBit, State.get_set_ne]
    rw [State.get_set_same]
    exact held _ i hi
  · simp (disch := decide) only [stoNoted, State.get_set_ne]
    exact State.get_set_one rfl _
  · simp (disch := decide) only [stoNoted, State.get_set_ne]
    exact State.get_set_one rfl _
  · exact State.get_set_zero _ _
  · simp (disch := decide) only [stoNoted, State.setBit, State.get_set_ne]
    exact stoInput_get (map i hi) (by decide) (by decide) true s

end Hold
end Sys2Proof.Machine
end

section
/-!
SUPPORT. What an STO input that becomes active comes to, the discrepancy of the two inputs, and the end of the holds (R318 to R320).
-/

namespace Sys2Proof.Machine
open Reg

section Edges
variable {g : Fld} {n i : Nat} {s : State}

/-! ### The Stalls that a cause takes out of switching -/

/-- What keeps through a cause of each Stall of a list. -/
theorem EntryKeeps.faults {P : State → Prop} (K : EntryKeeps P) {l : List Nat} (hl : ∀ n ∈ l, n < 4) {blk c : Nat} (hb : blk < 16) (hc : c < 256)
    (h : P s) : P (s.each l fun n => raiseStallFault n blk c .stallSafe) :=
  holds_each h fun n hn _ ht => K.fault (hl n hn) hb hc ht

theorem EntryKeeps.causes {P : State → Prop} (K : EntryKeeps P) {l : List Nat} (hl : ∀ n ∈ l, n < 4) (code : Nat) (h : P s) :
    P (s.each l fun n => stallSafe n code) :=
  holds_each h fun n hn _ ht => K.cause (hl n hn) code ht

/-- A Stall of the list that starts or runs ends in its safe state. -/
theorem causes_three {l : List Nat} (hl : ∀ n ∈ l, n < 4) (hn : n ∈ l) (h : Going n s) (code : Nat) :
    (s.each l fun n => stallSafe n code).get (PWM_STAT_STATE n) = 3 :=
  reaches_each (P := Going n) (Q := fun t => t.get (PWM_STAT_STATE n) = 3) hn h (fun m hm _ _ h => (going_keeps (hl n hn)).cause (hl m hm) code h)
    (fun _ h => Going.cause h (hl n hn) code) fun m hm _ h => (EntryKeeps.stallState (hl n hn) (l := (· = 3)) rfl).cause (hl m hm) code h

theorem faults_three {l : List Nat} (hl : ∀ n ∈ l, n < 4) (hn : n ∈ l) (h : Going n s) {blk c : Nat} (hb : blk < 16) (hc : c < 256) :
    (s.each l fun n => raiseStallFault n blk c .stallSafe).get (PWM_STAT_STATE n) = 3 :=
  reaches_each (P := Going n) (Q := fun t => t.get (PWM_STAT_STATE n) = 3) hn h
    (fun m hm _ _ h => (going_keeps (hl n hn)).fault (hl m hm) hb hc h)
    (fun t h => by
      rw [raiseStallSafe_eq n hb hc]
      exact Going.cause ((going_keeps (hl n hn)).reports _ _ (recordFault_reports _ _ _) h) (hl n hn) _)
    fun m hm _ h => (EntryKeeps.stallState (hl n hn) (l := (· = 3)) rfl).fault (hl m hm) hb hc h

/-! ### The first edge of an input (R318) -/

theorem stoStruck_stalls (i : Nat) (s : State) : ∀ n ∈ stoStruck i s, n < 4 := fun _ hn => mem_stalls.1 (List.mem_filter.1 hn).1

/-- What the edge shows once its causes have acted. -/
theorem stoEdge_shows (hi : i < 2) (s : State) : stoActive i (stoEdge i s) = true ∧ bitAt ((stoEdge i s).get safStoHeld) i = true ∧
    (stoEdge i s).get SAFETY_STO_STAT_HOLD = 1 ∧ (stoEdge i s).get SAFETY_STO_STAT_SEEN = 1 ∧ (stoEdge i s).get SAFETY_STO_STAT_ACK_NEED = 0 := by
  have stalls := stoStruck_stalls i (stoHeldOff i s)
  have kept : ∀ f ∈ stoShown i, (stoEdge i s).get f = (stoNoted i s).get f := fun f hf => by
    obtain ⟨unwritten, sto, aux⟩ := stoShown_free i hi f hf
    exact ((EntryKeeps.field unwritten _).faults stalls (by decide) (by decide) rfl).trans (stoHeldOff_get unwritten sto aux i s)
  have held : (stoEdge i s).get safStoHeld = (stoNoted i s).get safStoHeld :=
    ((EntryKeeps.safety (by decide) _).faults stalls (by decide) (by decide) rfl).trans (stoHeldOff_safety (by decide) (by decide) i s)
  simp only [stoShown, List.forall_mem_cons] at kept
  obtain ⟨level, hold, seen, need, -⟩ := kept
  obtain ⟨active, bit, holds, sees, needs, -⟩ := stoNoted_reads hi s
  refine ⟨?_, held ▸ bit, hold.trans holds, seen.trans sees, need.trans needs⟩
  rw [stoActive_eq, State.flag_congr level, ← stoActive_eq, active]

/-- A Stall that the input maps is held off: its lines are off, and it leaves switching. -/
theorem stoEdge_holds (hi : i < 2) (hn : n < 4) (map : bitAt (s.get safStoMap) (8 * i + n) = true) :
    (stoEdge i s).get (PROT_STAT_STO n) = 1 ∧ (stoEdge i s).get (PWM_LINES_LINE n) &&& 63 = 0 ∧
      (s.get (PWM_STAT_STATE n) = 1 ∨ s.get (PWM_STAT_STATE n) = 2 → (stoEdge i s).get (PWM_STAT_STATE n) = 3) := by
  have stalls := stoStruck_stalls i (stoHeldOff i s)
  obtain ⟨-, bit, -, -, -, sameMap⟩ := stoNoted_reads hi s
  have mapped : stoMapped n (stoNoted i s) = true := stoMapped_of_bits hi (by rw [sameMap]; exact map) bit
  have K := EntryKeeps.stoHold hn
  have shown : (stoApply (stoNoted i s)).get (PROT_STAT_STO n) = 1 := by rw [stoApply_shown hn, mapped]; rfl
  have hold := K.reports (stoApply (stoNoted i s)) (stoHeldOff i s) (raiseEvent_reports _ _) ⟨shown, stoApply_off hn mapped⟩
  obtain ⟨sto, off⟩ := K.faults (blk := 5) (c := 5) stalls (by decide) (by decide) hold
  refine ⟨sto, lines_none off, fun live => ?_⟩
  have free : ∀ n < 4, reported ((PWM_STAT_STATE n).key / 32) = false ∧ lineKey (PWM_STAT_STATE n).key = false ∧
      (∀ m < 4, (PWM_STAT_STATE n).key ≠ (PROT_STAT_STO m).key) ∧ (∀ k < 2, auxLineKey k (PWM_STAT_STATE n).key = false) := by decide
  have noted : ∀ i < 2, ∀ n < 4, ∀ f ∈ stoLevel i :: [SAFETY_STO_STAT_DISC, safOneAt, safAckDone, safStoHeld, SAFETY_STO_STAT_HOLD,
      SAFETY_STO_STAT_SEEN, SAFETY_STO_STAT_ACK_NEED], (PWM_STAT_STATE n).key ≠ f.key := by decide
  obtain ⟨silent, stage, sto', aux⟩ := free n hn
  have apart := noted i hi n hn
  simp only [List.forall_mem_cons] at apart
  obtain ⟨level, disc, timer, done, held, holdBit, seen, need, -⟩ := apart
  have state : (stoHeldOff i s).get (PWM_STAT_STATE n) = s.get (PWM_STAT_STATE n) := by
    rw [stoHeldOff, (raiseEvent_reports _ _).get _ silent, stoApply_get stage sto' aux, stoNoted, State.get_set_ne _ _ _ _ need,
      State.get_set_ne _ _ _ _ seen, State.get_set_ne _ _ _ _ holdBit, State.setBit, State.get_set_ne _ _ _ _ held, State.get_set_ne _ _ _ _ done,
      stoInput_get level disc timer]
  have here : (stoHeldOff i s).get safStoMap = s.get safStoMap := (stoHeldOff_safety (by decide) (by decide) i s).trans sameMap
  have struck : n ∈ stoStruck i (stoHeldOff i s) := by
    refine List.mem_filter.2 ⟨mem_stalls.2 hn, ?_⟩
    rw [here, map, switching, state]
    obtain live | live := live <;> rw [live] <;> rfl
  exact faults_three stalls struck (by unfold Going; omega) (by decide) (by decide)

/-! ### The end of the holds (R320) -/

theorem exec_stoRise {i : Fin 2} (s : State) : exec (.stoRise i) s = .next (s.when (stoActive i s) fun s => stoTryEnd (stoInput i false s)) := rfl

theorem stoTryEnd_none (h : s.get safStoHeld = 0 ∨ stoActive 0 s = true ∨ stoActive 1 s = true ∨ s.get SAFETY_STO_STAT_DISC ≠ 0) :
    stoTryEnd s = s.set SAFETY_STO_STAT_ACK_NEED 0 := by
  rw [← flag_eq_true_iff] at h
  exact if_pos h

section End
variable (held : s.get safStoHeld ≠ 0) (open0 : stoActive 0 s = false) (open1 : stoActive 1 s = false) (agree : s.get SAFETY_STO_STAT_DISC = 0)
include held open0 open1 agree

theorem stoTryEnd_held : stoTryEnd s = if ((stoRestart s || s.flag safDiscAck) && !s.flag safAckDone) = true then s.set SAFETY_STO_STAT_ACK_NEED 1
    else stoApply ((((s.set safStoHeld 0).set SAFETY_STO_STAT_HOLD 0).set SAFETY_STO_STAT_ACK_NEED 0).set safDiscAck 0) :=
  if_neg (by rw [open0, open1, (flag_eq_false_iff _ _).2 agree]; simpa using held)

/-- An acknowledgement is missing. -/
theorem stoTryEnd_waits (asks : stoRestart s = true ∨ s.get safDiscAck ≠ 0) (none : s.get safAckDone = 0) :
    stoTryEnd s = s.set SAFETY_STO_STAT_ACK_NEED 1 := by
  have missing : ((stoRestart s || s.flag safDiscAck) && !s.flag safAckDone) = true := by
    rw [(flag_eq_false_iff _ _).2 none, Bool.not_false, Bool.and_true, Bool.or_eq_true, flag_eq_true_iff]
    exact asks
  rw [stoTryEnd_held held open0 open1 agree, if_pos missing]

/-- The holds end: no Stall shows one. -/
theorem stoTryEnd_ends (free : (stoRestart s = false ∧ s.get safDiscAck = 0) ∨ s.get safAckDone ≠ 0) : (stoTryEnd s).get safStoHeld = 0 ∧
    (stoTryEnd s).get SAFETY_STO_STAT_HOLD = 0 ∧ (stoTryEnd s).get SAFETY_STO_STAT_ACK_NEED = 0 ∧
    ∀ n < 4, (stoTryEnd s).get (PROT_STAT_STO n) = 0 := by
  have allowed : ¬((stoRestart s || s.flag safDiscAck) && !s.flag safAckDone) = true := by
    obtain ⟨restart, disc⟩ | done := free
    · rw [restart, (flag_eq_false_iff _ _).2 disc]; exact Bool.false_ne_true
    · rw [(flag_eq_true_iff _ _).2 done, Bool.not_true, Bool.and_false]; exact Bool.false_ne_true
  rw [stoTryEnd_held held open0 open1 agree, if_neg allowed]
  have heldZero : ((((s.set safStoHeld 0).set SAFETY_STO_STAT_HOLD 0).set SAFETY_STO_STAT_ACK_NEED 0).set safDiscAck 0).get safStoHeld = 0 := by
    simp (disch := decide) only [State.get_set_ne, State.get_set_zero]
  refine ⟨?_, ?_, ?_, fun n hn => ?_⟩
  · rw [stoApply_aux_get (by decide), stoStalls_safety (by decide), heldZero]
  · rw [stoApply_get (by decide) (by decide) (by decide)]
    simp (disch := decide) only [State.get_set_ne, State.get_set_zero]
  · rw [stoApply_get (by decide) (by decide) (by decide)]
    simp (disch := decide) only [State.get_set_ne, State.get_set_zero]
  · have none : ∀ i, bitAt 0 i = false := fun i => by rw [bitAt_eq_testBit, Nat.zero_testBit]
    rw [stoApply_shown hn, stoMapped, heldZero, none, none]; rfl

end End

/-! ### The discrepancy of the inputs (R319) -/

/-- Whether the inputs have differed for `STO_DISC` ms. -/
def stoDiffers (s : State) : Bool := passedSince safOneAt (stoDisc s * 200000) s && !s.flag SAFETY_STO_STAT_DISC

/-- The discrepancy latched, recorded and reported. -/
def stoDiscNoted (s : State) : State :=
  raiseEvent 0x034 (recordFault (yardCode 6 7) .stallSafe ((s.set SAFETY_STO_STAT_DISC 1).set safDiscAck 1))

/-- The Stalls that either map names. -/
def stoNamed (m : Nat) : List Nat := [0, 1, 2, 3].filter fun n => bitAt m n || bitAt m (8 + n)

theorem exec_evStoDisc (s : State) : exec .evStoDisc s = .next (s.when (stoDiffers s) fun s =>
    (stoDiscNoted s).each (stoNamed ((stoDiscNoted s).get safStoMap)) fun n => stallSafe n (yardCode 6 7)) := rfl

theorem exec_evStoDisc_none (h : s.get safOneAt = 0 ∨ s.now < s.get safOneAt - 1 + stoDisc s * 200000 ∨ s.get SAFETY_STO_STAT_DISC ≠ 0) :
    exec .evStoDisc s = .next s := by
  have rests : stoDiffers s = false := by
    rw [stoDiffers, passedSince, Bool.and_eq_false_iff, Bool.and_eq_false_iff, bne_eq_false_iff_eq, decide_eq_false_iff_not, Bool.not_eq_false',
      flag_eq_true_iff, Nat.not_le]
    exact or_assoc.2 h
  rw [exec_evStoDisc, rests, State.when_false]

theorem stoDiscNoted_get (silent : reported (g.key / 32) = false) (s : State) :
    (stoDiscNoted s).get g = ((s.set SAFETY_STO_STAT_DISC 1).set safDiscAck 1).get g := by
  rw [stoDiscNoted, (raiseEvent_reports _ _).get g silent, (recordFault_reports _ _ _).get g silent]

/-- Inputs that have differed too long are latched as such, and every Stall that a map names leaves switching. -/
theorem exec_evStoDisc_due (differ : s.get safOneAt ≠ 0) (long : s.get safOneAt - 1 + stoDisc s * 200000 ≤ s.now)
    (first : s.get SAFETY_STO_STAT_DISC = 0) : ∃ t, exec .evStoDisc s = .next t ∧ t.get SAFETY_STO_STAT_DISC = 1 ∧ t.get safDiscAck = 1 ∧
      ∀ n < 4, bitAt (s.get safStoMap) n = true ∨ bitAt (s.get safStoMap) (8 + n) = true →
        s.get (PWM_STAT_STATE n) = 1 ∨ s.get (PWM_STAT_STATE n) = 2 → t.get (PWM_STAT_STATE n) = 3 := by
  have due : stoDiffers s = true := by
    rw [stoDiffers, passedSince, bne_iff_ne.2 differ, decide_eq_true long, (flag_eq_false_iff _ _).2 first]; rfl
  have stalls : ∀ m, ∀ n ∈ stoNamed m, n < 4 := fun m n hn => mem_stalls.1 (List.mem_filter.1 hn).1
  have map : (stoDiscNoted s).get safStoMap = s.get safStoMap := by
    rw [stoDiscNoted_get (by decide)]
    simp (disch := decide) only [State.get_set_ne]
  refine ⟨_, by rw [exec_evStoDisc, due, State.when_true], ?_, ?_, fun n hn named live => ?_⟩
  · refine ((EntryKeeps.field (by decide +kernel) _).causes (stalls _) _ rfl).trans ?_
    rw [stoDiscNoted_get (by decide), State.get_set_ne _ _ _ _ (by decide), State.get_set_one rfl]
  · refine ((EntryKeeps.safety (by decide) _).causes (stalls _) _ rfl).trans ?_
    rw [stoDiscNoted_get (by decide), State.get_set_one rfl]
  · have free : ∀ n < 4, reported ((PWM_STAT_STATE n).key / 32) = false ∧ (PWM_STAT_STATE n).key ≠ SAFETY_STO_STAT_DISC.key ∧
        (PWM_STAT_STATE n).key ≠ safDiscAck.key := by decide
    obtain ⟨silent, disc, ack⟩ := free n hn
    have state : (stoDiscNoted s).get (PWM_STAT_STATE n) = s.get (PWM_STAT_STATE n) := by
      rw [stoDiscNoted_get silent, State.get_set_ne _ _ _ _ ack, State.get_set_ne _ _ _ _ disc]
    refine causes_three (stalls _) (List.mem_filter.2 ⟨mem_stalls.2 hn, ?_⟩) (by unfold Going; omega) _
    rw [map, Bool.or_eq_true]
    exact named

/-! ### STO_ACK (R320) -/

theorem exec_stoAck (s : State) : exec .stoAck s = .next (s.cmdStart stoCmd 1
    (!stoActive 0 s && !stoActive 1 s && !s.flag SAFETY_STO_STAT_DISC) stDone (fun s => stoTryEnd (s.set safAckDone 1)) id) := rfl

theorem exec_stoAck_taken (idle : s.get SAFETY_STO_CMD_STATUS ≠ stBusy) (open0 : stoActive 0 s = false) (open1 : stoActive 1 s = false)
    (agree : s.get SAFETY_STO_STAT_DISC = 0) : exec .stoAck s = .next (stoTryEnd ((s.cmdSet stoCmd 1 stDone).set safAckDone 1)) := by
  have ok : (!stoActive 0 s && !stoActive 1 s && !s.flag SAFETY_STO_STAT_DISC) = true := by
    rw [open0, open1, (flag_eq_false_iff _ _).2 agree]; rfl
  rw [exec_stoAck, ok, cmdStart_run (r := stoCmd) idle]

theorem exec_stoAck_refused (idle : s.get SAFETY_STO_CMD_STATUS ≠ stBusy)
    (h : stoActive 0 s = true ∨ stoActive 1 s = true ∨ s.get SAFETY_STO_STAT_DISC ≠ 0) : exec .stoAck s = .next (s.cmdSet stoCmd 1 stRefused) := by
  have no : (!stoActive 0 s && !stoActive 1 s && !s.flag SAFETY_STO_STAT_DISC) = false := by
    rw [Bool.and_eq_false_iff, Bool.and_eq_false_iff, Bool.not_eq_false', Bool.not_eq_false', Bool.not_eq_false', flag_eq_true_iff]
    exact or_assoc.2 h
  rw [exec_stoAck, no, cmdStart_refused (r := stoCmd) idle, id]

end Edges
end Sys2Proof.Machine
end

section
/-!
The device-safe latch, the Sheepdog's commands and the STO inputs: O42.
-/

namespace Sys2Proof.Machine
open Reg

/-- Settles O42: the latch by what it sets and what outlasts the entries that follow, the commands field by field, and the holds by their inputs. -/
theorem deviceSafeAndStoHold : Obligations.DeviceSafeAndStoHold := by
  refine ⟨fun s => ⟨rfl, rfl⟩, fun code s fits first => ?latch, fun code s set ds5 ds6 => ?kept, fun v s bad => ?undefined, fun v s set low => ?floor,
    fun v s defined floor => ?written, fun v s hv agree => ?commands, fun c s => ⟨fun lo hi => ?raised, fun out => ?unknown⟩,
    fun c s lo hi => ?firmware, fun i s => exec_evSto_again, fun i s inactive => ?edge, fun n i s hn hi map held => ?off,
    fun i s => ⟨fun active => ?rise, fun inactive => ?rests⟩, fun i b s hi => stoInput_active hi b s,
    fun s => ⟨stoTryEnd_none, fun held open0 open1 agree => ⟨stoTryEnd_waits held open0 open1 agree, stoTryEnd_ends held open0 open1 agree⟩⟩,
    fun s => ⟨exec_evStoDisc_due, exec_evStoDisc_none⟩, fun s idle => ⟨exec_stoAck_taken idle, exec_stoAck_refused idle⟩⟩
  case latch =>
    have told := recordFault_reports code .deviceSafe s
    have ds : (recordFault code .deviceSafe s).get SAFETY_STAT_DS = 0 := (told.get _ (by decide)).trans first
    have silent : ∀ n < 4, reported ((PWM_STAT_STATE n).key / 32) = false := by decide
    obtain ⟨set, cause, time⟩ := setDeviceSafe_latch ds fits
    refine ⟨set, cause, time.trans (congrArg BitVec.toNat told.now), fun n hn => ⟨setDeviceSafe_shown hn ds code, fun live => ?_⟩⟩
    exact setDeviceSafe_three hn ds (by rwa [told.get _ (silent n hn)]) code
  case kept =>
    rw [setDeviceSafe_again set, beq_false_of_ne ds5, beq_false_of_ne ds6]; rfl
  case undefined =>
    obtain ⟨n, hn, three⟩ := bad
    rw [exec_evShdCmd, if_neg fun ok => (shdCmdOk_iff.1 ok).1 n hn three]
  case floor =>
    obtain ⟨n, hn, below⟩ := low
    rw [exec_evShdCmd, if_neg fun ok => (shdCmdOk_iff.1 ok).2.elim set fun h => absurd (h n hn) (Nat.not_le.2 below)]
  case written => rw [exec_evShdCmd, if_pos (shdCmdOk_iff.2 ⟨defined, floor⟩)]
  case commands =>
    obtain ⟨word, fields⟩ := shdCommands_reads hv agree
    exact ⟨word, fun n hn => ⟨fields n hn, fun none some live => shdCommands_three hn agree none some live⟩⟩
  case raised => rw [exec_safetyRaise, if_pos ⟨lo, hi⟩]
  case unknown => rw [exec_safetyRaise, if_neg (by omega)]
  case firmware =>
    obtain ⟨raised, last⟩ := fwRaise_shown (c := c) (by omega) s
    exact ⟨raised, last, fwRaise_commands⟩
  case edge =>
    obtain ⟨active, held, hold, seen, need⟩ := stoEdge_shows i.isLt s
    exact ⟨_, exec_evSto_first inactive, active, held, hold, seen, need, fun n hn map => stoEdge_holds i.isLt hn map⟩
  case off =>
    rw [stoMapped_of_bits hi map held]
    exact wantedLines_held (State.get_setB_same rfl s true)
  case rise => rw [exec_stoRise, active, State.when_true]
  case rests => rw [exec_stoRise, inactive, State.when_false]

end Sys2Proof.Machine
end

section
/-!
SUPPORT. The Sheepdog's cycle (R304, R306, R339): the snapshots it takes, its checks case by case, and the kicks of its watchdog.
-/

namespace Sys2Proof.Machine
open Reg

section Snapshot
variable {n m : Nat} {s t : State}

/-- In a list that names each number once, the turn of `n` makes `Q` of `P`, and only the other numbers come after it. -/
theorem reaches_once {P Q : State → Prop} {l : List Nat} {F : Nat → State → State} {n : Nat} {s : State} (hn : n ∈ l) (once : l.Nodup) (h : P s)
    (before : ∀ i ∈ l, i ≠ n → ∀ t, P t → P (F i t)) (turn : ∀ t, P t → Q (F n t))
    (after : ∀ i ∈ l, i ≠ n → ∀ t, Q t → Q (F i t)) : Q (s.each l F) := by
  obtain ⟨l₁, l₂, rfl⟩ := List.append_of_mem hn
  obtain ⟨-, ⟨later, -⟩, earlier⟩ := by simpa only [List.nodup_append, List.nodup_cons] using once
  have split : s.each (l₁ ++ n :: l₂) F = (F n (s.each l₁ F)).each l₂ F := by
    simp only [State.each, List.foldl_append, List.foldl_cons]
  rw [split]
  refine holds_each (turn _ (holds_each h fun i hi => ?_)) fun i hi => ?_
  · exact before i (List.mem_append_left _ hi) (earlier i hi n List.mem_cons_self)
  · exact after i (List.mem_append_right _ (List.mem_cons_of_mem _ hi)) fun e => later (e ▸ hi)

/-! ### The snapshots (R304) -/

/-- Keys that neither the cycle's start nor the snapshots of the other Stalls write. -/
def cycleBeside (n k : Nat) : Bool :=
  (decide (k < 0x40058000 * 32) || decide (0x4005A000 * 32 ≤ k)) && k != shdCycAt.key && [0, 1, 2, 3].all fun m => m == n || k != (posMismSeen m).key

/-- `t` reads like `s` wherever the snapshot of Stall `n` reads. -/
def SnapSame (n : Nat) (s t : State) : Prop := ∀ f : Fld, cycleBeside n f.key = true → t.get f = s.get f

theorem SnapSame.set {f : Fld} (h : SnapSame n s t) (hf : cycleBeside n f.key = false) (v : Nat) : SnapSame n s (t.set f v) := fun g hg =>
  (State.get_set_ne _ _ _ _ fun e => by rw [e, hf] at hg; exact Bool.noConfusion hg).trans (h g hg)

theorem State.geti_congr {f : Fld} {s t : State} (h : t.get f = s.get f) : t.geti f = s.geti f := congrArg (sext f.width) h

theorem State.getF_congr {f : Fld} {s t : State} (h : t.get f = s.get f) : t.getF f = s.getF f := congrArg (BitVec.ofNat 32) h

theorem slotM_eq (n q : Nat) (s : State) : slotM n q s = if slotHasMod n q s = true then
    some (physical (s.geti (MOD_INi_COR_COR n (s.get (SENSE_Qq_CFG_MODIN n q)))) (s.getF (MOD_INi_SCALE_SCALE n (s.get (SENSE_Qq_CFG_MODIN n q)))))
    else none := rfl

section Same
variable (hn : n < 4) (same : SnapSame n s t)
include hn same

/-- A field of Stall `n` beside the cycle's own reads the same. -/
theorem SnapSame.read {F : Nat → Fld} (beside : ∀ n < 4, cycleBeside n (F n).key = true) : t.get (F n) = s.get (F n) := same _ (beside n hn)

/-- So does each of a family of `k` of them. -/
theorem SnapSame.each {F : Nat → Nat → Fld} {k i : Nat} (hi : i < k) (beside : ∀ n < 4, ∀ i < k, cycleBeside n (F n i).key = true) :
    t.get (F n i) = s.get (F n i) := same _ (beside n hn i hi)

theorem slotHasMod_same {q : Nat} (hq : q < 4) : slotHasMod n q t = slotHasMod n q s := by
  unfold slotHasMod
  dsimp only
  rw [same.each hn (F := SENSE_Qq_CFG_MODIN) hq (by decide +kernel)]
  by_cases hi : s.get (SENSE_Qq_CFG_MODIN n q) < 6
  · rw [State.flag_congr (same.each hn (F := MOD_INi_MAIN_VALID) hi (by decide +kernel))]
  · rw [decide_eq_false hi, Bool.false_and, Bool.false_and]

theorem snapQ_same {q : Nat} (hq : q < 4) : snapQ n q t = snapQ n q s := by
  have ch := State.get_lt s (SENSE_Qq_CFG_CH n q)
  have slot : slotM n q t = slotM n q s := by
    rw [slotM_eq, slotM_eq, slotHasMod_same hn same hq, same.each hn (F := SENSE_Qq_CFG_MODIN) hq (by decide +kernel)]
    split
    · next has =>
      have hi : s.get (SENSE_Qq_CFG_MODIN n q) < 6 := of_decide_eq_true ((Bool.and_eq_true _ _).mp has).1
      rw [State.geti_congr (same.each hn (F := MOD_INi_COR_COR) hi (by decide +kernel)),
        State.getF_congr (same.each hn (F := MOD_INi_SCALE_SCALE) hi (by decide +kernel))]
    · rfl
  unfold snapQ
  dsimp only
  rw [slot, same.each hn (F := SENSE_Qq_CFG_CH) hq (by decide +kernel),
    State.geti_congr (same.each hn (F := SENSE_CHk_COR_COR) (k := 16) ch (by decide +kernel)),
    State.getF_congr (same.each hn (F := SENSE_CHk_SCALE_SCALE) (k := 16) ch (by decide +kernel))]

theorem posWord_same : posWord n t = posWord n s := by
  simp only [posWord, same.read hn (F := posLatFlags) (by decide +kernel), same.read hn (F := POS_ANG_ANGLE) (by decide +kernel),
    same.read hn (F := posMismSeen) (by decide +kernel)]

theorem carrierOn_same : carrierOn n t = carrierOn n s := by
  simp only [carrierOn, State.flag, same.read hn (F := PWM_STAT_STATE) (by decide +kernel), same.read hn (F := pwmAwait) (by decide +kernel)]

theorem shdMons_same : shdMons n t = shdMons n s := List.filter_congr fun m hm =>
  State.flag_congr (same.each hn (F := MON_Mm_ROUTE_SHD) (List.mem_range.1 hm) (by decide +kernel))

theorem shdWords_same : shdWords n t = shdWords n s := by
  have stat : wordOf (protStatFields n) t = wordOf (protStatFields n) s := by
    have beside : ∀ n < 4, ∀ f ∈ protStatFields n, cycleBeside n f.key = true := by decide +kernel
    exact congrArg List.sum (List.map_congr_left fun f hf => by rw [same f (beside n hn f hf)])
  have mons : ∀ m ∈ shdMons n s, m < 12 := fun m hm => List.mem_range.1 (List.mem_filter.1 hm).1
  have paths : [0, 1, 2, 3].map (fun q => t.get (SENSE_Qq_CFG_PATH n q) * 2 ^ (8 + 2 * q)) =
      [0, 1, 2, 3].map fun q => s.get (SENSE_Qq_CFG_PATH n q) * 2 ^ (8 + 2 * q) :=
    List.map_congr_left fun q hq => by rw [same.each hn (F := SENSE_Qq_CFG_PATH) (mem_stalls.1 hq) (by decide +kernel)]
  have valid : (List.range 6).map (fun i => t.get (MOD_INi_MAIN_VALID n i) * 2 ^ (16 + i)) =
      (List.range 6).map fun i => s.get (MOD_INi_MAIN_VALID n i) * 2 ^ (16 + i) :=
    List.map_congr_left fun i hi => by rw [same.each hn (F := MOD_INi_MAIN_VALID) (List.mem_range.1 hi) (by decide +kernel)]
  have latched : (shdMons n s).map (fun m => t.get (MON_Mm_STAT_LATCHED n m) * 2 ^ m) =
      (shdMons n s).map fun m => s.get (MON_Mm_STAT_LATCHED n m) * 2 ^ m :=
    List.map_congr_left fun m hm => by rw [same.each hn (F := MON_Mm_STAT_LATCHED) (mons m hm) (by decide +kernel)]
  have states : (shdMons n s).map (fun m => t.get (MON_Mm_STAT_STATE n m) * 4 ^ m) =
      (shdMons n s).map fun m => s.get (MON_Mm_STAT_STATE n m) * 4 ^ m :=
    List.map_congr_left fun m hm => by rw [same.each hn (F := MON_Mm_STAT_STATE) (mons m hm) (by decide +kernel)]
  simp only [shdWords, stat, shdMons_same hn same, paths, valid, latched, states, same.read hn (F := PWM_STAT_STATE) (by decide +kernel)]

/-- What the cycle's start and the other Stalls' snapshots write is not in the snapshot. -/
theorem snapWords_same : snapWords n t = snapWords n s := by
  have lat : (List.range 4).map (fun w => t.get (shdLat n w)) = (List.range 4).map fun w => s.get (shdLat n w) :=
    List.map_congr_left fun w hw => same.each hn (F := shdLat) (List.mem_range.1 hw) (by decide +kernel)
  have safety : t.flag (POS_CTRL_SAFETY n) = s.flag (POS_CTRL_SAFETY n) := State.flag_congr (same.read hn (F := POS_CTRL_SAFETY) (by decide +kernel))
  simp only [snapWords]
  rw [lat, safety, snapQ_same hn same (show 0 < 4 by decide), snapQ_same hn same (show 1 < 4 by decide),
    snapQ_same hn same (show 2 < 4 by decide), snapQ_same hn same (show 3 < 4 by decide), posWord_same hn same, carrierOn_same hn same,
    shdWords_same hn same, same.read hn (F := POS_CTRL_SAFETY) (by decide +kernel), same.read hn (F := POS_SPD_SPD) (by decide +kernel),
    same.read hn (F := posLatTrav) (by decide +kernel), same.read hn (F := senTrigAt) (by decide +kernel)]

end Same

theorem SnapSame.taken (h : SnapSame n s t) (hn : n < 4) (hm : m < 4) (other : m ≠ n) : SnapSame n s (snapTake m t) := by
  have word : ∀ n < 4, ∀ m < 4, ∀ w < 16, cycleBeside n (SHD_SNAP_n_w_W m w).key = false := by decide +kernel
  have seen : ∀ n < 4, ∀ m < 4, m ≠ n → cycleBeside n (posMismSeen m).key = false := by decide +kernel
  exact SnapSame.set (holds_each h fun w hw _ hu => hu.set (word n hn m hm w (List.mem_range.1 hw)) _) (seen n hn m hm other) 0

theorem snapTake_reads (hn : n < 4) {w : Nat} (hw : w < 16) (s : State) :
    (snapTake n s).get (SHD_SNAP_n_w_W n w) = (snapWords n s).getD w 0 % 2 ^ 32 := by
  have seen : ∀ n < 4, ∀ w < 16, (SHD_SNAP_n_w_W n w).key ≠ (posMismSeen n).key := by decide +kernel
  rw [snapTake, State.get_set_ne _ _ _ _ (seen n hn w hw)]
  exact State.get_each_set (f := SHD_SNAP_n_w_W n) (fun i j h => by simp only [SHD_SNAP_n_w_W, Fld.key]; omega) _ hw s

/-- The snapshots leave what is neither a snapshot nor the mark of a mismatch. -/
theorem snapTake_get {g : Fld} (words : ∀ w < 16, g.key ≠ (SHD_SNAP_n_w_W n w).key) (seen : g.key ≠ (posMismSeen n).key) (s : State) :
    (snapTake n s).get g = s.get g :=
  (State.get_set_ne _ _ _ _ seen).trans (holds_each (P := fun t => t.get g = s.get g) rfl fun w hw _ h =>
    (State.get_set_ne _ _ _ _ (words w (List.mem_range.1 hw))).trans h)

/-- Every Stall's snapshot holds its words of the instant before the first is taken. -/
theorem snapshots_read (hn : n < 4) {w : Nat} (hw : w < 16) (same : SnapSame n s t) :
    (t.each [0, 1, 2, 3] snapTake).get (SHD_SNAP_n_w_W n w) = (snapWords n s).getD w 0 % 2 ^ 32 := by
  have seen : ∀ n < 4, ∀ w < 16, ∀ m < 4, (SHD_SNAP_n_w_W n w).key ≠ (posMismSeen m).key := by decide +kernel
  refine reaches_once (P := SnapSame n s) (Q := fun t => t.get (SHD_SNAP_n_w_W n w) = (snapWords n s).getD w 0 % 2 ^ 32) (mem_stalls.2 hn)
    (by decide) same (fun m hm other t h => h.taken hn (mem_stalls.1 hm) other) (fun t h => ?_) fun m hm other t h => ?_
  · rw [snapTake_reads hn hw, snapWords_same hn h]
  · rwa [snapTake_get (fun x hx => by simp only [SHD_SNAP_n_w_W, Fld.key]; omega) (seen n hn w hw m (mem_stalls.1 hm))]

end Snapshot
end Sys2Proof.Machine
end

section
/-!
SUPPORT. The Sheepdog's cycle and its watchdog (R304, R306, R336, R339): what the checks leave, and each check case by case.
-/

namespace Sys2Proof.Machine
open Reg

section Checks
variable {g : Fld} {n osc k : Nat} {s : State}

/-! ### What the checks leave -/

/-- Where the oscillator count is outside its band. -/
def oscBad (osc : Nat) : Bool := decide (osc < 720) || decide (880 < osc)

/-- The count noted. -/
def oscNoted (osc : Nat) (s : State) : State := (s.set SHD_OSC_COUNT osc).setB SHD_STAT_OSC_ERR (oscBad osc)

theorem oscCheck_good (h : oscBad osc = false) : oscCheck osc s = ((s.set SHD_OSC_COUNT osc).set SHD_STAT_OSC_ERR 0).set oscRun 0 := by
  have other : oscCheck osc s = (oscNoted osc s).set oscRun 0 := if_neg (ne_of_eq_of_ne h Bool.false_ne_true)
  rw [other, oscNoted, h]; rfl

theorem oscCheck_bad (h : oscBad osc = true) : oscCheck osc s =
    (((s.set SHD_OSC_COUNT osc).set SHD_STAT_OSC_ERR 1).set oscRun (min 3 (s.get oscRun + 1))).when (min 3 (s.get oscRun + 1) == 2)
      (raiseFault 0x0602 .deviceSafe) := by
  have small : min 3 (s.get oscRun + 1) < 2 ^ oscRun.width := Nat.lt_succ_of_le (Nat.min_le_left 3 _)
  have run : (oscNoted osc s).get oscRun = s.get oscRun := by
    rw [oscNoted, State.get_setB_ne (by decide), State.get_set_ne _ _ _ _ (by decide)]
  have read : ((oscNoted osc s).set oscRun (min 3 (s.get oscRun + 1))).get oscRun = min 3 (s.get oscRun + 1) := State.get_set_of_lt small _
  have this : oscCheck osc s = ((oscNoted osc s).set oscRun (min 3 ((oscNoted osc s).get oscRun + 1))).when
      (((oscNoted osc s).set oscRun (min 3 ((oscNoted osc s).get oscRun + 1))).get oscRun == 2) (raiseFault 0x0602 .deviceSafe) := if_pos h
  rw [this, run, read, oscNoted, h]; rfl

/-- What the oscillator's check writes beside a device-safe fault. -/
def oscFields : List Fld := [SHD_OSC_COUNT, SHD_STAT_OSC_ERR, oscRun]

theorem oscCheck_get (unwritten : entryKey g.key = false) (apart : ∀ f ∈ fwWritten, g.key ≠ f.key) (own : ∀ f ∈ oscFields, g.key ≠ f.key)
    (osc : Nat) (s : State) : (oscCheck osc s).get g = s.get g := by
  simp only [oscFields, List.forall_mem_cons] at own
  obtain ⟨count, err, run, -⟩ := own
  by_cases h : oscBad osc = true
  · rw [oscCheck_bad h, State.get_when (raiseDeviceSafe_get unwritten apart _ _), State.get_set_ne _ _ _ _ run, State.get_set_ne _ _ _ _ err,
      State.get_set_ne _ _ _ _ count]
  · rw [oscCheck_good (Bool.eq_false_iff.2 h), State.get_set_ne _ _ _ _ run, State.get_set_ne _ _ _ _ err, State.get_set_ne _ _ _ _ count]

/-- The count is to be read after its check. -/
theorem oscCheck_count (osc : Nat) (s : State) : (oscCheck osc s).get SHD_OSC_COUNT = osc % 2 ^ 16 := by
  have read : ∀ a b, (((s.set SHD_OSC_COUNT osc).set SHD_STAT_OSC_ERR a).set oscRun b).get SHD_OSC_COUNT = osc % 2 ^ 16 := fun a b => by
    rw [State.get_set_ne _ _ _ _ (by decide), State.get_set_ne _ _ _ _ (by decide), State.get_set_same]; rfl
  by_cases h : oscBad osc = true
  · rw [oscCheck_bad h, State.get_when (raiseDeviceSafe_get (by decide +kernel) (by decide +kernel) _ _), read]
  · rw [oscCheck_good (Bool.eq_false_iff.2 h), read]

/-- What straps that end a sealing write, beside the report. -/
def strapFields : List Fld := [SAFETY_STAT_STRAP, SAFETY_SEAL_STAT_ERR, SAFETY_SEAL_STAT_WORD, SAFETY_SEAL_CMD_STATUS]

theorem sealFails_get (err : g.key ≠ SAFETY_SEAL_STAT_ERR.key) (word : g.key ≠ SAFETY_SEAL_STAT_WORD.key) (status : g.key ≠ SAFETY_SEAL_CMD_STATUS.key)
    (e : Nat) (s : State) : (sealFails e s).get g = s.get g := by
  have ended : (sealFails e s).get g = (((s.set SAFETY_SEAL_STAT_ERR e).set SAFETY_SEAL_STAT_WORD (Config.fresh s.freeCount).toNat)).get g :=
    State.get_set_ne _ _ _ _ status
  rw [ended, State.get_set_ne _ _ _ _ word, State.get_set_ne _ _ _ _ err]

/-- The straps noted, and a run of the sealing ended by them. -/
def strapNoted (k : Nat) (s : State) : State := sealStraps (s.set SAFETY_STAT_STRAP k)

theorem strapCheck_eq (k : Nat) (s : State) : strapCheck k s = if (strapNoted k s).flag safBooted = true ∧ (strapNoted k s).get safStrapRep ≠ k then
    ((strapNoted k s).set safStrapRep k).when (k != ((strapNoted k s).set safStrapRep k).get SAFETY_STAT_STRAP_BOOT) (raiseFault 0x0608 .ride)
    else strapNoted k s := rfl

theorem strapNoted_get (own : ∀ f ∈ strapFields, g.key ≠ f.key) (k : Nat) (s : State) : (strapNoted k s).get g = s.get g := by
  simp only [strapFields, List.forall_mem_cons] at own
  obtain ⟨strap, err, word, status, -⟩ := own
  rw [strapNoted, sealStraps, State.get_when (sealFails_get err word status _ _), State.get_set_ne _ _ _ _ strap]

theorem strapReport_get (silent : reported (g.key / 32) = false) (c : Bool) (s : State) : (s.when c (raiseFault 0x0608 .ride)).get g = s.get g :=
  State.get_when ((raiseFault_ride_reports _ _).get g silent) c

theorem strapCheck_get (silent : reported (g.key / 32) = false) (own : ∀ f ∈ strapFields, g.key ≠ f.key) (rep : g.key ≠ safStrapRep.key) (k : Nat)
    (s : State) : (strapCheck k s).get g = s.get g := by
  rw [strapCheck_eq]
  split
  · rw [strapReport_get silent, State.get_set_ne _ _ _ _ rep, strapNoted_get own]
  · exact strapNoted_get own k s

theorem strapNoted_strap (k : Nat) (s : State) : (strapNoted k s).get SAFETY_STAT_STRAP = k % 16 := by
  rw [strapNoted, sealStraps, State.get_when (sealFails_get (by decide) (by decide) (by decide) _ _), State.get_set_same]; rfl

theorem strapCheck_strap (k : Nat) (s : State) : (strapCheck k s).get SAFETY_STAT_STRAP = k % 16 := by
  rw [strapCheck_eq]
  split
  · rw [strapReport_get (by decide), State.get_set_ne _ _ _ _ (by decide), strapNoted_strap]
  · exact strapNoted_strap k s

/-- What a discharge of Stall `n` for the Sheepdog writes. -/
def disFields (n : Nat) : List Fld :=
  [safDisWait, safDisRpt, safDisRptAt, disEacc, disEaccSec, auxDisRun, PROT_DIS_STAT_PATH n, protDisReq n, protDisAt n, PROT_DIS_EACC_E n]

theorem governing_lt : (governing s).getD 0 < 4 := by
  cases h : governing s with
  | none => decide
  | some n => exact Reports.firstBelow_lt (p := fun n => s.flag (PROT_LINK_CFG_MEMBER n) && s.get (PWM_STAT_STATE n) != 4) h

section Discharge
variable (own : ∀ n < 4, ∀ f ∈ disFields n, g.key ≠ f.key)
include own

theorem eaccShow_get (s : State) : (eaccShow s).get g = s.get g :=
  holds_each (P := fun t => t.get g = s.get g) rfl fun n hn _ h =>
    (State.get_when_set_ne (own n (mem_stalls.1 hn) (PROT_DIS_EACC_E n) (by simp [disFields])) _ _ _).trans h

theorem eaccSet_get (x : F32) (s : State) : (eaccSet x s).get g = s.get g := by
  rw [eaccSet, eaccShow_get own, State.get_set_ne _ _ _ _ (own 0 (by decide) _ (by simp [disFields])),
    State.get_setF_ne (own 0 (by decide) _ (by simp [disFields]))]

theorem dischargeStart_get (hn : n < 4) (path : Nat) (safety : Bool) (s : State) : (dischargeStart n path safety s).get g = s.get g := by
  have here : ∀ f ∈ disFields n, g.key ≠ f.key := own n hn
  simp only [disFields, List.forall_mem_cons] at here
  obtain ⟨-, -, -, -, -, runs, shown, asked, time, -⟩ := here
  unfold dischargeStart
  dsimp only
  rw [State.get_set_ne _ _ _ _ time, State.get_setB_ne asked, State.get_setB_ne runs, State.get_set_ne _ _ _ _ shown]
  exact holds_when (P := fun t => t.get g = s.get g) rfl fun _ => eaccSet_get own _ _

theorem safetyDischarge_get (silent : reported (g.key / 32) = false) (s : State) : (safetyDischarge s).get g = s.get g := by
  have first : ∀ f ∈ disFields 0, g.key ≠ f.key := own 0 (by decide)
  simp only [disFields, List.forall_mem_cons] at first
  obtain ⟨-, rpt, rptAt, -⟩ := first
  unfold safetyDischarge
  refine holds_ite (P := fun t => t.get g = s.get g) rfl (holds_ite (P := fun t => t.get g = s.get g) ?_ ?_)
  · rw [raiseRide_get silent, State.get_set_ne _ _ _ _ rptAt, State.get_set_ne _ _ _ _ rpt]
  · rw [dischargeStart_get own governing_lt, State.get_set_ne _ _ _ _ rpt]

theorem disCheck_get (silent : reported (g.key / 32) = false) (s : State) : (disCheck s).get g = s.get g :=
  holds_when (P := fun t => t.get g = s.get g) rfl fun _ =>
    (safetyDischarge_get own silent _).trans (State.get_set_ne _ _ _ _ (own 0 (by decide) safDisWait (by simp [disFields])))

end Discharge

/-! ### The cycle (R304) -/

/-- The cycle begun: counted, the corrected errors noted, and the snapshots taken. -/
def cycleBegun (ce : Nat) (s : State) : State := ((s.set shdCycAt (s.now + 1)).set SHD_CYCLE_COUNT (s.get SHD_CYCLE_COUNT + 1)).addSat SHD_STAT_CE ce

def cycleTaken (ce : Nat) (s : State) : State := (cycleBegun ce s).each [0, 1, 2, 3] snapTake

/-- The hardware's checks made. -/
def cycleChecked (osc strap ce : Nat) (s : State) : State := strapCheck strap (oscCheck osc (cycleTaken ce s))

section Cycle
variable {o : BitVec 16} {strap : BitVec 4} {ce : BitVec 8} {dev : List (BitVec 32)}

theorem exec_cycle (s : State) : exec (.sheepdogCycle o strap ce dev) s =
    .next (s.when (s.now % 20000 == 0 && s.get shdCycAt != s.now + 1) fun s =>
      disCheck ((cycleChecked o.toNat strap.toNat ce.toNat s).when ((cycleChecked o.toNat strap.toNat ce.toNat s).flag SHD_STAT_RUN)
        (firmware dev))) := rfl

theorem exec_cycle_due (due : s.now % 20000 = 0) (first : s.get shdCycAt ≠ s.now + 1) : exec (.sheepdogCycle o strap ce dev) s =
    .next (disCheck ((cycleChecked o.toNat strap.toNat ce.toNat s).when ((cycleChecked o.toNat strap.toNat ce.toNat s).flag SHD_STAT_RUN)
      (firmware dev))) := by
  have now : (s.now % 20000 == 0 && s.get shdCycAt != s.now + 1) = true := by
    rw [beq_iff_eq.2 due, bne_iff_ne.2 first]; rfl
  rw [exec_cycle, now, State.when_true]

theorem exec_cycle_none (h : s.now % 20000 ≠ 0 ∨ s.get shdCycAt = s.now + 1) : exec (.sheepdogCycle o strap ce dev) s = .next s := by
  have rests : (s.now % 20000 == 0 && s.get shdCycAt != s.now + 1) = false := by
    rw [Bool.and_eq_false_iff, beq_eq_false_iff_ne, bne_eq_false_iff_eq]; exact h
  rw [exec_cycle, rests, State.when_false]

end Cycle

/-- A field that the checks leave. -/
def CheckLeaves (g : Fld) : Prop := entryKey g.key = false ∧ (∀ f ∈ fwWritten, g.key ≠ f.key) ∧ (∀ f ∈ oscFields, g.key ≠ f.key) ∧
  (∀ f ∈ strapFields, g.key ≠ f.key) ∧ g.key ≠ safStrapRep.key ∧ ∀ n < 4, ∀ f ∈ disFields n, g.key ≠ f.key

theorem CheckLeaves.get (h : CheckLeaves g) (osc strap : Nat) (s : State) : (disCheck (strapCheck strap (oscCheck osc s))).get g = s.get g := by
  obtain ⟨unwritten, ds, own, straps, report, discharge⟩ := h
  have silent := reported_false_of_entryKey_false unwritten
  rw [disCheck_get discharge silent, strapCheck_get silent straps report, oscCheck_get unwritten ds own]

theorem cycleTaken_same (hn : n < 4) (ce : Nat) (s : State) : SnapSame n s (cycleBegun ce s) := by
  have own : ∀ n < 4, ∀ f ∈ [shdCycAt, SHD_CYCLE_COUNT, SHD_STAT_CE], cycleBeside n f.key = false := by decide +kernel
  have here := own n hn
  simp only [List.forall_mem_cons] at here
  obtain ⟨at_, count, ce, -⟩ := here
  exact ((SnapSame.set (fun _ _ => rfl) at_ _).set count _).set ce _

/-- What the snapshots leave beside what they write. -/
theorem cycleTaken_get (words : ∀ n < 4, ∀ w < 16, g.key ≠ (SHD_SNAP_n_w_W n w).key) (seen : ∀ n < 4, g.key ≠ (posMismSeen n).key) (ce : Nat)
    (s : State) : (cycleTaken ce s).get g = (cycleBegun ce s).get g :=
  holds_each (P := fun t => t.get g = (cycleBegun ce s).get g) rfl fun n hn t h =>
    (snapTake_get (words n (mem_stalls.1 hn)) (seen n (mem_stalls.1 hn)) t).trans h

/-- The registers of the cycle after its checks: its count, its errors, the oscillator's count, the straps and the snapshots. -/
theorem cycleChecked_reads {osc strap ce : Nat} (hosc : osc < 2 ^ 16) (hstrap : strap < 16) (s : State) :
    (disCheck (cycleChecked osc strap ce s)).get SHD_CYCLE_COUNT = (s.get SHD_CYCLE_COUNT + 1) % 2 ^ SHD_CYCLE_COUNT.width ∧
    (disCheck (cycleChecked osc strap ce s)).get SHD_STAT_CE = clampU SHD_STAT_CE.width (s.get SHD_STAT_CE + ce) ∧
    (disCheck (cycleChecked osc strap ce s)).get SHD_OSC_COUNT = osc ∧ (disCheck (cycleChecked osc strap ce s)).get SAFETY_STAT_STRAP = strap ∧
    (disCheck (cycleChecked osc strap ce s)).get shdCycAt = s.now + 1 ∧
    ∀ n < 4, ∀ w < 16, (disCheck (cycleChecked osc strap ce s)).get (SHD_SNAP_n_w_W n w) = (snapWords n s).getD w 0 % 2 ^ 32 := by
  have kept : ∀ f ∈ [SHD_CYCLE_COUNT, SHD_STAT_CE, shdCycAt], (disCheck (cycleChecked osc strap ce s)).get f = (cycleBegun ce s).get f := by
    have leaves : ∀ f ∈ [SHD_CYCLE_COUNT, SHD_STAT_CE, shdCycAt], CheckLeaves f := by unfold CheckLeaves; decide +kernel
    have snaps : ∀ f ∈ [SHD_CYCLE_COUNT, SHD_STAT_CE, shdCycAt], (∀ n < 4, ∀ w < 16, f.key ≠ (SHD_SNAP_n_w_W n w).key) ∧
        ∀ n < 4, f.key ≠ (posMismSeen n).key := by decide +kernel
    exact fun f hf => ((leaves f hf).get _ _ _).trans (cycleTaken_get (snaps f hf).1 (snaps f hf).2 ce s)
  simp only [List.forall_mem_cons] at kept
  obtain ⟨count, errors, taken, -⟩ := kept
  refine ⟨?_, ?_, ?_, ?_, ?_, fun n hn w hw => ?_⟩
  · rw [count, cycleBegun, State.addSat, State.get_set_ne _ _ _ _ (by decide), State.get_set_same]
  · rw [errors, cycleBegun, State.addSat, State.get_set_of_lt (clampU_lt _ _), State.get_set_ne _ _ _ _ (by decide), State.get_set_ne _ _ _ _ (by decide)]
  · rw [disCheck_get (by decide +kernel) (by decide), cycleChecked, strapCheck_get (by decide) (by decide) (by decide),
      oscCheck_count, Nat.mod_eq_of_lt hosc]
  · rw [disCheck_get (by decide +kernel) (by decide), cycleChecked, strapCheck_strap, Nat.mod_eq_of_lt hstrap]
  · have small : s.now + 1 < 2 ^ shdCycAt.width := by
      have := State.now_lt s
      simp only [shdCycAt, ix]; omega
    rw [taken, cycleBegun, State.addSat, State.get_set_ne _ _ _ _ (by decide), State.get_set_ne _ _ _ _ (by decide), State.get_set_of_lt small]
  · have leaves : ∀ n < 4, ∀ w < 16, CheckLeaves (SHD_SNAP_n_w_W n w) := by unfold CheckLeaves; decide +kernel
    exact ((leaves n hn w hw).get _ _ _).trans (snapshots_read hn hw (cycleTaken_same hn ce s))

/-- No cycle of the hardware alone starts the firmware. -/
theorem cycleChecked_run {osc strap ce : Nat} (stopped : s.get SHD_STAT_RUN = 0) : (cycleChecked osc strap ce s).flag SHD_STAT_RUN = false := by
  rw [flag_eq_false_iff, cycleChecked, strapCheck_get (by decide) (by decide) (by decide), oscCheck_get (by decide +kernel) (by decide) (by decide),
    cycleTaken_get (by decide +kernel) (by decide), cycleBegun, State.addSat, State.get_set_ne _ _ _ _ (by decide),
    State.get_set_ne _ _ _ _ (by decide), State.get_set_ne _ _ _ _ (by decide), stopped]

/-! ### The checks case by case (R306, R336, R339) -/

theorem oscBad_iff : oscBad osc = true ↔ osc < 720 ∨ 880 < osc := by
  rw [oscBad, Bool.or_eq_true, decide_eq_true_eq, decide_eq_true_eq]

theorem oscCheck_within (low : 720 ≤ osc) (high : osc ≤ 880) : oscCheck osc s = ((s.set SHD_OSC_COUNT osc).set SHD_STAT_OSC_ERR 0).set oscRun 0 :=
  oscCheck_good (Bool.eq_false_iff.2 fun h => by have := oscBad_iff.1 h; omega)

section Bad
variable (bad : osc < 720 ∨ 880 < osc)
include bad

theorem oscCheck_first (run : s.get oscRun = 0) : oscCheck osc s = ((s.set SHD_OSC_COUNT osc).set SHD_STAT_OSC_ERR 1).set oscRun 1 := by
  rw [oscCheck_bad (oscBad_iff.2 bad), run]
  exact State.when_false _ _

theorem oscCheck_second (run : s.get oscRun = 1) : oscCheck osc s =
    raiseFault 0x0602 .deviceSafe (((s.set SHD_OSC_COUNT osc).set SHD_STAT_OSC_ERR 1).set oscRun 2) := by
  rw [oscCheck_bad (oscBad_iff.2 bad), run]
  exact State.when_true _ _

theorem oscCheck_later (run : 2 ≤ s.get oscRun) : oscCheck osc s = ((s.set SHD_OSC_COUNT osc).set SHD_STAT_OSC_ERR 1).set oscRun 3 := by
  have full : min 3 (s.get oscRun + 1) = 3 := by omega
  rw [oscCheck_bad (oscBad_iff.2 bad), full]
  exact State.when_false _ _

end Bad

section Straps
variable (hk : k < 16)
include hk

theorem sealStraps_none (h : s.get SAFETY_SEAL_CMD_STATUS ≠ stBusy ∨ k = 10) : strapNoted k s = s.set SAFETY_STAT_STRAP k := by
  have rests : ((s.set SAFETY_STAT_STRAP k).busy sealCmdReg && (s.set SAFETY_STAT_STRAP k).get SAFETY_STAT_STRAP != 10) = false := by
    rw [State.get_set_of_lt (f := SAFETY_STAT_STRAP) hk, Bool.and_eq_false_iff, State.busy, beq_eq_false_iff_ne, bne_eq_false_iff_eq,
      State.get_set_ne _ _ _ _ (by decide)]
    exact h
  rw [strapNoted, sealStraps, rests, State.when_false]

theorem sealStraps_ends (busy : s.get SAFETY_SEAL_CMD_STATUS = stBusy) (left : k ≠ 10) :
    strapNoted k s = sealFails 6 (s.set SAFETY_STAT_STRAP k) := by
  have ends : ((s.set SAFETY_STAT_STRAP k).busy sealCmdReg && (s.set SAFETY_STAT_STRAP k).get SAFETY_STAT_STRAP != 10) = true := by
    rw [State.get_set_of_lt (f := SAFETY_STAT_STRAP) hk, Bool.and_eq_true, State.busy, beq_iff_eq, bne_iff_ne, State.get_set_ne _ _ _ _ (by decide)]
    exact ⟨busy, left⟩
  rw [strapNoted, sealStraps, ends, State.when_true]

end Straps

theorem sealFails_reads {e : Nat} (fits : e < 2 ^ SAFETY_SEAL_STAT_ERR.width) (s : State) : (sealFails e s).get SAFETY_SEAL_CMD_STATUS = stFailed ∧
    (sealFails e s).get SAFETY_SEAL_STAT_ERR = e ∧ (sealFails e s).mem = s.mem := by
  refine ⟨State.get_set_of_lt (by decide) _, ?_, rfl⟩
  have ended : (sealFails e s).get SAFETY_SEAL_STAT_ERR =
      ((s.set SAFETY_SEAL_STAT_ERR e).set SAFETY_SEAL_STAT_WORD (Config.fresh s.freeCount).toNat).get SAFETY_SEAL_STAT_ERR :=
    State.get_set_ne _ _ _ _ (by decide)
  rw [ended, State.get_set_ne _ _ _ _ (by decide)]
  exact State.get_set_of_lt fits s

theorem strapNoted_report (f : Fld) (hf : f ∈ [safBooted, safStrapRep, SAFETY_STAT_STRAP_BOOT]) : (strapNoted k s).get f = s.get f :=
  strapNoted_get (by revert f; decide) k s

/-- A code is reported once the straps are booted, and only when it is new. -/
theorem strapCheck_known (h : s.get safBooted = 0 ∨ s.get safStrapRep = k) : strapCheck k s = strapNoted k s := by
  rw [strapCheck_eq, if_neg]
  rw [flag_eq_true_iff, strapNoted_report _ (by simp), strapNoted_report _ (by simp)]
  exact not_and_or.2 (h.imp not_not.2 not_not.2)

theorem strapCheck_new (booted : s.get safBooted ≠ 0) (new : s.get safStrapRep ≠ k) : strapCheck k s =
    ((strapNoted k s).set safStrapRep k).when (k != s.get SAFETY_STAT_STRAP_BOOT) (raiseFault 0x0608 .ride) := by
  rw [strapCheck_eq, if_pos, State.get_set_ne _ _ _ _ (by decide), strapNoted_report _ (by simp)]
  rw [flag_eq_true_iff, strapNoted_report _ (by simp), strapNoted_report _ (by simp)]
  exact ⟨booted, new⟩

/-! ### The watchdog (R306) -/

/-- A kick's value shown, and its bus access answered. -/
def kickShown (v : Nat) (s : State) : State := busOk (s.set SAFETY_WD_KICK_KICK v)

/-- Whether a kick `us` microseconds after the last one fits the token and the window. -/
def KickFits (us v : Nat) (s : State) : Prop :=
  v + s.get SAFETY_WD_KICK_TOKEN = 65535 ∧ bits (sealed 4 s) 0 16 ≤ us ∧ us ≤ bits (sealed 4 s) 16 16

/-- An accepted kick. -/
def kickTaken (us v : Nat) (s : State) : State :=
  (((kickShown v s).set SAFETY_WD_STAT_LAST us).set SAFETY_WD_KICK_TOKEN (nextToken (s.get SAFETY_WD_KICK_TOKEN) (kickShown v s))).draw.set shdKickAt
    (s.now + 1)

section Kick
variable {us v : BitVec 16}

theorem exec_kick_fits (fits : KickFits us.toNat v.toNat s) : exec (.kick us v) s = .next (kickTaken us.toNat v.toNat s) :=
  congrArg Host.Outcome.next (if_pos fits)

theorem exec_kick_wrong (wrong : ¬KickFits us.toNat v.toNat s) : exec (.kick us v) s = .next (shdWdFail (kickShown v.toNat s)) :=
  congrArg Host.Outcome.next (if_neg wrong)

theorem exec_watchdogExpiry (s : State) : exec .watchdogExpiry s =
    .next (s.when (s.flag SHD_STAT_RUN && s.flag shdKickAt) fun s => shdWdFail (s.set shdKickAt 0)) := rfl

end Kick

/-- The next token is another one. -/
theorem nextToken_ne {t : Nat} (_ : t < 65536) (s : State) : nextToken t s ≠ t ∧ nextToken t s < 65536 := by
  unfold nextToken; omega

theorem kickTaken_reads {us v : Nat} (hus : us < 65536) (hv : v < 65536) (s : State) : (kickTaken us v s).get SAFETY_WD_STAT_LAST = us ∧
    (kickTaken us v s).get SAFETY_WD_KICK_TOKEN ≠ s.get SAFETY_WD_KICK_TOKEN ∧ (kickTaken us v s).get SAFETY_WD_KICK_KICK = v ∧
    (kickTaken us v s).get shdKickAt = s.now + 1 ∧ (kickTaken us v s).get SAFETY_STAT_DS = s.get SAFETY_STAT_DS := by
  have kept : ∀ f : Fld, f.key ≠ shdKickAt.key → (kickTaken us v s).get f = (((kickShown v s).set SAFETY_WD_STAT_LAST us).set SAFETY_WD_KICK_TOKEN
      (nextToken (s.get SAFETY_WD_KICK_TOKEN) (kickShown v s))).get f := fun f h => State.get_set_ne _ _ _ _ h
  obtain ⟨other, small⟩ := nextToken_ne (State.get_lt s SAFETY_WD_KICK_TOKEN) (kickShown v s)
  refine ⟨?_, ?_, ?_, ?_, ?_⟩
  · rw [kept _ (by decide), State.get_set_ne _ _ _ _ (by decide), State.get_set_of_lt (f := SAFETY_WD_STAT_LAST) hus]
  · rw [kept _ (by decide), State.get_set_of_lt (f := SAFETY_WD_KICK_TOKEN) small]
    exact other
  · rw [kept _ (by decide), State.get_set_ne _ _ _ _ (by decide), State.get_set_ne _ _ _ _ (by decide), kickShown, State.get_busOk,
      State.get_set_of_lt (f := SAFETY_WD_KICK_KICK) hv]
  · have := State.now_lt s
    exact State.get_set_of_lt (by simp only [shdKickAt, ix]; omega) _
  · rw [kept _ (by decide), State.get_set_ne _ _ _ _ (by decide), State.get_set_ne _ _ _ _ (by decide), kickShown, State.get_busOk,
      State.get_set_ne _ _ _ _ (by decide)]

theorem shdWdFail_eq (s : State) : shdWdFail s = (raiseFault 0x0601 .deviceSafe s).when (bitAt (sealed 5 (raiseFault 0x0601 .deviceSafe s)) 0)
    (deviceReset 3 0) := rfl

end Checks
end Sys2Proof.Machine
end

section
/-!
One cycle of the Sheepdog and its watchdog: O41.
-/

namespace Sys2Proof.Machine
open Reg

/-- Settles O41: the cycle by what its checks leave of the snapshots, the checks and the kicks case by case. -/
theorem sheepdogCycleAndKick : Obligations.SheepdogCycleAndKick := by
  refine ⟨fun o strap ce dev s due first stopped => ?cycle, fun o strap ce dev s => exec_cycle_none, fun o strap ce dev s due first => ?firmware,
    fun osc s => ⟨oscCheck_within, oscCheck_first, oscCheck_second, oscCheck_later⟩, fun k s hk => ?straps, fun us v s sum open_ close => ?kick,
    fun us v s wrong => ?wrong, fun s => ⟨fun run window => ?expired, fun none => ?unexpired⟩, fun s => ⟨fun keeps => ?keeps, fun resets => ?resets⟩⟩
  case cycle =>
    obtain ⟨count, errors, osc, straps, taken, snaps⟩ := cycleChecked_reads o.isLt strap.isLt (ce := ce.toNat) s
    refine ⟨_, ?_, count, errors, osc, straps, taken, snaps⟩
    rw [exec_cycle_due due first, cycleChecked_run stopped, State.when_false]
  case firmware =>
    exact (exec_cycle_due due first).trans (congrArg (fun t => Host.Outcome.next (disCheck t)) (State.when_eq_ite (flag_eq_true_iff _ _)))
  case straps =>
    refine ⟨sealStraps_none hk, fun busy left => ?_, strapCheck_known, fun booted new differs => ?_, fun booted new same => ?_⟩
    · obtain ⟨status, err, mem⟩ := sealFails_reads (e := 6) (by decide) (s.set SAFETY_STAT_STRAP k)
      rw [← sealStraps_ends hk busy left] at status err mem
      exact ⟨status, err, mem⟩
    · rw [strapCheck_new booted new, bne_iff_ne.2 differs, State.when_true]; rfl
    · rw [strapCheck_new booted new, bne_eq_false_iff_eq.2 same, State.when_false]; rfl
  case kick =>
    obtain ⟨last, token, shown, time, ds⟩ := kickTaken_reads us.isLt v.isLt s
    exact ⟨_, exec_kick_fits ⟨sum, open_, close⟩, last, token, shown, time, rfl, rfl, ds⟩
  case wrong =>
    exact exec_kick_wrong fun ⟨sum, open_, close⟩ => by omega
  case expired => rw [exec_watchdogExpiry, (flag_eq_true_iff _ _).2 run, (flag_eq_true_iff _ _).2 window, Bool.and_true, State.when_true]
  case unexpired =>
    rw [exec_watchdogExpiry, Bool.and_eq_false_iff.2 (none.imp (flag_eq_false_iff _ _).2 (flag_eq_false_iff _ _).2), State.when_false]
  case keeps => rw [shdWdFail_eq, keeps, State.when_false]
  case resets => rw [shdWdFail_eq, resets, State.when_true]

end Sys2Proof.Machine
end

section
/-!
SUPPORT. What the output stage writes to memory (R228 to R232, R275, R383): nothing, but for the records of the lines that the interlock suppresses.
-/

namespace Sys2Proof.Machine
open Reg

section OutputMemory
variable {n i k a b t want : Nat} {on : Bool} {s : State}

theorem State.each_mem {l : List Nat} {F : Nat → State → State} (h : ∀ i s, (F i s).mem = s.mem) (s : State) : (s.each l F).mem = s.mem :=
  holds_each (P := fun t => t.mem = s.mem) rfl fun i _ t ht => (h i t).trans ht

theorem reinEdge_mem (l kind t : Nat) (s : State) : (reinEdge l kind t s).mem = s.mem := by
  unfold reinEdge
  dsimp only
  rw [State.when_mem, State.set_mem, State.set_mem, State.each_mem, State.when_mem]
  · rw [State.inc, State.addSat, State.set_mem]
  · exact fun _ _ => by rw [State.set_mem, State.set_mem]
  · rw [State.set_mem, State.set_mem]

theorem setLine_mem (n i t : Nat) (on : Bool) (s : State) : (setLine n i t on s).mem = s.mem := by
  have edge : ∀ kind, (reinEdge (3 * n + i / 2) kind t (s.setBit (PWM_LINES_LINE n) i on)).mem = s.mem := fun _ => reinEdge_mem _ _ _ _
  unfold setLine
  exact holds_ite (P := fun u => u.mem = s.mem) rfl (holds_ite (P := fun u => u.mem = s.mem) (edge _) (edge _))

theorem turnOn_mem (n i p t : Nat) (s : State) : (turnOn n i p t s).mem = s.mem :=
  holds_when (P := fun u => u.mem = s.mem) rfl fun _ => setLine_mem _ _ _ _ _

theorem turnOff_mem (n i t : Nat) (s : State) : (turnOff n i t s).mem = s.mem := setLine_mem n i t false s

theorem callOn_mem (n i t : Nat) (s : State) : (callOn n i t s).mem = s.mem := State.when_mem rfl _

/-- Whether line `i` may be on: it is called on and not suppressed. -/
def stageLive (n want i : Nat) (s : State) : Bool := bitAt want i && !bitAt (s.get (pwmSup n)) i

theorem stageHalf_eq (n t want k : Nat) (s : State) : stageHalf n t want k s =
    if stageLive n want (2 * k) (stageCalled n t want k s) && stageLive n want (2 * k + 1) (stageCalled n t want k s) then
      shoot n (2 * k) (2 * k + 1) t (stageCalled n t want k s)
    else if stageLive n want (2 * k) (stageCalled n t want k s) then turnOn n (2 * k) (2 * k + 1) t (stageCalled n t want k s)
    else if stageLive n want (2 * k + 1) (stageCalled n t want k s) then turnOn n (2 * k + 1) (2 * k) t (stageCalled n t want k s)
    else stageCalled n t want k s := rfl

theorem stageCalled_mem (n t want k : Nat) (s : State) : (stageCalled n t want k s).mem = s.mem :=
  holds_each (P := fun u => u.mem = s.mem) rfl fun i _ u h =>
    holds_ite (P := fun u => u.mem = s.mem) ((callOn_mem n i t u).trans h) ((turnOff_mem n i t u).trans h)

/-- A half-bridge of which one line is called off suppresses none. -/
theorem stageHalf_mem (off : bitAt want (2 * k) = false) (s : State) : (stageHalf n t want k s).mem = s.mem := by
  have dead : stageLive n want (2 * k) (stageCalled n t want k s) = false := by rw [stageLive, off, Bool.false_and]
  rw [stageHalf_eq, dead, Bool.false_and, if_neg Bool.false_ne_true, if_neg Bool.false_ne_true]
  exact holds_ite (P := fun u => u.mem = s.mem) ((turnOn_mem _ _ _ _ _).trans (stageCalled_mem _ _ _ _ _)) (stageCalled_mem _ _ _ _ _)

/-- A Stall that is off suppresses none. -/
theorem stoStall_mem (hn : n < 4) (off : s.get (PWM_STAT_STATE n) = 0) : (stoStall n s).mem = s.mem := by
  have apart : ∀ n < 4, (PWM_STAT_STATE n).key ≠ (PROT_STAT_STO n).key := by decide
  have idle : wantedLines n (s.setB (PROT_STAT_STO n) (stoMapped n s)) = 0 := by
    have here := (State.get_setB_ne (apart n hn) s (stoMapped n s)).trans off
    rw [wantedLines_eq, rankedLines_zero (.inr (.inr (.inr (.inl here)))), Nat.zero_and]
  unfold stoStall refreshLines
  rw [idle]
  refine holds_each (P := fun u => u.mem = s.mem) rfl fun k _ u h => (stageHalf_mem ?_ u).trans h
  rw [bitAt_eq_testBit, Nat.zero_testBit]

theorem auxLine_mem (k t : Nat) (s : State) : (auxLine k t s).mem = s.mem := by
  have edge : ∀ kind on, (reinEdge (12 + k) kind t (s.setB (AUX_Ak_STAT_LINE k) on)).mem = s.mem := fun _ _ => reinEdge_mem _ _ _ _
  unfold auxLine
  exact holds_ite (P := fun u => u.mem = s.mem) rfl (holds_ite (P := fun u => u.mem = s.mem) (edge _ _) (edge _ _))

/-- Both lines of the first half-bridge called on, the second on already: the interlock suppresses the first. -/
theorem stageHalf_suppresses (called : want = 3) (line : s.get (PWM_LINES_LINE 0) = 2) (sup : s.get (pwmSup 0) = 0)
    (first : s.get (pwmReqAt 0 0) = 0) (second : s.get (pwmReqAt 0 1) = 0) (t : Nat) :
    (stageHalf 0 t want 0 s).mem = (suppress 0 0 (s.set (pwmReqAt 0 0) (t + 1))).mem := by
  subst called
  have call0 : callOn 0 0 t s = s.set (pwmReqAt 0 0) (t + 1) := by rw [callOn, first, line]; rfl
  have call1 : callOn 0 1 t (s.set (pwmReqAt 0 0) (t + 1)) = s.set (pwmReqAt 0 0) (t + 1) := by
    have already : bitAt 2 1 = true := rfl
    rw [callOn, State.get_set_ne _ _ _ _ (show (PWM_LINES_LINE 0).key ≠ _ by decide), line, already, Bool.not_true, Bool.and_false, State.when_false]
  have both : stageCalled 0 t 3 0 s = s.set (pwmReqAt 0 0) (t + 1) := (congrArg (callOn 0 1 t) call0).trans call1
  have live : ∀ i < 2, stageLive 0 3 i (s.set (pwmReqAt 0 0) (t + 1)) = true := by
    intro i hi
    rw [stageLive, State.get_set_ne _ _ _ _ (by decide), sup]
    revert i; decide
  rw [stageHalf_eq, both, live 0 (by decide), live (2 * 0 + 1) (by decide), Bool.and_self, if_pos rfl]
  have earlier : ¬((s.set (pwmReqAt 0 0) (t + 1)).get (pwmReqAt 0 0) ≠ 0 ∧ (s.set (pwmReqAt 0 0) (t + 1)).get (pwmReqAt 0 1) ≠ 0 ∧
      ((s.set (pwmReqAt 0 0) (t + 1)).get (pwmReqAt 0 0) - 1) / 64 = ((s.set (pwmReqAt 0 0) (t + 1)).get (pwmReqAt 0 1) - 1) / 64) := by
    rw [State.get_set_ne _ (pwmReqAt 0 0) (pwmReqAt 0 1) _ (by decide), second]
    exact fun h => h.2.1 rfl
  unfold shoot
  dsimp only
  rw [if_neg earlier, State.get_set_ne _ _ (PWM_LINES_LINE 0) _ (by decide), line, if_pos (by rfl), turnOn_mem]

end OutputMemory
end Sys2Proof.Machine
end

section
/-!
SUPPORT. The Logbook's record of a fault code (R381 to R385): where it is staged, and what an event without a record leaves.
-/

namespace Sys2Proof.Machine
open Reg

section Staging
variable {s : State} {l : List (Fld × Nat)}

/-- `s` reads as the list says. -/
def Shows (l : List (Fld × Nat)) (s : State) : Prop := ∀ p ∈ l, s.get p.1 = p.2

theorem Shows.set {f : Fld} (h : Shows l s) (apart : ∀ p ∈ l, p.1.key ≠ f.key) (v : Nat) : Shows l (s.set f v) := fun p hp =>
  (State.get_set_ne _ _ _ _ (apart p hp)).trans (h p hp)

/-! ### Events without a record -/

theorem routeEvent_mem (e : Nat) (s : State) : (routeEvent e s).mem = s.mem := by
  have pend : ∀ lo hi line s, (pendLine lo hi line s).mem = s.mem := fun lo hi line s => holds_ite (P := fun t => t.mem = s.mem) rfl rfl
  unfold routeEvent
  refine holds_ite (P := fun t => t.mem = s.mem) rfl ?_
  dsimp only
  rw [State.when_mem, State.when_mem, State.when_mem]
  · exact pend _ _ _ _
  · rw [State.setBit, State.set_mem]
  · exact pend _ _ _ _

/-- An event that is neither recorded nor a trigger. -/
theorem raiseEvent_unrecorded (records : s.get LOGBOOK_CTRL_EVENT = 0) (triggers : s.get LOGBOOK_TRIG_CFG_EVT_EN = 0) (e : Nat) :
    raiseEvent e s = routeEvent e s := by
  have routed := Reports.routeEvent (e := e) (Reports.refl s)
  have silent : (routeEvent e s).flag LOGBOOK_CTRL_EVENT = false := (flag_eq_false_iff _ _).2 ((routed.get _ (by decide)).trans records)
  have untaken : eventTrigs e (routeEvent e s) = false := by
    rw [eventTrigs, (flag_eq_false_iff _ _).2 ((routed.get LOGBOOK_TRIG_CFG_EVT_EN (by decide)).trans triggers), Bool.false_and]
  have told : reportEvent e s = (false, routeEvent e s) := if_neg (by rw [silent]; exact Bool.false_ne_true)
  have one : reportOne (.event e) s = ([], routeEvent e s) := by
    unfold reportOne
    simp only [told, untaken, Bool.false_and, State.when_false]; rfl
  rw [raiseEvent, reports, one]; rfl

theorem raiseEvent_mem (records : s.get LOGBOOK_CTRL_EVENT = 0) (triggers : s.get LOGBOOK_TRIG_CFG_EVT_EN = 0) (e : Nat) :
    (raiseEvent e s).mem = s.mem := by
  rw [raiseEvent_unrecorded records triggers, routeEvent_mem]

/-! ### The first record of cask 0 -/

/-- A Logbook that captures faults and no events, with cask 0 empty as its one staging cask; a Ledger that is not loaded; and event 0x43 on no line. -/
def stagesFirst : List (Fld × Nat) :=
  [(LOGBOOK_CTRL_EN, 1), (PORTER_PART_LOG, 1), (LOGBOOK_STAT_STATE, 1), (LOGBOOK_CTRL_FAULT, 1), (LOGBOOK_CTRL_EVENT, 0), (LOGBOOK_TRIG_CFG_EVT_EN, 0),
    (LOGBOOK_TRIG_CFG_CLASS, 6), (LEDGER_STAT_LOADED, 0), (cfgMask, 0), (bistMask, 0), (logDropRun, 0), (logVirt, 0), (logCask 0, 1), (logCask 1, 0),
    (logFill 0, 0), (SYS_EVT_ROUTE_e_YOKE_EN 0x43, 0), (SYS_EVT_ROUTE_e_SHD_EN 0x43, 0), (SYS_EVT_ROUTE_e_INN_EN 0x43, 0)]

/-- The first byte of a record's header is its type. -/
theorem logHeader_type (typ len src sub at_ : Nat) (s : State) : ∃ r, logHeader s typ len src sub at_ = BitVec.ofNat 8 typ :: r := by
  have low : BitVec.ofNat 8 (typ + 2 ^ 8 * len + 2 ^ 16 * src + 2 ^ 20 * sub + 2 ^ 24 * (s.get LOGBOOK_SEQ_SEQ % 256)) = BitVec.ofNat 8 typ := by
    apply BitVec.eq_of_toNat_eq
    simp only [BitVec.toNat_ofNat]
    omega
  exact ⟨_, congrArg (· :: _) low⟩

theorem byteAt_of_mem {s t : State} (h : t.mem = s.mem) (a : Nat) : t.byteAt a = s.byteAt a := congrArg (memGet a) h

theorem byteAt_putBytes_head (s : State) (a : Nat) (b : Byte) (l : List Byte) : (s.putBytes a (b :: l)).byteAt a = b :=
  State.byteAt_putBytes_in s a (i := 0) (by simp)

/-- A record without a gap before it goes where it is placed. -/
theorem logRecord_placed {t : State} {typ len src sub at_ : Nat} {body : List Byte} (on : logOn s = true) (present : isolated src s = false)
    (run : s.get logDropRun = 0) (place : logPlace typ len src sub at_ body s = some t) : logRecord typ len src sub at_ body s = (false, t) := by
  unfold logRecord
  rw [if_pos (by rw [on, present, Bool.and_false]; rfl)]
  dsimp only
  rw [if_pos run, Option.bind_some, place]

section First
variable (h : Shows stagesFirst s)
include h

theorem logRoom_first : logRoom 16 s = some (0, s) := by
  simp only [Shows, stagesFirst, List.forall_mem_cons] at h
  obtain ⟨-, -, -, -, -, -, -, -, -, -, -, -, cask, next, fill, -⟩ := h
  have free : firstBelow 1024 (fun i => s.get (logCask i) == 0) = some 1 :=
    firstBelow_eq_some (by decide) (beq_iff_eq.2 next) fun j hj => by rw [Nat.lt_one_iff.1 hj, cask]; rfl
  have one : logCasks s = 1 := congrArg (Option.getD · 1024) free
  have room : 0 < 1 ∧ s.get (logFill (1 - 1)) + 16 ≤ 4096 := ⟨Nat.one_pos, by rw [fill]; decide⟩
  rw [logRoom, one, if_pos room]

/-- A record of two units goes to the start of the cask. -/
theorem logPut_first (typ src sub at_ : Nat) (body : List Byte) : ∃ t, logPut typ 2 src sub at_ body s = some t ∧
    t.byteAt 0x20000000 = BitVec.ofNat 8 typ := by
  have facts := h
  simp only [Shows, stagesFirst, List.forall_mem_cons] at facts
  obtain ⟨-, -, -, -, -, -, -, -, -, -, -, -, cask, -, fill, -⟩ := facts
  unfold logPut
  rw [logRoom_first h]
  obtain ⟨r, type⟩ := logHeader_type typ 2 src sub at_ s
  refine ⟨_, rfl, ?_⟩
  unfold State.byteAt
  rw [State.set_mem, State.set_mem, State.when_mem, State.inc, State.addSat, State.set_mem, State.addSat, State.set_mem, cask, fill, type]
  · exact byteAt_putBytes_head s 0x20000000 _ _
  · rw [State.set_mem, State.setWide, State.set_mem, State.set_mem]

theorem logOn_first : logOn s = true := by
  simp only [Shows, stagesFirst, List.forall_mem_cons] at h
  obtain ⟨enabled, ring, captures, -⟩ := h
  rw [logOn, State.flag, State.flag, enabled, ring, captures]; rfl

theorem logPlace_first (typ src sub at_ : Nat) (body : List Byte) : logPlace typ 2 src sub at_ body s = logPut typ 2 src sub at_ body s := by
  simp only [Shows, stagesFirst, List.forall_mem_cons] at h
  obtain ⟨-, ring, -, -, -, -, -, -, -, -, -, virt, -⟩ := h
  have room : ¬ringSize s - s.get logVirt < 8 * 2 := by rw [ringSize, ring, virt]; norm_num
  unfold logPlace
  dsimp only
  rw [if_neg room]

theorem logRecord_first (typ at_ : Nat) (body : List Byte) (hb : body.length ≤ 4096) : ∃ t, logRecord typ 2 0 0 at_ body s = (false, t) ∧
    t.byteAt 0x20000000 = BitVec.ofNat 8 typ ∧ Reports s t := by
  obtain ⟨t, put, byte⟩ := logPut_first h typ 0 0 at_ body
  have place := (logPlace_first h typ 0 0 at_ body).trans put
  have on := logOn_first h
  simp only [Shows, stagesFirst, List.forall_mem_cons] at h
  obtain ⟨-, -, -, -, -, -, -, -, cfg, bist, run, -⟩ := h
  have present : isolated 0 s = false := by rw [isolated, cfg, bist]; rfl
  exact ⟨t, logRecord_placed on present run place, byte, Reports.logPut (Reports.refl s) (by decide) hb put⟩

theorem recordFault_first {code : Nat} (stall : codeSrc code = 0) (none : s.faultHeld = []) :
    (recordFault code .ride s).byteAt 0x20000000 = 4 := by
  have facts := h
  simp only [Shows, stagesFirst, List.forall_mem_cons] at facts
  obtain ⟨-, -, -, faults, -, -, cls, loaded, -⟩ := facts
  have entry : faultEntry code 0 s = { s with faultHeld := [(code, 0)] } := by
    rw [faultEntry, (flag_eq_false_iff _ _).2 loaded, none]; rfl
  obtain ⟨t, recorded, byte, told⟩ := logRecord_first (s := { s with faultHeld := [(code, 0)] }) h 4 s.now (toBytes 4 (code + 2 ^ 16 * 0))
    (by simp [toBytes])
  have fault : reportFault code 0 s = (false, t) := by
    rw [reportFault, entry]
    refine (if_pos ?_).trans ?_
    · exact (flag_eq_true_iff _ _).2 (faults.trans_ne (by decide))
    · rw [stall]; exact recorded
  have untaken : codeTrigs 0 t = false := by
    rw [codeTrigs, told.get _ (by decide)]
    exact congrArg (bitAt · 0) cls
  have kept : ledLoses code s = false := by rw [ledLoses, (flag_eq_false_iff _ _).2 loaded, Bool.false_and, Bool.false_and, Bool.false_and]
  have one : reportOne (.fault code 0) s = ([], t) := by
    unfold reportOne
    simp only [fault, untaken, kept, Bool.false_and, State.when_false]; rfl
  have all : recordFault code .ride s = t := by rw [recordFault, clsNum, reports, one]; rfl
  rw [all, byte]; rfl

end First
end Staging
end Sys2Proof.Machine
end

section
/-!
The sealed block: O45. The commit loads the sealed maps of the STO inputs, and with them every Stall's lines are called anew: a line that the
interlock suppresses there leaves a record in a cask of the Logbook, so the commit does not leave every byte beside the seal word.
-/

namespace Sys2Proof.Machine
open Reg

/-! ### A suppressed line is recorded -/

/-- Stall 0 runs with both lines of its first half-bridge called on and the second on already; no hold acts, and the other Stalls are off. -/
def callsBoth : List (Fld × Nat) :=
  [(PWM_STAT_STATE 0, 2), (pwmPinHigh 0, 1), (PROT_STAT_SHD 0, 0), (PWM_TRIP_STAT_FORCE 0, 0), (pwmHold 0, 0), (PWM_LINES_CMD 0, 3), (pwmRemoved 0, 0),
    (pwmBridged 0, 0), (PWM_LINES_LINE 0, 2), (REIN_Lh_STAT_STATE 0, 3), (REIN_Lh_STAT_STATE 1, 0), (REIN_Lh_STAT_STATE 2, 0), (pwmSup 0, 0),
    (pwmReqAt 0 0, 0), (pwmReqAt 0 1, 0), (safStoHeld, 0), (PWM_STAT_STATE 1, 0), (PWM_STAT_STATE 2, 0), (PWM_STAT_STATE 3, 0)]

section Suppressed
variable {s : State}

theorem each_three (a b c : Nat) (F : Nat → State → State) (s : State) : s.each [a, b, c] F = F c (F b (F a s)) := rfl

theorem stoStalls_eq (s : State) : stoStalls s = stoStall 3 (stoStall 2 (stoStall 1 (stoStall 0 s))) := by
  simp only [stoStalls, State.each, List.foldl_cons, List.foldl_nil]

theorem routeEvent_unrouted {e : Nat} (yoke : s.get (SYS_EVT_ROUTE_e_YOKE_EN e) = 0) (shd : s.get (SYS_EVT_ROUTE_e_SHD_EN e) = 0)
    (inn : s.get (SYS_EVT_ROUTE_e_INN_EN e) = 0) : routeEvent e s = s := by
  unfold routeEvent
  simp only [(flag_eq_false_iff _ _).2 yoke, (flag_eq_false_iff _ _).2 shd, (flag_eq_false_iff _ _).2 inn, State.when_false, ite_self]

/-- The line suppressed and counted. -/
def suppressNoted (s : State) : State :=
  (s.setBit (pwmSup 0) 0 true).set (PWM_SHOOT_STAT_COUNT 0)
    (putBits (s.get (PWM_SHOOT_STAT_COUNT 0)) 0 8 (min 255 (bits (s.get (PWM_SHOOT_STAT_COUNT 0)) 0 8 + 1)))

theorem suppress_noted (s : State) : suppress 0 0 s = recordFault 0x1001 .ride (raiseEvent 0x43 (suppressNoted s)) := rfl

theorem suppress_first (log : Shows stagesFirst s) (none : s.faultHeld = []) : (suppress 0 0 s).byteAt 0x20000000 = 4 := by
  have noted : Shows stagesFirst (suppressNoted s) := (log.set (by decide) _).set (by decide) _
  have facts := noted
  simp only [Shows, stagesFirst, List.forall_mem_cons] at facts
  obtain ⟨-, -, -, -, records, triggers, -, -, -, -, -, -, -, -, -, yoke, shd, inn, -⟩ := facts
  rw [suppress_noted, raiseEvent_unrecorded records triggers, routeEvent_unrouted yoke shd inn]
  exact recordFault_first noted rfl none

theorem wantedLines_both (stage : Shows callsBoth s) (sto : s.get (PROT_STAT_STO 0) = 0) : wantedLines 0 s = 3 := by
  simp only [Shows, callsBoth, List.forall_mem_cons] at stage
  obtain ⟨state, pin, shd, force, hold, cmd, removed, bridged, line, link0, link1, link2, -⟩ := stage
  have ready : readyMask 0 s = 3 := by rw [readyMask_eq, link0, link1, link2]; rfl
  have lines : pwmLines 0 s = 3 := by rw [pwmLines, hold, cmd, removed, bridged, line]; rfl
  have ranked : rankedLines 0 s = 3 := by
    simp only [rankedLines, State.flag, state, pin, sto, shd, force, lines]; rfl
  rw [wantedLines_eq, ranked, ready]; rfl

/-- The holds' stage of Stall 0 suppresses a line and records it. -/
theorem stoStall_records (stage : Shows callsBoth s) (log : Shows stagesFirst s) (none : s.faultHeld = []) :
    (stoStall 0 s).byteAt 0x20000000 = 4 := by
  have facts := stage
  simp only [Shows, callsBoth, List.forall_mem_cons] at facts
  obtain ⟨-, -, -, -, -, -, -, -, -, -, -, -, -, -, -, held, -⟩ := facts
  have unmapped : stoMapped 0 s = false := by rw [stoMapped, held]; rfl
  have here : Shows callsBoth (s.setB (PROT_STAT_STO 0) false) := stage.set (by decide) _
  have wanted := wantedLines_both here (State.get_setB_same rfl s false)
  simp only [Shows, callsBoth, List.forall_mem_cons] at here
  obtain ⟨-, -, -, -, -, -, -, -, line, -, -, -, sup, first, second, -⟩ := here
  have halves : (stoStall 0 s).mem = (suppress 0 0 ((s.setB (PROT_STAT_STO 0) false).set (pwmReqAt 0 0) (s.now * 64 + 1))).mem := by
    rw [stoStall, unmapped, refreshLines, wanted, each_three, stageHalf_mem (by decide), stageHalf_mem (by decide),
      stageHalf_suppresses rfl line sup first second]
  have shown : Shows stagesFirst ((s.setB (PROT_STAT_STO 0) false).set (pwmReqAt 0 0) (s.now * 64 + 1)) := (log.set (by decide) _).set (by decide) _
  exact (byteAt_of_mem halves _).trans (suppress_first shown none)

theorem stoApply_records (stage : Shows callsBoth s) (log : Shows stagesFirst s) (none : s.faultHeld = []) :
    (stoApply s).byteAt 0x20000000 = 4 := by
  have facts := stage
  simp only [Shows, callsBoth, List.forall_mem_cons] at facts
  obtain ⟨-, -, -, -, -, -, -, -, -, -, -, -, -, -, -, -, off1, off2, off3, -⟩ := facts
  have kept : ∀ n < 4, ∀ m < 4, ∀ t : State, (stoStall m t).get (PWM_STAT_STATE n) = t.get (PWM_STAT_STATE n) := fun n hn m hm t => by
    have apart : ∀ n < 4, ∀ m < 4, (PWM_STAT_STATE n).key ≠ (PROT_STAT_STO m).key ∧ lineKey (PWM_STAT_STATE n).key = false := by decide +kernel
    obtain ⟨sto, stage⟩ := apart n hn m hm
    exact stoStall_get sto (fun x u => (refreshLines_keys (by omega) x u).get _ stage) t
  have others : (stoStalls s).mem = (stoStall 0 s).mem := by
    have three : (stoStall 2 (stoStall 1 (stoStall 0 s))).get (PWM_STAT_STATE 3) = 0 := by
      rw [kept 3 (by decide) 2 (by decide), kept 3 (by decide) 1 (by decide), kept 3 (by decide) 0 (by decide), off3]
    have two : (stoStall 1 (stoStall 0 s)).get (PWM_STAT_STATE 2) = 0 := by
      rw [kept 2 (by decide) 1 (by decide), kept 2 (by decide) 0 (by decide), off2]
    have one : (stoStall 0 s).get (PWM_STAT_STATE 1) = 0 := by rw [kept 1 (by decide) 0 (by decide), off1]
    rw [stoStalls_eq, stoStall_mem (by decide) three, stoStall_mem (by decide) two, stoStall_mem (by decide) one]
  have lines : (stoApply s).mem = (stoStall 0 s).mem := by rw [stoApply_eq, auxLine_mem, auxLine_mem, others]
  exact (byteAt_of_mem lines _).trans (stoStall_records stage log none)

end Suppressed

/-! ### The commit (R337) -/

section Commit
variable {g : Fld} {s : State}

theorem sealWrite_get (f : Fld) (s : State) : (sealWrite s).get f = s.get f := State.get_putWord _ _ _ _

theorem sealWrite_faultHeld (s : State) : (sealWrite s).faultHeld = s.faultHeld := by
  unfold sealWrite State.putWord State.putBytes; rfl

/-- The seal word written, and the copy it seals shown. -/
def sealShown (s : State) : State :=
  (((sealWrite s).set SAFETY_STAT_VALID 1).set SAFETY_STAT_COPY (sealTarget s)).set SAFETY_SEQ_SEQ (sealSeq s)

/-- The sealed configuration of the STO inputs and of the device-safe latch taken over. -/
def sealNoted (s : State) : State :=
  (((s.set safDtFloor (sealed 1 s % 256)).set safStoMap (sealed 2 s % 2 ^ 14)).set safStoCfg (bits (sealed 2 s) 24 8 + 256 * bits (sealed 2 s) 16 1)).set
    safDsCfg (sealed 3 s % 2 ^ 24)

/-- The sealed values of Stall `n`, of the image that `s` holds. -/
def sealStall (s : State) (n : Nat) (t : State) : State :=
  dtFloorFlag n ((((t.set (PROT_POL_DWELL n) (bits (sealed (7 + n) s) 8 8)).set (PROT_POL_PREF n) (sealed (7 + n) s % 2)).set (PROT_SPD_HI_SPD n)
    (sealed (11 + n) s)).set (PROT_SPD_LO_SPD n) (sealed (15 + n) s))

theorem sealLoad_eq (s : State) : sealLoad s = (stoApply (sealNoted s)).each [0, 1, 2, 3] (sealStall s) := rfl

/-- The commit before it is reported. -/
def sealEnded (st : Nat) (s : State) : State := ((sealLoad (sealShown s)).inc (LEDGER_LIVE_w_W 69)).cmdEnd sealCmdReg st

theorem sealCommit_eq (st : Nat) (s : State) : sealCommit st s = raiseEvent 0x039 (sealEnded st s) := rfl

theorem sealEnded_mem (st : Nat) (s : State) : (sealEnded st s).mem = (stoApply (sealNoted (sealShown s))).mem := by
  rw [sealEnded, State.cmdEnd, State.set_mem, State.inc, State.addSat, State.set_mem, sealLoad_eq, State.each_mem]
  intro n t
  simp only [sealStall, dtFloorFlag, State.setB, State.set_mem]

/-- The Logbook's switches outlast a commit up to its event. -/
theorem sealEnded_get (hg : g ∈ [LOGBOOK_CTRL_EVENT, LOGBOOK_TRIG_CFG_EVT_EN]) (st : Nat) (s : State) : (sealEnded st s).get g = s.get g := by
  have stalls : ∀ n < 4, ∀ f ∈ [PROT_POL_DWELL n, PROT_POL_PREF n, PROT_SPD_HI_SPD n, PROT_SPD_LO_SPD n, PWM_STAT_DT_FLOOR n],
      ∀ g ∈ [LOGBOOK_CTRL_EVENT, LOGBOOK_TRIG_CFG_EVT_EN], g.key ≠ f.key := by decide
  have own : ∀ f ∈ [SAFETY_SEAL_CMD_STATUS, LEDGER_LIVE_w_W 69, safDtFloor, safStoMap, safStoCfg, safDsCfg, SAFETY_STAT_VALID, SAFETY_STAT_COPY,
      SAFETY_SEQ_SEQ], ∀ g ∈ [LOGBOOK_CTRL_EVENT, LOGBOOK_TRIG_CFG_EVT_EN], g.key ≠ f.key := by decide
  have stage : ∀ g ∈ [LOGBOOK_CTRL_EVENT, LOGBOOK_TRIG_CFG_EVT_EN], lineKey g.key = false ∧ (∀ n < 4, g.key ≠ (PROT_STAT_STO n).key) ∧
      ∀ k < 2, auxLineKey k g.key = false := by decide +kernel
  have loaded : ∀ s : State, (sealLoad s).get g = (stoApply (sealNoted s)).get g := fun s => by
    rw [sealLoad_eq]
    refine holds_each (P := fun t => t.get g = (stoApply (sealNoted s)).get g) rfl fun n hn t h => ?_
    have apart := fun f hf => stalls n (mem_stalls.1 hn) f hf g hg
    simp only [List.forall_mem_cons] at apart
    obtain ⟨dwell, pref, high, low, floor, -⟩ := apart
    unfold sealStall dtFloorFlag
    rw [State.get_setB_ne floor, State.get_set_ne _ _ _ _ low, State.get_set_ne _ _ _ _ high, State.get_set_ne _ _ _ _ pref,
        State.get_set_ne _ _ _ _ dwell, h]
  have apart := fun f hf => own f hf g hg
  simp only [List.forall_mem_cons] at apart
  obtain ⟨status, count, floor, map, cfg, ds, valid, copy, seq, -⟩ := apart
  obtain ⟨line, sto, aux⟩ := stage g hg
  have ended : (sealEnded st s).get g = ((sealLoad (sealShown s)).inc (LEDGER_LIVE_w_W 69)).get g := State.get_set_ne _ _ _ _ status
  rw [ended, State.get_inc_ne count, loaded, stoApply_get line sto aux, sealNoted,
    State.get_set_ne _ _ _ _ ds, State.get_set_ne _ _ _ _ cfg, State.get_set_ne _ _ _ _ map, State.get_set_ne _ _ _ _ floor, sealShown,
    State.get_set_ne _ _ _ _ seq, State.get_set_ne _ _ _ _ copy, State.get_set_ne _ _ _ _ valid, sealWrite_get]

theorem Shows.noted {l : List (Fld × Nat)} (h : Shows l s) (apart : ∀ f ∈ [SAFETY_STAT_VALID, SAFETY_STAT_COPY, SAFETY_SEQ_SEQ, safDtFloor, safStoMap,
    safStoCfg, safDsCfg], ∀ p ∈ l, p.1.key ≠ f.key) : Shows l (sealNoted (sealShown s)) := by
  simp only [List.forall_mem_cons] at apart
  obtain ⟨valid, copy, seq, floor, map, cfg, ds, -⟩ := apart
  have written : Shows l (sealWrite s) := fun p hp => (sealWrite_get _ s).trans (h p hp)
  exact ((((((written.set valid _).set copy _).set seq _).set floor _).set map _).set cfg _).set ds _

/-- A commit that calls both lines of a half-bridge leaves a record. -/
theorem sealEnded_records (stage : Shows callsBoth s) (log : Shows stagesFirst s) (none : s.faultHeld = []) (st : Nat) :
    (sealEnded st s).byteAt 0x20000000 = 4 := by
  have held : (sealNoted (sealShown s)).faultHeld = [] := by
    rw [sealNoted, State.set_faultHeld, State.set_faultHeld, State.set_faultHeld, State.set_faultHeld, sealShown, State.set_faultHeld,
      State.set_faultHeld, State.set_faultHeld, sealWrite_faultHeld, none]
  exact (byteAt_of_mem (sealEnded_mem st s) _).trans (stoApply_records (stage.noted (by decide)) (log.noted (by decide)) held)

theorem exec_evSealDone (good : Bool) (s : State) : exec (.evSealDone good) s =
    .next (s.when (s.busy sealCmdReg) fun s => if good then sealCommit stDone s else sealFails 5 s) := rfl

theorem exec_evSealDone_good (busy : s.get SAFETY_SEAL_CMD_STATUS = stBusy) : exec (.evSealDone true) s = .next (raiseEvent 0x039 (sealEnded stDone s)) := by
  have runs : s.busy sealCmdReg = true := beq_iff_eq.2 busy
  rw [exec_evSealDone, runs, State.when_true]
  exact congrArg Host.Outcome.next ((if_pos rfl).trans (sealCommit_eq _ _))

end Commit

/-- A seal at its end while Stall 0 runs as `callsBoth` has it and the Logbook captures as `stagesFirst` has it. -/
def sealRecords : State :=
  ((((((((((State.reset.set SAFETY_SEAL_CMD_STATUS stBusy).set LOGBOOK_CTRL_EN 1).set PORTER_PART_LOG 1).set LOGBOOK_STAT_STATE 1).set
    LOGBOOK_CTRL_FAULT 1).set (logCask 0) 1).set (PWM_STAT_STATE 0) 2).set (pwmPinHigh 0) 1).set (REIN_Lh_STAT_STATE 0) 3).set
    (PWM_LINES_CMD 0) 3).set (PWM_LINES_LINE 0) 2

/-- Refutes O45: the commit calls the Stalls' lines anew, and a line that the interlock suppresses then leaves the first byte of its `FAULT` record at
0x20000000, a byte that the commit is said to leave. -/
theorem not_sealedBlockChecked : ¬ Obligations.SealedBlockChecked := by
  rintro ⟨-, -, -, commit, -⟩
  have busy : sealRecords.get SAFETY_SEAL_CMD_STATUS = stBusy := by decide +kernel
  have stage : Shows callsBoth sealRecords := by unfold Shows; decide +kernel
  have log : Shows stagesFirst sealRecords := by unfold Shows; decide +kernel
  have quiet : ∀ g ∈ [LOGBOOK_CTRL_EVENT, LOGBOOK_TRIG_CFG_EVT_EN], sealRecords.get g = 0 := by decide +kernel
  have empty : sealRecords.byteAt 0x20000000 = 0 := by decide +kernel
  obtain ⟨-, t, ends, -, -, -, -, -, leaves⟩ := commit sealRecords busy
  rw [exec_evSealDone_good busy] at ends
  have same : raiseEvent 0x039 (sealEnded stDone sealRecords) = raiseEvent 0x039 t := Host.Outcome.next.inj ends
  have ended : ∀ g ∈ [LOGBOOK_CTRL_EVENT, LOGBOOK_TRIG_CFG_EVT_EN], (sealEnded stDone sealRecords).get g = 0 := fun g hg =>
    (sealEnded_get hg _ _).trans (quiet g hg)
  have before : ∀ g ∈ [LOGBOOK_CTRL_EVENT, LOGBOOK_TRIG_CFG_EVT_EN], t.get g = 0 := fun g hg => by
    have silent : ∀ g ∈ [LOGBOOK_CTRL_EVENT, LOGBOOK_TRIG_CFG_EVT_EN], reported (g.key / 32) = false := by decide
    rw [← (raiseEvent_reports 0x039 t).get g (silent g hg), ← same, (raiseEvent_reports _ _).get g (silent g hg), ended g hg]
  simp only [List.forall_mem_cons] at ended before
  have mem : t.mem = (sealEnded stDone sealRecords).mem := by
    rw [← raiseEvent_mem before.1 before.2.1 0x039, ← same, raiseEvent_mem ended.1 ended.2.1]
  have record : t.byteAt 0x20000000 = 4 := (byteAt_of_mem mem _).trans (sealEnded_records stage log rfl stDone)
  have left := leaves 0x20000000 (.inl (by unfold sealBase; omega))
  rw [record, empty] at left
  exact absurd left (by decide)

end Sys2Proof.Machine
end
